-- ==== Sys2Proof/Word.lean ====
section
/-! DEFINITION. The word types of the TM6420: the 48-bit tick, the 20-bit offset-binary code (R5), the 64-bit step word and
ledger line word, channel, stall and unit numbers. -/

namespace Sys2Proof

/-- A tick number: the 48-bit counter of R41, which wraps (R43). -/
abbrev Tick := BitVec 48
/-- A 20-bit offset-binary code; `0x8_0000` is zero of the range (R5, R72). -/
abbrev Code20 := BitVec 20
/-- A 64-bit word: a step, a descriptor, a scratchpad word, a channel mask. -/
abbrev Word64 := BitVec 64
/-- A 48-bit engine register (R286). -/
abbrev Word48 := BitVec 48
/-- A byte of a payload or record. -/
abbrev Byte := BitVec 8
/-- A channel number 0–63. -/
abbrev ChanId := Fin 64
/-- A stall number 0–7. -/
abbrev StallId := Fin 8
/-- A tally unit T0–T15, also an engine register X0–X15, a sample entry or a condition flag. -/
abbrev Idx16 := Fin 16
/-- A window monitor, wait input, loop level, marker bit or jump-ready head. -/
abbrev Idx4 := Fin 4
/-- An engine cycle of a tick, 0–499 (Table 1-3). -/
abbrev Cycle := Fin 500

/-- Zero of the range (R5). -/
def zeroCode : Code20 := 0x80000#20

end Sys2Proof
end

