-- ==== Sys2Proof/Syntax.lean ====
section
/-! DEFINITION. The commands the block takes: one constructor per row of the table of operations and events, with the
operands the row needs. Where a row stands for something the outside does (a reading, a frame, the verdict of a
signature check), the operands carry it (log 6). An operand `cyc` is the engine cycle of the tick at which a request
arrives or a fault is detected (R37, R490). -/

namespace Sys2Proof

/-- The own fields that most step kinds share (Table 8-1). -/
structure StepFields where
  pset  : BitVec 6
  mplan : BitVec 4
  tctl  : BitVec 6
  mark  : BitVec 4
  dwell : BitVec 16
deriving DecidableEq, Repr

/-- What the analog side shows at a commit for the tick that ends: aggregate current in mA (R29), junction
temperatures in 0.1 °C by stall (R112), EVIO land levels, channels with RAIL_LAG, rails out of band (bit 4s + r, Table
3-13), channels with OUT_LIMIT, SENSE_FAR and SHARE in the tick (Table 3-11), the largest share deviations of leaders in 0.1% (R107), monitors (key 4n + m) whose band detector
showed the input inside the band (R218), VBUS in 10 mV, input power in 0.1 W, and the Distributed Clocks system time at the
start of the tick that begins, in ns (R66). -/
structure TickInputs where
  iAgg     : Nat
  tj       : List (Nat × Int)
  evio     : BitVec 16
  railLag  : Word64
  railOut  : BitVec 32
  outLimit : Word64
  senseFar : Word64
  share    : Word64
  shareDev : List (Nat × Int)
  inBand   : List Nat
  vbus     : Nat
  pIn      : Nat
  dc       : Word64
deriving DecidableEq, Repr

/-- What a tick shows when nothing has changed and every quiet flag is clear. -/
def TickInputs.calm : TickInputs :=
  ⟨0, [], 0, 0, 0, 0, 0, 0, [], [], 0, 0, 0⟩

/-- Which word of a tally unit a TALLY_CONFIG_WRITE names (R199). -/
inductive TallyWord where | cfg | ticks | filt | thr
deriving DecidableEq, Repr

/-- One program set and its programs as a package carries it (Table 10-9). -/
structure PackageSet where
  set    : Nat
  urgent : Bool
  progs  : List Nat
  declMax : Nat
deriving DecidableEq, Repr

/-- One program as a package carries it: ID, declared cycles, words. -/
structure PackageProg where
  id     : Nat
  cycles : Nat
  words  : List (BitVec 32)
deriving DecidableEq, Repr

/-- A program package (Table 10-9). -/
structure Package where
  caps     : BitVec 8
  mask     : Word64
  progs    : List PackageProg
  sets     : List PackageSet
deriving DecidableEq, Repr

/-- The flash as the module reads and writes it (R474): the two directory copies, and slots A and B. -/
structure Flash where
  dirs  : List (List Byte)
  slotA : List Byte
  slotB : List Byte
deriving DecidableEq, Repr

/-- Phase 2 of the boot: what SFDP shows of the flash (R473), and the flash where the module has not read it before. -/
structure FlashRead where
  sfdpOk   : Bool
  flashId  : BitVec 32
  flashMib : BitVec 16
  flash    : Flash
deriving DecidableEq, Repr

/-- Kinds of PCI Express reset (R408). -/
inductive PcieResetKind where | perst | hotReset | linkDisable | flr | d3Return
deriving DecidableEq, Repr

/-- A LOAD descriptor with the container at its ADDR (Table 15-8); LENGTH is that of the container. -/
structure LoadDesc where
  type   : BitVec 8
  flags  : BitVec 8
  target : BitVec 16
  first  : BitVec 48
  box    : List Byte
deriving DecidableEq, Repr

/-- Where a container comes from (Table 16-6): the staging buffer of an EtherCAT load, the LOAD queue, SEC_CONTAINER. -/
inductive Carrier where
  | ecat
  | queue (x : LoadDesc)
  | sec
deriving DecidableEq, Repr

/-- Phase 3 of the boot: what the retained store shows (R479): records with a valid copy are listed with their entries
(object key within the record's scope, value, length in bytes). -/
structure RetainedResult where
  mramOk   : Bool
  sysOk    : Bool
  snapOk   : Bool
  marker   : BitVec 8
  boots    : BitVec 32
  session  : BitVec 32
  records  : List (Nat × List (Nat × Nat × Nat))
deriving DecidableEq, Repr

/-- Mailbox services (R406). -/
inductive MailboxService where
  | coe
  | unsupported (proto : BitVec 4)
  | badHeader
  | tooShort
  | tooLong
deriving DecidableEq, Repr

/-- The three queues of the bulk link (R415). -/
inductive QueueId where | load | obj | exp
deriving DecidableEq, Repr

/-- Requests of PCI Express that the module does not serve (R424, Table 15-13). -/
inductive TlpKind where | unsupported | poisoned | misaligned | tooLong | byteEnables
deriving DecidableEq, Repr

/-- BAR0 registers that BAR0_REGISTER_WRITE sets (R410). -/
inductive Bar0Reg where
  | irqMask
  | expMark
  | base (q : QueueId)
  | size (q : QueueId)
deriving DecidableEq, Repr

/-- What a read of a ledger line was for (R337). -/
inductive ReadCause where
  | playback (n : ChanId) (seg : Nat)
  | lookahead (seg : Nat)
  | sweep
  | march
deriving DecidableEq, Repr

/-- A private instruction of the test access port at D2 (R458). -/
inductive TapAccess where
  | readReg (n : ChanId) (k : Fin 8) (r : Idx16)
  | writeReg (n : ChanId) (k : Fin 8) (r : Idx16) (v : Word48)
  | readPriv (n : ChanId) (k : Fin 8) (w : BitVec 6)
  | writePriv (n : ChanId) (k : Fin 8) (w : BitVec 6) (v : Word64)
  | readProg (n : ChanId) (id : BitVec 12) (w : BitVec 9)
  /-- At D1 and D2 (R456): an object, the fault log, the violation log, the tick trace. -/
  | readObj (idx : BitVec 16) (sub : BitVec 8)
  | readFaults
  | readViolations
  | readTrace
deriving DecidableEq, Repr


/-- The commands and events of the TM6420: one constructor per row of the table of operations and events. -/
inductive Instr where
  /-- `POWER_GOOD` (R467). VBUS stays above the rising threshold for 1 ms with standby rails in regulation, so the module samples its straps and enters BOOT. -/
  | powerGood (strap : BitVec 6) (ecMode : BitVec 2)
  /-- `BUS_START` (R469). The strap-staggered delay after power-good expires and the intermediate converter starts ramping the 12 V bus. -/
  | busStart
  /-- `BUS_IN_REGULATION` (R469). The 12 V bus reaches regulation, PG_OUT is released and the stall analog power-up begins. -/
  | busInRegulation
  /-- `STALL_ANALOG_READY` (R469). A stall die's analog circuits finish powering up and are ready. -/
  | stallAnalogReady (s : StallId)
  /-- `FUSE_PHASE` (R470). Boot phase 1 ends: fuses are read, trust-core known-answer and entropy tests are run, and EtherCAT forwarding starts. -/
  | fusePhase (trustOk : Bool) (time10us : BitVec 16)
  /-- `CONFIG_MEMORY_PHASE` (R476). Boot phase 2 ends: the active image is read, verified and its sections applied in order, and the library image copy is written. -/
  | configMemoryPhase (img : FlashRead) (time10us : BitVec 16)
  /-- `RETAINED_STATE_PHASE` (R479). Boot phase 3 ends: calibration records, counters, retained records and the shutdown marker are restored. -/
  | retainedStatePhase (r : RetainedResult) (time10us : BitVec 16)
  /-- `RELEASE` (R470). Once phase 3 and the analog power-up are complete, the module commits tick 0 and takes the release state. -/
  | release (time10us : BitVec 16)
  /-- `POWER_LOSS` (R481). VBUS stays below the falling threshold for 20 µs, so the module runs F5 on every stall, stops the bus, asserts FLT_N and writes the shutdown marker. -/
  | powerLoss
  /-- `REFCLK_LOSS` (R35). REFCLK edges stop for 40 ns or the frequency deviates, so the tick switches to the holdover oscillator. -/
  | refclkLoss (dev : Int) (cyc : Cycle)
  /-- `REFCLK_PRESENT` (R472). REFCLK has been valid for 1 ms, so it counts as present and the engine clock locks when permitted. -/
  | refclkPresent (dev : Int)
  /-- `REFCLK_RELOCK` (R36). Once every channel is PARKED with REFCLK present, the engine clock relocks to REFCLK and tick phase lock restarts from ACQUIRING. -/
  | refclkRelock
  /-- `COMMIT` (R20). At t+0.000 of every tick the module commits all visible state, and the barkers, latches, tallies and host writes act. -/
  | commit (inp : TickInputs)
  /-- `DWELL_EXPIRY` (R239). The current step's span ends after DWELL unheld ticks, and the barker selects the next step, a loop-back, a jump or the end. -/
  | dwellExpiry (n : ChanId)
  /-- `FORCE_V` (R228). A FORCE_V step sets the voltage setpoint, range pair, program set, plan, gates and markers for its DWELL. -/
  | forceV (n : ChanId) (value : Code20) (rpair : BitVec 4) (f : StepFields)
  /-- `FORCE_I` (R228). A FORCE_I step sets the current setpoint, range pair and its other own fields for its DWELL. -/
  | forceI (n : ChanId) (value : Code20) (rpair : BitVec 4) (f : StepFields)
  /-- `HOLD` (R228). A HOLD step keeps the setpoint and range pair and applies its own program set, plan, gates and markers. -/
  | stepHold (n : ChanId) (f : StepFields)
  /-- `TALLY_ONLY` (R228). A TALLY_ONLY step keeps every force field and plan, and applies only its gates, markers and DWELL. -/
  | tallyOnly (n : ChanId) (tctl : BitVec 6) (mark : BitVec 4) (dwell : BitVec 16)
  /-- `WAIT_TETHER` (R242). A WAIT_TETHER step waits until the latch of its wait input is set, or until its timeout. -/
  | waitTether (n : ChanId) (noTimeout pre : Bool) (input : Idx4) (f : StepFields)
  /-- `WAIT_TIMEOUT` (R242). A WAIT_TETHER reaches its DWELL without an edge, so its span ends and WAIT_TIMEOUT is set. -/
  | waitTimeout (n : ChanId)
  /-- `LOOP_OPEN` (R243). A LOOP_OPEN step opens a new innermost loop level with its count and start. -/
  | loopOpen (n : ChanId) (count : BitVec 20) (f : StepFields)
  /-- `LOOP_CLOSE` (R243). At the end of a LOOP_CLOSE span, level 0 loops back, decrements or closes. -/
  | loopClose (n : ChanId)
  /-- `JUMP_IF` (R246). At the end of its span a JUMP_IF evaluates its condition entry and, if true, offers a jump to its target. -/
  | jumpIf (n : ChanId)
  /-- `SINE_SET_START` (R273). A SINE_SET step with OP 0 starts the sine or changes it to a setting. -/
  | sineSetStart (n : ChanId) (setting : Idx16) (f : StepFields)
  /-- `SINE_SET_ZERO` (R273). A SINE_SET step with OP 1 turns the sine off. -/
  | sineSetZero (n : ChanId) (f : StepFields)
  /-- `SINE_SET_PHASE_RESET` (R273). A SINE_SET step with OP 2 loads the phase with the applied setting's P. -/
  | sineSetPhaseReset (n : ChanId) (f : StepFields)
  /-- `GUST_ARM` (R140). A GUST_ARM step arms the named gust profile, or is refused if the profile is not loaded or its timing is invalid. -/
  | gustArm (n : ChanId) (profile : Idx16) (f : StepFields)
  /-- `GUST_DISARM` (R229). A GUST_ARM step with DISARM set disarms the armed profile. -/
  | gustDisarm (n : ChanId) (f : StepFields)
  /-- `END` (R253). An END step with PARK 0 applies its own fields and sets SEQ_STATE ENDED. -/
  | stepEnd (n : ChanId) (f : StepFields)
  /-- `END_PARK` (R253). An END step with PARK 1 ends the sequence and parks the channel as a PARK_REQ would. -/
  | endPark (n : ChanId) (f : StepFields)
  /-- `SAFE_JUMP` (R266). Under SAFE_JUMP with the safe head READY, the safe jump selects SAFE_SEG, clears loops and stops the spool. -/
  | safeJump (n : ChanId)
  /-- `HEAD_PIN` (R250). A write to HEAD_PIN pins or unpins a jump-ready head to a RESIDENT segment, and a pin starts a fill. -/
  | headPin (n : ChanId) (h : Idx4) (seg : BitVec 16)
  /-- `HEAD_FILL_DONE` (R250). A jump-ready head finishes filling with the first 32 steps of its segment and becomes READY. -/
  | headFillDone (n : ChanId) (h : Idx4)
  /-- `STAGE_FILL_DONE` (R250). The stage finishes filling for an offered jump target and becomes READY. -/
  | stageFillDone (n : ChanId)
  /-- `SAFE_HEAD_FILL_DONE` (R266). The safe head finishes filling with SAFE_SEG's first 32 steps and becomes READY. -/
  | safeHeadFillDone (n : ChanId)
  /-- `JUMP_CMD_JUMP` (R248). A JUMP_CMD with operation 1 offers a host jump to the named segment. -/
  | jumpCmdJump (n : ChanId) (seg : BitVec 16)
  /-- `JUMP_CMD_CANCEL` (R249). A JUMP_CMD with operation 2 cancels a pending JUMP_IF, JMP or host jump, but not a safe jump. -/
  | jumpCmdCancel (n : ChanId)
  /-- `JMP_EDGE` (R248). An edge at the jump input offers a jump to the segment in JUMP_VEC at its commit. -/
  | jmpEdge (n : ChanId) (cyc : Cycle)
  /-- `WAIT_EDGE` (R241). An edge at a wait input sets that input's latch at its commit. -/
  | waitEdge (n : ChanId) (w : Idx4) (cyc : Cycle)
  /-- `HOLD_REQUEST` (R316). An activation of the hold consumer raises hold requests for HOLD_LEN commits, which makes held ticks. -/
  | holdRequest (n : ChanId) (cyc : Cycle)
  /-- `DIR_ENTRY_WRITE` (R236). A descriptor write through DIR_ENTRY is checked for the segment's in-use state and for the layout rules, and acts at its commit. -/
  | dirEntryWrite (word : Word64)
  /-- `SPOOL_SEG_WRITE` (R259). A write of SPOOL_SEG assigns the spool to the channel and resets the stream. -/
  | spoolSegWrite (n : ChanId) (seg : BitVec 16)
  /-- `SPOOL_CMD_RESET` (R264). SPOOL_CMD 1 resets the channel's stream counts and sets the spool state to IDLE. -/
  | spoolCmdReset (n : ChanId)
  /-- `SAFE_SEG_WRITE` (R266). A write of SAFE_SEG sets the safe segment and starts a safe-head fill. -/
  | safeSegWrite (n : ChanId) (seg : BitVec 16)
  /-- `ARM_REQ` (R90). A mask written to ARM_REQ is checked at its commit as one configuration and either starts arming every named channel or is refused. -/
  | armReq (mask : Word64)
  /-- `ARM_DISCONNECT_CLOSE` (R91). At commit k+8 the pre-close check is judged, and the disconnect is commanded closed or the arm aborts with EXT_VOLTAGE. -/
  | armDisconnectClose
  /-- `ARM_CLAMPS` (R91). At commit k+24 the clamps move to entry 0 and the monitors start. -/
  | armClamps
  /-- `ARM_COMPLETE` (R91). At commit k+32 the channels become ARMED and, with START_MODE IMMEDIATE, select their start step. -/
  | armComplete
  /-- `PARK_REQ` (R93). A mask written to PARK_REQ starts parking each named ARMED, ARMING or SAFE-HOLD channel. -/
  | parkReq (mask : Word64)
  /-- `PARK_RAMP_DONE` (R93). The park ramp reaches 0x8_0000, so the wait for low current begins. -/
  | parkRampDone (n : ChanId)
  /-- `PARK_CURRENT_LOW` (R93). The partner current falls to 1% of full scale or below, so the disconnect is commanded open. -/
  | parkCurrentLow (n : ChanId)
  /-- `PARK_FORCED` (R93). The 100 tk current wait expires, so the disconnect opens anyway and F1 PARK_FORCED is logged. -/
  | parkForced (n : ChanId)
  /-- `PARK_COMPLETE` (R93). Sixteen ticks after the disconnect opens, the clamps go to CLAMP_MIN, the rails to 0.6 V, and the channel is PARKED. -/
  | parkComplete (n : ChanId)
  /-- `SAFE_RAMP_DONE` (R95). A SAFE RAMP reaches 0x8_0000 and the disconnect is commanded open at the next commit. -/
  | safeRampDone (n : ChanId)
  /-- `CLAMP_ENGAGE` (R82). A clamp side engages in analog within 2 µs, so its producer fires and its latch is set. -/
  | clampEngage (n : ChanId) (high : Bool) (cyc : Cycle)
  /-- `CLAMP_RELEASE` (R83). A clamp side disengages and its release producer fires. -/
  | clampRelease (n : ChanId) (high : Bool) (cyc : Cycle)
  /-- `HARDWARE_TRIP` (R86). Overcurrent beyond 120% for 5 µs, or the land leaving its span, opens the disconnect and raises F2. -/
  | hardwareTrip (n : ChanId) (span : Bool) (cyc : Cycle)
  /-- `RAIL_FAIL` (R103). A balloon leg stays out of band for 20 µs, which raises F2 on both channels of the pair. -/
  | railFail (s : StallId) (rail : Idx4) (cyc : Cycle)
  /-- `AGG_CURRENT` (R29). Aggregate output current exceeds 24 A for 10 ms or 32 A at any instant, which raises F4. -/
  | aggCurrent (milliamp : Nat) (cyc : Cycle)
  /-- `DERATE_LEVEL_CHANGE` (R112). A stall's junction temperature crosses a derating threshold, and the new level acts at the next commit. -/
  | derateLevelChange (s : StallId) (tj : Int)
  /-- `SHARE_FAULT` (R107). A gang member's current deviates beyond ±25% for 100 tk, which raises F2 on the gang. -/
  | shareFault (n : ChanId) (cyc : Cycle)
  /-- `RING_DROP` (R122). The ring detector drops the channel to the tail setting and RING is logged. -/
  | ringDrop (n : ChanId) (cyc : Cycle)
  /-- `COMP_MODE_WRITE` (R125). A write to COMP_MODE or COMP_FIXED changes the setting at the next step application, and COMP_MODE clears TAIL_LOCK. -/
  | compModeWrite (n : ChanId) (fixed : Bool) (value : BitVec 8)
  /-- `LW_ESTIMATE` (R132). After 1,016 probe ticks, E6 forms a capacitance and ESR estimate and a target setting. -/
  | lwEstimate (n : ChanId)
  /-- `RANGE_CHANGE_BREAK` (R146). At t+0.200 µs of tick c the old sense element opens. -/
  | rangeChangeBreak (n : ChanId)
  /-- `RANGE_CHANGE_CLOSE` (R146). At commit c+3 the window closes, the clamps move to the new entry and the done event fires. -/
  | rangeChangeClose (n : ChanId)
  /-- `GUST_TRIGGER` (R141). An edge at the gust trigger schedules an injection of the armed profile after LEAD plus ADV. -/
  | gustTrigger (n : ChanId) (cyc : Cycle)
  /-- `GUST_INJECTION_START` (R143). The scheduled instant arrives and the profile is injected, or suppressed if the conditions fail. -/
  | gustInjectionStart (n : ChanId)
  /-- `GUST_INJECTION_END` (R139). The profile's L samples have played and the injection ends. -/
  | gustInjectionEnd (n : ChanId)
  /-- `GUST_ARM_CMD_ARM` (R140). GUST_ARM_CMD with bit 7 clear arms the named profile. -/
  | gustArmCmdArm (n : ChanId) (profile : Idx16)
  /-- `GUST_ARM_CMD_DISARM` (R144). GUST_ARM_CMD with bit 7 set disarms the profile and stops any injection in progress. -/
  | gustArmCmdDisarm (n : ChanId)
  /-- `SINE_CMD_START` (R273). SINE_CMD with OP 0 starts the sine or changes it to a setting at its commit. -/
  | sineCmdStart (n : ChanId) (setting : Idx16)
  /-- `SINE_CMD_ZERO` (R273). SINE_CMD with OP 1 turns the sine off at its commit. -/
  | sineCmdZero (n : ChanId)
  /-- `SINE_CMD_PHASE_RESET` (R273). SINE_CMD with OP 2 reloads the phase with P at its commit. -/
  | sineCmdPhaseReset (n : ChanId)
  /-- `SINE_PHASE_RESET` (R273). An event at the sine phase reset consumer loads P at the next sub-step boundary while the sine runs. -/
  | sinePhaseReset (n : ChanId) (cyc : Cycle)
  /-- `TIMER_CONVERSION_START` (R167). A TIMER plan's phase arrives and a regular conversion starts, waking the converter if needed. -/
  | timerConversionStart (n : ChanId) (mi second : Bool)
  /-- `REG_TRIGGER` (R168). An event at a regular converter trigger starts a conversion after DELAY, or counts as an overrun or width reject. -/
  | regTrigger (n : ChanId) (mi rising : Bool) (width : Nat) (cyc : Cycle)
  /-- `INJ_TRIGGER` (R170). An event at an injected trigger schedules the injected sequence's start instant after DELAY. -/
  | injTrigger (n : ChanId) (mi rising : Bool) (width : Nat) (cyc : Cycle)
  /-- `INJ_SEQUENCE_START` (R170). At the delayed start instant any running conversion is abandoned and the injected slots convert. -/
  | injSequenceStart (n : ChanId) (mi : Bool)
  /-- `CONVERSION_DONE` (R160). A conversion completes, and its tagged raw sample crosses the stall link for the next engine window. -/
  | conversionDone (n : ChanId) (mi : Bool) (raw : BitVec 18) (cyc : Cycle)
  /-- `CAL_CONVERSION` (R172). In a scheduled tick, background calibration takes a converter window for a calibration conversion. -/
  | calConversion (n : ChanId) (mi : Bool)
  /-- `AUX_WINDOW` (R178). One of the two AUX windows of a tick converts for the injected sequence, an UNKNOWN resolution or the next regular slot. -/
  | auxWindow (s : StallId) (second : Bool) (reading : Int) (band : List Nat)
  /-- `AUX_INJ_TRIGGER` (R180). An event at a stall's AUX injected trigger queues its FIXED slots ahead of all other claimants. -/
  | auxInjTrigger (s : StallId) (rising : Bool) (width : Nat) (cyc : Cycle)
  /-- `OW_CHECK_START` (R181). At a commit the positive pull currents of the next eligible channel switch on. -/
  | owCheckStart (n : ChanId)
  /-- `OW_SETTLE_EXPIRY` (R181). OW_SETTLE ticks pass and the OPENWIRE slots read the lead voltages. -/
  | owSettleExpiry (n : ChanId)
  /-- `OW_CHECK_DONE` (R182). A check's differences are formed, and the leads are declared open or cleared, which acts by OW_ACTION. -/
  | owCheckDone (n : ChanId)
  /-- `REF_SEL_WRITE` (R174). A write of REF_SEL selects the internal reference or REFX for the stall, with its refusal rules. -/
  | refSelWrite (s : StallId) (v : Bool)
  /-- `REFX_EN_WRITE` (R174). A write of REFX_EN switches the REFX buffer and records REFX_EN_TICK. -/
  | refxEnWrite (s : StallId) (v : Bool)
  /-- `WM_TRANSITION` (R216). A running monitor's comparator changes side, which fires its producer and triggers its ACTION. -/
  | wmTransition (n : ChanId) (m : Idx4) (trip : Bool) (cyc : Cycle)
  /-- `WM_CFG_WRITE` (R217). A write to a monitor configuration word recomputes its code and restarts the monitor if the code or HYST changes. -/
  | wmCfgWrite (n : ChanId) (m : Idx4) (word : BitVec 32)
  /-- `WM_RESOLVED` (R219). An AUX resolution or a band-detector sample gives the UNKNOWN monitor its side, with no event. -/
  | wmResolved (n : ChanId) (m : Idx4) (tripped : Bool)
  /-- `TALLY_CMD_OPEN` (R195). TALLY_CMD with operation 1 opens the masked units as a HOST source. -/
  | tallyCmdOpen (n : ChanId) (units : BitVec 16)
  /-- `TALLY_CMD_CLOSE` (R195). TALLY_CMD with operation 2 closes the masked units as a HOST source. -/
  | tallyCmdClose (n : ChanId) (units : BitVec 16)
  /-- `TALLY_CMD_ABORT` (R195). TALLY_CMD with operation 3 closes the masked units with cause HOST_ABORT. -/
  | tallyCmdAbort (n : ChanId) (units : BitVec 16)
  /-- `TALLY_OPEN_EDGE` (R194). A tether edge at a tally open consumer opens the unit at its commit. -/
  | tallyOpenEdge (n : ChanId) (u : Idx16) (cyc : Cycle)
  /-- `TALLY_CLOSE_EDGE` (R194). A tether edge at a tally close consumer closes the unit at its commit. -/
  | tallyCloseEdge (n : ChanId) (u : Idx16) (cyc : Cycle)
  /-- `TALLY_TICKS_EXPIRY` (R194). A unit with CLOSE_SRC TICKS reaches N unheld ticks and closes. -/
  | tallyTicksExpiry (n : ChanId) (u : Idx16)
  /-- `SPAN_LIMIT` (R196). A unit's span reaches 0xFFFF_FFFF ticks and it closes with cause SPAN_LIMIT. -/
  | spanLimit (n : ChanId) (u : Idx16)
  /-- `TALLY_CONFIG_WRITE` (R199). A write to a unit's configuration, N, filter or threshold closes an open unit with cause RECONFIG. -/
  | tallyConfigWrite (n : ChanId) (u : Idx16) (which : TallyWord) (value : BitVec 32)
  /-- `FLUSH_TIMEOUT` (R205). FLUSH_TICKS pass since a partial group's first record, so a flushed block is formed. -/
  | flushTimeout
  /-- `RES_SESSION_FLUSH` (R205). RES_SESSION_CMD 1 forms a block for the partial group. -/
  | resSessionFlush
  /-- `RES_SESSION_ROLL` (R206). RES_SESSION_CMD 2 ends the session with a SESSION_END block and begins a new one. -/
  | resSessionRoll
  /-- `SESSION_END_DEFERRED` (R204). A waiting SESSION_END block is formed at the first commit at which a FIFO entry is free. -/
  | sessionEndDeferred
  /-- `FIFO_ACK` (R203). A FIFO_ACK write releases read entries from the head of the result FIFO. -/
  | fifoAck (count : BitVec 16)
  /-- `EVIO_EDGE` (R312). An edge at an EVIO input land fires its producer 6 ns later onto the selecting tethers. -/
  | evioEdge (k : Idx16) (rising : Bool) (width : Nat) (cyc : Cycle)
  /-- `EVIO_OUTPUT` (R322). An event arrives at an EVIO output consumer and drives a pulse on the land. -/
  | evioOutput (k : Idx16) (width : Nat) (cyc : Cycle)
  /-- `EVIO_PULSE_END` (R322). The output pulse width of an EVIO or MKO pin expires and the land returns inactive. -/
  | evioPulseEnd (mko : Bool) (k : Idx16)
  /-- `MKO_OUTPUT` (R322). An event arrives at an MKO pin in fabric service and drives a pulse. -/
  | mkoOutput (k : StallId) (width : Nat) (cyc : Cycle)
  /-- `LOCK_CMD` (R320). A LOCK_CMD write locks a tether's routing until power is lost. -/
  | lockCmd (t : BitVec 8)
  /-- `MKO_RUN_WRITE` (R276). A write of 1 to MKO_RUN takes the MKO pins out of STARTUP mode. -/
  | mkoRunWrite (v : Bool)
  /-- `SYNC_MARK` (R45). A mark arrives on SYNC_IN, carrying one word bit and the phase reference, or counts as missing. -/
  | syncMark (mark : Option (Int × Nat))
  /-- `SYNC_LOST` (R54). Eight consecutive missing marks put the lock in HOLD and raise SYNC_LOST. -/
  | syncLost
  /-- `SYNC_WORD_BAD` (R46). A SYNC word with a wrong preamble, CRC or reserved command is discarded, and NOP is forwarded in its place. -/
  | syncWordBad
  /-- `SYNC_NOP` (R48). A decoded NOP word is forwarded, or replaced with DELAY by a calibrated node. -/
  | syncNop
  /-- `SYNC_TIME` (R49). A decoded TIME word is compared with the counter and sets MISMATCH if they differ. -/
  | syncTime
  /-- `SYNC_EPOCH` (R49). A decoded EPOCH word sets the counter to domain time, or is refused while any channel is not PARKED. -/
  | syncEpoch (second : Bool)
  /-- `SYNC_START_WORD` (R61). A decoded START word makes a start at tick T pending, or is refused as LATE or conflicting. -/
  | syncStartWord
  /-- `SYNC_ABORT_WORD` (R61). A decoded ABORT word cancels the pending start if it arrives before T. -/
  | syncAbortWord
  /-- `SYNC_CAL_LEVEL` (R56). A decoded CAL_LEVEL for the node's own level starts a 2,000 tk loop measurement. -/
  | syncCalLevel
  /-- `SYNC_DELAY` (R53). A decoded DELAY word updates the forward delay D or raises SYNC_DRIFT if it cannot be applied. -/
  | syncDelay
  /-- `SYNC_SLOT_SEND` (R48). At each 64-tick slot a node forwards its word and the ROOT sends its pending command, TIME or NOP. -/
  | syncSlotSend
  /-- `LOOP_MEASURE_DONE` (R56). The 2,000 tk loop measurement ends, and the module sets LOOP_RT and the forward delay or fails the calibration. -/
  | loopMeasureDone (mean spread missing : Nat)
  /-- `CAL_CMD_DOMAIN` (R57). CAL_CMD 1 at the ROOT starts domain calibration level by level. -/
  | calCmdDomain
  /-- `CAL_CMD_OWN` (R57). CAL_CMD 2 measures this module's own loop alone. -/
  | calCmdOwn
  /-- `CAL_LEVEL_SEND` (R57). Every 8,000 tk during domain calibration the ROOT sends the next CAL_LEVEL. -/
  | calLevelSend
  /-- `LOCK_ACQUIRED` (R52). Acquisition brings the phase error within ±50 ps and the lock becomes LOCKED. -/
  | lockAcquired (edge : Int)
  /-- `PHASE_STEP` (R52). Every 1,000 tk while LOCKED, the tick phase is corrected by at most one 10 ps step, and drift beyond 1 ns raises SYNC_DRIFT. -/
  | phaseStep (edge : Int)
  /-- `START_REQ` (R60). A write of T to START_REQ at the ROOT sends START in two slots, or is refused as LATE. -/
  | startReq (tick : Tick)
  /-- `ABORT_REQ` (R47). A write to ABORT_REQ at the ROOT sends ABORT for the pending start. -/
  | abortReq (value : BitVec 8)
  /-- `EPOCH_REQ` (R47). A write of X to EPOCH_REQ at the ROOT sends EPOCH in two slots. -/
  | epochReq (tick : Tick)
  /-- `SYNC_START` (R59). At commit T the SYNC-waiting channels in ARM_MASK select their first step. -/
  | syncStart
  /-- `DC_MAP_LATCH` (R66). Every 1,000,000 tk the module latches DC system time together with the tick number. -/
  | dcMapLatch
  /-- `SYNC0_EVENT` (R64). A Distributed Clocks SYNC0 event: its phase is measured, outputs are processed and inputs are latched. -/
  | sync0Event (cycleNs : Nat) (cyc : Cycle)
  /-- `PD_FRAME` (R392). A processed process-data frame writes its mapped RW objects and runs its WO commands if PD_CMD_SEQ changed. -/
  | pdFrame (outputs : List (Nat × Nat)) (cyc : Cycle)
  /-- `SM2_WATCHDOG` (R404). The SM2 watchdog expires, so PD_WD_ACTION acts and the module leaves OP. -/
  | sm2Watchdog (cyc : Cycle)
  /-- `SYNC0_MISSED` (R404). Eight consecutive SYNC0 events pass without a frame, so the module leaves OP with a synchronization error. -/
  | sync0Missed
  /-- `ESM_INIT_TO_PREOP` (R403). A request for INIT to PREOP is checked against the mailbox SM configuration. -/
  | esmInitToPreop (smOk : Bool)
  /-- `ESM_PREOP_TO_SAFEOP` (R403). A request for PREOP to SAFEOP checks SMs, mapping and DC configuration. -/
  | esmPreopToSafeop (smOk : Bool) (sync1 : Bool) (dcCycle : Option Nat)
  /-- `ESM_SAFEOP_TO_OP` (R403). A request for SAFEOP to OP checks for valid outputs and SYNC0. -/
  | esmSafeopToOp
  /-- `ESM_LEAVE_OP` (R405). The module leaves OP on request, and PD_WD_ACTION acts once. -/
  | esmLeaveOp (target : BitVec 4)
  /-- `ESM_BOOTSTRAP_REQUEST` (R403). A bootstrap request is refused with AL status 0x0013. -/
  | esmBootstrapRequest
  /-- `ESM_INVALID_REQUEST` (R403). An undefined or unknown state request is refused with an AL status code. -/
  | esmInvalidRequest (target : BitVec 4)
  /-- `EC_LINK_LOST` (R402). An EtherCAT port loses its link and closes within 15 µs. -/
  | ecLinkLost (port : Bool)
  /-- `EC_LINK_UP` (R402). An EtherCAT port regains its link and opens within 15 µs. -/
  | ecLinkUp (port : Bool)
  /-- `MAILBOX_REQUEST` (R406). A mailbox request is served in order, and a malformed one is answered with a mailbox error. -/
  | mailboxRequest (service : MailboxService)
  /-- `SDO_DOWNLOAD` (R377). An SDO write is checked, acts at its commit and is answered after any retained record is written. -/
  | sdoDownload (idx : BitVec 16) (sub : BitVec 8) (len value : Nat) (cyc : Cycle)
  /-- `SDO_UPLOAD` (R40). An SDO read returns values from a single commit. -/
  | sdoUpload (idx : BitVec 16) (sub : BitVec 8) (cyc : Cycle)
  /-- `SDO_COMPLETE_ACCESS_WRITE` (R373). A complete-access write of up to 1 KiB is checked whole and acts at one commit or is refused whole. -/
  | sdoCompleteAccessWrite (idx : BitVec 16) (values : List Nat) (cyc : Cycle)
  /-- `SDO_COMPLETE_ACCESS_READ` (R373). A complete-access read returns up to 1 KiB from subindex 0. -/
  | sdoCompleteAccessRead (idx : BitVec 16) (cyc : Cycle)
  /-- `GET_OD_LIST` (R372). The SDO Information service Get OD List returns the object list. -/
  | getOdList
  /-- `GET_OBJECT_DESCRIPTION` (R372). The SDO Information service Get Object Description returns an object's description. -/
  | getObjectDescription (idx : BitVec 16)
  /-- `GET_ENTRY_DESCRIPTION` (R372). The SDO Information service Get Entry Description returns type, length, access and mappability. -/
  | getEntryDescription (idx : BitVec 16) (sub : BitVec 8)
  /-- `SDO_SEGMENT_TIMEOUT` (R406). A segmented transfer receives no segment for 1,000,000 tk and is aborted. -/
  | sdoSegmentTimeout
  /-- `OBJECT_WRITE` (R377). A write to an object with no row of its own is checked in order and acts at its commit. -/
  | objectWrite (idx : BitVec 16) (sub : BitVec 8) (len value : Nat)
  /-- `RETAIN_RECORD_WRITTEN` (R384). The retained record of a written K or S object is written and verified, or the write is reverted on failure. -/
  | retainRecordWritten (record : BitVec 16) (ok : Bool)
  /-- `STORE_PARAMS` (R387). A write of "save" to 0x1010:01 is accepted with no further effect. -/
  | storeParams (value : BitVec 32)
  /-- `RESTORE_DEFAULTS` (R387). A write of "load" to 0x1011:01 requests defaults for all K objects at the next boot. -/
  | restoreDefaults (value : BitVec 32)
  /-- `RESTORE_QUERY` (R399). A write of RESTORE_QUERY gives the restore outcome for the named object in RESTORE_RESULT. -/
  | restoreQuery (value : BitVec 32)
  /-- `PCIE_RESET` (R408). A PCI Express reset of any kind disables the queues, refuses loads in flight and keeps unacknowledged exports. -/
  | pcieReset (kind : PcieResetKind)
  /-- `BUS_MASTER_DISABLE` (R408). Bus Master Enable is cleared or D3hot is entered, so every enabled queue halts with cause BME. -/
  | busMasterDisable (d3 : Bool)
  /-- `WINDOW_WRITE` (R413). A posted write to the BAR2 object window is checked and acts as an object write. -/
  | windowWrite (offset len value : Nat) (cyc : Cycle)
  /-- `WINDOW_READ` (R412). A read request to the object window returns its slots from one commit. -/
  | windowRead (offset len : Nat) (cyc : Cycle)
  /-- `IRQ_STATUS_WRITE` (R411). A write-1-to-clear of IRQ_STATUS clears causes and resends messages for causes still pending. -/
  | irqStatusWrite (mask : BitVec 32)
  /-- `QUEUE_ENABLE` (R415). A write of the enable bit of Qq_CTRL starts a queue running. -/
  | queueEnable (q : QueueId) (v : Bool)
  /-- `QUEUE_RESET` (R415). A write of 1 to Qq_CTRL bit 1 disables the queue and resets its HEAD and TAIL. -/
  | queueReset (q : QueueId)
  /-- `QUEUE_TAIL_WRITE` (R415). A TAIL write on the LOAD or OBJ queue hands new descriptors to the module, or halts the queue with RING. -/
  | queueTailWrite (q : QueueId) (tail : Nat) (notify : List Bool)
  /-- `EXPORT_TAIL_WRITE` (R420). A TAIL write on the EXPORT queue releases the entries the host has read from the FIFO. -/
  | exportTailWrite (tail : Nat)
  /-- `EXPORT_WRITE` (R420). The module writes FIFO entries into free EXPORT ring slots and advances HEAD. -/
  | exportWrite (slots : Nat)
  /-- `OBJ_READ` (R414). An OBJ descriptor with OP 1 reads one object into host memory. -/
  | objRead (idx : BitVec 16) (sub : BitVec 8) (cyc : Cycle)
  /-- `OBJ_WRITE` (R414). An OBJ descriptor with OP 2 writes one object under SDO rules. -/
  | objWrite (idx : BitVec 16) (sub : BitVec 8) (len value : Nat) (cyc : Cycle)
  /-- `OBJ_CA_READ` (R414). An OBJ descriptor with OP 3 performs a complete-access read. -/
  | objCaRead (idx : BitVec 16) (cyc : Cycle)
  /-- `OBJ_CA_WRITE` (R414). An OBJ descriptor with OP 4 performs a complete-access write. -/
  | objCaWrite (idx : BitVec 16) (values : List Nat) (cyc : Cycle)
  /-- `DMA_READ_ERROR` (R426). A read of host memory fails, so the descriptor completes with HOST_ERROR or the queue halts with DMA. -/
  | dmaReadError (q : QueueId) (payload : Bool)
  /-- `TLP_UNSUPPORTED` (R424). An unsupported, poisoned or misaligned PCIe request is answered or discarded and logged as a violation. -/
  | tlpUnsupported (kind : TlpKind)
  /-- `LOAD_CMD_BEGIN` (R421). LOAD_CMD 1 begins an EtherCAT load and empties the staging buffer. -/
  | loadCmdBegin
  /-- `LOAD_DATA` (R421). A LOAD_DATA write appends up to 1,024 bytes to the EtherCAT staging buffer. -/
  | loadData (bytes : List Byte)
  /-- `LOAD_CMD_SUBMIT` (R421). LOAD_CMD 2 submits the staged container for verification. -/
  | loadCmdSubmit
  /-- `LOAD_CMD_ABANDON` (R421). LOAD_CMD 3 abandons the load with RESET. -/
  | loadCmdAbandon
  /-- `SPOOL_REFILL` (R418). A SPOOL_REFILL payload is judged against the claim, its steps are written as they arrive, and WR grows at its commit. -/
  | spoolRefill (src : Option LoadDesc)
  /-- `LEDGER_LOAD` (R419). A LEDGER_LOAD writes its verified lines into the ledger and acts at its commit. -/
  | ledgerLoad (bulk : Bool) (cyc : Cycle)
  /-- `PROGRAM_PACKAGE` (R300). A program package is checked, written into program memory and the image copy, and takes effect at one commit. -/
  | programPackage (bulk : Bool)
  /-- `GUST_PROFILE` (R138). A gust profile payload is checked and delivered to the stall die. -/
  | gustProfile (bulk : Bool)
  /-- `GUST_PROFILE_VALID` (R138). Delivery of a profile over the stall link completes, and the profile is valid from the next commit. -/
  | gustProfileValid (n : ChanId)
  /-- `IMAGE_UPDATE` (R478). An IMAGE_UPDATE container is written into the inactive slot, read back and the directory rewritten. -/
  | imageUpdate (bulk readBack : Bool)
  /-- `CONTAINER_VERIFIED` (R440). Verification of a container completes, and it is accepted to its chapter or refused with a result code. -/
  | containerVerified (src : Carrier) (fuseOk : Bool) (cyc : Cycle)
  /-- `IMAGE_CMD` (R478). IMAGE_CMD 1 writes a directory that names the other slot for the next boot. -/
  | imageCmd (value : BitVec 8)
  /-- `PSET_CMD_UNLOAD` (R306). PSET_CMD 1 unloads the selected program set unless it is 0, 63 or in use. -/
  | psetCmdUnload
  /-- `SCR_DATA_WRITE` (R306). A SCR_DATA write stores into a permitted scratchpad area in the next window's first cycles. -/
  | scrDataWrite (value : Word64)
  /-- `NOP` (R288). No operation for n+1 cycles. -/
  | nop (n : ChanId) (k : Fin 8) (count : BitVec 9)
  /-- `LDI` (R288). Load a sign-extended 14-bit immediate. -/
  | ldi (n : ChanId) (k : Fin 8) (d : Idx16) (imm : BitVec 14)
  /-- `LDH` (R288). Shift a register by 14 bits and OR in an immediate. -/
  | ldh (n : ChanId) (k : Fin 8) (d a : Idx16) (imm : BitVec 14)
  /-- `MOV` (R288). Copy a register. -/
  | mov (n : ChanId) (k : Fin 8) (d a : Idx16)
  /-- `LD` (R293). Load a scratchpad word from a region. -/
  | ld (n : ChanId) (k : Fin 8) (d b : Idx16) (region : BitVec 2) (offset : BitVec 12)
  /-- `ST` (R293). Store a register into a scratchpad word. -/
  | st (n : ChanId) (k : Fin 8) (a b : Idx16) (region : BitVec 2) (offset : BitVec 12)
  /-- `IN` (R290). Read an input port. -/
  | engIn (n : ChanId) (k : Fin 8) (d : Idx16) (port : BitVec 8)
  /-- `OUT` (R291). Write an output port, which takes effect at the commit. -/
  | engOut (n : ChanId) (k : Fin 8) (a : Idx16) (port : BitVec 8)
  /-- `LUT` (R288). Table lookup with a clamped index. -/
  | lut (n : ChanId) (k : Fin 8) (d a : Idx16) (s : BitVec 4) (base : BitVec 10)
  /-- `LUTI` (R289). Table lookup with linear interpolation. -/
  | luti (n : ChanId) (k : Fin 8) (d a : Idx16) (s : BitVec 4) (base : BitVec 10)
  /-- `ADD` (R288). Saturating addition. -/
  | add (n : ChanId) (k : Fin 8) (d a b : Idx16)
  /-- `SUB` (R288). Saturating subtraction. -/
  | sub (n : ChanId) (k : Fin 8) (d a b : Idx16)
  /-- `ADDI` (R288). Saturating addition of an immediate. -/
  | addi (n : ChanId) (k : Fin 8) (d a : Idx16) (imm : BitVec 14)
  /-- `ADDW` (R288). Wrapping addition modulo 2^48. -/
  | addw (n : ChanId) (k : Fin 8) (d a b : Idx16)
  /-- `NEG` (R288). Saturating negation. -/
  | engNeg (n : ChanId) (k : Fin 8) (d a : Idx16)
  /-- `ABS` (R288). Saturating absolute value. -/
  | engAbs (n : ChanId) (k : Fin 8) (d a : Idx16)
  /-- `MIN` (R288). Minimum of two registers. -/
  | engMin (n : ChanId) (k : Fin 8) (d a b : Idx16)
  /-- `MAX` (R288). Maximum of two registers. -/
  | engMax (n : ChanId) (k : Fin 8) (d a b : Idx16)
  /-- `AND` (R288). Bitwise AND. -/
  | engAnd (n : ChanId) (k : Fin 8) (d a b : Idx16)
  /-- `OR` (R288). Bitwise OR. -/
  | engOr (n : ChanId) (k : Fin 8) (d a b : Idx16)
  /-- `XOR` (R288). Bitwise exclusive OR. -/
  | engXor (n : ChanId) (k : Fin 8) (d a b : Idx16)
  /-- `SHL` (R288). Saturating left shift. -/
  | shl (n : ChanId) (k : Fin 8) (d a : Idx16) (count : BitVec 6)
  /-- `SHR` (R289). Right shift with a selectable rounding mode. -/
  | shr (n : ChanId) (k : Fin 8) (d a : Idx16) (mode : BitVec 2) (count : BitVec 6)
  /-- `SAT` (R288). Limit a value to n signed bits. -/
  | engSat (n : ChanId) (k : Fin 8) (d a : Idx16) (width : BitVec 6)
  /-- `CLAMP` (R288). Clamp a register between two bounds. -/
  | engClamp (n : ChanId) (k : Fin 8) (d a b c : Idx16)
  /-- `SELS` (R288). Select between two values by the sign of a register. -/
  | sels (n : ChanId) (k : Fin 8) (d a b c : Idx16) (zero : Bool)
  /-- `EXT` (R288). Extract a bit field with sign or zero extension. -/
  | ext (n : ChanId) (k : Fin 8) (d a : Idx16) (signed : Bool) (msb lsb : BitVec 6)
  /-- `INS` (R288). Insert low bits into a bit field. -/
  | ins (n : ChanId) (k : Fin 8) (d a : Idx16) (msb lsb : BitVec 6)
  /-- `MUL` (R288). Exact product of two 24-bit saturated operands. -/
  | mul (n : ChanId) (k : Fin 8) (d a b : Idx16)
  /-- `MAC` (R288). Multiply-accumulate into ACC0 or ACC1. -/
  | mac (n : ChanId) (k : Fin 8) (a b : Idx16) (subtract acc1 : Bool)
  /-- `ACCRD` (R288). Read an accumulator with a shift and optional clear. -/
  | accrd (n : ChanId) (k : Fin 8) (d : Idx16) (clear acc1 : Bool) (mode : BitVec 2) (count : BitVec 6)
  /-- `ACCLD` (R288). Load an accumulator. -/
  | accld (n : ChanId) (k : Fin 8) (a : Idx16) (acc1 : Bool)
  /-- `PUTS` (R294). Publish the corrected sample of an entry with tags. -/
  | puts (n : ChanId) (k : Fin 8) (a b e : Idx16)
  /-- `TACC` (R295). Offer an entry to the channel's tally units at the commit. -/
  | tacc (n : ChanId) (k : Fin 8) (a b e : Idx16)
  /-- `FLAG` (R297). Set a condition flag from the sign of a register at the commit. -/
  | flag (n : ChanId) (k : Fin 8) (a f : Idx16)
  /-- `FAULT` (R297). Raise ENGINE_FAULT as F1 or F2 at the commit if the register is negative. -/
  | engFault (n : ChanId) (k : Fin 8) (a : Idx16) (f2 : Bool) (code : BitVec 12)
  /-- `CORR` (R288). E6 only: update the 128 correlator lags by the chip history. -/
  | corr (n : ChanId) (k : Fin 8) (a b : Idx16)
  /-- `CRD` (R288). E6 only: read a correlator lag. -/
  | crd (n : ChanId) (k : Fin 8) (d b : Idx16) (lag : BitVec 7)
  /-- `CCLR` (R288). E6 only: clear all correlator lags by sign. -/
  | cclr (n : ChanId) (k : Fin 8) (a : Idx16)
  /-- `STALL_LINK_WORD` (R12). A stall-link word arrives and is corrected, accepted or discarded as uncorrectable, with held ticks. -/
  | stallLinkWord (s : StallId) (chans : BitVec 8) (bad : Bool)
  /-- `SILENT_TICK` (R546). A tick's stall-link framing fails, so every channel of the stall is held and LINK_DISCARD is logged once per run. -/
  | silentTick (s : StallId) (die ctl : Bool)
  /-- `LINK_UNCORR` (R12). More than 16 uncorrectable words in 1,000 tk, or 8 silent ticks seen by the controller, raise F3 on the stall. -/
  | linkUncorr (s : StallId)
  /-- `LINK_SILENT` (R499). The stall die sees 8 consecutive silent tick strobes and performs the last resort. -/
  | linkSilent (s : StallId)
  /-- `STALL_TJ_LIMIT` (R499). The stall die's junction reads 145 °C or more and it performs the last resort. -/
  | stallTjLimit (s : StallId) (tj : Int)
  /-- `LEDGER_READ_PARITY` (R337). A ledger line read fails parity three times, so the line goes on the replay list and the tick is held. -/
  | ledgerReadParity (line : BitVec 17) (cause : ReadCause) (persistent : Bool)
  /-- `STEP_PARITY_STUCK` (R338). A re-read fails after 1,000 consecutive ticks held on one line, which raises F2. -/
  | stepParityStuck (n : ChanId)
  /-- `PROGRAM_PARITY` (R339). A persistent program-word parity error discards the window and starts a re-fetch. -/
  | programParity (n : ChanId) (word : BitVec 16) (persistent : Bool)
  /-- `REFETCH_DONE` (R299). The program is back from its image copy and the channel's ticks run again. -/
  | refetchDone (n : ChanId)
  /-- `REFETCH_FAIL` (R502). The program is not back within 20 tk, or the image copy cannot be read, which raises F2. -/
  | refetchFail (n : ChanId)
  /-- `SCRATCHPAD_PARITY` (R339). A persistent scratchpad parity error is handled by restore or by a fault according to its region. -/
  | scratchpadParity (s : StallId) (addr : BitVec 13) (readers : BitVec 8) (persistent bulk : Bool)
  /-- `SCR_RESTORE_DONE` (R339). A restorable scratchpad word is restored from its copy and the held channels resume. -/
  | scrRestoreDone (s : StallId) (addr : BitVec 13) (image : Word64)
  /-- `STALL_DISCARD` (R340). An engine access would pass its 10-cycle stall budget, so the window is discarded. -/
  | stallDiscard (n : ChanId) (cycles : Nat)
  /-- `STALL_BUDGET` (R502). Sixteen windows of one channel are discarded within 1,000 tk, which raises F2. -/
  | stallBudget (n : ChanId)
  /-- `SCRUB_READ` (R341). A scrubber slot reads a ledger line for lookahead or sweep and checks its parity. -/
  | scrubRead (line : BitVec 17) (ahead : Option (Nat × Nat)) (good : Bool)
  /-- `MARCH_BORROW` (R342). Every MARCH_PERIOD a region is saved to the shadow buffer and tested with March C-. -/
  | marchBorrow (mem : Fin 17) (saveOk : Bool)
  /-- `MARCH_RELEASE` (R344). An access needs a borrowed region, or an urgent release at cycle 8 occurs, so the test stops and the region is restored. -/
  | marchRelease (mem : Fin 17)
  /-- `MARCH_RESTORE_DONE` (R342). The shadow buffer has been written back and the borrow ends, with a failing region repaired. -/
  | marchRestoreDone (mem : Fin 17) (pass : Bool)
  /-- `BG_CYCLE_COMPLETE` (R352). A background calibration cycle completes and its estimates are applied within their step limits. -/
  | bgCycleComplete (n : ChanId) (est : List (Nat × Int))
  /-- `CAL_PAUSE_CLAMP` (R355). A clamp side has been engaged for 10,000,000 tk, so background calibration pauses on the channel. -/
  | calPauseClamp (n : ChanId)
  /-- `LIN_PASS_DONE` (R356). A force DAC linearisation pass while PARKED completes and stores the residual INL table. -/
  | linPassDone (n : ChanId) (table : List (BitVec 16))
  /-- `BG_COMPARISON` (R357). Every 10,000,000 tk the stalls' band-gaps are compared with the median and their states updated. -/
  | bgComparison
  /-- `CAL_SNAPSHOT` (R367). Every 4,000,000 tk the background snapshot is written to the retained store. -/
  | calSnapshot (ok : Bool)
  /-- `SYSCAL_CMD_ZERO` (R359). SYSCAL_CMD 1 starts a zero point for the selected channel, quantity and range. -/
  | syscalCmdZero
  /-- `SYSCAL_CMD_FULL` (R359). SYSCAL_CMD 2 starts a full point after an accepted zero point. -/
  | syscalCmdFull
  /-- `SYSCAL_CMD_ABORT` (R361). SYSCAL_CMD 3 aborts the calibration with HOST_ABORT. -/
  | syscalCmdAbort
  /-- `SYSCAL_POINT_BEGIN` (R360). At the first commit with no injected sequence running, the point's entry and setpoint are applied. -/
  | syscalPointBegin
  /-- `SYSCAL_POINT_JUDGED` (R362). After 256 measuring ticks the point's checks are applied and it is accepted or aborted. -/
  | syscalPointJudged
  /-- `SYSCAL_STORE_DONE` (R363). The system record write completes, and z and s are written to the scratchpad, or the calibration aborts with STORE. -/
  | syscalStoreDone (ok : Bool)
  /-- `FAULT_HANDLING_BEGIN` (R496). A queued fault begins its handling once the manager is free for its class. -/
  | faultHandlingBegin
  /-- `SAFE_CONFIRM` (R492). At commit e+1 the stall die confirms that the SAFE policy is in force. -/
  | safeConfirm (n : ChanId)
  /-- `SAFE_PATH` (R498). A fault prevents a step of the SAFE entry path, which raises F5 on the stall at once. -/
  | safePath (n : ChanId) (cause : BitVec 16) (cyc : Cycle)
  /-- `MGMT_WDT` (R488). The management core fails to service its watchdog within 100 ms, which raises F4. -/
  | mgmtWdt (cyc : Cycle)
  /-- `FAULT_CLEAR` (R501). A write to FAULT_CLEAR clears the named F3, F5 and F4 latches if their conditions hold. -/
  | faultClear (mask : BitVec 32)
  /-- `FAULT_CLEAR_CH` (R501). A write to FAULT_CLEAR_CH clears the latches of named PARKED channels. -/
  | faultClearCh (mask : Word64)
  /-- `HIST_CLEAR` (R506). A write of "hist" to HIST_CLEAR empties the retained fault history. -/
  | histClear (value : BitVec 32)
  /-- `QUIET_ENTER` (R465). QUIET_REQ 1 powers down every stall's analog circuits and refuses arming. -/
  | quietEnter
  /-- `QUIET_EXIT` (R465). QUIET_REQ 0 while QUIET starts the analog power-up of all stalls. -/
  | quietExit
  /-- `ANALOG_POWER_UP_DONE` (R465). The analog power-up after QUIET completes and the module becomes PARKED. -/
  | analogPowerUpDone
  /-- `REBOOT_CMD` (R480). A write of "boot" to REBOOT_CMD restarts the module from phase 1 without a stagger. -/
  | rebootCmd (value : BitVec 32)
  /-- `SELFTEST_CMD` (R482). SELFTEST_CMD starts the self-test of the named stalls. -/
  | selftestCmd (mask : BitVec 8)
  /-- `SELFTEST_DONE` (R482). A stall self-test ends, and any failure raises F3 SELFTEST_FAIL. -/
  | selftestDone (s : StallId) (result : BitVec 32)
  /-- `STREAM_OPEN` (R444). A STREAM_OPEN container opens or replaces a stream with its wrapped key. -/
  | streamOpen
  /-- `OWNERSHIP` (R436). An OWNERSHIP container programs an owner slot and moves the module from VENDOR to OWNED. -/
  | ownership (fuseOk : Bool)
  /-- `DEBUG_TOKEN` (R455). A DEBUG_TOKEN container with the current nonce grants D2, or holds or completes the D3 pair. -/
  | debugToken
  /-- `RETIRE` (R437). A RETIRE container zeroises, erases the owner keys and programs the RETIRED bit. -/
  | retire (fuseOk : Bool)
  /-- `STREAM_CMD` (R445). A write of STREAM_CMD closes the named stream, or all streams. -/
  | streamCmd (id : BitVec 32)
  /-- `SESS_CMD_OFFER` (R447). SESS_CMD 1 creates a device offer with a fresh ephemeral key and nonce. -/
  | sessCmdOffer (bulk : Bool)
  /-- `SESS_CMD_CLOSE` (R448). SESS_CMD 2 closes the sealed session and erases its keys. -/
  | sessCmdClose
  /-- `SESS_HOST_OFFER` (R447). A host offer is verified and, if valid, the sealed session opens with derived keys. -/
  | sessHostOffer (offer : List Byte) (bulk : Bool)
  /-- `SESS_OFFER_TIMEOUT` (R447). No valid host offer arrives within 10 s of the device offer. -/
  | sessOfferTimeout
  /-- `SEALED_IN` (R449). A sealed request is decrypted, and its inner reads and writes act at one commit with an encrypted response. -/
  | sealedIn (req : List Byte) (bulk : Bool)
  /-- `SEALED_FAILURE_LIMIT` (R425). 64 sealed authentication failures within 1,000,000 tk close the sealed session. -/
  | sealedFailureLimit
  /-- `ATTEST_NONCE` (R453). A nonce written to ATTEST_NONCE makes the module sign an attestation. -/
  | attestNonce (nonce : List Byte)
  /-- `DRBG_FAILURE` (R433). A continuous entropy test fails, so TRUST_STATE becomes DRBG_FAILED and fresh randomness is refused. -/
  | drbgFailure
  /-- `DEBUG_REQ_D0` (R454). DEBUG_REQ 0 returns the debug level to D0 and resumes halted channels. -/
  | debugReqD0
  /-- `DEBUG_REQ_D1` (R454). DEBUG_REQ 1 grants observation level D1 where permitted. -/
  | debugReqD1
  /-- `DEBUG_REQ_D2` (R455). DEBUG_REQ 2 draws a debug nonce and awaits a D2 token. -/
  | debugReqD2
  /-- `DEBUG_REQ_D3` (R455). DEBUG_REQ 3 draws a debug nonce and awaits the D3 tokens. -/
  | debugReqD3
  /-- `DEBUG_NONCE_EXPIRY` (R455). The debug nonce expires after 60 s and DEBUG_PENDING clears. -/
  | debugNonceExpiry
  /-- `DBG_HALT_REQ` (R457). DBG_HALT_REQ parks the named channels and their gangs and halts their engines once PARKED. -/
  | dbgHaltReq (mask : Word64)
  /-- `DBG_RESUME` (R457). DBG_RESUME lets the named halted channels' engines run again. -/
  | dbgResume (mask : Word64)
  /-- `DBG_STEP` (R458). DBG_STEP runs set 0 of each named halted channel for one window. -/
  | dbgStep (mask : Word64)
  /-- `TAP_BYPASS` (R460). The TAP BYPASS instruction. -/
  | tapBypass
  /-- `TAP_IDCODE` (R460). The TAP IDCODE instruction returns the module's identification code. -/
  | tapIdcode
  /-- `TAP_SAMPLE_PRELOAD` (R460). The TAP SAMPLE/PRELOAD instruction, offered only when permitted. -/
  | tapSamplePreload
  /-- `TAP_EXTEST` (R460). The TAP EXTEST instruction drives boundary cells and refuses arming while selected. -/
  | tapExtest
  /-- `BUS_FAIL` (R26). The 12 V internal bus leaves regulation while the module runs, which raises F4 BUS_FAIL and sends every channel to SAFE under OPEN. -/
  | busFail (cyc : Cycle)
  /-- `ESM_DOWNWARD_TRANSITION` (R403). The MainDevice requests SAFEOP to PREOP, SAFEOP or PREOP to INIT, or an error acknowledge, and the module changes EtherCAT state. -/
  | esmDownwardTransition (target : BitVec 4)
  /-- `PERST_N_DEASSERT` (R408). PERST_N is deasserted, and PCI Express link training begins if the fuse phase has ended. -/
  | perstNDeassert
  /-- `PCIE_LINK_TRAINED` (R408). PCI Express link training completes, the link reaches L0, and PCIE_STATE, rate, width and GUAR_REFILL take their values. -/
  | pcieLinkTrained (rate width : BitVec 8)
  /-- `TAP_RESET` (R460). The TAP is reset through TRST_N or TMS, and the boundary lands return to their function at the next commit. -/
  | tapReset
  /-- `TAP_PRIVATE_INSTRUCTION` (R458). A D2 TAP instruction reads or writes the registers and PRIV words of a halted channel, or reads its program words. -/
  | tapPrivateInstruction (acc : TapAccess)
  /-- `TICK_LO_READ` (R410). A read of BAR0 TICK_LO latches the upper bits of TICK_NOW into TICK_HI. -/
  | tickLoRead (cyc : Cycle)
  /-- `BAR0_REGISTER_WRITE` (R410). A write to IRQ_MASK, EXPORT_IRQ_MARK, Qq_BASE or Qq_SIZE sets that register, with base and size writable only while the queue is disabled. -/
  | bar0RegisterWrite (reg : Bar0Reg) (value : Nat)
  /-- `SCR_RESTORE_TIMEOUT` (R502). A restorable scratchpad word is not restored within 20 tk, which raises F2 SCR_PARITY on the held channels. -/
  | scrRestoreTimeout (s : StallId) (addr : BitVec 13)
deriving DecidableEq, Repr

end Sys2Proof
end

