-- ==== Sys2Proof/Machine/Arith.lean ====
section
/-! DEFINITION. Arithmetic that the meanings share: codes of the range, saturation, rounding, bit fields, byte order
(R4), and the place of a channel in its stall (R2). -/

namespace Sys2Proof

/-- The signed LSB offset a code stands for (R72). -/
def codeVal (c : Code20) : Int := (c.toNat : Int) - 0x80000

/-- The code of a signed LSB offset inside the 20-bit span. -/
def codeOf (v : Int) : Code20 := BitVec.ofInt 20 (v + 0x80000)

/-- `lo` if `v` is below it, `hi` if `v` is above it, else `v`. -/
def clampInt (lo hi v : Int) : Int := max lo (min hi v)

/-- Limit to `n` signed bits. -/
def satInt (n : Nat) (v : Int) : Int := clampInt (-(2 ^ (n - 1) : Int)) ((2 ^ (n - 1) : Int) - 1) v

/-- Division rounded to nearest, ties away from zero; a zero divisor gives 0. -/
def divRound (a b : Int) : Int :=
  if b = 0 then 0
  else
    let q := (2 * a.natAbs + b.natAbs) / (2 * b.natAbs)
    if (decide (a < 0)) = (decide (b < 0)) then (q : Int) else -(q : Int)

/-- Division rounded toward zero; a zero divisor gives 0. -/
def divTrunc (a b : Int) : Int := a.tdiv b

/-- Division rounded up; a zero divisor gives 0. -/
def ceilDiv (a b : Nat) : Nat := if b = 0 then 0 else (a + b - 1) / b

/-- Bits `[hi:lo]` of a number that is not negative. -/
def natBits (v hi lo : Nat) : Nat := (v / 2 ^ lo) % 2 ^ (hi + 1 - lo)

/-- Bit `i` of a number. -/
def natBit (v i : Nat) : Bool := (v / 2 ^ i) % 2 == 1

/-- The two's complement reading of the low `n` bits of a number. -/
def signedOf (n v : Nat) : Int :=
  let w := v % 2 ^ n
  if w < 2 ^ (n - 1) then (w : Int) else (w : Int) - (2 ^ n : Nat)

/-- The low `n` bits that hold a signed number. -/
def unsignedOf (n : Nat) (v : Int) : Nat := (v % (2 ^ n : Nat)).toNat

/-- 1 for true, 0 for false. -/
def b2n (b : Bool) : Nat := if b then 1 else 0

/-- The little-endian number of a byte list (R4). -/
def leNat : List Byte → Nat
  | [] => 0
  | b :: bs => b.toNat + 256 * leNat bs

/-- `n` little-endian bytes of a number (R4). -/
def leBytes : Nat → Nat → List Byte
  | 0, _ => []
  | n + 1, v => BitVec.ofNat 8 v :: leBytes n (v / 256)

/-- Exactly `n` bytes: cut, or filled with zeros. -/
def bytesN (n : Nat) (l : List Byte) : List Byte := (l ++ List.replicate n 0).take n

/-- The bytes of a label. -/
def label (s : String) : List Byte := s.toList.map fun c => BitVec.ofNat 8 c.toNat

/-- Stall of a channel (R2): number divided by 8. -/
def stallOf (n : ChanId) : StallId := ⟨n.val / 8, by omega⟩

/-- Position of a channel in its stall (R2). -/
def posOf (n : ChanId) : Nat := n.val % 8

/-- The channel at a position of a stall. -/
def chanAt (s : StallId) (p : Fin 8) : ChanId := ⟨s.val * 8 + p.val, by omega⟩

/-- The eight channels of a stall, ascending. -/
def chansOf (s : StallId) : List ChanId := (List.finRange 8).map (chanAt s)

/-- Position 7 of a stall is its HS channel (R2, R11). -/
def isHS (n : ChanId) : Bool := posOf n == 7

end Sys2Proof
end

