-- ==== Sys2Proof/Config.lean ====
section
/-! DEFINITION. What one module fixes and the specification leaves open: constants without a body, so that no proof can
see a value of them (log 3). A claim that mentions one holds for every value it may have. -/

namespace Sys2Proof

/-- The value of an object whose default column reads "trim" or "image" (R380): fuses, factory trim and the
configuration image fill it. The key is the object's key. -/
opaque Config.fitted : Nat → Nat

/-- The value a counter shows after its last representable count: the specification gives the counters a width and does
not say what follows the largest value (log 4). The arguments are the width and the count that does not fit. -/
opaque Config.counterPastEnd : Nat → Nat → Nat

/-- A free value: where the specification states no result, the `k`-th free value stands in its place (log 5). -/
opaque Config.freeValue : Nat → Nat

/-- Bytes 0–31 of HMAC-SHA-384 under a key over a message (R206): the manual names the algorithm (FIPS 198-1) and does
not restate it (log 6). -/
opaque Config.hmac32 : List Byte → List Byte → List Byte

/-- KDF of a secret, a label and a context to `n` bytes (R429, log 6). -/
opaque Config.kdf : List Byte → List Byte → List Byte → Nat → List Byte

/-- The `k`-th draw of the generator, `n` bytes (R433, log 5). -/
opaque Config.random : Nat → Nat → List Byte

/-- A key pair's public half, a signature, a certificate or a wrapped key that the trust core forms: what it is for, and
over what (R451, R453, log 6). -/
opaque Config.trustSign : Nat → List Byte → List Byte

/-- AES-256 in counter mode under a key and a nonce, which enciphers and deciphers (R429, log 6). -/
opaque Config.aesCtr : List Byte → List Byte → List Byte → List Byte

/-- The tag of AES-256-GCM: key, nonce, additional data, ciphertext (R429, log 6). -/
opaque Config.gcmTag : List Byte → List Byte → List Byte → List Byte → List Byte

/-- SHA-384 (R429, log 6). -/
opaque Config.sha384 : List Byte → List Byte

/-- An ECDSA P-384 signature verifies: public key, hash, signature (R429, log 6). -/
opaque Config.ecdsaOk : List Byte → List Byte → List Byte → Bool

/-- ECDH of a key pair of the module with a public key: pair 0 is the identity key, pair `k + 1` the ephemeral key of
draw `k` (R429, log 6). -/
opaque Config.ecdh : Nat → List Byte → List Byte

/-- The vendor root public key (R430, log 3). -/
opaque Config.vendorKey : List Byte

/-- Entries that the 64 KiB of the tick trace hold (R456): the manual does not give the size of an entry (log 5). -/
opaque Config.traceEntries : Nat

/-- Clalybien's JEDEC manufacturer code in IDCODE (R460): it stands in the data package, not in the manual (log 3). -/
opaque Config.jedecCode : Nat

end Sys2Proof
end

