-- ==== Sys2Proof/Machine/ChannelState.lean ====
section
/-! DEFINITION. The state of one channel (Table 1-2): force path, barker, spool, sine, loops, range change, gusts,
converters, open-wire check, tallies, window monitors, engines and calibration. Every part is plain data. Objects of the
object dictionary that are settings, counters or latest results live in the channel's register map `regs`; the rest of the
state is in named fields. -/

namespace Sys2Proof.Machine

/-- A sparse map with ascending keys; a key not listed holds its default. -/
abbrev SMap (β : Type) := List (Nat × β)

/-- CH_STATE (R87, Table 3-10). -/
inductive ChState where | parked | arming | armed | parking | safe
deriving DecidableEq, Repr

/-- SEQ_STATE (Table 8-12). -/
inductive SeqState where | noStep | playing | waiting | ended | stopped
deriving DecidableEq, Repr

/-- SPOOL_STATE (Table 9-6). -/
inductive SpoolState where | none | idle | playing | dry | ended | stopped
deriving DecidableEq, Repr

/-- WM_STATE (R214). -/
inductive WmState where | off | unknown | clear | tripped
deriving DecidableEq, Repr

/-- COMP_STATE (R122, R123). -/
inductive CompState where | normal | tailed | tailLock
deriving DecidableEq, Repr

/-- State of a jump-ready head, the stage or the safe head (R250, R266). -/
inductive HeadState where | empty | filling | ready
deriving DecidableEq, Repr

/-- Source of a pending jump (JUMP_PENDING, Table 8-12). -/
inductive JumpSrc where | jumpIf | jmp | host | safeJump
deriving DecidableEq, Repr

/-- Policy of a SAFE entry (R493). -/
inductive SafePol where | hold | ramp | opened
deriving DecidableEq, Repr

/-- Stage of the park sequence (R93) and of the RAMP and OPEN policies (R95, R493). -/
inductive DownPhase where | idle | ramp | wait | opened
deriving DecidableEq, Repr

/-- What closes a tally (CLOSE_CAUSE, Table 6-4). -/
inductive CloseCause where | configured | rangeSplit | park | safe | spanLimit | hostAbort | reconfig
deriving DecidableEq, Repr

/-- An edge collected by a commit-acting consumer (R315): consumer number, the commit it acts at, where it arrived and
the origin set of the activation (R318). -/
structure EdgeRec where
  con    : Nat
  act    : Tick
  tick   : Tick
  cyc    : Nat
  origin : List Nat
deriving DecidableEq, Repr

/-- What a stall die holds active of a channel's force path: mode, ranges, clamp codes, disconnect (R13). -/
structure Active where
  fi      : Bool
  vrange  : Nat
  irange  : Nat
  clampHi : Int
  clampLo : Int
  disc    : Bool
deriving DecidableEq, Repr

/-- Force path (R70–R113). -/
structure Force where
  /-- CH_STATE. -/
  st        : ChState
  /-- Applied mode: true is FI (R71). -/
  fi        : Bool
  /-- SETPOINT_NOW, the committed setpoint after saturation (R77). -/
  setpt     : Code20
  /-- The setpoint of the previous commit, from which interpolation starts (R75, R76). -/
  prevSetpt : Code20
  /-- Force target: VALUE of the latest force step, and the one before it (R230, Table 10-5). -/
  target    : Code20
  prevTarget : Code20
  /-- Applied range-pair entry, its ranges and the clamp values that act, in LSB of the clamped range (R81). -/
  rpair     : Nat
  vrange    : Nat
  irange    : Nat
  clampHi   : Int
  clampLo   : Int
  /-- Unscaled clamp codes that the applied entry, the SAFE policy or the window asks for (R84, R113). -/
  baseHi    : Nat
  baseLo    : Nat
  /-- Applied program set of the current step, measure plan, gates G0–G5 and marker bits M0–M3 (R232). -/
  pset      : Nat
  plan      : Nat
  gates     : BitVec 6
  marks     : BitVec 4
  /-- The output disconnect is commanded closed (R88). -/
  disc      : Bool
  /-- Clamp sides engaged now, and at some instant of this tick (R83). -/
  engHi     : Bool
  engLo     : Bool
  seenHi    : Bool
  seenLo    : Bool
  /-- CLAMP_HI and CLAMP_LO as committed for the previous tick. -/
  latHi     : Bool
  latLo     : Bool
  /-- Status bits gathered in the present tick (Table 3-11). -/
  acc       : BitVec 32
  /-- A hardware trip has opened the disconnect (R86). -/
  tripped   : Bool
  /-- Arm request: deciding commit and the whole request (R89, R91). -/
  armTick   : Tick
  armMask   : Word64
  /-- Stage of PARKING, or of a SAFE policy that opens; its commit and its ramp (R93, R95). -/
  phase     : DownPhase
  phaseTick : Tick
  rampFrom  : Code20
  rampLen   : Nat
  /-- SAFE policy in force and the commit of SAFE entry; `confirmed` from commit e+1 (R492). -/
  pol       : SafePol
  /-- Rank of that policy by R493: 0 Own, 1 RAMP, 2 OPEN. -/
  polRank   : Nat
  safeTick  : Tick
  confirmed : Bool
  /-- The force fields of the applied step are withheld (R80). -/
  withheld  : Bool
  /-- The channel fault latch (R487). -/
  latch     : Bool
  /-- A word of the channel failed: its shadows do not move at the next tick strobe (R13). -/
  wordLost  : Bool
  /-- The active values where the shadows have not moved in the present tick (R13). -/
  kept      : Option Active
deriving DecidableEq, Repr

/-- One open loop level (R243, R245). -/
structure LoopLevel where
  count  : Nat
  start  : Nat
  seg    : Nat
  /-- The start has been set by the selection that followed the LOOP_OPEN. -/
  bound  : Bool
  first  : Bool
  /-- The start is the first step of a segment (R234). -/
  sfirst : Bool
  /-- Stream index of the start when it lies in the channel's spool (R260). -/
  spoolX : Option Nat
  /-- Loop head: up to 32 steps of the body as read in the first iteration. -/
  head   : List (Nat × Word64)
deriving DecidableEq, Repr

/-- A pending jump (R248–R251). -/
structure Jump where
  src     : JumpSrc
  seg     : Nat
  offered : Tick
  /-- Commit of the first segment boundary after its arrival at which it did not act (R251). -/
  missed  : Option Tick
  origin  : List Nat
deriving DecidableEq, Repr

/-- A jump-ready head, the stage or the safe head. -/
structure Head where
  st     : HeadState
  seg    : Nat
  steps  : List (Nat × Word64)
deriving DecidableEq, Repr

/-- A step selected at one commit, to apply at the next (R16). -/
structure Selected where
  word    : Word64
  addr    : Nat
  seg     : Nat
  /-- First step of a segment: the segment-start producer fires when it applies (R234). -/
  first   : Bool
  origin  : List Nat
deriving DecidableEq, Repr

/-- Barker (R227–R257). -/
structure Barker where
  seq        : SeqState
  /-- Current step: address, segment (0xFFFF none), word. -/
  addr       : Nat
  seg        : Nat
  word       : Word64
  /-- Ticks of DWELL counted and left (R240). -/
  done       : Nat
  left       : Nat
  /-- The span of the current step ends at this commit; the selection waits for DWELL_EXPIRY, WAIT_TIMEOUT or the
  loop and jump commands. -/
  due        : Bool
  /-- The step to apply at the next commit. -/
  sel        : Option Selected
  loops      : List LoopLevel
  pend       : Option Jump
  heads      : Vector Head 4
  stage      : Head
  safeHead   : Head
  /-- Steps held by the head or stage that the present segment was entered through. -/
  cache      : List (Nat × Word64)
  /-- Steps of the ledger lines read last: the current one and the one read ahead (R238). -/
  lines      : List (Nat × Word64)
  /-- Latches of W0–W3 with the origin sets of the edges that set them (R241, R318). -/
  latch      : BitVec 4
  latchOrg   : List (Nat × List Nat)
  waitTimeout : Bool
  jumpLate   : Bool
  /-- What the span of the current step has seen (Table 8-6). -/
  spanTrip   : BitVec 4
  spanHi     : Bool
  spanLo     : Bool
  spanUr     : Bool
  /-- The present tick is held for an under-run (R265). -/
  urTick     : Bool
  spanHeld   : Bool
  spanRc     : Bool
  /-- SEQ_STATUS of the latest commit. -/
  status     : BitVec 16
  /-- A hold request has been evaluated at the latest commit: the tick it begins is held (R67, R240). -/
  held       : Bool
  /-- That request came from the fabric, the FIFO or discarded work, not from an under-run (R265). -/
  holdReq    : Bool
  /-- A fault of the sequence has been raised: nothing more is selected (R231, R244). -/
  halt       : Bool
  /-- Commit of the latest segment boundary (R251). -/
  lastBound  : Option Tick
  /-- Commit of the latest segment boundary before that one. -/
  boundBefore : Option Tick
  /-- A boundary stands unresolved for want of a spool step (R265). -/
  dry        : Bool
  /-- The step it waits for counts as a first step (R234, R262). -/
  dryFirst   : Bool
  /-- The line of the selected step cannot be read: its address and the run of ticks held on it (R338). -/
  stuckAddr  : Option Nat
  stuckRun   : Nat
  /-- The hold of the latest commit comes from that unreadable line (R256). -/
  stuckHold  : Bool
  /-- Origin set that the next selected step's producers inherit (R318). -/
  carry      : List Nat
deriving DecidableEq, Repr

/-- Spool stream of the channel (R259–R268). -/
structure Spool where
  st     : SpoolState
  wr     : Nat
  rd     : Nat
  eos    : Option Nat
  /-- Growth of WR that has acted within the latest two commits, newest last: (commit, WR before it) (R261). -/
  recent : List (Tick × Nat)
  /-- Stream index of the current step while play is in the ring. -/
  x      : Nat
  wasLow : Bool
  wasHigh : Bool
deriving DecidableEq, Repr

/-- Sine generator (R271–R274). -/
structure Sine where
  on       : Bool
  setting  : Nat
  ftw      : Nat
  amp      : Nat
  /-- Phase loaded, and the tick and sub-step of the load. -/
  phase0   : BitVec 32
  loadTick : Tick
  loadSub  : Nat
  /-- A reset waits for its sub-step boundary: tick and sub-step. -/
  resetAt  : Option (Tick × Nat)
deriving DecidableEq, Repr

/-- Outer loop of the default E0 program (R126–R129, R146). -/
structure OuterLoop where
  ramp   : Int
  corr   : Int
  drop   : Int
  /-- Latest voltage and current sample that R127 could take, with its tick, in 10 nV and 10 pA. -/
  lastV  : Option (Tick × Int)
  lastI  : Option (Tick × Int)
deriving DecidableEq, Repr

/-- Compensation (R122–R125, R135). -/
structure Comp where
  now      : Nat
  st       : CompState
  /-- Ticks of the latest ring drops (R123). -/
  drops    : List Tick
  lastMove : Tick
  /-- A host change waits for the next commit at which a new step applies (R125). -/
  hostReq  : Bool
  /-- A ring drop waits for its commit: the setting in force before it. -/
  dropWas  : Option Nat
  /-- Latest commit at which a new step applied (R125). -/
  stepAt   : Option Tick
deriving DecidableEq, Repr

/-- Sums over the usable probe ticks of one period of 254: their number n, and acc over lags 0 to 127 in 10 pA (R132, R133). -/
structure LwSums where
  n   : Nat
  acc : List Int
deriving DecidableEq, Repr

/-- Load watch (R130–R136). -/
structure LoadWatch where
  /-- Linear feedback shift register s[6:0], place in the period of 254, chip of this tick. -/
  lfsr    : BitVec 7
  pos     : Nat
  chip    : Int
  probing : Bool
  /-- Probe ticks since the estimate in progress began, and its sums, one set for each period (R132, R133). -/
  probes  : Nat
  sums    : List LwSums
  /-- The two-estimate history. -/
  targets : List Nat
  /-- Probe ticks whose first MI sample has not been judged: tick, number, chip history (R132). -/
  ticks   : List (Tick × Nat × BitVec 128)
deriving DecidableEq, Repr

/-- The clamps of one entry: mode, ranges and codes (Table 3-3). -/
structure ClampSet where
  fi     : Bool
  vrange : Nat
  irange : Nat
  hi     : Nat
  lo     : Nat
deriving DecidableEq, Repr

/-- Range-change window (R145–R152). -/
structure RangeChange where
  active  : Bool
  clamped : Bool
  opened  : Tick
  /-- Commit at which the window closes. -/
  closes  : Tick
  /-- The old element is still in parallel with the new one (before the break). -/
  made    : Bool
  quantV  : Bool
  quantI  : Bool
  modeChg : Bool
  /-- The clamps of every entry involved in the window (R147, R150). -/
  involved : List ClampSet
  /-- The clamp codes of the other quantity, in its range now, acting beside the new mode's in a mode change (R147). -/
  beside  : Option (Nat × Nat)
deriving DecidableEq, Repr

/-- A stored gust profile (R138). -/
structure GustProfile where
  loaded : Bool
  irange : Nat
  shift  : Nat
  len    : Nat
  samples : List Int
deriving DecidableEq, Repr

/-- A profile that plays, with the instants at which its first sample starts and its last ends (R139). -/
structure GustRun where
  profile : Nat
  start   : Tick × Nat
  stop    : Tick × Nat
deriving DecidableEq, Repr

/-- Gust injector (R138–R144). -/
structure Gust where
  profiles : Vector GustProfile 16
  /-- Armed profile. -/
  armed    : Option Nat
  /-- Profile whose injection is scheduled: start tick and gust-clock period of that tick (0–49). -/
  sched    : Option (Nat × Tick × Nat)
  running  : Option GustRun
  /-- Injections into this channel of the latest ticks, its leader's in a gang: from one instant up to another (R107, R127). -/
  spans    : List ((Tick × Nat) × (Tick × Nat))
  /-- Deliveries over the stall link in progress, oldest first: link, number, profile. -/
  arriving : List (Bool × Nat × GustProfile)
deriving DecidableEq, Repr

/-- Kind of conversion a converter runs. -/
inductive ConvKind where | regular | injected | calibration | preClose
deriving DecidableEq, Repr

/-- A conversion: kind, slot or position, slot word, the instant it was asked for, and those at which its acquisition
begins and it ends. -/
structure Running where
  kind  : ConvKind
  slot  : Nat
  word  : Nat
  asked : Tick × Nat
  start : Tick × Nat
  stop  : Tick × Nat
  /-- Its end advances the regular position (R165). -/
  adv   : Bool
  /-- A clamp side was engaged in the tick of its acquisition (R127, R132). -/
  spoilt : Bool
deriving DecidableEq, Repr

/-- A pulse that a qualified trigger measures: the trigger (regular or injected), its trailing edge, and whether its width
is in bounds (R168). -/
structure Pulse where
  inj  : Bool
  lead : Tick × Nat
  edge : Tick × Nat
  ok   : Bool
deriving DecidableEq, Repr

/-- What a tick means for a conversion that acquires in it: active ranges, UNSETTLED and REF_EARLY by rules other than those
of input and gain (Table 5-6), pull currents, held. -/
structure TickFacts where
  vrange    : Nat
  irange    : Nat
  unsettled : Bool
  early     : Bool
  pull      : Bool
  isHeld    : Bool
deriving DecidableEq, Repr

/-- A sample entry of a window (Table 10-8). -/
structure Entry where
  valid : Bool
  re    : Bool
  src   : Nat
  pos   : Nat
  tags  : BitVec 4
  input : Nat
  pga   : Nat
  range : Nat
  stamp : Tick
  raw   : BitVec 18
  /-- The engine window the entry was first presented in (R298). -/
  seen  : Tick
  /-- Published corrected value and tags (R294). -/
  pub   : Option (Int × BitVec 4)
  /-- Value offered to the tally units (R295). -/
  offer : Option (Int × BitVec 4)
  /-- The acquisition overlapped a gust injection, or a clamp was engaged in its tick (R127, R132). -/
  spoilt : Bool
  /-- Stamped with a held tick (R67). -/
  inHeld : Bool
deriving DecidableEq, Repr

/-- One MV or MI converter (R157–R172). -/
structure Conv where
  run      : Option Running
  /-- Conversions that wait for the running one, in order, each with the instant it was asked for (R167, R169, R172). -/
  waits    : List (ConvKind × (Tick × Nat))
  /-- Regular slot position (R165). -/
  pos      : Nat
  /-- Ticks, from the present one on, in which conversions began or will begin acquisition (R169). -/
  begun    : List Tick
  /-- Input and gain of the previous conversion (R176), and whether its gain had changed. -/
  lastIn   : Option Nat
  lastPga  : Option Nat
  gainRun  : Bool
  /-- Gain and tick of the latest regular conversion (R172, R351), and the gain an idle converter takes next. -/
  regPga   : Nat
  regTick  : Option Tick
  idleGain : Nat
  /-- End of the latest conversion (R19). -/
  lastEnd  : Option (Tick × Nat)
  /-- Pulses that the qualified triggers measure. -/
  pulses   : List Pulse
  /-- Raw sample of the latest pre-close conversion that the check may use (R91, R166). -/
  preClose : Option (BitVec 18)
  /-- An injected start instant is pending (R170). -/
  injAt    : Option (Tick × Nat)
  /-- The injected sequence runs: next slot. -/
  injSlot  : Option Nat
  /-- An injected conversion ran in this tick (INJ_RUN). -/
  injRan   : Bool
  /-- A calibration conversion waits for a window (R172). -/
  deferred : Bool
  /-- MV_OVER or MI_OVER, UNSETTLED, REF_EARLY and PULL of the samples of this tick (Table 5-12). -/
  tags     : BitVec 4
  /-- Entries presented to the engine window of the present tick (R292), and those completed for the next. -/
  entries  : List Entry
  next     : List Entry
deriving DecidableEq, Repr

/-- Stage of the open-wire check (R181). -/
inductive OwPhase where | idle | settlePos | readPos | settleNeg | readNeg
deriving DecidableEq, Repr

/-- Open-wire check (R181–R183): readings in 10 µV units. -/
structure OpenWire where
  phase  : OwPhase
  since  : Tick
  aPos   : Int
  bPos   : Int
  aNeg   : Int
  bNeg   : Int
  /-- OW_SETTLE ticks have passed since the pulls last changed; readings taken since. -/
  settled : Bool
  taken  : Nat
  overH  : Nat
  overL  : Nat
  underH : Nat
  underL : Nat
deriving DecidableEq, Repr

/-- A tally unit (R188–R202). -/
structure Tally where
  isOpen    : Bool
  openTick  : Tick
  gen       : Nat
  rangeV    : Bool
  range     : Nat
  count     : Nat
  sum       : Int
  sumsq     : Nat
  minV      : Int
  maxV      : Int
  minTick   : Tick
  maxTick   : Tick
  unsettled : Nat
  held      : Nat
  unheld    : Nat
  probes    : Nat
  flags     : BitVec 32
  latest    : Int
  /-- Accepted samples since the filter started, newest first (R193). -/
  hist      : List Int
  thrFlag   : Bool
deriving DecidableEq, Repr

/-- A record on its way to the FIFO: closing commit, unit and content (R197, R200). -/
structure TallyRec where
  chan   : Nat
  unit   : Nat
  src    : Nat
  cause  : CloseCause
  closed : Tick
  cfg    : Nat
  filt   : Nat
  body   : Tally
deriving DecidableEq, Repr

/-- The activations of one unit at a commit (R194, R195). -/
structure TallyEv where
  /-- An open event of the unit's open source; a STEP open closes first. -/
  opens  : Bool
  step   : Bool
  /-- A close event of the unit's close source. -/
  closes : Bool
  /-- A host abort. -/
  abort  : Bool
  /-- PARK, SAFE, SPAN_LIMIT or RECONFIG closes the unit (R196, R199). -/
  forced : Option CloseCause
  /-- Origin set of the activation that closes. -/
  origin : List Nat
deriving DecidableEq, Repr

/-- A unit at the present commit: what it was before the stages of R195, its activations so far, and how many of them were
ignored. -/
structure TallyDay where
  before  : Tally
  ev      : TallyEv
  ignored : Nat
deriving DecidableEq, Repr

/-- What a commit brings to the units of a channel (R194): gates before and after, whether a step applies, collected edges. -/
structure UnitInputs where
  tick  : Tick
  was   : BitVec 6
  gates : BitVec 6
  step  : Bool
  edges : List EdgeRec
deriving DecidableEq, Repr

/-- Progress of an AUX resolution (R219). -/
inductive ResPhase where | none | queued | first
deriving DecidableEq, Repr

/-- A tick as the plausibility logic sees a monitor in it (R225): CLEAR or TRIPPED throughout, which of the two, its code and
HYST, whether a sample disagrees, held. -/
structure WmTick where
  tick    : Tick
  steady  : Bool
  tripped : Bool
  code    : Nat
  hyst    : Nat
  dis     : Bool
  isHeld  : Bool
deriving DecidableEq, Repr

/-- A window monitor (R209–R225). -/
structure Monitor where
  st       : WmState
  /-- Comparator side now (true: tripped side), and whether it was on the tripped side in this tick. -/
  side     : Bool
  seenNow  : Bool
  /-- TRIP_SEEN as committed. -/
  tripSeen : Bool
  /-- ACTION has acted in this tick (R216). -/
  acted    : Bool
  /-- The side changed, or the monitor was not CLEAR or TRIPPED throughout, in this tick (R225). -/
  moved    : Bool
  /-- The latest ticks, newest first (R225). -/
  past     : List WmTick
  code     : Nat
  sat      : Bool
  hyst     : Nat
  /-- DAC_FAIL and the runs of failing and passing readings (R224). -/
  dacFail  : Bool
  fails    : Nat
  passes   : Nat
  /-- IMPLAUSIBLE; its run has been logged; the run of disagreeing ticks before those of `past`, with its last tick (R225). -/
  implaus  : Bool
  logged   : Bool
  older    : Option (Tick × Nat)
  /-- Commit of the latest restart. -/
  restart  : Tick
  res      : ResPhase
  /-- The monitor's input reading of a resolution (R219). -/
  reading  : Int
  /-- A range-change window suspends the monitor (R223). -/
  suspended : Bool
  /-- The side that a completed resolution gives at the next commit. -/
  resolved : Option Bool
deriving DecidableEq, Repr

/-- One tick engine (R286). -/
structure Engine where
  regs : Vector Word48 16
  acc0 : Word48
  acc1 : Word48
  sat  : Bool
  /-- Window cycle of the next instruction (R282). -/
  cyc  : Nat
deriving DecidableEq, Repr

/-- A fault request of an engine (R297): code and class F2. -/
structure EngFault where
  code : Nat
  f2   : Bool
deriving DecidableEq, Repr

/-- Engines of a channel, and their effects that wait for the commit (R284, R290–R298). -/
structure Engines where
  te      : Vector Engine 8
  /-- Correlator lags C0–C127 of E6; a lag not listed is 0 (R286). -/
  lags    : List Int
  /-- Chip history of E6, the latest probe tick in bit 0: 1 for a chip of −2 (R286, log 90). -/
  chips   : BitVec 128
  /-- Committed condition flags (R297). -/
  flags   : BitVec 16
  /-- Committed output ports 0x80–0x85. -/
  ports   : SMap Int
  /-- Pending output ports, flags and fault requests of the present window. -/
  outs    : List (Nat × Int)
  pflags  : List (Nat × Bool)
  faults  : List EngFault
  /-- Engine registers at the commit, restored when the window is discarded (R298). -/
  saved   : Vector Engine 8
  savedLags  : List Int
  savedChips : BitVec 128
  /-- The window of the present tick is discarded (R298). -/
  discard : Bool
  /-- Ticks of the windows discarded for the stall budget within the latest 1,000 tk (R502). -/
  budget  : List Tick
  /-- Program re-fetch in progress since this tick (R299); scratchpad restore in progress (R339). -/
  refetch : Option Tick
  /-- Region of the program word that failed last (R339). -/
  badWord : Option Nat
  restore : Option Tick
  /-- Program set run in the present window (Table 10-1). -/
  setNow  : Nat
  /-- Engines halted under D2 (R457), a halt pending, one window stepped (R458). -/
  halted  : Bool
  /-- A resume that acts at the next commit (R457). -/
  resume  : Bool
  haltPend : Bool
  step    : Bool
deriving DecidableEq, Repr

/-- Calibration of a channel (R347–R364). -/
structure ChCal where
  /-- Commit at which the cycle in progress began. -/
  cycleStart : Tick
  pausedClamp : Bool
  pausedPath  : Bool
  cycled      : Bool
  /-- Commit since which a clamp side is engaged without a break. -/
  engSince    : Option Tick
  linValid    : Bool
  /-- BG_STATUS bits CYCLE_LATE and FACTORY_START, and the channel's values of BG_CYCLE_TICK, BG_CYCLES, BG_STEPS, LIN_TICK
  and LIN_INL_MAX (Table 13-9). -/
  late        : Bool
  factory     : Bool
  cycleTick   : Tick
  cycles      : Nat
  steps       : Nat
  linTick     : Tick
  linMax      : Int
  /-- What the cycle in progress has done (R350–R352): calibration conversions by converter and gain code (key 4v + g), AUX
  readings of the clamp DACs and threshold DACs (keys 0, 1 and 2 + m), and how many ticks the channel was PARKED, each
  converter was idle and each monitor was not OFF (keys 0, 1 + v and 3 + m). -/
  convs       : SMap Nat
  readings    : SMap Nat
  ticksOf     : SMap Nat
  /-- Gain codes of each converter that regular conversions of the cycle used, bit 4v + g. -/
  gains       : BitVec 8
  /-- MV calibration conversions of the linearisation pass in progress (R356). -/
  linConvs    : Nat
deriving DecidableEq, Repr

/-- What a commit's application of a step and its engine outputs may change, as it was before (R255, R492). -/
structure Applied where
  force  : Force
  ol     : OuterLoop
  sine   : Sine
  comp   : Comp
  rc     : RangeChange
  gust   : Gust
  tally  : Vector Tally 16
  recs   : List TallyRec
  wm     : Vector Monitor 4
  /-- The channel before the engine window that ended was taken over: engines, sample entries, tally units, load watch. -/
  eng    : Engines
  mvSeen : List Entry
  miSeen : List Entry
  units  : Vector Tally 16
  lw     : LoadWatch
deriving DecidableEq, Repr

/-- What a channel was before the selection that ended a span (R68): commit, barker, stream, counters, and the program set
and force targets of the step before. -/
structure Redo where
  tick   : Tick
  bk     : Barker
  spool  : Spool
  regs   : List (Nat × Nat)
  pset   : Nat
  target : Code20
  prevTarget : Code20
deriving DecidableEq, Repr

/-- A channel. -/
structure Channel where
  regs   : SMap Nat
  force  : Force
  bk     : Barker
  spool  : Spool
  /-- The channel before the present commit's application. -/
  undo   : Option (Tick × Applied)
  /-- The channel before the latest selection that ended a span: what R68 goes back to. -/
  redo   : Option Redo
  sine   : Sine
  ol     : OuterLoop
  comp   : Comp
  lw     : LoadWatch
  rc     : RangeChange
  gust   : Gust
  mv     : Conv
  mi     : Conv
  /-- The previous tick as conversions saw it. -/
  was    : TickFacts
  ow     : OpenWire
  tally  : Vector Tally 16
  /-- Closed units whose records enter the FIFO at the next commit (R197). -/
  recs   : List TallyRec
  /-- The units at the present commit. -/
  unitsIn : UnitInputs
  days   : List (Nat × TallyDay)
  wm     : Vector Monitor 4
  edges  : List EdgeRec
  /-- Hold run of the fabric hold consumer: first and last commit with a request (R316). -/
  hold   : Option (Tick × Tick)
  /-- Work of this tick discarded: the tick that the next commit begins... is held (R68); the cause's code. -/
  lost   : Option Nat
  /-- Consumers that overran in this tick (R315). -/
  ovr    : Word64
  eng    : Engines
  cal    : ChCal
deriving DecidableEq, Repr

end Sys2Proof.Machine
end

