-- ==== Sys2Proof/Machine/DeviceState.lean ====
section
/-! DEFINITION. The state of a stall and of the module's shared parts: power and boot, REFCLK and SYNC, fabric, result
FIFO and session, fault manager and logs, memories, engines' programs, object-dictionary traffic, EtherCAT, PCI Express,
loads, calibration store, security and debug. Objects that are settings, counters or latest results live in the register
maps of their scope. -/

namespace Sys2Proof.Machine

/-- POWER_STATE (Table 17-1). -/
inductive PowerState where | off | boot | quiet | parked | armed | safe
deriving DecidableEq, Repr

/-- REFCLK_STATE (Table 2-7). -/
inductive RefclkState where | absent | present | locked | holdover
deriving DecidableEq, Repr

/-- EPOCH_STATE (R42, R44). -/
inductive EpochState where | localTime | domain | mismatch
deriving DecidableEq, Repr

/-- CAL_STATE of the SYNC loop (Table 2-5). -/
inductive LoopCal where | notDone | measuring | done | failed | doneLeaf
deriving DecidableEq, Repr

/-- LOCK_STATE (R52, R54). -/
inductive LockState where | free | acquiring | locked | hold
deriving DecidableEq, Repr

/-- START_STATE (R60, R61). -/
inductive StartState where | none | pending | started | late | aborted
deriving DecidableEq, Repr

/-- Start-up and power (R463–R483). -/
structure Power where
  state      : PowerState
  /-- Boot phase in progress: 0 before power-good, 1–3 the phases of Table 17-3, 4 all ended. -/
  phase      : Nat
  released   : Bool
  strap      : BitVec 6
  ecMode     : BitVec 2
  /-- Trust-core self-test passed (R26, R433). -/
  trustOk    : Bool
  /-- Stalls whose analog circuits are up; an analog power-up after QUIET is running (R465). -/
  analogUp   : Bool
  /-- The MRAM failed its readiness check (R479). -/
  mramFail   : Bool
  /-- Shutdown marker in the retained store (R481): 0 none. -/
  marker     : Nat
  /-- Self-test in progress: stalls under test and the commit it began. -/
  selfTick   : Tick
  /-- FLT_N asserted (R508), PG_OUT high (R469). -/
  fltN       : Bool
  pgOut      : Bool
  /-- The flash as the module last read or wrote it, and ACTIVE of the directory in force (R474). -/
  flash      : Option Flash
  dirActive  : Nat
  /-- Defaults of the K records requested for the next boot (R387). -/
  loadDefaults : Bool
  /-- Ticks in a row at whose commit the aggregate current stood above 24 A; AGG_CURRENT has been raised for this
  excursion (R29). -/
  aggOver    : Nat
  aggRaised  : Bool
deriving DecidableEq, Repr

/-- REFCLK, tick phase lock, SYNC words and starts (R33–R66). -/
structure SyncUnit where
  refclk     : RefclkState
  epoch      : EpochState
  gen        : Nat
  loopCal    : LoopCal
  failCode   : Nat
  lock       : LockState
  /-- Applied forward delay D of the parent and a larger one waiting for PARKED (R53), 10 ps units. -/
  parentD    : Nat
  offeredD   : Option Nat
  missRun    : Nat
  driftRaised : Bool
  start      : StartState
  startTick  : Tick
  /-- Bits of the latest marks, newest last, and the word of the slot before where it has been acted on (R46, R48). -/
  rxBits     : List Bool
  lastCmd    : Option (Nat × Nat)
  /-- Word to forward in the next slot, and the root's queue of words to send (command, operand). -/
  forward    : Option (Nat × Nat)
  sendQ      : List (Nat × Nat)
  /-- Word that SYNC_OUT carries in the present slot; none while the land is held low. -/
  tx         : Option (Nat × Nat)
  /-- The root has sent its first EPOCH (R484). -/
  epochSent  : Bool
  /-- The root has sent the first copy of EPOCH: the next slot begins at this tick number. -/
  rootEpoch  : Option Tick
  /-- Next CAL_LEVEL of a domain calibration and its commit (R57). -/
  calNext    : Option (Nat × Tick)
  measSince  : Tick
  /-- Cutoff side of the latest SYNC0 event and cycles since the other side (R65). -/
  sync0Late  : Option Bool
  sync0Run   : Nat
  /-- Commit of the latest phase step in LOCKED (R52). -/
  lastStep   : Option Tick
  /-- Distributed Clocks system time at the start of the present tick, ns (R66). -/
  dcNow      : Word64
deriving DecidableEq, Repr

/-- Scope of a fault (Table 18-5). -/
inductive Scope where | channel | stall | device
deriving DecidableEq, Repr

/-- A fault detected or queued (R487–R497). -/
structure FaultRec where
  code   : Nat
  cls    : Nat
  scope  : Scope
  unit   : Nat
  detail : Nat
  detect : Tick
  cause  : Nat
deriving DecidableEq, Repr

/-- A fault log entry (Table 18-5). -/
structure LogEntry where
  tick     : Tick
  code     : Nat
  cls      : Nat
  nested   : Bool
  escal    : Bool
  switched : Bool
  scope    : Scope
  unit     : Nat
  action   : Nat
  detail   : Nat
  detect   : Tick
  drops    : Nat
  seq      : Nat
  cause    : Nat
deriving DecidableEq, Repr

/-- A violation log entry (Table 18-6). -/
structure ViolEntry where
  tick   : Tick
  source : Nat
  code   : Nat
  detail : Nat
  answer : Nat
  seq    : Nat
deriving DecidableEq, Repr

/-- Fault manager and logs (R487–R508). -/
structure FaultMgr where
  /-- Detected faults and the commit at which each is presented (R490). -/
  due      : List (Tick × FaultRec)
  queue    : List FaultRec
  escal    : Option FaultRec
  /-- Handlings in progress: class and the last commit each occupies (R495). -/
  active   : List (Nat × Tick)
  /-- F5 handlings whose entry waits for the following commit (R495). -/
  f5log    : List FaultRec
  drops    : Nat
  f4       : List Nat
  log      : List LogEntry
  seq      : Nat
  readUpto : Nat
  hist     : List LogEntry
  viol     : List ViolEntry
  violSeq  : Nat
  violRead : Nat
  /-- Channels with a SAFE entry awaiting confirmation at this commit (R492). -/
  awaiting : List (Nat × Tick)
deriving DecidableEq, Repr

/-- A pulse that an event drives on an output land (R322): the pin, EVIO pins from 0 and MKO pins from 16; the instants at
which the land goes active and inactive; and the origin set of the activation. -/
structure OutPulse where
  pin    : Nat
  start  : Tick × Nat
  stop   : Tick × Nat
  origin : List Nat
deriving DecidableEq, Repr

/-- Event fabric (R307–R322). -/
structure Fabric where
  /-- Producers that have fired in this tick, and those that fire in the first cycles of the next (R309, R312). -/
  fired    : List Nat
  firedNext : List Nat
  /-- Tethers whose LOOP latches at the next commit (R319), and locked tethers (R320). -/
  loops    : List Nat
  locks    : BitVec 128
  /-- Output pulses of EVIO and MKO pins, the latest first, kept for 20 ns after their end (R322, Table 11-4). -/
  outs     : List OutPulse
  /-- Where an activation last reached each output or stall trigger: (consumer, tick, cycle), for merges (R314). -/
  arrivals : List (Nat × (Tick × Nat))
  /-- EVIO pins whose STD or DIR changed: their producers are quiet up to and including a tick (R321). -/
  quiet    : List (Nat × Tick)
  /-- MKO lands: level by marker service or trigger service, and mode of each pin (R275, R276). -/
  mkoLevel : BitVec 8
  mkoMode  : Vector Nat 8
  /-- A write of 1 to MKO_RUN has acted (Table 9-4). -/
  mkoGo    : Bool
  /-- Producers of the steps that apply at the present commit, with their inherited origin sets: they fire when its last
  command is over (R233, R234, R255). -/
  steps    : List (Nat × List Nat)
  /-- The commands of the present commit are not over. -/
  atCommit : Bool
deriving DecidableEq, Repr

/-- An entry of the result FIFO: a record with its SEQ, or an authentication block (R203). -/
inductive FifoEntry where
  | record (seq : Nat) (bytes : List Byte)
  | block (bytes : List Byte)
deriving DecidableEq, Repr

/-- A session end that waits for room (R204): whether a new session follows (R452). -/
structure EndWait where
  roll : Bool
deriving DecidableEq, Repr

/-- Result FIFO and result session (R203–R206). -/
structure Fifo where
  entries   : List FifoEntry
  /-- Entries of the head that a reader has read and not acknowledged. -/
  readCnt   : Nat
  head      : Nat
  /-- Records of the present group, oldest first, with the commit of the first. -/
  group     : List (List Byte)
  groupSeq  : Nat
  groupTick : Tick
  droppedBlk : Nat
  inDrop    : Bool
  holding   : Bool
  session   : Nat
  recSeq    : Nat
  blkSeq    : Nat
  prevTag   : List Byte
  /-- K_res of the session (R451). -/
  key       : List Byte
  endWait   : Option EndWait
deriving DecidableEq, Repr

/-- The verdict on a container (R440, Table 16-8): code, signature block, link and carrier, type, ARB_VALUE of a bump, TARGET
of its descriptor, signers, body in clear, and the container. -/
structure Verdict where
  code    : Nat
  block   : Nat
  bulk    : Bool
  sec     : Bool
  type    : Nat
  arb     : Option Nat
  target  : Nat
  signers : List Nat
  body    : List Byte
  box     : List Byte
deriving DecidableEq, Repr

/-- What a host request that waits for its commit asks (R373, R384, R392, R394, R441). -/
inductive HostReq where
  /-- A container has been judged (R440). -/
  | judge (v : Verdict)
  | one (idx sub len value : Nat)
  /-- Complete access from subindex 1. -/
  | whole (idx : Nat) (values : List Nat)
  /-- PD_CMD_ACK and PD_CMD_TICK take a processed frame's sequence. -/
  | ack (seq : Nat)
  /-- PD_WD_ACTION 2 begins. -/
  | holdAll
  /-- A kept object whose record write failed returns to its previous value. -/
  | revert (idx sub old : Nat)
deriving DecidableEq, Repr

/-- A host request on its way to its commit (R378). -/
structure HostWrite where
  act    : Tick
  /-- Arrival: tick, engine cycle, and order within the cycle: 0 process data, 1 SDO, 2 bulk link. -/
  arrived : Tick
  cyc    : Nat
  rank   : Nat
  /-- Source of R507: 0 mailbox, 1 process data, 5 window, 7 OBJ queue. -/
  source : Nat
  /-- It came through a sealed session. -/
  sealedBy : Bool
  /-- A command of process data: a refusal counts in PD_CMD_REFUSED. -/
  cmd    : Bool
  req    : HostReq
deriving DecidableEq, Repr

/-- Outcome of restoring a kept object (R386, R399). -/
inductive Restored where | restored | defaulted | asNew | byRequest
deriving DecidableEq, Repr

/-- A retained record write in progress: record, object written, value before (R384). -/
structure RetainWrite where
  record : Nat
  idx    : Nat
  sub    : Nat
  old    : Nat
  since  : Tick
  /-- Source of the write (R507): 0 mailbox, 1 process data, 5 window, 7 OBJ queue. -/
  source : Nat
deriving DecidableEq, Repr

/-- Object-dictionary traffic: host writes waiting, retained writes, restore outcomes, process data (R370–R399). -/
structure Dict where
  writes   : List HostWrite
  retains  : List RetainWrite
  /-- The retained copy of each record: object key and value, by record. -/
  records  : SMap (SMap Nat)
  outcome  : SMap Restored
  /-- Answer to the latest read or write of each kind: value read, abort code (0 none). -/
  answer   : Nat
  abort    : Nat
  data     : List Byte
  /-- Frame waiting in SM2 for SYNC0 (R391), tick and cycle of the last processed frame. -/
  frame    : Option (List (Nat × Nat))
  lastFrame : Option (Tick × Nat)
  /-- Inputs latched for SM3 (R393). -/
  inputs   : List Nat
  /-- Source of the request being applied (R507): 0 mailbox, 1 process data, 5 window, 7 OBJ queue. -/
  source   : Nat
  /-- Tick in which the queued request being applied arrived (R38, R251). -/
  arrived  : Option Tick
  /-- Hold requests of PD_WD_ACTION 2 stand until a frame is processed (R394). -/
  holdAll  : Bool
deriving DecidableEq, Repr

/-- EtherCAT state machine code (R403): INIT 1, PREOP 2, SAFEOP 4, OP 8. -/
inductive EsmState where | init | preop | safeop | op
deriving DecidableEq, Repr

/-- EtherCAT (R401–R406). -/
structure EtherCat where
  esm      : EsmState
  errInd   : Bool
  /-- Frames processed since SAFEOP was entered (R403). -/
  frames   : Nat
  /-- SYNC0 has been seen, and the tick of the latest event. -/
  sync0    : Bool
  sync0At  : Tick
  /-- Run of SYNC0 events without a frame (R404). -/
  missed   : Nat
  /-- Mailbox error reply of the latest request, empty where it was served (Table 15-13). -/
  mailbox  : List Nat
deriving DecidableEq, Repr

/-- A load that has written its lines (R417–R419): link, the commit at which it acts once that is known, its container while
it is verified, the lines it writes, and for a refill its segment, the stream index that it reaches, the steps by which WR
grows and its end flag. -/
structure Claim where
  bulk  : Bool
  act   : Option Tick
  box   : List Byte
  lines : List Nat
  seg   : Option Nat
  last  : Nat
  grow  : Nat
  fin   : Bool
deriving DecidableEq, Repr

/-- The EtherCAT load (R421), staged or submitted, and the loads of both links that wait for their commits. -/
structure LoadUnit where
  staging  : List Byte
  begun    : Bool
  busy     : Bool
  claims   : List Claim
deriving DecidableEq, Repr

/-- State of one PCI Express queue (R415). -/
structure Queue where
  base    : Nat
  size    : Nat
  enabled : Bool
  running : Bool
  halted  : Bool
  cause   : Nat
  head    : Nat
  tail    : Nat
  /-- FLAGS bit 0 of the descriptors from HEAD on (Tables 15-7, 15-8). -/
  notify  : List Bool
deriving DecidableEq, Repr

/-- PCI Express (R407–R426). -/
structure Pcie where
  perst    : Bool
  bme      : Bool
  up       : Bool
  /-- The function is in D3hot (R408). -/
  d3       : Bool
  tickHi   : Nat
  irq      : BitVec 32
  irqMask  : BitVec 32
  irqSent  : Nat
  expMark  : Nat
  winStatus : Nat
  winRefused : Nat
  winDone  : Nat
  load     : Queue
  obj      : Queue
  exp      : Queue
  /-- STATUS written to LOAD descriptors, newest first: (ring index, STATUS). -/
  done     : List (Nat × Nat)
deriving DecidableEq, Repr

/-- Lifecycle (Table 16-1). -/
inductive Lifecycle where | blank | vendor | owned | retired
deriving DecidableEq, Repr

/-- SESS_STATE (Table 16-13). -/
inductive SessState where | closed | offered | opened
deriving DecidableEq, Repr

/-- A stream of containers (R444, R445). -/
structure Stream where
  id     : Nat
  mask   : Nat
  lineLo : Nat
  lineHi : Nat
  ctr    : Nat
  key    : List Byte
deriving DecidableEq, Repr

/-- What an entry of the tick trace tells of (R456). -/
inductive TraceKind where
  | selection | hold | jump | loopBack | underrun
  | event (code : Nat)
  | fault (code : Nat)
  | flags
deriving DecidableEq, Repr

/-- An entry of the tick trace (R456); channel 0xFF where none is concerned. -/
structure TraceEntry where
  tick  : Tick
  chan  : Nat
  what  : TraceKind
  addr  : Nat
  kind  : Nat
  flags : Nat
deriving DecidableEq, Repr

/-- What the test access port gives out: bytes, or trace entries, whose layout the manual does not give. -/
inductive TapData where
  | bytes (l : List Byte)
  | trace (l : List TraceEntry)
deriving DecidableEq, Repr

/-- Trust, sessions, debug and the test access port (R428–R460). -/
structure Sec where
  life      : Lifecycle
  /-- Owner slots: 0 blank, 1 in use, 2 void; owner policy bits; anti-rollback counters; D3 count. -/
  slots     : Vector Nat 2
  policy    : Nat
  arb       : Vector Nat 4
  d3Count   : Nat
  drbgFail  : Bool
  sess      : SessState
  sessLink  : Nat
  sessRights : Nat
  offerTick : Tick
  sessNo    : Nat
  sealSeq   : Nat
  sealFails : List Tick
  /-- Streams open, by slot. -/
  streams   : Vector (Option Stream) 16
  debug     : Nat
  dbgPend   : Nat
  dbgTick   : Tick
  dbgNonce  : List Byte
  draws     : Nat
  bscan     : Nat
  tapIr     : Nat
  tapOut    : TapData
  attest    : List Byte
  statement : List Byte
  prevStatement : List Byte
  sealedOut : List Byte
  devOffer  : List Byte
  tapRelease : Bool
  /-- Owner key and its hash, in the slot in use (R436). -/
  ownerPub  : List Byte
  ownerHash : List Byte
  /-- Keys and salts of the open sealed session (R447). -/
  sealKeys  : List Byte
  /-- Ephemeral key pair of the session offered last: the draw that made it, plus 1 (R447). -/
  sessPair  : Nat
  /-- Containers written to SEC_CONTAINER that wait for verification, with their link (R441). -/
  waiting   : List (Bool × List Byte)
  /-- Containers that passed R440, until the chapter of their type takes them. -/
  passed    : List Verdict
  /-- The sealed record is erased in both banks (R450). -/
  recErased : Bool
  /-- The tick trace, newest first (R456): what it holds is the latest entries of its 64 KiB. -/
  trace     : List TraceEntry
deriving DecidableEq, Repr

/-- A replay-list entry (R337, Table 12-5). -/
structure ReplayEntry where
  line  : Nat
  cause : Nat
  seg   : Nat
  tick  : Tick
deriving DecidableEq, Repr

/-- A march-test borrow of one memory (R342): memory 0 ledger, 1 + s program memory, 9 + s scratchpad. -/
structure Borrow where
  mem    : Nat
  region : Nat
  since  : Tick
  testing : Bool
deriving DecidableEq, Repr

/-- A program in program memory: capabilities and words (R300). -/
structure Program where
  caps  : BitVec 8
  /-- A program of the image's default library, given by what it does (R303, log 50). -/
  lib   : Bool
  words : List (BitVec 32)
deriving DecidableEq, Repr

/-- A write of a scratchpad word in the present window: its key, window cycle, writer (engine number TE, 512 the bulk side), the
word, and what it held before the window's first write. -/
structure ScrWrite where
  key : Nat
  cyc : Nat
  te  : Nat
  val : Word64
  was : Word64
deriving DecidableEq, Repr

/-- A program set of a channel (R300): flags, program IDs and cycles of E0–E7. -/
structure ProgSet where
  urgent : Bool
  progs  : List Nat
  cycles : List Nat
deriving DecidableEq, Repr

/-- Memories (R326–R346): ledger, directory, scratchpads and program memories are sparse; a word not listed is 0. -/
structure Memories where
  ledger   : SMap Word64
  dir      : SMap Word64
  /-- Scratchpad word `a` of stall `s` at `8192 * s + a`. -/
  scr      : SMap Word64
  /-- Program `id` of stall `s` at `4096 * s + id`; set `k` of channel `n` at `64 * n + k`. -/
  progs    : SMap (Option Program)
  sets     : SMap (Option ProgSet)
  /-- Library parameters kept for restores (Table 12-3): same addresses as `scr`. -/
  params   : SMap Word64
  replay   : List ReplayEntry
  borrows  : List Borrow
  /-- Next region of each memory's march test. -/
  nextRegion : SMap Nat
  bankSpare : Vector Nat 16
  /-- Spare-mapped regions: (memory, region). -/
  mapped   : List (Nat × Nat)
  /-- Tick of the latest release of each memory's borrow (R344). -/
  released : List (Nat × Tick)
  /-- Tick of the latest borrow of each memory (R342). -/
  marched  : List (Nat × Tick)
  sweep    : Nat
  /-- Scratchpad writes of the present window, latest command first (R293, R296, R329). -/
  stores   : List ScrWrite
  /-- The writes of the window that ended at the latest commit (R298). -/
  ended    : List ScrWrite
deriving DecidableEq, Repr

/-- Entry of the system calibration record (Table 13-7). -/
structure SysEntry where
  z     : Int
  s     : Int
  count : Nat
  flags : Nat
  /-- CAL_DC. -/
  dc    : Nat
deriving DecidableEq, Repr

/-- SYSCAL_STATE (Table 13-9). -/
inductive SysCalState where | idle | waiting | measuring | zeroDone | storing | done | aborted
deriving DecidableEq, Repr

/-- System calibration and the calibration store (R349–R368). -/
structure CalDev where
  sys       : SysCalState
  /-- The point being taken is a full point; its commits s and p. -/
  full      : Bool
  since     : Tick
  begun     : Tick
  zero      : Option Int
  /-- Channel, quantity and range slot of the accepted zero point. -/
  zeroKey : Option (Nat × Nat × Nat)
  /-- Channel, quantity (true: MI), range and slot of the point in progress. -/
  point   : Option (ChanId × Bool × Nat × Nat)
  /-- Measuring ticks and held ticks so far, whether a clamp side engaged in one, and the commit after the last. -/
  meas    : Nat
  measHeld : Nat
  measClamp : Bool
  measEnd : Tick
  /-- Background-corrected values of the measuring ticks, in 2^−104 LSB (R362), and whether one carried a tag. -/
  taken   : List (Tick × Int)
  tagged  : Bool
  /-- z and s − 1 on their way to the store. -/
  newZ    : Int
  newS    : Int
  /-- Words of the background snapshot in use, by scratchpad key (R367). -/
  snap    : List (Nat × Word64)
  entries   : SMap SysEntry
  restored  : Bool
deriving DecidableEq, Repr

/-- A stall (Table 1-2): registers, reference, AUX converter, derating, band-gap, latches and link. -/
structure Stall where
  regs      : SMap Nat
  tj        : Int
  derate    : Nat
  /-- A derating level that acts at the next commit (R112). -/
  derateNew : Option Nat
  /-- Rails whose leg stands outside its band (RAIL_STATE 2, Table 3-13). -/
  railOut   : BitVec 4
  bufferOn  : Option Tick
  refx      : Bool
  refxFailed : Bool
  refxBad   : Nat
  refxSwitch : Bool
  fallTick  : Option Tick
  auxPos    : Nat
  rotThresh : Nat
  rotHouse  : Nat
  rotCal    : Nat
  /-- Injected AUX sequence: next slot and the instant from which it may convert (R180). -/
  auxInj    : Option (Nat × Tick × Nat)
  /-- Pulses that the AUX injected trigger measures: trailing edge, width in bounds (R180). -/
  auxPulses : List Pulse
  owChan    : Nat
  /-- Resolutions in order: restart commit and monitor 4p + m (R219). -/
  resQ      : List (Tick × Nat)
  bgState   : Nat
  bgGood    : Nat
  /-- The stall took no part in the latest comparison (BG_STATE 2); transfer readings of the present period. -/
  bgOut     : Bool
  bgReads   : Nat
  bgSum     : Int
  f3        : List Nat
  f5        : List Nat
  /-- F5 action taken by the stall die, for the controller to read at the next commit (R500). -/
  lastResort : Option FaultRec
  /-- Ticks of the uncorrectable words in the latest 1,000 tk, the present runs of silent ticks (R12, R546). -/
  uncorr    : List Tick
  silentDie : Nat
  silentCtl : Nat
  /-- The latest silent tick. -/
  silentAt  : Option Tick
  badTicks  : List Tick
  underTest : Bool
  /-- The latest self-test of the stall passed (Table 18-2). -/
  selfPass  : Bool
  /-- AUX conversions that concern each position, for ports AUX_0–AUX_3 (Table 10-5). -/
  auxSeen   : List (Nat × Nat × Int)
  /-- Those of the previous tick, which the engine window of the present tick reads. -/
  auxPort   : List (Nat × Nat × Int)
deriving DecidableEq, Repr

end Sys2Proof.Machine
end

