-- ==== Sys2Proof/Machine/Objects.lean ====
section
/-! DEFINITION. The object tables of the manual: one name per object, its place (index and subindex), type, access
right, retain class (R374, R375, R380), and the value it holds by default (the Default columns). Channel objects are at
B = 0x6000 + 0x40 n, stall objects at S = 0x7000 + 0x20 s (R396); the consumer objects C = 0x2280 + n and
D = 0x22C0 + n of channel n are the channel's offsets 0x40 and 0x41 here. A key is offset * 256 + subindex. -/

namespace Sys2Proof.Machine

/-- Access rights (R375). -/
inductive Access where | ro | wo | rw | rwp | rws
deriving DecidableEq, Repr

/-- Retain classes (R380, R381): V volatile, K kept, S sealed. -/
inductive Retain where | volatile | kept | sealed
deriving DecidableEq, Repr

/-- Data types (Table 14-1). -/
inductive ObjType where | bool | int | uint | code20 | signed20 | tick48 | text | octets
deriving DecidableEq, Repr

/-- One row of an object table: a rectangle of indices (or offsets) and subindices. -/
structure ObjRow where
  idxLo : Nat
  idxHi : Nat
  subLo : Nat
  subHi : Nat
  ty : ObjType
  bits : Nat
  acc : Access
  ret : Retain
deriving DecidableEq, Repr

namespace Obj

/-- `0x2100:01` (Table 2-7). -/
abbrev TICK_NOW : Nat := 0x210001
/-- `0x2100:02` (Table 2-7). -/
abbrev REFCLK_STATE : Nat := 0x210002
/-- `0x2100:03` (Table 2-7). -/
abbrev REFCLK_DEV : Nat := 0x210003
/-- `0x2100:04` (Table 2-7). -/
abbrev REFCLK_LOSSES : Nat := 0x210004
/-- `0x2100:05` (Table 2-7). -/
abbrev EPOCH_GEN : Nat := 0x210005
/-- `0x2100:06` (Table 2-7). -/
abbrev EPOCH_STATE : Nat := 0x210006
/-- `0x2100:07` (Table 2-7). -/
abbrev LAST_WRITE_TICK : Nat := 0x210007
/-- `0x2101:01` (Table 2-7). -/
abbrev SYNC_ROLE : Nat := 0x210101
/-- `0x2101:02` (Table 2-7). -/
abbrev SYNC_LEVEL : Nat := 0x210102
/-- `0x2101:03` (Table 2-7). -/
abbrev SYNC_OUT_EN : Nat := 0x210103
/-- `0x2101:04` (Table 2-7). -/
abbrev RET_FITTED : Nat := 0x210104
/-- `0x2101:05` (Table 2-7). -/
abbrev IN_TRIM : Nat := 0x210105
/-- `0x2102:01` (Table 2-7). -/
abbrev CAL_STATE : Nat := 0x210201
/-- `0x2102:02` (Table 2-7). -/
abbrev LOOP_RT : Nat := 0x210202
/-- `0x2102:03` (Table 2-7). -/
abbrev FWD_DELAY : Nat := 0x210203
/-- `0x2102:04` (Table 2-7). -/
abbrev PARENT_DELAY : Nat := 0x210204
/-- `0x2102:05` (Table 2-7). -/
abbrev LOOP_SPREAD : Nat := 0x210205
/-- `0x2102:06` (Table 2-7). -/
abbrev FAIL_CODE : Nat := 0x210206
/-- `0x2102:07` (Table 2-7). -/
abbrev CAL_CMD : Nat := 0x210207
/-- `0x2103:01` (Table 2-7). -/
abbrev LOCK_STATE : Nat := 0x210301
/-- `0x2103:02` (Table 2-7). -/
abbrev PHASE_ERR : Nat := 0x210302
/-- `0x2103:03` (Table 2-7). -/
abbrev PHASE_ADJ : Nat := 0x210303
/-- `0x2103:04` (Table 2-7). -/
abbrev MISSING_MARKS : Nat := 0x210304
/-- `0x2103:05` (Table 2-7). -/
abbrev WORD_ERRORS : Nat := 0x210305
/-- `0x2104:01` (Table 2-7). -/
abbrev START_TICK : Nat := 0x210401
/-- `0x2104:02` (Table 2-7). -/
abbrev START_STATE : Nat := 0x210402
/-- `0x2104:03` (Table 2-7). -/
abbrev START_REQ : Nat := 0x210403
/-- `0x2104:04` (Table 2-7). -/
abbrev ABORT_REQ : Nat := 0x210404
/-- `0x2104:05` (Table 2-7). -/
abbrev ARM_MASK : Nat := 0x210405
/-- `0x2105:01` (Table 2-7). -/
abbrev EPOCH_REQ : Nat := 0x210501
/-- `0x2105:02` (Table 2-7). -/
abbrev DC_AT_EPOCH : Nat := 0x210502
/-- `0x2105:03` (Table 2-7). -/
abbrev DC_AT_MAP : Nat := 0x210503
/-- `0x2105:04` (Table 2-7). -/
abbrev TICK_AT_MAP : Nat := 0x210504
/-- `0x2106:01` (Table 2-7). -/
abbrev SYNC0_PHASE : Nat := 0x210601
/-- `0x2106:02` (Table 2-7). -/
abbrev SYNC0_CYCLE : Nat := 0x210602
/-- `0x2106:03` (Table 2-7). -/
abbrev SYNC0_STATE : Nat := 0x210603
/-- `B+0x00:01` (Table 3-10). -/
abbrev CH_STATE : Nat := 0x1
/-- `B+0x00:02` (Table 3-10). -/
abbrev FORCE_MODE : Nat := 0x2
/-- `B+0x00:03` (Table 3-10). -/
abbrev SETPOINT_NOW : Nat := 0x3
/-- `B+0x00:04` (Table 3-10). -/
abbrev RPAIR_NOW : Nat := 0x4
/-- `B+0x00:05` (Table 3-10). -/
abbrev STATUS : Nat := 0x5
/-- `B+0x00:06` (Table 3-10). -/
abbrev STATUS_STICKY : Nat := 0x6
/-- `B+0x01:01` (Table 3-10). -/
abbrev ARM_MODE : Nat := 0x101
/-- `B+0x01:02` (Table 3-10). -/
abbrev START_MODE : Nat := 0x102
/-- `B+0x01:03` (Table 3-10). -/
abbrev PARK_RAMP : Nat := 0x103
/-- `B+0x01:04` (Table 3-10). -/
abbrev INTERP : Nat := 0x104
/-- `B+0x02:01` (Table 3-10). -/
abbrev DECL_V : Nat := 0x201
/-- `B+0x02:02` (Table 3-10). -/
abbrev DECL_I : Nat := 0x202
/-- `B+0x03:01` (Table 3-10). -/
abbrev HEADROOM : Nat := 0x301
/-- `B+0x04:01` onward, entry `i` (Table 3-10). -/
abbrev RPAIR (i : Nat) : Nat := 0x401 + i
/-- `B+0x05:01` (Table 3-10). -/
abbrev SAFE_POLICY : Nat := 0x501
/-- `B+0x05:02` (Table 3-10). -/
abbrev SAFE_RAMP : Nat := 0x502
/-- `B+0x05:03` (Table 3-10). -/
abbrev SAFE_CLAMP_HI : Nat := 0x503
/-- `B+0x05:04` (Table 3-10). -/
abbrev SAFE_CLAMP_LO : Nat := 0x504
/-- `B+0x06:01` (Table 3-10). -/
abbrev GANG_ROLE : Nat := 0x601
/-- `B+0x06:02` (Table 3-10). -/
abbrev GANG_LEADER : Nat := 0x602
/-- `B+0x06:03` (Table 3-10). -/
abbrev GANG_SIZE : Nat := 0x603
/-- `B+0x06:04` (Table 3-10). -/
abbrev SHARE_DEV : Nat := 0x604
/-- `B+0x07:01` (Table 3-10). -/
abbrev SENSE_MODE : Nat := 0x701
/-- `B+0x07:02` (Table 3-10). -/
abbrev GUARD_EN : Nat := 0x702
/-- `0x2010:01` (Table 3-12). -/
abbrev ARM_REQ : Nat := 0x201001
/-- `0x2010:02` (Table 3-12). -/
abbrev PARK_REQ : Nat := 0x201002
/-- `0x2010:03` (Table 3-12). -/
abbrev ARMED_MASK : Nat := 0x201003
/-- `0x2010:04` (Table 3-12). -/
abbrev ARM_RESULT : Nat := 0x201004
/-- `0x2010:05` (Table 3-12). -/
abbrev ARM_RESULT_TICK : Nat := 0x201005
/-- `0x2011:01` (Table 3-12). -/
abbrev DECL_P_TOTAL : Nat := 0x201101
/-- `0x2011:02` (Table 3-12). -/
abbrev DECL_I_TOTAL : Nat := 0x201102
/-- `0x2011:03` (Table 3-12). -/
abbrev P_LIMIT : Nat := 0x201103
/-- `0x2011:04` (Table 3-12). -/
abbrev I_LIMIT : Nat := 0x201104
/-- `0x2011:05` (Table 3-12). -/
abbrev I_AGG_NOW : Nat := 0x201105
/-- `0x2011:06` (Table 3-12). -/
abbrev I_AGG_PEAK : Nat := 0x201106
/-- `S+0x08:01` onward, entry `i` (Table 3-13). -/
abbrev RAIL_STATE (i : Nat) : Nat := 0x801 + i
/-- `S+0x08:05` (Table 3-13). -/
abbrev RAIL_FAULTS : Nat := 0x805
/-- `S+0x09:01` (Table 3-13). -/
abbrev TJ : Nat := 0x901
/-- `S+0x09:02` (Table 3-13). -/
abbrev DERATE_LEVEL : Nat := 0x902
/-- `S+0x09:03` (Table 3-13). -/
abbrev DERATE_TICKS : Nat := 0x903
/-- `B+0x08:01` (Table 4-5). -/
abbrev OL_SHIFT : Nat := 0x801
/-- `B+0x08:02` (Table 4-5). -/
abbrev CORR_LIM : Nat := 0x802
/-- `B+0x08:03` (Table 4-5). -/
abbrev CORR_NOW : Nat := 0x803
/-- `B+0x08:04` (Table 4-5). -/
abbrev SLEW : Nat := 0x804
/-- `B+0x08:05` (Table 4-5). -/
abbrev ZOUT : Nat := 0x805
/-- `B+0x09:01` (Table 4-5). -/
abbrev COMP_MODE : Nat := 0x901
/-- `B+0x09:02` (Table 4-5). -/
abbrev COMP_FIXED : Nat := 0x902
/-- `B+0x09:03` (Table 4-5). -/
abbrev COMP_INIT : Nat := 0x903
/-- `B+0x09:04` (Table 4-5). -/
abbrev COMP_MIN : Nat := 0x904
/-- `B+0x09:05` (Table 4-5). -/
abbrev COMP_MAX : Nat := 0x905
/-- `B+0x09:06` (Table 4-5). -/
abbrev COMP_NOW : Nat := 0x906
/-- `B+0x09:07` (Table 4-5). -/
abbrev COMP_STATE : Nat := 0x907
/-- `B+0x09:08` (Table 4-5). -/
abbrev TAIL_DROPS : Nat := 0x908
/-- `B+0x09:09` (Table 4-5). -/
abbrev LAST_MOVE_TICK : Nat := 0x909
/-- `B+0x09:0A` (Table 4-5). -/
abbrev COMP_RS : Nat := 0x90A
/-- `B+0x0A:01` (Table 4-5). -/
abbrev LW_EN : Nat := 0xA01
/-- `B+0x0A:02` (Table 4-5). -/
abbrev C_EST : Nat := 0xA02
/-- `B+0x0A:03` (Table 4-5). -/
abbrev ESR_EST : Nat := 0xA03
/-- `B+0x0A:04` (Table 4-5). -/
abbrev EST_FLAGS : Nat := 0xA04
/-- `B+0x0A:05` (Table 4-5). -/
abbrev EST_TICK : Nat := 0xA05
/-- `B+0x0A:06` (Table 4-5). -/
abbrev TARGET : Nat := 0xA06
/-- `B+0x0A:07` (Table 4-5). -/
abbrev EST_COUNT : Nat := 0xA07
/-- `B+0x0A:08` (Table 4-5). -/
abbrev EST_DISCARDS : Nat := 0xA08
/-- `B+0x0B:01` (Table 4-5). -/
abbrev RC_STATE : Nat := 0xB01
/-- `B+0x0B:02` (Table 4-5). -/
abbrev RC_COUNT : Nat := 0xB02
/-- `B+0x0B:03` (Table 4-5). -/
abbrev RC_LAST_TICK : Nat := 0xB03
/-- `B+0x3A:01` (Table 4-6). -/
abbrev GUST_ARMED : Nat := 0x3A01
/-- `B+0x3A:02` (Table 4-6). -/
abbrev GUST_ARM_CMD : Nat := 0x3A02
/-- `B+0x3A:03` (Table 4-6). -/
abbrev GUST_COUNT : Nat := 0x3A03
/-- `B+0x3A:04` (Table 4-6). -/
abbrev GUST_LAST_TICK : Nat := 0x3A04
/-- `B+0x3A:05` (Table 4-6). -/
abbrev GUST_SUPPRESSED : Nat := 0x3A05
/-- `B+0x3A:06` (Table 4-6). -/
abbrev GUST_REFUSED : Nat := 0x3A06
/-- `B+0x3B:01` onward, entry `i` (Table 4-6). -/
abbrev GUST_TIMING (i : Nat) : Nat := 0x3B01 + i
/-- `B+0x3C:01` onward, entry `i` (Table 4-6). -/
abbrev GUST_INFO (i : Nat) : Nat := 0x3C01 + i
/-- `B+0x10:01` (Table 5-12). -/
abbrev MPLAN_NOW : Nat := 0x1001
/-- `B+0x10:02` (Table 5-12). -/
abbrev MEAS_STATUS : Nat := 0x1002
/-- `B+0x10:03` (Table 5-12). -/
abbrev MEAS_STICKY : Nat := 0x1003
/-- `B+0x11:01` onward, entry `i` (Table 5-12). -/
abbrev MPLAN_HDR (i : Nat) : Nat := 0x1101 + i
/-- `B+0x12:01` onward, entry `i` (Table 5-12). -/
abbrev MV_TIMING (i : Nat) : Nat := 0x1201 + i
/-- `B+0x13:01` onward, entry `i` (Table 5-12). -/
abbrev MI_TIMING (i : Nat) : Nat := 0x1301 + i
/-- `B+0x14:01` onward, entry `i` (Table 5-12). -/
abbrev MV_SLOT (i : Nat) : Nat := 0x1401 + i
/-- `B+0x15:01` onward, entry `i` (Table 5-12). -/
abbrev MI_SLOT (i : Nat) : Nat := 0x1501 + i
/-- `B+0x16:01` (Table 5-12). -/
abbrev MV_INJ_CTRL : Nat := 0x1601
/-- `B+0x16:02` onward, entry `i` (Table 5-12). -/
abbrev MV_INJ_SLOT (i : Nat) : Nat := 0x1602 + i
/-- `B+0x17:01` (Table 5-12). -/
abbrev MI_INJ_CTRL : Nat := 0x1701
/-- `B+0x17:02` onward, entry `i` (Table 5-12). -/
abbrev MI_INJ_SLOT (i : Nat) : Nat := 0x1702 + i
/-- `B+0x18:01` (Table 5-13). -/
abbrev MV_REG_QUAL : Nat := 0x1801
/-- `B+0x18:03` (Table 5-13). -/
abbrev MI_REG_QUAL : Nat := 0x1803
/-- `B+0x18:05` (Table 5-13). -/
abbrev MV_INJ_QUAL : Nat := 0x1805
/-- `B+0x18:07` (Table 5-13). -/
abbrev MI_INJ_QUAL : Nat := 0x1807
/-- `B+0x18:02` (Table 5-13). -/
abbrev MV_REG_WIDTH : Nat := 0x1802
/-- `B+0x18:04` (Table 5-13). -/
abbrev MI_REG_WIDTH : Nat := 0x1804
/-- `B+0x18:06` (Table 5-13). -/
abbrev MV_INJ_WIDTH : Nat := 0x1806
/-- `B+0x18:08` (Table 5-13). -/
abbrev MI_INJ_WIDTH : Nat := 0x1808
/-- `B+0x19:01` (Table 5-13). -/
abbrev OW_EN : Nat := 0x1901
/-- `B+0x19:02` (Table 5-13). -/
abbrev OW_LIMIT : Nat := 0x1902
/-- `B+0x19:03` (Table 5-13). -/
abbrev OW_ACTION : Nat := 0x1903
/-- `B+0x19:04` (Table 5-13). -/
abbrev OW_RESULT : Nat := 0x1904
/-- `B+0x19:05` (Table 5-13). -/
abbrev OW_D_SNSH : Nat := 0x1905
/-- `B+0x19:06` (Table 5-13). -/
abbrev OW_D_SNSL : Nat := 0x1906
/-- `B+0x19:07` (Table 5-13). -/
abbrev OW_LAST_TICK : Nat := 0x1907
/-- `B+0x19:08` (Table 5-13). -/
abbrev OW_COUNT : Nat := 0x1908
/-- `B+0x1A:01` (Table 5-13). -/
abbrev MV_CONV : Nat := 0x1A01
/-- `B+0x1A:02` (Table 5-13). -/
abbrev MI_CONV : Nat := 0x1A02
/-- `B+0x1A:03` (Table 5-13). -/
abbrev MV_OVR : Nat := 0x1A03
/-- `B+0x1A:04` (Table 5-13). -/
abbrev MI_OVR : Nat := 0x1A04
/-- `B+0x1A:05` (Table 5-13). -/
abbrev MV_SKIP_INJ : Nat := 0x1A05
/-- `B+0x1A:06` (Table 5-13). -/
abbrev MI_SKIP_INJ : Nat := 0x1A06
/-- `B+0x1A:07` (Table 5-13). -/
abbrev MV_SKIP_CAL : Nat := 0x1A07
/-- `B+0x1A:08` (Table 5-13). -/
abbrev MI_SKIP_CAL : Nat := 0x1A08
/-- `B+0x1A:09` (Table 5-13). -/
abbrev UNSETTLED_CNT : Nat := 0x1A09
/-- `B+0x1A:0A` (Table 5-13). -/
abbrev WIDTH_REJECT : Nat := 0x1A0A
/-- `B+0x1A:0B` (Table 5-13). -/
abbrev CAL_DEFERRED : Nat := 0x1A0B
/-- `S+0x00:01` (Table 5-14). -/
abbrev AUX_LEN : Nat := 0x1
/-- `S+0x00:02` onward, entry `i` (Table 5-14). -/
abbrev AUX_SLOT (i : Nat) : Nat := 0x2 + i
/-- `S+0x01:01` (Table 5-14). -/
abbrev AUX_INJ_CTRL : Nat := 0x101
/-- `S+0x01:02` onward, entry `i` (Table 5-14). -/
abbrev AUX_INJ_SLOT (i : Nat) : Nat := 0x102 + i
/-- `S+0x01:06` (Table 5-14). -/
abbrev AUX_INJ_QUAL : Nat := 0x106
/-- `S+0x01:07` (Table 5-14). -/
abbrev AUX_INJ_WIDTH : Nat := 0x107
/-- `S+0x02:01` (Table 5-14). -/
abbrev OW_SETTLE : Nat := 0x201
/-- `S+0x02:02` (Table 5-14). -/
abbrev AUX_CONV : Nat := 0x202
/-- `S+0x02:03` (Table 5-14). -/
abbrev AUX_UNKNOWN : Nat := 0x203
/-- `S+0x02:04` (Table 5-14). -/
abbrev AUX_INJ_OVR : Nat := 0x204
/-- `S+0x02:05` (Table 5-14). -/
abbrev THRESH_ROUND_TICK : Nat := 0x205
/-- `S+0x02:06` (Table 5-14). -/
abbrev OW_ROUND_TICK : Nat := 0x206
/-- `S+0x0A:01` (Table 5-14). -/
abbrev REF_SEL : Nat := 0xA01
/-- `S+0x0A:02` (Table 5-14). -/
abbrev REFX_EN : Nat := 0xA02
/-- `S+0x0A:03` (Table 5-14). -/
abbrev REF_STATE : Nat := 0xA03
/-- `S+0x0A:04` (Table 5-14). -/
abbrev REFX_EN_TICK : Nat := 0xA04
/-- `S+0x0A:05` (Table 5-14). -/
abbrev REFX_LEVEL : Nat := 0xA05
/-- `S+0x0A:06` (Table 5-14). -/
abbrev REFX_FAILS : Nat := 0xA06
/-- `B+0x20:01` onward, entry `i` (Table 6-8). -/
abbrev TALLY_CFG (i : Nat) : Nat := 0x2001 + i
/-- `B+0x21:01` onward, entry `i` (Table 6-8). -/
abbrev TALLY_N (i : Nat) : Nat := 0x2101 + i
/-- `B+0x22:01` onward, entry `i` (Table 6-8). -/
abbrev TALLY_FILT (i : Nat) : Nat := 0x2201 + i
/-- `B+0x23:01` onward, entry `i` (Table 6-8). -/
abbrev TALLY_THR (i : Nat) : Nat := 0x2301 + i
/-- `B+0x24:01` (Table 6-8). -/
abbrev TALLY_CMD : Nat := 0x2401
/-- `B+0x24:02` (Table 6-8). -/
abbrev TALLY_OPEN : Nat := 0x2402
/-- `B+0x24:03` (Table 6-8). -/
abbrev TALLY_THR_FLAGS : Nat := 0x2403
/-- `B+0x24:04` (Table 6-8). -/
abbrev TALLY_CLOSED : Nat := 0x2404
/-- `B+0x24:05` (Table 6-8). -/
abbrev TALLY_IGNORED : Nat := 0x2405
/-- `B+0x24:06` (Table 6-8). -/
abbrev TALLY_LATE : Nat := 0x2406
/-- `B+0x25:01` (Table 6-8). -/
abbrev CLOSE_EVT_MASK : Nat := 0x2501
/-- `0x8000:01` (Table 6-9). -/
abbrev FIFO_POLICY : Nat := 0x800001
/-- `0x8000:02` (Table 6-9). -/
abbrev HOLD_MARK : Nat := 0x800002
/-- `0x8000:03` (Table 6-9). -/
abbrev FLUSH_TICKS : Nat := 0x800003
/-- `0x8000:04` (Table 6-9). -/
abbrev EXPORT_LINK : Nat := 0x800004
/-- `0x8001:01` (Table 6-9). -/
abbrev FIFO_FILL : Nat := 0x800101
/-- `0x8001:02` (Table 6-9). -/
abbrev FIFO_DATA : Nat := 0x800102
/-- `0x8001:03` (Table 6-9). -/
abbrev FIFO_ACK : Nat := 0x800103
/-- `0x8001:04` (Table 6-9). -/
abbrev HEAD_INDEX : Nat := 0x800104
/-- `0x8001:05` (Table 6-9). -/
abbrev FIFO_DROPPED : Nat := 0x800105
/-- `0x8001:06` (Table 6-9). -/
abbrev FIFO_HOLD_TICKS : Nat := 0x800106
/-- `0x8002:01` (Table 6-9). -/
abbrev RES_SESSION_ID : Nat := 0x800201
/-- `0x8002:02` (Table 6-9). -/
abbrev RES_SESSION_CMD : Nat := 0x800202
/-- `0x8002:03` (Table 6-9). -/
abbrev NEXT_RECORD_SEQ : Nat := 0x800203
/-- `0x8002:04` (Table 6-9). -/
abbrev NEXT_BLOCK_SEQ : Nat := 0x800204
/-- `B+0x28:01` onward, entry `i` (Table 7-3). -/
abbrev WM_CFG (i : Nat) : Nat := 0x2801 + i
/-- `B+0x29:01` onward, entry `i` (Table 7-3). -/
abbrev WM_STATE (i : Nat) : Nat := 0x2901 + i
/-- `B+0x29:05` (Table 7-3). -/
abbrev WM_STATUS : Nat := 0x2905
/-- `B+0x29:06` (Table 7-3). -/
abbrev WM_STICKY : Nat := 0x2906
/-- `B+0x2A:01` onward, entry `i` (Table 7-3). -/
abbrev WM_CODE (i : Nat) : Nat := 0x2A01 + i
/-- `B+0x2A:05` onward, entry `i` (Table 7-3). -/
abbrev WM_READBACK (i : Nat) : Nat := 0x2A05 + i
/-- `B+0x2A:09` onward, entry `i` (Table 7-3). -/
abbrev WM_RB_TICK (i : Nat) : Nat := 0x2A09 + i
/-- `B+0x2B:01` onward, entry `i` (Table 7-3). -/
abbrev WM_EVENTS (i : Nat) : Nat := 0x2B01 + i
/-- `B+0x2B:05` onward, entry `i` (Table 7-3). -/
abbrev WM_RESOLVED (i : Nat) : Nat := 0x2B05 + i
/-- `B+0x2B:09` (Table 7-3). -/
abbrev WM_PLAUS_CNT : Nat := 0x2B09
/-- `B+0x2B:0A` (Table 7-3). -/
abbrev WM_RESOLVE_MAX : Nat := 0x2B0A
/-- `B+0x30:01` (Table 8-12). -/
abbrev START_SEG : Nat := 0x3001
/-- `B+0x30:02` (Table 8-12). -/
abbrev SEQ_STATE : Nat := 0x3002
/-- `B+0x30:03` (Table 8-12). -/
abbrev CUR_ADDR : Nat := 0x3003
/-- `B+0x30:04` (Table 8-12). -/
abbrev CUR_SEG : Nat := 0x3004
/-- `B+0x30:05` (Table 8-12). -/
abbrev DWELL_LEFT : Nat := 0x3005
/-- `B+0x30:06` (Table 8-12). -/
abbrev SEQ_STATUS : Nat := 0x3006
/-- `B+0x30:07` (Table 8-12). -/
abbrev SEQ_STICKY : Nat := 0x3007
/-- `B+0x30:08` (Table 8-12). -/
abbrev STEPS_PLAYED : Nat := 0x3008
/-- `B+0x31:01` (Table 8-12). -/
abbrev JUMP_CMD : Nat := 0x3101
/-- `B+0x31:02` (Table 8-12). -/
abbrev JUMP_VEC : Nat := 0x3102
/-- `B+0x31:03` (Table 8-12). -/
abbrev JUMP_PENDING : Nat := 0x3103
/-- `B+0x31:04` (Table 8-12). -/
abbrev JUMPS_TAKEN : Nat := 0x3104
/-- `B+0x31:05` (Table 8-12). -/
abbrev JUMP_LATE_CNT : Nat := 0x3105
/-- `B+0x31:06` (Table 8-12). -/
abbrev JUMP_DISCARDED : Nat := 0x3106
/-- `B+0x31:07` (Table 8-12). -/
abbrev LAST_JUMP_TICK : Nat := 0x3107
/-- `B+0x32:01` onward, entry `i` (Table 8-12). -/
abbrev HEAD_PIN (i : Nat) : Nat := 0x3201 + i
/-- `B+0x32:05` (Table 8-12). -/
abbrev HEAD_STATE : Nat := 0x3205
/-- `B+0x32:06` onward, entry `i` (Table 8-12). -/
abbrev HEAD_FILL_TICK (i : Nat) : Nat := 0x3206 + i
/-- `B+0x33:01` onward, entry `i` (Table 8-12). -/
abbrev COND (i : Nat) : Nat := 0x3301 + i
/-- `B+0x33:11` (Table 8-12). -/
abbrev COND_HOST : Nat := 0x3311
/-- `B+0x34:01` (Table 8-12). -/
abbrev WAIT_LATCH : Nat := 0x3401
/-- `B+0x34:02` (Table 8-12). -/
abbrev WAIT_TIMEOUTS : Nat := 0x3402
/-- `B+0x38:01` (Table 8-12). -/
abbrev LOOP_DEPTH : Nat := 0x3801
/-- `B+0x38:02` onward, entry `i` (Table 8-12). -/
abbrev LOOP_CNT (i : Nat) : Nat := 0x3802 + i
/-- `B+0x38:06` onward, entry `i` (Table 8-12). -/
abbrev LOOP_START (i : Nat) : Nat := 0x3806 + i
/-- `0x2300:01` (Table 8-13). -/
abbrev LEDGER_STEPS : Nat := 0x230001
/-- `0x2300:02` (Table 8-13). -/
abbrev DIR_ENTRIES : Nat := 0x230002
/-- `0x2300:03` (Table 8-13). -/
abbrev DIR_SEL : Nat := 0x230003
/-- `0x2300:04` (Table 8-13). -/
abbrev DIR_ENTRY : Nat := 0x230004
/-- `0x2300:05` (Table 8-13). -/
abbrev DIR_VALID : Nat := 0x230005
/-- `0x2300:06` (Table 8-13). -/
abbrev DIR_REFUSED : Nat := 0x230006
/-- `B+0x35:01` (Table 9-6). -/
abbrev SPOOL_SEG : Nat := 0x3501
/-- `B+0x35:02` (Table 9-6). -/
abbrev SPOOL_STATE : Nat := 0x3502
/-- `B+0x35:03` (Table 9-6). -/
abbrev SPOOL_WR : Nat := 0x3503
/-- `B+0x35:04` (Table 9-6). -/
abbrev SPOOL_RD : Nat := 0x3504
/-- `B+0x35:05` (Table 9-6). -/
abbrev SPOOL_REL : Nat := 0x3505
/-- `B+0x35:06` (Table 9-6). -/
abbrev SPOOL_EOS : Nat := 0x3506
/-- `B+0x35:07` (Table 9-6). -/
abbrev SPOOL_FILL : Nat := 0x3507
/-- `B+0x35:08` (Table 9-6). -/
abbrev SPOOL_FREE : Nat := 0x3508
/-- `B+0x35:09` (Table 9-6). -/
abbrev SPOOL_CMD : Nat := 0x3509
/-- `B+0x36:01` (Table 9-6). -/
abbrev LOW_MARK : Nat := 0x3601
/-- `B+0x36:02` (Table 9-6). -/
abbrev HIGH_MARK : Nat := 0x3602
/-- `B+0x36:03` (Table 9-6). -/
abbrev UR_POLICY : Nat := 0x3603
/-- `B+0x36:04` (Table 9-6). -/
abbrev SAFE_SEG : Nat := 0x3604
/-- `B+0x36:05` (Table 9-6). -/
abbrev SAFE_HEAD_STATE : Nat := 0x3605
/-- `B+0x37:01` (Table 9-6). -/
abbrev UR_EPISODES : Nat := 0x3701
/-- `B+0x37:02` (Table 9-6). -/
abbrev UR_TICKS : Nat := 0x3702
/-- `B+0x37:03` (Table 9-6). -/
abbrev UR_LAST_TICK : Nat := 0x3703
/-- `B+0x37:04` (Table 9-6). -/
abbrev UR_LAST_CAUSE : Nat := 0x3704
/-- `B+0x37:05` (Table 9-6). -/
abbrev SAFE_JUMPS : Nat := 0x3705
/-- `B+0x37:06` (Table 9-6). -/
abbrev REFILL_REFUSED : Nat := 0x3706
/-- `B+0x37:07` (Table 9-6). -/
abbrev FILL_MIN : Nat := 0x3707
/-- `B+0x39:01` (Table 9-7). -/
abbrev SINE_NOW : Nat := 0x3901
/-- `B+0x39:02` (Table 9-7). -/
abbrev SINE_A_NOW : Nat := 0x3902
/-- `B+0x39:03` (Table 9-7). -/
abbrev SINE_LOAD_TICK : Nat := 0x3903
/-- `B+0x39:04` (Table 9-7). -/
abbrev SINE_LOAD_SUB : Nat := 0x3904
/-- `B+0x39:05` (Table 9-7). -/
abbrev SINE_RESETS : Nat := 0x3905
/-- `B+0x39:06` (Table 9-7). -/
abbrev SINE_CMD : Nat := 0x3906
/-- `B+0x3D:01` onward, entry `i` (Table 9-7). -/
abbrev SINE_FTW (i : Nat) : Nat := 0x3D01 + i
/-- `B+0x3E:01` onward, entry `i` (Table 9-7). -/
abbrev SINE_AMP (i : Nat) : Nat := 0x3E01 + i
/-- `B+0x3F:01` onward, entry `i` (Table 9-7). -/
abbrev SINE_PHASE (i : Nat) : Nat := 0x3F01 + i
/-- `0x2301:01` (Table 9-8). -/
abbrev SPOOL_LOW_MASK : Nat := 0x230101
/-- `0x2301:02` (Table 9-8). -/
abbrev SPOOL_HIGH_MASK : Nat := 0x230102
/-- `0x2301:03` (Table 9-8). -/
abbrev SPOOL_DRY_MASK : Nat := 0x230103
/-- `0x2301:04` (Table 9-8). -/
abbrev REFILL_GRANULES : Nat := 0x230104
/-- `0x2240:01` onward, entry `i` (Table 9-8). -/
abbrev MKO_SRC (i : Nat) : Nat := 0x224001 + i
/-- `0x2240:09` (Table 9-8). -/
abbrev MKO_RUN : Nat := 0x224009
/-- `0x2240:0A` (Table 9-8). -/
abbrev MKO_MODE_NOW : Nat := 0x22400A
/-- `0x2600:01` (Table 10-17). -/
abbrev ENG_TOTAL : Nat := 0x260001
/-- `0x2600:02` (Table 10-17). -/
abbrev LIB_ID : Nat := 0x260002
/-- `0x2600:03` (Table 10-17). -/
abbrev LOAD_RESULT : Nat := 0x260003
/-- `0x2600:04` (Table 10-17). -/
abbrev LOAD_DETAIL : Nat := 0x260004
/-- `0x2600:05` (Table 10-17). -/
abbrev LOAD_TICK : Nat := 0x260005
/-- `0x2600:06` (Table 10-17). -/
abbrev LOADS_REFUSED : Nat := 0x260006
/-- `0x2601:01` (Table 10-17). -/
abbrev PSET_SEL : Nat := 0x260101
/-- `0x2601:02` (Table 10-17). -/
abbrev PSET_STATE : Nat := 0x260102
/-- `0x2601:03` (Table 10-17). -/
abbrev PSET_PROGS : Nat := 0x260103
/-- `0x2601:04` (Table 10-17). -/
abbrev PSET_CYCLES : Nat := 0x260104
/-- `0x2601:05` (Table 10-17). -/
abbrev PSET_CMD : Nat := 0x260105
/-- `0x2602:01` onward, entry `i` (Table 10-17). -/
abbrev PROG_WORDS (i : Nat) : Nat := 0x260201 + i
/-- `0x2602:09` onward, entry `i` (Table 10-17). -/
abbrev PROG_IDS (i : Nat) : Nat := 0x260209 + i
/-- `0x2603:01` (Table 10-17). -/
abbrev ENG_SEL : Nat := 0x260301
/-- `0x2603:02` (Table 10-17). -/
abbrev PSET_NOW : Nat := 0x260302
/-- `0x2603:03` (Table 10-17). -/
abbrev ENG_FLAGS : Nat := 0x260303
/-- `0x2603:04` (Table 10-17). -/
abbrev ENG_SAT : Nat := 0x260304
/-- `0x2603:05` (Table 10-17). -/
abbrev ENG_COLLIDE : Nat := 0x260305
/-- `0x2603:06` (Table 10-17). -/
abbrev ENG_REFETCH : Nat := 0x260306
/-- `0x2603:07` (Table 10-17). -/
abbrev ENG_DISCARDED : Nat := 0x260307
/-- `0x2620:01` (Table 10-17). -/
abbrev SCR_ADDR : Nat := 0x262001
/-- `0x2620:02` (Table 10-17). -/
abbrev SCR_DATA : Nat := 0x262002
/-- `0x2200:01` (Table 11-7). -/
abbrev TETHER_COUNT : Nat := 0x220001
/-- `0x2200:02` (Table 11-7). -/
abbrev TICK_DIV : Nat := 0x220002
/-- `0x2200:03` (Table 11-7). -/
abbrev TICK_PHASE : Nat := 0x220003
/-- `0x2200:04` (Table 11-7). -/
abbrev FAULT_MIN : Nat := 0x220004
/-- `0x2200:05` (Table 11-7). -/
abbrev LOCK_LO : Nat := 0x220005
/-- `0x2200:06` (Table 11-7). -/
abbrev LOCK_HI : Nat := 0x220006
/-- `0x2200:07` (Table 11-7). -/
abbrev LOOP_LO : Nat := 0x220007
/-- `0x2200:08` (Table 11-7). -/
abbrev LOOP_HI : Nat := 0x220008
/-- `0x2200:09` (Table 11-7). -/
abbrev SUPPRESSED : Nat := 0x220009
/-- `0x2200:0A` (Table 11-7). -/
abbrev TAG_OVF : Nat := 0x22000A
/-- `0x2200:0B` (Table 11-7). -/
abbrev LOCK_CMD : Nat := 0x22000B
/-- `0x2210:01` onward, entry `i` (Table 11-7). -/
abbrev PROD (i : Nat) : Nat := 0x221001 + i
/-- `0x2220:01` onward, entry `i` (Table 11-7). -/
abbrev TETH_CFG (i : Nat) : Nat := 0x222001 + i
/-- `0x2221:01` onward, entry `i` (Table 11-7). -/
abbrev TETH_FIRES (i : Nat) : Nat := 0x222101 + i
/-- `0x2222:01` onward, entry `i` (Table 11-7). -/
abbrev TETH_LOOPS (i : Nat) : Nat := 0x222201 + i
/-- `0x2230:01` onward, entry `i` (Table 11-8). -/
abbrev EVIO_CFG (i : Nat) : Nat := 0x223001 + i
/-- `0x2231:01` onward, entry `i` (Table 11-8). -/
abbrev MUX_EVIO (i : Nat) : Nat := 0x223101 + i
/-- `0x2232:01` onward, entry `i` (Table 11-8). -/
abbrev MUX_AUX_INJ (i : Nat) : Nat := 0x223201 + i
/-- `0x2233:01` onward, entry `i` (Table 11-8). -/
abbrev EVIO_OVR (i : Nat) : Nat := 0x223301 + i
/-- `0x2233:11` onward, entry `i` (Table 11-8). -/
abbrev EVIO_MERGE (i : Nat) : Nat := 0x223311 + i
/-- `0x2233:21` onward, entry `i` (Table 11-8). -/
abbrev MKO_OVR (i : Nat) : Nat := 0x223321 + i
/-- `0x2233:29` onward, entry `i` (Table 11-8). -/
abbrev MKO_MERGE (i : Nat) : Nat := 0x223329 + i
/-- `0x2233:31` onward, entry `i` (Table 11-8). -/
abbrev AUX_INJ_MERGE (i : Nat) : Nat := 0x223331 + i
/-- `0x2234:01` (Table 11-8). -/
abbrev EVIO_LEVEL : Nat := 0x223401
/-- `0x2241:01` onward, entry `i` (Table 11-8). -/
abbrev MUX_MKO (i : Nat) : Nat := 0x224101 + i
/-- `0x2241:09` onward, entry `i` (Table 11-8). -/
abbrev MKO_CFG (i : Nat) : Nat := 0x224109 + i
/-- `C:01` + 0 (Table 11-9). -/
abbrev MUX_MV_REG : Nat := 0x4001
/-- `C:01` + 1 (Table 11-9). -/
abbrev MUX_MI_REG : Nat := 0x4002
/-- `C:01` + 2 (Table 11-9). -/
abbrev MUX_MV_INJ : Nat := 0x4003
/-- `C:01` + 3 (Table 11-9). -/
abbrev MUX_MI_INJ : Nat := 0x4004
/-- `C:05` onward, entry `i` (Table 11-9). -/
abbrev MUX_WAIT (i : Nat) : Nat := 0x4005 + i
/-- `C:09` (Table 11-9). -/
abbrev MUX_JMP : Nat := 0x4009
/-- `C:0A` (Table 11-9). -/
abbrev MUX_GUST : Nat := 0x400A
/-- `C:0B` (Table 11-9). -/
abbrev MUX_SINE_RST : Nat := 0x400B
/-- `C:0C` (Table 11-9). -/
abbrev MUX_HOLD : Nat := 0x400C
/-- `C:0D` onward, entry `i` (Table 11-9). -/
abbrev MUX_TOPEN (i : Nat) : Nat := 0x400D + i
/-- `C:1D` onward, entry `i` (Table 11-9). -/
abbrev MUX_TCLOSE (i : Nat) : Nat := 0x401D + i
/-- `C:2D` (Table 11-9). -/
abbrev HOLD_LEN : Nat := 0x402D
/-- `D:01` (Table 11-9). -/
abbrev OVR_FLAGS : Nat := 0x4101
/-- `D:02` (Table 11-9). -/
abbrev OVR_STICKY : Nat := 0x4102
/-- `D:03` onward, entry `i` (Table 11-9). -/
abbrev OVR_CNT (i : Nat) : Nat := 0x4103 + i
/-- `D:2F` onward, entry `i` (Table 11-9). -/
abbrev MERGE_CNT (i : Nat) : Nat := 0x412F + i
/-- `0x2310:01` (Table 12-5). -/
abbrev LEDGER_PAR_TRANS : Nat := 0x231001
/-- `0x2310:02` (Table 12-5). -/
abbrev LEDGER_PAR_PERSIST : Nat := 0x231002
/-- `0x2310:03` (Table 12-5). -/
abbrev REPLAY_COUNT : Nat := 0x231003
/-- `0x2310:04` (Table 12-5). -/
abbrev REPLAY_SEL : Nat := 0x231004
/-- `0x2310:05` (Table 12-5). -/
abbrev REPLAY_ENTRY : Nat := 0x231005
/-- `0x2310:06` (Table 12-5). -/
abbrev REPLAY_TICK : Nat := 0x231006
/-- `0x2310:07` (Table 12-5). -/
abbrev SCRUB_SWEEP_TICK : Nat := 0x231007
/-- `0x2310:08` (Table 12-5). -/
abbrev LOOKAHEAD_MIN : Nat := 0x231008
/-- `0x2310:09` (Table 12-5). -/
abbrev BULK_LINES : Nat := 0x231009
/-- `0x2310:0A` (Table 12-5). -/
abbrev BANK_WAIT : Nat := 0x23100A
/-- `0x2310:0B` (Table 12-5). -/
abbrev LEDGER_COLLIDE : Nat := 0x23100B
/-- `0x2310:0C` (Table 12-5). -/
abbrev LEDGER_SPARES : Nat := 0x23100C
/-- `0x2311:01` onward, entry `i` (Table 12-5). -/
abbrev PROG_PAR_TRANS (i : Nat) : Nat := 0x231101 + i
/-- `0x2311:09` onward, entry `i` (Table 12-5). -/
abbrev PROG_PAR_PERSIST (i : Nat) : Nat := 0x231109 + i
/-- `0x2311:11` onward, entry `i` (Table 12-5). -/
abbrev PROG_SPARES (i : Nat) : Nat := 0x231111 + i
/-- `0x2312:01` onward, entry `i` (Table 12-5). -/
abbrev SCR_PAR_TRANS (i : Nat) : Nat := 0x231201 + i
/-- `0x2312:09` onward, entry `i` (Table 12-5). -/
abbrev SCR_PAR_PERSIST (i : Nat) : Nat := 0x231209 + i
/-- `0x2312:11` onward, entry `i` (Table 12-5). -/
abbrev SCR_COLLIDE (i : Nat) : Nat := 0x231211 + i
/-- `0x2312:19` onward, entry `i` (Table 12-5). -/
abbrev SCR_SPARES (i : Nat) : Nat := 0x231219 + i
/-- `0x2313:01` (Table 12-5). -/
abbrev MARCH_EN : Nat := 0x231301
/-- `0x2313:02` (Table 12-5). -/
abbrev MARCH_PERIOD : Nat := 0x231302
/-- `0x2313:03` (Table 12-5). -/
abbrev MARCH_PASSES : Nat := 0x231303
/-- `0x2313:04` (Table 12-5). -/
abbrev MARCH_RELEASES : Nat := 0x231304
/-- `0x2313:05` (Table 12-5). -/
abbrev MARCH_FAILS : Nat := 0x231305
/-- `0x2313:06` (Table 12-5). -/
abbrev MARCH_LAST_FAIL : Nat := 0x231306
/-- `0x2314:01` (Table 12-5). -/
abbrev ENG_STALL_MAX : Nat := 0x231401
/-- `0x2314:02` (Table 12-5). -/
abbrev STALL_DISCARDS : Nat := 0x231402
/-- `0x2400:01` (Table 13-9). -/
abbrev CAL_SEL : Nat := 0x240001
/-- `0x2400:02` (Table 13-9). -/
abbrev BG_STATUS : Nat := 0x240002
/-- `0x2400:03` (Table 13-9). -/
abbrev BG_CYCLE_TICK : Nat := 0x240003
/-- `0x2400:04` (Table 13-9). -/
abbrev BG_CYCLES : Nat := 0x240004
/-- `0x2400:05` (Table 13-9). -/
abbrev BG_STEPS : Nat := 0x240005
/-- `0x2400:06` (Table 13-9). -/
abbrev LIN_TICK : Nat := 0x240006
/-- `0x2400:07` (Table 13-9). -/
abbrev LIN_INL_MAX : Nat := 0x240007
/-- `0x2401:01` (Table 13-9). -/
abbrev BG_CHECK_TICK : Nat := 0x240101
/-- `0x2401:02` (Table 13-9). -/
abbrev BG_INSUFFICIENT : Nat := 0x240102
/-- `0x2401:03` (Table 13-9). -/
abbrev BG_SPREAD_CNT : Nat := 0x240103
/-- `0x2410:01` (Table 13-9). -/
abbrev SYSCAL_CH : Nat := 0x241001
/-- `0x2410:02` (Table 13-9). -/
abbrev SYSCAL_QTY : Nat := 0x241002
/-- `0x2410:03` (Table 13-9). -/
abbrev SYSCAL_RPAIR : Nat := 0x241003
/-- `0x2410:04` (Table 13-9). -/
abbrev SYSCAL_SETPT : Nat := 0x241004
/-- `0x2410:05` (Table 13-9). -/
abbrev SYSCAL_SETTLE : Nat := 0x241005
/-- `0x2410:06` (Table 13-9). -/
abbrev SYSCAL_TRUE : Nat := 0x241006
/-- `0x2410:07` (Table 13-9). -/
abbrev SYSCAL_CMD : Nat := 0x241007
/-- `0x2410:08` (Table 13-9). -/
abbrev SYSCAL_STATE : Nat := 0x241008
/-- `0x2410:09` (Table 13-9). -/
abbrev SYSCAL_ABORT : Nat := 0x241009
/-- `0x2410:0A` (Table 13-9). -/
abbrev SYSCAL_WAIT : Nat := 0x24100A
/-- `0x2410:0B` (Table 13-9). -/
abbrev SYSCAL_MEAN : Nat := 0x24100B
/-- `0x2410:0C` (Table 13-9). -/
abbrev SYSCAL_SD : Nat := 0x24100C
/-- `0x2410:0D` (Table 13-9). -/
abbrev SYSCAL_RESULT_TICK : Nat := 0x24100D
/-- `0x2420:01` (Table 13-9). -/
abbrev SYS_SEQ : Nat := 0x242001
/-- `0x2420:02` (Table 13-9). -/
abbrev SYS_BANK : Nat := 0x242002
/-- `0x2420:03` (Table 13-9). -/
abbrev SNAP_SEQ : Nat := 0x242003
/-- `0x2420:04` (Table 13-9). -/
abbrev SNAP_BANK : Nat := 0x242004
/-- `0x2420:05` (Table 13-9). -/
abbrev STORE_STATUS : Nat := 0x242005
/-- `0x2420:06` (Table 13-9). -/
abbrev ENTRY_SEL : Nat := 0x242006
/-- `0x2420:07` (Table 13-9). -/
abbrev SYS_ENTRY : Nat := 0x242007
/-- `0x2420:08` (Table 13-9). -/
abbrev SYS_COMMITS : Nat := 0x242008
/-- `S+0x0B:01` (Table 13-10). -/
abbrev BG_STATE : Nat := 0xB01
/-- `S+0x0B:02` (Table 13-10). -/
abbrev BG_DEV : Nat := 0xB02
/-- `S+0x0B:03` (Table 13-10). -/
abbrev BG_CORR : Nat := 0xB03
/-- `S+0x0B:04` (Table 13-10). -/
abbrev BG_OUTLIERS : Nat := 0xB04
/-- `S+0x0B:05` (Table 13-10). -/
abbrev BG_READINGS : Nat := 0xB05
/-- `0x1000:00` (Table 14-12). -/
abbrev DEVICE_TYPE : Nat := 0x100000
/-- `0x1008:00` (Table 14-12). -/
abbrev DEVICE_NAME : Nat := 0x100800
/-- `0x1009:00` (Table 14-12). -/
abbrev HW_VERSION : Nat := 0x100900
/-- `0x100A:00` (Table 14-12). -/
abbrev SW_VERSION : Nat := 0x100A00
/-- `0x1010:01` (Table 14-12). -/
abbrev STORE_PARAMS : Nat := 0x101001
/-- `0x1011:01` (Table 14-12). -/
abbrev RESTORE_DEFAULTS : Nat := 0x101101
/-- `0x1018:01` (Table 14-12). -/
abbrev VENDOR_ID : Nat := 0x101801
/-- `0x1018:02` (Table 14-12). -/
abbrev PRODUCT_CODE : Nat := 0x101802
/-- `0x1018:03` (Table 14-12). -/
abbrev REVISION : Nat := 0x101803
/-- `0x1018:04` (Table 14-12). -/
abbrev SERIAL : Nat := 0x101804
/-- `0x1600:00` onward, entry `i` (Table 14-12). -/
abbrev RXPDO_COUNT (i : Nat) : Nat := 0x160000 + i
/-- `0x1600:01` onward, entry `i` (Table 14-12). -/
abbrev RXPDO_MAP (i : Nat) : Nat := 0x160001 + i
/-- `0x1A00:00` onward, entry `i` (Table 14-12). -/
abbrev TXPDO_COUNT (i : Nat) : Nat := 0x1A0000 + i
/-- `0x1A00:01` onward, entry `i` (Table 14-12). -/
abbrev TXPDO_MAP (i : Nat) : Nat := 0x1A0001 + i
/-- `0x1C00:01` onward, entry `i` (Table 14-12). -/
abbrev SM_TYPE (i : Nat) : Nat := 0x1C0001 + i
/-- `0x1C12:00` onward, entry `i` (Table 14-12). -/
abbrev RXPDO_ASSIGN (i : Nat) : Nat := 0x1C1200 + i
/-- `0x1C13:00` onward, entry `i` (Table 14-12). -/
abbrev TXPDO_ASSIGN (i : Nat) : Nat := 0x1C1300 + i
/-- `0x1C32:01` (Table 14-12). -/
abbrev OUT_SYNC_MODE : Nat := 0x1C3201
/-- `0x1C32:02` (Table 14-12). -/
abbrev OUT_CYCLE_TIME : Nat := 0x1C3202
/-- `0x1C32:04` (Table 14-12). -/
abbrev OUT_MODES : Nat := 0x1C3204
/-- `0x1C32:05` (Table 14-12). -/
abbrev OUT_MIN_CYCLE : Nat := 0x1C3205
/-- `0x1C32:06` (Table 14-12). -/
abbrev OUT_CALC_COPY : Nat := 0x1C3206
/-- `0x1C32:0B` (Table 14-12). -/
abbrev SM_EVENT_MISSED : Nat := 0x1C320B
/-- `0x1C32:0C` (Table 14-12). -/
abbrev CYCLE_TOO_SMALL : Nat := 0x1C320C
/-- `0x1C32:20` (Table 14-12). -/
abbrev SYNC_ERROR : Nat := 0x1C3220
/-- `0x1C33:01` (Table 14-12). -/
abbrev IN_SYNC_MODE : Nat := 0x1C3301
/-- `0x1C33:02` (Table 14-12). -/
abbrev IN_CYCLE_TIME : Nat := 0x1C3302
/-- `0x1C33:04` (Table 14-12). -/
abbrev IN_MODES : Nat := 0x1C3304
/-- `0x1C33:05` (Table 14-12). -/
abbrev IN_MIN_CYCLE : Nat := 0x1C3305
/-- `0x1C33:06` (Table 14-12). -/
abbrev IN_CALC_COPY : Nat := 0x1C3306
/-- `0x2000:01` (Table 14-13). -/
abbrev POWER_STATE : Nat := 0x200001
/-- `0x2000:02` (Table 14-13). -/
abbrev STRAP_ID : Nat := 0x200002
/-- `0x2002:01` (Table 14-13). -/
abbrev PD_CMD_SEQ : Nat := 0x200201
/-- `0x2002:02` (Table 14-13). -/
abbrev PD_TICK : Nat := 0x200202
/-- `0x2002:03` (Table 14-13). -/
abbrev PD_CMD_ACK : Nat := 0x200203
/-- `0x2002:04` (Table 14-13). -/
abbrev PD_CMD_TICK : Nat := 0x200204
/-- `0x2002:05` (Table 14-13). -/
abbrev PD_WD_ACTION : Nat := 0x200205
/-- `0x2002:06` (Table 14-13). -/
abbrev PD_CMD_REFUSED : Nat := 0x200206
/-- `0x2003:01` onward, entry `i` (Table 14-13). -/
abbrev CH_SUMMARY (i : Nat) : Nat := 0x200301 + i
/-- `0x2710:01` (Table 14-14). -/
abbrev RESTORE_SUMMARY : Nat := 0x271001
/-- `0x2710:02` (Table 14-14). -/
abbrev RESTORE_CH_MASK : Nat := 0x271002
/-- `0x2710:03` (Table 14-14). -/
abbrev RESTORE_STALL_MASK : Nat := 0x271003
/-- `0x2710:04` (Table 14-14). -/
abbrev RESTORE_ENTRIES : Nat := 0x271004
/-- `0x2710:05` (Table 14-14). -/
abbrev RESTORE_NEW : Nat := 0x271005
/-- `0x2710:06` (Table 14-14). -/
abbrev RESTORE_UNKNOWN : Nat := 0x271006
/-- `0x2710:07` (Table 14-14). -/
abbrev RESTORE_QUERY : Nat := 0x271007
/-- `0x2710:08` (Table 14-14). -/
abbrev RESTORE_RESULT : Nat := 0x271008
/-- `0x2711:01` (Table 14-14). -/
abbrev RETAIN_WRITES : Nat := 0x271101
/-- `0x2711:02` (Table 14-14). -/
abbrev RETAIN_FAILS : Nat := 0x271102
/-- `0x2711:03` (Table 14-14). -/
abbrev RETAIN_MAX : Nat := 0x271103
/-- `S+0x0C:01` (Table 14-15). -/
abbrev LINK_CORR : Nat := 0xC01
/-- `S+0x0C:02` (Table 14-15). -/
abbrev LINK_UNCORR : Nat := 0xC02
/-- `S+0x0C:03` (Table 14-15). -/
abbrev LINK_HELD : Nat := 0xC03
/-- `S+0x0C:04` (Table 14-15). -/
abbrev LINK_LAST_TICK : Nat := 0xC04
/-- `0x2800:01` (Table 15-14). -/
abbrev EC_PORT_MODE : Nat := 0x280001
/-- `0x2800:02` (Table 15-14). -/
abbrev EC_LINK : Nat := 0x280002
/-- `0x2800:03` (Table 15-14). -/
abbrev EC_ALIAS : Nat := 0x280003
/-- `0x2800:04` (Table 15-14). -/
abbrev ESM_STATE : Nat := 0x280004
/-- `0x2800:05` (Table 15-14). -/
abbrev AL_CODE : Nat := 0x280005
/-- `0x2800:06` (Table 15-14). -/
abbrev ESM_CHANGES : Nat := 0x280006
/-- `0x2800:07` (Table 15-14). -/
abbrev RX_ERRORS_0 : Nat := 0x280007
/-- `0x2800:08` (Table 15-14). -/
abbrev RX_ERRORS_1 : Nat := 0x280008
/-- `0x2800:09` (Table 15-14). -/
abbrev LOST_LINKS : Nat := 0x280009
/-- `0x2800:0A` (Table 15-14). -/
abbrev WD_EXPIRIES : Nat := 0x28000A
/-- `0x2800:0B` (Table 15-14). -/
abbrev SYNC_ERRORS : Nat := 0x28000B
/-- `0x2801:01` (Table 15-14). -/
abbrev LOAD_TYPE : Nat := 0x280101
/-- `0x2801:02` (Table 15-14). -/
abbrev LOAD_TARGET : Nat := 0x280102
/-- `0x2801:03` (Table 15-14). -/
abbrev LOAD_FIRST : Nat := 0x280103
/-- `0x2801:04` (Table 15-14). -/
abbrev LOAD_FLAGS : Nat := 0x280104
/-- `0x2801:05` (Table 15-14). -/
abbrev LOAD_DATA : Nat := 0x280105
/-- `0x2801:06` (Table 15-14). -/
abbrev LOAD_CMD : Nat := 0x280106
/-- `0x2801:07` (Table 15-14). -/
abbrev LOAD_STATUS : Nat := 0x280107
/-- `0x2801:08` (Table 15-14). -/
abbrev LOAD_BYTES : Nat := 0x280108
/-- `0x2801:09` (Table 15-14). -/
abbrev LOAD_DONE_TICK : Nat := 0x280109
/-- `0x2810:01` (Table 15-14). -/
abbrev PCIE_STATE : Nat := 0x281001
/-- `0x2810:02` (Table 15-14). -/
abbrev PCIE_RATE : Nat := 0x281002
/-- `0x2810:03` (Table 15-14). -/
abbrev PCIE_WIDTH : Nat := 0x281003
/-- `0x2810:04` (Table 15-14). -/
abbrev PCIE_MAX_SPEED : Nat := 0x281004
/-- `0x2810:05` (Table 15-14). -/
abbrev PCIE_EN : Nat := 0x281005
/-- `0x2810:06` (Table 15-14). -/
abbrev PCIE_RETRAINS : Nat := 0x281006
/-- `0x2810:07` (Table 15-14). -/
abbrev PCIE_CORR_ERRS : Nat := 0x281007
/-- `0x2810:08` (Table 15-14). -/
abbrev PCIE_UNCORR_ERRS : Nat := 0x281008
/-- `0x2810:09` (Table 15-14). -/
abbrev GUAR_REFILL : Nat := 0x281009
/-- `0x2811:01` + 0 (Table 15-14). -/
abbrev LOADQ_STATE : Nat := 0x281101
/-- `0x2811:01` + 1 (Table 15-14). -/
abbrev OBJQ_STATE : Nat := 0x281102
/-- `0x2811:01` + 2 (Table 15-14). -/
abbrev EXPQ_STATE : Nat := 0x281103
/-- `0x2811:04` (Table 15-14). -/
abbrev DMA_ERRORS : Nat := 0x281104
/-- `0x5000:01` (Table 16-13). -/
abbrev LIFECYCLE : Nat := 0x500001
/-- `0x5000:02` (Table 16-13). -/
abbrev DEVICE_FP : Nat := 0x500002
/-- `0x5000:03` (Table 16-13). -/
abbrev DEV_CERT : Nat := 0x500003
/-- `0x5000:04` (Table 16-13). -/
abbrev OWNER_HASH : Nat := 0x500004
/-- `0x5000:05` (Table 16-13). -/
abbrev OWNER_POLICY : Nat := 0x500005
/-- `0x5000:06` onward, entry `i` (Table 16-13). -/
abbrev ARB (i : Nat) : Nat := 0x500006 + i
/-- `0x5000:0A` (Table 16-13). -/
abbrev D3_COUNT : Nat := 0x50000A
/-- `0x5000:0B` (Table 16-13). -/
abbrev OWN_SLOTS : Nat := 0x50000B
/-- `0x5000:0C` (Table 16-13). -/
abbrev TRUST_STATE : Nat := 0x50000C
/-- `0x5001:01` (Table 16-13). -/
abbrev ATTEST_NONCE : Nat := 0x500101
/-- `0x5001:02` (Table 16-13). -/
abbrev ATTEST_RESP : Nat := 0x500102
/-- `0x5100:01` (Table 16-13). -/
abbrev SESS_CMD : Nat := 0x510001
/-- `0x5100:02` (Table 16-13). -/
abbrev SESS_STATE : Nat := 0x510002
/-- `0x5100:03` (Table 16-13). -/
abbrev SESS_LINK : Nat := 0x510003
/-- `0x5100:04` (Table 16-13). -/
abbrev SESS_RIGHTS : Nat := 0x510004
/-- `0x5100:05` (Table 16-13). -/
abbrev SESS_DEV_OFFER : Nat := 0x510005
/-- `0x5100:06` (Table 16-13). -/
abbrev SESS_HOST_OFFER : Nat := 0x510006
/-- `0x5100:07` (Table 16-13). -/
abbrev SESS_FAILS : Nat := 0x510007
/-- `0x5100:08` (Table 16-13). -/
abbrev SESS_CLOSE_CAUSE : Nat := 0x510008
/-- `0x5200:01` (Table 16-13). -/
abbrev SEC_CONTAINER : Nat := 0x520001
/-- `0x5200:02` (Table 16-13). -/
abbrev CONT_RESULT : Nat := 0x520002
/-- `0x5200:03` (Table 16-13). -/
abbrev CONT_DETAIL : Nat := 0x520003
/-- `0x5200:04` (Table 16-13). -/
abbrev CONT_TICK : Nat := 0x520004
/-- `0x5200:05` (Table 16-13). -/
abbrev CONT_REFUSED : Nat := 0x520005
/-- `0x5210:01` (Table 16-13). -/
abbrev STREAM_SEL : Nat := 0x521001
/-- `0x5210:02` (Table 16-13). -/
abbrev STREAM_INFO : Nat := 0x521002
/-- `0x5210:03` (Table 16-13). -/
abbrev STREAM_CTR : Nat := 0x521003
/-- `0x5210:04` (Table 16-13). -/
abbrev STREAM_CMD : Nat := 0x521004
/-- `0x5300:01` (Table 16-13). -/
abbrev RES_STATEMENT : Nat := 0x530001
/-- `0x5300:02` (Table 16-13). -/
abbrev RES_STATEMENT_PREV : Nat := 0x530002
/-- `0x5400:01` (Table 16-13). -/
abbrev SEC_POLICY : Nat := 0x540001
/-- `0x5500:01` (Table 16-13). -/
abbrev DEBUG_LEVEL : Nat := 0x550001
/-- `0x5500:02` (Table 16-13). -/
abbrev DEBUG_REQ : Nat := 0x550002
/-- `0x5500:03` (Table 16-13). -/
abbrev DEBUG_NONCE : Nat := 0x550003
/-- `0x5500:04` (Table 16-13). -/
abbrev DEBUG_PENDING : Nat := 0x550004
/-- `0x5500:05` (Table 16-13). -/
abbrev DBG_HALT_REQ : Nat := 0x550005
/-- `0x5500:06` (Table 16-13). -/
abbrev DBG_RESUME : Nat := 0x550006
/-- `0x5500:07` (Table 16-13). -/
abbrev DBG_STEP : Nat := 0x550007
/-- `0x5500:08` (Table 16-13). -/
abbrev DBG_HALTED : Nat := 0x550008
/-- `0x5500:09` (Table 16-13). -/
abbrev DBG_HALT_PENDING : Nat := 0x550009
/-- `0x5500:0A` (Table 16-13). -/
abbrev BSCAN_STATE : Nat := 0x55000A
/-- `0x5F00:01` (Table 16-13). -/
abbrev SEALED_IN : Nat := 0x5F0001
/-- `0x5F00:02` (Table 16-13). -/
abbrev SEALED_OUT : Nat := 0x5F0002
/-- `0x5F00:03` (Table 16-13). -/
abbrev SEALED_SEQ : Nat := 0x5F0003
/-- `0x2700:01` (Table 17-9). -/
abbrev BOOT_CAUSE : Nat := 0x270001
/-- `0x2700:02` (Table 17-9). -/
abbrev LAST_SHUTDOWN : Nat := 0x270002
/-- `0x2700:03` (Table 17-9). -/
abbrev BOOT_COUNT : Nat := 0x270003
/-- `0x2700:04` (Table 17-9). -/
abbrev T_FUSE : Nat := 0x270004
/-- `0x2700:05` (Table 17-9). -/
abbrev T_IMAGE : Nat := 0x270005
/-- `0x2700:06` (Table 17-9). -/
abbrev T_RETAIN : Nat := 0x270006
/-- `0x2700:07` (Table 17-9). -/
abbrev T_RELEASE : Nat := 0x270007
/-- `0x2700:08` (Table 17-9). -/
abbrev BUS_DELAY : Nat := 0x270008
/-- `0x2700:09` (Table 17-9). -/
abbrev REBOOT_CMD : Nat := 0x270009
/-- `0x2700:0A` (Table 17-9). -/
abbrev READY_FLAGS : Nat := 0x27000A
/-- `0x2700:0B` (Table 17-9). -/
abbrev READY_TICK : Nat := 0x27000B
/-- `0x2701:01` (Table 17-9). -/
abbrev IMAGE_STATE : Nat := 0x270101
/-- `0x2701:02` (Table 17-9). -/
abbrev ACTIVE_SLOT : Nat := 0x270102
/-- `0x2701:03` (Table 17-9). -/
abbrev IMAGE_VER : Nat := 0x270103
/-- `0x2701:04` (Table 17-9). -/
abbrev SLOT_A_VER : Nat := 0x270104
/-- `0x2701:05` (Table 17-9). -/
abbrev SLOT_B_VER : Nat := 0x270105
/-- `0x2701:06` (Table 17-9). -/
abbrev NEXT_SLOT : Nat := 0x270106
/-- `0x2701:07` (Table 17-9). -/
abbrev IMAGE_FAIL : Nat := 0x270107
/-- `0x2701:08` (Table 17-9). -/
abbrev IMAGE_CMD : Nat := 0x270108
/-- `0x2701:09` (Table 17-9). -/
abbrev UPDATE_STATE : Nat := 0x270109
/-- `0x2701:0A` (Table 17-9). -/
abbrev FLASH_ID : Nat := 0x27010A
/-- `0x2701:0B` (Table 17-9). -/
abbrev FLASH_SIZE : Nat := 0x27010B
/-- `0x2702:01` (Table 17-9). -/
abbrev QUIET_REQ : Nat := 0x270201
/-- `0x2702:02` (Table 17-9). -/
abbrev BOOT_QUIET : Nat := 0x270202
/-- `0x2702:03` (Table 17-9). -/
abbrev BUS_STATE : Nat := 0x270203
/-- `0x2702:04` (Table 17-9). -/
abbrev ANALOG_STATE : Nat := 0x270204
/-- `0x2702:05` (Table 17-9). -/
abbrev VBUS_NOW : Nat := 0x270205
/-- `0x2702:06` (Table 17-9). -/
abbrev P_IN_NOW : Nat := 0x270206
/-- `0x2703:01` (Table 17-9). -/
abbrev SELFTEST_CMD : Nat := 0x270301
/-- `0x2703:02` (Table 17-9). -/
abbrev SELFTEST_AT_BOOT : Nat := 0x270302
/-- `0x2703:03` (Table 17-9). -/
abbrev SELFTEST_RUN : Nat := 0x270303
/-- `0x2703:04` (Table 17-9). -/
abbrev SELFTEST_FAIL : Nat := 0x270304
/-- `0x2703:05` (Table 17-9). -/
abbrev SELFTEST_TICK : Nat := 0x270305
/-- `0x2703:06` onward, entry `i` (Table 17-9). -/
abbrev SELFTEST_RESULT (i : Nat) : Nat := 0x270306 + i
/-- `0x2500:01` (Table 18-8). -/
abbrev FAULT_STATE : Nat := 0x250001
/-- `0x2500:02` (Table 18-8). -/
abbrev SAFE_MASK : Nat := 0x250002
/-- `0x2500:03` (Table 18-8). -/
abbrev LATCH_CH : Nat := 0x250003
/-- `0x2500:04` (Table 18-8). -/
abbrev LATCH_STALL : Nat := 0x250004
/-- `0x2500:05` (Table 18-8). -/
abbrev LATCH_DEV : Nat := 0x250005
/-- `0x2500:06` (Table 18-8). -/
abbrev FAULT_CLEAR_CH : Nat := 0x250006
/-- `0x2500:07` (Table 18-8). -/
abbrev FAULT_CLEAR : Nat := 0x250007
/-- `0x2500:08` (Table 18-8). -/
abbrev FLT_MIN : Nat := 0x250008
/-- `0x2500:09` (Table 18-8). -/
abbrev FQ_FILL : Nat := 0x250009
/-- `0x2500:0A` (Table 18-8). -/
abbrev FQ_OVF : Nat := 0x25000A
/-- `0x2500:0B` (Table 18-8). -/
abbrev LAST_F5_TICK : Nat := 0x25000B
/-- `0x2500:0C` (Table 18-8). -/
abbrev LAST_F5_CODE : Nat := 0x25000C
/-- `0x2500:0D` (Table 18-8). -/
abbrev SAFE_ENTRIES : Nat := 0x25000D
/-- `0x2501:01` onward, entry `i` (Table 18-8). -/
abbrev FAULT_CNT_F0 (i : Nat) : Nat := 0x250101 + i
/-- `0x2502:01` (Table 18-8). -/
abbrev FLOG_NEXT_SEQ : Nat := 0x250201
/-- `0x2502:02` (Table 18-8). -/
abbrev FLOG_SEL : Nat := 0x250202
/-- `0x2502:03` (Table 18-8). -/
abbrev FLOG_DATA : Nat := 0x250203
/-- `0x2502:04` (Table 18-8). -/
abbrev FLOG_LOST : Nat := 0x250204
/-- `0x2503:01` (Table 18-8). -/
abbrev VLOG_NEXT_SEQ : Nat := 0x250301
/-- `0x2503:02` (Table 18-8). -/
abbrev VLOG_SEL : Nat := 0x250302
/-- `0x2503:03` (Table 18-8). -/
abbrev VLOG_DATA : Nat := 0x250303
/-- `0x2503:04` (Table 18-8). -/
abbrev VLOG_LOST : Nat := 0x250304
/-- `0x2504:01` (Table 18-8). -/
abbrev HIST_FILL : Nat := 0x250401
/-- `0x2504:02` (Table 18-8). -/
abbrev HIST_SEL : Nat := 0x250402
/-- `0x2504:03` (Table 18-8). -/
abbrev HIST_DATA : Nat := 0x250403
/-- `0x2504:04` (Table 18-8). -/
abbrev HIST_CLEAR : Nat := 0x250404
/-- `0x2505:01` (Table 18-8). -/
abbrev RECOV_EVENTS : Nat := 0x250501
/-- `0x2505:02` (Table 18-8). -/
abbrev RECOV_HELD : Nat := 0x250502
/-- `0x2505:03` (Table 18-8). -/
abbrev RECOV_LAST_TICK : Nat := 0x250503
/-- `0x2505:04` (Table 18-8). -/
abbrev RECOV_LAST_CODE : Nat := 0x250504

end Obj

/-- The default AUX regular sequence, slot `i` (R179). -/
def auxDefault (i : Nat) : Nat :=
  match i % 8 with
  | 1 => 0x2000
  | 3 => 0x3000
  | 5 => 0x2000
  | 7 => 0x4000
  | _ => 0x1000

/-- Default value of a device object outside the process-data mapping objects. -/
def devDefaultPlain (k : Nat) : Nat :=
  if k == 0x201103 then 0x27100 else
  if k == 0x201104 then 0x5DC0 else
  if k == 0x800002 then 0x400 else
  if k == 0x800003 then 0x186A0 else
  if k == 0x230001 then 0x100000 else
  if k == 0x230002 then 0x1000 else
  if (0x224001 ≤ k && k ≤ 0x224008) then 0x8000 + 0x100 * (k - 0x224001) else
  if k == 0x22400A then 0x5555 else
  if k == 0x260001 then 0x200 else
  if k == 0x260002 then Config.fitted k else
  if (0x260201 ≤ k && k ≤ 0x260208) then Config.fitted k else
  if (0x260209 ≤ k && k ≤ 0x260210) then Config.fitted k else
  if k == 0x220001 then 0x80 else
  if k == 0x220002 then 0x1 else
  if k == 0x220004 then 0x2 else
  if (0x221001 ≤ k && k ≤ 0x221F40) then 0xFFF else
  if (0x223101 ≤ k && k ≤ 0x223110) then 0xFF else
  if (0x223201 ≤ k && k ≤ 0x223208) then 0xFF else
  if (0x224101 ≤ k && k ≤ 0x224108) then 0xFF else
  if (0x224109 ≤ k && k ≤ 0x224110) then 0x32 else
  if k == 0x231008 then 0xFFFFFFFF else
  if k == 0x23100C then 0x100 else
  if (0x231111 ≤ k && k ≤ 0x231118) then 0x8 else
  if (0x231219 ≤ k && k ≤ 0x231220) then 0x4 else
  if k == 0x231301 then 0x7 else
  if k == 0x231302 then 0x1 else
  if k == 0x241004 then 0x80000 else
  if k == 0x241005 then 0x3E8 else
  if k == 0x242002 then 0xFF else
  if k == 0x242004 then 0xFF else
  if k == 0x100900 then 0x41 else
  if k == 0x100A00 then Config.fitted k else
  if k == 0x101001 then 0x2 else
  if k == 0x101101 then 0x1 else
  if k == 0x101801 then Config.fitted k else
  if k == 0x101802 then 0x6420 else
  if k == 0x101803 then 0x10000 + Config.fitted k % 0x10000 else
  if k == 0x101804 then Config.fitted k else
  if k == 0x1C3202 then 0x7918 else
  if k == 0x1C3204 then 0x5 else
  if k == 0x1C3205 then 0x7918 else
  if k == 0x1C3206 then 0xFA0 else
  if k == 0x1C3302 then 0x7918 else
  if k == 0x1C3304 then 0x5 else
  if k == 0x1C3305 then 0x7918 else
  if k == 0x1C3306 then 0x1F40 else
  if k == 0x200001 then 0x3 else
  if k == 0x200002 then Config.fitted k else
  if k == 0x280001 then Config.fitted k else
  if k == 0x280004 then 0x1 else
  if k == 0x280102 then 0xFFFF else
  if k == 0x281004 then 0x4 else
  if k == 0x281005 then 0x1 else
  if k == 0x500001 then Config.fitted k else
  if k == 0x500002 then Config.fitted k else
  if k == 0x500003 then Config.fitted k else
  if k == 0x500004 then Config.fitted k else
  if k == 0x500005 then Config.fitted k else
  if (0x500006 ≤ k && k ≤ 0x500009) then Config.fitted k else
  if k == 0x50000A then Config.fitted k else
  if k == 0x50000B then Config.fitted k else
  if k == 0x510003 then 0xFF else
  if k == 0x540001 then 0xC else
  if k == 0x270102 then 0xFF else
  if k == 0x270103 then Config.fitted k else
  if k == 0x250008 then 0x2 else
  0

/-- Default value of a channel object (the Default columns; every object not named defaults to 0). -/
def chDefault (k : Nat) : Nat :=
  if k == 0x3 then 0x80000 else
  if k == 0x103 then 0x64 else
  if k == 0x301 then 0x64 else
  if (0x401 ≤ k && k ≤ 0x410) then 0x8027FE else
  if k == 0x501 then 0x1 else
  if k == 0x502 then 0x64 else
  if k == 0x503 then 0x802 else
  if k == 0x504 then 0x7FE else
  if k == 0x603 then 0x1 else
  if k == 0x702 then 0x1 else
  if k == 0x801 then 0x3 else
  if k == 0x802 then 0x1000 else
  if k == 0x902 then 0x1F else
  if k == 0x903 then 0x1F else
  if k == 0x905 then 0x1E else
  if k == 0x90A then Config.fitted k else
  if k == 0xA01 then 0x1 else
  if k == 0xA03 then 0xFFFF else
  if k == 0xA06 then 0x1F else
  if k == 0x3A01 then 0xFF else
  if (0x3B01 ≤ k && k ≤ 0x3B10) then 0x200 else
  if (0x1101 ≤ k && k ≤ 0x1110) then 0x80101000 else
  if (0x1201 ≤ k && k ≤ 0x1210) then 0xFF0000 else
  if (0x1301 ≤ k && k ≤ 0x1310) then 0xFF0000 else
  if (0x1401 ≤ k && k ≤ 0x1480) then 0x1400 else
  if (0x1501 ≤ k && k ≤ 0x1580) then 0x1400 else
  if k == 0x1601 then 0x1 else
  if (0x1602 ≤ k && k ≤ 0x1605) then 0x1400 else
  if k == 0x1701 then 0x1 else
  if (0x1702 ≤ k && k ≤ 0x1705) then 0x1400 else
  if k == 0x1802 then 0xFFFF0000 else
  if k == 0x1804 then 0xFFFF0000 else
  if k == 0x1806 then 0xFFFF0000 else
  if k == 0x1808 then 0xFFFF0000 else
  if k == 0x1902 then 0xA else
  if (0x2001 ≤ k && k ≤ 0x2010) then 0x1FF0 else
  if (0x2101 ≤ k && k ≤ 0x2110) then 0x3E8 else
  if (0x2A01 ≤ k && k ≤ 0x2A04) then 0x200 else
  if k == 0x3001 then 0xFFFF else
  if k == 0x3004 then 0xFFFF else
  if k == 0x3102 then 0xFFFF else
  if (0x3201 ≤ k && k ≤ 0x3204) then 0xFFFF else
  if (0x3301 ≤ k && k ≤ 0x3310) then 0x8000 else
  if k == 0x3501 then 0xFFFF else
  if k == 0x3506 then 0xFFFFFFFFFFFFFFFF else
  if k == 0x3601 then 0x400 else
  if k == 0x3604 then 0xFFFF else
  if k == 0x3707 then 0xFFFFFFFF else
  if k == 0x3901 then 0xFF else
  if (0x3D01 ≤ k && k ≤ 0x3D10) then 0x51EB85 else
  if (0x4001 ≤ k && k ≤ 0x4004) then 0xFF else
  if (0x4005 ≤ k && k ≤ 0x4008) then 0xFF else
  if k == 0x4009 then 0xFF else
  if k == 0x400A then 0xFF else
  if k == 0x400B then 0xFF else
  if k == 0x400C then 0xFF else
  if (0x400D ≤ k && k ≤ 0x401C) then 0xFF else
  if (0x401D ≤ k && k ≤ 0x402C) then 0xFF else
  if k == 0x402D then 0x1 else
  0

/-- Default value of a stall object (the Default columns; every object not named defaults to 0). -/
def stDefault (k : Nat) : Nat :=
  if k == 0x1 then 0x10 else
  if (0x2 ≤ k && k ≤ 0x11) then auxDefault (k - 0x2) else
  if k == 0x101 then 0x1 else
  if (0x102 ≤ k && k ≤ 0x105) then 0x5074 else
  if k == 0x107 then 0xFFFF0000 else
  if k == 0x201 then 0x40 else
  0

/-- Default process-data mapping and assignment (Table 14-7, R395). -/
def pdoDefault (k : Nat) : Nat :=
  let idx := k / 256
  let sub := k % 256
  if idx == 0x1600 then
    match sub with
    | 0 => 4 | 1 => 0x20020108 | 2 => 0x00000008 | 3 => 0x20100140 | 4 => 0x20100240 | _ => 0
  else if idx == 0x1A00 then
    match sub with
    | 0 => 9 | 1 => 0x20020230 | 2 => 0x20020308 | 3 => 0x20000108 | 4 => 0x20100340 | 5 => 0x20100408
    | 6 => 0x00000008 | 7 => 0x20110520 | 8 => 0x80010120 | 9 => 0x20020430 | _ => 0
  else if idx == 0x1A01 then
    (if sub == 0 then 64 else if sub ≤ 64 then 0x20030010 + 0x100 * sub else 0)
  else if idx == 0x1C00 then (if sub ≤ 4 then sub else 0)
  else if idx == 0x1C12 then (match sub with | 0 => 1 | 1 => 0x1600 | _ => 0)
  else if idx == 0x1C13 then (match sub with | 0 => 2 | 1 => 0x1A00 | 2 => 0x1A01 | _ => 0)
  else 0

/-- Default value of a device object. -/
def devDefault (k : Nat) : Nat :=
  if k < 0x200000 && 0x160000 ≤ k && k < 0x1C3200 then pdoDefault k else devDefaultPlain k

/-- Rows of the device object tables. -/
def devRows0 : List ObjRow := [
  ⟨0x2100, 0x2100, 0x1, 0x1, .tick48, 48, .ro, .volatile⟩,
  ⟨0x2100, 0x2100, 0x2, 0x2, .uint, 8, .ro, .volatile⟩,
  ⟨0x2100, 0x2100, 0x3, 0x3, .int, 32, .ro, .volatile⟩,
  ⟨0x2100, 0x2100, 0x4, 0x4, .uint, 16, .ro, .volatile⟩,
  ⟨0x2100, 0x2100, 0x5, 0x5, .uint, 8, .ro, .volatile⟩,
  ⟨0x2100, 0x2100, 0x6, 0x6, .uint, 8, .ro, .volatile⟩,
  ⟨0x2100, 0x2100, 0x7, 0x7, .tick48, 48, .ro, .volatile⟩,
  ⟨0x2101, 0x2101, 0x1, 0x1, .uint, 8, .rwp, .kept⟩,
  ⟨0x2101, 0x2101, 0x2, 0x2, .uint, 8, .rwp, .kept⟩,
  ⟨0x2101, 0x2101, 0x3, 0x3, .bool, 1, .rwp, .kept⟩,
  ⟨0x2101, 0x2101, 0x4, 0x4, .bool, 1, .rwp, .kept⟩,
  ⟨0x2101, 0x2101, 0x5, 0x5, .int, 16, .rwp, .kept⟩,
  ⟨0x2102, 0x2102, 0x1, 0x1, .uint, 8, .ro, .volatile⟩,
  ⟨0x2102, 0x2102, 0x2, 0x2, .uint, 32, .ro, .volatile⟩,
  ⟨0x2102, 0x2102, 0x3, 0x3, .uint, 32, .ro, .volatile⟩,
  ⟨0x2102, 0x2102, 0x4, 0x4, .uint, 32, .ro, .volatile⟩,
  ⟨0x2102, 0x2102, 0x5, 0x5, .uint, 16, .ro, .volatile⟩,
  ⟨0x2102, 0x2102, 0x6, 0x6, .uint, 8, .ro, .volatile⟩,
  ⟨0x2102, 0x2102, 0x7, 0x7, .uint, 8, .wo, .volatile⟩,
  ⟨0x2103, 0x2103, 0x1, 0x1, .uint, 8, .ro, .volatile⟩,
  ⟨0x2103, 0x2103, 0x2, 0x2, .int, 32, .ro, .volatile⟩,
  ⟨0x2103, 0x2103, 0x3, 0x3, .int, 32, .ro, .volatile⟩,
  ⟨0x2103, 0x2103, 0x4, 0x4, .uint, 32, .ro, .volatile⟩,
  ⟨0x2103, 0x2103, 0x5, 0x5, .uint, 32, .ro, .volatile⟩,
  ⟨0x2104, 0x2104, 0x1, 0x1, .tick48, 48, .ro, .volatile⟩,
  ⟨0x2104, 0x2104, 0x2, 0x2, .uint, 8, .ro, .volatile⟩,
  ⟨0x2104, 0x2104, 0x3, 0x3, .tick48, 48, .wo, .volatile⟩,
  ⟨0x2104, 0x2104, 0x4, 0x4, .uint, 8, .wo, .volatile⟩,
  ⟨0x2104, 0x2104, 0x5, 0x5, .uint, 64, .rw, .volatile⟩,
  ⟨0x2105, 0x2105, 0x1, 0x1, .tick48, 48, .wo, .volatile⟩,
  ⟨0x2105, 0x2105, 0x2, 0x2, .uint, 64, .ro, .volatile⟩,
  ⟨0x2105, 0x2105, 0x3, 0x3, .uint, 64, .ro, .volatile⟩,
  ⟨0x2105, 0x2105, 0x4, 0x4, .tick48, 48, .ro, .volatile⟩,
  ⟨0x2106, 0x2106, 0x1, 0x1, .uint, 16, .ro, .volatile⟩,
  ⟨0x2106, 0x2106, 0x2, 0x2, .uint, 16, .ro, .volatile⟩,
  ⟨0x2106, 0x2106, 0x3, 0x3, .uint, 8, .ro, .volatile⟩,
  ⟨0x2010, 0x2010, 0x1, 0x1, .uint, 64, .wo, .volatile⟩,
  ⟨0x2010, 0x2010, 0x2, 0x2, .uint, 64, .wo, .volatile⟩,
  ⟨0x2010, 0x2010, 0x3, 0x3, .uint, 64, .ro, .volatile⟩,
  ⟨0x2010, 0x2010, 0x4, 0x4, .uint, 8, .ro, .volatile⟩]

/-- Rows of the device object tables. -/
def devRows1 : List ObjRow := [
  ⟨0x2010, 0x2010, 0x5, 0x5, .tick48, 48, .ro, .volatile⟩,
  ⟨0x2011, 0x2011, 0x1, 0x1, .uint, 32, .ro, .volatile⟩,
  ⟨0x2011, 0x2011, 0x2, 0x2, .uint, 32, .ro, .volatile⟩,
  ⟨0x2011, 0x2011, 0x3, 0x3, .uint, 32, .ro, .volatile⟩,
  ⟨0x2011, 0x2011, 0x4, 0x4, .uint, 32, .ro, .volatile⟩,
  ⟨0x2011, 0x2011, 0x5, 0x5, .uint, 32, .ro, .volatile⟩,
  ⟨0x2011, 0x2011, 0x6, 0x6, .uint, 32, .rw, .volatile⟩,
  ⟨0x8000, 0x8000, 0x1, 0x1, .uint, 8, .rwp, .kept⟩,
  ⟨0x8000, 0x8000, 0x2, 0x2, .uint, 16, .rwp, .kept⟩,
  ⟨0x8000, 0x8000, 0x3, 0x3, .uint, 32, .rw, .kept⟩,
  ⟨0x8000, 0x8000, 0x4, 0x4, .uint, 8, .rwp, .kept⟩,
  ⟨0x8001, 0x8001, 0x1, 0x1, .uint, 32, .ro, .volatile⟩,
  ⟨0x8001, 0x8001, 0x2, 0x2, .octets, 8192, .ro, .volatile⟩,
  ⟨0x8001, 0x8001, 0x3, 0x3, .uint, 16, .wo, .volatile⟩,
  ⟨0x8001, 0x8001, 0x4, 0x4, .uint, 64, .ro, .volatile⟩,
  ⟨0x8001, 0x8001, 0x5, 0x5, .uint, 32, .ro, .volatile⟩,
  ⟨0x8001, 0x8001, 0x6, 0x6, .uint, 32, .ro, .volatile⟩,
  ⟨0x8002, 0x8002, 0x1, 0x1, .uint, 32, .ro, .volatile⟩,
  ⟨0x8002, 0x8002, 0x2, 0x2, .uint, 8, .wo, .volatile⟩,
  ⟨0x8002, 0x8002, 0x3, 0x3, .uint, 32, .ro, .volatile⟩,
  ⟨0x8002, 0x8002, 0x4, 0x4, .uint, 32, .ro, .volatile⟩,
  ⟨0x2300, 0x2300, 0x1, 0x1, .uint, 32, .ro, .volatile⟩,
  ⟨0x2300, 0x2300, 0x2, 0x2, .uint, 16, .ro, .volatile⟩,
  ⟨0x2300, 0x2300, 0x3, 0x3, .uint, 16, .rw, .volatile⟩,
  ⟨0x2300, 0x2300, 0x4, 0x4, .uint, 64, .rw, .volatile⟩,
  ⟨0x2300, 0x2300, 0x5, 0x5, .uint, 16, .ro, .volatile⟩,
  ⟨0x2300, 0x2300, 0x6, 0x6, .uint, 32, .ro, .volatile⟩,
  ⟨0x2301, 0x2301, 0x1, 0x1, .uint, 64, .ro, .volatile⟩,
  ⟨0x2301, 0x2301, 0x2, 0x2, .uint, 64, .ro, .volatile⟩,
  ⟨0x2301, 0x2301, 0x3, 0x3, .uint, 64, .ro, .volatile⟩,
  ⟨0x2301, 0x2301, 0x4, 0x4, .uint, 64, .ro, .volatile⟩,
  ⟨0x2240, 0x2240, 0x1, 0x8, .uint, 16, .rw, .kept⟩,
  ⟨0x2240, 0x2240, 0x9, 0x9, .bool, 1, .rw, .volatile⟩,
  ⟨0x2240, 0x2240, 0xA, 0xA, .uint, 16, .ro, .volatile⟩,
  ⟨0x2600, 0x2600, 0x1, 0x1, .uint, 16, .ro, .volatile⟩,
  ⟨0x2600, 0x2600, 0x2, 0x2, .uint, 32, .ro, .volatile⟩,
  ⟨0x2600, 0x2600, 0x3, 0x3, .uint, 8, .ro, .volatile⟩,
  ⟨0x2600, 0x2600, 0x4, 0x4, .uint, 32, .ro, .volatile⟩,
  ⟨0x2600, 0x2600, 0x5, 0x5, .tick48, 48, .ro, .volatile⟩,
  ⟨0x2600, 0x2600, 0x6, 0x6, .uint, 32, .ro, .volatile⟩]

/-- Rows of the device object tables. -/
def devRows2 : List ObjRow := [
  ⟨0x2601, 0x2601, 0x1, 0x1, .uint, 16, .rw, .volatile⟩,
  ⟨0x2601, 0x2601, 0x2, 0x2, .uint, 8, .ro, .volatile⟩,
  ⟨0x2601, 0x2601, 0x3, 0x3, .octets, 128, .ro, .volatile⟩,
  ⟨0x2601, 0x2601, 0x4, 0x4, .octets, 128, .ro, .volatile⟩,
  ⟨0x2601, 0x2601, 0x5, 0x5, .uint, 8, .wo, .volatile⟩,
  ⟨0x2602, 0x2602, 0x1, 0x8, .uint, 32, .ro, .volatile⟩,
  ⟨0x2602, 0x2602, 0x9, 0x10, .uint, 16, .ro, .volatile⟩,
  ⟨0x2603, 0x2603, 0x1, 0x1, .uint, 8, .rw, .volatile⟩,
  ⟨0x2603, 0x2603, 0x2, 0x2, .uint, 8, .ro, .volatile⟩,
  ⟨0x2603, 0x2603, 0x3, 0x3, .uint, 16, .ro, .volatile⟩,
  ⟨0x2603, 0x2603, 0x4, 0x4, .uint, 32, .ro, .volatile⟩,
  ⟨0x2603, 0x2603, 0x5, 0x5, .uint, 32, .ro, .volatile⟩,
  ⟨0x2603, 0x2603, 0x6, 0x6, .uint, 32, .ro, .volatile⟩,
  ⟨0x2603, 0x2603, 0x7, 0x7, .uint, 32, .ro, .volatile⟩,
  ⟨0x2620, 0x2620, 0x1, 0x1, .uint, 32, .rw, .volatile⟩,
  ⟨0x2620, 0x2620, 0x2, 0x2, .int, 64, .rw, .volatile⟩,
  ⟨0x2200, 0x2200, 0x1, 0x1, .uint, 8, .ro, .volatile⟩,
  ⟨0x2200, 0x2200, 0x2, 0x2, .uint, 32, .rw, .kept⟩,
  ⟨0x2200, 0x2200, 0x3, 0x3, .uint, 32, .rw, .kept⟩,
  ⟨0x2200, 0x2200, 0x4, 0x4, .uint, 8, .rw, .kept⟩,
  ⟨0x2200, 0x2200, 0x5, 0x5, .uint, 64, .ro, .volatile⟩,
  ⟨0x2200, 0x2200, 0x6, 0x6, .uint, 64, .ro, .volatile⟩,
  ⟨0x2200, 0x2200, 0x7, 0x7, .uint, 64, .rw, .volatile⟩,
  ⟨0x2200, 0x2200, 0x8, 0x8, .uint, 64, .rw, .volatile⟩,
  ⟨0x2200, 0x2200, 0x9, 0x9, .uint, 32, .ro, .volatile⟩,
  ⟨0x2200, 0x2200, 0xA, 0xA, .uint, 32, .ro, .volatile⟩,
  ⟨0x2200, 0x2200, 0xB, 0xB, .uint, 8, .wo, .volatile⟩,
  ⟨0x2210, 0x221F, 0x1, 0x40, .uint, 16, .rw, .kept⟩,
  ⟨0x2220, 0x2220, 0x1, 0x80, .uint, 8, .rw, .kept⟩,
  ⟨0x2221, 0x2221, 0x1, 0x80, .uint, 32, .ro, .volatile⟩,
  ⟨0x2222, 0x2222, 0x1, 0x80, .uint, 32, .ro, .volatile⟩,
  ⟨0x2230, 0x2230, 0x1, 0x10, .uint, 32, .rw, .kept⟩,
  ⟨0x2231, 0x2231, 0x1, 0x10, .uint, 8, .rw, .kept⟩,
  ⟨0x2232, 0x2232, 0x1, 0x8, .uint, 8, .rw, .kept⟩,
  ⟨0x2233, 0x2233, 0x1, 0x10, .uint, 32, .ro, .volatile⟩,
  ⟨0x2233, 0x2233, 0x11, 0x20, .uint, 32, .ro, .volatile⟩,
  ⟨0x2233, 0x2233, 0x21, 0x28, .uint, 32, .ro, .volatile⟩,
  ⟨0x2233, 0x2233, 0x29, 0x30, .uint, 32, .ro, .volatile⟩,
  ⟨0x2233, 0x2233, 0x31, 0x38, .uint, 32, .ro, .volatile⟩,
  ⟨0x2234, 0x2234, 0x1, 0x1, .uint, 16, .ro, .volatile⟩]

/-- Rows of the device object tables. -/
def devRows3 : List ObjRow := [
  ⟨0x2241, 0x2241, 0x1, 0x8, .uint, 8, .rw, .kept⟩,
  ⟨0x2241, 0x2241, 0x9, 0x10, .uint, 16, .rw, .kept⟩,
  ⟨0x2310, 0x2310, 0x1, 0x1, .uint, 32, .ro, .volatile⟩,
  ⟨0x2310, 0x2310, 0x2, 0x2, .uint, 32, .ro, .volatile⟩,
  ⟨0x2310, 0x2310, 0x3, 0x3, .uint, 8, .ro, .volatile⟩,
  ⟨0x2310, 0x2310, 0x4, 0x4, .uint, 8, .rw, .volatile⟩,
  ⟨0x2310, 0x2310, 0x5, 0x5, .uint, 64, .ro, .volatile⟩,
  ⟨0x2310, 0x2310, 0x6, 0x6, .tick48, 48, .ro, .volatile⟩,
  ⟨0x2310, 0x2310, 0x7, 0x7, .tick48, 48, .ro, .volatile⟩,
  ⟨0x2310, 0x2310, 0x8, 0x8, .uint, 32, .rw, .volatile⟩,
  ⟨0x2310, 0x2310, 0x9, 0x9, .uint, 64, .ro, .volatile⟩,
  ⟨0x2310, 0x2310, 0xA, 0xA, .uint, 64, .ro, .volatile⟩,
  ⟨0x2310, 0x2310, 0xB, 0xB, .uint, 32, .ro, .volatile⟩,
  ⟨0x2310, 0x2310, 0xC, 0xC, .uint, 16, .ro, .volatile⟩,
  ⟨0x2311, 0x2311, 0x1, 0x8, .uint, 32, .ro, .volatile⟩,
  ⟨0x2311, 0x2311, 0x9, 0x10, .uint, 32, .ro, .volatile⟩,
  ⟨0x2311, 0x2311, 0x11, 0x18, .uint, 8, .ro, .volatile⟩,
  ⟨0x2312, 0x2312, 0x1, 0x8, .uint, 32, .ro, .volatile⟩,
  ⟨0x2312, 0x2312, 0x9, 0x10, .uint, 32, .ro, .volatile⟩,
  ⟨0x2312, 0x2312, 0x11, 0x18, .uint, 32, .ro, .volatile⟩,
  ⟨0x2312, 0x2312, 0x19, 0x20, .uint, 8, .ro, .volatile⟩,
  ⟨0x2313, 0x2313, 0x1, 0x1, .uint, 8, .rw, .kept⟩,
  ⟨0x2313, 0x2313, 0x2, 0x2, .uint, 16, .rw, .kept⟩,
  ⟨0x2313, 0x2313, 0x3, 0x3, .uint, 32, .ro, .volatile⟩,
  ⟨0x2313, 0x2313, 0x4, 0x4, .uint, 32, .ro, .volatile⟩,
  ⟨0x2313, 0x2313, 0x5, 0x5, .uint, 32, .ro, .volatile⟩,
  ⟨0x2313, 0x2313, 0x6, 0x6, .uint, 32, .ro, .volatile⟩,
  ⟨0x2314, 0x2314, 0x1, 0x1, .uint, 8, .ro, .volatile⟩,
  ⟨0x2314, 0x2314, 0x2, 0x2, .uint, 32, .ro, .volatile⟩,
  ⟨0x2400, 0x2400, 0x1, 0x1, .uint, 8, .rw, .volatile⟩,
  ⟨0x2400, 0x2400, 0x2, 0x2, .uint, 16, .ro, .volatile⟩,
  ⟨0x2400, 0x2400, 0x3, 0x3, .tick48, 48, .ro, .volatile⟩,
  ⟨0x2400, 0x2400, 0x4, 0x4, .uint, 32, .ro, .volatile⟩,
  ⟨0x2400, 0x2400, 0x5, 0x5, .uint, 32, .ro, .volatile⟩,
  ⟨0x2400, 0x2400, 0x6, 0x6, .tick48, 48, .ro, .volatile⟩,
  ⟨0x2400, 0x2400, 0x7, 0x7, .int, 16, .ro, .volatile⟩,
  ⟨0x2401, 0x2401, 0x1, 0x1, .tick48, 48, .ro, .volatile⟩,
  ⟨0x2401, 0x2401, 0x2, 0x2, .uint, 32, .ro, .volatile⟩,
  ⟨0x2401, 0x2401, 0x3, 0x3, .uint, 32, .ro, .volatile⟩,
  ⟨0x2410, 0x2410, 0x1, 0x1, .uint, 8, .rws, .volatile⟩]

/-- Rows of the device object tables. -/
def devRows4 : List ObjRow := [
  ⟨0x2410, 0x2410, 0x2, 0x2, .uint, 8, .rws, .volatile⟩,
  ⟨0x2410, 0x2410, 0x3, 0x3, .uint, 8, .rws, .volatile⟩,
  ⟨0x2410, 0x2410, 0x4, 0x4, .code20, 32, .rws, .volatile⟩,
  ⟨0x2410, 0x2410, 0x5, 0x5, .uint, 16, .rws, .volatile⟩,
  ⟨0x2410, 0x2410, 0x6, 0x6, .int, 32, .rws, .volatile⟩,
  ⟨0x2410, 0x2410, 0x7, 0x7, .uint, 8, .rws, .volatile⟩,
  ⟨0x2410, 0x2410, 0x8, 0x8, .uint, 8, .ro, .volatile⟩,
  ⟨0x2410, 0x2410, 0x9, 0x9, .uint, 8, .ro, .volatile⟩,
  ⟨0x2410, 0x2410, 0xA, 0xA, .uint, 8, .ro, .volatile⟩,
  ⟨0x2410, 0x2410, 0xB, 0xB, .int, 32, .ro, .volatile⟩,
  ⟨0x2410, 0x2410, 0xC, 0xC, .uint, 32, .ro, .volatile⟩,
  ⟨0x2410, 0x2410, 0xD, 0xD, .tick48, 48, .ro, .volatile⟩,
  ⟨0x2420, 0x2420, 0x1, 0x1, .uint, 32, .ro, .volatile⟩,
  ⟨0x2420, 0x2420, 0x2, 0x2, .uint, 8, .ro, .volatile⟩,
  ⟨0x2420, 0x2420, 0x3, 0x3, .uint, 32, .ro, .volatile⟩,
  ⟨0x2420, 0x2420, 0x4, 0x4, .uint, 8, .ro, .volatile⟩,
  ⟨0x2420, 0x2420, 0x5, 0x5, .uint, 8, .ro, .volatile⟩,
  ⟨0x2420, 0x2420, 0x6, 0x6, .uint, 16, .rw, .volatile⟩,
  ⟨0x2420, 0x2420, 0x7, 0x7, .octets, 128, .ro, .volatile⟩,
  ⟨0x2420, 0x2420, 0x8, 0x8, .uint, 32, .ro, .volatile⟩,
  ⟨0x1000, 0x1000, 0x0, 0x0, .uint, 32, .ro, .volatile⟩,
  ⟨0x1008, 0x1008, 0x0, 0x0, .text, 0, .ro, .volatile⟩,
  ⟨0x1009, 0x1009, 0x0, 0x0, .text, 0, .ro, .volatile⟩,
  ⟨0x100A, 0x100A, 0x0, 0x0, .text, 0, .ro, .volatile⟩,
  ⟨0x1010, 0x1010, 0x1, 0x1, .uint, 32, .rw, .volatile⟩,
  ⟨0x1011, 0x1011, 0x1, 0x1, .uint, 32, .rw, .volatile⟩,
  ⟨0x1018, 0x1018, 0x1, 0x1, .uint, 32, .ro, .volatile⟩,
  ⟨0x1018, 0x1018, 0x2, 0x2, .uint, 32, .ro, .volatile⟩,
  ⟨0x1018, 0x1018, 0x3, 0x3, .uint, 32, .ro, .volatile⟩,
  ⟨0x1018, 0x1018, 0x4, 0x4, .uint, 32, .ro, .volatile⟩,
  ⟨0x1600, 0x1607, 0x0, 0x0, .uint, 8, .rw, .volatile⟩,
  ⟨0x1600, 0x1607, 0x1, 0x40, .uint, 32, .rw, .volatile⟩,
  ⟨0x1A00, 0x1A07, 0x0, 0x0, .uint, 8, .rw, .volatile⟩,
  ⟨0x1A00, 0x1A07, 0x1, 0x40, .uint, 32, .rw, .volatile⟩,
  ⟨0x1C00, 0x1C00, 0x1, 0x4, .uint, 8, .ro, .volatile⟩,
  ⟨0x1C12, 0x1C12, 0x0, 0x8, .uint, 16, .rw, .volatile⟩,
  ⟨0x1C13, 0x1C13, 0x0, 0x8, .uint, 16, .rw, .volatile⟩,
  ⟨0x1C32, 0x1C32, 0x1, 0x1, .uint, 16, .rw, .volatile⟩,
  ⟨0x1C32, 0x1C32, 0x2, 0x2, .uint, 32, .rw, .volatile⟩,
  ⟨0x1C32, 0x1C32, 0x4, 0x4, .uint, 16, .ro, .volatile⟩]

/-- Rows of the device object tables. -/
def devRows5 : List ObjRow := [
  ⟨0x1C32, 0x1C32, 0x5, 0x5, .uint, 32, .ro, .volatile⟩,
  ⟨0x1C32, 0x1C32, 0x6, 0x6, .uint, 32, .ro, .volatile⟩,
  ⟨0x1C32, 0x1C32, 0xB, 0xB, .uint, 16, .ro, .volatile⟩,
  ⟨0x1C32, 0x1C32, 0xC, 0xC, .uint, 16, .ro, .volatile⟩,
  ⟨0x1C32, 0x1C32, 0x20, 0x20, .bool, 1, .ro, .volatile⟩,
  ⟨0x1C33, 0x1C33, 0x1, 0x1, .uint, 16, .ro, .volatile⟩,
  ⟨0x1C33, 0x1C33, 0x2, 0x2, .uint, 32, .ro, .volatile⟩,
  ⟨0x1C33, 0x1C33, 0x4, 0x4, .uint, 16, .ro, .volatile⟩,
  ⟨0x1C33, 0x1C33, 0x5, 0x5, .uint, 32, .ro, .volatile⟩,
  ⟨0x1C33, 0x1C33, 0x6, 0x6, .uint, 32, .ro, .volatile⟩,
  ⟨0x2000, 0x2000, 0x1, 0x1, .uint, 8, .ro, .volatile⟩,
  ⟨0x2000, 0x2000, 0x2, 0x2, .uint, 8, .ro, .volatile⟩,
  ⟨0x2002, 0x2002, 0x1, 0x1, .uint, 8, .rw, .volatile⟩,
  ⟨0x2002, 0x2002, 0x2, 0x2, .tick48, 48, .ro, .volatile⟩,
  ⟨0x2002, 0x2002, 0x3, 0x3, .uint, 8, .ro, .volatile⟩,
  ⟨0x2002, 0x2002, 0x4, 0x4, .tick48, 48, .ro, .volatile⟩,
  ⟨0x2002, 0x2002, 0x5, 0x5, .uint, 8, .rw, .kept⟩,
  ⟨0x2002, 0x2002, 0x6, 0x6, .uint, 32, .ro, .volatile⟩,
  ⟨0x2003, 0x2003, 0x1, 0x40, .uint, 16, .ro, .volatile⟩,
  ⟨0x2710, 0x2710, 0x1, 0x1, .uint, 16, .ro, .volatile⟩,
  ⟨0x2710, 0x2710, 0x2, 0x2, .uint, 64, .ro, .volatile⟩,
  ⟨0x2710, 0x2710, 0x3, 0x3, .uint, 8, .ro, .volatile⟩,
  ⟨0x2710, 0x2710, 0x4, 0x4, .uint, 16, .ro, .volatile⟩,
  ⟨0x2710, 0x2710, 0x5, 0x5, .uint, 16, .ro, .volatile⟩,
  ⟨0x2710, 0x2710, 0x6, 0x6, .uint, 16, .ro, .volatile⟩,
  ⟨0x2710, 0x2710, 0x7, 0x7, .uint, 32, .rw, .volatile⟩,
  ⟨0x2710, 0x2710, 0x8, 0x8, .uint, 8, .ro, .volatile⟩,
  ⟨0x2711, 0x2711, 0x1, 0x1, .uint, 32, .ro, .volatile⟩,
  ⟨0x2711, 0x2711, 0x2, 0x2, .uint, 32, .ro, .volatile⟩,
  ⟨0x2711, 0x2711, 0x3, 0x3, .uint, 16, .ro, .volatile⟩,
  ⟨0x2800, 0x2800, 0x1, 0x1, .uint, 8, .ro, .volatile⟩,
  ⟨0x2800, 0x2800, 0x2, 0x2, .uint, 8, .ro, .volatile⟩,
  ⟨0x2800, 0x2800, 0x3, 0x3, .uint, 16, .rwp, .kept⟩,
  ⟨0x2800, 0x2800, 0x4, 0x4, .uint, 8, .ro, .volatile⟩,
  ⟨0x2800, 0x2800, 0x5, 0x5, .uint, 16, .ro, .volatile⟩,
  ⟨0x2800, 0x2800, 0x6, 0x6, .uint, 32, .ro, .volatile⟩,
  ⟨0x2800, 0x2800, 0x7, 0x7, .uint, 32, .ro, .volatile⟩,
  ⟨0x2800, 0x2800, 0x8, 0x8, .uint, 32, .ro, .volatile⟩,
  ⟨0x2800, 0x2800, 0x9, 0x9, .uint, 16, .ro, .volatile⟩,
  ⟨0x2800, 0x2800, 0xA, 0xA, .uint, 32, .ro, .volatile⟩]

/-- Rows of the device object tables. -/
def devRows6 : List ObjRow := [
  ⟨0x2800, 0x2800, 0xB, 0xB, .uint, 32, .ro, .volatile⟩,
  ⟨0x2801, 0x2801, 0x1, 0x1, .uint, 8, .rw, .volatile⟩,
  ⟨0x2801, 0x2801, 0x2, 0x2, .uint, 16, .rw, .volatile⟩,
  ⟨0x2801, 0x2801, 0x3, 0x3, .uint, 64, .rw, .volatile⟩,
  ⟨0x2801, 0x2801, 0x4, 0x4, .uint, 8, .rw, .volatile⟩,
  ⟨0x2801, 0x2801, 0x5, 0x5, .octets, 8192, .wo, .volatile⟩,
  ⟨0x2801, 0x2801, 0x6, 0x6, .uint, 8, .wo, .volatile⟩,
  ⟨0x2801, 0x2801, 0x7, 0x7, .uint, 16, .ro, .volatile⟩,
  ⟨0x2801, 0x2801, 0x8, 0x8, .uint, 32, .ro, .volatile⟩,
  ⟨0x2801, 0x2801, 0x9, 0x9, .tick48, 48, .ro, .volatile⟩,
  ⟨0x2810, 0x2810, 0x1, 0x1, .uint, 8, .ro, .volatile⟩,
  ⟨0x2810, 0x2810, 0x2, 0x2, .uint, 8, .ro, .volatile⟩,
  ⟨0x2810, 0x2810, 0x3, 0x3, .uint, 8, .ro, .volatile⟩,
  ⟨0x2810, 0x2810, 0x4, 0x4, .uint, 8, .rwp, .kept⟩,
  ⟨0x2810, 0x2810, 0x5, 0x5, .bool, 1, .rwp, .kept⟩,
  ⟨0x2810, 0x2810, 0x6, 0x6, .uint, 32, .ro, .volatile⟩,
  ⟨0x2810, 0x2810, 0x7, 0x7, .uint, 32, .ro, .volatile⟩,
  ⟨0x2810, 0x2810, 0x8, 0x8, .uint, 32, .ro, .volatile⟩,
  ⟨0x2810, 0x2810, 0x9, 0x9, .uint, 16, .ro, .volatile⟩,
  ⟨0x2811, 0x2811, 0x1, 0x3, .uint, 16, .ro, .volatile⟩,
  ⟨0x2811, 0x2811, 0x4, 0x4, .uint, 32, .ro, .volatile⟩,
  ⟨0x5000, 0x5000, 0x1, 0x1, .uint, 8, .ro, .volatile⟩,
  ⟨0x5000, 0x5000, 0x2, 0x2, .octets, 64, .ro, .volatile⟩,
  ⟨0x5000, 0x5000, 0x3, 0x3, .octets, 8192, .ro, .volatile⟩,
  ⟨0x5000, 0x5000, 0x4, 0x4, .octets, 384, .ro, .volatile⟩,
  ⟨0x5000, 0x5000, 0x5, 0x5, .uint, 8, .ro, .volatile⟩,
  ⟨0x5000, 0x5000, 0x6, 0x9, .uint, 8, .ro, .volatile⟩,
  ⟨0x5000, 0x5000, 0xA, 0xA, .uint, 8, .ro, .volatile⟩,
  ⟨0x5000, 0x5000, 0xB, 0xB, .uint, 8, .ro, .volatile⟩,
  ⟨0x5000, 0x5000, 0xC, 0xC, .uint, 8, .ro, .volatile⟩,
  ⟨0x5001, 0x5001, 0x1, 0x1, .octets, 256, .wo, .volatile⟩,
  ⟨0x5001, 0x5001, 0x2, 0x2, .octets, 2048, .ro, .volatile⟩,
  ⟨0x5100, 0x5100, 0x1, 0x1, .uint, 8, .wo, .volatile⟩,
  ⟨0x5100, 0x5100, 0x2, 0x2, .uint, 8, .ro, .volatile⟩,
  ⟨0x5100, 0x5100, 0x3, 0x3, .uint, 8, .ro, .volatile⟩,
  ⟨0x5100, 0x5100, 0x4, 0x4, .uint, 16, .ro, .volatile⟩,
  ⟨0x5100, 0x5100, 0x5, 0x5, .octets, 1888, .ro, .volatile⟩,
  ⟨0x5100, 0x5100, 0x6, 0x6, .octets, 3232, .wo, .volatile⟩,
  ⟨0x5100, 0x5100, 0x7, 0x7, .uint, 32, .ro, .volatile⟩,
  ⟨0x5100, 0x5100, 0x8, 0x8, .uint, 8, .ro, .volatile⟩]

/-- Rows of the device object tables. -/
def devRows7 : List ObjRow := [
  ⟨0x5200, 0x5200, 0x1, 0x1, .octets, 8192, .wo, .volatile⟩,
  ⟨0x5200, 0x5200, 0x2, 0x2, .uint, 8, .ro, .volatile⟩,
  ⟨0x5200, 0x5200, 0x3, 0x3, .uint, 32, .ro, .volatile⟩,
  ⟨0x5200, 0x5200, 0x4, 0x4, .tick48, 48, .ro, .volatile⟩,
  ⟨0x5200, 0x5200, 0x5, 0x5, .uint, 32, .ro, .volatile⟩,
  ⟨0x5210, 0x5210, 0x1, 0x1, .uint, 8, .rw, .volatile⟩,
  ⟨0x5210, 0x5210, 0x2, 0x2, .uint, 64, .ro, .volatile⟩,
  ⟨0x5210, 0x5210, 0x3, 0x3, .uint, 64, .ro, .volatile⟩,
  ⟨0x5210, 0x5210, 0x4, 0x4, .uint, 32, .wo, .volatile⟩,
  ⟨0x5300, 0x5300, 0x1, 0x1, .octets, 2688, .ro, .volatile⟩,
  ⟨0x5300, 0x5300, 0x2, 0x2, .octets, 2688, .ro, .volatile⟩,
  ⟨0x5400, 0x5400, 0x1, 0x1, .uint, 32, .rws, .sealed⟩,
  ⟨0x5500, 0x5500, 0x1, 0x1, .uint, 8, .ro, .volatile⟩,
  ⟨0x5500, 0x5500, 0x2, 0x2, .uint, 8, .wo, .volatile⟩,
  ⟨0x5500, 0x5500, 0x3, 0x3, .octets, 256, .ro, .volatile⟩,
  ⟨0x5500, 0x5500, 0x4, 0x4, .uint, 8, .ro, .volatile⟩,
  ⟨0x5500, 0x5500, 0x5, 0x5, .uint, 64, .wo, .volatile⟩,
  ⟨0x5500, 0x5500, 0x6, 0x6, .uint, 64, .wo, .volatile⟩,
  ⟨0x5500, 0x5500, 0x7, 0x7, .uint, 64, .wo, .volatile⟩,
  ⟨0x5500, 0x5500, 0x8, 0x8, .uint, 64, .ro, .volatile⟩,
  ⟨0x5500, 0x5500, 0x9, 0x9, .uint, 64, .ro, .volatile⟩,
  ⟨0x5500, 0x5500, 0xA, 0xA, .uint, 8, .ro, .volatile⟩,
  ⟨0x5F00, 0x5F00, 0x1, 0x1, .octets, 8192, .wo, .volatile⟩,
  ⟨0x5F00, 0x5F00, 0x2, 0x2, .octets, 8192, .ro, .volatile⟩,
  ⟨0x5F00, 0x5F00, 0x3, 0x3, .uint, 64, .ro, .volatile⟩,
  ⟨0x2700, 0x2700, 0x1, 0x1, .uint, 8, .ro, .volatile⟩,
  ⟨0x2700, 0x2700, 0x2, 0x2, .uint, 8, .ro, .volatile⟩,
  ⟨0x2700, 0x2700, 0x3, 0x3, .uint, 32, .ro, .volatile⟩,
  ⟨0x2700, 0x2700, 0x4, 0x4, .uint, 16, .ro, .volatile⟩,
  ⟨0x2700, 0x2700, 0x5, 0x5, .uint, 16, .ro, .volatile⟩,
  ⟨0x2700, 0x2700, 0x6, 0x6, .uint, 16, .ro, .volatile⟩,
  ⟨0x2700, 0x2700, 0x7, 0x7, .uint, 16, .ro, .volatile⟩,
  ⟨0x2700, 0x2700, 0x8, 0x8, .uint, 8, .ro, .volatile⟩,
  ⟨0x2700, 0x2700, 0x9, 0x9, .uint, 32, .wo, .volatile⟩,
  ⟨0x2700, 0x2700, 0xA, 0xA, .uint, 8, .ro, .volatile⟩,
  ⟨0x2700, 0x2700, 0xB, 0xB, .tick48, 48, .ro, .volatile⟩,
  ⟨0x2701, 0x2701, 0x1, 0x1, .uint, 8, .ro, .volatile⟩,
  ⟨0x2701, 0x2701, 0x2, 0x2, .uint, 8, .ro, .volatile⟩,
  ⟨0x2701, 0x2701, 0x3, 0x3, .uint, 32, .ro, .volatile⟩,
  ⟨0x2701, 0x2701, 0x4, 0x4, .uint, 32, .ro, .volatile⟩]

/-- Rows of the device object tables. -/
def devRows8 : List ObjRow := [
  ⟨0x2701, 0x2701, 0x5, 0x5, .uint, 32, .ro, .volatile⟩,
  ⟨0x2701, 0x2701, 0x6, 0x6, .uint, 8, .ro, .volatile⟩,
  ⟨0x2701, 0x2701, 0x7, 0x7, .uint, 16, .ro, .volatile⟩,
  ⟨0x2701, 0x2701, 0x8, 0x8, .uint, 8, .wo, .volatile⟩,
  ⟨0x2701, 0x2701, 0x9, 0x9, .uint, 8, .ro, .volatile⟩,
  ⟨0x2701, 0x2701, 0xA, 0xA, .uint, 32, .ro, .volatile⟩,
  ⟨0x2701, 0x2701, 0xB, 0xB, .uint, 16, .ro, .volatile⟩,
  ⟨0x2702, 0x2702, 0x1, 0x1, .bool, 1, .rw, .volatile⟩,
  ⟨0x2702, 0x2702, 0x2, 0x2, .bool, 1, .rw, .kept⟩,
  ⟨0x2702, 0x2702, 0x3, 0x3, .uint, 8, .ro, .volatile⟩,
  ⟨0x2702, 0x2702, 0x4, 0x4, .uint, 8, .ro, .volatile⟩,
  ⟨0x2702, 0x2702, 0x5, 0x5, .uint, 16, .ro, .volatile⟩,
  ⟨0x2702, 0x2702, 0x6, 0x6, .uint, 16, .ro, .volatile⟩,
  ⟨0x2703, 0x2703, 0x1, 0x1, .uint, 8, .wo, .volatile⟩,
  ⟨0x2703, 0x2703, 0x2, 0x2, .bool, 1, .rw, .kept⟩,
  ⟨0x2703, 0x2703, 0x3, 0x3, .uint, 8, .ro, .volatile⟩,
  ⟨0x2703, 0x2703, 0x4, 0x4, .uint, 8, .ro, .volatile⟩,
  ⟨0x2703, 0x2703, 0x5, 0x5, .tick48, 48, .ro, .volatile⟩,
  ⟨0x2703, 0x2703, 0x6, 0xD, .uint, 32, .ro, .volatile⟩,
  ⟨0x2500, 0x2500, 0x1, 0x1, .uint, 16, .ro, .volatile⟩,
  ⟨0x2500, 0x2500, 0x2, 0x2, .uint, 64, .ro, .volatile⟩,
  ⟨0x2500, 0x2500, 0x3, 0x3, .uint, 64, .ro, .volatile⟩,
  ⟨0x2500, 0x2500, 0x4, 0x4, .uint, 16, .ro, .volatile⟩,
  ⟨0x2500, 0x2500, 0x5, 0x5, .uint, 16, .ro, .volatile⟩,
  ⟨0x2500, 0x2500, 0x6, 0x6, .uint, 64, .wo, .volatile⟩,
  ⟨0x2500, 0x2500, 0x7, 0x7, .uint, 32, .wo, .volatile⟩,
  ⟨0x2500, 0x2500, 0x8, 0x8, .uint, 8, .rw, .kept⟩,
  ⟨0x2500, 0x2500, 0x9, 0x9, .uint, 8, .ro, .volatile⟩,
  ⟨0x2500, 0x2500, 0xA, 0xA, .uint, 32, .ro, .volatile⟩,
  ⟨0x2500, 0x2500, 0xB, 0xB, .tick48, 48, .ro, .volatile⟩,
  ⟨0x2500, 0x2500, 0xC, 0xC, .uint, 16, .ro, .volatile⟩,
  ⟨0x2500, 0x2500, 0xD, 0xD, .uint, 32, .ro, .volatile⟩,
  ⟨0x2501, 0x2501, 0x1, 0x6, .uint, 32, .ro, .volatile⟩,
  ⟨0x2502, 0x2502, 0x1, 0x1, .uint, 32, .ro, .volatile⟩,
  ⟨0x2502, 0x2502, 0x2, 0x2, .uint, 32, .rw, .volatile⟩,
  ⟨0x2502, 0x2502, 0x3, 0x3, .octets, 8192, .ro, .volatile⟩,
  ⟨0x2502, 0x2502, 0x4, 0x4, .uint, 32, .ro, .volatile⟩,
  ⟨0x2503, 0x2503, 0x1, 0x1, .uint, 32, .ro, .volatile⟩,
  ⟨0x2503, 0x2503, 0x2, 0x2, .uint, 32, .rw, .volatile⟩,
  ⟨0x2503, 0x2503, 0x3, 0x3, .octets, 8192, .ro, .volatile⟩]

/-- Rows of the device object tables. -/
def devRows9 : List ObjRow := [
  ⟨0x2503, 0x2503, 0x4, 0x4, .uint, 32, .ro, .volatile⟩,
  ⟨0x2504, 0x2504, 0x1, 0x1, .uint, 8, .ro, .volatile⟩,
  ⟨0x2504, 0x2504, 0x2, 0x2, .uint, 8, .rw, .volatile⟩,
  ⟨0x2504, 0x2504, 0x3, 0x3, .octets, 8192, .ro, .volatile⟩,
  ⟨0x2504, 0x2504, 0x4, 0x4, .uint, 32, .wo, .volatile⟩,
  ⟨0x2505, 0x2505, 0x1, 0x1, .uint, 32, .ro, .volatile⟩,
  ⟨0x2505, 0x2505, 0x2, 0x2, .uint, 64, .ro, .volatile⟩,
  ⟨0x2505, 0x2505, 0x3, 0x3, .tick48, 48, .ro, .volatile⟩,
  ⟨0x2505, 0x2505, 0x4, 0x4, .uint, 16, .ro, .volatile⟩]

/-- Every row of the device object tables (R396). -/
def devRows : List ObjRow := devRows0 ++ devRows1 ++ devRows2 ++ devRows3 ++ devRows4 ++ devRows5 ++ devRows6 ++ devRows7 ++ devRows8 ++ devRows9

/-- Rows of the channel object tables. -/
def chRows0 : List ObjRow := [
  ⟨0x0, 0x0, 0x1, 0x1, .uint, 8, .ro, .volatile⟩,
  ⟨0x0, 0x0, 0x2, 0x2, .uint, 8, .ro, .volatile⟩,
  ⟨0x0, 0x0, 0x3, 0x3, .code20, 32, .ro, .volatile⟩,
  ⟨0x0, 0x0, 0x4, 0x4, .uint, 8, .ro, .volatile⟩,
  ⟨0x0, 0x0, 0x5, 0x5, .uint, 32, .ro, .volatile⟩,
  ⟨0x0, 0x0, 0x6, 0x6, .uint, 32, .rw, .volatile⟩,
  ⟨0x1, 0x1, 0x1, 0x1, .uint, 8, .rwp, .kept⟩,
  ⟨0x1, 0x1, 0x2, 0x2, .uint, 8, .rwp, .kept⟩,
  ⟨0x1, 0x1, 0x3, 0x3, .uint, 16, .rw, .kept⟩,
  ⟨0x1, 0x1, 0x4, 0x4, .bool, 1, .rw, .kept⟩,
  ⟨0x2, 0x2, 0x1, 0x1, .uint, 32, .rwp, .kept⟩,
  ⟨0x2, 0x2, 0x2, 0x2, .uint, 32, .rwp, .kept⟩,
  ⟨0x3, 0x3, 0x1, 0x1, .uint, 8, .rw, .kept⟩,
  ⟨0x4, 0x4, 0x1, 0x10, .uint, 32, .rw, .kept⟩,
  ⟨0x5, 0x5, 0x1, 0x1, .uint, 8, .rwp, .kept⟩,
  ⟨0x5, 0x5, 0x2, 0x2, .uint, 16, .rwp, .kept⟩,
  ⟨0x5, 0x5, 0x3, 0x3, .uint, 16, .rwp, .kept⟩,
  ⟨0x5, 0x5, 0x4, 0x4, .uint, 16, .rwp, .kept⟩,
  ⟨0x6, 0x6, 0x1, 0x1, .uint, 8, .rwp, .kept⟩,
  ⟨0x6, 0x6, 0x2, 0x2, .uint, 8, .rwp, .kept⟩,
  ⟨0x6, 0x6, 0x3, 0x3, .uint, 8, .ro, .volatile⟩,
  ⟨0x6, 0x6, 0x4, 0x4, .int, 16, .ro, .volatile⟩,
  ⟨0x7, 0x7, 0x1, 0x1, .uint, 8, .rwp, .kept⟩,
  ⟨0x7, 0x7, 0x2, 0x2, .bool, 1, .rwp, .kept⟩,
  ⟨0x8, 0x8, 0x1, 0x1, .uint, 8, .rw, .kept⟩,
  ⟨0x8, 0x8, 0x2, 0x2, .uint, 32, .rw, .kept⟩,
  ⟨0x8, 0x8, 0x3, 0x3, .int, 32, .ro, .volatile⟩,
  ⟨0x8, 0x8, 0x4, 0x4, .uint, 32, .rw, .kept⟩,
  ⟨0x8, 0x8, 0x5, 0x5, .uint, 32, .rw, .kept⟩,
  ⟨0x9, 0x9, 0x1, 0x1, .uint, 8, .rw, .kept⟩,
  ⟨0x9, 0x9, 0x2, 0x2, .uint, 8, .rw, .kept⟩,
  ⟨0x9, 0x9, 0x3, 0x3, .uint, 8, .rwp, .kept⟩,
  ⟨0x9, 0x9, 0x4, 0x4, .uint, 8, .rw, .kept⟩,
  ⟨0x9, 0x9, 0x5, 0x5, .uint, 8, .rw, .kept⟩,
  ⟨0x9, 0x9, 0x6, 0x6, .uint, 8, .ro, .volatile⟩,
  ⟨0x9, 0x9, 0x7, 0x7, .uint, 8, .ro, .volatile⟩,
  ⟨0x9, 0x9, 0x8, 0x8, .uint, 16, .ro, .volatile⟩,
  ⟨0x9, 0x9, 0x9, 0x9, .tick48, 48, .ro, .volatile⟩,
  ⟨0x9, 0x9, 0xA, 0xA, .uint, 16, .ro, .volatile⟩,
  ⟨0xA, 0xA, 0x1, 0x1, .bool, 1, .rw, .kept⟩]

/-- Rows of the channel object tables. -/
def chRows1 : List ObjRow := [
  ⟨0xA, 0xA, 0x2, 0x2, .uint, 32, .ro, .volatile⟩,
  ⟨0xA, 0xA, 0x3, 0x3, .uint, 16, .ro, .volatile⟩,
  ⟨0xA, 0xA, 0x4, 0x4, .uint, 8, .ro, .volatile⟩,
  ⟨0xA, 0xA, 0x5, 0x5, .tick48, 48, .ro, .volatile⟩,
  ⟨0xA, 0xA, 0x6, 0x6, .uint, 8, .ro, .volatile⟩,
  ⟨0xA, 0xA, 0x7, 0x7, .uint, 32, .ro, .volatile⟩,
  ⟨0xA, 0xA, 0x8, 0x8, .uint, 32, .ro, .volatile⟩,
  ⟨0xB, 0xB, 0x1, 0x1, .uint, 8, .ro, .volatile⟩,
  ⟨0xB, 0xB, 0x2, 0x2, .uint, 32, .ro, .volatile⟩,
  ⟨0xB, 0xB, 0x3, 0x3, .tick48, 48, .ro, .volatile⟩,
  ⟨0x3A, 0x3A, 0x1, 0x1, .uint, 8, .ro, .volatile⟩,
  ⟨0x3A, 0x3A, 0x2, 0x2, .uint, 8, .wo, .volatile⟩,
  ⟨0x3A, 0x3A, 0x3, 0x3, .uint, 32, .ro, .volatile⟩,
  ⟨0x3A, 0x3A, 0x4, 0x4, .tick48, 48, .ro, .volatile⟩,
  ⟨0x3A, 0x3A, 0x5, 0x5, .uint, 32, .ro, .volatile⟩,
  ⟨0x3A, 0x3A, 0x6, 0x6, .uint, 32, .ro, .volatile⟩,
  ⟨0x3B, 0x3B, 0x1, 0x10, .uint, 32, .rw, .kept⟩,
  ⟨0x3C, 0x3C, 0x1, 0x10, .uint, 32, .ro, .volatile⟩,
  ⟨0x10, 0x10, 0x1, 0x1, .uint, 8, .ro, .volatile⟩,
  ⟨0x10, 0x10, 0x2, 0x2, .uint, 16, .ro, .volatile⟩,
  ⟨0x10, 0x10, 0x3, 0x3, .uint, 16, .rw, .volatile⟩,
  ⟨0x11, 0x11, 0x1, 0x10, .uint, 32, .rw, .kept⟩,
  ⟨0x12, 0x12, 0x1, 0x10, .uint, 32, .rw, .kept⟩,
  ⟨0x13, 0x13, 0x1, 0x10, .uint, 32, .rw, .kept⟩,
  ⟨0x14, 0x14, 0x1, 0x80, .uint, 16, .rw, .kept⟩,
  ⟨0x15, 0x15, 0x1, 0x80, .uint, 16, .rw, .kept⟩,
  ⟨0x16, 0x16, 0x1, 0x1, .uint, 8, .rw, .kept⟩,
  ⟨0x16, 0x16, 0x2, 0x5, .uint, 16, .rw, .kept⟩,
  ⟨0x17, 0x17, 0x1, 0x1, .uint, 8, .rw, .kept⟩,
  ⟨0x17, 0x17, 0x2, 0x5, .uint, 16, .rw, .kept⟩,
  ⟨0x18, 0x18, 0x1, 0x1, .uint, 16, .rw, .kept⟩,
  ⟨0x18, 0x18, 0x3, 0x3, .uint, 16, .rw, .kept⟩,
  ⟨0x18, 0x18, 0x5, 0x5, .uint, 16, .rw, .kept⟩,
  ⟨0x18, 0x18, 0x7, 0x7, .uint, 16, .rw, .kept⟩,
  ⟨0x18, 0x18, 0x2, 0x2, .uint, 32, .rw, .kept⟩,
  ⟨0x18, 0x18, 0x4, 0x4, .uint, 32, .rw, .kept⟩,
  ⟨0x18, 0x18, 0x6, 0x6, .uint, 32, .rw, .kept⟩,
  ⟨0x18, 0x18, 0x8, 0x8, .uint, 32, .rw, .kept⟩,
  ⟨0x19, 0x19, 0x1, 0x1, .bool, 1, .rw, .kept⟩,
  ⟨0x19, 0x19, 0x2, 0x2, .uint, 8, .rw, .kept⟩]

/-- Rows of the channel object tables. -/
def chRows2 : List ObjRow := [
  ⟨0x19, 0x19, 0x3, 0x3, .uint, 8, .rw, .kept⟩,
  ⟨0x19, 0x19, 0x4, 0x4, .uint, 8, .ro, .volatile⟩,
  ⟨0x19, 0x19, 0x5, 0x5, .int, 16, .ro, .volatile⟩,
  ⟨0x19, 0x19, 0x6, 0x6, .int, 16, .ro, .volatile⟩,
  ⟨0x19, 0x19, 0x7, 0x7, .tick48, 48, .ro, .volatile⟩,
  ⟨0x19, 0x19, 0x8, 0x8, .uint, 32, .ro, .volatile⟩,
  ⟨0x1A, 0x1A, 0x1, 0x1, .uint, 64, .ro, .volatile⟩,
  ⟨0x1A, 0x1A, 0x2, 0x2, .uint, 64, .ro, .volatile⟩,
  ⟨0x1A, 0x1A, 0x3, 0x3, .uint, 32, .ro, .volatile⟩,
  ⟨0x1A, 0x1A, 0x4, 0x4, .uint, 32, .ro, .volatile⟩,
  ⟨0x1A, 0x1A, 0x5, 0x5, .uint, 32, .ro, .volatile⟩,
  ⟨0x1A, 0x1A, 0x6, 0x6, .uint, 32, .ro, .volatile⟩,
  ⟨0x1A, 0x1A, 0x7, 0x7, .uint, 32, .ro, .volatile⟩,
  ⟨0x1A, 0x1A, 0x8, 0x8, .uint, 32, .ro, .volatile⟩,
  ⟨0x1A, 0x1A, 0x9, 0x9, .uint, 32, .ro, .volatile⟩,
  ⟨0x1A, 0x1A, 0xA, 0xA, .uint, 32, .ro, .volatile⟩,
  ⟨0x1A, 0x1A, 0xB, 0xB, .uint, 32, .ro, .volatile⟩,
  ⟨0x20, 0x20, 0x1, 0x10, .uint, 32, .rw, .kept⟩,
  ⟨0x21, 0x21, 0x1, 0x10, .uint, 32, .rw, .kept⟩,
  ⟨0x22, 0x22, 0x1, 0x10, .uint, 16, .rw, .kept⟩,
  ⟨0x23, 0x23, 0x1, 0x10, .uint, 32, .rw, .kept⟩,
  ⟨0x24, 0x24, 0x1, 0x1, .uint, 32, .wo, .volatile⟩,
  ⟨0x24, 0x24, 0x2, 0x2, .uint, 16, .ro, .volatile⟩,
  ⟨0x24, 0x24, 0x3, 0x3, .uint, 16, .ro, .volatile⟩,
  ⟨0x24, 0x24, 0x4, 0x4, .uint, 32, .ro, .volatile⟩,
  ⟨0x24, 0x24, 0x5, 0x5, .uint, 32, .ro, .volatile⟩,
  ⟨0x24, 0x24, 0x6, 0x6, .uint, 32, .ro, .volatile⟩,
  ⟨0x25, 0x25, 0x1, 0x1, .uint, 16, .rw, .kept⟩,
  ⟨0x28, 0x28, 0x1, 0x4, .uint, 32, .rw, .kept⟩,
  ⟨0x29, 0x29, 0x1, 0x4, .uint, 8, .ro, .volatile⟩,
  ⟨0x29, 0x29, 0x5, 0x5, .uint, 16, .ro, .volatile⟩,
  ⟨0x29, 0x29, 0x6, 0x6, .uint, 16, .rw, .volatile⟩,
  ⟨0x2A, 0x2A, 0x1, 0x4, .uint, 16, .ro, .volatile⟩,
  ⟨0x2A, 0x2A, 0x5, 0x8, .int, 32, .ro, .volatile⟩,
  ⟨0x2A, 0x2A, 0x9, 0xC, .tick48, 48, .ro, .volatile⟩,
  ⟨0x2B, 0x2B, 0x1, 0x4, .uint, 32, .ro, .volatile⟩,
  ⟨0x2B, 0x2B, 0x5, 0x8, .uint, 32, .ro, .volatile⟩,
  ⟨0x2B, 0x2B, 0x9, 0x9, .uint, 32, .ro, .volatile⟩,
  ⟨0x2B, 0x2B, 0xA, 0xA, .uint, 8, .ro, .volatile⟩,
  ⟨0x30, 0x30, 0x1, 0x1, .uint, 16, .rwp, .kept⟩]

/-- Rows of the channel object tables. -/
def chRows3 : List ObjRow := [
  ⟨0x30, 0x30, 0x2, 0x2, .uint, 8, .ro, .volatile⟩,
  ⟨0x30, 0x30, 0x3, 0x3, .uint, 32, .ro, .volatile⟩,
  ⟨0x30, 0x30, 0x4, 0x4, .uint, 16, .ro, .volatile⟩,
  ⟨0x30, 0x30, 0x5, 0x5, .uint, 32, .ro, .volatile⟩,
  ⟨0x30, 0x30, 0x6, 0x6, .uint, 16, .ro, .volatile⟩,
  ⟨0x30, 0x30, 0x7, 0x7, .uint, 16, .rw, .volatile⟩,
  ⟨0x30, 0x30, 0x8, 0x8, .uint, 64, .ro, .volatile⟩,
  ⟨0x31, 0x31, 0x1, 0x1, .uint, 32, .wo, .volatile⟩,
  ⟨0x31, 0x31, 0x2, 0x2, .uint, 16, .rw, .kept⟩,
  ⟨0x31, 0x31, 0x3, 0x3, .uint, 32, .ro, .volatile⟩,
  ⟨0x31, 0x31, 0x4, 0x4, .uint, 32, .ro, .volatile⟩,
  ⟨0x31, 0x31, 0x5, 0x5, .uint, 32, .ro, .volatile⟩,
  ⟨0x31, 0x31, 0x6, 0x6, .uint, 32, .ro, .volatile⟩,
  ⟨0x31, 0x31, 0x7, 0x7, .tick48, 48, .ro, .volatile⟩,
  ⟨0x32, 0x32, 0x1, 0x4, .uint, 16, .rw, .volatile⟩,
  ⟨0x32, 0x32, 0x5, 0x5, .uint, 8, .ro, .volatile⟩,
  ⟨0x32, 0x32, 0x6, 0x9, .tick48, 48, .ro, .volatile⟩,
  ⟨0x33, 0x33, 0x1, 0x10, .uint, 16, .rw, .kept⟩,
  ⟨0x33, 0x33, 0x11, 0x11, .uint, 8, .rw, .volatile⟩,
  ⟨0x34, 0x34, 0x1, 0x1, .uint, 8, .ro, .volatile⟩,
  ⟨0x34, 0x34, 0x2, 0x2, .uint, 32, .ro, .volatile⟩,
  ⟨0x38, 0x38, 0x1, 0x1, .uint, 8, .ro, .volatile⟩,
  ⟨0x38, 0x38, 0x2, 0x5, .uint, 32, .ro, .volatile⟩,
  ⟨0x38, 0x38, 0x6, 0x9, .uint, 32, .ro, .volatile⟩,
  ⟨0x35, 0x35, 0x1, 0x1, .uint, 16, .rwp, .volatile⟩,
  ⟨0x35, 0x35, 0x2, 0x2, .uint, 8, .ro, .volatile⟩,
  ⟨0x35, 0x35, 0x3, 0x3, .uint, 64, .ro, .volatile⟩,
  ⟨0x35, 0x35, 0x4, 0x4, .uint, 64, .ro, .volatile⟩,
  ⟨0x35, 0x35, 0x5, 0x5, .uint, 64, .ro, .volatile⟩,
  ⟨0x35, 0x35, 0x6, 0x6, .uint, 64, .ro, .volatile⟩,
  ⟨0x35, 0x35, 0x7, 0x7, .uint, 32, .ro, .volatile⟩,
  ⟨0x35, 0x35, 0x8, 0x8, .uint, 32, .ro, .volatile⟩,
  ⟨0x35, 0x35, 0x9, 0x9, .uint, 8, .wo, .volatile⟩,
  ⟨0x36, 0x36, 0x1, 0x1, .uint, 32, .rw, .kept⟩,
  ⟨0x36, 0x36, 0x2, 0x2, .uint, 32, .rw, .kept⟩,
  ⟨0x36, 0x36, 0x3, 0x3, .uint, 8, .rw, .volatile⟩,
  ⟨0x36, 0x36, 0x4, 0x4, .uint, 16, .rw, .volatile⟩,
  ⟨0x36, 0x36, 0x5, 0x5, .uint, 8, .ro, .volatile⟩,
  ⟨0x37, 0x37, 0x1, 0x1, .uint, 32, .ro, .volatile⟩,
  ⟨0x37, 0x37, 0x2, 0x2, .uint, 32, .ro, .volatile⟩]

/-- Rows of the channel object tables. -/
def chRows4 : List ObjRow := [
  ⟨0x37, 0x37, 0x3, 0x3, .tick48, 48, .ro, .volatile⟩,
  ⟨0x37, 0x37, 0x4, 0x4, .uint, 8, .ro, .volatile⟩,
  ⟨0x37, 0x37, 0x5, 0x5, .uint, 32, .ro, .volatile⟩,
  ⟨0x37, 0x37, 0x6, 0x6, .uint, 32, .ro, .volatile⟩,
  ⟨0x37, 0x37, 0x7, 0x7, .uint, 32, .rw, .volatile⟩,
  ⟨0x39, 0x39, 0x1, 0x1, .uint, 8, .ro, .volatile⟩,
  ⟨0x39, 0x39, 0x2, 0x2, .uint, 32, .ro, .volatile⟩,
  ⟨0x39, 0x39, 0x3, 0x3, .tick48, 48, .ro, .volatile⟩,
  ⟨0x39, 0x39, 0x4, 0x4, .uint, 8, .ro, .volatile⟩,
  ⟨0x39, 0x39, 0x5, 0x5, .uint, 32, .ro, .volatile⟩,
  ⟨0x39, 0x39, 0x6, 0x6, .uint, 8, .wo, .volatile⟩,
  ⟨0x3D, 0x3D, 0x1, 0x10, .uint, 32, .rw, .kept⟩,
  ⟨0x3E, 0x3E, 0x1, 0x10, .uint, 32, .rw, .kept⟩,
  ⟨0x3F, 0x3F, 0x1, 0x10, .uint, 32, .rw, .kept⟩,
  ⟨0x40, 0x40, 0x1, 0x4, .uint, 8, .rw, .kept⟩,
  ⟨0x40, 0x40, 0x5, 0x8, .uint, 8, .rw, .kept⟩,
  ⟨0x40, 0x40, 0x9, 0x9, .uint, 8, .rw, .kept⟩,
  ⟨0x40, 0x40, 0xA, 0xA, .uint, 8, .rw, .kept⟩,
  ⟨0x40, 0x40, 0xB, 0xB, .uint, 8, .rw, .kept⟩,
  ⟨0x40, 0x40, 0xC, 0xC, .uint, 8, .rw, .kept⟩,
  ⟨0x40, 0x40, 0xD, 0x1C, .uint, 8, .rw, .kept⟩,
  ⟨0x40, 0x40, 0x1D, 0x2C, .uint, 8, .rw, .kept⟩,
  ⟨0x40, 0x40, 0x2D, 0x2D, .uint, 8, .rw, .kept⟩,
  ⟨0x41, 0x41, 0x1, 0x1, .uint, 64, .ro, .volatile⟩,
  ⟨0x41, 0x41, 0x2, 0x2, .uint, 64, .rw, .volatile⟩,
  ⟨0x41, 0x41, 0x3, 0x2E, .uint, 32, .ro, .volatile⟩,
  ⟨0x41, 0x41, 0x2F, 0x5A, .uint, 32, .ro, .volatile⟩]

/-- Every row of the channel object tables (R396). -/
def chRows : List ObjRow := chRows0 ++ chRows1 ++ chRows2 ++ chRows3 ++ chRows4

/-- Rows of the stall object tables. -/
def stRows0 : List ObjRow := [
  ⟨0x8, 0x8, 0x1, 0x4, .uint, 8, .ro, .volatile⟩,
  ⟨0x8, 0x8, 0x5, 0x5, .uint, 16, .ro, .volatile⟩,
  ⟨0x9, 0x9, 0x1, 0x1, .int, 16, .ro, .volatile⟩,
  ⟨0x9, 0x9, 0x2, 0x2, .uint, 8, .ro, .volatile⟩,
  ⟨0x9, 0x9, 0x3, 0x3, .uint, 32, .ro, .volatile⟩,
  ⟨0x0, 0x0, 0x1, 0x1, .uint, 8, .rw, .kept⟩,
  ⟨0x0, 0x0, 0x2, 0x11, .uint, 16, .rw, .kept⟩,
  ⟨0x1, 0x1, 0x1, 0x1, .uint, 8, .rw, .kept⟩,
  ⟨0x1, 0x1, 0x2, 0x5, .uint, 16, .rw, .kept⟩,
  ⟨0x1, 0x1, 0x6, 0x6, .uint, 16, .rw, .kept⟩,
  ⟨0x1, 0x1, 0x7, 0x7, .uint, 32, .rw, .kept⟩,
  ⟨0x2, 0x2, 0x1, 0x1, .uint, 16, .rw, .kept⟩,
  ⟨0x2, 0x2, 0x2, 0x2, .uint, 64, .ro, .volatile⟩,
  ⟨0x2, 0x2, 0x3, 0x3, .uint, 32, .ro, .volatile⟩,
  ⟨0x2, 0x2, 0x4, 0x4, .uint, 32, .ro, .volatile⟩,
  ⟨0x2, 0x2, 0x5, 0x5, .tick48, 48, .ro, .volatile⟩,
  ⟨0x2, 0x2, 0x6, 0x6, .tick48, 48, .ro, .volatile⟩,
  ⟨0xA, 0xA, 0x1, 0x1, .uint, 8, .rwp, .kept⟩,
  ⟨0xA, 0xA, 0x2, 0x2, .bool, 1, .rw, .kept⟩,
  ⟨0xA, 0xA, 0x3, 0x3, .uint, 8, .ro, .volatile⟩,
  ⟨0xA, 0xA, 0x4, 0x4, .tick48, 48, .ro, .volatile⟩,
  ⟨0xA, 0xA, 0x5, 0x5, .int, 32, .ro, .volatile⟩,
  ⟨0xA, 0xA, 0x6, 0x6, .uint, 16, .ro, .volatile⟩,
  ⟨0xB, 0xB, 0x1, 0x1, .uint, 8, .ro, .volatile⟩,
  ⟨0xB, 0xB, 0x2, 0x2, .int, 32, .ro, .volatile⟩,
  ⟨0xB, 0xB, 0x3, 0x3, .int, 32, .ro, .volatile⟩,
  ⟨0xB, 0xB, 0x4, 0x4, .uint, 16, .ro, .volatile⟩,
  ⟨0xB, 0xB, 0x5, 0x5, .uint, 32, .ro, .volatile⟩,
  ⟨0xC, 0xC, 0x1, 0x1, .uint, 32, .ro, .volatile⟩,
  ⟨0xC, 0xC, 0x2, 0x2, .uint, 32, .ro, .volatile⟩,
  ⟨0xC, 0xC, 0x3, 0x3, .uint, 32, .ro, .volatile⟩,
  ⟨0xC, 0xC, 0x4, 0x4, .tick48, 48, .ro, .volatile⟩]

/-- Every row of the stall object tables (R396). -/
def stRows : List ObjRow := stRows0

/-- The first row that covers an index and subindex (R370, R371). -/
def findRow (rows : List ObjRow) (idx sub : Nat) : Option ObjRow :=
  rows.find? (fun r => decide (r.idxLo ≤ idx) && decide (idx ≤ r.idxHi) && decide (r.subLo ≤ sub) && decide (sub ≤ r.subHi))

/-- Whether any row covers an index. -/
def hasIndex (rows : List ObjRow) (idx : Nat) : Bool :=
  rows.any (fun r => decide (r.idxLo ≤ idx) && decide (idx ≤ r.idxHi))

/-- The highest subindex of an index (R370: what subindex 0 of an index with several entries reads). -/
def topSub (rows : List ObjRow) (idx : Nat) : Nat :=
  rows.foldl (fun m r => if decide (r.idxLo ≤ idx) && decide (idx ≤ r.idxHi) then max m r.subHi else m) 0

end Sys2Proof.Machine
end

