-- ==== Sys2Proof/Machine/State.lean ====
section
/-! DEFINITION. The whole state of the block as plain data: everything the manual gives the module in `Dev`, and the
queue of waiting commands. `State.reset` is the module before power-good (R463, Table 17-1). -/

namespace Sys2Proof.Machine

/-- Reasons the machine stops. No command of the table stops it: every refusal of the manual is an answer the module
gives and a next state. -/
inductive Fault where
  /-- Raised by no command: the type is kept for the interface. Safe. -/
  | none
deriving DecidableEq, Repr

/-- Reasons a command has no meaning in this model. -/
inductive Refusal where
  /-- The command named has no meaning yet. Safe: nothing can be proved of its effect. -/
  | notModelled (mnemonic : String)
deriving DecidableEq, Repr

/-- An arm request, and what it changed: what a PARK_REQ at the same commit takes back (R94). -/
structure ArmBack where
  tick  : Tick
  mask  : Word64
  /-- The request was accepted: the channels it named and their PRIV words as they were before. -/
  ok    : Bool
  chans : List (ChanId × Channel)
  priv  : List (Nat × Word64)
  pTotal : Nat
  iTotal : Nat
deriving DecidableEq, Repr

/-- Everything the manual gives the module (R6, R9). -/
structure Dev where
  /-- TICK_NOW (R41). -/
  tick     : Tick
  /-- Objects of the device scope that are settings, counters or latest results. -/
  regs     : SMap Nat
  power    : Power
  sync     : SyncUnit
  flt      : FaultMgr
  fab      : Fabric
  fifo     : Fifo
  dict     : Dict
  ec       : EtherCat
  load     : LoadUnit
  pcie     : Pcie
  sec      : Sec
  mem      : Memories
  cal      : CalDev
  stalls   : Vector Stall 8
  chans    : Vector Channel 64
  /-- Channels named in a PARK_REQ that acted at the latest commit (R94). -/
  parkNow  : Word64
  /-- The latest arm request, to be decided again where a PARK_REQ follows at its commit (R90, R94, R110). -/
  armBack  : Option ArmBack
  /-- Objects the data path wrote at the latest commit: (channel, object key), for R22. -/
  wrote    : List (Nat × Nat)
  /-- The model's own counter at which free values are drawn (log 2). -/
  freeCtr  : Nat
deriving DecidableEq, Repr

/-- The state: the module as it is, the module as the latest commit left it, which is what reads see (R20, R40), the
module as the commit before left it, which is what reads of the first 16 ns of a tick see (R39), and the queue of waiting
commands, front first (log 1). -/
structure State where
  dev     : Dev
  shown   : Dev
  prior   : Dev
  pending : List Instr
deriving DecidableEq, Repr

/-- The force path of a PARKED channel (R87) with the clamps of R85. -/
def Force.reset : Force :=
  { st := .parked, fi := false, setpt := zeroCode, prevSetpt := zeroCode, target := zeroCode, prevTarget := zeroCode,
    rpair := 0, vrange := 0, irange := 0, clampHi := 512, clampLo := -512, baseHi := 0x802, baseLo := 0x7FE,
    pset := 0, plan := 0, gates := 0, marks := 0, disc := false, engHi := false, engLo := false, seenHi := false,
    seenLo := false, latHi := false, latLo := false, acc := 0, tripped := false, armTick := 0, armMask := 0,
    phase := .idle, phaseTick := 0, rampFrom := zeroCode, rampLen := 0, pol := .hold, polRank := 0, safeTick := 0,
    confirmed := false, withheld := false, latch := false, wordLost := false, kept := none }

/-- An empty head. -/
def Head.reset : Head := { st := .empty, seg := 0xFFFF, steps := [] }

/-- The barker with no step (SEQ_STATE 0 by default, Table 8-12). -/
def Barker.reset : Barker :=
  { seq := .noStep, addr := 0, seg := 0xFFFF, word := 0, done := 0, left := 0, due := false, sel := none, loops := [],
    pend := none, heads := Vector.replicate 4 Head.reset, stage := Head.reset, safeHead := Head.reset, cache := [], lines := [],
    latch := 0, latchOrg := [], waitTimeout := false, jumpLate := false, spanTrip := 0, spanHi := false,
    spanLo := false, spanUr := false, urTick := false, spanHeld := false, spanRc := false, status := 0, held := false, holdReq := false, halt := false,
    lastBound := none, boundBefore := none, dry := false, dryFirst := false,
    stuckAddr := none, stuckRun := 0, stuckHold := false, carry := [] }

/-- No spool. -/
def Spool.reset : Spool :=
  { st := .none, wr := 0, rd := 0, eos := none, recent := [], x := 0, wasLow := false, wasHigh := false }

/-- Sine off (Table 9-7). -/
def Sine.reset : Sine :=
  { on := false, setting := 0xFF, ftw := 0, amp := 0, phase0 := 0, loadTick := 0, loadSub := 0, resetAt := none }

def OuterLoop.reset : OuterLoop := { ramp := 0, corr := 0, drop := 0, lastV := none, lastI := none }

/-- Setting 0 while PARKED (R124). -/
def Comp.reset : Comp :=
  { now := 0, st := .normal, drops := [], lastMove := 0, hostReq := false, dropWas := none, stepAt := none }

def LoadWatch.reset : LoadWatch :=
  { lfsr := 0x7F, pos := 0, chip := 0, probing := false, probes := 0, sums := [], targets := [], ticks := [] }

def RangeChange.reset : RangeChange :=
  { active := false, clamped := false, opened := 0, closes := 0, made := false, quantV := false, quantI := false,
    modeChg := false, involved := [], beside := none }

def GustProfile.reset : GustProfile := { loaded := false, irange := 0, shift := 0, len := 0, samples := [] }

def Gust.reset : Gust :=
  { profiles := Vector.replicate 16 GustProfile.reset, armed := none, sched := none, running := none, spans := [],
    arriving := [] }

def Conv.reset : Conv :=
  { run := none, waits := [], pos := 0, begun := [], lastIn := none, lastPga := none, gainRun := false, regPga := 0, regTick := none, idleGain := 0,
    lastEnd := none, pulses := [], preClose := none, injAt := none, injSlot := none, injRan := false,
    deferred := false, tags := 0, entries := [], next := [] }

def TickFacts.reset : TickFacts :=
  { vrange := 0, irange := 0, unsettled := false, early := false, pull := false, isHeld := false }

def OpenWire.reset : OpenWire :=
  { phase := .idle, since := 0, aPos := 0, bPos := 0, aNeg := 0, bNeg := 0, settled := false, taken := 0, overH := 0, overL := 0,
    underH := 0, underL := 0 }

def Tally.reset : Tally :=
  { isOpen := false, openTick := 0, gen := 0, rangeV := false, range := 0, count := 0, sum := 0, sumsq := 0, minV := 0,
    maxV := 0, minTick := 0, maxTick := 0, unsettled := 0, held := 0, unheld := 0, probes := 0, flags := 0, latest := 0,
    hist := [], thrFlag := false }

/-- Monitor OFF with code 0x200 (Table 7-3). -/
def Monitor.reset : Monitor :=
  { st := .off, side := false, seenNow := false, tripSeen := false, acted := false, moved := false, past := [],
    code := 0x200, sat := false, hyst := 0, dacFail := false, fails := 0, passes := 0, implaus := false, logged := false,
    older := none, restart := 0, res := .none, reading := 0, suspended := false, resolved := none }

def Engine.reset : Engine := { regs := Vector.replicate 16 0, acc0 := 0, acc1 := 0, sat := false, cyc := 0 }

/-- Every register, accumulator, lag and flag 0 (R286, R297). -/
def Engines.reset : Engines :=
  { te := Vector.replicate 8 Engine.reset, lags := [], chips := 0, flags := 0, ports := [], outs := [], pflags := [],
    faults := [], saved := Vector.replicate 8 Engine.reset, savedLags := [], savedChips := 0,
    discard := false, budget := [], refetch := none, badWord := none, restore := none, setNow := 0, halted := false, resume := false, haltPend := false,
    step := false }

def ChCal.reset : ChCal :=
  { cycleStart := 0, pausedClamp := false, pausedPath := false, cycled := false, engSince := none, linValid := false,
    late := false, factory := false, cycleTick := 0, cycles := 0, steps := 0, linTick := 0, linMax := 0, convs := [], readings := [], ticksOf := [],
    gains := 0, linConvs := 0 }

/-- A channel before power-good: PARKED (R87). -/
def Channel.reset : Channel :=
  { regs := [], force := Force.reset, bk := Barker.reset, spool := Spool.reset, undo := none, redo := none, sine := Sine.reset,
    ol := OuterLoop.reset, comp := Comp.reset, lw := LoadWatch.reset, rc := RangeChange.reset, gust := Gust.reset,
    mv := Conv.reset, mi := Conv.reset, was := TickFacts.reset, ow := OpenWire.reset, tally := Vector.replicate 16 Tally.reset, recs := [],
    unitsIn := { tick := 0, was := 0, gates := 0, step := false, edges := [] }, days := [],
    wm := Vector.replicate 4 Monitor.reset, edges := [], hold := none, lost := none, ovr := 0, eng := Engines.reset,
    cal := ChCal.reset }

def Stall.reset : Stall :=
  { regs := [], tj := 0, derate := 0, derateNew := none, railOut := 0, bufferOn := none, refx := false, refxFailed := false,
    refxBad := 0, refxSwitch := false, fallTick := none, auxPos := 0, rotThresh := 0, rotHouse := 0, rotCal := 0,
    auxInj := none, auxPulses := [], owChan := 7, resQ := [], bgState := 0, bgGood := 0, bgOut := false, bgReads := 0, bgSum := 0, f3 := [],
    f5 := [], lastResort := none, uncorr := [], silentDie := 0, silentCtl := 0, silentAt := none, badTicks := [], underTest := false, selfPass := false,
    auxSeen := [], auxPort := [] }

/-- OFF, nothing sampled (R463, R467). -/
def Power.reset : Power :=
  { state := .off, phase := 0, released := false, strap := 0, ecMode := 0, trustOk := false, analogUp := false,
    mramFail := false, marker := 0, selfTick := 0, fltN := false, pgOut := false, flash := none,
    dirActive := 0, loadDefaults := false,
    aggOver := 0, aggRaised := false }

def SyncUnit.reset : SyncUnit :=
  { refclk := .absent, epoch := .localTime, gen := 0, loopCal := .notDone, failCode := 0, lock := .free, parentD := 0,
    offeredD := none, missRun := 0, driftRaised := false, start := .none, startTick := 0, rxBits := [],
    lastCmd := none, forward := none, sendQ := [], tx := none, epochSent := false, rootEpoch := none, calNext := none,
    measSince := 0, sync0Late := none, sync0Run := 0, lastStep := none, dcNow := 0 }

def FaultMgr.reset : FaultMgr :=
  { due := [], queue := [], escal := none, active := [], f5log := [], drops := 0, f4 := [], log := [], seq := 0,
    readUpto := 0, hist := [], viol := [], violSeq := 0, violRead := 0, awaiting := [] }

/-- No lock, no pulse, every MKO pin in STARTUP (Table 9-8). -/
def Fabric.reset : Fabric :=
  { fired := [], firedNext := [], loops := [], locks := 0, outs := [], arrivals := [], quiet := [],
    mkoLevel := 0, mkoMode := Vector.replicate 8 1, mkoGo := false, steps := [], atCommit := false }

def Fifo.reset : Fifo :=
  { entries := [], readCnt := 0, head := 0, group := [], groupSeq := 0, groupTick := 0, droppedBlk := 0,
    inDrop := false, holding := false, session := 0, recSeq := 0, blkSeq := 0, prevTag := [], key := [], endWait := none }

def Dict.reset : Dict :=
  { writes := [], retains := [], records := [], outcome := [], answer := 0, abort := 0, data := [], frame := none,
    lastFrame := none, inputs := [], source := 0, arrived := none, holdAll := false }

def EtherCat.reset : EtherCat :=
  { esm := .init, errInd := false, frames := 0, sync0 := false, sync0At := 0, missed := 0, mailbox := [] }

def Queue.reset : Queue :=
  { base := 0, size := 4, enabled := false, running := false, halted := false, cause := 0, head := 0, tail := 0, notify := [] }

def Pcie.reset : Pcie :=
  { perst := true, bme := false, up := false, d3 := false, tickHi := 0, irq := 0, irqMask := 0xFF, irqSent := 0, expMark := 16,
    winStatus := 0, winRefused := 0, winDone := 0, load := Queue.reset, obj := Queue.reset, exp := Queue.reset, done := [] }

def Sec.reset : Sec :=
  { life := .vendor, slots := Vector.replicate 2 0, policy := 0, arb := Vector.replicate 4 0, d3Count := 0,
    drbgFail := false, sess := .closed, sessLink := 0xFF, sessRights := 0, offerTick := 0, sessNo := 0, sealSeq := 0,
    sealFails := [], streams := Vector.replicate 16 none, debug := 0, dbgPend := 0, dbgTick := 0, dbgNonce := [], draws := 0,
    bscan := 0, tapIr := 0, tapOut := .bytes [], attest := [], statement := [], prevStatement := [], sealedOut := [],
    devOffer := [], tapRelease := false, ownerPub := [], ownerHash := [], sealKeys := [], sessPair := 0, waiting := [],
    passed := [], recErased := false, trace := [] }

/-- Every memory cleared; 16 spare lines per ledger bank (R345). -/
def Memories.reset : Memories :=
  { ledger := [], dir := [], scr := [], progs := [], sets := [], params := [], replay := [], borrows := [],
    nextRegion := [], bankSpare := Vector.replicate 16 16, mapped := [], released := [], sweep := 0, stores := [], ended := [], marched := [] }

def CalDev.reset : CalDev :=
  { sys := .idle, full := false, since := 0, begun := 0, zero := none, zeroKey := none, point := none, meas := 0, measHeld := 0,
    measClamp := false, measEnd := 0, taken := [], tagged := false, newZ := 0, newS := 0, snap := [], entries := [],
    restored := false }

/-- The module before power-good (log 7): tick 0, every channel PARKED, every object at its default. -/
def Dev.reset : Dev :=
  { tick := 0, regs := [], power := Power.reset, sync := SyncUnit.reset, flt := FaultMgr.reset,
    fab := Fabric.reset, fifo := Fifo.reset, dict := Dict.reset, ec := EtherCat.reset,
    load := { staging := [], begun := false, busy := false, claims := [] }, pcie := Pcie.reset, sec := Sec.reset,
    mem := Memories.reset, cal := CalDev.reset, stalls := Vector.replicate 8 Stall.reset,
    chans := Vector.replicate 64 Channel.reset, parkNow := 0, armBack := none, wrote := [], freeCtr := 0 }

/-- The state before anything has arrived. -/
def State.reset : State := { dev := Dev.reset, shown := Dev.reset, prior := Dev.reset, pending := [] }

end Sys2Proof.Machine
end

