-- ==== Sys2Proof/Machine/Ops.lean ====
section
/-! DEFINITION. The named operations every meaning is written with: sparse maps, access to channels, stalls and registers,
counters, free values, masks, and the instants of R37, R38 and R490. -/

namespace Sys2Proof.Machine

open Sys2Proof

/-- A command that acts inside a tick: the module changes, what reads see changes at the next commit (R20). -/
def runIn (s : State) (f : Dev → Dev) : Host.Outcome State Fault Refusal := .next { s with dev := f s.dev }

/-- A command that acts at the present commit: reads see its effect at once (R20, R40). -/
def runAt (s : State) (f : Dev → Dev) : Host.Outcome State Fault Refusal :=
  .next { s with dev := f s.dev, shown := f s.dev }

/-- The value at a key, or the default. -/
def sget {β : Type} (dflt : β) : SMap β → Nat → β
  | [], _ => dflt
  | (k', v) :: m, k => if k' = k then v else sget dflt m k

/-- Give a key of a sparse map a value, at its place in ascending order. -/
def sins {β : Type} : SMap β → Nat → β → SMap β
  | [], k, v => [(k, v)]
  | (k', v') :: m, k, v =>
    if k < k' then (k, v) :: (k', v') :: m
    else if k' = k then (k, v) :: m
    else (k', v') :: sins m k v

/-- Set a key of a sparse map; a value equal to the key's default is not listed. -/
def sput {β : Type} [DecidableEq β] (dflt : β) : SMap β → Nat → β → SMap β
  | [], k, v => if v = dflt then [] else [(k, v)]
  | e :: m, k, v => if v = dflt then (e :: m).filter (fun x => x.1 != k) else sins (e :: m) k v

/-- Canonical form of a sparse map: ascending keys, and no entry equal to the default of its key. -/
abbrev SMap.wf {β : Type} (dflt : Nat → β) (m : SMap β) : Prop :=
  (m.map Prod.fst).Pairwise (· < ·) ∧ ∀ e ∈ m, e.2 ≠ dflt e.1

/-- The count after `v` of a counter `w` bits wide (log 4). -/
def bump (w v : Nat) : Nat := if v + 1 < 2 ^ w then v + 1 else Config.counterPastEnd w v % 2 ^ w

/-- The count after `n` more of a counter `w` bits wide (log 4). -/
def bumpBy (w v n : Nat) : Nat := if v + n < 2 ^ w then v + n else Config.counterPastEnd w (v + n) % 2 ^ w

/-! ## Registers of a channel, a stall and the device -/

def Channel.reg (c : Channel) (k : Nat) : Nat := sget (chDefault k) c.regs k
def Channel.setReg (c : Channel) (k v : Nat) : Channel := { c with regs := sput (chDefault k) c.regs k v }
/-- Count one in a counter object `w` bits wide. -/
def Channel.inc (c : Channel) (w k : Nat) : Channel := c.setReg k (bump w (c.reg k))
/-- Set bits of a sticky object. -/
def Channel.orReg (c : Channel) (k v : Nat) : Channel := c.setReg k (c.reg k ||| v)

def Stall.reg (c : Stall) (k : Nat) : Nat := sget (stDefault k) c.regs k
def Stall.setReg (c : Stall) (k v : Nat) : Stall := { c with regs := sput (stDefault k) c.regs k v }
def Stall.inc (c : Stall) (w k : Nat) : Stall := c.setReg k (bump w (c.reg k))

def Dev.reg (d : Dev) (k : Nat) : Nat := sget (devDefault k) d.regs k
def Dev.setReg (d : Dev) (k v : Nat) : Dev := { d with regs := sput (devDefault k) d.regs k v }
def Dev.inc (d : Dev) (w k : Nat) : Dev := d.setReg k (bump w (d.reg k))
def Dev.incBy (d : Dev) (w k n : Nat) : Dev := if n = 0 then d else d.setReg k (bumpBy w (d.reg k) n)

def Dev.ch (d : Dev) (n : ChanId) : Channel := d.chans[n]
def Dev.setCh (d : Dev) (n : ChanId) (c : Channel) : Dev := { d with chans := d.chans.set n c }
def Dev.modCh (d : Dev) (n : ChanId) (f : Channel → Channel) : Dev := d.setCh n (f (d.ch n))
def Dev.st (d : Dev) (s : StallId) : Stall := d.stalls[s]
def Dev.setSt (d : Dev) (s : StallId) (x : Stall) : Dev := { d with stalls := d.stalls.set s x }
def Dev.modSt (d : Dev) (s : StallId) (f : Stall → Stall) : Dev := d.setSt s (f (d.st s))

def Dev.creg (d : Dev) (n : ChanId) (k : Nat) : Nat := (d.ch n).reg k
def Dev.setCreg (d : Dev) (n : ChanId) (k v : Nat) : Dev := d.modCh n (·.setReg k v)
def Dev.cinc (d : Dev) (n : ChanId) (w k : Nat) : Dev := d.modCh n (·.inc w k)
def Dev.sreg (d : Dev) (s : StallId) (k : Nat) : Nat := (d.st s).reg k
def Dev.setSreg (d : Dev) (s : StallId) (k v : Nat) : Dev := d.modSt s (·.setReg k v)
def Dev.sinc (d : Dev) (s : StallId) (w k : Nat) : Dev := d.modSt s (·.inc w k)

/-- Write an entry of the tick trace (R456). -/
def Dev.trace (d : Dev) (n : Option ChanId) (what : TraceKind) : Dev :=
  let e : TraceEntry :=
    match n with
    | none => { tick := d.tick, chan := 0xFF, what := what, addr := 0, kind := 0, flags := 0 }
    | some n => { tick := d.tick, chan := n.val, what := what, addr := (d.ch n).bk.addr, kind := (d.ch n).bk.word.toNat / 2 ^ 60,
                  flags := (d.ch n).eng.flags.toNat }
  { d with sec := { d.sec with trace := e :: d.sec.trace } }

/-- The channel that a producer code or a fault's unit names, if any. -/
def chanOf (k : Nat) : Option ChanId := if h : k < 64 then some ⟨k, h⟩ else none

/-- Update the force path of a channel; likewise the parts below. -/
def Channel.modForce (c : Channel) (f : Force → Force) : Channel := { c with force := f c.force }
def Channel.modBk (c : Channel) (f : Barker → Barker) : Channel := { c with bk := f c.bk }
def Channel.modSpool (c : Channel) (f : Spool → Spool) : Channel := { c with spool := f c.spool }
def Channel.modGust (c : Channel) (f : Gust → Gust) : Channel := { c with gust := f c.gust }
def Channel.modEng (c : Channel) (f : Engines → Engines) : Channel := { c with eng := f c.eng }
/-- One of the two converters of a channel. -/
def Channel.conv (c : Channel) (mi : Bool) : Conv := if mi then c.mi else c.mv
def Channel.modConv (c : Channel) (mi : Bool) (f : Conv → Conv) : Channel :=
  if mi then { c with mi := f c.mi } else { c with mv := f c.mv }
def Channel.modWm (c : Channel) (m : Idx4) (f : Monitor → Monitor) : Channel :=
  { c with wm := c.wm.set m (f c.wm[m]) }
def Channel.modTally (c : Channel) (u : Idx16) (f : Tally → Tally) : Channel :=
  { c with tally := c.tally.set u (f c.tally[u]) }
def Channel.modEngine (c : Channel) (k : Fin 8) (f : Engine → Engine) : Channel :=
  { c with eng := { c.eng with te := c.eng.te.set k (f c.eng.te[k]) } }

/-- The active values of a stall die (R13). -/
def Force.active (f : Force) : Active :=
  f.kept.getD { fi := f.fi, vrange := f.vrange, irange := f.irange, clampHi := f.clampHi, clampLo := f.clampLo, disc := f.disc }

/-- The tick strobe moves the shadows, unless a word of the channel failed (R13). -/
def Force.strobe (f : Force) : Force := { f with kept := if f.wordLost then some f.active else none, wordLost := false }

/-- The disconnect opens on the stall die itself, at once. -/
def Force.openNow (f : Force) : Force := { f with disc := false, kept := f.kept.map fun a => { a with disc := false } }

/-! ## Free values, masks, lists -/

/-- Draw a free value (log 5). -/
def Dev.fresh (d : Dev) : Nat × Dev := (Config.freeValue d.freeCtr, { d with freeCtr := d.freeCtr + 1 })

/-- Bit of a mask. -/
def bit {w : Nat} (m : BitVec w) (i : Nat) : Bool := m.getLsbD i

/-- Set or clear a bit of a mask. -/
def putBit {w : Nat} (m : BitVec w) (i : Nat) (v : Bool) : BitVec w :=
  if v then m ||| BitVec.twoPow w i else m &&& ~~~BitVec.twoPow w i

/-- Clear the bits of a value that are 1 in another. -/
def clearBits (a b : Nat) : Nat := a ^^^ (a &&& b)

/-- The mask of the channels that a test accepts. -/
def maskOf (f : ChanId → Bool) : Word64 :=
  (List.finRange 64).foldl (fun m n => if f n then m ||| BitVec.twoPow 64 n.val else m) 0

/-- Apply to every channel in ascending order. -/
def Dev.eachCh (d : Dev) (f : Dev → ChanId → Dev) : Dev := (List.finRange 64).foldl f d

/-- Apply to every channel named in a mask. -/
def Dev.inMask (d : Dev) (m : Word64) (f : Dev → ChanId → Dev) : Dev :=
  d.eachCh fun d n => if bit m n.val then f d n else d

/-- Apply to every stall. -/
def Dev.eachSt (d : Dev) (f : Dev → StallId → Dev) : Dev := (List.finRange 8).foldl f d

/-- Update every channel alone. -/
def Dev.mapCh (d : Dev) (f : ChanId → Channel → Channel) : Dev :=
  { d with chans := Vector.ofFn fun n => f n d.chans[n] }

/-- Whether every channel passes a test. -/
def Dev.allCh (d : Dev) (f : Channel → Bool) : Bool := d.chans.toList.all f

/-! ## Instants -/

/-- Commit at which a request that arrives in engine cycle `cyc` of this tick acts (R17, R38): the next commit if it
arrives before t+0.500 µs, else the one after. -/
def Dev.actAt (d : Dev) (cyc : Nat) : Tick := if cyc < 250 then d.tick + 1 else d.tick + 2

/-- The instant `k` engine cycles after cycle `cyc` of this tick, as tick and cycle. -/
def Dev.later (d : Dev) (cyc k : Nat) : Tick × Nat :=
  (d.tick + BitVec.ofNat 48 ((cyc + k) / 500), (cyc + k) % 500)

/-- The instant `k` engine cycles after an instant. -/
def addCyc (x : Tick × Nat) (k : Nat) : Tick × Nat := (x.1 + BitVec.ofNat 48 ((x.2 + k) / 500), (x.2 + k) % 500)

/-- The first instant of the 10 ns grid at or after an instant (R168). -/
def gridUp (x : Tick × Nat) : Tick × Nat := addCyc (x.1, 0) ((x.2 + 4) / 5 * 5)

/-- Engine cycles from one instant to a later one. -/
def cycFrom (a b : Tick × Nat) : Int := (BitVec.toInt (b.1 - a.1)) * 500 + b.2 - a.2

/-- `a` is before `b`. -/
def before (a b : Tick × Nat) : Bool := decide (0 < cycFrom a b)

/-- A request takes its place among those that wait: by arrival, then by rank (R378). -/
def insertWrite (w : HostWrite) : List HostWrite → List HostWrite
  | [] => [w]
  | x :: xs =>
    if before (w.arrived, w.cyc) (x.arrived, x.cyc) || (w.arrived == x.arrived && w.cyc == x.cyc && decide (w.rank < x.rank)) then
      w :: x :: xs
    else x :: insertWrite w xs

/-- Commit for an arrival at a given tick and cycle (R17). -/
def actFor (at' : Tick × Nat) : Tick := if at'.2 < 250 then at'.1 + 1 else at'.1 + 2

/-- Commit at which a fault detected in cycle `cyc` of this tick is presented (R490). -/
def Dev.presentAt (d : Dev) (cyc : Nat) : Tick := if cyc < 495 then d.tick + 1 else d.tick + 2

/-- The tick `due` has been reached at `now` (differences are taken modulo 2^48, R43). -/
def reached (now due : Tick) : Bool := decide ((now - due).toNat < 2 ^ 47)

/-- Ticks from `a` to `b`. -/
def ticksFrom (a b : Tick) : Nat := (b - a).toNat

/-! ## Gangs (R104–R107) -/

/-- Role of a channel: 0 none, 1 leader, 2 follower. -/
def Dev.role (d : Dev) (n : ChanId) : Nat := d.creg n Obj.GANG_ROLE

/-- The channel whose barker and multiplexers serve this channel (R106, R317). An HS channel leads no gang (R11, R104). -/
def Dev.leaderOf (d : Dev) (n : ChanId) : ChanId :=
  if d.role n = 2 then
    let l := d.creg n Obj.GANG_LEADER
    if h : l < 64 then
      let m : ChanId := ⟨l, h⟩
      if d.role m = 1 && !isHS m && stallOf m == stallOf n then m else n
    else n
  else n

/-- The members that a leader serves, itself first; a channel in no gang serves itself. -/
def Dev.members (d : Dev) (n : ChanId) : List ChanId :=
  if d.role n = 1 && !isHS n then n :: (chansOf (stallOf n)).filter (fun m => m != n && d.role m = 2 && d.leaderOf m == n)
  else [n]

/-- The channel whose settings a channel applies: its leader's (R106, R162). -/
def Dev.cfg (d : Dev) (n : ChanId) : Channel := d.ch (d.leaderOf n)

/-- Every member of the gang of a channel. -/
def Dev.gangOf (d : Dev) (n : ChanId) : List ChanId := d.members (d.leaderOf n)

/-- The channel is a follower of a gang: its own barker and multiplexers are not used (R106, R317). -/
def Dev.isFollower (d : Dev) (n : ChanId) : Bool := d.leaderOf n != n

/-! ## Force state tests -/

def Channel.isArmed (c : Channel) : Bool := c.force.st == .armed
def Channel.isParked (c : Channel) : Bool := c.force.st == .parked
def Channel.isSafe (c : Channel) : Bool := c.force.st == .safe

/-- ARMED_MASK (Table 3-12): channels ARMED or SAFE. -/
def Dev.armedMask (d : Dev) : Word64 := maskOf fun n => (d.ch n).isArmed || (d.ch n).isSafe
def Dev.safeMask (d : Dev) : Word64 := maskOf fun n => (d.ch n).isSafe
def Dev.allParked (d : Dev) : Bool := d.allCh (·.isParked)

/-! ## Raising a fault (R490): the fault waits for the commit at which it is presented -/

/-- Raise a fault presented at a given commit. -/
def Dev.raiseAt (d : Dev) (present : Tick) (code cls : Nat) (scope : Scope) (unit detail : Nat) (cause : Nat := 0) :
    Dev :=
  { d with flt := { d.flt with due := d.flt.due ++
      [(present, { code := code, cls := cls, scope := scope, unit := unit, detail := detail, detect := d.tick,
                   cause := cause })] } }

/-- A fault that the present commit detects (R490). -/
def Dev.raiseNow (d : Dev) (code cls : Nat) (scope : Scope) (unit : Nat) (detail : Nat := 0) : Dev :=
  d.raiseAt d.tick code cls scope unit detail

/-- A channel fault that the present commit detects. -/
def Dev.raiseCh (d : Dev) (code cls : Nat) (n : ChanId) (detail : Nat := 0) : Dev :=
  d.raiseAt d.tick code cls .channel n.val detail

/-- A channel fault detected in an engine cycle of this tick. -/
def Dev.raiseChCyc (d : Dev) (code cls : Nat) (n : ChanId) (cyc : Nat) (detail : Nat := 0) : Dev :=
  d.raiseAt (d.presentAt cyc) code cls .channel n.val detail

/-! ## System calibration in progress -/

/-- Background calibration is paused on a channel (R355). -/
def Dev.bgPaused (d : Dev) (n : ChanId) : Bool :=
  let c := d.ch n
  c.cal.pausedClamp || c.cal.pausedPath || (c.force.latch && !c.isParked)

/-- A cycle of background calibration begins (R352). -/
def ChCal.begin (k : ChCal) (t : Tick) : ChCal := { k with cycleStart := t, convs := [], readings := [], ticksOf := [], gains := 0 }

/-- A system calibration is in progress (R359, R360). -/
def Dev.sysActive (d : Dev) : Bool :=
  match d.cal.sys with
  | .waiting | .measuring | .zeroDone | .storing => true
  | .idle | .done | .aborted => false

/-- The channel that SYSCAL_CH names. -/
def Dev.sysNamed (d : Dev) : Option ChanId :=
  if h : d.reg Obj.SYSCAL_CH < 64 then some ⟨d.reg Obj.SYSCAL_CH, h⟩ else none

/-- The channel of the calibration in progress, or the one that the next is to name. -/
def Dev.sysChan (d : Dev) : Option ChanId := if d.sysActive then d.cal.point.map (·.1) else d.sysNamed

/-- System calibration runs on a channel: its injected triggers are disabled and its tallies stay closed (R360). -/
def Dev.sysOn (d : Dev) (n : ChanId) : Bool := d.sysActive && d.sysChan == some n

/-- A calibration point runs on a channel: its conversions follow a fixed plan (R361). -/
def Dev.sysPlan (d : Dev) (n : ChanId) : Bool := d.cal.sys == .measuring && d.sysChan == some n

/-! ## Answers to a write, and the running module -/

/-- CoE abort codes: value outside its range, access refused in the present state (R377). -/
def abRange : Nat := 0x06090030
def abState : Nat := 0x08000022

/-- A cause of Table 15-6 becomes pending; a message goes out when it is unmasked (R411). -/
def Dev.raiseIrq (d : Dev) (v : Nat) : Dev :=
  let p := d.pcie
  { d with pcie := { p with irq := putBit p.irq v true,
                            irqSent := if !bit p.irq v && !bit p.irqMask v then p.irqSent + 1 else p.irqSent } }

/-- Log a protocol violation (R424, R507). -/
def Dev.violate (d : Dev) (source code detail answer : Nat) : Dev :=
  let f := d.flt
  let v : ViolEntry := { tick := d.tick, source := source, code := code, detail := detail, answer := answer, seq := f.violSeq }
  let lost := decide (256 ≤ f.viol.length) && (match f.viol.head? with | some x => decide (f.violRead ≤ x.seq) | none => false)
  let d := { d with flt := { f with viol := (f.viol ++ [v]).drop (f.viol.length - 255), violSeq := f.violSeq + 1 } }
  (if lost then d.inc 32 Obj.VLOG_LOST else d).raiseIrq 6

/-- Index and subindex of a channel's object from its key (R396): `(index * 256 + subindex)`. -/
def chObj (n : ChanId) (k : Nat) : Nat :=
  if k < 0x4000 then (0x6000 + 0x40 * n.val) * 256 + k
  else if k < 0x4100 then (0x2280 + n.val) * 256 + k % 256
  else (0x22C0 + n.val) * 256 + k % 256
/-- Index and subindex of a stall's object from its key. -/
def stObj (s : StallId) (k : Nat) : Nat := (0x7000 + 0x20 * s.val) * 256 + k

/-- An object access is refused with an abort code, logged as a violation (R377, R424), and changes nothing else. The
object is index * 256 + subindex. -/
def Dev.refuse (d : Dev) (obj code : Nat) : Dev :=
  { d with dict := { d.dict with abort := code } }.violate d.dict.source 0x0120 (obj * 256) code
/-- An access is served. -/
def Dev.served (d : Dev) : Dev := { d with dict := { d.dict with abort := 0 } }

/-- A write is accepted and acts at the present commit, which LAST_WRITE_TICK names unless process data carried it (R38). -/
def Dev.accept (d : Dev) : Dev :=
  if d.dict.source = 1 then d.served else d.served.setReg Obj.LAST_WRITE_TICK d.tick.toNat

/-- A host write of a channel object that meets the data path at its commit is discarded, and an F0 entry names the object
(R22). -/
def Dev.hostOver (d : Dev) (n : ChanId) (k : Nat) (f : Dev → Dev) : Dev :=
  if d.wrote.contains (n.val, k) then d.served.raiseNow 0x0102 0 .channel n.val (chObj n k * 256) else f d

/-- RECORD_ID of the retained record that holds a K object (Table 14-4); the object is index * 256 + subindex. -/
def recordOf (obj : Nat) : Nat :=
  let idx := obj / 256
  if idx = 0x5400 then 0x300
  else if 0x7000 ≤ idx && idx < 0x7100 then 0x100 + (idx - 0x7000) / 0x20
  else if 0x6000 ≤ idx && idx < 0x7000 then 0x200 + (idx - 0x6000) / 0x40
  else if 0x2280 ≤ idx && idx < 0x22C0 then 0x200 + (idx - 0x2280)
  else 0

/-- A write to a kept object has acted: its record is to be written (R384). `old` is the value before it. -/
def Dev.keep (d : Dev) (obj old : Nat) : Dev :=
  { d with dict := { d.dict with retains := d.dict.retains ++
      [{ record := recordOf obj, idx := obj / 256, sub := obj % 256, old := old, since := d.tick, source := d.dict.source }] } }

/-- As `keep`, after a write that may have been refused. -/
def Dev.keepOk (d : Dev) (obj old : Nat) : Dev := if d.dict.abort = 0 then d.keep obj old else d

/-- A command that acts at a commit of the released module. -/
def liveAt (s : State) (f : Dev → Dev) : Host.Outcome State Fault Refusal :=
  if s.dev.power.released then runAt s f else .next s

end Sys2Proof.Machine
end

