-- ==== Sys2Proof/Machine/Operands.lean ====
section
/-! DEFINITION. The fields of configuration words and of step words, and the ranges they name. -/

namespace Sys2Proof.Machine

open Sys2Proof

/-! ## Ranges and clamp codes (Tables 3-1, 3-2, 3-3) -/

/-- LSB of a voltage range in 10 nV (Table 3-1). -/
def lsbV (r : Nat) : Nat := match r with | 0 => 625 | 1 => 2500 | _ => 10000

/-- LSB of a current range in 10 pA (Table 3-2). -/
def lsbI (r : Nat) : Nat :=
  match r with | 0 => 1 | 1 => 10 | 2 => 100 | 3 => 1000 | 4 => 10000 | 5 => 100000 | _ => 20000

/-- Output span in codes of a voltage range by channel type (Table 3-1). -/
def spanV (hs : Bool) (r : Nat) : Nat × Nat :=
  match hs, r with
  | false, 0 => (0x03000, 0xFFFFF)
  | false, _ => (0x60C00, 0xDCC60)
  | true, 0 => (0x00000, 0xFFFFF)
  | true, 1 => (0x0AD00, 0xFFFFF)
  | true, _ => (0x62B40, 0xCE200)

/-- Nominal full scale of a current range in LSB (R74). -/
def nominalLsb : Nat := 500000

/-- A channel type offers a voltage range (R73). -/
def offersV (hs : Bool) (r : Nat) : Bool := decide (r ≤ 1) || (hs && r == 2)
/-- A channel type offers a current range (R74). -/
def offersI (hs : Bool) (r : Nat) : Bool := decide (r ≤ 4) || (!hs && r == 5) || (hs && r == 6)

/-- Fields of a range-pair entry (Table 3-3). -/
def rpVRange (w : Nat) : Nat := natBits w 31 30
def rpIRange (w : Nat) : Nat := natBits w 29 27
def rpMode (w : Nat) : Bool := natBit w 26
def rpHi (w : Nat) : Nat := natBits w 23 12
def rpLo (w : Nat) : Nat := natBits w 11 0

/-- The clamp offset a 12-bit clamp code stands for, in units of 256 LSB (R81). -/
def clampOff (k : Nat) : Int := (k : Int) - 0x800
/-- The clamp code of an offset. -/
def clampCode (v : Int) : Nat := (clampInt (-0x800) 0x7FF v + 0x800).toNat

/-- The value in LSB at which a clamp code acts: at most the span of the clamped quantity (R81), with `scale` 75% of a
current clamp, rounded toward zero to a whole code (R113). -/
def clampAct (hs fi : Bool) (vr : Nat) (scale : Bool) (k : Nat) : Int :=
  let sp := spanV hs vr
  let l : Int × Int := if fi then ((sp.1 : Int) - 0x80000, (sp.2 : Int) - 0x80000) else (-nominalLsb, nominalLsb)
  let v := clampInt l.1 l.2 (clampOff k * 256)
  if scale && !fi then divTrunc (v * 3) 1024 * 256 else v

/-- Magnitude of a clamp code exceeds a declared limit (R79, R111): voltage clamps against mV, current clamps against µA. -/
def clampOver (fi : Bool) (vr ir k declV declI : Nat) : Bool :=
  if fi then decide ((clampOff k).natAbs * 256 * lsbV vr > declV * 100000)
  else decide ((clampOff k).natAbs * 256 * lsbI ir > declI * 100000)

/-- An entry exceeds the declared limits (R111). -/
def rpOver (w declV declI : Nat) : Bool :=
  clampOver (rpMode w) (rpVRange w) (rpIRange w) (rpHi w) declV declI ||
  clampOver (rpMode w) (rpVRange w) (rpIRange w) (rpLo w) declV declI

/-- The checks of R79 that do not look at the declared limits. -/
def rpWellFormed (hs : Bool) (w : Nat) : Bool :=
  natBits w 25 24 == 0 && offersV hs (rpVRange w) && offersI hs (rpIRange w) && decide (rpLo w + 4 ≤ rpHi w)

/-- A clamp code carried to another range of the same quantity, rounded toward zero (R147). -/
def clampTo (old new k : Nat) : Nat := clampCode (divTrunc (clampOff k * old) new)

/-- Saturation limits of the committed setpoint in LSB from zero (R77). -/
def setptLimits (hs fi : Bool) (vr ir declV declI : Nat) : Int × Int :=
  if fi then
    let m : Int := min nominalLsb (declI * 100000 / lsbI ir)
    (-m, m)
  else
    let sp := spanV hs vr
    let m : Int := declV * 100000 / lsbV vr
    (max ((sp.1 : Int) - 0x80000) (-m), min ((sp.2 : Int) - 0x80000) m)

/-! ## Measure plans (Tables 5-3, 5-4, 5-5, 5-13) -/

def hdrProbe (w : Nat) : Bool := natBit w 31
/-- MV_LEN or MI_LEN. -/
def hdrLen (mi : Bool) (w : Nat) : Nat := if mi then natBits w 15 12 else natBits w 23 20
/-- TRIG is EVENT. -/
def hdrEvent (mi : Bool) (w : Nat) : Bool := natBit w (if mi then 11 else 19)
def tmPh0 (w : Nat) : Nat := natBits w 31 24
def tmPh1 (w : Nat) : Nat := natBits w 23 16
def tmDelay (w : Nat) : Nat := natBits w 15 8
def slotAcq (w : Nat) : Nat := natBits w 13 8
def slotPga (w : Nat) : Nat := natBits w 5 4
def slotInput (w : Nat) : Nat := natBits w 2 0
def qualOn (w : Nat) : Bool := natBit w 15
def qualLow (w : Nat) : Bool := natBit w 14
def qualDelay (w : Nat) : Nat := natBits w 7 0

/-- Objects of a plan: header, timing word, slot j of a converter (R163). -/
def planHdr (c : Channel) (p : Nat) : Nat := c.reg (Obj.MPLAN_HDR p)
def planTiming (c : Channel) (mi : Bool) (p : Nat) : Nat := c.reg (if mi then Obj.MI_TIMING p else Obj.MV_TIMING p)
def planSlot (c : Channel) (mi : Bool) (p j : Nat) : Nat :=
  c.reg (if mi then Obj.MI_SLOT (8 * p + j) else Obj.MV_SLOT (8 * p + j))

/-- Longest conversion of a plan in ns (R164). -/
def planLongest (c : Channel) (mi : Bool) (p : Nat) : Nat :=
  (List.range (hdrLen mi (planHdr c p))).foldl (fun m j => max m (10 * slotAcq (planSlot c mi p j) + 280)) 0

/-- The timing check of R164. -/
def planFits (c : Channel) (mi : Bool) (p : Nat) : Bool :=
  let h := planHdr c p
  let t := planTiming c mi p
  if hdrLen mi h == 0 || hdrEvent mi h then true
  else
    let l := planLongest c mi p
    let s0 := 10 * tmPh0 t + 10 * tmDelay t
    let e0 := s0 + 40 + l
    if tmPh1 t == 0xFF then decide (e0 ≤ 1000)
    else
      let s1 := 10 * tmPh1 t + 10 * tmDelay t
      decide (s0 ≤ s1) && (if s1 ≥ e0 + 200 then decide (s1 + 40 + l ≤ 1000) else decide (max s1 e0 + l ≤ 1000))

/-- A slot word a plan or an injected sequence accepts (Tables 5-1, 5-5). -/
def slotOk (mi injected : Bool) (w : Nat) : Bool :=
  natBits w 15 14 == 0 && natBits w 7 6 == 0 && !natBit w 3 && decide (10 ≤ slotAcq w) &&
  decide (slotAcq w ≤ if injected then 20 else 30) && decide (slotInput w ≤ if mi then 1 else 3)

/-- A plan that a write would leave (R164). -/
def planOk (c : Channel) (p : Nat) : Bool :=
  let h := planHdr c p
  natBits h 30 24 == 0 && natBits h 18 16 == 0 && natBits h 10 0 == 0 &&
  [false, true].all fun mi =>
    let t := planTiming c mi p
    decide (hdrLen mi h ≤ 8) && natBits t 7 0 == 0 && decide (tmPh0 t ≤ 99) &&
    (decide (tmPh1 t ≤ 99) || tmPh1 t == 0xFF) &&
    (List.range 8).all (fun j => slotOk mi false (planSlot c mi p j)) && planFits c mi p

/-- The plan permits probing and makes an MI conversion (R24, R130, R135). -/
def planProbes (c : Channel) (p : Nat) : Bool := hdrProbe (planHdr c p) && decide (0 < hdrLen true (planHdr c p))

/-- The plan leaves a window free (R172). -/
def planFree (c : Channel) (mi : Bool) (p : Nat) : Bool :=
  let h := planHdr c p
  let t := planTiming c mi p
  hdrLen mi h == 0 ||
  (!hdrEvent mi h && tmPh1 t == 0xFF &&
   decide (10 * tmPh0 t + 10 * tmDelay t + 40 + planLongest c mi p + 480 ≤ 1000))

/-! ## Gust words (Tables 4-2, 4-6) -/

/-- LEAD of a timing word, in 20 ns. -/
def gtLead (w : Nat) : Nat := natBits w 23 16
/-- ADV of a timing word, in 20 ns. -/
def gtAdv (w : Nat) : Int := signedOf 8 (natBits w 15 8)
def gtRearm (w : Nat) : Bool := natBit w 0

/-! ## Settling time of a compensation setting in ticks (Table 4-1) -/

def settleTicks (s : Nat) : Nat :=
  [1, 1, 1, 1, 2, 2, 2, 2, 3, 3, 4, 4, 5, 6, 7, 9, 10, 13, 15, 19, 23, 27, 32, 39, 46, 56, 69, 84, 100, 125, 150, 750].getD s 750

/-- Upper edge of each load band in pF (Table 4-1); the capacitance estimate is in nF. -/
def bandEdges : List Nat :=
  [1000, 1780, 3160, 5620, 10000, 17800, 31600, 56200, 100000, 178000, 316000, 562000, 1000000, 1780000, 3160000,
   5620000, 10000000, 17800000, 31600000, 56200000, 100000000, 178000000, 316000000, 562000000, 1000000000,
   1780000000, 3160000000, 5620000000, 10000000000, 17800000000, 20000000000]

/-- COMP_RS of a channel at a setting: factory trim (R132, R155, log 3). -/
def compRs (n : ChanId) (setting : Nat) : Nat := Config.fitted (2 ^ 44 + 64 * setting + n.val) % 0x10000

/-- Setting whose band contains a capacitance in nF; 30 above 20,000 µF (R134). -/
def bandOf (nF : Nat) : Nat := min 30 ((bandEdges.filter (fun e => decide (e ≤ nF * 1000))).length)

end Sys2Proof.Machine
end

