-- ==== Sys2Proof/Machine/Containers.lean ====
section
/-! DEFINITION. Containers (R438–R445): the layout of Tables 16-4 and 16-5, the primitives of R429 that open them, program
packages (Table 10-9) and LOAD descriptors (Table 15-8) as bytes. -/

namespace Sys2Proof.Machine

open Sys2Proof

/-! ## Fields of a byte string (R4) -/

/-- Bytes `i` to `i + n - 1`. -/
def slice (b : List Byte) (i n : Nat) : List Byte := (b.drop i).take n

/-- A field of `n` bytes, least significant byte first (R4). -/
def fieldAt (b : List Byte) (i n : Nat) : Nat := leNat (slice b i n)

/-- Bytes `i` to `i + n - 1` read 0. -/
def zerosAt (b : List Byte) (i n : Nat) : Bool := (slice b i n).all (· == 0)

/-! ## Primitives (R429) -/

/-- A shared secret, `k` the key pair of the module: 0 the identity key, above it the ephemeral pair of draw `k - 1`. -/
def agree (k : Nat) (pub : List Byte) : List Byte := bytesN 48 (Config.ecdh k pub)

/-- A signature verifies over SHA-384 of a message. -/
def signedBy (key msg sig : List Byte) : Bool := Config.ecdsaOk key (bytesN 48 (Config.sha384 msg)) sig

/-- The tag of AES-256-GCM. -/
def gcmTag (key iv aad ct : List Byte) : List Byte := bytesN 16 (Config.gcmTag key iv aad ct)

/-- AES-256 in counter mode, both ways. -/
def gcmText (key iv text : List Byte) : List Byte := bytesN text.length (Config.aesCtr key iv text)

/-- Plaintext of an AES-256-GCM ciphertext whose tag verifies. -/
def gcmOpen (key iv aad ct tag : List Byte) : Option (List Byte) :=
  if gcmTag key iv aad ct = tag then some (gcmText key iv ct) else none

/-- A key wrapped to the identity key (Table 16-5): ephemeral key, wrapped key, tag and header. -/
def unwrap (eph wrapped tag head : List Byte) : Option (List Byte) :=
  gcmOpen (bytesN 32 (Config.kdf (agree 0 eph) (label "WRAP") head 32)) (List.replicate 12 0) [] wrapped tag

/-! ## The header (Table 16-4) -/

/-- Fields of a container's header. -/
structure BoxHead where
  type    : Nat
  flags   : Nat
  auth    : Nat
  arb     : Nat
  nsig    : Nat
  fp      : Nat
  bodyLen : Nat
  stream  : Nat
deriving DecidableEq, Repr

def boxHeadOf (b : List Byte) : BoxHead :=
  { type := fieldAt b 3 1, flags := fieldAt b 4 1, auth := fieldAt b 5 1, arb := fieldAt b 6 1, nsig := fieldAt b 7 1,
    fp := fieldAt b 8 8, bodyLen := fieldAt b 16 4, stream := fieldAt b 20 4 }

/-- FLAGS: the body is encrypted, ARB_BUMP; AUTH 1: a stream key. -/
def BoxHead.enc (h : BoxHead) : Bool := natBit h.flags 0
def BoxHead.bump (h : BoxHead) : Bool := natBit h.flags 1
def BoxHead.keyed (h : BoxHead) : Bool := h.auth == 1

/-- Bytes of the key block. -/
def BoxHead.keyLen (h : BoxHead) : Nat := if h.keyed then 16 else if h.enc then 176 else 0

/-- Length of a container by its header (R438). -/
def BoxHead.size (h : BoxHead) : Nat := 32 + h.keyLen + h.bodyLen + (if h.keyed then 16 else 304 * h.nsig)

/-- The header's 32 bytes, the key block, the body as carried, and the signature blocks or the tag. -/
def boxHead (b : List Byte) : List Byte := bytesN 32 b
def boxKey (b : List Byte) : List Byte := slice b 32 (boxHeadOf b).keyLen
def boxBody (b : List Byte) : List Byte := slice b (32 + (boxHeadOf b).keyLen) (boxHeadOf b).bodyLen
def boxTail (b : List Byte) : List Byte := b.drop (32 + (boxHeadOf b).keyLen + (boxHeadOf b).bodyLen)

/-- Signature blocks of 304 bytes. -/
def boxBlocks (b : List Byte) : List (List Byte) := (List.range (boxHeadOf b).nsig).map fun i => slice (boxTail b) (304 * i) 304

/-! ## Signature blocks (Table 16-5) -/

def sigSigner (x : List Byte) : Nat := fieldAt x 0 1
def sigRights (x : List Byte) : Nat := fieldAt x 2 2
def sigGen (x : List Byte) : Nat := fieldAt x 4 2
def sigPub (x : List Byte) : List Byte := slice x 8 97

/-- Layout of a signature block. -/
def sigOk (x : List Byte) : Bool :=
  decide (x.length = 304) && decide (sigSigner x ≤ 2) && zerosAt x 1 1 && zerosAt x 6 2 && zerosAt x 105 7 &&
  (sigSigner x == 2 || (zerosAt x 2 4 && zerosAt x 8 97 && zerosAt x 112 96))

/-- The layout of Table 16-4. -/
def boxOk (b : List Byte) : Bool :=
  let h := boxHeadOf b
  decide (32 ≤ b.length) && fieldAt b 0 2 == 0x4354 && fieldAt b 2 1 == 1 && decide (h.flags < 4) && decide (h.auth ≤ 1) &&
  decide (h.arb ≤ 127) && zerosAt b 24 8 &&
  (if h.keyed then h.nsig == 0 && zerosAt (boxKey b) 12 4
   else (h.nsig == 1 || h.nsig == 2) && h.stream == 0 && zerosAt (boxKey b) 97 3 && (boxBlocks b).all sigOk)

/-- A type of Table 16-6 on its carrier: types 1 to 5 on the load paths, 0x10 to 0x13 on SEC_CONTAINER. -/
def carriedOk (sec : Bool) (t : Nat) : Bool :=
  if sec then decide (0x10 ≤ t) && decide (t ≤ 0x13) else decide (1 ≤ t) && decide (t ≤ 5)

/-! ## The body -/

/-- The body in clear, where its key unwraps and its tag verifies (R443, R445); `stream` is the key of the stream named. -/
def boxPlain (b : List Byte) (stream : Option (List Byte)) : Option (List Byte) :=
  let h := boxHeadOf b
  let k := boxKey b
  let body := boxBody b
  if h.keyed then
    match stream with
    | none => none
    | some key =>
      let iv := slice k 0 12
      if h.enc then gcmOpen key iv (boxHead b) body (boxTail b)
      else if gcmTag key iv (boxHead b ++ body) [] = boxTail b then some body else none
  else if h.enc then
    (unwrap (slice k 0 97) (slice k 100 32) (slice k 132 16) (boxHead b)).bind fun cek =>
      gcmOpen cek (slice k 148 12) (boxHead b) body (slice k 160 16)
  else some body

/-- The body as the decryptor writes it while its tag is not yet checked (R335, R443); none where no key opens it. -/
def boxText (b : List Byte) (stream : Option (List Byte)) : Option (List Byte) :=
  let h := boxHeadOf b
  let k := boxKey b
  if !h.enc then some (boxBody b)
  else if h.keyed then stream.map fun key => gcmText key (slice k 0 12) (boxBody b)
  else (unwrap (slice k 0 97) (slice k 100 32) (slice k 132 16) (boxHead b)).map fun cek => gcmText cek (slice k 148 12) (boxBody b)

/-- Counter of a stream-keyed container: the last 8 bytes of its IV, and the STREAM_ID before them (R445). -/
def boxCtr (b : List Byte) : Nat := fieldAt (boxKey b) 4 8
def boxIvStream (b : List Byte) : Nat := fieldAt (boxKey b) 0 4

/-! ## Words and descriptors -/

/-- `n` words of `w` bytes from byte `i` on. -/
def wordsAt (b : List Byte) (w i n : Nat) : List Nat := (List.range n).map fun k => fieldAt b (i + w * k) w

/-- The steps of a body, 8 bytes each. -/
def stepsOf (b : List Byte) : List Word64 := (wordsAt b 8 0 (b.length / 8)).map (BitVec.ofNat 64)

/-- Largest container (Table 15-8). -/
def maxLoad : Nat := 8388608

/-- The descriptor's own code (Table 15-10): FORMAT for a reserved type or field, SIZE for a length out of range. -/
def descCode (x : LoadDesc) : Nat :=
  let t := x.type.toNat
  if t = 0 || 5 < t || 4 ≤ x.flags.toNat || (natBit x.flags.toNat 1 && t != 1) then 1
  else if (!(t == 1 || t == 4) && x.target.toNat != 0xFFFF) || (t != 1 && x.first != 0) then 1
  else if x.box.isEmpty || maxLoad < x.box.length then 7
  else 0

/-! ## Program packages (Table 10-9) -/

/-- Programs of a package from byte `i` on: the programs and where they end. -/
def readProgs (b : List Byte) : Nat → Nat → Option (List PackageProg × Nat)
  | 0, i => some ([], i)
  | n + 1, i =>
    let len := fieldAt b (i + 2) 2
    if b.length < i + 8 + 4 * len || 480 < len || !zerosAt b (i + 6) 2 then none
    else
      let p : PackageProg := { id := fieldAt b i 2, cycles := fieldAt b (i + 4) 2, words := (wordsAt b 4 (i + 8) len).map (BitVec.ofNat 32) }
      (readProgs b n (i + 8 + 4 * len)).map fun r => (p :: r.1, r.2)

/-- Program sets of a package from byte `i` on. -/
def readSets (b : List Byte) : Nat → Nat → Option (List PackageSet)
  | 0, i => if b.length = i then some [] else none
  | n + 1, i =>
    if b.length < i + 24 || !zerosAt b (i + 2) 2 || !zerosAt b (i + 22) 2 || 2 ≤ fieldAt b (i + 1) 1 then none
    else
      let s : PackageSet := { set := fieldAt b i 1, urgent := fieldAt b (i + 1) 1 == 1, progs := wordsAt b 2 (i + 4) 8, declMax := fieldAt b (i + 20) 2 }
      (readSets b n (i + 24)).map (s :: ·)

/-- A package, if its framing is that of Table 10-9. -/
def readPackage (b : List Byte) : Option Package :=
  if b.length < 32 || fieldAt b 0 2 != 0x5450 || fieldAt b 2 1 != 1 || fieldAt b 16 4 != b.length || !zerosAt b 20 12 ||
      4096 < fieldAt b 4 2 || 4096 < fieldAt b 6 2 then none
  else
    match readProgs b (fieldAt b 4 2) 32 with
    | none => none
    | some (ps, i) => (readSets b (fieldAt b 6 2) i).map fun ss =>
        { caps := BitVec.ofNat 8 (fieldAt b 3 1), mask := BitVec.ofNat 64 (fieldAt b 8 8), progs := ps, sets := ss }

/-! ## CRC-32 of IEEE 802.3 (Table 17-5) -/

/-- One bit of the reflected CRC. -/
def crcBit (c : BitVec 32) : BitVec 32 := if bit c 0 then (c >>> 1) ^^^ 0xEDB88320 else c >>> 1

def crcByte (c : BitVec 32) (b : Byte) : BitVec 32 := (List.range 8).foldl (fun c _ => crcBit c) (c ^^^ b.setWidth 32)

def crc32 (b : List Byte) : BitVec 32 := ~~~(b.foldl crcByte 0xFFFFFFFF)

end Sys2Proof.Machine
end

