-- ==== Sys2Proof/Machine/Flags.lean ====
section
/-! DEFINITION. The bits of the status objects, as masks (Tables 3-11, 5-12, 6-5, 8-12, 7-6). -/

namespace Sys2Proof.Machine

open Sys2Proof

/-! STATUS (Table 3-11). -/
def stClampHi : BitVec 32 := 1
def stClampLo : BitVec 32 := 2
def stForceSat : BitVec 32 := 4
def stRailLag : BitVec 32 := 8
def stOutLimit : BitVec 32 := 16
def stDerated : BitVec 32 := 32
def stShare : BitVec 32 := 64
def stSenseFar : BitVec 32 := 128
def stRpairMode : BitVec 32 := 256

/-- Gather a STATUS bit for the present tick. -/
def Channel.flag (c : Channel) (b : BitVec 32) : Channel := c.modForce fun f => { f with acc := f.acc ||| b }
def Channel.flagIf (c : Channel) (v : Bool) (b : BitVec 32) : Channel := if v then c.flag b else c

end Sys2Proof.Machine
end

