-- ==== Sys2Proof/Machine/Wave.lean ====
section
/-! DEFINITION. The sine generator (R271–R274): the quarter-wave table, the sample of a sub-step, loading, starting,
stopping. -/

namespace Sys2Proof.Machine

open Sys2Proof

/-- π with 90 fraction bits. -/
def piFix : Int := 3889103333003610706726905384

/-- sin x for 0 ≤ x ≤ π/2, argument and result with 90 fraction bits: the series to x^23. -/
def sinFix (x : Int) : Int :=
  let s : Int := 2 ^ 90
  let x2 := x * x / s
  let t := [11, 10, 9, 8, 7, 6, 5, 4, 3, 2, 1].foldl (fun (t : Int) (i : Nat) => s - x2 * t / (s * (2 * i * (2 * i + 1) : Nat))) s
  x * t / s

/-- The quarter-wave table of R272: round(524,287 × sin(π × (2k + 1) ÷ 16,384)). -/
def quarter (k : Nat) : Int := divRound (524287 * sinFix (piFix * (2 * k + 1) / 16384)) (2 ^ 90)

/-- Phase at a sub-step of a tick (R272). -/
def Sine.phaseAt (s : Sine) (now : Tick) (j : Nat) : BitVec 32 :=
  s.phase0 + BitVec.ofInt 32 ((s.ftw : Int) * (8 * (ticksFrom s.loadTick now : Int) + j - s.loadSub))

/-- The sample that a phase gives at amplitude `a` (R272). -/
def sineSample (a : Nat) (phase : BitVec 32) : Int :=
  let q := natBits phase.toNat 31 30
  let k := natBits phase.toNat 29 18
  let v := if q == 0 || q == 2 then quarter k else quarter (4095 - k)
  let v := if q ≥ 2 then -v else v
  divRound (a * v) 524288

/-- sine(j) of R76 at a tick: 0 while the sine is off. -/
def Sine.term (s : Sine) (now : Tick) (j : Nat) : Int :=
  if s.on then sineSample s.amp (s.phaseAt now j) else 0

/-- A of an amplitude word, and its RESTART bit (Table 9-7). -/
def sineAmpOf (w : Nat) : Nat := natBits w 19 0
def sineRestart (w : Nat) : Bool := natBit w 31

/-- Load the phase with P of the applied setting at a sub-step (R272, R273). -/
def Channel.sineLoad (c : Channel) (tick : Tick) (sub : Nat) : Channel :=
  let c := { c with sine := { c.sine with phase0 := BitVec.ofNat 32 (c.reg (Obj.SINE_PHASE c.sine.setting)),
                                          loadTick := tick, loadSub := sub } }
  (c.setReg Obj.SINE_LOAD_TICK tick.toNat).setReg Obj.SINE_LOAD_SUB sub

/-- OP 0 (R273) at a commit. -/
def Channel.sineStart (c : Channel) (now : Tick) (s : Idx16) : Channel :=
  let amp := c.reg (Obj.SINE_AMP s.val)
  let reload := !c.sine.on || sineRestart amp
  let kept := c.sine.phaseAt now 0
  let c := { c with sine := { c.sine with on := true, setting := s.val, ftw := c.reg (Obj.SINE_FTW s.val),
                                          amp := sineAmpOf amp, phase0 := kept, loadTick := now, loadSub := 0 } }
  if reload then c.sineLoad now 0 else c

/-- OP 1 (R273). -/
def Channel.sineOff (c : Channel) : Channel :=
  { c with sine := { c.sine with on := false, setting := 0xFF, amp := 0, resetAt := none } }

/-- OP 2 (R273). -/
def Channel.sinePhase (c : Channel) (now : Tick) : Channel := if c.sine.on then c.sineLoad now 0 else c

/-- A word of the applied setting changed, FTW or A: it acts with the phase continuing (R273). -/
def Channel.sineRewrite (c : Channel) (now : Tick) (amp : Bool) : Channel :=
  if !c.sine.on then c
  else
    let s := c.sine.setting
    if amp then { c with sine := { c.sine with amp := sineAmpOf (c.reg (Obj.SINE_AMP s)) } }
    else { c with sine := { c.sine with ftw := c.reg (Obj.SINE_FTW s), phase0 := c.sine.phaseAt now 0, loadTick := now, loadSub := 0 } }

/-- Rescale the amplitude at a change of the forced quantity's range (R274). -/
def Channel.sineRescale (c : Channel) (oldLsb newLsb : Nat) : Channel :=
  { c with sine := { c.sine with amp := (min 0xFFFFF (divRound (c.sine.amp * oldLsb) newLsb)).toNat } }

/-- First sub-step boundary later than an instant (R21, R273): tick and sub-step. -/
def nextSubStep (at' : Tick × Nat) : Tick × Nat :=
  let j := 2 * at'.2 / 125 + 1
  if j = 8 then (at'.1 + 1, 0) else (at'.1, j)

end Sys2Proof.Machine
end

