-- ==== Sys2Proof/Machine/Sampling.lean ====
section
/-! DEFINITION. The converters (R157–R177): when a conversion begins, what it is tagged with, what its end does, and the
triggers that start it. Instants are pairs of tick and engine cycle. -/

namespace Sys2Proof.Machine

open Sys2Proof

/-- The channel makes regular and injected conversions (R166). -/
def Channel.converts (c : Channel) : Bool :=
  match c.force.st with
  | .armed | .parking | .safe => true
  | .parked | .arming => false

/-- When acquisition begins for a start instant: 40 ns later on a converter idle for 200 ns or more (R19). -/
def Conv.acquireAt (v : Conv) (x : Tick × Nat) : Tick × Nat :=
  match v.lastEnd with
  | none => addCyc x 20
  | some e => if cycFrom e x ≥ 100 then addCyc x 20 else x

/-- Object of MV or MI. -/
def mvmi (mi : Bool) (mv' mi' : Nat) : Nat := if mi then mi' else mv'

/-- An injection into the channel overlaps the time from one instant up to another (R127). -/
def Channel.gustOver (c : Channel) (a b : Tick × Nat) : Bool :=
  c.gust.spans.any fun s => before s.1 s.2 && before s.1 b && before a s.2

/-- An injection into the channel overlaps a tick. -/
def Channel.gustIn (c : Channel) (t : Tick) : Bool := c.gustOver (t, 0) (t + 1, 0)

/-- What the present tick means for a conversion that acquires in it (R160, R161, R173–R176, R181). -/
def Dev.tickFacts (d : Dev) (n : ChanId) : TickFacts :=
  let c := d.ch n
  let s := d.st (stallOf n)
  let a := c.force.active
  let within := fun (o : Option Tick) (k : Nat) => match o with | some t => decide (ticksFrom t d.tick < k) | none => false
  let early := s.refx && decide (ticksFrom (BitVec.ofNat 48 (s.reg Obj.REFX_EN_TICK)) d.tick < 5000)
  let window := c.rc.active && decide (ticksFrom c.rc.opened d.tick < 3)
  { vrange := a.vrange, irange := a.irange, early := early, pull := c.ow.phase != .idle, isHeld := bit (d.cfg n).bk.status 7,
    unsettled := window || within s.bufferOn 2 || early || within s.fallTick 3 }

/-- What a tick, the present one or the one before, means for a conversion that acquires in it. -/
def Dev.factsAt (d : Dev) (n : ChanId) (t : Tick) : TickFacts := if t == d.tick then d.tickFacts n else (d.ch n).was

/-- A conversion is UNSETTLED by its input or its gain (Table 5-6). -/
def Conv.changed (v : Conv) (word : Nat) : Bool :=
  (decide (v.lastIn ≠ some (slotInput word)) && decide (slotAcq word < 20)) || decide (v.lastIn = none) ||
  decide (v.lastPga ≠ some (slotPga word)) || v.gainRun

/-- The conversion of a slot word asked for at one instant that begins acquisition at another (R157). -/
def Running.of (kind : ConvKind) (slot word : Nat) (asked x : Tick × Nat) : Running :=
  { kind := kind, slot := slot, word := word, asked := asked, start := x, stop := addCyc x (5 * slotAcq word + 140),
    adv := true, spoilt := false }

/-- Begin a conversion at a start instant. -/
def Dev.beginConv (d : Dev) (n : ChanId) (mi : Bool) (kind : ConvKind) (slot word : Nat) (x : Tick × Nat) : Dev :=
  let a := ((d.ch n).conv mi).acquireAt x
  d.modCh n fun c => c.modConv mi fun v => { v with run := some (.of kind slot word x a), begun := v.begun ++ [a.1] }

/-- The slot word that the regular sequence converts next; a follower's SENSE converts LAND (R162, R165). -/
def Dev.regularWord (d : Dev) (n : ChanId) (mi : Bool) : Nat × Nat :=
  let g := d.cfg n
  let p := (d.ch n).force.plan
  let len := hdrLen mi (planHdr g p)
  let j := if len = 0 || d.sysPlan n then 0 else ((d.ch n).conv mi).pos % len
  let w := if d.sysPlan n then 0x1400 else planSlot g mi p j
  (j, if !mi && d.isFollower n && slotInput w == 0 then w + 1 else w)

/-- A gain code as the PGA field of a slot word with ACQ 200 ns and the input CAL_REF (R172). -/
def calWord (pga : Nat) : Nat := 0x1400 + 16 * pga + 6

/-- The converter makes no regular conversion for 256 tk (R351). -/
def Channel.convIdle (c : Channel) (mi : Bool) (now : Tick) : Bool :=
  match (c.conv mi).regTick with
  | none => true
  | some t => decide (ticksFrom t now ≥ 256)

/-- Gain of the next calibration conversion (R172, R351). -/
def Channel.calGain (c : Channel) (mi : Bool) (now : Tick) : Nat :=
  if c.convIdle mi now then (c.conv mi).idleGain else (c.conv mi).regPga

/-- Background calibration converts in this tick (R172). -/
def Dev.calTick (d : Dev) (n : ChanId) (mi : Bool) : Bool :=
  let o := 4 * n.val + b2n mi
  if (d.ch n).converts && (d.sysPlan n || !planFree (d.cfg n) mi (d.ch n).force.plan) then (d.tick.toNat + o) % 256 == 0
  else (d.tick.toNat + o) % 16 == 0

/-- A regular conversion runs, or waits to begin, at an instant (R169). -/
def Conv.regularAt (v : Conv) (x : Tick × Nat) : Bool :=
  v.waits.any (·.1 == .regular) ||
  match v.run with
  | none => false
  | some r => r.kind == .regular && before x r.stop

/-- A conversion waits until the running one ends. -/
def Conv.queue (v : Conv) (kind : ConvKind) (x : Tick × Nat) : Conv := { v with waits := v.waits ++ [(kind, x)] }

/-- Start a regular conversion of a channel at an instant (R167, R168): it waits for a calibration or regular
conversion that still runs. -/
def Dev.startRegular (d : Dev) (n : ChanId) (mi : Bool) (x : Tick × Nat) : Dev :=
  if ((d.ch n).conv mi).run.isSome then d.modCh n fun c => c.modConv mi (·.queue .regular x)
  else
    let w := d.regularWord n mi
    d.beginConv n mi .regular w.1 w.2 x

/-- The next conversion that waits begins at an instant, or when it was asked for if that is later (R167, R169, R172). -/
def Dev.beginWaiting (d : Dev) (n : ChanId) (mi : Bool) (x : Tick × Nat) : Dev :=
  match ((d.ch n).conv mi).waits with
  | [] => d
  | (k, y) :: rest =>
    let d := d.modCh n fun c => c.modConv mi fun v => { v with waits := rest }
    let at' := if before x y then y else x
    match k with
    | .calibration => d.beginConv n mi .calibration 0 (calWord ((d.ch n).calGain mi d.tick)) at'
    | .preClose => d.beginConv n mi .preClose 0 0x1400 at'
    | _ =>
      let w := d.regularWord n mi
      d.beginConv n mi .regular w.1 w.2 at'

/-- A regular conversion that has not begun acquisition at an instant gives way (R168, R169): it waits again. -/
def Conv.yields (v : Conv) (x : Tick × Nat) : Conv :=
  match v.run with
  | none => v
  | some r =>
    if r.kind == .regular && before x r.start then
      { v with run := none, waits := (.regular, r.asked) :: v.waits, begun := v.begun.erase r.start.1 }
    else v

/-- The regular sequences of a channel go back to slot 0 (R165): a conversion that runs does not advance them, one that has
not begun takes slot 0. -/
def Dev.restartSeq (d : Dev) (n : ChanId) : Dev :=
  let f := fun (mi : Bool) (d : Dev) =>
    let d := d.modCh n fun c => c.modConv mi fun v => { v with pos := 0, run := v.run.map fun r => { r with adv := false } }
    match ((d.ch n).conv mi).run with
    | some r =>
      if r.kind == .regular && !before r.start (d.tick, 0) then
        let w := d.regularWord n mi
        d.modCh n fun c => c.modConv mi fun v => { v with run := some (.of .regular w.1 w.2 r.asked r.start) }
      else d
    | none => d
  f true (f false d)

/-- Regular and injected conversions of a channel that is PARKED are over; those of background calibration go on (R166). -/
def Conv.idle (v : Conv) : Conv :=
  { v with run := v.run.filter fun r => r.kind == .calibration, waits := v.waits.filter (·.1 == .calibration),
           injAt := none, injSlot := none, pulses := [], preClose := none }

/-- Background calibration takes the plan's last conversion of this tick (R172). -/
def Dev.stolen (d : Dev) (n : ChanId) (mi : Bool) : Bool :=
  (d.sysPlan n || !planFree (d.cfg n) mi (d.ch n).force.plan) && (d.calTick n mi || ((d.ch n).conv mi).deferred)

/-- A timer start (R167, R170, R172). -/
def Dev.timerStart (d : Dev) (n : ChanId) (mi second : Bool) : Dev :=
  let c := d.ch n
  let g := d.cfg n
  let p := c.force.plan
  let h := planHdr g p
  let t := planTiming g mi p
  let ph := if second then tmPh1 t else tmPh0 t
  let fixed := d.sysPlan n
  let x := if fixed then (d.tick, if second then 240 else 0) else addCyc (d.tick, 0) (5 * ph + 5 * tmDelay t)
  let last := second || (!fixed && tmPh1 t == 0xFF)
  if !c.converts || (!fixed && (hdrEvent mi h || hdrLen mi h == 0 || (second && tmPh1 t == 0xFF))) then d
  else if (c.conv mi).injSlot.isSome then d.cinc n 32 (mvmi mi Obj.MV_SKIP_INJ Obj.MI_SKIP_INJ)
  else if last && d.stolen n mi then d.cinc n 32 (mvmi mi Obj.MV_SKIP_CAL Obj.MI_SKIP_CAL)
  else d.startRegular n mi x

/-- An overrun of a consumer (R315): its OVR_FLAGS bit, its counter, and MV_OVR or MI_OVR for a converter trigger. -/
def Dev.overrun (d : Dev) (n : ChanId) (c : Nat) : Dev :=
  let d := d.modCh n fun ch => { ch with ovr := putBit ch.ovr c true }
  let d := d.cinc n 32 (Obj.OVR_CNT c)
  if c = 0 ∨ c = 2 then d.cinc n 32 Obj.MV_OVR
  else if c = 1 ∨ c = 3 then d.cinc n 32 Obj.MI_OVR else d

/-- An event as it reaches a consumer (R310, R318): polarity, width in engine cycles, instant of arrival, origin set. -/
structure Ev where
  high   : Bool
  width  : Nat
  at'    : Tick × Nat
  origin : List Nat
deriving DecidableEq, Repr

/-- What a trigger does with an event (R168): nothing, fire on its arrival, or measure a pulse to its trailing edge. -/
inductive Qual where
  | nothing
  | fire
  | measure (edge : Tick × Nat) (ok : Bool)
deriving DecidableEq, Repr

/-- The qualifier of R168 over a QUAL and a WIDTH word. -/
def qualify (qual width : Nat) (ev : Ev) : Qual :=
  if !qualOn qual then .fire
  else if ev.high == qualLow qual then .nothing
  else .measure (addCyc ev.at' ev.width) (decide (natBits width 15 0 ≤ ev.width) && decide (ev.width ≤ natBits width 31 16))

/-- A regular conversion fired at `x` for the start instant `y` would be in the way of another (R169): a regular one runs or
waits, or two conversions begin in its tick. -/
def Conv.blocks (v : Conv) (x y : Tick × Nat) : Bool :=
  let a := match v.run with
    | some r => if before y r.stop then r.stop else v.acquireAt y
    | none => v.acquireAt y
  v.regularAt x || decide ((v.begun.filter (· == a.1)).length + v.waits.length ≥ 2)

/-- The regular trigger of channel `o` fires at an instant (R168, R169), for every member of its gang; an overrun counts once. -/
def Dev.regularFire (d : Dev) (o : ChanId) (mi : Bool) (x : Tick × Nat) : Dev :=
  let h := planHdr (d.ch o) (d.ch o).force.plan
  let y := gridUp (addCyc x (5 * tmDelay (planTiming (d.ch o) mi (d.ch o).force.plan)))
  let blocked := fun (d : Dev) (n : ChanId) => ((d.ch n).conv mi).injSlot.isNone && ((d.ch n).conv mi).blocks x y
  if !(d.ch o).converts || d.sysPlan o || !hdrEvent mi h || hdrLen mi h == 0 then d
  else
    let late := (d.members o).any (blocked d)
    let d := (d.members o).foldl (fun d n =>
      if ((d.ch n).conv mi).injSlot.isSome then d.cinc n 32 (mvmi mi Obj.MV_SKIP_INJ Obj.MI_SKIP_INJ)
      else if blocked d n then d
      else d.startRegular n mi y) d
    if late then d.overrun o (b2n mi) else d

/-- The injected trigger of channel `o` fires at an instant (R170, R171). -/
def Dev.injectedFire (d : Dev) (o : ChanId) (mi : Bool) (x : Tick × Nat) : Dev :=
  let v := (d.ch o).conv mi
  let y := gridUp (addCyc x (5 * qualDelay ((d.ch o).reg (mvmi mi Obj.MV_INJ_QUAL Obj.MI_INJ_QUAL))))
  if !(d.ch o).converts || d.sysOn o then d
  else if v.injSlot.isSome || v.injAt.isSome then d.overrun o (2 + b2n mi)
  else (d.members o).foldl (fun d n => d.modCh n fun c => c.modConv mi fun v => { v with injAt := some y }) d

/-- The trailing edge of a measured pulse arrives (R168). -/
def Dev.pulseEnds (d : Dev) (o : ChanId) (mi : Bool) (p : Pulse) : Dev :=
  if !p.ok then d.cinc o 32 Obj.WIDTH_REJECT
  else if p.inj then d.injectedFire o mi p.edge
  else d.regularFire o mi p.edge

/-- The earlier pulse first. -/
def insertPulse (p : Pulse) : List Pulse → List Pulse
  | [] => [p]
  | q :: l => if before p.edge q.edge then p :: q :: l else q :: insertPulse p l

/-- The pulses of a converter's triggers that end before an instant fire or are rejected (R168, R169). -/
def Dev.pulsesTo (d : Dev) (o : ChanId) (mi : Bool) (x : Tick × Nat) : Dev :=
  let ps := ((d.ch o).conv mi).pulses
  let due := ps.filter fun p => before p.edge x
  if due.isEmpty then d
  else
    let d := d.modCh o fun c => c.modConv mi fun v => { v with pulses := ps.filter fun p => !before p.edge x }
    due.foldl (fun d p => d.pulseEnds o mi p) d

/-- An event at a trigger of a channel's converter (R168): it fires at once, or its pulse is measured. -/
def Dev.triggered (d : Dev) (o : ChanId) (mi inj : Bool) (qual width : Nat) (ev : Ev) : Dev :=
  let d := d.pulsesTo o mi (addCyc ev.at' 1)
  match qualify qual width ev with
  | .nothing => d
  | .fire => if inj then d.injectedFire o mi ev.at' else d.regularFire o mi ev.at'
  | .measure edge ok =>
    if ((d.ch o).conv mi).pulses.any (·.inj == inj) then d.overrun o ((if inj then 2 else 0) + b2n mi)
    else d.modCh o fun c => c.modConv mi fun v => { v with pulses := insertPulse ⟨inj, ev.at', edge, ok⟩ v.pulses }

/-- An event merges with the one whose pulse a trigger measures: the width is that of the wider event (R314). -/
def Pulse.widen (p : Pulse) (qual width : Nat) (ev : Ev) : Pulse :=
  match qualify qual width ev with
  | .measure edge ok => if p.lead == ev.at' && before p.edge edge then { p with edge := edge, ok := ok } else p
  | .nothing | .fire => p

/-- An event merges at a trigger of a channel's converter (R314). -/
def Dev.widenTrigger (d : Dev) (o : ChanId) (mi inj : Bool) (ev : Ev) : Dev :=
  let c := d.ch o
  let qual := c.reg (if inj then mvmi mi Obj.MV_INJ_QUAL Obj.MI_INJ_QUAL else mvmi mi Obj.MV_REG_QUAL Obj.MI_REG_QUAL)
  let width := c.reg (if inj then mvmi mi Obj.MV_INJ_WIDTH Obj.MI_INJ_WIDTH else mvmi mi Obj.MV_REG_WIDTH Obj.MI_REG_WIDTH)
  d.modCh o fun c => c.modConv mi fun v =>
    { v with pulses := (v.pulses.map fun p => if p.inj == inj then p.widen qual width ev else p).foldr insertPulse [] }

/-- An event at the regular trigger of a channel (R168). -/
def Dev.regularTrigger (d : Dev) (o : ChanId) (mi : Bool) (ev : Ev) : Dev :=
  let c := d.ch o
  let h := planHdr c c.force.plan
  if !c.converts || d.sysPlan o || !hdrEvent mi h || hdrLen mi h == 0 then d
  else d.triggered o mi false (c.reg (mvmi mi Obj.MV_REG_QUAL Obj.MI_REG_QUAL)) (c.reg (mvmi mi Obj.MV_REG_WIDTH Obj.MI_REG_WIDTH)) ev

/-- An event at the injected trigger of a channel (R170, R171). -/
def Dev.injectedTrigger (d : Dev) (o : ChanId) (mi : Bool) (ev : Ev) : Dev :=
  let c := d.ch o
  if !c.converts || d.sysOn o || !natBit (c.reg (mvmi mi Obj.MV_INJ_CTRL Obj.MI_INJ_CTRL)) 7 then d
  else d.triggered o mi true (c.reg (mvmi mi Obj.MV_INJ_QUAL Obj.MI_INJ_QUAL)) (c.reg (mvmi mi Obj.MV_INJ_WIDTH Obj.MI_INJ_WIDTH)) ev

/-- Slot word `j` of the injected sequence, with the substitution of R162. -/
def Dev.injectedWord (d : Dev) (n : ChanId) (mi : Bool) (j : Nat) : Nat :=
  let w := (d.cfg n).reg (if mi then Obj.MI_INJ_SLOT j else Obj.MV_INJ_SLOT j)
  if !mi && d.isFollower n && slotInput w == 0 then w + 1 else w

/-- LEN of the injected sequence. -/
def Dev.injectedLen (d : Dev) (n : ChanId) (mi : Bool) : Nat :=
  natBits ((d.cfg n).reg (mvmi mi Obj.MV_INJ_CTRL Obj.MI_INJ_CTRL)) 2 0

/-- A calibration conversion is put off to a later window (R172). -/
def Dev.deferCal (d : Dev) (n : ChanId) (mi : Bool) : Dev :=
  (d.modCh n fun c => c.modConv mi fun v => { v with deferred := true }).cinc n 32 Obj.CAL_DEFERRED

/-- A conversion that an injected sequence displaces is accounted for (R170, R172). -/
def Dev.displace (d : Dev) (n : ChanId) (mi : Bool) (k : ConvKind) : Dev :=
  match k with
  | .regular => d.cinc n 32 (mvmi mi Obj.MV_SKIP_INJ Obj.MI_SKIP_INJ)
  | .calibration => d.deferCal n mi
  | .injected | .preClose => d

/-- The regular or calibration conversions that run or wait give way to an injected sequence at an instant (R170). -/
def Dev.abandonConv (d : Dev) (n : ChanId) (mi : Bool) (x : Tick × Nat) : Dev :=
  let v := (d.ch n).conv mi
  let d := match v.run with
    | none => d
    | some r =>
      let d := d.modCh n fun c => c.modConv mi fun v =>
        { v with run := none, begun := v.begun.erase r.start.1, lastEnd := if before r.start x then some x else v.lastEnd }
      d.displace n mi r.kind
  v.waits.foldl (fun d w => d.displace n mi w.1) (d.modCh n fun c => c.modConv mi fun v => { v with waits := [] })

/-- Begin an injected slot at an instant; as a third conversion of its tick it waits for the next tick (R170). -/
def Dev.injectedSlot (d : Dev) (n : ChanId) (mi : Bool) (j : Nat) (x : Tick × Nat) : Dev :=
  let v := (d.ch n).conv mi
  let a := v.acquireAt x
  let x := if (v.begun.filter (· == a.1)).length ≥ 2 then (a.1 + 1, 0) else x
  let d := d.beginConv n mi .injected j (d.injectedWord n mi j) x
  d.modCh n fun c => c.modConv mi fun v => { v with injSlot := some (j + 1), injAt := none, injRan := true }

/-- Pulses whose firing asks for an injected sequence in this tick have ended when its start instant comes. -/
def Dev.injectedDue (d : Dev) (n : ChanId) (mi : Bool) : Dev :=
  let o := d.leaderOf n
  match ((d.ch n).conv mi).injAt with
  | some x => d.pulsesTo o mi x
  | none =>
    match ((d.ch o).conv mi).pulses.find? fun p => p.inj && p.ok && p.edge.1 == d.tick with
    | some p => d.pulsesTo o mi (addCyc p.edge 1)
    | none => d

/-- The pending start instant of an injected sequence has come (R170). -/
def Dev.injectedStart (d : Dev) (n : ChanId) (mi : Bool) : Dev :=
  let d := d.injectedDue n mi
  match ((d.ch n).conv mi).injAt with
  | none => d
  | some x =>
    if x.1 != d.tick then d
    else if !(d.ch n).converts then d.modCh n fun c => c.modConv mi fun v => { v with injAt := none }
    else (d.abandonConv n mi x).injectedSlot n mi 0 x

/-- The sample entry of a finished conversion (Table 10-8, R159, R161, R176, R183). -/
def Dev.entryOf (d : Dev) (n : ChanId) (mi : Bool) (r : Running) (raw : BitVec 18) (seen : Tick) : Entry :=
  let c := d.ch n
  let f := d.factsAt n r.start.1
  let last := addCyc r.start (5 * slotAcq r.word - 1)
  let tag := fun (b : Bool) (w : BitVec 4) => if b then w else 0
  { valid := true, re := false,
    src := (match r.kind with | .regular => 0 | .injected => 1 | .calibration => 2 | .preClose => 3),
    pos := r.slot,
    tags := tag (f.unsettled || (c.conv mi).changed r.word) 8 ||| tag (raw == 0x1FFFF#18 || raw == 0x20000#18) 4 |||
      tag (f.pull || (d.factsAt n last.1).pull) 2 ||| tag f.early 1,
    input := slotInput r.word, pga := slotPga r.word, range := if mi then f.irange else f.vrange, stamp := r.start.1,
    raw := raw, seen := seen, pub := none, offer := none, spoilt := r.spoilt || c.gustOver r.start (addCyc last 1),
    inHeld := f.isHeld }

/-- Entries in the order of R292: by stamp; entries of one stamp come in the order in which they were made. -/
def insertEntry (e : Entry) : List Entry → List Entry
  | [] => [e]
  | x :: xs => if reached e.stamp x.stamp then x :: insertEntry e xs else e :: x :: xs

/-- What a conversion means for the cycle of background calibration (R350, R351, R355, R356): a calibration conversion counts
toward a quota, unless its tick was held or the cycle is paused; a regular one uses its gain. -/
def Dev.bgCounts (d : Dev) (n : ChanId) (mi : Bool) (kind : ConvKind) (e : Entry) : Dev :=
  let key := 4 * b2n mi + e.pga % 4
  let parked := (d.ch n).isParked
  match kind with
  | .calibration =>
    if e.inHeld || d.bgPaused n then d
    else d.modCh n fun c => { c with cal := { c.cal with
      convs := sput 0 c.cal.convs key (sget 0 c.cal.convs key + 1),
      linConvs := if parked && !mi then c.cal.linConvs + 1 else c.cal.linConvs } }
  | .regular => d.modCh n fun c => { c with cal := { c.cal with gains := putBit c.cal.gains key true } }
  | .injected | .preClose => d

/-- A conversion is made (R160): its sample goes to the engine window of the present tick if it completed by t+0.020 µs,
else to the next (R18); a pre-close one keeps its value for the check (R166). -/
def Dev.finishConv (d : Dev) (n : ChanId) (mi : Bool) (r : Running) (raw : BitVec 18) : Dev :=
  let here := !before (d.tick, 10) r.stop
  let e := d.entryOf n mi r raw (if here then d.tick else d.tick + 1)
  let len := hdrLen mi (planHdr (d.cfg n) (d.ch n).force.plan)
  let pre := r.kind == .preClose
  let late := decide (3 ≤ ticksFrom (d.ch n).force.armTick r.start.1)
  let d := d.cinc n 64 (mvmi mi Obj.MV_CONV Obj.MI_CONV)
  let d := (if bit e.tags 3 then d.cinc n 32 Obj.UNSETTLED_CNT else d).bgCounts n mi r.kind e
  d.modCh n fun c => c.modConv mi fun v =>
    { v with
      run := none, lastEnd := some r.stop, lastIn := some (slotInput r.word), lastPga := some (slotPga r.word),
      gainRun := decide (v.lastPga ≠ some (slotPga r.word)),
      pos := if r.kind = .regular && r.adv then (if r.slot + 1 < len then r.slot + 1 else 0) else v.pos,
      regPga := if r.kind = .regular then slotPga r.word else v.regPga,
      regTick := if r.kind = .regular then some r.start.1 else v.regTick,
      idleGain := if r.kind = .calibration then (v.idleGain + 1) % 4 else v.idleGain,
      deferred := if r.kind = .calibration then false else v.deferred,
      preClose := if pre && late then some raw else v.preClose,
      tags := if pre then v.tags else v.tags ||| e.tags,
      entries := if here && !pre then insertEntry e v.entries else v.entries,
      next := if here || pre then v.next else insertEntry e v.next }

/-- The conversion that runs is over: the sequence goes on, or the next conversion that waits begins (R167, R170). Before its
end nothing happens. -/
def Dev.conversionEnd (d : Dev) (n : ChanId) (mi : Bool) (raw : BitVec 18) (cyc : Nat) : Dev :=
  match ((d.ch n).conv mi).run with
  | none => d
  | some r =>
    if before (d.tick, cyc) r.stop then d
    else
      let d := (d.pulsesTo (d.leaderOf n) mi r.stop).finishConv n mi r raw
      match r.kind with
      | .injected =>
        if r.slot + 1 < d.injectedLen n mi then d.injectedSlot n mi (r.slot + 1) r.stop
        else (d.modCh n fun c => c.modConv mi fun v => { v with injSlot := none }).beginWaiting n mi r.stop
      | _ => d.beginWaiting n mi r.stop

/-- A calibration conversion takes its window (R172, R351); an injected sequence defers it. In a free window it begins at the
end of the plan's conversion. -/
def Dev.calConversion (d : Dev) (n : ChanId) (mi : Bool) : Dev :=
  let g := d.cfg n
  let p := (d.ch n).force.plan
  let t := planTiming g mi p
  let s0 : Tick × Nat := addCyc (d.tick, 0) (5 * tmPh0 t + 5 * tmDelay t)
  let start : Tick × Nat :=
    if d.sysPlan n then (d.tick, 240)
    else if !(d.ch n).converts || hdrLen mi (planHdr g p) == 0 || hdrEvent mi (planHdr g p) then (d.tick, 0)
    else if planFree g mi p then
      (match ((d.ch n).conv mi).lastEnd with
       | some e => if before s0 e then e else s0
       | none => s0)
    else addCyc (d.tick, 0) (5 * (if tmPh1 t == 0xFF then tmPh0 t else tmPh1 t) + 5 * tmDelay t)
  if !(d.calTick n mi || ((d.ch n).conv mi).deferred) then d
  else
    let d := d.pulsesTo (d.leaderOf n) mi start
    if ((d.ch n).conv mi).injSlot.isSome then d.deferCal n mi
    else
      let d := d.modCh n fun c => c.modConv mi fun v => v.yields start
      if ((d.ch n).conv mi).run.isSome then d.modCh n fun c => c.modConv mi (·.queue .calibration start)
      else d.beginConv n mi .calibration 0 (calWord ((d.ch n).calGain mi d.tick)) start

end Sys2Proof.Machine
end

