-- ==== Sys2Proof/Machine/MonitorOps.lean ====
section
/-! DEFINITION. Window monitors (R209–R225): codes, restart, suspension, resolution, threshold readback, plausibility, and
what a commit does to a monitor. Monitors 0 and 1 watch the voltage, 2 and 3 the current; even monitors are high. -/

namespace Sys2Proof.Machine

open Sys2Proof

/-! Fields of the configuration word (Table 7-1). -/
def wmEn (w : Nat) : Bool := natBit w 31
def wmRef (w : Nat) : Nat := natBits w 30 28
def wmHyst (w : Nat) : Nat := natBits w 27 24
def wmEdge (w : Nat) : Nat := natBits w 23 22
def wmAction (w : Nat) : Nat := natBits w 21 20
def wmLevel (w : Nat) : Int := signedOf 20 w

/-- A write to WM_CFG is accepted (R226). -/
def wmCfgOk (m : Idx4) (w : Nat) : Bool :=
  decide (wmRef w ≤ if m.val < 2 then 2 else 6) && wmEdge w != 3 && wmAction w != 3

/-- The monitor watches the current. -/
def wmIsI (m : Idx4) : Bool := decide (2 ≤ m.val)
/-- The monitor is a high monitor. -/
def wmIsHigh (m : Idx4) : Bool := m.val % 2 == 0

/-- Applied code and SATURATED of a configuration word in the applied ranges (R211). -/
def wmCodeOf (m : Idx4) (w vr ir : Nat) : Nat × Bool :=
  let ref := if wmIsI m then lsbI (wmRef w) else lsbV (wmRef w)
  let app := if wmIsI m then lsbI ir else lsbV vr
  let num : Int := wmLevel w * ref
  let den : Int := 1024 * app
  let q := if wmIsHigh m then num.fdiv den else -((-num).fdiv den)
  ((0x200 + clampInt (-512) 511 q).toNat, decide (q < -512) || decide (511 < q))

/-- The threshold of a code in LSB of the applied range (R210). -/
def wmThreshold (code : Nat) : Int := ((code : Int) - 0x200) * 1024

/-- The monitor may run: EN, the channel past commit k+24 of its arm, and not a V monitor of a follower (R214). -/
def Dev.wmRuns (d : Dev) (n : ChanId) (m : Idx4) : Bool :=
  let c := d.ch n
  wmEn (c.reg (Obj.WM_CFG m.val)) && !(d.isFollower n && !wmIsI m) &&
  (match c.force.st with
   | .parked => false
   | .arming => decide (ticksFrom c.force.armTick d.tick ≥ 24)
   | .armed | .parking | .safe => true)

/-- Apply the code of the configuration word in the present ranges (R211). -/
def Channel.wmRecode (c : Channel) (m : Idx4) : Channel :=
  let w := c.reg (Obj.WM_CFG m.val)
  let q := wmCodeOf m w c.force.vrange c.force.irange
  c.modWm m fun x => { x with code := q.1, sat := q.2, hyst := wmHyst w }

/-- Turn a monitor off (R214). -/
def Channel.wmOff (c : Channel) (m : Idx4) : Channel :=
  c.modWm m fun x => { x with st := .off, res := .none, resolved := none, suspended := false, tripSeen := false,
                              seenNow := false, moved := true, dacFail := false, fails := 0, passes := 0 }

/-- Restart a monitor at a commit (R217, R218, R222). -/
def Channel.wmRestart (c : Channel) (m : Idx4) (now : Tick) : Channel :=
  (c.wmRecode m).modWm m fun x =>
    { x with st := .unknown, res := .none, resolved := none, suspended := false, restart := now, tripSeen := false,
             seenNow := false, moved := true }

/-- The codes of the monitors follow the applied ranges (R211). -/
def Channel.wmRecodeAll (c : Channel) : Channel := (List.finRange 4).foldl (fun c m => c.wmRecode m) c

/-- A range-change window suspends a monitor that runs (R223); its code is of the new range. -/
def Channel.wmSuspend (c : Channel) (m : Idx4) : Channel :=
  let c := c.wmRecode m
  if c.wm[m].st == .off then c
  else c.modWm m fun x => { x with st := .unknown, res := .none, resolved := none, suspended := true,
                                   tripSeen := false, seenNow := false, moved := true }

/-- Start or stop each monitor of a channel as R214 gives it now; a monitor that begins to run restarts. -/
def Dev.wmSettle (d : Dev) (n : ChanId) : Dev :=
  (List.finRange 4).foldl (fun d m =>
    let running := (d.ch n).wm[m].st != .off
    let runs := d.wmRuns n m
    if runs && !running then d.modCh n (·.wmRestart m d.tick)
    else if !runs && running then d.modCh n (·.wmOff m)
    else d) d

/-- The monitor key 4p + m of a stall. -/
def wmKey (n : ChanId) (m : Idx4) : Nat := 4 * posOf n + m.val

/-- Channel and monitor of a key. -/
def wmOfKey (s : StallId) (k : Nat) : ChanId × Idx4 :=
  (chanAt s ⟨k / 4 % 8, by omega⟩, ⟨k % 4, by omega⟩)

/-- Drop a monitor's resolution from its stall's queue. -/
def Dev.wmUnqueue (d : Dev) (n : ChanId) (m : Idx4) : Dev :=
  d.modSt (stallOf n) fun s => { s with resQ := s.resQ.filter fun e => e.2 != wmKey n m }

/-- Place a resolution: in the order of restart commits, then of 4p + m (R219). -/
def insertRes (e : Tick × Nat) : List (Tick × Nat) → List (Tick × Nat)
  | [] => [e]
  | x :: xs =>
    if x.1 = e.1 then (if x.2 ≤ e.2 then x :: insertRes e xs else e :: x :: xs)
    else if reached e.1 x.1 then x :: insertRes e xs else e :: x :: xs

/-- The band detector of an UNKNOWN monitor shows the input inside its band: an AUX resolution is queued (R218). -/
def Dev.wmQueue (d : Dev) (n : ChanId) (m : Idx4) : Dev :=
  let x := (d.ch n).wm[m]
  if x.st == .unknown && !x.suspended && !x.dacFail && x.res == .none && x.resolved.isNone && reached d.tick x.restart then
    (d.modCh n (·.modWm m fun x => { x with res := .queued })).modSt (stallOf n)
      fun s => { s with resQ := insertRes (x.restart, wmKey n m) s.resQ }
  else d

/-- An UNKNOWN monitor takes a side, with no event (R218, R219). -/
def Dev.wmTake (d : Dev) (n : ChanId) (m : Idx4) (tripped byAux : Bool) : Dev :=
  let x := (d.ch n).wm[m]
  let delay := ticksFrom x.restart d.tick
  let d := d.wmUnqueue n m
  let d := d.modCh n fun c => c.modWm m fun x =>
    { x with st := if tripped then .tripped else .clear, side := tripped, seenNow := tripped, tripSeen := false,
             res := .none, resolved := none, moved := false }
  let d := if byAux then d.cinc n 32 (Obj.WM_RESOLVED m.val) else d
  if delay > d.creg n Obj.WM_RESOLVE_MAX then d.setCreg n Obj.WM_RESOLVE_MAX (min 255 delay) else d

/-- The ticks that a monitor keeps: the eight latest; of a run of held ticks the last, whose samples alone a window can still
present (R67, R298). -/
def Monitor.keepTick (x : Monitor) (e : WmTick) : Monitor :=
  let l := match x.past with
    | p :: l => if p.isHeld then e :: l else e :: p :: l
    | [] => [e]
  match l.drop 8 with
  | o :: _ =>
    { x with past := l.take 8,
             older := if o.dis then some (o.tick, (match x.older with | some y => if y.1 == o.tick - 1 then y.2 else 0 | none => 0) + 1)
                      else x.older }
  | [] => { x with past := l }

/-- What a commit does to a monitor, given whether the band sample of the tick that ends lay inside the band
(R215, R218, R219). -/
def Dev.wmCommit (d : Dev) (n : ChanId) (m : Idx4) (inside : Bool) : Dev :=
  let x := (d.ch n).wm[m]
  let e : WmTick := { tick := d.tick - 1, steady := !x.moved, tripped := x.st == .tripped, code := x.code, hyst := x.hyst,
                      dis := false, isHeld := bit (d.cfg n).bk.status 7 }
  let d := d.modCh n fun c => c.modWm m fun x =>
    { x.keepTick e with acted := false, moved := x.st != .clear && x.st != .tripped }
  match x.st with
  | .off => d
  | .clear | .tripped =>
    d.modCh n fun c => c.modWm m fun x =>
      { x with st := if x.side then .tripped else .clear, tripSeen := x.seenNow, seenNow := x.side }
  | .unknown =>
    if x.suspended || x.dacFail || x.restart == d.tick then d
    else if !inside then d.wmTake n m x.side false
    else
      match x.resolved with
      | some v => d.wmTake n m v true
      | none => d.wmQueue n m

/-- A reading of a monitor's threshold DAC (R224); `began` is the tick in which the conversion began. -/
def Dev.wmReadback (d : Dev) (n : ChanId) (m : Idx4) (reading : Int) (began : Tick) : Dev :=
  let d := d.setCreg n (Obj.WM_READBACK m.val) (unsignedOf 32 reading)
  let d := d.setCreg n (Obj.WM_RB_TICK m.val) began.toNat
  let x := (d.ch n).wm[m]
  if x.st == .off || x.suspended || x.restart == began then d
  else
    let ok := decide ((reading - wmThreshold x.code).natAbs ≤ 2048)
    let d := d.modCh n fun c => c.modWm m fun x =>
      { x with fails := if ok then 0 else x.fails + 1, passes := if ok then x.passes + 1 else 0 }
    if !ok && x.fails + 1 ≥ 2 && !x.dacFail then
      let d := (d.wmUnqueue n m).modCh n fun c => c.modWm m fun x =>
        { x with dacFail := true, st := .unknown, res := .none, resolved := none, tripSeen := false, seenNow := false,
                 moved := true }
      d.raiseAt (d.tick + 1) 0x0602 1 .channel n.val m.val
    else if ok && x.passes + 1 ≥ 2 && x.dacFail then
      d.modCh n fun c => (c.modWm m fun x => { x with dacFail := false }).wmRestart m (d.tick + 1)
    else d

/-- A reading that belongs to the resolution at the head of the stall's queue (R219): first the input, then the
threshold DAC. -/
def Dev.wmResolve (d : Dev) (s : StallId) (key : Nat) (reading : Int) : Dev :=
  let nm := wmOfKey s key
  let d := d.sinc s 32 Obj.AUX_UNKNOWN
  let x := (d.ch nm.1).wm[nm.2]
  if x.res == .first then
    let v := if wmIsHigh nm.2 then decide (reading ≤ x.reading) else decide (x.reading ≤ reading)
    (d.wmUnqueue nm.1 nm.2).modCh nm.1 fun c => c.modWm nm.2 fun x => { x with res := .none, resolved := some v }
  else d.modCh nm.1 fun c => c.modWm nm.2 fun x => { x with res := .first, reading := reading }

/-- A published sample disagrees with a monitor that was steady on a side (R225). -/
def WmTick.disagrees (e : WmTick) (m : Idx4) (v : Int) : Bool :=
  let t := wmThreshold e.code
  let h : Int := e.hyst * 1024
  if wmIsHigh m then
    if e.tripped then decide (v ≤ t - h - 4096) else decide (t + 4096 ≤ v)
  else
    if e.tripped then decide (t + h + 4096 ≤ v) else decide (v ≤ t - 4096)

/-- Consecutive disagreeing ticks up to a tick, among the ticks kept, newest first, and the run before them. -/
def runTo (older : Option (Tick × Nat)) : List WmTick → Tick → Nat
  | [], t => match older with
    | some y => if y.1 == t then y.2 else 0
    | none => 0
  | e :: l, t => if e.tick == t then (if e.dis then runTo older l (t - 1) + 1 else 0) else runTo older l t

/-- The plausibility logic over the published samples of one window, (stamp, value) (R225). -/
def Dev.wmPlausible (d : Dev) (n : ChanId) (m : Idx4) (samples : List (Tick × Int)) : Dev :=
  let x := (d.ch n).wm[m]
  let hit := fun (e : WmTick) => !e.dis && e.steady && samples.any fun s => s.1 == e.tick && e.disagrees m s.2
  let new := (x.past.filter hit).length
  let past := x.past.map fun e => { e with dis := e.dis || hit e }
  let run := max (runTo x.older past (d.tick - 2)) (runTo x.older past (d.tick - 3))
  let d := (List.range new).foldl (fun d _ => d.cinc n 32 Obj.WM_PLAUS_CNT) d
  let d := d.modCh n fun c => c.modWm m fun x =>
    { x with past := past, implaus := decide (3 ≤ run), logged := decide (3 ≤ run) || (x.logged && run != 0) }
  if 3 ≤ run && !x.logged then d.raiseCh 0x0603 1 n m.val else d

/-- WM_STATUS (Table 7-3). -/
def Channel.wmStatus (c : Channel) : BitVec 16 :=
  (List.finRange 4).foldl (fun a m =>
    let x := c.wm[m]
    let v := b2n x.tripSeen + 2 * b2n x.sat + 4 * b2n x.dacFail + 8 * b2n x.implaus
    a ||| BitVec.ofNat 16 (v * 16 ^ m.val)) 0

/-- Monitors that a window suspended restart, or are off (R214, R223). -/
def Dev.wmResume (d : Dev) (n : ChanId) : Dev :=
  (List.finRange 4).foldl (fun d m =>
    if !(d.ch n).wm[m].suspended then d
    else if d.wmRuns n m then d.modCh n (·.wmRestart m d.tick)
    else d.modCh n (·.wmOff m)) d

end Sys2Proof.Machine
end

