-- ==== Sys2Proof/Machine/ForcePath.lean ====
section
/-! DEFINITION. The force path (R70–R113) and what a range change, load watch, the compensation and the gust injector do
to it (R119–R154). -/

namespace Sys2Proof.Machine

open Sys2Proof

/-! ## Setpoint and DAC (R75–R77) -/

/-- Saturation limits of a channel now (R77). -/
def Channel.limits (c : Channel) (n : ChanId) : Int × Int :=
  setptLimits (isHS n) c.force.fi c.force.vrange c.force.irange (c.reg Obj.DECL_V) (c.reg Obj.DECL_I)

/-- The committed setpoint takes a value, saturated (R77). -/
def Channel.commitSetpoint (c : Channel) (n : ChanId) (b : Int) : Channel :=
  let l := c.limits n
  let v := clampInt l.1 l.2 b
  let c := c.modForce fun f => { f with prevSetpt := f.setpt, setpt := codeOf v }
  c.flagIf (decide (v ≠ b)) stForceSat

/-- `base` of R76 in sub-step `j`. -/
def Channel.dacBase (c : Channel) (j : Nat) : Int :=
  let a := codeVal c.force.prevSetpt
  let b := codeVal c.force.setpt
  if c.reg Obj.INTERP = 1 then a + divTrunc ((b - a) * (j + 1)) 8 else b

/-- The sine that moves a channel's DAC: its own, and on a follower in FI its leader's (R107). -/
def Dev.sineOf (d : Dev) (n : ChanId) : Sine := if (d.ch n).force.fi then (d.cfg n).sine else (d.ch n).sine

/-- The force DAC value in sub-step `j` of the present tick (R76). -/
def Dev.dac (d : Dev) (n : ChanId) (j : Nat) : Code20 :=
  let c := d.ch n
  let l := c.limits n
  codeOf (clampInt l.1 l.2 (c.dacBase j + (d.sineOf n).term d.tick j))

/-- The sum of setpoint and sine saturates in some sub-step of a tick (R77). -/
def Dev.sineSaturates (d : Dev) (n : ChanId) (now : Tick) : Bool :=
  let c := d.ch n
  let y := d.sineOf n
  y.on &&
  (List.range 8).any fun j =>
    let l := c.limits n
    let o := c.dacBase j + y.term now j
    decide (o < l.1) || decide (l.2 < o)

/-! ## Clamps (R80–R85, R95, R113, R147) -/

/-- Current clamps of a channel are scaled: its stall is at derating level 2 or 3, and it is not PARKED (R113). -/
def Dev.scales (d : Dev) (n : ChanId) : Bool := decide (2 ≤ (d.st (stallOf n)).derate) && (d.ch n).force.st != .parked

/-- The clamp codes asked for act (R81, R113). -/
def Dev.setClamps (d : Dev) (n : ChanId) (hi lo : Nat) : Dev :=
  let scale := d.scales n
  d.modCh n fun c => c.modForce fun f =>
    { f with baseHi := hi, baseLo := lo, clampHi := clampAct (isHS n) f.fi f.vrange scale hi,
             clampLo := clampAct (isHS n) f.fi f.vrange scale lo }

/-- The values in LSB at which the clamps of the other quantity act in a mode change: its span outside one (R147). -/
def Dev.besideActs (d : Dev) (n : ChanId) : Int × Int :=
  let f := (d.ch n).force
  let b := (d.ch n).rc.beside.getD (0xFFF, 0)
  (clampAct (isHS n) (!f.fi) f.vrange (d.scales n) b.1, clampAct (isHS n) (!f.fi) f.vrange (d.scales n) b.2)

/-- The clamp codes act again after a change of derating (R113). -/
def Dev.reclamp (d : Dev) (n : ChanId) : Dev := d.setClamps n (d.ch n).force.baseHi (d.ch n).force.baseLo

/-- The entry word that a channel applies (R106). -/
def Dev.entryWord (d : Dev) (n : ChanId) : Nat := (d.cfg n).reg (Obj.RPAIR (d.ch n).force.rpair)

/-- Clamp codes of a SAFE channel under HOLD: the tighter of two pairs (R95). -/
def Dev.safeClamps (d : Dev) (n : ChanId) (hi lo : Nat) : Nat × Nat :=
  let g := d.cfg n
  (min hi (g.reg Obj.SAFE_CLAMP_HI), max lo (g.reg Obj.SAFE_CLAMP_LO))

/-! ## Guard and rails (R87, R99, R101, R113) -/

/-- GRD<n> is driven to the potential of SNSH<n> (R99). -/
def Channel.guardDriven (c : Channel) : Bool := c.reg Obj.GUARD_EN == 1 && c.force.active.disc

/-- The headroom of both rail legs of a channel in 10 mV (R87, R101, Table 3-6): HEADROOM from the arm on while ARMING, ARMED
or SAFE, except on a derated stall (R113). -/
def Dev.headroom (d : Dev) (n : ChanId) : Nat :=
  match (d.ch n).force.st with
  | .arming | .armed | .safe => if 1 ≤ (d.st (stallOf n)).derate then 60 else d.creg n Obj.HEADROOM
  | .parked | .parking => 60

/-- A rail follows the output of one of its channels. -/
def Channel.railLive (c : Channel) : Bool :=
  match c.force.st with
  | .arming | .armed | .safe => true
  | .parked | .parking => false

/-- RAIL_STATE of a rail (Table 3-13): a failure stays, then out of band, tracking, minimum headroom. -/
def Dev.railState (d : Dev) (s : StallId) (r : Idx4) : Nat :=
  if d.sreg s (Obj.RAIL_STATE r.val) = 3 then 3
  else if bit (d.st s).railOut r.val then 2
  else b2n ((d.ch ⟨8 * s.val + 2 * r.val, by omega⟩).railLive || (d.ch ⟨8 * s.val + 2 * r.val + 1, by omega⟩).railLive)

/-! ## Gusts (R138–R144) -/

/-- The profile stored at a number. -/
def Gust.profile (g : Gust) (p : Nat) : GustProfile := g.profiles.toList.getD p GustProfile.reset

/-- Arm a profile (R140). -/
def Channel.gustArm (c : Channel) (p : Idx16) : Channel :=
  let w := c.reg (Obj.GUST_TIMING p.val)
  if c.gust.profiles[p].loaded && decide (2 ≤ (gtLead w : Int) + gtAdv w) then
    c.modGust fun g => { g with armed := some p.val }
  else c.inc 32 Obj.GUST_REFUSED

/-- Disarm the armed profile. -/
def Channel.gustDisarm (c : Channel) : Channel := c.modGust fun g => { g with armed := none }

/-- An injection still runs at an instant. -/
def Gust.runsAt (g : Gust) (x : Tick × Nat) : Bool :=
  match g.running with
  | some r => before x r.stop
  | none => false

/-- A span of injection ends at an instant at the latest. -/
def endSpan (x : Tick × Nat) (s : (Tick × Nat) × (Tick × Nat)) : (Tick × Nat) × (Tick × Nat) :=
  if before x s.2 then (s.1, x) else s

/-- An injection stops at an instant (R139, R144), on every member it goes into. -/
def Dev.gustStop (d : Dev) (n : ChanId) (x : Tick × Nat) : Dev :=
  let ms := if d.isFollower n then [n] else d.members n
  let d := ms.foldl (fun d m => d.modCh m fun c => c.modGust fun g => { g with spans := g.spans.map (endSpan x) }) d
  d.modCh n fun c => c.modGust fun g => { g with running := none }

/-- The instant at which a commit acts on the analog side. -/
def Dev.commitAt (d : Dev) : Tick × Nat := (d.tick, 0)

/-- The injected current of a channel at an instant, in LSB of the profile's range, as a numerator and the number of members
that share it (R107, R139). -/
def Dev.injected (d : Dev) (n : ChanId) (x : Tick × Nat) : Int × Nat :=
  let g := (d.cfg n).gust
  match g.running with
  | some r =>
    if before x r.start || !before x r.stop then (0, 1)
    else
      let p := g.profile r.profile
      (p.samples.getD ((cycFrom r.start x).toNat / 10) 0 * 2 ^ p.shift, (d.gangOf n).length)
  | none => (0, 1)

/-- An edge reaches the gust trigger at an instant (R141, R143); a follower's trigger is not used (R144). While
an injection runs whose profile its start has disarmed, and none is armed, a trigger has no effect: R143 says so of a trigger
with no profile armed, and busy overrun of one that finds an injection running (log 93). -/
def Dev.gustEdge (d : Dev) (n : ChanId) (x : Tick × Nat) : Dev :=
  let c := d.ch n
  match c.gust.armed with
  | none => d
  | some p =>
    if d.isFollower n then d
    else if c.gust.sched.isSome || c.gust.runsAt x then d.overrun n 9
    else
      let w := c.reg (Obj.GUST_TIMING p)
      let per : Int := ((x.2 + 9) / 10 : Nat) + gtLead w + gtAdv w
      d.modCh n fun c => c.modGust fun g =>
        { g with sched := some (p, x.1 + BitVec.ofInt 48 (per.fdiv 50), (per.fmod 50).toNat) }

/-- The scheduled instant of an injection has come (R107, R140, R143). -/
def Dev.gustBegin (d : Dev) (n : ChanId) : Dev :=
  let c := d.ch n
  match c.gust.sched with
  | none => d
  | some (p, t, k) =>
    if t != d.tick then d
    else
      let prof := c.gust.profile p
      let keep := gtRearm (c.reg (Obj.GUST_TIMING p)) || c.gust.armed != some p
      let ok := c.isArmed && !c.force.fi && c.force.irange == prof.irange && !c.rc.active
      let x : Tick × Nat := (t, 10 * k)
      let run : GustRun := { profile := p, start := x, stop := addCyc x (10 * prof.len) }
      let d := d.modCh n fun c => c.modGust fun g =>
        { g with sched := none, armed := if keep then g.armed else none, running := if ok then some run else g.running }
      if ok then
        let d := (d.cinc n 32 Obj.GUST_COUNT).setCreg n Obj.GUST_LAST_TICK d.tick.toNat
        (d.members n).foldl (fun d m => d.modCh m fun c => c.modGust fun g => { g with spans := g.spans ++ [(x, run.stop)] }) d
      else d.cinc n 32 Obj.GUST_SUPPRESSED

/-- The profile has played (R139). -/
def Dev.gustEnd (d : Dev) (n : ChanId) : Dev :=
  match (d.ch n).gust.running with
  | some r => if reached d.tick r.stop.1 then d.gustStop n r.stop else d
  | none => d

end Sys2Proof.Machine
end

