-- ==== Sys2Proof/Machine/FabricOps.lean ====
section
/-! DEFINITION. The event fabric (R307–R322): firing a producer, tethers, repeats and loops, multiplexers, consumers,
merges and overruns. -/

namespace Sys2Proof.Machine

open Sys2Proof

/-- Register of slot `j` of tether `t` (R323). -/
def tethSlot (t j : Nat) : Nat := (0x2210 + t / 8) * 256 + 1 + 8 * (t % 8) + j

/-- Tether of a producer-slot register, if it is one. -/
def slotTether (k : Nat) : Option Nat :=
  let idx := k / 256
  let sub := k % 256
  if 0x2210 ≤ idx && idx ≤ 0x221F && 1 ≤ sub && sub ≤ 64 then some (8 * (idx - 0x2210) + (sub - 1) / 8) else none

/-- Tethers that select a producer; an empty slot is not listed (R307). -/
def Dev.tethersOf (d : Dev) (code : Nat) : List Nat :=
  (d.regs.filterMap fun e => if e.2 == code then slotTether e.1 else none).eraseDups

/-- A tether selects some code of a list. -/
def Dev.selectsAny (d : Dev) (t : Nat) (codes : List Nat) : Bool :=
  d.regs.any fun e => slotTether e.1 == some t && codes.contains e.2

/-- Union of origin sets, in order (R314). -/
def originUnion (a b : List Nat) : List Nat := a ++ b.filter fun x => !a.contains x

/-- Add an edge for a commit-acting consumer (R315): merge, overrun or a new activation. -/
def Dev.collect (d : Dev) (n : ChanId) (c : Nat) (busy : Bool) (ev : Ev) : Dev :=
  let act := actFor ev.at'
  let es := (d.ch n).edges
  if es.any fun e => e.con == c && e.tick == ev.at'.1 && e.cyc == ev.at'.2 then
    (d.modCh n fun ch => { ch with edges := ch.edges.map fun e =>
        if e.con == c && e.tick == ev.at'.1 && e.cyc == ev.at'.2 then { e with origin := originUnion e.origin ev.origin }
        else e }).cinc n 32 (Obj.MERGE_CNT c)
  else if busy || es.any (fun e => e.con == c && e.act == act) then d.overrun n c
  else d.modCh n fun ch => { ch with edges := ch.edges ++
    [{ con := c, act := act, tick := ev.at'.1, cyc := ev.at'.2, origin := ev.origin }] }

/-- An activation of an on-arrival consumer merges with one of the same engine cycle (R314). The key names the
consumer. -/
def Dev.merges (d : Dev) (key : Nat) (x : Tick × Nat) : Bool := d.fab.arrivals.any fun a => a.1 == key && a.2 == x

/-- Note an arrival at an on-arrival consumer. -/
def Dev.arrive (d : Dev) (key : Nat) (x : Tick × Nat) : Dev :=
  { d with fab := { d.fab with arrivals := (key, x) :: d.fab.arrivals } }

/-- The sine phase reset consumer (R273): P is loaded at the first sub-step boundary later than the arrival. -/
def Dev.sineReset (d : Dev) (n : ChanId) (x : Tick × Nat) : Dev :=
  let c := d.ch n
  let b := nextSubStep x
  if !c.sine.on then d
  else if c.sine.resetAt == some b then d.overrun n 10
  else
    let d := d.modCh n fun c => { c with sine := { c.sine with resetAt := some b } }
    if b.1 == d.tick then (d.modCh n fun c => c.sineLoad b.1 b.2).cinc n 32 Obj.SINE_RESETS else d

/-- A hold request (R316): busy while a run is pending or running. -/
def Dev.holdEdge (d : Dev) (n : ChanId) (ev : Ev) : Dev :=
  let busy := (d.ch n).hold.isSome
  let d' := d.collect n 11 busy ev
  if busy || (d.ch n).edges.any (fun e => e.con == 11) then d'
  else d'.modCh n fun c => { c with hold := some (actFor ev.at', actFor ev.at') }

/-- An event reaches consumer `c` of a channel (Table 11-3). -/
def Dev.consume (d : Dev) (n : ChanId) (c : Nat) (ev : Ev) : Dev :=
  let n := if c ≤ 11 then d.leaderOf n else n
  if 4 ≤ c && c ≤ 7 then d.collect n c (bit (d.ch n).bk.latch (c - 4)) ev
  else if c = 8 then d.collect n c false ev
  else if c = 11 then d.holdEdge n ev
  else if 12 ≤ c then d.collect n c false ev
  else
    let key := 64 * n.val + c
    if d.merges key ev.at' then
      let d := d.cinc n 32 (Obj.MERGE_CNT c)
      if c < 4 then d.widenTrigger n (c % 2 == 1) (decide (2 ≤ c)) ev else d
    else
      let d := d.arrive key ev.at'
      match c with
      | 0 => d.regularTrigger n false ev
      | 1 => d.regularTrigger n true ev
      | 2 => d.injectedTrigger n false ev
      | 3 => d.injectedTrigger n true ev
      | 9 => d.gustEdge n ev.at'
      | _ => d.sineReset n ev.at'

/-! ## Output pins and stall triggers -/

def evioStd (w : Nat) : Bool := natBit w 31
def evioDir (w : Nat) : Nat := natBits w 30 29
def evioEdge (w : Nat) : Nat := natBits w 28 27

/-- The output pulse of a pin is active at an instant, from the arrival of its event on (R315, R322, log 101). -/
def Fabric.pulsing (f : Fabric) (pin : Nat) (x : Tick × Nat) : Bool := f.outs.any fun p => p.pin == pin && before x p.stop

/-- The pulse that an event at an output pin drives for so many cycles: it starts 6 ns after the arrival (R312, R322). -/
def outPulse (pin width : Nat) (ev : Ev) : OutPulse :=
  { pin := pin, start := addCyc ev.at' 3, stop := addCyc ev.at' (3 + width), origin := ev.origin }

/-- An activation of an output pin: an overrun while its pulse is active, else a pulse. -/
def Dev.drive (d : Dev) (ovr : Nat) (p : OutPulse) (ev : Ev) : Dev :=
  if d.fab.pulsing p.pin ev.at' then d.inc 32 ovr else { d with fab := { d.fab with outs := p :: d.fab.outs } }

/-- A further event merges into the activation of an output pin: the union of the origin sets, and the width of the widest
event (R314). -/
def Dev.mergeDrive (d : Dev) (p : OutPulse) : Dev :=
  { d with fab := { d.fab with outs := d.fab.outs.map fun q =>
      if q.pin == p.pin && q.start == p.start then
        { q with origin := originUnion q.origin p.origin, stop := if before q.stop p.stop then p.stop else q.stop }
      else q } }

/-- Width of a pulse of an EVIO output, in cycles: PW, or the event's width, stretched (Table 11-5). -/
def evioWidth (w : Nat) (ev : Ev) : Nat :=
  match natBits w 11 0 with
  | 0 => max ev.width (if evioStd w then 4 else 10)
  | pw => pw

/-- An event reaches EVIO output `k` (R322). -/
def Dev.evioOut (d : Dev) (k : Nat) (ev : Ev) : Dev :=
  let w := d.reg (Obj.EVIO_CFG k)
  let p := outPulse k (evioWidth w ev) ev
  if evioDir w < 2 then d
  else if d.merges (4096 + k) ev.at' then (d.inc 32 (Obj.EVIO_MERGE k)).mergeDrive p
  else (d.arrive (4096 + k) ev.at').drive (Obj.EVIO_OVR k) p ev

/-- An event reaches MKO pin `k` in fabric service and mode NORMAL (R276, R322). -/
def Dev.mkoOut (d : Dev) (k : StallId) (ev : Ev) : Dev :=
  if natBit (d.reg (Obj.MKO_SRC k.val)) 15 || d.fab.mkoMode[k] != 0 then d
  else if d.merges (4112 + k.val) ev.at' then d.inc 32 (Obj.MKO_MERGE k.val)
  else (d.arrive (4112 + k.val) ev.at').drive (Obj.MKO_OVR k.val)
    (outPulse (16 + k.val) (natBits (d.reg (Obj.MKO_CFG k.val)) 11 0) ev) ev

/-- The AUX injected trigger of a stall fires at an instant (R180): its slots take the next windows, or it is an overrun while
slots remain unconverted. -/
def Dev.auxFire (d : Dev) (s : StallId) (x : Tick × Nat) : Dev :=
  if (d.st s).auxInj.isSome then d.sinc s 32 Obj.AUX_INJ_OVR
  else
    let y := gridUp (addCyc x (5 * qualDelay (d.sreg s Obj.AUX_INJ_QUAL)))
    d.modSt s fun x => { x with auxInj := some (0, y.1, y.2) }

/-- The pulses of the AUX injected trigger that end before an instant fire or are rejected (R168, R180). -/
def Dev.auxPulsesTo (d : Dev) (s : StallId) (x : Tick × Nat) : Dev :=
  let ps := (d.st s).auxPulses
  let due := ps.filter fun p => before p.edge x
  if due.isEmpty then d
  else
    let d := d.modSt s fun y => { y with auxPulses := ps.filter fun p => !before p.edge x }
    due.foldl (fun d p => if p.ok then d.auxFire s p.edge else d) d

/-- An event reaches the AUX injected trigger of a stall (R180). -/
def Dev.auxTrigger (d : Dev) (s : StallId) (ev : Ev) : Dev :=
  if !natBit (d.sreg s Obj.AUX_INJ_CTRL) 7 then d
  else if d.merges (4120 + s.val) ev.at' then
    let wider := fun (p : Pulse) => p.widen (d.sreg s Obj.AUX_INJ_QUAL) (d.sreg s Obj.AUX_INJ_WIDTH) ev
    (d.inc 32 (Obj.AUX_INJ_MERGE s.val)).modSt s fun x => { x with auxPulses := x.auxPulses.map wider }
  else
    let d := (d.arrive (4120 + s.val) ev.at').auxPulsesTo s (addCyc ev.at' 1)
    match qualify (d.sreg s Obj.AUX_INJ_QUAL) (d.sreg s Obj.AUX_INJ_WIDTH) ev with
    | .nothing => d
    | .fire => d.auxFire s ev.at'
    | .measure edge ok =>
      if (d.st s).auxPulses.isEmpty then d.modSt s fun x => { x with auxPulses := [⟨true, ev.at', edge, ok⟩] }
      else d.sinc s 32 Obj.AUX_INJ_OVR

/-! ## Firing -/

/-- Consumers of a channel whose own multiplexer selects a tether; a follower's C:01 to C:0C are not used (R317). -/
def Dev.selectors (d : Dev) (n : ChanId) (t : Nat) : List Nat :=
  (d.ch n).regs.filterMap fun e =>
    if 0x4001 ≤ e.1 && e.1 ≤ 0x402C && e.2 == t then
      (if d.isFollower n && e.1 ≤ 0x400C then none else some (e.1 - 0x4001))
    else none

/-- A tether delivers an event to every consumer that selects it (R311). -/
def Dev.deliver (d : Dev) (t : Nat) (ev : Ev) : Dev :=
  let d := d.eachCh fun d n => (d.selectors n t).foldl (fun d c => d.consume n c ev) d
  d.regs.foldl (fun d e =>
    if e.2 != t then d
    else if 0x223101 ≤ e.1 && e.1 ≤ 0x223110 then d.evioOut (e.1 - 0x223101) ev
    else if h : 0x223201 ≤ e.1 ∧ e.1 ≤ 0x223208 then d.auxTrigger ⟨e.1 - 0x223201, by omega⟩ ev
    else if h : 0x224101 ≤ e.1 ∧ e.1 ≤ 0x224108 then d.mkoOut ⟨e.1 - 0x224101, by omega⟩ ev
    else d) d

/-- A tether carries an event: repeats are counted and latched, and with BREAK dropped (R319). `inherited` are the
inherited codes of the origin set. -/
def Dev.carry (d : Dev) (t : Nat) (inherited : List Nat) (ev : Ev) : Dev :=
  let rep := d.selectsAny t inherited
  let d := if rep then
      { d.inc 32 (Obj.TETH_LOOPS t) with fab := { d.fab with loops := t :: d.fab.loops } }
    else d
  if rep && natBit (d.reg (Obj.TETH_CFG t)) 0 then d
  else (d.inc 32 (Obj.TETH_FIRES t)).deliver t ev

/-- A producer fires in an engine cycle of this tick (R307, R309, R310, R312, R318). `inherited` is the origin set of the
activation that caused the firing, empty for a fresh one. -/
def Dev.fire (d : Dev) (code : Nat) (inherited : List Nat) (high : Bool) (width cyc : Nat) : Dev :=
  if (if cyc < 500 then d.fab.fired else d.fab.firedNext).contains code then d.inc 32 Obj.SUPPRESSED
  else
    let d := { d with fab := if cyc < 500 then { d.fab with fired := code :: d.fab.fired }
                             else { d.fab with firedNext := code :: d.fab.firedNext } }
    let own := inherited.filter (· == code)
    let others := inherited.filter (· != code)
    let full := others.length > 15
    let inh := if full then others.drop (others.length - 15) else others
    let d := if full then d.inc 32 Obj.TAG_OVF else d
    let ev : Ev := { high := high, width := width, at' := d.later cyc 2, origin := inh ++ [code] }
    (d.tethersOf code).foldl (fun d t => d.carry t (inh ++ own) ev) d

/-- A commit-timed producer fires at t+0.016 µs (R308). -/
def Dev.fireCommit (d : Dev) (code : Nat) (inherited : List Nat := []) : Dev :=
  (d.trace (chanOf (code / 16)) (.event code)).fire code inherited true 2 8

/-- Code of channel producer `k` (Table 11-1). -/
def chProd (n : ChanId) (k : Nat) : Nat := 0x10 * n.val + k

/-! ## MKO pins (R275, R276) -/

/-- Channel, mode and level that MKO_SRC asks of a pin. -/
def Dev.mkoChan (d : Dev) (k : StallId) : ChanId := ⟨natBits (d.reg (Obj.MKO_SRC k.val)) 13 8 % 64, by omega⟩

/-- Mode of a pin by the first row of Table 9-4 that holds: 2 SELFTEST, 3 RECOVERY, 1 STARTUP, 0 NORMAL. -/
def Dev.mkoModeNow (d : Dev) (k : StallId) : Nat :=
  if d.stalls.toList.any (·.underTest) then 2
  else if (d.ch (d.mkoChan k)).isSafe || d.power.fltN then 3
  else if !d.fab.mkoGo then 1 else 0

/-- A producer fires at the present commit, or waits for the commit's end to do so (R233, R234). -/
def Dev.firesNow (d : Dev) (code : Nat) : Bool := d.fab.fired.contains code || d.fab.steps.any (·.1 == code)

/-- Level of a pin from the start of the present tick: segment-start triggers while its mode is not NORMAL, else its marker
service. Fabric service shows in the pulses `outs`. -/
def Dev.mkoHigh (d : Dev) (k : StallId) : Bool :=
  let w := d.reg (Obj.MKO_SRC k.val)
  let n := d.mkoChan k
  let b := natBits w 1 0
  if d.mkoModeNow k != 0 then d.firesNow (chProd n 12)
  else if !natBit w 15 then false
  else if natBit w 14 then d.firesNow (chProd n (8 + b))
  else bit (d.ch n).force.marks b && !bit (d.cfg n).bk.status 7

/-- Modes and levels of the MKO pins at a commit (R276); a change of mode ends a fabric pulse. -/
def Dev.mkoLands (d : Dev) : Dev :=
  { d with fab := { d.fab with
      mkoMode := Vector.ofFn d.mkoModeNow,
      outs := d.fab.outs.filter fun p => !(List.finRange 8).any fun k => p.pin == 16 + k.val && d.mkoModeNow k != d.fab.mkoMode[k],
      mkoLevel := (List.finRange 8).foldl (fun m k => putBit m k.val (d.mkoHigh k)) d.fab.mkoLevel } }

/-- An event that arrives at a consumer from outside any modelled producer. -/
def Dev.arrival (d : Dev) (cyc : Nat) (high : Bool := true) (width : Nat := 2) : Ev :=
  { high := high, width := width, at' := (d.tick, cyc), origin := [] }

end Sys2Proof.Machine
end

