-- ==== Sys2Proof/Machine/RangeChange.lean ====
section
/-! DEFINITION. Range changes (R145–R152), compensation (R122–R125, R135), the final stage of a park (R87, R93) and the outer
loop (R126–R129). -/

namespace Sys2Proof.Machine

open Sys2Proof

/-- Load watch clears its accumulators; at some events its history too (R136). -/
def Channel.lwRestart (c : Channel) (history : Bool) : Channel :=
  { c with lw := { c.lw with probes := 0, sums := [], ticks := [], targets := if history then [] else c.lw.targets },
           eng := { c.eng with lags := [], savedLags := [] } }

/-! ## Range changes (R145–R152) -/

/-- The latest sample that R127 would take in a mode, within 16 ticks, in LSB of the quantity's range (R146). -/
def Channel.lastSample (c : Channel) (fi : Bool) (vr ir : Nat) (now : Tick) : Option Int :=
  match (if fi then c.ol.lastI else c.ol.lastV) with
  | none => none
  | some (t, v) => if ticksFrom t now ≤ 16 then some (divRound v (if fi then lsbI ir else lsbV vr)) else none

/-- The sine and the outer loop follow a change of ranges or mode at commit c (R146, R274). -/
def Channel.rescale (c : Channel) (now : Tick) (vr ir : Nat) (fi : Bool) (target : Int) : Channel :=
  let f := c.force
  if f.fi != fi then
    let r := (c.lastSample fi vr ir now).getD target
    { c with ol := { c.ol with corr := 0, ramp := r } }.sineOff
  else
    let old := if fi then lsbI f.irange else lsbV f.vrange
    let new := if fi then lsbI ir else lsbV vr
    let c := { c with ol := { c.ol with corr := divRound (c.ol.corr * old) new, ramp := divRound (c.ol.ramp * old) new } }
    let c := if old ≠ new then c.sineRescale old new else c
    if !fi && f.vrange != vr && c.sine.on then c.sineLoad now 0 else c

/-- The clamps of an entry carried to other ranges, rounded toward zero (R147). -/
def ClampSet.inRange (c : ClampSet) (vr ir : Nat) : Nat × Nat :=
  let old := if c.fi then lsbV c.vrange else lsbI c.irange
  let new := if c.fi then lsbV vr else lsbI ir
  (clampTo old new c.hi, clampTo old new c.lo)

/-- The tightest clamps of one quantity among entries, in its range (R147, R150). -/
def tightest (l : List ClampSet) (fi : Bool) (vr ir : Nat) : Option (Nat × Nat) :=
  (l.filter (·.fi == fi)).foldl (fun a c =>
    let x := c.inRange vr ir
    match a with
    | none => some x
    | some y => some (min x.1 y.1, max x.2 y.2)) none

/-- Clamp codes of an entry as the state of the channel admits them: none where they do not act now (R91, R93, R95). -/
def Dev.stateClamps (d : Dev) (n : ChanId) (hi lo : Nat) : Option (Nat × Nat) :=
  match (d.ch n).force.st with
  | .armed => some (hi, lo)
  | .safe => some (if (d.ch n).force.pol == .hold then d.safeClamps n hi lo else (hi, lo))
  | .arming => if ticksFrom (d.ch n).force.armTick d.tick ≥ 24 then some (hi, lo) else none
  | .parked | .parking => none

/-- Clamp codes act as the state of the channel admits. -/
def Dev.clampsFor (d : Dev) (n : ChanId) (hi lo : Nat) : Dev :=
  match d.stateClamps n hi lo with
  | some p => d.setClamps n p.1 p.2
  | none => d

/-- The clamps of the applied entry act (R146, R95): a SAFE channel under HOLD keeps the tighter SAFE clamps, a PARKING
channel keeps what it has (R93). -/
def Dev.entryClamps (d : Dev) (n : ChanId) : Dev :=
  let w := d.entryWord n
  d.clampsFor n (rpHi w) (rpLo w)

/-- The window of a channel ends at the present commit: at commit c+3, or under F5 (R146, R152). -/
def Dev.endWindow (d : Dev) (n : ChanId) : Dev :=
  (d.modCh n fun c => { c with rc := { c.rc with active := false, made := false, quantV := false, quantI := false,
                                                 modeChg := false, involved := [], beside := none } }).setCreg n
    Obj.RC_LAST_TICK d.tick.toNat

/-- The window closes at commit c+3: clamps to the entry's, monitors restart, the done event fires (R146, R223). -/
def Dev.closeWindow (d : Dev) (n : ChanId) : Dev :=
  (((d.endWindow n).entryClamps n).wmResume n).fireCommit (chProd n 15)

/-- A setpoint committed before a host write changed its range at this commit is in the new coding (R146). -/
def Channel.recodeSetpoint (c : Channel) (n : ChanId) (old new : Nat) (mode : Bool) : Channel :=
  let l := c.limits n
  let conv := fun (x : Code20) => codeOf (clampInt l.1 l.2 (if mode then c.ol.ramp else divRound (codeVal x * old) new))
  c.modForce fun f => { f with setpt := conv f.setpt, rampFrom := conv f.rampFrom }

/-- A range-change window opens at the present commit (R145, R146, R147, R150), for a step that applies or for a write of the
host. A window whose last commit this is closes first; one that is still open closes without its done event. -/
def Dev.openWindow (d : Dev) (n : ChanId) (w : Nat) (fi : Bool) (target : Int) (host : Bool) : Dev :=
  let d := if (d.ch n).rc.active && reached d.tick (d.ch n).rc.closes then d.closeWindow n else d
  let vr := rpVRange w
  let ir := rpIRange w
  let f := (d.ch n).force
  let rc := (d.ch n).rc
  let qv := f.vrange != vr
  let qi := f.irange != ir
  let mc := f.fi != fi
  let sets := (if rc.active then rc.involved else [⟨f.fi, f.vrange, f.irange, f.baseHi, f.baseLo⟩]) ++
    [⟨fi, vr, ir, rpHi w, rpLo w⟩]
  let main := (tightest sets fi vr ir).getD (rpHi w, rpLo w)
  let lsbOf := fun (v i : Nat) => if fi then lsbI i else lsbV v
  let d := d.modCh n fun c =>
    let c := (c.rescale d.tick vr ir fi target).lwRestart mc
    let c := c.modForce fun f => { f with vrange := vr, irange := ir, fi := fi }
    let c := if host then c.recodeSetpoint n (lsbOf f.vrange f.irange) (lsbOf vr ir) mc else c
    let c := c.modBk fun b => { b with spanRc := true }
    { c with rc := { active := true, clamped := false, opened := d.tick, closes := d.tick + 3, made := true,
                     quantV := (rc.active && rc.quantV) || qv, quantI := (rc.active && rc.quantI) || qi,
                     modeChg := (rc.active && rc.modeChg) || mc, involved := sets, beside := tightest sets (!fi) vr ir } }
  let d := (d.gustStop n d.commitAt).restartSeq n
  let d := (if rc.active then d.setCreg n Obj.RC_LAST_TICK d.tick.toNat else d).cinc n 32 Obj.RC_COUNT
  let d := (List.finRange 4).foldl (fun d m =>
    if (if wmIsI m then qi else qv) then (d.wmUnqueue n m).modCh n (·.wmSuspend m) else d) d
  d.clampsFor n main.1 main.2

/-- Apply a range-pair entry to a channel at the present commit (R80, R145): a window where ranges or mode change, else
its clamps. -/
def Dev.enterEntry (d : Dev) (n : ChanId) (e : Nat) (fi : Bool) (target : Int) (host : Bool) : Dev :=
  let w := (d.cfg n).reg (Obj.RPAIR e)
  let f := (d.ch n).force
  let rc := (d.ch n).rc
  let d := d.modCh n fun c => c.modForce fun f => { f with rpair := e }
  if f.vrange != rpVRange w || f.irange != rpIRange w || f.fi != fi then d.openWindow n w fi target host
  else if rc.active && !reached d.tick rc.closes then
    let sets := rc.involved ++ [⟨fi, f.vrange, f.irange, rpHi w, rpLo w⟩]
    let main := (tightest sets fi f.vrange f.irange).getD (rpHi w, rpLo w)
    (d.modCh n fun c => { c with rc := { c.rc with involved := sets } }).clampsFor n main.1 main.2
  else d.clampsFor n (rpHi w) (rpLo w)

/-! ## Compensation (R122–R125, R135) -/

/-- The applied setting changes (R124); a channel in TAIL_LOCK stays at 31 (R123). -/
def Channel.compSet (c : Channel) (now : Tick) (s : Nat) : Channel :=
  if c.comp.st == .tailLock then c
  else { c with comp := { c.comp with now := s, lastMove := now, st := .normal } }.setReg Obj.LAST_MOVE_TICK now.toNat

/-- The arm commit applies COMP_INIT (R123, R124). -/
def Channel.compArm (c : Channel) (now : Tick) (init : Nat) (fixed : Bool) : Channel :=
  { c with comp := { now := init, st := .normal, drops := [], lastMove := now, hostReq := fixed, dropWas := none,
                     stepAt := none } }.setReg
    Obj.LAST_MOVE_TICK now.toNat

/-- The setting that a leader's new step brings (R125, R135), if it changes. -/
def Dev.compNext (d : Dev) (n : ChanId) : Option Nat :=
  let c := d.ch n
  let mode := c.reg Obj.COMP_MODE
  if c.comp.st == .tailLock then none
  else if c.comp.hostReq && mode == 1 then
    (if c.reg Obj.COMP_FIXED ≠ c.comp.now then some (c.reg Obj.COMP_FIXED) else none)
  else if mode ≠ 0 then none
  else
    match c.lw.targets with
    | t :: t' :: _ =>
      if t == t' && t != c.comp.now && planProbes c c.force.plan && !c.rc.active && !c.force.latHi && !c.force.latLo &&
         decide (64 ≤ ticksFrom c.comp.lastMove d.tick) && !c.force.fi then
        some (if t < c.comp.now then c.comp.now - 1 else c.comp.now + 1)
      else none
    | _ => none

/-- A new step applies on a leader: the compensation of every member may move (R125, R135, R137). -/
def Dev.compStep (d : Dev) (n : ChanId) : Dev :=
  let d := match d.compNext n with
    | none => d
    | some s => (d.members n).foldl (fun d m => d.modCh m (·.compSet d.tick s)) d
  d.modCh n fun c => { c with comp := { c.comp with hostReq := false, stepAt := some d.tick } }

/-! ## Ramps of PARKING and SAFE (R93, R95) -/

/-- The setpoint of a ramp that began at `phaseTick` (R93, R95). -/
def Force.rampValue (f : Force) (now : Tick) : Int :=
  let i := ticksFrom f.phaseTick now
  if f.rampLen ≤ i then 0 else divRound (codeVal f.rampFrom * ((f.rampLen : Int) - i)) f.rampLen

/-- The final stage of a park, of a SAFE policy or of an aborted arm: the channel is PARKED (R87, R93, R493). R87 gives its
ranges, of entry 0, and not its mode: it takes the mode of that entry (log 92). -/
def Dev.becomeParked (d : Dev) (n : ChanId) : Dev :=
  let w := (d.ch n).reg (Obj.RPAIR 0)
  let d := (d.gustStop n d.commitAt).modCh n fun c =>
    let c := c.modForce fun f =>
      { f with st := .parked, fi := rpMode w, setpt := zeroCode, prevSetpt := zeroCode, target := zeroCode,
               prevTarget := zeroCode, rpair := 0, vrange := rpVRange w, irange := rpIRange w, disc := false,
               engHi := false, engLo := false, seenHi := false, seenLo := false, tripped := false, armMask := 0,
               phase := .idle, rampFrom := zeroCode, rampLen := 0, withheld := false, confirmed := false, plan := 0,
               gates := 0, marks := 0 }
    let c := c.sineOff
    let c := { c with comp := { c.comp with now := 0, hostReq := false, dropWas := none } }
    let c := (c.modConv false Conv.idle).modConv true Conv.idle
    let c := c.modEng fun e => { e with setNow := 0 }
    { c with ol := { c.ol with ramp := 0, corr := 0, drop := 0 }, ow := { c.ow with phase := .idle },
             cal := { c.cal with engSince := none } }
  let d := ((List.finRange 4).foldl (fun d m => (d.wmUnqueue n m).modCh n (·.wmOff m)) d).modCh n (·.wmRecodeAll)
  let d := if (d.ch n).rc.active then d.endWindow n else d
  d.setClamps n 0x802 0x7FE

/-! ## The default outer loop on E0 (R126–R129) -/

/-- Entries of a converter that R127 accepts, newest last: published, of a regular or injected conversion of SENSE or
RSENSE, without UNSETTLED and OVER. -/
def olEntries (v : Conv) : List (Entry × Int) :=
  v.entries.filterMap fun e =>
    match e.pub with
    | some (x, tags) => if e.valid && decide (e.src ≤ 1) && e.input == 0 && !bit tags 3 && !bit tags 2 then some (e, x) else none
    | none => none

/-- One tick of R126 on a channel: new ramp, corr, drop, and b without the gang trim. `target` is tgt, `chip` the chip and
`sref` the sine's own part of v_meas (R274, Table 10-11); with `frozen` E0 keeps corr (R146). -/
def Channel.outerLoop (c : Channel) (target chip sref : Int) (frozen follower : Bool) : OuterLoop × Int :=
  let f := c.force
  let o := c.ol
  let slew : Int := c.reg Obj.SLEW
  let ramp := if slew = 0 then target else o.ramp + clampInt (-slew) slew (target - o.ramp)
  let lsb := if f.fi then lsbI f.irange else lsbV f.vrange
  let vm := (olEntries (if f.fi then c.mi else c.mv)).getLast?
  let im := (olEntries c.mi).getLast?
  let drop := if f.fi || follower then 0 else
    match im with
    | none => o.drop
    | some (e, i) => clampInt (-524288) 524288 (divRound (i * lsbI e.range * c.reg Obj.ZOUT) (1048576 * lsbV f.vrange * 1000))
  let veff := ramp - drop
  let corr := match vm with
    | some (e, v) =>
      if e.spoilt || frozen then o.corr
      else
        let meas := divRound (v * (if f.fi then lsbI e.range else lsbV e.range)) lsb - sref
        clampInt (-(c.reg Obj.CORR_LIM : Int)) (c.reg Obj.CORR_LIM) (o.corr + divRound (veff - meas) (2 ^ c.reg Obj.OL_SHIFT))
    | none => o.corr
  ({ o with ramp := ramp, corr := corr, drop := drop }, veff + corr + chip)

end Sys2Proof.Machine
end

