-- ==== Sys2Proof/Machine/TallyOps.lean ====
section
/-! DEFINITION. Tally units (R188–R202): configuration words, filters, accumulation, the three stages of a commit, and the
64 bytes of a record. -/

namespace Sys2Proof.Machine

open Sys2Proof

/-! Fields of the configuration, filter and threshold words (Tables 6-1, 6-2). -/
def tcOpen (w : Nat) : Nat := natBits w 31 28
def tcClose (w : Nat) : Nat := natBits w 27 24
def tcReopen (w : Nat) : Bool := natBit w 23
def tcInclUnsettled (w : Nat) : Bool := natBit w 22
def tcGate (w : Nat) : Nat := natBits w 20 18
def tcSource (w : Nat) : Nat := natBits w 15 12
def tcMask (w : Nat) : Nat := natBits w 11 4
def tfKind (w : Nat) : Nat := natBits w 15 14
def tfLen (w : Nat) : Nat := natBits w 7 0 + 1
def thSel (w : Nat) : Nat := natBits w 31 28
def thT (w : Nat) : Int := signedOf 20 w

/-- A configuration word with its N is accepted (R199). -/
def tallyCfgOk (w n : Nat) : Bool :=
  decide (tcOpen w ≤ 4) && decide (tcClose w ≤ 3) && !natBit w 21 && decide (tcGate w ≤ 5) && natBits w 17 16 == 0 &&
  decide (tcSource w ≤ 5) && natBits w 3 0 == 0 && !(tcClose w == 2 && n == 0) &&
  !(tcMask w == 0 && (tcSource w ≤ 1 || 4 ≤ tcSource w))

/-- A filter word is accepted (R193, R199). -/
def tallyFiltOk (w : Nat) : Bool :=
  tfKind w != 3 && natBits w 13 8 == 0 && (tfKind w != 2 || (decide (4 ≤ tfLen w) && tfLen w % 2 == 0))

/-- A threshold word is accepted (Table 6-2). -/
def tallyThrOk (w : Nat) : Bool := decide (thSel w ≤ 5) && natBits w 27 20 == 0

/-- The source takes current samples. -/
def sourceMi (src : Nat) : Bool := src % 2 == 1

/-- A sample of a source and position matches a unit's SOURCE and SLOT_MASK (R188). -/
def sourceTakes (cfg : Nat) (mi : Bool) (src pos : Nat) : Bool :=
  let s := tcSource cfg
  sourceMi s == mi && ((src == 0 && (s ≤ 1 || 4 ≤ s) && natBit (tcMask cfg) pos) || (src == 1 && 2 ≤ s))

/-! ## Flags of a record (Table 6-4) -/
def tfSumSat : Nat := 31
def tfSumsqSat : Nat := 30
def tfCntSat : Nat := 29
def tfLate : Nat := 28
def tfOver : Nat := 23
def tfPull : Nat := 22

/-- The code of a close cause. -/
def CloseCause.code : CloseCause → Nat
  | .configured => 0 | .rangeSplit => 1 | .park => 2 | .safe => 3 | .spanLimit => 4 | .hostAbort => 5 | .reconfig => 6

/-! ## Accumulation (R190, R191, R193) -/

/-- The filtered value of accepted samples, newest first, once `L` of them exist (R193). -/
def filtered (filt : Nat) (hist : List Int) : Option Int :=
  let l := tfLen filt
  let x := hist.take l
  if x.length < l then none
  else
    match tfKind filt with
    | 1 => some (satInt 20 (divRound (x.foldl (· + ·) 0) l))
    | 2 =>
      let m := l / 2
      let s : Int := (x.zipIdx).foldl (fun (a : Int) (p : Int × Nat) => a + ((min (p.2 + 1) (l - p.2) : Nat) : Int) * p.1) 0
      some (satInt 20 (divRound s (m * (m + 1) : Nat)))
    | _ => x.head?

/-- A value enters COUNT, SUM, SUMSQ, MIN, MAX (R190, R191). A SUM at its limit moves back when values of the other sign follow
(log 88). -/
def Tally.accumulate (t : Tally) (v : Int) (stamp : Tick) (tags : BitVec 4) : Tally :=
  let sum := satInt 48 (t.sum + v)
  let sq := min (2 ^ 64 - 1) (t.sumsq + v.natAbs * v.natAbs)
  let f := t.flags
  let f := if sum ≠ t.sum + v then putBit f tfSumSat true else f
  let f := if sq ≠ t.sumsq + v.natAbs * v.natAbs then putBit f tfSumsqSat true else f
  let f := if t.count = 0xFFFFFFFF then putBit f tfCntSat true else f
  let f := if bit tags 2 then putBit f tfOver true else f
  let f := if bit tags 1 then putBit f tfPull true else f
  { t with count := min 0xFFFFFFFF (t.count + 1), sum := sum, sumsq := sq, flags := f, latest := v,
           minV := if t.count = 0 ∨ v < t.minV then v else t.minV, minTick := if t.count = 0 ∨ v < t.minV then stamp else t.minTick,
           maxV := if t.count = 0 ∨ t.maxV < v then v else t.maxV, maxTick := if t.count = 0 ∨ t.maxV < v then stamp else t.maxTick }

/-- Count an UNSETTLED sample or filtered value (R190, R191). -/
def Tally.countUnsettled (t : Tally) : Tally :=
  if t.unsettled = 0xFFFFFF then { t with flags := putBit t.flags tfCntSat true }
  else { t with unsettled := t.unsettled + 1 }

/-- An offered candidate enters a unit with configuration and filter words (R190). -/
def Tally.take (t : Tally) (cfg filt : Nat) (e : Entry) (v : Int) (tags : BitVec 4) : Tally :=
  if e.inHeld then t
  else
    let t := if bit tags 3 then t.countUnsettled else t
    if bit tags 3 && !tcInclUnsettled cfg then t
    else if tfKind filt == 0 || (tfKind filt == 1 && tfLen filt == 1) then t.accumulate v e.stamp tags
    else
      let h := (v :: t.hist).take 256
      let t := { t with hist := h }
      match filtered filt h with
      | none => t.countUnsettled
      | some y => t.accumulate y e.stamp tags

/-- Stamp in [a, b). -/
def stampIn (a b s : Tick) : Bool := reached s a && !reached s b

/-- The offered entries of a channel's window, with their converter (R295). -/
def Channel.offers (c : Channel) : List (Bool × Entry × Int × BitVec 4) :=
  let f := fun (mi : Bool) (v : Conv) => v.entries.filterMap fun e =>
    match e.offer with
    | some (x, tags) => if e.valid then some (mi, e, x, tags) else none
    | none => none
  f false c.mv ++ f true c.mi

/-- A closed unit takes the candidates that reached the window of its closing tick or an earlier one (R189, R298). -/
def TallyRec.window (r : TallyRec) (os : List (Bool × Entry × Int × BitVec 4)) : TallyRec :=
  let take := fun (t : Tally) (o : Bool × Entry × Int × BitVec 4) =>
    if sourceTakes r.cfg o.1 o.2.1.src o.2.1.pos && stampIn t.openTick r.closed o.2.1.stamp && reached r.closed o.2.1.seen then
      t.take r.cfg r.filt o.2.1 o.2.2.1 o.2.2.2
    else t
  { r with body := os.foldl take r.body }

/-- E3 accumulates the window that ends (R189, R298): into open units, and into closed ones whose record is not yet in the
FIFO. -/
def Channel.tallyWindow (c : Channel) : Channel :=
  let os := c.offers
  if os.isEmpty then c
  else
    let c := (List.finRange 16).foldl (fun c u =>
      if c.tally[u].isOpen then
        let cfg := c.reg (Obj.TALLY_CFG u.val)
        let filt := c.reg (Obj.TALLY_FILT u.val)
        c.modTally u fun t => os.foldl (fun t o =>
          if sourceTakes cfg o.1 o.2.1.src o.2.1.pos && reached o.2.1.stamp t.openTick then t.take cfg filt o.2.1 o.2.2.1 o.2.2.2 else t) t
      else c) c
    { c with recs := c.recs.map (·.window os) }

/-- Candidates of a record that have not reached the window of its closing tick or an earlier one (R189, R298). -/
def Channel.lateFor (c : Channel) (r : TallyRec) : Nat :=
  let mi := sourceMi (tcSource r.cfg)
  let v := c.conv mi
  let cand := fun (src pos : Nat) (stamp : Tick) => sourceTakes r.cfg mi src pos && stampIn r.body.openTick r.closed stamp
  let runs := match v.run with
    | some x => (x.kind == .regular || x.kind == .injected) && cand (b2n (x.kind == .injected)) x.slot x.start.1
    | none => false
  b2n runs + (v.next.filter fun e => cand e.src e.pos e.stamp).length +
    (v.entries.filter fun e => cand e.src e.pos e.stamp && !reached r.closed e.seen).length

/-! ## Flags of a tick (R201) -/

/-- The record flags of Table 6-4 that a tick sets, as a mask. -/
def tickFlags (clampd probe derated unlocked notDomain rc sat gust rail : Bool) : BitVec 32 :=
  (if clampd then 0x200000 else 0) ||| (if probe then 0x100000 else 0) ||| (if derated then 0x40000 else 0) |||
  (if unlocked then 0x20000 else 0) ||| (if notDomain then 0x10000 else 0) ||| (if rc then 0x8000 else 0) |||
  (if sat then 0x4000 else 0) ||| (if gust then 0x2000 else 0) ||| (if rail then 0x1000 else 0)

/-- The tick that ends is covered by every open unit (R190, R194, R201). -/
def Channel.tallyTick (c : Channel) (flags : BitVec 32) (isHeld isProbe : Bool) : Channel :=
  { c with tally := c.tally.map fun t =>
      if t.isOpen then { t with flags := t.flags ||| flags, held := t.held + b2n isHeld,
                                unheld := t.unheld + b2n (!isHeld),
                                probes := t.probes + b2n isProbe } else t }

/-! ## Opening and closing (R194–R199) -/

/-- The range of the unit's quantity now (R192). -/
def Channel.sourceRange (c : Channel) (cfg : Nat) : Bool × Nat :=
  if sourceMi (tcSource cfg) then (false, c.force.irange) else (true, c.force.vrange)

/-- Open a unit (R192, R193). -/
def Dev.tallyOpen (d : Dev) (n : ChanId) (u : Idx16) : Dev :=
  let r := (d.ch n).sourceRange (d.creg n (Obj.TALLY_CFG u.val))
  d.modCh n fun c => c.modTally u fun _ =>
    { Tally.reset with isOpen := true, openTick := d.tick, gen := d.sync.gen, rangeV := r.1, range := r.2 }

/-- Units may open (R196). -/
def Channel.mayOpen (c : Channel) : Bool :=
  match c.force.st with
  | .armed | .arming => true
  | .parked | .parking | .safe => false

/-- No activation. -/
def TallyEv.none : TallyEv := ⟨false, false, false, false, Option.none, []⟩

/-- Activations that a commit brings one after the other. -/
def TallyEv.and (a b : TallyEv) : TallyEv :=
  { opens := a.opens || b.opens, step := a.step || b.step, closes := a.closes || b.closes, abort := a.abort || b.abort,
    forced := a.forced <|> b.forced, origin := if a.closes then a.origin else b.origin }

/-- What the stages of R195 do to one unit: the cause it closes with, whether it opens, and how many activations are
ignored. -/
structure TallyOut where
  cause   : Option CloseCause
  opens   : Bool
  ignored : Nat
deriving DecidableEq, Repr

/-- The three stages of R195 for one unit: `isOpen` before them, `split` when the range of its quantity has changed, `may`
when it may open. -/
def TallyEv.stages (ev : TallyEv) (cfg : Nat) (isOpen split may : Bool) : TallyOut :=
  let off := tcOpen cfg == 0
  -- stage 1
  let cause1 := if !isOpen then Option.none
    else if split then some .rangeSplit
    else ev.forced <|> (if ev.abort then some .hostAbort else Option.none)
  -- stage 2
  let open2 := isOpen && cause1.isNone
  let conf := open2 && (ev.closes || ev.step)
  -- stage 3
  let open3 := open2 && !conf
  let again := isOpen && split && !ev.abort && ev.forced.isNone
  { cause := if conf then some .configured else cause1,
    opens := ((ev.opens && !off) || (conf && tcReopen cfg) || again) && !open3 && may,
    ignored := b2n (ev.closes && !open2 && !off) + b2n (ev.opens && open3 && !off) }

/-- A unit at the present commit, before the stages of R195 and with its activations so far. -/
def Channel.dayOf (c : Channel) (u : Idx16) (now : Tick) : TallyDay :=
  if c.unitsIn.tick = now then (c.days.lookup u.val).getD ⟨c.tally[u], TallyEv.none, 0⟩ else ⟨c.tally[u], TallyEv.none, 0⟩

/-- The stages of R195 for one unit, from what it was before them, with all its activations of the present commit. -/
def Dev.tallyDay (d : Dev) (n : ChanId) (u : Idx16) (day : TallyDay) (ev : TallyEv) : Dev :=
  let c := d.ch n
  let cfg := c.reg (Obj.TALLY_CFG u.val)
  let b := day.before
  let out := ev.stages cfg b.isOpen (b.isOpen && ((b.rangeV, b.range) != c.sourceRange cfg)) (c.mayOpen && !d.sysOn n)
  let r := fun (k : CloseCause) =>
    ({ chan := n.val, unit := u.val, src := tcSource cfg, cause := k, closed := d.tick, cfg := cfg,
       filt := c.reg (Obj.TALLY_FILT u.val), body := b } : TallyRec)
  let recs := (c.recs.filter fun x => !(x.unit == u.val && x.closed == d.tick)) ++ (out.cause.map r).toList
  let d := d.modCh n fun c =>
    { c with recs := recs, days := (u.val, ⟨b, ev, out.ignored⟩) :: c.days.filter (·.1 != u.val),
             unitsIn := if c.unitsIn.tick = d.tick then c.unitsIn else { tick := d.tick, was := 0, gates := 0, step := false, edges := [] } }
  let d := if out.ignored < day.ignored then d.setCreg n Obj.TALLY_IGNORED (d.creg n Obj.TALLY_IGNORED - (day.ignored - out.ignored))
    else (List.range (out.ignored - day.ignored)).foldl (fun d _ => d.cinc n 32 Obj.TALLY_IGNORED) d
  let d := if out.opens then d.tallyOpen n u
    else if out.cause.isSome || !b.isOpen then d.modCh n fun c => c.modTally u fun _ => Tally.reset
    else d
  if out.cause.isSome && natBit (d.creg n Obj.CLOSE_EVT_MASK) u.val && !d.fab.fired.contains (chProd n 14) then
    d.fireCommit (chProd n 14) ev.origin
  else d

/-- Further activations reach a unit at the present commit (R195). -/
def Dev.tallyStages (d : Dev) (n : ChanId) (u : Idx16) (ev : TallyEv) : Dev :=
  let day := (d.ch n).dayOf u d.tick
  d.tallyDay n u day (day.ev.and ev)

/-- Every open unit of a channel closes with a forced cause; the step of the present commit does not apply (R196, R255). -/
def Dev.tallyCloseAll (d : Dev) (n : ChanId) (cause : CloseCause) : Dev :=
  (List.finRange 16).foldl (fun d u =>
    let day := (d.ch n).dayOf u d.tick
    if !day.before.isOpen && !(d.ch n).tally[u].isOpen then d
    else
      d.tallyDay n u day { day.ev with step := false, forced := some cause,
                                       closes := day.ev.closes && tcClose (d.creg n (Obj.TALLY_CFG u.val)) != 0 }) d

/-- The activations of a unit under a configuration word that a commit brings (R194). -/
def UnitInputs.events (x : UnitInputs) (u : Idx16) (cfg : Nat) : TallyEv :=
  let g := tcGate cfg
  let rise := bit x.gates g && !bit x.was g
  let fall := !bit x.gates g && bit x.was g
  let eo := x.edges.find? (·.con == 12 + u.val)
  let ec := x.edges.find? (·.con == 28 + u.val)
  let step := tcOpen cfg == 2 && x.step && bit x.gates g
  { opens := (tcOpen cfg == 1 && rise) || step || (tcOpen cfg == 3 && eo.isSome),
    step := step,
    closes := (tcClose cfg == 0 && fall) || (tcClose cfg == 1 && ec.isSome),
    abort := false, forced := Option.none,
    origin := if tcClose cfg == 1 then (ec.map (·.origin)).getD [] else [] }

/-- The tally stages of a commit for a channel, units in ascending order (R195). -/
def Dev.tallyCommit (d : Dev) (n : ChanId) (x : UnitInputs) : Dev :=
  (List.finRange 16).foldl (fun d u =>
    let cfg := d.creg n (Obj.TALLY_CFG u.val)
    if tcOpen cfg == 0 && !(d.ch n).tally[u].isOpen then d else d.tallyStages n u (x.events u cfg))
    (d.modCh n fun c => { c with unitsIn := x, days := [] })

/-- A word of a unit changes at the present commit (R199): an open unit closes with RECONFIG, and the unit opens under the new
words where its new open source fires. -/
def Dev.tallyReconfig (d : Dev) (n : ChanId) (u : Idx16) (put : Dev → Dev) : Dev :=
  let day := (d.ch n).dayOf u d.tick
  let host := day.ev.opens && tcOpen (d.creg n (Obj.TALLY_CFG u.val)) == 4
  let was := (d.ch n).reg (Obj.TALLY_CFG u.val)
  let d := if day.before.isOpen then d.tallyDay n u day { day.ev with opens := false, step := false, forced := some .reconfig } else d
  let d := put d
  let day2 := (d.ch n).dayOf u d.tick
  let x := (d.ch n).unitsIn
  let cfg := (d.ch n).reg (Obj.TALLY_CFG u.val)
  let new := if x.tick = d.tick then x.events u cfg else TallyEv.none
  let opens := new.opens || (host && tcOpen cfg == 4)
  if day.before.isOpen then
    (if opens && (d.ch n).mayOpen && !d.sysOn n then
       (d.tallyOpen n u).modCh n fun c =>
         { c with days := (u.val, ⟨day2.before, { day2.ev with opens := true }, day2.ignored⟩) :: c.days.filter (·.1 != u.val) }
     else d)
  else if was = cfg then d
  else d.tallyDay n u day { new with opens := opens, abort := day.ev.abort }

/-- Threshold comparison of an open unit (R198). -/
def Tally.threshold (t : Tally) (w : Nat) : Bool :=
  let T := thT w
  t.isOpen &&
  match thSel w with
  | 1 => decide (0 < t.count) && decide (T ≤ t.maxV)
  | 2 => decide (0 < t.count) && decide (t.minV ≤ T)
  | 3 => decide (0 < t.count) && decide (T ≤ t.latest)
  | 4 => decide (0 < t.count) && decide (t.latest ≤ T)
  | 5 => decide (natBits w 19 0 ≤ t.count)
  | _ => false

/-- Threshold flags at a commit (R198); a unit that opens at this commit starts with its flag clear. -/
def Channel.tallyThresholds (c : Channel) (now : Tick) : Channel :=
  (List.finRange 16).foldl (fun c u => c.modTally u fun t =>
    { t with thrFlag := t.openTick != now && t.threshold (c.reg (Obj.TALLY_THR u.val)) }) c

/-! ## The record (R200–R202) -/

/-- LSB mantissa and exponent of a range (Table 6-5). -/
def lsbCode (v : Bool) (r : Nat) : Nat × Nat :=
  if v then (match r with | 0 => (625, 0xF8) | 1 => (25, 0xFA) | _ => (1, 0xFC))
  else if r ≤ 5 then (1, 0xF5 + r) else (2, 0xF9)

/-- The 64 bytes of a record with its SEQ (Table 6-3). -/
def recordBytes (r : TallyRec) (seq : Nat) : List Byte :=
  let t := r.body
  let none' := t.count = 0
  let mn : Int := if none' then 0x7FFFF else t.minV
  let mx : Int := if none' then -0x80000 else t.maxV
  let l := lsbCode t.rangeV t.range
  let flags := t.flags ||| (if tcInclUnsettled r.cfg then 0x1000000 else 0) |||
    (if t.probes % 254 != 0 then 0x80000 else 0) ||| BitVec.ofNat 32 (r.cause.code * 2 ^ 25)
  let ff := flags.toNat / 4096 * 4096 + tfKind r.filt * 1024 + natBits r.filt 7 0
  leBytes 1 1 ++ leBytes 1 r.chan ++ leBytes 1 (16 * r.src + r.unit) ++ leBytes 1 t.gen ++ leBytes 4 seq ++
  leBytes 6 t.openTick.toNat ++ leBytes 4 (ticksFrom t.openTick r.closed) ++ leBytes 4 t.count ++
  leBytes 6 (unsignedOf 48 t.sum) ++ leBytes 8 t.sumsq ++
  leBytes 5 (unsignedOf 20 mx * 2 ^ 20 + unsignedOf 20 mn) ++
  leBytes 4 (if none' then 0xFFFFFFFF else ticksFrom t.openTick t.minTick) ++
  leBytes 4 (if none' then 0xFFFFFFFF else ticksFrom t.openTick t.maxTick) ++
  leBytes 3 t.unsettled ++ leBytes 4 t.held ++
  leBytes 1 ((if t.rangeV then 0 else 128) + t.range) ++ leBytes 2 l.1 ++ leBytes 1 l.2 ++ leBytes 4 ff

end Sys2Proof.Machine
end

