-- ==== Sys2Proof/Machine/BarkerOps.lean ====
section
/-! DEFINITION. The barker (R227–R257) and the spools (R259–R268): the step word, the directory, selecting a step, segment
boundaries, jumps, the end of a span, and applying a step. -/

namespace Sys2Proof.Machine

open Sys2Proof

/-! ## The step word (Tables 8-1, 8-2, 8-3) -/

def stKind (w : Nat) : Nat := natBits w 63 60
def stValue (w : Nat) : Nat := natBits w 59 40
def stRpair (w : Nat) : Nat := natBits w 39 36
def stPset (w : Nat) : Nat := natBits w 35 30
def stPlan (w : Nat) : Nat := natBits w 29 26
def stGates (w : Nat) : BitVec 6 := BitVec.ofNat 6 (natBits w 25 20)
def stMarks (w : Nat) : BitVec 4 := BitVec.ofNat 4 (natBits w 19 16)
/-- Ticks of DWELL: 0 stands for 65,536. -/
def stDwell (w : Nat) : Nat := if natBits w 15 0 = 0 then 65536 else natBits w 15 0

/-- A step word from its fields (Table 8-1). -/
def stepWord (kind value rpair : Nat) (f : StepFields) : Word64 :=
  BitVec.ofNat 64 (kind * 2 ^ 60 + value * 2 ^ 40 + rpair * 2 ^ 36 + f.pset.toNat * 2 ^ 30 + f.mplan.toNat * 2 ^ 26 +
    f.tctl.toNat * 2 ^ 20 + f.mark.toNat * 2 ^ 16 + f.dwell.toNat)

/-- WAIT_TETHER: no timeout, PRE, input. -/
def waitNoTimeout (w : Nat) : Bool := natBit (stValue w) 19
def waitPre (w : Nat) : Bool := natBit (stValue w) 18
def waitInput (w : Nat) : Nat := natBits (stValue w) 1 0

/-! ## Conditions (Tables 8-5, 8-6) -/

/-- A condition entry holds no reserved code or bit (R257). -/
def condOk (w : Nat) : Bool :=
  let op := natBits w 7 0
  decide (w < 0x10000) && natBits w 14 13 == 0 && decide (natBits w 12 8 ≤ 0xF) &&
  (match natBits w 12 8 with
   | 0 | 9 | 0xA | 0xB | 0xE | 0xF => op == 0
   | 1 | 2 | 3 | 6 | 7 | 8 => decide (op ≤ 3)
   | 4 => decide (op ≤ 2)
   | 5 | 0xC => decide (op ≤ 15)
   | _ => decide (op ≤ 7))

/-- Program set `k` is loaded for a channel (R300). -/
def Dev.setLoaded (d : Dev) (n : ChanId) (k : Nat) : Bool := (sget none d.mem.sets (64 * n.val + k)).isSome

/-- A step is valid (R231, log 8). -/
def Dev.stepOk (d : Dev) (n : ChanId) (w : Nat) : Bool :=
  let v := stValue w
  let rp := decide (stRpair w = 0)
  let set' := d.setLoaded n (stPset w)
  match stKind w with
  | 1 | 2 => set'
  | 3 | 7 => rp && v == 0 && set'
  | 4 => rp && v == 0 && stPset w == 0 && stPlan w == 0
  | 5 => rp && set' && natBits v 17 2 == 0
  | 6 => rp && set'
  | 8 => set' && condOk (d.creg n (Obj.COND (stRpair w)))
  | 9 => rp && set' && natBits v 17 4 == 0 && natBits v 19 18 != 3
  | 0xA => rp && set' && natBits v 18 4 == 0 && !(natBit v 19 && natBits v 3 0 != 0)
  | 0xB => rp && set' && decide (v ≤ 1)
  | _ => false

/-! ## The directory (Table 8-4) -/

def dsValid (w : Nat) : Bool := natBit w 63
def dsType (w : Nat) : Nat := natBits w 62 61
def dsClr (w : Nat) : Bool := natBit w 60
def dsNext (w : Nat) : Nat := natBits w 56 44
def dsLen (w : Nat) : Nat := natBits w 43 26
def dsStart (w : Nat) : Nat := natBits w 19 0
/-- Ring size of a spool, or steps of a segment. -/
def dsSteps (w : Nat) : Nat := 8 * dsLen w

/-- Descriptor `i`; 0 where there is none. -/
def Dev.desc (d : Dev) (i : Nat) : Nat := if i < 4096 then (sget 0 d.mem.dir i).toNat else 0

/-- The segment whose START is an address (R248). -/
def Dev.segAt (d : Dev) (a : Nat) : Option Nat :=
  (d.mem.dir.find? fun e => dsValid e.2.toNat && dsStart e.2.toNat == a).map (·.1)

/-- A ledger step. -/
def Dev.step64 (d : Dev) (a : Nat) : Word64 := sget 0 d.mem.ledger a

/-- The first 32 steps of a segment, as a head or the stage reads them (R250). -/
def Dev.first32 (d : Dev) (seg : Nat) : List (Nat × Word64) :=
  let a := dsStart (d.desc seg)
  (List.range 32).map fun i => (a + i, d.step64 (a + i))

/-- Segment in use on a channel that is not PARKED (R237). -/
def Channel.segInUse (c : Channel) (seg : Nat) : Bool :=
  !c.isParked &&
  (c.bk.seg == seg || (c.bk.pend.map (·.seg)) == some seg ||
   c.bk.heads.toList.any (fun h => h.st != .empty && h.seg == seg) || (c.bk.safeHead.st != .empty && c.bk.safeHead.seg == seg) ||
   c.bk.loops.any (fun l => l.bound && l.seg == seg))

def Dev.segInUse (d : Dev) (seg : Nat) : Bool := d.chans.toList.any (·.segInUse seg)

/-- The rules of R236 for a word at descriptor `i`. -/
def Dev.descOk (d : Dev) (i w : Nat) : Bool :=
  !dsValid w ||
  (decide (dsType w ≤ 1) && natBits w 59 57 == 0 && natBits w 25 20 == 0 && (decide (dsNext w ≤ 4095) || dsNext w == 0x1FFF) &&
   dsStart w % 8 == 0 && decide (4 ≤ dsLen w) && decide (dsLen w ≤ 131072) && decide (dsStart w + dsSteps w ≤ 1048576) &&
   d.mem.dir.all fun e =>
     let x := e.2.toNat
     e.1 == i || !dsValid x ||
       (dsStart x != dsStart w &&
        !((dsType w == 1 || dsType x == 1) && decide (dsStart w < dsStart x + dsSteps x) &&
          decide (dsStart x < dsStart w + dsSteps w))))

/-! ## System calibration aborts (R364) -/

/-- The channel returns to its armed start value (R361, R92). -/
def Dev.startValue (d : Dev) (n : ChanId) : Dev :=
  if (d.ch n).isArmed then
    (d.modCh n fun c => c.modForce fun f => { f with target := zeroCode, prevTarget := f.target }).enterEntry n 0
      (d.creg n Obj.ARM_MODE == 1) 0 false
  else d

/-- A system calibration aborts with a code of Table 13-6. -/
def Dev.sysAbort (d : Dev) (code : Nat) : Dev :=
  let who := d.sysChan
  let d := { d with cal := { d.cal with sys := .aborted, zero := none } }.setReg Obj.SYSCAL_ABORT code
  match who with
  | some n => (d.raiseCh 0x0A04 1 n code).startValue n
  | none => d

/-- Abort the calibration if it runs on a channel. -/
def Dev.sysAbortOn (d : Dev) (n : ChanId) (code : Nat) : Dev :=
  if d.sysActive && d.sysChan == some n then d.sysAbort code else d

/-! ## Spool counts (R260–R263) -/

/-- The descriptor of the channel's spool. -/
def Dev.ring (d : Dev) (n : ChanId) : Nat := d.desc (d.creg n Obj.SPOOL_SEG)
/-- REL (R260). -/
def Channel.rel (c : Channel) : Nat := (c.bk.loops.filterMap (·.spoolX)).foldl min c.spool.rd
def Channel.fill (c : Channel) : Nat := c.spool.wr - c.spool.rd
/-- Free space. -/
def Dev.spoolFree (d : Dev) (n : ChanId) : Nat := (d.ch n).rel + dsSteps (d.ring n) - (d.ch n).spool.wr
/-- A mark as it acts: one above S acts as S, 0 is off (R263). -/
def Dev.spoolMark (d : Dev) (n : ChanId) (k : Nat) : Nat := min (d.creg n k) (dsSteps (d.ring n))
/-- The fill lies below LOW_MARK; never where EOS is set (R263). -/
def Dev.spoolLow (d : Dev) (n : ChanId) : Bool :=
  d.creg n Obj.SPOOL_SEG != 0xFFFF && (d.ch n).spool.eos.isNone && decide ((d.ch n).fill < d.spoolMark n Obj.LOW_MARK)
/-- The fill lies at or above HIGH_MARK (R263). -/
def Dev.spoolHigh (d : Dev) (n : ChanId) : Bool :=
  d.creg n Obj.SPOOL_SEG != 0xFFFF && d.creg n Obj.HIGH_MARK != 0 && decide (d.spoolMark n Obj.HIGH_MARK ≤ (d.ch n).fill)

/-- A watermark producer fires at most once per tick, with its cause of Table 15-6 (R263, R411). -/
def Dev.fireBulk (d : Dev) (code cause : Nat) : Dev :=
  (if d.fab.fired.contains code then d else d.fireCommit code).raiseIrq cause

/-- The fill of a spool has changed at the present commit: the watermarks against the commit before (R263), and the lowest
fill while PLAYING. -/
def Dev.spoolMarks (d : Dev) (n : ChanId) : Dev :=
  let sp := (d.ch n).spool
  let d := if d.spoolLow n && !sp.wasLow then d.fireBulk 0x420 3 else d
  let d := if d.spoolHigh n && !sp.wasHigh then d.fireBulk 0x421 4 else d
  let fill := (d.ch n).fill
  if sp.st == .playing && decide (fill < d.creg n Obj.FILL_MIN) then
    { d.setCreg n Obj.FILL_MIN fill with wrote := (n.val, Obj.FILL_MIN) :: d.wrote }
  else d

/-- WR as after commit e − 2 (R261, R262). -/
def Spool.wrAfter (s : Spool) : Nat := (s.recent.head?.map (·.2)).getD s.wr
/-- Play is in the channel's spool. -/
def Dev.inSpool (d : Dev) (n : ChanId) : Bool :=
  (d.ch n).bk.seg == d.creg n Obj.SPOOL_SEG && dsType (d.desc (d.ch n).bk.seg) == 1

/-- State of a spool as a step of it is selected, as an under-run begins, and as play reaches EOS: ENDED and STOPPED are left
by a reset alone (R264, log 100). -/
def SpoolState.live (s : SpoolState) : SpoolState := match s with | .ended => .ended | .stopped => .stopped | _ => .playing
def SpoolState.runDry (s : SpoolState) : SpoolState := match s with | .ended => .ended | .stopped => .stopped | _ => .dry
def SpoolState.spent (s : SpoolState) : SpoolState := match s with | .stopped => .stopped | _ => .ended

/-! ## Status -/

/-- Set bits of SEQ_STATUS for this commit, and of SEQ_STICKY. -/
def Channel.seqFlag (c : Channel) (b : Nat) : Channel :=
  (c.modBk fun k => { k with status := k.status ||| BitVec.ofNat 16 b }).orReg Obj.SEQ_STICKY b

/-- A sequence fault (R244, R259, R262). -/
def Dev.seqFault (d : Dev) (n : ChanId) (detail : Nat) : Dev :=
  (d.modCh n fun c => (c.seqFlag 64).modBk fun k => { k with halt := true, due := false }).raiseCh 0x0702 2 n detail

/-! ## Selecting a step -/

/-- A step that the barker is about to select: address, segment, word, whether it counts as a first step (R234), and its
stream index inside the channel's spool. -/
structure Pick where
  addr   : Nat
  seg    : Nat
  word   : Word64
  first  : Bool
  stream : Option Nat
deriving DecidableEq, Repr

/-- A step held in a loop head of a later iteration, or in the head or stage the segment was entered through (R245,
R250). -/
def Barker.held? (b : Barker) (a : Nat) : Option Word64 :=
  match (b.loops.filter (!·.first)).findSome? fun l => l.head.lookup a with
  | some w => some w
  | none => b.cache.lookup a

/-- The 8-step line of an address, as a line read takes it from the ledger (R238). -/
def Dev.readLine (d : Dev) (a : Nat) : List (Nat × Word64) := (List.range 8).map fun i => (a / 8 * 8 + i, d.step64 (a / 8 * 8 + i))

/-- The step at an address as the barker reads it: from a head, from a line that it has read, or from the ledger. -/
def Dev.readStep (d : Dev) (n : ChanId) (a : Nat) : Word64 :=
  let b := (d.ch n).bk
  (b.held? a).getD ((b.lines.lookup a).getD (d.step64 a))

/-- Where play goes on in the ledger after the last step of a line: the next line of the segment, or the first line of a
RESIDENT segment that follows it. Inside a spool, the next line whose steps are available. -/
def Dev.lineAfter (d : Dev) (n : ChanId) (seg a : Nat) (stream : Option Nat) : Option Nat :=
  let ds := d.desc seg
  match stream with
  | some x => if x + 1 < (d.ch n).spool.wrAfter then some (dsStart ds + (x + 1) % dsSteps ds) else none
  | none =>
    if a + 1 < dsStart ds + dsSteps ds then some (a + 1)
    else
      let nx := d.desc (dsNext ds)
      if dsNext ds != 0x1FFF && dsValid nx && dsType nx == 0 then some (dsStart nx) else none

/-- The lines that the barker holds as it selects a step (R238): the step's own line, as read before, and after the last step
of a line the line that follows (log 98). -/
def Dev.linesFor (d : Dev) (n : ChanId) (seg a : Nat) (stream : Option Nat) : List (Nat × Word64) :=
  let own := (d.ch n).bk.lines.filter fun e => e.1 / 8 == a / 8
  let own := if own.isEmpty then d.readLine a else own
  if a % 8 ≠ 7 then own
  else match d.lineAfter n seg a stream with
    | some b => own ++ d.readLine b
    | none => own

/-- Bind and record the open loop levels as a step is read (R243, R245). -/
def loopsRead (p : Pick) (ls : List LoopLevel) : List LoopLevel :=
  ls.map fun l =>
    if !l.bound then
      { l with bound := true, start := p.addr, seg := p.seg, sfirst := p.first, spoolX := p.stream,
               head := [(p.addr, p.word)] }
    else if l.first && decide (l.head.length < 32) && (l.head.lookup p.addr).isNone then
      { l with head := l.head ++ [(p.addr, p.word)] }
    else l

/-- SEQ_STATE while a step of a kind is current. -/
def seqOf (kind : Nat) : SeqState := match kind with | 5 => .waiting | 0xB => .ended | _ => .playing

/-- A force kind whose entry has the other mode (R80). -/
def Dev.modeDiffers (d : Dev) (n : ChanId) (w : Nat) : Bool :=
  (stKind w == 1 || stKind w == 2) && (rpMode ((d.cfg n).reg (Obj.RPAIR (stRpair w))) != (stKind w == 2))

/-- The barker selects a step at the present commit (R230, R231, R239–R245); `origin` is what its producers inherit
(R318). -/
def Dev.selectStep (d : Dev) (n : ChanId) (p : Pick) (origin : List Nat) : Dev :=
  let w := p.word.toNat
  if !d.stepOk n w then
    (d.modCh n fun c => (c.seqFlag 4).modBk fun k => { k with halt := true, due := false }).raiseCh 0x0701 2 n p.addr
  else
    let lines := d.linesFor n p.seg p.addr p.stream
    let d := (d.cinc n 64 Obj.STEPS_PLAYED).modCh n fun c =>
      let c := c.modBk fun k =>
        { k with lines := lines, seq := seqOf (stKind w), addr := p.addr, seg := p.seg, word := p.word, done := 0, left := stDwell w,
                 due := false, loops := loopsRead p k.loops, spanTrip := 0, spanHi := false, spanLo := false,
                 spanUr := false, spanHeld := false, spanRc := false, dry := false, held := k.holdReq, stuckAddr := none,
                 stuckRun := 0, stuckHold := false, carry := [],
                 sel := some { word := p.word, addr := p.addr, seg := p.seg, first := p.first,
                               origin := originUnion k.carry origin } }
      match p.stream with
      | some x => c.modSpool fun s => { s with x := x, rd := max s.rd (x + 1), st := s.st.live }
      | none => c
    let d := (d.members n).foldl (fun d m => d.modCh m fun c =>
      let c := if stKind w = 4 then c else c.modForce fun f => { f with pset := stPset w }
      c.modEng fun e => { e with setNow := c.force.pset }) d
    let d := if (stKind w == 1 || stKind w == 2) && !d.modeDiffers n w then
        (d.members n).foldl (fun d m => d.modCh m fun c => c.modForce fun f =>
          { f with prevTarget := f.target, target := BitVec.ofNat 20 (stValue w) }) d
      else d
    let d := (d.sysAbortOn n 4).trace (some n) .selection
    match stKind w with
    | 5 =>
      if waitPre w then d
      else d.modCh n fun c => c.modBk fun k =>
        { k with latch := putBit k.latch (waitInput w) false, latchOrg := k.latchOrg.filter (·.1 != waitInput w) }
    | 6 =>
      if (d.ch n).bk.loops.length ≥ 4 then (d.modCh n fun c => c.modBk fun k => { k with sel := none }).seqFault n 1
      else d.modCh n fun c => c.modBk fun k =>
        { k with loops := { count := stValue w, start := 0, seg := 0, bound := false, first := true, sfirst := false,
                            spoolX := none, head := [] } :: k.loops }
    | _ => d

/-! ## Jumps (R248–R251, R254) -/

/-- A channel waits for a SYNC-armed start (R59, R63). -/
def Dev.waitsSync (d : Dev) (n : ChanId) : Bool :=
  (d.ch n).isArmed && d.creg n Obj.START_MODE == 1 && (d.ch n).bk.seq == .noStep

/-- The present commit is that of the channel's start (R256): an offer of the same commit becomes pending. -/
def Dev.startsNow (d : Dev) (n : ChanId) : Bool :=
  d.sync.start == .pending && d.sync.startTick == d.tick && d.sync.epoch != .mismatch &&
  natBit (d.reg Obj.ARM_MASK) n.val && d.waitsSync n && !d.isFollower n

/-- A head READY for a segment, or the stage (R250). -/
def Barker.headFor (b : Barker) (seg : Nat) : Option Head :=
  (b.heads.toList ++ [b.stage]).find? fun h => h.st == .ready && h.seg == seg

/-- The target of the pending jump is ready. -/
def Barker.pendReady (b : Barker) : Bool :=
  match b.pend with
  | none => false
  | some j => if j.src == .safeJump then b.safeHead.st == .ready else (b.headFor j.seg).isSome

def JumpSrc.rank : JumpSrc → Nat | .safeJump => 2 | .jumpIf => 1 | .jmp => 0 | .host => 0

/-- A jump is offered at the present commit; `arrival` is the tick in which the request arrived (R248, R249, R251,
R252). -/
def Dev.offerJump (d : Dev) (n : ChanId) (src : JumpSrc) (seg : Nat) (arrival : Tick) (origin : List Nat) : Dev :=
  let b := (d.ch n).bk
  let discard := d.cinc n 32 Obj.JUMP_DISCARDED
  if !dsValid (d.desc seg) then (d.modCh n (·.seqFlag 8)).raiseCh 0x0705 1 n seg
  else if (b.seq == .noStep && !d.startsNow n) || b.seq == .stopped || !(d.ch n).isArmed then discard
  else
    let stage := { st := .filling, seg := seg, steps := [] : Head }
    let missed := [b.boundBefore, b.lastBound].findSome? fun x => x.filter fun t => reached t (arrival + 1)
    let put := fun (d : Dev) => d.modCh n fun c => c.modBk fun k =>
      { k with pend := some { src := src, seg := seg, offered := d.tick, missed := missed, origin := origin },
               stage := if (k.heads.toList.any fun h => h.st == .ready && h.seg == seg) then k.stage else stage }
    match b.pend with
    | none => put d
    | some j => if src.rank < j.src.rank then discard else put discard

/-- A segment boundary at a commit (R251). -/
def Barker.bound (b : Barker) (t : Tick) : Barker :=
  if b.lastBound = some t then b else { b with lastBound := some t, boundBefore := b.lastBound }

/-- A jump whose target was not ready at a boundary of a commit. -/
def Jump.pass (j : Jump) (t : Tick) : Jump := { j with missed := j.missed.or (some t) }

/-- The pending jump was not ready at a boundary of the present commit (R251). -/
def Dev.passBoundary (d : Dev) (n : ChanId) : Dev :=
  d.modCh n fun c => c.modBk fun k => { k.bound d.tick with pend := k.pend.map (·.pass d.tick) }

/-- A jump that acts at a commit acts later than its first boundary (R251). -/
def Jump.late (j : Jump) (t : Tick) : Bool := j.missed.any (· != t)

/-- Book-keeping of a jump that is taken (R248, R251). -/
def Dev.countJump (d : Dev) (n : ChanId) (j : Jump) (clr : Bool) : Dev :=
  let d := ((d.trace (some n) .jump).cinc n 32 Obj.JUMPS_TAKEN).setCreg n Obj.LAST_JUMP_TICK d.tick.toNat
  let d := d.modCh n fun c => c.modBk fun k =>
    { k.bound d.tick with pend := none, loops := if clr then [] else k.loops, cache := [], lines := [], dry := false,
                          jumpLate := k.jumpLate || j.late d.tick }
  if j.late d.tick then (d.modCh n (·.seqFlag 1)).cinc n 32 Obj.JUMP_LATE_CNT else d

/-- What the barker moves to: a boundary after a segment, entry into a segment, or a stream index of the spool. -/
inductive Move where
  | boundary (seg : Nat)
  | enter (seg : Nat) (origin : List Nat) (cache : List (Nat × Word64))
  | stream (x : Nat) (entry : Bool) (origin : List Nat)
deriving DecidableEq, Repr

/-- The chain ends (R253): the last step stays applied. -/
def Dev.chainEnd (d : Dev) (n : ChanId) : Dev :=
  d.modCh n fun c => c.modBk fun k => { k with seq := .ended, due := false, dry := false }

/-- The safe jump (R266). -/
def Dev.takeSafe (d : Dev) (n : ChanId) (j : Jump) : Dev :=
  let seg := d.creg n Obj.SAFE_SEG
  let h := (d.ch n).bk.safeHead
  let d := (d.countJump n j true).cinc n 32 Obj.SAFE_JUMPS
  let d := d.modCh n fun c => (c.modSpool fun s => { s with st := .stopped }).modBk fun k => { k with cache := h.steps }
  let a := dsStart (d.desc seg)
  d.selectStep n { addr := a, seg := seg, word := d.readStep n a, first := true, stream := none } []

/-- An under-run at the present commit (R265, R266): the first of an episode, or a later one. -/
def Dev.underrun (d : Dev) (n : ChanId) (x : Nat) (entry : Bool) : Dev :=
  let first := !(d.ch n).bk.dry
  let safe := d.creg n Obj.UR_POLICY = 1
  let d := (d.trace (some n) .underrun).passBoundary n
  let d := if first then
      let full := decide (0 < ((d.ch n).bk.loops.filterMap (·.spoolX)).length) && d.spoolFree n == 0
      let d := ((d.cinc n 32 Obj.UR_EPISODES).setCreg n Obj.UR_LAST_TICK d.tick.toNat).setCreg n Obj.UR_LAST_CAUSE (if full then 2 else 1)
      let d := (d.raiseCh 0x0707 1 n x).fireCommit (chProd n 13)
      d.modCh n fun c => (c.modSpool fun s => { s with st := s.st.runDry }).modBk fun k => { k with dry := true, dryFirst := entry, due := false }
    else d
  let d := if safe && (d.ch n).bk.pend.map (·.src) != some .safeJump then
      let d := if (d.ch n).bk.pend.isSome then d.cinc n 32 Obj.JUMP_DISCARDED else d
      let j : Jump := { src := .safeJump, seg := d.creg n Obj.SAFE_SEG, offered := d.tick, missed := none, origin := [] }
      d.modCh n fun c => c.modBk fun k => { k with pend := some j }
    else d
  match (d.ch n).bk.pend with
  | some j =>
    if j.src == .safeJump && (d.ch n).bk.safeHead.st == .ready then d.takeSafe n j
    else d.modCh n fun c => c.modBk fun k =>
      { k with held := true, pend := some (if j.src == .safeJump then j.pass d.tick else j) }
  | none => d.modCh n fun c => c.modBk fun k => { k with held := true }

/-- Select the step at a stream index at once, or under-run (R262): play never slows down to wait for data, and a shortfall of
the link shows as under-runs alone (R269). -/
def Dev.play (d : Dev) (n : ChanId) (x : Nat) (first : Bool) (origin : List Nat) : Dev :=
  let ds := d.ring n
  if x < (d.ch n).spool.wrAfter then
    let a := dsStart ds + x % dsSteps ds
    d.selectStep n { addr := a, seg := d.creg n Obj.SPOOL_SEG, word := d.readStep n a, first := first,
                     stream := some x } origin
  else d.underrun n x first

/-- Move the barker (R239, R262). The fuel bounds the passages through a spent spool at one commit. -/
def Dev.move : Nat → Dev → ChanId → Move → Dev
  | 0, d, n, _ => d.chainEnd n
  | k + 1, d, n, .boundary seg =>
    let b := (d.ch n).bk
    let nx := dsNext (d.desc seg)
    if b.pendReady then
      match b.pend with
      | none => d
      | some j =>
        if j.src == .safeJump then d.takeSafe n j
        else
          let h := ((b.headFor j.seg).map (·.steps)).getD []
          Dev.move k (d.countJump n j (dsClr (d.desc j.seg))) n (.enter j.seg j.origin h)
    else if nx == 0x1FFF || !dsValid (d.desc seg) then (d.passBoundary n).chainEnd n
    else if dsValid (d.desc nx) then Dev.move k (d.passBoundary n) n (.enter nx [] [])
    else (((d.passBoundary n).modCh n (·.seqFlag 32)).raiseCh 0x0704 1 n nx).chainEnd n
  | k + 1, d, n, .enter seg origin cache =>
    let ds := d.desc seg
    if dsType ds == 1 then
      if d.creg n Obj.SPOOL_SEG != seg then d.seqFault n 3
      else if (d.ch n).spool.st == .ended then d.seqFault n 4
      else Dev.move k (d.modCh n fun c => c.modBk fun b => { b with seg := seg, cache := [] }) n
        (.stream (d.ch n).spool.rd true origin)
    else
      let d := d.modCh n fun c => c.modBk fun b => { b with cache := cache }
      let a := dsStart ds
      d.selectStep n { addr := a, seg := seg, word := d.readStep n a, first := true, stream := none } origin
  | k + 1, d, n, .stream x entry origin =>
    let s := (d.ch n).spool
    let b := (d.ch n).bk
    let wrap := !entry && decide (0 < x) && x % dsSteps (d.ring n) == 0
    if s.eos == some x then
      Dev.move k (d.modCh n fun c => c.modSpool fun t => { t with st := t.st.spent }) n (.boundary (d.creg n Obj.SPOOL_SEG))
    else if (wrap || b.dry || decide (s.wrAfter ≤ x)) && b.pendReady then
      match b.pend with
      | none => d
      | some j =>
        if j.src == .safeJump then d.takeSafe n j
        else
          let d := if b.dry then d.modCh n fun c => c.modSpool fun t => { t with st := t.st.live } else d
          let h := ((b.headFor j.seg).map (·.steps)).getD []
          Dev.move k (d.countJump n j (dsClr (d.desc j.seg))) n (.enter j.seg j.origin h)
    else if b.dry && b.pend.map (·.src) == some .safeJump then d.underrun n x entry
    else (if wrap then d.passBoundary n else d).play n x (entry || wrap) origin

/-- Fuel of a move: more passages than one commit can bring. -/
def moveFuel : Nat := 8

/-- The barker may select (R231, R255): ARMED, not stopped by a fault of its own, and no follower (R106). -/
def Dev.maySelect (d : Dev) (n : ChanId) : Bool := (d.ch n).isArmed && !(d.ch n).bk.halt && !d.isFollower n

/-! ## Conditions (R246, R247) -/

/-- Monitor `m` of an operand. -/
def opMon (op : Nat) : Idx4 := ⟨op % 4, by omega⟩

/-- The condition of an entry at the present commit, before NEG; a test of a latch clears it. The inherited origin set
comes with it (R318). -/
def Dev.condRaw (d : Dev) (n : ChanId) (w : Nat) : Bool × List Nat × Dev :=
  let c := d.ch n
  let b := c.bk
  let op := natBits w 7 0
  let m := opMon op
  match natBits w 12 8 with
  | 0 => (true, [], d)
  | 1 => (c.wm[m].st == .tripped, [], d)
  | 2 => (bit b.spanTrip m.val, [], d)
  | 3 => (c.wm[m].st == .unknown || c.wm[m].st == .off, [], d)
  | 4 => ((op != 1 && b.spanHi) || (op != 0 && b.spanLo), [], d)
  | 5 => (c.tally[(⟨op % 16, by omega⟩ : Idx16)].thrFlag, [], d)
  | 6 =>
    (bit b.latch (op % 4), ((b.latchOrg.find? (·.1 == op % 4)).map (·.2)).getD [],
     d.modCh n fun c => c.modBk fun k =>
       { k with latch := putBit k.latch (op % 4) false, latchOrg := k.latchOrg.filter (·.1 != op % 4) })
  | 7 => (match b.loops[op % 4]? with | some l => l.count == 1 | none => false, [], d)
  | 8 => (match b.loops[op % 4]? with | some l => l.first | none => false, [], d)
  | 9 => (b.spanUr, [], d)
  | 0xA => (b.spanHeld, [], d)
  | 0xB => (b.waitTimeout, [], d)
  | 0xC => (bit c.eng.flags (op % 16), [], d)
  | 0xD => (natBit (c.reg Obj.COND_HOST) (op % 8), [], d)
  | 0xE => (b.spanRc, [], d)
  | _ => (b.jumpLate, [], d.modCh n fun c => c.modBk fun k => { k with jumpLate := false })

/-- The condition with NEG; codes 0x01 and 0x02 read false for a monitor that is OFF or UNKNOWN (R247). -/
def Dev.condition (d : Dev) (n : ChanId) (w : Nat) : Bool × Dev :=
  let code := natBits w 12 8
  let x := (d.ch n).wm[opMon (natBits w 7 0)].st
  let r := d.condRaw n w
  if (code == 1 || code == 2) && (x == .off || x == .unknown) then (false, d)
  else
    let v := r.1 != natBit w 15
    (v, if v && r.1 then r.2.2.modCh n fun c => c.modBk fun k => { k with carry := originUnion k.carry r.2.1 } else r.2.2)

/-! ## The end of a span (R239, R242, R243) -/

/-- Counters that a selection may change, kept for R68. -/
def redoKeys : List Nat :=
  [Obj.STEPS_PLAYED, Obj.JUMPS_TAKEN, Obj.JUMP_LATE_CNT, Obj.JUMP_DISCARDED, Obj.LAST_JUMP_TICK, Obj.WAIT_TIMEOUTS,
   Obj.SAFE_JUMPS, Obj.UR_EPISODES, Obj.UR_LAST_TICK, Obj.UR_LAST_CAUSE, Obj.SEQ_STICKY, Obj.FILL_MIN]

/-- Note what the barker was before a selection (R68). -/
def Dev.noteRedo (d : Dev) (n : ChanId) : Dev :=
  let c := d.ch n
  let r : Redo := { tick := d.tick, bk := c.bk, spool := c.spool, regs := redoKeys.map fun k => (k, c.reg k),
                    pset := c.force.pset, target := c.force.target, prevTarget := c.force.prevTarget }
  d.setCh n { c with redo := some r }

/-- The barker as it was before a selection, with what has happened to it since: heads, a jump offered or an edge latched in
the tick `t`. -/
def Barker.wind (b r : Barker) (t : Tick) : Barker :=
  let kept : Bool := match b.pend with
    | some j => (j.src == .host || j.src == .jmp) && j.offered == t
    | none => false
  { r with heads := b.heads, safeHead := b.safeHead, stage := if kept then b.stage else r.stage,
           pend := if kept then b.pend else r.pend, held := b.held, holdReq := b.holdReq, stuckHold := b.stuckHold,
           urTick := b.urTick }

/-- The noted selection did not happen (R68, R249): the tick `t` is that of its commit. -/
def Dev.unselect (d : Dev) (n : ChanId) (r : Redo) (t : Tick) : Dev :=
  let d := d.modCh n fun c =>
    let c := { c with bk := c.bk.wind r.bk t, redo := none }
    let c := c.modSpool fun s => { s with rd := r.spool.rd, x := r.spool.x, st := r.spool.st }
    r.regs.foldl (fun c e => c.setReg e.1 e.2) c
  (d.members n).foldl (fun d m => d.modCh m fun c =>
    let c := c.modForce fun f => { f with pset := r.pset, target := r.target, prevTarget := r.prevTarget }
    if c.isArmed then c.modEng fun e => { e with setNow := r.pset } else c) d

/-- A JMP offer of the present commit that has been taken at it gives way to a host offer of the same commit (R249). -/
def Dev.giveWay (d : Dev) (n : ChanId) : Dev :=
  match (d.ch n).redo with
  | some r =>
    let jmp := r.bk.pend.any fun j => j.src == .jmp && j.offered == d.tick
    if r.tick == d.tick && (r.bk.seq == .ended || r.bk.dry) && jmp && (d.ch n).bk.pend.isNone then d.unselect n r d.tick else d
  | none => d

/-- Forward from the current step: the next step of the segment or of the stream, or a boundary. -/
def Dev.forward (d : Dev) (n : ChanId) : Dev :=
  let b := (d.ch n).bk
  if d.inSpool n then d.move moveFuel n (.stream ((d.ch n).spool.x + 1) false [])
  else
    let ds := d.desc b.seg
    if b.addr + 1 < dsStart ds + dsSteps ds then
      d.selectStep n { addr := b.addr + 1, seg := b.seg, word := d.readStep n (b.addr + 1), first := false, stream := none } []
    else d.move moveFuel n (.boundary b.seg)

/-- A LOOP_CLOSE loops back to the start of level 0 (R243, R245, R267). -/
def Dev.loopBack (d : Dev) (n : ChanId) (l : LoopLevel) : Dev :=
  let d := (d.trace (some n) .loopBack).modCh n fun c => c.modBk fun k => { k with loops := l :: k.loops.drop 1, cache := [], lines := [] }
  let w := ((l.head.lookup l.start).getD (d.step64 l.start))
  d.selectStep n { addr := l.start, seg := l.seg, word := w, first := l.sfirst, stream := l.spoolX } []

/-- The span of the current step ends at the present commit, and the barker selects (R239). -/
def Dev.spanEnd (d : Dev) (n : ChanId) : Dev :=
  let b := (d.ch n).bk
  let w := b.word.toNat
  if !b.due || b.held || !d.maySelect n then d
  else
    let d := d.noteRedo n
    match stKind w with
    | 5 =>
      let i := waitInput w
      if bit b.latch i then
        (d.modCh n fun c => c.modBk fun k =>
          { k with latch := putBit k.latch i false, latchOrg := k.latchOrg.filter (·.1 != i), waitTimeout := false,
                   carry := originUnion k.carry (((k.latchOrg.find? (·.1 == i)).map (·.2)).getD []) }).forward n
      else
        (((d.modCh n fun c => (c.seqFlag 16).modBk fun k => { k with waitTimeout := true }).cinc n 32 Obj.WAIT_TIMEOUTS)).forward n
    | 7 =>
      match b.loops with
      | [] => d.seqFault n 2
      | l :: ls =>
        if l.count == 1 then (d.modCh n fun c => c.modBk fun k => { k with loops := ls }).forward n
        else d.loopBack n { l with count := if l.count = 0 then 0 else l.count - 1, first := false }
    | 8 =>
      let r := d.condition n (d.creg n (Obj.COND (stRpair w)))
      let d := r.2
      if r.1 then
        match d.segAt (stValue w) with
        | some seg => (d.offerJump n .jumpIf seg d.tick []).forward n
        | none => ((d.modCh n (·.seqFlag 8)).raiseCh 0x0705 1 n (stValue w)).forward n
      else d.forward n
    | _ => d.forward n

/-- A pending jump may act at the present commit while every commit is a boundary: an ended chain (R254) or an under-run
episode (R265). -/
def Dev.openBoundary (d : Dev) (n : ChanId) : Dev :=
  let b := (d.ch n).bk
  if !d.maySelect n || b.holdReq then d
  else if b.seq == .ended then
    match b.pend with
    | some j =>
      if b.pendReady then
        let h := ((b.headFor j.seg).map (·.steps)).getD []
        (d.noteRedo n |>.countJump n j (dsClr (d.desc j.seg))).move moveFuel n (.enter j.seg j.origin h)
      else d.passBoundary n
    | none => d.passBoundary n
  else if b.dry && b.pendReady then (d.noteRedo n).move moveFuel n (.stream (d.ch n).spool.rd b.dryFirst [])
  else d

/-- Start at a segment (R252): NO_STEP with F1 NO_START where it cannot. -/
def Dev.startSeq (d : Dev) (n : ChanId) : Dev :=
  let seg := d.creg n Obj.START_SEG
  if d.isFollower n then d.modCh n fun c => c.modBk fun k => { k with seq := .noStep }
  else if !dsValid (d.desc seg) then
    let d := if (d.ch n).bk.pend.isSome then d.cinc n 32 Obj.JUMP_DISCARDED else d
    (d.modCh n fun c => c.modBk fun k => { k with seq := .noStep, pend := none }).raiseCh 0x0706 1 n
  else d.move moveFuel n (.enter seg [] [])

/-- What the arm commit clears, and the fill of the safe head (R252, R241, R266). -/
def Dev.armBarker (d : Dev) (n : ChanId) : Dev :=
  let seg := d.creg n Obj.SAFE_SEG
  d.modCh n fun c => c.modBk fun k =>
    { Barker.reset with heads := k.heads, seq := .noStep,
                        safeHead := if seg < 4096 then { st := .filling, seg := seg, steps := [] } else Head.reset }

/-- Entry to PARKING or SAFE, or the last resort, stops the barker (R255, R249, R268). -/
def Dev.stopBarker (d : Dev) (n : ChanId) : Dev :=
  d.modCh n fun c =>
    let wasDry := c.bk.dry
    let c := c.modBk fun k =>
      { k with seq := .stopped, sel := none, loops := [], pend := none, due := false, dry := false, held := k.holdReq,
               cache := [], lines := [], stage := Head.reset, carry := [], halt := false, stuckAddr := none, stuckRun := 0, stuckHold := false }
    let c := c.modForce fun f => { f with gates := 0, marks := 0, withheld := false }
    let c := { c with redo := none }
    if wasDry then c.modSpool fun s => { s with st := if s.st == .dry then .idle else s.st } else c

/-! ## Applying a step (R228, R232–R234) -/

/-- The force fields of a step reach one member (R80, R106). -/
def Dev.applyForce (d : Dev) (m : ChanId) (w : Nat) (differs : Bool) : Dev :=
  if stKind w == 1 || stKind w == 2 then
    if differs then d.modCh m fun c => c.modForce fun f => { f with withheld := true }
    else (d.modCh m fun c => c.modForce fun f => { f with withheld := false }).enterEntry m (stRpair w) (stKind w == 2)
      (codeVal (BitVec.ofNat 20 (stValue w))) false
  else d.modCh m fun c => c.modForce fun f => { f with withheld := false }

/-- The other own fields of a step reach one member; regular slot positions reset (R165). -/
def Dev.applyFields (d : Dev) (m : ChanId) (w : Nat) : Dev :=
  (d.modCh m fun c => c.modForce fun f =>
    { f with plan := if stKind w == 4 then f.plan else stPlan w, gates := stGates w, marks := stMarks w }).restartSeq m

/-- The kinds that act on the sine and the gust injector (R140, R229, R273). -/
def Dev.applyKind (d : Dev) (n : ChanId) (w : Nat) : Dev :=
  let v := stValue w
  match stKind w with
  | 9 =>
    d.modCh n fun c =>
      match natBits v 19 18 with
      | 0 => c.sineStart d.tick ⟨v % 16, by omega⟩
      | 1 => c.sineOff
      | _ => c.sinePhase d.tick
  | 0xA => d.modCh n fun c => if natBit v 19 then c.gustDisarm else c.gustArm ⟨v % 16, by omega⟩
  | _ => d

/-- A step applies at the present commit (R16, R232): its own fields on every member, and the compensation (R135). -/
def Dev.applyStep (d : Dev) (n : ChanId) (s : Selected) : Dev :=
  let w := s.word.toNat
  let differs := d.modeDiffers n w
  let d := (d.members n).foldl (fun d m => (d.applyForce m w differs).applyFields m w) d
  let d := if differs then d.raiseCh 0x0201 1 n s.addr else d
  (d.applyKind n w).compStep n

/-- The producers of a step that applies: segment start and markers (R233, R234). -/
def Selected.producers (s : Selected) (n : ChanId) : List Nat :=
  (if s.first then [chProd n 12] else []) ++
  ((List.range 4).filter fun b => bit (stMarks s.word.toNat) b).map fun b => chProd n (8 + b)

/-- The producers of a step that applies at the present commit wait for the commit's last command: entry to PARKING or SAFE
may still take the step back (R255). They fire under the selections that the commit has written (R313). -/
def Dev.fireStep (d : Dev) (n : ChanId) (s : Selected) : Dev :=
  { d with fab := { d.fab with steps := d.fab.steps ++ (s.producers n).map fun c => (c, s.origin) } }

/-! ## The end of a commit -/

/-- The commands of the present commit are over: the producers of the steps that applied fire, and the watermarks of the
spools are judged (R233, R234, R263). -/
def Dev.seal (d : Dev) : Dev :=
  let d := d.fab.steps.foldl (fun d x => d.fireCommit x.1 x.2) d
  let d := d.eachCh Dev.spoolMarks
  { d with fab := { d.fab with steps := [], atCommit := false } }

/-- The state as a command inside a tick finds it. -/
def State.sealed (s : State) : State :=
  if s.dev.fab.atCommit then { s with dev := s.dev.seal, shown := s.dev.seal } else s

/-- What a read served in an engine cycle of the tick sees (R39): in the first 16 ns the module as the commit before left it. -/
def State.seen (s : State) (cyc : Cycle) : Dev := if cyc.val < 8 then s.prior else s.sealed.shown

/-- A command inside a tick of the released module (R470): before release there are no ticks, and it has no effect. -/
def liveIn (s : State) (f : Dev → Dev) : Host.Outcome State Fault Refusal :=
  runIn s.sealed fun d => if d.power.released then f d else d

/-- A read in an engine cycle of the tick: the commit may still be under way. -/
def liveRead (s : State) (cyc : Cycle) (f : Dev → Dev) : Host.Outcome State Fault Refusal :=
  if cyc.val < 8 then runIn s fun d => if d.power.released then f d else d else liveIn s f

end Sys2Proof.Machine
end

