-- ==== Sys2Proof/Machine/EngineOps.lean ====
section
/-! DEFINITION. The tick engines (R282–R298): registers, saturation and rounding, ports, scratchpad addresses, publishing,
and the frame of one instruction. An engine command executes one instruction at its engine's next window cycle; the
commands of a window come in the order of their cycles (log 30). -/

namespace Sys2Proof.Machine

open Sys2Proof

/-! ## Registers (R286) -/

/-- The signed value of register X`i`; X0 reads 0. -/
def Engine.x (e : Engine) (i : Idx16) : Int := if i.val = 0 then 0 else e.regs[i].toInt

/-- Write register X`i`; a write of X0 is discarded. -/
def Engine.put (e : Engine) (i : Idx16) (v : Int) : Engine :=
  if i.val = 0 then e else { e with regs := e.regs.set i (BitVec.ofInt 48 v) }

/-- Note a saturation (R289). -/
def Engine.mark (e : Engine) (acted : Bool) : Engine := { e with sat := e.sat || acted }

/-- Limit to 24 signed bits (R288). -/
def sat24 (v : Int) : Int := satInt 24 v

/-- Write a value limited to 48 signed bits (R288). -/
def Engine.putSat (e : Engine) (i : Idx16) (v : Int) : Engine := (e.put i (satInt 48 v)).mark (decide (satInt 48 v ≠ v))

def Engine.acc (e : Engine) (one : Bool) : Int := if one then e.acc1.toInt else e.acc0.toInt
def Engine.setAcc (e : Engine) (one : Bool) (v : Int) : Engine :=
  if one then { e with acc1 := BitVec.ofInt 48 v } else { e with acc0 := BitVec.ofInt 48 v }

/-- Division by a power of two with a rounding mode (R289). -/
def shiftRound (mode : Nat) (v : Int) (k : Nat) : Int :=
  let d : Int := 2 ^ k
  match mode with
  | 0 => v.fdiv d
  | 1 => v.tdiv d
  | 2 => divRound v d
  | _ =>
    let q := v.fdiv d
    let r := 2 * (v - q * d)
    if r < d then q else if d < r then q + 1 else if q % 2 = 0 then q else q + 1

/-! ## One instruction -/

/-- Engine number TE of slot `k` of a channel (R3). -/
def teOf (n : ChanId) (k : Fin 8) : Nat := 8 * n.val + k.val

/-- Engine `k` of a channel. -/
def Dev.engine (d : Dev) (n : ChanId) (k : Fin 8) : Engine := (d.ch n).eng.te[k]

/-- The engine may execute an instruction of so many cycles in this window: its program ends within 480 cycles (R302), and
it is not halted, or a window is stepped (R457, R458). -/
def Dev.engReady (d : Dev) (n : ChanId) (k : Fin 8) (cycles : Nat) : Bool :=
  decide ((d.engine n k).cyc + cycles ≤ 480) && (!(d.ch n).eng.halted || (d.ch n).eng.step)

/-- Execute one instruction of an engine: `ok` is what the load-time check requires of its fields (R287, R302); a word
that the check refuses never runs. -/
def Dev.engRun (d : Dev) (n : ChanId) (k : Fin 8) (cycles : Nat) (ok : Bool) (f : Dev → Dev) : Dev :=
  if !ok || !d.engReady n k cycles then d
  else (f d).modCh n (·.modEngine k fun e => { e with cyc := e.cyc + cycles })

/-- An instruction that only reads and writes the engine's own registers. -/
def Dev.engAlu (d : Dev) (n : ChanId) (k : Fin 8) (cycles : Nat) (ok : Bool) (f : Engine → Engine) : Dev :=
  d.engRun n k cycles ok fun d => d.modCh n (·.modEngine k f)

/-- Capabilities of the program that a slot runs (R301). -/
def Dev.capsOf (d : Dev) (n : ChanId) (k : Fin 8) : BitVec 8 :=
  match sget none d.mem.sets (64 * n.val + (d.ch n).eng.setNow) with
  | none => 0
  | some p =>
    match sget none d.mem.progs (4096 * (stallOf n).val + p.progs.getD k.val 4096) with
    | none => 0
    | some q => q.caps

def capCal (c : BitVec 8) : Bool := bit c 0
def capFault2 (c : BitVec 8) : Bool := bit c 1
def capUrgent (c : BitVec 8) : Bool := bit c 2
def capShare (c : BitVec 8) : Bool := bit c 3

/-! ## Scratchpad (R291, R293) -/

/-- Base and size of a region for a slot of a channel (Table 10-7). -/
def regionOf (n : ChanId) (k : Fin 8) (region : Nat) : Nat × Nat :=
  match region with
  | 0 => (0x300 * posOf n + 0x40 * k.val, 64)
  | 1 => (0x300 * posOf n + 0x200, 256)
  | 2 => (0x1800, 1024)
  | _ => (0x1C00, 1024)

/-- The word address of an access, if it exists: static with B = X0, else indexed (R293). -/
def scrAddress (n : ChanId) (k : Fin 8) (region offset : Nat) (static store cal : Bool) (b : Int) : Option Nat :=
  let r := regionOf n k region
  if static then (if offset < r.2 then some (r.1 + offset) else none)
  else
    let i : Int := offset + b
    if store && !cal && region == 1 then some (r.1 + 0x80 + (i % 128).toNat)
    else if store && !cal && region == 2 then some (r.1 + 0x200 + (i % 512).toNat)
    else some (r.1 + (i % r.2).toNat)

/-- A store to a region's word is granted (Table 10-7, R301). -/
def storeGranted (region base addr : Nat) (caps : BitVec 8) : Bool :=
  let o := addr - base
  match region with
  | 0 => true
  | 1 => decide (0x80 ≤ o) || capCal caps
  | 2 => decide (0x200 ≤ o) || (if o < 0x100 then capShare caps else capCal caps)
  | _ => false

/-- A scratchpad word of a stall. -/
def Dev.scr (d : Dev) (s : StallId) (a : Nat) : Word64 := sget 0 d.mem.scr (8192 * s.val + a)

/-- Write a scratchpad word. -/
def Dev.setScr (d : Dev) (s : StallId) (a : Nat) (w : Word64) : Dev :=
  { d with mem := { d.mem with scr := sput 0 d.mem.scr (8192 * s.val + a) w } }

/-- The word an engine reads: bits [47:0] (R288). -/
def scrVal (w : Word64) : Int := (w.truncate 48).toInt

/-- The number that stands for the bulk side among the writers of a cycle: its data remains (R329). -/
def bulkTe : Nat := 512

/-- Of two writes of one word, `x` is carried out after `y`: cycle by cycle, in one cycle by engine number, the bulk side last
(R293, R329). -/
def ScrWrite.after (x y : ScrWrite) : Bool := decide (y.cyc < x.cyc) || (x.cyc == y.cyc && decide (y.te ≤ x.te))

/-- The last of the window's writes of a word up to a cycle. -/
def lastWrite (l : List ScrWrite) (key cyc : Nat) : Option ScrWrite :=
  (l.filter fun x => x.key == key && decide (x.cyc ≤ cyc)).foldl (fun a x => match a with
    | none => some x
    | some y => if x.after y then some x else some y) none

/-- A scratchpad word as a read in a window cycle finds it (R292, R296, R328). -/
def Dev.scrAt (d : Dev) (s : StallId) (a cyc : Nat) : Word64 :=
  let key := 8192 * s.val + a
  match d.mem.stores.find? (·.key == key) with
  | none => d.scr s a
  | some x => ((lastWrite d.mem.stores key cyc).map (·.val)).getD x.was

/-- A writer writes a word in a window cycle: the word holds what the last of the window's writes left. -/
def Dev.putScr (d : Dev) (s : StallId) (a cyc te : Nat) (w : Word64) : Dev :=
  let key := 8192 * s.val + a
  let was := ((d.mem.stores.find? (·.key == key)).map (·.was)).getD (d.scr s a)
  let l := { key := key, cyc := cyc, te := te, val := w, was := was : ScrWrite } :: d.mem.stores
  { d.setScr s a (((lastWrite l key 511).map (·.val)).getD w) with
    mem := { (d.setScr s a (((lastWrite l key 511).map (·.val)).getD w)).mem with stores := l } }

/-- A bulk-side write that acts at the present commit takes the next of the window's first cycles (R329). -/
def Dev.bulkStore (d : Dev) (s : StallId) (addr : Nat) (w : Word64) : Dev :=
  d.putScr s addr (d.mem.stores.filter fun x => x.te == bulkTe && x.key / 8192 == s.val).length bulkTe w

/-- Store a register into a scratchpad word; each write overwritten in its own cycle is counted on its channel (R293, R329). -/
def Dev.engStore (d : Dev) (n : ChanId) (k : Fin 8) (addr cyc : Nat) (v : Int) : Dev :=
  let s := stallOf n
  let key := 8192 * s.val + addr
  let meets := d.mem.stores.filter fun x => x.key == key && x.cyc == cyc
  let d := match lastWrite meets key cyc with
    | none => d
    | some x =>
      if x.te < teOf n k then d.cinc ⟨x.te / 8 % 64, by omega⟩ 32 Obj.ENG_COLLIDE
      else
        let d := d.cinc n 32 Obj.ENG_COLLIDE
        if x.te = bulkTe then d.inc 32 (Obj.SCR_COLLIDE s.val) else d
  d.putScr s addr cyc (teOf n k) (BitVec.ofInt 64 v)

/-- TABLE word of a stall. -/
def Dev.table (d : Dev) (s : StallId) (i : Nat) : Int := scrVal (d.scr s (0x1C00 + i))

/-- Index of a table lookup, limited (R288). -/
def lutIndex (a : Int) (s base : Nat) : Nat := (min (max (a.fdiv (2 ^ s)) 0) ((1023 : Int) - base)).toNat

/-- Result of LUTI (R289). -/
def Dev.lutInterp (d : Dev) (st : StallId) (a : Int) (s base : Nat) : Int :=
  let i := lutIndex a s base
  let j := min (i + 1) (1023 - base)
  let f : Int := if 0 ≤ a && a.fdiv (2 ^ s) == (i : Int) then a % 2 ^ s else 0
  let t := d.table st (base + i)
  t + divRound ((d.table st (base + j) - t) * f) (2 ^ s)

/-! ## Ports (R290, R291) -/

/-- CH_STATE (Table 3-10). -/
def ChState.code : ChState → Nat
  | .parked => 0 | .arming => 1 | .armed => 2 | .parking => 3 | .safe => 4

/-- WM_STATE (R214). -/
def WmState.code : WmState → Nat
  | .off => 0 | .unknown => 1 | .clear => 2 | .tripped => 3

/-- GANG_SIZE of a channel (R106). -/
def Dev.gangSize (d : Dev) (n : ChanId) : Nat := (d.members n).length

/-- Entry `j` of a converter (R292). -/
def Conv.entry? (v : Conv) (j : Nat) : Option Entry := v.entries[j]?

/-- A RAW port (Table 10-8). -/
def rawWord (now : Tick) (e : Entry) : Int :=
  let v := b2n e.valid * 2 ^ 47 + b2n e.re * 2 ^ 46 + e.src % 4 * 2 ^ 44 + e.pos % 8 * 2 ^ 41 + e.tags.toNat * 2 ^ 37 +
    e.input % 8 * 2 ^ 34 + e.pga % 4 * 2 ^ 32 + (ticksFrom e.stamp (now - 1)) % 4 * 2 ^ 30 + e.raw.toNat
  signedOf 48 v

/-- A CS port. -/
def csValue (v : Conv) (j : Nat) : Int := (((v.entry? j).bind (·.pub)).map (·.1)).getD 0

/-- A CS_TAGS port. -/
def csTags (v : Conv) : Int :=
  signedOf 48 ((List.range 8).foldl (fun a j =>
    match (v.entry? j).bind (·.pub) with
    | some p => a + (16 + p.2.toNat) * 2 ^ (5 * j)
    | none => a) 0)

/-- MONITORS (Table 10-5). -/
def Channel.monitorsPort (c : Channel) : Nat :=
  (List.finRange 4).foldl (fun a m => a + (c.wm[m].st.code + 4 * b2n c.wm[m].tripSeen) * 2 ^ (4 * m.val)) 0

/-- Ticks of DWELL counted before this window (Table 10-5, R240). -/
def Barker.dwellDone (b : Barker) : Nat := b.done + b2n (bit b.status 7) + b2n b.held

/-- Input port of the present window (Table 10-5); none for a port not listed. `now` is the module inside the window, which
the entries and the published values come from; every other port reads what its commit left (R290). -/
def Dev.inPort (d : Dev) (now : Dev) (n : ChanId) (port : Nat) : Option Int :=
  let c := d.ch n
  let e := now.ch n
  let l := d.cfg n
  let f := c.force
  let b := l.bk
  if 0x10 ≤ port ∧ port ≤ 0x17 then some (((e.mv.entry? (port - 0x10)).map (rawWord d.tick)).getD 0)
  else if 0x18 ≤ port ∧ port ≤ 0x1F then some (((e.mi.entry? (port - 0x18)).map (rawWord d.tick)).getD 0)
  else if 0x20 ≤ port ∧ port ≤ 0x27 then some (csValue e.mv (port - 0x20))
  else if 0x28 ≤ port ∧ port ≤ 0x2F then some (csValue e.mi (port - 0x28))
  else if 0x40 ≤ port ∧ port ≤ 0x43 then
    let xs := (d.st (stallOf n)).auxPort.filter (·.1 == posOf n)
    match xs[port - 0x40]? with
    | some x => some (signedOf 48 (2 ^ 47 + x.2.1 % 4096 * 2 ^ 33 + unsignedOf 18 x.2.2))
    | none => some 0
  else
    match port with
    | 0x00 => some (signedOf 48 d.tick.toNat)
    | 0x01 => some (codeVal f.target)
    | 0x02 => some (codeVal f.prevTarget)
    | 0x03 => some (signedOf 48 (b.word.toNat / 2 ^ 16))
    | 0x04 => some (stDwell b.word.toNat)
    | 0x05 => some b.dwellDone
    | 0x06 =>
      some (signedOf 48 (f.st.code + 8 * b2n f.fi + 16 * f.rpair + 256 * f.vrange + 1024 * f.irange + 8192 * (d.role n % 4) +
        32768 * ((d.gangSize n - 1) % 8) + 2 ^ 18 * posOf n + 2 ^ 21 * n.val))
    | 0x07 => some (c.reg Obj.STATUS)
    | 0x08 => some c.monitorsPort
    | 0x09 => some ((if c.sine.on then (c.sine.phaseAt d.tick 0).toNat + 2 ^ 32 else (c.sine.phaseAt d.tick 0).toNat : Nat))
    | 0x0A => some c.sine.ftw
    | 0x0B => some c.sine.amp
    | 0x0C =>
      some ((b2n (c.gustIn (d.tick - 1)) + 2 * b2n c.rc.active + 4 * b2n c.was.isHeld + 8 * b2n c.lw.probing +
        16 * b2n (f.st == .arming && f.armTick == d.tick) : Nat))
    | 0x0D => some c.lw.chip
    | 0x30 => some (csTags e.mv)
    | 0x31 => some (csTags e.mi)
    | 0x38 => some (c.reg Obj.OL_SHIFT)
    | 0x39 => some (c.reg Obj.CORR_LIM)
    | 0x3A => some (c.reg Obj.SLEW)
    | 0x3B => some (c.reg Obj.ZOUT)
    | 0x3C => some (c.reg Obj.LW_EN)
    | 0x3D => some c.comp.now
    | 0x3E => some (compRs n c.comp.now)
    | 0x3F => some (c.reg Obj.HEADROOM)
    | 0x44 => some (d.st (stallOf n)).tj
    | _ => none

/-- An output port is listed, and the capabilities grant it (Table 10-6, R301). -/
def outGranted (port : Nat) (caps : BitVec 8) : Bool :=
  port == 0x80 || port == 0x85 || (decide (0x81 ≤ port) && decide (port ≤ 0x84) && capCal caps)

/-- A pending value of the window, the latest first: the later value stands (R291, R297). -/
def Engines.out (e : Engines) (port : Nat) (v : Int) : Engines := { e with outs := (port, v) :: e.outs.filter (·.1 != port) }
def Engines.setFlag (e : Engines) (f : Nat) (v : Bool) : Engines :=
  { e with pflags := (f, v) :: e.pflags.filter (·.1 != f) }

/-! ## Publishing and offering (R294, R295) -/

/-- Limit to the 20-bit range. -/
def lim20 (v : Int) : Int := satInt 20 v

/-- Publish a corrected value of an entry. -/
def Entry.publish (e : Entry) (v : Int) (tags : BitVec 4) : Entry :=
  if !e.valid || e.src == 2 || e.pub.isSome then e
  else { e with pub := some (lim20 v, e.tags ||| tags ||| (if lim20 v = v then 0 else 4)) }

/-- Offer an entry that was published in this window. -/
def Entry.offering (e : Entry) (v : Int) (tags : BitVec 4) : Entry :=
  match e.pub with
  | none => e
  | some p => { e with offer := some (lim20 v, p.2 ||| tags) }

/-- Update entry `i` of a channel: 0 to 7 are MV and 8 to 15 are MI. -/
def Channel.modEntry (c : Channel) (i : Idx16) (f : Entry → Entry) : Channel :=
  c.modConv (decide (8 ≤ i.val)) fun v => { v with entries := v.entries.modify (i.val % 8) f }

end Sys2Proof.Machine
end

