-- ==== Sys2Proof/Machine/FifoOps.lean ====
section
/-! DEFINITION. The result FIFO, authentication blocks and result sessions (R203–R206, R451). -/

namespace Sys2Proof.Machine

open Sys2Proof

/-- Entries of the result FIFO (R203). -/
def fifoSize : Nat := 16384

def Dev.modFifo (d : Dev) (f : Fifo → Fifo) : Dev := { d with fifo := f d.fifo }

/-- Free entries. -/
def Fifo.free (f : Fifo) : Nat := fifoSize - f.entries.length

/-- A record fits: room stays for its group's block and for the SESSION_END block (R204). -/
def Fifo.fits (f : Fifo) : Bool := decide (f.entries.length + 3 ≤ fifoSize)

/-- Form a block over the present group (R205, R206, Table 6-6). The FIRST_SEQ of a block that covers no record is a free
value (log 5). -/
def Dev.formBlock (d : Dev) (sessionEnd : Bool) : Dev :=
  let x := d.fresh
  let d := if d.fifo.group.isEmpty then x.2 else d
  let f := { d.fifo with groupSeq := if d.fifo.group.isEmpty then x.1 else d.fifo.groupSeq }
  let nrec := f.group.length
  let head := leBytes 2 0x4154 ++ leBytes 1 1 ++ leBytes 1 nrec ++ leBytes 4 f.session ++ leBytes 4 f.blkSeq ++
    leBytes 4 f.groupSeq ++ leBytes 6 d.tick.toNat ++ leBytes 2 (b2n (decide (nrec < 16)) + 2 * b2n sessionEnd) ++
    leBytes 4 f.droppedBlk ++ leBytes 4 0
  let tag := bytesN 32 (Config.hmac32 f.key (f.prevTag ++ head ++ f.group.flatten))
  d.modFifo fun f => { f with entries := f.entries ++ [.block (head ++ tag)], group := [], blkSeq := f.blkSeq + 1,
                              droppedBlk := 0, prevTag := tag }

/-- The statement of a result session (Table 16-10). START_DC is the Distributed Clocks time while they run. -/
def Dev.sessionStatement (d : Dev) (id : Nat) (anchor key : List Byte) : List Byte :=
  let clear := d.sec.life != .owned
  let head := leBytes 2 0x5253 ++ leBytes 1 1 ++ leBytes 1 (b2n clear + 2 * min 3 d.sec.debug) ++ leBytes 4 id ++
    leBytes 6 d.tick.toNat ++ leBytes 1 d.sync.gen ++ leBytes 1 d.sec.d3Count ++
    leBytes 8 (Config.fitted Obj.DEVICE_FP) ++ leBytes 8 (if d.ec.sync0 then d.sync.dcNow.toNat else 0) ++ anchor
  let wrap := bytesN 76 (Config.trustSign 2 (head ++ key))
  let body := head ++
    (if clear then leBytes 97 0 ++ leBytes 3 0 ++ key ++ leBytes 28 0
     else bytesN 97 (Config.trustSign 1 head) ++ leBytes 3 0 ++ wrap)
  body ++ bytesN 96 (Config.trustSign 3 body)

/-- A result session starts (R206, R451). -/
def Dev.startSession (d : Dev) : Dev :=
  let id := d.fifo.session + 1
  let r := Config.random d.sec.draws 32
  let key := bytesN 48 (Config.kdf r (label "RES") (leBytes 4 id) 48)
  let anchor := bytesN 32 (Config.kdf r (label "ANCHOR") (leBytes 4 id) 32)
  let st := d.sessionStatement id anchor key
  let d := { d with sec := { d.sec with draws := d.sec.draws + 1, prevStatement := d.sec.statement, statement := st } }
  d.modFifo fun f => { f with session := id, recSeq := 0, blkSeq := 0, prevTag := anchor, key := key, group := [],
                              groupSeq := 0, droppedBlk := 0, endWait := none }

/-- The session ends with its SESSION_END block; a roll begins the next (R205, R206). -/
def Dev.finishSession (d : Dev) (roll : Bool) : Dev :=
  let d := d.formBlock true
  if roll then d.startSession else d.modFifo fun f => { f with key := [], endWait := none }

/-- End the session now, or wait for an entry (R204). -/
def Dev.endSession (d : Dev) (roll : Bool) : Dev :=
  if d.fifo.key.isEmpty || d.fifo.endWait.isSome then d
  else if d.fifo.free = 0 then d.modFifo fun f => { f with endWait := some ⟨roll⟩ }
  else d.finishSession roll

/-- A record reaches the FIFO (R197, R203, R204). An episode of FIFO_FULL is a run of dropped records that the first stored one
ends (log 96). -/
def Dev.enterRecord (d : Dev) (r : TallyRec) : Dev :=
  let f := d.fifo
  let seq := f.recSeq
  let bytes := recordBytes r seq
  let d := match (if h : r.chan < 64 then some (⟨r.chan, h⟩ : ChanId) else none) with
    | some n => d.cinc n 32 Obj.TALLY_CLOSED
    | none => d
  let d := d.modFifo fun f => { f with recSeq := f.recSeq + 1 }
  if f.fits then
    let d := d.modFifo fun f =>
      { f with entries := f.entries ++ [.record seq bytes], group := f.group ++ [bytes],
               groupSeq := if f.group.isEmpty then seq else f.groupSeq,
               groupTick := if f.group.isEmpty then d.tick else f.groupTick, inDrop := false }
    if d.fifo.group.length ≥ 16 && d.fifo.endWait.isNone then d.formBlock false else d
  else
    let first := !f.inDrop
    let d := (d.modFifo fun f => { f with droppedBlk := f.droppedBlk + 1, inDrop := true }).inc 32 Obj.FIFO_DROPPED
    if first then d.raiseNow 0x0501 1 .device 0xFF else d

/-- The records of a channel whose closing window has been finished enter, units in ascending order (R197, R298). -/
def Dev.enterRecords (d : Dev) (n : ChanId) : Dev :=
  let now := (d.ch n).recs.filter fun r => r.closed != d.tick
  let rs := (List.range 16).flatMap fun u => now.filter fun r => r.unit == u
  let d := rs.foldl (fun d r =>
    let late := (d.ch n).lateFor r
    let d := (List.range late).foldl (fun d _ => d.cinc n 32 Obj.TALLY_LATE) d
    d.enterRecord (if 0 < late then { r with body := { r.body with flags := putBit r.body.flags tfLate true } } else r)) d
  if rs.isEmpty then d else d.modCh n fun c => { c with recs := c.recs.filter fun r => r.closed == d.tick }

/-- Release read entries from the head (R203, R420). -/
def Dev.releaseEntries (d : Dev) (k : Nat) : Dev :=
  d.modFifo fun f => { f with entries := f.entries.drop k, readCnt := f.readCnt - k, head := f.head + min k f.entries.length }

/-- The FIFO's hold requests under FIFO_POLICY HOLD (R204): raised below HOLD_MARK free entries, lowered at
2 × HOLD_MARK. -/
def Dev.fifoHold (d : Dev) : Dev :=
  let mark := d.reg Obj.HOLD_MARK
  let free := d.fifo.free
  if d.fifo.holding then
    if 2 * mark ≤ free || d.reg Obj.FIFO_POLICY ≠ 1 then d.modFifo fun f => { f with holding := false } else d
  else if d.reg Obj.FIFO_POLICY = 1 && free < mark then
    (d.modFifo fun f => { f with holding := true }).raiseNow 0x0502 1 .device 0xFF
  else d

/-- Bytes of an entry. -/
def FifoEntry.bytes : FifoEntry → List Byte
  | .record _ b => b
  | .block b => b

/-- FIFO_DATA: up to 16 entries from the head (R203). -/
def Fifo.data (f : Fifo) : List Byte := ((f.entries.take 16).map (·.bytes)).flatten

end Sys2Proof.Machine
end

