-- ==== Sys2Proof/Machine/FaultOps.lean ====
section
/-! DEFINITION. The fault manager (R487–R508): presentation, queue, handling, SAFE entry and its policies, parking, the
last resort, logs and FLT_N. -/

namespace Sys2Proof.Machine

open Sys2Proof

/-! ## What a commit applied is taken back (R255, R492) -/

/-- The channel's state that a step's application at the present commit may change, beside the channel as it was before
its window was taken over. -/
def Channel.applied (c old : Channel) : Applied :=
  { force := c.force, ol := c.ol, sine := c.sine, comp := c.comp, rc := c.rc, gust := c.gust, tally := c.tally,
    recs := c.recs, wm := c.wm, eng := old.eng, mvSeen := old.mv.entries, miSeen := old.mi.entries, units := old.tally,
    lw := old.lw }

/-- Entry to PARKING or SAFE at the present commit: the step selected at the commit before does not apply, and the
applied values stay as committed then. What the analog side has done since stays. -/
def Channel.undoApply (c : Channel) (a : Applied) : Channel :=
  let f := c.force
  { c with force := { a.force with prevSetpt := a.force.setpt, engHi := f.engHi, engLo := f.engLo, seenHi := f.seenHi, seenLo := f.seenLo,
                                   latHi := f.latHi, latLo := f.latLo, acc := f.acc, tripped := f.tripped,
                                   latch := f.latch, disc := f.disc, wordLost := f.wordLost, kept := f.kept },
           ol := a.ol, sine := a.sine, comp := a.comp, rc := a.rc, gust := { a.gust with profiles := c.gust.profiles },
           tally := a.tally, recs := a.recs, undo := none }

/-- What the present commit applied to a channel, if it applied anything. -/
def Dev.appliedNow (d : Dev) (n : ChanId) : Option Applied :=
  match (d.ch n).undo with
  | some (t, a) => if t = d.tick then some a else none
  | none => none

/-- A monitor that a range-change window of the present commit touched is as it was; a write of its word stays, and restarts it
where it changes its code or HYST (R217). -/
def Dev.undoMonitor (d : Dev) (n : ChanId) (old : Monitor) (m : Idx4) : Dev :=
  if !((d.ch n).wm[m].suspended || old.suspended) then d
  else
    let w := d.creg n (Obj.WM_CFG m.val)
    let f := (d.ch n).force
    let changed := old.st != .off && !old.suspended && ((wmCodeOf m w f.vrange f.irange).1 != old.code || wmHyst w != old.hyst)
    let d := d.modCh n fun c => (c.modWm m fun _ => old).wmRecode m
    if changed then d.modCh n (·.wmRestart m d.tick)
    else if old.res == .none then d
    else d.modSt (stallOf n) fun s => { s with resQ := insertRes (old.restart, wmKey n m) s.resQ }

/-- The present commit's application of a step is taken back; its producers do not fire (R255). -/
def Dev.takeBack (d : Dev) (n : ChanId) (a : Applied) : Dev :=
  let d := { d with fab := { d.fab with steps := d.fab.steps.filter fun q => q.1 / 16 != n.val } }
  (List.finRange 4).foldl (fun d m => d.undoMonitor n a.wm[m] m) (d.modCh n (·.undoApply a))

def Dev.undoApply (d : Dev) (n : ChanId) : Dev :=
  match d.appliedNow n with
  | some a => d.takeBack n a
  | none => d

/-- Entries of a discarded window as the next window presents them again, ahead of its own (R298). -/
def represent (old next : List Entry) : List Entry :=
  ((old.filter fun e => !e.inHeld).map fun e => { e with re := true, pub := none, offer := none }) ++ next

/-- The value that a scratchpad word had when the present window opened becomes another one. -/
def Dev.rewind (d : Dev) (key : Nat) (w : Word64) : Dev :=
  if d.mem.stores.any (·.key == key) then
    { d with mem := { d.mem with stores := d.mem.stores.map fun x => if x.key == key then { x with was := w } else x } }
  else { d with mem := { d.mem with scr := sput 0 d.mem.scr key w } }

/-- The stores of a channel's engines in the window that ended are taken back (R298): a word holds what the other writes
of that window left. -/
def Dev.undoStores (d : Dev) (n : ChanId) : Dev :=
  let mine := d.mem.ended.filter fun x => x.te / 8 == n.val
  let rest := d.mem.ended.filter fun x => x.te / 8 != n.val
  mine.foldl (fun d x => d.rewind x.key (((lastWrite rest x.key 511).map (·.val)).getD x.was))
    { d with mem := { d.mem with ended := rest } }

/-- The engine state goes back to the commit that opened the window (R298). -/
def Engines.rollBack (e : Engines) : Engines :=
  { e with te := e.saved, lags := e.savedLags, chips := e.savedChips, outs := [], pflags := [], faults := [] }

/-- SAFE entry at a commit discards the window that it ends (R492): the engines, the tally units and the load watch are as
they were, and the entries come again. -/
def Dev.undoWindow (d : Dev) (n : ChanId) : Dev :=
  match d.appliedNow n with
  | some a =>
    let d := ((d.undoStores n).cinc n 32 Obj.ENG_DISCARDED).takeBack n a
    d.modCh n fun c =>
      let e := a.eng.rollBack
      let c := c.modEng fun x => { x with te := e.te, saved := e.te, lags := e.lags, savedLags := e.lags, chips := e.chips,
                                          savedChips := e.chips, flags := e.flags, ports := e.ports }
      let c := (c.modConv false fun v => { v with entries := represent a.mvSeen v.entries }).modConv true
        fun v => { v with entries := represent a.miSeen v.entries }
      let days := if c.unitsIn.tick = d.tick then
          (List.finRange 16).map fun u => (u.val, (⟨a.units[u], (c.dayOf u d.tick).ev, (c.dayOf u d.tick).ignored⟩ : TallyDay))
        else []
      { c with tally := a.units, lw := a.lw, days := days }
  | none => d

/-- The program set that the windows of a channel run from the present commit on (Table 10-1). -/
def Channel.runSet (c : Channel) (k : Nat) : Channel := c.modEng fun e => { e with setNow := k }

/-! ## Parking (R93, R94) -/

/-- The outer loop at the arm commit and at entry to PARKING or SAFE (R127). -/
def Channel.outerRestart (c : Channel) : Channel :=
  { c with ol := { c.ol with corr := 0, ramp := codeVal c.force.setpt } }

/-- A channel enters PARKING at the present commit from ARMED, or from SAFE under HOLD. -/
def Dev.enterParking (d : Dev) (n : ChanId) : Dev :=
  let d := (((d.undoApply n).stopBarker n).tallyCloseAll n .park).sysAbortOn n 1
  (d.gustStop n d.commitAt).modCh n fun c => ((c.outerRestart.sineOff).runSet 63).modForce fun f =>
    { f with st := .parking, phase := .ramp, phaseTick := d.tick, rampFrom := f.setpt, rampLen := c.reg Obj.PARK_RAMP,
             confirmed := false }

/-- A channel that is ARMING parks from its current point (R94): with the disconnect open it is PARKED at the next
commit, otherwise the wait for low current begins. -/
def Dev.parkArming (d : Dev) (n : ChanId) : Dev :=
  let d := (d.stopBarker n).tallyCloseAll n .park
  d.modCh n fun c => (c.runSet 63).modForce fun f =>
    { f with st := .parking, armMask := 0, phase := if f.disc then .wait else .opened,
             phaseTick := if f.disc then d.tick else d.tick - 15 }

/-- An arm in progress ends with ABORTED on every channel of a request still ARMING (R94). -/
def Dev.abortArm (d : Dev) (mask : Word64) (result : Nat) : Dev :=
  let d := d.setReg Obj.ARM_RESULT result
  d.inMask mask fun d n => if (d.ch n).force.st == .arming then d.parkArming n else d

/-- A park request reaches a channel (R93, R94, R105). -/
def Dev.parkOne (d : Dev) (n : ChanId) : Dev :=
  let f := (d.ch n).force
  match f.st with
  | .armed => d.enterParking n
  | .safe => if f.pol == .hold then d.enterParking n else d
  | .arming => d.abortArm f.armMask 0x0C
  | .parked | .parking => d

/-- A park mask with every gang completed (R105). -/
def Dev.gangMask (d : Dev) (mask : Word64) : Word64 :=
  maskOf fun n => (d.gangOf n).any fun m => bit mask m.val

/-- A park request acts (R93). -/
def Dev.parkMask (d : Dev) (mask : Word64) : Dev := d.inMask (d.gangMask mask) fun d n => d.parkOne n

/-! ## SAFE (R95, R492, R493) -/

/-- Rank of the policy that a fault code asks for (Table 18-2, R493). -/
def policyRank (code : Nat) : Nat :=
  match code with
  | 0x0205 | 0x020A => 1
  | 0x0206 | 0x0207 | 0x0208 | 0x020B => 2
  | _ => 0

/-- The policy of a rank begins at the present commit. -/
def Dev.startPolicy (d : Dev) (n : ChanId) (rank : Nat) : Dev :=
  let g := d.cfg n
  let pol : SafePol := match rank with | 0 => if g.reg Obj.SAFE_POLICY = 0 then .hold else .ramp | 1 => .ramp | _ => .opened
  let d := d.modCh n fun c => c.modForce fun f => { f with pol := pol, polRank := rank }
  match pol with
  | .hold =>
    let f := (d.ch n).force
    let p := d.safeClamps n f.baseHi f.baseLo
    d.setClamps n p.1 p.2
  | .ramp =>
    let len := g.reg Obj.SAFE_RAMP
    d.modCh n fun c => c.modForce fun f =>
      { f with phase := .ramp, phaseTick := d.tick, rampFrom := f.setpt, rampLen := len,
               setpt := if len = 0 then zeroCode else f.setpt }
  | .opened =>
    d.modCh n fun c => c.modForce fun f =>
      { f with phase := .opened, phaseTick := d.tick, setpt := zeroCode, disc := false }

/-- SAFE entry of an ARMED channel at the present commit (R492, R95). -/
def Dev.safeEntry (d : Dev) (n : ChanId) (rank : Nat) : Dev :=
  let d := (((d.undoWindow n).stopBarker n).tallyCloseAll n .safe).sysAbortOn n 1
  let rank := if (d.ch n).force.tripped then 2 else rank
  let d := (d.gustStop n d.commitAt).modCh n fun c => ((c.outerRestart.sineOff).runSet 63).modForce fun f =>
    { f with st := .safe, safeTick := d.tick, confirmed := false, latch := true, phase := .idle }
  let d := { d with flt := { d.flt with awaiting := (n.val, d.tick) :: d.flt.awaiting } }
  d.startPolicy n rank

/-- What a handling did to a channel (Table 18-5 ACTION). -/
inductive Act where | logged | own | ramp | opened | latch | aborted | last
deriving DecidableEq, Repr

def Act.code : Act → Nat
  | .logged => 0 | .own => 1 | .ramp => 2 | .opened => 3 | .latch => 4 | .aborted => 5 | .last => 6
/-- Strength of an action (R505). -/
def Act.rank : Act → Nat
  | .logged => 0 | .latch => 1 | .aborted => 2 | .own => 3 | .ramp => 4 | .opened => 5 | .last => 6
def Act.ofRank : Nat → Act | 0 => .own | 1 => .ramp | _ => .opened

/-- An F2 to F4 handling acts on one channel by its state (Table 18-3). The second part says whether a policy was
switched. -/
def Dev.faultOn (d : Dev) (n : ChanId) (rank : Nat) : Dev × Act × Bool :=
  let f := (d.ch n).force
  let latched := fun (d : Dev) => d.modCh n fun c => c.modForce fun f => { f with latch := true }
  match f.st with
  | .armed =>
    let d := d.safeEntry n rank
    (d, Act.ofRank (d.ch n).force.polRank, false)
  | .safe =>
    if f.polRank < rank then ((latched d).startPolicy n rank, Act.ofRank rank, true)
    else (latched d, Act.ofRank f.polRank, false)
  | .arming =>
    let d := latched d
    let wasClosed := f.disc
    let d := (d.stopBarker n).tallyCloseAll n .safe
    let d := d.modCh n fun c => (c.runSet 63).modForce fun f =>
      { f with st := .parking, armMask := 0, disc := false, phase := .opened,
               phaseTick := if wasClosed then d.tick else d.tick - 15 }
    (d.abortArm f.armMask 0x0C, .aborted, false)
  | .parking | .parked => (latched d, .latch, false)

/-- Channels in the scope of a fault (Table 18-2, R105). -/
def Dev.scopeChans (d : Dev) (f : FaultRec) : List ChanId :=
  match f.scope with
  | .device => List.finRange 64
  | .stall => (List.finRange 64).filter fun n => n.val / 8 == f.unit
  | .channel =>
    let base := (List.finRange 64).filter fun n =>
      if f.code = 0x0208 then n.val / 2 == f.unit / 2 else n.val == f.unit
    (List.finRange 64).filter fun n => (d.gangOf n).any fun m => base.contains m

/-! ## Logs (R505, R506, R508) -/

/-- Write one log entry at the present commit. -/
def Dev.logFault (d : Dev) (f : FaultRec) (act : Act) (nested switched : Bool) : Dev :=
  let m := d.flt
  let e : LogEntry := { tick := d.tick, code := f.code, cls := f.cls, nested := nested, escal := f.cause != 0,
                        switched := switched, scope := f.scope, unit := f.unit, action := act.code, detail := f.detail,
                        detect := f.detect, drops := min 65535 m.drops, seq := m.seq, cause := f.cause }
  let lost := decide (512 ≤ m.log.length) && (match m.log.head? with | some x => decide (m.readUpto ≤ x.seq) | none => false)
  let d := { d with flt := { m with log := (m.log ++ [e]).drop (m.log.length - 511), seq := m.seq + 1, drops := 0,
                                    hist := if 2 ≤ f.cls then (m.hist ++ [e]).drop (m.hist.length - 63) else m.hist } }
  let d := (if lost then d.inc 32 Obj.FLOG_LOST else d).trace (if f.scope = .channel then chanOf f.unit else none) (.fault f.code)
  if d.reg Obj.FAULT_MIN ≤ f.cls then
    (if d.fab.fired.contains 0x430 then d else d.fireCommit 0x430).raiseIrq 5
  else d

/-- Whole scope latched, and SAFE or PARKED, under an earlier fault (R495). -/
def Dev.isNested (d : Dev) (f : FaultRec) : Bool :=
  let cs := d.scopeChans f
  2 ≤ f.cls && cs.all (fun n => (d.ch n).isSafe || (d.ch n).isParked) &&
  (match f.cls with
   | 2 => cs.all fun n => (d.ch n).force.latch
   | 4 => !d.flt.f4.isEmpty
   | _ => (List.finRange 8).all fun s => (f.scope == .stall && s.val != f.unit) || !(d.st s).f3.isEmpty)

/-- Latch of an F3 or F4 fault (Table 18-1). -/
def Dev.setLatch (d : Dev) (f : FaultRec) : Dev :=
  match f.cls with
  | 3 => d.eachSt fun d s => if s.val = f.unit then d.modSt s fun x => { x with f3 := x.f3 ++ [f.code] } else d
  | 4 => { d with flt := { d.flt with f4 := d.flt.f4 ++ [f.code] } }
  | _ => d

/-- Handle one fault of class F0 to F4 at the present commit (R487, R491, R505). -/
def Dev.handleOne (d : Dev) (f : FaultRec) : Dev :=
  if f.cls ≤ 1 then d.logFault f .logged false false
  else
    let nested := d.isNested f
    let rank := policyRank f.code
    let quiet := d.power.state == .quiet
    let r := (d.scopeChans f).foldl (fun (a : Dev × Act × Bool) n =>
      let x := a.1.faultOn n rank
      (x.1, if a.2.1.rank < x.2.1.rank then x.2.1 else a.2.1, a.2.2 || x.2.2)) (d, Act.latch, false)
    (r.1.setLatch f).logFault f (if quiet then .latch else r.2.1) nested r.2.2

/-! ## The manager (R495–R497) -/

/-- Last commit that a handling of a class begun at `e` occupies. -/
def lastOf (cls : Nat) (e : Tick) : Tick := if cls ≤ 1 then e else e + 1

/-- The manager is free for a class at the present commit; a handling of the class begun at this very commit may be
joined (R495). -/
def Dev.managerFree (d : Dev) (cls : Nat) : Bool :=
  d.flt.active.all fun a => a.1 < cls || (a.1 == cls && a.2 == lastOf cls d.tick) || !reached a.2 d.tick

/-- The controller carries out an F5 fault: the stalls concerned are read at the next commit (R495, R500). -/
def Dev.beginF5 (d : Dev) (f : FaultRec) : Dev :=
  let d := { d with flt := { d.flt with f5log := d.flt.f5log ++ [f] } }
  d.eachSt fun d s => if f.scope == .device || s.val == f.unit then d.modSt s fun x => { x with lastResort := some f } else d

/-- Begin, or join, a handling at the present commit. -/
def Dev.handle (d : Dev) (cls : Nat) (fs : List FaultRec) : Dev :=
  let a := (cls, lastOf cls d.tick)
  let d := { d with flt := { d.flt with active := if d.flt.active.contains a then d.flt.active else d.flt.active ++ [a] } }
  if cls = 5 then fs.foldl Dev.beginF5 d else fs.foldl Dev.handleOne d

/-- Remove the first entry of a class. -/
def dropFirst (cls : Nat) : List FaultRec → List FaultRec
  | [] => []
  | f :: fs => if f.cls = cls then fs else f :: dropFirst cls fs

/-- Device fault QUEUE_ESCALATE (R496). -/
def Dev.escalate (d : Dev) (cause : Nat) : Dev :=
  if d.flt.escal.isSome then d
  else
    let f : FaultRec := { code := 0x0D01, cls := 4, scope := .device, unit := 0xFF, detail := 0, detect := d.tick, cause := cause }
    let d := d.inc 32 (Obj.FAULT_CNT_F0 4)
    if d.managerFree 4 then d.handle 4 [f] else { d with flt := { d.flt with escal := some f } }

/-- A fault enters the queue (R496). -/
def Dev.enqueue (d : Dev) (f : FaultRec) : Dev :=
  let q := d.flt.queue
  if q.length < 32 then { d with flt := { d.flt with queue := q ++ [f] } }
  else if q.any (·.cls ≤ 1) then
    let low := if q.any (·.cls == 0) then 0 else 1
    { d with flt := { d.flt with queue := dropFirst low q ++ [f], drops := d.flt.drops + 1 } }.inc 32 Obj.FQ_OVF
  else d.escalate f.code

/-- Queued faults of a class, where it is the highest class waiting (R496). -/
def Dev.queuedFor (d : Dev) (cls : Nat) : List FaultRec :=
  if d.flt.queue.any (cls < ·.cls) then [] else d.flt.queue.filter (·.cls == cls)

/-- The escalation latch waits with the F4 faults, ahead of every queued entry (R496). -/
def Dev.escalFor (d : Dev) (cls : Nat) : List FaultRec := if cls = 4 then d.flt.escal.toList else []

/-- A class at the present commit: one handling takes what waits for it and what is presented, or the queue takes the latter
(R490, R495–R497). -/
def Dev.presentClass (d : Dev) (cls : Nat) (fs : List FaultRec) : Dev :=
  let d := if fs.isEmpty then d else d.incBy 32 (Obj.FAULT_CNT_F0 cls) fs.length
  if !d.managerFree cls then fs.foldl Dev.enqueue d
  else
    let q := d.queuedFor cls
    let all := d.escalFor cls ++ q ++ fs
    if all.isEmpty then d
    else
      { d with flt := { d.flt with queue := if q.isEmpty then d.flt.queue else d.flt.queue.filter (·.cls != cls),
                                   escal := if cls = 4 then none else d.flt.escal } }.handle cls all

/-- Faults are presented in descending class, and what waits begins where the manager is free. -/
def Dev.presentDue (d : Dev) : Dev :=
  let now := (d.flt.due.filter fun x => reached d.tick x.1).map (·.2)
  let d := { d with flt := { d.flt with due := d.flt.due.filter fun x => !reached d.tick x.1 } }
  [5, 4, 3, 2, 1, 0].foldl (fun d c => d.presentClass c (now.filter (·.cls == c))) d

/-- Present until no fault of the present commit is left: handling one may raise another (R364, R254). -/
def Dev.present (d : Dev) : Dev := (d.presentDue).presentDue

/-- What waits begins where the manager is free (R496). -/
def Dev.beginQueued (d : Dev) : Dev := [5, 4, 3, 2, 1, 0].foldl (fun d c => d.presentClass c []) d

/-! ## The last resort (R96, R499, R500) -/

/-- The stall die acts: every DAC to zero, every disconnect opens, sine and gusts stop, clamps to CLAMP_MIN (R96, R144, R274,
R500). An open window ends when the controller reads the stall (R152). -/
def Dev.lastResort (d : Dev) (s : StallId) : Dev :=
  (chansOf s).foldl (fun d n =>
    let d := (d.gustStop n d.commitAt).modCh n fun c => (c.sineOff).modForce fun f =>
      { f with setpt := zeroCode, prevSetpt := zeroCode, disc := false, engHi := false, engLo := false, kept := none }
    d.setClamps n 0x802 0x7FE) d

/-- The controller reads the stall (R500): its channels are PARKED, tallies close, latches are set and the entry is
logged. -/
def Dev.readStall (d : Dev) (s : StallId) (code : Nat) : Dev :=
  let d := (chansOf s).foldl (fun d n =>
    let arming := (d.ch n).force.st == .arming
    let mask := (d.ch n).force.armMask
    let d := (((d.undoApply n).stopBarker n).tallyCloseAll n .safe).sysAbortOn n 1
    let d := (d.becomeParked n).modCh n fun c => c.modForce fun f => { f with latch := true }
    if arming then d.abortArm mask 0x0C else d) d
  d.modSt s fun x => { x with f3 := x.f3 ++ [code], f5 := x.f5 ++ [code], lastResort := none }

/-- F5 handlings reach their second commit (R495). -/
def Dev.readStalls (d : Dev) : Dev :=
  let fs := d.flt.f5log
  let nested := fs.map d.isNested
  if fs.isEmpty then d
  else
    let d := d.eachSt fun d s =>
      match (d.st s).lastResort with
      | some f => if fs.any (fun x => x.scope == .device || x.unit == s.val) then d.readStall s f.code else d
      | none => d
    let d := { d with flt := { d.flt with f5log := [] } }
    (fs.zip nested).foldl (fun d (f, nested) =>
      ((d.logFault f .last nested false).setReg Obj.LAST_F5_TICK d.tick.toNat).setReg Obj.LAST_F5_CODE f.code) d

/-! ## FLT_N (R508) -/

/-- Latches of class `c` are set. -/
def Dev.latchOf (d : Dev) (c : Nat) : Bool :=
  match c with
  | 2 => !d.allCh fun x => !x.force.latch
  | 3 => d.stalls.toList.any fun s => !s.f3.isEmpty
  | 4 => !d.flt.f4.isEmpty
  | 5 => d.stalls.toList.any fun s => !s.f5.isEmpty
  | _ => false

/-- IMAGE_STATE is MISSING, or FLASH_BAD, which is treated as it (R473, R477). -/
def Dev.imageMissing (d : Dev) : Bool := decide (2 ≤ d.reg Obj.IMAGE_STATE)

/-- FLT_N at the end of a commit (R508). -/
def Dev.fltLand (d : Dev) : Bool :=
  !d.power.released || d.power.state == .boot || d.imageMissing ||
  [2, 3, 4, 5].any (fun c => decide (d.reg Obj.FLT_MIN ≤ c) && d.latchOf c) || d.latchOf 5

/-- Faults are presented, and FLT_N and the MKO pins follow (R276, R490, R508). -/
def Dev.settleFaults (d : Dev) : Dev :=
  let d := d.present
  let p := { d.power with fltN := if d.power.state == PowerState.off then d.power.fltN else d.fltLand }
  Dev.mkoLands { d with power := p }

end Sys2Proof.Machine
end

