-- ==== Sys2Proof/Machine/Faults.lean ====
section
/-! DEFINITION. Commands of the fault manager, of the last resort and of the stall links (R12, R13, R487–R508, R546). -/

namespace Sys2Proof.Machine

open Sys2Proof

/-- `FAULT_HANDLING_BEGIN` (R496): at a commit, which begins what waits of itself. -/
def execFaultHandlingBegin (s : State) : Host.Outcome State Fault Refusal := liveAt s fun d => d.beginQueued.settleFaults

/-- `SAFE_CONFIRM` (R492): at the commit after the entry. -/
def execSafeConfirm (n : ChanId) (s : State) : Host.Outcome State Fault Refusal :=
  liveAt s fun d =>
    let f := (d.ch n).force
    if (d.ch n).isSafe && !f.confirmed && f.safeTick + 1 == d.tick then
      let d := d.modCh n fun c => c.modForce fun f => { f with confirmed := true }
      { d with flt := { d.flt with awaiting := d.flt.awaiting.filter (·.1 != n.val) } }.inc 32 Obj.SAFE_ENTRIES
    else d

/-- The last resort acts on a stall at once, and its F5 fault is presented at a commit (R490, R495, R499). -/
def Dev.raiseF5 (d : Dev) (s : StallId) (code cause detail : Nat) (present : Tick) : Dev :=
  let f : FaultRec := { code := code, cls := 5, scope := .stall, unit := s.val, detail := detail, detect := d.tick, cause := cause }
  let d := (d.lastResort s).modSt s fun x => { x with lastResort := some f }
  { d with flt := { d.flt with due := d.flt.due ++ [(present, f)] }, power := { d.power with fltN := true } }

/-- `SAFE_PATH` (R498): only while the channel's SAFE entry path runs, which is to the confirmation and in every window
of set 63. A fault that the commit itself detects is presented at it (R490). -/
def execSafePath (n : ChanId) (cause : BitVec 16) (cyc : Cycle) (s : State) : Host.Outcome State Fault Refusal :=
  liveIn s fun d =>
    if (d.ch n).isSafe || (d.ch n).eng.setNow == 63 then
      let d := d.raiseF5 (stallOf n) 0x0D03 cause.toNat 0 (if cyc.val ≤ 10 then d.tick else d.presentAt cyc.val)
      d.settleFaults
    else d

/-- `STALL_TJ_LIMIT` (R499): the stall die's own sensor reads a junction temperature, in 0.1 °C, of 145 °C or more. -/
def execStallTjLimit (s' : StallId) (tj : Int) (s : State) : Host.Outcome State Fault Refusal :=
  liveIn s fun d => if tj < 1450 then d else d.raiseF5 s' 0x0D05 0 tj.toNat (d.tick + 1)

/-- `MGMT_WDT` (R488). -/
def execMgmtWdt (cyc : Cycle) (s : State) : Host.Outcome State Fault Refusal :=
  liveIn s fun d => d.raiseAt (d.presentAt cyc.val) 0x0D02 4 .device 0xFF 0

/-! ## Clearing (R501) -/

/-- No tick of a list lies within the latest 1,000 tk. -/
def Dev.clearFor1000 (d : Dev) (l : List Tick) : Bool := l.all fun t => reached d.tick (t + 1000)

/-- The condition of Table 18-2 for a latched code. -/
def Dev.mayClear (d : Dev) (s : StallId) (code : Nat) : Bool :=
  match code with
  | 0x0109 => d.sync.refclk == .locked
  | 0x0205 => decide ((d.st s).derate < 3)
  | 0x020B => d.reg Obj.BUS_STATE == 3
  | 0x0904 => d.clearFor1000 (d.st s).badTicks
  | 0x0D04 => d.clearFor1000 (d.st s).silentAt.toList
  | 0x090A | 0x0B04 | 0x0B05 | 0x0D02 | 0x0D06 => false
  | 0x0B06 => (d.st s).selfPass
  | 0x0D05 => decide ((d.st s).tj < 1200)
  | _ => true

/-- A FAULT_CLEAR mask is refused (R501). -/
def Dev.clearRefused (d : Dev) (m : BitVec 32) : Bool :=
  (List.finRange 8).any (fun s =>
    let x := d.st s
    let f3 := bit m s.val
    let f5 := bit m (8 + s.val)
    (f3 || f5) &&
    ((chansOf s).any (fun n => !(d.ch n).isParked) || (f3 && !f5 && !x.f5.isEmpty) ||
     !(x.f3.all (d.mayClear s)) || (f5 && !(x.f5.all (d.mayClear s))))) ||
  (bit m 16 && (!d.allParked || !(d.flt.f4.all (d.mayClear 0))))

/-- A FAULT_CLEAR write at its commit. -/
def Dev.faultClear (d : Dev) (m : BitVec 32) : Dev :=
  if d.clearRefused m then d.refuse Obj.FAULT_CLEAR abState
  else
    let d := d.accept.eachSt fun d s =>
      d.modSt s fun x =>
        { x with f3 := if bit m s.val || bit m (8 + s.val) then [] else x.f3, f5 := if bit m (8 + s.val) then [] else x.f5 }
    { d with flt := { d.flt with f4 := if bit m 16 then [] else d.flt.f4 } }.settleFaults

/-- `FAULT_CLEAR` (R501). -/
def execFaultClear (mask : BitVec 32) (s : State) : Host.Outcome State Fault Refusal := liveAt s fun d => d.faultClear mask

/-- A FAULT_CLEAR_CH write at its commit (R501). -/
def Dev.faultClearCh (d : Dev) (m : Word64) : Dev :=
  (d.accept.inMask m fun d n =>
    if (d.ch n).isParked then d.modCh n fun c => c.modForce fun f => { f with latch := false } else d).settleFaults

/-- `FAULT_CLEAR_CH` (R501). -/
def execFaultClearCh (mask : Word64) (s : State) : Host.Outcome State Fault Refusal := liveAt s fun d => d.faultClearCh mask

/-- A HIST_CLEAR write at its commit (R506). -/
def Dev.histClear (d : Dev) (v : Nat) : Dev :=
  if v = 0x74736968 then { d.accept with flt := { d.flt with hist := [] } } else d.refuse Obj.HIST_CLEAR abRange

/-- `HIST_CLEAR` (R506). -/
def execHistClear (value : BitVec 32) (s : State) : Host.Outcome State Fault Refusal :=
  liveAt s fun d => d.histClear value.toNat

/-! ## Discarded work (R68, R502) -/

/-- The work of the present tick is discarded on a channel and its gang for a recoverable cause (R68, R298, R503). -/
def Dev.loseTick (d : Dev) (n : ChanId) (code : Nat) : Dev :=
  (d.gangOf n).foldl (fun d m => d.modCh m fun c => { c with lost := some (c.lost.getD code) }) d

/-- A recoverable cause (Table 18-4): counted, and logged as F1 at its commit. -/
def Dev.recover (d : Dev) (code : Nat) (scope : Scope) (unit detail : Nat) : Dev :=
  ((d.inc 32 Obj.RECOV_EVENTS).setReg Obj.RECOV_LAST_CODE code).raiseAt (d.tick + 1) code 1 scope unit detail

/-- A word of the channel failed: its shadows keep the active values at the next tick strobe (R13). -/
def Dev.failWord (d : Dev) (n : ChanId) : Dev := d.modCh n fun c => c.modForce fun f => { f with wordLost := true }

/-- A channel of the stall whose data a word carried is in its SAFE entry path (R498). -/
def Dev.inSafePath (d : Dev) (n : ChanId) : Bool := (d.ch n).isSafe && !(d.ch n).force.confirmed

/-- `STALL_LINK_WORD` (R12, R13): a corrected word is an F0 event; an uncorrectable word holds the next tick of every
channel it carried. In a SAFE entry path it has no log entry of its own (R498). -/
def execStallLinkWord (s' : StallId) (chans : BitVec 8) (bad : Bool) (s : State) : Host.Outcome State Fault Refusal :=
  liveIn s fun d =>
    if !bad then (d.sinc s' 32 Obj.LINK_CORR).raiseAt (d.tick + 1) 0x0901 0 .stall s'.val 0
    else
      let cs := (List.finRange 8).filterMap fun p => if bit chans p.val then some (chanAt s' p) else none
      let d := cs.foldl Dev.failWord ((d.sinc s' 32 Obj.LINK_UNCORR).setSreg s' Obj.LINK_LAST_TICK d.tick.toNat)
      let d := d.modSt s' fun x => { x with uncorr := (d.tick :: x.uncorr).take 32, badTicks := (d.tick :: x.badTicks).take 8 }
      let path := cs.any d.inSafePath
      let d := cs.foldl (fun d n => if (d.ch n).lost.isSome then d else (d.sinc s' 32 Obj.LINK_HELD).loseTick n 0x0903) d
      if path then d.inc 32 Obj.RECOV_EVENTS else d.recover 0x0903 .stall s'.val 0

/-- `SILENT_TICK` (R546): the tick that the next commit begins is a silent tick of the stall, held on every channel; the
run is logged once. The runs counted are those at the stall die, and those that only the controller die sees. -/
def execSilentTick (s' : StallId) (die ctl : Bool) (s : State) : Host.Outcome State Fault Refusal :=
  liveIn s fun d =>
    if !die && !ctl then d
    else
      let now := d.tick + 1
      let x := d.st s'
      let same := x.silentAt == some now
      let run := x.silentAt == some d.tick
      let upd := fun (b : Bool) (k : Nat) => if b then (if run then k + 1 else if same then max k 1 else 1) else (if same then k else 0)
      let d := d.modSt s' fun x => { x with silentDie := upd die x.silentDie,
                                            silentCtl := if die then 0 else upd ctl x.silentCtl,
                                            silentAt := some now, badTicks := (now :: x.badTicks).take 8 }
      if same then d
      else
        let d := (chansOf s').foldl (fun d n => ((d.failWord n).sinc s' 32 Obj.LINK_HELD).loseTick n 0x0903) d
        let d := (d.inc 32 Obj.RECOV_EVENTS).setReg Obj.RECOV_LAST_CODE 0x0903
        if run then d
        else
          { d with flt := { d.flt with due := d.flt.due ++
              [(now, { code := 0x0903, cls := 1, scope := .stall, unit := s'.val, detail := 1, detect := now, cause := 0 })] } }

/-- A silent run of 8 ticks has reached the present tick, or the one that the next commit begins (R546). -/
def Dev.silentRun (d : Dev) (s : StallId) (run : Nat) : Bool :=
  decide (8 ≤ run) && ((d.st s).silentAt == some d.tick || (d.st s).silentAt == some (d.tick + 1))

/-- More than 16 uncorrectable words within the latest 1,000 tk (R12), or 8 consecutive silent ticks that only the
controller die sees (R546). -/
def Dev.linkFails (d : Dev) (s : StallId) : Bool :=
  decide (16 < ((d.st s).uncorr.filter fun t => !reached d.tick (t + 1000)).length) || d.silentRun s (d.st s).silentCtl

/-- `LINK_UNCORR` (R12, R546). -/
def execLinkUncorr (s' : StallId) (s : State) : Host.Outcome State Fault Refusal :=
  liveIn s fun d => if d.linkFails s' then d.raiseAt (d.tick + 1) 0x0904 3 .stall s'.val 0 else d

/-- `LINK_SILENT` (R499, R546): 8 consecutive silent tick strobes at the stall die. -/
def execLinkSilent (s' : StallId) (s : State) : Host.Outcome State Fault Refusal :=
  liveIn s fun d => if d.silentRun s' (d.st s').silentDie then d.raiseF5 s' 0x0D04 0 0 (d.tick + 1) else d

end Sys2Proof.Machine
end

