-- ==== Sys2Proof/Machine/Memories.lean ====
section
/-! DEFINITION. Commands of the memories: parity and replay, program re-fetch, scratchpad restore, the stall budget, the
scrubber and the background test (R336–R345, R502). -/

namespace Sys2Proof.Machine

open Sys2Proof

/-! ## Ledger parity and the replay list (R336–R338) -/

/-- The segment contains a ledger line. -/
def segHasLine (w line : Nat) : Bool :=
  dsValid w && decide (dsStart w ≤ 8 * line) && decide (8 * line < dsStart w + dsSteps w)

/-- The lowest-numbered VALID segment that contains a line; 0xFFF where none does (R337). -/
def Dev.segOfLine (d : Dev) (line : Nat) : Nat :=
  ((d.mem.dir.find? fun e => segHasLine e.2.toNat line).map (·.1)).getD 0xFFF

/-- Cause and segment that the replay list records for a read (R337, Table 12-5). -/
def Dev.replayCause (d : Dev) (line : Nat) : ReadCause → Nat × Nat
  | .playback _ seg => (0, seg)
  | .lookahead seg => (1, seg)
  | .sweep => (1, d.segOfLine line)
  | .march => (2, d.segOfLine line)

/-- A line goes on the replay list at a commit, one entry for each line; a full list is logged (R337, R338). -/
def Dev.listLine (d : Dev) (line cause seg : Nat) (now : Tick) : Dev :=
  if d.mem.replay.any (·.line == line) then d
  else if 64 ≤ d.mem.replay.length then d.raiseAt now 0x0905 1 .device 0xFF line
  else { d with mem := { d.mem with replay := d.mem.replay ++ [{ line := line, cause := cause, seg := seg, tick := now }] } }

/-- A head, the stage or the safe head whose words failed is filled again (R337). -/
def Head.refill (h : Head) (start line : Nat) : Head :=
  if h.st != .empty && decide (start / 8 ≤ line) && decide (line < start / 8 + 4) then { h with st := .filling, steps := [] } else h

def Dev.refillHeads (d : Dev) (n : ChanId) (line : Nat) : Dev :=
  let f := fun (h : Head) => h.refill (dsStart (d.desc h.seg)) line
  d.modCh n fun c => c.modBk fun k => { k with heads := k.heads.map f, stage := f k.stage, safeHead := f k.safeHead }

/-- The current step of a channel lies in a line that cannot be read: the tick that follows is held (R256, R338). After
1,000 held ticks it holds no more. -/
def Dev.stuckOn (d : Dev) (n : ChanId) (line : Nat) : Dev :=
  let b := (d.ch n).bk
  let run := if b.stuckAddr = some line then b.stuckRun else 0
  if b.addr / 8 ≠ line || b.seq == .noStep || b.seq == .stopped || decide (1000 ≤ run) then d
  else
    (d.modCh n fun c => (c.seqFlag 2).modBk fun k =>
      { k with held := true, stuckAddr := some line, stuckRun := run + 1, stuckHold := k.stuckHold || !k.holdReq })

/-- A persistent error in a ledger line, known at a commit (R337). A read for no channel is logged with the device
(log 31). -/
def Dev.linePersist (d : Dev) (line : Nat) (cause : ReadCause) (now : Tick) : Dev :=
  let r := d.replayCause line cause
  let d := (d.inc 32 Obj.LEDGER_PAR_PERSIST).listLine line r.1 r.2 now
  match cause with
  | .playback n _ =>
    ((d.inc 32 Obj.RECOV_EVENTS).setReg Obj.RECOV_LAST_CODE 0x0708).raiseAt now 0x0708 1 .channel n.val line
  | _ => d.raiseAt now 0x0708 1 .device 0xFF line

/-- A transient parity error (R336). -/
def Dev.transient (d : Dev) (obj detail : Nat) : Dev := (d.inc 32 obj).raiseAt (d.tick + 1) 0x0902 0 .device 0xFF detail

/-- `LEDGER_READ_PARITY` (R336, R337): a playback read fails at the commit that needs it, another read inside a tick. -/
def execLedgerReadParity (line : BitVec 17) (cause : ReadCause) (persistent : Bool) (s : State) :
    Host.Outcome State Fault Refusal :=
  if !persistent then liveIn s fun d => d.transient Obj.LEDGER_PAR_TRANS line.toNat
  else
    match cause with
    | .playback n _ =>
      liveAt s fun d =>
        (((d.linePersist line.toNat cause d.tick).refillHeads n line.toNat).stuckOn n line.toNat).settleFaults
    | .lookahead _ => liveIn s fun d => d.linePersist line.toNat cause (d.tick + 1)
    | .sweep => liveIn s fun d => d.linePersist line.toNat cause (d.tick + 1)
    | .march => liveIn s fun d => d.linePersist line.toNat cause (d.tick + 1)

/-- `STEP_PARITY_STUCK` (R338): the re-read of the commit after 1,000 held ticks fails. -/
def execStepParityStuck (n : ChanId) (s : State) : Host.Outcome State Fault Refusal :=
  liveAt s fun d =>
    let b := (d.ch n).bk
    if b.stuckAddr.isSome && decide (1000 ≤ b.stuckRun) then (d.raiseCh 0x0703 2 n b.addr).settleFaults else d

/-! ## Program parity (R299, R339, R502) -/

/-- Kind of a memory: 0 ledger, 1 program memory, 2 scratchpad; its stall; its regions (R342). -/
def memKind (m : Nat) : Nat := if m = 0 then 0 else if m ≤ 8 then 1 else 2
def memStall (m : Nat) : Nat := if m = 0 then 0 else (m - 1) % 8
def memRegions (m : Nat) : Nat := match memKind m with | 0 => 131072 | 1 => 4096 | _ => 1024

/-- Ledger bank of a line (R331). -/
def bankOf (l : Nat) : Fin 16 :=
  let x := natBits l 3 0 ^^^ natBits l 7 4 ^^^ natBits l 11 8 ^^^ natBits l 15 12 ^^^ natBits l 16 16
  ⟨x % 16, by omega⟩

/-- A failed March test counts and shows its region (R344, R345). -/
def Dev.marchFailed (d : Dev) (m region : Nat) : Dev :=
  (d.inc 32 Obj.MARCH_FAILS).setReg Obj.MARCH_LAST_FAIL (memKind m * 2 ^ 30 + memStall m * 2 ^ 27 + region)

/-- A region that failed is repaired into a spare (R345). -/
def Dev.repair (d : Dev) (m region : Nat) : Dev :=
  let s := memStall m
  let map := fun (d : Dev) => { d with mem := { d.mem with mapped := (m, region) :: d.mem.mapped } }
  let log := fun (d : Dev) (code cls : Nat) =>
    d.raiseAt (d.tick + 1) code cls (if m = 0 then .device else .stall) (if m = 0 then 0xFF else s) region
  if m = 0 then
    let b := bankOf region
    let left := d.mem.bankSpare[b]
    if left = 0 then log d 0x0907 1
    else
      log (map { d.setReg Obj.LEDGER_SPARES (d.reg Obj.LEDGER_SPARES - 1) with
        mem := { d.mem with bankSpare := d.mem.bankSpare.set b (left - 1) } }) 0x0906 1
  else
    let obj := if memKind m = 1 then Obj.PROG_SPARES s else Obj.SCR_SPARES s
    if d.reg obj = 0 then log d 0x090A 3 else log (map (d.setReg obj (d.reg obj - 1))) 0x0906 1

/-- The window belongs to a SAFE entry path, in which a cause has no entry of its own (R498). -/
def Dev.inFaultWindow (d : Dev) (n : ChanId) : Bool := (d.ch n).eng.setNow == 63

/-- A recoverable cause of a channel (Table 18-4). -/
def Dev.recoverCh (d : Dev) (n : ChanId) (code : Nat) : Dev :=
  if d.inFaultWindow n then d else d.recover code .channel n.val 0

/-- Re-reads of a word stalled an engine by so many cycles (R336, R340). -/
def Dev.stalled (d : Dev) (cycles : Nat) : Dev := d.setReg Obj.ENG_STALL_MAX (min 255 (max cycles (d.reg Obj.ENG_STALL_MAX)))

/-- `PROGRAM_PARITY` (R336, R339): a word that fails again after its re-fetch has its region repaired at once. -/
def execProgramParity (n : ChanId) (word : BitVec 16) (persistent : Bool) (s : State) : Host.Outcome State Fault Refusal :=
  liveIn s fun d =>
    let st := (stallOf n).val
    if !persistent then
      (d.transient (Obj.PROG_PAR_TRANS st) word.toNat).stalled 1
    else
      let again := (d.ch n).eng.badWord == some word.toNat
      let d := ((d.inc 32 (Obj.PROG_PAR_PERSIST st)).stalled 2).loseTick n 0x0802
      let d := d.modCh n fun c => c.modEng fun e => { e with refetch := some (e.refetch.getD d.tick), badWord := some word.toNat }
      let d := (d.cinc n 32 Obj.ENG_REFETCH).recoverCh n 0x0802
      if again then d.repair (1 + st) (word.toNat / 16) else d

/-- `REFETCH_DONE` (R299); after MRAM_FAIL no re-fetch is available (R479). -/
def execRefetchDone (n : ChanId) (s : State) : Host.Outcome State Fault Refusal :=
  liveIn s fun d => if d.power.mramFail then d else d.modCh n fun c => c.modEng fun e => { e with refetch := none }

/-- `REFETCH_FAIL` (R502). -/
def execRefetchFail (n : ChanId) (s : State) : Host.Outcome State Fault Refusal :=
  liveAt s fun d =>
    if (d.ch n).eng.refetch.isNone then d
    else ((d.modCh n fun c => c.modEng fun e => { e with refetch := none }).raiseCh 0x0803 2 n).settleFaults

/-! ## Scratchpad parity (Table 12-3) -/

/-- What a persistent error does to a scratchpad word (Table 12-3). -/
inductive ScrAction where
  /-- F2 on the channel at a position. -/
  | lost (p : Nat)
  /-- Held until restored. -/
  | restore
  /-- Restored at once. -/
  | zero | copy
  /-- F3 on the stall. -/
  | stall
deriving DecidableEq, Repr

/-- Action for a word address. -/
def scrAction (a : Nat) : ScrAction :=
  if a < 0x1800 then
    let o := a % 0x300
    if o < 0x200 then .lost (a / 0x300)
    else if o < 0x280 then .restore
    else if o < 0x2A0 then .zero
    else if o < 0x2C0 then .copy
    else .lost (a / 0x300)
  else if a < 0x1900 then .zero
  else if a < 0x1A00 then .restore
  else if a < 0x1C00 then .stall
  else .restore

/-- Default of a library parameter word (Table 12-3, Table 10-12). -/
def paramDefault (a : Nat) : Word64 :=
  match a % 0x300 with
  | 0x2A0 | 0x2A2 => 524287
  | 0x2A1 | 0x2A3 => BitVec.ofInt 64 (-524288)
  | _ => 0

/-- The value kept for a parameter word: that of the latest write, or its default. -/
def Dev.paramCopy (d : Dev) (s : StallId) (a : Nat) : Word64 := sget (paramDefault a) d.mem.params (8192 * s.val + a)

/-- A scratchpad word that cannot be restored holds a free value (log 5). -/
def Dev.loseWord (d : Dev) (s : StallId) (a : Nat) : Dev :=
  let x := d.fresh
  x.2.setScr s a (BitVec.ofNat 64 x.1)

/-- Channels of a stall named by position. -/
def posMask (s : StallId) (m : BitVec 8) : List ChanId :=
  (List.finRange 8).filterMap fun p => if bit m p.val then some (chanAt s p) else none

/-- A persistent scratchpad error by its region. -/
def Dev.scrPersist (d : Dev) (s : StallId) (a : Nat) (readers : List ChanId) : Dev :=
  let d := readers.foldl (fun d n => d.loseTick n 0x0908) d
  let path := readers.any d.inFaultWindow
  let f1 := fun (d : Dev) => if path then d else d.recover 0x0908 .stall s.val a
  match scrAction a with
  | .lost p =>
    let n := chanAt s ⟨p % 8, by omega⟩
    let d := d.loseWord s a
    if path then d else d.raiseAt (d.tick + 1) 0x0909 2 .channel n.val a
  | .stall =>
    let d := d.loseWord s a
    if path then d else d.raiseAt (d.tick + 1) 0x0909 3 .stall s.val a
  | .zero => f1 (d.setScr s a 0)
  | .copy => f1 (d.setScr s a (d.paramCopy s a))
  | .restore =>
    f1 (readers.foldl (fun d n => d.modCh n fun c => c.modEng fun e => { e with restore := some (e.restore.getD d.tick) }) d)

/-- `SCRATCHPAD_PARITY` (R336, R339): a read by the bulk side is answered with the abort code for a hardware error. -/
def execScratchpadParity (s' : StallId) (addr : BitVec 13) (readers : BitVec 8) (persistent bulk : Bool) (s : State) :
    Host.Outcome State Fault Refusal :=
  liveIn s fun d =>
    if !persistent then
      let d := d.transient (Obj.SCR_PAR_TRANS s'.val) addr.toNat
      if readers = 0 then d else d.stalled 1
    else
      let d := if readers = 0 then d else d.stalled 2
      let d := (d.inc 32 (Obj.SCR_PAR_PERSIST s'.val)).scrPersist s' addr.toNat (posMask s' readers)
      if bulk then { d with dict := { d.dict with abort := 0x06060000 } } else d

/-- `SCR_RESTORE_DONE` (R339): the word comes from the coefficient record or the image copy. -/
def execScrRestoreDone (s' : StallId) (addr : BitVec 13) (image : Word64) (s : State) :
    Host.Outcome State Fault Refusal :=
  liveIn s fun d =>
    (chansOf s').foldl (fun d n => d.modCh n fun c => c.modEng fun e => { e with restore := none })
      (d.setScr s' addr.toNat image)

/-- `SCR_RESTORE_TIMEOUT` (R502): the channels held for the word for 20 tk fault. -/
def execScrRestoreTimeout (s' : StallId) (addr : BitVec 13) (s : State) : Host.Outcome State Fault Refusal :=
  liveAt s fun d =>
    ((chansOf s').foldl (fun d n =>
      if (d.ch n).eng.restore.any fun t0 => reached d.tick (t0 + 20) then
        (d.modCh n fun c => c.modEng fun e => { e with restore := none }).raiseCh 0x0909 2 n addr.toNat
      else d) d).settleFaults

/-! ## The stall budget (R340, R502) -/

/-- `STALL_DISCARD` (R340): stalls of so many cycles in one window; above 10 the window is discarded. -/
def execStallDiscard (n : ChanId) (cycles : Nat) (s : State) : Host.Outcome State Fault Refusal :=
  liveIn s fun d =>
    let d := d.stalled cycles
    if cycles ≤ 10 then d
    else
      let d := (d.inc 32 Obj.STALL_DISCARDS).loseTick n 0x0804
      (d.modCh n fun c => c.modEng fun e => { e with budget := (d.tick :: e.budget).take 16 }).recoverCh n 0x0804

/-- `STALL_BUDGET` (R502): 16 windows of one channel discarded within 1,000 tk. -/
def execStallBudget (n : ChanId) (s : State) : Host.Outcome State Fault Refusal :=
  liveIn s fun d =>
    let b := (d.ch n).eng.budget
    if decide (16 ≤ b.length) && b.all (fun t => decide (ticksFrom t d.tick < 1000)) then
      d.raiseAt (d.tick + 1) 0x0805 2 .channel n.val 0
    else d

/-! ## The scrubber (R338, R341) -/

/-- `SCRUB_READ` (R341): `ahead` names the segment and the steps that a lookahead now covers. A line that reads well leaves
the replay list; one that does not is `LEDGER_READ_PARITY`. -/
def execScrubRead (line : BitVec 17) (ahead : Option (Nat × Nat)) (good : Bool) (s : State) :
    Host.Outcome State Fault Refusal :=
  liveIn s fun d =>
    let d := if good then { d with mem := { d.mem with replay := d.mem.replay.filter (·.line != line.toNat) } } else d
    match ahead with
    | some (_, steps) => d.setReg Obj.LOOKAHEAD_MIN (min steps (d.reg Obj.LOOKAHEAD_MIN))
    | none =>
      if d.mem.sweep ≠ line.toNat then d
      else if line.toNat + 1 < 131072 then { d with mem := { d.mem with sweep := line.toNat + 1 } }
      else { d with mem := { d.mem with sweep := 0 } }.setReg Obj.SCRUB_SWEEP_TICK (d.tick + 1).toNat

/-! ## The background test (R342–R345) -/

/-- The test goes on to the region after one; a pass over the ledger is counted (R342). -/
def Dev.marchNext (d : Dev) (m region : Nat) : Dev :=
  let wraps := decide (memRegions m ≤ region + 1)
  let d := { d with mem := { d.mem with nextRegion := sput 0 d.mem.nextRegion m (if wraps then 0 else region + 1) } }
  if wraps && m == 0 then d.inc 32 Obj.MARCH_PASSES else d

/-- Skip regions that hold a replay-list line (R342); the list holds at most 64. -/
def Dev.marchSkip : Nat → Dev → Nat → Dev
  | 0, d, _ => d
  | k + 1, d, m =>
    let r := sget 0 d.mem.nextRegion m
    if m == 0 && d.mem.replay.any (·.line == r) then Dev.marchSkip k (d.marchNext m r) m else d

/-- A memory may be borrowed now: MARCH_PERIOD ticks after its latest borrow, and not in a tick in which it was released (R342,
R344). -/
def Dev.mayBorrow (d : Dev) (m : Nat) : Bool :=
  natBit (d.reg Obj.MARCH_EN) (memKind m) && !d.mem.borrows.any (·.mem == m) &&
  !d.mem.released.any (fun r => r.1 == m && r.2 == d.tick) &&
  !d.mem.marched.any (fun r => r.1 == m && decide (ticksFrom r.2 d.tick < d.reg Obj.MARCH_PERIOD)) &&
  !(m != 0 && (List.finRange 64).any fun n => n.val / 8 == memStall m && (d.ch n).eng.setNow == 63)

/-- `MARCH_BORROW` (R342). -/
def execMarchBorrow (mem : Fin 17) (saveOk : Bool) (s : State) : Host.Outcome State Fault Refusal :=
  liveIn s fun d =>
    if !d.mayBorrow mem.val then d
    else
      let d := Dev.marchSkip 65 d mem.val
      let r := sget 0 d.mem.nextRegion mem.val
      let d := { d with mem := { d.mem with marched := (mem.val, d.tick) :: d.mem.marched.filter (·.1 != mem.val) } }
      if saveOk then
        { d with mem := { d.mem with borrows := { mem := mem.val, region := r, since := d.tick, testing := true } :: d.mem.borrows } }
      else d.marchNext mem.val r

/-- `MARCH_RELEASE` (R344): the test stops; the restore follows. -/
def execMarchRelease (mem : Fin 17) (s : State) : Host.Outcome State Fault Refusal :=
  liveIn s fun d =>
    if d.mem.borrows.any (fun b => b.mem == mem.val && b.testing) then
      let bs := d.mem.borrows.map fun (b : Borrow) => if b.mem == mem.val then { b with testing := false } else b
      let rel := (mem.val, d.tick) :: d.mem.released.filter (·.1 != mem.val)
      { d with mem := { d.mem with borrows := bs, released := rel } }.inc 32 Obj.MARCH_RELEASES
    else d

/-- A ledger restore may complete in the cycle of a bulk write and lose its own (R329, log 102). -/
def Dev.restoreMeets (d : Dev) (m : Nat) : Dev :=
  if m = 0 then
    let x := d.fresh
    if x.1 % 2 = 1 then x.2.inc 32 Obj.LEDGER_COLLIDE else x.2
  else d

/-- `MARCH_RESTORE_DONE` (R342, R345). -/
def execMarchRestoreDone (mem : Fin 17) (pass : Bool) (s : State) : Host.Outcome State Fault Refusal :=
  liveIn s fun d =>
    match d.mem.borrows.find? (·.mem == mem.val) with
    | none => d
    | some b =>
      let d := { d with mem := { d.mem with borrows := d.mem.borrows.filter (·.mem != mem.val) } }
      let d := (d.marchNext mem.val b.region).restoreMeets mem.val
      if pass then d else (d.marchFailed mem.val b.region).repair mem.val b.region

end Sys2Proof.Machine
end

