-- ==== Sys2Proof/Machine/Sequence.lean ====
section
/-! DEFINITION. Commands of the step tables, segments, jumps and spools (R227–R268): step kinds, the end of a span, heads,
jumps, descriptors and the spool's own objects. -/

namespace Sys2Proof.Machine

open Sys2Proof

/-! ## The end of a span -/

/-- Whether the span of the current step ends: DWELL counted, or the edge or timeout of a WAIT_TETHER (R228, R242). -/
def Barker.spanDone (b : Barker) : Bool :=
  let w := b.word.toNat
  match stKind w with
  | 5 => bit b.latch (waitInput w) || (!waitNoTimeout w && decide (stDwell w ≤ b.done))
  | 0xB => false
  | _ => decide (stDwell w ≤ b.done)

/-- A sequencing decision at the present commit, with the faults it raises. -/
def Dev.decideSeq (d : Dev) (n : ChanId) (ok : Bool) : Dev := if ok then (d.spanEnd n).settleFaults else d

/-- `DWELL_EXPIRY` (R239, R262). -/
def execDwellExpiry (n : ChanId) (s : State) : Host.Outcome State Fault Refusal := liveAt s fun d => d.decideSeq n true

/-- `WAIT_TIMEOUT` (R242): no edge is latched. -/
def execWaitTimeout (n : ChanId) (s : State) : Host.Outcome State Fault Refusal :=
  liveAt s fun d =>
    let b := (d.ch n).bk
    d.decideSeq n (stKind b.word.toNat == 5 && !bit b.latch (waitInput b.word.toNat))

/-- `LOOP_CLOSE` (R243, R244). -/
def execLoopClose (n : ChanId) (s : State) : Host.Outcome State Fault Refusal :=
  liveAt s fun d => d.decideSeq n (stKind (d.ch n).bk.word.toNat == 7)

/-- `JUMP_IF` (R246–R248). -/
def execJumpIf (n : ChanId) (s : State) : Host.Outcome State Fault Refusal :=
  liveAt s fun d => d.decideSeq n (stKind (d.ch n).bk.word.toNat == 8)

/-! ## The step kinds (R228–R234): the barker selects the step at the present commit -/

/-- The barker selects a step of a word at the present commit (R16): it is the current step of the tick that begins, and what
it puts into effect acts together at the next commit. -/
def Dev.playStep (d : Dev) (n : ChanId) (w : Word64) : Dev :=
  if !d.maySelect n || (d.ch n).bk.holdReq then d
  else
    let b := (d.ch n).bk
    ((d.noteRedo n).selectStep n { addr := b.addr, seg := b.seg, word := w, first := false, stream := none } []).settleFaults

/-- `FORCE_V` (R228, R80). -/
def execForceV (n : ChanId) (value : Code20) (rpair : BitVec 4) (f : StepFields) (s : State) :
    Host.Outcome State Fault Refusal := liveAt s fun d => d.playStep n (stepWord 1 value.toNat rpair.toNat f)

/-- `FORCE_I` (R228, R80). -/
def execForceI (n : ChanId) (value : Code20) (rpair : BitVec 4) (f : StepFields) (s : State) :
    Host.Outcome State Fault Refusal := liveAt s fun d => d.playStep n (stepWord 2 value.toNat rpair.toNat f)

/-- `HOLD` (R228, R230). -/
def execStepHold (n : ChanId) (f : StepFields) (s : State) : Host.Outcome State Fault Refusal :=
  liveAt s fun d => d.playStep n (stepWord 3 0 0 f)

/-- `TALLY_ONLY` (R228, R230). -/
def execTallyOnly (n : ChanId) (tctl : BitVec 6) (mark : BitVec 4) (dwell : BitVec 16) (s : State) :
    Host.Outcome State Fault Refusal := liveAt s fun d => d.playStep n (stepWord 4 0 0 ⟨0, 0, tctl, mark, dwell⟩)

/-- `WAIT_TETHER` (R229, R241, R242). -/
def execWaitTether (n : ChanId) (noTimeout pre : Bool) (input : Idx4) (f : StepFields) (s : State) :
    Host.Outcome State Fault Refusal :=
  liveAt s fun d => d.playStep n (stepWord 5 (b2n noTimeout * 2 ^ 19 + b2n pre * 2 ^ 18 + input.val) 0 f)

/-- `LOOP_OPEN` (R243, R244). -/
def execLoopOpen (n : ChanId) (count : BitVec 20) (f : StepFields) (s : State) : Host.Outcome State Fault Refusal :=
  liveAt s fun d => d.playStep n (stepWord 6 count.toNat 0 f)

/-- `SINE_SET_START` (R273). -/
def execSineSetStart (n : ChanId) (setting : Idx16) (f : StepFields) (s : State) : Host.Outcome State Fault Refusal :=
  liveAt s fun d => d.playStep n (stepWord 9 setting.val 0 f)

/-- `SINE_SET_ZERO` (R273). -/
def execSineSetZero (n : ChanId) (f : StepFields) (s : State) : Host.Outcome State Fault Refusal :=
  liveAt s fun d => d.playStep n (stepWord 9 (2 ^ 18) 0 f)

/-- `SINE_SET_PHASE_RESET` (R273). -/
def execSineSetPhaseReset (n : ChanId) (f : StepFields) (s : State) : Host.Outcome State Fault Refusal :=
  liveAt s fun d => d.playStep n (stepWord 9 (2 * 2 ^ 18) 0 f)

/-- `GUST_ARM` (R140). -/
def execGustArm (n : ChanId) (profile : Idx16) (f : StepFields) (s : State) : Host.Outcome State Fault Refusal :=
  liveAt s fun d => d.playStep n (stepWord 0xA profile.val 0 f)

/-- `GUST_DISARM` (R229). -/
def execGustDisarm (n : ChanId) (f : StepFields) (s : State) : Host.Outcome State Fault Refusal :=
  liveAt s fun d => d.playStep n (stepWord 0xA (2 ^ 19) 0 f)

/-- `END` (R253). -/
def execStepEnd (n : ChanId) (f : StepFields) (s : State) : Host.Outcome State Fault Refusal :=
  liveAt s fun d => d.playStep n (stepWord 0xB 0 0 f)

/-- `END_PARK` (R253, R255). -/
def execEndPark (n : ChanId) (f : StepFields) (s : State) : Host.Outcome State Fault Refusal :=
  liveAt s fun d => d.playStep n (stepWord 0xB 1 0 f)

/-! ## Jumps and heads (R248–R254, R266) -/

/-- A pending safe jump whose head is READY is taken (R266). -/
def Dev.safeNow (d : Dev) (n : ChanId) : Dev :=
  let b := (d.ch n).bk
  match b.pend with
  | some j =>
    if j.src == .safeJump && b.safeHead.st == .ready && d.maySelect n && !b.holdReq then ((d.noteRedo n).takeSafe n j).settleFaults
    else d
  | none => d

/-- `SAFE_JUMP` (R266). -/
def execSafeJump (n : ChanId) (s : State) : Host.Outcome State Fault Refusal := liveAt s fun d => d.safeNow n

/-- A pin of a head is accepted (R250): the segment's code and the pending jump's target. -/
def Dev.pinOk (d : Dev) (n : ChanId) (h : Idx4) (seg : Nat) : Bool :=
  let c := d.ch n
  let now := c.reg (Obj.HEAD_PIN h.val)
  (seg == 0xFFFF || (dsValid (d.desc seg) && dsType (d.desc seg) == 0)) &&
  (seg == now || now == 0xFFFF || (c.bk.pend.map (·.seg)) != some now)

/-- A write to HEAD_PIN at its commit (R250). -/
def Dev.pinHead (d : Dev) (n : ChanId) (h : Idx4) (seg : Nat) : Dev :=
  if d.pinOk n h seg then
    (d.accept.setCreg n (Obj.HEAD_PIN h.val) seg).modCh n fun c => c.modBk fun k =>
      { k with heads := k.heads.set h (if seg = 0xFFFF then Head.reset else { st := .filling, seg := seg, steps := [] }) }
  else d.refuse (chObj n (Obj.HEAD_PIN h.val)) abRange

/-- `HEAD_PIN` (R250). -/
def execHeadPin (n : ChanId) (h : Idx4) (seg : BitVec 16) (s : State) : Host.Outcome State Fault Refusal :=
  liveAt s fun d => d.pinHead n h seg.toNat

/-- `HEAD_FILL_DONE` (R250): the head holds the segment's first 32 steps; a pending jump for it may act (R254). -/
def execHeadFillDone (n : ChanId) (h : Idx4) (s : State) : Host.Outcome State Fault Refusal :=
  liveAt s fun d =>
    let x := (d.ch n).bk.heads[h]
    if x.st != .filling then d
    else
      let d := d.modCh n fun c => c.modBk fun k =>
        { k with heads := k.heads.set h { x with st := .ready, steps := d.first32 x.seg } }
      ((d.setCreg n (Obj.HEAD_FILL_TICK h.val) d.tick.toNat).openBoundary n).settleFaults

/-- `STAGE_FILL_DONE` (R250, R254). -/
def execStageFillDone (n : ChanId) (s : State) : Host.Outcome State Fault Refusal :=
  liveAt s fun d =>
    let x := (d.ch n).bk.stage
    if x.st != .filling then d
    else
      ((d.modCh n fun c => c.modBk fun k =>
        { k with stage := { x with st := .ready, steps := d.first32 x.seg } }).openBoundary n).settleFaults

/-- `SAFE_HEAD_FILL_DONE` (R266): a safe jump that waited for the head is taken. -/
def execSafeHeadFillDone (n : ChanId) (s : State) : Host.Outcome State Fault Refusal :=
  liveAt s fun d =>
    let x := (d.ch n).bk.safeHead
    if x.st != .filling then d
    else
      (d.modCh n fun c => c.modBk fun k =>
        { k with safeHead := { x with st := .ready, steps := d.first32 x.seg } }).safeNow n

/-- A JUMP_CMD jump at its commit (R248, R254, R255, R257). A queued request acts before the commit's open boundaries are
judged; a command after that gives a jump of the same commit its place again (R249). -/
def Dev.hostJump (d : Dev) (n : ChanId) (seg : Nat) (arrival : Option Tick) : Dev :=
  if d.isFollower n then d.refuse (chObj n Obj.JUMP_CMD) abState
  else if 4095 < seg && seg ≠ 0xFFFF then d.refuse (chObj n Obj.JUMP_CMD) abRange
  else match arrival with
    | some t => d.accept.offerJump n .host seg t []
    | none => (((d.accept.giveWay n).offerJump n .host seg (d.tick - 1) []).openBoundary n).settleFaults

/-- `JUMP_CMD_JUMP` (R248, R249). -/
def execJumpCmdJump (n : ChanId) (seg : BitVec 16) (s : State) : Host.Outcome State Fault Refusal :=
  liveAt s fun d => d.hostJump n seg.toNat none

/-- A JUMP_CMD cancel at its commit (R249). -/
def Dev.cancelJump (d : Dev) (n : ChanId) : Dev :=
  if d.isFollower n then d.refuse (chObj n Obj.JUMP_CMD) abState
  else d.accept.modCh n fun c => c.modBk fun k =>
    { k with pend := match k.pend with | some j => if j.src == .safeJump then some j else none | none => none }

/-- `JUMP_CMD_CANCEL` (R249). -/
def execJumpCmdCancel (n : ChanId) (s : State) : Host.Outcome State Fault Refusal := liveAt s fun d => d.cancelJump n

/-! ## The directory and the spools (R236, R237, R259, R264, R266, R338) -/

/-- Lines that no VALID segment contains any more leave the replay list (R338). -/
def Dev.pruneReplay (d : Dev) : Dev :=
  let inSeg := fun (line : Nat) => d.mem.dir.any fun e =>
    let x := e.2.toNat
    dsValid x && decide (dsStart x ≤ 8 * line) && decide (8 * line < dsStart x + dsSteps x)
  { d with mem := { d.mem with replay := d.mem.replay.filter fun e => inSeg e.line } }

/-- A descriptor write at its commit (R236, R237): the check for use comes first. -/
def Dev.writeDesc (d : Dev) (i : Nat) (w : Word64) : Dev :=
  if d.segInUse i then (d.inc 32 Obj.DIR_REFUSED).refuse Obj.DIR_ENTRY abState
  else if !d.descOk i w.toNat then (d.inc 32 Obj.DIR_REFUSED).refuse Obj.DIR_ENTRY abRange
  else { d.accept with mem := { d.mem with dir := sput 0 d.mem.dir i w } }.pruneReplay

/-- `DIR_ENTRY_WRITE` (R236, R237, R258). -/
def execDirEntryWrite (word : Word64) (s : State) : Host.Outcome State Fault Refusal :=
  liveAt s fun d => d.writeDesc (d.reg Obj.DIR_SEL) word

/-- The stream of a channel starts again (R264). -/
def Dev.resetSpool (d : Dev) (n : ChanId) : Dev :=
  let none' := d.creg n Obj.SPOOL_SEG = 0xFFFF
  d.modCh n fun c => { c with spool := { Spool.reset with st := if none' then .none else .idle } }

/-- A write of SPOOL_SEG at its commit (R259): RWP, a VALID SPOOL, named by no other channel. -/
def Dev.writeSpoolSeg (d : Dev) (n : ChanId) (seg : Nat) : Dev :=
  let other := (List.finRange 64).any fun m => m != n && d.creg m Obj.SPOOL_SEG == seg
  if seg ≠ 0xFFFF && (other || !dsValid (d.desc seg) || dsType (d.desc seg) != 1) then
    d.refuse (chObj n Obj.SPOOL_SEG) abRange
  else if !(d.ch n).isParked then d.refuse (chObj n Obj.SPOOL_SEG) abState
  else (d.accept.setCreg n Obj.SPOOL_SEG seg).resetSpool n

/-- `SPOOL_SEG_WRITE` (R259). -/
def execSpoolSegWrite (n : ChanId) (seg : BitVec 16) (s : State) : Host.Outcome State Fault Refusal :=
  liveAt s fun d => d.writeSpoolSeg n seg.toNat

/-- SPOOL_CMD 1 at its commit (R264). -/
def Dev.spoolReset (d : Dev) (n : ChanId) : Dev :=
  let seg := d.creg n Obj.SPOOL_SEG
  if d.segInUse seg || d.load.claims.any (·.seg == some seg) then d.refuse (chObj n Obj.SPOOL_CMD) abState else d.accept.resetSpool n

/-- `SPOOL_CMD_RESET` (R264). -/
def execSpoolCmdReset (n : ChanId) (s : State) : Host.Outcome State Fault Refusal := liveAt s fun d => d.spoolReset n

/-- A write of SAFE_SEG at its commit (R266): the safe head fills. -/
def Dev.writeSafeSeg (d : Dev) (n : ChanId) (seg : Nat) : Dev :=
  if (seg = 0xFFFF && d.creg n Obj.UR_POLICY = 1) || (seg ≠ 0xFFFF && (!dsValid (d.desc seg) || dsType (d.desc seg) != 0)) then
    d.refuse (chObj n Obj.SAFE_SEG) abRange
  else (d.accept.setCreg n Obj.SAFE_SEG seg).modCh n fun c => c.modBk fun k =>
    { k with safeHead := if seg = 0xFFFF then Head.reset else { st := .filling, seg := seg, steps := [] } }

/-- `SAFE_SEG_WRITE` (R266). -/
def execSafeSegWrite (n : ChanId) (seg : BitVec 16) (s : State) : Host.Outcome State Fault Refusal :=
  liveAt s fun d => d.writeSafeSeg n seg.toNat

end Sys2Proof.Machine
end

