-- ==== Sys2Proof/Machine/Loads.lean ====
section
/-! DEFINITION. Loads of either link (R415–R422): answers to a load, claims of spools, refills, ledger loads, gust profiles
(R138, R261, R418, R419), and the objects of the EtherCAT load (R421). A refill is judged as its body transfer begins; every
other load takes the body of a container that has passed R440. -/

namespace Sys2Proof.Machine

open Sys2Proof

/-! ## Answers (Table 15-10) -/

/-- Entries of a queue's ring. -/
def Queue.ring (q : Queue) : Nat := 2 ^ q.size

/-- Entries between HEAD and TAIL. -/
def Queue.waiting (q : Queue) : Nat := (q.tail + q.ring - q.head) % q.ring

/-- The queue takes descriptors. -/
def Queue.runs (q : Queue) : Bool := q.enabled && q.running && !q.halted

/-- The module is done with the descriptor at HEAD; the second part is its FLAGS bit 0. -/
def Queue.take (q : Queue) : Queue × Bool :=
  ({ q with head := (q.head + 1) % q.ring, notify := q.notify.drop 1 }, q.notify.headD false)

/-- The load in progress on a link ends with a code at the present tick. -/
def Dev.loadAnswer (d : Dev) (bulk : Bool) (code : Nat) (done : Nat) : Dev :=
  if bulk then
    let q := d.pcie.load
    if q.runs && decide (0 < q.waiting) then
      let r := q.take
      let d := { d with pcie := { d.pcie with load := r.1, done := (q.head, 0x8000 + code) :: d.pcie.done } }
      if r.2 then d.raiseIrq 0 else d
    else d
  else if d.load.busy then
    let d := { d with load := { d.load with busy := false, begun := false } }
    let d := d.setReg Obj.LOAD_STATUS (0x8000 + code)
    if code = 0 then d.setReg Obj.LOAD_DONE_TICK done else d
  else d

/-- A load ends with a code, and a protocol violation is logged (R424). -/
def Dev.loadViolates (d : Dev) (bulk : Bool) (viol code : Nat) : Dev :=
  let detail := if bulk then d.pcie.load.head else Obj.LOAD_CMD * 256
  (d.loadAnswer bulk code 0).violate (if bulk then 6 else 0) viol detail (0x8000 + code)

/-- A load is refused. -/
def Dev.loadRefuse (d : Dev) (bulk : Bool) (code : Nat) : Dev := d.loadViolates bulk 0x0150 code

/-- A load whose descriptor or setting objects do not hold: a reserved or out-of-range field is a violation of its own. -/
def Dev.descRefuse (d : Dev) (bulk : Bool) (code : Nat) : Dev :=
  d.loadViolates bulk (if bulk && code == 1 then 0x0211 else 0x0150) code

/-- Commit at which a load verified now acts: none earlier than a load before it on its link (R38, R417). -/
def Dev.loadAct (d : Dev) (bulk : Bool) (cyc : Nat) : Tick :=
  ((d.load.claims.filter (·.bulk == bulk)).filterMap (·.act)).foldl (fun m a => if reached a m then a else m) (d.actAt cyc)

/-- Loads of a link under way: refills and ledger loads, bodies that wait for their chapter, profiles on their way. -/
def Dev.inFlight (d : Dev) (bulk : Bool) : Nat :=
  (d.load.claims.filter (·.bulk == bulk)).length + (d.sec.passed.filter fun v => v.bulk == bulk && !v.sec).length +
  d.chans.toList.foldl (fun k c => k + (c.gust.arriving.filter (·.1 == bulk)).length) 0

/-- A further load can begin on a link: a descriptor stands in the running LOAD queue, or an EtherCAT load is submitted. -/
def Dev.loadWaits (d : Dev) (bulk : Bool) : Bool :=
  if bulk then d.pcie.up && !d.pcie.perst && d.pcie.load.runs && decide (d.inFlight true < d.pcie.load.waiting)
  else d.load.busy && d.inFlight false == 0

/-- The body of the oldest container of a type that passed R440 on a link, and the module without it. -/
def Dev.takePassed (d : Dev) (type : Nat) (bulk : Bool) : Option (Verdict × Dev) :=
  (d.sec.passed.find? fun v => v.type == type && v.bulk == bulk).map fun v =>
    (v, { d with sec := { d.sec with passed := d.sec.passed.erase v } })

/-- The EtherCAT load as a descriptor (R421). -/
def Dev.ecatDesc (d : Dev) : LoadDesc :=
  { type := BitVec.ofNat 8 (d.reg Obj.LOAD_TYPE), flags := BitVec.ofNat 8 (d.reg Obj.LOAD_FLAGS),
    target := BitVec.ofNat 16 (d.reg Obj.LOAD_TARGET), first := BitVec.ofNat 48 (d.reg Obj.LOAD_FIRST), box := d.load.staging }

/-- Without an image only IMAGE_UPDATE is accepted (R477). -/
def Dev.imageless (d : Dev) (type : Nat) : Bool := decide (2 ≤ d.reg Obj.IMAGE_STATE) && type != 5

/-- Loads of a link that have not acted are abandoned with RESET (R408, R415, R421): refills not yet verified and bodies that
wait, or else the load at the head. -/
def Dev.loadsReset (d : Dev) (bulk : Bool) : Dev :=
  let lost := (d.load.claims.filter fun c => c.bulk == bulk && c.act.isNone).length +
    (d.sec.passed.filter fun v => v.bulk == bulk && !v.sec).length
  let n := if bulk then (if d.pcie.load.runs then min d.pcie.load.waiting (max lost 1) else 0) else b2n d.load.busy
  let d := { d with load := { d.load with claims := d.load.claims.filter fun c => c.bulk != bulk || c.act.isSome },
                    sec := { d.sec with passed := d.sec.passed.filter fun v => v.bulk != bulk || v.sec } }
  (List.range n).foldl (fun d _ => d.loadRefuse bulk 0xA) d

def Dev.addClaim (d : Dev) (c : Claim) : Dev := { d with load := { d.load with claims := d.load.claims ++ [c] } }

/-! ## Ledger lines (R328, R338) -/

/-- Write whole lines of eight steps; a line replaced leaves the replay list. How long the port waits for busy banks depends
on the instants of the line writes, which no command gives: a free value (log 102). -/
def Dev.writeLines (d : Dev) (line : Nat) (words : List Word64) : Dev :=
  let x := d.fresh
  let d := x.2.incBy 64 Obj.BANK_WAIT x.1
  let n := words.length / 8
  let led := (words.zipIdx).foldl (fun m (w : Word64 × Nat) => sput 0 m (8 * line + w.2) w.1) d.mem.ledger
  { d with mem := { d.mem with
      ledger := led, replay := d.mem.replay.filter fun e => e.line < line || line + n ≤ e.line } }.incBy 64 Obj.BULK_LINES n

/-! ## Spool refills (R261, R418) -/

/-- The channel whose SPOOL_SEG names a segment (R259). -/
def Dev.spoolOwner (d : Dev) (seg : Nat) : Option ChanId :=
  (List.finRange 64).find? fun n => d.creg n Obj.SPOOL_SEG == seg

/-- The claim C of a spool: the end of the last payload in flight, or WR (R418). -/
def Dev.claimOf (d : Dev) (n : ChanId) (seg : Nat) : Nat :=
  (((d.load.claims.filter fun c => c.seg == some seg).getLast?).map (·.last)).getD (d.ch n).spool.wr

/-- Ring lines of the stream indices from `f` on. -/
def ringLines (w f g : Nat) : List Nat :=
  let s := dsSteps w
  (List.range g).map fun i => (dsStart w + (f + 8 * i) % s) / 8

/-- Write refill granules into the ring. -/
def Dev.writeRing (d : Dev) (w f : Nat) (steps : List Word64) : Dev :=
  (List.range (steps.length / 8)).foldl (fun d i =>
    d.writeLines ((dsStart w + (f + 8 * i) % dsSteps w) / 8) ((steps.drop (8 * i)).take 8)) d

/-- Code of Table 15-10 for a refill of a spool that is no re-send: SEQUENCE, SPACE, STATE in the order of R418. -/
def Dev.refillCode (d : Dev) (n : ChanId) (seg f g : Nat) (fin resend : Bool) : Nat :=
  let sp := (d.ch n).spool
  let c := d.claimOf n seg
  let stop := sp.st == .ended || sp.st == .stopped || sp.eos.isSome || d.load.claims.any (fun x => x.seg == some seg && x.fin)
  if resend then (if 512 < g then 5 else if stop || fin then 6 else 0)
  else if f ≠ c then 4
  else if g = 0 || 512 < g || (d.ch n).rel + dsSteps (d.desc seg) - c < 8 * g then 5
  else if stop then 6
  else 0

/-- A refill is refused: it counts (R261). -/
def Dev.refillRefuse (d : Dev) (bulk : Bool) (n : ChanId) (code : Nat) : Dev := (d.cinc n 32 Obj.REFILL_REFUSED).loadRefuse bulk code

/-- A refill is judged before it writes any step, and its steps are written as they arrive (R261, R335, R418). The claim stays
until the container is verified. -/
def Dev.refill (d : Dev) (bulk : Bool) (x : LoadDesc) (body : List Byte) : Dev :=
  let seg := x.target.toNat
  let f := x.first.toNat
  let fin := natBit x.flags.toNat 1
  let g := body.length / 64
  let w := d.desc seg
  if body.length % 64 ≠ 0 then d.loadRefuse bulk 1
  else
    match (if seg < 4096 then d.spoolOwner seg else none) with
    | none => d.loadRefuse bulk 3
    | some n =>
      if !dsValid w || dsType w != 1 then d.refillRefuse bulk n 3
      else
        let lines := ringLines w f g
        let resend := decide (0 < g) && f % 8 == 0 && decide (f + 8 * g ≤ (d.ch n).spool.wr) &&
          decide (d.claimOf n seg ≤ f + dsSteps w) &&
          lines.all fun l => d.mem.replay.any (·.line == l)
        let code := d.refillCode n seg f g fin resend
        if code ≠ 0 then d.refillRefuse bulk n code
        else ((d.writeRing w f (stepsOf body)).incBy 64 Obj.REFILL_GRANULES g).addClaim
          { bulk := bulk, act := none, box := x.box, lines := lines, seg := if resend then none else some seg,
            last := f + 8 * g, grow := 8 * g, fin := fin }

/-- Key of the open stream that a container names (R445). -/
def Dev.streamOf (d : Dev) (box : List Byte) : Option Stream :=
  (d.sec.streams.toList.filterMap fun s => s).find? (·.id == (boxHeadOf box).stream)

/-- `SPOOL_REFILL` (R418): the body transfer of a refill begins, of the LOAD queue's descriptor or of the submitted EtherCAT
load. A container whose layout does not hold is left to its verification. -/
def execSpoolRefill (src : Option LoadDesc) (s : State) : Host.Outcome State Fault Refusal :=
  liveIn s fun d =>
    let bulk := src.isSome
    let x := src.getD d.ecatDesc
    if !d.loadWaits bulk || x.type != 1 then d
    else if descCode x ≠ 0 then d.descRefuse bulk (descCode x)
    else if d.imageless 1 then d.loadRefuse bulk 6
    else if !boxOk x.box || (boxHeadOf x.box).size != x.box.length || (boxHeadOf x.box).type != 1 then d
    else
      match boxText x.box ((d.streamOf x.box).map (·.key)) with
      | none => d
      | some body => d.refill bulk x body

/-- A line of a SPOOL segment that is not on the replay list (R419). -/
def Dev.spoolLine (d : Dev) (line : Nat) : Bool :=
  d.mem.dir.any (fun e => dsType e.2.toNat == 1 && segHasLine e.2.toNat line) && !d.mem.replay.any (·.line == line)

/-- First line and steps of a LEDGER_LOAD body (Table 15-9): a START step address, then whole lines. -/
def readLedger (b : List Byte) : Option (Nat × List Word64) :=
  let start := fieldAt b 0 4
  if b.length < 68 || (b.length - 4) % 64 ≠ 0 || start % 8 ≠ 0 || 131072 < start / 8 + (b.length - 4) / 64 then none
  else some (start / 8, stepsOf (b.drop 4))

/-- Ledger lines that a body of a type writes (R445). -/
def bodyLines (type : Nat) (b : List Byte) : List Nat :=
  if type ≠ 2 then []
  else match readLedger b with | none => [] | some (l, ws) => (List.range (ws.length / 8)).map (l + ·)

/-- A ledger load (R419). -/
def Dev.ledgerLoad (d : Dev) (bulk : Bool) (line : Nat) (words : List Word64) (cyc : Nat) : Dev :=
  if (List.range (words.length / 8)).any fun i => d.spoolLine (line + i) then d.loadRefuse bulk 6
  else (d.writeLines line words).addClaim
    { bulk := bulk, act := some (d.loadAct bulk cyc), box := [], lines := [], seg := none, last := 0, grow := 0, fin := false }

/-- `LEDGER_LOAD` (R419): its last line write completes in cycle `cyc`. -/
def execLedgerLoad (bulk : Bool) (cyc : Cycle) (s : State) : Host.Outcome State Fault Refusal :=
  liveIn s fun d =>
    match d.takePassed 2 bulk with
    | none => d
    | some (v, d) =>
      match readLedger v.body with
      | none => d.loadRefuse bulk 1
      | some (line, words) => d.ledgerLoad bulk line words cyc.val

/-- A claim acts at the present commit: WR grows, EOS is set (R261). -/
def Dev.actClaim (d : Dev) (c : Claim) : Dev :=
  let d := match c.seg with
    | none => d
    | some seg =>
      match d.spoolOwner seg with
      | none => d
      | some n => d.modCh n fun x => x.modSpool fun sp =>
          { sp with wr := sp.wr + c.grow, recent := sp.recent ++ [(d.tick, sp.wr)],
                    eos := if c.fin then some (sp.wr + c.grow) else sp.eos }
  d.loadAnswer c.bulk 0 d.tick.toNat

/-- Loads act at the present commit, those of EtherCAT first (R422). -/
def Dev.actClaims (d : Dev) : Dev :=
  let due := fun (c : Claim) => c.act.any (reached d.tick)
  let now := d.load.claims.filter due
  let d := { d with load := { d.load with claims := d.load.claims.filter fun c => !due c } }
  ((now.filter fun c => !c.bulk) ++ now.filter (·.bulk)).foldl Dev.actClaim d

/-! ## Gust profiles (R138) -/

/-- A profile payload, if its format is that of Table 4-2: profile number and content. -/
def readProfile (b : List Byte) : Option (Nat × GustProfile) :=
  let u8 := fun (i : Nat) => (b.getD i 0).toNat
  let len := u8 4 + 256 * u8 5
  let smp := (List.range len).map fun i => u8 (8 + 2 * i) + 256 * u8 (9 + 2 * i)
  if decide (8 ≤ b.length) && u8 0 == 0x55 && u8 1 == 0x47 && decide (u8 2 < 16) && decide (u8 3 ≤ 6) && decide (1 ≤ len) &&
      decide (len ≤ 256) && decide (u8 6 ≤ 8) && u8 7 == 0 && b.length == 8 + 2 * len &&
      smp.all (fun v => natBits v 15 12 == (if natBit v 11 then 15 else 0)) then
    some (u8 2, { loaded := true, irange := u8 3, shift := u8 6, len := len, samples := smp.map (signedOf 12) })
  else none

/-- `GUST_PROFILE` (R138): the payload of a container for the channel in TARGET. -/
def execGustProfile (bulk : Bool) (s : State) : Host.Outcome State Fault Refusal :=
  liveIn s fun d =>
    match d.takePassed 4 bulk with
    | none => d
    | some (v, d) =>
      match chanOf v.target, readProfile v.body with
      | none, _ => d.loadRefuse bulk 3
      | _, none => d.loadRefuse bulk 8
      | some n, some (p, g) =>
        if (d.ch n).gust.armed = some p then d.loadRefuse bulk 6
        else d.modCh n fun c => c.modGust fun x => { x with arriving := x.arriving ++ [(bulk, p, g)] }

/-- `GUST_PROFILE_VALID` (R138): the oldest delivery to the channel has completed. -/
def execGustProfileValid (n : ChanId) (s : State) : Host.Outcome State Fault Refusal :=
  liveAt s fun d =>
    match (d.ch n).gust.arriving with
    | [] => d
    | (bulk, p, g) :: rest =>
      (d.modCh n fun c => c.modGust fun x =>
        { x with arriving := rest, profiles := Vector.ofFn fun i => if i.val = p then g else x.profiles[i] }).loadAnswer
        bulk 0 d.tick.toNat

/-! ## The EtherCAT load (R421) -/

def Dev.loadBusy (d : Dev) : Bool := d.load.begun || d.load.busy

/-- LOAD_CMD 1. -/
def Dev.loadBegin (d : Dev) : Dev :=
  if d.loadBusy then d.refuse Obj.LOAD_CMD abState
  else
    let d := (d.accept.setReg Obj.LOAD_STATUS 0x4000).setReg Obj.LOAD_BYTES 0
    { d with load := { d.load with staging := [], begun := true } }

/-- `LOAD_CMD_BEGIN` (R421). -/
def execLoadCmdBegin (s : State) : Host.Outcome State Fault Refusal := liveAt s fun d => d.loadBegin

/-- A write of LOAD_DATA; it needs a load that has begun and is not submitted. -/
def Dev.loadData (d : Dev) (bytes : List Byte) : Dev :=
  if bytes.isEmpty || 1024 < bytes.length then d.refuse Obj.LOAD_DATA 0x06070010
  else if !d.load.begun || d.load.busy then d.refuse Obj.LOAD_DATA abState
  else
    let st := d.load.staging ++ bytes
    { d.accept.setReg Obj.LOAD_BYTES st.length with load := { d.load with staging := st } }

/-- `LOAD_DATA` (R421). -/
def execLoadData (bytes : List Byte) (s : State) : Host.Outcome State Fault Refusal := liveAt s fun d => d.loadData bytes

/-- LOAD_CMD 2: the container goes to verification, or is refused with FORMAT or SIZE. -/
def Dev.loadSubmit (d : Dev) : Dev :=
  if !d.load.begun || d.load.busy then d.refuse Obj.LOAD_CMD abState
  else
    let d := { d.accept with load := { d.load with busy := true } }
    let d := if d.reg Obj.LOAD_TYPE = 5 then d.setReg Obj.UPDATE_STATE 1 else d
    if descCode d.ecatDesc ≠ 0 then d.descRefuse false (descCode d.ecatDesc) else d

/-- `LOAD_CMD_SUBMIT` (R421). -/
def execLoadCmdSubmit (s : State) : Host.Outcome State Fault Refusal := liveAt s fun d => d.loadSubmit

/-- LOAD_CMD 3: the load is abandoned with RESET. -/
def Dev.loadAbandon (d : Dev) : Dev :=
  let d := d.accept
  if !d.loadBusy then d
  else
    let d := (d.loadsReset false).setReg Obj.LOAD_STATUS 0x800A
    { d with load := { d.load with staging := [], begun := false, busy := false } }

/-- `LOAD_CMD_ABANDON` (R421). -/
def execLoadCmdAbandon (s : State) : Host.Outcome State Fault Refusal := liveAt s fun d => d.loadAbandon

end Sys2Proof.Machine
end

