-- ==== Sys2Proof/Machine/Image.lean ====
section
/-! DEFINITION. The flash as bytes: directory records (Table 17-5) and image bodies (Table 17-6). -/

namespace Sys2Proof.Machine

open Sys2Proof

/-! ## Directory records (R474) -/

/-- A directory record: ACTIVE, SEQ and the container lengths of both slots. -/
structure DirRecord where
  active : Nat
  seq    : Nat
  lenA   : Nat
  lenB   : Nat
deriving DecidableEq, Repr

/-- A copy of the directory that is valid. -/
def readDir (b : List Byte) : Option DirRecord :=
  if b.length = 32 && fieldAt b 0 2 == 0x4644 && fieldAt b 2 1 == 1 && decide (fieldAt b 3 1 ≤ 1) && zerosAt b 16 12 &&
      fieldAt b 28 4 == (crc32 (slice b 0 28)).toNat then
    some { active := fieldAt b 3 1, seq := fieldAt b 4 4, lenA := fieldAt b 8 4, lenB := fieldAt b 12 4 }
  else none

/-- A directory record as it is written. -/
def dirBytes (r : DirRecord) : List Byte :=
  let b := leBytes 2 0x4644 ++ leBytes 1 1 ++ leBytes 1 r.active ++ leBytes 4 r.seq ++ leBytes 4 r.lenA ++ leBytes 4 r.lenB ++ leBytes 12 0
  b ++ leBytes 4 (crc32 b).toNat

/-- The two copies, and the one in force: the valid copy with the higher SEQ. -/
def flashDirs (f : Flash) : Option DirRecord × Option DirRecord := (f.dirs[0]?.bind readDir, f.dirs[1]?.bind readDir)

def flashDir (f : Flash) : Option DirRecord :=
  match flashDirs f with
  | (some a, some b) => some (if a.seq < b.seq then b else a)
  | (some a, none) => some a
  | (none, b) => b

/-- The container in a slot: of the directory's length, or without a directory of the length that its header gives. -/
def flashBox (f : Flash) (slot : Fin 2) : List Byte :=
  let s := if slot.val = 0 then f.slotA else f.slotB
  match flashDir f with
  | some r => s.take (if slot.val = 0 then r.lenA else r.lenB)
  | none => s.take (boxHeadOf s).size

/-- A directory that names a slot is written in place of the copy with the lower SEQ, or of an invalid one (R478). -/
def flashActivate (f : Flash) (slot : Fin 2) (lenA lenB : Nat) : Flash :=
  let r : DirRecord := { active := slot.val, seq := (((flashDir f).map (·.seq)).getD 0 + 1) % 2 ^ 32, lenA := lenA, lenB := lenB }
  let first := match flashDirs f with
    | (none, _) => true
    | (some _, none) => false
    | (some a, some b) => decide (a.seq < b.seq)
  { f with dirs := if first then [dirBytes r, (f.dirs[1]?).getD []] else [(f.dirs[0]?).getD [], dirBytes r] }

/-! ## Image bodies (R475) -/

/-- The sections of an image: the library first among the packages, directory, ledger lines, profiles and the values of
objects whose default reads "image". -/
structure ImageBody where
  version  : Nat
  packages : List Package
  dir      : List (Nat × Word64)
  ledger   : List (Nat × Word64)
  profiles : List (Nat × List Byte)
  defaults : List (Nat × Nat)
deriving DecidableEq, Repr

/-- A section: KIND, offset, length. -/
structure Section where
  kind : Nat
  off  : Nat
  len  : Nat
deriving DecidableEq, Repr

def sectionAt (b : List Byte) (i : Nat) : Section :=
  { kind := fieldAt b (32 + 16 * i) 1, off := fieldAt b (36 + 16 * i) 4, len := fieldAt b (40 + 16 * i) 4 }

/-- The entry of a section holds: its fields, and its place in the body. -/
def sectionOk (b : List Byte) (n i : Nat) : Bool :=
  let s := sectionAt b i
  decide (1 ≤ s.kind) && decide (s.kind ≤ 7) && zerosAt b (33 + 16 * i) 3 && zerosAt b (44 + 16 * i) 4 && s.off % 4 == 0 &&
  decide (32 + 16 * n ≤ s.off) && decide (s.off + s.len ≤ b.length)

/-- Two sections overlap. -/
def overlap (a b : Section) : Bool := decide (a.off < b.off + b.len) && decide (b.off < a.off + a.len)

/-- The first section that overlaps one before it. -/
def firstOverlap : List Section → List Section → Option Section
  | _, [] => none
  | done, s :: ss => if done.any (overlap s) then some s else firstOverlap (s :: done) ss

/-- Entries of a DIRECTORY section. -/
def readEntries : Nat → List Byte → Option (List (Nat × Word64))
  | 0, _ => some []
  | n + 1, b =>
    if b.isEmpty then some []
    else if b.length < 16 || !zerosAt b 2 6 then none
    else (readEntries n (b.drop 16)).map ((fieldAt b 0 2, BitVec.ofNat 64 (fieldAt b 8 8)) :: ·)

/-- Entries of a DEFAULTS section, laid out as those of Table 14-5: object and value. -/
def readDefaults : Nat → List Byte → Option (List (Nat × Nat))
  | 0, _ => none
  | n + 1, b =>
    let len := fieldAt b 3 1
    if b.isEmpty || fieldAt b 0 2 == 0xFFFF then some []
    else if b.length < 4 + len || len = 0 || 64 < len then none
    else (readDefaults n (b.drop (4 + len))).map ((fieldAt b 0 2 * 256 + fieldAt b 2 1, fieldAt b 4 len) :: ·)

/-- Ledger words of a LEDGER section: step address and step. -/
def ledgerWords (x : Nat × List Word64) : List (Nat × Word64) := (x.2.zipIdx).map fun e => (8 * x.1 + e.2, e.1)

/-- A list of readings, each of which must hold. -/
def allOf {α : Type} : List (Option α) → Option (List α)
  | [] => some []
  | none :: _ => none
  | some x :: xs => (allOf xs).map (x :: ·)

/-- Module issue of this specification (R530). -/
def moduleIssue : Nat := 1

/-- The body of an image container, or the code of its refusal: FORMAT of the header, or 0x20 and the KIND of a section
(Table 17-9). -/
def readImage (b : List Byte) : Except Nat ImageBody :=
  let n := fieldAt b 3 1
  let ss := (List.range n).map (sectionAt b)
  let of := fun (k : Nat) => (ss.filter (·.kind == k)).map fun s => slice b s.off s.len
  if b.length < 32 || fieldAt b 0 2 != 0x494D || fieldAt b 2 1 != 1 || n = 0 || 64 < n || fieldAt b 8 4 != b.length ||
      !zerosAt b 14 18 || moduleIssue < fieldAt b 12 2 || b.length < 32 + 16 * n then .error 1
  else
    match (List.range n).find? fun i => !sectionOk b n i with
    | some i => .error (0x20 + (sectionAt b i).kind)
    | none =>
      match firstOverlap [] ss with
      | some s => .error (0x20 + s.kind)
      | none =>
        if (of 1).length ≠ 1 then .error 0x21
        else if (of 2).length ≠ 1 then .error 0x22
        else if 1 < (of 7).length then .error 0x27
        else
          match allOf ((of 7).map fun x => readDefaults (x.length + 1) x), allOf ((of 2).map readPackage), allOf ((of 3).map readPackage),
              allOf ((of 4).map fun x => readEntries x.length x), allOf ((of 5).map readLedger) with
          | none, _, _, _, _ => .error 0x27
          | _, none, _, _, _ => .error 0x22
          | _, _, none, _, _ => .error 0x23
          | _, _, _, none, _ => .error 0x24
          | _, _, _, _, none => .error 0x25
          | some ds, some lib, some ps, some es, some ls =>
            if !((of 6).all fun x => decide (4 ≤ x.length) && zerosAt x 2 2) then .error 0x26
            else .ok { version := fieldAt b 4 4, packages := lib ++ ps, dir := es.flatten, ledger := ls.flatMap ledgerWords,
                       profiles := (of 6).map fun x => (fieldAt x 0 2, x.drop 4), defaults := ds.flatten }

/-- Largest image container (R475). -/
def maxImage : Nat := 4194304

end Sys2Proof.Machine
end

