-- ==== Sys2Proof/Machine/Correct.lean ====
section
/-! DEFINITION. The calibration words of a channel and the correction of a raw sample (R347, R348, Table 13-1). -/

namespace Sys2Proof.Machine

open Sys2Proof

/-! ## Calibration words (Table 13-1) -/

/-- 1 in the units 2^−32. -/
def unity : Int := 2 ^ 32

/-- Gain of a gain code (R159). -/
def gainOf (g : Nat) : Nat := 2 ^ (g % 4)

/-- Address of offset `o` of a channel's CHAN area. -/
def chanWord (n : ChanId) (o : Nat) : Nat := 0x300 * posOf n + 0x200 + o

/-- Address of f_stall. -/
def stallFactor : Nat := 0x1900

/-- A coefficient of a channel. -/
def Dev.coef (d : Dev) (n : ChanId) (o : Nat) : Int := (d.scr (stallOf n) (chanWord n o)).toInt
/-- Write a coefficient. -/
def Dev.setCoef (d : Dev) (n : ChanId) (o : Nat) (v : Int) : Dev := d.setScr (stallOf n) (chanWord n o) (BitVec.ofInt 64 v)

/-- Range slot of a range: V3, V13, V52, I5U … I500M, I100M (R348). -/
def slotV (r : Nat) : Nat := min r 2
def slotI (r : Nat) : Nat := 3 + min r 6

/-- The background stage of R347: a raw value at a gain code, in an applied range, in units of 2^−104 LSB. -/
def Dev.background (d : Dev) (n : ChanId) (mi : Bool) (g range : Nat) (raw : Int) : Int :=
  let o := d.coef n ((if mi then 8 else 0) + g % 4)
  let gn := d.coef n ((if mi then 0xC else 4) + g % 4)
  let q := if mi then slotI range else slotV range
  let rr := d.coef n (0x10 + q)
  let f := (d.scr (stallOf n) stallFactor).toInt
  (256 * raw - o) * gn * rr * f

/-- Correction chain of R347: z is in 2^−4 LSB. -/
def Dev.correctRaw (d : Dev) (n : ChanId) (mi : Bool) (g range : Nat) (raw : Int) : Int :=
  let q := if mi then slotI range else slotV range
  let z := d.coef n (0x20 + q)
  let s := d.coef n (0x30 + q)
  divRound ((d.background n mi g range raw - z * 2 ^ 100) * s) (2 ^ 136)

end Sys2Proof.Machine
end

