-- ==== Sys2Proof/Machine/Outputs.lean ====
section
/-! DEFINITION. Commands of the output states, of clamps and hardware trips, of rails, thermal derating and gangs (R82–R113).
Temperatures are in 0.1 °C. -/

namespace Sys2Proof.Machine

open Sys2Proof

/-! ## Arming (R89–R92, R105, R110, R111) -/

/-- Declared power in mW and current in mA of a channel, each rounded up (R110). -/
def Channel.declP (c : Channel) : Nat := ceilDiv (c.reg Obj.DECL_V * c.reg Obj.DECL_I) 1000000
def Channel.declI (c : Channel) : Nat := ceilDiv (c.reg Obj.DECL_I) 1000

/-- A channel counts toward the budget by its state (R110). -/
def Channel.budgeted (c : Channel) : Bool :=
  match c.force.st with
  | .armed | .arming | .safe => true
  | .parked | .parking => false

/-- Sums of R110 over the channels that a request would leave. -/
def Dev.budget (d : Dev) (req : Word64) : Nat × Nat :=
  (List.finRange 64).foldl (fun (a : Nat × Nat) n =>
    let c := d.ch n
    if bit req n.val || c.budgeted then (a.1 + c.declP, a.2 + c.declI) else a) (0, 0)

/-- A named channel breaks a rule of R105. -/
def Dev.gangBad (d : Dev) (req : Word64) (n : ChanId) : Bool :=
  match d.role n with
  | 0 => false
  | 2 => d.leaderOf n == n || isHS n || !bit req (d.leaderOf n).val ||
      d.creg n Obj.DECL_V != d.creg (d.leaderOf n) Obj.DECL_V || d.creg n Obj.DECL_I != d.creg (d.leaderOf n) Obj.DECL_I
  | _ => isHS n || decide (7 < (d.members n).length) || (d.members n).any fun m => !bit req m.val

/-- The boundary-scan instruction EXTEST is selected (R460). -/
def Dev.extest (d : Dev) : Bool := d.sec.bscan == 2

/-- A named channel meets DEVICE_STATE (R434, R457, R459, R460, R466, R482, Table 18-1). -/
def Dev.deviceBars (d : Dev) (n : ChanId) : Bool :=
  d.power.state == .quiet || d.power.state == .boot || d.power.state == .off || d.imageMissing || d.power.mramFail ||
  !d.flt.f4.isEmpty || d.sec.life == .blank || d.sec.life == .retired || d.sec.debug == 3 || d.extest ||
  (d.st (stallOf n)).underTest || (d.ch n).eng.halted

/-- Clamp codes of a named channel exceed its declared limits, or entry 0 has the other mode (R111). -/
def Channel.entriesBad (c : Channel) : Bool :=
  (List.range 16).any (fun i => rpOver (c.reg (Obj.RPAIR i)) (c.reg Obj.DECL_V) (c.reg Obj.DECL_I)) ||
  (rpMode (c.reg (Obj.RPAIR 0)) != (c.reg Obj.ARM_MODE == 1))

/-- Result of the checks of R90 for a request that names at least one channel. -/
def Dev.armResult (d : Dev) (req : Word64) : Nat :=
  let named := (List.finRange 64).filter fun n => bit req n.val
  let bud := d.budget req
  if (req &&& d.parkNow) != 0 then 0x0B
  else if named.any (fun n => !(d.ch n).isParked) then 0x01
  else if named.any d.deviceBars then 0x02
  else if d.sync.refclk != .locked then 0x03
  else if named.any (fun n => decide (2 ≤ (d.st (stallOf n)).derate) || !(d.st (stallOf n)).f3.isEmpty) then 0x04
  else if named.any (d.gangBad req) then 0x05
  else if named.any (fun n => d.creg n Obj.DECL_V == 0 || d.creg n Obj.DECL_I == 0) then 0x06
  else if named.any (fun n => (d.ch n).entriesBad) then 0x07
  else if 160000 < bud.1 then 0x08
  else if 24000 < bud.2 then 0x09
  else 0

/-- A scratchpad address is one of the library's PRIV words 0x00–0x2F of a channel's slots (R286, Table 10-7). -/
def privOf (n : ChanId) (a : Nat) : Bool :=
  let base := 8192 * (stallOf n).val + 0x300 * posOf n
  decide (base ≤ a) && decide (a < base + 0x200) && decide ((a - base) % 0x40 < 0x30)

/-- The engines of a channel and the library's PRIV words are cleared (R286). -/
def Dev.clearEngines (d : Dev) (n : ChanId) : Dev :=
  let d := { d with mem := { d.mem with scr := d.mem.scr.filter fun e => !privOf n e.1 } }
  d.modCh n fun c => { c with eng := { c.eng with te := Vector.replicate 8 Engine.reset, lags := [], chips := 0,
                                                  saved := Vector.replicate 8 Engine.reset, savedLags := [], savedChips := 0 } }

/-- The arm commit on one channel (R91, R92, R123, R124, R127, R131, R136, R252, R286, R352). -/
def Dev.armOne (d : Dev) (req : Word64) (n : ChanId) : Dev :=
  let g := d.cfg n
  let w := g.reg (Obj.RPAIR 0)
  let d := d.modCh n fun c =>
    let c := c.modForce fun f =>
      { f with st := .arming, armTick := d.tick, armMask := req, fi := g.reg Obj.ARM_MODE == 1, setpt := zeroCode,
               prevSetpt := zeroCode, target := zeroCode, prevTarget := zeroCode, rpair := 0, vrange := rpVRange w,
               irange := rpIRange w, pset := 0, plan := 0, gates := 0, marks := 0, withheld := false, phase := .idle }
    let c := (c.sineOff.wmRecodeAll).compArm d.tick (g.reg Obj.COMP_INIT) (g.reg Obj.COMP_MODE == 1)
    let c := c.lwRestart true
    let c := (((c.setReg Obj.EST_COUNT 0).setReg Obj.EST_DISCARDS 0).setReg Obj.OW_RESULT (clearBits (c.reg Obj.OW_RESULT) 8)).modEng fun e => { e with flags := 0, pflags := [] }
    { c with ol := { c.ol with ramp := 0, corr := 0 }, lw := { c.lw with lfsr := 0x7F, pos := 0, chip := 0, probing := false },
             cal := { c.cal.begin d.tick with cycled := false } }
  (d.clearEngines n).armBarker n

/-- An arm request acts (R89, R90). What DECL_P_TOTAL and DECL_I_TOTAL show when the arm ends in EXT_VOLTAGE or ABORTED the
manual does not say: they keep the sums of the accepted request (log 91). -/
def Dev.armMask (d : Dev) (mask : Word64) : Dev :=
  let req := mask &&& ~~~(maskOf fun n => (d.ch n).isArmed)
  if req = 0 then d
  else
    let r := d.armResult req
    let named := (List.finRange 64).filter fun n => bit req n.val
    let back : ArmBack :=
      { tick := d.tick, mask := mask, ok := r == 0, chans := if r = 0 then named.map fun n => (n, d.ch n) else [],
        priv := if r = 0 then d.mem.scr.filter fun e => named.any fun n => privOf n e.1 else [],
        pTotal := d.reg Obj.DECL_P_TOTAL, iTotal := d.reg Obj.DECL_I_TOTAL }
    let d := ({ d with armBack := some back }.setReg Obj.ARM_RESULT r).setReg Obj.ARM_RESULT_TICK d.tick.toNat
    if r ≠ 0 then d
    else
      let bud := d.budget req
      let d := (d.setReg Obj.DECL_P_TOTAL bud.1).setReg Obj.DECL_I_TOTAL bud.2
      d.inMask req fun d n => d.armOne req n

/-- The arm of this commit is taken back on every channel that it named (R90, R94). -/
def Dev.undoArm (d : Dev) (a : ArmBack) : Dev :=
  let d := a.chans.foldl (fun d x =>
    let keep := fun (c : Channel) => [Obj.LAST_MOVE_TICK, Obj.EST_COUNT, Obj.EST_DISCARDS, Obj.OW_RESULT].foldl
      (fun (c : Channel) k => c.setReg k (x.2.reg k)) { x.2 with regs := c.regs }
    d.modCh x.1 keep) d
  let d := { d with mem := { d.mem with scr := a.priv.foldl (fun (m : SMap Word64) (e : Nat × Word64) => sput 0 m e.1 e.2) d.mem.scr } }
  (d.setReg Obj.DECL_P_TOTAL a.pTotal).setReg Obj.DECL_I_TOTAL a.iTotal

/-- `ARM_REQ` (R90). -/
def execArmReq (mask : Word64) (s : State) : Host.Outcome State Fault Refusal := liveAt s fun d => d.accept.armMask mask

/-- Channels that are ARMING and were decided `k` commits ago. -/
def Dev.armingAt (d : Dev) (k : Nat) (n : ChanId) : Bool :=
  let f := (d.ch n).force
  f.st == .arming && ticksFrom f.armTick d.tick == k

/-- The voltage that MV sensed before the disconnect closes: the latest pre-close conversion that the check may use, corrected
(R91, R160, R166), in LSB of the applied range. -/
def Dev.sensed (d : Dev) (n : ChanId) : Option Int :=
  (d.ch n).mv.preClose.map fun raw => d.correctRaw n false 0 (d.ch n).force.vrange raw.toInt

/-- The pre-close check fails for a sensed voltage (R91). -/
def Dev.preCloseFails (d : Dev) (n : ChanId) (v : Int) : Bool :=
  let w := d.entryWord n
  let vr := rpVRange w
  if (d.ch n).force.fi then
    let act := clampAct (isHS n) true vr false
    decide (v < act (rpLo w)) || decide (act (rpHi w) < v)
  else decide (5000000 < v.natAbs * lsbV vr)

/-- Commit k+8 of the arm sequence. -/
def Dev.armClose (d : Dev) : Dev :=
  let bad := maskOf fun n => d.armingAt 8 n && (match d.sensed n with | some v => d.preCloseFails n v | none => false)
  d.eachCh fun d n =>
    if !d.armingAt 8 n then d
    else if (bad &&& (d.ch n).force.armMask) != 0 then ((d.setReg Obj.ARM_RESULT 0x0A).stopBarker n).becomeParked n
    else d.modCh n fun c => c.modForce fun f => { f with disc := true }

/-- `ARM_DISCONNECT_CLOSE` (R91). -/
def execArmDisconnectClose (s : State) : Host.Outcome State Fault Refusal := liveAt s Dev.armClose

/-- `ARM_CLAMPS` (R91, R214). -/
def execArmClamps (s : State) : Host.Outcome State Fault Refusal :=
  liveAt s fun d => d.eachCh fun d n => if d.armingAt 24 n then (d.entryClamps n).wmSettle n else d

/-- Commit k+32 of the arm sequence on one channel (R91, R92, R252). -/
def Dev.armed (d : Dev) (n : ChanId) : Dev :=
  let d := d.modCh n fun c => c.modForce fun f => { f with st := .armed, armMask := 0 }
  if (d.cfg n).reg Obj.START_MODE = 0 then d.startSeq n else d

/-- `ARM_COMPLETE` (R91). -/
def execArmComplete (s : State) : Host.Outcome State Fault Refusal :=
  liveAt s fun d => (d.eachCh fun d n => if d.armingAt 32 n then d.armed n else d).settleFaults

/-! ## Parking (R93–R95) -/

/-- A park request acts; an arm request that acted before it at the same commit is decided after it (R90, R94, R110). -/
def Dev.parkRequest (d : Dev) (mask : Word64) : Dev :=
  let park := fun (d : Dev) => { d with parkNow := d.parkNow ||| mask }.parkMask mask
  (match d.armBack with
   | some a =>
     if a.tick = d.tick && a.chans.all (fun x => d.armingAt 0 x.1) then (park (if a.ok then d.undoArm a else d)).armMask a.mask
     else park d
   | none => park d).settleFaults

/-- `PARK_REQ` (R93). -/
def execParkReq (mask : Word64) (s : State) : Host.Outcome State Fault Refusal :=
  liveAt s fun d => d.accept.parkRequest mask

/-- The present stage of a park or of a policy has lasted `k` ticks. -/
def Dev.phaseDone (d : Dev) (n : ChanId) (k : Nat) : Bool := reached d.tick ((d.ch n).force.phaseTick + BitVec.ofNat 48 k)

/-- `PARK_RAMP_DONE` (R93). -/
def execParkRampDone (n : ChanId) (s : State) : Host.Outcome State Fault Refusal :=
  liveAt s fun d =>
    let f := (d.ch n).force
    if f.st == .parking && f.phase == .ramp && d.phaseDone n (max 1 f.rampLen) then
      d.modCh n fun c => c.modForce fun f => { f with setpt := zeroCode, phase := .wait, phaseTick := d.tick }
    else d

/-- The disconnect is commanded open at the present commit. -/
def Dev.openDisc (d : Dev) (n : ChanId) : Dev :=
  d.modCh n fun c => c.modForce fun f => { f with disc := false, phase := .opened, phaseTick := d.tick }

/-- `PARK_CURRENT_LOW` (R93). -/
def execParkCurrentLow (n : ChanId) (s : State) : Host.Outcome State Fault Refusal :=
  liveAt s fun d =>
    let f := (d.ch n).force
    if f.st == .parking && f.phase == .wait then d.openDisc n else d

/-- `PARK_FORCED` (R93). -/
def execParkForced (n : ChanId) (s : State) : Host.Outcome State Fault Refusal :=
  liveAt s fun d =>
    let f := (d.ch n).force
    if f.st == .parking && f.phase == .wait && d.phaseDone n 100 then
      ((d.openDisc n).raiseCh 0x0202 1 n).settleFaults
    else d

/-- A larger forward delay of the parent that waits is applied through ACQUIRING once every channel is PARKED (R53). -/
def Dev.applyDelay (d : Dev) : Dev :=
  match d.sync.offeredD with
  | some x =>
    if d.allParked then
      { d.setReg Obj.PARENT_DELAY x with sync := { d.sync with parentD := x, offeredD := none, lock := .acquiring } }.raiseIrq 7
    else d
  | none => d

/-- `PARK_COMPLETE` (R93, R493, R53). -/
def execParkComplete (n : ChanId) (s : State) : Host.Outcome State Fault Refusal :=
  liveAt s fun d =>
    let f := (d.ch n).force
    if (f.st == .parking || f.st == .safe) && f.phase == .opened && d.phaseDone n 16 then
      (d.becomeParked n).applyDelay.settleFaults
    else d

/-- `SAFE_RAMP_DONE` (R95): the ramp has reached zero; the disconnect is commanded open at the next commit. -/
def execSafeRampDone (n : ChanId) (s : State) : Host.Outcome State Fault Refusal :=
  liveAt s fun d =>
    let f := (d.ch n).force
    if f.st == .safe && f.phase == .ramp && d.phaseDone n f.rampLen then
      d.modCh n fun c => c.modForce fun f => { f with setpt := zeroCode, phase := .opened, phaseTick := d.tick + 1 }
    else d

/-! ## Clamps and trips (R82–R86) -/

/-- Clamp latches and events are active (R84, R91). -/
def Dev.clampsLive (d : Dev) (n : ChanId) : Bool :=
  match (d.ch n).force.st with
  | .parked => false
  | .arming => decide (24 ≤ ticksFrom (d.ch n).force.armTick d.tick)
  | .armed | .parking | .safe => true

/-- `CLAMP_ENGAGE` (R82, R83): inside a range-change window it sets RC_CLAMPED until the next change (R151). -/
def execClampEngage (n : ChanId) (high : Bool) (cyc : Cycle) (s : State) : Host.Outcome State Fault Refusal :=
  liveIn s fun d =>
    let f := (d.ch n).force
    if !d.clampsLive n || (if high then f.engHi else f.engLo) then d
    else
      let d := d.modCh n fun c =>
        { c.modForce fun f => { f with engHi := f.engHi || high, engLo := f.engLo || !high, seenHi := f.seenHi || high,
                                       seenLo := f.seenLo || !high } with
          cal := { c.cal with engSince := some (c.cal.engSince.getD (d.tick + 1)) },
          rc := { c.rc with clamped := c.rc.clamped || c.rc.active } }
      d.fire (chProd n (if high then 0 else 2)) [] true 2 cyc.val

/-- `CLAMP_RELEASE` (R83, R355). -/
def execClampRelease (n : ChanId) (high : Bool) (cyc : Cycle) (s : State) : Host.Outcome State Fault Refusal :=
  liveIn s fun d =>
    let f := (d.ch n).force
    if !d.clampsLive n || !(if high then f.engHi else f.engLo) then d
    else
      let d := d.modCh n fun c =>
        let hi := f.engHi && !high
        let lo := f.engLo && high
        { c.modForce fun f => { f with engHi := hi, engLo := lo } with
          cal := if hi || lo then c.cal else { c.cal with engSince := none, pausedClamp := false } }
      d.fire (chProd n (if high then 1 else 3)) [] true 2 cyc.val

/-- `HARDWARE_TRIP` (R86): the disconnect opens at once. -/
def execHardwareTrip (n : ChanId) (span : Bool) (cyc : Cycle) (s : State) : Host.Outcome State Fault Refusal :=
  liveIn s fun d =>
    (d.modCh n fun c => c.modForce fun f => { f.openNow with tripped := f.st != .parked }).raiseChCyc
      (if span then 0x0207 else 0x0206) 2 n cyc.val

/-- `RAIL_FAIL` (R103): both channels of the pair. -/
def execRailFail (s' : StallId) (rail : Idx4) (cyc : Cycle) (s : State) : Host.Outcome State Fault Refusal :=
  liveIn s fun d =>
    let n : ChanId := ⟨8 * s'.val + 2 * rail.val, by omega⟩
    ((d.sinc s' 16 Obj.RAIL_FAULTS).setSreg s' (Obj.RAIL_STATE rail.val) 3).raiseChCyc 0x0208 2 n cyc.val

/-- The aggregate current is judged (R29): above 32 A at an instant, or above 24 A for longer than 10 ms; once for each
excursion above 24 A. -/
def Dev.judgeAgg (d : Dev) (milliamp : Nat) (present : Tick) : Dev :=
  let high := decide (32000 < milliamp) || (decide (24000 < milliamp) && decide (10000 < d.power.aggOver))
  if high && !d.power.aggRaised then
    { d with power := { d.power with aggRaised := true } }.raiseAt present 0x020A 4 .device 0xFF milliamp
  else d

/-- `AGG_CURRENT` (R29): a reading inside a tick. -/
def execAggCurrent (milliamp : Nat) (cyc : Cycle) (s : State) : Host.Outcome State Fault Refusal :=
  liveIn s fun d => d.judgeAgg milliamp (d.presentAt cyc.val)

/-- `SHARE_FAULT` (R107): a gang only. -/
def execShareFault (n : ChanId) (cyc : Cycle) (s : State) : Host.Outcome State Fault Refusal :=
  liveIn s fun d => if d.role n = 0 then d else d.raiseChCyc 0x0209 2 (d.leaderOf n) cyc.val

/-! ## Thermal derating (R112, R113) -/

/-- Derating level at a junction temperature, from the level before: levels rise at 110, 120 and 130 °C and fall 5 °C
below (Table 3-7). -/
def derateLevel (now : Nat) (tj : Int) : Nat :=
  let up := if 1300 ≤ tj then 3 else if 1200 ≤ tj then 2 else if 1100 ≤ tj then 1 else 0
  let keep := if 1250 < tj then 3 else if 1150 < tj then 2 else if 1050 < tj then 1 else 0
  if now ≤ up then up else max up (min now keep)

/-- `DERATE_LEVEL_CHANGE` (R112): the level acts at the next commit, where its entry is logged (Table 3-7). -/
def execDerateLevelChange (s' : StallId) (tj : Int) (s : State) : Host.Outcome State Fault Refusal :=
  liveIn s fun d =>
    let x := d.st s'
    let l := derateLevel x.derate tj
    let d := d.modSt s' fun x => { x with tj := tj }
    if l = x.derate then d
    else
      let d := d.modSt s' fun x => { x with derateNew := some l }
      let log := fun (code cls : Nat) => d.raiseAt (d.tick + 1) code cls .stall s'.val (unsignedOf 32 tj)
      match l with
      | 1 => log 0x0203 1
      | 2 => log 0x0204 1
      | 3 => log 0x0205 3
      | _ => d

end Sys2Proof.Machine
end

