-- ==== Sys2Proof/Machine/Calibration.lean ====
section
/-! DEFINITION. Commands of calibration (R347–R369): background cycles, pauses, linearisation, the band-gap comparison, the
snapshot, and system calibration. Points are in 2^−4 LSB of the calibrated range. -/

namespace Sys2Proof.Machine

open Sys2Proof

/-! ## Background calibration (R350–R355) -/

/-- Step and jump limit of a coefficient by offset (Table 13-3): none where Table 13-2 updates it only while PARKED. -/
def updateLimits (o : Nat) (cur : Int) : Option (Int × Int) :=
  if o ≤ 3 ∨ (8 ≤ o ∧ o ≤ 0xB) then some ((16 * gainOf o : Nat), (320 * gainOf o : Nat))
  else if o ≤ 0xF then some (cur.natAbs * 2 / 1000000, cur.natAbs * 40 / 1000000)
  else if 0x61 ≤ o ∧ o ≤ 0x68 then some (1, 16)
  else none

/-- Offsets that E6 updates (Table 13-1). -/
def updated (o : Nat) : Bool := decide (o ≤ 0x19) || (decide (0x40 ≤ o) && decide (o ≤ 0x68))

/-- One estimate is applied (R353). While PARKED the coefficient takes it. -/
def Dev.applyEstimate (d : Dev) (n : ChanId) (o : Nat) (est : Int) : Dev :=
  if !updated o then d
  else if (d.ch n).isParked then d.setCoef n o est
  else
    let cur := d.coef n o
    match updateLimits o cur with
    | none => d
    | some (step, jump) =>
      let e := est - cur
      let d := d.setCoef n o (cur + clampInt (-step) step e)
      if jump < e.natAbs then
        (d.modCh n fun c => { c with cal := { c.cal with steps := bump 32 c.cal.steps } }).raiseCh 0x0A01 1 n o
      else d

/-- Conversions of a converter that counted in the cycle. -/
def ChCal.total (k : ChCal) (mi : Bool) : Nat := (List.range 4).foldl (fun a g => a + sget 0 k.convs (4 * b2n mi + g)) 0

/-- Conversions that a converter needs in a cycle that it is PARKED for: four gains of 768, 256 for each range, and for MV 64
for each of the 33 codes (Table 13-2, R352). -/
def parkedQuota (hs mi : Bool) : Nat :=
  4 * 768 + 256 * ((List.range 8).filter fun r => if mi then offersI hs r else offersV hs r).length + (if mi then 0 else 64 * 33)

/-- An item that ran for `t` ticks of a cycle of `age` is required (R352). -/
def ranHalf (age t : Nat) : Bool := decide (age ≤ 2 * t)

/-- A converter has reached the quotas that the cycle requires of it: all items where the channel was PARKED, four gains where
the converter was idle, else the gains used (R350–R352, log 103). -/
def ChCal.convQuota (k : ChCal) (age : Nat) (hs mi : Bool) : Bool :=
  let gain := fun (g : Nat) => decide (768 ≤ sget 0 k.convs (4 * b2n mi + g))
  if ranHalf age (sget 0 k.ticksOf 0) then decide (parkedQuota hs mi ≤ k.total mi)
  else (List.range 4).all fun g => gain g || !(ranHalf age (sget 0 k.ticksOf (1 + b2n mi)) || bit k.gains (4 * b2n mi + g))

/-- Every item that the cycle requires has reached its quota (R352). -/
def Dev.quotaMet (d : Dev) (n : ChanId) : Bool :=
  let k := (d.ch n).cal
  let age := ticksFrom k.cycleStart d.tick
  let read := fun (i : Nat) => decide (16 ≤ sget 0 k.readings i)
  k.convQuota age (isHS n) false && k.convQuota age (isHS n) true &&
  (!ranHalf age (age - sget 0 k.ticksOf 0) || (read 0 && read 1)) &&
  (List.range 4).all fun m => !ranHalf age (sget 0 k.ticksOf (3 + m)) || read (2 + m)

/-- `BG_CYCLE_COMPLETE` (R352, R353): estimates by CHAN offset; a cycle with an item short goes on. -/
def execBgCycleComplete (n : ChanId) (est : List (Nat × Int)) (s : State) : Host.Outcome State Fault Refusal :=
  liveAt s fun d =>
    let c := d.ch n
    let age := ticksFrom c.cal.cycleStart d.tick
    if d.bgPaused n || decide (age < 4000000) || !d.quotaMet n then d
    else
      let d := est.foldl (fun d e => d.applyEstimate n e.1 e.2) d
      (d.modCh n fun c => { c with cal := { c.cal.begin d.tick with
        cycleTick := d.tick, cycles := bump 32 c.cal.cycles, late := decide (4000000 < age),
        cycled := c.cal.cycled || (c.force.armTick != 0 && reached c.cal.cycleStart c.force.armTick) } }).settleFaults

/-- `CAL_PAUSE_CLAMP` (R355): a clamp side engaged for more than 10,000,000 tk. -/
def execCalPauseClamp (n : ChanId) (s : State) : Host.Outcome State Fault Refusal :=
  liveAt s fun d =>
    match (d.ch n).cal.engSince with
    | some t =>
      if 10000000 < ticksFrom t d.tick then d.modCh n fun c => { c with cal := { c.cal with pausedClamp := true } } else d
    | none => d

/-- `LIN_PASS_DONE` (R356): a pass of 2,112 conversions, and the residual of each of the 33 codes. What remains after the correction is a free value
(log 5). -/
def execLinPassDone (n : ChanId) (table : List (BitVec 16)) (s : State) : Host.Outcome State Fault Refusal :=
  liveAt s fun d =>
    if !(d.ch n).isParked || decide ((d.ch n).cal.linConvs < 64 * 33) then d
    else
      let d := (List.range 33).foldl (fun d j => d.setCoef n (0x40 + j) ((table.getD j 0).toInt)) d
      let x := d.fresh
      x.2.modCh n fun c => { c with cal := { c.cal with linValid := true, linTick := d.tick, linMax := signedOf 16 x.1, linConvs := 0 } }

/-! ## The band-gap comparison (R357, R358) -/

/-- Insert into an ascending list. -/
def insertInt (v : Int) : List Int → List Int
  | [] => [v]
  | x :: xs => if v ≤ x then v :: x :: xs else x :: insertInt v xs

/-- Twice the median. -/
def median2 (l : List Int) : Int :=
  let s := l.foldr insertInt []
  let k := s.length
  if k % 2 = 1 then 2 * s.getD (k / 2) 0 else s.getD (k / 2 - 1) 0 + s.getD (k / 2) 0

/-- |d_s| exceeds a number of ppm, for a mean and twice the median. -/
def beyondPpm (m m2 : Int) (ppm : Nat) : Bool := decide (ppm * m2.natAbs < (2 * m - m2).natAbs * 1000000)

/-- f_stall moves to a target, at most 2 ppm while a channel of the stall is ARMED (R358). -/
def Dev.moveFactor (d : Dev) (s : StallId) (target : Int) : Dev :=
  let cur := (d.scr s stallFactor).toInt
  let lim : Int := cur.natAbs * 2 / 1000000
  let live := (chansOf s).any fun n => (d.ch n).isArmed
  let v := if live then cur + clampInt (-lim) lim (target - cur) else target
  (d.setScr s stallFactor (BitVec.ofInt 64 v)).setSreg s Obj.BG_CORR (unsignedOf 32 (divRound ((v - unity) * 10000000) unity))

/-- One stall that takes part is judged. -/
def Dev.judgeStall (d : Dev) (s : StallId) (m m2 : Int) : Dev :=
  let x := d.st s
  let good := !beyondPpm m m2 20
  let run := if good then x.bgGood + 1 else 0
  let d :=
    if x.bgState = 0 then
      (if beyondPpm m m2 30 then
        (((d.modSt s fun x => { x with bgState := 1, bgGood := 0 }).sinc s 16 Obj.BG_OUTLIERS).raiseNow 0x0A02 1 .stall s.val)
       else d)
    else if 3 ≤ run then d.modSt s fun x => { x with bgState := 0, bgGood := 0 }
    else d.modSt s fun x => { x with bgGood := run }
  if (d.st s).bgState = 1 then d.moveFactor s (divRound (m2 * unity) (2 * m)) else d.moveFactor s unity

/-- The stalls that take part in a comparison, each with the mean of its transfer readings, all times one number: the product
of the counts of readings (R357). -/
def Dev.transferMeans (d : Dev) : List (StallId × Int) :=
  let part := (List.finRange 8).filter fun s => (d.st s).f3.isEmpty && decide (1000 ≤ (d.st s).bgReads)
  let prod := part.foldl (fun p s => p * (d.st s).bgReads) 1
  part.map fun s => (s, (d.st s).bgSum * (prod / (d.st s).bgReads : Nat))

/-- The comparison over the means of the stalls. -/
def Dev.compareGaps (d : Dev) : Dev :=
  let part := d.transferMeans
  let d := (d.setReg Obj.BG_CHECK_TICK d.tick.toNat).eachSt fun d s =>
    (d.setSreg s Obj.BG_READINGS (d.st s).bgReads).modSt s fun x => { x with bgReads := 0, bgSum := 0 }
  if part.length < 5 then d.inc 32 Obj.BG_INSUFFICIENT
  else
    let m2 := median2 (part.map (·.2))
    let d := d.eachSt fun d s => d.modSt s fun x => { x with bgOut := !(part.any (·.1 == s)) }
    let d := part.foldl (fun d p => d.setSreg p.1 Obj.BG_DEV (unsignedOf 32 (divRound ((2 * p.2 - m2) * 10000000) m2))) d
    if 2 < (part.filter fun p => beyondPpm p.2 m2 30).length then
      (d.inc 32 Obj.BG_SPREAD_CNT).raiseNow 0x0A03 1 .stall 0xFF
    else part.foldl (fun d p => d.judgeStall p.1 p.2 m2) d

/-- `BG_COMPARISON` (R357). -/
def execBgComparison (s : State) : Host.Outcome State Fault Refusal :=
  liveAt s fun d => if d.tick.toNat % 10000000 = 0 then d.compareGaps.settleFaults else d

/-! ## The calibration store (R365–R367) -/

/-- The other bank of a record, bank A where none is valid (R365). -/
def otherBank (b : Nat) : Nat := if b = 0 then 1 else 0

/-- A scratchpad key holds a word of the snapshot (R367). -/
def inSnapshot (key : Nat) : Bool :=
  let a := key % 8192
  if a < 0x1800 then
    let o := a % 0x300
    decide (0x200 ≤ o) && decide (o < 0x280) &&
      (decide (o ≤ 0x219) || (decide (0x240 ≤ o) && decide (o ≤ 0x27F)))
  else decide (0x1900 ≤ a) && decide (a < 0x1A00)

/-- Note whether a store write succeeded (Table 13-9). -/
def Dev.storeOutcome (d : Dev) (ok : Bool) : Dev :=
  let v := d.reg Obj.STORE_STATUS
  d.setReg Obj.STORE_STATUS (v % 4 + (if ok then 0 else 4))

/-- `CAL_SNAPSHOT` (R367). -/
def execCalSnapshot (ok : Bool) (s : State) : Host.Outcome State Fault Refusal :=
  liveAt s fun d =>
    if d.tick.toNat % 4000000 ≠ 2000000 then d
    else
      let d := d.storeOutcome ok
      if !ok then d
      else
        let d := (d.setReg Obj.SNAP_SEQ (bump 32 (d.reg Obj.SNAP_SEQ))).setReg Obj.SNAP_BANK (otherBank (d.reg Obj.SNAP_BANK))
        { d with cal := { d.cal with snap := d.mem.scr.filter fun e => inSnapshot e.1 } }

/-! ## System calibration (R359–R364) -/

/-- A point does not start: the code is shown and logged; a calibration that an accepted zero point keeps open ends. -/
def Dev.sysRefuse (d : Dev) (code : Nat) : Dev :=
  if d.sysActive then d.sysAbort code
  else
    let d := { d with cal := { d.cal with sys := .aborted, zero := none } }.setReg Obj.SYSCAL_ABORT code
    match d.sysChan with
    | some n => d.raiseCh 0x0A04 1 n code
    | none => d

/-- Quantity, range and slot of the point's range-pair entry. -/
def Dev.sysRange (d : Dev) (n : ChanId) : Bool × Nat × Nat :=
  let w := d.creg n (Obj.RPAIR (d.reg Obj.SYSCAL_RPAIR % 16))
  let mi := d.reg Obj.SYSCAL_QTY == 1
  if mi then (true, rpIRange w, slotI (rpIRange w)) else (false, rpVRange w, slotV (rpVRange w))

/-- Program IDs of set 0 in E2 and E6 are the library's (R359). -/
def Dev.calPath (d : Dev) (n : ChanId) (set' : Nat) : Bool :=
  match sget none d.mem.sets (64 * n.val + set') with
  | some p => p.progs.getD 2 0 == 2 && p.progs.getD 6 0 == 6
  | none => false

/-- The first check of R359 that fails. -/
def Dev.sysCheck (d : Dev) (n : ChanId) (full : Bool) : Nat :=
  let c := d.ch n
  let r := d.sysRange n
  if !c.isArmed || !(c.bk.seq == .noStep || c.bk.seq == .ended) then 1
  else if d.role n != 0 then 2
  else if !(if r.1 then offersI (isHS n) r.2.1 else offersV (isHS n) r.2.1) then 3
  else if full && !(d.cal.sys == .zeroDone && d.cal.zeroKey == some (n.val, b2n r.1, r.2.2)) then 0xB
  else if !c.cal.cycled then 0xF
  else if !d.calPath n 0 then 0x10
  else 0

/-- An injected sequence of the channel runs. -/
def Dev.injRunning (d : Dev) (n : ChanId) : Bool := (d.ch n).mv.injSlot.isSome || (d.ch n).mi.injSlot.isSome

/-- The point begins at the present commit p (R360, R361). -/
def Dev.sysBegin (d : Dev) (n : ChanId) : Dev :=
  let e := d.reg Obj.SYSCAL_RPAIR % 16
  let v := BitVec.ofNat 20 (d.reg Obj.SYSCAL_SETPT)
  let d := (d.setReg Obj.SYSCAL_WAIT (ticksFrom d.cal.since d.tick)).modCh n fun c => c.modForce fun f =>
    { f with prevTarget := f.target, target := v }
  let d := { d with cal := { d.cal with sys := .measuring, begun := d.tick, meas := 0, measHeld := 0, measClamp := false, taken := [], tagged := false } }
  d.enterEntry n e (rpMode (d.creg n (Obj.RPAIR e))) (codeVal v) false

/-- A command for a point acts at commit s (R359, R360). -/
def Dev.sysStart (d : Dev) (full : Bool) : Dev :=
  if d.cal.sys == .waiting || d.cal.sys == .measuring || d.cal.sys == .storing then d.refuse Obj.SYSCAL_CMD abState
  else
    match d.sysNamed with
    | none => d.refuse Obj.SYSCAL_CMD abRange
    | some n =>
      let d := d.accept
      let r := d.sysRange n
      let code := d.sysCheck n full
      if code ≠ 0 then d.sysRefuse code
      else
        let cancel := fun (d : Dev) (mi : Bool) =>
          if ((d.ch n).conv mi).injAt.isSome then
            let k := d.injectedLen n mi
            let key := mvmi mi Obj.MV_SKIP_INJ Obj.MI_SKIP_INJ
            (d.modCh n fun c => c.modConv mi fun v => { v with injAt := none }).setCreg n key (bumpBy 32 (d.creg n key) k)
          else d
        let d := (cancel (cancel d false) true).tallyCloseAll n .reconfig
        let z := if full then d.cal.zero else none
        let k := { d.cal with sys := SysCalState.waiting, full := full, since := d.tick, zero := z, point := some (n, r) }
        let d := { d with cal := k }.setReg Obj.SYSCAL_ABORT 0
        if d.injRunning n then d else d.sysBegin n

/-- `SYSCAL_CMD_ZERO` (R359). -/
def execSyscalCmdZero (s : State) : Host.Outcome State Fault Refusal := liveAt s fun d => (d.sysStart false).settleFaults

/-- `SYSCAL_CMD_FULL` (R359). -/
def execSyscalCmdFull (s : State) : Host.Outcome State Fault Refusal := liveAt s fun d => (d.sysStart true).settleFaults

/-- SYSCAL_CMD 3 at its commit (R359, R361). -/
def Dev.sysHostAbort (d : Dev) : Dev :=
  match d.cal.sys with
  | .waiting | .measuring | .storing => d.refuse Obj.SYSCAL_CMD abState
  | .zeroDone => d.accept.sysAbort 0xC
  | .idle | .done | .aborted => d.accept

/-- `SYSCAL_CMD_ABORT` (R361). -/
def execSyscalCmdAbort (s : State) : Host.Outcome State Fault Refusal := liveAt s fun d => d.sysHostAbort.settleFaults

/-- `SYSCAL_POINT_BEGIN` (R360): the first commit at which no injected sequence of the channel runs. -/
def execSyscalPointBegin (s : State) : Host.Outcome State Fault Refusal :=
  liveAt s fun d =>
    match d.sysChan with
    | some n => if d.cal.sys == .waiting && !d.injRunning n then (d.sysBegin n).settleFaults else d
    | none => d

/-- LSB of the calibrated range in 10 nV or 10 pA. -/
def sysLsb (mi : Bool) (range : Nat) : Nat := if mi then lsbI range else lsbV range

/-- Stability limit of a range (Table 13-5), in 10 nV or 10 pA. -/
def stability (mi : Bool) (range : Nat) : Nat :=
  if mi then [60, 300, 3000, 30000, 300000, 4000000, 800000].getD range 800000
  else [4000, 13000, 50000].getD range 50000

/-- Nominal full scale of a current range, code span of a voltage range, in LSB (R74, R159). -/
def sysScale (mi : Bool) : Nat := if mi then nominalLsb else 524288

/-- The per-tick means of a point, twice each and in 2^−104 LSB: a tick has two values, or one where background calibration
took the other (R172, R362). -/
def tickMeans (l : List (Tick × Int)) : List Int :=
  (l.map (·.1)).eraseDups.map fun t =>
    let vs := (l.filter (·.1 == t)).map (·.2)
    divRound (2 * vs.sum) vs.length

/-- What a point gives (R362): the sum of its per-tick means, their number, and the number times the sum of their squares less
the square of their sum; means are in 2^−105 LSB. -/
structure PointStats where
  sum   : Int
  ticks : Nat
  dev   : Nat
deriving DecidableEq, Repr

def pointStats (means : List Int) : PointStats :=
  { sum := means.sum, ticks := means.length,
    dev := ((means.length : Int) * (means.map fun a => a * a).sum - means.sum * means.sum).toNat }

/-- 1 LSB in the units of the sums. -/
def PointStats.lsb (p : PointStats) : Int := p.ticks * 2 ^ 105

/-- U, rounded to 2^−4 LSB. -/
def PointStats.mean (p : PointStats) : Int := divRound (16 * p.sum) p.lsb

/-- σ with divisor one less than the number of ticks, rounded to 2^−4 LSB. -/
def PointStats.sd (p : PointStats) : Nat := (Nat.sqrt (4 * 256 * p.dev / (p.ticks * (p.ticks - 1) * 2 ^ 210)) + 1) / 2

/-- σ is at or above a limit, both in the units of `lsb` per LSB. -/
def PointStats.unstable (p : PointStats) (limit lsb : Nat) : Bool :=
  decide (limit ^ 2 * (p.ticks * (p.ticks - 1) * 2 ^ 210) ≤ p.dev * lsb ^ 2)

/-- s − 1 of R363, rounded, for T and z in 2^−4 LSB; `none` where the points coincide. -/
def PointStats.gain (p : PointStats) (t z : Int) : Option Int :=
  if 16 * p.sum = z * p.lsb then none else some (divRound (t * p.lsb * unity) (16 * p.sum - z * p.lsb) - unity)

/-- The first check of R362 that fails, 0 for none. -/
def Dev.judgeCode (d : Dev) (r : Bool × Nat × Nat) (p : PointStats) : Nat :=
  let fs : Nat := 16 * sysScale r.1
  let t := signedOf 32 (d.reg Obj.SYSCAL_TRUE)
  let full := d.cal.full
  if d.cal.tagged then 9
  else if d.cal.measClamp then 8
  else if 256 < d.cal.measHeld then 0xA
  else if full && (decide (5 * t.natAbs < fs) || decide (105 * fs < 100 * t.natAbs)) then 7
  else if p.unstable (stability r.1 r.2.1) (sysLsb r.1 r.2.1) then 5
  else if (if full then decide ((t * p.lsb).natAbs < 20 * (16 * p.sum - t * p.lsb).natAbs)
      else decide ((fs * p.lsb).natAbs < 20 * (16 * p.sum).natAbs)) then 6
  else if full && (match p.gain t (d.cal.zero.getD 0) with
      | some x => decide (x * 20 < -unity) || decide (unity < x * 20)
      | none => true) then 0xD
  else 0

/-- The per-tick means of the point in progress; with no value at all a free one (log 5). -/
def Dev.pointMeans (d : Dev) : List Int := if d.cal.taken.isEmpty then [signedOf 126 d.fresh.1] else tickMeans d.cal.taken

/-- `SYSCAL_POINT_JUDGED` (R361, R362): the commit after the window that follows the 256th measuring tick. -/
def execSyscalPointJudged (s : State) : Host.Outcome State Fault Refusal :=
  liveAt s fun d =>
    match d.cal.point with
    | none => d
    | some (n, r) =>
      if d.cal.sys != .measuring || decide (d.cal.meas < 256) || !reached d.tick (d.cal.measEnd + 1) then d
      else
        let p := pointStats d.pointMeans
        let code := d.judgeCode r p
        let d := if d.cal.taken.isEmpty then d.fresh.2 else d
        let d := ((d.setReg Obj.SYSCAL_MEAN (unsignedOf 32 p.mean)).setReg Obj.SYSCAL_SD (min 0xFFFFFFFF p.sd)).setReg
          Obj.SYSCAL_RESULT_TICK d.tick.toNat
        (if code ≠ 0 then d.sysAbort code
         else if d.cal.full then
          let z := d.cal.zero.getD 0
          let g := (p.gain (signedOf 32 (d.reg Obj.SYSCAL_TRUE)) z).getD 0
          { d with cal := { d.cal with sys := .storing, newZ := z, newS := g } }
         else
          { d with cal := { d.cal with sys := .zeroDone, zero := some p.mean, zeroKey := some (n.val, b2n r.1, r.2.2) } }).settleFaults

/-- `SYSCAL_STORE_DONE` (R363, R366): the coefficients act at window cycles 0 and 1 of this tick (R349). -/
def execSyscalStoreDone (ok : Bool) (s : State) : Host.Outcome State Fault Refusal :=
  liveAt s fun d =>
    match d.cal.point with
    | none => d
    | some (n, r) =>
      if d.cal.sys != .storing then d
      else
        let d := d.storeOutcome ok
        if !ok then (d.sysAbort 0xE).settleFaults
        else
          let slot := r.2.2
          let i := 10 * n.val + slot
          let dc := if d.ec.sync0 then d.sync.dcNow.toNat / 1000000000 % 2 ^ 48 else 0
          let old := sget ⟨0, 0, 0, 0, 0⟩ d.cal.entries i
          let e : SysEntry := { z := d.cal.newZ, s := d.cal.newS, count := min 255 (old.count + 1), flags := 1, dc := dc }
          let st := stallOf n
          let d := (d.putScr st (chanWord n (0x20 + slot)) 0 bulkTe (BitVec.ofInt 64 d.cal.newZ)).putScr st (chanWord n (0x30 + slot))
            1 bulkTe (BitVec.ofInt 64 (unity + d.cal.newS))
          let d := { d with cal := { d.cal with sys := .done, zero := none, entries := sput ⟨0, 0, 0, 0, 0⟩ d.cal.entries i e } }
          let d := ((d.setReg Obj.SYS_SEQ (bump 32 (d.reg Obj.SYS_SEQ))).setReg Obj.SYS_BANK (otherBank (d.reg Obj.SYS_BANK))).inc
            32 Obj.SYS_COMMITS
          (d.startValue n).settleFaults

end Sys2Proof.Machine
end

