-- ==== Sys2Proof/Machine/Fabric.lean ====
section
/-! DEFINITION. Commands of the event fabric (R307–R325): edges at the EVIO lands, output pulses, edges at consumers whose
producer no other command stands for, locks and the MKO run write. -/

namespace Sys2Proof.Machine

open Sys2Proof

/-- The edges of an EVIO land that fire its producer (R310): EDGE 2 fires at the rising edge and EDGE 3 at the falling
edge with the width of the pulse. -/
def evioFires (w : Nat) (rising : Bool) : Bool :=
  match evioEdge w with
  | 0 => rising
  | 1 => !rising
  | 2 => rising
  | _ => !rising

/-- The origin set of the activation whose pulse drove an edge on land `k` in the 20 ns before an instant (Table 11-4). -/
def Fabric.echoOf (f : Fabric) (k : Nat) (x : Tick × Nat) : List Nat :=
  let near := fun (e : Tick × Nat) => decide (0 ≤ cycFrom e x) && decide (cycFrom e x ≤ 10)
  ((f.outs.find? fun p => p.pin == k && (near p.start || near p.stop)).map (·.origin)).getD []

/-- `EVIO_EDGE` (R312): the producer fires 6 ns after the edge. With DIR 3 an echo of an edge the module drove inherits the
origin set of the activation (Table 11-4); a pin whose STD or DIR has just changed is quiet (R321). -/
def execEvioEdge (k : Idx16) (rising : Bool) (width : Nat) (cyc : Cycle) (s : State) :
    Host.Outcome State Fault Refusal :=
  liveIn s fun d =>
    let w := d.reg (Obj.EVIO_CFG k.val)
    let dir := evioDir w
    if (dir != 1 && dir != 3) || !evioFires w rising || d.fab.quiet.any (fun q => q.1 == k.val && reached q.2 d.tick) then d
    else
      let org := if dir == 3 then d.fab.echoOf k.val (d.tick, cyc.val) else []
      let pulse := decide (2 ≤ evioEdge w)
      d.fire (0x410 + k.val) org (evioEdge w != 3) (if pulse then width else 2) (cyc.val + 3)

/-- `EVIO_OUTPUT` (R322). -/
def execEvioOutput (k : Idx16) (width : Nat) (cyc : Cycle) (s : State) : Host.Outcome State Fault Refusal :=
  liveIn s fun d => d.evioOut k.val (d.arrival cyc.val true width)

/-- `EVIO_PULSE_END` (R322): the land returns inactive. A pulse ends at its own instant; the command drops one whose end the
present tick reaches. -/
def execEvioPulseEnd (mko : Bool) (k : Idx16) (s : State) : Host.Outcome State Fault Refusal :=
  liveIn s fun d =>
    let pin := if mko then 16 + k.val else k.val
    { d with fab := { d.fab with outs := d.fab.outs.filter fun p => p.pin != pin || before (d.tick, 499) p.stop } }

/-- `MKO_OUTPUT` (R322). -/
def execMkoOutput (k : StallId) (width : Nat) (cyc : Cycle) (s : State) : Host.Outcome State Fault Refusal :=
  liveIn s fun d => d.mkoOut k (d.arrival cyc.val true width)

/-- `LOCK_CMD` (R320). -/
def execLockCmd (t : BitVec 8) (s : State) : Host.Outcome State Fault Refusal :=
  liveAt s fun d =>
    if t.toNat ≥ 128 then d.refuse Obj.LOCK_CMD abRange
    else { d.accept with fab := { d.fab with locks := putBit d.fab.locks t.toNat true } }

/-- `MKO_RUN_WRITE` (R276, Table 9-4). -/
def execMkoRunWrite (v : Bool) (s : State) : Host.Outcome State Fault Refusal :=
  liveAt s fun d =>
    let d := d.accept.setReg Obj.MKO_RUN (b2n v)
    { d with fab := { d.fab with mkoGo := d.fab.mkoGo || v } }.mkoLands

/-- `WAIT_EDGE` (R241). -/
def execWaitEdge (n : ChanId) (w : Idx4) (cyc : Cycle) (s : State) : Host.Outcome State Fault Refusal :=
  liveIn s fun d => d.consume n (4 + w.val) (d.arrival cyc.val)

/-- `JMP_EDGE` (R248). -/
def execJmpEdge (n : ChanId) (cyc : Cycle) (s : State) : Host.Outcome State Fault Refusal :=
  liveIn s fun d => d.consume n 8 (d.arrival cyc.val)

/-- `HOLD_REQUEST` (R316). -/
def execHoldRequest (n : ChanId) (cyc : Cycle) (s : State) : Host.Outcome State Fault Refusal :=
  liveIn s fun d => d.consume n 11 (d.arrival cyc.val)

/-- `TALLY_OPEN_EDGE` (R194). -/
def execTallyOpenEdge (n : ChanId) (u : Idx16) (cyc : Cycle) (s : State) : Host.Outcome State Fault Refusal :=
  liveIn s fun d => d.consume n (12 + u.val) (d.arrival cyc.val)

/-- `TALLY_CLOSE_EDGE` (R194). -/
def execTallyCloseEdge (n : ChanId) (u : Idx16) (cyc : Cycle) (s : State) : Host.Outcome State Fault Refusal :=
  liveIn s fun d => d.consume n (28 + u.val) (d.arrival cyc.val)

/-- `GUST_TRIGGER` (R141). -/
def execGustTrigger (n : ChanId) (cyc : Cycle) (s : State) : Host.Outcome State Fault Refusal :=
  liveIn s fun d => d.consume n 9 (d.arrival cyc.val)

/-- `SINE_PHASE_RESET` (R273). -/
def execSinePhaseReset (n : ChanId) (cyc : Cycle) (s : State) : Host.Outcome State Fault Refusal :=
  liveIn s fun d => d.consume n 10 (d.arrival cyc.val)

/-- `REG_TRIGGER` (R168, R169). -/
def execRegTrigger (n : ChanId) (mi rising : Bool) (width : Nat) (cyc : Cycle) (s : State) :
    Host.Outcome State Fault Refusal :=
  liveIn s fun d => d.consume n (b2n mi) (d.arrival cyc.val rising width)

/-- `INJ_TRIGGER` (R170). -/
def execInjTrigger (n : ChanId) (mi rising : Bool) (width : Nat) (cyc : Cycle) (s : State) :
    Host.Outcome State Fault Refusal :=
  liveIn s fun d => d.consume n (2 + b2n mi) (d.arrival cyc.val rising width)

/-- `AUX_INJ_TRIGGER` (R180). -/
def execAuxInjTrigger (s' : StallId) (rising : Bool) (width : Nat) (cyc : Cycle) (s : State) :
    Host.Outcome State Fault Refusal :=
  liveIn s fun d => d.auxTrigger s' (d.arrival cyc.val rising width)

end Sys2Proof.Machine
end

