-- ==== Sys2Proof/Machine/Library.lean ====
section
/-! DEFINITION. Program memory and packages (R300–R306): the load-time check, the effect of a package, unloading, and writes
to the scratchpad areas that the bulk side may reach. -/

namespace Sys2Proof.Machine

open Sys2Proof

/-! ## Instruction words (R287, R288, Tables 10-3, 10-4) -/

def opOf (w : Nat) : Nat := natBits w 31 26
def opD (w : Nat) : Nat := natBits w 25 22
def opA (w : Nat) : Nat := natBits w 21 18
def opB (w : Nat) : Nat := natBits w 17 14
def opImm (w : Nat) : Nat := natBits w 13 0

/-- Which of D, A and B an opcode uses, the bits of IMM it uses, and its cycles; none for a reserved opcode. NOP takes its
cycles from IMM. -/
def opInfo (op : Nat) : Option (Bool × Bool × Bool × Nat × Nat) :=
  match op with
  | 0x00 => some (false, false, false, 0x1FF, 0)
  | 0x01 => some (true, false, false, 0x3FFF, 1)
  | 0x02 => some (true, true, false, 0x3FFF, 1)
  | 0x03 => some (true, true, false, 0, 1)
  | 0x04 => some (true, false, true, 0x3FFF, 2)
  | 0x05 => some (false, true, true, 0x3FFF, 1)
  | 0x06 => some (true, false, false, 0xFF, 1)
  | 0x07 => some (false, true, false, 0xFF, 1)
  | 0x08 => some (true, true, false, 0x3FFF, 3)
  | 0x09 => some (true, true, false, 0x3FFF, 5)
  | 0x10 => some (true, true, true, 0, 1)
  | 0x11 => some (true, true, true, 0, 1)
  | 0x12 => some (true, true, false, 0x3FFF, 1)
  | 0x13 => some (true, true, true, 0, 1)
  | 0x14 => some (true, true, false, 0, 1)
  | 0x15 => some (true, true, false, 0, 1)
  | 0x16 => some (true, true, true, 0, 1)
  | 0x17 => some (true, true, true, 0, 1)
  | 0x18 => some (true, true, true, 0, 1)
  | 0x19 => some (true, true, true, 0, 1)
  | 0x1A => some (true, true, true, 0, 1)
  | 0x1B => some (true, true, false, 0x3F, 1)
  | 0x1C => some (true, true, false, 0xFF, 1)
  | 0x1D => some (true, true, false, 0x3F, 1)
  | 0x1E => some (true, true, true, 0xF, 1)
  | 0x1F => some (true, true, true, 0x1F, 1)
  | 0x20 => some (true, true, false, 0x2FFF, 1)
  | 0x21 => some (true, true, false, 0xFFF, 1)
  | 0x24 => some (true, true, true, 0, 2)
  | 0x25 => some (false, true, true, 0x3000, 1)
  | 0x26 => some (true, false, false, 0x30FF, 1)
  | 0x27 => some (false, true, false, 0x1000, 1)
  | 0x30 => some (false, true, true, 0xF, 1)
  | 0x31 => some (false, true, true, 0xF, 1)
  | 0x32 => some (false, true, false, 0xF, 1)
  | 0x33 => some (false, true, false, 0x1FFF, 1)
  | 0x34 => some (false, true, true, 0, 1)
  | 0x35 => some (true, false, true, 0x7F, 2)
  | 0x36 => some (false, true, false, 0, 1)
  | _ => none

/-- Cycles of a word (Table 10-4). -/
def opCycles (w : Nat) : Nat :=
  match opInfo (opOf w) with
  | none => 0
  | some i => if opOf w = 0 then natBits w 8 0 + 1 else i.2.2.2.2

/-- Input ports of Table 10-5 and output ports of Table 10-6. -/
def inPortOk (p : Nat) : Bool :=
  decide (p ≤ 0x0D) || (decide (0x10 ≤ p) && decide (p ≤ 0x31)) || (decide (0x38 ≤ p) && decide (p ≤ 0x44))
def outPortOk (p : Nat) : Bool := decide (0x80 ≤ p) && decide (p ≤ 0x85)

/-- A field holds a value that Table 10-4 does not allow, or an unused field is not 0. -/
def badField (w : Nat) : Bool :=
  let imm := opImm w
  let msb := natBits w 11 6
  let lsb := natBits w 5 0
  match opInfo (opOf w) with
  | none => true
  | some (ud, ua, ub, mask, _) =>
    (!ud && opD w != 0) || (!ua && opA w != 0) || (!ub && opB w != 0) || (imm &&& mask) != imm ||
    (match opOf w with
     | 0x06 => !inPortOk imm
     | 0x07 => !outPortOk imm
     | 0x1B => decide (47 < lsb)
     | 0x1C => decide (47 < lsb)
     | 0x1D => decide (lsb < 2) || decide (48 < lsb)
     | 0x20 => decide (47 < msb) || decide (msb < lsb)
     | 0x21 => decide (47 < msb) || decide (msb < lsb)
     | _ => false)

/-- CORR, CRD and CCLR. -/
def e6Only (w : Nat) : Bool := decide (0x34 ≤ opOf w) && decide (opOf w ≤ 0x36)

/-- A static address of LD or ST that lies outside its region, or a store to TABLE. -/
def badAddress (w : Nat) : Bool :=
  let region := natBits w 13 12
  let size := match region with | 0 => 64 | 1 => 256 | _ => 1024
  (opOf w == 4 || opOf w == 5) &&
  ((opB w == 0 && decide (size ≤ natBits w 11 0)) || (opOf w == 5 && region == 3))

/-- Capabilities that a word needs (Table 10-13). -/
def capsFor (w : Nat) : BitVec 8 :=
  let o := natBits w 11 0
  match opOf w with
  | 0x05 =>
    if opB w ≠ 0 then 0
    else
      match natBits w 13 12 with
      | 1 => if o < 0x80 then 1 else 0
      | 2 => if o < 0x100 then 8 else if o < 0x200 then 1 else 0
      | _ => 0
  | 0x07 => if 0x81 ≤ opImm w && opImm w ≤ 0x84 then 1 else 0
  | 0x33 => if natBit w 12 then 2 else 0
  | _ => 0

/-- The target a word writes: an output port, a flag, an entry published or offered. -/
def targetOf (w : Nat) : Option Nat :=
  match opOf w with
  | 0x07 => some (0x100 + opImm w)
  | 0x32 => some (0x200 + opImm w)
  | 0x30 => some (0x300 + opImm w)
  | 0x31 => some (0x400 + opImm w)
  | _ => none

/-! ## The check of R302 -/

/-- What the check has found so far: cycles of the running program, owners of targets, cycles of PUTS and TACC by entry,
writers of static CHAN words. -/
structure Check where
  cyc   : Nat
  owner : List (Nat × Nat)
  puts  : List (Nat × Nat)
  tacc  : List (Nat × Nat)
  store : List (Nat × Nat)
deriving DecidableEq, Repr

/-- A refusal: code of Table 10-14, slot, word. -/
structure Bad where
  code : Nat
  slot : Nat
  word : Nat
deriving DecidableEq, Repr

/-- One word of slot `k`. A second PUTS of an entry in one slot is refused as a conflict on that entry (R294). -/
def checkWord (caps : BitVec 8) (k i : Nat) (w : Nat) (c : Check) : Except Bad Check :=
  let bad := fun (code : Nat) => Except.error { code := code, slot := k, word := i }
  let e := opImm w
  if (opInfo (opOf w)).isNone then bad 0x04
  else if badField w then bad 0x05
  else if e6Only w && k != 6 then bad 0x0F
  else if badAddress w then bad 0x07
  else if (capsFor w &&& ~~~caps) != 0 then bad 0x06
  else if (match targetOf w with
           | none => false
           | some t => c.owner.any (fun x => x.1 == t && x.2 != k) || (opOf w == 0x30 && c.puts.any (·.1 == e))) then bad 0x08
  else
    let chan := opOf w == 5 && opB w == 0 && natBits w 13 12 == 1
    if chan && c.store.any (fun x => x.1 == natBits w 11 0 && x.2 != k) then bad 0x09
    else .ok
      { cyc := c.cyc + opCycles w,
        owner := (match targetOf w with | none => c.owner | some t => (t, k) :: c.owner),
        puts := if opOf w = 0x30 then (e, c.cyc) :: c.puts else c.puts,
        tacc := if opOf w = 0x31 then (e, c.cyc) :: c.tacc else c.tacc,
        store := if chan then (natBits w 11 0, k) :: c.store else c.store }

/-- The words of slot `k`. -/
def checkWords (caps : BitVec 8) (k : Nat) : Nat → List (BitVec 32) → Check → Except Bad Check
  | _, [], c => .ok c
  | i, w :: ws, c =>
    match checkWord caps k i w.toNat c with
    | .error b => .error b
    | .ok c' => checkWords caps k (i + 1) ws c'

/-- One slot: its program, capabilities and declared cycles. -/
def checkSlot (urgent : Bool) (k : Nat) (p : Option Program) (decl : Option Nat) (c : Check) : Except Bad Check :=
  let bad := fun (code i : Nat) => Except.error { code := code, slot := k, word := i }
  match p with
  | none => bad 0x03 0
  | some q =>
    if (k == 2 || k == 6) && !capCal q.caps then bad 0x06 0
    else if urgent && !capUrgent q.caps then bad 0x06 0
    else
      match checkWords q.caps k 0 q.words { c with cyc := 0 } with
      | .error b => .error b
      | .ok c' =>
        if (match decl with | some x => c'.cyc != x | none => false) then bad 0x0C q.words.length
        else if 480 < c'.cyc then bad 0x0B q.words.length
        else .ok c'

/-- The slots from `k` on; on success the cycles of each. -/
def checkSlots (urgent : Bool) (get : Nat → Option Program) (decl : Nat → Option Nat) :
    Nat → List Nat → Check → Except Bad (List Nat × Check)
  | _, [], c => .ok ([], c)
  | k, id :: ids, c =>
    match checkSlot urgent k (get id) (decl id) c with
    | .error b => .error b
    | .ok c' =>
      match checkSlots urgent get decl (k + 1) ids c' with
      | .error b => .error b
      | .ok (us, c'') => .ok (c'.cyc :: us, c'')

/-- A set (R302): the cycles of its slots. -/
def checkSet (urgent : Bool) (progs : List Nat) (get : Nat → Option Program) (decl : Nat → Option Nat) :
    Except Bad (List Nat) :=
  match checkSlots urgent get decl 0 progs { cyc := 0, owner := [], puts := [], tacc := [], store := [] } with
  | .error b => .error b
  | .ok (us, c) =>
    if c.tacc.any fun t => match c.puts.lookup t.1 with | none => true | some p => decide (t.2 ≤ p) then
      .error { code := 0x0A, slot := 0, word := 0 }
    else .ok us

/-! ## Packages (R300, R301) -/

/-- The fields of Table 10-9 hold legal values. -/
def packageOk (p : Package) : Bool :=
  natBits p.caps.toNat 7 4 == 0 && decide (p.progs.length ≤ 4096) && decide (p.sets.length ≤ 4096) &&
  p.progs.all (fun q => decide (q.id < 4096) && decide (1 ≤ q.words.length) && decide (q.words.length ≤ 480) &&
    decide (1 ≤ q.cycles) && decide (q.cycles ≤ 480)) &&
  p.sets.all (fun x => decide (x.set < 64) && x.progs.length == 8)

/-- Stalls that hold a channel of the package's mask. -/
def packageStalls (p : Package) : List StallId :=
  (List.finRange 8).filter fun s => (chansOf s).any fun n => bit p.mask n.val

/-- The program with an ID as it will be after the package. -/
def Dev.progAfter (d : Dev) (p : Package) (s : StallId) (id : Nat) : Option Program :=
  match p.progs.find? (·.id == id) with
  | some q => some { caps := p.caps, lib := false, words := q.words }
  | none => if id < 4096 then sget none d.mem.progs (4096 * s.val + id) else none

/-- Words of program memory that a stall holds after the package. -/
def Dev.wordsAfter (d : Dev) (p : Package) (s : StallId) : Nat :=
  let old := d.mem.progs.foldl (fun m e =>
    if e.1 / 4096 == s.val && !p.progs.any (·.id == e.1 % 4096) then
      m + (match e.2 with | some q => q.words.length | none => 0)
    else m) 0
  p.progs.foldl (fun m q => m + q.words.length) old

/-- A set that names a replaced ID and is not defined again (R300): its number. -/
def Dev.leftBehind (d : Dev) (p : Package) : Option Nat :=
  (d.mem.sets.find? fun e =>
    let n := e.1 / 64
    let k := e.1 % 64
    (packageStalls p).any (fun s => s.val == n / 8) &&
    (match e.2 with
     | none => false
     | some x => x.progs.any fun id => p.progs.any (·.id == id)) &&
    !(natBit p.mask.toNat n && p.sets.any (·.set == k))).map fun e => e.1 % 64

/-- The first refusal of a package by its content (R300–R302): code, set, slot and word. DECL_MAX is the largest cycle count of
its set. -/
def Dev.contentBad (d : Dev) (p : Package) : Option (Nat × Nat × Nat × Nat) :=
  if !packageOk p then some (0x01, 0, 0, 0)
  else
    match p.sets.find? fun x => x.set == 63 && !x.urgent with
    | some _ => some (0x10, 63, 0, 0)
    | none =>
      match d.leftBehind p with
      | some k => some (0x0E, k, 0, 0)
      | none =>
        match (packageStalls p).findSome? fun s => p.sets.findSome? fun x =>
            match checkSet x.urgent x.progs (d.progAfter p s) (fun id => (p.progs.find? (·.id == id)).map (·.cycles)) with
            | .ok us => if us.foldl max 0 = x.declMax then none else some (0x01, x.set, 0, 0)
            | .error b => some (b.code, x.set, b.slot, b.word) with
        | some r => some r
        | none => if (packageStalls p).any fun s => 65536 < d.wordsAfter p s then some (0x0D, 0, 0, 0) else none

/-- The programs and sets of an accepted package are in effect; `lib` marks the image's library. -/
def Dev.putPackage (lib : Bool) (d : Dev) (p : Package) : Dev :=
  let d := (packageStalls p).foldl (fun d s => p.progs.foldl (fun d q =>
    { d with mem := { d.mem with progs := sput none d.mem.progs (4096 * s.val + q.id) (some { caps := p.caps, lib := lib, words := q.words }) } })
    d) d
  let d := d.inMask p.mask fun d n => p.sets.foldl (fun d x =>
    let us := match checkSet x.urgent x.progs (d.progAfter p (stallOf n)) (fun _ => none) with | .ok us => us | .error _ => []
    { d with mem := { d.mem with
        sets := sput none d.mem.sets (64 * n.val + x.set) (some { urgent := x.urgent, progs := x.progs, cycles := us }) } }) d
  (packageStalls p).foldl (fun d s =>
    let mine := d.mem.progs.filter fun e => e.1 / 4096 == s.val && e.2.isSome
    let words := mine.foldl (fun m e => m + (match e.2 with | some q => q.words.length | none => 0)) 0
    (d.setReg (Obj.PROG_WORDS s.val) words).setReg (Obj.PROG_IDS s.val) mine.length) d

/-- A package loads, or is refused, as a whole (R300): LOAD_RESULT and LOAD_DETAIL (Table 10-14). -/
def Dev.package (d : Dev) (p : Package) : Dev :=
  match d.contentBad p with
  | some (code, set', slot, word) =>
    ((d.setReg Obj.LOAD_RESULT code).setReg Obj.LOAD_DETAIL
      (code * 2 ^ 24 + set' * 2 ^ 18 + slot * 2 ^ 15 + word)).inc 32 Obj.LOADS_REFUSED
  | none =>
    (((d.putPackage false p).setReg Obj.LOAD_RESULT 0).setReg Obj.LOAD_DETAIL 0).setReg Obj.LOAD_TICK d.tick.toNat

/-- The package of a body, one whose framing is broken included: it is refused with FORMAT. -/
def packageOf (b : List Byte) : Package := (readPackage b).getD { caps := 0xF0, mask := 0, progs := [], sets := [] }

/-- `PROGRAM_PACKAGE` (R300): both writes have completed, and the package of a container that passed R440 takes effect at the
present commit, or it is refused. -/
def execProgramPackage (bulk : Bool) (s : State) : Host.Outcome State Fault Refusal :=
  liveAt s fun d =>
    match d.takePassed 3 bulk with
    | none => d
    | some (v, d) =>
      let d := d.package (packageOf v.body)
      if d.reg Obj.LOAD_RESULT = 0 then d.loadAnswer bulk 0 d.tick.toNat else d.loadRefuse bulk 8

/-! ## Unloading and the scratchpad (R306) -/

/-- Channel and set that PSET_SEL selects: [13:8] channel, [5:0] set. -/
def Dev.psetSel (d : Dev) : Nat × Nat := (natBits (d.reg Obj.PSET_SEL) 13 8, natBits (d.reg Obj.PSET_SEL) 5 0)

/-- Whether a channel's engines run a set, or its current or selected step names it (R283, R306). -/
def Dev.psetInUse (d : Dev) (n : ChanId) (k : Nat) : Bool :=
  (d.ch n).eng.setNow == k ||
  ((d.ch n).isArmed && (stPset (d.cfg n).bk.word.toNat == k ||
    (match (d.cfg n).bk.sel with | some x => stPset x.word.toNat == k | none => false)))

/-- PSET_CMD 1: the selected set is unloaded, unless it is 0 or 63 or in use (Table 10-14). -/
def Dev.unloadSet (d : Dev) : Dev :=
  let c := d.psetSel.1
  let k := d.psetSel.2
  let no := fun (code : Nat) =>
    ((d.setReg Obj.LOAD_RESULT code).setReg Obj.LOAD_DETAIL (code * 2 ^ 24 + k * 2 ^ 18)).refuse Obj.PSET_CMD abState
  if h : c < 64 then
    if k = 0 || k = 63 then no 0x10
    else if d.psetInUse ⟨c, h⟩ k then no 0x0E
    else
      let d := d.accept
      { d with mem := { d.mem with sets := sput none d.mem.sets (64 * c + k) none } }
  else d.refuse Obj.PSET_CMD abState

/-- `PSET_CMD_UNLOAD` (R306). -/
def execPsetCmdUnload (s : State) : Host.Outcome State Fault Refusal := liveAt s fun d => d.unloadSet

/-- Area of a scratchpad word for SCR_DATA: 1 library parameters, 2 owner areas, 0 none (R306). -/
def scrArea (a : Nat) : Nat :=
  if a < 0x1800 then
    let o := a % 0x300
    if 0x2A0 ≤ o && o < 0x2C0 then 1 else if 0x2C0 ≤ o then 2 else 0
  else if 0x1A00 ≤ a && a < 0x1C00 then 2
  else 0

/-- Stall and word that SCR_ADDR names. -/
def Dev.scrSel (d : Dev) : StallId × Nat :=
  (⟨natBits (d.reg Obj.SCR_ADDR) 18 16 % 8, by omega⟩, natBits (d.reg Obj.SCR_ADDR) 12 0)

/-- A write of SCR_DATA at its commit (R306, R329); a copy of every parameter is kept (Table 12-3). -/
def Dev.writeScr (d : Dev) (w : Word64) : Dev :=
  let s := d.scrSel.1
  let a := d.scrSel.2
  match scrArea a with
  | 0 => d.refuse Obj.SCR_DATA 0x06010000
  | 1 =>
    let d := d.accept.bulkStore s a w
    { d with mem := { d.mem with params := sput (paramDefault a) d.mem.params (8192 * s.val + a) w } }
  | _ => d.accept.bulkStore s a w

/-- `SCR_DATA_WRITE` (R306). -/
def execScrDataWrite (value : Word64) (s : State) : Host.Outcome State Fault Refusal := liveAt s fun d => d.writeScr value

end Sys2Proof.Machine
end

