-- ==== Sys2Proof/Machine/Estimate.lean ====
section
/-! DEFINITION. The arithmetic of a load-watch estimate (R132, R133): sums over probe ticks, step response, capacitance, ESR,
floor. Sums are in 10 pA, voltages in 10 nV, capacitances in nF, resistances in 0.1 mΩ. -/

namespace Sys2Proof.Machine

open Sys2Proof

/-! ## Sums (R132) -/

def LwSums.zero : LwSums := ⟨0, List.replicate 128 0⟩

/-- One usable probe tick: its sample, and the signs of its chip and of the chips before it. -/
def LwSums.take (s : LwSums) (chips : BitVec 128) (i : Int) : LwSums :=
  ⟨s.n + 1, (s.acc.zipIdx).map fun a => if bit chips a.2 then a.1 - i else a.1 + i⟩

def LwSums.plus (a b : LwSums) : LwSums := ⟨a.n + b.n, List.zipWith (· + ·) a.acc b.acc⟩

/-- The sums of one period of the estimate in progress. -/
def LoadWatch.period (w : LoadWatch) (p : Nat) : LwSums := w.sums.getD p LwSums.zero

/-- The sums of the four periods of an estimate. -/
def LoadWatch.total (w : LoadWatch) : LwSums := (List.range 4).foldl (fun s p => s.plus (w.period p)) LwSums.zero

/-! ## From the sums to the load (R132, R133) -/

/-- Step response s[0..127] in A/V. -/
def LwSums.response (s : LwSums) (lsb : Nat) : List Rat :=
  (s.acc.foldl (fun (r : List Rat × Rat) a =>
    let x := r.2 + (a : Rat) / ((2000 * s.n * lsb : Nat) : Rat)
    (x :: r.1, x)) ([], 0)).1.reverse

/-- Load conductance g: the mean of s[112..127]. -/
def conductance (s : List Rat) : Rat := (s.drop 112).foldl (· + ·) 0 / 16

/-- The capacitance that a step response shows. -/
def capacitance (s : List Rat) : Rat := 1000 * (s.take 112).foldl (fun a x => a + (x - conductance s)) 0

/-- A rational rounded to nearest, ties away from zero. -/
def roundRat (q : Rat) : Int := divRound q.num q.den

/-- The square root of a rational, rounded to nearest. -/
def roundSqrt (q : Rat) : Nat := (Nat.sqrt (4 * q).floor.toNat + 1) / 2

/-- The series of 2·artanh z with 90 fraction bits, for |z| ≤ 1/3. -/
def artanh2 (z : Int) : Int :=
  let s : Int := 2 ^ 90
  let z2 := z * z / s
  2 * ((List.range 30).foldr (fun k (t : Int) => s / (2 * k + 1 : Nat) + z2 * t / s) 0 * z / s)

/-- The natural logarithm of a positive rational, with 90 fraction bits. -/
def lnFix (q : Rat) : Int :=
  let s : Int := 2 ^ 90
  let x := (q * (s : Rat)).floor
  let k : Int := (Nat.log2 x.toNat : Int) - 90
  let m := if k < 0 then x * 2 ^ (-k).toNat else x / 2 ^ k.toNat
  k * artanh2 (s / 3) + artanh2 ((m - s) * s / (m + s))

/-- τ in µs, where the step response gives one. -/
def timeConstant (s : List Rat) : Option Rat :=
  let a := s.getD 1 0 - conductance s
  let b := s.getD 2 0 - conductance s
  if 0 < a * b && decide (b < a) then some ((2 ^ 90 : Rat) / ((lnFix (a / b) : Int) : Rat)) else none

/-- The floor 4σ of the capacitances of four periods, and whether a capacitance lies below it. -/
def lwFloor (cs : List Rat) (c : Rat) : Nat × Bool :=
  let m := cs.foldl (· + ·) 0 / 4
  let v := 16 * (cs.foldl (fun a x => a + (x - m) * (x - m)) 0 / 4)
  (roundSqrt v, decide (c < 0) || decide (c * c < v))

/-- An estimate: capacitance, whether it is the floor, and the ESR: none where it is unknown, `some none` where the manual
states no result. -/
structure LwEstimate where
  nF    : Nat
  floor : Bool
  esr   : Option (Option Nat)
deriving DecidableEq, Repr

/-- The estimate that the sums of four periods give, at a voltage LSB and a damping resistance. -/
def LoadWatch.estimate (w : LoadWatch) (lsb rs : Nat) : LwEstimate :=
  let s := w.total.response lsb
  let c := capacitance s
  let f := lwFloor ((List.range 4).map fun p => capacitance ((w.period p).response lsb)) c
  let esr := (timeConstant s).map fun t =>
    if c = 0 then none
    else
      let r := roundRat (t * 10000000 / c) - rs
      if r < 0 || 0xFFFF ≤ r then none else some r.toNat
  { nF := if f.2 then f.1 else (roundRat c).toNat, floor := f.2, esr := esr }

end Sys2Proof.Machine
end

