-- ==== Sys2Proof/Machine/Loops.lean ====
section
/-! DEFINITION. Commands of the inner loop's compensation, load watch, range changes, gusts and the sine generator
(R119–R154, R271–R274). -/

namespace Sys2Proof.Machine

open Sys2Proof

/-! ## Compensation and load watch -/

/-- `RING_DROP` (R122): the stall die takes the tail at once; the records follow at the next commit. A PARKED channel
runs on its loopback, where no drop happens (R124). -/
def execRingDrop (n : ChanId) (_cyc : Cycle) (s : State) : Host.Outcome State Fault Refusal :=
  liveIn s fun d =>
    if (d.ch n).isParked then d
    else d.modCh n fun c => { c with comp := { c.comp with dropWas := some (c.comp.dropWas.getD c.comp.now) } }

/-- A ring drop is recorded at the present commit (R122, R123). -/
def Dev.recordDrop (d : Dev) (n : ChanId) : Dev :=
  match (d.ch n).comp.dropWas with
  | none => d
  | some was =>
    let drops := (d.tick :: (d.ch n).comp.drops).filter fun t => decide (ticksFrom t d.tick < 100000)
    let locks := (d.ch n).comp.st != .tailLock && decide (4 ≤ drops.length)
    let d := d.modCh n fun c =>
      let c := { c with comp := { c.comp with now := 31, drops := drops.take 4, hostReq := false, dropWas := none,
                                              lastMove := if was = 31 then c.comp.lastMove else d.tick,
                                              st := if locks || c.comp.st == CompState.tailLock then CompState.tailLock else CompState.tailed } }
      let c := if was = 31 then c else c.setReg Obj.LAST_MOVE_TICK d.tick.toNat
      c.inc 16 Obj.TAIL_DROPS
    let d := d.raiseCh 0x0301 1 n was
    if locks then d.raiseCh 0x0302 1 n else d

/-- A host change acts at its own commit where a new step applies at it (R125). -/
def Dev.compHost (d : Dev) (n : ChanId) : Dev :=
  if (d.ch n).comp.stepAt == some d.tick && !d.isFollower n then d.compStep n else d

/-- A write of COMP_MODE at its commit: TAIL_LOCK and the drop history clear (R123, R125). -/
def Dev.writeCompMode (d : Dev) (n : ChanId) (v : Nat) : Dev :=
  if 2 < v then d.refuse (chObj n Obj.COMP_MODE) abRange
  else
    let d := (d.accept.keep (chObj n Obj.COMP_MODE) (d.creg n Obj.COMP_MODE)).setCreg n Obj.COMP_MODE v
    let st := fun (x : Comp) => if x.st == .tailLock then (if x.now = 31 then CompState.tailed else CompState.normal) else x.st
    (d.modCh n fun c => { c with comp := { c.comp with drops := [], hostReq := true, st := st c.comp } }).compHost n

/-- A write of COMP_FIXED at its commit (R125). -/
def Dev.writeCompFixed (d : Dev) (n : ChanId) (v : Nat) : Dev :=
  if 31 < v then d.refuse (chObj n Obj.COMP_FIXED) abRange
  else
    (((d.accept.keep (chObj n Obj.COMP_FIXED) (d.creg n Obj.COMP_FIXED)).setCreg n Obj.COMP_FIXED v).modCh n fun c =>
      { c with comp := { c.comp with hostReq := true } }).compHost n

/-- `COMP_MODE_WRITE` (R123, R125). -/
def execCompModeWrite (n : ChanId) (fixed : Bool) (value : BitVec 8) (s : State) : Host.Outcome State Fault Refusal :=
  liveAt s fun d => if fixed then d.writeCompFixed n value.toNat else d.writeCompMode n value.toNat

/-- The target setting of an estimate, capacitance in nF and ESR in 0.1 mΩ (R134). -/
def Channel.lwTarget (c : Channel) (nF : Nat) (esr : Option Nat) : Nat :=
  let t := bandOf nF
  let t := match esr with
    | some e => if 20 ≤ t && e < 200 then min (t + 1) 30 else t
    | none => t
  min (max t (c.reg Obj.COMP_MIN)) (min (c.reg Obj.COMP_MAX) 30)

/-- The estimate of four periods is over: the next one has begun. -/
def LoadWatch.turn (w : LoadWatch) : LoadWatch :=
  { w with probes := w.probes - 1016, sums := w.sums.drop 4,
           ticks := w.ticks.filterMap fun t => if t.2.1 < 1016 then none else some (t.1, t.2.1 - 1016, t.2.2) }

/-- An estimate is published (R132–R134, R137); where the manual states no result a free value stands (log 87). -/
def Dev.publishEstimate (d : Dev) (n : ChanId) (e : LwEstimate) : Dev :=
  let k := (d.members n).length
  let x := d.fresh
  let y := x.2.fresh
  let nF := if k * e.nF < 2 ^ 32 then k * e.nF else x.1 % 2 ^ 32
  let esr := e.esr.map fun r => match r with
    | some r => (divRound r k).toNat
    | none => y.1 % 0xFFFF
  let t := (d.ch n).lwTarget nF esr
  y.2.modCh n fun c =>
    let c := { c with lw := { c.lw.turn with targets := (t :: c.lw.targets).take 2 } }
    let c := (c.setReg Obj.C_EST nF).setReg Obj.ESR_EST (esr.getD 0xFFFF)
    let c := (c.setReg Obj.EST_FLAGS (1 + 2 * b2n e.floor + 4 * b2n (decide (1 < k)))).setReg Obj.EST_TICK d.tick.toNat
    (c.setReg Obj.TARGET t).inc 32 Obj.EST_COUNT

/-- `LW_ESTIMATE` (R132–R134, R137): acts once the samples of 1,016 probe ticks are in; more than a tenth of them without a
usable sample discards the estimate. -/
def execLwEstimate (n : ChanId) (s : State) : Host.Outcome State Fault Refusal :=
  liveAt s fun d =>
    let c := d.ch n
    if c.lw.probes < 1016 || c.lw.ticks.any (·.2.1 < 1016) || d.isFollower n then d
    else if 10 * c.lw.total.n < 9 * 1016 then
      (d.modCh n fun c => { c with lw := c.lw.turn }).cinc n 32 Obj.EST_DISCARDS
    else d.publishEstimate n (c.lw.estimate (lsbV c.force.vrange) (compRs n c.comp.now))

/-- A write of LW_EN at its commit (R136). -/
def Dev.writeLwEn (d : Dev) (n : ChanId) (v : Nat) : Dev :=
  if 1 < v then d.refuse (chObj n Obj.LW_EN) abRange
  else ((d.accept.keep (chObj n Obj.LW_EN) (d.creg n Obj.LW_EN)).setCreg n Obj.LW_EN v).modCh n fun c => c.lwRestart true

/-! ## Range changes -/

/-- `RANGE_CHANGE_BREAK` (R146): at t+0.200 µs of the window's first tick the old element opens. -/
def execRangeChangeBreak (n : ChanId) (s : State) : Host.Outcome State Fault Refusal :=
  liveIn s fun d =>
    if (d.ch n).rc.active && (d.ch n).rc.opened == d.tick then
      d.modCh n fun c => { c with rc := { c.rc with made := false } }
    else d

/-- `RANGE_CHANGE_CLOSE` (R146, R147, R223). -/
def execRangeChangeClose (n : ChanId) (s : State) : Host.Outcome State Fault Refusal :=
  liveAt s fun d =>
    if (d.ch n).rc.active && reached d.tick (d.ch n).rc.closes then
      d.closeWindow n
    else d

/-! ## Gusts -/

/-- `GUST_INJECTION_START` (R140, R143). -/
def execGustInjectionStart (n : ChanId) (s : State) : Host.Outcome State Fault Refusal := liveIn s fun d => d.gustBegin n

/-- `GUST_INJECTION_END` (R139). -/
def execGustInjectionEnd (n : ChanId) (s : State) : Host.Outcome State Fault Refusal :=
  liveIn s fun d => d.gustEnd n

/-- `GUST_ARM_CMD_ARM` (R140). -/
def execGustArmCmdArm (n : ChanId) (profile : Idx16) (s : State) : Host.Outcome State Fault Refusal :=
  liveAt s fun d => (d.hostOver n Obj.GUST_ARM_CMD fun d => d.accept.modCh n fun c => c.gustArm profile).settleFaults

/-- `GUST_ARM_CMD_DISARM` (R140, R144). -/
def execGustArmCmdDisarm (n : ChanId) (s : State) : Host.Outcome State Fault Refusal :=
  liveAt s fun d => (d.hostOver n Obj.GUST_ARM_CMD fun d => (d.accept.gustStop n d.commitAt).modCh n (·.gustDisarm)).settleFaults

/-! ## The sine generator by command (R273, R274) -/

/-- The sine may act: the channel is ARMED and no follower of a gang. -/
def Dev.sineActs (d : Dev) (n : ChanId) : Bool := (d.ch n).isArmed && !d.isFollower n

/-- `SINE_CMD_START` (R273). -/
def execSineCmdStart (n : ChanId) (setting : Idx16) (s : State) : Host.Outcome State Fault Refusal :=
  liveAt s fun d => (d.hostOver n Obj.SINE_CMD fun d => if d.sineActs n then d.accept.modCh n fun c => c.sineStart d.tick setting else d.accept).settleFaults

/-- `SINE_CMD_ZERO` (R273). -/
def execSineCmdZero (n : ChanId) (s : State) : Host.Outcome State Fault Refusal :=
  liveAt s fun d => (d.hostOver n Obj.SINE_CMD fun d => if d.sineActs n then d.accept.modCh n fun c => c.sineOff else d.accept).settleFaults

/-- `SINE_CMD_PHASE_RESET` (R273). -/
def execSineCmdPhaseReset (n : ChanId) (s : State) : Host.Outcome State Fault Refusal :=
  liveAt s fun d => (d.hostOver n Obj.SINE_CMD fun d => if d.sineActs n then d.accept.modCh n fun c => c.sinePhase d.tick else d.accept).settleFaults

end Sys2Proof.Machine
end

