-- ==== Sys2Proof/Machine/Measure.lean ====
section
/-! DEFINITION. Commands of the converters, of the AUX converter, of open-wire detection and of the references
(R157–R187). -/

namespace Sys2Proof.Machine

open Sys2Proof

/-- Slot word of the pre-close conversions: SENSE, gain 1, ACQ 200 ns (R166). -/
def preCloseWord : Nat := 0x1400

/-- `TIMER_CONVERSION_START` (R167); on an ARMING channel, the MV conversion of each tick for the pre-close check (R166). -/
def execTimerConversionStart (n : ChanId) (mi second : Bool) (s : State) : Host.Outcome State Fault Refusal :=
  liveIn s fun d =>
    if (d.ch n).force.st == .arming then
      (if mi || second then d
       else if (d.ch n).mv.run.isSome then d.modCh n fun c => c.modConv false (·.queue .preClose (d.tick, 0))
       else d.beginConv n false .preClose 0 preCloseWord (d.tick, 0))
    else d.timerStart n mi second

/-- `INJ_SEQUENCE_START` (R170). -/
def execInjSequenceStart (n : ChanId) (mi : Bool) (s : State) : Host.Outcome State Fault Refusal :=
  liveIn s fun d => d.injectedStart n mi

/-- `CONVERSION_DONE` (R160). -/
def execConversionDone (n : ChanId) (mi : Bool) (raw : BitVec 18) (cyc : Cycle) (s : State) :
    Host.Outcome State Fault Refusal :=
  liveIn s fun d => d.conversionEnd n mi raw cyc.val

/-- The stall's analog circuits are powered (R464, R465). -/
def Dev.analogOn (d : Dev) : Bool := d.power.analogUp && d.power.state != .quiet

/-- `CAL_CONVERSION` (R172). -/
def execCalConversion (n : ChanId) (mi : Bool) (s : State) : Host.Outcome State Fault Refusal :=
  liveIn s fun d => if d.analogOn then d.calConversion n mi else d

/-! ## The AUX converter (R178–R180) -/

/-- Housekeeping items in order (Table 5-7). -/
def houseInput (i : Nat) : Nat := if i < 16 then 0x50 + i else 0x70 + (i - 16)
/-- Items of the CALDAC rotation: clamp DACs, threshold DACs, then the transfer reference (log 20). -/
def calItems : Nat := 49
def calInput (i : Nat) : Nat := if i < 16 then 0x60 + i else i - 16

/-- Positions that an AUX input concerns (Table 5-8); items of the whole stall concern every position. -/
def auxConcerns (input p : Nat) : Bool :=
  if input < 0x40 then input % 0x20 / 4 == p
  else if input < 0x50 then input % 8 == p
  else if input < 0x70 then input % 16 / 2 == p
  else true

/-- A conversion of an AUX input is made: its count and the AUX ports (R178, Table 10-5). -/
def Dev.auxTake (d : Dev) (s : StallId) (input : Nat) (reading : Int) : Dev :=
  (d.sinc s 64 Obj.AUX_CONV).modSt s fun x =>
    { x with auxSeen := x.auxSeen ++ (List.range 8).filterMap fun p => if auxConcerns input p then some (p, input, reading) else none }

/-- A reading of REFX in µV (R175): two consecutive ones outside 2.475 V to 2.525 V while REFX is selected switch the
stall back at the next commit. -/
def Dev.refxReading (d : Dev) (s : StallId) (uV : Int) : Dev :=
  let x := d.st s
  let bad := x.refx && (decide (uV < 2475000) || decide (2525000 < uV))
  let run := if bad then x.refxBad + 1 else 0
  (d.setSreg s Obj.REFX_LEVEL (unsignedOf 32 uV)).modSt s fun x =>
    { x with refxBad := run, refxSwitch := x.refxSwitch || decide (2 ≤ run) }

/-- A THRESH item (R179, R224). -/
def Dev.auxThresh (d : Dev) (s : StallId) (reading : Int) : Dev :=
  let k := (d.st s).rotThresh
  let nm := wmOfKey s k
  let d := (d.auxTake s k reading).wmReadback nm.1 nm.2 reading d.tick
  let d := d.modSt s fun x => { x with rotThresh := (k + 1) % 32 }
  if k = 31 then d.setSreg s Obj.THRESH_ROUND_TICK (d.tick + 1).toNat else d

/-- A HOUSE item (R179). REFX_LEVEL takes the readings of this rotation alone (log 95). -/
def Dev.auxHouse (d : Dev) (s : StallId) (reading : Int) : Dev :=
  let i := (d.st s).rotHouse
  let d := d.auxTake s (houseInput i) reading
  let d := d.modSt s fun x => { x with rotHouse := (i + 1) % 20 }
  if houseInput i = 0x71 then d.refxReading s reading else d

/-- A reading of a clamp DAC or threshold DAC counts toward its item's quota, unless background calibration is paused on the
channel (R350, R355). -/
def Dev.calReading (d : Dev) (s : StallId) (i : Nat) : Dev :=
  let n := chanAt s ⟨(if i < 16 then i / 2 else (i - 16) / 4) % 8, by omega⟩
  let key := if i < 16 then i % 2 else 2 + i % 4
  if d.bgPaused n then d
  else d.modCh n fun c => { c with cal := { c.cal with readings := sput 0 c.cal.readings key (sget 0 c.cal.readings key + 1) } }

/-- A CALDAC item (R350); the last of the rotation reads the transfer reference. -/
def Dev.auxCal (d : Dev) (s : StallId) (reading : Int) : Dev :=
  let i := (d.st s).rotCal
  let d :=
    if i < 48 then (d.auxTake s (calInput i) reading).calReading s i
    else (d.sinc s 64 Obj.AUX_CONV).modSt s fun x => { x with bgReads := x.bgReads + 1, bgSum := x.bgSum + reading }
  d.modSt s fun x => { x with rotCal := (i + 1) % calItems }

/-- An open-wire step is ready: the pull currents of the channel that the stall checks have settled (R181). -/
def Dev.owReady (d : Dev) (s : StallId) : Option ChanId :=
  (chansOf s).find? fun n =>
    let o := (d.ch n).ow
    (o.phase == .settlePos || o.phase == .settleNeg) && o.settled

/-- An OPENWIRE slot converts the next open-wire step (R179, R181): SNSH − FRC, then RTN − SNSL, in 10 µV. -/
def Dev.auxOpenWire (d : Dev) (s : StallId) (n : ChanId) (reading : Int) : Dev :=
  let o := (d.ch n).ow
  let first := o.taken == 0
  let d := d.auxTake s ((if first then 0x40 else 0x48) + posOf n) reading
  d.modCh n fun c => { c with ow :=
    match o.phase with
    | .settlePos => if first then { o with aPos := reading, taken := 1 } else { o with bPos := reading, taken := 2, phase := .readPos }
    | .settleNeg => if first then { o with aNeg := reading, taken := 1 } else { o with bNeg := reading, taken := 2, phase := .readNeg }
    | .idle | .readPos | .readNeg => o }

/-- The regular sequence takes the window (R179): an EMPTY slot, and an OPENWIRE slot whose next step is not ready, pass it to
the next. -/
def Dev.auxRegular : Nat → Dev → StallId → Int → Dev
  | 0, d, _, _ => d
  | fuel + 1, d, s, reading =>
    let len := max 1 (d.sreg s Obj.AUX_LEN)
    let pos := (d.st s).auxPos % len
    let w := d.sreg s (Obj.AUX_SLOT pos)
    let d := d.modSt s fun x => { x with auxPos := (pos + 1) % len }
    match natBits w 15 12, d.owReady s with
    | 1, _ => d.auxThresh s reading
    | 2, some n => d.auxOpenWire s n reading
    | 3, _ => d.auxHouse s reading
    | 4, _ => d.auxCal s reading
    | 5, _ => d.auxTake s (natBits w 11 0) reading
    | _, _ => Dev.auxRegular fuel d s reading

/-- The next injected slot takes the window (R180). -/
def Dev.auxInjected (d : Dev) (s : StallId) (j : Nat) (reading : Int) : Dev :=
  let len := natBits (d.sreg s Obj.AUX_INJ_CTRL) 2 0
  let d := d.auxTake s (natBits (d.sreg s (Obj.AUX_INJ_SLOT j)) 11 0) reading
  d.modSt s fun x => { x with auxInj := if j + 1 < len then x.auxInj.map fun e => (j + 1, e.2) else none }

/-- One window of a resolution (R219). -/
def Dev.auxResolve (d : Dev) (s : StallId) (k : Nat) (reading : Int) : Dev :=
  let nm := wmOfKey s k
  let input := if (d.ch nm.1).wm[nm.2].res == .first then k else 0x20 + k
  (d.auxTake s input reading).wmResolve s k reading

/-- One AUX window (R25, R178). -/
def Dev.auxWindow (d : Dev) (s : StallId) (second : Bool) (reading : Int) : Dev :=
  let now : Tick × Nat := (d.tick, if second then 240 else 0)
  let d := d.auxPulsesTo s (addCyc now 1)
  let x := d.st s
  let ready := match x.auxInj with
    | some (_, t, c) => !before now (t, c)
    | none => false
  match x.auxInj, x.resQ with
  | some (j, _), _ =>
    if ready then d.auxInjected s j reading
    else
      match x.resQ with
      | (_, k) :: _ => d.auxResolve s k reading
      | [] => Dev.auxRegular 16 d s reading
  | none, (_, k) :: _ => d.auxResolve s k reading
  | none, [] => Dev.auxRegular 16 d s reading

/-- `AUX_WINDOW` (R178): `band` lists the monitors 4p + m whose band detector shows the input inside the band at
t+0.400 µs, before the second window (R218). -/
def execAuxWindow (s' : StallId) (second : Bool) (reading : Int) (band : List Nat) (s : State) :
    Host.Outcome State Fault Refusal :=
  liveIn s fun d =>
    if (d.st s').bufferOn.isNone then d
    else
      let d := if second then band.foldl (fun d k => d.wmQueue (wmOfKey s' k).1 (wmOfKey s' k).2) d else d
      d.auxWindow s' second reading

/-! ## Open-wire detection (R181–R183) -/

/-- The conditions of R181. -/
def Dev.owEligible (d : Dev) (n : ChanId) : Bool :=
  let c := d.ch n
  c.reg Obj.OW_EN == 1 && (c.isArmed || c.isSafe) && c.force.disc && c.reg Obj.SENSE_MODE == 0 && !d.isFollower n

/-- The channel that the stall checks next: the first of those that meet the conditions, in position order after the one it
checked last (R181). -/
def Dev.owNext (d : Dev) (s : StallId) : Option ChanId :=
  let l := chansOf s
  let k := (d.st s).owChan + 1
  (l.drop k ++ l.take k).find? d.owEligible

/-- `OW_CHECK_START` (R181): one channel of the stall at a time, in position order. -/
def execOwCheckStart (n : ChanId) (s : State) : Host.Outcome State Fault Refusal :=
  liveAt s fun d =>
    if d.owNext (stallOf n) != some n || (chansOf (stallOf n)).any (fun m => (d.ch m).ow.phase != .idle) then d
    else
      (d.modCh n fun c => { c with ow := { c.ow with phase := .settlePos, settled := false, since := d.tick, taken := 0 } }).modSt
        (stallOf n) fun x => { x with owChan := posOf n }

/-- `OW_SETTLE_EXPIRY` (R181): the next OPENWIRE slots convert. -/
def execOwSettleExpiry (n : ChanId) (s : State) : Host.Outcome State Fault Refusal :=
  liveIn s fun d =>
    if ticksFrom (d.ch n).ow.since d.tick < d.sreg (stallOf n) Obj.OW_SETTLE then d
    else d.modCh n fun c => { c with ow := { c.ow with settled := true } }

/-- The pulls of a check at a commit: reversed after the first pair, off where the channel has left the conditions
(R181). -/
def Dev.owCommit (d : Dev) (n : ChanId) : Dev :=
  match (d.ch n).ow.phase with
  | .idle => d
  | p =>
    if !d.owEligible n then d.modCh n fun c => { c with ow := { c.ow with phase := .idle } }
    else if p == .readPos then d.modCh n fun c => { c with ow := { c.ow with phase := .settleNeg, settled := false, since := d.tick, taken := 0 } }
    else d

/-- Whether a lead is open after a difference (twice, in 20 µV): OPEN, and the runs above and below the limit (R182). -/
def leadJudge (isOpen : Bool) (above below : Nat) (twice : Int) (limit : Nat) : Bool × Nat × Nat :=
  if (200 * limit : Int) < twice then ((isOpen || decide (2 ≤ above + 1)), above + 1, 0)
  else ((isOpen && decide (below + 1 < 2)), 0, below + 1)

/-- `OW_CHECK_DONE` (R182): at the commit that ends the check the pulls switch off and the leads are judged. DETAIL 1
names SNSH, 2 SNSL (log 22). An odd difference is halved to nearest, ties away from zero (log 94). -/
def execOwCheckDone (n : ChanId) (s : State) : Host.Outcome State Fault Refusal :=
  liveAt s fun d =>
    let c := d.ch n
    let o := c.ow
    if o.phase != .readNeg then d
    else
      let dH := o.aPos - o.aNeg
      let dL := o.bPos - o.bNeg
      let lim := c.reg Obj.OW_LIMIT
      let was := c.reg Obj.OW_RESULT
      let h := leadJudge (natBit was 0) o.overH o.underH dH lim
      let l := leadJudge (natBit was 1) o.overL o.underL dL lim
      let cls := if c.reg Obj.OW_ACTION = 1 then 2 else 1
      let d := d.modCh n fun c =>
        let c := { c with ow := { c.ow with phase := .idle, overH := h.2.1, underH := h.2.2, overL := l.2.1, underL := l.2.2 } }
        let c := (c.setReg Obj.OW_D_SNSH (unsignedOf 16 (satInt 16 (divRound dH 2)))).setReg Obj.OW_D_SNSL
          (unsignedOf 16 (satInt 16 (divRound dL 2)))
        ((c.setReg Obj.OW_RESULT (b2n h.1 + 2 * b2n l.1 + 8)).setReg Obj.OW_LAST_TICK d.tick.toNat).inc 32 Obj.OW_COUNT
      let last := (chansOf (stallOf n)).all fun m => decide (m ≤ n) || !d.owEligible m
      let d := if last then d.setSreg (stallOf n) Obj.OW_ROUND_TICK d.tick.toNat else d
      let d := if h.1 && !natBit was 0 then d.raiseCh 0x0402 cls n 1 else d
      let d := if l.1 && !natBit was 1 then d.raiseCh 0x0402 cls n 2 else d
      d.settleFaults

/-! ## References (R173–R175) -/

/-- Every channel of a stall is PARKED. -/
def Dev.stallParked (d : Dev) (s : StallId) : Bool := (chansOf s).all fun n => (d.ch n).isParked

/-- A write of REF_SEL at its commit (R174). -/
def Dev.writeRefSel (d : Dev) (s : StallId) (v : Nat) : Dev :=
  let obj := stObj s Obj.REF_SEL
  if 1 < v then d.refuse obj abRange
  else if v = 1 && d.sreg s Obj.REFX_EN = 0 then d.refuse obj abState
  else if !d.stallParked s then d.refuse obj abState
  else
    let old := d.sreg s Obj.REF_SEL
    ((d.accept.setSreg s Obj.REF_SEL v).modSt s fun x =>
      { x with refx := v == 1, refxFailed := false, refxBad := 0, refxSwitch := false }).keep obj old

/-- `REF_SEL_WRITE` (R174). -/
def execRefSelWrite (s' : StallId) (v : Bool) (s : State) : Host.Outcome State Fault Refusal :=
  liveAt s fun d => d.writeRefSel s' (b2n v)

/-- A write of REFX_EN at its commit (R174). -/
def Dev.writeRefxEn (d : Dev) (s : StallId) (v : Nat) : Dev :=
  let obj := stObj s Obj.REFX_EN
  let old := d.sreg s Obj.REFX_EN
  if 1 < v then d.refuse obj abRange
  else if v = 0 && d.sreg s Obj.REF_SEL = 1 then d.refuse obj abState
  else
    let d := (d.accept.setSreg s Obj.REFX_EN v).keep obj old
    if v = 1 && old = 0 then d.setSreg s Obj.REFX_EN_TICK d.tick.toNat else d

/-- `REFX_EN_WRITE` (R174). -/
def execRefxEnWrite (s' : StallId) (v : Bool) (s : State) : Host.Outcome State Fault Refusal :=
  liveAt s fun d => d.writeRefxEn s' (b2n v)

/-- The fall-back to the internal reference at a commit (R175, R381). -/
def Dev.refxFallback (d : Dev) (s : StallId) : Dev :=
  let x := d.st s
  if !x.refxSwitch then d
  else
    let d := (d.setSreg s Obj.REF_SEL 0).modSt s fun x =>
      { x with refx := false, refxFailed := true, refxSwitch := false, refxBad := 0, fallTick := some d.tick }
    ((d.sinc s 16 Obj.REFX_FAILS).keep (stObj s Obj.REF_SEL) 1).raiseNow 0x0401 1 .stall s.val

/-- The internal buffer at a commit (R173): on while a channel of the stall is not PARKED and while background calibration
works on a parked one. -/
def Dev.bufferCommit (d : Dev) (s : StallId) : Dev :=
  let on := d.analogOn || !d.stallParked s
  match (d.st s).bufferOn with
  | none => if on then d.modSt s fun x => { x with bufferOn := some d.tick } else d
  | some _ => if on then d else d.modSt s fun x => { x with bufferOn := none }

/-- REF_STATE (Table 5-14). -/
def Stall.refState (x : Stall) (now : Tick) : Nat :=
  if x.refxFailed then 5
  else if x.refx then (if ticksFrom (BitVec.ofNat 48 (x.reg Obj.REFX_EN_TICK)) now < 5000 then 3 else 4)
  else
    match x.bufferOn with
    | none => 0
    | some b => if ticksFrom b now < 2 then 1 else 2

end Sys2Proof.Machine
end

