-- ==== Sys2Proof/Machine/Monitors.lean ====
section
/-! DEFINITION. Commands of the window monitors (R209–R226). -/

namespace Sys2Proof.Machine

open Sys2Proof

/-- EDGE of a monitor selects a transition: 0 trip, 1 release, 2 both (Table 7-1). -/
def wmEdgeFires (w : Nat) (trip : Bool) : Bool :=
  match wmEdge w with
  | 0 => trip
  | 1 => !trip
  | _ => true

/-- A transition of a comparator (R215, R216, R221): the side is kept; only a CLEAR or TRIPPED monitor fires, records
and acts. -/
def Dev.wmTransition (d : Dev) (n : ChanId) (m : Idx4) (trip : Bool) (cyc : Nat) : Dev :=
  let x := (d.ch n).wm[m]
  let w := d.creg n (Obj.WM_CFG m.val)
  let known := (x.st == .clear || x.st == .tripped) && x.side != trip
  let d := d.modCh n fun c => c.modWm m fun x =>
    { x with side := trip, seenNow := x.seenNow || (known && trip), moved := x.moved || known }
  if !known then d
  else
    let code := chProd n (4 + m.val)
    let first := !d.fab.fired.contains code
    let d := if wmEdgeFires w trip then
        (let d := d.fire code [] true 2 cyc
         if first then d.cinc n 32 (Obj.WM_EVENTS m.val) else d)
      else d
    if trip && wmAction w != 0 && !x.acted then
      (d.modCh n fun c => c.modWm m fun x => { x with acted := true }).raiseChCyc 0x0601 (if wmAction w = 2 then 2 else 1)
        n cyc m.val
    else d

/-- `WM_TRANSITION` (R216). -/
def execWmTransition (n : ChanId) (m : Idx4) (trip : Bool) (cyc : Cycle) (s : State) : Host.Outcome State Fault Refusal :=
  liveIn s fun d => d.wmTransition n m trip cyc.val

/-- A write of WM_CFG at its commit (R211, R214, R217, R222, R226). -/
def Dev.writeWmCfg (d : Dev) (n : ChanId) (m : Idx4) (w : Nat) : Dev :=
  let obj := chObj n (Obj.WM_CFG m.val)
  if !wmCfgOk m w then d.refuse obj abRange
  else
    let old := d.creg n (Obj.WM_CFG m.val)
    let x := (d.ch n).wm[m]
    let d := (d.accept.setCreg n (Obj.WM_CFG m.val) w).keep obj old
    let f := (d.ch n).force
    let changed := (wmCodeOf m w f.vrange f.irange).1 != x.code || wmHyst w != x.hyst
    if x.st == .off then (d.modCh n (·.wmRecode m)).wmSettle n
    else if !d.wmRuns n m then (d.wmUnqueue n m).modCh n fun c => (c.wmOff m).wmRecode m
    else if x.suspended then d.modCh n (·.wmRecode m)
    else if changed then (d.wmUnqueue n m).modCh n (·.wmRestart m d.tick)
    else d.modCh n (·.wmRecode m)

/-- `WM_CFG_WRITE` (R217). -/
def execWmCfgWrite (n : ChanId) (m : Idx4) (word : BitVec 32) (s : State) : Host.Outcome State Fault Refusal :=
  liveAt s fun d => d.writeWmCfg n m word.toNat

/-- `WM_RESOLVED` (R218, R219): an UNKNOWN monitor takes a side at the present commit. -/
def execWmResolved (n : ChanId) (m : Idx4) (tripped : Bool) (s : State) : Host.Outcome State Fault Refusal :=
  liveAt s fun d =>
    let x := (d.ch n).wm[m]
    if x.st == .unknown && !x.suspended && !x.dacFail && x.restart != d.tick then d.wmTake n m tripped x.resolved.isSome
    else d

end Sys2Proof.Machine
end

