-- ==== Sys2Proof/Machine/Results.lean ====
section
/-! DEFINITION. Commands of the tallies and of the result FIFO (R194–R206). -/

namespace Sys2Proof.Machine

open Sys2Proof

/-- The units of a mask, ascending. -/
def unitsOf (m : BitVec 16) : List Idx16 := (List.finRange 16).filter fun u => bit m u.val

/-- A TALLY_CMD at its commit (R195): 1 an open event of source HOST, 2 a close event of source HOST, 3 a forced close with
cause HOST_ABORT. -/
def Dev.tallyHost (d : Dev) (n : ChanId) (op : Nat) (units : BitVec 16) : Dev :=
  (unitsOf units).foldl (fun d u =>
    let w := d.creg n (Obj.TALLY_CFG u.val)
    if op = 1 then (if tcOpen w = 4 then d.tallyStages n u { TallyEv.none with opens := true } else d)
    else if op = 2 then (if tcClose w = 3 then d.tallyStages n u { TallyEv.none with closes := true } else d)
    else d.tallyStages n u { TallyEv.none with abort := true }) d.accept

/-- `TALLY_CMD_OPEN` (R195). -/
def execTallyCmdOpen (n : ChanId) (units : BitVec 16) (s : State) : Host.Outcome State Fault Refusal :=
  liveAt s fun d => d.tallyHost n 1 units

/-- `TALLY_CMD_CLOSE` (R195). -/
def execTallyCmdClose (n : ChanId) (units : BitVec 16) (s : State) : Host.Outcome State Fault Refusal :=
  liveAt s fun d => d.tallyHost n 2 units

/-- `TALLY_CMD_ABORT` (R195). -/
def execTallyCmdAbort (n : ChanId) (units : BitVec 16) (s : State) : Host.Outcome State Fault Refusal :=
  liveAt s fun d => d.tallyHost n 3 units

/-- `TALLY_TICKS_EXPIRY` (R194): the unit has covered N ticks that are not held. -/
def execTallyTicksExpiry (n : ChanId) (u : Idx16) (s : State) : Host.Outcome State Fault Refusal :=
  liveAt s fun d =>
    let t := (d.ch n).tally[u]
    if t.isOpen && tcClose (d.creg n (Obj.TALLY_CFG u.val)) == 2 && decide (d.creg n (Obj.TALLY_N u.val) ≤ t.unheld) then
      d.tallyStages n u { TallyEv.none with closes := true }
    else d

/-- `SPAN_LIMIT` (R196). -/
def execSpanLimit (n : ChanId) (u : Idx16) (s : State) : Host.Outcome State Fault Refusal :=
  liveAt s fun d =>
    let t := (d.ch n).tally[u]
    if t.isOpen && decide (0xFFFFFFFF ≤ ticksFrom t.openTick d.tick) then
      d.tallyStages n u { TallyEv.none with forced := some .spanLimit }
    else d

/-- Object of a tally word. -/
def tallyObj (w : TallyWord) (u : Idx16) : Nat :=
  match w with
  | .cfg => Obj.TALLY_CFG u.val
  | .ticks => Obj.TALLY_N u.val
  | .filt => Obj.TALLY_FILT u.val
  | .thr => Obj.TALLY_THR u.val

/-- A tally word is accepted (R199). -/
def Channel.tallyWordOk (c : Channel) (w : TallyWord) (u : Idx16) (v : Nat) : Bool :=
  match w with
  | .cfg => tallyCfgOk v (c.reg (Obj.TALLY_N u.val))
  | .ticks => v != 0
  | .filt => decide (v < 0x10000) && tallyFiltOk v
  | .thr => tallyThrOk v

/-- A write to a unit's words at its commit (R199). -/
def Dev.tallyWrite (d : Dev) (n : ChanId) (u : Idx16) (w : TallyWord) (v : Nat) : Dev :=
  if (d.ch n).tallyWordOk w u v then
    d.accept.tallyReconfig n u fun d => (d.keep (chObj n (tallyObj w u)) (d.creg n (tallyObj w u))).setCreg n (tallyObj w u) v
  else d.refuse (chObj n (tallyObj w u)) abRange

/-- `TALLY_CONFIG_WRITE` (R199). -/
def execTallyConfigWrite (n : ChanId) (u : Idx16) (which : TallyWord) (value : BitVec 32) (s : State) :
    Host.Outcome State Fault Refusal :=
  liveAt s fun d => d.tallyWrite n u which value.toNat

/-- `FLUSH_TIMEOUT` (R205). -/
def execFlushTimeout (s : State) : Host.Outcome State Fault Refusal :=
  liveAt s fun d =>
    if !d.fifo.group.isEmpty && decide (d.reg Obj.FLUSH_TICKS ≤ ticksFrom d.fifo.groupTick d.tick) && decide (0 < d.fifo.free) then
      d.formBlock false
    else d

/-- RES_SESSION_CMD 1 (R205); refused at D3 (R452). -/
def Dev.flushSession (d : Dev) : Dev :=
  if d.sec.debug = 3 then d.refuse Obj.RES_SESSION_CMD abState
  else if d.fifo.group.isEmpty || d.fifo.free = 0 then d.accept
  else d.accept.formBlock false

/-- `RES_SESSION_FLUSH` (R205). -/
def execResSessionFlush (s : State) : Host.Outcome State Fault Refusal := liveAt s fun d => d.flushSession

/-- RES_SESSION_CMD 2 (R206); refused at D3 (R452) and in DRBG_FAILED (R433). -/
def Dev.rollSession (d : Dev) : Dev :=
  if d.sec.debug = 3 || d.sec.drbgFail then d.refuse Obj.RES_SESSION_CMD abState else d.accept.endSession true

/-- `RES_SESSION_ROLL` (R206). -/
def execResSessionRoll (s : State) : Host.Outcome State Fault Refusal := liveAt s fun d => d.rollSession

/-- `SESSION_END_DEFERRED` (R204): an entry has become free for the waiting SESSION_END block. -/
def execSessionEndDeferred (s : State) : Host.Outcome State Fault Refusal :=
  liveAt s fun d =>
    match d.fifo.endWait with
    | none => d
    | some w => if d.fifo.free = 0 then d else d.finishSession w.roll

/-- A write of FIFO_ACK (R203): refused above the number read, or for no entry. -/
def Dev.fifoAck (d : Dev) (k : Nat) : Dev :=
  if k = 0 ∨ k > min 16 d.fifo.readCnt then d.refuse Obj.FIFO_ACK abRange else d.accept.releaseEntries k

/-- `FIFO_ACK` (R203). -/
def execFifoAck (count : BitVec 16) (s : State) : Host.Outcome State Fault Refusal :=
  liveAt s fun d => d.fifoAck count.toNat

end Sys2Proof.Machine
end

