-- ==== Sys2Proof/Machine/Sync.lean ====
section
/-! DEFINITION. Commands of REFCLK, of the SYNC lines, of tick phase lock, skew calibration and SYNC-armed starts
(R33–R66, R472). Delays and phases are in 10 ps. A decoded word acts at the commit that begins the slot after it. -/

namespace Sys2Proof.Machine

open Sys2Proof

/-- Update the SYNC unit; a change of LOCK_STATE or REFCLK_STATE is a cause of Table 15-6 (R411). -/
def Dev.modSync (d : Dev) (f : SyncUnit → SyncUnit) : Dev :=
  let y := f d.sync
  let d' := { d with sync := y }
  if y.lock == d.sync.lock && y.refclk == d.sync.refclk then d' else d'.raiseIrq 7
def Dev.isRoot (d : Dev) : Bool := d.reg Obj.SYNC_ROLE == 1
def Dev.isNode (d : Dev) : Bool := d.reg Obj.SYNC_ROLE == 2

/-- Some channel is ARMED or SAFE. -/
def Dev.anyLive (d : Dev) : Bool := d.armedMask != 0

/-! ## REFCLK (R35, R36, R472) -/

/-- `REFCLK_LOSS` (R35, R26): F4 while a channel is ARMED or SAFE, else F1. The holdover oscillator does not hold the
phase lock. Before release the loss shows in REFCLK_STATE alone (R471, R472): faults and counts begin at release. -/
def execRefclkLoss (dev : Int) (cyc : Cycle) (s : State) : Host.Outcome State Fault Refusal :=
  runIn s fun d =>
    if d.power.state == .off || (d.sync.refclk != .locked && d.sync.refclk != .present) then d
    else
      let d' := (d.setReg Obj.REFCLK_DEV (unsignedOf 32 dev)).modSync fun y => { y with refclk := .holdover, lock := .free }
      if d.power.released then
        (d'.inc 16 Obj.REFCLK_LOSSES).raiseAt (d.presentAt cyc.val) 0x0109 (if d.anyLive then 4 else 1) .device 0xFF 0
      else d'

/-- `REFCLK_PRESENT` (R472). -/
def execRefclkPresent (dev : Int) (s : State) : Host.Outcome State Fault Refusal :=
  runIn s fun d =>
    if d.power.state == .off || d.sync.refclk == .locked || d.sync.refclk == .present then d
    else (d.setReg Obj.REFCLK_DEV (unsignedOf 32 dev)).modSync fun y => { y with refclk := .present }

/-- `REFCLK_RELOCK` (R36): only while every channel is PARKED; a NODE's phase lock restarts from ACQUIRING. -/
def execRefclkRelock (s : State) : Host.Outcome State Fault Refusal :=
  runIn s fun d =>
    if d.sync.refclk != .present || !d.allParked then d
    else d.modSync fun y => { y with refclk := .locked, lock := if d.isNode then .acquiring else y.lock }

/-! ## Marks and phase lock (R45, R50–R54) -/

/-- Level of the module in the SYNC tree: 0 at the ROOT (R69). -/
def Dev.syncLevel (d : Dev) : Nat := if d.isRoot then 0 else d.reg Obj.SYNC_LEVEL

/-- The phase error of a mark that arrives at `edge` after the tick start: it is to arrive at D + TRIM (R51). -/
def Dev.phaseOf (d : Dev) (edge : Int) : Int := edge - (d.sync.parentD + signedOf 16 (d.reg Obj.IN_TRIM))

/-- SYNC_DRIFT is raised (R52–R54). -/
def Dev.raiseDrift (d : Dev) : Dev := d.raiseAt (d.tick + 1) 0x0103 1 .device 0xFF 0

/-- A phase error in LOCKED: beyond ±1 ns it raises SYNC_DRIFT, once for each excursion (R52). -/
def Dev.lockedPhase (d : Dev) (phase : Int) (present : Tick) : Dev :=
  let far := decide (100 < phase.natAbs)
  let d := if far && !d.sync.driftRaised then d.raiseAt present 0x0103 1 .device 0xFF 0 else d
  d.modSync fun y => { y with driftRaised := far }

/-- What a mark reads as (R45): its bit and phase error, or none for a missing mark. `edge` is the rising edge after the
tick start and `high` the high time, in 10 ps. The ±20 ns apply where an instant is expected, in LOCKED and HOLD (log 67). -/
def Dev.readMarkIn (d : Dev) (m : Option (Int × Nat)) : Option (Bool × Int) :=
  match m with
  | none => none
  | some (edge, high) =>
    let phase := d.phaseOf edge
    let expected := d.sync.lock == .locked || d.sync.lock == .hold
    if high < 10000 || 60000 < high || (expected && decide (2000 < phase.natAbs)) then none
    else some (decide (30000 ≤ high), phase)

/-- A mark with its bit, at a phase error (R45, R54). -/
def Dev.markSeen (d : Dev) (b : Bool) (phase : Int) : Dev :=
  let d := (d.setReg Obj.PHASE_ERR (unsignedOf 32 phase)).modSync fun y =>
    { y with missRun := 0, rxBits := (y.rxBits ++ [b]).drop (y.rxBits.length - 63) }
  match d.sync.lock with
  | .free => if d.allParked && d.sync.refclk == .locked then d.modSync fun y => { y with lock := .acquiring } else d
  | .hold =>
    if phase.natAbs ≤ 100 then d.modSync fun y => { y with lock := .locked, driftRaised := false }
    else if d.allParked then d.modSync fun y => { y with lock := .acquiring, driftRaised := false }
    else if d.sync.driftRaised then d
    else d.raiseDrift.modSync fun y => { y with driftRaised := true }
  | .locked => d.lockedPhase phase (d.tick + 1)
  | .acquiring => d

/-- `SYNC_MARK` (R45, R54): only a NODE listens. A missing mark leaves a 0 in the word. -/
def execSyncMark (mark : Option (Int × Nat)) (s : State) : Host.Outcome State Fault Refusal :=
  liveIn s fun d =>
    if !d.isNode then d
    else
      match d.readMarkIn mark with
      | some (b, phase) => d.markSeen b phase
      | none => (d.inc 32 Obj.MISSING_MARKS).modSync fun y =>
          { y with missRun := y.missRun + 1, rxBits := (y.rxBits ++ [false]).drop (y.rxBits.length - 63) }

/-- `SYNC_LOST` (R54). Missing marks of a NODE whose lock is FREE leave it FREE and raise nothing: R54 does not say what
they do where no mark has been valid, or in holdover (log 82). -/
def execSyncLost (s : State) : Host.Outcome State Fault Refusal :=
  liveIn s fun d =>
    if d.sync.missRun < 8 || (d.sync.lock != .locked && d.sync.lock != .acquiring) then d
    else (d.modSync fun y => { y with lock := .hold, driftRaised := false }).raiseAt (d.tick + 1) 0x0104 1 .device 0xFF 0

/-- `LOCK_ACQUIRED` (R52): acquisition has brought the mark, at `edge` now, within ±50 ps. -/
def execLockAcquired (edge : Int) (s : State) : Host.Outcome State Fault Refusal :=
  liveAt s fun d =>
    let phase := d.phaseOf edge
    if d.sync.lock == .acquiring && d.allParked && decide (phase.natAbs ≤ 5) then
      ((d.setReg Obj.PHASE_ERR (unsignedOf 32 phase)).setReg Obj.PHASE_ADJ 0).modSync fun y =>
        { y with lock := .locked, driftRaised := false, lastStep := some d.tick }
    else d

/-- The latest phase step lies 1,000 tk back (R52). -/
def Dev.stepFree (d : Dev) : Bool :=
  match d.sync.lastStep with
  | some t => reached d.tick (t + 1000)
  | none => true

/-- `PHASE_STEP` (R52): one 10 ps step against the error, at most one in 1,000 tk. -/
def execPhaseStep (edge : Int) (s : State) : Host.Outcome State Fault Refusal :=
  liveAt s fun d =>
    if d.sync.lock != .locked || !d.stepFree then d
    else
      let phase := d.phaseOf edge
      let adj := signedOf 32 (d.reg Obj.PHASE_ADJ) - phase.sign
      let d := (d.setReg Obj.PHASE_ERR (unsignedOf 32 phase)).setReg Obj.PHASE_ADJ (unsignedOf 32 adj)
      ((d.lockedPhase phase d.tick).modSync fun y => { y with lastStep := some d.tick }).settleFaults

/-! ## Words (R46–R49, R53) -/

/-- The CRC of a SYNC word: CRC-6 with polynomial x^6 + x + 1 and initial value 0 over bits [57:6] from bit 57 down (R46). -/
def crc6 (bits : List Bool) : Nat :=
  bits.foldl (fun c b =>
    let top := natBit c 5 != b
    let s := c * 2 % 64
    if top then s ^^^ 3 else s) 0

/-- The number that bits stand for, the first one most significant. -/
def bitsVal (l : List Bool) : Nat := l.foldl (fun v b => 2 * v + b2n b) 0

/-- A word of command and operand as 64 bits, the first one sent first (Table 2-3). -/
def syncWord (cmd operand : Nat) : List Bool :=
  let body := ((List.range 4).map fun i => natBit cmd (3 - i)) ++ (List.range 48).map fun i => natBit operand (47 - i)
  let crc := crc6 body
  [true, false, true, true, false, false] ++ body ++ (List.range 6).map fun i => natBit crc (5 - i)

/-- Command and operand of a received word; none for a wrong preamble, a wrong CRC or a reserved command (R46, R47). -/
def readSyncWord (l : List Bool) : Option (Nat × Nat) :=
  let body := (l.drop 6).take 52
  if l.length = 64 && bitsVal (l.take 6) == 0b101100 && bitsVal (l.drop 58) == crc6 body && decide (bitsVal (body.take 4) ≤ 6) then
    some (bitsVal (body.take 4), bitsVal (body.drop 4))
  else none

/-- The word a calibrated module sends for NOP: DELAY (R56). -/
def Dev.nodeNop (d : Dev) : Nat × Nat :=
  if d.sync.loopCal == .done then (6, d.reg Obj.FWD_DELAY % 2 ^ 16 + 2 ^ 16 * (d.syncLevel % 8)) else (0, 0)

/-- A received word ends its slot and gives the word to forward in the next (R48). -/
def Dev.forwardWord (d : Dev) (cmd operand : Nat) : Dev :=
  d.modSync fun y => { y with forward := some (cmd, operand), rxBits := [], lastCmd := none }

/-- A decoded EPOCH, START or ABORT: forwarded; acted on unless the word of the slot before was the same and has been
acted on (R48). -/
def Dev.onWord (d : Dev) (cmd operand : Nat) (f : Dev → Dev) : Dev :=
  let copy := d.sync.lastCmd == some (cmd, operand)
  let d := d.forwardWord cmd operand
  if copy then d else f (d.modSync fun y => { y with lastCmd := some (cmd, operand) })

/-- The marks of a slot spell a word with a given command at a NODE. -/
def Dev.heard (d : Dev) (cmd : Nat) : Option Nat :=
  if d.isNode then
    match readSyncWord d.sync.rxBits with
    | some (c, x) => if c = cmd then some x else none
    | none => none
  else none

/-- A word with a given command has been decoded: it acts at the commit that begins the slot after it. -/
def nodeWord (s : State) (cmd : Nat) (f : Nat → Dev → Dev) : Host.Outcome State Fault Refusal :=
  liveAt s fun d =>
    match d.heard cmd with
    | some x => (f x d).settleFaults
    | none => d

/-- `SYNC_WORD_BAD` (R46, R48): the marks of a slot spell no word; NOP goes out in its place. -/
def execSyncWordBad (s : State) : Host.Outcome State Fault Refusal :=
  liveAt s fun d =>
    if d.isNode && d.sync.rxBits.length == 64 && (readSyncWord d.sync.rxBits).isNone then
      (d.inc 32 Obj.WORD_ERRORS).forwardWord 0 0
    else d

/-- `SYNC_NOP` (R48, R56). -/
def execSyncNop (s : State) : Host.Outcome State Fault Refusal :=
  nodeWord s 0 fun _ d => d.forwardWord d.nodeNop.1 d.nodeNop.2

/-- Ticks by which a word's slot is later at this node than at the root (R48). -/
def Dev.levelTicks (d : Dev) : Tick := BitVec.ofNat 48 (64 * d.syncLevel)

/-- The F1 entry of a MISMATCH (R44, R49). The manual names code 0x0105 EPOCH_REFUSED for R44 and none for R49: both log it
(log 83). -/
def Dev.mismatch (d : Dev) : Dev := (d.modSync fun y => { y with epoch := .mismatch }).raiseNow 0x0105 1 .device 0xFF

/-- `SYNC_TIME` (R49). -/
def execSyncTime (s : State) : Host.Outcome State Fault Refusal :=
  nodeWord s 1 fun x d =>
    let d := d.forwardWord 1 x
    if d.tick == BitVec.ofNat 48 x + d.levelTicks then d else d.mismatch

/-- Move an instant with the counter. -/
def shiftAt (k : Tick) (x : Tick × Nat) : Tick × Nat := (x.1 + k, x.2)

/-- A converter's instants move with the counter. -/
def Conv.shift (v : Conv) (k : Tick) : Conv :=
  { v with run := v.run.map fun r => { r with asked := shiftAt k r.asked, start := shiftAt k r.start, stop := shiftAt k r.stop },
           begun := v.begun.map (· + k), lastEnd := v.lastEnd.map (shiftAt k), regTick := v.regTick.map (· + k),
           waits := v.waits.map fun w => (w.1, shiftAt k w.2),
           pulses := v.pulses.map fun p => { p with lead := shiftAt k p.lead, edge := shiftAt k p.edge }, injAt := v.injAt.map (shiftAt k) }

/-- The instants of a PARKED channel that something waits for, or whose age counts, move with the counter. -/
def Channel.shift (c : Channel) (k : Tick) : Channel :=
  let c := (c.modConv false (·.shift k)).modConv true (·.shift k)
  { c with edges := c.edges.map fun x => { x with act := x.act + k, tick := x.tick + k },
           hold := c.hold.map fun h => (h.1 + k, h.2 + k),
           ow := { c.ow with since := c.ow.since + k },
           eng := { c.eng with budget := c.eng.budget.map (· + k), refetch := c.eng.refetch.map (· + k),
                               restore := c.eng.restore.map (· + k) },
           cal := { c.cal with cycleStart := c.cal.cycleStart + k, engSince := c.cal.engSince.map (· + k) } }

/-- Those of a stall. -/
def Stall.shift (x : Stall) (k : Tick) : Stall :=
  { x with bufferOn := x.bufferOn.map (· + k), fallTick := x.fallTick.map (· + k), uncorr := x.uncorr.map (· + k),
           silentAt := x.silentAt.map (· + k), badTicks := x.badTicks.map (· + k),
           auxInj := x.auxInj.map fun a => (a.1, a.2.1 + k, a.2.2),
           auxPulses := x.auxPulses.map fun p => { p with lead := shiftAt k p.lead, edge := shiftAt k p.edge },
           resQ := x.resQ.map fun r => (r.1 + k, r.2) }

/-- Those of the shared parts. -/
def Dev.shiftShared (d : Dev) (k : Tick) : Dev :=
  { d with
    flt := { d.flt with due := d.flt.due.map fun x => (x.1 + k, x.2), active := d.flt.active.map fun x => (x.1, x.2 + k) },
    dict := { d.dict with writes := d.dict.writes.map fun w => { w with act := w.act + k, arrived := w.arrived + k },
                          retains := d.dict.retains.map fun w => { w with since := w.since + k },
                          lastFrame := d.dict.lastFrame.map (shiftAt k) },
    sync := { d.sync with measSince := d.sync.measSince + k, calNext := d.sync.calNext.map fun x => (x.1, x.2 + k),
                          lastStep := d.sync.lastStep.map (· + k) },
    load := { d.load with claims := d.load.claims.map fun c => { c with act := c.act.map (· + k) } },
    fab := { d.fab with quiet := d.fab.quiet.map fun q => (q.1, q.2 + k), arrivals := d.fab.arrivals.map fun a => (a.1, shiftAt k a.2),
                         outs := d.fab.outs.map fun p => { p with start := shiftAt k p.start, stop := shiftAt k p.stop } },
    sec := { d.sec with offerTick := d.sec.offerTick + k, dbgTick := d.sec.dbgTick + k, sealFails := d.sec.sealFails.map (· + k) },
    mem := { d.mem with borrows := d.mem.borrows.map fun b => { b with since := b.since + k },
                        released := d.mem.released.map fun r => (r.1, r.2 + k), marched := d.mem.marched.map fun r => (r.1, r.2 + k) },
    ec := { d.ec with sync0At := d.ec.sync0At + k },
    fifo := { d.fifo with groupTick := d.fifo.groupTick + k },
    power := { d.power with selfTick := d.power.selfTick + k } }

/-- The counter takes domain time at the present commit (R42, R44, R49), and DC_AT_EPOCH the Distributed Clocks time of that
tick (R66). What waits for an instant waits as long as before. -/
def Dev.setEpoch (d : Dev) (now : Tick) : Dev :=
  let k := now - d.tick
  let d := (d.setReg Obj.DC_AT_EPOCH d.sync.dcNow.toNat).modSync fun y =>
    { y with epoch := .domain, gen := bump 8 y.gen, rootEpoch := none }
  let d := { d.shiftShared k with tick := now }
  (d.eachSt fun d s => d.modSt s (·.shift k)).mapCh fun _ c => c.shift k

/-- An EPOCH reaches the module: applied only while every channel is PARKED (R44). -/
def Dev.takeEpoch (d : Dev) (now : Tick) : Dev := if d.allParked then d.setEpoch now else d.mismatch

/-- `SYNC_EPOCH` (R49): `second` where only the second copy was decoded. -/
def execSyncEpoch (second : Bool) (s : State) : Host.Outcome State Fault Refusal :=
  nodeWord s 2 fun x d => d.onWord 2 x fun d => d.takeEpoch (BitVec.ofNat 48 x + (if second then 64 else 0) + d.levelTicks)

/-- `SYNC_START_WORD` (R61): DETAIL 0 names a late START, 1 one that differs from the pending start (log 23). -/
def execSyncStartWord (s : State) : Host.Outcome State Fault Refusal :=
  nodeWord s 3 fun x d => d.onWord 3 x fun d =>
    let tick : Tick := BitVec.ofNat 48 x
    if d.sync.epoch != .domain then d
    else if d.sync.start == .pending && d.sync.startTick != tick then d.raiseNow 0x0106 1 .device 0xFF 1
    else if reached d.tick tick then
      (d.modSync fun y => { y with start := .late }).raiseNow 0x0106 1 .device 0xFF
    else d.modSync fun y => { y with start := .pending, startTick := tick }

/-- `SYNC_ABORT_WORD` (R61). -/
def execSyncAbortWord (s : State) : Host.Outcome State Fault Refusal :=
  nodeWord s 4 fun x d => d.onWord 4 x fun d =>
    if d.sync.start == .pending && d.sync.startTick == BitVec.ofNat 48 x then d.modSync fun y => { y with start := .aborted } else d

/-- `SYNC_DELAY` (R53); the word is not forwarded, and the slot carries what a NOP would give. -/
def execSyncDelay (s : State) : Host.Outcome State Fault Refusal :=
  nodeWord s 6 fun x d =>
    let delay : Nat := x % 2 ^ 16
    let d := d.forwardWord d.nodeNop.1 d.nodeNop.2
    let near := decide (((delay : Int) - d.sync.parentD).natAbs ≤ 5)
    let put := fun (d : Dev) (acq : Bool) =>
      (d.setReg Obj.PARENT_DELAY delay).modSync fun y =>
        { y with parentD := delay, offeredD := none, lock := if acq then .acquiring else y.lock }
    if near then put d false
    else if d.allParked then put d true
    else (d.modSync fun y => { y with offeredD := some delay }).raiseNow 0x0103 1 .device 0xFF

/-! ## Skew calibration (R55–R57) -/

/-- The module measures its own loop (R56, R57, Table 2-5). -/
def Dev.beginLoop (d : Dev) : Dev :=
  let fail := fun (d : Dev) (k : Nat) => d.modSync fun y => { y with loopCal := .failed, failCode := k }
  if d.reg Obj.RET_FITTED = 0 then
    (d.setReg Obj.FWD_DELAY 0).modSync fun y => { y with loopCal := .doneLeaf, failCode := 0 }
  else if !d.isRoot && d.sync.lock != .locked then fail d 4
  else if d.anyLive then fail d 5
  else d.modSync fun y => { y with loopCal := .measuring, failCode := 0, measSince := d.tick }

/-- `SYNC_CAL_LEVEL` (R56). -/
def execSyncCalLevel (s : State) : Host.Outcome State Fault Refusal :=
  nodeWord s 5 fun x d =>
    let d := d.forwardWord 5 x
    if x % 8 = d.syncLevel then d.beginLoop else d

/-- `LOOP_MEASURE_DONE` (R56, Table 2-5). With NO_RETURN there is no mean to set: LOOP_RT and LOOP_SPREAD stay; with NOISY
and TOO_LONG they take what was measured, which the conditions name (log 84). -/
def execLoopMeasureDone (mean spread missing : Nat) (s : State) : Host.Outcome State Fault Refusal :=
  liveAt s fun d =>
    if d.sync.loopCal != .measuring || decide (ticksFrom d.sync.measSince d.tick < 2000) then d
    else
      let fail := fun (d : Dev) (k : Nat) => d.modSync fun y => { y with loopCal := .failed, failCode := k }
      if 100 < missing then fail d 1
      else
        let d := (d.setReg Obj.LOOP_RT (min 0xFFFFFFFF mean)).setReg Obj.LOOP_SPREAD (min 0xFFFF spread)
        if 20 < spread then fail d 2
        else if 65535 < mean then fail d 3
        else (d.setReg Obj.FWD_DELAY (mean / 2)).modSync fun y => { y with loopCal := .done, failCode := 0 }

/-- A command only the ROOT takes; elsewhere it is refused and logged (R69, Table 14-3). -/
def Dev.rootOnly (d : Dev) (obj : Nat) (f : Dev → Dev) : Dev := if d.isRoot then f d else d.refuse obj abState

/-- A domain calibration begins (R57). -/
def Dev.calDomain (d : Dev) : Dev :=
  d.rootOnly Obj.CAL_CMD fun d =>
    d.accept.modSync fun y => { y with sendQ := y.sendQ ++ [(5, 0)], calNext := some (1, d.tick + 8000) }

/-- `CAL_CMD_DOMAIN` (R57). -/
def execCalCmdDomain (s : State) : Host.Outcome State Fault Refusal := liveAt s fun d => d.calDomain

/-- `CAL_CMD_OWN` (R57). -/
def execCalCmdOwn (s : State) : Host.Outcome State Fault Refusal := liveAt s fun d => d.accept.beginLoop

/-- `CAL_LEVEL_SEND` (R57). -/
def execCalLevelSend (s : State) : Host.Outcome State Fault Refusal :=
  liveAt s fun d =>
    match d.sync.calNext with
    | some (l, t) =>
      if reached d.tick t then
        d.modSync fun y => { y with sendQ := y.sendQ ++ [(5, l)], calNext := if l < 5 then some (l + 1, t + 8000) else none }
      else d
    | none => d

/-! ## Slots (R48, R60) -/

/-- What the ROOT sends in a slot with no other command (R48, R56, R57): NOP before the first EPOCH (R484), then TIME. While
its calibration is DONE, DELAY stands in for a NOP, and in domain time every second slot carries it (log 68). -/
def Dev.rootIdle (d : Dev) : Nat × Nat :=
  if d.sync.epoch != .domain then d.nodeNop
  else if d.sync.loopCal == .done && d.tick.toNat / 64 % 2 == 1 then d.nodeNop
  else (1, (d.tick + 64).toNat)

/-- The ROOT's word for a slot that begins (R48). -/
def Dev.rootSlot (d : Dev) : Dev :=
  let d := match d.sync.rootEpoch with
    | some x => d.takeEpoch x
    | none => d
  let d := d.modSync fun y => { y with rootEpoch := none }
  match d.sync.sendQ with
  | [] => d.modSync fun y => { y with tx := some d.rootIdle }
  | w :: ws =>
    let twice := ws.head? == some w
    let d := d.modSync fun y =>
      { y with sendQ := ws, tx := some w, epochSent := y.epochSent || w.1 == 2,
               rootEpoch := if w.1 == 2 && twice then some (BitVec.ofNat 48 w.2) else none }
    if w = (5, 0) then d.beginLoop else d

/-- The lines are held low where the role or SYNC_OUT_EN has it so (R50). -/
def Dev.syncOut (d : Dev) : Dev :=
  if d.reg Obj.SYNC_OUT_EN = 1 && (d.isRoot || d.isNode) then d else d.modSync fun y => { y with tx := none }

/-- A slot may begin at the present commit: at the ROOT and in domain time at a multiple of 64 (R46). -/
def Dev.slotBegins (d : Dev) : Bool := d.tick.toNat % 64 == 0 || (!d.isRoot && d.sync.epoch != .domain)

/-- `SYNC_SLOT_SEND` (R48). -/
def execSyncSlotSend (s : State) : Host.Outcome State Fault Refusal :=
  liveAt s fun d =>
    if !d.slotBegins then d
    else
      let d := if d.isRoot then d.rootSlot
        else if d.isNode then d.modSync fun y => { y with tx := some (y.forward.getD (0, 0)), forward := none }
        else d
      d.syncOut.settleFaults

/-- A write of SYNC_ROLE or SYNC_OUT_EN has acted (R50): the old role's words and waits end, and the lock with it. -/
def Dev.roleWritten (d : Dev) (role : Bool) : Dev :=
  (if role then
    d.modSync fun y => { y with lock := .free, sendQ := [], forward := none, calNext := none, rootEpoch := none, tx := none,
                                rxBits := [], lastCmd := none, missRun := 0 }
   else d).syncOut

/-- First tick of the slot in which the ROOT can send a new word. -/
def Dev.freeSlot (d : Dev) : Tick := BitVec.ofNat 48 (64 * (d.tick.toNat / 64 + 1 + d.sync.sendQ.length))

/-- A START request (R60, R61). With another start pending, R61 speaks of a node that receives START: the ROOT refuses the
write and logs the same F1 entry (log 85). -/
def Dev.startReq (d : Dev) (t : Tick) : Dev :=
  d.rootOnly Obj.START_REQ fun d =>
    if d.sync.epoch != .domain then d.refuse Obj.START_REQ abState
    else if d.sync.start == .pending && d.sync.startTick != t then
      (d.refuse Obj.START_REQ abState).raiseNow 0x0106 1 .device 0xFF 1
    else if !reached t (d.freeSlot + 576) then
      (d.refuse Obj.START_REQ abRange).modSync fun y => { y with start := .late }
    else d.accept.modSync fun y =>
      { y with sendQ := y.sendQ ++ [(3, t.toNat), (3, t.toNat)], start := .pending, startTick := t }

/-- `START_REQ` (R60). -/
def execStartReq (tick : Tick) (s : State) : Host.Outcome State Fault Refusal := liveAt s fun d => (d.startReq tick).settleFaults

/-- An ABORT request (R47, R61): with no start pending there is nothing to send. -/
def Dev.abortReq (d : Dev) (v : Nat) : Dev :=
  d.rootOnly Obj.ABORT_REQ fun d =>
    if v ≠ 1 then d.refuse Obj.ABORT_REQ abRange
    else if d.sync.start != .pending then d.accept
    else d.accept.modSync fun y =>
      { y with sendQ := y.sendQ ++ [(4, y.startTick.toNat), (4, y.startTick.toNat)], start := .aborted }

/-- `ABORT_REQ` (R47). -/
def execAbortReq (value : BitVec 8) (s : State) : Host.Outcome State Fault Refusal := liveAt s fun d => d.abortReq value.toNat

/-- An EPOCH request (R47, R69). -/
def Dev.epochReq (d : Dev) (x : Tick) : Dev :=
  d.rootOnly Obj.EPOCH_REQ fun d =>
    if x.toNat % 64 ≠ 0 then d.refuse Obj.EPOCH_REQ abRange
    else d.accept.modSync fun y => { y with sendQ := y.sendQ ++ [(2, x.toNat), (2, x.toNat)] }

/-- `EPOCH_REQ` (R47). -/
def execEpochReq (tick : Tick) (s : State) : Host.Outcome State Fault Refusal := liveAt s fun d => d.epochReq tick

/-! ## Starts and maps (R59, R62, R63, R66) -/

/-- The start of commit T (R59, R62, R63). In MISMATCH it is refused (R44): no channel starts, and START_STATE reads
ABORTED (log 86). -/
def Dev.syncStart (d : Dev) : Dev :=
  if d.sync.start != .pending || d.sync.startTick != d.tick then d
  else if d.sync.epoch == .mismatch then d.modSync fun y => { y with start := .aborted }
  else
    let d := d.inMask (BitVec.ofNat 64 (d.reg Obj.ARM_MASK)) fun d n =>
      if !(d.ch n).isArmed then d.raiseCh 0x0107 1 n 0
      else if d.waitsSync n then (if d.isFollower n then d else d.startSeq n)
      else d.raiseCh 0x0107 1 n 1
    ((d.modSync fun y => { y with start := .started }).fireCommit 0x402).settleFaults

/-- `SYNC_START` (R59). -/
def execSyncStart (s : State) : Host.Outcome State Fault Refusal := liveAt s fun d => d.syncStart

/-- `DC_MAP_LATCH` (R66). -/
def execDcMapLatch (s : State) : Host.Outcome State Fault Refusal :=
  liveAt s fun d =>
    if d.tick.toNat % 1000000 ≠ 0 then d
    else (d.setReg Obj.DC_AT_MAP d.sync.dcNow.toNat).setReg Obj.TICK_AT_MAP d.tick.toNat

end Sys2Proof.Machine
end

