-- ==== Sys2Proof/Machine/ReadObj.lean ====
section
/-! DEFINITION. What every object of the dictionary reads (R396): where an index and subindex stand, and the value that the
module as the latest commit left it gives. Objects that are settings, counters or results are read from the register maps;
the rest come from the state they show. -/

namespace Sys2Proof.Machine

open Sys2Proof

/-- Where an object stands: the device, a stall or a channel, with its key there. -/
inductive Place where
  | dev (k : Nat)
  | stall (s : StallId) (k : Nat)
  | chan (n : ChanId) (k : Nat)
deriving DecidableEq, Repr

/-- The place of an index and subindex (Tables 14-9 to 14-11). -/
def placeOf (idx sub : Nat) : Place :=
  if 0x6000 ≤ idx && idx < 0x7000 then .chan ⟨(idx - 0x6000) / 0x40 % 64, by omega⟩ ((idx - 0x6000) % 0x40 * 256 + sub)
  else if 0x7000 ≤ idx && idx < 0x7100 then .stall ⟨(idx - 0x7000) / 0x20 % 8, by omega⟩ ((idx - 0x7000) % 0x20 * 256 + sub)
  else if 0x2280 ≤ idx && idx < 0x22C0 then .chan ⟨(idx - 0x2280) % 64, by omega⟩ (0x4000 + sub)
  else if 0x22C0 ≤ idx && idx < 0x2300 then .chan ⟨(idx - 0x22C0) % 64, by omega⟩ (0x4100 + sub)
  else .dev (idx * 256 + sub)

/-- The rows of the tables that a place is looked up in, and the index there. -/
def Place.rows : Place → List ObjRow × Nat
  | .dev k => (devRows, k / 256)
  | .stall _ k => (stRows, k / 256)
  | .chan _ k => (chRows, k / 256)

/-- The key of a place. -/
def Place.key : Place → Nat
  | .dev k => k
  | .stall _ k => k
  | .chan _ k => k

/-- The row of an object; none if it does not exist (R371). -/
def rowOf (idx sub : Nat) : Option ObjRow :=
  let p := placeOf idx sub
  findRow p.rows.1 p.rows.2 (p.key % 256)

/-- The index exists (R371). -/
def indexExists (idx : Nat) : Bool :=
  let p := placeOf idx 0
  hasIndex p.rows.1 p.rows.2

/-- Highest subindex of an index (R370). -/
def topOf (idx : Nat) : Nat :=
  let p := placeOf idx 0
  topSub p.rows.1 p.rows.2

/-! ## Codes of the enumerations -/

def SeqState.code : SeqState → Nat
  | .noStep => 0 | .playing => 1 | .waiting => 2 | .ended => 3 | .stopped => 4
def SpoolState.code : SpoolState → Nat
  | .none => 0 | .idle => 1 | .playing => 2 | .dry => 3 | .ended => 4 | .stopped => 5
def CompState.code : CompState → Nat
  | .normal => 0 | .tailed => 1 | .tailLock => 2
def HeadState.code : HeadState → Nat
  | .empty => 0 | .filling => 1 | .ready => 2
def JumpSrc.code : JumpSrc → Nat
  | .jumpIf => 0 | .jmp => 1 | .host => 2 | .safeJump => 3
def PowerState.code : PowerState → Nat
  | .off => 0 | .boot => 1 | .quiet => 2 | .parked => 3 | .armed => 4 | .safe => 5
def RefclkState.code : RefclkState → Nat
  | .absent => 0 | .present => 1 | .locked => 2 | .holdover => 3
def EpochState.code : EpochState → Nat
  | .localTime => 0 | .domain => 1 | .mismatch => 2
def LoopCal.code : LoopCal → Nat
  | .notDone => 0 | .measuring => 1 | .done => 2 | .failed => 3 | .doneLeaf => 4
def LockState.code : LockState → Nat
  | .free => 0 | .acquiring => 1 | .locked => 2 | .hold => 3
def StartState.code : StartState → Nat
  | .none => 0 | .pending => 1 | .started => 2 | .late => 3 | .aborted => 4
def EsmState.code : EsmState → Nat
  | .init => 1 | .preop => 2 | .safeop => 4 | .op => 8
def Lifecycle.code : Lifecycle → Nat
  | .blank => 0 | .vendor => 1 | .owned => 2 | .retired => 3
def SessState.code : SessState → Nat
  | .closed => 0 | .offered => 1 | .opened => 2

/-- SYSCAL_STATE (Table 13-9). -/
def CalDev.stateCode (c : CalDev) : Nat :=
  match c.sys with
  | .idle => 0
  | .waiting => 1
  | .measuring => if c.full then 4 else 2
  | .zeroDone => 3
  | .storing => 5
  | .done => 6
  | .aborted => 7

/-- Qq_STATE (Table 15-5). -/
def Queue.state (q : Queue) : Nat := (if !q.enabled then 0 else if q.halted then 2 else 1) + 256 * (if q.halted then q.cause else 0)

/-- PCIE_STATE (Table 15-14). -/
def Dev.pcieState (d : Dev) : Nat :=
  if d.pcie.perst then 0 else if d.reg Obj.PCIE_EN = 0 then 4 else if d.pcie.d3 then 3 else if d.pcie.up then 2 else 1

/-! ## Channel objects -/

/-- GUST_INFO of a profile (Table 4-6). -/
def GustProfile.info (g : GustProfile) : Nat :=
  if g.loaded then 2 ^ 31 + g.irange % 8 * 2 ^ 24 + g.shift % 16 * 2 ^ 16 + g.len % 512 else 0

/-- JUMP_PENDING (Table 8-12). -/
def Barker.pendWord (b : Barker) : Nat :=
  match b.pend with
  | none => 0
  | some j => 2 ^ 31 + j.src.code * 2 ^ 29 + b2n b.pendReady * 2 ^ 28 + j.seg % 4096

/-- Level `l` of the loop stack, 0 innermost; none if it is not open. -/
def Barker.level (b : Barker) (l : Nat) : Option LoopLevel := b.loops[l]?

/-- An index into a block of `n` subindices that begins at `lo`. -/
def inBlock (k lo n : Nat) : Bool := decide (lo ≤ k) && decide (k < lo + n)

/-- SEQ_STATE as it shows: a follower has no step (R255). -/
def Dev.seqShown (d : Dev) (n : ChanId) : SeqState := if d.isFollower n then .noStep else (d.ch n).bk.seq

/-- What a channel object reads at the commit `now` (Tables 3-10, 4-5, 4-6, 5-12, 6-8, 7-3, 8-12, 9-6, 9-7). -/
def Dev.readCh (d : Dev) (n : ChanId) (k : Nat) : Nat :=
  let c := d.ch n
  let f := c.force
  let b := c.bk
  if k = Obj.CH_STATE then f.st.code
  else if k = Obj.FORCE_MODE then b2n f.fi
  else if k = Obj.SETPOINT_NOW then f.setpt.toNat
  else if k = Obj.RPAIR_NOW then f.rpair
  else if k = Obj.GANG_SIZE then (if d.role n = 1 then (d.members n).length else 1)
  else if k = Obj.CORR_NOW then unsignedOf 32 c.ol.corr
  else if k = Obj.COMP_NOW then c.comp.now
  else if k = Obj.COMP_RS then compRs n c.comp.now
  else if k = Obj.OW_RESULT then clearBits (c.reg k) 4 + 4 * b2n (!d.owEligible n)
  else if k = Obj.COMP_STATE then c.comp.st.code
  else if k = Obj.RC_STATE then b2n c.rc.active + 2 * b2n c.rc.clamped
  else if k = Obj.GUST_ARMED then c.gust.armed.getD 0xFF
  else if inBlock k (Obj.GUST_INFO 0) 16 then (c.gust.profiles.toList.getD (k - Obj.GUST_INFO 0) GustProfile.reset).info
  else if k = Obj.MPLAN_NOW then f.plan
  else if k = Obj.TALLY_OPEN then (List.range 16).foldl (fun m i => m + b2n (c.tally.toList.getD i Tally.reset).isOpen * 2 ^ i) 0
  else if k = Obj.TALLY_THR_FLAGS then (List.range 16).foldl (fun m i => m + b2n (c.tally.toList.getD i Tally.reset).thrFlag * 2 ^ i) 0
  else if inBlock k (Obj.WM_STATE 0) 4 then (c.wm.toList.getD (k - Obj.WM_STATE 0) Monitor.reset).st.code
  else if k = Obj.WM_STATUS then c.wmStatus.toNat
  else if inBlock k (Obj.WM_CODE 0) 4 then (c.wm.toList.getD (k - Obj.WM_CODE 0) Monitor.reset).code
  else if k = Obj.SEQ_STATE then (d.seqShown n).code
  else if k = Obj.CUR_ADDR then b.addr
  else if k = Obj.CUR_SEG then b.seg
  else if k = Obj.DWELL_LEFT then b.left
  else if k = Obj.SEQ_STATUS then b.status.toNat
  else if k = Obj.JUMP_PENDING then b.pendWord
  else if k = Obj.HEAD_STATE then (List.range 4).foldl (fun m i => m + (b.heads.toList.getD i Head.reset).st.code * 4 ^ i) 0
  else if k = Obj.WAIT_LATCH then b.latch.toNat
  else if k = Obj.LOOP_DEPTH then b.loops.length
  else if inBlock k (Obj.LOOP_CNT 0) 4 then ((b.level (k - Obj.LOOP_CNT 0)).map (·.count)).getD 0
  else if inBlock k (Obj.LOOP_START 0) 4 then ((b.level (k - Obj.LOOP_START 0)).map (·.start)).getD 0
  else if k = Obj.SPOOL_STATE then c.spool.st.code
  else if k = Obj.SPOOL_WR then c.spool.wr
  else if k = Obj.SPOOL_RD then c.spool.rd
  else if k = Obj.SPOOL_REL then c.rel
  else if k = Obj.SPOOL_EOS then c.spool.eos.getD (2 ^ 64 - 1)
  else if k = Obj.SPOOL_FILL then c.fill
  else if k = Obj.SPOOL_FREE then (if c.spool.st = .none then 0 else d.spoolFree n)
  else if k = Obj.SAFE_HEAD_STATE then b.safeHead.st.code
  else if k = Obj.SINE_NOW then (if c.sine.on then c.sine.setting else 0xFF)
  else if k = Obj.SINE_A_NOW then c.sine.amp
  else c.reg k

/-! ## Stall objects -/

/-- What a stall object reads (Tables 3-13, 5-14, 13-10, 14-15). -/
def Dev.readSt (d : Dev) (s : StallId) (k : Nat) : Nat :=
  let x := d.st s
  if k = Obj.TJ then unsignedOf 16 x.tj
  else if k = Obj.DERATE_LEVEL then x.derate
  else if inBlock k (Obj.RAIL_STATE 0) 4 then d.railState s ⟨(k - Obj.RAIL_STATE 0) % 4, by omega⟩
  else if k = Obj.REF_STATE then x.refState d.tick
  else if k = Obj.BG_STATE then (if x.bgOut then 2 else x.bgState)
  else x.reg k

/-! ## Device objects -/

/-- CH_SUMMARY (Table 14-13). -/
def Dev.chSummary (d : Dev) (n : ChanId) : Nat :=
  let c := d.ch n
  let st := c.reg Obj.STATUS
  c.force.st.code + 8 * b2n c.force.fi + 16 * (d.seqShown n).code + 128 * b2n (natBit st 0 || natBit st 1) + 256 * b2n (natBit st 2) +
  512 * b2n (c.spool.st == .dry) + 1024 * b2n (natBit c.bk.status.toNat 0) +
  2048 * b2n (c.wm.toList.any fun m => m.st == .tripped) + 4096 * b2n (c.wm.toList.any fun m => m.st == .unknown) +
  8192 * b2n (natBit st 5) + 16384 * b2n (c.comp.st != .normal) + 32768 * b2n (c.reg Obj.OVR_FLAGS != 0)

/-- A channel mask as a number. -/
def Dev.maskNat (d : Dev) (f : Channel → Bool) : Nat := (maskOf fun n => f (d.ch n)).toNat

/-- The channel that a selector object names. -/
def Dev.selCh (d : Dev) (k : Nat) : ChanId := ⟨d.reg k % 64, by omega⟩

/-- REPLAY_ENTRY (Table 12-5). -/
def ReplayEntry.word (e : ReplayEntry) : Nat := 2 ^ 63 + e.cause * 2 ^ 61 + e.seg % 4096 * 2 ^ 48 + e.line

/-- STREAM_INFO and the stream that STREAM_SEL selects (Table 16-13). -/
def Dev.selStream (d : Dev) : Option Stream := (d.sec.streams.toList[d.reg Obj.STREAM_SEL]?).join

/-- BG_STATUS (Table 13-9). -/
def ChCal.statusWord (c : ChCal) : Nat :=
  b2n c.cycled + 2 * b2n c.pausedClamp + 4 * b2n c.pausedPath + 8 * b2n c.late + 16 * b2n c.linValid + 32 * b2n c.factory

/-- FAULT_STATE (R508). -/
def Dev.faultState (d : Dev) : Nat :=
  4 * b2n (d.latchOf 2) + 8 * b2n (d.latchOf 3) + 16 * b2n (d.latchOf 4) + 32 * b2n (d.latchOf 5) + 256 * b2n d.power.fltN +
  512 * b2n (!d.flt.active.isEmpty)

/-- A mask over the stalls. -/
def Dev.stallBits (d : Dev) (f : Stall → Bool) : Nat :=
  (List.finRange 8).foldl (fun m s => m + b2n (f (d.st s)) * 2 ^ s.val) 0

/-- EPOCH, SYNC and start objects (Table 2-7). -/
def Dev.readSync (d : Dev) (k : Nat) : Nat :=
  let y := d.sync
  if k = Obj.TICK_NOW then d.tick.toNat
  else if k = Obj.REFCLK_STATE then y.refclk.code
  else if k = Obj.EPOCH_GEN then y.gen
  else if k = Obj.EPOCH_STATE then y.epoch.code
  else if k = Obj.CAL_STATE then y.loopCal.code
  else if k = Obj.FAIL_CODE then y.failCode
  else if k = Obj.LOCK_STATE then y.lock.code
  else if k = Obj.START_TICK then y.startTick.toNat
  else if k = Obj.START_STATE then y.start.code
  else d.reg k

/-- Directory, spool, memory, engine and fabric objects (Tables 8-13, 9-8, 10-17, 11-7, 12-5). -/
def Dev.readMem (d : Dev) (k : Nat) : Nat :=
  let sel := d.psetSel
  let en := d.selCh Obj.ENG_SEL
  if k = Obj.LOCK_LO then d.fab.locks.toNat % 2 ^ 64
  else if k = Obj.LOCK_HI then d.fab.locks.toNat / 2 ^ 64
  else if k = Obj.MKO_MODE_NOW then (List.range 8).foldl (fun m i => m + d.fab.mkoMode.toList.getD i 0 % 4 * 4 ^ i) 0
  else if k = Obj.DIR_ENTRY then d.desc (d.reg Obj.DIR_SEL)
  else if k = Obj.DIR_VALID then (d.mem.dir.filter fun e => dsValid e.2.toNat).length
  else if k = Obj.SPOOL_LOW_MASK then (maskOf d.spoolLow).toNat
  else if k = Obj.SPOOL_HIGH_MASK then (maskOf d.spoolHigh).toNat
  else if k = Obj.SPOOL_DRY_MASK then d.maskNat fun c => c.spool.st == .dry
  else if k = Obj.REPLAY_COUNT then d.mem.replay.length
  else if k = Obj.REPLAY_ENTRY then ((d.mem.replay[d.reg Obj.REPLAY_SEL]?).map (·.word)).getD 0
  else if k = Obj.REPLAY_TICK then ((d.mem.replay[d.reg Obj.REPLAY_SEL]?).map (·.tick.toNat)).getD 0
  else if k = Obj.PSET_STATE then
    (match sget none d.mem.sets (64 * sel.1 + sel.2) with | none => 0 | some p => 1 + 2 * b2n p.urgent)
  else if k = Obj.PSET_NOW then (d.ch en).eng.setNow
  else if k = Obj.ENG_FLAGS then (d.ch en).eng.flags.toNat
  else if inBlock k Obj.ENG_SAT 4 then d.creg en k
  else if k = Obj.SCR_DATA then (d.scr d.scrSel.1 d.scrSel.2).toNat
  else d.reg k

/-- Result, calibration and fault objects (Tables 6-9, 13-9, 18-8). -/
def Dev.readRes (d : Dev) (k : Nat) : Nat :=
  let c := (d.ch (d.selCh Obj.CAL_SEL)).cal
  if k = Obj.FIFO_FILL then d.fifo.entries.length
  else if k = Obj.HEAD_INDEX then d.fifo.head
  else if k = Obj.RES_SESSION_ID then d.fifo.session
  else if k = Obj.NEXT_RECORD_SEQ then d.fifo.recSeq
  else if k = Obj.NEXT_BLOCK_SEQ then d.fifo.blkSeq
  else if k = Obj.BG_STATUS then c.statusWord
  else if k = Obj.BG_CYCLE_TICK then c.cycleTick.toNat
  else if k = Obj.BG_CYCLES then c.cycles
  else if k = Obj.BG_STEPS then c.steps
  else if k = Obj.LIN_TICK then c.linTick.toNat
  else if k = Obj.LIN_INL_MAX then unsignedOf 16 c.linMax
  else if k = Obj.SYSCAL_STATE then d.cal.stateCode
  else if k = Obj.FAULT_STATE then d.faultState
  else if k = Obj.SAFE_MASK then d.safeMask.toNat
  else if k = Obj.LATCH_CH then d.maskNat (·.force.latch)
  else if k = Obj.LATCH_STALL then d.stallBits (fun x => !x.f3.isEmpty) + 256 * d.stallBits (fun x => !x.f5.isEmpty)
  else if k = Obj.LATCH_DEV then d.flt.f4.headD 0
  else if k = Obj.FQ_FILL then d.flt.queue.length
  else if k = Obj.FLOG_NEXT_SEQ then d.flt.seq
  else if k = Obj.VLOG_NEXT_SEQ then d.flt.violSeq
  else if k = Obj.HIST_FILL then d.flt.hist.length
  else d.reg k

/-- An entry of a PDO mapping object; one beyond the object's count reads 0 (R397). -/
def isMapEntry (k : Nat) : Bool :=
  ((decide (0x1600 ≤ k / 256) && decide (k / 256 < 0x1608)) || (decide (0x1A00 ≤ k / 256) && decide (k / 256 < 0x1A08))) && k % 256 != 0

/-- Network, power and security objects (Tables 14-12, 14-13, 15-14, 16-13, 17-5). -/
def Dev.readNet (d : Dev) (k : Nat) : Nat :=
  if isMapEntry k && decide (d.reg (k / 256 * 256) < k % 256) then 0
  else if k = Obj.POWER_STATE then d.power.state.code
  else if k = Obj.STRAP_ID then d.power.strap.toNat
  else if k = Obj.ARMED_MASK then d.armedMask.toNat
  else if k = Obj.PD_TICK then d.tick.toNat
  else if inBlock k (Obj.CH_SUMMARY 0) 64 then d.chSummary ⟨(k - Obj.CH_SUMMARY 0) % 64, by omega⟩
  else if k = Obj.IN_SYNC_MODE then d.reg Obj.OUT_SYNC_MODE
  else if k = Obj.OUT_CYCLE_TIME || k = Obj.IN_CYCLE_TIME then
    (if d.reg Obj.OUT_SYNC_MODE = 2 then 1000 * d.reg Obj.SYNC0_CYCLE else d.reg Obj.OUT_CYCLE_TIME)
  else if k = Obj.ESM_STATE then d.ec.esm.code + 16 * b2n d.ec.errInd
  else if k = Obj.PCIE_STATE then d.pcieState
  else if k = Obj.LOADQ_STATE then d.pcie.load.state
  else if k = Obj.OBJQ_STATE then d.pcie.obj.state
  else if k = Obj.EXPQ_STATE then d.pcie.exp.state
  else if k = Obj.SELFTEST_RUN then d.stallBits (·.underTest)
  else d.reg k

/-- SAMPLE/PRELOAD and EXTEST are offered (R460). -/
def Dev.bscanOffered (d : Dev) : Bool :=
  (d.power.state == .quiet || (d.power.state == .parked && d.allParked)) &&
  (d.sec.life != .owned || natBit (d.reg Obj.SEC_POLICY) 3)

/-- Security objects (Table 16-13). -/
def Dev.readSec (d : Dev) (k : Nat) : Nat :=
  let x := d.sec
  if k = Obj.LIFECYCLE then x.life.code
  else if k = Obj.OWNER_POLICY then x.policy
  else if inBlock k (Obj.ARB 0) 4 then x.arb.toList.getD (k - Obj.ARB 0) 0
  else if k = Obj.D3_COUNT then x.d3Count
  else if k = Obj.OWN_SLOTS then
    (List.range 2).foldl (fun m i => m + x.slots.toList.getD i 0 % 4 * 4 ^ i) 0
  else if k = Obj.TRUST_STATE then b2n x.drbgFail
  else if k = Obj.SESS_STATE then x.sess.code
  else if k = Obj.SESS_LINK then x.sessLink
  else if k = Obj.SESS_RIGHTS then x.sessRights
  else if k = Obj.STREAM_INFO then
    (match d.selStream with | none => 0 | some s => s.id % 2 ^ 32 * 2 ^ 32 + s.mask % 256 * 2 ^ 24 + 1)
  else if k = Obj.STREAM_CTR then (d.selStream.map (·.ctr)).getD 0
  else if k = Obj.DEBUG_LEVEL then x.debug
  else if k = Obj.DEBUG_PENDING then x.dbgPend
  else if k = Obj.DBG_HALTED then d.maskNat (·.eng.halted)
  else if k = Obj.DBG_HALT_PENDING then d.maskNat (·.eng.haltPend)
  else if k = Obj.BSCAN_STATE then (if x.bscan = 2 then 2 else b2n d.bscanOffered)
  else if k = Obj.SEALED_SEQ then x.sealSeq
  else d.reg k

/-- What a device object of a numeric type reads. -/
def Dev.readDev (d : Dev) (k : Nat) : Nat :=
  let i := k / 256
  if i = 0x2240 || (0x2200 ≤ i && i < 0x2240) || (0x2300 ≤ i && i < 0x2320) || (0x2600 ≤ i && i ≤ 0x2620) then d.readMem k
  else if k = Obj.SYNC_LEVEL then d.syncLevel
  else if 0x2100 ≤ i && i ≤ 0x2106 then d.readSync k
  else if (0x8000 ≤ i && i ≤ 0x8002) || (0x2400 ≤ i && i ≤ 0x2505) then d.readRes k
  else if 0x5000 ≤ i && i ≤ 0x5F00 then d.readSec k
  else d.readNet k

/-- What an object reads as a number (R40). -/
def Dev.readNum (d : Dev) (idx sub : Nat) : Nat :=
  match placeOf idx sub with
  | .dev k => d.readDev k
  | .stall s k => d.readSt s k
  | .chan n k => d.readCh n k

/-! ## Octet strings -/

/-- Code of a scope (Table 18-5). -/
def Scope.code : Scope → Nat | .channel => 0 | .stall => 1 | .device => 2

/-- A fault log entry (Table 18-5). -/
def LogEntry.bytes (e : LogEntry) : List Byte :=
  leBytes 6 e.tick.toNat ++ leBytes 2 e.code ++ leBytes 1 (e.cls + 8 * b2n e.nested + 16 * b2n e.escal + 32 * b2n e.switched) ++
  leBytes 1 e.scope.code ++ leBytes 1 e.unit ++ leBytes 1 e.action ++ leBytes 4 e.detail ++ leBytes 6 e.detect.toNat ++
  leBytes 2 (min e.drops 0xFFFF) ++ leBytes 4 e.seq ++ leBytes 2 e.cause ++ leBytes 2 0

/-- A violation log entry (Table 18-6). -/
def ViolEntry.bytes (e : ViolEntry) : List Byte :=
  leBytes 6 e.tick.toNat ++ leBytes 1 e.source ++ leBytes 1 0 ++ leBytes 2 e.code ++ leBytes 4 e.detail ++ leBytes 4 e.answer ++
  leBytes 4 e.seq ++ leBytes 10 0

/-- An entry of the system calibration record (Table 13-7). -/
def SysEntry.bytes (e : SysEntry) (offered : Bool) : List Byte :=
  leBytes 4 (unsignedOf 32 e.z) ++ leBytes 4 (unsignedOf 32 e.s) ++ leBytes 6 e.dc ++ leBytes 1 e.count ++
  leBytes 1 (e.flags ||| (if offered then 0 else 2))

/-- Entry slot 0–9 of a channel type: V ranges 0–2, I ranges 0–6 (Table 13-7). -/
def slotOffered (hs : Bool) (i : Nat) : Bool := if i < 3 then offersV hs i else offersI hs (i - 3)

/-- The program set that PSET_SEL selects. -/
def Dev.selSet (d : Dev) : Option ProgSet := sget none d.mem.sets (64 * d.psetSel.1 + d.psetSel.2)

/-- SYS_ENTRY of the channel and slot that ENTRY_SEL names. -/
def Dev.sysEntryBytes (d : Dev) : List Byte :=
  let w := d.reg Obj.ENTRY_SEL
  let n : ChanId := ⟨natBits w 13 8 % 64, by omega⟩
  let i := natBits w 3 0
  (sget ⟨0, 0, 0, 0, 0⟩ d.cal.entries (10 * n.val + i)).bytes (slotOffered (isHS n) i)

/-- What an object of type OCTET_STRING or VISIBLE_STRING reads. What trim and image fill is the fitted value (log 3). -/
def Dev.readOctets (d : Dev) (k : Nat) (bits : Nat) : List Byte :=
  if k = Obj.DEVICE_NAME then label "TM6420"
  else if k = Obj.HW_VERSION then leBytes 1 (d.reg k)
  else if k = Obj.SW_VERSION then leBytes 8 (d.reg k)
  else if k = Obj.FIFO_DATA then (if d.reg Obj.EXPORT_LINK = 1 then [] else d.fifo.data)
  else if k = Obj.PSET_PROGS then ((d.selSet.map (·.progs)).getD (List.replicate 8 0)).flatMap (leBytes 2)
  else if k = Obj.PSET_CYCLES then ((d.selSet.map (·.cycles)).getD (List.replicate 8 0)).flatMap (leBytes 2)
  else if k = Obj.SYS_ENTRY then d.sysEntryBytes
  else if k = Obj.FLOG_DATA then
    ((d.flt.log.filter fun e => decide (d.reg Obj.FLOG_SEL ≤ e.seq)).take 32).flatMap LogEntry.bytes
  else if k = Obj.VLOG_DATA then
    ((d.flt.viol.filter fun e => decide (d.reg Obj.VLOG_SEL ≤ e.seq)).take 32).flatMap ViolEntry.bytes
  else if k = Obj.HIST_DATA then ((d.flt.hist.drop (d.reg Obj.HIST_SEL)).take 32).flatMap LogEntry.bytes
  else if k = Obj.ATTEST_RESP then d.sec.attest
  else if k = Obj.SESS_DEV_OFFER then d.sec.devOffer
  else if k = Obj.RES_STATEMENT then d.sec.statement
  else if k = Obj.RES_STATEMENT_PREV then d.sec.prevStatement
  else if k = Obj.DEBUG_NONCE then d.sec.dbgNonce
  else if k = Obj.SEALED_OUT then d.sec.sealedOut
  else if k = Obj.OWNER_HASH then bytesN 48 d.sec.ownerHash
  else leBytes (bits / 8) (d.reg k)

/-! ## Reading an object -/

/-- Bytes of a numeric type on a transfer: BOOLEAN takes 1 byte, TICK48 6 (R374, R412). -/
def ObjRow.bytes (r : ObjRow) : Nat := if r.ty = .bool then 1 else r.bits / 8

/-- An object is an octet string or a visible string. -/
def ObjRow.isString (r : ObjRow) : Bool := r.ty == .text || r.ty == .octets

/-- IMAGE_STATE is MISSING: only these indices exist (R477). -/
def servedWithoutImage (idx : Nat) : Bool :=
  (decide (0x1000 ≤ idx) && decide (idx ≤ 0x1C33)) || idx == 0x2000 || (decide (0x2700 ≤ idx) && decide (idx ≤ 0x2703)) ||
  (decide (0x2800 ≤ idx) && decide (idx ≤ 0x2811)) || (decide (0x5000 ≤ idx) && decide (idx ≤ 0x5500))

/-- Abort code of an access to an object that does not exist; 0 if it exists (R371, R377 step 1). -/
def Dev.missing (d : Dev) (idx sub : Nat) : Nat :=
  if !indexExists idx || (d.imageMissing && !servedWithoutImage idx) then 0x06020000
  else if (rowOf idx sub).isSome then 0
  else if sub = 0 then 0
  else 0x06090011

/-- The value an object reads, or the abort code of R377: existence, the WO right, then the object's own read rule
(R306). Subindex 0 of an index with several entries reads the highest subindex (R370). -/
def Dev.readObj (d : Dev) (idx sub : Nat) : Except Nat (List Byte) :=
  if d.missing idx sub ≠ 0 then .error (d.missing idx sub)
  else
    match rowOf idx sub with
    | none => .ok (leBytes 1 (topOf idx))
    | some r =>
      if r.acc = .wo then .error 0x06010001
      else if idx * 256 + sub = Obj.SCR_DATA && scrArea d.scrSel.2 != 1 then .error 0x06010000
      else if r.isString then .ok (d.readOctets (idx * 256 + sub) r.bits)
      else .ok (leBytes r.bytes (d.readNum idx sub))

end Sys2Proof.Machine
end

