-- ==== Sys2Proof/Machine/Security.lean ====
section
/-! DEFINITION. Trust, lifecycle and streams (R428–R446), sealed sessions (R447, R448), attestation (R453) and debug
(R454–R460). The primitives of R429 are constants without a body (log 6). -/

namespace Sys2Proof.Machine

open Sys2Proof

def Dev.modSec (d : Dev) (f : Sec → Sec) : Dev := { d with sec := f d.sec }

/-- Abort code of a sealed or security container that fails (Table 15-13, R440). -/
def abSealed : Nat := 0x08000021

/-! ## Verdicts on containers (R440, Table 16-8) -/

/-- CONT_RESULT, CONT_DETAIL, CONT_TICK and CONT_REFUSED take a verdict. -/
def Dev.judged (d : Dev) (code type low : Nat) : Dev :=
  let d := ((d.setReg Obj.CONT_RESULT code).setReg Obj.CONT_DETAIL (code * 2 ^ 24 + type % 256 * 2 ^ 16 + low)).setReg
    Obj.CONT_TICK d.tick.toNat
  if code = 0 then d else d.inc 32 Obj.CONT_REFUSED

/-- A security container that its own rule judges after verification: signature block and link stay those of the
verification. A refusal is answered with 0x0800_0021. -/
def Dev.secVerdict (d : Dev) (code type : Nat) : Dev :=
  let d := d.judged code type (d.reg Obj.CONT_DETAIL % 2 ^ 16)
  if code = 0 then d.served else d.refuse Obj.SEC_CONTAINER abSealed

/-- The counter of a type (Table 16-6); stream-keyed containers have none. -/
def arbOf (t : Nat) (stream : Bool) : Option (Fin 4) :=
  match t, stream with
  | 5, _ => some 0
  | 3, _ => some 1
  | 1, false => some 2
  | 2, false => some 2
  | 4, false => some 2
  | 0x10, _ => some 2
  | _, _ => none

/-- The lifecycle bars a type (R434, Tables 16-6 and 16-11): a vendor token still serves D3 in RETIRED (R454). -/
def lifecycleBars (l : Lifecycle) (t : Nat) : Bool :=
  match l with
  | .blank => true
  | .vendor => false
  | .owned => t == 0x11
  | .retired => t != 0x12

/-- The checks of R445 on a stream-keyed container fail, its tag apart: the stream is open, its counter rises, its type and
its lines are in scope. -/
def Dev.streamBad (d : Dev) (box : List Byte) (lines : List Nat) : Bool :=
  let h := boxHeadOf box
  match d.streamOf box with
  | none => true
  | some s =>
    boxIvStream box != h.stream || !natBit s.mask h.type || decide (boxCtr box ≤ s.ctr) ||
    lines.any fun l => decide (l < s.lineLo) || decide (s.lineHi < l)

/-- SEC_POLICY as it applies (R446). -/
def Dev.policy (d : Dev) : Nat := if d.sec.life = .owned then d.reg Obj.SEC_POLICY else 0xC

/-- SEC_POLICY refuses a container (R446). -/
def Dev.policyBars (d : Dev) (h : BoxHead) : Bool :=
  (natBit d.policy 0 && (h.type == 1 || h.type == 2 || h.type == 4) && !h.enc) ||
  (natBit d.policy 1 && (h.keyed || h.type == 0x10))

/-- ARB_VALUE is below the counter of the type (R442). -/
def Dev.rollsBack (d : Dev) (h : BoxHead) : Bool :=
  match arbOf h.type h.keyed with
  | none => false
  | some k => decide (h.arb < d.sec.arb[k])

/-- Signers that a type takes, one list for each choice (Table 16-6): 0 vendor, 1 owner, 2 delegate. `level` is that of a debug
token (R454). -/
def signersFor (l : Lifecycle) (t level : Nat) : List (List Nat) :=
  match l with
  | .blank => []
  | .vendor => if t = 0x11 then [[0, 1], [1, 0]] else [[0]]
  | .retired => [[0]]
  | .owned =>
    match t with
    | 5 => [[0, 1], [1, 0]]
    | 0x12 => if level = 3 then [[0], [1]] else [[1], [2]]
    | 0x13 => [[1]]
    | _ => [[1], [2]]

/-- Rights that a delegate needs for a type; `caps` are the capabilities of a package (Tables 16-6 and 16-7). -/
def rightsFor (t caps : Nat) : List Nat :=
  match t with
  | 3 => 1 :: (if natBit caps 0 || natBit caps 2 then [2] else [])
  | 0x10 => [3]
  | 0x12 => [5]
  | _ => [0]

/-- A delegate's RIGHTS lack a right, or claim OWNER or a reserved bit. -/
def rightsBad (x : List Byte) (need : List Nat) : Bool :=
  sigSigner x == 2 && (natBits (sigRights x) 15 6 != 0 || need.any fun r => !natBit (sigRights x) r)

/-- A delegation of a revoked generation (R440, check 5). -/
def Dev.revoked (d : Dev) (x : List Byte) : Bool := sigSigner x == 2 && decide (sigGen x < d.sec.arb[3])

/-- A signature block verifies over a message that its own first 208 bytes follow (R439); `owner` is the owner key. -/
def blockVerifies (owner msg x : List Byte) : Bool :=
  let key := match sigSigner x with | 0 => Config.vendorKey | 1 => owner | _ => sigPub x
  (sigSigner x != 2 || signedBy owner (slice x 0 112) (slice x 112 96)) && signedBy key (msg ++ slice x 0 208) (slice x 208 96)

/-- The checks of R440 in order on a container (`sec`: of SEC_CONTAINER; `boot`: those of R476); `lines` gives the ledger lines
that the body writes. The first that fails gives the code of Table 16-8 and the signature block. -/
def Dev.boxVerdict (d : Dev) (bulk sec boot fuseOk : Bool) (target : Nat) (lines : List Byte → List Nat) (box : List Byte) : Verdict :=
  let h := boxHeadOf box
  let t := h.type
  let xs := boxBlocks box
  let plain := boxPlain box ((d.streamOf box).map (·.key))
  let body := plain.getD []
  let no := fun (code block : Nat) => { code := code, block := block, bulk := bulk, sec := sec, type := t, arb := none, target := target,
                                        signers := [], body := [], box := [] : Verdict }
  let owner := if t = 0x11 then slice body 0 97 else d.sec.ownerPub
  let msg := boxHead box ++ boxKey box ++ boxBody box
  let own := d.reg Obj.DEVICE_FP
  if !boxOk box || h.size != box.length || !carriedOk sec t then no 1 0
  else if (h.fp != 0 || t == 0x11 || t == 0x12) && h.fp != own then no 2 0
  else if lifecycleBars d.sec.life t then no 3 0
  else if (if h.keyed then !(t == 1 || t == 2 || t == 4) else !(signersFor d.sec.life t (fieldAt body 0 1)).contains (xs.map sigSigner)) then no 4 0
  else
    match xs.findIdx? (rightsBad · (rightsFor t (fieldAt body 3 1))) with
    | some i => no 5 i
    | none =>
      match xs.findIdx? d.revoked with
      | some i => no 6 i
      | none =>
        match xs.findIdx? fun x => !blockVerifies owner msg x with
        | some i => no 7 i
        | none =>
          if d.rollsBack h then no 8 0
          else if h.keyed && d.streamBad box (lines body) then no 0xA 0
          else if plain.isNone then no 9 0
          else if d.policyBars h then no 0xB 0
          else if !boot && h.bump && !d.allParked then no 0xC 0
          else if !boot && h.bump && !fuseOk then no 0xD 0
          else { code := 0, block := 0, bulk := bulk, sec := sec, type := t, arb := if h.bump then some h.arb else none, target := target,
                 signers := xs.map sigSigner, body := body, box := box }

/-- The counter of the type is programmed up to ARB_VALUE (R442). -/
def Dev.bumpArb (d : Dev) (v : Verdict) : Dev :=
  match arbOf v.type v.signers.isEmpty, v.arb with
  | some k, some a => d.modSec fun x => { x with arb := x.arb.set k (max x.arb[k] a) }
  | _, _ => d

/-- The stream's counter takes that of an accepted container (R445). -/
def Dev.countStream (d : Dev) (box : List Byte) : Dev :=
  let h := boxHeadOf box
  if !h.keyed then d
  else d.modSec fun x =>
    { x with streams := x.streams.map (fun s => s.map (fun y => if y.id = h.stream then { y with ctr := boxCtr box } else y)) }

/-- A verdict acts at its commit (R441): the objects of Table 16-13, a refusal on its carrier, or the body goes to the chapter of
its type. A refill's chapter has it already. -/
def Dev.judge (d : Dev) (v : Verdict) : Dev :=
  let d := d.judged v.code v.type (256 * v.block + b2n v.bulk)
  if v.code ≠ 0 then
    if v.sec then d.refuse Obj.SEC_CONTAINER abSealed
    else
      let d := if v.type = 3 then ((d.setReg Obj.LOAD_RESULT 2).setReg Obj.LOAD_DETAIL 0x02000000).inc 32 Obj.LOADS_REFUSED else d
      let d := if v.type = 5 then d.setReg Obj.UPDATE_STATE 0 else d
      d.loadRefuse v.bulk v.target
  else
    let d := d.bumpArb v
    let d := if v.type = 5 then d.setReg Obj.UPDATE_STATE 2 else d
    if v.type = 1 then d else d.modSec fun x => { x with passed := x.passed ++ [v] }

/-- A container is judged in an engine cycle of this tick. In a refused one of a load path, `target` carries the load's status:
SIZE where its length is wrong (R438), else SIGNATURE. -/
def Dev.verify (d : Dev) (v : Verdict) (box : List Byte) (cyc : Nat) : Dev :=
  let size := decide (box.length < 32) || (boxHeadOf box).size != box.length
  let v := if v.code = 0 then v else { v with target := if size then 7 else 2 }
  let d := if v.code = 0 then d.countStream box else d
  let w : HostWrite := { act := d.actAt cyc, arrived := d.tick, cyc := cyc, rank := if v.bulk then 2 else 0,
                         source := if v.bulk then 7 else 0, sealedBy := false, cmd := false, req := .judge v }
  { d with dict := { d.dict with writes := insertWrite w d.dict.writes } }

/-- Verification of a refill in flight completes: its claim gets its commit, or C returns (R261, R418). -/
def Dev.verifyRefill (d : Dev) (c : Claim) (fuseOk : Bool) (cyc : Nat) : Dev :=
  let v := d.boxVerdict c.bulk false false fuseOk 0 (fun _ => c.lines) c.box
  let rest := d.load.claims.erase c
  let d := if v.code = 0 then
      let act := d.loadAct c.bulk cyc
      { d with load := { d.load with claims := d.load.claims.map fun x => if x = c then { x with act := some act, box := [] } else x } }
    else
      let d := { d with load := { d.load with claims := rest } }
      match c.seg.bind d.spoolOwner with
      | some n => d.cinc n 32 Obj.REFILL_REFUSED
      | none => d
  d.verify v c.box cyc

/-- Verification of a load completes: of the oldest refill in flight, else of the load that waits. -/
def Dev.verifyLoad (d : Dev) (bulk : Bool) (x : LoadDesc) (fuseOk : Bool) (cyc : Nat) : Dev :=
  match d.load.claims.find? fun c => c.bulk == bulk && c.act.isNone with
  | some c => d.verifyRefill c fuseOk cyc
  | none =>
    let t := (boxHeadOf x.box).type
    if !d.loadWaits bulk then d
    else if descCode x ≠ 0 then d.descRefuse bulk (descCode x)
    else if d.imageless x.type.toNat then d.loadRefuse bulk 6
    else
      let v := d.boxVerdict bulk false false fuseOk x.target.toNat (bodyLines t) x.box
      let v := if v.code = 0 && t != x.type.toNat then { v with code := 1 } else v
      if v.code = 0 && t == 1 then d else d.verify v x.box cyc

/-- `CONTAINER_VERIFIED` (R440): verification completes in cycle `cyc`; `fuseOk`: an ARB_BUMP's bits read back. -/
def execContainerVerified (src : Carrier) (fuseOk : Bool) (cyc : Cycle) (s : State) : Host.Outcome State Fault Refusal :=
  liveIn s fun d =>
    match src with
    | .ecat => d.verifyLoad false d.ecatDesc fuseOk cyc.val
    | .queue x => d.verifyLoad true x fuseOk cyc.val
    | .sec =>
      match d.sec.waiting with
      | [] => d
      | (bulk, box) :: rest =>
        (d.modSec fun x => { x with waiting := rest }).verify (d.boxVerdict bulk true false fuseOk 0 (fun _ => []) box) box cyc.val

/-- The oldest security container of a type that passed R440, and the module without it. -/
def Dev.takeSecurity (d : Dev) (type : Nat) : Option (Verdict × Dev) :=
  (d.takePassed type false).orElse fun _ => d.takePassed type true

/-! ## Sessions, streams and zeroisation -/

/-- The sealed session, or an offer, ends (R448). -/
def Dev.closeSession (d : Dev) (cause : Nat) : Dev :=
  if d.sec.sess = .closed then d
  else (d.modSec fun x => { x with sess := .closed, sessLink := 0xFF, sessRights := 0, sealKeys := [] }).setReg Obj.SESS_CLOSE_CAUSE cause

/-- Every stream closes (R445). -/
def Dev.closeStreams (d : Dev) : Dev := d.modSec fun x => { x with streams := Vector.replicate 16 none }

/-- Zeroisation (R459 stage 2) and erasure of the sealed record (R450). -/
def Dev.zeroise (d : Dev) : Dev :=
  let d := { d with mem := { d.mem with ledger := [], dir := [], scr := [], progs := [], sets := [], params := [], replay := [] } }
  let d := d.mapCh fun _ c => { c with tally := Vector.replicate 16 Tally.reset, recs := [] }
  let d := d.modFifo fun f => { f with entries := [], readCnt := 0, group := [], endWait := none, key := [] }
  { d with dict := { d.dict with records := sput [] d.dict.records 0x300 [] }, sec := { d.sec with recErased := true } }

/-- What every lifecycle transition ends (R435); `roll`: a new result session starts. -/
def Dev.lifecycleEnds (d : Dev) (roll : Bool) : Dev := ((d.closeSession 4).closeStreams).endSession roll

/-- First blank owner slot. -/
def Sec.blankSlot (x : Sec) : Option (Fin 2) := (List.finRange 2).find? fun k => x.slots[k] == 0

/-- The body of an OWNERSHIP container (R436): owner key and policy. -/
def readOwnership (b : List Byte) : Option (List Byte × Nat) :=
  if b.length = 104 && zerosAt b 97 3 && zerosAt b 101 3 && decide (fieldAt b 100 1 < 4) then some (slice b 0 97, fieldAt b 100 1) else none

/-- `OWNERSHIP` (R436): the first blank owner slot is programmed and read back, then the OWNED bit. A slot whose programming
fails is void. -/
def execOwnership (fuseOk : Bool) (s : State) : Host.Outcome State Fault Refusal :=
  liveAt s fun d =>
    match d.takeSecurity 0x11 with
    | none => d
    | some (v, d) =>
      match readOwnership v.body with
      | none => d.secVerdict 1 0x11
      | some (pub, policy) =>
        if d.sec.life ≠ .vendor then d.secVerdict 3 0x11
        else if !d.allParked then d.secVerdict 0xC 0x11
        else
          match d.sec.blankSlot with
          | none => d.secVerdict 0xD 0x11
          | some k =>
            if !fuseOk then (d.secVerdict 0xD 0x11).modSec fun x => { x with slots := x.slots.set k 2 }
            else
              let d := (d.secVerdict 0 0x11).modSec fun x =>
                { x with slots := x.slots.set k 1, policy := policy, ownerPub := pub, ownerHash := bytesN 48 (Config.sha384 pub), life := .owned }
              d.lifecycleEnds (!d.sec.drbgFail)

/-- `RETIRE` (R437), its stages in order; where the RETIRED bit cannot be programmed, the module stays as it was with its
secrets erased. -/
def execRetire (fuseOk : Bool) (s : State) : Host.Outcome State Fault Refusal :=
  liveAt s fun d =>
    match d.takeSecurity 0x13 with
    | none => d
    | some (_, d) =>
      if d.sec.life = .blank || d.sec.life = .retired then d.secVerdict 3 0x13
      else if !d.allParked then d.secVerdict 0xC 0x13
      else
        let d := ((d.secVerdict (if fuseOk then 0 else 0xD) 0x13).lifecycleEnds false).zeroise
        d.modSec fun x => { x with slots := Vector.replicate 2 2, ownerPub := [], ownerHash := [],
                                   life := if fuseOk then .retired else x.life }

/-- The body of a STREAM_OPEN (R444), its key unwrapped with the container's header; none for a layout that does not hold. -/
def readStream (head b : List Byte) : Option (Stream × Bool) :=
  let mask := fieldAt b 4 1
  let lo := fieldAt b 8 4
  let hi := fieldAt b 12 4
  if b.length != 176 || fieldAt b 0 4 = 0 || clearBits mask 0x16 != 0 || !zerosAt b 5 3 || !zerosAt b 113 3 || hi < lo || 0x1FFFF < hi then none
  else
    let key := gcmOpen (bytesN 32 (Config.kdf (agree 0 (slice b 16 97)) (label "WRAP") head 32)) (slice b 164 12) []
      (slice b 116 32) (slice b 148 16)
    some ({ id := fieldAt b 0 4, mask := mask, lineLo := lo, lineHi := hi, ctr := 0, key := key.getD [] }, key.isSome)

/-- `STREAM_OPEN` (R444). -/
def execStreamOpen (s : State) : Host.Outcome State Fault Refusal :=
  liveAt s fun d =>
    match d.takeSecurity 0x10 with
    | none => d
    | some (v, d) =>
      match readStream (boxHead v.box) v.body with
      | none => d.secVerdict 1 0x10
      | some (new, opened) =>
        let st := d.sec.streams.toList
        let slot := (st.findIdx? fun x => x.any (·.id == new.id)).orElse (fun _ => st.findIdx? (·.isNone))
        if !opened then d.secVerdict 9 0x10
        else
          match slot with
          | none => d.secVerdict 0xE 0x10
          | some k => (d.secVerdict 0 0x10).modSec fun x =>
              { x with streams := Vector.ofFn fun i => if i.val = k then some new else x.streams[i] }

/-- A write of STREAM_CMD: the named stream closes, 0xFFFF_FFFF closes all (R445). -/
def Dev.streamCmd (d : Dev) (v : Nat) : Dev :=
  let keep := fun (y : Stream) => if v = 0xFFFFFFFF ∨ y.id = v then none else some y
  d.accept.modSec fun x => { x with streams := x.streams.map fun s => s.bind keep }

/-- `STREAM_CMD` (R445). -/
def execStreamCmd (id : BitVec 32) (s : State) : Host.Outcome State Fault Refusal := liveAt s fun d => d.streamCmd id.toNat

/-! ## Sealed sessions (R447, R448, R425) -/

/-- A sealed container, or a host offer, fails (R425). -/
def Dev.sealFail (d : Dev) (obj : Nat) : Dev :=
  let keep := d.sec.sealFails.filter fun t => decide (ticksFrom t d.tick < 1000000)
  let d := (d.inc 32 Obj.SESS_FAILS).modSec fun x => { x with sealFails := d.tick :: keep }
  { d with dict := { d.dict with abort := abSealed } }.violate d.dict.source 0x0140 (obj * 256) abSealed

/-- No session can be offered: the identity key signs only attestations, or randomness fails (R433, R437). -/
def Dev.offerBarred (d : Dev) : Bool := d.sec.drbgFail || d.sec.life == .blank || d.sec.life == .retired

/-- SESS_CMD 1 on a link (R447, Table 16-9). -/
def Dev.offer (d : Dev) (bulk : Bool) : Dev :=
  if d.offerBarred then d.refuse Obj.SESS_CMD abState
  else
    let d := d.accept.closeSession 2
    let no := d.sec.sessNo + 1
    let body := bytesN 97 (Config.trustSign 4 (leBytes 4 d.sec.draws)) ++ leBytes 3 0 ++
      bytesN 32 (Config.random d.sec.draws 32) ++ leBytes 4 no ++ leBytes 1 (b2n bulk) ++ leBytes 3 0
    d.modSec fun x => { x with sess := .offered, offerTick := d.tick, sessNo := no, draws := x.draws + 1, sessPair := x.draws + 1,
                               devOffer := body ++ bytesN 96 (Config.trustSign 5 body) }

/-- `SESS_CMD_OFFER` (R447). -/
def execSessCmdOffer (bulk : Bool) (s : State) : Host.Outcome State Fault Refusal := liveAt s fun d => d.offer bulk

/-- `SESS_CMD_CLOSE` (R448). -/
def execSessCmdClose (s : State) : Host.Outcome State Fault Refusal := liveAt s fun d => d.accept.closeSession 1

/-- An offer still stands (R447). -/
def Dev.offerStands (d : Dev) : Bool := d.sec.sess == .offered && decide (ticksFrom d.sec.offerTick d.tick ≤ 10000000)

/-- Every right of Table 16-7, which the owner key holds. -/
def allRights : Nat := 0x803F

/-- A host offer passes checks 4 to 6 of R440 (R447): the signer's rights, none where a check fails. -/
def Dev.offerRights (d : Dev) (offer : List Byte) : Option Nat :=
  let x := slice offer 100 304
  let k := sigSigner x
  let who := match d.sec.life with | .vendor => k == 0 | .owned => k == 1 || k == 2 | _ => false
  if offer.length != 404 || !zerosAt offer 97 3 || !sigOk x || !who || rightsBad x [4] || d.revoked x ||
      !blockVerifies d.sec.ownerPub (d.sec.devOffer ++ slice offer 0 100) x then none
  else some (if k = 2 then sigRights x else allRights)

/-- A host offer on a link (R447): the session opens with its keys, or the offer falls. -/
def Dev.hostOffer (d : Dev) (offer : List Byte) (bulk : Bool) : Dev :=
  match (if d.offerStands then d.offerRights offer else none) with
  | some rights =>
    let pub := slice offer 0 97
    d.accept.modSec fun x => { x with
      sess := .opened, sessLink := b2n bulk, sessRights := rights, sealSeq := 0,
      sealKeys := bytesN 72 (Config.kdf (agree x.sessPair pub) (label "SEAL") (x.devOffer ++ pub) 72) }
  | none =>
    let d := if d.sec.sess = .offered then d.modSec fun x => { x with sess := .closed } else d
    d.sealFail Obj.SESS_HOST_OFFER

/-- `SESS_HOST_OFFER` (R447): at the commit after its verification. -/
def execSessHostOffer (offer : List Byte) (bulk : Bool) (s : State) : Host.Outcome State Fault Refusal :=
  liveAt s fun d => d.hostOffer offer bulk

/-- `SESS_OFFER_TIMEOUT` (R447): 10 s after the offer. -/
def execSessOfferTimeout (s : State) : Host.Outcome State Fault Refusal :=
  liveAt s fun d =>
    if d.sec.sess = .offered ∧ 10000000 ≤ ticksFrom d.sec.offerTick d.tick then d.modSec fun x => { x with sess := .closed } else d

/-- `SEALED_FAILURE_LIMIT` (R425): 64 failures within 1,000,000 tk. -/
def execSealedFailureLimit (s : State) : Host.Outcome State Fault Refusal :=
  liveAt s fun d =>
    if 64 ≤ (d.sec.sealFails.filter fun t => decide (ticksFrom t d.tick ≤ 1000000)).length then
      let open' := d.sec.sess != .closed
      let d := (d.closeSession 3).modSec fun x => { x with sealFails := [] }
      if open' then d.violate (if d.sec.sessLink = 1 then 7 else 0) 0x0141 (Obj.SEALED_IN * 256) abState else d
    else d

/-! ## Attestation and randomness (R433, R453) -/

/-- A write of ATTEST_NONCE (R453): the nonce comes from the host, so DRBG_FAILED does not refuse it (R462, log 51). -/
def Dev.attest (d : Dev) (nonce : List Byte) : Dev :=
  if nonce.length ≠ 32 then d.refuse Obj.ATTEST_NONCE 0x06070010
  else if d.sec.life = .blank then d.refuse Obj.ATTEST_NONCE abState
  else
    let x := d.sec
    let body := leBytes 2 0x4153 ++ leBytes 1 1 ++ leBytes 1 x.life.code ++ leBytes 1 x.debug ++ leBytes 1 x.d3Count ++
      leBytes 1 x.policy ++ leBytes 1 0 ++ leBytes 8 (d.reg Obj.DEVICE_FP) ++ bytesN 48 x.ownerHash ++
      (x.arb.toList.flatMap (leBytes 1)) ++ leBytes 4 (d.reg Obj.IMAGE_VER) ++ leBytes 4 (d.reg Obj.LIB_ID) ++
      leBytes 4 d.fifo.session ++ leBytes 6 d.tick.toNat ++ leBytes 2 0 ++ nonce ++ leBytes 40 0
    d.accept.modSec fun x => { x with attest := body ++ bytesN 96 (Config.trustSign 6 body) }

/-- `ATTEST_NONCE` (R453). -/
def execAttestNonce (nonce : List Byte) (s : State) : Host.Outcome State Fault Refusal := liveAt s fun d => d.attest nonce

/-- `DRBG_FAILURE` (R433): a continuous test of the entropy source fails. -/
def execDrbgFailure (s : State) : Host.Outcome State Fault Refusal :=
  liveAt s fun d =>
    if d.sec.drbgFail then d
    else ((d.modSec fun x => { x with drbgFail := true }).raiseNow 0x0C01 1 .device 0xFF).settleFaults

/-! ## Debug levels (R454, R455, R459) -/

/-- The result session rolls as RES_SESSION_CMD 2 would roll it (R452). -/
def Dev.debugRoll (d : Dev) : Dev := if d.sec.drbgFail then d else d.endSession true

/-- Leave D2 for a level: halted channels resume at the next commit, pending halts end as plain parks, the result session
rolls (R452, R457). -/
def Dev.leaveD2 (d : Dev) (level : Nat) : Dev :=
  let was := d.sec.debug
  let d := d.modSec fun x => { x with debug := level }
  if was = 2 then
    (d.mapCh fun _ c => c.modEng fun e => { e with resume := e.halted, haltPend := false }).debugRoll
  else d

/-- D3 may be entered (R454): by the owner's policy, the power state and the count of entries. -/
def Dev.d3Allowed (d : Dev) : Bool :=
  d.sec.life != .blank && !natBit d.sec.policy 0 && d.power.state == .parked && d.allParked && decide (d.sec.d3Count < 16) &&
  d.sec.debug != 3

/-- D2 may be entered (R454). -/
def Dev.d2Allowed (d : Dev) : Bool :=
  (d.sec.life == .vendor || d.sec.life == .owned) && !natBit d.sec.policy 1 && d.sec.debug != 3

/-- A fresh nonce for level 2 or 3 (R455). -/
def Dev.drawNonce (d : Dev) (level : Nat) : Dev :=
  d.accept.modSec fun x => { x with dbgNonce := bytesN 32 (Config.random x.draws 32), draws := x.draws + 1, dbgPend := level, dbgTick := d.tick }

/-- A write of DEBUG_REQ (R454): whatever it asks, an earlier nonce is no longer current (R455). -/
def Dev.debugReq (d : Dev) (v : Nat) : Dev :=
  let d := d.modSec fun x => { x with dbgPend := 0 }
  let no := d.refuse Obj.DEBUG_REQ abState
  if d.sec.life = .blank then no
  else
    match v with
    | 0 => if d.sec.debug = 1 ∨ d.sec.debug = 2 then d.accept.leaveD2 0 else no
    | 1 => if (d.sec.debug = 0 ∨ d.sec.debug = 2) ∧ natBit d.policy 2 then d.accept.leaveD2 1 else no
    | 2 => if d.d2Allowed && !d.sec.drbgFail then d.drawNonce 2 else no
    | 3 => if d.d3Allowed && !d.sec.drbgFail then d.drawNonce 3 else no
    | _ => d.refuse Obj.DEBUG_REQ abRange

/-- `DEBUG_REQ_D0` (R454). -/
def execDebugReqD0 (s : State) : Host.Outcome State Fault Refusal := liveAt s fun d => d.debugReq 0

/-- `DEBUG_REQ_D1` (R454). -/
def execDebugReqD1 (s : State) : Host.Outcome State Fault Refusal := liveAt s fun d => d.debugReq 1

/-- `DEBUG_REQ_D2` (R455). -/
def execDebugReqD2 (s : State) : Host.Outcome State Fault Refusal := liveAt s fun d => d.debugReq 2

/-- `DEBUG_REQ_D3` (R455). -/
def execDebugReqD3 (s : State) : Host.Outcome State Fault Refusal := liveAt s fun d => d.debugReq 3

/-- `DEBUG_NONCE_EXPIRY` (R455): 60 s after the draw. -/
def execDebugNonceExpiry (s : State) : Host.Outcome State Fault Refusal :=
  liveAt s fun d =>
    if d.sec.dbgPend ≠ 0 ∧ 60000000 ≤ ticksFrom d.sec.dbgTick d.tick then d.modSec fun x => { x with dbgPend := 0 } else d

/-- D3 entry (R459): its stages in order. -/
def Dev.enterD3 (d : Dev) : Dev :=
  let d := (((d.closeSession 5).closeStreams).endSession false).zeroise
  let d := d.mapCh fun _ c => c.modEng fun e => { e with resume := e.halted, haltPend := false }
  d.modSec fun x => { x with d3Count := x.d3Count + 1, debug := 3, dbgPend := 0 }

/-- A DEBUG_TOKEN (R455): level, signed by the vendor, and whether its nonce is the one drawn last. -/
structure DebugToken where
  level   : Nat
  vendor  : Bool
  nonceOk : Bool
deriving DecidableEq, Repr

/-- The body of a DEBUG_TOKEN; none for a layout that does not hold. -/
def Dev.readToken (d : Dev) (v : Verdict) : Option DebugToken :=
  if v.body.length = 36 && zerosAt v.body 1 3 then
    some { level := fieldAt v.body 0 1, vendor := v.signers == [0], nonceOk := v.body.drop 4 == d.sec.dbgNonce }
  else none

/-- Verdict on a DEBUG_TOKEN before it acts: 0 for an accepted one (R454, R455, Table 16-8). -/
def Dev.tokenCode (d : Dev) (k : DebugToken) : Nat :=
  let cur := k.nonceOk && d.sec.dbgPend != 0 && decide (ticksFrom d.sec.dbgTick d.tick ≤ 60000000) &&
    (k.level == d.sec.dbgPend % 16)
  if k.level ≠ 2 && k.level ≠ 3 then 1
  else if d.sec.life = .blank || (d.sec.life = .retired && k.level = 2) then 3
  else if (if k.level = 2 then k.vendor != (d.sec.life == .vendor) else !k.vendor && d.sec.life != .owned) then 4
  else if !cur then 0xC
  else if (if k.level = 2 then !d.d2Allowed else !d.d3Allowed) then 0xC
  else 0

/-- `DEBUG_TOKEN` (R455): grants D2, or holds or completes the pair of D3. -/
def execDebugToken (s : State) : Host.Outcome State Fault Refusal :=
  liveAt s fun d =>
    match d.takeSecurity 0x12 with
    | none => d
    | some (v, d) =>
      match d.readToken v with
      | none => d.secVerdict 1 0x12
      | some tok =>
        let code := d.tokenCode tok
        let d := d.secVerdict code 0x12
        if code ≠ 0 then d
        else if tok.level = 2 then
          let was := d.sec.debug
          let d := d.modSec fun x => { x with debug := 2, dbgPend := 0 }
          if was = 2 then d else d.debugRoll
        else
          let held := if tok.vendor then 0x23 else 0x13
          let other := if tok.vendor then 0x13 else 0x23
          if d.sec.life ≠ .owned || d.sec.dbgPend = other then d.enterD3
          else d.modSec fun x => { x with dbgPend := held }

/-! ## Halts (R457, R458) -/

/-- A write of DBG_HALT_REQ. -/
def Dev.haltReq (d : Dev) (mask : Word64) : Dev :=
  if d.sec.debug ≠ 2 then d.refuse Obj.DBG_HALT_REQ abState
  else
    let m := d.gangMask mask
    let d := d.accept.inMask m fun d n => d.modCh n fun c => c.modEng fun e => { e with haltPend := !e.halted }
    d.parkRequest m

/-- `DBG_HALT_REQ` (R457). -/
def execDbgHaltReq (mask : Word64) (s : State) : Host.Outcome State Fault Refusal := liveAt s fun d => d.haltReq mask

/-- A write of DBG_RESUME: the engines of the halted channels named run from the next commit. -/
def Dev.resumeReq (d : Dev) (mask : Word64) : Dev :=
  if d.sec.debug ≠ 2 then d.refuse Obj.DBG_RESUME abState
  else d.accept.inMask mask fun d n => d.modCh n fun c => c.modEng fun e => { e with resume := e.halted }

/-- `DBG_RESUME` (R457). -/
def execDbgResume (mask : Word64) (s : State) : Host.Outcome State Fault Refusal := liveAt s fun d => d.resumeReq mask

/-- A write of DBG_STEP: one window of the halted channels named. -/
def Dev.stepReq (d : Dev) (mask : Word64) : Dev :=
  if d.sec.debug ≠ 2 || (List.finRange 64).any (fun n => bit mask n.val && !(d.ch n).eng.halted) then d.refuse Obj.DBG_STEP abState
  else d.accept.inMask mask fun d n => d.modCh n fun c => c.modEng fun e => { e with step := e.halted }

/-- `DBG_STEP` (R458). -/
def execDbgStep (mask : Word64) (s : State) : Host.Outcome State Fault Refusal := liveAt s fun d => d.stepReq mask

/-! ## The test access port (R456, R458, R460) -/

/-- Select an instruction: leaving EXTEST gives the lands back at the next commit. -/
def Dev.tapSelect (d : Dev) (ir : Nat) (out : TapData) : Dev :=
  d.modSec fun x => { x with tapIr := ir, tapOut := out, tapRelease := x.tapRelease || x.bscan == 2, bscan := 0 }

/-- BYPASS, which IEEE 1149.1 also gives for an instruction that is not offered (log 34). -/
def Dev.tapBypass (d : Dev) : Dev := d.tapSelect 0 (.bytes [0])

/-- `TAP_BYPASS` (R460). -/
def execTapBypass (s : State) : Host.Outcome State Fault Refusal := runAt s fun d => d.tapBypass

/-- The IDCODE register (R460); issue A reads 1 (R530). -/
def idcode : Nat := 2 ^ 28 + 0x6420 * 2 ^ 12 + Config.jedecCode % 2 ^ 11 * 2 + 1

/-- `TAP_IDCODE` (R460). -/
def execTapIdcode (s : State) : Host.Outcome State Fault Refusal := runAt s fun d => d.tapSelect 1 (.bytes (leBytes 4 idcode))

/-- The lands that the boundary cells observe: straps and port modes; the levels of SYNC_IN and SYNC_RET at the sampling
instant are a free value (log 5). -/
def Dev.observed (d : Dev) : TapData × Dev :=
  let x := d.fresh
  (.bytes [BitVec.ofNat 8 d.power.strap.toNat, BitVec.ofNat 8 d.power.ecMode.toNat, BitVec.ofNat 8 (x.1 % 4)], x.2)

/-- `TAP_SAMPLE_PRELOAD` (R460). -/
def execTapSamplePreload (s : State) : Host.Outcome State Fault Refusal :=
  runAt s fun d => if d.bscanOffered then let o := d.observed; o.2.tapSelect 2 o.1 else d.tapBypass

/-- `TAP_EXTEST` (R460). -/
def execTapExtest (s : State) : Host.Outcome State Fault Refusal :=
  runAt s fun d =>
    if d.bscanOffered then
      let o := d.observed
      o.2.modSec fun x => { x with tapIr := 3, tapOut := o.1, bscan := 2 }
    else d.tapBypass

/-- `TAP_RESET` (R460): the test-logic reset of IEEE 1149.1 selects IDCODE (log 34). -/
def execTapReset (s : State) : Host.Outcome State Fault Refusal := runAt s fun d => d.tapSelect 1 (.bytes (leBytes 4 idcode))

/-- A PRIV word of an engine in the scratchpad of its stall (Table 10-7). -/
def privAddr (n : ChanId) (k : Fin 8) (w : BitVec 6) : Nat := 0x300 * posOf n + 0x40 * k.val + w.toNat

/-- A private instruction: registers, PRIV words and program words of halted channels at D2 (R458); objects, logs and the
trace at D1 and D2 (R456). None where the level does not open it. -/
def Dev.tapPrivate (d : Dev) (a : TapAccess) : Option Dev :=
  let at2 := fun (n : ChanId) => d.sec.debug == 2 && (d.ch n).eng.halted
  let at1 := d.sec.debug == 1 || d.sec.debug == 2
  let out := fun (l : List Byte) => some (d.tapSelect 4 (.bytes l))
  match a with
  | .readReg n k r => if at2 n then out (leBytes 6 ((d.engine n k).regs[r]).toNat) else none
  | .writeReg n k r v => if at2 n then some ((d.modCh n fun c => c.modEngine k fun e => { e with regs := e.regs.set r v }).tapSelect 4 (.bytes [])) else none
  | .readPriv n k w => if at2 n then out (leBytes 8 (d.scr (stallOf n) (privAddr n k w)).toNat) else none
  | .writePriv n k w v => if at2 n then some ((d.setScr (stallOf n) (privAddr n k w) v).tapSelect 4 (.bytes [])) else none
  | .readProg n id w =>
    if at2 n then
      (match sget none d.mem.progs (4096 * (stallOf n).val + id.toNat) with
       | none => out (leBytes 4 0)
       | some p => out (leBytes 4 (p.words.getD w.toNat 0).toNat))
    else none
  | .readObj idx sub =>
    if at1 then (match d.readObj idx.toNat sub.toNat with | .ok l => out l | .error _ => out []) else none
  | .readFaults => if at1 then out (d.flt.log.flatMap LogEntry.bytes) else none
  | .readViolations => if at1 then out (d.flt.viol.flatMap ViolEntry.bytes) else none
  | .readTrace => if at1 then some (d.tapSelect 4 (.trace (d.sec.trace.take Config.traceEntries))) else none

/-- `TAP_PRIVATE_INSTRUCTION` (R458); one that the level does not open acts as BYPASS (log 34). -/
def execTapPrivateInstruction (acc : TapAccess) (s : State) : Host.Outcome State Fault Refusal :=
  liveAt s fun d => (d.tapPrivate acc).getD d.tapBypass

end Sys2Proof.Machine
end

