-- ==== Sys2Proof/Machine/Rules.lean ====
section
/-! DEFINITION. The value rules of the objects: which values a write may bring (R377 step 6, the value columns of the object
tables), apart from what the write does. They judge a value against the other objects as they stand, so that a restore can
use them as well (R385). -/

namespace Sys2Proof.Machine

open Sys2Proof

/-- `lo ≤ v ≤ hi`. -/
def within (lo hi v : Nat) : Bool := decide (lo ≤ v) && decide (v ≤ hi)

/-- A trigger qualifier; a regular one has no DELAY of its own (R186). -/
def qualOk (regular : Bool) (w : Nat) : Bool := natBits w 13 8 == 0 && (!regular || qualDelay w == 0)

/-- A WIDTH word (R186). -/
def widthOk (w : Nat) : Bool := decide (natBits w 15 0 ≤ natBits w 31 16)

/-- An injected-sequence control word (R170). -/
def injCtrlOk (w : Nat) : Bool := within 1 4 (natBits w 2 0) && natBits w 6 3 == 0

/-- A multiplexer names a tether, or none (Table 11-9). -/
def muxOk (v : Nat) : Bool := decide (v < 128) || v == 0xFF

/-- A producer code of Table 11-1, or the empty slot. -/
def prodOk (w : Nat) : Bool :=
  decide (w < 0x400) || within 0x400 0x402 w || within 0x410 0x41F w || within 0x420 0x421 w || w == 0x430 || w == 0xFFF

/-- A segment number, or none. -/
def segNumOk (v : Nat) : Bool := decide (v ≤ 4095) || v == 0xFFFF

/-- A gust timing word of profile `p` (R142). -/
def gustTimingOk (armed : Bool) (w : Nat) : Bool :=
  natBits w 31 24 == 0 && natBits w 7 1 == 0 && decide (gtLead w ≤ 200) && decide ((gtAdv w).natAbs ≤ 100) &&
  (!armed || decide (2 ≤ (gtLead w : Int) + gtAdv w))

/-- An EVIO configuration word that replaces another (R321). -/
def evioCfgOk (old w : Nat) : Bool :=
  natBits w 24 12 == 0 && (evioStd old == evioStd w || evioDir w == 0) &&
  (!natBit w 26 || (evioStd w && evioDir w == 1)) &&
  !(decide (2 ≤ evioDir w) && within 1 (if evioStd w then 3 else 9) (natBits w 11 0))

/-- The plan that a channel's plan object belongs to, if it is one (R163). -/
def planOf (k : Nat) : Option Nat :=
  if inBlock k (Obj.MPLAN_HDR 0) 16 then some (k - Obj.MPLAN_HDR 0)
  else if inBlock k (Obj.MV_TIMING 0) 16 then some (k - Obj.MV_TIMING 0)
  else if inBlock k (Obj.MI_TIMING 0) 16 then some (k - Obj.MI_TIMING 0)
  else if inBlock k (Obj.MV_SLOT 0) 128 then some ((k - Obj.MV_SLOT 0) / 8)
  else if inBlock k (Obj.MI_SLOT 0) 128 then some ((k - Obj.MI_SLOT 0) / 8)
  else none

/-- Tally word and unit of a channel's tally object, if it is one (Table 6-8). -/
def tallyWordOf (k : Nat) : Option (TallyWord × Idx16) :=
  let u := fun (lo : Nat) => (⟨(k - lo) % 16, by omega⟩ : Idx16)
  if inBlock k (Obj.TALLY_CFG 0) 16 then some (.cfg, u (Obj.TALLY_CFG 0))
  else if inBlock k (Obj.TALLY_N 0) 16 then some (.ticks, u (Obj.TALLY_N 0))
  else if inBlock k (Obj.TALLY_FILT 0) 16 then some (.filt, u (Obj.TALLY_FILT 0))
  else if inBlock k (Obj.TALLY_THR 0) 16 then some (.thr, u (Obj.TALLY_THR 0))
  else none

/-- Settings of the force path and loops (Tables 3-10, 4-5, 4-6; R79, R108, R125). -/
def Dev.forceRule (d : Dev) (n : ChanId) (k v : Nat) : Bool :=
  let c := d.ch n
  if k = Obj.ARM_MODE || k = Obj.START_MODE || k = Obj.SAFE_POLICY || k = Obj.SENSE_MODE then decide (v ≤ 1)
  else if k = Obj.DECL_V then decide (v ≤ if isHS n then 32000 else 9500)
  else if k = Obj.DECL_I then decide (v ≤ if isHS n then 100000 else 500000)
  else if k = Obj.HEADROOM then within 60 150 v
  else if inBlock k (Obj.RPAIR 0) 16 then
    rpWellFormed (isHS n) v && !(c.isArmed && rpOver v (c.reg Obj.DECL_V) (c.reg Obj.DECL_I))
  else if k = Obj.SAFE_CLAMP_HI || k = Obj.SAFE_CLAMP_LO then decide (v ≤ 0xFFF)
  else if k = Obj.GANG_ROLE || k = Obj.COMP_MODE then decide (v ≤ 2)
  else if k = Obj.GANG_LEADER then decide (v ≤ 63)
  else if k = Obj.OL_SHIFT then decide (v ≤ 8)
  else if k = Obj.CORR_LIM then decide (v ≤ 65535)
  else if k = Obj.SLEW then decide (v ≤ 0xFFFFF)
  else if k = Obj.ZOUT then decide (v ≤ 0x100000)
  else if k = Obj.COMP_FIXED || k = Obj.COMP_INIT then decide (v ≤ 31)
  else if k = Obj.COMP_MIN then decide (v ≤ 31) && decide (v ≤ c.reg Obj.COMP_MAX)
  else if k = Obj.COMP_MAX then decide (v ≤ 31) && decide (c.reg Obj.COMP_MIN ≤ v)
  else if inBlock k (Obj.GUST_TIMING 0) 16 then gustTimingOk (c.gust.armed == some (k - Obj.GUST_TIMING 0)) v
  else true

/-- Settings of the measure path, tallies and monitors (Tables 5-12, 5-13, 6-8, 7-3; R164, R186, R199, R226). -/
def Dev.measRule (d : Dev) (n : ChanId) (k v : Nat) : Bool :=
  let c := d.ch n
  match planOf k, tallyWordOf k with
  | some p, _ => planOk (c.setReg k v) p
  | none, some (w, u) => (c.setReg k v).tallyWordOk w u v
  | none, none =>
    if k = Obj.MV_INJ_CTRL || k = Obj.MI_INJ_CTRL then injCtrlOk v
    else if inBlock k (Obj.MV_INJ_SLOT 0) 4 then slotOk false true v
    else if inBlock k (Obj.MI_INJ_SLOT 0) 4 then slotOk true true v
    else if k = Obj.MV_REG_QUAL || k = Obj.MI_REG_QUAL then qualOk true v
    else if k = Obj.MV_INJ_QUAL || k = Obj.MI_INJ_QUAL then qualOk false v
    else if k = Obj.MV_REG_WIDTH || k = Obj.MI_REG_WIDTH || k = Obj.MV_INJ_WIDTH || k = Obj.MI_INJ_WIDTH then widthOk v
    else if k = Obj.OW_LIMIT then within 1 90 v
    else if k = Obj.OW_ACTION then decide (v ≤ 1)
    else if inBlock k (Obj.WM_CFG 0) 4 then wmCfgOk ⟨(k - Obj.WM_CFG 0) % 4, by omega⟩ v
    else true

/-- Settings of the sequencer, the spool, the sine and the consumers (Tables 8-12, 9-6, 9-7, 11-9; R257, R266, R271). -/
def Dev.seqRule (d : Dev) (n : ChanId) (k v : Nat) : Bool :=
  let c := d.ch n
  if k = Obj.START_SEG || k = Obj.JUMP_VEC then segNumOk v
  else if inBlock k (Obj.COND 0) 16 then condOk v
  else if k = Obj.UR_POLICY then decide (v ≤ 1) && (v == 0 || c.reg Obj.SAFE_SEG != 0xFFFF)
  else if inBlock k (Obj.SINE_FTW 0) 16 then within 5 107374183 v
  else if inBlock k (Obj.SINE_AMP 0) 16 then natBits v 30 20 == 0
  else if inBlock k 0x4001 44 then muxOk v
  else if k = Obj.HOLD_LEN then decide (1 ≤ v)
  else true

/-- The value rules of a channel's settings. -/
def Dev.chRule (d : Dev) (n : ChanId) (k v : Nat) : Bool :=
  if k < 0x1000 || (0x3A00 ≤ k && k < 0x3D00) then d.forceRule n k v
  else if k < 0x3000 then d.measRule n k v
  else d.seqRule n k v

/-- The value rules of a stall's settings (Table 5-14). -/
def Dev.stRule (d : Dev) (s : StallId) (k v : Nat) : Bool :=
  if k = Obj.AUX_LEN then within 1 16 v
  else if inBlock k (Obj.AUX_SLOT 0) 16 then decide (natBits v 15 12 ≤ 5)
  else if k = Obj.AUX_INJ_CTRL then injCtrlOk v
  else if inBlock k (Obj.AUX_INJ_SLOT 0) 4 then natBits v 15 12 == 5
  else if k = Obj.AUX_INJ_QUAL then qualOk false v
  else if k = Obj.AUX_INJ_WIDTH then widthOk v
  else if k = Obj.OW_SETTLE then within 8 1000 v
  else if k = Obj.REF_SEL then decide (v ≤ 1) && (v == 0 || d.sreg s Obj.REFX_EN == 1)
  else true

/-- A producer slot takes a code: one of Table 11-1 that no other slot of its tether holds (R323). -/
def Dev.slotRule (d : Dev) (k t v : Nat) : Bool :=
  decide (v < 0x1000) && prodOk v &&
  (v == 0xFFF || (List.range 8).all fun j => tethSlot t j == k || d.reg (tethSlot t j) != v)

/-- Settings of the fabric and of the pins (Tables 9-8, 11-7, 11-8; R275, R321, R323). -/
def Dev.fabRule (d : Dev) (k v : Nat) : Bool :=
  match slotTether k with
  | some t => d.slotRule k t v
  | none =>
    if k = Obj.TICK_DIV then within 1 1000000 v && decide (d.reg Obj.TICK_PHASE < v)
    else if k = Obj.TICK_PHASE then decide (v < d.reg Obj.TICK_DIV)
    else if k = Obj.FAULT_MIN then decide (v ≤ 5)
    else if k = Obj.LOCK_CMD then decide (v < 128)
    else if inBlock k (Obj.TETH_CFG 0) 128 then decide (v ≤ 1)
    else if inBlock k (Obj.EVIO_CFG 0) 16 then evioCfgOk (d.reg k) v
    else if inBlock k (Obj.MUX_EVIO 0) 16 || inBlock k (Obj.MUX_AUX_INJ 0) 8 || inBlock k (Obj.MUX_MKO 0) 8 then muxOk v
    else if inBlock k (Obj.MKO_CFG 0) 8 then !natBit v 12 && within 10 4095 (natBits v 11 0)
    else if inBlock k (Obj.MKO_SRC 0) 8 then natBits v 7 2 == 0
    else true

/-- Settings, selectors and commands of the other device objects (Tables 2-7, 3-12, 6-9, 8-13, 10-17, 12-5, 13-9, 14-12 to
14-14, 15-14, 16-13, 17-9, 18-8). -/
def Dev.devRule (d : Dev) (k v : Nat) : Bool :=
  if 0x220000 ≤ k && k < 0x224200 then d.fabRule k v
  else if k = Obj.SYNC_ROLE || k = Obj.PD_WD_ACTION then decide (v ≤ 2)
  else if k = Obj.SYNC_LEVEL then decide (v ≤ 6) && (v == 0 || d.reg Obj.SYNC_ROLE != 1)
  else if k = Obj.IN_TRIM then decide ((signedOf 16 v).natAbs ≤ 2000)
  else if k = Obj.CAL_CMD || k = Obj.RES_SESSION_CMD || k = Obj.SESS_CMD then within 1 2 v
  else if k = Obj.ABORT_REQ || k = Obj.PSET_CMD || k = Obj.IMAGE_CMD then v == 1
  else if k = Obj.I_AGG_PEAK then v == 0
  else if k = Obj.FIFO_POLICY || k = Obj.EXPORT_LINK then decide (v ≤ 1)
  else if k = Obj.HOLD_MARK then within 64 4096 v
  else if k = Obj.FLUSH_TICKS then decide (1000 ≤ v)
  else if k = Obj.DIR_SEL then decide (v < 4096)
  else if k = Obj.ENG_SEL || k = Obj.CAL_SEL || k = Obj.REPLAY_SEL || k = Obj.SYSCAL_CH then decide (v ≤ 63)
  else if k = Obj.MARCH_EN then decide (v ≤ 7)
  else if k = Obj.MARCH_PERIOD then decide (1 ≤ v)
  else if k = Obj.SYSCAL_QTY then decide (v ≤ 1)
  else if k = Obj.SYSCAL_RPAIR || k = Obj.STREAM_SEL || k = Obj.SEC_POLICY then decide (v ≤ 15)
  else if k = Obj.SYSCAL_SETTLE then decide (16 ≤ v)
  else if k = Obj.SYSCAL_CMD || k = Obj.LOAD_CMD then within 1 3 v
  else if k = Obj.ENTRY_SEL then decide (natBits v 3 0 ≤ 9)
  else if k = Obj.STORE_PARAMS then v == 0x65766173
  else if k = Obj.RESTORE_DEFAULTS then v == 0x64616F6C
  else if k = Obj.OUT_SYNC_MODE then v == 0 || v == 2
  else if k = Obj.RESTORE_QUERY then natBits v 7 0 == 0
  else if k = Obj.LOAD_FIRST then decide (v < 2 ^ 48)
  else if k = Obj.LOAD_FLAGS then v == 0 || v == 2
  else if k = Obj.PCIE_MAX_SPEED then within 1 4 v
  else if k = Obj.DEBUG_REQ then decide (v ≤ 3)
  else if k = Obj.REBOOT_CMD then v == 0x746F6F62
  else if k = Obj.FLT_MIN then within 2 5 v
  else if k = Obj.HIST_CLEAR then v == 0x74736968
  else true

/-! ## PDO mapping (R390, Table 14-6) -/

/-- Objects that may be mapped into an RxPDO, by index and subindex. -/
def rxMappable (idx sub : Nat) : Bool :=
  match placeOf idx sub with
  | .dev k => k == Obj.PD_CMD_SEQ || k == Obj.ARM_REQ || k == Obj.PARK_REQ || k == Obj.ARM_MASK || k == Obj.RES_SESSION_CMD
  | .chan _ k => k == Obj.TALLY_CMD || k == Obj.JUMP_CMD || k == Obj.COND_HOST
  | .stall _ _ => false

/-- The value depends on a selector. -/
def selected (k : Nat) : Bool :=
  within Obj.PSET_STATE Obj.PSET_CYCLES k || within Obj.PSET_NOW Obj.ENG_DISCARDED k || within Obj.BG_STATUS Obj.LIN_INL_MAX k ||
  k == Obj.DIR_ENTRY || k == Obj.REPLAY_ENTRY || k == Obj.REPLAY_TICK || k == Obj.SYS_ENTRY

/-- Objects that may be mapped into a TxPDO. -/
def txMappable (idx sub : Nat) : Bool :=
  match rowOf idx sub with
  | none => false
  | some r =>
    r.acc == .ro && !r.isString && !(r.ty == .int && decide (32 < r.bits)) &&
    (within 0x2000 0x24FF idx || within 0x2600 0x26FF idx || within 0x6000 0x70FF idx || within 0x8000 0x80FF idx) &&
    (match placeOf idx sub with | .dev k => !selected k | _ => true)

/-- Fields of a mapping entry. -/
def mapIdx (w : Nat) : Nat := natBits w 31 16
def mapSub (w : Nat) : Nat := natBits w 15 8
def mapBits (w : Nat) : Nat := natBits w 7 0
/-- Padding: index 0x0000, subindex 0x00. -/
def mapPad (w : Nat) : Bool := mapIdx w == 0 && mapSub w == 0

/-- Bits that the entries of a mapping object before subindex `sub` take. -/
def Dev.mapOffset (d : Dev) (idx sub : Nat) : Nat :=
  (List.range (sub - 1)).foldl (fun b i => b + mapBits (d.reg (idx * 256 + 1 + i))) 0

/-- Abort code of a mapping entry (R390). -/
def Dev.mapEntryCode (d : Dev) (idx sub v : Nat) : Nat :=
  if mapPad v then 0
  else
    let rx := decide (idx < 0x1A00)
    match rowOf (mapIdx v) (mapSub v) with
    | none => 0x06040041
    | some r =>
      if !(if rx then rxMappable (mapIdx v) (mapSub v) else txMappable (mapIdx v) (mapSub v)) then 0x06040041
      else if mapBits v ≠ r.bits then 0x06040041
      else if r.ty ≠ .bool && d.mapOffset idx sub % 8 ≠ 0 then 0x06040041
      else 0

/-- The objects of R376 that PDO configuration writes, apart from 0x1C32 and 0x1C33. -/
def isMapping (idx : Nat) : Bool :=
  within 0x1600 0x1607 idx || within 0x1A00 0x1A07 idx || idx == 0x1C12 || idx == 0x1C13

/-- Abort code of a write to a mapping or assignment object (R390): a count only from 0, an entry only while it is 0. -/
def Dev.mapCode (d : Dev) (idx sub v : Nat) : Nat :=
  if d.reg (idx * 256) ≠ 0 && !(sub == 0 && v == 0) then 0x06010003
  else if idx = 0x1C12 || idx = 0x1C13 then
    if sub = 0 then (if v ≤ 8 then 0 else abRange)
    else if within (if idx = 0x1C12 then 0x1600 else 0x1A00) (if idx = 0x1C12 then 0x1607 else 0x1A07) v then 0 else abRange
  else if sub = 0 then (if v ≤ 64 then 0 else 0x06040042)
  else d.mapEntryCode idx sub v

/-- Value rules of an object: 0, or the abort code (R377 step 6). -/
def Dev.valueCode (d : Dev) (idx sub v : Nat) : Nat :=
  if isMapping idx then d.mapCode idx sub v
  else
    let ok := match placeOf idx sub with
      | .dev k => d.devRule k v
      | .stall s k => d.stRule s k v
      | .chan n k => d.chRule n k v
    if ok then 0 else abRange

/-- Type coding of a numeric value (Table 14-1); the length bounds the others. -/
def codingOk (r : ObjRow) (v : Nat) : Bool :=
  match r.ty with
  | .bool => decide (v ≤ 1)
  | .code20 => decide (v < 2 ^ 20)
  | .signed20 => decide (v < 2 ^ 19) || within (2 ^ 32 - 2 ^ 19) (2 ^ 32 - 1) v
  | _ => r.isString || decide (v < 256 ^ r.bytes)

end Sys2Proof.Machine
end

