-- ==== Sys2Proof/Machine/Boot.lean ====
section
/-! DEFINITION. Start-up, power states, self-test, image updates and power loss (R463–R486). A boot phase's command carries
what the fuses, the flash and the retained store show (log 6, log 35). -/

namespace Sys2Proof.Machine

open Sys2Proof

def Dev.modPower (d : Dev) (f : Power → Power) : Dev := { d with power := f d.power }

/-! ## Power-good to the end of the fuse phase (R467–R469, Table 17-3) -/

/-- The module before power-good, with what fuses, flash and the retained store keep. -/
def Dev.cold (d : Dev) : Dev :=
  let r := Dev.reset
  let p := d.power
  let r := [Obj.SYS_SEQ, Obj.SYS_BANK, Obj.SNAP_SEQ, Obj.SNAP_BANK, Obj.BOOT_COUNT].foldl (fun r k => r.setReg k (d.reg k)) r
  { r with
    freeCtr := d.freeCtr
    sec := { r.sec with life := d.sec.life, slots := d.sec.slots, policy := d.sec.policy, arb := d.sec.arb,
                        d3Count := d.sec.d3Count, ownerPub := d.sec.ownerPub, ownerHash := d.sec.ownerHash,
                        recErased := d.sec.recErased, draws := d.sec.draws }
    power := { r.power with flash := p.flash, dirActive := p.dirActive, marker := p.marker, loadDefaults := p.loadDefaults }
    dict := { r.dict with records := d.dict.records }
    cal := { r.cal with entries := d.cal.entries, snap := d.cal.snap }
    flt := { r.flt with hist := d.flt.hist }
    fifo := { r.fifo with session := d.fifo.session } }

/-- `POWER_GOOD` (R467–R469): lands are sampled, the bus start is delayed by STRAP_ID ms, FLT_N is asserted. -/
def execPowerGood (strap : BitVec 6) (ecMode : BitVec 2) (s : State) : Host.Outcome State Fault Refusal :=
  runAt s fun d =>
    if d.power.state != .off then d
    else
      let d := d.cold.modPower fun p =>
        { p with state := .boot, phase := 1, strap := strap, ecMode := ecMode, fltN := true }
      ((d.setReg Obj.EC_PORT_MODE ecMode.toNat).setReg Obj.BUS_DELAY strap.toNat).setReg Obj.BUS_STATE 1

/-- `BUS_START` (R469). -/
def execBusStart (s : State) : Host.Outcome State Fault Refusal :=
  runAt s fun d => if d.reg Obj.BUS_STATE = 1 then d.setReg Obj.BUS_STATE 2 else d

/-- `BUS_IN_REGULATION` (R468, R469). -/
def execBusInRegulation (s : State) : Host.Outcome State Fault Refusal :=
  runAt s fun d =>
    if d.reg Obj.BUS_STATE = 2 then (d.setReg Obj.BUS_STATE 3).modPower fun p => { p with pgOut := true } else d

/-- `STALL_ANALOG_READY` (R469): the power-up is complete when every stall is ready. -/
def execStallAnalogReady (s' : StallId) (s : State) : Host.Outcome State Fault Refusal :=
  runAt s fun d =>
    if d.reg Obj.BUS_STATE ≠ 3 || d.power.state != .boot then d
    else
      let v := d.reg Obj.ANALOG_STATE ||| 2 ^ s'.val
      (d.setReg Obj.ANALOG_STATE v).modPower fun p => { p with analogUp := v == 0xFF }

/-- `FUSE_PHASE` (R470, R26, Table 16-1): a module whose trust core fails, or that is BLANK, stays here. -/
def execFusePhase (trustOk : Bool) (time10us : BitVec 16) (s : State) : Host.Outcome State Fault Refusal :=
  runAt s fun d =>
    if d.power.state != .boot || d.power.phase != 1 then d
    else
      let go := trustOk && d.sec.life != .blank
      (d.setReg Obj.T_FUSE time10us.toNat).modPower fun p => { p with trustOk := trustOk, phase := if go then 2 else 1 }

/-! ## The configuration memory (R473–R477) -/

/-- An object takes a value at its place. -/
def Dev.setObj (d : Dev) (obj v : Nat) : Dev :=
  match placeOf (obj / 256) (obj % 256) with
  | .dev k => d.setReg k v
  | .stall s k => d.setSreg s k v
  | .chan n k => d.setCreg n k v

/-- A gust profile of the image. -/
def Dev.putProfile (d : Dev) (n : Nat) (b : List Byte) : Dev :=
  match chanOf n, readProfile b with
  | some n, some (p, g) => d.modCh n fun c => c.modGust fun x =>
      { x with profiles := Vector.ofFn fun i => if i.val = p then g else x.profiles[i] }
  | _, _ => d

/-- Library parameter words take their defaults (R306, Table 10-12). -/
def Dev.paramWords (d : Dev) : Dev :=
  d.eachCh fun d n => (List.range 4).foldl (fun d i =>
    let a := 0x300 * posOf n + 0x2A0 + i
    d.setScr (stallOf n) a (paramDefault a)) d

/-- One section after another is checked by the rules of its own chapter and applied (R476); a refusal gives its code. -/
def sectionsOf {α : Type} (code : Nat) (ok : Dev → α → Bool) (put : Dev → α → Dev) (l : List α) (d : Dev) : Except Nat Dev :=
  l.foldlM (fun d x => if ok d x then .ok (put d x) else .error code) d

/-- The library defines sets 0 and 63 for all 64 channels (R475, R476). -/
def libraryOk (l : List Package) : Bool :=
  match l with
  | [] => false
  | p :: _ => p.mask.toNat == 2 ^ 64 - 1 && p.sets.any (·.set == 0) && p.sets.any (·.set == 63)

/-- An image is applied section by section, or refused whole with 0x20 and the KIND of the section (R476, Table 17-9). -/
def Dev.applyImage (d : Dev) (b : ImageBody) : Except Nat Dev := do
  let pkg := fun (d : Dev) (p : Package) => (d.contentBad p).isNone
  if !libraryOk b.packages then .error 0x22
  else
    let d := b.defaults.foldl (fun d e => d.setObj e.1 e.2) d
    let d ← sectionsOf 0x22 pkg (Dev.putPackage true) (b.packages.take 1) d
    let d ← sectionsOf 0x23 pkg (Dev.putPackage false) (b.packages.drop 1) d
    let d ← sectionsOf 0x24 (fun d (e : Nat × Word64) => decide (e.1 < 4096) && d.descOk e.1 e.2.toNat)
      (fun d e => { d with mem := { d.mem with dir := sput 0 d.mem.dir e.1 e.2 } }) b.dir d
    let d ← sectionsOf 0x25 (fun _ (e : Nat × Word64) => decide (e.1 < 1048576))
      (fun d e => { d with mem := { d.mem with ledger := sput 0 d.mem.ledger e.1 e.2 } }) b.ledger d
    let d ← sectionsOf 0x26 (fun _ (e : Nat × List Byte) => decide (e.1 < 64) && (readProfile e.2).isSome)
      (fun d e => d.putProfile e.1 e.2) b.profiles d
    .ok (d.setReg Obj.IMAGE_VER b.version).paramWords

/-- The latest check of a slot (Table 17-9): its IMAGE_VER, or the code of its refusal. -/
def Dev.noteSlot (d : Dev) (slot : Fin 2) (r : Except Nat Nat) : Dev :=
  let obj := if slot.val = 0 then Obj.SLOT_A_VER else Obj.SLOT_B_VER
  match r with
  | .ok ver => d.setReg obj ver
  | .error code => (d.setReg obj 0).setReg Obj.IMAGE_FAIL (code * 256 + slot.val)

/-- The image of a container: checks 1 to 9 of R440 on it, then its body (R476). -/
def Dev.imageOf (d : Dev) (box : List Byte) : Except Nat ImageBody :=
  let v := d.boxVerdict false false true true 0 (fun _ => []) box
  if maxImage < box.length then .error 1
  else if v.code ≠ 0 then .error v.code
  else if v.type ≠ 5 then .error 1
  else readImage v.body

/-- The image of one slot: the module with it applied, or the code of its refusal. -/
def Dev.useSlot (d : Dev) (f : Flash) (slot : Fin 2) : Except Nat Dev := (d.imageOf (flashBox f slot)).bind d.applyImage

/-- The slots are tried, the active one first (R474, R477). -/
def Dev.tryImages (d : Dev) (f : Flash) : Dev :=
  let a : Fin 2 := if d.power.dirActive = 1 then 1 else 0
  let b : Fin 2 := if d.power.dirActive = 1 then 0 else 1
  let done := fun (d : Dev) (k : Fin 2) => (d.noteSlot k (.ok (d.reg Obj.IMAGE_VER))).setReg Obj.ACTIVE_SLOT k.val
  match d.useSlot f a with
  | .ok x => (done x a).setReg Obj.IMAGE_STATE 0
  | .error c =>
    let d := d.noteSlot a (.error c)
    let fail := d.reg Obj.IMAGE_FAIL
    match d.useSlot f b with
    | .ok x => ((done x b).setReg Obj.IMAGE_STATE 1).raiseNow 0x0B03 1 .device 0xFF fail
    | .error e => ((d.noteSlot b (.error e)).setReg Obj.IMAGE_STATE 2).raiseNow 0x0B04 4 .device 0xFF

/-- `CONFIG_MEMORY_PHASE` (R473, R474, R476, R477): the flash holds what the module wrote last, else what the row shows. -/
def execConfigMemoryPhase (img : FlashRead) (time10us : BitVec 16) (s : State) : Host.Outcome State Fault Refusal :=
  runAt s fun d =>
    if d.power.state != .boot || d.power.phase != 2 then d
    else
      let d := ((d.setReg Obj.T_IMAGE time10us.toNat).setReg Obj.FLASH_ID img.flashId.toNat).setReg Obj.FLASH_SIZE
        img.flashMib.toNat
      let d := d.modPower fun p => { p with phase := 3 }
      if !img.sfdpOk || !within 32 256 img.flashMib.toNat then (d.setReg Obj.IMAGE_STATE 3).raiseNow 0x0B04 4 .device 0xFF
      else
        let f := d.power.flash.getD img.flash
        let act := ((flashDir f).map (·.active)).getD 0
        ((d.setReg Obj.NEXT_SLOT act).modPower fun p => { p with flash := some f, dirActive := act }).tryImages f

/-! ## The retained state (R365, R367, R379–R387, R479) -/

/-- Rows and class of the group of a record (Table 14-4). -/
def groupRows (rec : Nat) : List ObjRow × Retain :=
  if rec = 0x300 then (devRows, .sealed)
  else if rec < 0x100 then (devRows, .kept)
  else if rec < 0x200 then (stRows, .kept)
  else (chRows, .kept)

/-- Objects of the group. -/
def groupCount (rec : Nat) : Nat :=
  ((groupRows rec).1.filter fun r => r.ret == (groupRows rec).2).foldl
    (fun m r => m + (r.idxHi + 1 - r.idxLo) * (r.subHi + 1 - r.subLo)) 0

/-- The row of a key of the group. -/
def groupRow (rec k : Nat) : Option ObjRow :=
  (findRow (groupRows rec).1 (k / 256) (k % 256)).filter fun r => r.ret == (groupRows rec).2

/-- Keys of the objects of the group. -/
def groupKeys (rec : Nat) : List Nat :=
  ((groupRows rec).1.filter fun r => r.ret == (groupRows rec).2).flatMap fun r =>
    (List.range (r.idxHi + 1 - r.idxLo)).flatMap fun i => (List.range (r.subHi + 1 - r.subLo)).map fun j => (r.idxLo + i) * 256 + r.subLo + j

/-- The object of a key of the group: index * 256 + subindex. -/
def groupObj (rec k : Nat) : Nat :=
  if rec = 0x300 || rec < 0x100 then k
  else if rec < 0x200 then stObj ⟨rec % 8, by omega⟩ k
  else chObj ⟨rec % 64, by omega⟩ k

/-- The default of an object at its place. -/
def Dev.toDefault (d : Dev) (obj : Nat) : Dev :=
  match placeOf (obj / 256) (obj % 256) with
  | .dev k => d.setReg k (devDefault k)
  | .stall s k => d.setSreg s k (stDefault k)
  | .chan n k => d.setCreg n k (chDefault k)

/-- The passes of R385 over entries already set: those that fail take their default, until a pass changes nothing. The
result is the module and the objects that failed. -/
def Dev.restorePasses : Nat → Dev → List (Nat × Nat × ObjRow) → List Nat → Dev × List Nat
  | 0, d, _, bad => (d, bad)
  | k + 1, d, es, bad =>
    let fails := fun (e : Nat × Nat × ObjRow) =>
      !codingOk e.2.2 e.2.1 || d.valueCode (e.1 / 256) (e.1 % 256) e.2.1 != 0
    let now := (es.filter fails).map (·.1)
    if now.isEmpty then (d, bad)
    else Dev.restorePasses k (now.foldl Dev.toDefault d) (es.filter fun e => !fails e) (bad ++ now)

/-- Key under which the outcome of a whole record stands, for the objects that have none of their own. -/
def recKey (rec : Nat) : Nat := 2 ^ 24 + rec

def Dev.setOutcome (d : Dev) (k : Nat) (r : Restored) : Dev :=
  { d with dict := { d.dict with outcome := sput .asNew d.dict.outcome k r } }

/-- Outcome of the restore of a kept object (R386, R399). -/
def Dev.outcomeOf (d : Dev) (obj : Nat) : Restored :=
  match sget .asNew d.dict.outcome obj with
  | .asNew => sget .asNew d.dict.outcome (recKey (recordOf obj))
  | r => r

/-- Objects of a record took their defaults (R386, Table 14-14). -/
def Dev.noteDefaulted (d : Dev) (rec n : Nat) : Dev :=
  if n = 0 then d
  else
    let b := if rec = 0x300 then 8 else if rec < 0x100 then 1 else if rec < 0x200 then 2 else 4
    let d := d.setReg Obj.RESTORE_SUMMARY (d.reg Obj.RESTORE_SUMMARY ||| b ||| 16)
    let d := if b = 2 then d.setReg Obj.RESTORE_STALL_MASK (d.reg Obj.RESTORE_STALL_MASK ||| 2 ^ (rec % 8))
      else if b = 4 then d.setReg Obj.RESTORE_CH_MASK (d.reg Obj.RESTORE_CH_MASK ||| 2 ^ (rec % 64)) else d
    (d.incBy 16 Obj.RESTORE_ENTRIES n).raiseNow 0x0B02 1 .device 0xFF (rec * 65536 + n)

/-- One record is restored (R385, R386): its entries are key in the group, value and length. -/
def Dev.restoreRecord (d : Dev) (rec : Nat) (content : Option (List (Nat × Nat × Nat))) : Dev :=
  if d.power.loadDefaults && rec ≠ 0x300 then d.setOutcome (recKey rec) .byRequest
  else
    match content with
    | none => (d.setOutcome (recKey rec) .defaulted).noteDefaulted rec (groupCount rec)
    | some es =>
      let known := es.filterMap fun e => (groupRow rec e.1).map fun r => (groupObj rec e.1, e.2.1, e.2.2, r)
      let good := (known.filter fun e => e.2.2.1 == e.2.2.2.bytes).map fun e => (e.1, e.2.1, e.2.2.2)
      let short := (known.filter fun e => e.2.2.1 != e.2.2.2.bytes).map (·.1)
      let d := good.foldl (fun d e => d.setObj e.1 e.2.1) d
      let p := Dev.restorePasses (good.length + 1) d good []
      let bad := short ++ p.2
      let d := good.foldl (fun d e => d.setOutcome e.1 .restored) p.1
      let d := bad.foldl (fun d o => d.setOutcome o .defaulted) d
      let d := (d.incBy 16 Obj.RESTORE_UNKNOWN (es.length - known.length)).incBy 16 Obj.RESTORE_NEW
        (groupCount rec - known.length)
      d.noteDefaulted rec bad.length

/-- Records in the order of R385. -/
def recordIds : List Nat :=
  [0] ++ (List.range 8).map (0x100 + ·) ++ (List.range 64).map (0x200 + ·) ++ [0x300]

/-- Scratchpad keys of the snapshot (R367). -/
def snapKeys : List Nat := (List.range 65536).filter inSnapshot

/-- Words of the snapshot: those written since the store was last read, else what the module holds (log 3). -/
def Dev.snapWords (d : Dev) (ok : Bool) : List (Nat × Word64) :=
  if ok && !d.cal.snap.isEmpty then d.cal.snap
  else snapKeys.map fun k => (k, BitVec.ofNat 64 (Config.fitted (2 ^ (if ok then 41 else 40) + k)))

/-- System calibration words of a channel and slot (R363, R365). -/
def Dev.sysWords (d : Dev) (ok : Bool) : Dev :=
  d.eachCh fun d n => (List.range 10).foldl (fun d slot =>
    let e := sget ⟨0, 0, 0, 0, 0⟩ d.cal.entries (10 * n.val + slot)
    let d := d.setCoef n (0x20 + slot) (if ok then e.z else 0)
    d.setCoef n (0x30 + slot) (if ok then unity + e.s else unity)) d

/-- The calibration records go into the scratchpad (R365, R367). -/
def Dev.restoreCal (d : Dev) (sysOk snapOk : Bool) : Dev :=
  let d := (d.snapWords snapOk).foldl (fun d e =>
    { d with mem := { d.mem with scr := sput 0 d.mem.scr e.1 e.2 } }) d
  let d := d.sysWords sysOk
  let d := if sysOk then d else { d with cal := { d.cal with entries := [] } }.setReg Obj.SYS_BANK 0xFF
  let d := if snapOk then d
    else (d.mapCh fun _ c => { c with cal := { c.cal with factory := true } }).setReg Obj.SNAP_BANK 0xFF
  d.setReg Obj.STORE_STATUS (b2n (!sysOk) + 2 * b2n (!snapOk))

/-- What follows from the restored objects: ranges and modes of PARKED channels (R87), monitor codes, references, spools. -/
def Dev.settleRestored (d : Dev) : Dev :=
  let d := d.eachCh fun d n =>
    ((d.becomeParked n).modCh n fun c => (List.finRange 4).foldl Channel.wmRecode c).resetSpool n
  d.eachSt fun d s => d.modSt s fun x => { x with refx := x.reg Obj.REF_SEL == 1 }

/-- The shutdown marker that the boot reads (R481): the marker written last, or none if it could not be written. -/
def Dev.markerRead (d : Dev) (r : RetainedResult) : Nat :=
  if r.marker = 0 then 0 else if d.power.marker ≠ 0 then d.power.marker else r.marker.toNat

/-- Content of a record with a valid copy: the one that the module wrote last, else the one that the row shows. -/
def Dev.recordNow (d : Dev) (r : RetainedResult) (rec : Nat) : Option (List (Nat × Nat × Nat)) :=
  let m := sget [] d.dict.records rec
  if rec = 0x300 && d.sec.recErased then none
  else if m.isEmpty then r.records.lookup rec
  else some (m.map fun e => (e.1, e.2, ((groupRow rec e.1).map ObjRow.bytes).getD 0))

/-- `RETAINED_STATE_PHASE` (R479, R385–R387). Counters and records are those that the module wrote last, else those that the row
shows. -/
def execRetainedStatePhase (r : RetainedResult) (time10us : BitVec 16) (s : State) : Host.Outcome State Fault Refusal :=
  runAt s fun d =>
    if d.power.state != .boot || d.power.phase != 3 then d
    else
      let d := d.setReg Obj.T_RETAIN time10us.toNat
      let ok := r.mramOk
      let d := d.restoreCal (ok && r.sysOk) (ok && r.snapOk)
      let x := d.fresh
      let d := if ok then d else x.2
      let d := d.modFifo fun f => { f with session := if !ok then x.1 % 2 ^ 32 else if f.session ≠ 0 then f.session else r.session.toNat }
      let d := if ok then (d.setReg Obj.BOOT_COUNT (bump 32 (if d.reg Obj.BOOT_COUNT ≠ 0 then d.reg Obj.BOOT_COUNT else r.boots.toNat))).setReg Obj.LAST_SHUTDOWN (d.markerRead r) else d
      let d := if ok && d.power.loadDefaults then d.setReg Obj.RESTORE_SUMMARY 32 else d.modPower fun p => { p with loadDefaults := false }
      let d := recordIds.foldl (fun d rec => d.restoreRecord rec (if ok then d.recordNow r rec else none)) d
      let d := if ok then d else d.raiseNow 0x0B05 4 .device 0xFF
      (d.modPower fun p => { p with phase := 4, mramFail := !ok, marker := 0, loadDefaults := false }).settleRestored

/-! ## Release (R470, R471, R483) -/

/-- READY_FLAGS bits 0 to 4 as they stand (Table 17-9). -/
def Dev.readyFlags (d : Dev) : Dev :=
  let v := b2n d.power.released + 2 * b2n (decide (d.reg Obj.IMAGE_STATE ≤ 1)) + 4 * b2n (d.sync.refclk == .locked) +
    8 * b2n (!d.stalls.toList.any (·.underTest)) + 16 * b2n (decide (d.power.phase = 4))
  d.setReg Obj.READY_FLAGS (v + d.reg Obj.READY_FLAGS / 128 * 128)

/-- READY is set at the first commit at which its conditions hold (R483). -/
def Dev.readyCommit (d : Dev) : Dev :=
  let d := d.readyFlags
  if d.reg Obj.READY_FLAGS < 128 && decide (d.reg Obj.IMAGE_STATE ≤ 1) && d.sync.refclk == .locked &&
      !d.stalls.toList.any (·.underTest) && !d.power.mramFail then
    (d.setReg Obj.READY_FLAGS (d.reg Obj.READY_FLAGS + 128)).setReg Obj.READY_TICK d.tick.toNat
  else d

/-- The power state that a commit takes (Table 17-1). -/
def Dev.powerNow (d : Dev) : PowerState :=
  if d.reg Obj.QUIET_REQ = 1 || !d.power.analogUp then .quiet
  else if d.safeMask != 0 then .safe
  else if d.chans.toList.any (fun c => c.force.st == .arming || c.force.st == .armed || c.force.st == .parking) then .armed
  else .parked

def Dev.powerCommit (d : Dev) : Dev := d.modPower fun p => { p with state := d.powerNow }

/-- A self-test of a set of stalls begins (R482). -/
def Dev.beginTest (d : Dev) (mask : Nat) : Dev :=
  (d.eachSt fun d s => if natBit mask s.val then d.modSt s fun x => { x with underTest := true } else d).modPower
    fun p => { p with selfTick := d.tick }

/-- The analog circuits go off (R465). -/
def Dev.analogOff (d : Dev) : Dev :=
  let d := d.eachCh fun d n => (List.finRange 4).foldl (fun d m => (d.wmUnqueue n m).modCh n (·.wmOff m)) d
  (d.setReg Obj.ANALOG_STATE 0).modPower fun p => { p with analogUp := false }

/-- `RELEASE` (R470, R471, R464): the commit of tick 0. -/
def execRelease (time10us : BitVec 16) (s : State) : Host.Outcome State Fault Refusal :=
  runAt s fun d =>
    let p := d.power
    if p.state != .boot || p.phase != 4 || !p.analogUp || !p.trustOk then d
    else
      let quiet := d.reg Obj.BOOT_QUIET == 1
      let d := { d.setReg Obj.T_RELEASE time10us.toNat with tick := 0 }.modPower fun p => { p with released := true }
      let d := if quiet then (d.setReg Obj.QUIET_REQ 1).analogOff else d
      let d := if d.sec.life = .retired || d.sec.drbgFail then d else d.startSession
      let d := if d.reg Obj.SELFTEST_AT_BOOT = 1 && !quiet then d.beginTest 0xFF else d
      (d.powerCommit.readyFlags).settleFaults

/-! ## QUIET (R465) -/

/-- A write of QUIET_REQ at its commit. -/
def Dev.writeQuiet (d : Dev) (v : Nat) : Dev :=
  if v = 1 then
    if !d.allParked || d.stalls.toList.any (·.underTest) || d.sysActive then d.refuse Obj.QUIET_REQ abState
    else ((d.accept.setReg Obj.QUIET_REQ 1).analogOff).powerCommit
  else
    let d := d.accept
    if d.power.state = .quiet then d.setReg Obj.QUIET_REQ 0 else d

/-- `QUIET_ENTER` (R465). -/
def execQuietEnter (s : State) : Host.Outcome State Fault Refusal := liveAt s fun d => (d.writeQuiet 1).settleFaults

/-- `QUIET_EXIT` (R465): the analog power-up of every stall starts. -/
def execQuietExit (s : State) : Host.Outcome State Fault Refusal := liveAt s fun d => d.writeQuiet 0

/-- `ANALOG_POWER_UP_DONE` (R465): the first commit after the power-up. -/
def execAnalogPowerUpDone (s : State) : Host.Outcome State Fault Refusal :=
  liveAt s fun d =>
    if d.power.state = .quiet && d.reg Obj.QUIET_REQ = 0 then
      ((d.setReg Obj.ANALOG_STATE 0xFF).modPower fun p => { p with analogUp := true }).powerCommit
    else d

/-! ## Reboot, power loss, bus failure (R480, R481, R535) -/

/-- A write of REBOOT_CMD at its commit; D3 lasts until power is removed (R459). What stays: the straps, the bus, the locks of R535, the lines, and the analog side
unless the module was QUIET. -/
def Dev.reboot (d : Dev) (v : Nat) : Dev :=
  if v ≠ 0x746F6F62 then d.refuse Obj.REBOOT_CMD abRange
  else if d.sec.debug = 3 || !(d.power.state == .parked || d.power.state == .quiet) || d.loadBusy || !d.load.claims.isEmpty ||
      decide (0 < d.pcie.load.waiting) || !d.dict.retains.isEmpty || d.sysActive then d.refuse Obj.REBOOT_CMD abState
  else
    let c := d.cold
    let up := d.power.state != .quiet
    let keep := [Obj.EC_PORT_MODE, Obj.EC_LINK, Obj.BUS_DELAY, Obj.BUS_STATE]
    let c := keep.foldl (fun c k => c.setReg k (d.reg k)) c
    let c := (c.setReg Obj.BOOT_CAUSE 1).setReg Obj.ANALOG_STATE (if up then d.reg Obj.ANALOG_STATE else 0)
    { c with
      fab := { c.fab with locks := d.fab.locks }
      pcie := { c.pcie with perst := d.pcie.perst }
      sec := { c.sec with tapIr := d.sec.tapIr, tapOut := d.sec.tapOut, bscan := d.sec.bscan }
      power := { c.power with state := .boot, phase := 1, strap := d.power.strap, ecMode := d.power.ecMode, fltN := true,
                              pgOut := d.power.pgOut, marker := 3, analogUp := up && d.power.analogUp } }

/-- `REBOOT_CMD` (R480). -/
def execRebootCmd (value : BitVec 32) (s : State) : Host.Outcome State Fault Refusal := liveAt s fun d => d.reboot value.toNat

/-- `POWER_LOSS` (R481, R96, R514): the F5 action on every stall, then OFF. -/
def execPowerLoss (s : State) : Host.Outcome State Fault Refusal :=
  runAt s fun d =>
    if d.power.state = .off then d
    else
      let mark := if d.allParked || d.power.state = .quiet then 1 else 2
      let rel := d.power.released
      let f : FaultRec := { code := 0x0D06, cls := 5, scope := .device, unit := 0xFF, detail := 0, detect := d.tick, cause := 0 }
      let d := if rel then
          let d := d.inc 32 (Obj.FAULT_CNT_F0 5)
          (d.eachSt fun d s => (d.lastResort s).readStall s 0x0D06).logFault f .last false false
        else d
      (d.setReg Obj.BUS_STATE 0).modPower fun p =>
        { p with state := .off, phase := 0, released := false, analogUp := false, pgOut := false, fltN := true,
                 marker := mark }

/-- `BUS_FAIL` (R26): the 12 V bus leaves regulation. -/
def execBusFail (cyc : Cycle) (s : State) : Host.Outcome State Fault Refusal :=
  liveIn s fun d =>
    if d.reg Obj.BUS_STATE ≠ 3 then d
    else
      ((d.setReg Obj.BUS_STATE 4).modPower fun p => { p with pgOut := false }).raiseAt (d.presentAt cyc.val) 0x020B 4 .device
        0xFF 0

/-! ## Self-test (R482) -/

/-- A write of SELFTEST_CMD at its commit. -/
def Dev.selfTest (d : Dev) (mask : Nat) : Dev :=
  if d.power.state == .quiet || d.stalls.toList.any (·.underTest) ||
      (List.finRange 8).any (fun s => natBit mask s.val && !d.stallParked s) then d.refuse Obj.SELFTEST_CMD abState
  else d.accept.beginTest mask

/-- `SELFTEST_CMD` (R482). -/
def execSelftestCmd (mask : BitVec 8) (s : State) : Host.Outcome State Fault Refusal := liveAt s fun d => d.selfTest mask.toNat

/-- `SELFTEST_DONE` (R482). -/
def execSelftestDone (s' : StallId) (result : BitVec 32) (s : State) : Host.Outcome State Fault Refusal :=
  liveAt s fun d =>
    if !(d.st s').underTest then d
    else
      let bad := natBits result.toNat 25 16 != 0
      let d := d.modSt s' fun x => { x with underTest := false, selfPass := !bad }
      let d := (d.setReg (Obj.SELFTEST_RESULT s'.val) result.toNat).setReg Obj.SELFTEST_TICK d.tick.toNat
      let v := d.reg Obj.SELFTEST_FAIL
      let d := d.setReg Obj.SELFTEST_FAIL (if bad then v ||| 2 ^ s'.val else v - (if natBit v s'.val then 2 ^ s'.val else 0))
      (if bad then d.raiseNow 0x0B06 3 .stall s'.val (result.toNat) else d).readyFlags.settleFaults

/-! ## Image updates (R478) -/

/-- The section check of an image that is not applied (R478): as at a boot, with the memories clear. -/
def Dev.sectionsOk (d : Dev) (b : ImageBody) : Bool :=
  match Dev.applyImage { d with mem := Memories.reset } b with
  | .ok _ => true
  | .error _ => false

/-- A directory that names the other slot is written (R478). -/
def Dev.activate (d : Dev) (f : Flash) (slot : Fin 2) (lenA lenB : Nat) : Dev :=
  (d.setReg Obj.NEXT_SLOT slot.val).modPower fun p => { p with flash := some (flashActivate f slot lenA lenB), dirActive := slot.val }

/-- The slot that the directory does not name. -/
def Dev.otherSlot (d : Dev) : Fin 2 := if d.power.dirActive = 0 then 1 else 0

/-- The flash as the module knows it. -/
def Dev.flashNow (d : Dev) : Flash := d.power.flash.getD ⟨[], [], []⟩

/-- `IMAGE_UPDATE` (R478): the read-back of the new directory is complete, or a step refuses the container that passed R440. The
container goes into the slot that the directory does not name. -/
def execImageUpdate (bulk readBack : Bool) (s : State) : Host.Outcome State Fault Refusal :=
  liveAt s fun d =>
    match d.takePassed 5 bulk with
    | none => d
    | some (v, d) =>
      let d := d.setReg Obj.UPDATE_STATE 0
      let slot := d.otherSlot
      match d.imageOf v.box with
      | .error c => (d.noteSlot slot (.error c)).loadRefuse bulk 8
      | .ok b =>
        if !d.sectionsOk b || !readBack then d.loadRefuse bulk 8
        else
          let f := d.flashNow
          let n := v.box.length
          let len := fun (k : Fin 2) => if k = slot then n else (flashBox f k).length
          let f := if slot.val = 0 then { f with slotA := v.box } else { f with slotB := v.box }
          ((d.noteSlot slot (.ok b.version)).activate f slot (len 0) (len 1)).loadAnswer bulk 0 d.tick.toNat

/-- A write of IMAGE_CMD at its commit. -/
def Dev.imageCmd (d : Dev) (v : Nat) : Dev :=
  let slot := d.otherSlot
  let f := d.flashNow
  if v ≠ 1 then d.refuse Obj.IMAGE_CMD abRange
  else
    match d.imageOf (flashBox f slot) with
    | .error c => (d.noteSlot slot (.error c)).refuse Obj.IMAGE_CMD abState
    | .ok b =>
      if !d.sectionsOk b then d.refuse Obj.IMAGE_CMD abState
      else (d.accept.noteSlot slot (.ok b.version)).activate f slot (flashBox f 0).length (flashBox f 1).length

/-- `IMAGE_CMD` (R478). -/
def execImageCmd (value : BitVec 8) (s : State) : Host.Outcome State Fault Refusal := liveAt s fun d => d.imageCmd value.toNat

end Sys2Proof.Machine
end

