-- ==== Sys2Proof/Machine/Engine.lean ====
section
/-! DEFINITION. The instructions of the tick engines (Table 10-4). Each is one instruction of slot `k` of a channel. -/

namespace Sys2Proof.Machine

open Sys2Proof

/-! ## Moves and constants -/

/-- `NOP` (R288). -/
def Dev.opNop (dv : Dev) (n : ChanId) (k : Fin 8) (count : BitVec 9) : Dev :=
  dv.engAlu n k (count.toNat + 1) true fun e => e

/-- `NOP` (R288) as a command. -/
def execNop (n : ChanId) (k : Fin 8) (count : BitVec 9) (s : State) : Host.Outcome State Fault Refusal :=
  liveIn s fun dv => dv.opNop n k count

/-- `LDI` (R288). -/
def Dev.opLdi (dv : Dev) (n : ChanId) (k : Fin 8) (d : Idx16) (imm : BitVec 14) : Dev :=
  dv.engAlu n k 1 true fun e => e.put d imm.toInt

/-- `LDI` (R288) as a command. -/
def execLdi (n : ChanId) (k : Fin 8) (d : Idx16) (imm : BitVec 14) (s : State) : Host.Outcome State Fault Refusal :=
  liveIn s fun dv => dv.opLdi n k d imm

/-- `LDH` (R288): no saturation. -/
def Dev.opLdh (dv : Dev) (n : ChanId) (k : Fin 8) (d a : Idx16) (imm : BitVec 14) : Dev :=
  dv.engAlu n k 1 true fun e =>
    e.put d (((BitVec.ofInt 48 (e.x a) <<< 14) ||| imm.zeroExtend 48).toInt)

/-- `LDH` (R288) as a command. -/
def execLdh (n : ChanId) (k : Fin 8) (d a : Idx16) (imm : BitVec 14) (s : State) : Host.Outcome State Fault Refusal :=
  liveIn s fun dv => dv.opLdh n k d a imm

/-- `MOV` (R288). -/
def Dev.opMov (dv : Dev) (n : ChanId) (k : Fin 8) (d a : Idx16) : Dev :=
  dv.engAlu n k 1 true fun e => e.put d (e.x a)

/-- `MOV` (R288) as a command. -/
def execMov (n : ChanId) (k : Fin 8) (d a : Idx16) (s : State) : Host.Outcome State Fault Refusal :=
  liveIn s fun dv => dv.opMov n k d a

/-! ## Scratchpad, ports and tables -/

/-- `LD` (R293). -/
def Dev.opLd (dv : Dev) (n : ChanId) (k : Fin 8) (d b : Idx16) (region : BitVec 2) (offset : BitVec 12) : Dev :=
  let addr := scrAddress n k region.toNat offset.toNat (b.val == 0) false false ((dv.engine n k).x b)
  let cyc := (dv.engine n k).cyc
  dv.engRun n k 2 addr.isSome fun dv =>
    dv.modCh n (·.modEngine k fun e => e.put d (scrVal (dv.scrAt (stallOf n) (addr.getD 0) cyc)))

/-- `LD` (R293) as a command. -/
def execLd (n : ChanId) (k : Fin 8) (d b : Idx16) (region : BitVec 2) (offset : BitVec 12) (s : State) :
    Host.Outcome State Fault Refusal :=
  liveIn s fun dv => dv.opLd n k d b region offset

/-- `ST` (R293): a store that the program's capabilities do not grant is refused at load. -/
def Dev.opSt (dv : Dev) (n : ChanId) (k : Fin 8) (a b : Idx16) (region : BitVec 2) (offset : BitVec 12) : Dev :=
  let e := dv.engine n k
  let caps := dv.capsOf n k
  let base := (regionOf n k region.toNat).1
  let addr := scrAddress n k region.toNat offset.toNat (b.val == 0) true (capCal caps) (e.x b)
  let ok := match addr with
    | some x => storeGranted region.toNat base x caps
    | none => false
  dv.engRun n k 1 ok fun dv => dv.engStore n k (addr.getD 0) e.cyc (e.x a)

/-- `ST` (R293) as a command. -/
def execSt (n : ChanId) (k : Fin 8) (a b : Idx16) (region : BitVec 2) (offset : BitVec 12) (s : State) :
    Host.Outcome State Fault Refusal :=
  liveIn s fun dv => dv.opSt n k a b region offset

/-- `IN` (R290). -/
def Dev.opEngIn (dv : Dev) (shown : Dev) (n : ChanId) (k : Fin 8) (d : Idx16) (port : BitVec 8) : Dev :=
  let v := shown.inPort dv n port.toNat
  dv.engAlu n k 1 v.isSome fun e => e.put d (v.getD 0)

/-- `IN` (R290) as a command. -/
def execEngIn (n : ChanId) (k : Fin 8) (d : Idx16) (port : BitVec 8) (s : State) : Host.Outcome State Fault Refusal :=
  liveIn s fun dv => dv.opEngIn s.sealed.shown n k d port

/-- `OUT` (R291). -/
def Dev.opEngOut (dv : Dev) (n : ChanId) (k : Fin 8) (a : Idx16) (port : BitVec 8) : Dev :=
  dv.engRun n k 1 (outGranted port.toNat (dv.capsOf n k)) fun dv =>
    dv.modCh n fun c => c.modEng fun e => e.out port.toNat (c.eng.te[k].x a)

/-- `OUT` (R291) as a command. -/
def execEngOut (n : ChanId) (k : Fin 8) (a : Idx16) (port : BitVec 8) (s : State) : Host.Outcome State Fault Refusal :=
  liveIn s fun dv => dv.opEngOut n k a port

/-- `LUT` (R288). -/
def Dev.opLut (dv : Dev) (n : ChanId) (k : Fin 8) (d a : Idx16) (sh : BitVec 4) (base : BitVec 10) : Dev :=
  dv.engRun n k 3 true fun dv =>
    dv.modCh n (·.modEngine k fun e =>
      e.put d (dv.table (stallOf n) (base.toNat + lutIndex (e.x a) sh.toNat base.toNat)))

/-- `LUT` (R288) as a command. -/
def execLut (n : ChanId) (k : Fin 8) (d a : Idx16) (sh : BitVec 4) (base : BitVec 10) (s : State) :
    Host.Outcome State Fault Refusal :=
  liveIn s fun dv => dv.opLut n k d a sh base

/-- `LUTI` (R289). -/
def Dev.opLuti (dv : Dev) (n : ChanId) (k : Fin 8) (d a : Idx16) (sh : BitVec 4) (base : BitVec 10) : Dev :=
  dv.engRun n k 5 true fun dv =>
    dv.modCh n (·.modEngine k fun e => e.put d (dv.lutInterp (stallOf n) (e.x a) sh.toNat base.toNat))

/-- `LUTI` (R289) as a command. -/
def execLuti (n : ChanId) (k : Fin 8) (d a : Idx16) (sh : BitVec 4) (base : BitVec 10) (s : State) :
    Host.Outcome State Fault Refusal :=
  liveIn s fun dv => dv.opLuti n k d a sh base

/-! ## Arithmetic -/

/-- `ADD` (R288). -/
def Dev.opAdd (dv : Dev) (n : ChanId) (k : Fin 8) (d a b : Idx16) : Dev :=
  dv.engAlu n k 1 true fun e => e.putSat d (e.x a + e.x b)

/-- `ADD` (R288) as a command. -/
def execAdd (n : ChanId) (k : Fin 8) (d a b : Idx16) (s : State) : Host.Outcome State Fault Refusal :=
  liveIn s fun dv => dv.opAdd n k d a b

/-- `SUB` (R288). -/
def Dev.opSub (dv : Dev) (n : ChanId) (k : Fin 8) (d a b : Idx16) : Dev :=
  dv.engAlu n k 1 true fun e => e.putSat d (e.x a - e.x b)

/-- `SUB` (R288) as a command. -/
def execSub (n : ChanId) (k : Fin 8) (d a b : Idx16) (s : State) : Host.Outcome State Fault Refusal :=
  liveIn s fun dv => dv.opSub n k d a b

/-- `ADDI` (R288). -/
def Dev.opAddi (dv : Dev) (n : ChanId) (k : Fin 8) (d a : Idx16) (imm : BitVec 14) : Dev :=
  dv.engAlu n k 1 true fun e => e.putSat d (e.x a + imm.toInt)

/-- `ADDI` (R288) as a command. -/
def execAddi (n : ChanId) (k : Fin 8) (d a : Idx16) (imm : BitVec 14) (s : State) : Host.Outcome State Fault Refusal :=
  liveIn s fun dv => dv.opAddi n k d a imm

/-- `ADDW` (R288): modulo 2^48. -/
def Dev.opAddw (dv : Dev) (n : ChanId) (k : Fin 8) (d a b : Idx16) : Dev :=
  dv.engAlu n k 1 true fun e => e.put d (e.x a + e.x b)

/-- `ADDW` (R288) as a command. -/
def execAddw (n : ChanId) (k : Fin 8) (d a b : Idx16) (s : State) : Host.Outcome State Fault Refusal :=
  liveIn s fun dv => dv.opAddw n k d a b

/-- `NEG` (R288). -/
def Dev.opEngNeg (dv : Dev) (n : ChanId) (k : Fin 8) (d a : Idx16) : Dev :=
  dv.engAlu n k 1 true fun e => e.putSat d (-(e.x a))

/-- `NEG` (R288) as a command. -/
def execEngNeg (n : ChanId) (k : Fin 8) (d a : Idx16) (s : State) : Host.Outcome State Fault Refusal :=
  liveIn s fun dv => dv.opEngNeg n k d a

/-- `ABS` (R288). -/
def Dev.opEngAbs (dv : Dev) (n : ChanId) (k : Fin 8) (d a : Idx16) : Dev :=
  dv.engAlu n k 1 true fun e => e.putSat d (e.x a).natAbs

/-- `ABS` (R288) as a command. -/
def execEngAbs (n : ChanId) (k : Fin 8) (d a : Idx16) (s : State) : Host.Outcome State Fault Refusal :=
  liveIn s fun dv => dv.opEngAbs n k d a

/-- `MIN` (R288). -/
def Dev.opEngMin (dv : Dev) (n : ChanId) (k : Fin 8) (d a b : Idx16) : Dev :=
  dv.engAlu n k 1 true fun e => e.put d (min (e.x a) (e.x b))

/-- `MIN` (R288) as a command. -/
def execEngMin (n : ChanId) (k : Fin 8) (d a b : Idx16) (s : State) : Host.Outcome State Fault Refusal :=
  liveIn s fun dv => dv.opEngMin n k d a b

/-- `MAX` (R288). -/
def Dev.opEngMax (dv : Dev) (n : ChanId) (k : Fin 8) (d a b : Idx16) : Dev :=
  dv.engAlu n k 1 true fun e => e.put d (max (e.x a) (e.x b))

/-- `MAX` (R288) as a command. -/
def execEngMax (n : ChanId) (k : Fin 8) (d a b : Idx16) (s : State) : Host.Outcome State Fault Refusal :=
  liveIn s fun dv => dv.opEngMax n k d a b

/-! ## Bits, shifts and fields -/

/-- A bitwise operation of two registers. -/
def Engine.bitwise (e : Engine) (f : Word48 → Word48 → Word48) (d a b : Idx16) : Engine :=
  e.put d (f (BitVec.ofInt 48 (e.x a)) (BitVec.ofInt 48 (e.x b))).toInt

/-- `AND` (R288). -/
def Dev.opEngAnd (dv : Dev) (n : ChanId) (k : Fin 8) (d a b : Idx16) : Dev :=
  dv.engAlu n k 1 true fun e => e.bitwise (· &&& ·) d a b

/-- `AND` (R288) as a command. -/
def execEngAnd (n : ChanId) (k : Fin 8) (d a b : Idx16) (s : State) : Host.Outcome State Fault Refusal :=
  liveIn s fun dv => dv.opEngAnd n k d a b

/-- `OR` (R288). -/
def Dev.opEngOr (dv : Dev) (n : ChanId) (k : Fin 8) (d a b : Idx16) : Dev :=
  dv.engAlu n k 1 true fun e => e.bitwise (· ||| ·) d a b

/-- `OR` (R288) as a command. -/
def execEngOr (n : ChanId) (k : Fin 8) (d a b : Idx16) (s : State) : Host.Outcome State Fault Refusal :=
  liveIn s fun dv => dv.opEngOr n k d a b

/-- `XOR` (R288). -/
def Dev.opEngXor (dv : Dev) (n : ChanId) (k : Fin 8) (d a b : Idx16) : Dev :=
  dv.engAlu n k 1 true fun e => e.bitwise (· ^^^ ·) d a b

/-- `XOR` (R288) as a command. -/
def execEngXor (n : ChanId) (k : Fin 8) (d a b : Idx16) (s : State) : Host.Outcome State Fault Refusal :=
  liveIn s fun dv => dv.opEngXor n k d a b

/-- `SHL` (R288): k 0–47. -/
def Dev.opShl (dv : Dev) (n : ChanId) (k : Fin 8) (d a : Idx16) (count : BitVec 6) : Dev :=
  dv.engAlu n k 1 (decide (count.toNat ≤ 47)) fun e => e.putSat d (e.x a * 2 ^ count.toNat)

/-- `SHL` (R288) as a command. -/
def execShl (n : ChanId) (k : Fin 8) (d a : Idx16) (count : BitVec 6) (s : State) : Host.Outcome State Fault Refusal :=
  liveIn s fun dv => dv.opShl n k d a count

/-- `SHR` (R289): k 0–47. -/
def Dev.opShr (dv : Dev) (n : ChanId) (k : Fin 8) (d a : Idx16) (mode : BitVec 2) (count : BitVec 6) : Dev :=
  dv.engAlu n k 1 (decide (count.toNat ≤ 47)) fun e => e.put d (shiftRound mode.toNat (e.x a) count.toNat)

/-- `SHR` (R289) as a command. -/
def execShr (n : ChanId) (k : Fin 8) (d a : Idx16) (mode : BitVec 2) (count : BitVec 6) (s : State) :
    Host.Outcome State Fault Refusal :=
  liveIn s fun dv => dv.opShr n k d a mode count

/-- `SAT` (R288): n 2–48. -/
def Dev.opEngSat (dv : Dev) (n : ChanId) (k : Fin 8) (d a : Idx16) (width : BitVec 6) : Dev :=
  dv.engAlu n k 1 (decide (2 ≤ width.toNat) && decide (width.toNat ≤ 48)) fun e =>
    let v := satInt width.toNat (e.x a)
    (e.put d v).mark (decide (v ≠ e.x a))

/-- `SAT` (R288) as a command. -/
def execEngSat (n : ChanId) (k : Fin 8) (d a : Idx16) (width : BitVec 6) (s : State) : Host.Outcome State Fault Refusal :=
  liveIn s fun dv => dv.opEngSat n k d a width

/-- `CLAMP` (R288). -/
def Dev.opEngClamp (dv : Dev) (n : ChanId) (k : Fin 8) (d a b c : Idx16) : Dev :=
  dv.engAlu n k 1 true fun e => e.put d (min (max (e.x a) (e.x b)) (e.x c))

/-- `CLAMP` (R288) as a command. -/
def execEngClamp (n : ChanId) (k : Fin 8) (d a b c : Idx16) (s : State) : Host.Outcome State Fault Refusal :=
  liveIn s fun dv => dv.opEngClamp n k d a b c

/-- `SELS` (R288). -/
def Dev.opSels (dv : Dev) (n : ChanId) (k : Fin 8) (d a b c : Idx16) (zero : Bool) : Dev :=
  dv.engAlu n k 1 true fun e =>
    e.put d (if decide (e.x a < 0) || (zero && decide (e.x a = 0)) then e.x b else e.x c)

/-- `SELS` (R288) as a command. -/
def execSels (n : ChanId) (k : Fin 8) (d a b c : Idx16) (zero : Bool) (s : State) : Host.Outcome State Fault Refusal :=
  liveIn s fun dv => dv.opSels n k d a b c zero

/-- `EXT` (R288): msb ≥ lsb, msb ≤ 47. -/
def Dev.opExt (dv : Dev) (n : ChanId) (k : Fin 8) (d a : Idx16) (signed : Bool) (msb lsb : BitVec 6) : Dev :=
  dv.engAlu n k 1 (decide (lsb.toNat ≤ msb.toNat) && decide (msb.toNat ≤ 47)) fun e =>
    let v := natBits (unsignedOf 48 (e.x a)) msb.toNat lsb.toNat
    e.put d (if signed then signedOf (msb.toNat + 1 - lsb.toNat) v else v)

/-- `EXT` (R288) as a command. -/
def execExt (n : ChanId) (k : Fin 8) (d a : Idx16) (signed : Bool) (msb lsb : BitVec 6) (s : State) :
    Host.Outcome State Fault Refusal :=
  liveIn s fun dv => dv.opExt n k d a signed msb lsb

/-- `INS` (R288): msb ≥ lsb, msb ≤ 47 as for EXT. -/
def Dev.opIns (dv : Dev) (n : ChanId) (k : Fin 8) (d a : Idx16) (msb lsb : BitVec 6) : Dev :=
  dv.engAlu n k 1 (decide (lsb.toNat ≤ msb.toNat) && decide (msb.toNat ≤ 47)) fun e =>
    let wdt := msb.toNat + 1 - lsb.toNat
    let old := unsignedOf 48 (e.x d)
    let v := unsignedOf wdt (e.x a)
    e.put d ((old - natBits old msb.toNat lsb.toNat * 2 ^ lsb.toNat + v * 2 ^ lsb.toNat : Nat) : Int)

/-- `INS` (R288) as a command. -/
def execIns (n : ChanId) (k : Fin 8) (d a : Idx16) (msb lsb : BitVec 6) (s : State) : Host.Outcome State Fault Refusal :=
  liveIn s fun dv => dv.opIns n k d a msb lsb

/-! ## Products and accumulators -/

/-- An operand of MUL and MAC has been limited. -/
def limited24 (a b : Int) : Bool := decide (sat24 a ≠ a) || decide (sat24 b ≠ b)

/-- `MUL` (R288). -/
def Dev.opMul (dv : Dev) (n : ChanId) (k : Fin 8) (d a b : Idx16) : Dev :=
  dv.engAlu n k 2 true fun e => (e.put d (sat24 (e.x a) * sat24 (e.x b))).mark (limited24 (e.x a) (e.x b))

/-- `MUL` (R288) as a command. -/
def execMul (n : ChanId) (k : Fin 8) (d a b : Idx16) (s : State) : Host.Outcome State Fault Refusal :=
  liveIn s fun dv => dv.opMul n k d a b

/-- `MAC` (R288). -/
def Dev.opMac (dv : Dev) (n : ChanId) (k : Fin 8) (a b : Idx16) (subtract acc1 : Bool) : Dev :=
  dv.engAlu n k 1 true fun e =>
    let p := sat24 (e.x a) * sat24 (e.x b)
    let v := if subtract then e.acc acc1 - p else e.acc acc1 + p
    (e.setAcc acc1 (satInt 48 v)).mark (limited24 (e.x a) (e.x b) || decide (satInt 48 v ≠ v))

/-- `MAC` (R288) as a command. -/
def execMac (n : ChanId) (k : Fin 8) (a b : Idx16) (subtract acc1 : Bool) (s : State) : Host.Outcome State Fault Refusal :=
  liveIn s fun dv => dv.opMac n k a b subtract acc1

/-- `ACCRD` (R288). -/
def Dev.opAccrd (dv : Dev) (n : ChanId) (k : Fin 8) (d : Idx16) (clear acc1 : Bool) (mode : BitVec 2) (count : BitVec 6) :
    Dev :=
  dv.engAlu n k 1 true fun e =>
    let e' := e.put d (shiftRound mode.toNat (e.acc acc1) count.toNat)
    if clear then e'.setAcc acc1 0 else e'

/-- `ACCRD` (R288) as a command. -/
def execAccrd (n : ChanId) (k : Fin 8) (d : Idx16) (clear acc1 : Bool) (mode : BitVec 2) (count : BitVec 6) (s : State) :
    Host.Outcome State Fault Refusal :=
  liveIn s fun dv => dv.opAccrd n k d clear acc1 mode count

/-- `ACCLD` (R288). -/
def Dev.opAccld (dv : Dev) (n : ChanId) (k : Fin 8) (a : Idx16) (acc1 : Bool) : Dev :=
  dv.engAlu n k 1 true fun e => e.setAcc acc1 (e.x a)

/-- `ACCLD` (R288) as a command. -/
def execAccld (n : ChanId) (k : Fin 8) (a : Idx16) (acc1 : Bool) (s : State) : Host.Outcome State Fault Refusal :=
  liveIn s fun dv => dv.opAccld n k a acc1

/-! ## Samples, flags and faults -/

/-- `PUTS` (R294). -/
def Dev.opPuts (dv : Dev) (n : ChanId) (k : Fin 8) (a b e : Idx16) : Dev :=
  dv.engRun n k 1 true fun dv =>
    dv.modCh n fun c =>
      let x := c.eng.te[k]
      c.modEntry e (·.publish (x.x a) (BitVec.ofInt 4 (x.x b)))

/-- `PUTS` (R294) as a command. -/
def execPuts (n : ChanId) (k : Fin 8) (a b e : Idx16) (s : State) : Host.Outcome State Fault Refusal :=
  liveIn s fun dv => dv.opPuts n k a b e

/-- `TACC` (R295). -/
def Dev.opTacc (dv : Dev) (n : ChanId) (k : Fin 8) (a b e : Idx16) : Dev :=
  dv.engRun n k 1 true fun dv =>
    dv.modCh n fun c =>
      let x := c.eng.te[k]
      c.modEntry e (·.offering (x.x a) (BitVec.ofInt 4 (x.x b)))

/-- `TACC` (R295) as a command. -/
def execTacc (n : ChanId) (k : Fin 8) (a b e : Idx16) (s : State) : Host.Outcome State Fault Refusal :=
  liveIn s fun dv => dv.opTacc n k a b e

/-- `FLAG` (R297). -/
def Dev.opFlag (dv : Dev) (n : ChanId) (k : Fin 8) (a f : Idx16) : Dev :=
  dv.engRun n k 1 true fun dv =>
    dv.modCh n fun c => c.modEng (·.setFlag f.val (decide (c.eng.te[k].x a < 0)))

/-- `FLAG` (R297) as a command. -/
def execFlag (n : ChanId) (k : Fin 8) (a f : Idx16) (s : State) : Host.Outcome State Fault Refusal :=
  liveIn s fun dv => dv.opFlag n k a f

/-- `FAULT` (R297): class F2 needs FAULT2 (Table 10-13). -/
def Dev.opEngFault (dv : Dev) (n : ChanId) (k : Fin 8) (a : Idx16) (f2 : Bool) (code : BitVec 12) : Dev :=
  dv.engRun n k 1 (!f2 || capFault2 (dv.capsOf n k)) fun dv =>
    dv.modCh n fun c => c.modEng fun e =>
      if c.eng.te[k].x a < 0 then { e with faults := e.faults ++ [{ code := code.toNat, f2 := f2 }] } else e

/-- `FAULT` (R297) as a command. -/
def execEngFault (n : ChanId) (k : Fin 8) (a : Idx16) (f2 : Bool) (code : BitVec 12) (s : State) :
    Host.Outcome State Fault Refusal :=
  liveIn s fun dv => dv.opEngFault n k a f2 code

/-! ## The correlator of E6 -/

/-- Lag `l` of the correlator. -/
def Engines.lag (e : Engines) (l : Nat) : Int := e.lags.getD l 0

/-- `CORR` (R288). -/
def Dev.opCorr (dv : Dev) (n : ChanId) (k : Fin 8) (a b : Idx16) : Dev :=
  dv.engRun n k 1 (k.val == 6) fun dv =>
    dv.modCh n fun c =>
      let x := c.eng.te[k]
      if x.x b < 0 then
        let upd := (List.range 128).map fun l =>
          let v := c.eng.lag l + (if bit c.eng.chips l then -(x.x a) else x.x a)
          (satInt 48 v, decide (satInt 48 v ≠ v))
        (c.modEng fun e => { e with lags := upd.map (·.1) }).modEngine k (·.mark (upd.any (·.2)))
      else c

/-- `CORR` (R288) as a command. -/
def execCorr (n : ChanId) (k : Fin 8) (a b : Idx16) (s : State) : Host.Outcome State Fault Refusal :=
  liveIn s fun dv => dv.opCorr n k a b

/-- `CRD` (R288). -/
def Dev.opCrd (dv : Dev) (n : ChanId) (k : Fin 8) (d b : Idx16) (lag : BitVec 7) : Dev :=
  dv.engRun n k 2 (k.val == 6) fun dv =>
    dv.modCh n fun c => c.modEngine k fun e => e.put d (c.eng.lag (((lag.toNat : Int) + e.x b) % 128).toNat)

/-- `CRD` (R288) as a command. -/
def execCrd (n : ChanId) (k : Fin 8) (d b : Idx16) (lag : BitVec 7) (s : State) : Host.Outcome State Fault Refusal :=
  liveIn s fun dv => dv.opCrd n k d b lag

/-- `CCLR` (R288). -/
def Dev.opCclr (dv : Dev) (n : ChanId) (k : Fin 8) (a : Idx16) : Dev :=
  dv.engRun n k 1 (k.val == 6) fun dv =>
    dv.modCh n fun c => c.modEng fun e => if c.eng.te[k].x a < 0 then { e with lags := [] } else e

/-- `CCLR` (R288) as a command. -/
def execCclr (n : ChanId) (k : Fin 8) (a : Idx16) (s : State) : Host.Outcome State Fault Refusal :=
  liveIn s fun dv => dv.opCclr n k a

end Sys2Proof.Machine
end

