-- ==== Sys2Proof/Machine/Programs.lean ====
section
/-! DEFINITION. The programs that the engines run in a window (R282–R284, R296, R303, R304): loaded programs word by word in
their window cycles, and the default library by what its programs do at the cycles of Table 10-10 (log 50). -/

namespace Sys2Proof.Machine

open Sys2Proof

/-! ## Which program a slot runs -/

/-- Program that slot `k` of a channel runs in the present window; none where the engines are halted (R457). -/
def Dev.progIn (d : Dev) (n : ChanId) (k : Nat) : Option Nat :=
  let e := (d.ch n).eng
  if e.halted && !e.step then none
  else (sget none d.mem.sets (64 * n.val + e.setNow)).bind fun p => p.progs[k]?

/-- The program of an ID in the channel's stall. -/
def Dev.progOf (d : Dev) (n : ChanId) (id : Nat) : Option Program := sget none d.mem.progs (4096 * (stallOf n).val + id)

/-- Slot `k` runs the default library's program of an ID. -/
def Dev.runsLib (d : Dev) (n : ChanId) (k id : Nat) : Bool :=
  d.progIn n k == some id && ((d.progOf n id).map (·.lib)).getD true

/-- The words of a program with the window cycles at which they start (R282, R288). -/
def startsOf : Nat → List (BitVec 32) → List (Nat × Nat)
  | _, [] => []
  | c, w :: ws => (c, w.toNat) :: startsOf (c + opCycles w.toNat) ws

/-- The words that slot `k` has to execute in the window that ends: those of a loaded program, where no command has executed
an instruction of the engine in this window (log 30). -/
def Dev.wordsOf (d : Dev) (n : ChanId) (k : Fin 8) : List (Nat × Nat) :=
  if (d.engine n k).cyc ≠ 0 then []
  else match (d.progIn n k.val).bind (d.progOf n) with
    | none => []
    | some p => if p.lib then [] else startsOf 0 p.words

/-! ## One word (Tables 10-3, 10-4) -/

def idx16 (v : Nat) : Idx16 := ⟨v % 16, by omega⟩

/-- An instruction word of an engine is executed. -/
def Dev.engWord (dv shown : Dev) (n : ChanId) (k : Fin 8) (w : Nat) : Dev :=
  let d := idx16 (opD w)
  let a := idx16 (opA w)
  let b := idx16 (opB w)
  let c := idx16 (natBits w 3 0)
  let imm := BitVec.ofNat 14 (opImm w)
  let low6 := BitVec.ofNat 6 (natBits w 5 0)
  let mid6 := BitVec.ofNat 6 (natBits w 11 6)
  let mode := BitVec.ofNat 2 (natBits w 7 6)
  let region := BitVec.ofNat 2 (natBits w 13 12)
  let offset := BitVec.ofNat 12 (natBits w 11 0)
  let port := BitVec.ofNat 8 (natBits w 7 0)
  let sh := BitVec.ofNat 4 (natBits w 13 10)
  let base := BitVec.ofNat 10 (natBits w 9 0)
  let b13 := natBit w 13
  let b12 := natBit w 12
  match opOf w with
  | 0x00 => dv.opNop n k (BitVec.ofNat 9 (natBits w 8 0))
  | 0x01 => dv.opLdi n k d imm
  | 0x02 => dv.opLdh n k d a imm
  | 0x03 => dv.opMov n k d a
  | 0x04 => dv.opLd n k d b region offset
  | 0x05 => dv.opSt n k a b region offset
  | 0x06 => dv.opEngIn shown n k d port
  | 0x07 => dv.opEngOut n k a port
  | 0x08 => dv.opLut n k d a sh base
  | 0x09 => dv.opLuti n k d a sh base
  | 0x10 => dv.opAdd n k d a b
  | 0x11 => dv.opSub n k d a b
  | 0x12 => dv.opAddi n k d a imm
  | 0x13 => dv.opAddw n k d a b
  | 0x14 => dv.opEngNeg n k d a
  | 0x15 => dv.opEngAbs n k d a
  | 0x16 => dv.opEngMin n k d a b
  | 0x17 => dv.opEngMax n k d a b
  | 0x18 => dv.opEngAnd n k d a b
  | 0x19 => dv.opEngOr n k d a b
  | 0x1A => dv.opEngXor n k d a b
  | 0x1B => dv.opShl n k d a low6
  | 0x1C => dv.opShr n k d a mode low6
  | 0x1D => dv.opEngSat n k d a low6
  | 0x1E => dv.opEngClamp n k d a b c
  | 0x1F => dv.opSels n k d a b c (natBit w 4)
  | 0x20 => dv.opExt n k d a b13 mid6 low6
  | 0x21 => dv.opIns n k d a mid6 low6
  | 0x24 => dv.opMul n k d a b
  | 0x25 => dv.opMac n k a b b13 b12
  | 0x26 => dv.opAccrd n k d b13 b12 mode low6
  | 0x27 => dv.opAccld n k a b12
  | 0x30 => dv.opPuts n k a b c
  | 0x31 => dv.opTacc n k a b c
  | 0x32 => dv.opFlag n k a c
  | 0x33 => dv.opEngFault n k a b12 offset
  | 0x34 => dv.opCorr n k a b
  | 0x35 => dv.opCrd n k d b (BitVec.ofNat 7 (natBits w 6 0))
  | 0x36 => dv.opCclr n k a
  | _ => dv

/-- A word that other engines may read in its own cycle: a store or a publication (R292, R296). -/
def wordWrites (w : Nat) : Bool := opOf w == 0x05 || opOf w == 0x30

/-! ## The default library (R303, R304, Tables 10-10, 10-11) -/

/-- What a library program reads from a word of its channel's CHAN area in a window cycle. -/
def Dev.chanVal (d : Dev) (n : ChanId) (o cyc : Nat) : Int := scrVal (d.scrAt (stallOf n) (chanWord n o) cyc)

/-- What LB_OUTER read from a word of CHAN in the window that ended (Table 10-10). -/
def Dev.exchanged (d : Dev) (n : ChanId) (o cyc : Nat) : Int :=
  { d with mem := { d.mem with stores := d.mem.ended } : Dev }.chanVal n o cyc

/-- A library program of slot `k` stores a CHAN word in a window cycle. -/
def Dev.libStore (d : Dev) (n : ChanId) (k : Fin 8) (o cyc : Nat) (v : Int) : Dev := d.engStore n k (chanWord n o) cyc v

/-- LB_CORRECT publishes entry `j` of a converter (R294, R347). -/
def Dev.libCorrect (d : Dev) (n : ChanId) (mi : Bool) (j : Nat) : Dev :=
  let f := fun (e : Entry) => if e.pub.isSome then e else e.publish (d.correctRaw n mi e.pga e.range e.raw.toInt) 0
  d.modCh n fun c => c.modConv mi fun v => { v with entries := v.entries.modify j f }

/-- LB_TALLY offers entry `j` of a converter, if it was published (R295). -/
def Channel.libTally (c : Channel) (mi : Bool) (j : Nat) : Channel :=
  let f := fun (e : Entry) => match e.pub, e.offer with | some p, none => e.offering p.1 0 | _, _ => e
  c.modConv mi fun v => { v with entries := v.entries.modify j f }

/-- The latest sample of R304. -/
def Conv.latest (v : Conv) : Option Int :=
  (v.entries.filterMap fun e => match e.pub with
    | some p => if e.valid && !bit p.2 3 && !bit p.2 2 then some p.1 else none
    | none => none).getLast?

/-- A program sets a flag that no instruction of the window has written. -/
def Channel.libFlag (c : Channel) (f : Nat) (v : Bool) : Channel :=
  if c.eng.pflags.any (·.1 == f) then c else c.modEng (·.setFlag f v)

/-- The flags that LB_WATCH sets in every window (Table 10-15); `w` are the monitors as the commit of the window left
them. -/
def Channel.libWatch (c : Channel) (w : Vector Monitor 4) : Channel :=
  let st := c.reg Obj.STATUS
  let clr := fun (m : Idx4) => w[m].st == .clear
  let es := (c.mv.entries ++ c.mi.entries).filter (·.valid)
  let c := ((((c.libFlag 0 (clr 0 && clr 1)).libFlag 1 (clr 2 && clr 3)).libFlag 2 (w.toList.any (·.tripSeen))).libFlag 3
    (natBit st 0 || natBit st 1))
  let c := ((((c.libFlag 8 (!es.any fun e => bit e.tags 3)).libFlag 9 (natBit st 2)).libFlag 10 (natBit st 3 || natBit st 4))).libFlag
    11 (es.any fun e => bit ((e.pub.map (·.2)).getD e.tags) 2)
  c

/-- Flags 4 to 7 keep their values in a window without a latest sample (R304). -/
def Dev.libThresholds (d : Dev) (n : ChanId) : Dev :=
  let p := fun (o : Nat) => d.chanVal n o 303
  d.modCh n fun c =>
    let c := match c.mi.latest with
      | some v => (c.libFlag 4 (decide (p 0xA2 ≤ v))).libFlag 5 (decide (v ≤ p 0xA3))
      | none => c
    match c.mv.latest with
    | some v => (c.libFlag 6 (decide (p 0xA0 ≤ v))).libFlag 7 (decide (v ≤ p 0xA1))
    | none => c

/-- LB_INTERP with INTERP_MODE 1 (Table 10-12). -/
def Dev.libInterp (d : Dev) (n : ChanId) : Dev :=
  if d.chanVal n 0xA4 63 ≠ 1 then d
  else
    let f := (d.ch n).force
    let b := (d.cfg n).bk
    let t := codeVal f.target
    let p := codeVal f.prevTarget
    d.libStore n 5 0x82 63 (p + divRound ((t - p) * (b.dwellDone + 1)) (stDwell b.word.toNat))

/-- LB_FEED: the mean sine term over the acquisitions of the previous tick; the manual gives no formula for a running sine:
a free value (log 5). -/
def Dev.libFeed (d : Dev) (n : ChanId) : Dev :=
  if (d.ch n).sine.on then
    let x := d.fresh
    x.2.libStore n 1 0x81 87 (signedOf 48 x.1)
  else d.libStore n 1 0x81 87 0

/-- What the default programs of a channel do in a window cycle (Table 10-10). -/
def Dev.libCycle (d shown : Dev) (n : ChanId) (c : Nat) : Dev :=
  let put := fun (first : Nat) => decide (first ≤ c) && decide (c < first + 96) && (c - first) % 12 == 0
  let d := if c = 3 && d.runsLib n 6 6 then d.libStore n 6 0x80 3 (d.ch n).lw.chip else d
  let d := if put 27 && d.runsLib n 2 2 then d.libCorrect n false ((c - 27) / 12) else d
  let d := if put 123 && d.runsLib n 2 2 then d.libCorrect n true ((c - 123) / 12) else d
  let d := if c = 63 && d.runsLib n 5 5 then d.libInterp n else d
  let d := if c = 87 && d.runsLib n 1 1 then d.libFeed n else d
  let d := if c = 230 && d.runsLib n 0 0 then
      let x := d.fresh
      x.2.engStore n 0 (0x1800 + 0x20 * posOf n) 230 (signedOf 48 x.1)
    else d
  let d := if 209 ≤ c && c < 257 && (c - 209) % 3 == 0 && d.runsLib n 3 3 then
      d.modCh n (·.libTally (decide (233 ≤ c)) ((c - 209) / 3 % 8))
    else d
  if c = 303 && d.runsLib n 4 4 then (d.modCh n (·.libWatch (shown.ch n).wm)).libThresholds n else d

/-! ## The window -/

/-- Cycles of the window in which a default program acts (Table 10-10). -/
def libActs (c : Nat) : Bool :=
  c == 3 || c == 63 || c == 87 || c == 230 || c == 303 || (decide (27 ≤ c) && decide (c < 219) && (c - 27) % 12 == 0) ||
  (decide (209 ≤ c) && decide (c < 257) && (c - 209) % 3 == 0)

/-- Every engine, in ascending TE number, that executes words in the window that ends. -/
def Dev.programs (d : Dev) : List (ChanId × Fin 8 × List (Nat × Nat)) :=
  (List.finRange 64).flatMap fun n => (List.finRange 8).filterMap fun k =>
    let ws := d.wordsOf n k
    if ws.isEmpty then none else some (n, k, ws)

/-- One window cycle: first what a read in the same cycle returns, stores and publications, then every other word (R292,
R296). -/
def Dev.windowCycle (d shown : Dev) (ps : List (ChanId × Fin 8 × List (Nat × Nat))) (c : Nat) : Dev :=
  let d := if libActs c then d.eachCh fun d n => d.libCycle shown n c else d
  let pass := fun (writes : Bool) (d : Dev) => ps.foldl (fun d p => match p.2.2.lookup c with
    | some w => if wordWrites w == writes then d.engWord shown p.1 p.2.1 w else d
    | none => d) d
  pass false (pass true d)

/-- The engines run their programs in the window that ends (R282): `shown` is what the commit of its tick left. -/
def Dev.runWindow (d shown : Dev) : Dev :=
  let ps := d.programs
  (List.range 480).foldl (fun d c => d.windowCycle shown ps c) d

end Sys2Proof.Machine
end

