-- ==== Sys2Proof/Machine/Window.lean ====
section
/-! DEFINITION. The engine window that a commit ends (R283–R298): taking its outputs over, and discarding it. -/

namespace Sys2Proof.Machine

open Sys2Proof

/-! ## Taking a window over (R284, R291, R297) -/

/-- Output ports that the window wrote take effect (Table 10-6); SETPT waits for the setpoint (R285). -/
def Channel.takePorts (c : Channel) (now : Tick) : Channel :=
  let outs := c.eng.outs
  let ports := outs.foldl (fun (m : SMap Int) p => sput 0 m p.1 p.2) c.eng.ports
  let c := c.modEng fun e => { e with ports := ports }
  let c := if (outs.lookup 0x81).isSome then c.setReg Obj.TARGET (unsignedOf 8 (sget 0 ports 0x81)) else c
  let c := match outs.lookup 0x84 with
    | none => c
    | some v =>
      let w := unsignedOf 48 v
      if !natBit w 19 then c
      else
        let t := (sget 0 ports 0x81).toNat
        let c := { c with lw := { c.lw with targets := (t :: c.lw.targets).take 2 } }
        let c := (c.setReg Obj.C_EST (unsignedOf 32 (sget 0 ports 0x83))).setReg Obj.ESR_EST (natBits w 15 0)
        ((c.setReg Obj.EST_FLAGS (natBits w 18 16)).setReg Obj.EST_TICK now.toNat).inc 32 Obj.EST_COUNT
  match outs.lookup 0x85 with
  | none => c
  | some v =>
    let w := unsignedOf 48 v
    let put := fun (x : Nat) => unsignedOf 16 (satInt 16 (signedOf 24 x))
    (c.setReg Obj.OW_D_SNSH (put (natBits w 47 24))).setReg Obj.OW_D_SNSL (put (natBits w 23 0))

/-- The latest samples that R127 would take, with the window's tick, in 10 nV and 10 pA (R146). -/
def Channel.noteSamples (c : Channel) (t : Tick) : Channel :=
  let f := fun (mi : Bool) (old : Option (Tick × Int)) =>
    match (olEntries (c.conv mi)).getLast? with
    | some (e, v) => some (t, v * ((if mi then lsbI e.range else lsbV e.range : Nat) : Int))
    | none => old
  { c with ol := { c.ol with lastV := f false c.ol.lastV, lastI := f true c.ol.lastI } }

/-- Update one of a list of sums, with as many zero ones before it as are missing. -/
def modSums (l : List LwSums) (p : Nat) (f : LwSums → LwSums) : List LwSums :=
  (l ++ List.replicate (p + 1 - l.length) LwSums.zero).modify p f

/-- Load watch judges the first MI sample that the measure plan made in each probe tick (R24, R132); a tick whose window has
passed has none. -/
def Channel.judgeProbes (c : Channel) (now : Tick) : Channel :=
  let first := fun (t : Tick) => c.mi.entries.find? fun e => e.valid && e.src == 0 && e.stamp == t
  c.lw.ticks.foldr (fun p c =>
    let done := fun (w : LoadWatch) => { w with ticks := w.ticks.filter (· != p) }
    match first p.1 with
    | some e =>
      (match e.pub with
       | some v =>
         if bit e.tags 3 || e.spoilt then { c with lw := done c.lw }
         else
           let i := v.1 * (lsbI e.range : Nat)
           { c with lw := { (done c.lw) with sums := modSums c.lw.sums (p.2.1 / 254) (·.take p.2.2 i) } }
       | none => { c with lw := done c.lw })
    | none => if ticksFrom p.1 now ≤ 4 then c else { c with lw := done c.lw }) c

/-- Entries that the window of the present tick presents (R292). -/
def Channel.nextEntries (c : Channel) : Channel :=
  let f := fun (v : Conv) => { v with entries := v.next, next := [] }
  (c.modConv false f).modConv true f

/-- A tick in which an engine of the channel saturated (R289). -/
def Dev.countSat (d : Dev) (n : ChanId) : Dev :=
  if (d.ch n).eng.te.toList.any (·.sat) then d.cinc n 32 Obj.ENG_SAT else d

/-- The values of a window that a system calibration point takes: those of its measuring ticks, as they stand before the system
stage, and their tags (R361, R362). -/
def Dev.sysTake (d : Dev) (n : ChanId) : Dev :=
  match d.cal.point with
  | none => d
  | some (m, mi, _, _) =>
    if m != n || d.cal.sys != .measuring then d
    else
      let first := d.cal.begun + BitVec.ofNat 48 (d.reg Obj.SYSCAL_SETTLE)
      let es := ((d.ch n).conv mi).entries.filter fun e => e.valid && e.src == 0 && !e.inHeld && reached e.stamp first &&
        (decide (d.cal.meas < 256) || reached (d.cal.measEnd - 1) e.stamp)
      { d with cal := { d.cal with
          taken := d.cal.taken ++ es.map fun e => (e.stamp, d.background n mi e.pga e.range e.raw.toInt),
          tagged := d.cal.tagged || es.any fun e => ((e.pub.map (·.2)).getD e.tags) != 0 } }

/-- The commit takes over the window that ends. -/
def Dev.takeWindow (d : Dev) (n : ChanId) : Dev :=
  let e := (d.ch n).eng
  let flags := e.pflags.foldl (fun f p => putBit f p.1 p.2) e.flags
  let d := d.modCh n fun c => (c.modEng fun e => { e with flags := flags }).takePorts d.tick
  let d := if flags ≠ e.flags then d.trace (some n) .flags else d
  let d := e.faults.foldl (fun d f => d.raiseCh 0x0801 (if f.f2 then 2 else 1) n f.code) d
  let d := (d.countSat n).sysTake n
  let d := d.modCh n (·.tallyWindow)
  let d := (List.finRange 4).foldl (fun d m =>
    d.wmPlausible n m ((olEntries ((d.ch n).conv (wmIsI m))).map fun x => (x.1.stamp, x.2))) d
  let watch := d.runsLib n 6 6
  d.modCh n fun c =>
    let c := c.noteSamples (d.tick - 1)
    if !watch then c
    else
      let c := c.judgeProbes d.tick
      if c.lw.probing then
        { c with lw := { c.lw with probes := c.lw.probes + 1, ticks := (d.tick - 1, c.lw.probes, c.eng.chips) :: c.lw.ticks } }
      else c

/-- The window that ends is discarded (R298). -/
def Dev.dropWindow (d : Dev) (n : ChanId) : Dev :=
  let d := ((d.countSat n).undoStores n).cinc n 32 Obj.ENG_DISCARDED
  d.modCh n fun c =>
    let f := fun (v : Conv) => { v with entries := represent v.entries v.next, next := [] }
    ((c.modEng Engines.rollBack).modConv false f).modConv true f

/-- The window of the present tick opens: what a discard of it goes back to. -/
def Engines.reopen (e : Engines) : Engines :=
  let te := e.te.map fun x => { x with cyc := 0, sat := false }
  { e with te := te, saved := te, savedLags := e.lags, savedChips := e.chips, outs := [], pflags := [],
           faults := [] }

/-! ## The tick that ends -/

/-- A clamp side was engaged in the tick that ends: its samples are not taken by the outer loop or load watch (R127,
R132). -/
def Channel.spoilClamped (c : Channel) (t : Tick) : Channel :=
  if !(c.force.seenHi || c.force.seenLo) then c
  else
    let f := fun (e : Entry) => if e.stamp == t then { e with spoilt := true } else e
    let g := fun (v : Conv) => { v with
      run := v.run.map fun r => if r.start.1 == t then { r with spoilt := true } else r,
      entries := v.entries.map f, next := v.next.map f }
    (c.modConv false g).modConv true g

/-- The tick `t` that ends is covered by the open tally units (R190, R194, R201). -/
def Dev.tallyEnds (d : Dev) (n : ChanId) (inp : TickInputs) : Dev :=
  let c := d.ch n
  let f := c.force
  let i := n.val
  let flags := tickFlags (f.seenHi || f.seenLo) c.lw.probing (decide (1 ≤ (d.st (stallOf n)).derate))
    (d.isNode && d.sync.lock != .locked) (d.sync.epoch != .domain) c.rc.active (bit f.acc 2 || d.sineSaturates n (d.tick - 1))
    (c.gustIn (d.tick - 1)) (bit inp.railLag i || bit inp.outLimit i)
  d.modCh n fun c => (c.spoilClamped (d.tick - 1)).tallyTick flags (bit (d.cfg n).bk.status 7) c.lw.probing

/-- STATUS of the tick that ends (Table 3-11, R83): the bits gathered in it and those its inputs show. -/
def Dev.statusEnds (d : Dev) (n : ChanId) (inp : TickInputs) : Dev :=
  let f := (d.ch n).force
  let i := n.val
  let on := fun (v : Bool) (b : BitVec 32) => if v then b else 0
  let w := f.acc ||| on (d.sineSaturates n (d.tick - 1)) stForceSat ||| on f.seenHi stClampHi ||| on f.seenLo stClampLo ||| on (bit inp.railLag i) stRailLag |||
    on (bit inp.outLimit i) stOutLimit ||| on (decide (1 ≤ (d.st (stallOf n)).derate)) stDerated |||
    on (bit inp.share i) stShare ||| on (bit inp.senseFar i) stSenseFar
  let d := d.modCh n fun c =>
    ((c.setReg Obj.STATUS w.toNat).orReg Obj.STATUS_STICKY w.toNat).modForce fun f =>
      { f with acc := 0, latHi := f.seenHi, latLo := f.seenLo, seenHi := f.engHi, seenLo := f.engLo }
  if w = 0 then d else { d with wrote := (n.val, Obj.STATUS_STICKY) :: d.wrote }

end Sys2Proof.Machine
end

