-- ==== Sys2Proof/Machine/CommitTick.lean ====
section
/-! DEFINITION. The first part of a commit (R20): the tick that it begins (R41, R43), the records of the tick that ends, and
the engine windows that end with it (R284, R298). -/

namespace Sys2Proof.Machine

open Sys2Proof

/-! ## The tick begins -/

/-- What lasted until this commit ends on a channel; `low` and `high` are its spool's watermarks at the commit before
(R263). -/
def Channel.beginTick (c : Channel) (t : Tick) (low high : Bool) : Channel :=
  let c := (c.modForce Force.strobe).modSpool fun s => { s with wasLow := low, wasHigh := high, recent := s.recent.filter fun r => reached r.1 (t - 1) }
  let f := fun (v : Conv) => { v with begun := v.begun.filter fun x => reached x t }
  let c := (c.modConv false f).modConv true f
  if c.force.phase == .opened && reached t c.force.phaseTick then c.modForce fun f => { f with disc := false } else c

/-- LOOP_LO and LOOP_HI take the loops of the tick that ends (R319). -/
def Dev.latchLoops (d : Dev) : Dev :=
  let put := fun (d : Dev) (k lo : Nat) =>
    let v := (d.fab.loops.filter fun t => lo ≤ t && t < lo + 64).foldl (fun m t => m ||| 2 ^ (t - lo)) 0
    if v = 0 then d else { d.setReg k (d.reg k ||| v) with wrote := (64, k) :: d.wrote }
  let d := put (put d Obj.LOOP_LO 0) Obj.LOOP_HI 64
  { d with fab := { d.fab with loops := [] } }

/-- The counter counts (R41); at its wrap a new epoch generation begins (R43). -/
def Dev.countTick (d : Dev) : Dev :=
  let d := { d with tick := d.tick + 1 }
  if d.tick = 0 then (d.raiseNow 0x0101 0 .device 0xFF).modSync fun y => { y with gen := bump 8 y.gen } else d

/-- The commit begins a tick: what lasted for one tick is dropped, and F5 handlings reach their second commit (R495). -/
def Dev.beginTick (d : Dev) : Dev :=
  let low := Vector.ofFn fun (n : ChanId) => (d.spoolLow n, d.spoolHigh n)
  let d := { d with parkNow := 0, armBack := none, wrote := [], mem := { d.mem with stores := [], ended := d.mem.stores }, sec := { d.sec with tapRelease := false } }
  let d := d.countTick
  let d := { d with fab := { d.fab with fired := d.fab.firedNext, firedNext := [], steps := [], atCommit := true,
                                        outs := d.fab.outs.filter fun p => before (d.tick, 0) (addCyc p.stop 11), arrivals := d.fab.arrivals.filter fun a => reached a.2.1 d.tick,
                                        quiet := d.fab.quiet.filter fun q => reached q.2 d.tick },
                    flt := { d.flt with active := d.flt.active.filter fun a => reached a.2 d.tick } }
  let d := d.mapCh fun n c => c.beginTick d.tick low[n].1 low[n].2
  d.latchLoops.readStalls

/-! ## The tick that ends -/

/-- What the commit keeps of a channel as the tick ended: whether the window that ends is discarded (R67, R68, R298),
whether the tick was held, whether a range-change window covered it, and its setpoint. -/
structure Ending where
  discard : Bool
  held    : Bool
  rc      : Bool
  setpt   : Code20
deriving DecidableEq, Repr

/-- A channel at the end of a tick. In a gang a window discarded for any member is discarded for all (R298). -/
def Dev.ending (d : Dev) (n : ChanId) : Ending :=
  let c := d.ch n
  { discard := (d.cfg n).bk.held || (d.gangOf n).any fun m => (d.ch m).lost.isSome,
    held := bit (d.cfg n).bk.status 7, rc := c.rc.active, setpt := c.force.setpt }

/-- MEAS_STATUS of the tick that ends, and MEAS_STICKY (Table 5-12). -/
def Dev.measEnds (d : Dev) (n : ChanId) : Dev :=
  let c := d.ch n
  let ends := fun (v : Conv) => b2n (bit v.tags 2 || v.entries.any fun e => !bit e.tags 2 && (match e.pub with | some p => bit p.2 2 | none => false))
  let any := fun (i : Nat) => b2n (bit c.mv.tags i || bit c.mi.tags i)
  let sparse := fun (mi : Bool) => b2n (c.converts && (d.sysPlan n || !planFree (d.cfg n) mi c.force.plan))
  let v := ends c.mv + 2 * ends c.mi + 4 * any 3 + 8 * any 0 + 16 * any 1 + 32 * b2n (c.mv.injRan || c.mi.injRan) +
    64 * sparse false + 128 * sparse true
  let f := fun (x : Conv) => { x with tags := 0, injRan := x.injSlot.isSome }
  let d := d.modCh n fun c =>
    (((c.setReg Obj.MEAS_STATUS v).orReg Obj.MEAS_STICKY v).modConv false f).modConv true f
  if v = 0 then d else { d with wrote := (n.val, Obj.MEAS_STICKY) :: d.wrote }

/-- A tick of a system calibration point ends (R361): after the settling, ticks that are not held measure. -/
def Dev.sysEnds (d : Dev) : Dev :=
  match d.cal.point with
  | none => d
  | some (n, _) =>
    if d.cal.sys != .measuring || 256 ≤ d.cal.meas ||
        !reached (d.tick - 1) (d.cal.begun + BitVec.ofNat 48 (d.reg Obj.SYSCAL_SETTLE)) then d
    else if bit (d.cfg n).bk.status 7 then { d with cal := { d.cal with measHeld := d.cal.measHeld + 1 } }
    else
      let f := (d.ch n).force
      { d with cal := { d.cal with meas := d.cal.meas + 1, measClamp := d.cal.measClamp || f.seenHi || f.seenLo,
                                   measEnd := d.tick } }

/-- A tick of a cycle: whether the channel was PARKED, its converters idle, its monitors not OFF in it (R350–R352). -/
def Channel.bgTick (c : Channel) (t : Tick) : Channel :=
  let add := fun (m : SMap Nat) (k : Nat) (b : Bool) => if b then sput 0 m k (sget 0 m k + 1) else m
  let m := add (add (add c.cal.ticksOf 0 c.isParked) 1 (c.convIdle false t)) 2 (c.convIdle true t)
  let m := (List.finRange 4).foldl (fun m i => add m (3 + i.val) (c.wm[i].st != .off)) m
  { c with cal := { c.cal with ticksOf := m, linConvs := if c.isParked then c.cal.linConvs else 0 } }

/-- The cycle clock of background calibration stands still in a tick of a pause (R352, R355, R457). -/
def Dev.bgEnds (d : Dev) (n : ChanId) : Dev :=
  let path := !d.runsLib n 6 6
  let d := d.modCh n fun c => { c with cal := { c.cal with pausedPath := path } }
  if d.bgPaused n || d.power.state == .quiet then
    d.modCh n fun c => { c with cal := { c.cal with cycleStart := c.cal.cycleStart + 1 } }
  else d.modCh n (·.bgTick (d.tick - 1))

/-- What a tick shows of a stall, and its change of derating (R112, R113). -/
def Dev.stallEnds (d : Dev) (inp : TickInputs) (s : StallId) : Dev :=
  let x := d.st s
  let d := if 1 ≤ x.derate then d.sinc s 32 Obj.DERATE_TICKS else d
  let d := d.modSt s fun x =>
    { x with tj := (inp.tj.lookup s.val).getD x.tj, railOut := (inp.railOut >>> (4 * s.val)).setWidth 4,
             auxPort := x.auxSeen, auxSeen := [] }
  match x.derateNew with
  | none => d
  | some l => (chansOf s).foldl Dev.reclamp (d.modSt s fun x => { x with derate := l, derateNew := none })

/-- The records of the tick that ends. -/
def Dev.tickEnds (d : Dev) (inp : TickInputs) : Dev :=
  let d := d.sysEnds.eachCh fun d n => (((d.tallyEnds n inp).measEnds n).bgEnds n).statusEnds n inp
  let d := d.eachSt fun d s => d.stallEnds inp s
  d.eachCh Dev.recordDrop

/-! ## The windows that end -/

/-- The window of a channel is discarded at the present commit (R298): a SAFE entry of the commit discards it (R492). -/
def Dev.dropsWindow (d : Dev) (e : Vector Ending 64) (n : ChanId) : Bool :=
  e[n].discard || (d.gangOf n).any fun m => (d.ch m).isSafe && (d.ch m).force.safeTick == d.tick

/-- What the commit does to a monitor and to WM_STICKY (R215). -/
def Dev.monitorsEnd (d : Dev) (inp : TickInputs) (n : ChanId) : Dev :=
  let d := (List.finRange 4).foldl (fun d m => d.wmCommit n m (inp.inBand.contains (4 * n.val + m.val))) d
  let v := (d.ch n).wmStatus.toNat
  if v = 0 then d
  else { d.modCh n fun c => c.orReg Obj.WM_STICKY v with wrote := (n.val, Obj.WM_STICKY) :: d.wrote }

/-- Engines halt, resume and stop stepping at the commit (R457, R458). -/
def Dev.haltEngines (d : Dev) (shown : Dev) (n : ChanId) : Dev :=
  let e := (d.ch n).eng
  let halts := e.haltPend && (d.ch n).isParked && (shown.ch n).isParked
  let d := d.modCh n fun c => c.modEng fun e =>
    { e with step := false, resume := false, halted := (e.halted && !e.resume) || halts, haltPend := e.haltPend && !halts }
  if halts then d.clearEngines n else d

/-- The windows of every channel end. -/
def Dev.windowsEnd (d : Dev) (e : Vector Ending 64) (inp : TickInputs) (shown : Dev) : Dev :=
  let d := d.eachCh fun d n => if d.dropsWindow e n then d.dropWindow n else d.takeWindow n
  d.eachCh fun d n => (d.monitorsEnd inp n).haltEngines shown n

end Sys2Proof.Machine
end

