-- ==== Sys2Proof/Machine/Names.lean ====
section
/-! DEFINITION. The names of the objects as the object tables give them (R372): one row for each entry, or for a numbered
family of entries. Keys are as in Objects.lean. -/

namespace Sys2Proof.Machine

/-- A name, or the stem of a numbered family of names: keys from `lo` to `hi`, numbers from `base` on. -/
structure NameRow where
  lo   : Nat
  hi   : Nat
  stem : String
  base : Option Nat
deriving DecidableEq, Repr

/-- Names of device objects, part 0. -/
def devNames0 : List NameRow := [
  ⟨0x210001, 0x210001, "TICK_NOW", none⟩,
  ⟨0x210002, 0x210002, "REFCLK_STATE", none⟩,
  ⟨0x210003, 0x210003, "REFCLK_DEV", none⟩,
  ⟨0x210004, 0x210004, "REFCLK_LOSSES", none⟩,
  ⟨0x210005, 0x210005, "EPOCH_GEN", none⟩,
  ⟨0x210006, 0x210006, "EPOCH_STATE", none⟩,
  ⟨0x210007, 0x210007, "LAST_WRITE_TICK", none⟩,
  ⟨0x210101, 0x210101, "SYNC_ROLE", none⟩,
  ⟨0x210102, 0x210102, "SYNC_LEVEL", none⟩,
  ⟨0x210103, 0x210103, "SYNC_OUT_EN", none⟩,
  ⟨0x210104, 0x210104, "RET_FITTED", none⟩,
  ⟨0x210105, 0x210105, "IN_TRIM", none⟩,
  ⟨0x210201, 0x210201, "CAL_STATE", none⟩,
  ⟨0x210202, 0x210202, "LOOP_RT", none⟩,
  ⟨0x210203, 0x210203, "FWD_DELAY", none⟩,
  ⟨0x210204, 0x210204, "PARENT_DELAY", none⟩,
  ⟨0x210205, 0x210205, "LOOP_SPREAD", none⟩,
  ⟨0x210206, 0x210206, "FAIL_CODE", none⟩,
  ⟨0x210207, 0x210207, "CAL_CMD", none⟩,
  ⟨0x210301, 0x210301, "LOCK_STATE", none⟩,
  ⟨0x210302, 0x210302, "PHASE_ERR", none⟩,
  ⟨0x210303, 0x210303, "PHASE_ADJ", none⟩,
  ⟨0x210304, 0x210304, "MISSING_MARKS", none⟩,
  ⟨0x210305, 0x210305, "WORD_ERRORS", none⟩,
  ⟨0x210401, 0x210401, "START_TICK", none⟩,
  ⟨0x210402, 0x210402, "START_STATE", none⟩,
  ⟨0x210403, 0x210403, "START_REQ", none⟩,
  ⟨0x210404, 0x210404, "ABORT_REQ", none⟩,
  ⟨0x210405, 0x210405, "ARM_MASK", none⟩,
  ⟨0x210501, 0x210501, "EPOCH_REQ", none⟩,
  ⟨0x210502, 0x210502, "DC_AT_EPOCH", none⟩,
  ⟨0x210503, 0x210503, "DC_AT_MAP", none⟩,
  ⟨0x210504, 0x210504, "TICK_AT_MAP", none⟩,
  ⟨0x210601, 0x210601, "SYNC0_PHASE", none⟩,
  ⟨0x210602, 0x210602, "SYNC0_CYCLE", none⟩,
  ⟨0x210603, 0x210603, "SYNC0_STATE", none⟩,
  ⟨0x201001, 0x201001, "ARM_REQ", none⟩,
  ⟨0x201002, 0x201002, "PARK_REQ", none⟩,
  ⟨0x201003, 0x201003, "ARMED_MASK", none⟩,
  ⟨0x201004, 0x201004, "ARM_RESULT", none⟩]

/-- Names of device objects, part 1. -/
def devNames1 : List NameRow := [
  ⟨0x201005, 0x201005, "ARM_RESULT_TICK", none⟩,
  ⟨0x201101, 0x201101, "DECL_P_TOTAL", none⟩,
  ⟨0x201102, 0x201102, "DECL_I_TOTAL", none⟩,
  ⟨0x201103, 0x201103, "P_LIMIT", none⟩,
  ⟨0x201104, 0x201104, "I_LIMIT", none⟩,
  ⟨0x201105, 0x201105, "I_AGG_NOW", none⟩,
  ⟨0x201106, 0x201106, "I_AGG_PEAK", none⟩,
  ⟨0x800001, 0x800001, "FIFO_POLICY", none⟩,
  ⟨0x800002, 0x800002, "HOLD_MARK", none⟩,
  ⟨0x800003, 0x800003, "FLUSH_TICKS", none⟩,
  ⟨0x800004, 0x800004, "EXPORT_LINK", none⟩,
  ⟨0x800101, 0x800101, "FIFO_FILL", none⟩,
  ⟨0x800102, 0x800102, "FIFO_DATA", none⟩,
  ⟨0x800103, 0x800103, "FIFO_ACK", none⟩,
  ⟨0x800104, 0x800104, "HEAD_INDEX", none⟩,
  ⟨0x800105, 0x800105, "FIFO_DROPPED", none⟩,
  ⟨0x800106, 0x800106, "FIFO_HOLD_TICKS", none⟩,
  ⟨0x800201, 0x800201, "RES_SESSION_ID", none⟩,
  ⟨0x800202, 0x800202, "RES_SESSION_CMD", none⟩,
  ⟨0x800203, 0x800203, "NEXT_RECORD_SEQ", none⟩,
  ⟨0x800204, 0x800204, "NEXT_BLOCK_SEQ", none⟩,
  ⟨0x230001, 0x230001, "LEDGER_STEPS", none⟩,
  ⟨0x230002, 0x230002, "DIR_ENTRIES", none⟩,
  ⟨0x230003, 0x230003, "DIR_SEL", none⟩,
  ⟨0x230004, 0x230004, "DIR_ENTRY", none⟩,
  ⟨0x230005, 0x230005, "DIR_VALID", none⟩,
  ⟨0x230006, 0x230006, "DIR_REFUSED", none⟩,
  ⟨0x230101, 0x230101, "SPOOL_LOW_MASK", none⟩,
  ⟨0x230102, 0x230102, "SPOOL_HIGH_MASK", none⟩,
  ⟨0x230103, 0x230103, "SPOOL_DRY_MASK", none⟩,
  ⟨0x230104, 0x230104, "REFILL_GRANULES", none⟩,
  ⟨0x224001, 0x224008, "MKO_SRC_", some 0⟩,
  ⟨0x224009, 0x224009, "MKO_RUN", none⟩,
  ⟨0x22400A, 0x22400A, "MKO_MODE_NOW", none⟩,
  ⟨0x260001, 0x260001, "ENG_TOTAL", none⟩,
  ⟨0x260002, 0x260002, "LIB_ID", none⟩,
  ⟨0x260003, 0x260003, "LOAD_RESULT", none⟩,
  ⟨0x260004, 0x260004, "LOAD_DETAIL", none⟩,
  ⟨0x260005, 0x260005, "LOAD_TICK", none⟩,
  ⟨0x260006, 0x260006, "LOADS_REFUSED", none⟩]

/-- Names of device objects, part 2. -/
def devNames2 : List NameRow := [
  ⟨0x260101, 0x260101, "PSET_SEL", none⟩,
  ⟨0x260102, 0x260102, "PSET_STATE", none⟩,
  ⟨0x260103, 0x260103, "PSET_PROGS", none⟩,
  ⟨0x260104, 0x260104, "PSET_CYCLES", none⟩,
  ⟨0x260105, 0x260105, "PSET_CMD", none⟩,
  ⟨0x260201, 0x260208, "PROG_WORDS_", some 0⟩,
  ⟨0x260209, 0x260210, "PROG_IDS_", some 0⟩,
  ⟨0x260301, 0x260301, "ENG_SEL", none⟩,
  ⟨0x260302, 0x260302, "PSET_NOW", none⟩,
  ⟨0x260303, 0x260303, "ENG_FLAGS", none⟩,
  ⟨0x260304, 0x260304, "ENG_SAT", none⟩,
  ⟨0x260305, 0x260305, "ENG_COLLIDE", none⟩,
  ⟨0x260306, 0x260306, "ENG_REFETCH", none⟩,
  ⟨0x260307, 0x260307, "ENG_DISCARDED", none⟩,
  ⟨0x262001, 0x262001, "SCR_ADDR", none⟩,
  ⟨0x262002, 0x262002, "SCR_DATA", none⟩,
  ⟨0x220001, 0x220001, "TETHER_COUNT", none⟩,
  ⟨0x220002, 0x220002, "TICK_DIV", none⟩,
  ⟨0x220003, 0x220003, "TICK_PHASE", none⟩,
  ⟨0x220004, 0x220004, "FAULT_MIN", none⟩,
  ⟨0x220005, 0x220005, "LOCK_LO", none⟩,
  ⟨0x220006, 0x220006, "LOCK_HI", none⟩,
  ⟨0x220007, 0x220007, "LOOP_LO", none⟩,
  ⟨0x220008, 0x220008, "LOOP_HI", none⟩,
  ⟨0x220009, 0x220009, "SUPPRESSED", none⟩,
  ⟨0x22000A, 0x22000A, "TAG_OVF", none⟩,
  ⟨0x22000B, 0x22000B, "LOCK_CMD", none⟩,
  ⟨0x221001, 0x221F40, "PROD", none⟩,
  ⟨0x222001, 0x222080, "TETH_CFG_", some 0⟩,
  ⟨0x222101, 0x222180, "TETH_FIRES_", some 0⟩,
  ⟨0x222201, 0x222280, "TETH_LOOPS_", some 0⟩,
  ⟨0x223001, 0x223010, "EVIO_CFG_", some 0⟩,
  ⟨0x223101, 0x223110, "MUX_EVIO_", some 0⟩,
  ⟨0x223201, 0x223208, "MUX_AUX_INJ_", some 0⟩,
  ⟨0x223301, 0x223310, "EVIO_OVR_", some 0⟩,
  ⟨0x223311, 0x223320, "EVIO_MERGE_", some 0⟩,
  ⟨0x223321, 0x223328, "MKO_OVR_", some 0⟩,
  ⟨0x223329, 0x223330, "MKO_MERGE_", some 0⟩,
  ⟨0x223331, 0x223338, "AUX_INJ_MERGE_", some 0⟩,
  ⟨0x223401, 0x223401, "EVIO_LEVEL", none⟩]

/-- Names of device objects, part 3. -/
def devNames3 : List NameRow := [
  ⟨0x224101, 0x224108, "MUX_MKO_", some 0⟩,
  ⟨0x224109, 0x224110, "MKO_CFG_", some 0⟩,
  ⟨0x231001, 0x231001, "LEDGER_PAR_TRANS", none⟩,
  ⟨0x231002, 0x231002, "LEDGER_PAR_PERSIST", none⟩,
  ⟨0x231003, 0x231003, "REPLAY_COUNT", none⟩,
  ⟨0x231004, 0x231004, "REPLAY_SEL", none⟩,
  ⟨0x231005, 0x231005, "REPLAY_ENTRY", none⟩,
  ⟨0x231006, 0x231006, "REPLAY_TICK", none⟩,
  ⟨0x231007, 0x231007, "SCRUB_SWEEP_TICK", none⟩,
  ⟨0x231008, 0x231008, "LOOKAHEAD_MIN", none⟩,
  ⟨0x231009, 0x231009, "BULK_LINES", none⟩,
  ⟨0x23100A, 0x23100A, "BANK_WAIT", none⟩,
  ⟨0x23100B, 0x23100B, "LEDGER_COLLIDE", none⟩,
  ⟨0x23100C, 0x23100C, "LEDGER_SPARES", none⟩,
  ⟨0x231101, 0x231108, "PROG_PAR_TRANS_", some 0⟩,
  ⟨0x231109, 0x231110, "PROG_PAR_PERSIST_", some 0⟩,
  ⟨0x231111, 0x231118, "PROG_SPARES_", some 0⟩,
  ⟨0x231201, 0x231208, "SCR_PAR_TRANS_", some 0⟩,
  ⟨0x231209, 0x231210, "SCR_PAR_PERSIST_", some 0⟩,
  ⟨0x231211, 0x231218, "SCR_COLLIDE_", some 0⟩,
  ⟨0x231219, 0x231220, "SCR_SPARES_", some 0⟩,
  ⟨0x231301, 0x231301, "MARCH_EN", none⟩,
  ⟨0x231302, 0x231302, "MARCH_PERIOD", none⟩,
  ⟨0x231303, 0x231303, "MARCH_PASSES", none⟩,
  ⟨0x231304, 0x231304, "MARCH_RELEASES", none⟩,
  ⟨0x231305, 0x231305, "MARCH_FAILS", none⟩,
  ⟨0x231306, 0x231306, "MARCH_LAST_FAIL", none⟩,
  ⟨0x231401, 0x231401, "ENG_STALL_MAX", none⟩,
  ⟨0x231402, 0x231402, "STALL_DISCARDS", none⟩,
  ⟨0x240001, 0x240001, "CAL_SEL", none⟩,
  ⟨0x240002, 0x240002, "BG_STATUS", none⟩,
  ⟨0x240003, 0x240003, "BG_CYCLE_TICK", none⟩,
  ⟨0x240004, 0x240004, "BG_CYCLES", none⟩,
  ⟨0x240005, 0x240005, "BG_STEPS", none⟩,
  ⟨0x240006, 0x240006, "LIN_TICK", none⟩,
  ⟨0x240007, 0x240007, "LIN_INL_MAX", none⟩,
  ⟨0x240101, 0x240101, "BG_CHECK_TICK", none⟩,
  ⟨0x240102, 0x240102, "BG_INSUFFICIENT", none⟩,
  ⟨0x240103, 0x240103, "BG_SPREAD_CNT", none⟩,
  ⟨0x241001, 0x241001, "SYSCAL_CH", none⟩]

/-- Names of device objects, part 4. -/
def devNames4 : List NameRow := [
  ⟨0x241002, 0x241002, "SYSCAL_QTY", none⟩,
  ⟨0x241003, 0x241003, "SYSCAL_RPAIR", none⟩,
  ⟨0x241004, 0x241004, "SYSCAL_SETPT", none⟩,
  ⟨0x241005, 0x241005, "SYSCAL_SETTLE", none⟩,
  ⟨0x241006, 0x241006, "SYSCAL_TRUE", none⟩,
  ⟨0x241007, 0x241007, "SYSCAL_CMD", none⟩,
  ⟨0x241008, 0x241008, "SYSCAL_STATE", none⟩,
  ⟨0x241009, 0x241009, "SYSCAL_ABORT", none⟩,
  ⟨0x24100A, 0x24100A, "SYSCAL_WAIT", none⟩,
  ⟨0x24100B, 0x24100B, "SYSCAL_MEAN", none⟩,
  ⟨0x24100C, 0x24100C, "SYSCAL_SD", none⟩,
  ⟨0x24100D, 0x24100D, "SYSCAL_RESULT_TICK", none⟩,
  ⟨0x242001, 0x242001, "SYS_SEQ", none⟩,
  ⟨0x242002, 0x242002, "SYS_BANK", none⟩,
  ⟨0x242003, 0x242003, "SNAP_SEQ", none⟩,
  ⟨0x242004, 0x242004, "SNAP_BANK", none⟩,
  ⟨0x242005, 0x242005, "STORE_STATUS", none⟩,
  ⟨0x242006, 0x242006, "ENTRY_SEL", none⟩,
  ⟨0x242007, 0x242007, "SYS_ENTRY", none⟩,
  ⟨0x242008, 0x242008, "SYS_COMMITS", none⟩,
  ⟨0x100000, 0x100000, "DEVICE_TYPE", none⟩,
  ⟨0x100800, 0x100800, "DEVICE_NAME", none⟩,
  ⟨0x100900, 0x100900, "HW_VERSION", none⟩,
  ⟨0x100A00, 0x100A00, "SW_VERSION", none⟩,
  ⟨0x101001, 0x101001, "STORE_PARAMS", none⟩,
  ⟨0x101101, 0x101101, "RESTORE_DEFAULTS", none⟩,
  ⟨0x101801, 0x101801, "VENDOR_ID", none⟩,
  ⟨0x101802, 0x101802, "PRODUCT_CODE", none⟩,
  ⟨0x101803, 0x101803, "REVISION", none⟩,
  ⟨0x101804, 0x101804, "SERIAL", none⟩,
  ⟨0x160000, 0x160700, "RXPDO_COUNT_", some 0⟩,
  ⟨0x160001, 0x160740, "RXPDO_MAP", none⟩,
  ⟨0x1A0000, 0x1A0700, "TXPDO_COUNT_", some 0⟩,
  ⟨0x1A0001, 0x1A0740, "TXPDO_MAP", none⟩,
  ⟨0x1C0001, 0x1C0004, "SM_TYPE_", some 0⟩,
  ⟨0x1C1200, 0x1C1208, "RXPDO_ASSIGN", none⟩,
  ⟨0x1C1300, 0x1C1308, "TXPDO_ASSIGN", none⟩,
  ⟨0x1C3201, 0x1C3201, "OUT_SYNC_MODE", none⟩,
  ⟨0x1C3202, 0x1C3202, "OUT_CYCLE_TIME", none⟩,
  ⟨0x1C3204, 0x1C3204, "OUT_MODES", none⟩]

/-- Names of device objects, part 5. -/
def devNames5 : List NameRow := [
  ⟨0x1C3205, 0x1C3205, "OUT_MIN_CYCLE", none⟩,
  ⟨0x1C3206, 0x1C3206, "OUT_CALC_COPY", none⟩,
  ⟨0x1C320B, 0x1C320B, "SM_EVENT_MISSED", none⟩,
  ⟨0x1C320C, 0x1C320C, "CYCLE_TOO_SMALL", none⟩,
  ⟨0x1C3220, 0x1C3220, "SYNC_ERROR", none⟩,
  ⟨0x1C3301, 0x1C3301, "IN_SYNC_MODE", none⟩,
  ⟨0x1C3302, 0x1C3302, "IN_CYCLE_TIME", none⟩,
  ⟨0x1C3304, 0x1C3304, "IN_MODES", none⟩,
  ⟨0x1C3305, 0x1C3305, "IN_MIN_CYCLE", none⟩,
  ⟨0x1C3306, 0x1C3306, "IN_CALC_COPY", none⟩,
  ⟨0x200001, 0x200001, "POWER_STATE", none⟩,
  ⟨0x200002, 0x200002, "STRAP_ID", none⟩,
  ⟨0x200201, 0x200201, "PD_CMD_SEQ", none⟩,
  ⟨0x200202, 0x200202, "PD_TICK", none⟩,
  ⟨0x200203, 0x200203, "PD_CMD_ACK", none⟩,
  ⟨0x200204, 0x200204, "PD_CMD_TICK", none⟩,
  ⟨0x200205, 0x200205, "PD_WD_ACTION", none⟩,
  ⟨0x200206, 0x200206, "PD_CMD_REFUSED", none⟩,
  ⟨0x200301, 0x200340, "CH_SUMMARY_", some 0⟩,
  ⟨0x271001, 0x271001, "RESTORE_SUMMARY", none⟩,
  ⟨0x271002, 0x271002, "RESTORE_CH_MASK", none⟩,
  ⟨0x271003, 0x271003, "RESTORE_STALL_MASK", none⟩,
  ⟨0x271004, 0x271004, "RESTORE_ENTRIES", none⟩,
  ⟨0x271005, 0x271005, "RESTORE_NEW", none⟩,
  ⟨0x271006, 0x271006, "RESTORE_UNKNOWN", none⟩,
  ⟨0x271007, 0x271007, "RESTORE_QUERY", none⟩,
  ⟨0x271008, 0x271008, "RESTORE_RESULT", none⟩,
  ⟨0x271101, 0x271101, "RETAIN_WRITES", none⟩,
  ⟨0x271102, 0x271102, "RETAIN_FAILS", none⟩,
  ⟨0x271103, 0x271103, "RETAIN_MAX", none⟩,
  ⟨0x280001, 0x280001, "EC_PORT_MODE", none⟩,
  ⟨0x280002, 0x280002, "EC_LINK", none⟩,
  ⟨0x280003, 0x280003, "EC_ALIAS", none⟩,
  ⟨0x280004, 0x280004, "ESM_STATE", none⟩,
  ⟨0x280005, 0x280005, "AL_CODE", none⟩,
  ⟨0x280006, 0x280006, "ESM_CHANGES", none⟩,
  ⟨0x280007, 0x280007, "RX_ERRORS_0", none⟩,
  ⟨0x280008, 0x280008, "RX_ERRORS_1", none⟩,
  ⟨0x280009, 0x280009, "LOST_LINKS", none⟩,
  ⟨0x28000A, 0x28000A, "WD_EXPIRIES", none⟩]

/-- Names of device objects, part 6. -/
def devNames6 : List NameRow := [
  ⟨0x28000B, 0x28000B, "SYNC_ERRORS", none⟩,
  ⟨0x280101, 0x280101, "LOAD_TYPE", none⟩,
  ⟨0x280102, 0x280102, "LOAD_TARGET", none⟩,
  ⟨0x280103, 0x280103, "LOAD_FIRST", none⟩,
  ⟨0x280104, 0x280104, "LOAD_FLAGS", none⟩,
  ⟨0x280105, 0x280105, "LOAD_DATA", none⟩,
  ⟨0x280106, 0x280106, "LOAD_CMD", none⟩,
  ⟨0x280107, 0x280107, "LOAD_STATUS", none⟩,
  ⟨0x280108, 0x280108, "LOAD_BYTES", none⟩,
  ⟨0x280109, 0x280109, "LOAD_DONE_TICK", none⟩,
  ⟨0x281001, 0x281001, "PCIE_STATE", none⟩,
  ⟨0x281002, 0x281002, "PCIE_RATE", none⟩,
  ⟨0x281003, 0x281003, "PCIE_WIDTH", none⟩,
  ⟨0x281004, 0x281004, "PCIE_MAX_SPEED", none⟩,
  ⟨0x281005, 0x281005, "PCIE_EN", none⟩,
  ⟨0x281006, 0x281006, "PCIE_RETRAINS", none⟩,
  ⟨0x281007, 0x281007, "PCIE_CORR_ERRS", none⟩,
  ⟨0x281008, 0x281008, "PCIE_UNCORR_ERRS", none⟩,
  ⟨0x281009, 0x281009, "GUAR_REFILL", none⟩,
  ⟨0x281101, 0x281101, "LOADQ_STATE", none⟩,
  ⟨0x281102, 0x281102, "OBJQ_STATE", none⟩,
  ⟨0x281103, 0x281103, "EXPQ_STATE", none⟩,
  ⟨0x281104, 0x281104, "DMA_ERRORS", none⟩,
  ⟨0x500001, 0x500001, "LIFECYCLE", none⟩,
  ⟨0x500002, 0x500002, "DEVICE_FP", none⟩,
  ⟨0x500003, 0x500003, "DEV_CERT", none⟩,
  ⟨0x500004, 0x500004, "OWNER_HASH", none⟩,
  ⟨0x500005, 0x500005, "OWNER_POLICY", none⟩,
  ⟨0x500006, 0x500009, "ARB_", some 0⟩,
  ⟨0x50000A, 0x50000A, "D3_COUNT", none⟩,
  ⟨0x50000B, 0x50000B, "OWN_SLOTS", none⟩,
  ⟨0x50000C, 0x50000C, "TRUST_STATE", none⟩,
  ⟨0x500101, 0x500101, "ATTEST_NONCE", none⟩,
  ⟨0x500102, 0x500102, "ATTEST_RESP", none⟩,
  ⟨0x510001, 0x510001, "SESS_CMD", none⟩,
  ⟨0x510002, 0x510002, "SESS_STATE", none⟩,
  ⟨0x510003, 0x510003, "SESS_LINK", none⟩,
  ⟨0x510004, 0x510004, "SESS_RIGHTS", none⟩,
  ⟨0x510005, 0x510005, "SESS_DEV_OFFER", none⟩,
  ⟨0x510006, 0x510006, "SESS_HOST_OFFER", none⟩]

/-- Names of device objects, part 7. -/
def devNames7 : List NameRow := [
  ⟨0x510007, 0x510007, "SESS_FAILS", none⟩,
  ⟨0x510008, 0x510008, "SESS_CLOSE_CAUSE", none⟩,
  ⟨0x520001, 0x520001, "SEC_CONTAINER", none⟩,
  ⟨0x520002, 0x520002, "CONT_RESULT", none⟩,
  ⟨0x520003, 0x520003, "CONT_DETAIL", none⟩,
  ⟨0x520004, 0x520004, "CONT_TICK", none⟩,
  ⟨0x520005, 0x520005, "CONT_REFUSED", none⟩,
  ⟨0x521001, 0x521001, "STREAM_SEL", none⟩,
  ⟨0x521002, 0x521002, "STREAM_INFO", none⟩,
  ⟨0x521003, 0x521003, "STREAM_CTR", none⟩,
  ⟨0x521004, 0x521004, "STREAM_CMD", none⟩,
  ⟨0x530001, 0x530001, "RES_STATEMENT", none⟩,
  ⟨0x530002, 0x530002, "RES_STATEMENT_PREV", none⟩,
  ⟨0x540001, 0x540001, "SEC_POLICY", none⟩,
  ⟨0x550001, 0x550001, "DEBUG_LEVEL", none⟩,
  ⟨0x550002, 0x550002, "DEBUG_REQ", none⟩,
  ⟨0x550003, 0x550003, "DEBUG_NONCE", none⟩,
  ⟨0x550004, 0x550004, "DEBUG_PENDING", none⟩,
  ⟨0x550005, 0x550005, "DBG_HALT_REQ", none⟩,
  ⟨0x550006, 0x550006, "DBG_RESUME", none⟩,
  ⟨0x550007, 0x550007, "DBG_STEP", none⟩,
  ⟨0x550008, 0x550008, "DBG_HALTED", none⟩,
  ⟨0x550009, 0x550009, "DBG_HALT_PENDING", none⟩,
  ⟨0x55000A, 0x55000A, "BSCAN_STATE", none⟩,
  ⟨0x5F0001, 0x5F0001, "SEALED_IN", none⟩,
  ⟨0x5F0002, 0x5F0002, "SEALED_OUT", none⟩,
  ⟨0x5F0003, 0x5F0003, "SEALED_SEQ", none⟩,
  ⟨0x270001, 0x270001, "BOOT_CAUSE", none⟩,
  ⟨0x270002, 0x270002, "LAST_SHUTDOWN", none⟩,
  ⟨0x270003, 0x270003, "BOOT_COUNT", none⟩,
  ⟨0x270004, 0x270004, "T_FUSE", none⟩,
  ⟨0x270005, 0x270005, "T_IMAGE", none⟩,
  ⟨0x270006, 0x270006, "T_RETAIN", none⟩,
  ⟨0x270007, 0x270007, "T_RELEASE", none⟩,
  ⟨0x270008, 0x270008, "BUS_DELAY", none⟩,
  ⟨0x270009, 0x270009, "REBOOT_CMD", none⟩,
  ⟨0x27000A, 0x27000A, "READY_FLAGS", none⟩,
  ⟨0x27000B, 0x27000B, "READY_TICK", none⟩,
  ⟨0x270101, 0x270101, "IMAGE_STATE", none⟩,
  ⟨0x270102, 0x270102, "ACTIVE_SLOT", none⟩]

/-- Names of device objects, part 8. -/
def devNames8 : List NameRow := [
  ⟨0x270103, 0x270103, "IMAGE_VER", none⟩,
  ⟨0x270104, 0x270104, "SLOT_A_VER", none⟩,
  ⟨0x270105, 0x270105, "SLOT_B_VER", none⟩,
  ⟨0x270106, 0x270106, "NEXT_SLOT", none⟩,
  ⟨0x270107, 0x270107, "IMAGE_FAIL", none⟩,
  ⟨0x270108, 0x270108, "IMAGE_CMD", none⟩,
  ⟨0x270109, 0x270109, "UPDATE_STATE", none⟩,
  ⟨0x27010A, 0x27010A, "FLASH_ID", none⟩,
  ⟨0x27010B, 0x27010B, "FLASH_SIZE", none⟩,
  ⟨0x270201, 0x270201, "QUIET_REQ", none⟩,
  ⟨0x270202, 0x270202, "BOOT_QUIET", none⟩,
  ⟨0x270203, 0x270203, "BUS_STATE", none⟩,
  ⟨0x270204, 0x270204, "ANALOG_STATE", none⟩,
  ⟨0x270205, 0x270205, "VBUS_NOW", none⟩,
  ⟨0x270206, 0x270206, "P_IN_NOW", none⟩,
  ⟨0x270301, 0x270301, "SELFTEST_CMD", none⟩,
  ⟨0x270302, 0x270302, "SELFTEST_AT_BOOT", none⟩,
  ⟨0x270303, 0x270303, "SELFTEST_RUN", none⟩,
  ⟨0x270304, 0x270304, "SELFTEST_FAIL", none⟩,
  ⟨0x270305, 0x270305, "SELFTEST_TICK", none⟩,
  ⟨0x270306, 0x27030D, "SELFTEST_RESULT_", some 0⟩,
  ⟨0x250001, 0x250001, "FAULT_STATE", none⟩,
  ⟨0x250002, 0x250002, "SAFE_MASK", none⟩,
  ⟨0x250003, 0x250003, "LATCH_CH", none⟩,
  ⟨0x250004, 0x250004, "LATCH_STALL", none⟩,
  ⟨0x250005, 0x250005, "LATCH_DEV", none⟩,
  ⟨0x250006, 0x250006, "FAULT_CLEAR_CH", none⟩,
  ⟨0x250007, 0x250007, "FAULT_CLEAR", none⟩,
  ⟨0x250008, 0x250008, "FLT_MIN", none⟩,
  ⟨0x250009, 0x250009, "FQ_FILL", none⟩,
  ⟨0x25000A, 0x25000A, "FQ_OVF", none⟩,
  ⟨0x25000B, 0x25000B, "LAST_F5_TICK", none⟩,
  ⟨0x25000C, 0x25000C, "LAST_F5_CODE", none⟩,
  ⟨0x25000D, 0x25000D, "SAFE_ENTRIES", none⟩,
  ⟨0x250101, 0x250106, "FAULT_CNT_F", some 0⟩,
  ⟨0x250201, 0x250201, "FLOG_NEXT_SEQ", none⟩,
  ⟨0x250202, 0x250202, "FLOG_SEL", none⟩,
  ⟨0x250203, 0x250203, "FLOG_DATA", none⟩,
  ⟨0x250204, 0x250204, "FLOG_LOST", none⟩,
  ⟨0x250301, 0x250301, "VLOG_NEXT_SEQ", none⟩]

/-- Names of device objects, part 9. -/
def devNames9 : List NameRow := [
  ⟨0x250302, 0x250302, "VLOG_SEL", none⟩,
  ⟨0x250303, 0x250303, "VLOG_DATA", none⟩,
  ⟨0x250304, 0x250304, "VLOG_LOST", none⟩,
  ⟨0x250401, 0x250401, "HIST_FILL", none⟩,
  ⟨0x250402, 0x250402, "HIST_SEL", none⟩,
  ⟨0x250403, 0x250403, "HIST_DATA", none⟩,
  ⟨0x250404, 0x250404, "HIST_CLEAR", none⟩,
  ⟨0x250501, 0x250501, "RECOV_EVENTS", none⟩,
  ⟨0x250502, 0x250502, "RECOV_HELD", none⟩,
  ⟨0x250503, 0x250503, "RECOV_LAST_TICK", none⟩,
  ⟨0x250504, 0x250504, "RECOV_LAST_CODE", none⟩]

/-- Names of the device objects. -/
def devNames : List NameRow :=
  devNames0 ++ devNames1 ++ devNames2 ++ devNames3 ++ devNames4 ++ devNames5 ++ devNames6 ++ devNames7 ++ devNames8 ++ devNames9

/-- Names of channel objects, part 0. -/
def chNames0 : List NameRow := [
  ⟨0x1, 0x1, "CH_STATE", none⟩,
  ⟨0x2, 0x2, "FORCE_MODE", none⟩,
  ⟨0x3, 0x3, "SETPOINT_NOW", none⟩,
  ⟨0x4, 0x4, "RPAIR_NOW", none⟩,
  ⟨0x5, 0x5, "STATUS", none⟩,
  ⟨0x6, 0x6, "STATUS_STICKY", none⟩,
  ⟨0x101, 0x101, "ARM_MODE", none⟩,
  ⟨0x102, 0x102, "START_MODE", none⟩,
  ⟨0x103, 0x103, "PARK_RAMP", none⟩,
  ⟨0x104, 0x104, "INTERP", none⟩,
  ⟨0x201, 0x201, "DECL_V", none⟩,
  ⟨0x202, 0x202, "DECL_I", none⟩,
  ⟨0x301, 0x301, "HEADROOM", none⟩,
  ⟨0x401, 0x410, "RPAIR_", some 0⟩,
  ⟨0x501, 0x501, "SAFE_POLICY", none⟩,
  ⟨0x502, 0x502, "SAFE_RAMP", none⟩,
  ⟨0x503, 0x503, "SAFE_CLAMP_HI", none⟩,
  ⟨0x504, 0x504, "SAFE_CLAMP_LO", none⟩,
  ⟨0x601, 0x601, "GANG_ROLE", none⟩,
  ⟨0x602, 0x602, "GANG_LEADER", none⟩,
  ⟨0x603, 0x603, "GANG_SIZE", none⟩,
  ⟨0x604, 0x604, "SHARE_DEV", none⟩,
  ⟨0x701, 0x701, "SENSE_MODE", none⟩,
  ⟨0x702, 0x702, "GUARD_EN", none⟩,
  ⟨0x801, 0x801, "OL_SHIFT", none⟩,
  ⟨0x802, 0x802, "CORR_LIM", none⟩,
  ⟨0x803, 0x803, "CORR_NOW", none⟩,
  ⟨0x804, 0x804, "SLEW", none⟩,
  ⟨0x805, 0x805, "ZOUT", none⟩,
  ⟨0x901, 0x901, "COMP_MODE", none⟩,
  ⟨0x902, 0x902, "COMP_FIXED", none⟩,
  ⟨0x903, 0x903, "COMP_INIT", none⟩,
  ⟨0x904, 0x904, "COMP_MIN", none⟩,
  ⟨0x905, 0x905, "COMP_MAX", none⟩,
  ⟨0x906, 0x906, "COMP_NOW", none⟩,
  ⟨0x907, 0x907, "COMP_STATE", none⟩,
  ⟨0x908, 0x908, "TAIL_DROPS", none⟩,
  ⟨0x909, 0x909, "LAST_MOVE_TICK", none⟩,
  ⟨0x90A, 0x90A, "COMP_RS", none⟩,
  ⟨0xA01, 0xA01, "LW_EN", none⟩]

/-- Names of channel objects, part 1. -/
def chNames1 : List NameRow := [
  ⟨0xA02, 0xA02, "C_EST", none⟩,
  ⟨0xA03, 0xA03, "ESR_EST", none⟩,
  ⟨0xA04, 0xA04, "EST_FLAGS", none⟩,
  ⟨0xA05, 0xA05, "EST_TICK", none⟩,
  ⟨0xA06, 0xA06, "TARGET", none⟩,
  ⟨0xA07, 0xA07, "EST_COUNT", none⟩,
  ⟨0xA08, 0xA08, "EST_DISCARDS", none⟩,
  ⟨0xB01, 0xB01, "RC_STATE", none⟩,
  ⟨0xB02, 0xB02, "RC_COUNT", none⟩,
  ⟨0xB03, 0xB03, "RC_LAST_TICK", none⟩,
  ⟨0x3A01, 0x3A01, "GUST_ARMED", none⟩,
  ⟨0x3A02, 0x3A02, "GUST_ARM_CMD", none⟩,
  ⟨0x3A03, 0x3A03, "GUST_COUNT", none⟩,
  ⟨0x3A04, 0x3A04, "GUST_LAST_TICK", none⟩,
  ⟨0x3A05, 0x3A05, "GUST_SUPPRESSED", none⟩,
  ⟨0x3A06, 0x3A06, "GUST_REFUSED", none⟩,
  ⟨0x3B01, 0x3B10, "GUST_TIMING_", some 0⟩,
  ⟨0x3C01, 0x3C10, "GUST_INFO_", some 0⟩,
  ⟨0x1001, 0x1001, "MPLAN_NOW", none⟩,
  ⟨0x1002, 0x1002, "MEAS_STATUS", none⟩,
  ⟨0x1003, 0x1003, "MEAS_STICKY", none⟩,
  ⟨0x1101, 0x1110, "MPLAN_HDR_", some 0⟩,
  ⟨0x1201, 0x1210, "MV_TIMING_", some 0⟩,
  ⟨0x1301, 0x1310, "MI_TIMING_", some 0⟩,
  ⟨0x1401, 0x1480, "MV_SLOT", none⟩,
  ⟨0x1501, 0x1580, "MI_SLOT", none⟩,
  ⟨0x1601, 0x1601, "MV_INJ_CTRL", none⟩,
  ⟨0x1602, 0x1605, "MV_INJ_SLOT_", some 0⟩,
  ⟨0x1701, 0x1701, "MI_INJ_CTRL", none⟩,
  ⟨0x1702, 0x1705, "MI_INJ_SLOT_", some 0⟩,
  ⟨0x1801, 0x1801, "MV_REG_QUAL", none⟩,
  ⟨0x1803, 0x1803, "MI_REG_QUAL", none⟩,
  ⟨0x1805, 0x1805, "MV_INJ_QUAL", none⟩,
  ⟨0x1807, 0x1807, "MI_INJ_QUAL", none⟩,
  ⟨0x1802, 0x1802, "MV_REG_WIDTH", none⟩,
  ⟨0x1804, 0x1804, "MI_REG_WIDTH", none⟩,
  ⟨0x1806, 0x1806, "MV_INJ_WIDTH", none⟩,
  ⟨0x1808, 0x1808, "MI_INJ_WIDTH", none⟩,
  ⟨0x1901, 0x1901, "OW_EN", none⟩,
  ⟨0x1902, 0x1902, "OW_LIMIT", none⟩]

/-- Names of channel objects, part 2. -/
def chNames2 : List NameRow := [
  ⟨0x1903, 0x1903, "OW_ACTION", none⟩,
  ⟨0x1904, 0x1904, "OW_RESULT", none⟩,
  ⟨0x1905, 0x1905, "OW_D_SNSH", none⟩,
  ⟨0x1906, 0x1906, "OW_D_SNSL", none⟩,
  ⟨0x1907, 0x1907, "OW_LAST_TICK", none⟩,
  ⟨0x1908, 0x1908, "OW_COUNT", none⟩,
  ⟨0x1A01, 0x1A01, "MV_CONV", none⟩,
  ⟨0x1A02, 0x1A02, "MI_CONV", none⟩,
  ⟨0x1A03, 0x1A03, "MV_OVR", none⟩,
  ⟨0x1A04, 0x1A04, "MI_OVR", none⟩,
  ⟨0x1A05, 0x1A05, "MV_SKIP_INJ", none⟩,
  ⟨0x1A06, 0x1A06, "MI_SKIP_INJ", none⟩,
  ⟨0x1A07, 0x1A07, "MV_SKIP_CAL", none⟩,
  ⟨0x1A08, 0x1A08, "MI_SKIP_CAL", none⟩,
  ⟨0x1A09, 0x1A09, "UNSETTLED_CNT", none⟩,
  ⟨0x1A0A, 0x1A0A, "WIDTH_REJECT", none⟩,
  ⟨0x1A0B, 0x1A0B, "CAL_DEFERRED", none⟩,
  ⟨0x2001, 0x2010, "TALLY_CFG_", some 0⟩,
  ⟨0x2101, 0x2110, "TALLY_N_", some 0⟩,
  ⟨0x2201, 0x2210, "TALLY_FILT_", some 0⟩,
  ⟨0x2301, 0x2310, "TALLY_THR_", some 0⟩,
  ⟨0x2401, 0x2401, "TALLY_CMD", none⟩,
  ⟨0x2402, 0x2402, "TALLY_OPEN", none⟩,
  ⟨0x2403, 0x2403, "TALLY_THR_FLAGS", none⟩,
  ⟨0x2404, 0x2404, "TALLY_CLOSED", none⟩,
  ⟨0x2405, 0x2405, "TALLY_IGNORED", none⟩,
  ⟨0x2406, 0x2406, "TALLY_LATE", none⟩,
  ⟨0x2501, 0x2501, "CLOSE_EVT_MASK", none⟩,
  ⟨0x2801, 0x2804, "WM_CFG_", some 0⟩,
  ⟨0x2901, 0x2904, "WM_STATE_", some 0⟩,
  ⟨0x2905, 0x2905, "WM_STATUS", none⟩,
  ⟨0x2906, 0x2906, "WM_STICKY", none⟩,
  ⟨0x2A01, 0x2A04, "WM_CODE_", some 0⟩,
  ⟨0x2A05, 0x2A08, "WM_READBACK_", some 0⟩,
  ⟨0x2A09, 0x2A0C, "WM_RB_TICK_", some 0⟩,
  ⟨0x2B01, 0x2B04, "WM_EVENTS_", some 0⟩,
  ⟨0x2B05, 0x2B08, "WM_RESOLVED_", some 0⟩,
  ⟨0x2B09, 0x2B09, "WM_PLAUS_CNT", none⟩,
  ⟨0x2B0A, 0x2B0A, "WM_RESOLVE_MAX", none⟩,
  ⟨0x3001, 0x3001, "START_SEG", none⟩]

/-- Names of channel objects, part 3. -/
def chNames3 : List NameRow := [
  ⟨0x3002, 0x3002, "SEQ_STATE", none⟩,
  ⟨0x3003, 0x3003, "CUR_ADDR", none⟩,
  ⟨0x3004, 0x3004, "CUR_SEG", none⟩,
  ⟨0x3005, 0x3005, "DWELL_LEFT", none⟩,
  ⟨0x3006, 0x3006, "SEQ_STATUS", none⟩,
  ⟨0x3007, 0x3007, "SEQ_STICKY", none⟩,
  ⟨0x3008, 0x3008, "STEPS_PLAYED", none⟩,
  ⟨0x3101, 0x3101, "JUMP_CMD", none⟩,
  ⟨0x3102, 0x3102, "JUMP_VEC", none⟩,
  ⟨0x3103, 0x3103, "JUMP_PENDING", none⟩,
  ⟨0x3104, 0x3104, "JUMPS_TAKEN", none⟩,
  ⟨0x3105, 0x3105, "JUMP_LATE_CNT", none⟩,
  ⟨0x3106, 0x3106, "JUMP_DISCARDED", none⟩,
  ⟨0x3107, 0x3107, "LAST_JUMP_TICK", none⟩,
  ⟨0x3201, 0x3204, "HEAD_PIN_", some 0⟩,
  ⟨0x3205, 0x3205, "HEAD_STATE", none⟩,
  ⟨0x3206, 0x3209, "HEAD_FILL_TICK_", some 0⟩,
  ⟨0x3301, 0x3310, "COND_", some 0⟩,
  ⟨0x3311, 0x3311, "COND_HOST", none⟩,
  ⟨0x3401, 0x3401, "WAIT_LATCH", none⟩,
  ⟨0x3402, 0x3402, "WAIT_TIMEOUTS", none⟩,
  ⟨0x3801, 0x3801, "LOOP_DEPTH", none⟩,
  ⟨0x3802, 0x3805, "LOOP_CNT_", some 0⟩,
  ⟨0x3806, 0x3809, "LOOP_START_", some 0⟩,
  ⟨0x3501, 0x3501, "SPOOL_SEG", none⟩,
  ⟨0x3502, 0x3502, "SPOOL_STATE", none⟩,
  ⟨0x3503, 0x3503, "SPOOL_WR", none⟩,
  ⟨0x3504, 0x3504, "SPOOL_RD", none⟩,
  ⟨0x3505, 0x3505, "SPOOL_REL", none⟩,
  ⟨0x3506, 0x3506, "SPOOL_EOS", none⟩,
  ⟨0x3507, 0x3507, "SPOOL_FILL", none⟩,
  ⟨0x3508, 0x3508, "SPOOL_FREE", none⟩,
  ⟨0x3509, 0x3509, "SPOOL_CMD", none⟩,
  ⟨0x3601, 0x3601, "LOW_MARK", none⟩,
  ⟨0x3602, 0x3602, "HIGH_MARK", none⟩,
  ⟨0x3603, 0x3603, "UR_POLICY", none⟩,
  ⟨0x3604, 0x3604, "SAFE_SEG", none⟩,
  ⟨0x3605, 0x3605, "SAFE_HEAD_STATE", none⟩,
  ⟨0x3701, 0x3701, "UR_EPISODES", none⟩,
  ⟨0x3702, 0x3702, "UR_TICKS", none⟩]

/-- Names of channel objects, part 4. -/
def chNames4 : List NameRow := [
  ⟨0x3703, 0x3703, "UR_LAST_TICK", none⟩,
  ⟨0x3704, 0x3704, "UR_LAST_CAUSE", none⟩,
  ⟨0x3705, 0x3705, "SAFE_JUMPS", none⟩,
  ⟨0x3706, 0x3706, "REFILL_REFUSED", none⟩,
  ⟨0x3707, 0x3707, "FILL_MIN", none⟩,
  ⟨0x3901, 0x3901, "SINE_NOW", none⟩,
  ⟨0x3902, 0x3902, "SINE_A_NOW", none⟩,
  ⟨0x3903, 0x3903, "SINE_LOAD_TICK", none⟩,
  ⟨0x3904, 0x3904, "SINE_LOAD_SUB", none⟩,
  ⟨0x3905, 0x3905, "SINE_RESETS", none⟩,
  ⟨0x3906, 0x3906, "SINE_CMD", none⟩,
  ⟨0x3D01, 0x3D10, "SINE_FTW_", some 0⟩,
  ⟨0x3E01, 0x3E10, "SINE_AMP_", some 0⟩,
  ⟨0x3F01, 0x3F10, "SINE_PHASE_", some 0⟩,
  ⟨0x4001, 0x4001, "MUX_MV_REG", none⟩,
  ⟨0x4002, 0x4002, "MUX_MI_REG", none⟩,
  ⟨0x4003, 0x4003, "MUX_MV_INJ", none⟩,
  ⟨0x4004, 0x4004, "MUX_MI_INJ", none⟩,
  ⟨0x4005, 0x4008, "MUX_WAIT_", some 0⟩,
  ⟨0x4009, 0x4009, "MUX_JMP", none⟩,
  ⟨0x400A, 0x400A, "MUX_GUST", none⟩,
  ⟨0x400B, 0x400B, "MUX_SINE_RST", none⟩,
  ⟨0x400C, 0x400C, "MUX_HOLD", none⟩,
  ⟨0x400D, 0x401C, "MUX_TOPEN_", some 0⟩,
  ⟨0x401D, 0x402C, "MUX_TCLOSE_", some 0⟩,
  ⟨0x402D, 0x402D, "HOLD_LEN", none⟩,
  ⟨0x4101, 0x4101, "OVR_FLAGS", none⟩,
  ⟨0x4102, 0x4102, "OVR_STICKY", none⟩,
  ⟨0x4103, 0x412E, "OVR_CNT_", some 0⟩,
  ⟨0x412F, 0x415A, "MERGE_CNT_", some 0⟩]

/-- Names of the channel objects. -/
def chNames : List NameRow :=
  chNames0 ++ chNames1 ++ chNames2 ++ chNames3 ++ chNames4

/-- Names of stall objects, part 0. -/
def stNames0 : List NameRow := [
  ⟨0x801, 0x804, "RAIL_STATE_", some 0⟩,
  ⟨0x805, 0x805, "RAIL_FAULTS", none⟩,
  ⟨0x901, 0x901, "TJ", none⟩,
  ⟨0x902, 0x902, "DERATE_LEVEL", none⟩,
  ⟨0x903, 0x903, "DERATE_TICKS", none⟩,
  ⟨0x1, 0x1, "AUX_LEN", none⟩,
  ⟨0x2, 0x11, "AUX_SLOT_", some 0⟩,
  ⟨0x101, 0x101, "AUX_INJ_CTRL", none⟩,
  ⟨0x102, 0x105, "AUX_INJ_SLOT_", some 0⟩,
  ⟨0x106, 0x106, "AUX_INJ_QUAL", none⟩,
  ⟨0x107, 0x107, "AUX_INJ_WIDTH", none⟩,
  ⟨0x201, 0x201, "OW_SETTLE", none⟩,
  ⟨0x202, 0x202, "AUX_CONV", none⟩,
  ⟨0x203, 0x203, "AUX_UNKNOWN", none⟩,
  ⟨0x204, 0x204, "AUX_INJ_OVR", none⟩,
  ⟨0x205, 0x205, "THRESH_ROUND_TICK", none⟩,
  ⟨0x206, 0x206, "OW_ROUND_TICK", none⟩,
  ⟨0xA01, 0xA01, "REF_SEL", none⟩,
  ⟨0xA02, 0xA02, "REFX_EN", none⟩,
  ⟨0xA03, 0xA03, "REF_STATE", none⟩,
  ⟨0xA04, 0xA04, "REFX_EN_TICK", none⟩,
  ⟨0xA05, 0xA05, "REFX_LEVEL", none⟩,
  ⟨0xA06, 0xA06, "REFX_FAILS", none⟩,
  ⟨0xB01, 0xB01, "BG_STATE", none⟩,
  ⟨0xB02, 0xB02, "BG_DEV", none⟩,
  ⟨0xB03, 0xB03, "BG_CORR", none⟩,
  ⟨0xB04, 0xB04, "BG_OUTLIERS", none⟩,
  ⟨0xB05, 0xB05, "BG_READINGS", none⟩,
  ⟨0xC01, 0xC01, "LINK_CORR", none⟩,
  ⟨0xC02, 0xC02, "LINK_UNCORR", none⟩,
  ⟨0xC03, 0xC03, "LINK_HELD", none⟩,
  ⟨0xC04, 0xC04, "LINK_LAST_TICK", none⟩]

/-- Names of the stall objects. -/
def stNames : List NameRow :=
  stNames0

/-- Number of a key in a family: entries count within an index, or indices where each holds one entry. -/
def NameRow.number (r : NameRow) (k : Nat) : Nat :=
  if r.lo / 256 = r.hi / 256 then k - r.lo
  else (k / 256 - r.lo / 256) * (r.hi % 256 + 1 - r.lo % 256) + (k % 256 - r.lo % 256)

/-- The name of a key in one group of tables; empty where none stands. -/
def nameIn (rows : List NameRow) (k : Nat) : String :=
  match rows.find? fun r => decide (r.lo ≤ k) && decide (k ≤ r.hi) && decide (r.lo % 256 ≤ k % 256) && decide (k % 256 ≤ r.hi % 256) with
  | none => ""
  | some r => match r.base with | none => r.stem | some b => r.stem ++ toString (b + r.number k)

end Sys2Proof.Machine
end

