-- ==== Sys2Proof/Machine/Dict.lean ====
section
/-! DEFINITION. Reads and writes of the object dictionary (R370–R399): the checks of R377, what a write of each object does
at its commit, complete access, retained records, and the information services. -/

namespace Sys2Proof.Machine

open Sys2Proof

def Dev.modDict (d : Dev) (f : Dict → Dict) : Dev := { d with dict := f d.dict }

/-! ## Process-data mapping in force (R390, R392) -/

/-- Entries of a mapping object. -/
def Dev.pdoEntries (d : Dev) (pdo : Nat) : List Nat :=
  (List.range (d.reg (pdo * 256))).map fun i => d.reg (pdo * 256 + 1 + i)

/-- Entries that an assignment object (0x1C12 outputs, 0x1C13 inputs) brings, in order. -/
def Dev.assigned (d : Dev) (asg : Nat) : List Nat :=
  (List.range (d.reg (asg * 256))).flatMap fun i => d.pdoEntries (d.reg (asg * 256 + 1 + i))

/-- Objects of the assigned RxPDOs, without padding: index * 256 + subindex. -/
def Dev.rxObjects (d : Dev) : List Nat := ((d.assigned 0x1C12).filter fun w => !mapPad w).map fun w => mapIdx w * 256 + mapSub w

/-! ## Checks at the receipt of a request (R377 steps 1 to 5) -/

/-- The objects of R376 that are writable only in PREOP. -/
def preopOnly (idx sub : Nat) : Bool :=
  isMapping idx || ((idx == 0x1C32 || idx == 0x1C33) && (sub == 1 || sub == 2))

/-- A length fits the object: an octet string that carries a container or a request may be shorter. -/
def lengthOk (idx sub len : Nat) (r : ObjRow) : Bool :=
  let o := idx * 256 + sub
  if o = Obj.LOAD_DATA || o = Obj.SEC_CONTAINER || o = Obj.SEALED_IN then within 1 r.bytes len else len == r.bytes

/-- The abort code of the first of steps 1 to 5 that fails, 0 for none. `pd`: the write is process data. -/
def Dev.receipt (d : Dev) (pd sealedBy : Bool) (idx sub len v : Nat) : Nat :=
  if d.missing idx sub ≠ 0 then d.missing idx sub
  else
    match rowOf idx sub with
    | none => 0x06010002
    | some r =>
      if r.acc = .ro then 0x06010002
      else if !lengthOk idx sub len r then 0x06070010
      else if !codingOk r v then abRange
      else if preopOnly idx sub && d.ec.esm != .preop then abState
      else if !pd && d.ec.esm == .op && d.rxObjects.contains (idx * 256 + sub) then abState
      else if r.acc = .rws && !sealedBy then abState
      else 0

/-! ## State rules, scope and plain writes (R375, R377 steps 6 and 7) -/

/-- A device key is a multiplexer. -/
def isDevMux (k : Nat) : Bool :=
  inBlock k (Obj.MUX_EVIO 0) 16 || inBlock k (Obj.MUX_AUX_INJ 0) 8 || inBlock k (Obj.MUX_MKO 0) 8

/-- Tether `t` is locked (R320). -/
def Dev.isLocked (d : Dev) (t : Nat) : Bool := decide (t < 128) && bit d.fab.locks t

/-- A write would form or change a gang some member of which is not PARKED (R104). -/
def Dev.gangBusy (d : Dev) (n : ChanId) (k v : Nat) : Bool :=
  let live := fun (m : ChanId) => !(d.ch m).isParked
  let role := if k = Obj.GANG_ROLE then v else d.role n
  let l := if k = Obj.GANG_LEADER then v else d.creg n Obj.GANG_LEADER
  (d.gangOf n).any live || (role == 2 && (match chanOf l with | some m => (d.members m).any live | none => false))

/-- A rule that refuses a plain write in the present state: locks, a load in progress, defaults while not parked. -/
def Dev.stateBars (d : Dev) (p : Place) (v : Nat) : Bool :=
  match p with
  | .dev k =>
    (match slotTether k with | some t => d.isLocked t | none => false) ||
    (inBlock k (Obj.TETH_CFG 0) 128 && d.isLocked (k - Obj.TETH_CFG 0)) ||
    (isDevMux k && (d.isLocked (d.reg k) || d.isLocked v)) ||
    (within Obj.LOAD_TYPE Obj.LOAD_FLAGS k && d.loadBusy) ||
    (k == Obj.RESTORE_DEFAULTS && !d.allParked)
  | .stall _ _ => false
  | .chan n k =>
    (inBlock k 0x4001 44 && (d.isLocked (d.creg n k) || d.isLocked v)) ||
    ((k == Obj.GANG_ROLE || k == Obj.GANG_LEADER) && d.gangBusy n k v)

/-- The scope of an RWP object is PARKED (R375). -/
def Dev.scopeParked (d : Dev) : Place → Bool
  | .dev _ => d.allParked
  | .stall s _ => d.stallParked s
  | .chan n _ => (d.ch n).isParked

/-- The value in an object's register. -/
def Dev.rawObj (d : Dev) : Place → Nat
  | .dev k => d.reg k
  | .stall s k => d.sreg s k
  | .chan n k => d.creg n k

/-- State rules, value rules and scope pass, and then the write acts. -/
def Dev.guarded (d : Dev) (r : ObjRow) (idx sub v : Nat) (f : Dev → Dev) : Dev :=
  let obj := idx * 256 + sub
  let code := d.valueCode idx sub v
  if d.stateBars (placeOf idx sub) v then d.refuse obj abState
  else if code ≠ 0 then d.refuse obj code
  else if r.acc = .rwp && !d.scopeParked (placeOf idx sub) then d.refuse obj abState
  else f d.accept

/-- The register takes the value; a kept object's record is to be written (R384). -/
def Dev.store (d : Dev) (r : ObjRow) (idx sub v : Nat) : Dev :=
  let old := d.rawObj (placeOf idx sub)
  let d := d.setObj (idx * 256 + sub) v
  if r.ret = .volatile then d else d.keep (idx * 256 + sub) old

/-! ## Channel objects whose write does more -/

/-- The applied range-pair entry of a member has been rewritten (R80, R145): new clamps act at once, new ranges and a new mode
through a window; a PARKED channel takes the ranges of its own entry 0 (R87). -/
def Dev.entryWritten (d : Dev) (m : ChanId) (e : Nat) : Dev :=
  let f := (d.ch m).force
  if f.rpair ≠ e then d
  else
    match f.st with
    | .armed | .safe | .arming => d.enterEntry m e (rpMode ((d.cfg m).reg (Obj.RPAIR e))) (codeVal f.target) true
    | .parking => d
    | .parked =>
      let w := d.creg m (Obj.RPAIR 0)
      d.modCh m fun c => (c.modForce fun f => { f with fi := rpMode w, vrange := rpVRange w, irange := rpIRange w }).wmRecodeAll

/-- A write of an RPAIR word has acted on a channel's own setting. -/
def Dev.rpairWritten (d : Dev) (n : ChanId) (e : Nat) : Dev :=
  if (d.ch n).isParked then d.entryWritten n e
  else if d.isFollower n then d
  else (d.members n).foldl (fun d m => d.entryWritten m e) d

/-- JUMP_CMD: [31:30] 1 jump, 2 cancel (R248, R249). -/
def Dev.jumpCmd (d : Dev) (n : ChanId) (v : Nat) : Dev :=
  match natBits v 31 30 with
  | 1 => d.hostJump n (natBits v 15 0) d.dict.arrived
  | 2 => d.cancelJump n
  | _ => d.refuse (chObj n Obj.JUMP_CMD) abRange

/-- SINE_CMD: OP in [7:6], setting in [3:0] (R273). -/
def Dev.sineCmd (d : Dev) (n : ChanId) (v : Nat) : Dev :=
  if natBits v 5 4 ≠ 0 || natBits v 7 6 = 3 then d.refuse (chObj n Obj.SINE_CMD) abRange
  else if !d.sineActs n then d.accept
  else
    d.accept.modCh n fun c =>
      match natBits v 7 6 with
      | 0 => c.sineStart d.tick ⟨natBits v 3 0 % 16, by omega⟩
      | 1 => c.sineOff
      | _ => c.sinePhase d.tick

/-- GUST_ARM_CMD: [7] disarm, [3:0] profile (R140). -/
def Dev.gustCmd (d : Dev) (n : ChanId) (v : Nat) : Dev :=
  if natBit v 7 then (d.accept.gustStop n d.commitAt).modCh n (·.gustDisarm)
  else d.accept.modCh n (·.gustArm ⟨natBits v 3 0 % 16, by omega⟩)

/-- TALLY_CMD: [17:16] operation, [15:0] units (R195). Operation 0 is refused as out of range, bits [31:18] are ignored (log 97). -/
def Dev.tallyCmd (d : Dev) (n : ChanId) (v : Nat) : Dev :=
  let op := natBits v 17 16
  if op = 0 then d.refuse (chObj n Obj.TALLY_CMD) abRange else d.tallyHost n op (BitVec.ofNat 16 v)

/-- Objects of a channel in which writing 1 to a bit clears it. -/
def chClears (k : Nat) : Bool :=
  k == Obj.STATUS_STICKY || k == Obj.MEAS_STICKY || k == Obj.WM_STICKY || k == Obj.SEQ_STICKY || k == Obj.OVR_STICKY

/-- A write to plan `p` acts: where it is the applied plan, regular slot positions reset on every channel that it serves
(R165). -/
def Dev.planWritten (d : Dev) (n : ChanId) (p : Nat) : Dev :=
  (d.members n).foldl (fun d m => if (d.ch m).force.plan = p then d.restartSeq m else d) d

/-- A channel key belongs to the object at an offset from B. -/
def idxOf (k off : Nat) : Bool := k / 256 == off

/-- A write of a channel object at its commit, where it does more than take the value. -/
def Dev.chHook (d : Dev) (r : ObjRow) (n : ChanId) (idx sub k v : Nat) : Option Dev :=
  let plain := fun (f : Dev → Dev) => some (d.guarded r idx sub v fun d => f (d.store r idx sub v))
  match tallyWordOf k with
  | some (w, u) => some (d.tallyWrite n u w v)
  | none =>
    if chClears k then some (d.accept.setCreg n k (clearBits (d.creg n k) v))
    else if inBlock k (Obj.RPAIR 0) 16 then plain fun d => d.rpairWritten n (k - Obj.RPAIR 0)
    else if idxOf k 0x11 || idxOf k 0x12 || idxOf k 0x13 then plain fun d => d.planWritten n (k % 256 - 1)
    else if idxOf k 0x14 || idxOf k 0x15 then plain fun d => d.planWritten n ((k % 256 - 1) / 8)
    else if k = Obj.COMP_MODE then some (d.writeCompMode n v)
    else if k = Obj.COMP_FIXED then some (d.writeCompFixed n v)
    else if k = Obj.LW_EN then some (d.writeLwEn n v)
    else if inBlock k (Obj.WM_CFG 0) 4 then some (d.writeWmCfg n ⟨(k - Obj.WM_CFG 0) % 4, by omega⟩ v)
    else if k = Obj.SPOOL_SEG then some (d.writeSpoolSeg n v)
    else if k = Obj.SAFE_SEG then some (d.writeSafeSeg n v)
    else if inBlock k (Obj.HEAD_PIN 0) 4 then some (d.pinHead n ⟨(k - Obj.HEAD_PIN 0) % 4, by omega⟩ v)
    else if k = Obj.SPOOL_CMD then some (if v = 1 then d.spoolReset n else d.refuse (chObj n k) abRange)
    else if k = Obj.JUMP_CMD then some (d.jumpCmd n v)
    else if k = Obj.SINE_CMD then some (d.sineCmd n v)
    else if k = Obj.GUST_ARM_CMD then some (d.gustCmd n v)
    else if k = Obj.TALLY_CMD then some (d.tallyCmd n v)
    else if k = Obj.FILL_MIN then some (d.accept.setCreg n k 0xFFFFFFFF)
    else if inBlock k (Obj.SINE_FTW 0) 16 then
      plain fun d => if (d.ch n).sine.setting = k - Obj.SINE_FTW 0 then d.modCh n fun c => c.sineRewrite d.tick false else d
    else if inBlock k (Obj.SINE_AMP 0) 16 then
      plain fun d => if (d.ch n).sine.setting = k - Obj.SINE_AMP 0 then d.modCh n fun c => c.sineRewrite d.tick true else d
    else none

/-! ## Device objects whose write does more -/

/-- EVIO_CFG: after a change of STD or DIR the pin's producer is quiet in this tick and the next (R321); a pin that is no
output any more drives no pulse (Table 11-5). -/
def Dev.evioWritten (d : Dev) (k old v : Nat) : Dev :=
  if evioStd old == evioStd v && evioDir old == evioDir v then d
  else
    { d with fab := { d.fab with quiet := (k, d.tick + 1) :: d.fab.quiet,
                                 outs := if evioDir v < 2 then d.fab.outs.filter (·.pin != k) else d.fab.outs } }

/-- EXPORT_LINK: read entries that are not acknowledged go back to the head (R203, R420). -/
def Dev.exportWritten (d : Dev) : Dev :=
  let d := d.modFifo fun f => { f with readCnt := 0 }
  { d with pcie := { d.pcie with exp := { d.pcie.exp with head := d.pcie.exp.tail } } }

/-- SYNC, loads, results and calibration. -/
def Dev.devHookA (d : Dev) (r : ObjRow) (idx sub v : Nat) : Option Dev :=
  let k := idx * 256 + sub
  let guard := fun (f : Dev → Dev) => some (d.guarded r idx sub v f)
  let plain := fun (f : Dev → Dev) => some (d.guarded r idx sub v fun d => f (d.store r idx sub v))
  if k = Obj.SYNC_ROLE then plain (·.roleWritten true)
  else if k = Obj.SYNC_OUT_EN then plain (·.roleWritten false)
  else if k = Obj.CAL_CMD then guard fun d => if v = 1 then d.calDomain else d.beginLoop
  else if k = Obj.START_REQ then some (d.startReq (BitVec.ofNat 48 v))
  else if k = Obj.ABORT_REQ then some (d.abortReq v)
  else if k = Obj.EPOCH_REQ then some (d.epochReq (BitVec.ofNat 48 v))
  else if k = Obj.ARM_REQ then some (d.accept.armMask (BitVec.ofNat 64 v))
  else if k = Obj.PARK_REQ then some (d.accept.parkRequest (BitVec.ofNat 64 v))
  else if k = Obj.EXPORT_LINK then plain Dev.exportWritten
  else if k = Obj.FIFO_ACK then some (d.fifoAck v)
  else if k = Obj.RES_SESSION_CMD then guard fun d => if v = 1 then d.flushSession else d.rollSession
  else if k = Obj.DIR_ENTRY then some (d.writeDesc (d.reg Obj.DIR_SEL) (BitVec.ofNat 64 v))
  else if k = Obj.PSET_CMD then guard Dev.unloadSet
  else if k = Obj.SCR_DATA then some (d.writeScr (BitVec.ofNat 64 v))
  else if k = Obj.MKO_RUN then
    plain fun d => { d with fab := { d.fab with mkoGo := d.fab.mkoGo || v == 1 } }
  else if k = Obj.LOCK_CMD then
    guard fun d => { d with fab := { d.fab with locks := putBit d.fab.locks v true } }
  else if inBlock k (Obj.EVIO_CFG 0) 16 then plain fun d' => d'.evioWritten (k - Obj.EVIO_CFG 0) (d.reg k) v
  else if k = Obj.LOOP_LO || k = Obj.LOOP_HI then some (d.accept.setReg k (clearBits (d.reg k) v))
  else if k = Obj.LOOKAHEAD_MIN then some (d.accept.setReg k 0xFFFFFFFF)
  else if k = Obj.SYSCAL_CMD then
    guard fun d => if v = 1 then d.sysStart false else if v = 2 then d.sysStart true else d.sysHostAbort
  else none

/-- The request being applied came over the bulk link. -/
def Dev.onBulk (d : Dev) : Bool := d.dict.source == 5 || d.dict.source == 7

/-- Code of RESTORE_RESULT (Table 14-14). -/
def Dev.restoreResult (d : Dev) (v : Nat) : Nat :=
  let idx := natBits v 31 16
  let sub := natBits v 15 8
  match rowOf idx sub with
  | none => 5
  | some r =>
    if r.ret = .volatile then 4
    else match d.outcomeOf (idx * 256 + sub) with | .restored => 0 | .defaulted => 1 | .asNew => 2 | .byRequest => 3

/-- Network, power and security. -/
def Dev.devHookB (d : Dev) (r : ObjRow) (idx sub len v : Nat) : Option Dev :=
  let k := idx * 256 + sub
  let guard := fun (f : Dev → Dev) => some (d.guarded r idx sub v f)
  let plain := fun (f : Dev → Dev) => some (d.guarded r idx sub v fun d => f (d.store r idx sub v))
  if k = Obj.STORE_PARAMS then guard fun d => d
  else if k = Obj.RESTORE_DEFAULTS then guard fun d => d.modPower fun p => { p with loadDefaults := true }
  else if k = Obj.RESTORE_QUERY then plain fun d => d.setReg Obj.RESTORE_RESULT (d.restoreResult v)
  else if k = Obj.LOAD_DATA then some (d.loadData (leBytes len v))
  else if k = Obj.LOAD_CMD then
    guard fun d => if v = 1 then d.loadBegin else if v = 2 then d.loadSubmit else d.loadAbandon
  else if k = Obj.ATTEST_NONCE then some (d.attest (leBytes len v))
  else if k = Obj.SESS_CMD then
    guard fun d => if v = 1 then d.offer d.onBulk else d.closeSession 1
  else if k = Obj.STREAM_CMD then some (d.streamCmd v)
  else if k = Obj.SESS_HOST_OFFER then some (d.hostOffer (leBytes len v) d.onBulk)
  else if k = Obj.SEC_CONTAINER then
    some (d.accept.modSec fun x => { x with waiting := x.waiting ++ [(d.onBulk, leBytes len v)] })
  else if k = Obj.DEBUG_REQ then some (d.debugReq v)
  else if k = Obj.DBG_HALT_REQ then some (d.haltReq (BitVec.ofNat 64 v))
  else if k = Obj.DBG_RESUME then some (d.resumeReq (BitVec.ofNat 64 v))
  else if k = Obj.DBG_STEP then some (d.stepReq (BitVec.ofNat 64 v))
  else if k = Obj.REBOOT_CMD then some (d.reboot v)
  else if k = Obj.IMAGE_CMD then some (d.imageCmd v)
  else if k = Obj.QUIET_REQ then some (d.writeQuiet v)
  else if k = Obj.SELFTEST_CMD then some (d.selfTest v)
  else if k = Obj.FAULT_CLEAR then some (d.faultClear (BitVec.ofNat 32 v))
  else if k = Obj.FAULT_CLEAR_CH then some (d.faultClearCh (BitVec.ofNat 64 v))
  else if k = Obj.HIST_CLEAR then some (d.histClear v)
  else none

/-- The objects of a stall whose write does more. -/
def Dev.stHook (d : Dev) (s : StallId) (k v : Nat) : Option Dev :=
  if k = Obj.REF_SEL then some (d.writeRefSel s v)
  else if k = Obj.REFX_EN then some (d.writeRefxEn s v)
  else none

/-- Steps 6 and 7 of R377 and the write itself, at the present commit (R378). -/
def Dev.writeObj (d : Dev) (idx sub len v : Nat) : Dev :=
  match rowOf idx sub with
  | none => d.refuse (idx * 256 + sub) 0x06010002
  | some r =>
    let hook := match placeOf idx sub with
      | .dev _ => (d.devHookA r idx sub v).orElse fun _ => d.devHookB r idx sub len v
      | .stall s k => d.stHook s k v
      | .chan n k => d.chHook r n idx sub k v
    match hook with
    | some d' => d'
    | none => d.guarded r idx sub v fun d => d.store r idx sub v

/-- A host write of an object whose value the data path gave at the present commit is discarded (R22). -/
def Dev.hostWrite (d : Dev) (idx sub : Nat) (f : Dev → Dev) : Dev :=
  match placeOf idx sub with
  | .dev k => if d.wrote.contains (64, k) then d.served.raiseNow 0x0102 0 .device 0xFF (k * 256) else f d
  | .stall _ _ => f d
  | .chan n k => d.hostOver n k f

/-! ## Complete access (R373) -/

/-- Subindices of an index that exist, from 1 on. -/
def subsOf (idx : Nat) : List Nat := ((List.range (topOf idx)).map (· + 1)).filter fun s => (rowOf idx s).isSome

/-- Bytes of the entries of an index. -/
def wholeBytes (idx : Nat) : Nat := (subsOf idx).foldl (fun m s => m + ((rowOf idx s).map ObjRow.bytes).getD 0) 0

/-- Receipt of a complete-access write: its length, then every entry. -/
def Dev.receiptWhole (d : Dev) (sealedBy : Bool) (idx : Nat) (vals : List Nat) : Nat :=
  if d.missing idx 0 ≠ 0 then d.missing idx 0
  else if (subsOf idx).isEmpty then 0x06090011
  else if 1024 < wholeBytes idx then 0x06070012
  else if vals.length ≠ (subsOf idx).length then 0x06070010
  else
    let code := fun (e : Nat × Nat) => d.receipt false sealedBy idx e.1 (((rowOf idx e.1).map ObjRow.bytes).getD 0) e.2
    (((subsOf idx).zip vals).map code).find? (· != 0) |>.getD 0

/-- The entries of a complete-access write, until one is refused: the module and the abort code. -/
def Dev.writeList : Dev → Nat → List (Nat × Nat) → Dev × Nat
  | d, _, [] => (d, 0)
  | d, idx, (s, v) :: es =>
    let d' := d.hostWrite idx s (·.writeObj idx s (((rowOf idx s).map ObjRow.bytes).getD 0) v)
    if d'.dict.abort ≠ 0 then (d', d'.dict.abort) else Dev.writeList d' idx es

/-- A complete-access write acts as a whole or is refused as a whole. -/
def Dev.writeWhole (d : Dev) (idx : Nat) (vals : List Nat) : Dev :=
  let r := d.writeList idx ((subsOf idx).zip vals)
  if r.2 = 0 then r.1.accept else d.refuse (idx * 256) r.2

/-- The data of a complete-access read from subindex 0: the highest subindex and every entry in order. -/
def Dev.readWhole (d : Dev) (idx : Nat) : Except Nat (List Byte) :=
  if (subsOf idx).isEmpty then d.readObj idx 0
  else if 1024 < wholeBytes idx then .error 0x06070012
  else
    (subsOf idx).foldl (fun a s =>
      match a, d.readObj idx s with
      | .ok l, .ok m => .ok (l ++ m)
      | .error e, _ => .error e
      | _, .error e => .error e) (d.readObj idx 0)

/-! ## Requests (R378, R379, R384) -/

/-- A request that arrives in an engine cycle of this tick waits for its commit. -/
def Dev.queueWrite (d : Dev) (cyc rank source : Nat) (sealedBy cmd : Bool) (req : HostReq) : Dev :=
  let w : HostWrite := { act := d.actAt cyc, arrived := d.tick, cyc := cyc, rank := rank, source := source,
                         sealedBy := sealedBy, cmd := cmd, req := req }
  d.modDict fun x => { x with writes := insertWrite w x.writes }

/-- What a request of the dictionary asks is refused at its receipt: the answer, and the entry of R424. -/
def Dev.refuseFrom (d : Dev) (source obj code : Nat) : Dev :=
  ((d.modDict fun x => { x with source := source }).refuse obj code).modDict fun x => { x with source := 0 }

/-- A request for one object, from a source. -/
def Dev.request (d : Dev) (source rank cyc : Nat) (sealedBy : Bool) (idx sub len v : Nat) : Dev :=
  let code := d.receipt false sealedBy idx sub len v
  if code ≠ 0 then d.refuseFrom source (idx * 256 + sub) code
  else d.queueWrite cyc rank source sealedBy false (.one idx sub len v)

/-- A request for every entry of an index. -/
def Dev.requestWhole (d : Dev) (source rank cyc : Nat) (idx : Nat) (vals : List Nat) : Dev :=
  let code := d.receiptWhole false idx vals
  if code ≠ 0 then d.refuseFrom source (idx * 256) code
  else d.queueWrite cyc rank source false false (.whole idx vals)

/-- A read marks what it has taken: entries of the FIFO, while EtherCAT exports it (R203), and entries of the logs
(R505, R507). -/
def Dev.readMark (d : Dev) (shown : Dev) (obj : Nat) : Dev :=
  if obj = Obj.FIFO_DATA then
    (if shown.reg Obj.EXPORT_LINK = 1 || d.reg Obj.EXPORT_LINK = 1 then d
     else d.modFifo fun f => { f with readCnt := max f.readCnt (min 16 shown.fifo.entries.length) })
  else if obj = Obj.FLOG_DATA then
    let es := (shown.flt.log.filter fun e => decide (shown.reg Obj.FLOG_SEL ≤ e.seq)).take 32
    { d with flt := { d.flt with readUpto := es.foldl (fun m e => max m (e.seq + 1)) d.flt.readUpto } }
  else if obj = Obj.VLOG_DATA then
    let es := (shown.flt.viol.filter fun e => decide (shown.reg Obj.VLOG_SEL ≤ e.seq)).take 32
    { d with flt := { d.flt with violRead := es.foldl (fun m e => max m (e.seq + 1)) d.flt.violRead } }
  else d

/-- A read is answered with values of one commit, or refused (R379). -/
def Dev.answerRead (d : Dev) (shown : Dev) (source obj : Nat) (r : Except Nat (List Byte)) : Dev :=
  match r with
  | .error code => d.refuseFrom source obj code
  | .ok l =>
    let d := d.served.readMark shown obj
    d.modDict fun x => { x with data := l, answer := leNat l }

/-- The module is done with the descriptor at the head of OBJ (R416). -/
def Dev.objAnswer (d : Dev) : Dev :=
  let q := d.pcie.obj
  if q.runs && decide (0 < q.waiting) then
    let r := q.take
    let d := { d with pcie := { d.pcie with obj := r.1 } }
    if r.2 then d.raiseIrq 1 else d
  else d

/-- A window write or a descriptor's write is refused, or has acted (R413, R416). -/
def Dev.bulkDone (d : Dev) (source code : Nat) : Dev :=
  if source = 5 then
    (if code ≠ 0 then { d with pcie := { d.pcie with winStatus := code, winRefused := bump 32 d.pcie.winRefused } }
     else { d with pcie := { d.pcie with winDone := bump 32 d.pcie.winDone } })
  else if source = 7 then d.objAnswer
  else d

end Sys2Proof.Machine
end

