-- ==== Sys2Proof/Machine/Sealed.lean ====
section
/-! DEFINITION. Sealed requests (R449): the inner operations act in order at one commit, and the response is sealed. -/

namespace Sys2Proof.Machine

open Sys2Proof

/-- Bit of the right that an RWS object demands in a sealed session (R449, Table 16-7): CAL, OWNER or SESSION. -/
def sealRight (obj : Nat) : Nat := if obj / 256 = 0x2410 then 2 else if obj = Obj.SEC_POLICY then 15 else 4

/-- An inner operation of a sealed request: write or read, object, LEN and the data of a write. -/
structure SealedOp where
  write : Bool
  idx   : Nat
  sub   : Nat
  len   : Nat
  val   : Nat
deriving DecidableEq, Repr

/-- The inner operations of a plaintext (R449), none where the layout fails; `n` bounds their number. -/
def readOps : Nat → List Byte → Option (List SealedOp)
  | 0, _ => none
  | n + 1, b =>
    if b.isEmpty then some []
    else
      let op := fieldAt b 0 1
      let len := fieldAt b 4 2
      let size := 8 + (if op = 2 then (len + 3) / 4 * 4 else 0)
      if b.length < size || !(op == 1 || op == 2) || !within 1 1000 len || !zerosAt b 6 2 ||
          (op == 2 && !zerosAt b (8 + len) (size - 8 - len)) then none
      else
        let o : SealedOp := { write := op == 2, idx := fieldAt b 2 2, sub := fieldAt b 1 1, len := len, val := if op = 2 then fieldAt b 8 len else 0 }
        (readOps n (b.drop size)).map (o :: ·)

/-- One inner operation: the module, its STATUS and the data of a read. -/
def Dev.sealedOp (d : Dev) (o : SealedOp) : Dev × Nat × List Byte :=
  let idx := o.idx
  let sub := o.sub
  let len := o.len
  let v := o.val
  let obj := idx * 256 + sub
  let no := fun (code : Nat) => (d.refuse obj code, code, ([] : List Byte))
  if idx = 0x5100 || idx = 0x5F00 then no 0x06010000
  else if o.write then
    let rws := match rowOf idx sub with | some r => decide (r.acc = .rws) | none => false
    let code := d.receipt false true idx sub len v
    if code ≠ 0 then no code
    else if rws && !natBit d.sec.sessRights (sealRight obj) then no abState
    else
      let d := (d.modDict fun x => { x with abort := 0 }).writeObj idx sub len v
      (d, d.dict.abort, [])
  else
    match d.readObj idx sub with
    | .ok l => (d.served.readMark d obj, 0, l)
    | .error code => no code

/-- The result of an operation in the response (R449). -/
def sealedResult (o : SealedOp) (status : Nat) (data : List Byte) : List Byte :=
  leBytes 4 status ++ leBytes 2 o.idx ++ leBytes 1 o.sub ++ leBytes 1 0 ++ leBytes 2 data.length ++ leBytes 2 0 ++ data

/-- The operations in order: the module and the response before encryption. -/
def Dev.sealedOps (d : Dev) : List SealedOp → Dev × List Byte
  | [] => (d, [])
  | o :: os =>
    let r := d.sealedOp o
    let rest := r.1.sealedOps os
    (rest.1, sealedResult o r.2.1 r.2.2 ++ rest.2)

/-- SEQ and operations of a request, where its tag verifies under K_h2d and its layout holds (R449). -/
def Dev.openRequest (d : Dev) (req : List Byte) : Option (Nat × List SealedOp) :=
  let k := d.sec.sealKeys
  let n := req.length - 16
  let seq := slice req 0 8
  if req.length < 24 then none
  else
    (gcmOpen (slice k 0 32) (slice k 64 4 ++ seq) seq (slice req 8 (n - 8)) (req.drop n)).bind fun plain =>
      (readOps (plain.length + 1) plain).map fun ops => (leNat seq, ops)

/-- The response to a request under K_d2h (R449): SEQ, ciphertext and tag. -/
def Dev.sealResponse (d : Dev) (seq : Nat) (plain : List Byte) : List Byte :=
  let k := d.sec.sealKeys
  let s := leBytes 8 seq
  let key := slice k 32 32
  let iv := slice k 68 4 ++ s
  let ct := gcmText key iv plain
  s ++ ct ++ gcmTag key iv s ct

/-- A request reaches SEALED_IN (R423, R449): the session must be open on this link. -/
def Dev.sealedIn (d : Dev) (req : List Byte) (bulk : Bool) : Dev :=
  if d.sec.sess != .opened || d.sec.sessLink != b2n bulk then d.refuse Obj.SEALED_IN abState
  else
    match d.openRequest req with
    | none => d.sealFail Obj.SEALED_IN
    | some (seq, ops) =>
      if seq ≠ d.sec.sealSeq + 1 then d.sealFail Obj.SEALED_IN
      else
        let r := (d.modSec fun x => { x with sealSeq := seq }).sealedOps ops
        let out := d.sealResponse seq r.2
        (r.1.accept.modSec fun x => { x with sealedOut := out }).setReg Obj.LAST_WRITE_TICK d.tick.toNat

/-- `SEALED_IN` (R449). -/
def execSealedIn (req : List Byte) (bulk : Bool) (s : State) : Host.Outcome State Fault Refusal :=
  liveAt s fun d =>
    let d := (d.modDict fun x => { x with source := if bulk then 7 else 0 }).sealedIn req bulk
    (d.modDict fun x => { x with source := 0 }).settleFaults

end Sys2Proof.Machine
end

