-- ==== Sys2Proof/Machine/Requests.lean ====
section
/-! DEFINITION. Requests of the dictionary as they act (R377–R387): host writes at their commit, retained records, and the
SDO Information services (R372). -/

namespace Sys2Proof.Machine

open Sys2Proof

/-- What a waiting request does when it acts. -/
def Dev.actWrite (d : Dev) (w : HostWrite) : Dev :=
  match w.req with
  | .one idx sub len v =>
    if idx * 256 + sub = Obj.SEALED_IN then d.sealedIn (leBytes len v) d.onBulk
    else d.hostWrite idx sub (·.writeObj idx sub len v)
  | .judge v => d.judge v
  | .whole idx vals => d.writeWhole idx vals
  | .ack seq => (d.setReg Obj.PD_CMD_ACK seq).setReg Obj.PD_CMD_TICK d.tick.toNat
  | .holdAll => d.modDict fun x => { x with holdAll := true }
  | .revert idx sub old =>
    let r := d.dict.retains
    let d' := d.writeObj idx sub (((rowOf idx sub).map ObjRow.bytes).getD 0) old
    (if d'.dict.abort = 0 then d' else d.setObj (idx * 256 + sub) old).modDict fun x => { x with retains := r }

/-- A host request acts or is refused at the present commit. -/
def Dev.applyWrite (d : Dev) (w : HostWrite) : Dev :=
  let n := d.dict.retains.length
  let d := (d.modDict fun x => { x with source := w.source, abort := 0, arrived := some w.arrived }).actWrite w
  let code := d.dict.abort
  let d := d.modDict fun x => { x with source := 0, arrived := none }
  let d := if w.cmd && code != 0 then d.inc 32 Obj.PD_CMD_REFUSED else d
  match w.req with
  | .one _ _ _ _ | .whole _ _ =>
    if code ≠ 0 || d.dict.retains.length = n then d.bulkDone w.source code else d
  | _ => d

/-! ## Rows that act at the present commit -/

/-- `OBJECT_WRITE` (R377, R378): a write whose commit is the present one. -/
def execObjectWrite (idx : BitVec 16) (sub : BitVec 8) (len value : Nat) (s : State) : Host.Outcome State Fault Refusal :=
  liveAt s fun d =>
    let code := d.receipt false false idx.toNat sub.toNat len value
    if code ≠ 0 then d.refuse (idx.toNat * 256 + sub.toNat) code
    else (d.hostWrite idx.toNat sub.toNat (·.writeObj idx.toNat sub.toNat len value)).settleFaults

/-- The value of every object of a record's group, by key (R383). -/
def Dev.recordValues (d : Dev) (rec : Nat) : SMap Nat :=
  let value := fun (k : Nat) =>
    if rec = 0x300 || rec < 0x100 then d.reg k
    else if rec < 0x200 then d.sreg ⟨rec % 8, by omega⟩ k
    else d.creg ⟨rec % 64, by omega⟩ k
  (groupKeys rec).map fun k => (k, value k)

/-- `RETAIN_RECORD_WRITTEN` (R384): the record that writes wait for is written, or they are taken back, the latest first. -/
def execRetainRecordWritten (record : BitVec 16) (ok : Bool) (s : State) : Host.Outcome State Fault Refusal :=
  liveAt s fun d =>
    let rec' := record.toNat
    let mine := d.dict.retains.filter (·.record == rec')
    if mine.isEmpty then d
    else
      let d := d.modDict fun x => { x with retains := x.retains.filter (·.record != rec') }
      let age := mine.foldl (fun m w => max m (ticksFrom w.since d.tick)) 0
      if ok then
        let d := (d.inc 32 Obj.RETAIN_WRITES).setReg Obj.RETAIN_MAX (min 65535 (max age (d.reg Obj.RETAIN_MAX)))
        let d := d.modDict fun x => { x with records := sput [] x.records rec' (d.recordValues rec'), abort := 0 }
        let d := if rec' = 0x300 then d.modSec fun x => { x with recErased := false } else d
        mine.foldl (fun d w => d.bulkDone w.source 0) d
      else
        let d := (d.inc 32 Obj.RETAIN_FAILS).raiseNow 0x0B01 1 .device 0xFF rec'
        let d := mine.reverse.foldl (fun d w =>
          let back : HostWrite := { act := d.tick + 1, arrived := d.tick, cyc := 0, rank := 0, source := 0, sealedBy := true,
                                    cmd := false, req := .revert w.idx w.sub w.old }
          let d := d.modDict fun x => { x with abort := 0x08000020, writes := insertWrite back x.writes }
          d.bulkDone w.source 0x08000020) d
        d.settleFaults

/-- `STORE_PARAMS` (R387). -/
def execStoreParams (value : BitVec 32) (s : State) : Host.Outcome State Fault Refusal :=
  liveAt s fun d => d.writeObj 0x1010 1 4 value.toNat

/-- `RESTORE_DEFAULTS` (R387). -/
def execRestoreDefaults (value : BitVec 32) (s : State) : Host.Outcome State Fault Refusal :=
  liveAt s fun d => d.writeObj 0x1011 1 4 value.toNat

/-- `RESTORE_QUERY` (R399). -/
def execRestoreQuery (value : BitVec 32) (s : State) : Host.Outcome State Fault Refusal :=
  liveAt s fun d => d.writeObj 0x2710 7 4 value.toNat

/-! ## SDO Information (R372) -/

/-- Data type index of an object (Table 14-1). -/
def ObjRow.typeIndex (r : ObjRow) : Nat :=
  match r.ty with
  | .bool => 1
  | .int => if r.bits ≤ 8 then 2 else if r.bits ≤ 16 then 3 else if r.bits ≤ 32 then 4 else 0x15
  | .uint => if r.bits ≤ 8 then 5 else if r.bits ≤ 16 then 6 else if r.bits ≤ 32 then 7 else 0x1B
  | .text => 9
  | .octets => 0xA
  | .code20 => 0x40
  | .signed20 => 0x41
  | .tick48 => 0x42

/-- The name that the object tables give an entry; empty where they give none. -/
def objName (idx sub : Nat) : String :=
  match placeOf idx sub with
  | .dev k => nameIn devNames k
  | .stall _ k => nameIn stNames k
  | .chan _ k => nameIn chNames k

/-- Access in PREOP, SAFEOP and OP as ETG.1000 codes it: bits 0–2 read, 3–5 write, 6 RxPDO, 7 TxPDO (log 40). -/
def accessWord (idx sub : Nat) (r : ObjRow) : Nat :=
  (if r.acc = .wo then 0 else 7) + (if r.acc = .ro then 0 else if preopOnly idx sub then 8 else 56) + 64 * b2n (rxMappable idx sub) +
  128 * b2n (txMappable idx sub)

/-- Every index that exists, ascending. -/
def Dev.odList (d : Dev) : List Nat := (List.range 65536).filter fun i => d.missing i 0 == 0

/-- `GET_OD_LIST` (R372). -/
def execGetOdList (s : State) : Host.Outcome State Fault Refusal :=
  liveIn s fun d => d.served.modDict fun x => { x with data := s.sealed.shown.odList.flatMap (leBytes 2), answer := 0 }

/-- `GET_OBJECT_DESCRIPTION` (R372): index, data type of its first entry, highest subindex, whether it has entries, and the name of
its first entry, for the tables name entries (log 40). -/
def execGetObjectDescription (idx : BitVec 16) (s : State) : Host.Outcome State Fault Refusal :=
  liveIn s fun d =>
    let i := idx.toNat
    let code := d.missing i 0
    if code ≠ 0 then d.refuseFrom 0 (i * 256) code
    else
      let t := (((rowOf i 0).orElse fun _ => rowOf i 1).map ObjRow.typeIndex).getD 0
      d.served.modDict fun x => { x with data := leBytes 2 i ++ leBytes 2 t ++ leBytes 1 (topOf i) ++ leBytes 1 (if topOf i = 0 then 7 else 9) ++
                                           label (if (rowOf i 0).isSome then objName i 0 else objName i 1),
                                         answer := i }

/-- `GET_ENTRY_DESCRIPTION` (R372). -/
def execGetEntryDescription (idx : BitVec 16) (sub : BitVec 8) (s : State) : Host.Outcome State Fault Refusal :=
  liveIn s fun d =>
    let i := idx.toNat
    let j := sub.toNat
    let code := d.missing i j
    if code ≠ 0 then d.refuseFrom 0 (i * 256 + j) code
    else
      let l := match rowOf i j with
        | none => leBytes 2 5 ++ leBytes 2 8 ++ leBytes 2 7
        | some r => leBytes 2 r.typeIndex ++ leBytes 2 r.bits ++ leBytes 2 (accessWord i j r)
      d.served.modDict fun x => { x with data := leBytes 2 i ++ leBytes 1 j ++ leBytes 1 0 ++ l ++ label (objName i j), answer := i }

end Sys2Proof.Machine
end

