-- ==== Sys2Proof/Machine/EtherCat.lean ====
section
/-! DEFINITION. EtherCAT (R388–R394, R401–R406): links, the state machine, process data, SYNC0 and mailbox services. -/

namespace Sys2Proof.Machine

open Sys2Proof

def Dev.modEc (d : Dev) (f : EtherCat → EtherCat) : Dev := { d with ec := f d.ec }

/-! ## Links (R402) -/

/-- `EC_LINK_LOST` (R402): the port closes. -/
def execEcLinkLost (port : Bool) (s : State) : Host.Outcome State Fault Refusal :=
  runAt s fun d =>
    let p := b2n port
    let v := d.reg Obj.EC_LINK
    if d.power.state = .off || !natBit v p then d
    else (d.setReg Obj.EC_LINK ((v - 2 ^ p) ||| 2 ^ (4 + p))).inc 16 Obj.LOST_LINKS

/-- `EC_LINK_UP` (R402): the port opens. -/
def execEcLinkUp (port : Bool) (s : State) : Host.Outcome State Fault Refusal :=
  runAt s fun d =>
    let p := b2n port
    if d.power.state = .off then d
    else d.setReg Obj.EC_LINK (clearBits (d.reg Obj.EC_LINK) (2 ^ (4 + p)) ||| 2 ^ p)

/-! ## Process data (R391–R393) -/

/-- Value that a frame carries for an object. -/
def frameValue (outs : List (Nat × Nat)) (obj : Nat) : Nat := (outs.lookup obj).getD 0

/-- One mapped object of a processed frame: RW objects are written, WO objects act in a new command set unless 0. -/
def Dev.frameObject (d : Dev) (cyc : Nat) (newSet : Bool) (obj v : Nat) : Dev :=
  let idx := obj / 256
  let sub := obj % 256
  match rowOf idx sub with
  | none => d
  | some r =>
    let cmd := r.acc == .wo
    if cmd && !(newSet && v != 0) then d
    else
      let code := d.receipt true false idx sub r.bytes v
      if code = 0 then d.queueWrite cyc 0 1 false cmd (.one idx sub r.bytes v)
      else
        let d := d.refuseFrom 1 obj code
        if cmd then d.inc 32 Obj.PD_CMD_REFUSED else d

/-- The outputs of a frame arrive in an engine cycle of this tick (R391, R392): they are processed only in OP (R388). -/
def Dev.processFrame (d : Dev) (outs : List (Nat × Nat)) (cyc : Nat) : Dev :=
  let d := (d.modEc fun e => { e with frames := e.frames + 1, missed := 0 }).modDict fun x =>
    { x with lastFrame := some (d.tick, cyc), holdAll := false }
  if d.ec.esm != .op then d
  else
    let objs := d.rxObjects
    let seq := frameValue outs Obj.PD_CMD_SEQ
    let newSet := objs.contains Obj.PD_CMD_SEQ && seq != d.reg Obj.PD_CMD_ACK
    let d := objs.foldl (fun d o => d.frameObject cyc newSet o (frameValue outs o)) d
    if newSet then d.queueWrite cyc 0 1 false false (.ack seq) else d

/-- Outputs are exchanged in SAFEOP and OP. -/
def Dev.pdRuns (d : Dev) : Bool := d.ec.esm == .safeop || d.ec.esm == .op

/-- The module runs in DC SYNC0 (R389). -/
def Dev.dcMode (d : Dev) : Bool := d.reg Obj.OUT_SYNC_MODE == 2

/-- `PD_FRAME` (R391): in DC SYNC0 the frame waits for the event; in free run it is processed as it arrives, unless it
follows the last processed one within 31,000 ns. -/
def execPdFrame (outputs : List (Nat × Nat)) (cyc : Cycle) (s : State) : Host.Outcome State Fault Refusal :=
  liveIn s fun d =>
    if !d.pdRuns then d
    else if d.dcMode then d.modDict fun x => { x with frame := some outputs }
    else
      let soon := match d.dict.lastFrame with
        | none => false
        | some x => decide (cycFrom x (d.tick, cyc.val) < 15500)
      if soon then d.inc 16 Obj.CYCLE_TOO_SMALL else d.processFrame outputs cyc.val

/-- Values of the assigned TxPDOs, in order, as a commit shows them; padding carries 0 (R393). -/
def Dev.inputValues (d : Dev) : List Nat :=
  (d.assigned 0x1C13).map fun w => if mapPad w then 0 else d.readNum (mapIdx w) (mapSub w)

/-- Inputs are latched for SM3 from the latest commit (R393). -/
def Dev.latchInputs (d : Dev) (shown : Dev) : Dev :=
  if d.pdRuns then d.modDict fun x => { x with inputs := shown.inputValues } else d

/-- The inputs in SM3 (R393): those of the latest SYNC0 event, or in free run those of the latest commit, latched at
t+0.016 µs of every tick. -/
def State.inputs (s : State) : List Nat :=
  if s.dev.pdRuns && !s.dev.dcMode then s.sealed.shown.inputValues else s.dev.dict.inputs

/-- Phase, cycle and side of the cutoff of a SYNC0 event (R64, R65): consecutive events on both sides are JITTERED, until 64
events in a row fall on one side. A refused cycle keeps SYNC0_STATE 2 (R64). -/
def Dev.sync0Phase (d : Dev) (cycleNs cyc : Nat) : Dev :=
  let late := decide (250 ≤ cyc)
  let y := d.sync
  let jitter := y.sync0Late == some (!late)
  let flips := y.sync0Late != some late
  let refused := decide (cycleNs % 1000 ≠ 0) || decide (cycleNs < 31000)
  let raised := d.reg Obj.SYNC0_STATE == 3
  let run := if flips then 0 else y.sync0Run + 1
  let d := d.modSync fun y => { y with sync0Late := some late, sync0Run := run }
  let d := (d.setReg Obj.SYNC0_PHASE (cyc / 5)).setReg Obj.SYNC0_CYCLE (cycleNs / 1000)
  if jitter then
    (if raised then d else (d.setReg Obj.SYNC0_STATE 3).raiseAt (d.presentAt cyc) 0x0108 1 .device 0xFF 0)
  else if (raised && decide (run < 64)) || (refused && d.reg Obj.SYNC0_STATE == 2) then d
  else d.setReg Obj.SYNC0_STATE 1

/-- `SYNC0_EVENT` (R64, R391, R393): an event that ends an interval without a frame is missed; the first event ends none. -/
def execSync0Event (cycleNs : Nat) (cyc : Cycle) (s : State) : Host.Outcome State Fault Refusal :=
  liveRead s cyc fun d =>
    let second := d.ec.sync0
    let d := (d.sync0Phase cycleNs cyc.val).modEc fun e => { e with sync0 := true, sync0At := d.tick }
    if !d.dcMode || !d.pdRuns then d
    else
      let d := match d.dict.frame with
        | some outs => ((d.modDict fun x => { x with frame := none }).setReg Obj.SYNC_ERROR 0).processFrame outs cyc.val
        | none =>
          if !second then d
          else ((d.inc 16 Obj.SM_EVENT_MISSED).setReg Obj.SYNC_ERROR 1).modEc fun e => { e with missed := e.missed + 1 }
      d.latchInputs (s.seen cyc)

/-! ## The state machine (R403–R405, Table 15-2) -/

/-- A transition is refused: error indication, AL status code, violation. -/
def Dev.esmRefuse (d : Dev) (want code : Nat) : Dev :=
  ((d.modEc fun e => { e with errInd := true }).setReg Obj.AL_CODE code).violate 2 0x0130 want code

/-- A transition is made. -/
def Dev.esmGo (d : Dev) (st : EsmState) (err : Bool) : Dev :=
  (d.modEc fun e => { e with esm := st, errInd := err, frames := 0, missed := 0 }).inc 32 Obj.ESM_CHANGES

/-- PD_WD_ACTION acts once, at the commit of R17 (R394, R405). -/
def Dev.wdAction (d : Dev) (cyc : Nat) : Dev :=
  match d.reg Obj.PD_WD_ACTION with
  | 1 => d.queueWrite cyc 0 1 false false (.one (Obj.PARK_REQ / 256) (Obj.PARK_REQ % 256) 8 (2 ^ 64 - 1))
  | 2 => d.queueWrite cyc 0 1 false false .holdAll
  | _ => d

/-- The module leaves OP in an engine cycle of this tick. -/
def Dev.leaveOp (d : Dev) (st : EsmState) (err : Bool) (cyc : Nat) : Dev := (d.esmGo st err).wdAction cyc

/-- `ESM_INIT_TO_PREOP` (Table 15-2). -/
def execEsmInitToPreop (smOk : Bool) (s : State) : Host.Outcome State Fault Refusal :=
  liveIn s fun d =>
    if d.ec.esm != .init then d
    else if !smOk then d.esmRefuse 2 0x0016
    else d.esmGo .preop false

/-- No object is mapped twice. -/
def noTwice : List Nat → Bool
  | [] => true
  | x :: xs => !xs.contains x && noTwice xs

/-- Entries of one direction fit and map no object twice (R390). -/
def mapFits (ws : List Nat) : Bool :=
  decide (ws.foldl (fun m w => m + mapBits w) 0 ≤ 8192) && noTwice ((ws.filter fun w => !mapPad w).map (· / 256))

/-- The outputs' assignment is valid: a WO object needs PD_CMD_SEQ. -/
def Dev.outputsOk (d : Dev) : Bool :=
  let objs := d.rxObjects
  mapFits (d.assigned 0x1C12) &&
  (objs.contains Obj.PD_CMD_SEQ || objs.all fun o => match rowOf (o / 256) (o % 256) with | some r => r.acc != .wo | none => true)

/-- AL status code of a refusal of PREOP to SAFEOP, 0 for none. -/
def Dev.safeopCode (d : Dev) (smOk sync1 : Bool) (dcCycle : Option Nat) : Nat :=
  let ns := dcCycle.getD 0
  if !smOk then 0x0017
  else if !d.outputsOk then 0x001D
  else if !mapFits (d.assigned 0x1C13) then 0x001E
  else if sync1 then 0x0030
  else if d.dcMode && (ns % 1000 != 0 || decide (ns < 31000)) then 0x0036
  else if d.dcMode && d.sync.refclk != .locked then 0x0032
  else 0

/-- `ESM_PREOP_TO_SAFEOP` (Table 15-2, R64). -/
def execEsmPreopToSafeop (smOk sync1 : Bool) (dcCycle : Option Nat) (s : State) : Host.Outcome State Fault Refusal :=
  liveIn s fun d =>
    if d.ec.esm != .preop then d
    else
      let code := d.safeopCode smOk sync1 dcCycle
      let d := if code = 0x0036 then d.setReg Obj.SYNC0_STATE 2 else d
      if code ≠ 0 then d.esmRefuse 4 code
      else (d.esmGo .safeop false).modDict fun x => { x with frame := none, lastFrame := none }

/-- `ESM_SAFEOP_TO_OP` (Table 15-2). -/
def execEsmSafeopToOp (s : State) : Host.Outcome State Fault Refusal :=
  liveIn s fun d =>
    if d.ec.esm != .safeop then d
    else if d.ec.frames = 0 then d.esmRefuse 8 0x0019
    else if d.dcMode && !(d.ec.sync0 && decide (ticksFrom d.ec.sync0At d.tick ≤ 1000)) then d.esmRefuse 8 0x0034
    else d.esmGo .op false

/-- The state of a code. -/
def esmOf : Nat → Option EsmState
  | 1 => some .init
  | 2 => some .preop
  | 4 => some .safeop
  | 8 => some .op
  | _ => none

/-- `ESM_LEAVE_OP` (R405): on request. -/
def execEsmLeaveOp (target : BitVec 4) (s : State) : Host.Outcome State Fault Refusal :=
  liveIn s fun d =>
    match esmOf target.toNat with
    | some st => if d.ec.esm == .op && st != .op then d.leaveOp st false 0 else d
    | none => d

/-- `ESM_DOWNWARD_TRANSITION` (R403): to a lower state. -/
def execEsmDownwardTransition (target : BitVec 4) (s : State) : Host.Outcome State Fault Refusal :=
  liveIn s fun d =>
    match esmOf target.toNat with
    | some st =>
      if d.ec.esm.code ≤ st.code then d
      else if d.ec.esm == .op then d.leaveOp st false 0
      else d.esmGo st false
    | none => d

/-- `ESM_BOOTSTRAP_REQUEST` (R403). -/
def execEsmBootstrapRequest (s : State) : Host.Outcome State Fault Refusal := liveIn s fun d => d.esmRefuse 3 0x0013

/-- A transition that EtherCAT defines: one state up, or to the present or a lower one. -/
def esmDefined (a b : EsmState) : Bool := decide (b.code ≤ a.code) || decide (b.code = 2 * a.code)

/-- `ESM_INVALID_REQUEST` (R403): a transition that EtherCAT does not define, or an unknown state; Bootstrap has a row of its
own. -/
def execEsmInvalidRequest (target : BitVec 4) (s : State) : Host.Outcome State Fault Refusal :=
  liveIn s fun d =>
    match esmOf target.toNat with
    | some st => if esmDefined d.ec.esm st then d else d.esmRefuse target.toNat 0x0011
    | none => if target.toNat = 3 then d else d.esmRefuse target.toNat 0x0012

/-- OP is left for an error (R404). -/
def Dev.opError (d : Dev) (code cyc : Nat) : Dev :=
  ((d.leaveOp .safeop true cyc).setReg Obj.AL_CODE code).violate 2 0x0131 4 code

/-- `SM2_WATCHDOG` (R404). -/
def execSm2Watchdog (cyc : Cycle) (s : State) : Host.Outcome State Fault Refusal :=
  liveIn s fun d => if d.ec.esm != .op then d else (d.opError 0x001B cyc.val).inc 32 Obj.WD_EXPIRIES

/-- `SYNC0_MISSED` (R404): the eighth consecutive SYNC0 event without a frame. -/
def execSync0Missed (s : State) : Host.Outcome State Fault Refusal :=
  liveIn s fun d =>
    if d.ec.esm != .op || !d.dcMode || d.ec.missed < 8 then d else (d.opError 0x001A 0).inc 32 Obj.SYNC_ERRORS

/-! ## The mailbox (R406, Table 15-13) -/

/-- `MAILBOX_REQUEST` (R406): a request that is no CoE service is answered with a mailbox error. -/
def execMailboxRequest (svc : MailboxService) (s : State) : Host.Outcome State Fault Refusal :=
  liveIn s fun d =>
    let bad := fun (code reply : Nat) => (d.modEc fun e => { e with mailbox := [reply] }).violate 0 code 0 reply
    match svc with
    | .coe => d.modEc fun e => { e with mailbox := [] }
    | .unsupported _ => bad 0x0102 2
    | .badHeader => bad 0x0101 5
    | .tooShort => bad 0x0103 6
    | .tooLong => bad 0x0103 8

/-- `SDO_DOWNLOAD` (R377–R379). -/
def execSdoDownload (idx : BitVec 16) (sub : BitVec 8) (len value : Nat) (cyc : Cycle) (s : State) :
    Host.Outcome State Fault Refusal :=
  liveIn s fun d => d.request 0 1 cyc.val false idx.toNat sub.toNat len value

/-- `SDO_UPLOAD` (R379). -/
def execSdoUpload (idx : BitVec 16) (sub : BitVec 8) (cyc : Cycle) (s : State) : Host.Outcome State Fault Refusal :=
  liveRead s cyc fun d =>
    d.answerRead (s.seen cyc) 0 (idx.toNat * 256 + sub.toNat) ((s.seen cyc).readObj idx.toNat sub.toNat)

/-- `SDO_COMPLETE_ACCESS_WRITE` (R373). -/
def execSdoCompleteAccessWrite (idx : BitVec 16) (values : List Nat) (cyc : Cycle) (s : State) :
    Host.Outcome State Fault Refusal :=
  liveIn s fun d => d.requestWhole 0 1 cyc.val idx.toNat values

/-- `SDO_COMPLETE_ACCESS_READ` (R373). -/
def execSdoCompleteAccessRead (idx : BitVec 16) (cyc : Cycle) (s : State) : Host.Outcome State Fault Refusal :=
  liveRead s cyc fun d => d.answerRead (s.seen cyc) 0 (idx.toNat * 256) ((s.seen cyc).readWhole idx.toNat)

/-- `SDO_SEGMENT_TIMEOUT` (R406). -/
def execSdoSegmentTimeout (s : State) : Host.Outcome State Fault Refusal :=
  liveIn s fun d => (d.modDict fun x => { x with abort := 0x05040000 }).violate 0 0x0114 0 0x05040000

end Sys2Proof.Machine
end

