-- ==== Sys2Proof/Machine/CommitApply.lean ====
section
/-! DEFINITION. The second part of a commit: the steps selected at the commit before apply (R16, R232), the setpoints (R75–R77,
R126, R285), the producers of the commit (R233, R234, R313), and the tally units (R195). -/

namespace Sys2Proof.Machine

open Sys2Proof

/-! ## Which steps apply -/

/-- Mask of the channels that a host request for this commit parks (R93, R457). -/
def Dev.parkAsked (d : Dev) (q : HostReq) : Word64 :=
  let mask := fun (idx sub v : Nat) =>
    if idx * 256 + sub = Obj.PARK_REQ || (idx * 256 + sub = Obj.DBG_HALT_REQ && d.sec.debug = 2) then BitVec.ofNat 64 v else 0
  match q with
  | .one idx sub _ v => mask idx sub v
  | .whole idx vals => ((subsOf idx).zip vals).foldl (fun m e => m ||| mask idx e.1 e.2) 0
  | .ack _ | .holdAll | .judge _ | .revert _ _ _ => 0

/-- Host requests whose commit is the present one. -/
def Dev.dueWrites (d : Dev) : List HostWrite := d.dict.writes.filter fun w => reached d.tick w.act

/-- Channels that a host request of this commit parks: no step applies on them (R255). -/
def Dev.parkDue (d : Dev) : Word64 :=
  d.gangMask (d.dueWrites.foldl (fun m w => m ||| d.parkAsked w.req) 0)

/-- The last resort holds the channel's stall (R500). -/
def Dev.underF5 (d : Dev) (n : ChanId) : Bool := (d.st (stallOf n)).lastResort.isSome

/-- The channel's own data path acts at this commit: ARMED, and its window is not discarded. -/
def Dev.acts (d : Dev) (e : Vector Ending 64) (n : ChanId) : Bool :=
  (d.ch n).isArmed && !d.dropsWindow e n && !d.underF5 n

/-- Steps that apply at this commit (R16, R232). -/
def Dev.appliers (d : Dev) (e : Vector Ending 64) : List (ChanId × Selected) :=
  let park := d.parkDue
  (List.finRange 64).filterMap fun n =>
    if d.acts e n && !d.isFollower n && !bit park n.val then (d.ch n).bk.sel.map fun s => (n, s) else none

/-- The object of a command that a step kind gives as well: a host write of it at this commit is discarded (R22). -/
def stepObject (w : Nat) : Option Nat :=
  match stKind w with
  | 9 => some Obj.SINE_CMD
  | 0xA => some Obj.GUST_ARM_CMD
  | _ => none

/-- A step applies on a channel: END with PARK 1 parks it (R253). -/
def Dev.applyNow (d : Dev) (x : ChanId × Selected) : Dev :=
  let n := x.1
  let w := x.2.word.toNat
  let d := d.modCh n fun c => c.modBk fun k => { k with sel := none }
  if stKind w = 0xB && stValue w = 1 then d.parkMask (BitVec.twoPow 64 n.val)
  else
    let d := match stepObject w with
      | some k => { d with wrote := (n.val, k) :: d.wrote }
      | none => d
    d.applyStep n x.2

/-- What the commit applies may be taken back at it (R255, R492); `old` are the channels before their windows ended. -/
def Dev.noteApplied (d : Dev) (e : Vector Ending 64) (old : Vector Channel 64) : Dev :=
  let t := d.tick
  let acts := Vector.ofFn fun n => d.acts e n
  d.mapCh fun n c => if acts[n] then { c with undo := some (t, c.applied old[n]) } else { c with undo := none }

/-! ## Setpoints -/

/-- A change of MODE takes hold at the present commit: corr stays 0 (R146). -/
def Dev.modeNow (d : Dev) (n : ChanId) : Bool :=
  let r := (d.ch n).rc
  r.active && r.modeChg && r.opened == d.tick

/-- R126 with the words that LB_OUTER reads (Table 10-10): the chip at 216, the sine reference at 217, the interpolated
target at 218. -/
def Dev.ownLoop (d : Dev) (e : Vector Ending 64) (n : ChanId) (follower : Bool) : OuterLoop × Int :=
  let c := d.ch n
  let target := if d.exchanged n 0xA4 218 = 1 then d.exchanged n 0x82 218 else codeVal c.force.target
  c.outerLoop target (d.exchanged n 0x80 216) (d.exchanged n 0x81 217) (e[n].rc || d.modeNow n) follower

/-- E0 of one member of a gang, or of a channel in none (R126). `lead` is what the leader's loop gave: its state, and b
before the share; `share` is the gang trim (R107). -/
def Dev.e0Value (d : Dev) (e : Vector Ending 64) (n : ChanId) (lead : Option (OuterLoop × Int)) (share : Int) : Dev :=
  let c := d.ch n
  match c.eng.outs.lookup 0x80 with
  | some v => d.modCh n (·.commitSetpoint n v)
  | none =>
    if !d.runsLib n 0 0 then d
    else
      let own := d.ownLoop e n (d.isFollower n)
      let r := match lead with
        | some x => ({ c.ol with ramp := x.1.ramp, corr := x.1.corr, drop := x.1.drop }, x.2)
        | none => own
      d.modCh n fun c => { c with ol := r.1 }.commitSetpoint n (r.2 + share)

/-- The leader's b, where its E0 runs the library's program. -/
def Dev.leadValue (d : Dev) (e : Vector Ending 64) (n : ChanId) : Option (OuterLoop × Int) :=
  let c := d.ch n
  if !d.runsLib n 0 0 || (c.eng.outs.lookup 0x80).isSome then none
  else
    some (d.ownLoop e n false)

/-- The setpoints of a gang, or of a channel in none: the trim of each member is a free value (log 5). -/
def Dev.gangSetpoints (d : Dev) (e : Vector Ending 64) (n : ChanId) : Dev :=
  let ms := d.members n
  if ms.length < 2 then d.e0Value e n none 0
  else
    let lead := d.leadValue e n
    ms.foldl (fun d m =>
      let x := d.fresh
      if d.acts e m then x.2.e0Value e m lead (signedOf 20 x.1) else x.2) d

/-- The commit controller's ramp (R93, R95). -/
def Dev.rampSetpoint (d : Dev) (e : Vector Ending 64) (n : ChanId) : Dev :=
  let f := (d.ch n).force
  if (f.st == .parking || f.st == .safe) && f.phase == .ramp && f.phaseTick != d.tick && !e[n].discard && !d.underF5 n then
    d.modCh n fun c => c.modForce fun f => { f with setpt := codeOf (f.rampValue d.tick) }
  else d

/-- The setpoints of the commit, and RPAIR_MODE of the tick that begins (R80). -/
def Dev.setpoints (d : Dev) (e : Vector Ending 64) : Dev :=
  let d := d.eachCh fun d n => if d.acts e n && !d.isFollower n then d.gangSetpoints e n else d.rampSetpoint e n
  d.mapCh fun n c =>
    (c.modForce fun f => { f with prevSetpt := e[n].setpt }).flagIf c.force.withheld stRpairMode

/-! ## Producers of the commit, and the tally units -/

/-- TICK and SYNC_SLOT (Table 11-2): they fire at t+0.000 µs under the selections in force before (R313). -/
def Dev.tickProducers (d : Dev) : Dev :=
  let k := d.reg Obj.TICK_DIV
  let d := if k ≠ 0 && ((d.tick.toNat : Int) - d.reg Obj.TICK_PHASE) % k = 0 then d.fire 0x400 [] true 2 0 else d
  if d.sync.epoch == .domain && d.tick.toNat % 64 == 0 then d.fire 0x401 [] true 2 0 else d

/-- An object whose write changes a selection of the fabric (R313). -/
def fabricObject (idx sub : Nat) : Bool :=
  (decide (0x2200 ≤ idx) && decide (idx < 0x2280)) || (decide (0x2280 ≤ idx) && decide (idx < 0x22C0) && decide (sub ≤ 0x2C))

/-- A request writes a selection of the fabric. -/
def HostWrite.fabric (w : HostWrite) : Bool :=
  match w.req with
  | .one idx sub _ _ => fabricObject idx sub
  | .whole idx _ => fabricObject idx 1
  | .ack _ | .holdAll | .judge _ | .revert _ _ _ => false

/-- The host requests of this commit that pass a test act, in order (R378). -/
def Dev.actWrites (d : Dev) (p : HostWrite → Bool) : Dev :=
  let now := d.dueWrites.filter p
  let d := d.modDict fun x => { x with writes := x.writes.filter fun w => !(reached d.tick w.act && p w) }
  now.foldl Dev.applyWrite d

/-- The units of one channel at the commit (R194, R195, R198). -/
def Dev.unitsCommit (d : Dev) (old : Vector Channel 64) (applied : List (ChanId × Selected)) (n : ChanId) : Dev :=
  let f := (d.ch n).force
  let due := fun (x : EdgeRec) => decide (12 ≤ x.con) && reached d.tick x.act
  let edges := (d.ch n).edges.filter due
  let d := d.modCh n fun c => { c with edges := c.edges.filter fun x => !due x }
  let step := (d.ch n).isArmed && applied.any fun x => x.1 == d.leaderOf n
  let was := if (d.ch n).mayOpen then old[n].force.gates else f.gates
  (d.tallyCommit n { tick := d.tick, was := was, gates := f.gates, step := step, edges := edges }).modCh n (·.tallyThresholds d.tick)

/-- The entries that the window of the present tick presents (R292, R298). -/
def Dev.presentEntries (d : Dev) (e : Vector Ending 64) : Dev :=
  let drops := Vector.ofFn fun n => d.dropsWindow e n
  d.mapCh fun n c => if drops[n] then c else c.nextEntries

/-- The records of closed units enter the FIFO (R197, R204), and verified loads act (R417–R419). -/
def Dev.recordsCommit (d : Dev) (e : Vector Ending 64) : Dev :=
  (d.eachCh fun d n => if d.dropsWindow e n then d else d.enterRecords n).fifoHold.actClaims

/-- Steps apply, setpoints follow, producers fire and the units open and close. -/
def Dev.applyCommit (d : Dev) (e : Vector Ending 64) (old : Vector Channel 64) : Dev :=
  let steps := d.appliers e
  let d := steps.foldl Dev.applyNow (d.noteApplied e old)
  let d := ((d.setpoints e).presentEntries e).tickProducers
  let d := d.actWrites HostWrite.fabric
  let d := steps.foldl (fun d x => if (d.ch x.1).isArmed then d.fireStep x.1 x.2 else d) d
  d.eachCh (·.unitsCommit old steps)

end Sys2Proof.Machine
end

