-- ==== Sys2Proof/Machine/CommitBarker.lean ====
section
/-! DEFINITION. The third part of a commit: the barkers. Discarded work is taken back (R68), edges, hold requests and jumps of
the commit are evaluated (R17, R240, R315, R316), DWELL is counted, and the spans that end are found (R239); the row of the
span's end then selects. -/

namespace Sys2Proof.Machine

open Sys2Proof

/-! ## Work that a fault discarded (R68) -/

/-- A channel whose work of the tick that ends was discarded. -/
def Dev.lostWork (d : Dev) (n : ChanId) : Bool := (d.ch n).lost.isSome

/-- Undo the selection of the commit before where its tick's work is lost and no hold was evaluated there. -/
def Dev.restoreLost (d : Dev) (n : ChanId) : Dev :=
  if d.lostWork n && !(d.ch n).bk.holdReq then
    match (d.ch n).redo with
    | some r => if r.tick + 1 = d.tick then d.unselect n r r.tick else d
    | none => d
  else d

/-! ## Requests and edges of the commit -/

/-- An edge acts on the barker (R241, R248, R316). -/
def Dev.takeEdge (d : Dev) (n : ChanId) (x : EdgeRec) : Dev :=
  if 4 ≤ x.con && x.con ≤ 7 then
    d.modCh n fun c => c.modBk fun k =>
      { k with latch := putBit k.latch (x.con - 4) true,
               latchOrg := (x.con - 4, x.origin) :: k.latchOrg.filter (·.1 != x.con - 4) }
  else if x.con = 8 then
    let seg := d.creg n Obj.JUMP_VEC
    if seg = 0xFFFF then d.cinc n 32 Obj.JUMP_DISCARDED else d.offerJump n .jmp seg x.tick x.origin
  else if x.con = 11 then
    let last := d.tick + BitVec.ofNat 48 (max 1 (d.creg n Obj.HOLD_LEN) - 1)
    d.modCh n fun c => { c with hold := some (d.tick, last) }
  else d

/-- Edges whose commit is the present one, in the order of their arrival. -/
def Dev.takeEdges (d : Dev) (n : ChanId) : Dev :=
  let due := fun (x : EdgeRec) => decide (x.con < 12) && reached d.tick x.act
  let now := (d.ch n).edges.filter due
  now.foldl (fun d x => d.takeEdge n x) (d.modCh n fun c => { c with edges := c.edges.filter fun x => !due x })

/-- A run of the hold consumer that covers a commit raises a request at it (R316). -/
def Channel.runHolds (c : Channel) (t : Tick) : Bool :=
  match c.hold with
  | some (a, b) => reached t a && reached b t
  | none => false

/-- A run that is over leaves the consumer. -/
def Channel.endRun (c : Channel) (t : Tick) : Channel :=
  match c.hold with
  | some (_, b) => if reached b t then c else { c with hold := none }
  | none => c

/-- A request for the hold of every ARMED channel acts at this commit (R394). -/
def Dev.holdAllNow (d : Dev) : Bool :=
  d.dict.holdAll || d.dueWrites.any fun w => match w.req with | .holdAll => true | _ => false

/-- Programs are fetched again or a word is restored for a member: its gang holds (R299, R339). -/
def Dev.memoryHolds (d : Dev) (n : ChanId) : Bool :=
  (d.members n).any fun m => (d.ch m).eng.refetch.isSome || (d.ch m).eng.restore.isSome

/-- A hold request is evaluated at the present commit for a cause other than an under-run (R67, R204, R316, R394). -/
def Dev.holdAsked (d : Dev) (n : ChanId) : Bool :=
  let c := d.ch n
  c.runHolds d.tick || (c.isArmed && (d.fifo.holding || d.holdAllNow)) || d.memoryHolds n

/-! ## One barker at a commit -/

/-- The span of the current step has taken in the tick that ends (R246, Table 8-6). -/
def Channel.spanTick (c : Channel) (e : Ending) : Channel :=
  let f := c.force
  let trips : BitVec 4 := (List.finRange 4).foldl (fun a m => if c.wm[m].tripSeen then putBit a m.val true else a) 0
  c.modBk fun k => { k with spanTrip := k.spanTrip ||| trips, spanHi := k.spanHi || f.latHi, spanLo := k.spanLo || f.latLo,
                            spanUr := k.spanUr || k.urTick, spanHeld := k.spanHeld || e.held, spanRc := k.spanRc || e.rc }

/-- DWELL is counted at the commit (R240): not where a hold request is evaluated. `retro` says that one is taken to have
been evaluated at the commit before (R68, R338), where DWELL was counted. -/
def Barker.count (b : Barker) (asked retro wasAsked : Bool) : Barker :=
  let runs := b.seq == .playing || b.seq == .waiting
  let b := if !runs then { b with stuckHold := false }
    else if !asked && !retro then { b with done := b.done + 1, left := b.left - 1, stuckHold := false }
    else if asked && retro && !wasAsked then
      (if b.done = 0 then { b with stuckHold := true } else { b with done := b.done - 1, left := b.left + 1, stuckHold := false })
    else { b with stuckHold := b.stuckHold && asked }
  b

/-- The barker of a channel at the commit. -/
def Dev.barkerTick (d : Dev) (e : Vector Ending 64) (n : ChanId) : Dev :=
  let b0 := (d.ch n).bk
  let lost := d.lostWork n
  let retro := (lost && !b0.holdReq) || b0.stuckHold
  let discarded := e[n].discard
  let d := (d.restoreLost n).modCh n fun c => (c.modBk fun k => { k with status := if discarded then 128 else 0 }).spanTick e[n]
  let d := if discarded then d.trace (some n) .hold else d
  let ur := (d.ch n).bk.dry
  let d := (if ur then d.cinc n 32 Obj.UR_TICKS else d).modCh n fun c => c.modBk fun k => { k with urTick := ur }
  let d := d.takeEdges n
  let asked := d.holdAsked n
  let d := d.modCh n fun c => (c.modBk fun k =>
    let k := (k.count asked retro b0.holdReq)
    let k := if !b0.stuckHold && !b0.holdReq then { k with stuckAddr := none, stuckRun := 0 } else k
    { k with holdReq := asked, held := asked }).endRun d.tick
  let b := (d.ch n).bk
  let runs := b.seq == .playing || b.seq == .waiting
  let d := d.modCh n fun c => c.modBk fun k =>
    { k with due := runs && !asked && !k.dry && !k.halt && c.isArmed && k.spanDone }
  let d := if discarded then d.modCh n fun c => c.orReg Obj.SEQ_STICKY 128 else d
  if (d.ch n).bk.status = 0 then d else { d with wrote := (n.val, Obj.SEQ_STICKY) :: d.wrote }

/-- Commits that are boundaries whatever the step, after the requests and writes of the commit (R249, R256): an under-run
episode tries its selection again (R265), an ended chain takes a ready jump (R254). -/
def Dev.openCommit (d : Dev) (n : ChanId) : Dev :=
  let b := (d.ch n).bk
  if b.dry && !b.holdReq && d.maySelect n then (d.noteRedo n).move moveFuel n (.stream (d.ch n).spool.rd b.dryFirst [])
  else if b.seq == .ended then d.openBoundary n
  else d

/-- Ticks held for recoverable causes (R502). -/
def Dev.countHeld (d : Dev) (shown : Dev) (n : ChanId) : Dev :=
  let c := d.ch n
  let mem := (shown.ch n).eng.refetch.isSome || (shown.ch n).eng.restore.isSome
  let b := ((d.cfg n).bk)
  if c.lost.isSome || mem || (b.stuckHold && !b.holdReq) then
    (d.incBy 64 Obj.RECOV_HELD 1).setReg Obj.RECOV_LAST_TICK d.tick.toNat
  else d

/-- The barkers at the commit. -/
def Dev.barkersCommit (d : Dev) (e : Vector Ending 64) (shown : Dev) : Dev :=
  let d := d.eachCh fun d n => d.countHeld shown n
  let held := (List.finRange 64).any fun n => (d.ch n).isArmed && e[n].discard
  let d := if held && shown.fifo.holding then d.inc 32 Obj.FIFO_HOLD_TICKS else d
  let d := d.eachCh fun d n => if d.isFollower n then d else d.barkerTick e n
  d.mapCh fun _ c => { c with lost := none }

end Sys2Proof.Machine
end

