-- ==== Sys2Proof/Machine/Commit.lean ====
section
/-! DEFINITION. `COMMIT` (R20): at t+0.000 µs of every tick the module commits what its rules have computed. This file holds
the last part, the host's writes and what the tick that begins starts with, and the whole. -/

namespace Sys2Proof.Machine

open Sys2Proof

/-! ## Host writes of the commit (R378) -/

/-- A request writes one object. -/
def HostWrite.names (w : HostWrite) (obj : Nat) : Bool :=
  match w.req with
  | .one idx sub _ _ => idx * 256 + sub == obj
  | .whole _ _ | .ack _ | .holdAll | .judge _ | .revert _ _ _ => false

/-- The host writes that are still due: arm and park requests after every other, park requests first (R90, R378). -/
def Dev.writesCommit (d : Dev) : Dev :=
  ((d.actWrites fun w => !w.names Obj.ARM_REQ && !w.names Obj.PARK_REQ).actWrites fun w => w.names Obj.PARK_REQ).actWrites
    fun _ => true

/-! ## What the tick that begins starts with -/

/-- The chip of a probe tick, and the register after it (R131). -/
def LoadWatch.next (w : LoadWatch) : LoadWatch :=
  let o := bit w.lfsr 6
  let f : BitVec 7 := if bit w.lfsr 6 != bit w.lfsr 5 then 1 else 0
  let s : BitVec 7 := if w.pos + 1 = 254 then 0x7F else (w.lfsr <<< 1) ||| f
  { w with chip := if o == decide (w.pos < 127) then 2 else -2, probing := true, lfsr := s, pos := (w.pos + 1) % 254 }

/-- Load watch in the tick that begins (R130, R286). -/
def Channel.probe (c : Channel) (on : Bool) : Channel :=
  if !on then { c with lw := { c.lw with chip := 0, probing := false } }
  else
    let w := c.lw.next
    { c with lw := w, eng := { c.eng with chips := (c.eng.chips <<< 1) ||| (if w.chip < 0 then 1 else 0) } }

/-- The tick that begins is a probe tick (R130). -/
def Dev.probes (d : Dev) (n : ChanId) : Bool :=
  let c := d.ch n
  c.reg Obj.LW_EN == 1 && c.isArmed && !c.force.fi && !d.isFollower n && planProbes (d.cfg n) c.force.plan &&
  !bit c.bk.status 7

/-- A reset of the sine phase that waits for sub-step 0 of the tick that begins (R273). -/
def Channel.sineDue (c : Channel) (t : Tick) : Channel :=
  match c.sine.resetAt with
  | none => c
  | some b =>
    let c := if b.1 == t then (c.sineLoad b.1 b.2).inc 32 Obj.SINE_RESETS else c
    { c with sine := { c.sine with resetAt := none } }

/-- The overrun flags of the tick that ends (R315). -/
def Channel.overrunsEnd (c : Channel) : Channel :=
  { (c.setReg Obj.OVR_FLAGS c.ovr.toNat).orReg Obj.OVR_STICKY c.ovr.toNat with ovr := 0 }

/-- A channel as the tick begins: its engine window opens (R283). -/
def Dev.channelStarts (d : Dev) (inp : TickInputs) (n : ChanId) : Dev :=
  let d := if (d.ch n).ovr = 0 then d else { d with wrote := (n.val, Obj.OVR_STICKY) :: d.wrote }
  let on := d.probes n
  let t := d.tick
  let d := d.modCh n fun c =>
    let c := ((c.overrunsEnd.sineDue t).probe on).modGust fun g => { g with spans := g.spans.filter fun s => !reached t (s.2.1 + 4) }
    (c.setReg Obj.SHARE_DEV (unsignedOf 16 ((inp.shareDev.lookup n.val).getD 0))).modEng Engines.reopen
  d.owCommit n

/-- Readings of the module at the commit (R29, Tables 3-12, 11-7, 17-6). -/
def Dev.readings (d : Dev) (inp : TickInputs) : Dev :=
  let i := inp.iAgg % 2 ^ 32
  let d := d.setReg Obj.I_AGG_NOW i
  let d := if d.reg Obj.I_AGG_PEAK < i then { d.setReg Obj.I_AGG_PEAK i with wrote := (64, Obj.I_AGG_PEAK) :: d.wrote } else d
  let d := d.modSync fun y => { y with dcNow := inp.dc }
  let p := d.power
  let d := { d with power := if 24000 < i then { p with aggOver := p.aggOver + 1 } else { p with aggOver := 0, aggRaised := false } }
  let d := d.judgeAgg i d.tick
  ((d.setReg Obj.EVIO_LEVEL inp.evio.toNat).setReg Obj.VBUS_NOW inp.vbus).setReg Obj.P_IN_NOW inp.pIn

/-- A system calibration whose channel is not ARMED any more aborts (R364). -/
def Dev.sysCommit (d : Dev) : Dev :=
  match d.sysActive, d.sysChan with
  | true, some n => if (d.ch n).isArmed then d else d.sysAbort 1
  | _, _ => d

/-- The states of the module at the commit (R53, R173, R175, R463, R483). -/
def Dev.statesCommit (d : Dev) : Dev :=
  ((d.eachSt fun d s => (d.refxFallback s).bufferCommit s).applyDelay.powerCommit).readyCommit

/-! ## The commit -/

/-- The tick ends: pulses that ended in it have fired, and what it meant for conversions is kept (R168, R180). -/
def Dev.tickOver (d : Dev) : Dev :=
  let d := if d.fab.atCommit then d.seal else d
  let next : Tick × Nat := (d.tick + 1, 0)
  let d := d.eachCh fun d n => (d.pulsesTo n false next).pulsesTo n true next
  let d := d.eachSt fun d s => d.auxPulsesTo s next
  let facts := Vector.ofFn d.tickFacts
  d.mapCh fun n c => { c with was := facts[n] }

/-- A commit: `shown` is the module as the commit before left it. -/
def Dev.commit (d : Dev) (inp : TickInputs) (shown : Dev) : Dev :=
  let d := d.tickOver.runWindow shown
  let e := Vector.ofFn d.ending
  let d := (d.beginTick.tickEnds inp).presentDue
  let old := d.chans
  let d := ((d.windowsEnd e inp shown).recordsCommit e).applyCommit e old
  let d := ((d.barkersCommit e shown).writesCommit.eachCh Dev.openCommit).sysCommit
  ((d.readings inp).eachCh fun d n => d.channelStarts inp n).statesCommit.settleFaults

/-- `COMMIT` (R20): what reads saw until now is what reads of the first 16 ns still see (R39). -/
def execCommit (inp : TickInputs) (s : State) : Host.Outcome State Fault Refusal :=
  if s.dev.power.released then runAt { s with prior := s.shown } fun d => d.commit inp s.shown else .next s

end Sys2Proof.Machine
end

