-- ==== Sys2Proof/Machine/Pcie.lean ====
section
/-! DEFINITION. The PCI Express endpoint (R407–R426): training and resets, BAR0 registers, interrupts, the object window,
the queues and the export of results. A request of the link has an effect only while the link is up. -/

namespace Sys2Proof.Machine

open Sys2Proof

def Dev.modPcie (d : Dev) (f : Pcie → Pcie) : Dev := { d with pcie := f d.pcie }

/-- A request of the link inside a tick, and one that acts at the present commit. -/
def linkRead (s : State) (cyc : Cycle) (f : Dev → Dev) : Host.Outcome State Fault Refusal :=
  liveRead s cyc fun d => if d.pcie.up && !d.pcie.perst then f d else d
def linkIn (s : State) (f : Dev → Dev) : Host.Outcome State Fault Refusal :=
  liveIn s fun d => if d.pcie.up && !d.pcie.perst then f d else d

/-! ## Training and resets (R408, Table 1-8) -/

/-- `PERST_N_DEASSERT` (R408). -/
def execPerstNDeassert (s : State) : Host.Outcome State Fault Refusal :=
  runAt s fun d => d.modPcie fun p => { p with perst := false }

/-- Guaranteed refill of a link in MB/s (Table 1-8): rate code and width. -/
def guaranteed (rate width : Nat) : Nat :=
  if rate = 0 then 0
  else if rate = 1 then (if 4 ≤ width then 760 else if width = 2 then 400 else 200)
  else if rate = 2 && width = 1 then 400
  else 760

/-- `PCIE_LINK_TRAINED` (R408): after the fuse phase, with PERST_N deasserted and PCIE_EN 1, at no higher rate than
PCIE_MAX_SPEED. -/
def execPcieLinkTrained (rate width : BitVec 8) (s : State) : Host.Outcome State Fault Refusal :=
  runAt s fun d =>
    if d.pcie.perst || d.power.state = .off || (d.power.state = .boot && d.power.phase < 2) || d.reg Obj.PCIE_EN = 0 then d
    else
      let rate := min rate.toNat (d.reg Obj.PCIE_MAX_SPEED)
      let d := ((d.setReg Obj.PCIE_RATE rate).setReg Obj.PCIE_WIDTH width.toNat).setReg Obj.GUAR_REFILL (guaranteed rate width.toNat)
      (d.inc 32 Obj.PCIE_RETRAINS).modPcie fun p => { p with up := true }

/-- A queue by its name. -/
def Pcie.queue (p : Pcie) : QueueId → Queue
  | .load => p.load
  | .obj => p.obj
  | .exp => p.exp

def Pcie.setQueue (p : Pcie) (q : QueueId) (x : Queue) : Pcie :=
  match q with
  | .load => { p with load := x }
  | .obj => { p with obj := x }
  | .exp => { p with exp := x }

def Dev.modQueue (d : Dev) (q : QueueId) (f : Queue → Queue) : Dev := d.modPcie fun p => p.setQueue q (f (p.queue q))

/-- Source of a queue's violations (Table 18-6). -/
def queueSource : QueueId → Nat
  | .load => 6
  | .obj => 7
  | .exp => 8

/-- A queue is disabled; export entries that are not acknowledged go back to the FIFO head (R408, R415). -/
def Queue.off (q : Queue) (exp : Bool) : Queue :=
  { q with enabled := false, running := false, halted := false, cause := 0, notify := [], head := if exp then q.tail else q.head }

/-- The link goes down: PCIE_RATE, PCIE_WIDTH and GUAR_REFILL show none. -/
def Dev.linkDown (d : Dev) : Dev :=
  (((d.setReg Obj.PCIE_RATE 0).setReg Obj.PCIE_WIDTH 0).setReg Obj.GUAR_REFILL 0).modPcie fun p => { p with up := false }

/-- `PCIE_RESET` (R408): PERST_N, hot reset and link disable take the link down until it trains again. -/
def execPcieReset (kind : PcieResetKind) (s : State) : Host.Outcome State Fault Refusal :=
  runIn s.sealed fun d =>
    let d := if kind == .perst || kind == .hotReset || kind == .linkDisable then d.linkDown else d
    (d.loadsReset true).modPcie fun p =>
      { p with load := p.load.off false, obj := p.obj.off false, exp := p.exp.off true, d3 := false, bme := false,
               perst := p.perst || kind == .perst }

/-- A queue halts with a cause (Table 15-10, Table 15-6). -/
def Dev.haltQueue (d : Dev) (q : QueueId) (cause : Nat) : Dev :=
  (d.modQueue q fun x => { x with halted := true, cause := cause }).raiseIrq 7

/-- Every enabled queue halts with cause BME. -/
def Dev.haltAll (d : Dev) : Dev :=
  [QueueId.load, .obj, .exp].foldl (fun d q =>
    if (d.pcie.queue q).enabled && !(d.pcie.queue q).halted then d.haltQueue q 3 else d) d

/-- `BUS_MASTER_DISABLE` (R408): Bus Master Enable is cleared, or the function enters D3hot. -/
def execBusMasterDisable (d3 : Bool) (s : State) : Host.Outcome State Fault Refusal :=
  linkIn s fun d => (d.modPcie fun p => { p with bme := false, d3 := p.d3 || d3 }).haltAll

/-! ## BAR0 registers and interrupts (R410, R411) -/

/-- A register of a queue, by its offset in the block of 0x40 + 0x20 q. -/
def Queue.reg (x : Queue) (o : Nat) : Option Nat :=
  match o with
  | 0x00 => some (x.base % 2 ^ 32)
  | 0x04 => some (x.base / 2 ^ 32)
  | 0x08 => some x.size
  | 0x0C => some (b2n x.enabled)
  | 0x10 => some x.tail
  | 0x14 => some x.head
  | 0x18 => some x.state
  | _ => none

/-- What a read of a BAR0 register gives (Table 15-5); none where no register stands. -/
def Dev.bar0 (d : Dev) (o : Nat) : Option Nat :=
  let p := d.pcie
  if 0x40 ≤ o && o < 0xA0 then (if o < 0x60 then p.load else if o < 0x80 then p.obj else p.exp).reg (o % 0x20)
  else
    match o with
    | 0x00 => some 0x64200001
    | 0x04 => some (d.reg Obj.PCIE_RATE + 16 * d.reg Obj.PCIE_WIDTH + 256 * d.ec.esm.code + 4096 * b2n d.ec.errInd)
    | 0x08 => some (d.tick.toNat % 2 ^ 32)
    | 0x0C => some p.tickHi
    | 0x10 => some p.irq.toNat
    | 0x14 => some p.irqMask.toNat
    | 0x18 => some p.expMark
    | 0x20 => some p.winStatus
    | 0x24 => some p.winRefused
    | 0x28 => some p.winDone
    | _ => none

/-- `TICK_LO_READ` (Table 15-5): the low half is answered, the high half latched. -/
def execTickLoRead (cyc : Cycle) (s : State) : Host.Outcome State Fault Refusal :=
  linkRead s cyc fun d =>
    (d.modPcie fun p => { p with tickHi := (s.seen cyc).tick.toNat / 2 ^ 32 }).modDict fun x =>
      { x with answer := ((s.seen cyc).bar0 8).getD 0 }

/-- `BAR0_REGISTER_WRITE` (Table 15-5): a value that the register does not take is discarded. -/
def execBar0RegisterWrite (reg : Bar0Reg) (value : Nat) (s : State) : Host.Outcome State Fault Refusal :=
  linkIn s fun d =>
    match reg with
    | .irqMask => d.modPcie fun p => { p with irqMask := BitVec.ofNat 32 value }
    | .expMark => if within 1 4096 value then d.modPcie fun p => { p with expMark := value } else d
    | .base q => if (d.pcie.queue q).enabled || value % 4096 ≠ 0 then d else d.modQueue q fun x => { x with base := value % 2 ^ 64 }
    | .size q => if (d.pcie.queue q).enabled || !within 4 12 value then d else d.modQueue q fun x => { x with size := value }

/-- Bits set in a mask. -/
def popCount (m : BitVec 32) : Nat := (List.range 32).foldl (fun k i => k + b2n (bit m i)) 0

/-- `IRQ_STATUS_WRITE` (R411): bits written 1 clear, and unmasked causes still pending send again. -/
def execIrqStatusWrite (mask : BitVec 32) (s : State) : Host.Outcome State Fault Refusal :=
  linkIn s fun d => d.modPcie fun p =>
    let irq := p.irq &&& ~~~mask
    { p with irq := irq, irqSent := p.irqSent + popCount (irq &&& ~~~p.irqMask) }

/-- `TLP_UNSUPPORTED` (Table 15-13). The answer logged is the completion status, or 0 where the request is discarded. -/
def execTlpUnsupported (kind : TlpKind) (s : State) : Host.Outcome State Fault Refusal :=
  linkIn s fun d =>
    match kind with
    | .unsupported => (d.inc 32 Obj.PCIE_CORR_ERRS).violate 3 0x0201 0 1
    | .poisoned => (d.inc 32 Obj.PCIE_UNCORR_ERRS).violate 3 0x0202 0 0
    | .misaligned => d.violate 4 0x0203 0 4
    | .tooLong => d.violate 5 0x0204 0 4
    | .byteEnables => (d.violate 5 0x0204 0 0x06070010).bulkDone 5 0x06070010

/-! ## The object window (R412, R413) -/

/-- A window access that matches neither R412 nor R413. -/
def Dev.badWindow (d : Dev) (write : Bool) (offset : Nat) : Dev :=
  if write then (d.violate 5 0x0204 offset 0x06070010).bulkDone 5 0x06070010 else d.violate 5 0x0204 offset 4

/-- Index and subindex of a slot. -/
def slotIdx (slot : Nat) : Nat := slot / 256
def slotSub (slot : Nat) : Nat := slot % 256

/-- Bytes of BAR2. -/
def windowSize : Nat := 134217728

/-- The bytes of a numeric type at a slot; none for a string or where no object stands. -/
def slotBytes (slot : Nat) : Option Nat :=
  match rowOf (slotIdx slot) (slotSub slot) with
  | some r => if r.isString then none else some r.bytes
  | none => if slotSub slot = 0 then some 1 else none

/-- `WINDOW_WRITE` (R413). -/
def execWindowWrite (offset len value : Nat) (cyc : Cycle) (s : State) : Host.Outcome State Fault Refusal :=
  linkIn s fun d =>
    let slot := offset / 8
    let i := slotIdx slot
    let j := slotSub slot
    if offset % 8 ≠ 0 || windowSize ≤ offset then d.badWindow true offset
    else if d.missing i j ≠ 0 then (d.refuseFrom 5 (i * 256 + j) (d.missing i j)).bulkDone 5 (d.missing i j)
    else if slotBytes slot ≠ some len then d.badWindow true offset
    else
      let code := d.receipt false false i j len value
      if code ≠ 0 then (d.refuseFrom 5 (i * 256 + j) code).bulkDone 5 code
      else d.queueWrite cyc.val 2 5 false false (.one i j len value)

/-- The eight bytes of a slot, or the answer of R412: 1 Unsupported Request, 4 Completer Abort, with the abort code. -/
def Dev.readSlot (d : Dev) (slot : Nat) : Except (Nat × Nat) (List Byte) :=
  let i := slotIdx slot
  let j := slotSub slot
  if d.missing i j ≠ 0 then .error (1, d.missing i j)
  else if (slotBytes slot).isNone then .error (4, 0)
  else
    match d.readObj i j with
    | .ok l => .ok (bytesN 8 l)
    | .error e => .error (4, e)

/-- `WINDOW_READ` (R412): every slot covered, from one commit. -/
def execWindowRead (offset len : Nat) (cyc : Cycle) (s : State) : Host.Outcome State Fault Refusal :=
  linkRead s cyc fun d =>
    if len = 0 || 4096 < len || windowSize < offset + len then d.badWindow false offset
    else
      let slots := (List.range ((offset % 8 + len + 7) / 8)).map (offset / 8 + ·)
      let r := slots.foldl (fun (a : Except (Nat × Nat × Nat) (List Byte)) k =>
        match a with
        | .error e => .error e
        | .ok l => match (s.seen cyc).readSlot k with | .ok m => .ok (l ++ m) | .error e => .error (k, e)) (.ok [])
      match r with
      | .ok l => d.served.modDict fun x => { x with data := (l.drop (offset % 8)).take len, answer := leNat ((l.drop (offset % 8)).take len) }
      | .error (k, ans, code) =>
        if code = 0 then d.badWindow false (8 * k)
        else (d.modDict fun x => { x with abort := code }).violate 5 0x0120 (k * 256) ans

/-! ## Queues (R414–R416, R426) -/

/-- `QUEUE_ENABLE` (R415): the host that enables a queue has set Bus Master Enable (log 41); in D3hot it halts. -/
def execQueueEnable (q : QueueId) (v : Bool) (s : State) : Host.Outcome State Fault Refusal :=
  linkIn s fun d =>
    if !v then d.modQueue q fun x => { x with enabled := false, running := false }
    else
      let d := d.modPcie fun p => { p with bme := p.bme || !p.d3 }
      let d := d.modQueue q fun x => { x with enabled := true, running := true }
      if d.pcie.d3 && !(d.pcie.queue q).halted then d.haltQueue q 3 else d

/-- `QUEUE_RESET` (R415). -/
def execQueueReset (q : QueueId) (s : State) : Host.Outcome State Fault Refusal :=
  linkIn s fun d =>
    let d := if q = .load then d.loadsReset true else d
    d.modQueue q fun x => { x.off true with head := 0, tail := 0 }

/-- A TAIL write goes beyond the ring. -/
def Dev.ringHalt (d : Dev) (q : QueueId) (tail : Nat) : Dev := (d.violate (queueSource q) 0x0212 tail 1).haltQueue q 1

/-- Entries of the result FIFO that stand in the ring, not yet acknowledged. -/
def Queue.inRing (q : Queue) : Nat := (q.head + q.ring - q.tail) % q.ring

/-- The host acknowledges export entries (R420). -/
def Dev.exportTail (d : Dev) (tail : Nat) : Dev :=
  let q := d.pcie.exp
  let n := (tail + q.ring - q.tail) % q.ring
  if q.halted then d
  else if q.ring ≤ tail || q.inRing < n then d.ringHalt .exp tail
  else (d.releaseEntries n).modQueue .exp fun x => { x with tail := tail }

/-- `QUEUE_TAIL_WRITE` (R415): `notify` holds FLAGS bit 0 of the descriptors added. -/
def execQueueTailWrite (q : QueueId) (tail : Nat) (notify : List Bool) (s : State) : Host.Outcome State Fault Refusal :=
  linkIn s fun d =>
    let x := d.pcie.queue q
    if q = .exp then d.exportTail tail
    else if x.halted then d
    else if x.ring ≤ tail then d.ringHalt q tail
    else
      let n := (tail + x.ring - x.tail) % x.ring
      d.modQueue q fun y => { y with tail := tail, notify := y.notify ++ (notify ++ List.replicate n false).take n }

/-- `EXPORT_TAIL_WRITE` (R420). -/
def execExportTailWrite (tail : Nat) (s : State) : Host.Outcome State Fault Refusal := linkIn s fun d => d.exportTail tail

/-- An entry is an authentication block. -/
def FifoEntry.isBlock : FifoEntry → Bool
  | .record _ _ => false
  | .block _ => true

/-- `EXPORT_WRITE` (R420): the module writes up to so many FIFO entries into free ring slots. -/
def execExportWrite (slots : Nat) (s : State) : Host.Outcome State Fault Refusal :=
  linkIn s fun d =>
    let q := d.pcie.exp
    if d.reg Obj.EXPORT_LINK ≠ 1 || !q.runs then d
    else
      let old := q.inRing
      let new := ((d.fifo.entries.drop old).take (min slots (q.ring - 1 - old)))
      let k := new.length
      let d := d.modQueue .exp fun x => { x with head := (x.head + k) % x.ring }
      if (decide (old < d.pcie.expMark) && decide (d.pcie.expMark ≤ old + k)) || new.any FifoEntry.isBlock then d.raiseIrq 2 else d

/-- An OBJ descriptor is at the head of a running queue. -/
def Dev.objWaits (d : Dev) : Bool := d.pcie.obj.runs && decide (0 < d.pcie.obj.waiting)

/-- A descriptor is refused at its receipt: it completes with the abort code. -/
def Dev.objRefuse (d : Dev) (obj code : Nat) : Dev := (d.refuseFrom 7 obj code).objAnswer

/-- `OBJ_READ` (R414). -/
def execObjRead (idx : BitVec 16) (sub : BitVec 8) (cyc : Cycle) (s : State) : Host.Outcome State Fault Refusal :=
  linkRead s cyc fun d =>
    if d.objWaits then
      (d.answerRead (s.seen cyc) 7 (idx.toNat * 256 + sub.toNat) ((s.seen cyc).readObj idx.toNat sub.toNat)).objAnswer
    else d

/-- `OBJ_CA_READ` (R414, R373). -/
def execObjCaRead (idx : BitVec 16) (cyc : Cycle) (s : State) : Host.Outcome State Fault Refusal :=
  linkRead s cyc fun d =>
    if d.objWaits then (d.answerRead (s.seen cyc) 7 (idx.toNat * 256) ((s.seen cyc).readWhole idx.toNat)).objAnswer else d

/-- `OBJ_WRITE` (R414): a LENGTH outside 1 to 1,024 is a bad descriptor field. -/
def execObjWrite (idx : BitVec 16) (sub : BitVec 8) (len value : Nat) (cyc : Cycle) (s : State) : Host.Outcome State Fault Refusal :=
  linkIn s fun d =>
    if !d.objWaits then d
    else if !within 1 1024 len then
      ((d.modDict fun x => { x with abort := abRange }).violate 7 0x0211 d.pcie.obj.head abRange).objAnswer
    else
      let code := d.receipt false false idx.toNat sub.toNat len value
      if code ≠ 0 then d.objRefuse (idx.toNat * 256 + sub.toNat) code
      else d.queueWrite cyc.val 2 7 false false (.one idx.toNat sub.toNat len value)

/-- `OBJ_CA_WRITE` (R414, R373). -/
def execObjCaWrite (idx : BitVec 16) (values : List Nat) (cyc : Cycle) (s : State) : Host.Outcome State Fault Refusal :=
  linkIn s fun d =>
    if !d.objWaits then d
    else
      let code := d.receiptWhole false idx.toNat values
      if code ≠ 0 then d.objRefuse (idx.toNat * 256) code
      else d.queueWrite cyc.val 2 7 false false (.whole idx.toNat values)

/-- `DMA_READ_ERROR` (R426): of a payload, or of a descriptor or ring. -/
def execDmaReadError (q : QueueId) (payload : Bool) (s : State) : Host.Outcome State Fault Refusal :=
  linkIn s fun d =>
    if !(d.pcie.queue q).runs then d
    else
    let d := (d.inc 32 Obj.DMA_ERRORS).violate (queueSource q) 0x0210 (d.pcie.queue q).head (if payload then 0x8009 else 2)
    if !payload then d.haltQueue q 2
    else
      match q with
      | .load =>
        let lost := d.load.claims.find? fun c => c.bulk && c.act.isNone
        let d := { d with load := { d.load with claims := match lost with | some c => d.load.claims.erase c | none => d.load.claims } }
        d.loadAnswer true 9 0
      | .obj => (d.modDict fun x => { x with abort := 0x06060000 }).objAnswer
      | .exp => d

end Sys2Proof.Machine
end

