-- ==== Sys2Proof/Machine/Dispatch.lean ====
section
/-! DEFINITION. One arm per command: each is one direct call of that command's meaning. -/

namespace Sys2Proof.Machine

open Sys2Proof

def exec (i : Instr) (s : State) : Host.Outcome State Fault Refusal :=
  match i with
  | .powerGood strap ecMode => Sys2Proof.Machine.execPowerGood strap ecMode s
  | .busStart => Sys2Proof.Machine.execBusStart s
  | .busInRegulation => Sys2Proof.Machine.execBusInRegulation s
  | .stallAnalogReady sl => Sys2Proof.Machine.execStallAnalogReady sl s
  | .fusePhase trustOk time10us => Sys2Proof.Machine.execFusePhase trustOk time10us s
  | .configMemoryPhase img time10us => Sys2Proof.Machine.execConfigMemoryPhase img time10us s
  | .retainedStatePhase r time10us => Sys2Proof.Machine.execRetainedStatePhase r time10us s
  | .release time10us => Sys2Proof.Machine.execRelease time10us s
  | .powerLoss => Sys2Proof.Machine.execPowerLoss s
  | .refclkLoss dev cyc => Sys2Proof.Machine.execRefclkLoss dev cyc s
  | .refclkPresent dev => Sys2Proof.Machine.execRefclkPresent dev s
  | .refclkRelock => Sys2Proof.Machine.execRefclkRelock s
  | .commit inp => Sys2Proof.Machine.execCommit inp s
  | .dwellExpiry n => Sys2Proof.Machine.execDwellExpiry n s
  | .forceV n value rpair f => Sys2Proof.Machine.execForceV n value rpair f s
  | .forceI n value rpair f => Sys2Proof.Machine.execForceI n value rpair f s
  | .stepHold n f => Sys2Proof.Machine.execStepHold n f s
  | .tallyOnly n tctl mark dwell => Sys2Proof.Machine.execTallyOnly n tctl mark dwell s
  | .waitTether n noTimeout pre input f => Sys2Proof.Machine.execWaitTether n noTimeout pre input f s
  | .waitTimeout n => Sys2Proof.Machine.execWaitTimeout n s
  | .loopOpen n count f => Sys2Proof.Machine.execLoopOpen n count f s
  | .loopClose n => Sys2Proof.Machine.execLoopClose n s
  | .jumpIf n => Sys2Proof.Machine.execJumpIf n s
  | .sineSetStart n setting f => Sys2Proof.Machine.execSineSetStart n setting f s
  | .sineSetZero n f => Sys2Proof.Machine.execSineSetZero n f s
  | .sineSetPhaseReset n f => Sys2Proof.Machine.execSineSetPhaseReset n f s
  | .gustArm n profile f => Sys2Proof.Machine.execGustArm n profile f s
  | .gustDisarm n f => Sys2Proof.Machine.execGustDisarm n f s
  | .stepEnd n f => Sys2Proof.Machine.execStepEnd n f s
  | .endPark n f => Sys2Proof.Machine.execEndPark n f s
  | .safeJump n => Sys2Proof.Machine.execSafeJump n s
  | .headPin n h seg => Sys2Proof.Machine.execHeadPin n h seg s
  | .headFillDone n h => Sys2Proof.Machine.execHeadFillDone n h s
  | .stageFillDone n => Sys2Proof.Machine.execStageFillDone n s
  | .safeHeadFillDone n => Sys2Proof.Machine.execSafeHeadFillDone n s
  | .jumpCmdJump n seg => Sys2Proof.Machine.execJumpCmdJump n seg s
  | .jumpCmdCancel n => Sys2Proof.Machine.execJumpCmdCancel n s
  | .jmpEdge n cyc => Sys2Proof.Machine.execJmpEdge n cyc s
  | .waitEdge n w cyc => Sys2Proof.Machine.execWaitEdge n w cyc s
  | .holdRequest n cyc => Sys2Proof.Machine.execHoldRequest n cyc s
  | .dirEntryWrite word => Sys2Proof.Machine.execDirEntryWrite word s
  | .spoolSegWrite n seg => Sys2Proof.Machine.execSpoolSegWrite n seg s
  | .spoolCmdReset n => Sys2Proof.Machine.execSpoolCmdReset n s
  | .safeSegWrite n seg => Sys2Proof.Machine.execSafeSegWrite n seg s
  | .armReq mask => Sys2Proof.Machine.execArmReq mask s
  | .armDisconnectClose => Sys2Proof.Machine.execArmDisconnectClose s
  | .armClamps => Sys2Proof.Machine.execArmClamps s
  | .armComplete => Sys2Proof.Machine.execArmComplete s
  | .parkReq mask => Sys2Proof.Machine.execParkReq mask s
  | .parkRampDone n => Sys2Proof.Machine.execParkRampDone n s
  | .parkCurrentLow n => Sys2Proof.Machine.execParkCurrentLow n s
  | .parkForced n => Sys2Proof.Machine.execParkForced n s
  | .parkComplete n => Sys2Proof.Machine.execParkComplete n s
  | .safeRampDone n => Sys2Proof.Machine.execSafeRampDone n s
  | .clampEngage n high cyc => Sys2Proof.Machine.execClampEngage n high cyc s
  | .clampRelease n high cyc => Sys2Proof.Machine.execClampRelease n high cyc s
  | .hardwareTrip n span cyc => Sys2Proof.Machine.execHardwareTrip n span cyc s
  | .railFail sl rail cyc => Sys2Proof.Machine.execRailFail sl rail cyc s
  | .aggCurrent milliamp cyc => Sys2Proof.Machine.execAggCurrent milliamp cyc s
  | .derateLevelChange sl tj => Sys2Proof.Machine.execDerateLevelChange sl tj s
  | .shareFault n cyc => Sys2Proof.Machine.execShareFault n cyc s
  | .ringDrop n cyc => Sys2Proof.Machine.execRingDrop n cyc s
  | .compModeWrite n fixed value => Sys2Proof.Machine.execCompModeWrite n fixed value s
  | .lwEstimate n => Sys2Proof.Machine.execLwEstimate n s
  | .rangeChangeBreak n => Sys2Proof.Machine.execRangeChangeBreak n s
  | .rangeChangeClose n => Sys2Proof.Machine.execRangeChangeClose n s
  | .gustTrigger n cyc => Sys2Proof.Machine.execGustTrigger n cyc s
  | .gustInjectionStart n => Sys2Proof.Machine.execGustInjectionStart n s
  | .gustInjectionEnd n => Sys2Proof.Machine.execGustInjectionEnd n s
  | .gustArmCmdArm n profile => Sys2Proof.Machine.execGustArmCmdArm n profile s
  | .gustArmCmdDisarm n => Sys2Proof.Machine.execGustArmCmdDisarm n s
  | .sineCmdStart n setting => Sys2Proof.Machine.execSineCmdStart n setting s
  | .sineCmdZero n => Sys2Proof.Machine.execSineCmdZero n s
  | .sineCmdPhaseReset n => Sys2Proof.Machine.execSineCmdPhaseReset n s
  | .sinePhaseReset n cyc => Sys2Proof.Machine.execSinePhaseReset n cyc s
  | .timerConversionStart n mi second => Sys2Proof.Machine.execTimerConversionStart n mi second s
  | .regTrigger n mi rising width cyc => Sys2Proof.Machine.execRegTrigger n mi rising width cyc s
  | .injTrigger n mi rising width cyc => Sys2Proof.Machine.execInjTrigger n mi rising width cyc s
  | .injSequenceStart n mi => Sys2Proof.Machine.execInjSequenceStart n mi s
  | .conversionDone n mi raw cyc => Sys2Proof.Machine.execConversionDone n mi raw cyc s
  | .calConversion n mi => Sys2Proof.Machine.execCalConversion n mi s
  | .auxWindow sl second reading band => Sys2Proof.Machine.execAuxWindow sl second reading band s
  | .auxInjTrigger sl rising width cyc => Sys2Proof.Machine.execAuxInjTrigger sl rising width cyc s
  | .owCheckStart n => Sys2Proof.Machine.execOwCheckStart n s
  | .owSettleExpiry n => Sys2Proof.Machine.execOwSettleExpiry n s
  | .owCheckDone n => Sys2Proof.Machine.execOwCheckDone n s
  | .refSelWrite sl v => Sys2Proof.Machine.execRefSelWrite sl v s
  | .refxEnWrite sl v => Sys2Proof.Machine.execRefxEnWrite sl v s
  | .wmTransition n m trip cyc => Sys2Proof.Machine.execWmTransition n m trip cyc s
  | .wmCfgWrite n m word => Sys2Proof.Machine.execWmCfgWrite n m word s
  | .wmResolved n m tripped => Sys2Proof.Machine.execWmResolved n m tripped s
  | .tallyCmdOpen n units => Sys2Proof.Machine.execTallyCmdOpen n units s
  | .tallyCmdClose n units => Sys2Proof.Machine.execTallyCmdClose n units s
  | .tallyCmdAbort n units => Sys2Proof.Machine.execTallyCmdAbort n units s
  | .tallyOpenEdge n u cyc => Sys2Proof.Machine.execTallyOpenEdge n u cyc s
  | .tallyCloseEdge n u cyc => Sys2Proof.Machine.execTallyCloseEdge n u cyc s
  | .tallyTicksExpiry n u => Sys2Proof.Machine.execTallyTicksExpiry n u s
  | .spanLimit n u => Sys2Proof.Machine.execSpanLimit n u s
  | .tallyConfigWrite n u which value => Sys2Proof.Machine.execTallyConfigWrite n u which value s
  | .flushTimeout => Sys2Proof.Machine.execFlushTimeout s
  | .resSessionFlush => Sys2Proof.Machine.execResSessionFlush s
  | .resSessionRoll => Sys2Proof.Machine.execResSessionRoll s
  | .sessionEndDeferred => Sys2Proof.Machine.execSessionEndDeferred s
  | .fifoAck count => Sys2Proof.Machine.execFifoAck count s
  | .evioEdge k rising width cyc => Sys2Proof.Machine.execEvioEdge k rising width cyc s
  | .evioOutput k width cyc => Sys2Proof.Machine.execEvioOutput k width cyc s
  | .evioPulseEnd mko k => Sys2Proof.Machine.execEvioPulseEnd mko k s
  | .mkoOutput k width cyc => Sys2Proof.Machine.execMkoOutput k width cyc s
  | .lockCmd t => Sys2Proof.Machine.execLockCmd t s
  | .mkoRunWrite v => Sys2Proof.Machine.execMkoRunWrite v s
  | .syncMark mark => Sys2Proof.Machine.execSyncMark mark s
  | .syncLost => Sys2Proof.Machine.execSyncLost s
  | .syncWordBad => Sys2Proof.Machine.execSyncWordBad s
  | .syncNop => Sys2Proof.Machine.execSyncNop s
  | .syncTime => Sys2Proof.Machine.execSyncTime s
  | .syncEpoch second => Sys2Proof.Machine.execSyncEpoch second s
  | .syncStartWord => Sys2Proof.Machine.execSyncStartWord s
  | .syncAbortWord => Sys2Proof.Machine.execSyncAbortWord s
  | .syncCalLevel => Sys2Proof.Machine.execSyncCalLevel s
  | .syncDelay => Sys2Proof.Machine.execSyncDelay s
  | .syncSlotSend => Sys2Proof.Machine.execSyncSlotSend s
  | .loopMeasureDone mean spread missing => Sys2Proof.Machine.execLoopMeasureDone mean spread missing s
  | .calCmdDomain => Sys2Proof.Machine.execCalCmdDomain s
  | .calCmdOwn => Sys2Proof.Machine.execCalCmdOwn s
  | .calLevelSend => Sys2Proof.Machine.execCalLevelSend s
  | .lockAcquired edge => Sys2Proof.Machine.execLockAcquired edge s
  | .phaseStep edge => Sys2Proof.Machine.execPhaseStep edge s
  | .startReq tick => Sys2Proof.Machine.execStartReq tick s
  | .abortReq value => Sys2Proof.Machine.execAbortReq value s
  | .epochReq tick => Sys2Proof.Machine.execEpochReq tick s
  | .syncStart => Sys2Proof.Machine.execSyncStart s
  | .dcMapLatch => Sys2Proof.Machine.execDcMapLatch s
  | .sync0Event cycleNs cyc => Sys2Proof.Machine.execSync0Event cycleNs cyc s
  | .pdFrame outputs cyc => Sys2Proof.Machine.execPdFrame outputs cyc s
  | .sm2Watchdog cyc => Sys2Proof.Machine.execSm2Watchdog cyc s
  | .sync0Missed => Sys2Proof.Machine.execSync0Missed s
  | .esmInitToPreop smOk => Sys2Proof.Machine.execEsmInitToPreop smOk s
  | .esmPreopToSafeop smOk sync1 dcCycle => Sys2Proof.Machine.execEsmPreopToSafeop smOk sync1 dcCycle s
  | .esmSafeopToOp => Sys2Proof.Machine.execEsmSafeopToOp s
  | .esmLeaveOp target => Sys2Proof.Machine.execEsmLeaveOp target s
  | .esmBootstrapRequest => Sys2Proof.Machine.execEsmBootstrapRequest s
  | .esmInvalidRequest target => Sys2Proof.Machine.execEsmInvalidRequest target s
  | .ecLinkLost port => Sys2Proof.Machine.execEcLinkLost port s
  | .ecLinkUp port => Sys2Proof.Machine.execEcLinkUp port s
  | .mailboxRequest service => Sys2Proof.Machine.execMailboxRequest service s
  | .sdoDownload idx sub len value cyc => Sys2Proof.Machine.execSdoDownload idx sub len value cyc s
  | .sdoUpload idx sub cyc => Sys2Proof.Machine.execSdoUpload idx sub cyc s
  | .sdoCompleteAccessWrite idx values cyc => Sys2Proof.Machine.execSdoCompleteAccessWrite idx values cyc s
  | .sdoCompleteAccessRead idx cyc => Sys2Proof.Machine.execSdoCompleteAccessRead idx cyc s
  | .getOdList => Sys2Proof.Machine.execGetOdList s
  | .getObjectDescription idx => Sys2Proof.Machine.execGetObjectDescription idx s
  | .getEntryDescription idx sub => Sys2Proof.Machine.execGetEntryDescription idx sub s
  | .sdoSegmentTimeout => Sys2Proof.Machine.execSdoSegmentTimeout s
  | .objectWrite idx sub len value => Sys2Proof.Machine.execObjectWrite idx sub len value s
  | .retainRecordWritten record ok => Sys2Proof.Machine.execRetainRecordWritten record ok s
  | .storeParams value => Sys2Proof.Machine.execStoreParams value s
  | .restoreDefaults value => Sys2Proof.Machine.execRestoreDefaults value s
  | .restoreQuery value => Sys2Proof.Machine.execRestoreQuery value s
  | .pcieReset kind => Sys2Proof.Machine.execPcieReset kind s
  | .busMasterDisable d3 => Sys2Proof.Machine.execBusMasterDisable d3 s
  | .windowWrite offset len value cyc => Sys2Proof.Machine.execWindowWrite offset len value cyc s
  | .windowRead offset len cyc => Sys2Proof.Machine.execWindowRead offset len cyc s
  | .irqStatusWrite mask => Sys2Proof.Machine.execIrqStatusWrite mask s
  | .queueEnable q v => Sys2Proof.Machine.execQueueEnable q v s
  | .queueReset q => Sys2Proof.Machine.execQueueReset q s
  | .queueTailWrite q tail notify => Sys2Proof.Machine.execQueueTailWrite q tail notify s
  | .exportTailWrite tail => Sys2Proof.Machine.execExportTailWrite tail s
  | .exportWrite slots => Sys2Proof.Machine.execExportWrite slots s
  | .objRead idx sub cyc => Sys2Proof.Machine.execObjRead idx sub cyc s
  | .objWrite idx sub len value cyc => Sys2Proof.Machine.execObjWrite idx sub len value cyc s
  | .objCaRead idx cyc => Sys2Proof.Machine.execObjCaRead idx cyc s
  | .objCaWrite idx values cyc => Sys2Proof.Machine.execObjCaWrite idx values cyc s
  | .dmaReadError q payload => Sys2Proof.Machine.execDmaReadError q payload s
  | .tlpUnsupported kind => Sys2Proof.Machine.execTlpUnsupported kind s
  | .loadCmdBegin => Sys2Proof.Machine.execLoadCmdBegin s
  | .loadData bytes => Sys2Proof.Machine.execLoadData bytes s
  | .loadCmdSubmit => Sys2Proof.Machine.execLoadCmdSubmit s
  | .loadCmdAbandon => Sys2Proof.Machine.execLoadCmdAbandon s
  | .spoolRefill src => Sys2Proof.Machine.execSpoolRefill src s
  | .ledgerLoad bulk cyc => Sys2Proof.Machine.execLedgerLoad bulk cyc s
  | .programPackage bulk => Sys2Proof.Machine.execProgramPackage bulk s
  | .gustProfile bulk => Sys2Proof.Machine.execGustProfile bulk s
  | .gustProfileValid n => Sys2Proof.Machine.execGustProfileValid n s
  | .imageUpdate bulk readBack => Sys2Proof.Machine.execImageUpdate bulk readBack s
  | .containerVerified src fuseOk cyc => Sys2Proof.Machine.execContainerVerified src fuseOk cyc s
  | .imageCmd value => Sys2Proof.Machine.execImageCmd value s
  | .psetCmdUnload => Sys2Proof.Machine.execPsetCmdUnload s
  | .scrDataWrite value => Sys2Proof.Machine.execScrDataWrite value s
  | .nop n k count => Sys2Proof.Machine.execNop n k count s
  | .ldi n k d imm => Sys2Proof.Machine.execLdi n k d imm s
  | .ldh n k d a imm => Sys2Proof.Machine.execLdh n k d a imm s
  | .mov n k d a => Sys2Proof.Machine.execMov n k d a s
  | .ld n k d b region offset => Sys2Proof.Machine.execLd n k d b region offset s
  | .st n k a b region offset => Sys2Proof.Machine.execSt n k a b region offset s
  | .engIn n k d port => Sys2Proof.Machine.execEngIn n k d port s
  | .engOut n k a port => Sys2Proof.Machine.execEngOut n k a port s
  | .lut n k d a sl base => Sys2Proof.Machine.execLut n k d a sl base s
  | .luti n k d a sl base => Sys2Proof.Machine.execLuti n k d a sl base s
  | .add n k d a b => Sys2Proof.Machine.execAdd n k d a b s
  | .sub n k d a b => Sys2Proof.Machine.execSub n k d a b s
  | .addi n k d a imm => Sys2Proof.Machine.execAddi n k d a imm s
  | .addw n k d a b => Sys2Proof.Machine.execAddw n k d a b s
  | .engNeg n k d a => Sys2Proof.Machine.execEngNeg n k d a s
  | .engAbs n k d a => Sys2Proof.Machine.execEngAbs n k d a s
  | .engMin n k d a b => Sys2Proof.Machine.execEngMin n k d a b s
  | .engMax n k d a b => Sys2Proof.Machine.execEngMax n k d a b s
  | .engAnd n k d a b => Sys2Proof.Machine.execEngAnd n k d a b s
  | .engOr n k d a b => Sys2Proof.Machine.execEngOr n k d a b s
  | .engXor n k d a b => Sys2Proof.Machine.execEngXor n k d a b s
  | .shl n k d a count => Sys2Proof.Machine.execShl n k d a count s
  | .shr n k d a mode count => Sys2Proof.Machine.execShr n k d a mode count s
  | .engSat n k d a width => Sys2Proof.Machine.execEngSat n k d a width s
  | .engClamp n k d a b c => Sys2Proof.Machine.execEngClamp n k d a b c s
  | .sels n k d a b c zero => Sys2Proof.Machine.execSels n k d a b c zero s
  | .ext n k d a signed msb lsb => Sys2Proof.Machine.execExt n k d a signed msb lsb s
  | .ins n k d a msb lsb => Sys2Proof.Machine.execIns n k d a msb lsb s
  | .mul n k d a b => Sys2Proof.Machine.execMul n k d a b s
  | .mac n k a b subtract acc1 => Sys2Proof.Machine.execMac n k a b subtract acc1 s
  | .accrd n k d clear acc1 mode count => Sys2Proof.Machine.execAccrd n k d clear acc1 mode count s
  | .accld n k a acc1 => Sys2Proof.Machine.execAccld n k a acc1 s
  | .puts n k a b e => Sys2Proof.Machine.execPuts n k a b e s
  | .tacc n k a b e => Sys2Proof.Machine.execTacc n k a b e s
  | .flag n k a f => Sys2Proof.Machine.execFlag n k a f s
  | .engFault n k a f2 code => Sys2Proof.Machine.execEngFault n k a f2 code s
  | .corr n k a b => Sys2Proof.Machine.execCorr n k a b s
  | .crd n k d b lag => Sys2Proof.Machine.execCrd n k d b lag s
  | .cclr n k a => Sys2Proof.Machine.execCclr n k a s
  | .stallLinkWord sl chans bad => Sys2Proof.Machine.execStallLinkWord sl chans bad s
  | .silentTick sl die ctl => Sys2Proof.Machine.execSilentTick sl die ctl s
  | .linkUncorr sl => Sys2Proof.Machine.execLinkUncorr sl s
  | .linkSilent sl => Sys2Proof.Machine.execLinkSilent sl s
  | .stallTjLimit sl tj => Sys2Proof.Machine.execStallTjLimit sl tj s
  | .ledgerReadParity line cause persistent => Sys2Proof.Machine.execLedgerReadParity line cause persistent s
  | .stepParityStuck n => Sys2Proof.Machine.execStepParityStuck n s
  | .programParity n word persistent => Sys2Proof.Machine.execProgramParity n word persistent s
  | .refetchDone n => Sys2Proof.Machine.execRefetchDone n s
  | .refetchFail n => Sys2Proof.Machine.execRefetchFail n s
  | .scratchpadParity sl addr readers persistent bulk => Sys2Proof.Machine.execScratchpadParity sl addr readers persistent bulk s
  | .scrRestoreDone sl addr image => Sys2Proof.Machine.execScrRestoreDone sl addr image s
  | .stallDiscard n cycles => Sys2Proof.Machine.execStallDiscard n cycles s
  | .stallBudget n => Sys2Proof.Machine.execStallBudget n s
  | .scrubRead line ahead good => Sys2Proof.Machine.execScrubRead line ahead good s
  | .marchBorrow mem saveOk => Sys2Proof.Machine.execMarchBorrow mem saveOk s
  | .marchRelease mem => Sys2Proof.Machine.execMarchRelease mem s
  | .marchRestoreDone mem pass => Sys2Proof.Machine.execMarchRestoreDone mem pass s
  | .bgCycleComplete n est => Sys2Proof.Machine.execBgCycleComplete n est s
  | .calPauseClamp n => Sys2Proof.Machine.execCalPauseClamp n s
  | .linPassDone n table => Sys2Proof.Machine.execLinPassDone n table s
  | .bgComparison => Sys2Proof.Machine.execBgComparison s
  | .calSnapshot ok => Sys2Proof.Machine.execCalSnapshot ok s
  | .syscalCmdZero => Sys2Proof.Machine.execSyscalCmdZero s
  | .syscalCmdFull => Sys2Proof.Machine.execSyscalCmdFull s
  | .syscalCmdAbort => Sys2Proof.Machine.execSyscalCmdAbort s
  | .syscalPointBegin => Sys2Proof.Machine.execSyscalPointBegin s
  | .syscalPointJudged => Sys2Proof.Machine.execSyscalPointJudged s
  | .syscalStoreDone ok => Sys2Proof.Machine.execSyscalStoreDone ok s
  | .faultHandlingBegin => Sys2Proof.Machine.execFaultHandlingBegin s
  | .safeConfirm n => Sys2Proof.Machine.execSafeConfirm n s
  | .safePath n cause cyc => Sys2Proof.Machine.execSafePath n cause cyc s
  | .mgmtWdt cyc => Sys2Proof.Machine.execMgmtWdt cyc s
  | .faultClear mask => Sys2Proof.Machine.execFaultClear mask s
  | .faultClearCh mask => Sys2Proof.Machine.execFaultClearCh mask s
  | .histClear value => Sys2Proof.Machine.execHistClear value s
  | .quietEnter => Sys2Proof.Machine.execQuietEnter s
  | .quietExit => Sys2Proof.Machine.execQuietExit s
  | .analogPowerUpDone => Sys2Proof.Machine.execAnalogPowerUpDone s
  | .rebootCmd value => Sys2Proof.Machine.execRebootCmd value s
  | .selftestCmd mask => Sys2Proof.Machine.execSelftestCmd mask s
  | .selftestDone sl result => Sys2Proof.Machine.execSelftestDone sl result s
  | .streamOpen => Sys2Proof.Machine.execStreamOpen s
  | .ownership fuseOk => Sys2Proof.Machine.execOwnership fuseOk s
  | .debugToken => Sys2Proof.Machine.execDebugToken s
  | .retire fuseOk => Sys2Proof.Machine.execRetire fuseOk s
  | .streamCmd id => Sys2Proof.Machine.execStreamCmd id s
  | .sessCmdOffer bulk => Sys2Proof.Machine.execSessCmdOffer bulk s
  | .sessCmdClose => Sys2Proof.Machine.execSessCmdClose s
  | .sessHostOffer offer bulk => Sys2Proof.Machine.execSessHostOffer offer bulk s
  | .sessOfferTimeout => Sys2Proof.Machine.execSessOfferTimeout s
  | .sealedIn req bulk => Sys2Proof.Machine.execSealedIn req bulk s
  | .sealedFailureLimit => Sys2Proof.Machine.execSealedFailureLimit s
  | .attestNonce nonce => Sys2Proof.Machine.execAttestNonce nonce s
  | .drbgFailure => Sys2Proof.Machine.execDrbgFailure s
  | .debugReqD0 => Sys2Proof.Machine.execDebugReqD0 s
  | .debugReqD1 => Sys2Proof.Machine.execDebugReqD1 s
  | .debugReqD2 => Sys2Proof.Machine.execDebugReqD2 s
  | .debugReqD3 => Sys2Proof.Machine.execDebugReqD3 s
  | .debugNonceExpiry => Sys2Proof.Machine.execDebugNonceExpiry s
  | .dbgHaltReq mask => Sys2Proof.Machine.execDbgHaltReq mask s
  | .dbgResume mask => Sys2Proof.Machine.execDbgResume mask s
  | .dbgStep mask => Sys2Proof.Machine.execDbgStep mask s
  | .tapBypass => Sys2Proof.Machine.execTapBypass s
  | .tapIdcode => Sys2Proof.Machine.execTapIdcode s
  | .tapSamplePreload => Sys2Proof.Machine.execTapSamplePreload s
  | .tapExtest => Sys2Proof.Machine.execTapExtest s
  | .busFail cyc => Sys2Proof.Machine.execBusFail cyc s
  | .esmDownwardTransition target => Sys2Proof.Machine.execEsmDownwardTransition target s
  | .perstNDeassert => Sys2Proof.Machine.execPerstNDeassert s
  | .pcieLinkTrained rate width => Sys2Proof.Machine.execPcieLinkTrained rate width s
  | .tapReset => Sys2Proof.Machine.execTapReset s
  | .tapPrivateInstruction acc => Sys2Proof.Machine.execTapPrivateInstruction acc s
  | .tickLoRead cyc => Sys2Proof.Machine.execTickLoRead cyc s
  | .bar0RegisterWrite reg value => Sys2Proof.Machine.execBar0RegisterWrite reg value s
  | .scrRestoreTimeout sl addr => Sys2Proof.Machine.execScrRestoreTimeout sl addr s

end Sys2Proof.Machine
end

