-- ==== Sys2Proof/Safety.lean ====
section
/-! DEFINITION. The terms in which claims are stated: the part of the module that few commands may change, the canonical
form of its memories, and the plain conditions on a state under which a command has its own effect. -/

namespace Sys2Proof.Machine

open Sys2Proof

/-- What the trust core owns: life cycle, owner slots and policy, anti-rollback counters, D3 count, owner key (R434–R436,
R454). -/
structure Trust where
  life      : Lifecycle
  slots     : Vector Nat 2
  policy    : Nat
  arb       : Vector Nat 4
  d3Count   : Nat
  ownerHash : List Byte
  ownerPub  : List Byte
deriving DecidableEq, Repr

def Sec.trust (x : Sec) : Trust :=
  { life := x.life, slots := x.slots, policy := x.policy, arb := x.arb, d3Count := x.d3Count, ownerHash := x.ownerHash,
    ownerPub := x.ownerPub }

/-- The part of the module that only a few commands may change: the tick number, the release, the trust state, the debug
level, and the program memories, the step ledger and its directory. -/
structure Frame where
  tick     : Tick
  released : Bool
  trust    : Trust
  debug    : Nat
  progs    : SMap (Option Program)
  sets     : SMap (Option ProgSet)
  ledger   : SMap Word64
  dir      : SMap Word64
deriving DecidableEq, Repr

def Dev.frame (d : Dev) : Frame :=
  { tick := d.tick, released := d.power.released, trust := d.sec.trust, debug := d.sec.debug, progs := d.mem.progs,
    sets := d.mem.sets, ledger := d.mem.ledger, dir := d.mem.dir }

/-- The step ledger and its directory keep their canonical form: ascending addresses, no word equal to 0 listed. -/
def Frame.wf (f : Frame) : Prop := SMap.wf (fun _ => 0) f.ledger ∧ SMap.wf (fun _ => 0) f.dir

/-- No fault waits to be presented at the present commit or earlier, and none waits in the queue or the escalation latch. -/
def Dev.calm (d : Dev) : Bool := (d.flt.due.all fun x => !reached d.tick x.1) && d.flt.queue.isEmpty && d.flt.escal.isNone

/-- The state with its module replaced, as a command inside a tick leaves it: what reads see stays (R20). -/
def State.inTick (s : State) (d : Dev) : State := { s with dev := d }

/-- The state with its module replaced, as a command at a commit leaves it: what reads see follows (R20). -/
def State.atCommit (s : State) (d : Dev) : State := { s with dev := d, shown := d }

/-- No watermark of a channel's spool is crossed at the present commit (R263). -/
def Dev.marksStay (d : Dev) (n : ChanId) : Prop :=
  (d.spoolLow n = true → (d.ch n).spool.wasLow = true) ∧ (d.spoolHigh n = true → (d.ch n).spool.wasHigh = true)

/-- A channel without what an event of the fabric can change in it: counters, edges, converters, gusts, the sine. -/
def Channel.still (c : Channel) : Channel :=
  { c with regs := [], edges := [], hold := none, mv := Conv.reset, mi := Conv.reset, gust := Gust.reset,
           sine := Sine.reset, ovr := 0 }

/-! ## Words of the statements -/

/-- The command ends in a next state that has the property. -/
def Gives (c : Instr) (s : State) (P : State → Prop) : Prop := ∃ t, exec c s = .next t ∧ P t

/-- Ticks run (R470). -/
def State.live (s : State) : Prop := s.dev.power.released = true

/-- Ticks run, and the commands of the present commit are over. A command inside a tick finds every other state so, once the
commit is sealed (`State.sealed`). -/
def State.inside (s : State) : Prop := s.live ∧ s.dev.fab.atCommit = false

/-- The signed value that 48 bits hold of a number. -/
def wrap48 (v : Int) : Int := (BitVec.ofInt 48 v).toInt

/-- Engine `k` of channel `n` may execute an instruction of so many cycles. -/
def State.engReady (s : State) (n : ChanId) (k : Fin 8) (cycles : Nat) : Prop :=
  s.inside ∧ s.dev.engReady n k cycles = true

/-- Nothing but engine `k` of channel `n` has changed; what reads see has not (R20). -/
def EngineOnly (s t : State) (n : ChanId) (k : Fin 8) : Prop :=
  t = s.inTick (s.dev.modCh n (·.modEngine k fun _ => t.dev.engine n k))

/-- Nothing but the engines of channel `n` has changed; what reads see has not (R20). -/
def EnginesOnly (s t : State) (n : ChanId) : Prop :=
  t = s.inTick (s.dev.modCh n (·.modEng fun _ => (t.dev.ch n).eng))

/-- An instruction writes `v` to register X`d` (X0 discards it, R286), sets the saturation flag where `acted`, and takes
its cycles; every other register, the accumulators and the rest of the module stay. -/
def EngineWrites (s : State) (c : Instr) (n : ChanId) (k : Fin 8) (cycles : Nat) (d : Idx16) (v : Int) (acted : Bool) :
    Prop :=
  Gives c s fun t =>
    (∀ j : Idx16, (t.dev.engine n k).x j = if j = d ∧ d ≠ 0 then wrap48 v else (s.dev.engine n k).x j) ∧
    (t.dev.engine n k).sat = ((s.dev.engine n k).sat || acted) ∧
    (t.dev.engine n k).acc0 = (s.dev.engine n k).acc0 ∧ (t.dev.engine n k).acc1 = (s.dev.engine n k).acc1 ∧
    (t.dev.engine n k).cyc = (s.dev.engine n k).cyc + cycles ∧ EngineOnly s t n k

/-! ## Which commands may move what -/

/-- The commands that may change what the trust core owns: a commit, at which the verdict on a container acts, OWNERSHIP, RETIRE,
a debug token (R435, R436, R441, R442, R454, R455). -/
def movesTrust (c : Instr) : Bool :=
  match c with
  | .commit .. | .ownership .. | .retire .. | .debugToken .. => true
  | _ => false

/-- The commands that may change the tick counter of a released module: a commit, the words that set the epoch, and
release, which begins tick 0 (R41, R44, R49, R470). -/
def movesTick (c : Instr) : Bool :=
  match c with
  | .commit .. | .syncEpoch .. | .syncSlotSend .. | .release .. => true
  | _ => false

end Sys2Proof.Machine
end

