-- ==== Sys2Proof/WellFormed.lean ====
section
/-! DEFINITION. The ranges of a command's operands that its type does not bound: an operand outside them stands for nothing
the outside can send. The step does not look at it; the statements about operands at their ranges do. -/

namespace Sys2Proof

/-- Every operand of the command is in the range that its row gives it. -/
def Instr.wf (i : Instr) : Bool :=
  match i with
  | .powerGood .. => true
  | .busStart => true
  | .busInRegulation => true
  | .stallAnalogReady .. => true
  | .fusePhase .. => true
  | .configMemoryPhase .. => true
  | .retainedStatePhase .. => true
  | .release .. => true
  | .powerLoss => true
  | .refclkLoss .. => true
  | .refclkPresent .. => true
  | .refclkRelock => true
  | .commit .. => true
  | .dwellExpiry .. => true
  | .forceV .. => true
  | .forceI .. => true
  | .stepHold .. => true
  | .tallyOnly .. => true
  | .waitTether .. => true
  | .waitTimeout .. => true
  | .loopOpen .. => true
  | .loopClose .. => true
  | .jumpIf .. => true
  | .sineSetStart .. => true
  | .sineSetZero .. => true
  | .sineSetPhaseReset .. => true
  | .gustArm .. => true
  | .gustDisarm .. => true
  | .stepEnd .. => true
  | .endPark .. => true
  | .safeJump .. => true
  | .headPin .. => true
  | .headFillDone .. => true
  | .stageFillDone .. => true
  | .safeHeadFillDone .. => true
  | .jumpCmdJump .. => true
  | .jumpCmdCancel .. => true
  | .jmpEdge .. => true
  | .waitEdge .. => true
  | .holdRequest .. => true
  | .dirEntryWrite .. => true
  | .spoolSegWrite .. => true
  | .spoolCmdReset .. => true
  | .safeSegWrite .. => true
  | .armReq .. => true
  | .armDisconnectClose => true
  | .armClamps => true
  | .armComplete => true
  | .parkReq .. => true
  | .parkRampDone .. => true
  | .parkCurrentLow .. => true
  | .parkForced .. => true
  | .parkComplete .. => true
  | .safeRampDone .. => true
  | .clampEngage .. => true
  | .clampRelease .. => true
  | .hardwareTrip .. => true
  | .railFail .. => true
  | .aggCurrent milliamp _ => decide (milliamp < 2 ^ 32)  -- a current in mA
  | .derateLevelChange .. => true
  | .shareFault .. => true
  | .ringDrop .. => true
  | .compModeWrite .. => true
  | .lwEstimate .. => true
  | .rangeChangeBreak .. => true
  | .rangeChangeClose .. => true
  | .gustTrigger .. => true
  | .gustInjectionStart .. => true
  | .gustInjectionEnd .. => true
  | .gustArmCmdArm .. => true
  | .gustArmCmdDisarm .. => true
  | .sineCmdStart .. => true
  | .sineCmdZero .. => true
  | .sineCmdPhaseReset .. => true
  | .sinePhaseReset .. => true
  | .timerConversionStart .. => true
  | .regTrigger _ _ _ width _ => decide (0 < width)  -- a pulse has a width
  | .injTrigger _ _ _ width _ => decide (0 < width)
  | .injSequenceStart .. => true
  | .conversionDone .. => true
  | .calConversion .. => true
  | .auxWindow _ _ _ band => decide (band.all (fun x => decide (x < 32)) = true)  -- keys 4p + m of a stall
  | .auxInjTrigger _ _ width _ => decide (0 < width)
  | .owCheckStart .. => true
  | .owSettleExpiry .. => true
  | .owCheckDone .. => true
  | .refSelWrite .. => true
  | .refxEnWrite .. => true
  | .wmTransition .. => true
  | .wmCfgWrite .. => true
  | .wmResolved .. => true
  | .tallyCmdOpen .. => true
  | .tallyCmdClose .. => true
  | .tallyCmdAbort .. => true
  | .tallyOpenEdge .. => true
  | .tallyCloseEdge .. => true
  | .tallyTicksExpiry .. => true
  | .spanLimit .. => true
  | .tallyConfigWrite .. => true
  | .flushTimeout => true
  | .resSessionFlush => true
  | .resSessionRoll => true
  | .sessionEndDeferred => true
  | .fifoAck .. => true
  | .evioEdge _ _ width _ => decide (0 < width)
  | .evioOutput _ width _ => decide (0 < width)
  | .evioPulseEnd .. => true
  | .mkoOutput _ width _ => decide (0 < width)
  | .lockCmd .. => true
  | .mkoRunWrite .. => true
  | .syncMark .. => true
  | .syncLost => true
  | .syncWordBad => true
  | .syncNop => true
  | .syncTime => true
  | .syncEpoch .. => true
  | .syncStartWord => true
  | .syncAbortWord => true
  | .syncCalLevel => true
  | .syncDelay => true
  | .syncSlotSend => true
  | .loopMeasureDone _ _ missing => decide (missing ≤ 2000)  -- 2,000 marks are measured (R56)
  | .calCmdDomain => true
  | .calCmdOwn => true
  | .calLevelSend => true
  | .lockAcquired .. => true
  | .phaseStep .. => true
  | .startReq .. => true
  | .abortReq .. => true
  | .epochReq .. => true
  | .syncStart => true
  | .dcMapLatch => true
  | .sync0Event cycleNs _ => decide (0 < cycleNs)  -- a cycle time
  | .pdFrame outputs _ => decide (outputs.all (fun x => decide (x.1 < 2 ^ 24)) = true)  -- index * 256 + subindex
  | .sm2Watchdog .. => true
  | .sync0Missed => true
  | .esmInitToPreop .. => true
  | .esmPreopToSafeop _ _ dcCycle => decide (dcCycle.getD 1 ≠ 0)  -- a cycle time
  | .esmSafeopToOp => true
  | .esmLeaveOp .. => true
  | .esmBootstrapRequest => true
  | .esmInvalidRequest .. => true
  | .ecLinkLost .. => true
  | .ecLinkUp .. => true
  | .mailboxRequest .. => true
  | .sdoDownload _ _ len value _ => decide (value < 256 ^ len)  -- the value fits its length
  | .sdoUpload .. => true
  | .sdoCompleteAccessWrite _ values _ => decide (values.length ≤ 255)  -- subindices 1 to 255
  | .sdoCompleteAccessRead .. => true
  | .getOdList => true
  | .getObjectDescription .. => true
  | .getEntryDescription .. => true
  | .sdoSegmentTimeout => true
  | .objectWrite _ _ len value => decide (value < 256 ^ len)
  | .retainRecordWritten .. => true
  | .storeParams .. => true
  | .restoreDefaults .. => true
  | .restoreQuery .. => true
  | .pcieReset .. => true
  | .busMasterDisable .. => true
  | .windowWrite offset len value _ => decide (value < 256 ^ len ∧ offset < 2 ^ 27)  -- a slot is 8 bytes: index, subindex (R412)
  | .windowRead offset _ _ => decide (offset < 2 ^ 27)  -- a slot is 8 bytes: index, subindex (R412)
  | .irqStatusWrite .. => true
  | .queueEnable .. => true
  | .queueReset .. => true
  | .queueTailWrite _ tail _ => decide (tail < 2 ^ 32)  -- a 32-bit register
  | .exportTailWrite tail => decide (tail < 2 ^ 32)
  | .exportWrite slots => decide (slots ≤ 16384)  -- the FIFO holds 16,384 entries (R203)
  | .objRead .. => true
  | .objWrite _ _ len value _ => decide (value < 256 ^ len)
  | .objCaRead .. => true
  | .objCaWrite _ values _ => decide (values.length ≤ 255)
  | .dmaReadError .. => true
  | .tlpUnsupported .. => true
  | .loadCmdBegin => true
  | .loadData bytes => decide (bytes.length ≤ 1024)  -- a LOAD_DATA write carries up to 1,024 bytes (R421)
  | .loadCmdSubmit => true
  | .loadCmdAbandon => true
  | .spoolRefill .. => true
  | .ledgerLoad .. => true
  | .programPackage .. => true
  | .gustProfile .. => true
  | .gustProfileValid .. => true
  | .imageUpdate .. => true
  | .containerVerified .. => true
  | .imageCmd .. => true
  | .psetCmdUnload => true
  | .scrDataWrite .. => true
  | .nop .. => true
  | .ldi .. => true
  | .ldh .. => true
  | .mov .. => true
  | .ld .. => true
  | .st .. => true
  | .engIn .. => true
  | .engOut .. => true
  | .lut .. => true
  | .luti .. => true
  | .add .. => true
  | .sub .. => true
  | .addi .. => true
  | .addw .. => true
  | .engNeg .. => true
  | .engAbs .. => true
  | .engMin .. => true
  | .engMax .. => true
  | .engAnd .. => true
  | .engOr .. => true
  | .engXor .. => true
  | .shl _ _ _ _ count => decide (count.toNat ≤ 47)  -- k of SHL is 0 to 47 (Table 10-4)
  | .shr _ _ _ _ _ count => decide (count.toNat ≤ 47)  -- k of SHR is 0 to 47
  | .engSat _ _ _ _ width => decide (2 ≤ width.toNat ∧ width.toNat ≤ 48)  -- n of SAT is 2 to 48
  | .engClamp .. => true
  | .sels .. => true
  | .ext _ _ _ _ _ msb lsb => decide (lsb.toNat ≤ msb.toNat ∧ msb.toNat ≤ 47)  -- msb ≥ lsb, msb ≤ 47
  | .ins _ _ _ _ msb lsb => decide (lsb.toNat ≤ msb.toNat ∧ msb.toNat ≤ 47)  -- msb ≥ lsb, msb ≤ 47
  | .mul .. => true
  | .mac .. => true
  | .accrd _ _ _ _ _ _ count => decide (count.toNat ≤ 47)  -- s of ACCRD is 0 to 47
  | .accld .. => true
  | .puts .. => true
  | .tacc .. => true
  | .flag .. => true
  | .engFault .. => true
  | .corr _ k _ _ => decide (k.val = 6)  -- the correlator belongs to E6 (R286)
  | .crd _ k _ _ _ => decide (k.val = 6)  -- the correlator belongs to E6 (R286)
  | .cclr _ k _ => decide (k.val = 6)  -- the correlator belongs to E6 (R286)
  | .stallLinkWord .. => true
  | .silentTick .. => true
  | .linkUncorr .. => true
  | .linkSilent .. => true
  | .stallTjLimit .. => true
  | .ledgerReadParity .. => true
  | .stepParityStuck .. => true
  | .programParity .. => true
  | .refetchDone .. => true
  | .refetchFail .. => true
  | .scratchpadParity .. => true
  | .scrRestoreDone .. => true
  | .stallDiscard .. => true
  | .stallBudget .. => true
  | .scrubRead _ ahead _ => decide ((ahead.getD (0, 0)).1 < 4096)  -- a segment number
  | .marchBorrow .. => true
  | .marchRelease .. => true
  | .marchRestoreDone .. => true
  | .bgCycleComplete .. => true
  | .calPauseClamp .. => true
  | .linPassDone _ table => decide (table.length = 33)  -- codes c_0 to c_32 (R356)
  | .bgComparison => true
  | .calSnapshot .. => true
  | .syscalCmdZero => true
  | .syscalCmdFull => true
  | .syscalCmdAbort => true
  | .syscalPointBegin => true
  | .syscalPointJudged => true
  | .syscalStoreDone .. => true
  | .faultHandlingBegin => true
  | .safeConfirm .. => true
  | .safePath .. => true
  | .mgmtWdt .. => true
  | .faultClear .. => true
  | .faultClearCh .. => true
  | .histClear .. => true
  | .quietEnter => true
  | .quietExit => true
  | .analogPowerUpDone => true
  | .rebootCmd .. => true
  | .selftestCmd .. => true
  | .selftestDone .. => true
  | .streamOpen => true
  | .ownership .. => true
  | .debugToken => true
  | .retire .. => true
  | .streamCmd .. => true
  | .sessCmdOffer .. => true
  | .sessCmdClose => true
  | .sessHostOffer .. => true
  | .sessOfferTimeout => true
  | .sealedIn .. => true
  | .sealedFailureLimit => true
  | .attestNonce nonce => decide (nonce.length = 32)  -- ATTEST_NONCE has 32 bytes
  | .drbgFailure => true
  | .debugReqD0 => true
  | .debugReqD1 => true
  | .debugReqD2 => true
  | .debugReqD3 => true
  | .debugNonceExpiry => true
  | .dbgHaltReq .. => true
  | .dbgResume .. => true
  | .dbgStep .. => true
  | .tapBypass => true
  | .tapIdcode => true
  | .tapSamplePreload => true
  | .tapExtest => true
  | .busFail .. => true
  | .esmDownwardTransition .. => true
  | .perstNDeassert => true
  | .pcieLinkTrained .. => true
  | .tapReset => true
  | .tapPrivateInstruction .. => true
  | .tickLoRead .. => true
  | .bar0RegisterWrite _ value => decide (value < 2 ^ 64)
  | .scrRestoreTimeout .. => true

end Sys2Proof
end

