-- ==== Sys2Proof/Certificates/Slice0/Obligations.lean ====
section
/-! DEFINITION. What the model is claimed to do: statements for the provers, by the spec's numbered rules. `Gives c s P`
says that command `c` at state `s` ends in a next state with property `P`. -/

section

open Sys2Proof Sys2Proof.Machine

/-- A step takes the command at the front of the queue and is its execution with the queue's rest; on an empty queue the
block idles (the model's choice, log 1). -/
def Obligations.StepRunsTheFrontCommand : Prop :=
  ∀ (s : State) (c : Instr) (rest : List Instr),
    (s.pending = c :: rest → step s = exec c { s with pending := rest }) ∧ (s.pending = [] → step s = .next s)

/-- R20, R40: every command ends in a next state, never in a fault or a refusal, and leaves the queue; what reads see either
stays, where it acts inside a tick, or is the module as the commands of the present commit left it, where it is the
first one inside the tick, or is the module as the command leaves it, where it acts at a commit. -/
def Obligations.CommandsAnswerAndKeepTheQueue : Prop :=
  ∀ (c : Instr) (s : State), ∃ t, exec c s = .next t ∧ t.pending = s.pending ∧
    (t.shown = s.shown ∨ (s.dev.fab.atCommit = true ∧ t.shown = s.dev.seal) ∨ t.shown = t.dev)

/-- After reset the module is not released, its counter is 0, every channel is PARKED with its disconnect open at code
0x8_0000 and range pair 0, no fault is latched, and its memories list nothing (the state before power-good, log 7). -/
def Obligations.ResetIsBeforePowerGood : Prop :=
  ¬ State.reset.live ∧ State.reset.dev.tick = 0 ∧ State.reset.pending = [] ∧ State.reset.dev.frame.wf ∧
  (∀ n : ChanId, (State.reset.dev.ch n).force.st = .parked ∧ (State.reset.dev.ch n).force.disc = false ∧
    (State.reset.dev.ch n).force.setpt = zeroCode ∧ (State.reset.dev.ch n).force.rpair = 0 ∧
    (State.reset.dev.ch n).force.latch = false) ∧
  State.reset.dev.mem.scr = [] ∧ State.reset.dev.fifo.entries = [] ∧ State.reset.dev.flt.log = []

/-- From every state, a step leaves the step ledger and its directory in their canonical form: ascending addresses, and no
word equal to what an unlisted address reads as. -/
def Obligations.StepsKeepTheLedgerCanonical : Prop :=
  ∀ s t : State, s.dev.frame.wf → step s = .next t → t.dev.frame.wf

/-- R435, R436, R437, R441, R454, R455: no command but a commit (at which the verdict on a container acts), OWNERSHIP,
RETIRE and a debug token changes the life cycle, the owner slots, the policy, the owner key, the anti-rollback counters
or the D3 count: not even a reboot or a loss of power; and no command whatever lowers an anti-rollback counter. -/
def Obligations.TrustChangesByItsCommandsAlone : Prop :=
  ∀ (c : Instr) (s t : State), exec c s = .next t →
    (movesTrust c = false → t.dev.sec.trust = s.dev.sec.trust) ∧ ∀ i : Fin 4, s.dev.sec.arb[i] ≤ t.dev.sec.arb[i]

/-- R41, R44, R49, R470: in a released module no command but a commit, the words that set the epoch, and release changes the
tick counter, as long as it stays released. -/
def Obligations.TickMovesByCommitsAndEpochsAlone : Prop :=
  ∀ (c : Instr) (s t : State), movesTick c = false → s.live → exec c s = .next t → t.live → t.dev.tick = s.dev.tick

/-- R41, R20, R40: a commit begins one tick: the counter increments by one unless a reboot acts at it, what reads see is the
module as the commit leaves it, and the queue of commands stays. Of what the trust core owns it changes the
anti-rollback counters alone, and lowers none (R441). -/
def Obligations.CommitBeginsTheNextTick : Prop :=
  ∀ (s : State) (inp : TickInputs), s.live → Gives (.commit inp) s fun t =>
    (t.live → t.dev.tick = s.dev.tick + 1) ∧ t.shown = t.dev ∧ t.pending = s.pending ∧
    { t.dev.sec.trust with arb := s.dev.sec.arb } = s.dev.sec.trust ∧ (∀ i : Fin 4, s.dev.sec.arb[i] ≤ t.dev.sec.arb[i]) ∧
    (s.dev.frame.wf → t.dev.frame.wf)

/-- R2: channel n belongs to stall n div 8 and is position n mod 8 in it; position 7 is the HS channel: 7, 15, 23, 31, 39,
47, 55 and 63 are HS, the other 56 standard; a stall and a position name one channel. -/
def Obligations.ChannelsStallsAndPositions : Prop :=
  ∀ n : ChanId, (stallOf n).val = n.val / 8 ∧ posOf n = n.val % 8 ∧
    (isHS n = true ↔ n.val ∈ [7, 15, 23, 31, 39, 47, 55, 63]) ∧ (isHS n = true ↔ posOf n = 7) ∧
    ∀ (st : StallId) (p : Fin 8), chanAt st p = n ↔ stallOf n = st ∧ posOf n = p.val

/-- R18: the sample of a regular conversion carries the stamp of the tick in which its acquisition began; it reaches the
engine window of the present tick if the conversion completed at or before t+0.020 µs (cycle 10), else that of the next.
The other quantity and every other channel stay. Where a conversion has not ended yet, the row changes nothing. -/
def Obligations.SamplesReachTheirWindow : Prop :=
  ∀ (s : State) (n : ChanId) (mi : Bool) (raw : BitVec 18) (cyc : Cycle) (r : Running), s.inside →
    let v := (s.dev.ch n).conv mi
    v.run = some r → v.waits = [] → v.pulses = [] → s.dev.role n = 0 → r.kind = .regular →
    (before (s.dev.tick, cyc.val) r.stop = true → Gives (.conversionDone n mi raw cyc) s fun t => t = s) ∧
    (before (s.dev.tick, cyc.val) r.stop = false → Gives (.conversionDone n mi raw cyc) s fun t =>
      let w := (t.dev.ch n).conv mi
      let here := !before (s.dev.tick, 10) r.stop
      let e := s.dev.entryOf n mi r raw (if here then s.dev.tick else s.dev.tick + 1)
      e.stamp = r.start.1 ∧ e.raw = raw ∧
      (here = true → w.entries = insertEntry e v.entries ∧ w.next = v.next) ∧
      (here = false → w.entries = v.entries ∧ w.next = insertEntry e v.next) ∧ w.run = none ∧
      (t.dev.ch n).conv (!mi) = (s.dev.ch n).conv (!mi) ∧ (∀ m, m ≠ n → t.dev.ch m = s.dev.ch m) ∧ t.shown = s.shown)

/-- R221: a transition of an UNKNOWN monitor shows in its comparator's side alone: no event fires, TRIP_SEEN stays, no
ACTION is triggered, and the monitor stays UNKNOWN; it takes its side when it resolves, with no event. -/
def Obligations.UnknownMonitorsAreSilent : Prop :=
  ∀ (s : State) (n : ChanId) (m : Idx4) (trip : Bool) (cyc : Cycle), s.inside →
    let d := s.dev
    let x := (d.ch n).wm[m]
    x.st = .unknown →
    (Gives (.wmTransition n m trip cyc) s fun t =>
      t = s.inTick (d.modCh n fun c => c.modWm m fun x => { x with side := trip }) ∧
      t.dev.fab = d.fab ∧ t.dev.flt.due = d.flt.due ∧ (t.dev.ch n).wm[m].st = .unknown ∧
      (t.dev.ch n).wm[m].tripSeen = x.tripSeen ∧ (t.dev.ch n).wm[m].seenNow = x.seenNow) ∧
    (x.suspended = false → x.dacFail = false → x.restart ≠ d.tick → Gives (.wmResolved n m trip) s fun t =>
      (t.dev.ch n).wm[m].st = (if trip then .tripped else .clear) ∧ (t.dev.ch n).wm[m].side = trip ∧ t.dev.fab = d.fab ∧
      t.dev.flt.due = d.flt.due)

/-- R89, R90: an arm request whose checks pass moves every channel it names that is not already ARMED to ARMING at code
0x8_0000 on range pair 0, and leaves every other channel; one that is refused changes no channel. -/
def Obligations.ArmRequestDecides : Prop :=
  ∀ (s : State) (mask : Word64), s.live →
    let req := mask &&& ~~~(maskOf fun n => (s.dev.ch n).isArmed)
    (req ≠ 0 → s.dev.accept.armResult req = 0 → Gives (.armReq mask) s fun t =>
      (∀ n : ChanId, bit req n.val = true →
        let f := (t.dev.ch n).force
        f.st = .arming ∧ f.armTick = s.dev.tick ∧ f.armMask = req ∧ f.setpt = zeroCode ∧ f.rpair = 0 ∧
        f.disc = (s.dev.ch n).force.disc) ∧
      (∀ n : ChanId, bit req n.val = false → t.dev.ch n = s.dev.ch n) ∧ t.dev.reg Obj.ARM_RESULT = 0 ∧
      t.dev.reg Obj.ARM_RESULT_TICK = s.dev.tick.toNat ∧ t.shown = t.dev) ∧
    (req ≠ 0 → s.dev.accept.armResult req ≠ 0 → Gives (.armReq mask) s fun t =>
      t.dev.reg Obj.ARM_RESULT = s.dev.accept.armResult req ∧ t.dev.reg Obj.ARM_RESULT_TICK = s.dev.tick.toNat ∧
      t.dev.chans = s.dev.chans ∧ t.dev.mem = s.dev.mem ∧ t.shown = t.dev)

/-- R91, R92: at commit k+8 the disconnects of channels whose pre-close check passes close; at commit k+24 the clamps become
those of the entry; at commit k+32 the channels become ARMED; channels at another stage stay as they are. -/
def Obligations.ArmSequenceAdvances : Prop :=
  ∀ (s : State) (n : ChanId), s.live →
    let fails := fun (m : ChanId) => match s.dev.sensed m with
      | some v => s.dev.preCloseFails m v
      | none => false
    ((∀ m, s.dev.armingAt 8 m = true → fails m = false) → Gives .armDisconnectClose s fun t =>
      t.dev.ch n = (if s.dev.armingAt 8 n then (s.dev.ch n).modForce fun f => { f with disc := true } else s.dev.ch n)) ∧
    (s.dev.armingAt 8 n = true → fails n = true → bit (s.dev.ch n).force.armMask n.val = true →
      Gives .armDisconnectClose s fun t =>
        t.dev.reg Obj.ARM_RESULT = 0x0A ∧ (t.dev.ch n).force.st = .parked ∧ (t.dev.ch n).force.disc = false) ∧
    Gives .armClamps s (fun t =>
      (s.dev.armingAt 24 n = false → (t.dev.ch n).force = (s.dev.ch n).force) ∧
      (s.dev.armingAt 24 n = true → (t.dev.ch n).force.baseHi = rpHi (s.dev.entryWord n) ∧
        (t.dev.ch n).force.baseLo = rpLo (s.dev.entryWord n) ∧ (t.dev.ch n).force.st = .arming)) ∧
    (s.dev.calm = true → (∀ m, s.dev.armingAt 32 m = true → (s.dev.cfg m).reg Obj.START_MODE ≠ 0) →
      Gives .armComplete s fun t =>
        t.dev.ch n = (if s.dev.armingAt 32 n then (s.dev.ch n).modForce fun f => { f with st := .armed, armMask := 0 }
                      else s.dev.ch n))

/-- R93, R95, R255: a park request for an ARMED channel begins its park ramp of PARK_RAMP ticks, stops its barker and leaves
every other channel's force path; a finished park ramp waits for low current at code 0x8_0000, low current opens the
disconnect, 16 ticks later the channel is PARKED with minimum clamps; a SAFE ramp opens the disconnect; 100 ticks of
waiting force it open. -/
def Obligations.ParkAndSafeStagesAdvance : Prop :=
  ∀ (s : State) (n : ChanId), s.live →
    let f := (s.dev.ch n).force
    let lasted := fun (k : Nat) => reached s.dev.tick (f.phaseTick + BitVec.ofNat 48 k) = true
    let others := fun (t : State) => ∀ m, m ≠ n → t.dev.ch m = s.dev.ch m
    (f.st = .parking → f.phase = .ramp → lasted (max 1 f.rampLen) → Gives (.parkRampDone n) s fun t =>
      t.dev.ch n = ((s.dev.ch n).modForce fun f => { f with setpt := zeroCode, phase := .wait, phaseTick := s.dev.tick }) ∧
      others t) ∧
    (f.st = .parking → f.phase = .wait → Gives (.parkCurrentLow n) s fun t =>
      t.dev.ch n = ((s.dev.ch n).modForce fun f => { f with disc := false, phase := .opened, phaseTick := s.dev.tick }) ∧
      others t) ∧
    (f.st = .safe → f.phase = .ramp → lasted f.rampLen → Gives (.safeRampDone n) s fun t =>
      t.dev.ch n = ((s.dev.ch n).modForce fun f =>
        { f with setpt := zeroCode, phase := .opened, phaseTick := s.dev.tick + 1 }) ∧ others t) ∧
    (s.dev.calm = true → f.st = .parking ∨ f.st = .safe → f.phase = .opened → lasted 16 →
      Gives (.parkComplete n) s fun t =>
        let g := (t.dev.ch n).force
        g.st = .parked ∧ g.disc = false ∧ g.setpt = zeroCode ∧ g.rpair = 0 ∧ g.phase = .idle ∧
        g.baseHi = 0x802 ∧ g.baseLo = 0x7FE ∧ (t.dev.ch n).comp.now = 0) ∧
    (s.dev.calm = true → s.dev.flt.active = [] → f.st = .parking → f.phase = .wait → lasted 100 →
      Gives (.parkForced n) s fun t =>
        let g := (t.dev.ch n).force
        g.st = .parking ∧ g.disc = false ∧ g.phase = .opened ∧ g.phaseTick = s.dev.tick) ∧
    (s.dev.calm = true → (∀ m, s.dev.role m = 0) → f.st = .armed → (∀ m, (s.dev.ch m).force.st ≠ .arming) →
      s.dev.sysActive = false → (∀ a, s.dev.armBack = some a → a.tick ≠ s.dev.tick) →
      Gives (.parkReq (BitVec.twoPow 64 n.val)) s fun t =>
        let g := (t.dev.ch n).force
        g.st = .parking ∧ g.phase = .ramp ∧ g.phaseTick = s.dev.tick ∧ g.rampLen = s.dev.creg n Obj.PARK_RAMP ∧
        (t.dev.ch n).bk.seq = .stopped ∧ (∀ m, m ≠ n → (t.dev.ch m).force = (s.dev.ch m).force))

/-- R80, R86, R103, R29, R107, R112, R490: clamp edges set and clear the engaged side; a hardware trip opens the disconnect
at once and waits as F2; rail, aggregate-current, share and junction-temperature events are presented at their commit
and leave the channels. -/
def Obligations.ClampsTripsAndRails : Prop :=
  ∀ (s : State) (n : ChanId) (st : StallId) (rail : Idx4) (high span : Bool) (cyc : Cycle) (amount : Nat) (tj : Int), s.inside →
    let f := (s.dev.ch n).force
    let due := if cyc.val < 495 then s.dev.tick + 1 else s.dev.tick + 2
    let above := 32000 < amount ∨ (24000 < amount ∧ 10000 < s.dev.power.aggOver)
    let waits := fun (t : State) (code cls : Nat) (scope : Scope) (unit detail : Nat) =>
      t.dev.flt.due = s.dev.flt.due ++ [(due, ⟨code, cls, scope, unit, detail, s.dev.tick, 0⟩)]
    (s.dev.clampsLive n = true → (if high then f.engHi else f.engLo) = false → Gives (.clampEngage n high cyc) s fun t =>
      let g := (t.dev.ch n).force
      g.engHi = (f.engHi || high) ∧ g.engLo = (f.engLo || !high) ∧ g.seenHi = (f.seenHi || high) ∧
      g.seenLo = (f.seenLo || !high) ∧ g.disc = f.disc ∧ g.setpt = f.setpt ∧
      (t.dev.ch n).rc.clamped = ((s.dev.ch n).rc.clamped || (s.dev.ch n).rc.active)) ∧
    (s.dev.clampsLive n = true → (if high then f.engHi else f.engLo) = true → Gives (.clampRelease n high cyc) s fun t =>
      let g := (t.dev.ch n).force
      g.engHi = (f.engHi && !high) ∧ g.engLo = (f.engLo && high) ∧ g.seenHi = f.seenHi ∧ g.seenLo = f.seenLo) ∧
    Gives (.hardwareTrip n span cyc) s (fun t =>
      (t.dev.ch n).force.disc = false ∧ (t.dev.ch n).force.st = f.st ∧ (∀ m, m ≠ n → t.dev.ch m = s.dev.ch m) ∧
      waits t (if span then 0x0207 else 0x0206) 2 .channel n.val 0) ∧
    Gives (.railFail st rail cyc) s (fun t =>
      t.dev.sreg st (Obj.RAIL_STATE rail.val) = 3 ∧ t.dev.chans = s.dev.chans ∧
      waits t 0x0208 2 .channel (8 * st.val + 2 * rail.val) 0) ∧
    (above → s.dev.power.aggRaised = false → Gives (.aggCurrent amount cyc) s fun t =>
      t.dev.chans = s.dev.chans ∧ t.dev.power.aggRaised = true ∧ waits t 0x020A 4 .device 0xFF amount) ∧
    (¬ above ∨ s.dev.power.aggRaised = true → Gives (.aggCurrent amount cyc) s fun t => t = s) ∧
    (s.dev.role n ≠ 0 → Gives (.shareFault n cyc) s fun t =>
      t.dev.chans = s.dev.chans ∧ waits t 0x0209 2 .channel (s.dev.leaderOf n).val 0) ∧
    (1300 ≤ tj → (s.dev.st st).derate ≠ 3 → Gives (.derateLevelChange st tj) s fun t =>
      (t.dev.st st).derateNew = some 3 ∧ (t.dev.st st).tj = tj ∧ t.dev.chans = s.dev.chans ∧
      t.dev.flt.due = s.dev.flt.due ++ [(s.dev.tick + 1, ⟨0x0205, 3, .stall, st.val, unsignedOf 32 tj, s.dev.tick, 0⟩)])

/-- R315, R17, R241, R248, R316, R194: a commit-acting consumer that is not busy collects an edge for the next commit where
it arrives before t+0.500 µs of the tick, else for the one after, and nothing else changes; an edge collected for the
same commit in another cycle, or a consumer that is busy, makes it an overrun: nothing is collected and its OVR_FLAGS
bit is set. -/
def Obligations.EdgesWaitForTheirCommit : Prop :=
  ∀ (s : State) (n : ChanId) (w : Idx4) (u : Idx16) (cyc : Cycle) (c : Instr) (con : Nat), s.inside → s.dev.role n = 0 →
    (c, con) ∈ [(.waitEdge n w cyc, 4 + w.val), (.jmpEdge n cyc, 8), (.holdRequest n cyc, 11),
      (.tallyOpenEdge n u cyc, 12 + u.val), (.tallyCloseEdge n u cyc, 28 + u.val)] →
    let ch := s.dev.ch n
    let act := if cyc.val ≤ 249 then s.dev.tick + 1 else s.dev.tick + 2
    let busy := (con < 8 ∧ bit ch.bk.latch (con - 4) = true) ∨ (con = 11 ∧ ch.hold ≠ none)
    ((∀ e ∈ ch.edges, e.con = con → e.act ≠ act ∧ (e.tick, e.cyc) ≠ (s.dev.tick, cyc.val)) → ¬ busy → Gives c s fun t =>
      t = s.inTick (s.dev.modCh n fun x =>
        { x with edges := x.edges ++ [{ con := con, act := act, tick := s.dev.tick, cyc := cyc.val, origin := [] }],
                 hold := if con = 11 ∧ (∀ e ∈ ch.edges, e.con ≠ 11) then some (act, act) else x.hold })) ∧
    ((∀ e ∈ ch.edges, e.con = con → (e.tick, e.cyc) ≠ (s.dev.tick, cyc.val)) →
      busy ∨ (∃ e ∈ ch.edges, e.con = con ∧ e.act = act) → Gives c s fun t =>
        (t.dev.ch n).edges = ch.edges ∧ (t.dev.ch n).hold = ch.hold ∧ (t.dev.ch n).ovr = ch.ovr ||| BitVec.twoPow 64 con ∧
        (∀ m, m ≠ n → t.dev.ch m = s.dev.ch m) ∧ t.shown = s.shown)

/-- R322, R312, R315, R320, R276: an event at an EVIO pin with DIR 2 or 3 starts a pulse of PW cycles (PW 0: the event's
width, at least 4 cycles, 10 with STD 0) 6 ns after it, at an MKO pin in fabric service and mode NORMAL one of the width
of MKO_CFG; while the pin's pulse is active it counts an overrun and drives nothing; the end of a pulse makes the land
inactive; LOCK_CMD locks tether t and refuses 128 and above; MKO_RUN is written. -/
def Obligations.OutputLandsAndLocks : Prop :=
  ∀ (s : State) (k : Idx16) (p : StallId) (t' : BitVec 8) (width : Nat) (cyc : Cycle) (mko v : Bool),
    let f := s.dev.fab
    let at' := (s.dev.tick, cyc.val)
    let cfg := s.dev.reg (Obj.EVIO_CFG k.val)
    let pw := natBits cfg 11 0
    let w := if pw = 0 then max width (if natBit cfg 31 then 4 else 10) else pw
    let pulse := fun (pin w : Nat) => ({ pin := pin, start := addCyc at' 3, stop := addCyc at' (3 + w), origin := [] } : OutPulse)
    (s.inside →
      (2 ≤ natBits cfg 30 29 → s.dev.merges (4096 + k.val) at' = false →
        Gives (.evioOutput k width cyc) s fun t =>
          t.dev.chans = s.dev.chans ∧ t.dev.mem = s.dev.mem ∧ t.shown = s.shown ∧
          (f.pulsing k.val at' = true → t.dev.regs = (s.dev.inc 32 (Obj.EVIO_OVR k.val)).regs ∧ t.dev.fab.outs = f.outs) ∧
          (f.pulsing k.val at' = false → t.dev.regs = s.dev.regs ∧ t.dev.fab.outs = pulse k.val w :: f.outs)) ∧
      (natBits cfg 30 29 < 2 → Gives (.evioOutput k width cyc) s fun t => t = s) ∧
      (natBit (s.dev.reg (Obj.MKO_SRC p.val)) 15 = false → f.mkoMode[p] = 0 → s.dev.merges (4112 + p.val) at' = false →
        Gives (.mkoOutput p width cyc) s fun t =>
          t.dev.chans = s.dev.chans ∧ t.dev.mem = s.dev.mem ∧ t.shown = s.shown ∧
          (f.pulsing (16 + p.val) at' = true → t.dev.regs = (s.dev.inc 32 (Obj.MKO_OVR p.val)).regs ∧ t.dev.fab.outs = f.outs) ∧
          (f.pulsing (16 + p.val) at' = false → t.dev.regs = s.dev.regs ∧
            t.dev.fab.outs = pulse (16 + p.val) (natBits (s.dev.reg (Obj.MKO_CFG p.val)) 11 0) :: f.outs)) ∧
      (natBit (s.dev.reg (Obj.MKO_SRC p.val)) 15 = true ∨ f.mkoMode[p] ≠ 0 → Gives (.mkoOutput p width cyc) s fun t => t = s) ∧
      Gives (.evioPulseEnd mko k) s (fun t =>
        let pin := if mko then 16 + k.val else k.val
        t = s.inTick { s.dev with fab := { f with outs := t.dev.fab.outs } } ∧
        (∀ q, q ∈ t.dev.fab.outs ↔ q ∈ f.outs ∧ (q.pin ≠ pin ∨ before (s.dev.tick, 499) q.stop = true)))) ∧
    (s.live →
      (t'.toNat < 128 → Gives (.lockCmd t') s fun t =>
        t.dev.fab.locks = f.locks ||| BitVec.twoPow 128 t'.toNat ∧ t.dev.dict.abort = 0 ∧
        t.dev.chans = s.dev.chans ∧ t.dev.mem = s.dev.mem ∧ t.shown = t.dev) ∧
      (128 ≤ t'.toNat → Gives (.lockCmd t') s fun t =>
        t.dev.fab.locks = f.locks ∧ t.dev.dict.abort = 0x06090030 ∧ t.dev.chans = s.dev.chans ∧ t.shown = t.dev) ∧
      Gives (.mkoRunWrite v) s (fun t =>
        t.dev.fab.mkoGo = (f.mkoGo || v) ∧ t.dev.reg Obj.MKO_RUN = v.toNat ∧
        t.dev.chans = s.dev.chans ∧ t.dev.mem = s.dev.mem ∧ t.shown = t.dev))

/-- R141, R273, R168, R170, R180, R312: an edge at a gust trigger schedules the armed profile, one at the sine phase reset
the first sub-step boundary after it, and one at an unqualified converter trigger starts the conversion or the injected
sequence on the 10 ns grid, a regular conversion behind a calibration one that runs; each merges with one that arrived
in the same cycle, counts an overrun while busy, and does nothing while its consumer cannot use it. An edge at an EVIO
land that its EDGE selects fires its producer. -/
def Obligations.TriggersAct : Prop :=
  ∀ (s : State) (n : ChanId) (st : StallId) (k : Idx16) (mi rising : Bool) (width p : Nat) (cyc : Cycle),
    s.inside → s.dev.role n = 0 →
    let ch := s.dev.ch n
    let at' := (s.dev.tick, cyc.val)
    let others := fun (t : State) => (∀ m, m ≠ n → t.dev.ch m = s.dev.ch m) ∧ t.shown = s.shown
    (s.dev.merges (64 * n.val + 9) at' = false → ch.gust.armed = some p → ch.gust.sched = none → ch.gust.runsAt at' = false →
      Gives (.gustTrigger n cyc) s fun t =>
        let w := ch.reg (Obj.GUST_TIMING p)
        let per : Int := ((cyc.val + 9) / 10 : Nat) + gtLead w + gtAdv w
        (t.dev.ch n).gust = { ch.gust with sched := some (p, s.dev.tick + BitVec.ofInt 48 (per.fdiv 50), (per.fmod 50).toNat) } ∧
        (t.dev.ch n).force = ch.force ∧ others t) ∧
    (s.dev.merges (64 * n.val + 9) at' = false → ch.gust.armed = none → Gives (.gustTrigger n cyc) s fun t =>
        t.dev.chans = s.dev.chans) ∧
    (s.dev.merges (64 * n.val + 10) at' = false → ch.sine.on = true → ch.sine.resetAt = none → Gives (.sinePhaseReset n cyc) s fun t =>
      (t.dev.ch n).sine.resetAt = some (nextSubStep at') ∧ others t) ∧
    (s.dev.merges (64 * n.val + 10) at' = false → ch.sine.on = false → Gives (.sinePhaseReset n cyc) s fun t =>
      t.dev.chans = s.dev.chans) ∧
    (s.dev.merges (64 * n.val + (if mi then 3 else 2)) at' = false → ch.converts = true → s.dev.sysOn n = false →
      natBit (ch.reg (if mi then Obj.MI_INJ_CTRL else Obj.MV_INJ_CTRL)) 7 = true →
      qualOn (ch.reg (if mi then Obj.MI_INJ_QUAL else Obj.MV_INJ_QUAL)) = false →
      (ch.conv mi).pulses = [] → (ch.conv mi).injSlot = none → (ch.conv mi).injAt = none →
      Gives (.injTrigger n mi rising width cyc) s fun t =>
        (t.dev.ch n).conv mi = { ch.conv mi with injAt := some (gridUp (addCyc at'
          (5 * qualDelay (ch.reg (if mi then Obj.MI_INJ_QUAL else Obj.MV_INJ_QUAL))))) } ∧
        (t.dev.ch n).conv (!mi) = ch.conv (!mi) ∧ (t.dev.ch n).force = ch.force ∧ others t) ∧
    (s.dev.merges (64 * n.val + mi.toNat) at' = false → ch.converts = true → s.dev.sysPlan n = false →
      hdrEvent mi (planHdr ch ch.force.plan) = true → hdrLen mi (planHdr ch ch.force.plan) ≠ 0 →
      qualOn (ch.reg (if mi then Obj.MI_REG_QUAL else Obj.MV_REG_QUAL)) = false →
      (ch.conv mi).pulses = [] → (ch.conv mi).injSlot = none → (ch.conv mi).waits = [] →
      (∀ r, (ch.conv mi).run = some r → r.kind ≠ .regular) → (ch.conv mi).begun.length < 2 →
      Gives (.regTrigger n mi rising width cyc) s fun t =>
        let y := gridUp (addCyc at' (5 * tmDelay (planTiming ch mi ch.force.plan)))
        let v := (t.dev.ch n).conv mi
        (if (ch.conv mi).run.isSome then v.waits = [(.regular, y)] ∧ v.run = (ch.conv mi).run
         else ∃ r, v.run = some r ∧ r.kind = .regular ∧ r.asked = y ∧ r.start = (ch.conv mi).acquireAt y) ∧
        (t.dev.ch n).force = ch.force ∧ others t) ∧
    (s.dev.merges (4120 + st.val) at' = false → natBit (s.dev.sreg st Obj.AUX_INJ_CTRL) 7 = true →
      qualOn (s.dev.sreg st Obj.AUX_INJ_QUAL) = false → (s.dev.st st).auxPulses = [] →
      (s.dev.st st).auxInj = none → Gives (.auxInjTrigger st rising width cyc) s fun t =>
        let y := gridUp (addCyc at' (5 * qualDelay (s.dev.sreg st Obj.AUX_INJ_QUAL)))
        t.dev.st st = { s.dev.st st with auxInj := some (0, y.1, y.2) } ∧ t.dev.chans = s.dev.chans ∧ t.shown = s.shown) ∧
    (evioDir (s.dev.reg (Obj.EVIO_CFG k.val)) % 2 = 1 → evioFires (s.dev.reg (Obj.EVIO_CFG k.val)) rising = true →
      (s.dev.fab.quiet.any fun q => q.1 == k.val && reached q.2 s.dev.tick) = false → cyc.val < 497 →
      s.dev.tethersOf (0x410 + k.val) = [] → Gives (.evioEdge k rising width cyc) s fun t =>
        (if 0x410 + k.val ∈ s.dev.fab.fired then t = s.inTick (s.dev.inc 32 Obj.SUPPRESSED)
         else t.dev.fab.fired = (0x410 + k.val) :: s.dev.fab.fired ∧ t.dev.chans = s.dev.chans ∧ t.shown = s.shown ∧
           (evioDir (s.dev.reg (Obj.EVIO_CFG k.val)) = 1 → t.dev.regs = s.dev.regs)))

/-- R228, R230, R16, R241, R243: a valid step of each kind is selected: it is the current step of the tick that begins, with
its whole DWELL left and its word waiting to apply at the next commit; PSET (not of a TALLY_ONLY) selects the engines'
set and a force step the target, unless its entry has the other mode; a WAIT_TETHER without PRE clears its latch and a
LOOP_OPEN opens a level 0. Nothing else of the channel's force path moves, and no other channel changes. -/
def Obligations.StepsApply : Prop :=
  ∀ (s : State) (n : ChanId) (value : Code20) (rpair : BitVec 4) (f : StepFields) (noTimeout pre : Bool) (input : Idx4)
    (count : BitVec 20) (x : Idx16) (c : Instr) (kind v rp : Nat) (g : StepFields), s.live → s.dev.calm = true →
    s.dev.role n = 0 → (s.dev.ch n).isArmed = true → (s.dev.ch n).bk.halt = false → (s.dev.ch n).bk.holdReq = false →
    s.dev.sysActive = false →
    (c, kind, v, rp, g) ∈ [(Instr.forceV n value rpair f, 1, value.toNat, rpair.toNat, f),
      (.forceI n value rpair f, 2, value.toNat, rpair.toNat, f), (.stepHold n f, 3, 0, 0, f),
      (.tallyOnly n f.tctl f.mark f.dwell, 4, 0, 0, ⟨0, 0, f.tctl, f.mark, f.dwell⟩),
      (.waitTether n noTimeout pre input f, 5, noTimeout.toNat * 2 ^ 19 + pre.toNat * 2 ^ 18 + input.val, 0, f),
      (.loopOpen n count f, 6, count.toNat, 0, f), (.sineSetStart n x f, 9, x.val, 0, f), (.sineSetZero n f, 9, 2 ^ 18, 0, f),
      (.sineSetPhaseReset n f, 9, 2 ^ 19, 0, f), (.gustArm n x f, 10, x.val, 0, f), (.gustDisarm n f, 10, 2 ^ 19, 0, f),
      (.stepEnd n f, 11, 0, 0, f), (.endPark n f, 11, 1, 0, f)] →
    let ch := s.dev.ch n
    (kind ≠ 4 → s.dev.setLoaded n f.pset.toNat = true) → (kind = 6 → ch.bk.loops.length < 4) → Gives c s fun t =>
      let b := (t.dev.ch n).bk
      let moves := kind ≤ 2 ∧ rpMode (ch.reg (Obj.RPAIR rp)) = decide (kind = 2)
      b.word = stepWord kind v rp g ∧ b.addr = ch.bk.addr ∧ b.seg = ch.bk.seg ∧ b.done = 0 ∧ b.due = false ∧
      b.left = stDwell (stepWord kind v rp g).toNat ∧ b.sel.map (fun y => (y.word, y.addr, y.seg)) = some (b.word, b.addr, b.seg) ∧
      b.seq = (if kind = 5 then .waiting else if kind = 11 then .ended else .playing) ∧
      (t.dev.ch n).force = { ch.force with
        pset := if kind = 4 then ch.force.pset else f.pset.toNat, target := if moves then value else ch.force.target,
        prevTarget := if moves then ch.force.target else ch.force.prevTarget } ∧
      (kind = 5 → bit b.latch input.val = (pre && bit ch.bk.latch input.val)) ∧
      (kind = 6 → b.loops.map (·.count) = count.toNat :: ch.bk.loops.map (·.count)) ∧
      (kind ≠ 6 → b.loops.map (·.count) = ch.bk.loops.map (·.count)) ∧
      (∀ m, m ≠ n → t.dev.ch m = s.dev.ch m) ∧ t.shown = t.dev

/-- R16, R228, R230, R232, R80, R253, R273, R140, R229: what a selected step of a channel in no gang does at the commit at
which it applies: TCTL and MARK act, and MPLAN but for TALLY_ONLY; a force step whose entry has its mode applies the
range pair with its ranges, and one whose entry has the other mode is withheld; every other kind keeps them; SINE_SET
starts the sine with the setting's words, ends it or resets its phase; GUST_ARM arms a profile that is loaded and whose
LEAD and advance give two periods; END with PARK 1 parks the channel. -/
def Obligations.SelectedStepsTakeEffect : Prop :=
  ∀ (d : Dev) (n : ChanId) (x : Selected) (k16 : Idx16), d.role n = 0 →
    let w := x.word.toNat
    let c := d.ch n
    let t := d.applyNow (n, x)
    let k := stKind w
    let v := stValue w
    let e := c.reg (Obj.RPAIR (stRpair w))
    let f := (t.ch n).force
    (¬ (k = 11 ∧ v = 1) →
      f.gates = stGates w ∧ f.marks = stMarks w ∧ f.plan = (if k = 4 then c.force.plan else stPlan w) ∧
      f.st = c.force.st ∧ f.setpt = c.force.setpt ∧ f.target = c.force.target ∧ f.disc = c.force.disc ∧
      (if k = 1 ∨ k = 2 then
         if rpMode e = decide (k = 2) then
           f.rpair = stRpair w ∧ f.vrange = rpVRange e ∧ f.irange = rpIRange e ∧ f.fi = decide (k = 2) ∧ f.withheld = false
         else f.rpair = c.force.rpair ∧ f.vrange = c.force.vrange ∧ f.irange = c.force.irange ∧ f.fi = c.force.fi ∧
           f.withheld = true
       else f.rpair = c.force.rpair ∧ f.vrange = c.force.vrange ∧ f.irange = c.force.irange ∧ f.fi = c.force.fi ∧
         f.withheld = false ∧ f.clampHi = c.force.clampHi ∧ f.clampLo = c.force.clampLo) ∧
      (t.ch n).bk = { c.bk with sel := none, spanRc := (t.ch n).bk.spanRc } ∧ (t.ch n).tally = c.tally ∧ (∀ m, m ≠ n → (t.ch m).still = (d.ch m).still)) ∧
    (k = 9 → v = k16.val → (t.ch n).sine = (c.sineStart d.tick k16).sine ∧ (t.ch n).gust = c.gust) ∧
    (k = 9 → v = 2 ^ 18 → (t.ch n).sine = { c.sine with on := false, setting := 0xFF, amp := 0, resetAt := none }) ∧
    (k = 9 → v = 2 ^ 19 → (t.ch n).sine = (c.sinePhase d.tick).sine) ∧
    (k = 10 → v = k16.val → c.gust.profiles[k16].loaded = true →
      2 ≤ (gtLead (c.reg (Obj.GUST_TIMING k16.val)) : Int) + gtAdv (c.reg (Obj.GUST_TIMING k16.val)) →
      (t.ch n).gust = { c.gust with armed := some k16.val } ∧ (t.ch n).sine = c.sine) ∧
    (k = 10 → v = k16.val → c.gust.profiles[k16].loaded = false → (t.ch n).gust = c.gust) ∧
    (k = 10 → v = 2 ^ 19 → (t.ch n).gust = { c.gust with armed := none }) ∧
    (k = 11 → v = 1 → (∀ m, d.role m = 0) → c.isArmed = true → d.sysActive = false →
      f.st = .parking ∧ f.phase = .ramp ∧ f.phaseTick = d.tick ∧ (t.ch n).bk.seq = .stopped ∧
      (∀ m, m ≠ n → (t.ch m).force = (d.ch m).force))

/-- R239, R242, R243, R246: at the end of a span inside a segment the barker selects the step that follows; the timeout of a
wait sets WAIT_TIMEOUT; a LOOP_CLOSE whose level has another iteration loops back with the count lowered (0 stays), and
one with count 1 closes the level and goes on; a JUMP_IF whose condition holds offers the segment at VALUE. -/
def Obligations.SpansEnd : Prop :=
  ∀ (s : State) (n : ChanId) (l : LoopLevel) (ls : List LoopLevel) (seg : Nat), s.live → s.dev.calm = true → s.dev.role n = 0 → (s.dev.ch n).isArmed = true →
    s.dev.sysActive = false →
    let ch := s.dev.ch n
    let b := ch.bk
    let kind := stKind b.word.toNat
    let next := b.addr + 1
    let wordOf := fun (k : Barker) => (k.held? next).getD ((k.lines.lookup next).getD (s.dev.step64 next))
    let takes := fun (w : Word64) (open' : List LoopLevel) =>
      s.dev.stepOk n w.toNat = true ∧ (stKind w.toNat = 6 → open'.length < 4)
    let shows := fun (t : State) (a : Nat) (w : Word64) =>
      let k := (t.dev.ch n).bk
      k.addr = a ∧ k.word = w ∧ k.done = 0 ∧ k.left = stDwell w.toNat ∧ k.due = false ∧
      k.sel.map (fun x => (x.word, x.addr)) = some (w, a) ∧ (t.dev.ch n).force.setpt = ch.force.setpt ∧
      (t.dev.ch n).force.gates = ch.force.gates ∧ (∀ m, m ≠ n → t.dev.ch m = s.dev.ch m) ∧ t.shown = t.dev
    b.due = true → b.held = false → b.halt = false →
    (kind ≠ 5 → kind ≠ 7 → kind ≠ 8 → s.dev.inSpool n = false →
      next < dsStart (s.dev.desc b.seg) + dsSteps (s.dev.desc b.seg) → takes (wordOf b) b.loops →
      Gives (.dwellExpiry n) s fun t => shows t next (wordOf b)) ∧
    (kind = 5 → bit b.latch (waitInput b.word.toNat) = false → s.dev.inSpool n = false →
      next < dsStart (s.dev.desc b.seg) + dsSteps (s.dev.desc b.seg) → takes (wordOf b) b.loops →
      Gives (.waitTimeout n) s fun t => shows t next (wordOf b) ∧ (t.dev.ch n).bk.waitTimeout = true) ∧
    (kind = 7 → b.loops = l :: ls → l.count ≠ 1 →
      takes ((l.head.lookup l.start).getD (s.dev.step64 l.start)) b.loops → l.bound = true →
      Gives (.loopClose n) s fun t =>
        shows t l.start ((l.head.lookup l.start).getD (s.dev.step64 l.start)) ∧ (t.dev.ch n).bk.seg = l.seg ∧
        (stKind (t.dev.ch n).bk.word.toNat ≠ 6 →
          (t.dev.ch n).bk.loops.map (·.count) = (l.count - 1) :: ls.map (·.count))) ∧
    (kind = 7 → b.loops = l :: ls → l.count = 1 → s.dev.inSpool n = false →
      next < dsStart (s.dev.desc b.seg) + dsSteps (s.dev.desc b.seg) → takes (wordOf { b with loops := ls }) ls →
      Gives (.loopClose n) s fun t => shows t next (wordOf { b with loops := ls }) ∧
        (stKind (t.dev.ch n).bk.word.toNat ≠ 6 → (t.dev.ch n).bk.loops.map (·.count) = ls.map (·.count))) ∧
    (kind = 8 → s.dev.segAt (stValue b.word.toNat) = some seg → dsValid (s.dev.desc seg) = true →
      b.pend = none → (b.seq = .playing ∨ b.seq = .waiting) → s.dev.inSpool n = false →
      next < dsStart (s.dev.desc b.seg) + dsSteps (s.dev.desc b.seg) → takes (wordOf b) b.loops →
      Gives (.jumpIf n) s fun t => shows t next (wordOf b) ∧
        (t.dev.ch n).bk.pend.map (fun j => (j.src, j.seg)) =
          if (s.dev.condition n (ch.reg (Obj.COND (stRpair b.word.toNat)))).1 then some (.jumpIf, seg) else none)

/-- R250, R266, R259, R264, R237: a pin of a RESIDENT segment starts the fill of its head, and 0xFFFF empties it; a fill
that is done makes the head, the stage or the safe head READY with the segment's first 32 steps; SAFE_SEG starts the
fill of the safe head; SPOOL_SEG is written and the stream starts again while PARKED, and refused otherwise; a
descriptor is written unless it is in use. -/
def Obligations.HeadsAndSegments : Prop :=
  ∀ (s : State) (n : ChanId) (h : Idx4) (seg : BitVec 16) (word : Word64), s.live →
    let ch := s.dev.ch n
    let b := ch.bk
    let d := s.dev.desc seg.toNat
    let resident := dsValid d = true ∧ dsType d = 0
    let others := fun (t : State) => (∀ m, m ≠ n → t.dev.ch m = s.dev.ch m) ∧ t.dev.mem = s.dev.mem ∧ t.shown = t.dev
    let quiet := s.dev.calm = true ∧ b.seq ≠ .ended ∧ b.dry = false
    ((resident ∨ seg = 0xFFFF) → b.pend = none → Gives (.headPin n h seg) s fun t =>
      (t.dev.ch n).reg (Obj.HEAD_PIN h.val) = seg.toNat ∧
      (∀ j, (t.dev.ch n).bk.heads[j] = if j = h then (if seg = 0xFFFF then Head.reset else ⟨.filling, seg.toNat, []⟩)
        else b.heads[j]) ∧ (t.dev.ch n).force = ch.force ∧ t.dev.dict.abort = 0 ∧ others t) ∧
    (¬ resident → seg ≠ 0xFFFF → Gives (.headPin n h seg) s fun t =>
      t.dev.chans = s.dev.chans ∧ t.dev.dict.abort = 0x06090030) ∧
    (quiet → b.heads[h].st = .filling → Gives (.headFillDone n h) s fun t =>
      (∀ j, (t.dev.ch n).bk.heads[j] = if j = h then ⟨.ready, b.heads[h].seg, s.dev.first32 b.heads[h].seg⟩
        else b.heads[j]) ∧ (t.dev.ch n).force = ch.force ∧ others t) ∧
    (quiet → b.stage.st = .filling → Gives (.stageFillDone n) s fun t =>
      (t.dev.ch n).bk = { b with stage := ⟨.ready, b.stage.seg, s.dev.first32 b.stage.seg⟩ } ∧
      (t.dev.ch n).force = ch.force ∧ others t) ∧
    (quiet → b.safeHead.st = .filling → b.pend = none → Gives (.safeHeadFillDone n) s fun t =>
      (t.dev.ch n).bk = { b with safeHead := ⟨.ready, b.safeHead.seg, s.dev.first32 b.safeHead.seg⟩ } ∧
      (t.dev.ch n).force = ch.force ∧ others t) ∧
    (resident → Gives (.safeSegWrite n seg) s fun t =>
      (t.dev.ch n).bk = { b with safeHead := ⟨.filling, seg.toNat, []⟩ } ∧ t.dev.dict.abort = 0 ∧
      (t.dev.ch n).force = ch.force ∧ others t) ∧
    (ch.isParked = true →
      (seg = 0xFFFF ∨ dsValid d = true ∧ dsType d = 1 ∧ ∀ m, m ≠ n → s.dev.creg m Obj.SPOOL_SEG ≠ seg.toNat) →
      Gives (.spoolSegWrite n seg) s fun t =>
        (t.dev.ch n).reg Obj.SPOOL_SEG = seg.toNat ∧ (t.dev.ch n).bk = b ∧ (t.dev.ch n).force = ch.force ∧ others t ∧
        (t.dev.ch n).spool = { Spool.reset with st := if seg = 0xFFFF then .none else .idle }) ∧
    (ch.isParked = false → seg = 0xFFFF → Gives (.spoolSegWrite n seg) s fun t =>
      t.dev.chans = s.dev.chans ∧ t.dev.dict.abort = 0x08000022) ∧
    (s.dev.segInUse (ch.reg Obj.SPOOL_SEG) = false → (s.dev.load.claims.any (·.seg == some (ch.reg Obj.SPOOL_SEG))) = false →
      Gives (.spoolCmdReset n) s fun t =>
        (t.dev.ch n).spool = { Spool.reset with st := if ch.reg Obj.SPOOL_SEG = 0xFFFF then .none else .idle } ∧
        (t.dev.ch n).bk = b ∧ others t) ∧
    (s.dev.segInUse (s.dev.reg Obj.DIR_SEL) = false → s.dev.descOk (s.dev.reg Obj.DIR_SEL) word.toNat = true →
      Gives (.dirEntryWrite word) s fun t =>
        t.dev.mem.dir = sput 0 s.dev.mem.dir (s.dev.reg Obj.DIR_SEL) word ∧ t.dev.mem.ledger = s.dev.mem.ledger ∧
        t.dev.chans = s.dev.chans ∧ t.dev.dict.abort = 0 ∧ t.shown = t.dev) ∧
    (s.dev.segInUse (s.dev.reg Obj.DIR_SEL) = true → Gives (.dirEntryWrite word) s fun t =>
      t.dev.mem = s.dev.mem ∧ t.dev.chans = s.dev.chans ∧ t.dev.dict.abort = 0x08000022 ∧ t.shown = t.dev)

/-- R248, R249, R266: a host jump to a VALID segment is pending while a chain plays, and its cancel clears it; a safe jump
whose head is READY is taken: the first step of SAFE_SEG is selected, the loops close and the spool stops. -/
def Obligations.JumpsAreOfferedAndTaken : Prop :=
  ∀ (s : State) (n : ChanId) (seg : BitVec 16) (j : Jump), s.live → s.dev.calm = true → s.dev.role n = 0 →
    (s.dev.ch n).isArmed = true →
    let ch := s.dev.ch n
    let b := ch.bk
    (dsValid (s.dev.desc seg.toNat) = true → (b.seq = .playing ∨ b.seq = .waiting) → b.dry = false → b.pend = none →
      (∀ r, ch.redo = some r → r.tick ≠ s.dev.tick) → Gives (.jumpCmdJump n seg) s fun t =>
        (t.dev.ch n).bk.pend.map (fun j => (j.src, j.seg, j.offered)) = some (.host, seg.toNat, s.dev.tick) ∧
        (t.dev.ch n).bk.addr = b.addr ∧ (t.dev.ch n).bk.heads = b.heads ∧ (t.dev.ch n).force = ch.force ∧
        t.dev.dict.abort = 0 ∧ (∀ m, m ≠ n → t.dev.ch m = s.dev.ch m) ∧ t.shown = t.dev) ∧
    (b.pend = some j → Gives (.jumpCmdCancel n) s fun t =>
      (t.dev.ch n).bk = { b with pend := if j.src = .safeJump then some j else none } ∧ (t.dev.ch n).force = ch.force ∧
      (∀ m, m ≠ n → t.dev.ch m = s.dev.ch m) ∧ t.shown = t.dev) ∧
    (b.pend = some j → j.src = .safeJump → b.safeHead.st = .ready → b.halt = false → b.holdReq = false →
      s.dev.sysActive = false →
      let a := dsStart (s.dev.desc (ch.reg Obj.SAFE_SEG))
      let w := (b.safeHead.steps.lookup a).getD (s.dev.step64 a)
      s.dev.stepOk n w.toNat = true → Gives (.safeJump n) s fun t =>
        let k := (t.dev.ch n).bk
        k.addr = a ∧ k.seg = ch.reg Obj.SAFE_SEG ∧ k.word = w ∧ (stKind w.toNat ≠ 6 → k.loops = []) ∧ k.pend = none ∧
        (t.dev.ch n).spool.st = .stopped ∧ (t.dev.ch n).force.setpt = ch.force.setpt ∧
        (∀ m, m ≠ n → (t.dev.ch m).still = (s.dev.ch m).still) ∧ t.shown = t.dev)

/-- R122, R124, R125, R123, R132, R133, R137: a ring drop holds the setting it found until the next commit, and a PARKED
channel has none; a written COMP_MODE or COMP_FIXED is accepted in range, asks for its setting at the next step and, for
COMP_MODE, ends TAIL_LOCK; an estimate over 1,016 probe ticks, nine tenths of them with a usable sample, is the load
that their sums give: it is published and its setting becomes the latest target; with fewer it is discarded. -/
def Obligations.CompensationAndLoadWatch : Prop :=
  ∀ (s : State) (n : ChanId) (cyc : Cycle) (fixed : Bool) (value : BitVec 8), s.live → s.dev.role n = 0 →
    let ch := s.dev.ch n
    let others := fun (t : State) => (∀ m, m ≠ n → t.dev.ch m = s.dev.ch m) ∧ (t.dev.ch n).force = ch.force
    (s.inside → ch.isParked = false → Gives (.ringDrop n cyc) s fun t =>
      t = s.inTick (s.dev.modCh n fun c => { c with comp := { c.comp with dropWas := some (ch.comp.dropWas.getD ch.comp.now) } })) ∧
    (s.inside → ch.isParked = true → Gives (.ringDrop n cyc) s fun t => t = s) ∧
    (ch.comp.stepAt ≠ some s.dev.tick → value.toNat ≤ (if fixed then 31 else 2) → Gives (.compModeWrite n fixed value) s fun t =>
      let k := if fixed then Obj.COMP_FIXED else Obj.COMP_MODE
      (t.dev.ch n).reg k = value.toNat ∧ (t.dev.ch n).comp.hostReq = true ∧ (t.dev.ch n).comp.now = ch.comp.now ∧
      (∀ j, j ≠ k → (t.dev.ch n).reg j = ch.reg j) ∧
      (fixed = false → (t.dev.ch n).comp.st ≠ .tailLock ∧ (t.dev.ch n).comp.drops = []) ∧
      (fixed = true → (t.dev.ch n).comp.st = ch.comp.st) ∧ t.dev.dict.abort = 0 ∧ others t ∧ t.shown = t.dev) ∧
    ((if fixed then 31 else 2) < value.toNat → Gives (.compModeWrite n fixed value) s fun t =>
      t.dev.chans = s.dev.chans ∧ t.dev.dict.abort = 0x06090030 ∧ t.shown = t.dev) ∧
    (1016 ≤ ch.lw.probes → (∀ x ∈ ch.lw.ticks, 1016 ≤ x.2.1) → 9 * 1016 ≤ 10 * ch.lw.total.n →
      let e := ch.lw.estimate (lsbV ch.force.vrange) (compRs n ch.comp.now)
      e.nF < 2 ^ 32 → Gives (.lwEstimate n) s fun t =>
        let g := (t.dev.ch n)
        g.reg Obj.C_EST = e.nF ∧ (e.esr = none → g.reg Obj.ESR_EST = 0xFFFF) ∧
        (∀ r, e.esr = some (some r) → g.reg Obj.ESR_EST = r) ∧ g.reg Obj.EST_FLAGS = 1 + 2 * e.floor.toNat ∧
        g.lw.targets = (g.reg Obj.TARGET :: ch.lw.targets).take 2 ∧
        (∀ r, e.esr = some (some r) → g.reg Obj.TARGET = ch.lwTarget e.nF (some r)) ∧
        (e.esr = none → g.reg Obj.TARGET = ch.lwTarget e.nF none) ∧
        g.reg Obj.EST_TICK = s.dev.tick.toNat ∧ g.lw.probes = ch.lw.probes - 1016 ∧ g.lw.sums = ch.lw.sums.drop 4 ∧
        g.comp = ch.comp ∧ others t ∧ t.shown = t.dev) ∧
    (1016 ≤ ch.lw.probes → (∀ x ∈ ch.lw.ticks, 1016 ≤ x.2.1) → 10 * ch.lw.total.n < 9 * 1016 → Gives (.lwEstimate n) s fun t =>
      (t.dev.ch n).lw.targets = ch.lw.targets ∧ (t.dev.ch n).lw.probes = ch.lw.probes - 1016 ∧ (t.dev.ch n).comp = ch.comp ∧
      others t ∧ (t.dev.ch n).regs = (ch.inc 32 Obj.EST_DISCARDS).regs)

/-- R146, R147, R140, R143, R139: in the window's first tick the old element opens; at commit c+3 the window ends and an
ARMED channel takes the clamps of its entry; a scheduled gust begins in its tick on an ARMED channel in FV on the
profile's current range outside a window, for as long as its samples last, with its REARM deciding whether the profile
stays armed, and is suppressed elsewhere; once it has played, no gust runs. -/
def Obligations.RangeWindowsAndGusts : Prop :=
  ∀ (s : State) (n : ChanId) (p sub : Nat), s.live → s.dev.role n = 0 →
    let ch := s.dev.ch n
    let f := ch.force
    let others := fun (t : State) => ∀ m, m ≠ n → (t.dev.ch m).still = (s.dev.ch m).still
    (s.inside → ch.rc.active = true → ch.rc.opened = s.dev.tick → Gives (.rangeChangeBreak n) s fun t =>
      t = s.inTick (s.dev.modCh n fun c => { c with rc := { c.rc with made := false } })) ∧
    (s.inside → ¬ (ch.rc.active = true ∧ ch.rc.opened = s.dev.tick) → Gives (.rangeChangeBreak n) s fun t => t = s) ∧
    (ch.rc.active = true → reached s.dev.tick ch.rc.closes = true → Gives (.rangeChangeClose n) s fun t =>
      let g := (t.dev.ch n).force
      (t.dev.ch n).rc.active = false ∧ g.setpt = f.setpt ∧ g.rpair = f.rpair ∧ g.vrange = f.vrange ∧ g.irange = f.irange ∧
      (f.st = .armed → g.baseHi = rpHi (ch.reg (Obj.RPAIR f.rpair)) ∧ g.baseLo = rpLo (ch.reg (Obj.RPAIR f.rpair))) ∧
      others t ∧ t.shown = t.dev) ∧
    (¬ (ch.rc.active = true ∧ reached s.dev.tick ch.rc.closes = true) → Gives (.rangeChangeClose n) s fun t =>
      t.dev = s.dev) ∧
    (s.inside → ch.gust.sched = some (p, s.dev.tick, sub) →
      let prof := ch.gust.profile p
      let start := (s.dev.tick, 10 * sub)
      let run : GustRun := { profile := p, start := start, stop := addCyc start (10 * prof.len) }
      let keeps := gtRearm (ch.reg (Obj.GUST_TIMING p)) = true ∨ ch.gust.armed ≠ some p
      (ch.isArmed = true → f.fi = false → ch.rc.active = false → f.irange = prof.irange → Gives (.gustInjectionStart n) s fun t =>
        (t.dev.ch n).gust = { ch.gust with running := some run, sched := none, spans := ch.gust.spans ++ [(start, run.stop)],
                                           armed := if keeps then ch.gust.armed else none } ∧
        (t.dev.ch n).reg Obj.GUST_LAST_TICK = s.dev.tick.toNat ∧
        (t.dev.ch n).force = f ∧ (∀ m, m ≠ n → t.dev.ch m = s.dev.ch m) ∧ t.shown = s.shown) ∧
      (ch.isArmed = false ∨ f.fi = true ∨ ch.rc.active = true ∨ f.irange ≠ prof.irange → Gives (.gustInjectionStart n) s fun t =>
        (t.dev.ch n).gust = { ch.gust with sched := none, armed := if keeps then ch.gust.armed else none } ∧
        (t.dev.ch n).regs = (ch.inc 32 Obj.GUST_SUPPRESSED).regs ∧ (t.dev.ch n).force = f)) ∧
    (∀ r, s.inside → ch.gust.running = some r → Gives (.gustInjectionEnd n) s fun t =>
      t = s.inTick (s.dev.modCh n fun c => if reached s.dev.tick r.stop.1 then
        { c with gust := { c.gust with running := none, spans := c.gust.spans.map (endSpan r.stop) } } else c))

/-- R140, R144, R273: at its commit a GUST_ARM_CMD arms a loaded profile or disarms and stops, and a SINE_CMD of an ARMED
channel starts the sine with the setting's words, ends it or loads its phase; on a channel that is not ARMED a SINE_CMD
is accepted and has no effect. -/
def Obligations.WaveCommands : Prop :=
  ∀ (s : State) (n : ChanId) (x : Idx16), s.live → s.dev.calm = true → s.dev.role n = 0 →
    let ch := s.dev.ch n
    let does := fun (c : Instr) (f : Channel → Channel) => Gives c s fun t =>
      t.dev.ch n = f ch ∧ (∀ m, m ≠ n → t.dev.ch m = s.dev.ch m) ∧ t.dev.dict.abort = 0 ∧ t.dev.mem = s.dev.mem ∧
      t.shown = t.dev
    ((n.val, Obj.GUST_ARM_CMD) ∉ s.dev.wrote →
      (ch.gust.profiles[x].loaded = true → 2 ≤ (gtLead (ch.reg (Obj.GUST_TIMING x.val)) : Int) +
          gtAdv (ch.reg (Obj.GUST_TIMING x.val)) →
        does (.gustArmCmdArm n x) fun c => { c with gust := { c.gust with armed := some x.val } }) ∧
      (ch.gust.profiles[x].loaded = false → does (.gustArmCmdArm n x) (·.inc 32 Obj.GUST_REFUSED)) ∧
      does (.gustArmCmdDisarm n) fun c =>
        { c with gust := { c.gust with armed := none, running := none, spans := c.gust.spans.map (endSpan (s.dev.tick, 0)) } }) ∧
    ((n.val, Obj.SINE_CMD) ∉ s.dev.wrote →
      (ch.isArmed = true → does (.sineCmdStart n x) (·.sineStart s.dev.tick x) ∧
        does (.sineCmdZero n) (fun c => { c with sine := { c.sine with on := false, setting := 0xFF, amp := 0, resetAt := none } }) ∧
        does (.sineCmdPhaseReset n) (·.sinePhase s.dev.tick)) ∧
      (ch.isArmed = false → does (.sineCmdStart n x) id ∧ does (.sineCmdZero n) id ∧ does (.sineCmdPhaseReset n) id))

/-- R216, R215, R214, R217, R218: a transition of a monitor that is CLEAR or TRIPPED and on the other side is kept for the
commit, and one with an action raises its fault once; a valid WM_CFG is kept, restarts a running monitor whose code or
hysteresis changes, and an invalid one is refused; an UNKNOWN monitor takes the side that resolves it. -/
def Obligations.MonitorsFollow : Prop :=
  ∀ (s : State) (n : ChanId) (m : Idx4) (trip : Bool) (cyc : Cycle) (word : BitVec 32), s.live →
    let ch := s.dev.ch n
    let x := ch.wm[m]
    let w := ch.reg (Obj.WM_CFG m.val)
    let due := if cyc.val < 495 then s.dev.tick + 1 else s.dev.tick + 2
    (s.inside → (x.st = .clear ∨ x.st = .tripped) → x.side ≠ trip → Gives (.wmTransition n m trip cyc) s fun t =>
      let y := (t.dev.ch n).wm[m]
      y.side = trip ∧ y.st = x.st ∧ y.moved = true ∧ y.seenNow = (x.seenNow || trip) ∧
      (t.dev.ch n).force = ch.force ∧ (∀ j, j ≠ n → (t.dev.ch j).still = (s.dev.ch j).still) ∧ t.shown = s.shown ∧
      t.dev.flt.due = (if trip = true ∧ wmAction w ≠ 0 ∧ x.acted = false then
        s.dev.flt.due ++ [(due, ⟨0x0601, if wmAction w = 2 then 2 else 1, .channel, n.val, m.val, s.dev.tick, 0⟩)]
        else s.dev.flt.due)) ∧
    (s.inside → ¬ ((x.st = .clear ∨ x.st = .tripped) ∧ x.side ≠ trip) → Gives (.wmTransition n m trip cyc) s fun t =>
      t = s.inTick (s.dev.modCh n fun c => c.modWm m fun x => { x with side := trip })) ∧
    (wmCfgOk m word.toNat = true → x.st = .clear ∨ x.st = .tripped → x.suspended = false →
      Gives (.wmCfgWrite n m word) s fun t =>
      let y := (t.dev.ch n).wm[m]
      (t.dev.ch n).reg (Obj.WM_CFG m.val) = word.toNat ∧ t.dev.dict.abort = 0 ∧
      (t.dev.wmRuns n m = false → y.st = .off) ∧
      (t.dev.wmRuns n m = true → (wmCodeOf m word.toNat ch.force.vrange ch.force.irange).1 ≠ x.code ∨
        wmHyst word.toNat ≠ x.hyst → y.st = .unknown ∧ y.restart = s.dev.tick) ∧
      (t.dev.wmRuns n m = true → (wmCodeOf m word.toNat ch.force.vrange ch.force.irange).1 = x.code →
        wmHyst word.toNat = x.hyst → y.st = x.st ∧ y.side = x.side) ∧
      (∀ j, j ≠ m → (t.dev.ch n).wm[j] = ch.wm[j]) ∧ (t.dev.ch n).force = ch.force ∧
      (∀ j, j ≠ n → t.dev.ch j = s.dev.ch j) ∧ t.shown = t.dev) ∧
    (wmCfgOk m word.toNat = false → Gives (.wmCfgWrite n m word) s fun t =>
      t.dev.chans = s.dev.chans ∧ t.dev.dict.abort = 0x06090030 ∧ t.shown = t.dev) ∧
    (x.st = .unknown → x.suspended = false → x.dacFail = false → x.restart ≠ s.dev.tick →
      Gives (.wmResolved n m trip) s fun t =>
        let y := (t.dev.ch n).wm[m]
        y.st = (if trip then .tripped else .clear) ∧ y.side = trip ∧ y.seenNow = trip ∧ y.res = .none ∧
        (∀ j, j ≠ m → (t.dev.ch n).wm[j] = ch.wm[j]) ∧ (t.dev.ch n).force = ch.force ∧
        (∀ j, j ≠ n → t.dev.ch j = s.dev.ch j) ∧ t.shown = t.dev)

/-- R287, R288: each of these instructions writes its value of Table 10-4 to its destination register (X0 discards it),
saturated to 48 bits where the table says sat48 and wrapped for ADDW, sets SAT where it limited, and changes nothing
else. -/
def Obligations.EngineArithmetic : Prop :=
  ∀ (s : State) (n : ChanId) (k : Fin 8) (d a b : Idx16) (imm : BitVec 14), s.engReady n k 1 →
    let x := (s.dev.engine n k).x
    let sat := fun (c : Instr) (v : Int) => EngineWrites s c n k 1 d (satInt 48 v) (decide (satInt 48 v ≠ v))
    let raw := fun (c : Instr) (v : Int) => EngineWrites s c n k 1 d v false
    sat (.add n k d a b) (x a + x b) ∧ sat (.sub n k d a b) (x a - x b) ∧ sat (.addi n k d a imm) (x a + imm.toInt) ∧
    sat (.engNeg n k d a) (-x a) ∧ sat (.engAbs n k d a) (x a).natAbs ∧ raw (.addw n k d a b) (x a + x b) ∧
    raw (.engMin n k d a b) (min (x a) (x b)) ∧ raw (.engMax n k d a b) (max (x a) (x b))

/-- R288, R289: each of these instructions writes its value of Table 10-4, over the operand ranges the table admits, and
changes nothing else; SHL and SAT set the SAT mark where they limited. -/
def Obligations.EngineBitsAndFields : Prop :=
  ∀ (s : State) (n : ChanId) (k : Fin 8) (d a b c : Idx16) (count msb lsb width : BitVec 6) (mode : BitVec 2)
    (zero signed : Bool), s.engReady n k 1 → count.toNat ≤ 47 → lsb.toNat ≤ msb.toNat → msb.toNat ≤ 47 →
    2 ≤ width.toNat → width.toNat ≤ 48 →
    let x := (s.dev.engine n k).x
    let w := fun (i : Idx16) => BitVec.ofInt 48 (x i)
    let fld := msb.toNat + 1 - lsb.toNat
    let bits := unsignedOf 48 (x a) / 2 ^ lsb.toNat % 2 ^ fld
    let raw := fun (c : Instr) (v : Int) => EngineWrites s c n k 1 d v false
    raw (.engAnd n k d a b) (w a &&& w b).toInt ∧ raw (.engOr n k d a b) (w a ||| w b).toInt ∧
    raw (.engXor n k d a b) (w a ^^^ w b).toInt ∧
    EngineWrites s (.shl n k d a count) n k 1 d (satInt 48 (x a * 2 ^ count.toNat))
      (decide (satInt 48 (x a * 2 ^ count.toNat) ≠ x a * 2 ^ count.toNat)) ∧
    raw (.shr n k d a mode count) (shiftRound mode.toNat (x a) count.toNat) ∧
    EngineWrites s (.engSat n k d a width) n k 1 d (satInt width.toNat (x a)) (decide (satInt width.toNat (x a) ≠ x a)) ∧
    raw (.engClamp n k d a b c) (min (max (x a) (x b)) (x c)) ∧
    raw (.sels n k d a b c zero) (if x a < 0 ∨ (zero = true ∧ x a = 0) then x b else x c) ∧
    raw (.ext n k d a signed msb lsb) (if signed then signedOf fld bits else bits) ∧
    raw (.ins n k d a msb lsb) (unsignedOf 48 (x d) - unsignedOf 48 (x d) / 2 ^ lsb.toNat % 2 ^ fld * 2 ^ lsb.toNat +
      unsignedOf fld (x a) * 2 ^ lsb.toNat : Nat)

/-- R288, R289: loads of constants, moves, scratchpad loads from an address the slot may read, port reads and table reads
write their register in their number of cycles and change nothing else. -/
def Obligations.EngineMovesTablesAndPorts : Prop :=
  ∀ (s : State) (n : ChanId) (k : Fin 8) (d a b : Idx16) (imm : BitVec 14) (region : BitVec 2) (offset : BitVec 12)
    (port : BitVec 8) (sh : BitVec 4) (base : BitVec 10) (count : BitVec 9) (addr : Nat) (v : Int),
    let x := (s.dev.engine n k).x
    (s.engReady n k 1 → EngineWrites s (.ldi n k d imm) n k 1 d imm.toInt false ∧
      EngineWrites s (.ldh n k d a imm) n k 1 d ((BitVec.ofInt 48 (x a) <<< 14) ||| imm.zeroExtend 48).toInt false ∧
      EngineWrites s (.mov n k d a) n k 1 d (x a) false) ∧
    (s.engReady n k (count.toNat + 1) → EngineWrites s (.nop n k count) n k (count.toNat + 1) 0 0 false) ∧
    (s.engReady n k 2 → scrAddress n k region.toNat offset.toNat (b.val == 0) false false (x b) = some addr →
      EngineWrites s (.ld n k d b region offset) n k 2 d (scrVal (s.dev.scrAt (stallOf n) addr (s.dev.engine n k).cyc)) false) ∧
    (s.engReady n k 1 → s.shown.inPort s.dev n port.toNat = some v → EngineWrites s (.engIn n k d port) n k 1 d v false) ∧
    (s.engReady n k 3 → EngineWrites s (.lut n k d a sh base) n k 3 d
      (s.dev.table (stallOf n) (base.toNat + lutIndex (x a) sh.toNat base.toNat)) false) ∧
    (s.engReady n k 5 → EngineWrites s (.luti n k d a sh base) n k 5 d
      (s.dev.lutInterp (stallOf n) (x a) sh.toNat base.toNat) false)

/-- R288, R289: MUL writes the product of the operands limited to 24 bits; MAC and MSB add it to or subtract it from one
accumulator, saturated to 48 bits; ACCRD reads one with a rounded shift and clears it if asked; ACCLD loads one. -/
def Obligations.EngineProductsAndAccumulators : Prop :=
  ∀ (s : State) (n : ChanId) (k : Fin 8) (d a b : Idx16) (sub clear one : Bool) (mode : BitVec 2) (count : BitVec 6),
    let e := s.dev.engine n k
    let p := sat24 (e.x a) * sat24 (e.x b)
    let lim := decide (sat24 (e.x a) ≠ e.x a) || decide (sat24 (e.x b) ≠ e.x b)
    let sum := if sub then e.acc one - p else e.acc one + p
    (s.engReady n k 2 → EngineWrites s (.mul n k d a b) n k 2 d p lim) ∧
    (s.engReady n k 1 →
      Gives (.mac n k a b sub one) s (fun t =>
        let f := t.dev.engine n k
        f.acc one = satInt 48 sum ∧ f.acc (!one) = e.acc (!one) ∧ f.regs = e.regs ∧
        f.sat = (e.sat || lim || decide (satInt 48 sum ≠ sum)) ∧ EngineOnly s t n k) ∧
      Gives (.accrd n k d clear one mode count) s (fun t =>
        let f := t.dev.engine n k
        (∀ j : Idx16, f.x j = if j = d ∧ d ≠ 0 then wrap48 (shiftRound mode.toNat (e.acc one) count.toNat) else e.x j) ∧
        f.acc one = (if clear then 0 else e.acc one) ∧ f.acc (!one) = e.acc (!one) ∧ f.sat = e.sat ∧ EngineOnly s t n k) ∧
      Gives (.accld n k a one) s (fun t =>
        let f := t.dev.engine n k
        f.acc one = e.x a ∧ f.acc (!one) = e.acc (!one) ∧ f.regs = e.regs ∧ f.sat = e.sat ∧ EngineOnly s t n k))

/-- R288, R293: a store that the slot may make writes its one scratchpad word and remembers the old one for a discarded
window; OUT, FLAG and FAULT act on their port, flag and fault list where allowed; PUTS and TACC publish and offer the
entry they name. -/
def Obligations.EngineStoresAndOutputs : Prop :=
  ∀ (s : State) (n : ChanId) (k : Fin 8) (a b e f : Idx16) (port : BitVec 8) (region : BitVec 2) (offset : BitVec 12)
    (addr : Nat) (f2 : Bool) (code : BitVec 12), s.engReady n k 1 →
    let x := (s.dev.engine n k).x
    let g := (s.dev.ch n).eng
    let caps := s.dev.capsOf n k
    (scrAddress n k region.toNat offset.toNat (b.val == 0) true (capCal caps) (x b) = some addr →
      storeGranted region.toNat (regionOf n k region.toNat).1 addr caps = true →
      let key := 8192 * (stallOf n).val + addr
      let cyc := (s.dev.engine n k).cyc
      (∀ y ∈ s.dev.mem.stores, y.key = key → y.cyc < cyc ∨ (y.cyc = cyc ∧ y.te < teOf n k)) →
      Gives (.st n k a b region offset) s fun t =>
        t.dev.mem = { s.dev.mem with scr := sput 0 s.dev.mem.scr key (BitVec.ofInt 64 (x a)), stores := t.dev.mem.stores } ∧
        (∀ (st : StallId) (r : Nat), r < 8192 → (st, r) ≠ (stallOf n, addr) → t.dev.scr st r = s.dev.scr st r) ∧
        t.dev.scrAt (stallOf n) addr cyc = BitVec.ofInt 64 (x a) ∧ t.shown = s.shown ∧
        ((∀ y ∈ s.dev.mem.stores, y.key = key → y.cyc < cyc) →
          t = s.inTick { s.dev with mem := t.dev.mem, chans := t.dev.chans } ∧
          (∀ m, m ≠ n → t.dev.ch m = s.dev.ch m) ∧
          t.dev.ch n = (s.dev.ch n).modEngine k fun e => { e with cyc := cyc + 1 })) ∧
    (outGranted port.toNat caps = true → Gives (.engOut n k a port) s fun t =>
      (t.dev.ch n).eng.outs = (port.toNat, x a) :: g.outs.filter (·.1 != port.toNat) ∧ EnginesOnly s t n) ∧
    Gives (.flag n k a f) s (fun t =>
      (t.dev.ch n).eng.pflags = (f.val, decide (x a < 0)) :: g.pflags.filter (·.1 != f.val) ∧ EnginesOnly s t n) ∧
    ((f2 = true → capFault2 caps = true) → Gives (.engFault n k a f2 code) s fun t =>
      (t.dev.ch n).eng.faults = (if x a < 0 then g.faults ++ [{ code := code.toNat, f2 := f2 }] else g.faults) ∧
      EnginesOnly s t n) ∧
    Gives (.puts n k a b e) s (fun t =>
      let old := ((s.dev.ch n).conv (decide (8 ≤ e.val))).entries
      ((t.dev.ch n).conv (decide (8 ≤ e.val))).entries =
        old.modify (e.val % 8) (·.publish (x a) (BitVec.ofInt 4 (x b))) ∧
      (t.dev.ch n).conv (!decide (8 ≤ e.val)) = (s.dev.ch n).conv (!decide (8 ≤ e.val)) ∧
      (∀ m, m ≠ n → t.dev.ch m = s.dev.ch m) ∧ t.dev.mem = s.dev.mem ∧ t.shown = s.shown) ∧
    Gives (.tacc n k a b e) s (fun t =>
      let old := ((s.dev.ch n).conv (decide (8 ≤ e.val))).entries
      ((t.dev.ch n).conv (decide (8 ≤ e.val))).entries =
        old.modify (e.val % 8) (·.offering (x a) (BitVec.ofInt 4 (x b))) ∧
      (t.dev.ch n).tally = (s.dev.ch n).tally ∧ (∀ m, m ≠ n → t.dev.ch m = s.dev.ch m) ∧ t.dev.mem = s.dev.mem ∧
      t.shown = s.shown)

/-- R288, R286: CORR adds or subtracts its sample by the chip of each lag where B is negative; CCLR clears every lag where A
is negative; CRD reads lag (l + B) mod 128. -/
def Obligations.EngineCorrelator : Prop :=
  ∀ (s : State) (n : ChanId) (d a b : Idx16) (lag : BitVec 7),
    let x := (s.dev.engine n 6).x
    let g := (s.dev.ch n).eng
    (s.engReady n 6 1 →
      Gives (.corr n 6 a b) s (fun t =>
        (∀ l, l < 128 → (t.dev.ch n).eng.lag l =
          if x b < 0 then satInt 48 (g.lag l + (if bit g.chips l then -x a else x a))
          else g.lag l) ∧ (t.dev.engine n 6).regs = (s.dev.engine n 6).regs ∧ EnginesOnly s t n) ∧
      Gives (.cclr n 6 a) s (fun t =>
        (∀ l, (t.dev.ch n).eng.lag l = if x a < 0 then 0 else g.lag l) ∧
        (t.dev.engine n 6).regs = (s.dev.engine n 6).regs ∧ EnginesOnly s t n)) ∧
    (s.engReady n 6 2 →
      EngineWrites s (.crd n 6 d b lag) n 6 2 d (g.lag (((lag.toNat : Int) + x b) % 128).toNat) false)

/-- R167, R165, R166, R170, R160, R18, R172: with no injected sequence, stolen tick or running conversion, a timer start of
a channel that converts begins the conversion of the slot at its position; on an ARMING channel the MV start begins the
pre-close conversion at t, and a PARKED channel makes none; an injected sequence begins slot 0 at its start instant; a
finished regular conversion gives its sample, advances the position and counts, and one that has not ended stays; a
calibration conversion of a PARKED channel takes every sixteenth tick. -/
def Obligations.ConversionsBeginAndEnd : Prop :=
  ∀ (s : State) (n : ChanId) (mi second : Bool) (raw : BitVec 18) (cyc : Cycle) (x : Tick × Nat) (r : Running),
    s.inside → s.dev.role n = 0 → s.dev.sysActive = false →
    let d := s.dev
    let c := d.ch n
    let v := c.conv mi
    let p := c.force.plan
    let h := planHdr c p
    let tm := planTiming c mi p
    let begins := addCyc (d.tick, 0) (5 * (if second then tmPh1 tm else tmPh0 tm) + 5 * tmDelay tm)
    let others := fun (t : State) => (∀ m, m ≠ n → t.dev.ch m = d.ch m) ∧ (t.dev.ch n).force = c.force ∧
      (t.dev.ch n).conv (!mi) = c.conv (!mi) ∧ t.shown = s.shown
    (c.converts = true → hdrEvent mi h = false → hdrLen mi h ≠ 0 → (second = true → tmPh1 tm ≠ 0xFF) →
      v.injSlot = none → d.stolen n mi = false → v.run = none →
      Gives (.timerConversionStart n mi second) s fun t =>
        let w := (t.dev.ch n).conv mi
        let j := v.pos % hdrLen mi h
        w.run = some (.of .regular j (planSlot c mi p j) begins (v.acquireAt begins)) ∧
        w.pos = v.pos ∧ w.entries = v.entries ∧ (t.dev.ch n).regs = c.regs ∧ others t) ∧
    (c.force.st = .arming → c.mv.run = none → Gives (.timerConversionStart n false false) s fun t =>
        (t.dev.ch n).mv.run = some (.of .preClose 0 0x1400 (d.tick, 0) (c.mv.acquireAt (d.tick, 0))) ∧
        (t.dev.ch n).mi = c.mi ∧ (t.dev.ch n).regs = c.regs ∧ (∀ m, m ≠ n → t.dev.ch m = d.ch m)) ∧
    (c.force.st = .parked → Gives (.timerConversionStart n mi second) s fun t => t = s) ∧
    (c.converts = true → v.injAt = some x → x.1 = d.tick → v.run = none → v.waits = [] → v.pulses = [] →
      ((v.begun.filter (· == (v.acquireAt x).1)).length < 2) → Gives (.injSequenceStart n mi) s fun t =>
        let w := (t.dev.ch n).conv mi
        w.run = some (.of .injected 0 (c.reg (if mi then Obj.MI_INJ_SLOT 0 else Obj.MV_INJ_SLOT 0)) x (v.acquireAt x)) ∧
        w.injSlot = some 1 ∧ w.injAt = none ∧ w.injRan = true ∧ w.pos = v.pos ∧ (t.dev.ch n).regs = c.regs ∧ others t) ∧
    (v.injAt = none → v.pulses = [] → Gives (.injSequenceStart n mi) s fun t => t = s) ∧
    (v.run = some r → r.kind = .regular → v.waits = [] → v.pulses = [] → before (d.tick, cyc.val) r.stop = false →
      Gives (.conversionDone n mi raw cyc) s fun t =>
        let w := (t.dev.ch n).conv mi
        let here := !before (d.tick, 10) r.stop
        let e := d.entryOf n mi r raw (if here then d.tick else d.tick + 1)
        let counted := c.inc 64 (if mi then Obj.MI_CONV else Obj.MV_CONV)
        w.run = none ∧ w.lastEnd = some r.stop ∧
        w.pos = (if r.adv = false then v.pos else if r.slot + 1 < hdrLen mi h then r.slot + 1 else 0) ∧
        w.entries = (if here then insertEntry e v.entries else v.entries) ∧
        w.next = (if here then v.next else insertEntry e v.next) ∧
        (t.dev.ch n).regs = (if bit e.tags 3 then counted.inc 32 Obj.UNSETTLED_CNT else counted).regs ∧ others t) ∧
    (v.run = none → Gives (.conversionDone n mi raw cyc) s fun t => t = s) ∧
    (v.run = some r → before (d.tick, cyc.val) r.stop = true → Gives (.conversionDone n mi raw cyc) s fun t => t = s) ∧
    (d.analogOn = true → c.converts = false → v.injSlot = none → v.deferred = false → v.run = none → v.pulses = [] →
      ((d.tick.toNat + (4 * n.val + b2n mi)) % 16 = 0 → Gives (.calConversion n mi) s fun t =>
        (∃ q, ((t.dev.ch n).conv mi).run = some q ∧ q.kind = .calibration ∧ slotInput q.word = 6 ∧ slotAcq q.word = 20 ∧
          slotPga q.word = c.calGain mi d.tick % 4 ∧ q.asked = (d.tick, 0)) ∧
        (t.dev.ch n).regs = c.regs ∧ others t) ∧
      ((d.tick.toNat + (4 * n.val + b2n mi)) % 16 ≠ 0 → Gives (.calConversion n mi) s fun t => t = s))

/-- R178, R179, R180, R181, R182: an AUX window of a FIXED slot takes its input and the sequence goes on; the OPENWIRE slots
of a check whose pulls have settled read SNSH − FRC, then RTN − SNSL, and the second of a polarity ends it; a window
while the buffer is off does nothing; a check of the stall's next eligible channel begins with positive pulls, and ends
with half the differences published and the pulls off. -/
def Obligations.AuxWindowsAndOpenWireChecks : Prop :=
  ∀ (s : State) (n : ChanId) (st : StallId) (second : Bool) (reading : Int),
    let d := s.dev
    let c := d.ch n
    let o := c.ow
    let x := d.st st
    let len := max 1 (d.sreg st Obj.AUX_LEN)
    let w := d.sreg st (Obj.AUX_SLOT (x.auxPos % len))
    let others := fun (t : State) => (∀ m, m ≠ n → t.dev.ch m = d.ch m) ∧ (t.dev.ch n).force = c.force
    let takes := fun (t : State) (input : Nat) =>
      let y := t.dev.st st
      y.auxPos = (x.auxPos % len + 1) % len ∧
      y.auxSeen = x.auxSeen ++ (List.range 8).filterMap (fun p => if auxConcerns input p then some (p, input, reading) else none) ∧
      y.regs = (x.inc 64 Obj.AUX_CONV).regs ∧ t.shown = s.shown
    (s.inside → x.bufferOn = none → Gives (.auxWindow st second reading []) s fun t => t = s) ∧
    (s.inside → x.bufferOn.isSome = true → x.auxInj = none → x.auxPulses = [] → x.resQ = [] →
      (natBits w 15 12 = 5 → Gives (.auxWindow st second reading []) s fun t =>
        takes t (natBits w 11 0) ∧ t.dev.chans = d.chans) ∧
      (natBits w 15 12 = 2 → d.owReady st = some n → o.phase = .settlePos → Gives (.auxWindow st second reading []) s fun t =>
        takes t ((if o.taken = 0 then 0x40 else 0x48) + posOf n) ∧
        (t.dev.ch n).ow = (if o.taken = 0 then { o with aPos := reading, taken := 1 }
          else { o with bPos := reading, taken := 2, phase := .readPos }) ∧ others t) ∧
      (natBits w 15 12 = 2 → d.owReady st = some n → o.phase = .settleNeg → Gives (.auxWindow st second reading []) s fun t =>
        takes t ((if o.taken = 0 then 0x40 else 0x48) + posOf n) ∧
        (t.dev.ch n).ow = (if o.taken = 0 then { o with aNeg := reading, taken := 1 }
          else { o with bNeg := reading, taken := 2, phase := .readNeg }) ∧ others t)) ∧
    (s.live → d.owNext (stallOf n) = some n → (∀ m, m ∈ chansOf (stallOf n) → (d.ch m).ow.phase = .idle) →
      Gives (.owCheckStart n) s fun t =>
        (t.dev.ch n).ow = { o with phase := .settlePos, settled := false, since := d.tick, taken := 0 } ∧
        (t.dev.ch n).regs = c.regs ∧ (t.dev.st (stallOf n)).owChan = posOf n ∧ others t ∧ t.shown = t.dev) ∧
    (s.live → d.owEligible n = false → Gives (.owCheckStart n) s fun t => t.dev = d) ∧
    (s.inside → d.sreg (stallOf n) Obj.OW_SETTLE ≤ ticksFrom o.since d.tick → Gives (.owSettleExpiry n) s fun t =>
      (t.dev.ch n).ow = { o with settled := true } ∧ (t.dev.ch n).regs = c.regs ∧ others t ∧ t.shown = s.shown) ∧
    (s.inside → ticksFrom o.since d.tick < d.sreg (stallOf n) Obj.OW_SETTLE → Gives (.owSettleExpiry n) s fun t => t = s) ∧
    (s.live → o.phase = .readNeg → d.calm = true → c.reg Obj.OW_RESULT = 8 → o.aPos - o.aNeg ≤ 200 * c.reg Obj.OW_LIMIT →
      o.bPos - o.bNeg ≤ 200 * c.reg Obj.OW_LIMIT → Gives (.owCheckDone n) s fun t =>
        let g := t.dev.ch n
        g.ow.phase = .idle ∧ g.ow.overH = 0 ∧ g.ow.overL = 0 ∧ g.reg Obj.OW_RESULT = 8 ∧
        g.reg Obj.OW_D_SNSH = unsignedOf 16 (satInt 16 (divRound (o.aPos - o.aNeg) 2)) ∧
        g.reg Obj.OW_D_SNSL = unsignedOf 16 (satInt 16 (divRound (o.bPos - o.bNeg) 2)) ∧
        g.reg Obj.OW_LAST_TICK = d.tick.toNat ∧ t.dev.flt.due = d.flt.due ∧ others t ∧ t.shown = t.dev) ∧
    (s.live → o.phase ≠ .readNeg → Gives (.owCheckDone n) s fun t => t.dev = d)

/-- R174: REF_SEL is accepted while every channel of the stall is PARKED, and 1 only with REFX_EN 1; REFX_EN 0 is refused
while REF_SEL is 1; setting REFX_EN notes its tick; what is refused answers an abort code and changes no register. -/
def Obligations.ReferencesAreSelected : Prop :=
  ∀ (s : State) (st : StallId) (v : Bool) (k : Nat), s.live →
    let d := s.dev
    let x := d.st st
    let kept := fun (t : State) => t.dev.chans = d.chans ∧ (∀ j, j ≠ st → t.dev.st j = d.st j) ∧
      t.shown = t.dev
    let refused := fun (t : State) => t.dev.stalls = d.stalls ∧ t.dev.dict.abort = 0x08000022 ∧ kept t
    ((v = true → d.sreg st Obj.REFX_EN ≠ 0) → d.stallParked st = true →
      Gives (.refSelWrite st v) s fun t =>
        t.dev.sreg st k = (if k = Obj.REF_SEL then b2n v else d.sreg st k) ∧ (t.dev.st st).refx = v ∧
        (t.dev.st st).refxFailed = false ∧ (t.dev.st st).refxBad = 0 ∧ t.dev.dict.abort = 0 ∧ kept t) ∧
    (v = true ∧ d.sreg st Obj.REFX_EN = 0 ∨ d.stallParked st = false → Gives (.refSelWrite st v) s refused) ∧
    (v = false → d.sreg st Obj.REF_SEL = 1 → Gives (.refxEnWrite st v) s refused) ∧
    (v = true ∨ d.sreg st Obj.REF_SEL ≠ 1 → Gives (.refxEnWrite st v) s fun t =>
        t.dev.sreg st k = (if k = Obj.REFX_EN then b2n v
          else if k = Obj.REFX_EN_TICK ∧ v = true ∧ d.sreg st Obj.REFX_EN = 0 then d.tick.toNat else d.sreg st k) ∧
        t.dev.dict.abort = 0 ∧ kept t)

/-- R194, R195, R197: a host open opens the named closed units whose open source is HOST, with the range and tick of its
commit (where no other activation has reached them at this commit); a host close closes the named open units whose close
source is HOST, each with a record of cause configured in ascending order; an abort does so with cause HOST_ABORT
whatever the sources, and closed units stay as they are. -/
def Obligations.HostTallyCommands : Prop :=
  ∀ (s : State) (n : ChanId) (units : BitVec 16), s.live → s.dev.sysActive = false →
    let d := s.dev
    let c := d.ch n
    let cfg := fun (u : Idx16) => c.reg (Obj.TALLY_CFG u.val)
    let fresh := (∀ u : Idx16, c.dayOf u d.tick = ⟨c.tally[u], TallyEv.none, 0⟩) ∧ ∀ r, r ∈ c.recs → r.closed ≠ d.tick
    let unsplit := ∀ u : Idx16, c.tally[u].isOpen = true → (c.tally[u].rangeV, c.tally[u].range) = c.sourceRange (cfg u)
    let kept := fun (t : State) => (∀ m, m ≠ n → (t.dev.ch m).still = (d.ch m).still) ∧ (t.dev.ch n).force = c.force ∧
      (t.dev.ch n).bk = c.bk ∧ t.dev.fifo = d.fifo ∧ t.dev.dict.abort = 0 ∧ t.shown = t.dev
    let closes := fun (op : Instr) (cause : CloseCause) => Gives op s fun t =>
      (∀ u : Idx16, (t.dev.ch n).tally[u] = if bit units u.val then Tally.reset else c.tally[u]) ∧
      (t.dev.ch n).recs = c.recs ++ ((List.finRange 16).filter fun u => bit units u.val && c.tally[u].isOpen).map (fun u =>
        { chan := n.val, unit := u.val, src := tcSource (cfg u), cause := cause, closed := d.tick, cfg := cfg u,
          filt := c.reg (Obj.TALLY_FILT u.val), body := c.tally[u] }) ∧ kept t
    fresh →
    ((∀ u : Idx16, bit units u.val = true → tcOpen (cfg u) = 4 ∧ c.tally[u].isOpen = false) → c.mayOpen = true →
      Gives (.tallyCmdOpen n units) s fun t =>
        (∀ u : Idx16, (t.dev.ch n).tally[u] = if bit units u.val then
          { Tally.reset with isOpen := true, openTick := d.tick, gen := d.sync.gen,
                             rangeV := (c.sourceRange (cfg u)).1, range := (c.sourceRange (cfg u)).2 } else c.tally[u]) ∧
        (t.dev.ch n).recs = c.recs ∧ (t.dev.ch n).regs = c.regs ∧ kept t) ∧
    ((∀ u : Idx16, bit units u.val = true → tcClose (cfg u) = 3 ∧ tcReopen (cfg u) = false ∧ c.tally[u].isOpen = true) →
      unsplit → closes (.tallyCmdClose n units) .configured) ∧
    ((∀ u : Idx16, bit units u.val = true → c.tally[u].isOpen = true ∨ c.tally[u] = Tally.reset) →
      unsplit → closes (.tallyCmdAbort n units) .hostAbort)

/-- R194, R195, R196, R199: a unit of close source TICKS closes once it has covered N ticks that were not held, and not
before; a span of 0xFFFF_FFFF ticks closes it with cause SPAN_LIMIT; a write of one of its words is kept when its range
allows and closes an open unit with cause RECONFIG, and is refused with 0x0609_0030 otherwise. (No other activation has
reached the unit at this commit, and its range has not changed.) -/
def Obligations.TalliesCloseAndAreReconfigured : Prop :=
  ∀ (s : State) (n : ChanId) (u : Idx16) (w : TallyWord) (value : BitVec 32) (k : Nat), s.live → s.dev.sysActive = false →
    let d := s.dev
    let c := d.ch n
    let x := c.tally[u]
    let cfg := c.reg (Obj.TALLY_CFG u.val)
    let new := if w = .cfg then value.toNat else cfg
    let whole := (x.rangeV, x.range) = c.sourceRange cfg
    let others := fun (t : State) => (∀ m, m ≠ n → (t.dev.ch m).still = (d.ch m).still) ∧ (t.dev.ch n).force = c.force ∧
      (∀ v, v ≠ u → (t.dev.ch n).tally[v] = c.tally[v]) ∧ t.dev.fifo = d.fifo ∧ t.shown = t.dev
    let closed := fun (t : State) (cause : CloseCause) => (t.dev.ch n).tally[u] = Tally.reset ∧
      (t.dev.ch n).recs = c.recs ++ [{ chan := n.val, unit := u.val, src := tcSource cfg, cause := cause, closed := d.tick, cfg := cfg, filt := c.reg (Obj.TALLY_FILT u.val), body := x }] ∧
      others t
    c.dayOf u d.tick = ⟨x, TallyEv.none, 0⟩ → (∀ r, r ∈ c.recs → r.closed ≠ d.tick) →
    (x.isOpen = true → tcClose cfg = 2 → c.reg (Obj.TALLY_N u.val) ≤ x.unheld → tcReopen cfg = false → whole → Gives (.tallyTicksExpiry n u) s fun t => closed t .configured) ∧
    (x.isOpen = true → tcClose cfg = 2 → c.reg (Obj.TALLY_N u.val) ≤ x.unheld → tcReopen cfg = true → c.mayOpen = true →
      whole → Gives (.tallyTicksExpiry n u) s fun t =>
        let y := (t.dev.ch n).tally[u]
        y.isOpen = true ∧ y.openTick = d.tick ∧ y.count = 0 ∧ y.sum = 0 ∧ (t.dev.ch n).recs.length = c.recs.length + 1 ∧
        others t) ∧
    (x.unheld < c.reg (Obj.TALLY_N u.val) → Gives (.tallyTicksExpiry n u) s fun t => t.dev = d) ∧
    (x.isOpen = true → 0xFFFFFFFF ≤ ticksFrom x.openTick d.tick → whole → Gives (.spanLimit n u) s fun t => closed t .spanLimit) ∧
    (ticksFrom x.openTick d.tick < 0xFFFFFFFF → Gives (.spanLimit n u) s fun t => t.dev = d) ∧
    (c.tallyWordOk w u value.toNat = true → (c.unitsIn.tick = d.tick → c.unitsIn.events u new = TallyEv.none) → whole →
      Gives (.tallyConfigWrite n u w value) s fun t =>
      (x.isOpen = true → closed t .reconfig) ∧
      (x.isOpen = false → (t.dev.ch n).tally[u].isOpen = false ∧ (t.dev.ch n).recs = c.recs) ∧
      (t.dev.ch n).reg (tallyObj w u) = value.toNat ∧ t.dev.dict.abort = 0 ∧
      (natBit (c.reg Obj.CLOSE_EVT_MASK) u.val = false → k ≠ tallyObj w u → (t.dev.ch n).reg k = c.reg k) ∧ others t) ∧
    (c.tallyWordOk w u value.toNat = false → Gives (.tallyConfigWrite n u w value) s fun t =>
      t.dev.chans = d.chans ∧ t.dev.dict.abort = 0x06090030 ∧ others t)

/-- R203, R204, R205, R206, R452, R433: FLUSH_TICKS after a group's first record, and a flush of the host, form one block
over the group; a roll ends the session with its block and begins the next with SEQ and BLOCK_SEQ 0, and waits where no
entry is free; at D3 both are refused; an acknowledgement releases entries that were read, and no more. -/
def Obligations.BlocksSessionsAndAcknowledgement : Prop :=
  ∀ (s : State) (count : BitVec 16) (roll : Bool), s.live →
    let d := s.dev
    let f := d.fifo
    let kept := fun (t : State) => t.dev.chans = d.chans ∧
      (∀ k, k ≠ Obj.LAST_WRITE_TICK → t.dev.reg k = d.reg k) ∧ t.shown = t.dev
    let forms := fun (op : Instr) => Gives op s fun t =>
      let g := t.dev.fifo
      let b := (g.entries.getLast?.map FifoEntry.bytes).getD []
      (g.entries = f.entries ++ [.block b] ∧
        b.take 22 = leBytes 2 0x4154 ++ leBytes 1 1 ++ leBytes 1 f.group.length ++ leBytes 4 f.session ++ leBytes 4 f.blkSeq ++
          leBytes 4 f.groupSeq ++ leBytes 6 d.tick.toNat ∧
        b.drop 32 = bytesN 32 (Config.hmac32 f.key (f.prevTag ++ b.take 32 ++ f.group.flatten)) ∧ g.prevTag = b.drop 32) ∧
      g.group = [] ∧ g.blkSeq = f.blkSeq + 1 ∧ g.droppedBlk = 0 ∧ g.session = f.session ∧ g.recSeq = f.recSeq ∧ kept t
    (f.group ≠ [] → 0 < f.free → d.reg Obj.FLUSH_TICKS ≤ ticksFrom f.groupTick d.tick → forms .flushTimeout) ∧
    (f.group = [] ∨ ticksFrom f.groupTick d.tick < d.reg Obj.FLUSH_TICKS → Gives .flushTimeout s fun t => t.dev = d) ∧
    (f.group ≠ [] → 0 < f.free → d.sec.debug ≠ 3 → forms .resSessionFlush) ∧
    (f.group = [] → d.sec.debug ≠ 3 → Gives .resSessionFlush s fun t => t.dev.fifo = f ∧ t.dev.dict.abort = 0 ∧ kept t) ∧
    (d.sec.debug = 3 → (Gives .resSessionFlush s fun t => t.dev.fifo = f ∧ t.dev.dict.abort = 0x08000022 ∧ t.dev.chans = d.chans) ∧
      (Gives .resSessionRoll s fun t => t.dev.fifo = f ∧ t.dev.dict.abort = 0x08000022 ∧ t.dev.chans = d.chans)) ∧
    (d.sec.debug ≠ 3 → d.sec.drbgFail = false → f.key ≠ [] → f.endWait = none →
      (0 < f.free → Gives .resSessionRoll s fun t =>
        let g := t.dev.fifo
        g.entries.length = f.entries.length + 1 ∧ g.session = f.session + 1 ∧ g.recSeq = 0 ∧ g.blkSeq = 0 ∧ g.group = [] ∧
        g.droppedBlk = 0 ∧ t.dev.sec.prevStatement = d.sec.statement ∧ t.dev.dict.abort = 0 ∧ kept t) ∧
      (f.free = 0 → Gives .resSessionRoll s fun t =>
        t.dev.fifo = { f with endWait := some ⟨true⟩ } ∧ t.dev.dict.abort = 0 ∧ kept t)) ∧
    (f.endWait = some ⟨roll⟩ → 0 < f.free → Gives .sessionEndDeferred s fun t =>
      t.dev.fifo.entries.length = f.entries.length + 1 ∧ t.dev.fifo.endWait = none ∧
      t.dev.fifo.session = (if roll then f.session + 1 else f.session) ∧ kept t) ∧
    (f.endWait = none ∨ f.free = 0 → Gives .sessionEndDeferred s fun t => t.dev = d) ∧
    (1 ≤ count.toNat → count.toNat ≤ min 16 f.readCnt → Gives (.fifoAck count) s fun t =>
      t.dev.fifo = { f with entries := f.entries.drop count.toNat, readCnt := f.readCnt - count.toNat, head := f.head + min count.toNat f.entries.length } ∧
      t.dev.dict.abort = 0 ∧ kept t) ∧
    (count.toNat = 0 ∨ min 16 f.readCnt < count.toNat → Gives (.fifoAck count) s fun t =>
      t.dev.fifo = f ∧ t.dev.chans = d.chans ∧ t.dev.dict.abort = 0x06090030)

/-- R498, R499, R500, R490, R492, R488, R546: each trigger of the last resort (8 silent ticks at the stall die, a junction
of 145 °C or more, a failed SAFE entry path) zeroes the setpoints, opens the disconnects, sets the clamps to their
minimum and stops sines and gusts on its stall at once, leaves every other stall, asserts FLT_N and waits for its commit
with class F5; below its threshold nothing happens; a SAFE entry is confirmed at the commit after it and counted; a
watchdog raises class F4. -/
def Obligations.LastResortActsOnItsStall : Prop :=
  ∀ (s : State) (st : StallId) (n : ChanId) (cause : BitVec 16) (tj : Int) (cyc : Cycle),
    let d := s.dev
    let f := (d.ch n).force
    let acts := fun (c : Instr) (st : StallId) (code detail : Nat) (present : Tick) => Gives c s fun t =>
      (∀ m : ChanId, stallOf m = st → let g := (t.dev.ch m).force
        g.setpt = zeroCode ∧ g.disc = false ∧ g.baseHi = 0x802 ∧ g.baseLo = 0x7FE ∧ g.engHi = false ∧ g.engLo = false ∧
        g.st = (d.ch m).force.st ∧ (t.dev.ch m).sine.on = false ∧ (t.dev.ch m).gust.running = none ∧
        (t.dev.ch m).rc.active = (d.ch m).rc.active) ∧
      (∀ m : ChanId, stallOf m ≠ st → t.dev.ch m = d.ch m) ∧
      t.dev.flt.due = d.flt.due ++ [(present, ⟨code, 5, .stall, st.val, detail, d.tick, 0⟩)] ∧ t.dev.power.fltN = true ∧
      t.dev.flt.log = d.flt.log ∧ t.shown = s.shown
    (s.inside → d.silentRun st (d.st st).silentDie = true → acts (.linkSilent st) st 0x0D04 0 (d.tick + 1)) ∧
    (s.inside → (d.st st).silentDie < 8 → Gives (.linkSilent st) s fun t => t = s) ∧
    (s.inside → 1450 ≤ tj → acts (.stallTjLimit st tj) st 0x0D05 tj.toNat (d.tick + 1)) ∧
    (s.inside → tj < 1450 → Gives (.stallTjLimit st tj) s fun t => t = s) ∧
    (s.inside → f.st = .safe → d.calm = true → 10 < cyc.val → Gives (.safePath n cause cyc) s fun t =>
      (∀ m : ChanId, stallOf m = stallOf n → (t.dev.ch m).force.setpt = zeroCode ∧ (t.dev.ch m).force.disc = false ∧
        (t.dev.ch m).force.baseHi = 0x802 ∧ (t.dev.ch m).force.baseLo = 0x7FE) ∧
      (∀ m : ChanId, stallOf m ≠ stallOf n → (t.dev.ch m).force = (d.ch m).force) ∧
      t.dev.flt.due = d.flt.due ++ [((if cyc.val < 495 then d.tick + 1 else d.tick + 2), ⟨0x0D03, 5, .stall, (stallOf n).val, 0, d.tick, cause.toNat⟩)] ∧
      t.shown = s.shown) ∧
    (s.inside → f.st ≠ .safe → (d.ch n).eng.setNow ≠ 63 → Gives (.safePath n cause cyc) s fun t => t = s) ∧
    (s.live → f.st = .safe → f.confirmed = false → f.safeTick + 1 = d.tick → Gives (.safeConfirm n) s fun t =>
      t.dev.ch n = { d.ch n with force := { f with confirmed := true } } ∧ (∀ m, m ≠ n → t.dev.ch m = d.ch m) ∧
      t.dev.regs = (d.inc 32 Obj.SAFE_ENTRIES).regs ∧ t.shown = t.dev) ∧
    (s.live → f.st ≠ .safe ∨ f.confirmed = true ∨ f.safeTick + 1 ≠ d.tick → Gives (.safeConfirm n) s fun t => t.dev = d) ∧
    (s.inside → Gives (.mgmtWdt cyc) s fun t => t = s.inTick { d with flt := { d.flt with due := d.flt.due ++
      [((if cyc.val < 495 then d.tick + 1 else d.tick + 2), ⟨0x0D02, 4, .device, 0xFF, 0, d.tick, 0⟩)] } })

/-- R487, R495, R496, R501, R506: a queued entry of class F0 or F1 whose class is free is logged at its commit and leaves
the queue; FAULT_CLEAR with a latch it may not clear is refused whole, and else clears the stall and device latches
named; FAULT_CLEAR_CH clears the latches of named PARKED channels only; HIST_CLEAR empties the history on its word
alone. -/
def Obligations.QueuedFaultsAndClearing : Prop :=
  ∀ (s : State) (q : FaultRec) (mask : BitVec 32) (m64 : Word64) (value : BitVec 32), s.live →
    let d := s.dev
    (d.flt.due = [] → d.flt.escal = none → d.flt.queue = [q] → q.cls ≤ 1 → d.flt.active = [] → d.flt.log = [] →
      Gives .faultHandlingBegin s fun t =>
        t.dev.flt.log = [⟨d.tick, q.code, q.cls, false, q.cause != 0, false, q.scope, q.unit, Act.logged.code, q.detail, q.detect, min 65535 d.flt.drops, d.flt.seq, q.cause⟩] ∧
        t.dev.flt.queue = [] ∧ t.dev.flt.seq = d.flt.seq + 1 ∧ t.dev.flt.drops = 0 ∧ t.dev.flt.hist = d.flt.hist ∧
        (∀ n, (t.dev.ch n).force = (d.ch n).force) ∧ t.shown = t.dev) ∧
    (d.calm = true → Gives .faultHandlingBegin s fun t =>
      t.dev.chans = d.chans ∧ t.dev.flt.log = d.flt.log ∧ t.shown = t.dev) ∧
    (d.clearRefused mask = true → Gives (.faultClear mask) s fun t =>
      t.dev.stalls = d.stalls ∧ t.dev.flt.f4 = d.flt.f4 ∧ t.dev.dict.abort = 0x08000022 ∧ t.dev.chans = d.chans) ∧
    (d.calm = true → d.clearRefused mask = false → Gives (.faultClear mask) s fun t =>
      (∀ k : StallId, (t.dev.st k).f5 = (if bit mask (8 + k.val) then [] else (d.st k).f5) ∧
        (t.dev.st k).f3 = (if bit mask k.val || bit mask (8 + k.val) then [] else (d.st k).f3)) ∧
      t.dev.flt.f4 = (if bit mask 16 then [] else d.flt.f4) ∧ t.dev.dict.abort = 0 ∧
      (∀ n, (t.dev.ch n).force = (d.ch n).force) ∧ t.shown = t.dev) ∧
    (d.calm = true → Gives (.faultClearCh m64) s fun t =>
      (∀ n : ChanId, (t.dev.ch n).force.latch = ((d.ch n).force.latch && !(bit m64 n.val && (d.ch n).isParked)) ∧
        (t.dev.ch n).force.st = (d.ch n).force.st) ∧
      t.dev.dict.abort = 0 ∧ t.dev.flt.f4 = d.flt.f4 ∧ t.shown = t.dev) ∧
    (value = 0x74736968 → Gives (.histClear value) s fun t =>
      t.dev.flt.hist = [] ∧ t.dev.flt.log = d.flt.log ∧ t.dev.dict.abort = 0 ∧ t.dev.chans = d.chans ∧ t.shown = t.dev) ∧
    (value ≠ 0x74736968 → Gives (.histClear value) s fun t =>
      t.dev.flt.hist = d.flt.hist ∧ t.dev.dict.abort = 0x06090030 ∧ t.dev.chans = d.chans)

/-- R12, R13, R68, R502, R546: a corrected word is counted and told as F0; an uncorrectable one marks each channel that it
carried, once, for a held tick with a LINK_DISCARD entry, and keeps its active values; the first silent tick of a run
holds every channel of its stall and is logged with DETAIL 1, without counting as an uncorrectable word; LINK_UNCORR is
class F3, after more than 16 uncorrectable words within 1,000 tk or 8 silent ticks that only the controller die sees,
and not before. -/
def Obligations.BrokenLinkWordsHoldTicks : Prop :=
  ∀ (s : State) (st : StallId) (chans : BitVec 8) (die ctl : Bool), s.inside →
    (∀ n, s.dev.role n = 0) → (∀ n, (s.dev.ch n).isSafe = false) → (∀ n, (s.dev.ch n).lost = none) →
    let d := s.dev
    let lose := fun (t : State) (p : ChanId → Bool) =>
      (∀ n, t.dev.ch n = if p n then { d.ch n with lost := some 0x0903, force := { (d.ch n).force with wordLost := true } } else d.ch n) ∧ t.shown = s.shown
    let told := fun (t : State) (tick : Tick) (r : FaultRec) => t.dev.flt.due = d.flt.due ++ [(tick, r)]
    (Gives (.stallLinkWord st chans false) s fun t =>
      t.dev.sreg st Obj.LINK_CORR = bump 32 (d.sreg st Obj.LINK_CORR) ∧ t.dev.chans = d.chans ∧ t.shown = s.shown ∧
      told t (d.tick + 1) ⟨0x0901, 0, .stall, st.val, 0, d.tick, 0⟩) ∧
    (Gives (.stallLinkWord st chans true) s fun t =>
      lose t (fun n => stallOf n == st && bit chans (posOf n)) ∧
      t.dev.sreg st Obj.LINK_UNCORR = bump 32 (d.sreg st Obj.LINK_UNCORR) ∧
      t.dev.sreg st Obj.LINK_LAST_TICK = d.tick.toNat ∧ told t (d.tick + 1) ⟨0x0903, 1, .stall, st.val, 0, d.tick, 0⟩) ∧
    (die = true ∨ ctl = true → (d.st st).silentAt ≠ some d.tick → (d.st st).silentAt ≠ some (d.tick + 1) →
      Gives (.silentTick st die ctl) s fun t =>
        lose t (fun n => stallOf n == st) ∧ (t.dev.st st).silentAt = some (d.tick + 1) ∧
        t.dev.sreg st Obj.LINK_UNCORR = d.sreg st Obj.LINK_UNCORR ∧
        told t (d.tick + 1) ⟨0x0903, 1, .stall, st.val, 1, d.tick + 1, 0⟩) ∧
    ((d.st st).silentAt = some d.tick → die = true → Gives (.silentTick st die ctl) s fun t =>
        lose t (fun n => stallOf n == st) ∧ (t.dev.st st).silentDie = (d.st st).silentDie + 1 ∧ t.dev.flt.due = d.flt.due) ∧
    (Gives (.silentTick st false false) s fun t => t = s) ∧
    (d.linkFails st = true → Gives (.linkUncorr st) s fun t => t.dev.chans = d.chans ∧ t.shown = s.shown ∧
      told t (d.tick + 1) ⟨0x0904, 3, .stall, st.val, 0, d.tick, 0⟩) ∧
    (d.linkFails st = false → Gives (.linkUncorr st) s fun t => t = s)

/-- R336, R337, R338: a transient parity error is counted and told as F0 and nothing more; a persistent one puts its line on
the replay list with its cause and segment, once, and logs STEP_PARITY; on a playback read of the current step's line
the tick that follows is held; a failing read after 1,000 held ticks raises STEP_PARITY_STUCK. -/
def Obligations.LedgerParityIsListedAndHeld : Prop :=
  ∀ (s : State) (n : ChanId) (line : BitVec 17) (seg : Nat) (cause : ReadCause), s.live → s.dev.calm = true →
    let d := s.dev
    let c := d.ch n
    let fault := fun (tick : Tick) (f : FaultRec) => d.flt.due ++ [(tick, f)]
    let listed := fun (t : State) (k sg : Nat) (tick : Tick) =>
      t.dev.mem.replay = d.mem.replay ++ [{ line := line.toNat, cause := k, seg := sg, tick := tick }] ∧
      t.dev.mem.ledger = d.mem.ledger
    (s.inside → Gives (.ledgerReadParity line cause false) s fun t =>
      t.dev.regs = (d.inc 32 Obj.LEDGER_PAR_TRANS).regs ∧ t.dev.mem = d.mem ∧ t.dev.chans = d.chans ∧
      t.dev.flt.due = fault (d.tick + 1) ⟨0x0902, 0, .device, 0xFF, line.toNat, d.tick, 0⟩ ∧ t.shown = s.shown) ∧
    (d.mem.replay.length < 64 → d.mem.replay.any (·.line == line.toNat) = false →
      (s.inside → Gives (.ledgerReadParity line (.lookahead seg) true) s fun t => listed t 1 seg (d.tick + 1) ∧ t.dev.chans = d.chans ∧
        t.dev.flt.due = fault (d.tick + 1) ⟨0x0708, 1, .device, 0xFF, line.toNat, d.tick, 0⟩ ∧ t.shown = s.shown) ∧
      (s.inside → Gives (.ledgerReadParity line .sweep true) s fun t =>
        listed t 1 (d.segOfLine line.toNat) (d.tick + 1) ∧ t.dev.chans = d.chans ∧ t.shown = s.shown) ∧
      (s.inside → Gives (.ledgerReadParity line .march true) s fun t =>
        listed t 2 (d.segOfLine line.toNat) (d.tick + 1) ∧ t.dev.chans = d.chans ∧ t.shown = s.shown) ∧
      (c.bk.addr / 8 = line.toNat → c.bk.seq = .playing → c.bk.stuckAddr = none →
        Gives (.ledgerReadParity line (.playback n seg) true) s fun t => listed t 0 seg d.tick ∧
          (t.dev.ch n).bk.held = true ∧ (t.dev.ch n).bk.stuckAddr = some line.toNat ∧ (t.dev.ch n).bk.stuckRun = 1 ∧
          (t.dev.ch n).bk.word = c.bk.word ∧ (t.dev.ch n).force = c.force ∧
          (∀ m, m ≠ n → (t.dev.ch m).bk = (d.ch m).bk ∧ (t.dev.ch m).force = (d.ch m).force) ∧ t.shown = t.dev)) ∧
    (s.inside → d.mem.replay.any (·.line == line.toNat) = true → Gives (.ledgerReadParity line .sweep true) s fun t =>
      t.dev.mem = d.mem ∧ t.dev.chans = d.chans) ∧
    (c.bk.stuckAddr = some line.toNat → 1000 ≤ c.bk.stuckRun → c.isArmed = true → d.role n = 0 →
      Gives (.stepParityStuck n) s fun t =>
        (t.dev.ch n).force.st = .safe ∧ (t.dev.ch n).force.latch = true ∧ (∃ e, t.dev.flt.log.getLast? = some e ∧ e.code = 0x0703 ∧
          e.cls = 2 ∧ e.unit = n.val ∧ e.tick = d.tick) ∧
        (∀ m, d.role m = 0 → m ≠ n → (t.dev.ch m).force = (d.ch m).force) ∧ t.shown = t.dev) ∧
    (c.bk.stuckAddr = none → Gives (.stepParityStuck n) s fun t => t.dev = d)

/-- R299, R336, R339, R340, R502, Table 12-3: a persistent program error loses the window and begins a re-fetch, whose end
frees the channel and whose failure is F2; a persistent scratchpad error zeroes, restores or faults by region and loses
the window of every reader; a restore writes the image's word; stalls above ten cycles lose the window, and sixteen of
them in 1,000 tk are F2. -/
def Obligations.ProgramsAndScratchpadRecover : Prop :=
  ∀ (s : State) (n : ChanId) (st : StallId) (word : BitVec 16) (cycles : Nat) (addr : BitVec 13) (readers : BitVec 8) (image : Word64),
    s.live → s.dev.calm = true → (∀ m, s.dev.role m = 0) → (∀ m, (s.dev.ch m).eng.setNow ≠ 63) → (∀ m, (s.dev.ch m).lost = none) →
    let d := s.dev
    let e := (d.ch n).eng
    let forces := fun (t : State) => ∀ m, (t.dev.ch m).force = (d.ch m).force
    let told := fun (t : State) (f : FaultRec) => t.dev.flt.due = d.flt.due ++ [(d.tick + 1, f)]
    let reads := fun (m : ChanId) => stallOf m == st && bit readers (posOf m)
    let at' := 8192 * st.val + addr.toNat
    let loses := fun (t : State) => (∀ m, (t.dev.ch m).lost = if reads m then some 0x0908 else none) ∧ forces t ∧
      t.shown = s.shown ∧ told t ⟨0x0908, 1, .stall, st.val, addr.toNat, d.tick, 0⟩
    (s.inside → e.badWord ≠ some word.toNat → Gives (.programParity n word true) s fun t =>
      (t.dev.ch n).lost = some 0x0802 ∧ (t.dev.ch n).eng.refetch = some (e.refetch.getD d.tick) ∧
      (t.dev.ch n).eng.badWord = some word.toNat ∧ (∀ m, m ≠ n → t.dev.ch m = d.ch m) ∧ forces t ∧ t.dev.mem = d.mem ∧
      told t ⟨0x0802, 1, .channel, n.val, 0, d.tick, 0⟩ ∧ t.shown = s.shown) ∧
    (s.inside → Gives (.programParity n word false) s fun t => t.dev.chans = d.chans ∧ t.dev.mem = d.mem ∧
      told t ⟨0x0902, 0, .device, 0xFF, word.toNat, d.tick, 0⟩ ∧ t.shown = s.shown) ∧
    (s.inside → Gives (.refetchDone n) s fun t => t.dev = if d.power.mramFail then d else
      d.modCh n fun c => { c with eng := { c.eng with refetch := none } }) ∧
    (e.refetch.isSome = true → (d.ch n).isArmed = true → Gives (.refetchFail n) s fun t =>
      (t.dev.ch n).eng.refetch = none ∧ (t.dev.ch n).force.st = .safe ∧ (t.dev.ch n).force.latch = true ∧
      (∀ m, m ≠ n → (t.dev.ch m).force = (d.ch m).force) ∧ t.shown = t.dev) ∧
    (e.refetch = none → Gives (.refetchFail n) s fun t => t.dev = d) ∧
    (s.inside → scrAction addr.toNat = .zero → Gives (.scratchpadParity st addr readers true false) s fun t =>
      sget 0 t.dev.mem.scr at' = 0 ∧ loses t) ∧
    (s.inside → scrAction addr.toNat = .copy → Gives (.scratchpadParity st addr readers true false) s fun t =>
      sget 0 t.dev.mem.scr at' = d.paramCopy st addr.toNat ∧ loses t) ∧
    (s.inside → scrAction addr.toNat = .restore → Gives (.scratchpadParity st addr readers true false) s fun t =>
      (∀ m, (t.dev.ch m).eng.restore = if reads m then some ((d.ch m).eng.restore.getD d.tick) else (d.ch m).eng.restore) ∧
      t.dev.mem = d.mem ∧ loses t) ∧
    (s.inside → scrAction addr.toNat = .stall → Gives (.scratchpadParity st addr readers true false) s fun t =>
      told t ⟨0x0909, 3, .stall, st.val, addr.toNat, d.tick, 0⟩ ∧ forces t) ∧
    (s.inside → Gives (.scrRestoreDone st addr image) s fun t =>
      sget 0 t.dev.mem.scr at' = image ∧ (∀ a, a ≠ at' → sget 0 t.dev.mem.scr a = sget 0 d.mem.scr a) ∧
      (∀ m, (t.dev.ch m).eng.restore = if stallOf m = st then none else (d.ch m).eng.restore) ∧ forces t) ∧
    ((∀ m, (d.ch m).eng.restore.any (fun x => reached d.tick (x + 20)) = false) → Gives (.scrRestoreTimeout st addr) s fun t =>
      t.dev.chans = d.chans ∧ t.dev.flt.log = d.flt.log) ∧
    (stallOf n = st → e.restore.any (fun x => reached d.tick (x + 20)) = true → (∀ m, m ≠ n → (d.ch m).eng.restore = none) → (d.ch n).isArmed = true →
      Gives (.scrRestoreTimeout st addr) s fun t => (t.dev.ch n).force.st = .safe ∧ (t.dev.ch n).eng.restore = none ∧
        (∀ m, m ≠ n → (t.dev.ch m).force = (d.ch m).force) ∧ t.shown = t.dev) ∧
    (s.inside → cycles ≤ 10 → Gives (.stallDiscard n cycles) s fun t => t.dev.chans = d.chans ∧ t.dev.mem = d.mem ∧
      t.dev.flt = d.flt ∧ t.shown = s.shown) ∧
    (s.inside → 10 < cycles → Gives (.stallDiscard n cycles) s fun t =>
      (t.dev.ch n).lost = some 0x0804 ∧ (t.dev.ch n).eng.budget = (d.tick :: e.budget).take 16 ∧
      told t ⟨0x0804, 1, .channel, n.val, 0, d.tick, 0⟩ ∧ (∀ m, m ≠ n → t.dev.ch m = d.ch m) ∧ forces t) ∧
    (s.inside → 16 ≤ e.budget.length → e.budget.all (fun x => decide (ticksFrom x d.tick < 1000)) = true → Gives (.stallBudget n) s fun t =>
      t.dev.chans = d.chans ∧ told t ⟨0x0805, 2, .channel, n.val, 0, d.tick, 0⟩ ∧ t.shown = s.shown) ∧
    (s.inside → e.budget.length < 16 → Gives (.stallBudget n) s fun t => t = s)

/-- R338, R341, R342, R344, R345: a line that the scrubber reads well leaves the replay list, and the sweep goes on in
ascending order; a borrow takes the memory's next region while enabled, unborrowed and MARCH_PERIOD after its latest
borrow, an engine access releases it and counts, and its end moves the test on; a region that fails takes a spare of its
bank. -/
def Obligations.ScrubberAndMarchTest : Prop :=
  ∀ (s : State) (line : BitVec 17) (m : Fin 17) (k : Nat), s.inside →
    let d := s.dev
    let others := fun (t : State) => t.dev.chans = d.chans ∧ t.dev.mem.ledger = d.mem.ledger ∧ t.dev.mem.scr = d.mem.scr ∧
      t.dev.mem.progs = d.mem.progs ∧ t.shown = s.shown
    let region := sget 0 d.mem.nextRegion m.val
    let next := if memRegions m.val ≤ region + 1 then 0 else region + 1
    let b : Borrow := { mem := m.val, region := region, since := d.tick, testing := true }
    (d.mem.sweep = line.toNat → Gives (.scrubRead line none true) s fun t =>
      t.dev.mem.sweep = (if line.toNat + 1 < 131072 then line.toNat + 1 else 0) ∧
      t.dev.mem.replay = d.mem.replay.filter (·.line != line.toNat) ∧ others t) ∧
    (Gives (.scrubRead line (some (k, 5000)) false) s fun t =>
      t.dev.mem = d.mem ∧ t.dev.reg Obj.LOOKAHEAD_MIN = min 5000 (d.reg Obj.LOOKAHEAD_MIN) ∧ others t) ∧
    (d.mayBorrow m.val = true → d.mem.replay = [] →
      (Gives (.marchBorrow m true) s fun t =>
        t.dev.mem = { d.mem with borrows := b :: d.mem.borrows, marched := (m.val, d.tick) :: d.mem.marched.filter (·.1 != m.val) } ∧
        others t) ∧
      (Gives (.marchBorrow m false) s fun t =>
        t.dev.mem.borrows = d.mem.borrows ∧ sget 0 t.dev.mem.nextRegion m.val = next ∧ others t)) ∧
    (d.mayBorrow m.val = false → Gives (.marchBorrow m true) s fun t => t = s) ∧
    (d.mem.borrows = [b] →
      (Gives (.marchRelease m) s fun t =>
        t.dev.mem.borrows = [{ b with testing := false }] ∧ t.dev.regs = (d.inc 32 Obj.MARCH_RELEASES).regs ∧
        t.dev.mayBorrow m.val = false ∧ others t) ∧
      (Gives (.marchRestoreDone m true) s fun t => t.dev.mem.borrows = [] ∧ sget 0 t.dev.mem.nextRegion m.val = next ∧
        t.dev.flt = d.flt ∧ others t) ∧
      (m = 0 → 0 < d.mem.bankSpare[bankOf region] → Gives (.marchRestoreDone m false) s fun t =>
        t.dev.mem.borrows = [] ∧ t.dev.mem.bankSpare[bankOf region] = d.mem.bankSpare[bankOf region] - 1 ∧
        t.dev.mem.mapped = (0, region) :: d.mem.mapped ∧
        t.dev.flt.due = d.flt.due ++ [(d.tick + 1, ⟨0x0906, 1, .device, 0xFF, region, d.tick, 0⟩)] ∧ others t)) ∧
    (d.mem.borrows = [] → (Gives (.marchRelease m) s fun t => t = s) ∧ (Gives (.marchRestoreDone m (k % 2 == 1)) s fun t => t = s))

/-- R261, R415, R418, R419, R328, R138, R38, R440: the body of a refill at the claim that fits its spool is written at its
ring addresses as it arrives, and its claim waits for the verification; one at another index is refused with SEQUENCE
and changes no step; a ledger load that has passed R440 writes its whole lines and no other, and is refused whole for a
line of a SPOOL segment; a gust profile is delivered, and becomes valid at the commit after. Where no load of the kind
waits, nothing happens. -/
def Obligations.RefillsLedgerLoadsAndProfiles : Prop :=
  ∀ (s : State) (src : Option LoadDesc) (bulk : Bool) (n : ChanId) (body : List Byte) (line : Nat) (words : List Word64)
    (cyc : Cycle) (v : Verdict) (p a : Nat) (g : GustProfile), s.live →
    let d := s.dev
    let x := src.getD d.ecatDesc
    let seg := x.target.toNat
    let w := d.desc seg
    let c := d.ch n
    let k := body.length / 64
    let f := x.first.toNat
    let fin := natBit x.flags.toNat 1
    let first := fun (type : Nat) => d.sec.passed.find? fun y => y.type == type && y.bulk == bulk
    let arrives := d.loadWaits src.isSome = true ∧ x.type = 1 ∧ descCode x = 0 ∧ d.imageless 1 = false ∧ boxOk x.box = true ∧
      (boxHeadOf x.box).size = x.box.length ∧ (boxHeadOf x.box).type = 1 ∧
      boxText x.box ((d.streamOf x.box).map (·.key)) = some body ∧ body.length % 64 = 0
    let kept := fun (t : State) => t.dev.chans = d.chans ∧ t.dev.mem.dir = d.mem.dir ∧ t.dev.mem.progs = d.mem.progs
    let refused := fun (op : Instr) => Gives op s fun t =>
      t.dev.mem = d.mem ∧ t.dev.load.claims = d.load.claims ∧ (∀ m, (t.dev.ch m).force = (d.ch m).force ∧
        (t.dev.ch m).spool = (d.ch m).spool) ∧ t.dev.flt.violSeq = d.flt.violSeq + 1
    (s.inside → arrives → seg < 4096 → d.spoolOwner seg = some n → dsValid w = true → dsType w = 1 → d.mem.replay = [] →
      1 ≤ k → k ≤ 512 →
      (f = d.claimOf n seg → 8 * k ≤ c.rel + dsSteps w - f → c.spool.st ≠ .ended → c.spool.st ≠ .stopped → c.spool.eos = none →
        d.load.claims.any (fun y => y.seg == some seg && y.fin) = false →
        Gives (.spoolRefill src) s fun t =>
          (∀ i, i < (stepsOf body).length → 8 * k ≤ dsSteps w → dsSteps w % 8 = 0 → f % 8 = 0 → dsStart w % 8 = 0 →
            sget 0 t.dev.mem.ledger (dsStart w + (f + i) % dsSteps w) = (stepsOf body).getD i 0) ∧
          t.dev.load.claims = d.load.claims ++ [{ bulk := src.isSome, act := none, box := x.box, lines := ringLines w f k, seg := some seg, last := f + 8 * k, grow := 8 * k, fin := fin }] ∧
          kept t ∧ t.shown = s.shown) ∧
      (f ≠ d.claimOf n seg → refused (.spoolRefill src))) ∧
    (s.inside → arrives → seg < 4096 → d.spoolOwner seg = none → refused (.spoolRefill src)) ∧
    (s.inside → d.loadWaits src.isSome = false → Gives (.spoolRefill src) s fun t => t = s) ∧
    (s.inside → first 2 = some v → readLedger v.body = some (line, words) →
      ((List.range (words.length / 8)).any (fun i => d.spoolLine (line + i)) = false → Gives (.ledgerLoad bulk cyc) s fun t =>
        (sget 0 t.dev.mem.ledger a = if 8 * line ≤ a ∧ a < 8 * line + words.length
          then words.getD (a - 8 * line) 0 else sget 0 d.mem.ledger a) ∧
        t.dev.mem.replay = d.mem.replay.filter (fun e => e.line < line || line + words.length / 8 ≤ e.line) ∧
        t.dev.load.claims = d.load.claims ++ [{ bulk := bulk, act := some (d.loadAct bulk cyc.val), box := [], lines := [], seg := none, last := 0, grow := 0, fin := false }] ∧
        t.dev.sec.passed = d.sec.passed.erase v ∧ kept t ∧ t.shown = s.shown) ∧
      ((List.range (words.length / 8)).any (fun i => d.spoolLine (line + i)) = true → refused (.ledgerLoad bulk cyc))) ∧
    (s.inside → first 2 = none → Gives (.ledgerLoad bulk cyc) s fun t => t = s) ∧
    (s.inside → first 4 = some v → chanOf v.target = none ∨ readProfile v.body = none → refused (.gustProfile bulk)) ∧
    (s.inside → first 4 = some v → chanOf v.target = some n → readProfile v.body = some (p, g) → c.gust.armed ≠ some p →
      Gives (.gustProfile bulk) s fun t =>
        t.dev.ch n = { c with gust := { c.gust with arriving := c.gust.arriving ++ [(bulk, p, g)] } } ∧
        (∀ m, m ≠ n → t.dev.ch m = d.ch m) ∧ t.dev.mem = d.mem ∧ t.dev.sec.passed = d.sec.passed.erase v ∧ t.shown = s.shown) ∧
    (c.gust.arriving = [(bulk, p, g)] → Gives (.gustProfileValid n) s fun t =>
      (∀ i : Idx16, (t.dev.ch n).gust.profiles[i] = if i.val = p then g else c.gust.profiles[i]) ∧
      (t.dev.ch n).gust.arriving = [] ∧ (t.dev.ch n).force = c.force ∧ (∀ m, m ≠ n → t.dev.ch m = d.ch m) ∧ t.shown = t.dev) ∧
    (c.gust.arriving = [] → Gives (.gustProfileValid n) s fun t => t.dev = d)

/-- R421, R300, R302, R306, R329: LOAD_CMD 1 empties the staging buffer unless a load is under way, LOAD_DATA appends 1 to
1,024 bytes to a begun load, LOAD_CMD 2 submits, LOAD_CMD 3 abandons; a package without a refusal puts its programs and
sets into effect and one with a refusal changes none; an unload removes a set that is not 0, 63 or in use; SCR_DATA
writes the word that SCR_ADDR names in an owner or parameter area and no other (where no engine store of this window is
later, R22). -/
def Obligations.LoadsPackagesAndScratchpad : Prop :=
  ∀ (s : State) (bytes : List Byte) (bulk : Bool) (v : Verdict) (value : Word64) (a : Nat) (n : ChanId) (bad : Nat × Nat × Nat × Nat), s.live →
    let d := s.dev
    let kept := fun (t : State) => t.dev.chans = d.chans ∧ t.dev.mem.ledger = d.mem.ledger ∧ t.dev.mem.dir = d.mem.dir ∧ t.shown = t.dev
    let pkg := packageOf v.body
    let taken := d.sec.passed.find? (fun y => y.type == 3 && y.bulk == bulk) = some v
    let state := fun (op : Instr) => Gives op s fun t => t.dev.load = d.load ∧ t.dev.mem = d.mem ∧ t.dev.dict.abort = 0x08000022 ∧ kept t
    (d.load.begun = false → d.load.busy = false → Gives .loadCmdBegin s fun t =>
      t.dev.load = { d.load with staging := [], begun := true } ∧ t.dev.reg Obj.LOAD_BYTES = 0 ∧ t.dev.dict.abort = 0 ∧ kept t) ∧
    (d.load.begun = true ∨ d.load.busy = true → state .loadCmdBegin) ∧
    (bytes ≠ [] → bytes.length ≤ 1024 → d.load.begun = true → d.load.busy = false → Gives (.loadData bytes) s fun t =>
      t.dev.load = { d.load with staging := d.load.staging ++ bytes } ∧
      t.dev.reg Obj.LOAD_BYTES = (d.load.staging ++ bytes).length ∧ t.dev.dict.abort = 0 ∧ kept t) ∧
    (bytes ≠ [] → bytes.length ≤ 1024 → d.load.begun = false → state (.loadData bytes)) ∧
    (d.load.begun = true → d.load.busy = false → 1 ≤ d.reg Obj.LOAD_TYPE → d.reg Obj.LOAD_TYPE ≤ 5 → d.load.staging ≠ [] →
      descCode d.ecatDesc = 0 → Gives .loadCmdSubmit s fun t =>
        t.dev.load = { d.load with busy := true } ∧ t.dev.mem = d.mem ∧ t.dev.dict.abort = 0 ∧ kept t) ∧
    (d.load.begun = false → state .loadCmdSubmit) ∧
    (d.load.begun = true ∨ d.load.busy = true → d.load.claims = [] → d.sec.passed = [] → Gives .loadCmdAbandon s fun t =>
      t.dev.load = { d.load with staging := [], begun := false, busy := false } ∧ t.dev.reg Obj.LOAD_STATUS = 0x800A ∧
      t.dev.dict.abort = 0 ∧ kept t) ∧
    (taken → d.contentBad pkg = none → Gives (.programPackage bulk) s fun t =>
      t.dev.mem = (d.putPackage false pkg).mem ∧ t.dev.reg Obj.LOAD_RESULT = 0 ∧ t.dev.reg Obj.LOAD_TICK = d.tick.toNat ∧ kept t) ∧
    (taken → d.contentBad pkg = some bad → Gives (.programPackage bulk) s fun t =>
      t.dev.mem = d.mem ∧ t.dev.reg Obj.LOAD_RESULT = bad.1 ∧ kept t) ∧
    (d.sec.passed = [] → Gives (.programPackage bulk) s fun t => t.dev = d) ∧
    (n.val = d.psetSel.1 → d.psetSel.2 ≠ 0 → d.psetSel.2 ≠ 63 →
      (d.psetInUse n d.psetSel.2 = false → Gives .psetCmdUnload s fun t =>
        sget none t.dev.mem.sets a = (if a = 64 * d.psetSel.1 + d.psetSel.2 then none else sget none d.mem.sets a) ∧
        t.dev.mem.progs = d.mem.progs ∧ t.dev.dict.abort = 0 ∧ kept t) ∧
      (d.psetInUse n d.psetSel.2 = true → Gives .psetCmdUnload s fun t =>
        t.dev.mem = d.mem ∧ t.dev.reg Obj.LOAD_RESULT = 0x0E ∧ t.dev.dict.abort = 0x08000022 ∧ kept t)) ∧
    (scrArea d.scrSel.2 ≠ 0 → (∀ y, y ∈ d.mem.stores → y.key ≠ 8192 * d.scrSel.1.val + d.scrSel.2) → Gives (.scrDataWrite value) s fun t =>
      sget 0 t.dev.mem.scr a = (if a = 8192 * d.scrSel.1.val + d.scrSel.2 then value else sget 0 d.mem.scr a) ∧
      t.dev.mem.progs = d.mem.progs ∧ t.dev.dict.abort = 0 ∧ kept t) ∧
    (scrArea d.scrSel.2 = 0 → Gives (.scrDataWrite value) s fun t => t.dev.mem = d.mem ∧ t.dev.dict.abort = 0x06010000 ∧ kept t)

/-- R352, R353, R355, R356, R357, R358, R367: a background cycle of at least 4,000,000 tk whose quotas are met applies its
estimate (within the limits of Table 13-3 while not PARKED, whole while PARKED) and no other word; a paused channel
keeps its coefficients; a side engaged for more than 10,000,000 tk pauses; a linearisation pass writes the 33 residuals
of a PARKED channel; the comparison judges no stall with fewer than five taking part and in the example of R358 sends
stall 2 alone to MEDIAN_TRACED; the snapshot holds the words of its commit. -/
def Obligations.BackgroundCalibrationCycles : Prop :=
  ∀ (s : State) (n : ChanId) (o a : Nat) (e : Int) (table : List (BitVec 16)) (est : List (Nat × Int)) (since : Tick)
    (step jump : Int) (ok : Bool),
    s.live → s.dev.calm = true →
    let d := s.dev
    let c := d.ch n
    let cur := d.coef n o
    let age := ticksFrom c.cal.cycleStart d.tick
    let addr := 8192 * (stallOf n).val + chanWord n o
    let writes := fun (t : State) (v : Int) =>
      sget 0 t.dev.mem.scr a = if a = addr then BitVec.ofInt 64 v else sget 0 d.mem.scr a
    let others := fun (t : State) => (∀ m, m ≠ n → t.dev.ch m = d.ch m) ∧ (t.dev.ch n).force = c.force ∧ t.dev.mem.dir = d.mem.dir ∧
      t.dev.mem.ledger = d.mem.ledger
    let ends := fun (t : State) => (t.dev.ch n).cal.cycleTick = d.tick ∧ (t.dev.ch n).cal.cycleStart = d.tick ∧
      (t.dev.ch n).cal.cycles = bump 32 c.cal.cycles ∧ (t.dev.ch n).cal.late = decide (4000000 < age)
    let gaps : Vector Int 8 := #v[999996, 1000002, 1000035, 999999, 1000006, 999991, 1000003, 1000000]
    (d.bgPaused n = false → 4000000 ≤ age → d.quotaMet n = true →
      (c.isParked = true → updated o = true → Gives (.bgCycleComplete n [(o, e)]) s fun t => writes t e ∧ ends t ∧ others t) ∧
      (c.isParked = false → updated o = true → updateLimits o cur = some (step, jump) → (e - cur).natAbs ≤ jump →
        Gives (.bgCycleComplete n [(o, e)]) s fun t =>
          writes t (cur + clampInt (-step) step (e - cur)) ∧ ends t ∧ (t.dev.ch n).cal.steps = c.cal.steps ∧ others t) ∧
      (c.isParked = false → updated o = true → updateLimits o cur = some (step, jump) → jump < (e - cur).natAbs →
        Gives (.bgCycleComplete n [(o, e)]) s fun t =>
          writes t (cur + clampInt (-step) step (e - cur)) ∧ ends t ∧ (t.dev.ch n).cal.steps = bump 32 c.cal.steps)) ∧
    (d.bgPaused n = true ∨ age < 4000000 ∨ d.quotaMet n = false → Gives (.bgCycleComplete n est) s fun t => t.dev = d) ∧
    (c.cal.engSince = some since → 10000000 < ticksFrom since d.tick → Gives (.calPauseClamp n) s fun t =>
      t = s.atCommit (d.modCh n fun c => { c with cal := { c.cal with pausedClamp := true } }) ∧ t.dev.bgPaused n = true) ∧
    (c.cal.engSince = none → Gives (.calPauseClamp n) s fun t => t.dev = d) ∧
    (c.isParked = true → 64 * 33 ≤ c.cal.linConvs → Gives (.linPassDone n table) s fun t =>
      (∀ j, j < 33 → t.dev.coef n (0x40 + j) = (table.getD j 0).toInt) ∧
      (a < addr - o + 0x40 ∨ addr - o + 0x60 < a → sget 0 t.dev.mem.scr a = sget 0 d.mem.scr a) ∧
      (t.dev.ch n).cal.linValid = true ∧ (t.dev.ch n).cal.linTick = d.tick ∧ others t) ∧
    (c.isParked = false ∨ c.cal.linConvs < 64 * 33 → Gives (.linPassDone n table) s fun t => t.dev = d) ∧
    (d.tick.toNat % 10000000 = 0 →
      (d.transferMeans.length < 5 → Gives .bgComparison s fun t =>
        t.dev.reg Obj.BG_INSUFFICIENT = bump 32 (d.reg Obj.BG_INSUFFICIENT) ∧ t.dev.mem = d.mem ∧
        (∀ st, (t.dev.st st).bgState = (d.st st).bgState ∧ (t.dev.st st).bgReads = 0) ∧ t.dev.chans = d.chans) ∧
      ((∀ st, (d.st st).f3 = [] ∧ (d.st st).bgReads = 1000 ∧ (d.st st).bgSum = 1000 * gaps[st] ∧ (d.st st).bgState = 0) →
        Gives .bgComparison s fun t =>
        (∀ st, (t.dev.st st).bgState = if st = 2 then 1 else 0) ∧
        ((chansOf 2).any (fun m => (d.ch m).isArmed) = false →
          t.dev.scr 2 stallFactor = BitVec.ofInt 64 (divRound (2000002 * unity) 2000070)))) ∧
    (d.tick.toNat % 10000000 ≠ 0 → Gives .bgComparison s fun t => t.dev = d) ∧
    (d.tick.toNat % 4000000 = 2000000 → Gives (.calSnapshot ok) s fun t =>
      t.dev.cal.snap = (if ok then d.mem.scr.filter fun x => inSnapshot x.1 else d.cal.snap) ∧
      t.dev.reg Obj.SNAP_SEQ = (if ok then bump 32 (d.reg Obj.SNAP_SEQ) else d.reg Obj.SNAP_SEQ) ∧
      t.dev.reg Obj.SNAP_BANK = (if ok then otherBank (d.reg Obj.SNAP_BANK) else d.reg Obj.SNAP_BANK) ∧
      t.dev.mem = d.mem ∧ t.dev.chans = d.chans ∧ t.shown = t.dev) ∧
    (d.tick.toNat % 4000000 ≠ 2000000 → Gives (.calSnapshot ok) s fun t => t.dev = d)

/-- R359, R360, R361, R362, R363: SYSCAL_CMD 1 and 2 are refused while a point runs or is stored, abort with the code of the
first check that fails, and else wait for an injected sequence or begin the point at once; SYSCAL_CMD 3 ends an accepted
zero point with HOST_ABORT; a judged point is aborted with its code, accepted as zero point, or gives z and s to store;
a store that succeeds writes both words of its slot, and one that fails aborts with STORE and leaves them. -/
def Obligations.SystemCalibrationPoints : Prop :=
  ∀ (s : State) (n : ChanId) (r : Bool × Nat × Nat) (a : Nat) (full : Bool),
    s.live → s.dev.calm = true →
    let d := s.dev
    let c := d.ch n
    let cmd : Instr := if full then .syscalCmdFull else .syscalCmdZero
    let busy := d.cal.sys = .waiting ∨ d.cal.sys = .measuring ∨ d.cal.sys = .storing
    let others := fun (t : State) => (∀ m, m ≠ n → (t.dev.ch m).force = (d.ch m).force) ∧ t.dev.mem.dir = d.mem.dir ∧
      t.dev.mem.ledger = d.mem.ledger ∧ t.dev.mem.progs = d.mem.progs
    let scr := fun (t : State) => t.dev.mem.scr = d.mem.scr
    let p := pointStats d.pointMeans
    let word := fun (o : Nat) => 8192 * (stallOf n).val + chanWord n (o + r.2.2)
    (busy → Gives cmd s (fun t => t.dev.dict.abort = 0x08000022 ∧ t.dev.cal = d.cal ∧ others t ∧ scr t) ∧
      Gives .syscalCmdAbort s fun t => t.dev.dict.abort = 0x08000022 ∧ t.dev.cal = d.cal ∧ others t ∧ scr t) ∧
    (¬ busy → d.sysNamed = some n →
      (d.sysActive = false → d.sysCheck n full ≠ 0 → Gives cmd s fun t =>
        t.dev.cal.sys = .aborted ∧ t.dev.reg Obj.SYSCAL_ABORT = d.sysCheck n full ∧ (t.dev.ch n).force = c.force ∧ others t ∧ scr t) ∧
      (d.sysCheck n full = 0 → Gives cmd s fun t =>
        t.dev.cal.full = full ∧ t.dev.cal.since = d.tick ∧ t.dev.cal.zero = (if full then d.cal.zero else none) ∧
        t.dev.cal.point = some (n, d.sysRange n) ∧ t.dev.cal.sys = (if d.injRunning n then .waiting else .measuring) ∧
        (d.injRunning n = false → (t.dev.ch n).force.target = BitVec.ofNat 20 (d.reg Obj.SYSCAL_SETPT) ∧
          t.dev.cal.begun = d.tick ∧ t.dev.reg Obj.SYSCAL_WAIT = 0) ∧ others t ∧ scr t)) ∧
    (d.cal.sys = .zeroDone → d.cal.point.map (·.1) = some n → Gives .syscalCmdAbort s fun t =>
      t.dev.cal.sys = .aborted ∧ t.dev.reg Obj.SYSCAL_ABORT = 0xC ∧ t.dev.dict.abort = 0 ∧ others t ∧ scr t) ∧
    (d.sysActive = false → Gives .syscalCmdAbort s fun t => t.dev.cal = d.cal ∧ t.dev.dict.abort = 0 ∧ others t ∧ scr t) ∧
    (d.cal.point = some (n, r) →
      (d.cal.sys = .waiting → d.injRunning n = false → Gives .syscalPointBegin s fun t =>
        t.dev.cal.sys = .measuring ∧ t.dev.cal.begun = d.tick ∧ t.dev.reg Obj.SYSCAL_WAIT = ticksFrom d.cal.since d.tick ∧
        (t.dev.ch n).force.target = BitVec.ofNat 20 (d.reg Obj.SYSCAL_SETPT) ∧ others t ∧ scr t) ∧
      (d.cal.sys = .waiting → d.injRunning n = true → Gives .syscalPointBegin s fun t => t.dev = d) ∧
      (d.cal.sys = .measuring → 256 ≤ d.cal.meas → reached d.tick (d.cal.measEnd + 1) = true →
        Gives .syscalPointJudged s fun t =>
          t.dev.reg Obj.SYSCAL_MEAN = unsignedOf 32 p.mean ∧ t.dev.reg Obj.SYSCAL_SD = min 0xFFFFFFFF p.sd ∧
          t.dev.reg Obj.SYSCAL_RESULT_TICK = d.tick.toNat ∧ others t ∧ scr t ∧
          (d.judgeCode r p ≠ 0 →
            t.dev.cal.sys = .aborted ∧ t.dev.reg Obj.SYSCAL_ABORT = d.judgeCode r p) ∧
          (d.judgeCode r p = 0 → d.cal.full = false → t.dev.cal.sys = .zeroDone ∧ t.dev.cal.zero = some p.mean) ∧
          (d.judgeCode r p = 0 → d.cal.full = true → t.dev.cal.sys = .storing ∧ t.dev.cal.newZ = d.cal.zero.getD 0 ∧
            p.gain (signedOf 32 (d.reg Obj.SYSCAL_TRUE)) (d.cal.zero.getD 0) = some t.dev.cal.newS)) ∧
      (d.cal.sys = .storing → r.2.2 < 10 → (∀ y, y ∈ d.mem.stores → y.key ≠ word 0x20 ∧ y.key ≠ word 0x30) →
        Gives (.syscalStoreDone true) s (fun t => t.dev.cal.sys = .done ∧
          sget 0 t.dev.mem.scr a = (if a = word 0x30 then BitVec.ofInt 64 (unity + d.cal.newS)
            else if a = word 0x20 then BitVec.ofInt 64 d.cal.newZ else sget 0 d.mem.scr a) ∧
          t.dev.reg Obj.SYS_COMMITS = bump 32 (d.reg Obj.SYS_COMMITS) ∧ others t) ∧
        Gives (.syscalStoreDone false) s fun t =>
          t.dev.cal.sys = .aborted ∧ t.dev.reg Obj.SYSCAL_ABORT = 0xE ∧ others t ∧ scr t))

/-- R35, R36, R472, R45, R51, R52, R54, R66: loss of REFCLK frees the lock; in the released module it counts and waits as F4
with a channel ARMED or SAFE and else as F1; REFCLK is locked again only while every channel is PARKED. A NODE reads a
mark of 100 ns to 600 ns as a bit, 1 from 300 ns on, measures its phase from D + TRIM, and counts missing marks; eight
put its lock into HOLD, which marks within 1 ns end; ACQUIRING ends within 50 ps; a phase step is one unit against the
error, none within 1,000 tk of the last, and an error beyond 1 ns raises SYNC_DRIFT; the map is latched at every
millionth tick. -/
def Obligations.ReferenceClockAndPhaseLock : Prop :=
  ∀ (s : State) (dev edge : Int) (high : Nat) (cyc : Cycle),
    let d := s.dev
    let y := d.sync
    let phase := edge - (y.parentD + signedOf 16 (d.reg Obj.IN_TRIM))
    let b := decide (30000 ≤ high)
    let stays := fun (t : State) => t.dev.chans = d.chans ∧ t.dev.mem = d.mem ∧ t.dev.tick = d.tick ∧ t.dev.cal = d.cal
    let waits := fun (t : State) (at' : Tick) (code cls : Nat) =>
      t.dev.flt.due = d.flt.due ++ [(at', ⟨code, cls, .device, 0xFF, 0, d.tick, 0⟩)]
    let quiet := fun (t : State) => t.dev.flt = d.flt
    let bits := fun (v : Bool) => (y.rxBits ++ [v]).drop (y.rxBits.length - 63)
    let expected := y.lock = .locked ∨ y.lock = .hold
    let mark : Instr := .syncMark (some (edge, high))
    let misses := fun (op : Instr) => Gives op s fun t =>
      t.dev.sync = { y with missRun := y.missRun + 1, rxBits := bits false } ∧
      t.dev.reg Obj.MISSING_MARKS = bump 32 (d.reg Obj.MISSING_MARKS) ∧ quiet t ∧ stays t
    (y.refclk = .locked ∨ y.refclk = .present → d.power.state ≠ .off → Gives (.refclkLoss dev cyc) s fun t =>
      t.dev.sync = { y with refclk := .holdover, lock := .free } ∧ t.dev.reg Obj.REFCLK_DEV = unsignedOf 32 dev ∧
      (s.live → t.dev.reg Obj.REFCLK_LOSSES = bump 16 (d.reg Obj.REFCLK_LOSSES) ∧
        waits t (if cyc.val < 495 then d.tick + 1 else d.tick + 2) 0x0109 (if d.anyLive then 4 else 1)) ∧
      (d.power.released = false → quiet t) ∧ stays t) ∧
    (y.refclk = .absent ∨ y.refclk = .holdover → d.power.state ≠ .off → Gives (.refclkPresent dev) s fun t =>
      t.dev.sync = { y with refclk := .present } ∧ t.dev.reg Obj.REFCLK_DEV = unsignedOf 32 dev ∧ quiet t ∧ stays t) ∧
    (y.refclk = .present → d.allParked = true → Gives .refclkRelock s fun t =>
      t.dev.sync = { y with refclk := .locked, lock := if d.isNode then .acquiring else y.lock } ∧ quiet t ∧ stays t) ∧
    (y.refclk ≠ .present ∨ d.allParked = false → Gives .refclkRelock s fun t => t.dev = d) ∧
    (s.inside → d.isNode = true →
      misses (.syncMark none) ∧ (high < 10000 ∨ 60000 < high → misses mark) ∧ (expected → 2000 < phase.natAbs → misses mark) ∧
      (10000 ≤ high → high ≤ 60000 → phase.natAbs ≤ 2000 →
        (y.lock = .acquiring ∨ (y.lock = .locked ∧ phase.natAbs ≤ 100 ∧ y.driftRaised = false) → Gives mark s fun t =>
          t.dev.sync = { y with missRun := 0, rxBits := bits b } ∧ t.dev.reg Obj.PHASE_ERR = unsignedOf 32 phase ∧ quiet t ∧ stays t) ∧
        (y.lock = .locked → 100 < phase.natAbs → y.driftRaised = false → Gives mark s fun t =>
          t.dev.sync = { y with missRun := 0, rxBits := bits b, driftRaised := true } ∧ waits t (d.tick + 1) 0x0103 1 ∧ stays t) ∧
        (y.lock = .hold → phase.natAbs ≤ 100 → Gives mark s fun t =>
          t.dev.sync = { y with missRun := 0, rxBits := bits b, lock := .locked, driftRaised := false } ∧ quiet t ∧ stays t) ∧
        (y.lock = .hold → 100 < phase.natAbs → d.allParked = false → y.driftRaised = false → Gives mark s fun t =>
          t.dev.sync = { y with missRun := 0, rxBits := bits b, driftRaised := true } ∧ waits t (d.tick + 1) 0x0103 1 ∧ stays t))) ∧
    (s.inside → d.isNode = false → Gives mark s fun t => t.dev = d) ∧
    (s.inside → 8 ≤ y.missRun → y.lock = .locked ∨ y.lock = .acquiring → Gives .syncLost s fun t =>
      t.dev.sync = { y with lock := .hold, driftRaised := false } ∧ waits t (d.tick + 1) 0x0104 1 ∧ stays t) ∧
    (s.inside → y.missRun < 8 → Gives .syncLost s fun t => t.dev = d) ∧
    (s.live → y.lock = .acquiring → d.allParked = true → phase.natAbs ≤ 5 → Gives (.lockAcquired edge) s fun t =>
      t.dev.sync = { y with lock := .locked, driftRaised := false, lastStep := some d.tick } ∧ t.dev.reg Obj.PHASE_ADJ = 0 ∧
      t.dev.reg Obj.PHASE_ERR = unsignedOf 32 phase ∧ stays t ∧ t.shown = t.dev) ∧
    (s.live → y.lock = .acquiring → 5 < phase.natAbs → Gives (.lockAcquired edge) s fun t => t.dev = d) ∧
    (s.live → y.lock = .locked → d.stepFree = true → phase.natAbs ≤ 100 → d.calm = true → Gives (.phaseStep edge) s fun t =>
      t.dev.reg Obj.PHASE_ADJ = unsignedOf 32 (signedOf 32 (d.reg Obj.PHASE_ADJ) - phase.sign) ∧
      t.dev.sync = { y with driftRaised := false, lastStep := some d.tick } ∧ t.dev.flt.due = d.flt.due ∧ stays t) ∧
    (s.live → y.lock ≠ .locked ∨ d.stepFree = false → Gives (.phaseStep edge) s fun t => t.dev = d) ∧
    (s.live → d.tick.toNat % 1000000 = 0 → Gives .dcMapLatch s fun t =>
      t.dev.reg Obj.DC_AT_MAP = y.dcNow.toNat ∧ t.dev.reg Obj.TICK_AT_MAP = d.tick.toNat ∧ t.dev.sync = y ∧ quiet t ∧ stays t) ∧
    (s.live → d.tick.toNat % 1000000 ≠ 0 → Gives .dcMapLatch s fun t => t.dev = d)

/-- R46, R47, R48, R49, R44, R61, R53, R56, R66: the 64 marks of a slot are read as preamble, command, operand and CRC-6; a
NODE sends NOP on for a bad word, forwards TIME, EPOCH, START, ABORT and CAL_LEVEL with their operands, and sends no
DELAY of its parent on; TIME that differs makes MISMATCH; EPOCH makes domain time while PARKED and notes the Distributed
Clocks time, and a second copy of a word acted on is ignored; START becomes pending, or LATE, in domain time only; ABORT
cancels the start it names; DELAY replaces D; CAL_LEVEL of its own level begins the loop measurement; at a multiple of
64 a slot sends what waits. (That the ROOT sends DELAY in every second slot of domain time once its calibration is DONE
is the model's choice, log 68.) -/
def Obligations.SyncWordsActAndAreForwarded : Prop :=
  ∀ (s : State) (tick : Tick) (second : Bool) (level : BitVec 3) (delay : BitVec 16), s.live → s.dev.calm = true →
    let d := s.dev
    let y := d.sync
    let chans := fun (t : State) => t.dev.chans = d.chans ∧ t.dev.mem = d.mem
    let sent := fun (t : State) (cmd op : Nat) => t.dev.sync.forward = some (cmd, op) ∧ t.dev.sync.rxBits = [] ∧ t.dev.mem = d.mem
    let fresh := fun (cmd op : Nat) => y.lastCmd ≠ some (cmd, op)
    let heard := fun (cmd op : Nat) => y.rxBits = syncWord cmd op
    let passed := fun (cmd op : Nat) => { y with forward := some (cmd, op), rxBits := [], lastCmd := none }
    let acted := fun (cmd op : Nat) => { y with forward := some (cmd, op), rxBits := [], lastCmd := some (cmd, op) }
    let idle := if y.loopCal = .done then (6, d.reg Obj.FWD_DELAY % 2 ^ 16 + 2 ^ 16 * (d.syncLevel % 8)) else (0, 0)
    let own := delay.toNat + 2 ^ 16 * level.toNat
    (d.isNode = true →
      (y.rxBits.length = 64 → readSyncWord y.rxBits = none → Gives .syncWordBad s fun t => t.dev.sync = passed 0 0 ∧
        t.dev.reg Obj.WORD_ERRORS = bump 32 (d.reg Obj.WORD_ERRORS) ∧ chans t) ∧
      (heard 0 0 → Gives .syncNop s fun t => t.dev.sync = passed idle.1 idle.2 ∧ t.dev.regs = d.regs ∧ chans t) ∧
      (heard 1 tick.toNat → Gives .syncTime s fun t => sent t 1 tick.toNat ∧
        t.dev.sync.epoch = (if d.tick = tick + d.levelTicks then y.epoch else .mismatch) ∧ t.dev.tick = d.tick) ∧
      (heard 2 tick.toNat → fresh 2 tick.toNat → Gives (.syncEpoch second) s fun t => sent t 2 tick.toNat ∧
        t.dev.tick = (if d.allParked then tick + (if second then 64 else 0) + d.levelTicks else d.tick) ∧
        t.dev.sync.epoch = (if d.allParked then .domain else .mismatch) ∧
        t.dev.reg Obj.DC_AT_EPOCH = (if d.allParked then y.dcNow.toNat else d.reg Obj.DC_AT_EPOCH) ∧
        t.dev.sync.gen = (if d.allParked then bump 8 y.gen else y.gen)) ∧
      (heard 2 tick.toNat → ¬ fresh 2 tick.toNat → Gives (.syncEpoch second) s fun t =>
        t.dev.sync = passed 2 tick.toNat ∧ t.dev.tick = d.tick ∧ chans t) ∧
      (heard 3 tick.toNat → fresh 3 tick.toNat → y.epoch = .domain → y.start ≠ .pending → reached d.tick tick = false →
        Gives .syncStartWord s fun t =>
          t.dev.sync = { acted 3 tick.toNat with start := .pending, startTick := tick } ∧ chans t) ∧
      (heard 3 tick.toNat → fresh 3 tick.toNat → y.epoch = .domain → y.start ≠ .pending → reached d.tick tick = true →
        Gives .syncStartWord s fun t => sent t 3 tick.toNat ∧ t.dev.sync.start = .late ∧ t.dev.sync.startTick = y.startTick) ∧
      (heard 3 tick.toNat → y.epoch ≠ .domain → Gives .syncStartWord s fun t =>
        sent t 3 tick.toNat ∧ t.dev.sync.start = y.start ∧ chans t) ∧
      (heard 4 tick.toNat → fresh 4 tick.toNat → Gives .syncAbortWord s fun t =>
        t.dev.sync = { acted 4 tick.toNat with start := if y.start = .pending ∧ y.startTick = tick then .aborted else y.start } ∧
        chans t) ∧
      (heard 6 own → ((delay.toNat : Int) - y.parentD).natAbs ≤ 5 ∨ d.allParked = true → Gives .syncDelay s fun t =>
        let lock := if ((delay.toNat : Int) - y.parentD).natAbs ≤ 5 then y.lock else .acquiring
        t.dev.reg Obj.PARENT_DELAY = delay.toNat ∧ chans t ∧
        t.dev.sync = { passed idle.1 idle.2 with parentD := delay.toNat, offeredD := none, lock := lock }) ∧
      (heard 6 own → 5 < ((delay.toNat : Int) - y.parentD).natAbs → d.allParked = false → Gives .syncDelay s fun t =>
        t.dev.sync.parentD = y.parentD ∧ t.dev.sync.offeredD = some delay.toNat ∧ t.dev.sync.lock = y.lock) ∧
      (heard 5 level.toNat → level.toNat = d.reg Obj.SYNC_LEVEL → d.reg Obj.RET_FITTED ≠ 0 → y.lock = .locked → d.anyLive = false →
        Gives .syncCalLevel s fun t => chans t ∧
          t.dev.sync = { passed 5 level.toNat with loopCal := .measuring, failCode := 0, measSince := d.tick }) ∧
      (heard 5 level.toNat → level.toNat ≠ d.reg Obj.SYNC_LEVEL → Gives .syncCalLevel s fun t =>
        t.dev.sync = passed 5 level.toNat ∧ chans t) ∧
      (d.reg Obj.SYNC_OUT_EN = 1 → d.tick.toNat % 64 = 0 → Gives .syncSlotSend s fun t =>
        t.dev.sync = { y with tx := some (y.forward.getD (0, 0)), forward := none } ∧ chans t) ∧
      (d.reg Obj.SYNC_OUT_EN ≠ 1 → d.tick.toNat % 64 = 0 → Gives .syncSlotSend s fun t => t.dev.sync.tx = none ∧ chans t)) ∧
    (d.isRoot = true → d.reg Obj.SYNC_OUT_EN = 1 → d.tick.toNat % 64 = 0 → y.rootEpoch = none →
      (y.sendQ = [] → Gives .syncSlotSend s fun t =>
        t.dev.sync.tx = some (if y.epoch ≠ .domain ∨ (y.loopCal = .done ∧ d.tick.toNat / 64 % 2 = 1) then idle else (1, (d.tick + 64).toNat)) ∧
        t.dev.sync.sendQ = [] ∧ chans t) ∧
      (y.sendQ = [(3, tick.toNat), (3, tick.toNat)] → Gives .syncSlotSend s fun t =>
        t.dev.sync = { y with tx := some (3, tick.toNat), sendQ := [(3, tick.toNat)] } ∧ chans t) ∧
      (y.sendQ = [(2, tick.toNat), (2, tick.toNat)] → Gives .syncSlotSend s fun t =>
        t.dev.sync = { y with tx := some (2, tick.toNat), sendQ := [(2, tick.toNat)], epochSent := true, rootEpoch := some tick } ∧
        chans t)) ∧
    (d.isRoot = true → d.tick.toNat % 64 = 0 → y.rootEpoch = some tick → y.sendQ = [] → d.allParked = true →
      Gives .syncSlotSend s fun t =>
        t.dev.tick = tick ∧ t.dev.sync.epoch = .domain ∧ t.dev.sync.gen = bump 8 y.gen ∧ t.dev.sync.rootEpoch = none ∧ t.dev.mem = d.mem) ∧
    (d.isRoot = true → d.tick.toNat % 64 ≠ 0 → Gives .syncSlotSend s fun t => t.dev = d) ∧
    (d.isNode = false → Gives .syncTime s (fun t => t.dev = d) ∧ Gives (.syncEpoch second) s fun t => t.dev = d)

/-- R57, R56, R60, R61, R47, R59, R62: the ROOT queues CAL_LEVEL 0 and then one level each 8,000 tk; a module measures its
own loop, and the mean, its half and the outcome of Table 2-5 follow after 2,000 tk; START is sent twice and pends where
T is 576 tk or more after the free slot, else LATE; ABORT is sent twice and cancels; EPOCH is sent twice for a multiple
of 64; others refuse; at tick T a waiting channel of ARM_MASK selects its first step, and the others keep their barkers;
in MISMATCH no channel starts (R44). (What a request for another start does at the ROOT is the model's choice, log 85.) -/
def Obligations.SyncRequestsStartsAndLoops : Prop :=
  ∀ (s : State) (n : ChanId) (tick due : Tick) (value : BitVec 8) (lvl mean spread missing : Nat), s.live → s.dev.calm = true →
    let d := s.dev
    let y := d.sync
    let stays := fun (t : State) => t.dev.chans = d.chans ∧ t.dev.mem = d.mem ∧ t.dev.tick = d.tick ∧ t.shown = t.dev
    let refused := fun (op : Instr) (why : Nat) => Gives op s fun t =>
      t.dev.sync = y ∧ t.dev.dict.abort = why ∧ t.dev.reg Obj.ARM_MASK = d.reg Obj.ARM_MASK ∧ stays t
    (d.isRoot = true → Gives .calCmdDomain s fun t =>
      t.dev.sync = { y with sendQ := y.sendQ ++ [(5, 0)], calNext := some (1, d.tick + 8000) } ∧ t.dev.dict.abort = 0 ∧ stays t) ∧
    (y.calNext = some (lvl, due) → reached d.tick due = true → Gives .calLevelSend s fun t =>
      t.dev.sync = { y with sendQ := y.sendQ ++ [(5, lvl)], calNext := if lvl < 5 then some (lvl + 1, due + 8000) else none } ∧ stays t) ∧
    (y.calNext = none → Gives .calLevelSend s fun t => t.dev = d) ∧
    (d.reg Obj.RET_FITTED = 0 → Gives .calCmdOwn s fun t =>
      t.dev.sync = { y with loopCal := .doneLeaf, failCode := 0 } ∧ t.dev.reg Obj.FWD_DELAY = 0 ∧ t.dev.dict.abort = 0 ∧ stays t) ∧
    (d.reg Obj.RET_FITTED ≠ 0 → Gives .calCmdOwn s fun t => stays t ∧ t.dev.dict.abort = 0 ∧
      t.dev.sync = (if d.isRoot = false ∧ y.lock ≠ .locked then { y with loopCal := .failed, failCode := 4 }
        else if d.anyLive then { y with loopCal := .failed, failCode := 5 }
        else { y with loopCal := .measuring, failCode := 0, measSince := d.tick })) ∧
    (y.loopCal = .measuring → 2000 ≤ ticksFrom y.measSince d.tick → Gives (.loopMeasureDone mean spread missing) s fun t =>
      let ok := missing ≤ 100 ∧ spread ≤ 20 ∧ mean ≤ 65535
      let why := if 100 < missing then 1 else if 20 < spread then 2 else 3
      t.dev.sync = (if ok then { y with loopCal := .done, failCode := 0 } else { y with loopCal := .failed, failCode := why }) ∧
      t.dev.reg Obj.FWD_DELAY = (if ok then mean / 2 else d.reg Obj.FWD_DELAY) ∧
      (missing ≤ 100 → t.dev.reg Obj.LOOP_RT = min 0xFFFFFFFF mean ∧ t.dev.reg Obj.LOOP_SPREAD = min 0xFFFF spread) ∧ stays t) ∧
    (d.isRoot = true → y.epoch = .domain → y.start ≠ .pending →
      (reached tick (d.freeSlot + 576) = true → Gives (.startReq tick) s fun t =>
        t.dev.sync = { y with sendQ := y.sendQ ++ [(3, tick.toNat), (3, tick.toNat)], start := .pending, startTick := tick } ∧
        t.dev.dict.abort = 0 ∧ stays t) ∧
      (reached tick (d.freeSlot + 576) = false → Gives (.startReq tick) s fun t =>
        t.dev.sync = { y with start := .late } ∧ t.dev.dict.abort = 0x06090030 ∧ stays t)) ∧
    (d.isRoot = true → y.epoch ≠ .domain → refused (.startReq tick) 0x08000022) ∧
    (d.isRoot = true → y.epoch = .domain → y.start = .pending → y.startTick ≠ tick → refused (.startReq tick) 0x08000022) ∧
    (d.isRoot = true → y.start = .pending → Gives (.abortReq 1) s fun t =>
      t.dev.sync = { y with sendQ := y.sendQ ++ [(4, y.startTick.toNat), (4, y.startTick.toNat)], start := .aborted } ∧
      t.dev.dict.abort = 0 ∧ stays t) ∧
    (d.isRoot = true → value ≠ 1 → refused (.abortReq value) 0x06090030) ∧
    (d.isRoot = true → tick.toNat % 64 = 0 → Gives (.epochReq tick) s fun t =>
      t.dev.sync = { y with sendQ := y.sendQ ++ [(2, tick.toNat), (2, tick.toNat)] } ∧ t.dev.dict.abort = 0 ∧ stays t) ∧
    (d.isRoot = true → tick.toNat % 64 ≠ 0 → refused (.epochReq tick) 0x06090030) ∧
    (d.isRoot = false → refused .calCmdDomain 0x08000022 ∧ refused (.startReq tick) 0x08000022 ∧
      refused (.abortReq value) 0x08000022 ∧ refused (.epochReq tick) 0x08000022) ∧
    (y.start = .pending → y.startTick = d.tick → y.epoch = .mismatch → Gives .syncStart s fun t =>
      t.dev.sync = { y with start := .aborted } ∧ stays t) ∧
    (y.start = .pending → y.startTick = d.tick → y.epoch = .domain → d.reg Obj.ARM_MASK = 2 ^ n.val → d.waitsSync n = true → d.role n = 0 →
      d.sysActive = false → d.marksStay n →
      let w := d.desc (d.creg n Obj.START_SEG)
      let first := d.step64 (dsStart w)
      dsValid w = true → dsType w = 0 → 0 < dsLen w → d.stepOk n first.toNat = true → (d.ch n).bk.loops = [] →
      Gives .syncStart s fun t =>
        t.dev.sync.start = .started ∧ (t.dev.ch n).bk.addr = dsStart w ∧ (t.dev.ch n).bk.word = first ∧
        (t.dev.ch n).bk.sel.map (fun x => (x.word, x.addr)) = some (first, dsStart w) ∧
        (t.dev.ch n).force.setpt = (d.ch n).force.setpt ∧ (∀ m, m ≠ n → (t.dev.ch m).still = (d.ch m).still)) ∧
    (y.start ≠ .pending ∨ y.startTick ≠ d.tick → Gives .syncStart s fun t => t.dev = d)

/-- R402, R403, R404, R405, R394: a port closes and opens with its link; a transition upward passes its checks of Table 15-2
or is refused in its state with the error indication and the AL status code; Bootstrap and undefined transitions are
refused; lower states are entered at once; OP is left for SAFEOP when the watchdog expires or eight SYNC0 events bring
no frame, and PD_WD_ACTION 1 then sends a park request; no transition changes a channel. -/
def Obligations.EtherCatStatesAndLinks : Prop :=
  ∀ (s : State) (port smOk sync1 : Bool) (dcCycle : Option Nat) (target : BitVec 4) (st : EsmState) (cyc : Cycle),
    let d := s.dev
    let e := d.ec
    let p := b2n port
    let v := d.reg Obj.EC_LINK
    let stays := fun (t : State) => t.dev.chans = d.chans ∧ t.dev.mem = d.mem ∧ t.dev.fifo = d.fifo ∧ t.dev.tick = d.tick ∧
      t.dev.power = d.power
    let refused := fun (op : Instr) (code : Nat) => Gives op s fun t =>
      t.dev.ec = { e with errInd := true } ∧ t.dev.reg Obj.AL_CODE = code ∧ t.dev.dict = d.dict ∧
      t.dev.flt.violSeq = d.flt.violSeq + 1 ∧ stays t
    let enters := fun (op : Instr) (next : EsmState) => Gives op s fun t =>
      t.dev.ec = { e with esm := next, errInd := false, frames := 0, missed := 0 } ∧
      t.dev.reg Obj.ESM_CHANGES = bump 32 (d.reg Obj.ESM_CHANGES) ∧ t.dev.flt = d.flt ∧ stays t
    let errors := fun (op : Instr) (code counter : Nat) (c : Nat) => Gives op s fun t =>
      t.dev.ec = { e with esm := .safeop, errInd := true, frames := 0, missed := 0 } ∧ t.dev.reg Obj.AL_CODE = code ∧
      t.dev.reg counter = bump 32 (d.reg counter) ∧ t.dev.flt.violSeq = d.flt.violSeq + 1 ∧
      (d.reg Obj.PD_WD_ACTION = 0 → t.dev.dict = d.dict) ∧
      (d.reg Obj.PD_WD_ACTION = 1 → t.dev.dict.writes.length = d.dict.writes.length + 1 ∧
        { act := d.actAt c, arrived := d.tick, cyc := c, rank := 0, source := 1, sealedBy := false, cmd := false, req := .one 0x2010 2 8 (2 ^ 64 - 1) } ∈
          t.dev.dict.writes) ∧ stays t
    (d.power.state ≠ .off → v < 256 → natBit v p = true → Gives (.ecLinkLost port) s fun t =>
      (∀ i, i < 8 → natBit (t.dev.reg Obj.EC_LINK) i = if i = p then false else if i = 4 + p then true else natBit v i) ∧
      t.dev.reg Obj.LOST_LINKS = bump 16 (d.reg Obj.LOST_LINKS) ∧ t.dev.ec = e ∧ stays t) ∧
    (natBit v p = false → Gives (.ecLinkLost port) s fun t => t.dev = d) ∧
    (d.power.state ≠ .off → v < 256 → Gives (.ecLinkUp port) s fun t =>
      (∀ i, i < 8 → natBit (t.dev.reg Obj.EC_LINK) i = if i = p then true else if i = 4 + p then false else natBit v i) ∧
      t.dev.reg Obj.LOST_LINKS = d.reg Obj.LOST_LINKS ∧ t.dev.ec = e ∧ stays t) ∧
    (s.inside → e.esm = .init → enters (.esmInitToPreop true) .preop ∧ refused (.esmInitToPreop false) 0x0016) ∧
    (s.inside → e.esm = .preop →
      (smOk = false → refused (.esmPreopToSafeop smOk sync1 dcCycle) 0x0017) ∧
      (smOk = true → d.outputsOk = false → refused (.esmPreopToSafeop smOk sync1 dcCycle) 0x001D) ∧
      (smOk = true → d.outputsOk = true → mapFits (d.assigned 0x1C13) = false → refused (.esmPreopToSafeop smOk sync1 dcCycle) 0x001E) ∧
      (smOk = true → d.outputsOk = true → mapFits (d.assigned 0x1C13) = true →
        (sync1 = true → refused (.esmPreopToSafeop smOk sync1 dcCycle) 0x0030) ∧
        (sync1 = false → d.dcMode = true → (dcCycle.getD 0 % 1000 ≠ 0 ∨ dcCycle.getD 0 < 31000) →
          refused (.esmPreopToSafeop smOk sync1 dcCycle) 0x0036) ∧
        (sync1 = false → d.dcMode = true → dcCycle.getD 0 % 1000 = 0 → 31000 ≤ dcCycle.getD 0 → d.sync.refclk ≠ .locked →
          refused (.esmPreopToSafeop smOk sync1 dcCycle) 0x0032) ∧
        (sync1 = false → (d.dcMode = false ∨ dcCycle.getD 0 % 1000 = 0 ∧ 31000 ≤ dcCycle.getD 0 ∧ d.sync.refclk = .locked) →
          enters (.esmPreopToSafeop smOk sync1 dcCycle) .safeop))) ∧
    (s.inside → e.esm = .safeop →
      (e.frames = 0 → refused .esmSafeopToOp 0x0019) ∧
      (e.frames ≠ 0 → d.dcMode = true → (e.sync0 = false ∨ 1000 < ticksFrom e.sync0At d.tick) → refused .esmSafeopToOp 0x0034) ∧
      (e.frames ≠ 0 → d.dcMode = false → enters .esmSafeopToOp .op)) ∧
    (s.inside → refused .esmBootstrapRequest 0x0013) ∧
    (s.inside → esmOf target.toNat = some st → st.code ≠ 2 * e.esm.code → e.esm.code < st.code → refused (.esmInvalidRequest target) 0x0011) ∧
    (s.inside → esmOf target.toNat = none → target ≠ 3 → refused (.esmInvalidRequest target) 0x0012) ∧
    (s.inside → esmOf target.toNat = some st → st.code < e.esm.code → d.reg Obj.PD_WD_ACTION = 0 →
      enters (.esmDownwardTransition target) st ∧ (e.esm = .op → enters (.esmLeaveOp target) st)) ∧
    (s.inside → e.esm = .op → errors (.sm2Watchdog cyc) 0x001B Obj.WD_EXPIRIES cyc.val ∧
      (d.dcMode = true → 8 ≤ e.missed → errors .sync0Missed 0x001A Obj.SYNC_ERRORS 0) ∧
      (e.missed < 8 → Gives .sync0Missed s fun t => t.dev = d)) ∧
    (s.inside → e.esm ≠ .op → Gives (.sm2Watchdog cyc) s (fun t => t.dev = d) ∧ Gives (.esmLeaveOp target) s fun t => t.dev = d)

/-- R391, R393, R64, R65, R406, R377, R379, R373: in DC SYNC0 a frame waits for the event and a later one replaces it; in
free run a frame within 31,000 ns of the last processed one is only counted; a SYNC0 event shows its phase, processes
the waiting frame or counts its absence, and latches the inputs; requests that are no CoE service get a mailbox error; a
download that passes its checks waits for its commit, and one that fails is answered with its abort code; an upload is
answered from one commit, in cycles 0 to 7 from the one before (R39); a lost segment aborts with 0x05040000. -/
def Obligations.FramesEventsAndMailbox : Prop :=
  ∀ (s : State) (outs old : List (Nat × Nat)) (cycleNs : Nat) (cyc : Cycle) (svc : BitVec 4) (idx : BitVec 16) (sub : BitVec 8)
    (len value code : Nat) (values : List Nat) (data : List Byte), s.live → (8 ≤ cyc.val → s.dev.fab.atCommit = false) →
    let d := s.dev
    let x := d.dict
    let seen := if cyc.val < 8 then s.prior else s.shown
    let late := decide (250 ≤ cyc.val)
    let flips := d.sync.sync0Late ≠ some late
    let jitter := d.sync.sync0Late = some (!late)
    let wrong := cycleNs % 1000 ≠ 0 ∨ cycleNs < 31000
    let was := d.reg Obj.SYNC0_STATE
    let stays := fun (t : State) => t.dev.chans = d.chans ∧ t.dev.mem = d.mem ∧ t.dev.tick = d.tick ∧ t.shown = s.shown
    let queued := fun (t : State) (w : HostWrite) => t.dev.dict.writes.length = x.writes.length + 1 ∧ w ∈ t.dev.dict.writes ∧
      t.dev.regs = d.regs ∧ t.dev.flt = d.flt ∧ stays t
    let answered := fun (op : Instr) (code : Nat) => Gives op s fun t =>
      t.dev.dict.abort = code ∧ t.dev.dict.writes = x.writes ∧ t.dev.flt.violSeq = d.flt.violSeq + 1 ∧ stays t
    let error := fun (svc : MailboxService) (reply : Nat) => Gives (.mailboxRequest svc) s fun t =>
      t.dev.ec = { d.ec with mailbox := [reply] } ∧ t.dev.dict = x ∧ t.dev.flt.violSeq = d.flt.violSeq + 1 ∧ stays t
    let phase := fun (t : State) => t.dev.reg Obj.SYNC0_PHASE = cyc.val / 5 ∧ t.dev.reg Obj.SYNC0_CYCLE = cycleNs / 1000 ∧
      t.dev.ec.sync0 = true ∧ t.dev.ec.sync0At = d.tick ∧ t.dev.sync.sync0Late = some late ∧
      t.dev.reg Obj.SYNC0_STATE = (if jitter then 3 else if (was = 3 ∧ (flips ∨ d.sync.sync0Run + 1 < 64)) ∨ (wrong ∧ was = 2) then was else 1)
    (s.inside → d.pdRuns = true → d.dcMode = true → Gives (.pdFrame outs cyc) s fun t =>
      t.dev.dict = { x with frame := some outs } ∧ t.dev.regs = d.regs ∧ t.dev.ec = d.ec ∧ stays t) ∧
    (s.inside → d.pdRuns = true → d.dcMode = false →
      (x.lastFrame.all (fun l => decide (15500 ≤ cycFrom l (d.tick, cyc.val))) = true → d.ec.esm = .safeop → Gives (.pdFrame outs cyc) s fun t =>
        t.dev.dict = { x with lastFrame := some (d.tick, cyc.val), holdAll := false } ∧
        t.dev.ec = { d.ec with frames := d.ec.frames + 1, missed := 0 } ∧ t.dev.regs = d.regs ∧ stays t) ∧
      (x.lastFrame.any (fun l => decide (cycFrom l (d.tick, cyc.val) < 15500)) = true → Gives (.pdFrame outs cyc) s fun t =>
        t.dev.dict = x ∧ t.dev.ec = d.ec ∧ t.dev.reg Obj.CYCLE_TOO_SMALL = bump 16 (d.reg Obj.CYCLE_TOO_SMALL) ∧ stays t)) ∧
    (s.inside → d.pdRuns = false → Gives (.pdFrame outs cyc) s fun t => t.dev = d) ∧
    (d.dcMode = false → Gives (.sync0Event cycleNs cyc) s fun t => phase t ∧ t.dev.dict = x ∧ stays t) ∧
    (d.dcMode = true → d.pdRuns = true → x.frame = none → d.ec.sync0 = false → Gives (.sync0Event cycleNs cyc) s fun t =>
      phase t ∧ t.dev.ec.missed = d.ec.missed ∧ t.dev.dict = { x with inputs := seen.inputValues } ∧ stays t) ∧
    (d.dcMode = true → d.pdRuns = true → x.frame = none → d.ec.sync0 = true → Gives (.sync0Event cycleNs cyc) s fun t =>
      phase t ∧ t.dev.ec.missed = d.ec.missed + 1 ∧ t.dev.reg Obj.SM_EVENT_MISSED = bump 16 (d.reg Obj.SM_EVENT_MISSED) ∧
      t.dev.dict = { x with inputs := seen.inputValues } ∧ stays t) ∧
    (d.dcMode = true → d.ec.esm = .safeop → x.frame = some old → Gives (.sync0Event cycleNs cyc) s fun t =>
      phase t ∧ t.dev.ec.frames = d.ec.frames + 1 ∧ t.dev.ec.missed = 0 ∧ t.dev.reg Obj.SYNC_ERROR = 0 ∧ t.dev.dict.frame = none ∧
      t.dev.dict.inputs = seen.inputValues ∧ t.dev.dict.writes = x.writes ∧ stays t) ∧
    (s.inside → Gives (.mailboxRequest .coe) s fun t => t.dev.ec = { d.ec with mailbox := [] } ∧ t.dev.flt = d.flt ∧ t.dev.dict = x ∧ stays t) ∧
    (s.inside → error (.unsupported svc) 2 ∧ error .badHeader 5 ∧ error .tooShort 6 ∧ error .tooLong 8) ∧
    (s.inside → d.receipt false false idx.toNat sub.toNat len value = 0 → Gives (.sdoDownload idx sub len value cyc) s fun t =>
      queued t { act := if cyc.val < 250 then d.tick + 1 else d.tick + 2, arrived := d.tick, cyc := cyc.val, rank := 1, source := 0, sealedBy := false, cmd := false, req := .one idx.toNat sub.toNat len value }) ∧
    (s.inside → d.receipt false false idx.toNat sub.toNat len value = code → code ≠ 0 → answered (.sdoDownload idx sub len value cyc) code) ∧
    (s.inside → d.receiptWhole false idx.toNat values = 0 → Gives (.sdoCompleteAccessWrite idx values cyc) s fun t =>
      queued t { act := if cyc.val < 250 then d.tick + 1 else d.tick + 2, arrived := d.tick, cyc := cyc.val, rank := 1, source := 0, sealedBy := false, cmd := false, req := .whole idx.toNat values }) ∧
    (s.inside → d.receiptWhole false idx.toNat values = code → code ≠ 0 → answered (.sdoCompleteAccessWrite idx values cyc) code) ∧
    (seen.readObj idx.toNat sub.toNat = .ok data → Gives (.sdoUpload idx sub cyc) s fun t =>
      t.dev.dict = { x with abort := 0, data := data, answer := leNat data } ∧ t.dev.regs = d.regs ∧ stays t) ∧
    (seen.readObj idx.toNat sub.toNat = .error code → answered (.sdoUpload idx sub cyc) code) ∧
    (seen.readWhole idx.toNat = .ok data → Gives (.sdoCompleteAccessRead idx cyc) s fun t =>
      t.dev.dict = { x with abort := 0, data := data, answer := leNat data } ∧ t.dev.regs = d.regs ∧ stays t) ∧
    (seen.readWhole idx.toNat = .error code → answered (.sdoCompleteAccessRead idx cyc) code) ∧
    (s.inside → answered .sdoSegmentTimeout 0x05040000)

/-- R408, R410, R411, R412, R413, R424, R39: training shows rate, no higher than PCIE_MAX_SPEED, width and the guaranteed
refill; a reset disables the queues and changes no channel, and PERST_N, hot reset and link disable take the link down;
without Bus Master Enable the enabled queues halt with BME; TICK_LO latches TICK_HI; BAR0 registers take the values of
Table 15-5 and a running queue keeps its base and size; IRQ_STATUS clears the bits written; a request not served is
logged; a window write that passes its checks waits for its commit, and a refused one shows in WIN_STATUS; a window read
gives the slots of one commit, in cycles 0 to 7 of the one before. -/
def Obligations.LinkRegistersAndWindow : Prop :=
  ∀ (s : State) (rate width : BitVec 8) (d3 : Bool) (q : QueueId) (value slot len offset code : Nat) (mask : BitVec 32) (cyc : Cycle)
    (data : List Byte) (kind : PcieResetKind), s.inside → s.dev.pcie.up = true → s.dev.pcie.perst = false →
    let d := s.dev
    let p := d.pcie
    let seen := if cyc.val < 8 then s.prior else s.shown
    let stays := fun (t : State) => t.dev.chans = d.chans ∧ t.dev.fifo = d.fifo ∧ t.dev.mem = d.mem ∧ t.dev.tick = d.tick ∧
      t.dev.sec = d.sec
    let inside := fun (t : State) => stays t ∧ t.shown = s.shown ∧ t.dev.regs = d.regs
    let logged := fun (t : State) => t.dev.flt.violSeq = d.flt.violSeq + 1 ∧ stays t
    let i := slot / 256
    let j := slot % 256
    let halts := fun (x : Queue) => if x.enabled && !x.halted then { x with halted := true, cause := 3 } else x
    (Gives .perstNDeassert s fun t => t.dev.pcie = { p with perst := false } ∧ stays t) ∧
    let speed := min rate.toNat (d.reg Obj.PCIE_MAX_SPEED)
    (d.reg Obj.PCIE_EN ≠ 0 → d.power.state ≠ .off → (d.power.state = .boot → 2 ≤ d.power.phase) → Gives (.pcieLinkTrained rate width) s fun t =>
      t.dev.pcie = { p with up := true } ∧ t.dev.reg Obj.PCIE_RATE = speed ∧ t.dev.reg Obj.PCIE_WIDTH = width.toNat ∧
      t.dev.reg Obj.GUAR_REFILL = guaranteed speed width.toNat ∧
      t.dev.reg Obj.PCIE_RETRAINS = bump 32 (d.reg Obj.PCIE_RETRAINS) ∧ stays t) ∧
    (d.reg Obj.PCIE_EN = 0 → Gives (.pcieLinkTrained rate width) s fun t => t.dev = d) ∧
    (p.load.enabled = false → d.load.claims = [] → d.sec.passed = [] → Gives (.pcieReset kind) s fun t =>
      let down := kind = .perst ∨ kind = .hotReset ∨ kind = .linkDisable
      t.dev.pcie = { p with load := p.load.off false, obj := p.obj.off false, exp := p.exp.off true, d3 := false, bme := false, up := !decide down, perst := decide (kind = .perst) } ∧
      t.dev.pcie.exp.head = p.exp.tail ∧ t.dev.load = d.load ∧
      t.dev.reg Obj.PCIE_RATE = (if down then 0 else d.reg Obj.PCIE_RATE) ∧
      t.dev.reg Obj.GUAR_REFILL = (if down then 0 else d.reg Obj.GUAR_REFILL) ∧ stays t ∧ t.shown = s.shown) ∧
    (p.load.runs = true → 0 < p.load.waiting → d.load.claims = [] → d.sec.passed = [] → Gives (.pcieReset kind) s fun t =>
      t.dev.pcie.load.enabled = false ∧ t.dev.pcie.obj.enabled = false ∧ t.dev.pcie.exp.enabled = false ∧
      t.dev.pcie.done.head? = some (p.load.head, 0x800A) ∧ logged t) ∧
    (Gives (.busMasterDisable d3) s fun t => t.dev.pcie.load = halts p.load ∧ t.dev.pcie.obj = halts p.obj ∧
      t.dev.pcie.exp = halts p.exp ∧ t.dev.pcie.bme = false ∧ t.dev.pcie.d3 = (p.d3 || d3) ∧ inside t) ∧
    (Gives (.tickLoRead cyc) s fun t => t.dev.pcie = { p with tickHi := seen.tick.toNat / 2 ^ 32 } ∧
      t.dev.dict.answer = seen.tick.toNat % 2 ^ 32 ∧ t.dev.flt = d.flt ∧ inside t) ∧
    (Gives (.bar0RegisterWrite .irqMask value) s fun t => t.dev.pcie = { p with irqMask := BitVec.ofNat 32 value } ∧ inside t) ∧
    (Gives (.bar0RegisterWrite .expMark value) s fun t =>
      t.dev.pcie = { p with expMark := if 1 ≤ value ∧ value ≤ 4096 then value else p.expMark } ∧ inside t) ∧
    ((p.queue q).enabled = false →
      (value % 4096 = 0 → value < 2 ^ 64 → Gives (.bar0RegisterWrite (.base q) value) s fun t =>
        t.dev.pcie = p.setQueue q { p.queue q with base := value } ∧ inside t) ∧
      (4 ≤ value → value ≤ 12 → Gives (.bar0RegisterWrite (.size q) value) s fun t =>
        t.dev.pcie = p.setQueue q { p.queue q with size := value } ∧ inside t)) ∧
    ((p.queue q).enabled = true → Gives (.bar0RegisterWrite (.base q) value) s (fun t => t.dev = d) ∧
      Gives (.bar0RegisterWrite (.size q) value) s fun t => t.dev = d) ∧
    (Gives (.irqStatusWrite mask) s fun t => (∀ v, v < 32 → bit t.dev.pcie.irq v = (bit p.irq v && !bit mask v)) ∧
      (p.irq &&& ~~~mask &&& ~~~p.irqMask = 0 → t.dev.pcie.irqSent = p.irqSent) ∧ inside t) ∧
    (Gives (.tlpUnsupported .unsupported) s fun t => t.dev.reg Obj.PCIE_CORR_ERRS = bump 32 (d.reg Obj.PCIE_CORR_ERRS) ∧ logged t) ∧
    (Gives (.tlpUnsupported .poisoned) s fun t => t.dev.reg Obj.PCIE_UNCORR_ERRS = bump 32 (d.reg Obj.PCIE_UNCORR_ERRS) ∧ logged t) ∧
    (Gives (.tlpUnsupported .misaligned) s logged) ∧ (Gives (.tlpUnsupported .tooLong) s logged) ∧
    (Gives (.tlpUnsupported .byteEnables) s fun t =>
      t.dev.pcie.winStatus = 0x06070010 ∧ t.dev.pcie.winRefused = bump 32 p.winRefused ∧ logged t) ∧
    (slot < 2 ^ 24 → d.receipt false false i j len value = 0 → slotBytes slot = some len → Gives (.windowWrite (8 * slot) len value cyc) s fun t =>
      t.dev.dict.writes.length = d.dict.writes.length + 1 ∧ t.dev.pcie = p ∧ t.dev.flt = d.flt ∧ inside t ∧
      { act := if cyc.val < 250 then d.tick + 1 else d.tick + 2, arrived := d.tick, cyc := cyc.val, rank := 2, source := 5, sealedBy := false, cmd := false, req := .one i j len value } ∈ t.dev.dict.writes) ∧
    (slot < 2 ^ 24 → d.receipt false false i j len value = code → code ≠ 0 → slotBytes slot = some len →
      Gives (.windowWrite (8 * slot) len value cyc) s fun t => t.dev.pcie.winStatus = code ∧
        t.dev.pcie.winRefused = bump 32 p.winRefused ∧ t.dev.dict.writes = d.dict.writes ∧ logged t) ∧
    (offset % 8 ≠ 0 → Gives (.windowWrite offset len value cyc) s fun t => t.dev.pcie.winStatus = 0x06070010 ∧
      t.dev.pcie.winRefused = bump 32 p.winRefused ∧ t.dev.dict.writes = d.dict.writes ∧ logged t) ∧
    (slot < 2 ^ 24 → seen.readSlot slot = .ok data → 1 ≤ len → len ≤ 8 → Gives (.windowRead (8 * slot) len cyc) s fun t =>
      t.dev.dict.data = data.take len ∧ t.dev.dict.abort = 0 ∧ t.dev.pcie = p ∧ t.dev.flt = d.flt ∧ inside t) ∧
    (slot < 2 ^ 24 → seen.readSlot slot = .error (1, code) → code ≠ 0 → 1 ≤ len → len ≤ 8 → Gives (.windowRead (8 * slot) len cyc) s fun t =>
      t.dev.dict.abort = code ∧ t.dev.dict.data = d.dict.data ∧ logged t)

/-- R414, R415, R416, R420, R426: a queue runs from its enable, and a reset disables it with HEAD and TAIL 0; a TAIL adds
descriptors, and one beyond the ring halts the queue with RING; the export takes FIFO entries into free slots, and a
TAIL write of n releases n entries; an OBJ descriptor at the head reads, or waits with its write, or completes with its
abort code; a failed payload read completes its descriptor, and a failed ring read halts with DMA. -/
def Obligations.QueuesAndExport : Prop :=
  ∀ (s : State) (q : QueueId) (tail slots len value code : Nat) (notify : List Bool) (idx : BitVec 16) (sub : BitVec 8) (cyc : Cycle)
    (values : List Nat) (data : List Byte), s.inside → s.dev.pcie.up = true → s.dev.pcie.perst = false →
    let d := s.dev
    let p := d.pcie
    let x := p.queue q
    let seen := if cyc.val < 8 then s.prior else s.shown
    let stays := fun (t : State) => t.dev.chans = d.chans ∧ t.dev.mem = d.mem ∧ t.dev.tick = d.tick ∧ t.dev.sec = d.sec ∧
      t.shown = s.shown
    let one := fun (t : State) (y : Queue) => t.dev.pcie = p.setQueue q y ∧ t.dev.fifo = d.fifo ∧ t.dev.regs = d.regs ∧ stays t
    let halted := fun (t : State) (cause : Nat) => t.dev.pcie.queue q = { x with halted := true, cause := cause } ∧
      bit t.dev.pcie.irq 7 = true ∧ t.dev.fifo = d.fifo ∧ stays t
    let taken := fun (t : State) => t.dev.pcie.obj = p.obj.take.1 ∧ t.dev.pcie.load = p.load ∧ t.dev.pcie.exp = p.exp ∧
      (p.obj.notify.headD false = true → bit t.dev.pcie.irq 1 = true) ∧ stays t
    let waits := fun (t : State) (w : HostWrite) => t.dev.dict.writes.length = d.dict.writes.length + 1 ∧ w ∈ t.dev.dict.writes ∧
      t.dev.pcie = p ∧ t.dev.flt = d.flt ∧ stays t
    let n := (tail + p.exp.ring - p.exp.tail) % p.exp.ring
    (p.d3 = false → Gives (.queueEnable q true) s fun t =>
      t.dev.pcie = { p.setQueue q { x with enabled := true, running := true } with bme := true } ∧ t.dev.regs = d.regs ∧ stays t) ∧
    (Gives (.queueEnable q false) s fun t => one t { x with enabled := false, running := false }) ∧
    (q ≠ .load → Gives (.queueReset q) s fun t => one t { x with enabled := false, running := false, halted := false, cause := 0, notify := [], head := 0, tail := 0 }) ∧
    (p.load.runs = true → 0 < p.load.waiting → d.load.claims = [] → d.sec.passed = [] → Gives (.queueReset .load) s fun t => t.dev.pcie.load.enabled = false ∧
      t.dev.pcie.load.head = 0 ∧ t.dev.pcie.load.tail = 0 ∧ t.dev.pcie.done.head? = some (p.load.head, 0x800A) ∧ stays t) ∧
    (p.load.enabled = false → d.load.claims = [] → d.sec.passed = [] → Gives (.queueReset .load) s fun t => t.dev.pcie.load.head = 0 ∧ t.dev.pcie.load.tail = 0 ∧
      t.dev.pcie.done = p.done ∧ t.dev.fifo = d.fifo ∧ stays t) ∧
    (q ≠ .exp → x.halted = false →
      (tail < x.ring → notify.length = (tail + x.ring - x.tail) % x.ring → Gives (.queueTailWrite q tail notify) s fun t =>
        one t { x with tail := tail, notify := x.notify ++ notify }) ∧
      (x.ring ≤ tail → Gives (.queueTailWrite q tail notify) s fun t => halted t 1)) ∧
    (q ≠ .exp → x.halted = true → Gives (.queueTailWrite q tail notify) s fun t => t.dev = d) ∧
    (p.exp.halted = false → tail < p.exp.ring → n ≤ p.exp.inRing →
      let freed := fun (t : State) => t.dev.pcie = { p with exp := { p.exp with tail := tail } } ∧ t.dev.fifo.entries = d.fifo.entries.drop n ∧
        t.dev.fifo.head = d.fifo.head + min n d.fifo.entries.length ∧ t.dev.regs = d.regs ∧ stays t
      Gives (.exportTailWrite tail) s freed ∧ Gives (.queueTailWrite .exp tail notify) s freed) ∧
    (p.exp.halted = false → tail < p.exp.ring → p.exp.inRing < n → q = .exp → Gives (.exportTailWrite tail) s fun t => halted t 1) ∧
    (d.reg Obj.EXPORT_LINK = 1 → p.exp.runs = true → Gives (.exportWrite slots) s fun t =>
      t.dev.pcie.exp = { p.exp with head := (p.exp.head + min (d.fifo.entries.length - p.exp.inRing) (min slots (p.exp.ring - 1 - p.exp.inRing))) % p.exp.ring } ∧
      t.dev.fifo = d.fifo ∧ t.dev.regs = d.regs ∧ stays t) ∧
    (d.reg Obj.EXPORT_LINK ≠ 1 → Gives (.exportWrite slots) s fun t => t.dev = d) ∧
    (d.objWaits = true →
      (seen.readObj idx.toNat sub.toNat = .ok data → Gives (.objRead idx sub cyc) s fun t =>
        t.dev.dict.data = data ∧ t.dev.dict.abort = 0 ∧ taken t) ∧
      (seen.readObj idx.toNat sub.toNat = .error code → Gives (.objRead idx sub cyc) s fun t => t.dev.dict.abort = code ∧ taken t) ∧
      (seen.readWhole idx.toNat = .ok data → Gives (.objCaRead idx cyc) s fun t =>
        t.dev.dict.data = data ∧ t.dev.dict.abort = 0 ∧ taken t) ∧
      (seen.readWhole idx.toNat = .error code → Gives (.objCaRead idx cyc) s fun t => t.dev.dict.abort = code ∧ taken t) ∧
      (1 ≤ len → len ≤ 1024 → d.receipt false false idx.toNat sub.toNat len value = 0 → Gives (.objWrite idx sub len value cyc) s fun t =>
        waits t { act := if cyc.val < 250 then d.tick + 1 else d.tick + 2, arrived := d.tick, cyc := cyc.val, rank := 2, source := 7, sealedBy := false, cmd := false, req := .one idx.toNat sub.toNat len value }) ∧
      (1 ≤ len → len ≤ 1024 → d.receipt false false idx.toNat sub.toNat len value = code → code ≠ 0 →
        Gives (.objWrite idx sub len value cyc) s fun t => t.dev.dict.abort = code ∧ t.dev.dict.writes = d.dict.writes ∧ taken t) ∧
      (d.receiptWhole false idx.toNat values = 0 → Gives (.objCaWrite idx values cyc) s fun t =>
        waits t { act := if cyc.val < 250 then d.tick + 1 else d.tick + 2, arrived := d.tick, cyc := cyc.val, rank := 2, source := 7, sealedBy := false, cmd := false, req := .whole idx.toNat values }) ∧
      (d.receiptWhole false idx.toNat values = code → code ≠ 0 → Gives (.objCaWrite idx values cyc) s fun t =>
        t.dev.dict.abort = code ∧ t.dev.dict.writes = d.dict.writes ∧ taken t) ∧
      (Gives (.dmaReadError .obj true) s fun t => t.dev.dict.abort = 0x06060000 ∧
        t.dev.reg Obj.DMA_ERRORS = bump 32 (d.reg Obj.DMA_ERRORS) ∧ taken t)) ∧
    (d.objWaits = false → Gives (.objRead idx sub cyc) s (fun t => t.dev = d) ∧ Gives (.objCaRead idx cyc) s (fun t => t.dev = d) ∧
      Gives (.objWrite idx sub len value cyc) s (fun t => t.dev = d) ∧ Gives (.objCaWrite idx values cyc) s fun t => t.dev = d) ∧
    (p.load.runs = true → 0 < p.load.waiting → d.load.claims = [] → Gives (.dmaReadError .load true) s fun t => t.dev.pcie.load = p.load.take.1 ∧
      t.dev.pcie.done.head? = some (p.load.head, 0x8009) ∧ t.dev.reg Obj.DMA_ERRORS = bump 32 (d.reg Obj.DMA_ERRORS) ∧ stays t) ∧
    (x.runs = true → Gives (.dmaReadError q false) s fun t => halted t 2 ∧ t.dev.reg Obj.DMA_ERRORS = bump 32 (d.reg Obj.DMA_ERRORS))

/-- R440, R441, R442, R436, R437, R444, R445, R447, R448, R425, R453, R433: a container that waits is judged in the order of
arrival, and its verdict acts at the commit of R38: only one that passes every check is accepted and raises its counter;
OWNERSHIP and RETIRE make their transitions only with every channel PARKED and close sessions and streams; a stream
opens in a free place or replaces itself, and 0xFFFFFFFF closes all; a session is offered, opens within 10 s, and
closes, also at 64 failures; an attestation carries its nonce; a failed entropy test bars fresh randomness. -/
def Obligations.ContainersOwnershipAndSessions : Prop :=
  ∀ (s : State) (box offer nonce pub : List Byte) (rest : List (Bool × List Byte)) (v : Verdict) (y : LoadDesc) (c : Claim) (policy : Nat)
    (k : Fin 2) (new : Stream) (opened fuseOk bulk : Bool) (id : BitVec 32) (cyc : Cycle) (at' : Fin 4), s.live → s.dev.calm = true →
    let d := s.dev
    let x := d.sec
    let result := fun (t : State) (code type : Nat) => t.dev.reg Obj.CONT_RESULT = code ∧ t.dev.reg Obj.CONT_TICK = d.tick.toNat ∧
      t.dev.reg Obj.CONT_DETAIL = code * 2 ^ 24 + type * 2 ^ 16 + d.reg Obj.CONT_DETAIL % 2 ^ 16 ∧
      t.dev.reg Obj.CONT_REFUSED = if code = 0 then d.reg Obj.CONT_REFUSED else bump 32 (d.reg Obj.CONT_REFUSED)
    let next := fun (type : Nat) => (x.passed.find? fun y => y.type == type && y.bulk == false).orElse fun _ =>
      x.passed.find? fun y => y.type == type && y.bulk == true
    let stays := fun (t : State) => t.dev.chans = d.chans ∧ t.dev.tick = d.tick ∧ t.shown = t.dev
    let inTick := fun (t : State) => t.dev.chans = d.chans ∧ t.dev.tick = d.tick ∧ t.dev.regs = d.regs ∧ t.dev.sec.trust = x.trust ∧
      t.dev.sec.passed = x.passed ∧ t.shown = s.shown
    let barred := fun (t : State) (code type : Nat) => result t code type ∧ t.dev.dict.abort = 0x08000021 ∧
      t.dev.sec = { x with passed := x.passed.erase v } ∧ t.dev.mem = d.mem ∧ t.dev.fifo = d.fifo ∧ stays t
    let denied := fun (op : Instr) (code : Nat) => Gives op s fun t => t.dev.dict.abort = code ∧ t.dev.sec = x ∧ t.dev.fifo = d.fifo ∧ stays t
    let closed := fun (t : State) => t.dev.sec.sess = .closed ∧ t.dev.sec.streams = Vector.replicate 16 none
    let fails := (x.sealFails.filter fun w => decide (ticksFrom w d.tick ≤ 1000000)).length
    let place := fun (i : Fin 16) => x.streams[i].isNone || x.streams[i].any (·.id == new.id)
    let h := boxHeadOf box
    let bad := box.length < 32 ∨ h.size ≠ box.length
    let owner := if h.type = 0x11 then slice ((boxPlain box ((d.streamOf box).map (·.key))).getD []) 0 97 else x.ownerPub
    let later := fun (w : Verdict) => ({ act := d.actAt cyc.val, arrived := d.tick, cyc := cyc.val, rank := if w.bulk then 2 else 0, source := if w.bulk then 7 else 0, sealedBy := false, cmd := false, req := .judge (if w.code = 0 then w else { w with target := if bad then 7 else 2 }) } : HostWrite)
    let judged := d.boxVerdict bulk true false fuseOk 0 (fun _ => []) box
    let onLoad := d.boxVerdict true false false fuseOk y.target.toNat (bodyLines h.type) box
    let refill := d.boxVerdict true false false fuseOk 0 (fun _ => c.lines) box
    let failed := fun (t : State) => t.dev.sec.sess = (if x.sess = .offered then .closed else x.sess) ∧ t.dev.dict.abort = 0x08000021 ∧
      t.dev.reg Obj.SESS_FAILS = bump 32 (d.reg Obj.SESS_FAILS) ∧ t.dev.sec.sealFails.head? = some d.tick ∧ t.dev.sec.trust = x.trust ∧ stays t
    let e := d.judge v
    (s.inside → x.waiting = (bulk, box) :: rest → Gives (.containerVerified .sec fuseOk cyc) s fun t =>
      t.dev.dict.writes = insertWrite (later judged) d.dict.writes ∧ t.dev.sec.waiting = rest ∧ t.dev.mem = d.mem ∧ inTick t) ∧
    (s.inside → x.waiting = [] → Gives (.containerVerified .sec fuseOk cyc) s fun t => t = s) ∧
    (s.inside → d.load.claims = [] → d.loadWaits true = true → descCode y = 0 → d.imageless y.type.toNat = false → y.box = box →
      h.type = y.type.toNat → h.type ≠ 1 → Gives (.containerVerified (.queue y) fuseOk cyc) s fun t =>
        t.dev.dict.writes = insertWrite (later onLoad) d.dict.writes ∧ t.dev.load = d.load ∧ t.dev.mem = d.mem ∧ inTick t) ∧
    (s.inside → d.load.claims = [c] → c.bulk = true → c.act = none → c.box = box → Gives (.containerVerified (.queue y) fuseOk cyc) s fun t =>
      t.dev.dict.writes = insertWrite (later refill) d.dict.writes ∧ t.dev.mem = d.mem ∧
      t.dev.load.claims = if refill.code = 0 then [{ c with act := some (d.loadAct true cyc.val), box := [] }] else []) ∧
    (judged.code = 0 → boxOk box = true ∧ ¬ bad ∧ (h.fp = 0 ∨ h.fp = d.reg Obj.DEVICE_FP) ∧ lifecycleBars x.life h.type = false ∧
      (boxBlocks box).all (fun b => blockVerifies owner (boxHead box ++ boxKey box ++ boxBody box) b && !d.revoked b) = true ∧
      d.rollsBack h = false ∧ d.policyBars h = false ∧ (h.bump = true → d.allParked = true ∧ fuseOk = true)) ∧
    (e.reg Obj.CONT_RESULT = v.code ∧ e.reg Obj.CONT_TICK = d.tick.toNat ∧ e.chans = d.chans ∧ e.mem = d.mem ∧ e.sec.life = x.life ∧
      e.reg Obj.CONT_DETAIL = v.code * 2 ^ 24 + v.type % 256 * 2 ^ 16 + (256 * v.block + b2n v.bulk) ∧
      (v.code ≠ 0 → e.sec = x ∧ (v.sec = true → e.dict.abort = 0x08000021)) ∧
      (v.code = 0 → v.type ≠ 1 → e.sec.passed = x.passed ++ [v] ∧ e.sec.arb[at'] =
        if arbOf v.type v.signers.isEmpty = some at' then max x.arb[at'] (v.arb.getD 0) else x.arb[at'])) ∧
    (next 0x11 = some v → readOwnership v.body = some (pub, policy) →
      (x.life = .vendor → d.allParked = true → x.blankSlot = some k → Gives (.ownership true) s fun t =>
        result t 0 0x11 ∧ t.dev.sec.life = .owned ∧ t.dev.sec.policy = policy ∧ t.dev.sec.ownerPub = pub ∧
        t.dev.sec.ownerHash = bytesN 48 (Config.sha384 pub) ∧ t.dev.sec.slots = x.slots.set k 1 ∧
        t.dev.sec.arb = x.arb ∧ t.dev.sec.d3Count = x.d3Count ∧ t.dev.sec.passed = x.passed.erase v ∧ closed t ∧ stays t) ∧
      (x.life = .vendor → d.allParked = true → x.blankSlot = some k → Gives (.ownership false) s fun t =>
        result t 0xD 0x11 ∧ t.dev.sec = { x with passed := x.passed.erase v, slots := x.slots.set k 2 } ∧ stays t) ∧
      (x.life = .vendor → d.allParked = false → Gives (.ownership fuseOk) s (barred · 0xC 0x11)) ∧
      (x.life = .vendor → d.allParked = true → x.blankSlot = none → Gives (.ownership fuseOk) s (barred · 0xD 0x11)) ∧
      (x.life ≠ .vendor → Gives (.ownership fuseOk) s (barred · 3 0x11))) ∧
    (next 0x11 = some v → readOwnership v.body = none → Gives (.ownership fuseOk) s (barred · 1 0x11)) ∧
    (next 0x11 = none → Gives (.ownership fuseOk) s fun t => t.dev = d) ∧
    (next 0x13 = some v → x.life = .vendor ∨ x.life = .owned →
      (d.allParked = true → Gives (.retire fuseOk) s fun t => result t (if fuseOk then 0 else 0xD) 0x13 ∧
        t.dev.sec.life = (if fuseOk then .retired else x.life) ∧ t.dev.sec.slots = Vector.replicate 2 2 ∧
        t.dev.sec.ownerPub = [] ∧ t.dev.sec.ownerHash = [] ∧ t.dev.sec.arb = x.arb ∧ t.dev.sec.d3Count = x.d3Count ∧ closed t ∧
        t.dev.sec.recErased = true ∧ t.dev.mem.ledger = [] ∧ t.dev.mem.dir = [] ∧ t.dev.mem.progs = [] ∧ t.dev.mem.sets = [] ∧
        t.dev.mem.scr = [] ∧ t.dev.fifo.entries = []) ∧
      (d.allParked = false → Gives (.retire fuseOk) s (barred · 0xC 0x13))) ∧
    (next 0x13 = some v → x.life = .blank ∨ x.life = .retired → Gives (.retire fuseOk) s (barred · 3 0x13)) ∧
    (next 0x13 = none → Gives (.retire fuseOk) s fun t => t.dev = d) ∧
    (next 0x10 = some v → readStream (boxHead v.box) v.body = some (new, opened) → Gives .streamOpen s fun t =>
      (opened = true → (List.finRange 16).any place = true → result t 0 0x10 ∧ stays t ∧ t.dev.sec.trust = x.trust ∧
        ∃ i : Fin 16, place i = true ∧ ∀ j : Fin 16, t.dev.sec.streams[j] = if j = i then some new else x.streams[j]) ∧
      (opened = true → (List.finRange 16).any place = false → barred t 0xE 0x10) ∧ (opened = false → barred t 9 0x10)) ∧
    (next 0x10 = some v → readStream (boxHead v.box) v.body = none → Gives .streamOpen s (barred · 1 0x10)) ∧
    (next 0x10 = none → Gives .streamOpen s fun t => t.dev = d) ∧
    (Gives (.streamCmd id) s fun t => stays t ∧ t.dev.dict.abort = 0 ∧ t.dev.sec.trust = x.trust ∧ ∀ j : Fin 16, t.dev.sec.streams[j] =
      if id = 0xFFFFFFFF ∨ x.streams[j].any (fun y => y.id == id.toNat) = true then none else x.streams[j]) ∧
    (d.offerBarred = false → Gives (.sessCmdOffer bulk) s fun t => t.dev.sec.sess = .offered ∧ t.dev.sec.offerTick = d.tick ∧
      t.dev.sec.sessNo = x.sessNo + 1 ∧ t.dev.dict.abort = 0 ∧ t.dev.sec.trust = x.trust ∧ t.dev.mem = d.mem ∧ stays t) ∧
    (d.offerBarred = true → denied (.sessCmdOffer bulk) 0x08000022) ∧
    (x.sess ≠ .closed → Gives .sessCmdClose s fun t =>
      t.dev.sec = { x with sess := .closed, sessLink := 0xFF, sessRights := 0, sealKeys := [] } ∧
      t.dev.reg Obj.SESS_CLOSE_CAUSE = 1 ∧ t.dev.dict.abort = 0 ∧ stays t) ∧
    ((x.sess = .offered → ticksFrom x.offerTick d.tick ≤ 10000000 → Gives (.sessHostOffer offer bulk) s fun t =>
        (∀ r, d.offerRights offer = some r → t.dev.sec.sess = .opened ∧ t.dev.sec.sessLink = b2n bulk ∧ t.dev.sec.sessRights = r ∧
          t.dev.sec.sealSeq = 0 ∧ t.dev.sec.trust = x.trust ∧ t.dev.dict.abort = 0 ∧ stays t) ∧
        (d.offerRights offer = none → failed t)) ∧
      (x.sess ≠ .offered ∨ 10000000 < ticksFrom x.offerTick d.tick ∨ offer.length ≠ 404 → Gives (.sessHostOffer offer bulk) s failed)) ∧
    (x.sess = .offered →
      (10000000 ≤ ticksFrom x.offerTick d.tick → Gives .sessOfferTimeout s fun t => t.dev.sec = { x with sess := .closed } ∧ stays t) ∧
      (ticksFrom x.offerTick d.tick < 10000000 → Gives .sessOfferTimeout s fun t => t.dev = d)) ∧
    (64 ≤ fails → x.sess ≠ .closed → Gives .sealedFailureLimit s fun t =>
      t.dev.sec = { x with sess := .closed, sessLink := 0xFF, sessRights := 0, sealKeys := [], sealFails := [] } ∧
      t.dev.reg Obj.SESS_CLOSE_CAUSE = 3 ∧ stays t) ∧
    (fails < 64 → Gives .sealedFailureLimit s fun t => t.dev = d) ∧
    (nonce.length = 32 → x.life ≠ .blank → Gives (.attestNonce nonce) s fun t =>
      (t.dev.sec.attest.drop 88).take 32 = nonce ∧ t.dev.sec.attest.take 3 = [0x53, 0x41, 1] ∧ t.dev.dict.abort = 0 ∧
      t.dev.sec.trust = x.trust ∧ t.dev.mem = d.mem ∧ stays t) ∧
    (nonce.length ≠ 32 → denied (.attestNonce nonce) 0x06070010) ∧
    (nonce.length = 32 → x.life = .blank → denied (.attestNonce nonce) 0x08000022) ∧
    (x.drbgFail = false → Gives .drbgFailure s fun t => t.dev.sec.drbgFail = true ∧ t.dev.sec.trust = x.trust ∧ t.dev.sec.sess = x.sess ∧
      t.dev.sec.debug = x.debug ∧ t.dev.mem = d.mem ∧ t.dev.tick = d.tick)

/-- R454, R455, R457, R458, R459, R460: a debug request is granted at its commit, draws a nonce for D2 and D3, or is
refused; a nonce ends after 60 s; an accepted token grants D2, or holds or completes D3, which erases the memories; at
D2 a halt parks the channels it names, and resume and step act on halted ones; the TAP always offers BYPASS and IDCODE,
the boundary instructions where R460 offers them, and private ones at D2 on halted channels. -/
def Obligations.DebugLevelsHaltsAndTap : Prop :=
  ∀ (s : State) (v' : Verdict) (tok : DebugToken) (n : ChanId) (mask : Word64) (k : Fin 8) (r : Idx16) (v : Word48) (w : BitVec 6), s.live →
    s.dev.calm = true →
    let d := s.dev
    let x := d.sec
    let stays := fun (t : State) => t.dev.mem = d.mem ∧ t.dev.tick = d.tick ∧ t.dev.sec.trust = x.trust ∧ t.shown = t.dev
    let refused := fun (op : Instr) => Gives op s fun t =>
      t.dev.dict.abort = 0x08000022 ∧ t.dev.sec = { x with dbgPend := 0 } ∧ t.dev.chans = d.chans ∧ stays t
    let level := fun (op : Instr) (l : Nat) => Gives op s fun t => t.dev.sec.debug = l ∧ t.dev.sec.dbgPend = 0 ∧ t.dev.dict.abort = 0 ∧
      (∀ m, (t.dev.ch m).force = (d.ch m).force ∧ (t.dev.ch m).bk = (d.ch m).bk ∧
        (x.debug = 2 → (t.dev.ch m).eng.resume = (d.ch m).eng.halted ∧ (t.dev.ch m).eng.haltPend = false)) ∧ stays t
    let draws := fun (op : Instr) (l : Nat) => Gives op s fun t => t.dev.sec.dbgPend = l ∧ t.dev.sec.dbgTick = d.tick ∧
      t.dev.sec.draws = x.draws + 1 ∧ t.dev.sec.debug = x.debug ∧ t.dev.dict.abort = 0 ∧ t.dev.chans = d.chans ∧ stays t
    let next := (x.passed.find? fun y => y.type == 0x12 && y.bulk == false).orElse fun _ =>
      x.passed.find? fun y => y.type == 0x12 && y.bulk == true
    let arrived := next = some v' ∧ d.readToken v' = some tok
    let left := x.passed.erase v'
    let code := d.tokenCode tok
    let erased := fun (t : State) => t.dev.sec.debug = 3 ∧ t.dev.sec.dbgPend = 0 ∧ t.dev.sec.d3Count = x.d3Count + 1 ∧ t.dev.sec.life = x.life ∧ t.dev.sec.recErased = true ∧
      t.dev.sec.slots = x.slots ∧ t.dev.sec.arb = x.arb ∧ t.dev.sec.sess = .closed ∧ t.dev.mem.ledger = [] ∧ t.dev.mem.dir = [] ∧
      t.dev.mem.progs = [] ∧ t.dev.mem.sets = [] ∧ t.dev.mem.scr = [] ∧ t.dev.fifo.entries = []
    let no := fun (op : Instr) => Gives op s fun t => t.dev.dict.abort = 0x08000022 ∧ t.dev.sec = x ∧ t.dev.chans = d.chans ∧ stays t
    let tap := fun (op : Instr) (ir scan : Nat) => Gives op s fun t => t.dev.sec.tapIr = ir ∧ t.dev.sec.bscan = scan ∧
      t.dev.sec.debug = x.debug ∧ t.dev.chans = d.chans ∧ t.dev.regs = d.regs ∧ stays t
    let out := fun (op : Instr) (ir : Nat) (l : List Byte) => Gives op s fun t =>
      t.dev.sec = { x with tapIr := ir, tapOut := .bytes l, tapRelease := x.tapRelease || x.bscan == 2, bscan := 0 } ∧
      t.dev.chans = d.chans ∧ t.dev.regs = d.regs ∧ stays t
    let halted := (d.ch n).eng.halted
    (x.life ≠ .blank →
      ((x.debug = 1 ∨ x.debug = 2) → level .debugReqD0 0) ∧ (x.debug = 0 ∨ x.debug = 3 → refused .debugReqD0) ∧
      ((x.debug = 0 ∨ x.debug = 2) → natBit d.policy 2 = true → level .debugReqD1 1) ∧
      (natBit d.policy 2 = false → refused .debugReqD1) ∧
      (d.d2Allowed = true → x.drbgFail = false → draws .debugReqD2 2) ∧ (d.d2Allowed = false → refused .debugReqD2) ∧
      (d.d3Allowed = true → x.drbgFail = false → draws .debugReqD3 3) ∧ (d.d3Allowed = false → refused .debugReqD3)) ∧
    (x.life = .blank → refused .debugReqD0 ∧ refused .debugReqD1 ∧ refused .debugReqD2 ∧ refused .debugReqD3) ∧
    (x.dbgPend ≠ 0 → 60000000 ≤ ticksFrom x.dbgTick d.tick → Gives .debugNonceExpiry s fun t =>
      t.dev.sec = { x with dbgPend := 0 } ∧ t.dev.chans = d.chans ∧ stays t) ∧
    (ticksFrom x.dbgTick d.tick < 60000000 → Gives .debugNonceExpiry s fun t => t.dev = d) ∧
    (tok.level = 2 → tok.nonceOk = true → tok.vendor = true → x.life = .vendor → x.dbgPend = 2 →
      ticksFrom x.dbgTick d.tick ≤ 60000000 → d.d2Allowed = true → code = 0) ∧
    (tok.level = 2 → x.life = .vendor → tok.vendor = true → tok.nonceOk = false → code = 0xC) ∧
    (arrived → code ≠ 0 → Gives .debugToken s fun t => t.dev.dict.abort = 0x08000021 ∧ t.dev.reg Obj.CONT_RESULT = code ∧
      t.dev.sec = { x with passed := left } ∧ t.dev.chans = d.chans ∧ stays t) ∧
    (next = some v' → v'.body.length ≠ 36 → Gives .debugToken s fun t => t.dev.dict.abort = 0x08000021 ∧ t.dev.reg Obj.CONT_RESULT = 1 ∧
      t.dev.sec = { x with passed := left } ∧ t.dev.chans = d.chans ∧ stays t) ∧
    (next = none → Gives .debugToken s fun t => t.dev = d) ∧
    (arrived → code = 0 → tok.level = 2 → Gives .debugToken s fun t =>
      t.dev.sec.debug = 2 ∧ t.dev.sec.dbgPend = 0 ∧ t.dev.reg Obj.CONT_RESULT = 0 ∧ t.dev.chans = d.chans ∧ stays t) ∧
    (arrived → code = 0 → tok.level = 3 →
      (x.life ≠ .owned → Gives .debugToken s erased) ∧
      (x.life = .owned → x.dbgPend = 3 → Gives .debugToken s fun t =>
        t.dev.sec = { x with passed := left, dbgPend := if tok.vendor then 0x23 else 0x13 } ∧ t.dev.chans = d.chans ∧ stays t) ∧
      (x.life = .owned → x.dbgPend = (if tok.vendor then 0x13 else 0x23) → Gives .debugToken s erased)) ∧
    (x.debug = 2 → (∀ m, d.role m = 0) → (∀ m, (d.ch m).force.st ≠ .arming) → d.sysActive = false → d.armBack = none →
      Gives (.dbgHaltReq (BitVec.twoPow 64 n.val)) s fun t =>
        (t.dev.ch n).eng.haltPend = !halted ∧ ((d.ch n).force.st = .armed → (t.dev.ch n).force.st = .parking) ∧
        ((d.ch n).force.st = .parked → (t.dev.ch n).force = (d.ch n).force) ∧
        (∀ m, m ≠ n → (t.dev.ch m).force = (d.ch m).force ∧ (t.dev.ch m).eng.haltPend = (d.ch m).eng.haltPend) ∧ t.dev.tick = d.tick) ∧
    (x.debug = 2 → Gives (.dbgResume mask) s (fun t => t.dev.dict.abort = 0 ∧ t.dev.sec = x ∧ stays t ∧
        ∀ m, t.dev.ch m = if bit mask m.val then (d.ch m).modEng fun e => { e with resume := e.halted } else d.ch m) ∧
      ((∀ m : ChanId, bit mask m.val = true → (d.ch m).eng.halted = true) → Gives (.dbgStep mask) s fun t =>
        t.dev.dict.abort = 0 ∧ t.dev.sec = x ∧ stays t ∧
        ∀ m, t.dev.ch m = if bit mask m.val then (d.ch m).modEng fun e => { e with step := true } else d.ch m) ∧
      (bit mask n.val = true → halted = false → no (.dbgStep mask))) ∧
    (x.debug ≠ 2 →
      no (.dbgHaltReq mask) ∧ no (.dbgResume mask) ∧ no (.dbgStep mask)) ∧
    out .tapBypass 0 [0] ∧ out .tapIdcode 1 (leBytes 4 idcode) ∧ out .tapReset 1 (leBytes 4 idcode) ∧
    (natBits idcode 27 12 = 0x6420 ∧ natBit idcode 0 = true ∧ idcode < 2 ^ 32) ∧
    (d.bscanOffered = true → tap .tapSamplePreload 2 0 ∧ tap .tapExtest 3 2) ∧
    (d.bscanOffered = false → out .tapSamplePreload 0 [0] ∧ out .tapExtest 0 [0]) ∧
    (x.debug = 2 → halted = true →
      out (.tapPrivateInstruction (.readReg n k r)) 4 (leBytes 6 ((d.engine n k).regs[r]).toNat) ∧
      out (.tapPrivateInstruction (.readPriv n k w)) 4 (leBytes 8 (d.scr (stallOf n) (privAddr n k w)).toNat) ∧
      Gives (.tapPrivateInstruction (.writeReg n k r v)) s (fun t => (t.dev.engine n k).regs = (d.engine n k).regs.set r v ∧
        (∀ m, m ≠ n → t.dev.ch m = d.ch m) ∧ (t.dev.ch n).force = (d.ch n).force ∧ stays t)) ∧
    (x.debug ≠ 2 → out (.tapPrivateInstruction (.readReg n k r)) 0 [0] ∧ out (.tapPrivateInstruction (.writeReg n k r v)) 0 [0])

/-- R467, R468, R469, R470, R471, R476, R477, R479, R26, R481: power-good samples the straps and begins phase 1; the bus
starts, comes into regulation and lets the stalls become ready; a fuse phase with a failed trust core stays; the image
of the active slot, the other slot or none is applied; the retained state gives its session and counts the boot; release
begins tick 0 PARKED or QUIET; loss of VBUS opens every disconnect, leaves the marker and ends the release; loss of the
bus waits as F4. -/
def Obligations.StartUpPhases : Prop :=
  ∀ (s : State) (strap : BitVec 6) (ecMode : BitVec 2) (st : StallId) (trustOk : Bool) (time : BitVec 16) (img : FlashRead) (r : RetainedResult)
    (z : Dev) (c c' : Nat) (cyc : Cycle),
    let d := s.dev
    let p := d.power
    let keeps := fun (t : State) => t.dev.sec.trust = d.sec.trust ∧ t.shown = t.dev
    let same := fun (t : State) => t.dev.chans = d.chans ∧ t.dev.mem = d.mem ∧ keeps t
    let pow := fun (t : State) (x : Power) => t.dev.power = x ∧ same t
    let f := p.flash.getD img.flash
    let act : Nat := ((flashDir f).map (·.active)).getD 0
    let a : Fin 2 := if act = 1 then 1 else 0
    let b : Fin 2 := if act = 1 then 0 else 1
    let read := (((d.setReg Obj.T_IMAGE time.toNat).setReg Obj.FLASH_ID img.flashId.toNat).setReg Obj.FLASH_SIZE img.flashMib.toNat).modPower fun y => { y with phase := 3 }
    let e := (read.setReg Obj.NEXT_SLOT act).modPower fun y => { y with flash := some f, dirActive := act }
    let ver := fun (k : Fin 2) => if k.val = 0 then Obj.SLOT_A_VER else Obj.SLOT_B_VER
    let found := fun (t : State) => t.dev.power = { p with phase := 3, flash := some f, dirActive := act } ∧ t.dev.reg Obj.NEXT_SLOT = act
    let runs := fun (t : State) (z : Dev) (k : Fin 2) => t.dev.reg Obj.ACTIVE_SLOT = k.val ∧ t.dev.reg Obj.IMAGE_VER = z.reg Obj.IMAGE_VER ∧
      t.dev.reg (ver k) = z.reg Obj.IMAGE_VER ∧ t.dev.mem = z.mem ∧ t.dev.chans = z.chans ∧ t.shown = t.dev
    let ready := within 32 256 img.flashMib.toNat = true ∧ img.sfdpOk = true
    (p.state = .off → Gives (.powerGood strap ecMode) s fun t => t.dev.power.state = .boot ∧ t.dev.power.phase = 1 ∧
      t.dev.power.strap = strap ∧ t.dev.power.ecMode = ecMode ∧ t.dev.power.fltN = true ∧ t.dev.power.released = false ∧
      t.dev.power.marker = p.marker ∧ t.dev.reg Obj.BUS_STATE = 1 ∧ t.dev.reg Obj.BUS_DELAY = strap.toNat ∧
      t.dev.reg Obj.EC_PORT_MODE = ecMode.toNat ∧ (∀ n, (t.dev.ch n).force.st = .parked ∧ (t.dev.ch n).force.disc = false) ∧
      t.dev.sec.debug = 0 ∧ t.dev.sec.sess = .closed ∧ keeps t) ∧
    (p.state ≠ .off → Gives (.powerGood strap ecMode) s fun t => t.dev = d) ∧
    (d.reg Obj.BUS_STATE = 1 → Gives .busStart s fun t => t.dev.reg Obj.BUS_STATE = 2 ∧ pow t p) ∧
    (d.reg Obj.BUS_STATE ≠ 1 → Gives .busStart s fun t => t.dev = d) ∧
    (d.reg Obj.BUS_STATE = 2 → Gives .busInRegulation s fun t => t.dev.reg Obj.BUS_STATE = 3 ∧ pow t { p with pgOut := true }) ∧
    (d.reg Obj.BUS_STATE = 3 → p.state = .boot → d.reg Obj.ANALOG_STATE < 256 → Gives (.stallAnalogReady st) s fun t =>
      (∀ j, j < 8 → natBit (t.dev.reg Obj.ANALOG_STATE) j = (natBit (d.reg Obj.ANALOG_STATE) j || j == st.val)) ∧
      pow t { p with analogUp := t.dev.reg Obj.ANALOG_STATE == 0xFF }) ∧
    (p.state = .boot →
      (p.phase = 1 → Gives (.fusePhase trustOk time) s fun t => t.dev.reg Obj.T_FUSE = time.toNat ∧
        pow t { p with trustOk := trustOk, phase := if trustOk = true ∧ d.sec.life ≠ .blank then 2 else 1 }) ∧
      (p.phase = 2 → ready → Gives (.configMemoryPhase img time) s fun t => found t ∧
        (e.useSlot f a = .ok z → t.dev.reg Obj.IMAGE_STATE = 0 ∧ t.dev.flt = z.flt ∧ runs t z a) ∧
        (e.useSlot f a = .error c → (e.noteSlot a (.error c)).useSlot f b = .ok z → t.dev.reg Obj.IMAGE_STATE = 1 ∧ runs t z b ∧
          t.dev.flt.due = z.flt.due ++ [(z.tick, ⟨0x0B03, 1, .device, 0xFF, c * 256 + a.val, z.tick, 0⟩)]) ∧
        (e.useSlot f a = .error c → (e.noteSlot a (.error c)).useSlot f b = .error c' → t.dev.reg Obj.IMAGE_STATE = 2 ∧
          t.dev.reg (ver a) = 0 ∧ t.dev.reg (ver b) = 0 ∧ t.dev.reg Obj.IMAGE_FAIL = c' * 256 + b.val ∧
          t.dev.flt.due = d.flt.due ++ [(d.tick, ⟨0x0B04, 4, .device, 0xFF, 0, d.tick, 0⟩)] ∧ same t)) ∧
      (p.phase = 2 → ¬ ready → Gives (.configMemoryPhase img time) s fun t => t.dev.reg Obj.IMAGE_STATE = 3 ∧
        t.dev.flt.due = d.flt.due ++ [(d.tick, ⟨0x0B04, 4, .device, 0xFF, 0, d.tick, 0⟩)] ∧ pow t { p with phase := 3 }) ∧
      (p.phase = 3 → r.mramOk = true → r.records = [] → d.dict.records = [] → Gives (.retainedStatePhase r time) s fun t =>
        t.dev.power.phase = 4 ∧ t.dev.power.mramFail = false ∧
        t.dev.fifo.session = (if d.fifo.session = 0 then r.session.toNat else d.fifo.session) ∧
        t.dev.reg Obj.BOOT_COUNT = bump 32 (if d.reg Obj.BOOT_COUNT = 0 then r.boots.toNat else d.reg Obj.BOOT_COUNT) ∧
        t.dev.reg Obj.LAST_SHUTDOWN = d.markerRead r ∧ t.dev.power.marker = 0 ∧ t.dev.mem.ledger = d.mem.ledger ∧ keeps t) ∧
      (p.phase = 3 → r.mramOk = false → Gives (.retainedStatePhase r time) s fun t => t.dev.power.phase = 4 ∧
        t.dev.power.mramFail = true ∧ t.dev.mem.ledger = d.mem.ledger ∧ keeps t) ∧
      (p.phase = 4 → p.analogUp = true → p.trustOk = true → d.allParked = true → d.reg Obj.QUIET_REQ = 0 → d.flt.due = [] →
        Gives (.release time) s fun t => t.dev.tick = 0 ∧ t.dev.power.released = true ∧
          t.dev.power.state = (if d.reg Obj.BOOT_QUIET = 1 then .quiet else .parked) ∧
          t.dev.reg Obj.QUIET_REQ = (if d.reg Obj.BOOT_QUIET = 1 then 1 else 0) ∧
          t.dev.fifo.session = (if d.sec.life = .retired ∨ d.sec.drbgFail = true then d.fifo.session else d.fifo.session + 1) ∧
          t.dev.mem = d.mem ∧ keeps t) ∧
      (p.analogUp = false → Gives (.release time) s fun t => t.dev = d)) ∧
    (p.state ≠ .off → Gives .powerLoss s fun t => t.dev.power.state = .off ∧ t.dev.power.released = false ∧
      t.dev.power.pgOut = false ∧ t.dev.power.fltN = true ∧ t.dev.reg Obj.BUS_STATE = 0 ∧ t.dev.sec.trust = d.sec.trust ∧
      (p.released = true → t.dev.power.marker = (if d.allParked = true ∨ p.state = .quiet then 1 else 2) ∧
        ∀ n, (t.dev.ch n).force.disc = false)) ∧
    (p.state = .off → Gives .powerLoss s fun t => t.dev = d) ∧
    (p.released = true → d.fab.atCommit = false → d.reg Obj.BUS_STATE = 3 → Gives (.busFail cyc) s fun t => t.dev.reg Obj.BUS_STATE = 4 ∧
      t.dev.power = { p with pgOut := false } ∧ t.dev.chans = d.chans ∧ t.dev.mem = d.mem ∧
      t.dev.flt.due = d.flt.due ++ [(if cyc.val < 495 then d.tick + 1 else d.tick + 2, ⟨0x020B, 4, .device, 0xFF, 0, d.tick, 0⟩)] ∧
      t.shown = s.shown) ∧
    (d.reg Obj.BUS_STATE ≠ 3 → p.released = true → d.fab.atCommit = false → Gives (.busFail cyc) s fun t => t = s)

/-- R465, R480, R482, R478: QUIET_REQ is accepted only with every channel PARKED, no self-test and no system calibration,
turns the analog circuits off, and its end starts them again; REBOOT_CMD takes "boot" in PARKED or QUIET, outside D3 and
without loads and record writes, begins phase 1 and keeps locks, links and trust; a self-test begins on PARKED stalls,
and its result shows and raises F3 on a failure; an image update that passed R440 goes to the other slot, and IMAGE_CMD
1 names that slot where its image passes; a refused image leaves its code. -/
def Obligations.QuietRebootSelfTestAndImages : Prop :=
  ∀ (s : State) (v : BitVec 32) (mask : BitVec 8) (st : StallId) (result : BitVec 32) (bulk readBack : Bool) (x : Verdict) (b : ImageBody) (c : Nat) (cmd : BitVec 8),
    s.live →
    s.dev.calm = true →
    let d := s.dev
    let p := d.power
    let keeps := fun (t : State) => t.dev.mem = d.mem ∧ t.dev.sec.trust = d.sec.trust ∧ t.shown = t.dev
    let refused := fun (op : Instr) (code : Nat) => Gives op s fun t =>
      t.dev.dict.abort = code ∧ t.dev.power = p ∧ t.dev.stalls = d.stalls ∧ t.dev.tick = d.tick ∧ keeps t
    let testing := d.stalls.toList.any (·.underTest)
    let other : Fin 2 := if p.dirActive = 0 then 1 else 0
    let f := p.flash.getD ⟨[], [], []⟩
    let ver := if other.val = 0 then Obj.SLOT_A_VER else Obj.SLOT_B_VER
    let got := if other.val = 0 then { f with slotA := x.box } else { f with slotB := x.box }
    let e := { d with sec := { d.sec with passed := d.sec.passed.erase x } }.setReg Obj.UPDATE_STATE 0
    let moved := fun (t : State) (g : Flash) (n : Nat) => t.dev.reg Obj.NEXT_SLOT = other.val ∧ t.dev.reg ver = n ∧
      t.dev.power = { p with flash := some (flashActivate g other (flashBox g 0).length (flashBox g 1).length), dirActive := other.val }
    let notes := fun (t : State) (c : Nat) => t.dev.power = p ∧ t.dev.reg ver = 0 ∧ t.dev.reg Obj.IMAGE_FAIL = c * 256 + other.val
    (d.allParked = true → testing = false → d.sysActive = false → Gives .quietEnter s fun t => t.dev.reg Obj.QUIET_REQ = 1 ∧
      t.dev.reg Obj.ANALOG_STATE = 0 ∧ t.dev.power.analogUp = false ∧ t.dev.power.state = .quiet ∧ t.dev.dict.abort = 0 ∧
      (∀ n, (t.dev.ch n).force = (d.ch n).force) ∧ t.dev.tick = d.tick ∧ keeps t) ∧
    (d.allParked = false ∨ testing = true ∨ d.sysActive = true → Gives .quietEnter s fun t => t.dev.dict.abort = 0x08000022 ∧
      t.dev.reg Obj.QUIET_REQ = d.reg Obj.QUIET_REQ ∧ t.dev.power.analogUp = p.analogUp ∧ t.dev.chans = d.chans ∧ keeps t) ∧
    (p.state = .quiet → Gives .quietExit s fun t => t.dev.reg Obj.QUIET_REQ = 0 ∧ t.dev.dict.abort = 0 ∧ t.dev.power = p ∧
      t.dev.chans = d.chans ∧ keeps t) ∧
    (p.state ≠ .quiet → Gives .quietExit s fun t => t = s.atCommit d.accept) ∧
    (p.state = .quiet → d.reg Obj.QUIET_REQ = 0 → d.allParked = true → Gives .analogPowerUpDone s fun t =>
      t.dev.reg Obj.ANALOG_STATE = 0xFF ∧ t.dev.power = { p with analogUp := true, state := .parked } ∧ t.dev.chans = d.chans ∧ keeps t) ∧
    (p.state ≠ .quiet → Gives .analogPowerUpDone s fun t => t.dev = d) ∧
    (v ≠ 0x746F6F62 → refused (.rebootCmd v) 0x06090030) ∧
    (p.state ≠ .parked → p.state ≠ .quiet → refused (.rebootCmd 0x746F6F62) 0x08000022) ∧
    (d.sec.debug = 3 ∨ d.loadBusy = true ∨ d.load.claims ≠ [] ∨ 0 < d.pcie.load.waiting ∨ d.dict.retains ≠ [] ∨ d.sysActive = true → refused (.rebootCmd 0x746F6F62) 0x08000022) ∧
    (p.state = .parked ∨ p.state = .quiet → d.sec.debug ≠ 3 → d.loadBusy = false → d.load.claims = [] → d.pcie.load.waiting = 0 → d.dict.retains = [] →
      d.sysActive = false → Gives (.rebootCmd 0x746F6F62) s fun t => t.dev.power.state = .boot ∧ t.dev.power.phase = 1 ∧
        t.dev.power.released = false ∧ t.dev.power.marker = 3 ∧ t.dev.power.strap = p.strap ∧ t.dev.reg Obj.BOOT_CAUSE = 1 ∧
        t.dev.reg Obj.EC_LINK = d.reg Obj.EC_LINK ∧ t.dev.reg Obj.BUS_STATE = d.reg Obj.BUS_STATE ∧ t.dev.ec.esm = .init ∧
        t.dev.fab.locks = d.fab.locks ∧ t.dev.sec.trust = d.sec.trust ∧ t.dev.sec.sess = .closed ∧ t.dev.sec.debug = 0 ∧
        t.dev.fifo.entries = [] ∧ t.dev.dict.records = d.dict.records ∧ t.dev.power.analogUp = (p.state != .quiet && p.analogUp)) ∧
    (p.state ≠ .quiet → testing = false → (List.finRange 8).all (fun x => !natBit mask.toNat x.val || d.stallParked x) = true →
      Gives (.selftestCmd mask) s fun t => (∀ x, (t.dev.st x).underTest = natBit mask.toNat x.val) ∧ t.dev.power.selfTick = d.tick ∧
        t.dev.dict.abort = 0 ∧ t.dev.chans = d.chans ∧ (∀ a, a ≠ Obj.LAST_WRITE_TICK → t.dev.reg a = d.reg a) ∧ keeps t) ∧
    (p.state = .quiet ∨ testing = true → refused (.selftestCmd mask) 0x08000022) ∧
    ((d.st st).underTest = true → natBits result.toNat 25 16 = 0 → Gives (.selftestDone st result) s fun t =>
      (t.dev.st st).underTest = false ∧ (t.dev.st st).selfPass = true ∧ t.dev.reg (Obj.SELFTEST_RESULT st.val) = result.toNat ∧
      t.dev.reg Obj.SELFTEST_TICK = d.tick.toNat ∧ t.dev.chans = d.chans ∧ t.dev.mem = d.mem) ∧
    ((d.st st).underTest = true → natBits result.toNat 25 16 ≠ 0 → d.flt.active = [] → d.flt.queue = [] → d.flt.escal = none →
      Gives (.selftestDone st result) s fun t =>
      (t.dev.st st).underTest = false ∧ (t.dev.st st).selfPass = false ∧ t.dev.reg (Obj.SELFTEST_RESULT st.val) = result.toNat ∧
      natBit (t.dev.reg Obj.SELFTEST_FAIL) st.val = true ∧ (t.dev.st st).f3 ≠ [] ∧ t.dev.tick = d.tick) ∧
    ((d.st st).underTest = false → Gives (.selftestDone st result) s fun t => t.dev = d) ∧
    ((d.sec.passed.find? fun y => y.type == 5 && y.bulk == bulk) = some x → Gives (.imageUpdate bulk readBack) s fun t =>
      t.dev.reg Obj.UPDATE_STATE = 0 ∧ t.dev.sec.passed = d.sec.passed.erase x ∧ t.dev.chans = d.chans ∧ t.dev.tick = d.tick ∧ keeps t ∧
      (e.imageOf x.box = .ok b →
        (e.sectionsOk b = true → readBack = true →
          t.dev.power = { p with flash := some (flashActivate got other (if other.val = 0 then x.box.length else (flashBox f 0).length) (if other.val = 0 then (flashBox f 1).length else x.box.length)), dirActive := other.val } ∧
          t.dev.reg Obj.NEXT_SLOT = other.val ∧ t.dev.reg ver = b.version ∧ t.dev.flt.violSeq = d.flt.violSeq) ∧
        (e.sectionsOk b = false ∨ readBack = false → t.dev.power = p ∧ t.dev.flt.violSeq = d.flt.violSeq + 1)) ∧
      (e.imageOf x.box = .error c → notes t c ∧ t.dev.flt.violSeq = d.flt.violSeq + 1)) ∧
    ((d.sec.passed.find? fun y => y.type == 5 && y.bulk == bulk) = none → Gives (.imageUpdate bulk readBack) s fun t => t.dev = d) ∧
    (Gives (.imageCmd 1) s fun t => t.dev.chans = d.chans ∧ t.dev.tick = d.tick ∧ keeps t ∧
      (d.imageOf (flashBox f other) = .ok b → (d.sectionsOk b = true → moved t f b.version ∧ t.dev.dict.abort = 0) ∧
        (d.sectionsOk b = false → t.dev.power = p ∧ t.dev.dict.abort = 0x08000022)) ∧
      (d.imageOf (flashBox f other) = .error c → notes t c ∧ t.dev.dict.abort = 0x08000022)) ∧
    (cmd ≠ 1 → refused (.imageCmd cmd) 0x06090030)

/-- R377, R375, R378, R384, R387, R399, R372, R449: a write that fails at receipt or by the PARKED scope is refused with its
abort code; a plain write gives its object the value and changes no other; a record that is written answers, and one
that fails counts and returns its object at the next commit; STORE_PARAMS takes "save" and RESTORE_DEFAULTS takes "load"
while PARKED; RESTORE_QUERY gives the outcome; SDO Information answers with the dictionary; a sealed request needs its
session, tag and SEQ, and else changes nothing. -/
def Obligations.ObjectsRecordsAndSealedRequests : Prop :=
  ∀ (s : State) (idx record : BitVec 16) (sub : BitVec 8) (len value a : Nat) (v : BitVec 32) (word : Word64) (w : RetainWrite)
    (req : List Byte)
    (bulk : Bool) (seq : Nat), s.live → s.dev.calm = true →
    let d := s.dev
    let x := d.dict
    let stays := fun (t : State) => t.dev.chans = d.chans ∧ t.dev.mem = d.mem ∧ t.dev.tick = d.tick ∧ t.dev.power = d.power ∧
      t.dev.sec.trust = d.sec.trust
    let refused := fun (op : Instr) (code : Nat) => Gives op s fun t =>
      t.dev.dict.abort = code ∧ t.dev.dict.retains = x.retains ∧ t.dev.flt.violSeq = d.flt.violSeq + 1 ∧
      (a ≠ Obj.VLOG_LOST → a ≠ Obj.SESS_FAILS → t.dev.reg a = d.reg a) ∧ stays t
    let named := x.source ≠ 1
    let code := d.receipt false false idx.toNat sub.toNat len value
    (code ≠ 0 → refused (.objectWrite idx sub len value) code) ∧
    (d.missing 0x2104 5 = 0 → d.ec.esm ≠ .op → d.wrote.contains (64, Obj.ARM_MASK) = false →
      Gives (.objectWrite 0x2104 5 8 word.toNat) s fun t =>
        t.dev.reg a = (if a = Obj.ARM_MASK then word.toNat else if a = Obj.LAST_WRITE_TICK ∧ named then d.tick.toNat else d.reg a) ∧ t.dev.dict.abort = 0 ∧ t.dev.flt = d.flt ∧ stays t) ∧
    (d.missing 0x2101 1 = 0 → d.ec.esm ≠ .op → d.wrote.contains (64, Obj.SYNC_ROLE) = false → d.allParked = false →
      refused (.objectWrite 0x2101 1 1 2) 0x08000022) ∧
    (x.retains = [w] → w.record = record.toNat → w.source = 0 →
      Gives (.retainRecordWritten record true) s (fun t => t.dev.dict.retains = [] ∧
        sget [] t.dev.dict.records record.toNat = d.recordValues record.toNat ∧ t.dev.dict.abort = 0 ∧
        t.dev.reg Obj.RETAIN_WRITES = bump 32 (d.reg Obj.RETAIN_WRITES) ∧
        t.dev.reg Obj.RETAIN_FAILS = d.reg Obj.RETAIN_FAILS ∧
        (w.record = 0x300 → t.dev.sec.recErased = false) ∧ stays t) ∧
      Gives (.retainRecordWritten record false) s fun t => t.dev.dict.retains = [] ∧ t.dev.dict.records = x.records ∧
        t.dev.dict.abort = 0x08000020 ∧ t.dev.reg Obj.RETAIN_FAILS = bump 32 (d.reg Obj.RETAIN_FAILS) ∧
        t.dev.dict.writes.length = x.writes.length + 1 ∧
        t.dev.dict.writes.any (fun y => y.act == d.tick + 1 && y.req == .revert w.idx w.sub w.old) = true ∧ t.dev.mem = d.mem) ∧
    (x.retains = [] → Gives (.retainRecordWritten record true) s fun t => t.dev = d) ∧
    (Gives (.storeParams 0x65766173) s fun t => t = s.atCommit d.accept) ∧
    (v ≠ 0x65766173 → refused (.storeParams v) 0x06090030) ∧
    (d.allParked = true → Gives (.restoreDefaults 0x64616F6C) s fun t =>
      t = s.atCommit (d.accept.modPower fun p => { p with loadDefaults := true })) ∧
    (d.allParked = true → v ≠ 0x64616F6C → refused (.restoreDefaults v) 0x06090030) ∧
    (d.allParked = false → refused (.restoreDefaults v) 0x08000022) ∧
    (v.toNat % 256 = 0 → Gives (.restoreQuery v) s fun t =>
      t.dev.reg Obj.RESTORE_QUERY = v.toNat ∧ t.dev.dict.abort = 0 ∧ t.dev.reg Obj.RESTORE_RESULT = d.restoreResult v.toNat ∧
      (a ≠ Obj.RESTORE_QUERY → a ≠ Obj.RESTORE_RESULT → a ≠ Obj.LAST_WRITE_TICK → t.dev.reg a = d.reg a) ∧ stays t) ∧
    (s.inside → Gives .getOdList s fun t => t = s.inTick { d with dict :=
      { x with abort := 0, answer := 0, data := ((List.range 65536).filter fun i => s.shown.missing i 0 == 0).flatMap (leBytes 2) } }) ∧
    (s.inside → d.missing idx.toNat 0 = 0 → Gives (.getObjectDescription idx) s fun t =>
      t.dev.dict.data.take 2 = leBytes 2 idx.toNat ∧ t.dev.dict.data.getD 4 0 = BitVec.ofNat 8 (topOf idx.toNat) ∧ t.dev.dict.abort = 0 ∧
      t.dev.regs = d.regs ∧ stays t) ∧
    (s.inside → d.missing idx.toNat 0 ≠ 0 → refused (.getObjectDescription idx) (d.missing idx.toNat 0)) ∧
    (s.inside → d.missing idx.toNat sub.toNat = 0 → Gives (.getEntryDescription idx sub) s fun t =>
      t.dev.dict.data.take 4 = leBytes 2 idx.toNat ++ [BitVec.ofNat 8 sub.toNat, 0] ∧
      (rowOf idx.toNat sub.toNat).all (fun r => (t.dev.dict.data.drop 4).take 4 == leBytes 2 r.typeIndex ++ leBytes 2 r.bits) = true ∧ t.dev.dict.abort = 0 ∧ t.dev.regs = d.regs ∧ stays t) ∧
    (s.inside → d.missing idx.toNat sub.toNat ≠ 0 → refused (.getEntryDescription idx sub) (d.missing idx.toNat sub.toNat)) ∧
    (d.sec.sess ≠ .opened ∨ d.sec.sessLink ≠ b2n bulk → refused (.sealedIn req bulk) 0x08000022) ∧
    (d.sec.sess = .opened → d.sec.sessLink = b2n bulk →
      (req.length < 24 → refused (.sealedIn req bulk) 0x08000021) ∧
      Gives (.sealedIn req bulk) s fun t =>
        (d.openRequest req = none ∨ (d.openRequest req).any (fun y => y.1 != d.sec.sealSeq + 1) = true →
          t.dev.dict.abort = 0x08000021 ∧ t.dev.sec.sealSeq = d.sec.sealSeq ∧ t.dev.sec.sealedOut = d.sec.sealedOut ∧ stays t) ∧
        (d.openRequest req = some (seq, []) → seq = d.sec.sealSeq + 1 → t.dev.sec.sealSeq = seq ∧
          t.dev.sec.sealedOut = d.sealResponse seq [] ∧ t.dev.dict.abort = 0 ∧ t.dev.reg Obj.LAST_WRITE_TICK = d.tick.toNat ∧ stays t))

end
end

