-- ==== Sys2Proof/Laws/Engine.lean ====
section
/-! SUPPORT. Laws of the tick engines: what updating one channel, one engine or one register leaves, and what one
instruction does when its engine is ready. -/

namespace Sys2Proof.Machine

open Sys2Proof

theorem Vector.getF_set {α : Type} {n : Nat} (v : Vector α n) (i j : Fin n) (x : α) :
    (v.set i x)[j] = if j = i then x else v[j] := by
  simp only [Fin.getElem_fin]
  rw [Vector.getElem_set]
  by_cases h : j = i
  · simp [h]
  · have : (i : Nat) ≠ j := fun h2 => h (Fin.ext h2.symm)
    simp [h, this]

@[simp] theorem Dev.ch_modCh (d : Dev) (n m : ChanId) (f : Channel → Channel) :
    (d.modCh n f).ch m = if m = n then f (d.ch n) else d.ch m := Vector.getF_set ..

@[simp] theorem Dev.st_modSt (d : Dev) (n m : StallId) (f : Stall → Stall) :
    (d.modSt n f).st m = if m = n then f (d.st n) else d.st m := Vector.getF_set ..

theorem Dev.engine_modEngine (d : Dev) (n : ChanId) (k : Fin 8) (f : Engine → Engine) :
    (d.modCh n (·.modEngine k f)).engine n k = f (d.engine n k) := by
  unfold Dev.engine
  rw [Dev.ch_modCh, if_pos rfl]
  exact (Vector.getF_set ..).trans (if_pos rfl)

theorem Dev.modCh_modCh (d : Dev) (n : ChanId) (f g : Channel → Channel) :
    (d.modCh n f).modCh n g = d.modCh n fun c => g (f c) := by
  unfold Dev.modCh
  rw [show (d.setCh n (f (d.ch n))).ch n = f (d.ch n) from (Vector.getF_set ..).trans (if_pos rfl)]
  simp [Dev.setCh]

theorem Dev.modSt_modSt (d : Dev) (n : StallId) (f g : Stall → Stall) :
    (d.modSt n f).modSt n g = d.modSt n fun c => g (f c) := by
  unfold Dev.modSt
  rw [show (d.setSt n (f (d.st n))).st n = f (d.st n) from (Vector.getF_set ..).trans (if_pos rfl)]
  simp [Dev.setSt]

theorem Channel.modEngine_modEngine (c : Channel) (k : Fin 8) (f g : Engine → Engine) :
    (c.modEngine k f).modEngine k g = c.modEngine k fun e => g (f e) := by
  simp [Channel.modEngine]

/-- Inside a tick a state is sealed. -/
theorem State.sealed_inside (s : State) (h : s.inside) : s.sealed = s := by
  unfold State.sealed; simp [h.2]

/-- What a sealed commit leaves is inside the tick. -/
theorem State.sealed_atCommit (s : State) : s.sealed.dev.fab.atCommit = false := by
  unfold State.sealed
  split
  · rfl
  · next h => simpa using h

/-- A command inside a tick acts on the sealed commit. -/
theorem liveIn_sealed (s : State) (f : Dev → Dev) : liveIn s.sealed f = liveIn s f := by
  have h : s.sealed.sealed = s.sealed := by
    rw [State.sealed.eq_def s.sealed, if_neg]
    rw [State.sealed_atCommit]; simp
  unfold liveIn; rw [h]

/-- Everything that a command inside a tick can do. -/
theorem liveIn_next (s : State) (f : Dev → Dev) (h : s.inside) : liveIn s f = .next (s.inTick (f s.dev)) := by
  have h1 : s.dev.power.released = true := h.1
  unfold liveIn runIn
  rw [State.sealed_inside s h]
  simp [h1, State.inTick]

/-- Everything that a command at a commit can do. -/
theorem liveAt_next (s : State) (f : Dev → Dev) (h : s.live) : liveAt s f = .next (s.atCommit (f s.dev)) := by
  have h1 : s.dev.power.released = true := h
  unfold liveAt runAt
  simp [h1, State.atCommit]

/-- An instruction with no capability or range left to check, on a ready engine. -/
theorem engRun_next (s : State) (n : ChanId) (k : Fin 8) (cycles : Nat) (f : Dev → Dev)
    (h : s.engReady n k cycles) : (liveIn s fun d => d.engRun n k cycles true f) =
      .next (s.inTick ((f s.dev).modCh n (·.modEngine k fun e => { e with cyc := e.cyc + cycles }))) := by
  rw [liveIn_next s _ h.1]
  unfold Dev.engRun
  simp [h.2]

/-- A register instruction on a ready engine. -/
theorem engAlu_next (s : State) (n : ChanId) (k : Fin 8) (cycles : Nat) (f : Engine → Engine)
    (h : s.engReady n k cycles) : (liveIn s fun d => d.engAlu n k cycles true f) =
      .next (s.inTick (s.dev.modCh n (·.modEngine k fun e => { f e with cyc := (f e).cyc + cycles }))) := by
  unfold Dev.engAlu
  rw [engRun_next s n k cycles _ h, Dev.modCh_modCh]
  simp only [Channel.modEngine_modEngine]

/-- What an instruction that writes one register leaves. -/
theorem Engine.x_put (e : Engine) (d j : Idx16) (v : Int) :
    (e.put d v).x j = if j = d ∧ d ≠ 0 then wrap48 v else e.x j := by
  unfold Engine.put Engine.x
  by_cases hd : d.val = 0
  · have : d = 0 := Fin.ext hd
    simp [this]
  · have hd' : d ≠ 0 := fun h => hd (by rw [h]; rfl)
    simp only [hd, if_false, hd', ne_eq, not_false_eq_true, and_true]
    rw [Vector.getF_set]
    by_cases hj : j = d
    · subst hj; simp [hd, wrap48]
    · simp [hj]

@[simp] theorem Engine.put_acc0 (e : Engine) (d : Idx16) (v : Int) : (e.put d v).acc0 = e.acc0 := by
  unfold Engine.put; split <;> rfl
@[simp] theorem Engine.put_acc1 (e : Engine) (d : Idx16) (v : Int) : (e.put d v).acc1 = e.acc1 := by
  unfold Engine.put; split <;> rfl
@[simp] theorem Engine.put_sat (e : Engine) (d : Idx16) (v : Int) : (e.put d v).sat = e.sat := by
  unfold Engine.put; split <;> rfl
@[simp] theorem Engine.put_cyc (e : Engine) (d : Idx16) (v : Int) : (e.put d v).cyc = e.cyc := by
  unfold Engine.put; split <;> rfl

@[simp] theorem Engine.mark_false (e : Engine) : e.mark false = e := by
  cases e; simp [Engine.mark]

/-- An instruction of one engine writes one register, and nothing else but its flag and its cycles. -/
theorem engRun_writes (s : State) (c : Instr) (n : ChanId) (k : Fin 8) (cycles : Nat) (d : Idx16) (v : Int) (acted : Bool)
    (f : Dev → Dev) (h : s.engReady n k cycles) (hc : exec c s = liveIn s fun d => d.engRun n k cycles true f)
    (hf : f s.dev = s.dev.modCh n (·.modEngine k fun _ => ((s.dev.engine n k).put d v).mark acted)) :
    EngineWrites s c n k cycles d v acted := by
  refine ⟨_, hc.trans (engRun_next s n k cycles f h), ?_⟩
  have h0 : (f s.dev).modCh n (·.modEngine k fun e => { e with cyc := e.cyc + cycles }) =
      s.dev.modCh n (·.modEngine k fun _ =>
        { ((s.dev.engine n k).put d v).mark acted with cyc := (((s.dev.engine n k).put d v).mark acted).cyc + cycles }) := by
    rw [hf, Dev.modCh_modCh]
    simp only [Channel.modEngine_modEngine]
  rw [h0]
  simp only [EngineOnly, State.inTick, Dev.engine_modEngine]
  refine ⟨fun j => Engine.x_put _ d j v, ?_, ?_, ?_, ?_, trivial⟩
  · show (((s.dev.engine n k).put d v).sat || acted) = _
    rw [Engine.put_sat]
  · exact Engine.put_acc0 ..
  · exact Engine.put_acc1 ..
  · show ((s.dev.engine n k).put d v).cyc + cycles = _
    rw [Engine.put_cyc]

theorem engAlu_writes (s : State) (c : Instr) (n : ChanId) (k : Fin 8) (cycles : Nat) (d : Idx16) (v : Int) (acted : Bool)
    (f : Engine → Engine) (h : s.engReady n k cycles) (hc : exec c s = liveIn s fun d => d.engAlu n k cycles true f)
    (hf : f (s.dev.engine n k) = ((s.dev.engine n k).put d v).mark acted) : EngineWrites s c n k cycles d v acted :=
  engRun_writes s c n k cycles d v acted _ h hc (by rw [← hf]; rfl)

end Sys2Proof.Machine
end

