-- ==== Sys2Proof/Laws/Faults.lean ====
section
/-! SUPPORT. Laws of the fault manager: what settling the faults of a commit does when none waits for it. -/

namespace Sys2Proof.Machine

open Sys2Proof

/-- A class with nothing waiting and nothing presented has no handling. -/
theorem Dev.presentClass_nil (d : Dev) (cls : Nat) (hq : d.flt.queue = []) (he : d.flt.escal = none) :
    d.presentClass cls [] = d := by
  unfold Dev.presentClass Dev.queuedFor Dev.escalFor
  simp [hq, he]

theorem foldl_presentClass_nil (l : List Nat) (d : Dev) (hq : d.flt.queue = []) (he : d.flt.escal = none) :
    l.foldl (fun d c => d.presentClass c []) d = d := by
  induction l with
  | nil => rfl
  | cons c l ih => rw [List.foldl_cons, d.presentClass_nil c hq he]; exact ih

/-- What waits begins: nothing, where the queue is empty. -/
theorem Dev.beginQueued_empty (d : Dev) (hq : d.flt.queue = []) (he : d.flt.escal = none) : d.beginQueued = d :=
  foldl_presentClass_nil _ d hq he

theorem Dev.calm_iff (d : Dev) : d.calm = true ↔
    (∀ x ∈ d.flt.due, reached d.tick x.1 = false) ∧ d.flt.queue = [] ∧ d.flt.escal = none := by
  simp [Dev.calm, and_assoc]

/-- With no fault due or waiting, presenting changes nothing. -/
theorem Dev.presentDue_calm (d : Dev) (h : d.calm = true) : d.presentDue = d := by
  obtain ⟨h0, hq, he⟩ := d.calm_iff.1 h
  have h1 : (d.flt.due.filter fun x => reached d.tick x.1) = [] := by
    rw [List.filter_eq_nil_iff]
    intro x hx
    simp [h0 x hx]
  have h2 : (d.flt.due.filter fun x => !reached d.tick x.1) = d.flt.due :=
    List.filter_eq_self.2 fun x hx => by simp [h0 x hx]
  unfold Dev.presentDue
  rw [h1, h2]
  simp only [List.map_nil, List.filter_nil]
  exact foldl_presentClass_nil _ d hq he

theorem Dev.present_calm (d : Dev) (h : d.calm = true) : d.present = d := by
  unfold Dev.present
  rw [d.presentDue_calm h, d.presentDue_calm h]

/-- What settling the faults of a calm module changes: FLT_N and the MKO pins. -/
theorem Dev.settleFaults_calm (d : Dev) (h : d.calm = true) :
    d.settleFaults = { d with power := { d.power with fltN := d.settleFaults.power.fltN }, fab := d.settleFaults.fab } := by
  unfold Dev.settleFaults Dev.mkoLands
  rw [d.present_calm h]

@[simp] theorem Dev.settleFaults_chans (d : Dev) (h : d.calm = true) : d.settleFaults.chans = d.chans := by
  rw [d.settleFaults_calm h]
@[simp] theorem Dev.settleFaults_stalls (d : Dev) (h : d.calm = true) : d.settleFaults.stalls = d.stalls := by
  rw [d.settleFaults_calm h]
@[simp] theorem Dev.settleFaults_regs (d : Dev) (h : d.calm = true) : d.settleFaults.regs = d.regs := by
  rw [d.settleFaults_calm h]
@[simp] theorem Dev.settleFaults_flt (d : Dev) (h : d.calm = true) : d.settleFaults.flt = d.flt := by
  rw [d.settleFaults_calm h]
@[simp] theorem Dev.settleFaults_sync (d : Dev) (h : d.calm = true) : d.settleFaults.sync = d.sync := by
  rw [d.settleFaults_calm h]
@[simp] theorem Dev.settleFaults_dict (d : Dev) (h : d.calm = true) : d.settleFaults.dict = d.dict := by
  rw [d.settleFaults_calm h]
@[simp] theorem Dev.settleFaults_sec (d : Dev) (h : d.calm = true) : d.settleFaults.sec = d.sec := by
  rw [d.settleFaults_calm h]
@[simp] theorem Dev.settleFaults_mem (d : Dev) (h : d.calm = true) : d.settleFaults.mem = d.mem := by
  rw [d.settleFaults_calm h]
@[simp] theorem Dev.settleFaults_cal (d : Dev) (h : d.calm = true) : d.settleFaults.cal = d.cal := by
  rw [d.settleFaults_calm h]
@[simp] theorem Dev.settleFaults_fifo (d : Dev) (h : d.calm = true) : d.settleFaults.fifo = d.fifo := by
  rw [d.settleFaults_calm h]
@[simp] theorem Dev.settleFaults_powerState (d : Dev) (h : d.calm = true) : d.settleFaults.power.state = d.power.state := by
  rw [d.settleFaults_calm h]

end Sys2Proof.Machine
end

