-- ==== Sys2Proof/Laws/Due.lean ====
section
/-! SUPPORT. What each function of the module leaves of the faults that wait to be presented: one lemma per function that
raises none. -/

namespace Sys2Proof.Machine

open Sys2Proof

theorem foldl_due {α : Type} (f : Dev → α → Dev) (h : ∀ d x, (f d x).flt.due = d.flt.due) (l : List α) (d : Dev) :
    (l.foldl f d).flt.due = d.flt.due := by
  induction l generalizing d with
  | nil => rfl
  | cons x l ih => simp [List.foldl, ih, h]

theorem Dev.eachCh_due (d : Dev) (f : Dev → ChanId → Dev) (h : ∀ d n, (f d n).flt.due = d.flt.due) :
    (d.eachCh f).flt.due = d.flt.due := foldl_due f h _ d

theorem Dev.eachSt_due (d : Dev) (f : Dev → StallId → Dev) (h : ∀ d n, (f d n).flt.due = d.flt.due) :
    (d.eachSt f).flt.due = d.flt.due := foldl_due f h _ d

theorem Dev.inMask_due (d : Dev) (m : Word64) (f : Dev → ChanId → Dev) (h : ∀ d n, (f d n).flt.due = d.flt.due) :
    (d.inMask m f).flt.due = d.flt.due := by
  unfold Dev.inMask; apply Dev.eachCh_due; intro d n; split <;> simp [h]

@[simp] theorem Dev.setReg_due (d : Dev) (k : Nat) (v : Nat) :
    (Dev.setReg d k v).flt.due = d.flt.due := by
  unfold Dev.setReg; rfl

@[simp] theorem Dev.inc_due (d : Dev) (w : Nat) (k : Nat) :
    (Dev.inc d w k).flt.due = d.flt.due := by
  unfold Dev.inc; rfl

@[simp] theorem Dev.incBy_due (d : Dev) (w : Nat) (k : Nat) (n : Nat) :
    (Dev.incBy d w k n).flt.due = d.flt.due := by
  unfold Dev.incBy; split <;> simp

@[simp] theorem Dev.setCh_due (d : Dev) (n : ChanId) (c : Channel) :
    (Dev.setCh d n c).flt.due = d.flt.due := by
  unfold Dev.setCh; rfl

@[simp] theorem Dev.modCh_due (d : Dev) (n : ChanId) (f : Channel → Channel) :
    (Dev.modCh d n f).flt.due = d.flt.due := by
  unfold Dev.modCh; rfl

@[simp] theorem Dev.setSt_due (d : Dev) (s : StallId) (x : Stall) :
    (Dev.setSt d s x).flt.due = d.flt.due := by
  unfold Dev.setSt; rfl

@[simp] theorem Dev.modSt_due (d : Dev) (s : StallId) (f : Stall → Stall) :
    (Dev.modSt d s f).flt.due = d.flt.due := by
  unfold Dev.modSt; rfl

@[simp] theorem Dev.setCreg_due (d : Dev) (n : ChanId) (k : Nat) (v : Nat) :
    (Dev.setCreg d n k v).flt.due = d.flt.due := by
  unfold Dev.setCreg; rfl

@[simp] theorem Dev.cinc_due (d : Dev) (n : ChanId) (w : Nat) (k : Nat) :
    (Dev.cinc d n w k).flt.due = d.flt.due := by
  unfold Dev.cinc; rfl

@[simp] theorem Dev.setSreg_due (d : Dev) (s : StallId) (k : Nat) (v : Nat) :
    (Dev.setSreg d s k v).flt.due = d.flt.due := by
  unfold Dev.setSreg; rfl

@[simp] theorem Dev.sinc_due (d : Dev) (s : StallId) (w : Nat) (k : Nat) :
    (Dev.sinc d s w k).flt.due = d.flt.due := by
  unfold Dev.sinc; rfl

@[simp] theorem Dev.trace_due (d : Dev) (n : Option ChanId) (what : TraceKind) :
    (Dev.trace d n what).flt.due = d.flt.due := by
  unfold Dev.trace; rfl

@[simp] theorem Dev.fresh_due (d : Dev) :
    (Dev.fresh d).2.flt.due = d.flt.due := by
  unfold Dev.fresh; rfl

@[simp] theorem Dev.mapCh_due (d : Dev) (f : ChanId → Channel → Channel) :
    (Dev.mapCh d f).flt.due = d.flt.due := by
  unfold Dev.mapCh; rfl

@[simp] theorem Dev.raiseIrq_due (d : Dev) (v : Nat) :
    (Dev.raiseIrq d v).flt.due = d.flt.due := by
  unfold Dev.raiseIrq; rfl

@[simp] theorem Dev.violate_due (d : Dev) (source : Nat) (code : Nat) (detail : Nat) (answer : Nat) :
    (Dev.violate d source code detail answer).flt.due = d.flt.due := by
  unfold Dev.violate; simp [apply_ite (fun d : Dev => d.flt.due)]

@[simp] theorem Dev.refuse_due (d : Dev) (obj : Nat) (code : Nat) :
    (Dev.refuse d obj code).flt.due = d.flt.due := by
  unfold Dev.refuse; simp

@[simp] theorem Dev.served_due (d : Dev) :
    (Dev.served d).flt.due = d.flt.due := by
  unfold Dev.served; exact id rfl

@[simp] theorem Dev.accept_due (d : Dev) :
    (Dev.accept d).flt.due = d.flt.due := by
  unfold Dev.accept; split <;> simp

@[simp] theorem Dev.keep_due (d : Dev) (obj : Nat) (old : Nat) :
    (Dev.keep d obj old).flt.due = d.flt.due := by
  unfold Dev.keep; rfl

@[simp] theorem Dev.keepOk_due (d : Dev) (obj : Nat) (old : Nat) :
    (Dev.keepOk d obj old).flt.due = d.flt.due := by
  unfold Dev.keepOk; split <;> simp

@[simp] theorem Dev.beginConv_due (d : Dev) (n : ChanId) (mi : Bool) (kind : ConvKind) (slot : Nat) (word : Nat) (x : Tick × Nat) :
    (Dev.beginConv d n mi kind slot word x).flt.due = d.flt.due := by
  unfold Dev.beginConv; rfl

@[simp] theorem Dev.startRegular_due (d : Dev) (n : ChanId) (mi : Bool) (x : Tick × Nat) :
    (Dev.startRegular d n mi x).flt.due = d.flt.due := by
  unfold Dev.startRegular; split <;> simp

@[simp] theorem Dev.beginWaiting_due (d : Dev) (n : ChanId) (mi : Bool) (x : Tick × Nat) :
    (Dev.beginWaiting d n mi x).flt.due = d.flt.due := by
  unfold Dev.beginWaiting; (repeat' split) <;> simp

@[simp] theorem Dev.restartSeq_due (d : Dev) (n : ChanId) :
    (Dev.restartSeq d n).flt.due = d.flt.due := by
  unfold Dev.restartSeq; dsimp only; (repeat' split) <;> simp

@[simp] theorem Dev.timerStart_due (d : Dev) (n : ChanId) (mi : Bool) (second : Bool) :
    (Dev.timerStart d n mi second).flt.due = d.flt.due := by
  unfold Dev.timerStart; simp [apply_ite (fun d : Dev => d.flt.due)]

@[simp] theorem Dev.overrun_due (d : Dev) (n : ChanId) (c : Nat) :
    (Dev.overrun d n c).flt.due = d.flt.due := by
  unfold Dev.overrun; (repeat' split) <;> simp

@[simp] theorem Dev.regularFire_due (d : Dev) (o : ChanId) (mi : Bool) (x : Tick × Nat) :
    (Dev.regularFire d o mi x).flt.due = d.flt.due := by
  unfold Dev.regularFire; simp [foldl_due, apply_ite (fun d : Dev => d.flt.due)]

@[simp] theorem Dev.injectedFire_due (d : Dev) (o : ChanId) (mi : Bool) (x : Tick × Nat) :
    (Dev.injectedFire d o mi x).flt.due = d.flt.due := by
  unfold Dev.injectedFire; simp [foldl_due, apply_ite (fun d : Dev => d.flt.due)]

@[simp] theorem Dev.pulseEnds_due (d : Dev) (o : ChanId) (mi : Bool) (p : Pulse) :
    (Dev.pulseEnds d o mi p).flt.due = d.flt.due := by
  unfold Dev.pulseEnds; (repeat' split) <;> simp

@[simp] theorem Dev.pulsesTo_due (d : Dev) (o : ChanId) (mi : Bool) (x : Tick × Nat) :
    (Dev.pulsesTo d o mi x).flt.due = d.flt.due := by
  unfold Dev.pulsesTo; simp [foldl_due, apply_ite (fun d : Dev => d.flt.due)]

@[simp] theorem Dev.triggered_due (d : Dev) (o : ChanId) (mi : Bool) (inj : Bool) (qual : Nat) (width : Nat) (ev : Ev) :
    (Dev.triggered d o mi inj qual width ev).flt.due = d.flt.due := by
  unfold Dev.triggered; (repeat' split) <;> simp [apply_ite (fun d : Dev => d.flt.due)]

@[simp] theorem Dev.widenTrigger_due (d : Dev) (o : ChanId) (mi : Bool) (inj : Bool) (ev : Ev) :
    (Dev.widenTrigger d o mi inj ev).flt.due = d.flt.due := by
  unfold Dev.widenTrigger; exact id rfl

@[simp] theorem Dev.regularTrigger_due (d : Dev) (o : ChanId) (mi : Bool) (ev : Ev) :
    (Dev.regularTrigger d o mi ev).flt.due = d.flt.due := by
  unfold Dev.regularTrigger; dsimp only; (repeat' split) <;> simp

@[simp] theorem Dev.injectedTrigger_due (d : Dev) (o : ChanId) (mi : Bool) (ev : Ev) :
    (Dev.injectedTrigger d o mi ev).flt.due = d.flt.due := by
  unfold Dev.injectedTrigger; dsimp only; (repeat' split) <;> simp

@[simp] theorem Dev.deferCal_due (d : Dev) (n : ChanId) (mi : Bool) :
    (Dev.deferCal d n mi).flt.due = d.flt.due := by
  unfold Dev.deferCal; exact id rfl

@[simp] theorem Dev.displace_due (d : Dev) (n : ChanId) (mi : Bool) (k : ConvKind) :
    (Dev.displace d n mi k).flt.due = d.flt.due := by
  unfold Dev.displace; split <;> simp

@[simp] theorem Dev.abandonConv_due (d : Dev) (n : ChanId) (mi : Bool) (x : Tick × Nat) :
    (Dev.abandonConv d n mi x).flt.due = d.flt.due := by
  unfold Dev.abandonConv; dsimp only; (repeat' split) <;> simp [foldl_due]

@[simp] theorem Dev.injectedSlot_due (d : Dev) (n : ChanId) (mi : Bool) (j : Nat) (x : Tick × Nat) :
    (Dev.injectedSlot d n mi j x).flt.due = d.flt.due := by
  unfold Dev.injectedSlot; rfl

@[simp] theorem Dev.injectedDue_due (d : Dev) (n : ChanId) (mi : Bool) :
    (Dev.injectedDue d n mi).flt.due = d.flt.due := by
  unfold Dev.injectedDue; dsimp only; (repeat' split) <;> simp

@[simp] theorem Dev.injectedStart_due (d : Dev) (n : ChanId) (mi : Bool) :
    (Dev.injectedStart d n mi).flt.due = d.flt.due := by
  unfold Dev.injectedStart; dsimp only; (repeat' split) <;> simp

@[simp] theorem Dev.bgCounts_due (d : Dev) (n : ChanId) (mi : Bool) (kind : ConvKind) (e : Entry) :
    (Dev.bgCounts d n mi kind e).flt.due = d.flt.due := by
  unfold Dev.bgCounts; (repeat' split) <;> simp

@[simp] theorem Dev.finishConv_due (d : Dev) (n : ChanId) (mi : Bool) (r : Running) (raw : BitVec 18) :
    (Dev.finishConv d n mi r raw).flt.due = d.flt.due := by
  unfold Dev.finishConv; simp [apply_ite (fun d : Dev => d.flt.due)]

@[simp] theorem Dev.conversionEnd_due (d : Dev) (n : ChanId) (mi : Bool) (raw : BitVec 18) (cyc : Nat) :
    (d.conversionEnd n mi raw cyc).flt.due = d.flt.due := by
  unfold Dev.conversionEnd; dsimp only
  split
  · rfl
  · split <;> (try split) <;> simp [apply_ite (fun d : Dev => d.flt.due)]

@[simp] theorem Dev.calConversion_due (d : Dev) (n : ChanId) (mi : Bool) :
    (Dev.calConversion d n mi).flt.due = d.flt.due := by
  unfold Dev.calConversion; simp [apply_ite (fun d : Dev => d.flt.due)]

@[simp] theorem Dev.wmSettle_due (d : Dev) (n : ChanId) :
    (Dev.wmSettle d n).flt.due = d.flt.due := by
  unfold Dev.wmSettle; simp [foldl_due, apply_ite (fun d : Dev => d.flt.due)]

@[simp] theorem Dev.wmUnqueue_due (d : Dev) (n : ChanId) (m : Idx4) :
    (Dev.wmUnqueue d n m).flt.due = d.flt.due := by
  unfold Dev.wmUnqueue; rfl

@[simp] theorem Dev.wmQueue_due (d : Dev) (n : ChanId) (m : Idx4) :
    (Dev.wmQueue d n m).flt.due = d.flt.due := by
  unfold Dev.wmQueue; simp [apply_ite (fun d : Dev => d.flt.due)]

@[simp] theorem Dev.wmTake_due (d : Dev) (n : ChanId) (m : Idx4) (tripped : Bool) (byAux : Bool) :
    (Dev.wmTake d n m tripped byAux).flt.due = d.flt.due := by
  unfold Dev.wmTake; simp [apply_ite (fun d : Dev => d.flt.due)]

@[simp] theorem Dev.wmCommit_due (d : Dev) (n : ChanId) (m : Idx4) (inside : Bool) :
    (Dev.wmCommit d n m inside).flt.due = d.flt.due := by
  unfold Dev.wmCommit; dsimp only; (repeat' split) <;> simp

@[simp] theorem Dev.wmResolve_due (d : Dev) (s : StallId) (key : Nat) (reading : Int) :
    (Dev.wmResolve d s key reading).flt.due = d.flt.due := by
  unfold Dev.wmResolve; simp [apply_ite (fun d : Dev => d.flt.due)]

@[simp] theorem Dev.wmResume_due (d : Dev) (n : ChanId) :
    (Dev.wmResume d n).flt.due = d.flt.due := by
  unfold Dev.wmResume; simp [foldl_due, apply_ite (fun d : Dev => d.flt.due)]

@[simp] theorem Dev.setClamps_due (d : Dev) (n : ChanId) (hi : Nat) (lo : Nat) :
    (Dev.setClamps d n hi lo).flt.due = d.flt.due := by
  unfold Dev.setClamps; rfl

@[simp] theorem Dev.reclamp_due (d : Dev) (n : ChanId) :
    (Dev.reclamp d n).flt.due = d.flt.due := by
  unfold Dev.reclamp; rfl

@[simp] theorem Dev.gustStop_due (d : Dev) (n : ChanId) (x : Tick × Nat) :
    (Dev.gustStop d n x).flt.due = d.flt.due := by
  unfold Dev.gustStop; simp [foldl_due]

@[simp] theorem Dev.gustEdge_due (d : Dev) (n : ChanId) (x : Tick × Nat) :
    (Dev.gustEdge d n x).flt.due = d.flt.due := by
  unfold Dev.gustEdge; dsimp only; (repeat' split) <;> simp

@[simp] theorem Dev.gustBegin_due (d : Dev) (n : ChanId) :
    (Dev.gustBegin d n).flt.due = d.flt.due := by
  unfold Dev.gustBegin; dsimp only; (repeat' split) <;> simp [foldl_due]

@[simp] theorem Dev.gustEnd_due (d : Dev) (n : ChanId) :
    (Dev.gustEnd d n).flt.due = d.flt.due := by
  unfold Dev.gustEnd; (repeat' split) <;> simp

@[simp] theorem Dev.collect_due (d : Dev) (n : ChanId) (c : Nat) (busy : Bool) (ev : Ev) :
    (Dev.collect d n c busy ev).flt.due = d.flt.due := by
  unfold Dev.collect; simp [apply_ite (fun d : Dev => d.flt.due)]

@[simp] theorem Dev.arrive_due (d : Dev) (key : Nat) (x : Tick × Nat) :
    (Dev.arrive d key x).flt.due = d.flt.due := by
  unfold Dev.arrive; rfl

@[simp] theorem Dev.sineReset_due (d : Dev) (n : ChanId) (x : Tick × Nat) :
    (Dev.sineReset d n x).flt.due = d.flt.due := by
  unfold Dev.sineReset; simp [apply_ite (fun d : Dev => d.flt.due)]

@[simp] theorem Dev.holdEdge_due (d : Dev) (n : ChanId) (ev : Ev) :
    (Dev.holdEdge d n ev).flt.due = d.flt.due := by
  unfold Dev.holdEdge; simp [apply_ite (fun d : Dev => d.flt.due)]

@[simp] theorem Dev.consume_due (d : Dev) (n : ChanId) (c : Nat) (ev : Ev) :
    (Dev.consume d n c ev).flt.due = d.flt.due := by
  unfold Dev.consume; (repeat' split) <;> simp [apply_ite (fun d : Dev => d.flt.due)]

@[simp] theorem Dev.drive_due (d : Dev) (ovr : Nat) (p : OutPulse) (ev : Ev) :
    (Dev.drive d ovr p ev).flt.due = d.flt.due := by
  unfold Dev.drive; split <;> simp

@[simp] theorem Dev.mergeDrive_due (d : Dev) (p : OutPulse) :
    (Dev.mergeDrive d p).flt.due = d.flt.due := by
  unfold Dev.mergeDrive; exact id rfl

@[simp] theorem Dev.evioOut_due (d : Dev) (k : Nat) (ev : Ev) :
    (Dev.evioOut d k ev).flt.due = d.flt.due := by
  unfold Dev.evioOut; simp [apply_ite (fun d : Dev => d.flt.due)]

@[simp] theorem Dev.mkoOut_due (d : Dev) (k : StallId) (ev : Ev) :
    (Dev.mkoOut d k ev).flt.due = d.flt.due := by
  unfold Dev.mkoOut; simp [apply_ite (fun d : Dev => d.flt.due)]

@[simp] theorem Dev.auxFire_due (d : Dev) (s : StallId) (x : Tick × Nat) :
    (Dev.auxFire d s x).flt.due = d.flt.due := by
  unfold Dev.auxFire; split <;> simp

@[simp] theorem Dev.auxPulsesTo_due (d : Dev) (s : StallId) (x : Tick × Nat) :
    (Dev.auxPulsesTo d s x).flt.due = d.flt.due := by
  unfold Dev.auxPulsesTo; simp [foldl_due, apply_ite (fun d : Dev => d.flt.due)]

@[simp] theorem Dev.auxTrigger_due (d : Dev) (s : StallId) (ev : Ev) :
    (Dev.auxTrigger d s ev).flt.due = d.flt.due := by
  unfold Dev.auxTrigger; dsimp only; (repeat' split) <;> simp

@[simp] theorem Dev.deliver_due (d : Dev) (t : Nat) (ev : Ev) : (d.deliver t ev).flt.due = d.flt.due := by
  unfold Dev.deliver; dsimp only
  rw [foldl_due, Dev.eachCh_due]
  · intro d n; exact foldl_due _ (fun d c => by simp) _ d
  · intro d x; (repeat' split) <;> simp

@[simp] theorem Dev.carry_due (d : Dev) (t : Nat) (inherited : List Nat) (ev : Ev) :
    (Dev.carry d t inherited ev).flt.due = d.flt.due := by
  unfold Dev.carry; simp [apply_ite (fun d : Dev => d.flt.due)]

@[simp] theorem Dev.fire_due (d : Dev) (code : Nat) (inherited : List Nat) (high : Bool) (width : Nat) (cyc : Nat) :
    (Dev.fire d code inherited high width cyc).flt.due = d.flt.due := by
  unfold Dev.fire; simp [foldl_due, apply_ite (fun d : Dev => d.flt.due)]

@[simp] theorem Dev.fireCommit_due (d : Dev) (code : Nat) (inherited : optParam (List Nat) []) :
    (Dev.fireCommit d code inherited).flt.due = d.flt.due := by
  unfold Dev.fireCommit; simp

@[simp] theorem Dev.mkoLands_due (d : Dev) :
    (Dev.mkoLands d).flt.due = d.flt.due := by
  unfold Dev.mkoLands; rfl

@[simp] theorem Dev.clampsFor_due (d : Dev) (n : ChanId) (hi : Nat) (lo : Nat) :
    (Dev.clampsFor d n hi lo).flt.due = d.flt.due := by
  unfold Dev.clampsFor; split <;> simp

@[simp] theorem Dev.entryClamps_due (d : Dev) (n : ChanId) :
    (Dev.entryClamps d n).flt.due = d.flt.due := by
  unfold Dev.entryClamps; (repeat' split) <;> simp

@[simp] theorem Dev.endWindow_due (d : Dev) (n : ChanId) :
    (Dev.endWindow d n).flt.due = d.flt.due := by
  unfold Dev.endWindow; rfl

@[simp] theorem Dev.closeWindow_due (d : Dev) (n : ChanId) :
    (Dev.closeWindow d n).flt.due = d.flt.due := by
  unfold Dev.closeWindow; simp

@[simp] theorem Dev.openWindow_due (d : Dev) (n : ChanId) (w : Nat) (fi : Bool) (target : Int) (host : Bool) :
    (Dev.openWindow d n w fi target host).flt.due = d.flt.due := by
  unfold Dev.openWindow; simp [foldl_due, apply_ite (fun d : Dev => d.flt.due)]

@[simp] theorem Dev.enterEntry_due (d : Dev) (n : ChanId) (e : Nat) (fi : Bool) (target : Int) (host : Bool) :
    (Dev.enterEntry d n e fi target host).flt.due = d.flt.due := by
  unfold Dev.enterEntry; simp [apply_ite (fun d : Dev => d.flt.due)]

@[simp] theorem Dev.compStep_due (d : Dev) (n : ChanId) :
    (Dev.compStep d n).flt.due = d.flt.due := by
  unfold Dev.compStep; (repeat' split) <;> simp [foldl_due]

@[simp] theorem Dev.becomeParked_due (d : Dev) (n : ChanId) :
    (Dev.becomeParked d n).flt.due = d.flt.due := by
  unfold Dev.becomeParked; simp [foldl_due, apply_ite (fun d : Dev => d.flt.due)]

@[simp] theorem Dev.tallyOpen_due (d : Dev) (n : ChanId) (u : Idx16) :
    (Dev.tallyOpen d n u).flt.due = d.flt.due := by
  unfold Dev.tallyOpen; rfl

@[simp] theorem Dev.tallyDay_due (d : Dev) (n : ChanId) (u : Idx16) (day : TallyDay) (ev : TallyEv) :
    (Dev.tallyDay d n u day ev).flt.due = d.flt.due := by
  unfold Dev.tallyDay; simp [foldl_due, apply_ite (fun d : Dev => d.flt.due)]

@[simp] theorem Dev.tallyStages_due (d : Dev) (n : ChanId) (u : Idx16) (ev : TallyEv) :
    (Dev.tallyStages d n u ev).flt.due = d.flt.due := by
  unfold Dev.tallyStages; simp

@[simp] theorem Dev.tallyCloseAll_due (d : Dev) (n : ChanId) (cause : CloseCause) :
    (Dev.tallyCloseAll d n cause).flt.due = d.flt.due := by
  unfold Dev.tallyCloseAll; simp [foldl_due, apply_ite (fun d : Dev => d.flt.due)]

@[simp] theorem Dev.tallyCommit_due (d : Dev) (n : ChanId) (x : UnitInputs) :
    (Dev.tallyCommit d n x).flt.due = d.flt.due := by
  unfold Dev.tallyCommit; simp [foldl_due, apply_ite (fun d : Dev => d.flt.due)]

@[simp] theorem Dev.startValue_due (d : Dev) (n : ChanId) :
    (Dev.startValue d n).flt.due = d.flt.due := by
  unfold Dev.startValue; split <;> simp

@[simp] theorem Dev.fireBulk_due (d : Dev) (code : Nat) (cause : Nat) :
    (Dev.fireBulk d code cause).flt.due = d.flt.due := by
  unfold Dev.fireBulk; split <;> simp

@[simp] theorem Dev.spoolMarks_due (d : Dev) (n : ChanId) :
    (Dev.spoolMarks d n).flt.due = d.flt.due := by
  unfold Dev.spoolMarks; simp [apply_ite (fun d : Dev => d.flt.due)]

@[simp] theorem Dev.passBoundary_due (d : Dev) (n : ChanId) :
    (Dev.passBoundary d n).flt.due = d.flt.due := by
  unfold Dev.passBoundary; rfl

@[simp] theorem Dev.countJump_due (d : Dev) (n : ChanId) (j : Jump) (clr : Bool) :
    (Dev.countJump d n j clr).flt.due = d.flt.due := by
  unfold Dev.countJump; simp [apply_ite (fun d : Dev => d.flt.due)]

@[simp] theorem Dev.chainEnd_due (d : Dev) (n : ChanId) :
    (Dev.chainEnd d n).flt.due = d.flt.due := by
  unfold Dev.chainEnd; rfl

@[simp] theorem Dev.condRaw_due (d : Dev) (n : ChanId) (w : Nat) :
    (Dev.condRaw d n w).2.2.flt.due = d.flt.due := by
  unfold Dev.condRaw; split <;> simp

@[simp] theorem Dev.condition_due (d : Dev) (n : ChanId) (w : Nat) :
    (Dev.condition d n w).2.flt.due = d.flt.due := by
  unfold Dev.condition; dsimp only; (repeat' split) <;> simp

@[simp] theorem Dev.noteRedo_due (d : Dev) (n : ChanId) :
    (Dev.noteRedo d n).flt.due = d.flt.due := by
  unfold Dev.noteRedo; rfl

@[simp] theorem Dev.unselect_due (d : Dev) (n : ChanId) (r : Redo) (t : Tick) :
    (Dev.unselect d n r t).flt.due = d.flt.due := by
  unfold Dev.unselect; simp [foldl_due]

@[simp] theorem Dev.giveWay_due (d : Dev) (n : ChanId) :
    (Dev.giveWay d n).flt.due = d.flt.due := by
  unfold Dev.giveWay; (repeat' split) <;> simp [apply_ite (fun d : Dev => d.flt.due)]

@[simp] theorem Dev.armBarker_due (d : Dev) (n : ChanId) :
    (Dev.armBarker d n).flt.due = d.flt.due := by
  unfold Dev.armBarker; rfl

@[simp] theorem Dev.stopBarker_due (d : Dev) (n : ChanId) :
    (Dev.stopBarker d n).flt.due = d.flt.due := by
  unfold Dev.stopBarker; rfl

@[simp] theorem Dev.applyForce_due (d : Dev) (m : ChanId) (w : Nat) (differs : Bool) :
    (Dev.applyForce d m w differs).flt.due = d.flt.due := by
  unfold Dev.applyForce; (repeat' split) <;> simp

@[simp] theorem Dev.applyFields_due (d : Dev) (m : ChanId) (w : Nat) :
    (Dev.applyFields d m w).flt.due = d.flt.due := by
  unfold Dev.applyFields; simp

@[simp] theorem Dev.applyKind_due (d : Dev) (n : ChanId) (w : Nat) :
    (Dev.applyKind d n w).flt.due = d.flt.due := by
  unfold Dev.applyKind; split <;> simp

@[simp] theorem Dev.fireStep_due (d : Dev) (n : ChanId) (s : Selected) :
    (Dev.fireStep d n s).flt.due = d.flt.due := by
  unfold Dev.fireStep; simp

@[simp] theorem Dev.seal_due (d : Dev) :
    (Dev.seal d).flt.due = d.flt.due := by
  unfold Dev.seal; simp [foldl_due, Dev.eachCh_due]

@[simp] theorem Dev.engRun_due (d : Dev) (n : ChanId) (k : Fin 8) (cycles : Nat) (ok : Bool) (f : Dev → Dev)
    (h : ∀ d, (f d).flt.due = d.flt.due) : (d.engRun n k cycles ok f).flt.due = d.flt.due := by
  unfold Dev.engRun; split <;> simp [h]

@[simp] theorem Dev.engAlu_due (d : Dev) (n : ChanId) (k : Fin 8) (cycles : Nat) (ok : Bool) (f : Engine → Engine) :
    (Dev.engAlu d n k cycles ok f).flt.due = d.flt.due := by
  unfold Dev.engAlu; simp

@[simp] theorem Dev.setScr_due (d : Dev) (s : StallId) (a : Nat) (w : Word64) :
    (Dev.setScr d s a w).flt.due = d.flt.due := by
  unfold Dev.setScr; rfl

@[simp] theorem Dev.putScr_due (d : Dev) (s : StallId) (a : Nat) (cyc : Nat) (te : Nat) (w : Word64) :
    (Dev.putScr d s a cyc te w).flt.due = d.flt.due := by
  unfold Dev.putScr; exact id rfl

@[simp] theorem Dev.bulkStore_due (d : Dev) (s : StallId) (addr : Nat) (w : Word64) :
    (Dev.bulkStore d s addr w).flt.due = d.flt.due := by
  unfold Dev.bulkStore; rfl

@[simp] theorem Dev.engStore_due (d : Dev) (n : ChanId) (k : Fin 8) (addr : Nat) (cyc : Nat) (v : Int) :
    (Dev.engStore d n k addr cyc v).flt.due = d.flt.due := by
  unfold Dev.engStore; dsimp only; (repeat' split) <;> simp

@[simp] theorem Dev.modFifo_due (d : Dev) (f : Fifo → Fifo) :
    (Dev.modFifo d f).flt.due = d.flt.due := by
  unfold Dev.modFifo; rfl

@[simp] theorem Dev.formBlock_due (d : Dev) (sessionEnd : Bool) :
    (Dev.formBlock d sessionEnd).flt.due = d.flt.due := by
  unfold Dev.formBlock; split <;> simp

@[simp] theorem Dev.startSession_due (d : Dev) :
    (Dev.startSession d).flt.due = d.flt.due := by
  unfold Dev.startSession; rfl

@[simp] theorem Dev.finishSession_due (d : Dev) (roll : Bool) :
    (Dev.finishSession d roll).flt.due = d.flt.due := by
  unfold Dev.finishSession; split <;> simp

@[simp] theorem Dev.endSession_due (d : Dev) (roll : Bool) :
    (Dev.endSession d roll).flt.due = d.flt.due := by
  unfold Dev.endSession; (repeat' split) <;> simp

@[simp] theorem Dev.releaseEntries_due (d : Dev) (k : Nat) :
    (Dev.releaseEntries d k).flt.due = d.flt.due := by
  unfold Dev.releaseEntries; rfl

@[simp] theorem Dev.undoMonitor_due (d : Dev) (n : ChanId) (old : Monitor) (m : Idx4) :
    (Dev.undoMonitor d n old m).flt.due = d.flt.due := by
  unfold Dev.undoMonitor; simp [apply_ite (fun d : Dev => d.flt.due)]

@[simp] theorem Dev.takeBack_due (d : Dev) (n : ChanId) (a : Applied) :
    (Dev.takeBack d n a).flt.due = d.flt.due := by
  unfold Dev.takeBack; simp [foldl_due]

@[simp] theorem Dev.undoApply_due (d : Dev) (n : ChanId) :
    (Dev.undoApply d n).flt.due = d.flt.due := by
  unfold Dev.undoApply; split <;> simp

@[simp] theorem Dev.rewind_due (d : Dev) (key : Nat) (w : Word64) :
    (Dev.rewind d key w).flt.due = d.flt.due := by
  unfold Dev.rewind; split <;> simp

@[simp] theorem Dev.undoStores_due (d : Dev) (n : ChanId) :
    (Dev.undoStores d n).flt.due = d.flt.due := by
  unfold Dev.undoStores; simp [foldl_due]

@[simp] theorem Dev.undoWindow_due (d : Dev) (n : ChanId) :
    (Dev.undoWindow d n).flt.due = d.flt.due := by
  unfold Dev.undoWindow; split <;> simp

@[simp] theorem Dev.parkArming_due (d : Dev) (n : ChanId) :
    (Dev.parkArming d n).flt.due = d.flt.due := by
  unfold Dev.parkArming; simp

@[simp] theorem Dev.abortArm_due (d : Dev) (mask : Word64) (result : Nat) :
    (Dev.abortArm d mask result).flt.due = d.flt.due := by
  unfold Dev.abortArm; simp [Dev.inMask_due, apply_ite (fun d : Dev => d.flt.due)]

@[simp] theorem Dev.startPolicy_due (d : Dev) (n : ChanId) (rank : Nat) :
    (Dev.startPolicy d n rank).flt.due = d.flt.due := by
  unfold Dev.startPolicy; dsimp only; (repeat' split) <;> simp

@[simp] theorem Dev.logFault_due (d : Dev) (f : FaultRec) (act : Act) (nested : Bool) (switched : Bool) :
    (Dev.logFault d f act nested switched).flt.due = d.flt.due := by
  unfold Dev.logFault; simp [apply_ite (fun d : Dev => d.flt.due)]

@[simp] theorem Dev.setLatch_due (d : Dev) (f : FaultRec) :
    (Dev.setLatch d f).flt.due = d.flt.due := by
  unfold Dev.setLatch; (repeat' split) <;> simp [Dev.eachSt_due, apply_ite (fun d : Dev => d.flt.due)]

@[simp] theorem Dev.beginF5_due (d : Dev) (f : FaultRec) :
    (Dev.beginF5 d f).flt.due = d.flt.due := by
  unfold Dev.beginF5; simp [Dev.eachSt_due, apply_ite (fun d : Dev => d.flt.due)]

@[simp] theorem Dev.lastResort_due (d : Dev) (s : StallId) :
    (Dev.lastResort d s).flt.due = d.flt.due := by
  unfold Dev.lastResort; simp [foldl_due]

@[simp] theorem Dev.histClear_due (d : Dev) (v : Nat) :
    (Dev.histClear d v).flt.due = d.flt.due := by
  unfold Dev.histClear; split <;> simp

@[simp] theorem Dev.loseTick_due (d : Dev) (n : ChanId) (code : Nat) :
    (Dev.loseTick d n code).flt.due = d.flt.due := by
  unfold Dev.loseTick; simp [foldl_due]

@[simp] theorem Dev.failWord_due (d : Dev) (n : ChanId) :
    (Dev.failWord d n).flt.due = d.flt.due := by
  unfold Dev.failWord; exact id rfl

@[simp] theorem Dev.refillHeads_due (d : Dev) (n : ChanId) (line : Nat) :
    (Dev.refillHeads d n line).flt.due = d.flt.due := by
  unfold Dev.refillHeads; rfl

@[simp] theorem Dev.stuckOn_due (d : Dev) (n : ChanId) (line : Nat) :
    (Dev.stuckOn d n line).flt.due = d.flt.due := by
  unfold Dev.stuckOn; simp [apply_ite (fun d : Dev => d.flt.due)]

@[simp] theorem Dev.stalled_due (d : Dev) (cycles : Nat) :
    (Dev.stalled d cycles).flt.due = d.flt.due := by
  unfold Dev.stalled; exact id rfl

@[simp] theorem Dev.loseWord_due (d : Dev) (s : StallId) (a : Nat) :
    (Dev.loseWord d s a).flt.due = d.flt.due := by
  unfold Dev.loseWord; rfl

@[simp] theorem Dev.marchNext_due (d : Dev) (m : Nat) (region : Nat) :
    (Dev.marchNext d m region).flt.due = d.flt.due := by
  unfold Dev.marchNext; simp [apply_ite (fun d : Dev => d.flt.due)]

@[simp] theorem Dev.marchSkip_due (k : Nat) (d : Dev) (m : Nat) : (Dev.marchSkip k d m).flt.due = d.flt.due := by
  induction k generalizing d with
  | zero => rfl
  | succ k ih => unfold Dev.marchSkip; dsimp only; split <;> simp [ih]

@[simp] theorem Dev.pinHead_due (d : Dev) (n : ChanId) (h : Idx4) (seg : Nat) :
    (Dev.pinHead d n h seg).flt.due = d.flt.due := by
  unfold Dev.pinHead; split <;> simp

@[simp] theorem Dev.cancelJump_due (d : Dev) (n : ChanId) :
    (Dev.cancelJump d n).flt.due = d.flt.due := by
  unfold Dev.cancelJump; split <;> simp

@[simp] theorem Dev.pruneReplay_due (d : Dev) :
    (Dev.pruneReplay d).flt.due = d.flt.due := by
  unfold Dev.pruneReplay; rfl

@[simp] theorem Dev.writeDesc_due (d : Dev) (i : Nat) (w : Word64) :
    (Dev.writeDesc d i w).flt.due = d.flt.due := by
  unfold Dev.writeDesc; (repeat' split) <;> simp

@[simp] theorem Dev.resetSpool_due (d : Dev) (n : ChanId) :
    (Dev.resetSpool d n).flt.due = d.flt.due := by
  unfold Dev.resetSpool; rfl

@[simp] theorem Dev.writeSpoolSeg_due (d : Dev) (n : ChanId) (seg : Nat) :
    (Dev.writeSpoolSeg d n seg).flt.due = d.flt.due := by
  unfold Dev.writeSpoolSeg; simp [apply_ite (fun d : Dev => d.flt.due)]

@[simp] theorem Dev.spoolReset_due (d : Dev) (n : ChanId) :
    (Dev.spoolReset d n).flt.due = d.flt.due := by
  unfold Dev.spoolReset; simp [apply_ite (fun d : Dev => d.flt.due)]

@[simp] theorem Dev.writeSafeSeg_due (d : Dev) (n : ChanId) (seg : Nat) :
    (Dev.writeSafeSeg d n seg).flt.due = d.flt.due := by
  unfold Dev.writeSafeSeg; split <;> simp

@[simp] theorem Dev.loadAnswer_due (d : Dev) (bulk : Bool) (code : Nat) (done : Nat) :
    (Dev.loadAnswer d bulk code done).flt.due = d.flt.due := by
  unfold Dev.loadAnswer; simp [apply_ite (fun d : Dev => d.flt.due)]

@[simp] theorem Dev.loadViolates_due (d : Dev) (bulk : Bool) (viol : Nat) (code : Nat) :
    (Dev.loadViolates d bulk viol code).flt.due = d.flt.due := by
  unfold Dev.loadViolates; simp

@[simp] theorem Dev.loadRefuse_due (d : Dev) (bulk : Bool) (code : Nat) :
    (Dev.loadRefuse d bulk code).flt.due = d.flt.due := by
  unfold Dev.loadRefuse; simp

@[simp] theorem Dev.descRefuse_due (d : Dev) (bulk : Bool) (code : Nat) :
    (Dev.descRefuse d bulk code).flt.due = d.flt.due := by
  unfold Dev.descRefuse; simp

@[simp] theorem Dev.loadsReset_due (d : Dev) (bulk : Bool) :
    (Dev.loadsReset d bulk).flt.due = d.flt.due := by
  unfold Dev.loadsReset; simp [foldl_due]

@[simp] theorem Dev.addClaim_due (d : Dev) (c : Claim) :
    (Dev.addClaim d c).flt.due = d.flt.due := by
  unfold Dev.addClaim; rfl

@[simp] theorem Dev.writeLines_due (d : Dev) (line : Nat) (words : List Word64) :
    (Dev.writeLines d line words).flt.due = d.flt.due := by
  unfold Dev.writeLines; simp

@[simp] theorem Dev.writeRing_due (d : Dev) (w : Nat) (f : Nat) (steps : List Word64) :
    (Dev.writeRing d w f steps).flt.due = d.flt.due := by
  unfold Dev.writeRing; simp [foldl_due]

@[simp] theorem Dev.refillRefuse_due (d : Dev) (bulk : Bool) (n : ChanId) (code : Nat) :
    (Dev.refillRefuse d bulk n code).flt.due = d.flt.due := by
  unfold Dev.refillRefuse; simp

@[simp] theorem Dev.refill_due (d : Dev) (bulk : Bool) (x : LoadDesc) (body : List Byte) :
    (Dev.refill d bulk x body).flt.due = d.flt.due := by
  unfold Dev.refill; dsimp only; (repeat' split) <;> simp

@[simp] theorem Dev.ledgerLoad_due (d : Dev) (bulk : Bool) (line : Nat) (words : List Word64) (cyc : Nat) :
    (Dev.ledgerLoad d bulk line words cyc).flt.due = d.flt.due := by
  unfold Dev.ledgerLoad; simp [apply_ite (fun d : Dev => d.flt.due)]

@[simp] theorem Dev.actClaim_due (d : Dev) (c : Claim) :
    (Dev.actClaim d c).flt.due = d.flt.due := by
  unfold Dev.actClaim; (repeat' split) <;> simp

@[simp] theorem Dev.actClaims_due (d : Dev) :
    (Dev.actClaims d).flt.due = d.flt.due := by
  unfold Dev.actClaims; simp [foldl_due]

@[simp] theorem Dev.loadBegin_due (d : Dev) :
    (Dev.loadBegin d).flt.due = d.flt.due := by
  unfold Dev.loadBegin; split <;> simp

@[simp] theorem Dev.loadData_due (d : Dev) (bytes : List Byte) :
    (Dev.loadData d bytes).flt.due = d.flt.due := by
  unfold Dev.loadData; (repeat' split) <;> simp

@[simp] theorem Dev.loadSubmit_due (d : Dev) :
    (Dev.loadSubmit d).flt.due = d.flt.due := by
  unfold Dev.loadSubmit; simp [apply_ite (fun d : Dev => d.flt.due)]

@[simp] theorem Dev.loadAbandon_due (d : Dev) :
    (Dev.loadAbandon d).flt.due = d.flt.due := by
  unfold Dev.loadAbandon; simp [apply_ite (fun d : Dev => d.flt.due)]

@[simp] theorem Dev.putPackage_due (lib : Bool) (d : Dev) (p : Package) :
    (Dev.putPackage lib d p).flt.due = d.flt.due := by
  unfold Dev.putPackage; simp [foldl_due, Dev.inMask_due]

@[simp] theorem Dev.package_due (d : Dev) (p : Package) :
    (Dev.package d p).flt.due = d.flt.due := by
  unfold Dev.package; split <;> simp

@[simp] theorem Dev.unloadSet_due (d : Dev) :
    (Dev.unloadSet d).flt.due = d.flt.due := by
  unfold Dev.unloadSet; dsimp only; (repeat' split) <;> simp

@[simp] theorem Dev.writeScr_due (d : Dev) (w : Word64) :
    (Dev.writeScr d w).flt.due = d.flt.due := by
  unfold Dev.writeScr; dsimp only; (repeat' split) <;> simp

@[simp] theorem Dev.setCoef_due (d : Dev) (n : ChanId) (o : Nat) (v : Int) :
    (Dev.setCoef d n o v).flt.due = d.flt.due := by
  unfold Dev.setCoef; rfl

@[simp] theorem Dev.clearEngines_due (d : Dev) (n : ChanId) :
    (Dev.clearEngines d n).flt.due = d.flt.due := by
  unfold Dev.clearEngines; rfl

@[simp] theorem Dev.armOne_due (d : Dev) (req : Word64) (n : ChanId) :
    (Dev.armOne d req n).flt.due = d.flt.due := by
  unfold Dev.armOne; rfl

@[simp] theorem Dev.armMask_due (d : Dev) (mask : Word64) :
    (Dev.armMask d mask).flt.due = d.flt.due := by
  unfold Dev.armMask; simp [Dev.inMask_due, apply_ite (fun d : Dev => d.flt.due)]

@[simp] theorem Dev.undoArm_due (d : Dev) (a : ArmBack) :
    (Dev.undoArm d a).flt.due = d.flt.due := by
  unfold Dev.undoArm; simp [foldl_due]

@[simp] theorem Dev.armClose_due (d : Dev) :
    (Dev.armClose d).flt.due = d.flt.due := by
  unfold Dev.armClose; simp [Dev.eachCh_due, apply_ite (fun d : Dev => d.flt.due)]

@[simp] theorem Dev.openDisc_due (d : Dev) (n : ChanId) :
    (Dev.openDisc d n).flt.due = d.flt.due := by
  unfold Dev.openDisc; rfl

@[simp] theorem Dev.applyDelay_due (d : Dev) :
    (Dev.applyDelay d).flt.due = d.flt.due := by
  unfold Dev.applyDelay; (repeat' split) <;> simp

@[simp] theorem Dev.moveFactor_due (d : Dev) (s : StallId) (target : Int) :
    (Dev.moveFactor d s target).flt.due = d.flt.due := by
  unfold Dev.moveFactor; rfl

@[simp] theorem Dev.storeOutcome_due (d : Dev) (ok : Bool) :
    (Dev.storeOutcome d ok).flt.due = d.flt.due := by
  unfold Dev.storeOutcome; rfl

@[simp] theorem Dev.sysBegin_due (d : Dev) (n : ChanId) :
    (Dev.sysBegin d n).flt.due = d.flt.due := by
  unfold Dev.sysBegin; (repeat' split) <;> simp

@[simp] theorem Dev.writeWmCfg_due (d : Dev) (n : ChanId) (m : Idx4) (w : Nat) :
    (Dev.writeWmCfg d n m w).flt.due = d.flt.due := by
  unfold Dev.writeWmCfg; simp [apply_ite (fun d : Dev => d.flt.due)]

@[simp] theorem Dev.modSync_due (d : Dev) (f : SyncUnit → SyncUnit) :
    (Dev.modSync d f).flt.due = d.flt.due := by
  unfold Dev.modSync; simp [apply_ite (fun d : Dev => d.flt.due)]

@[simp] theorem Dev.forwardWord_due (d : Dev) (cmd : Nat) (operand : Nat) :
    (Dev.forwardWord d cmd operand).flt.due = d.flt.due := by
  unfold Dev.forwardWord; simp

@[simp] theorem Dev.beginLoop_due (d : Dev) :
    (Dev.beginLoop d).flt.due = d.flt.due := by
  unfold Dev.beginLoop; (repeat' split) <;> simp

theorem Dev.rootOnly_due (d : Dev) (obj : Nat) (f : Dev → Dev) (h : ∀ d, (f d).flt.due = d.flt.due) :
    (d.rootOnly obj f).flt.due = d.flt.due := by
  unfold Dev.rootOnly; split <;> simp [h]

@[simp] theorem Dev.syncOut_due (d : Dev) :
    (Dev.syncOut d).flt.due = d.flt.due := by
  unfold Dev.syncOut; (repeat' split) <;> simp

@[simp] theorem Dev.roleWritten_due (d : Dev) (role : Bool) :
    (Dev.roleWritten d role).flt.due = d.flt.due := by
  unfold Dev.roleWritten; (repeat' split) <;> simp

@[simp] theorem Dev.tallyHost_due (d : Dev) (n : ChanId) (op : Nat) (units : BitVec 16) :
    (Dev.tallyHost d n op units).flt.due = d.flt.due := by
  unfold Dev.tallyHost; simp [foldl_due, apply_ite (fun d : Dev => d.flt.due)]

@[simp] theorem Dev.flushSession_due (d : Dev) :
    (Dev.flushSession d).flt.due = d.flt.due := by
  unfold Dev.flushSession; (repeat' split) <;> simp

@[simp] theorem Dev.rollSession_due (d : Dev) :
    (Dev.rollSession d).flt.due = d.flt.due := by
  unfold Dev.rollSession; (repeat' split) <;> simp

@[simp] theorem Dev.fifoAck_due (d : Dev) (k : Nat) :
    (Dev.fifoAck d k).flt.due = d.flt.due := by
  unfold Dev.fifoAck; (repeat' split) <;> simp

@[simp] theorem Dev.auxTake_due (d : Dev) (s : StallId) (input : Nat) (reading : Int) :
    (Dev.auxTake d s input reading).flt.due = d.flt.due := by
  unfold Dev.auxTake; rfl

@[simp] theorem Dev.refxReading_due (d : Dev) (s : StallId) (uV : Int) :
    (Dev.refxReading d s uV).flt.due = d.flt.due := by
  unfold Dev.refxReading; rfl

@[simp] theorem Dev.auxHouse_due (d : Dev) (s : StallId) (reading : Int) :
    (Dev.auxHouse d s reading).flt.due = d.flt.due := by
  unfold Dev.auxHouse; simp [apply_ite (fun d : Dev => d.flt.due)]

@[simp] theorem Dev.calReading_due (d : Dev) (s : StallId) (i : Nat) :
    (Dev.calReading d s i).flt.due = d.flt.due := by
  unfold Dev.calReading; simp [apply_ite (fun d : Dev => d.flt.due)]

@[simp] theorem Dev.auxCal_due (d : Dev) (s : StallId) (reading : Int) :
    (Dev.auxCal d s reading).flt.due = d.flt.due := by
  unfold Dev.auxCal; simp [apply_ite (fun d : Dev => d.flt.due)]

@[simp] theorem Dev.auxOpenWire_due (d : Dev) (s : StallId) (n : ChanId) (reading : Int) :
    (Dev.auxOpenWire d s n reading).flt.due = d.flt.due := by
  unfold Dev.auxOpenWire; exact id rfl

@[simp] theorem Dev.auxInjected_due (d : Dev) (s : StallId) (j : Nat) (reading : Int) :
    (Dev.auxInjected d s j reading).flt.due = d.flt.due := by
  unfold Dev.auxInjected; rfl

@[simp] theorem Dev.auxResolve_due (d : Dev) (s : StallId) (k : Nat) (reading : Int) :
    (Dev.auxResolve d s k reading).flt.due = d.flt.due := by
  unfold Dev.auxResolve; simp

@[simp] theorem Dev.owCommit_due (d : Dev) (n : ChanId) :
    (Dev.owCommit d n).flt.due = d.flt.due := by
  unfold Dev.owCommit; (repeat' split) <;> simp

@[simp] theorem Dev.writeRefSel_due (d : Dev) (s : StallId) (v : Nat) :
    (Dev.writeRefSel d s v).flt.due = d.flt.due := by
  unfold Dev.writeRefSel; (repeat' split) <;> simp

@[simp] theorem Dev.writeRefxEn_due (d : Dev) (s : StallId) (v : Nat) :
    (Dev.writeRefxEn d s v).flt.due = d.flt.due := by
  unfold Dev.writeRefxEn; simp [apply_ite (fun d : Dev => d.flt.due)]

@[simp] theorem Dev.bufferCommit_due (d : Dev) (s : StallId) :
    (Dev.bufferCommit d s).flt.due = d.flt.due := by
  unfold Dev.bufferCommit; (repeat' split) <;> simp [apply_ite (fun d : Dev => d.flt.due)]

@[simp] theorem Dev.compHost_due (d : Dev) (n : ChanId) :
    (Dev.compHost d n).flt.due = d.flt.due := by
  unfold Dev.compHost; simp [apply_ite (fun d : Dev => d.flt.due)]

@[simp] theorem Dev.writeCompMode_due (d : Dev) (n : ChanId) (v : Nat) :
    (Dev.writeCompMode d n v).flt.due = d.flt.due := by
  unfold Dev.writeCompMode; split <;> simp

@[simp] theorem Dev.writeCompFixed_due (d : Dev) (n : ChanId) (v : Nat) :
    (Dev.writeCompFixed d n v).flt.due = d.flt.due := by
  unfold Dev.writeCompFixed; split <;> simp

@[simp] theorem Dev.publishEstimate_due (d : Dev) (n : ChanId) (e : LwEstimate) :
    (Dev.publishEstimate d n e).flt.due = d.flt.due := by
  unfold Dev.publishEstimate; exact id rfl

@[simp] theorem Dev.writeLwEn_due (d : Dev) (n : ChanId) (v : Nat) :
    (Dev.writeLwEn d n v).flt.due = d.flt.due := by
  unfold Dev.writeLwEn; split <;> simp

@[simp] theorem Dev.modSec_due (d : Dev) (f : Sec → Sec) :
    (Dev.modSec d f).flt.due = d.flt.due := by
  unfold Dev.modSec; rfl

@[simp] theorem Dev.judged_due (d : Dev) (code : Nat) (type : Nat) (low : Nat) :
    (Dev.judged d code type low).flt.due = d.flt.due := by
  unfold Dev.judged; split <;> simp

@[simp] theorem Dev.secVerdict_due (d : Dev) (code : Nat) (type : Nat) :
    (Dev.secVerdict d code type).flt.due = d.flt.due := by
  unfold Dev.secVerdict; split <;> simp

@[simp] theorem Dev.bumpArb_due (d : Dev) (v : Verdict) :
    (Dev.bumpArb d v).flt.due = d.flt.due := by
  unfold Dev.bumpArb; (repeat' split) <;> simp

@[simp] theorem Dev.countStream_due (d : Dev) (box : List Byte) :
    (Dev.countStream d box).flt.due = d.flt.due := by
  unfold Dev.countStream; simp [apply_ite (fun d : Dev => d.flt.due)]

@[simp] theorem Dev.judge_due (d : Dev) (v : Verdict) :
    (Dev.judge d v).flt.due = d.flt.due := by
  unfold Dev.judge; simp [apply_ite (fun d : Dev => d.flt.due)]

@[simp] theorem Dev.verify_due (d : Dev) (v : Verdict) (box : List Byte) (cyc : Nat) :
    (Dev.verify d v box cyc).flt.due = d.flt.due := by
  unfold Dev.verify; simp [apply_ite (fun d : Dev => d.flt.due)]

@[simp] theorem Dev.verifyRefill_due (d : Dev) (c : Claim) (fuseOk : Bool) (cyc : Nat) :
    (Dev.verifyRefill d c fuseOk cyc).flt.due = d.flt.due := by
  unfold Dev.verifyRefill; dsimp only; (repeat' split) <;> simp

@[simp] theorem Dev.verifyLoad_due (d : Dev) (bulk : Bool) (x : LoadDesc) (fuseOk : Bool) (cyc : Nat) :
    (Dev.verifyLoad d bulk x fuseOk cyc).flt.due = d.flt.due := by
  unfold Dev.verifyLoad; (repeat' split) <;> simp [apply_ite (fun d : Dev => d.flt.due)]

@[simp] theorem Dev.closeSession_due (d : Dev) (cause : Nat) :
    (Dev.closeSession d cause).flt.due = d.flt.due := by
  unfold Dev.closeSession; split <;> simp

@[simp] theorem Dev.closeStreams_due (d : Dev) :
    (Dev.closeStreams d).flt.due = d.flt.due := by
  unfold Dev.closeStreams; rfl

@[simp] theorem Dev.zeroise_due (d : Dev) :
    (Dev.zeroise d).flt.due = d.flt.due := by
  unfold Dev.zeroise; rfl

@[simp] theorem Dev.lifecycleEnds_due (d : Dev) (roll : Bool) :
    (Dev.lifecycleEnds d roll).flt.due = d.flt.due := by
  unfold Dev.lifecycleEnds; simp

@[simp] theorem Dev.streamCmd_due (d : Dev) (v : Nat) :
    (Dev.streamCmd d v).flt.due = d.flt.due := by
  unfold Dev.streamCmd; simp

@[simp] theorem Dev.sealFail_due (d : Dev) (obj : Nat) :
    (Dev.sealFail d obj).flt.due = d.flt.due := by
  unfold Dev.sealFail; simp

@[simp] theorem Dev.offer_due (d : Dev) (bulk : Bool) :
    (Dev.offer d bulk).flt.due = d.flt.due := by
  unfold Dev.offer; split <;> simp

@[simp] theorem Dev.hostOffer_due (d : Dev) (offer : List Byte) (bulk : Bool) :
    (Dev.hostOffer d offer bulk).flt.due = d.flt.due := by
  unfold Dev.hostOffer; (repeat' split) <;> simp

@[simp] theorem Dev.attest_due (d : Dev) (nonce : List Byte) :
    (Dev.attest d nonce).flt.due = d.flt.due := by
  unfold Dev.attest; (repeat' split) <;> simp

@[simp] theorem Dev.debugRoll_due (d : Dev) :
    (Dev.debugRoll d).flt.due = d.flt.due := by
  unfold Dev.debugRoll; split <;> simp

@[simp] theorem Dev.leaveD2_due (d : Dev) (level : Nat) :
    (Dev.leaveD2 d level).flt.due = d.flt.due := by
  unfold Dev.leaveD2; simp [apply_ite (fun d : Dev => d.flt.due)]

@[simp] theorem Dev.drawNonce_due (d : Dev) (level : Nat) :
    (Dev.drawNonce d level).flt.due = d.flt.due := by
  unfold Dev.drawNonce; simp

@[simp] theorem Dev.debugReq_due (d : Dev) (v : Nat) :
    (Dev.debugReq d v).flt.due = d.flt.due := by
  unfold Dev.debugReq; (repeat' split) <;> simp [apply_ite (fun d : Dev => d.flt.due)]

@[simp] theorem Dev.enterD3_due (d : Dev) :
    (Dev.enterD3 d).flt.due = d.flt.due := by
  unfold Dev.enterD3; simp

@[simp] theorem Dev.resumeReq_due (d : Dev) (mask : Word64) :
    (Dev.resumeReq d mask).flt.due = d.flt.due := by
  unfold Dev.resumeReq; simp [Dev.inMask_due, apply_ite (fun d : Dev => d.flt.due)]

@[simp] theorem Dev.stepReq_due (d : Dev) (mask : Word64) :
    (Dev.stepReq d mask).flt.due = d.flt.due := by
  unfold Dev.stepReq; simp [Dev.inMask_due, apply_ite (fun d : Dev => d.flt.due)]

@[simp] theorem Dev.tapSelect_due (d : Dev) (ir : Nat) (out : TapData) :
    (Dev.tapSelect d ir out).flt.due = d.flt.due := by
  unfold Dev.tapSelect; rfl

@[simp] theorem Dev.tapBypass_due (d : Dev) :
    (Dev.tapBypass d).flt.due = d.flt.due := by
  unfold Dev.tapBypass; rfl

@[simp] theorem Dev.observed_due (d : Dev) :
    (Dev.observed d).2.flt.due = d.flt.due := by
  unfold Dev.observed; rfl

@[simp] theorem Dev.modPower_due (d : Dev) (f : Power → Power) :
    (Dev.modPower d f).flt.due = d.flt.due := by
  unfold Dev.modPower; rfl

@[simp] theorem Dev.setObj_due (d : Dev) (obj : Nat) (v : Nat) :
    (Dev.setObj d obj v).flt.due = d.flt.due := by
  unfold Dev.setObj; split <;> simp

@[simp] theorem Dev.putProfile_due (d : Dev) (n : Nat) (b : List Byte) :
    (Dev.putProfile d n b).flt.due = d.flt.due := by
  unfold Dev.putProfile; split <;> simp

@[simp] theorem Dev.paramWords_due (d : Dev) :
    (Dev.paramWords d).flt.due = d.flt.due := by
  unfold Dev.paramWords; rfl

@[simp] theorem Dev.noteSlot_due (d : Dev) (slot : Fin 2) (r : Except Nat Nat) :
    (Dev.noteSlot d slot r).flt.due = d.flt.due := by
  unfold Dev.noteSlot; (repeat' split) <;> simp

@[simp] theorem Dev.toDefault_due (d : Dev) (obj : Nat) :
    (Dev.toDefault d obj).flt.due = d.flt.due := by
  unfold Dev.toDefault; split <;> simp

@[simp] theorem Dev.restorePasses_due (k : Nat) (d : Dev) (l : List (Nat × Nat × ObjRow)) (b : List Nat) :
    (Dev.restorePasses k d l b).1.flt.due = d.flt.due := by
  induction k generalizing d l b with
  | zero => rfl
  | succ k ih => unfold Dev.restorePasses; dsimp only; split <;> simp [ih, foldl_due]

@[simp] theorem Dev.setOutcome_due (d : Dev) (k : Nat) (r : Restored) :
    (Dev.setOutcome d k r).flt.due = d.flt.due := by
  unfold Dev.setOutcome; rfl

@[simp] theorem Dev.sysWords_due (d : Dev) (ok : Bool) :
    (Dev.sysWords d ok).flt.due = d.flt.due := by
  unfold Dev.sysWords; rfl

@[simp] theorem Dev.restoreCal_due (d : Dev) (sysOk : Bool) (snapOk : Bool) :
    (Dev.restoreCal d sysOk snapOk).flt.due = d.flt.due := by
  unfold Dev.restoreCal; simp [foldl_due, apply_ite (fun d : Dev => d.flt.due)]

@[simp] theorem Dev.settleRestored_due (d : Dev) :
    (Dev.settleRestored d).flt.due = d.flt.due := by
  unfold Dev.settleRestored; simp [Dev.eachCh_due, Dev.eachSt_due]

@[simp] theorem Dev.readyFlags_due (d : Dev) :
    (Dev.readyFlags d).flt.due = d.flt.due := by
  unfold Dev.readyFlags; rfl

@[simp] theorem Dev.readyCommit_due (d : Dev) :
    (Dev.readyCommit d).flt.due = d.flt.due := by
  unfold Dev.readyCommit; simp [apply_ite (fun d : Dev => d.flt.due)]

@[simp] theorem Dev.powerCommit_due (d : Dev) :
    (Dev.powerCommit d).flt.due = d.flt.due := by
  unfold Dev.powerCommit; rfl

@[simp] theorem Dev.beginTest_due (d : Dev) (mask : Nat) :
    (Dev.beginTest d mask).flt.due = d.flt.due := by
  unfold Dev.beginTest; simp [Dev.eachSt_due, apply_ite (fun d : Dev => d.flt.due)]

@[simp] theorem Dev.analogOff_due (d : Dev) : d.analogOff.flt.due = d.flt.due := by
  unfold Dev.analogOff
  simp
  apply Dev.eachCh_due
  intro d n
  apply foldl_due
  simp

@[simp] theorem Dev.writeQuiet_due (d : Dev) (v : Nat) :
    (Dev.writeQuiet d v).flt.due = d.flt.due := by
  unfold Dev.writeQuiet; simp [apply_ite (fun d : Dev => d.flt.due)]

@[simp] theorem Dev.selfTest_due (d : Dev) (mask : Nat) :
    (Dev.selfTest d mask).flt.due = d.flt.due := by
  unfold Dev.selfTest; split <;> simp

@[simp] theorem Dev.activate_due (d : Dev) (f : Flash) (slot : Fin 2) (lenA : Nat) (lenB : Nat) :
    (Dev.activate d f slot lenA lenB).flt.due = d.flt.due := by
  unfold Dev.activate; exact id rfl

@[simp] theorem Dev.imageCmd_due (d : Dev) (v : Nat) :
    (Dev.imageCmd d v).flt.due = d.flt.due := by
  unfold Dev.imageCmd; dsimp only; (repeat' split) <;> simp

@[simp] theorem Dev.opNop_due (dv : Dev) (n : ChanId) (k : Fin 8) (count : BitVec 9) :
    (Dev.opNop dv n k count).flt.due = dv.flt.due := by
  unfold Dev.opNop; simp

@[simp] theorem Dev.opLdi_due (dv : Dev) (n : ChanId) (k : Fin 8) (d : Idx16) (imm : BitVec 14) :
    (Dev.opLdi dv n k d imm).flt.due = dv.flt.due := by
  unfold Dev.opLdi; simp

@[simp] theorem Dev.opLdh_due (dv : Dev) (n : ChanId) (k : Fin 8) (d : Idx16) (a : Idx16) (imm : BitVec 14) :
    (Dev.opLdh dv n k d a imm).flt.due = dv.flt.due := by
  unfold Dev.opLdh; simp

@[simp] theorem Dev.opMov_due (dv : Dev) (n : ChanId) (k : Fin 8) (d : Idx16) (a : Idx16) :
    (Dev.opMov dv n k d a).flt.due = dv.flt.due := by
  unfold Dev.opMov; simp

@[simp] theorem Dev.opLd_due (dv : Dev) (n : ChanId) (k : Fin 8) (d : Idx16) (b : Idx16) (region : BitVec 2) (offset : BitVec 12) :
    (Dev.opLd dv n k d b region offset).flt.due = dv.flt.due := by
  unfold Dev.opLd; simp

@[simp] theorem Dev.opSt_due (dv : Dev) (n : ChanId) (k : Fin 8) (a : Idx16) (b : Idx16) (region : BitVec 2) (offset : BitVec 12) :
    (Dev.opSt dv n k a b region offset).flt.due = dv.flt.due := by
  unfold Dev.opSt; simp

@[simp] theorem Dev.opEngIn_due (dv : Dev) (shown : Dev) (n : ChanId) (k : Fin 8) (d : Idx16) (port : BitVec 8) :
    (Dev.opEngIn dv shown n k d port).flt.due = dv.flt.due := by
  unfold Dev.opEngIn; simp

@[simp] theorem Dev.opEngOut_due (dv : Dev) (n : ChanId) (k : Fin 8) (a : Idx16) (port : BitVec 8) :
    (Dev.opEngOut dv n k a port).flt.due = dv.flt.due := by
  unfold Dev.opEngOut; simp

@[simp] theorem Dev.opLut_due (dv : Dev) (n : ChanId) (k : Fin 8) (d : Idx16) (a : Idx16) (sh : BitVec 4) (base : BitVec 10) :
    (Dev.opLut dv n k d a sh base).flt.due = dv.flt.due := by
  unfold Dev.opLut; simp

@[simp] theorem Dev.opLuti_due (dv : Dev) (n : ChanId) (k : Fin 8) (d : Idx16) (a : Idx16) (sh : BitVec 4) (base : BitVec 10) :
    (Dev.opLuti dv n k d a sh base).flt.due = dv.flt.due := by
  unfold Dev.opLuti; simp

@[simp] theorem Dev.opAdd_due (dv : Dev) (n : ChanId) (k : Fin 8) (d : Idx16) (a : Idx16) (b : Idx16) :
    (Dev.opAdd dv n k d a b).flt.due = dv.flt.due := by
  unfold Dev.opAdd; simp

@[simp] theorem Dev.opSub_due (dv : Dev) (n : ChanId) (k : Fin 8) (d : Idx16) (a : Idx16) (b : Idx16) :
    (Dev.opSub dv n k d a b).flt.due = dv.flt.due := by
  unfold Dev.opSub; simp

@[simp] theorem Dev.opAddi_due (dv : Dev) (n : ChanId) (k : Fin 8) (d : Idx16) (a : Idx16) (imm : BitVec 14) :
    (Dev.opAddi dv n k d a imm).flt.due = dv.flt.due := by
  unfold Dev.opAddi; simp

@[simp] theorem Dev.opAddw_due (dv : Dev) (n : ChanId) (k : Fin 8) (d : Idx16) (a : Idx16) (b : Idx16) :
    (Dev.opAddw dv n k d a b).flt.due = dv.flt.due := by
  unfold Dev.opAddw; simp

@[simp] theorem Dev.opEngNeg_due (dv : Dev) (n : ChanId) (k : Fin 8) (d : Idx16) (a : Idx16) :
    (Dev.opEngNeg dv n k d a).flt.due = dv.flt.due := by
  unfold Dev.opEngNeg; simp

@[simp] theorem Dev.opEngAbs_due (dv : Dev) (n : ChanId) (k : Fin 8) (d : Idx16) (a : Idx16) :
    (Dev.opEngAbs dv n k d a).flt.due = dv.flt.due := by
  unfold Dev.opEngAbs; simp

@[simp] theorem Dev.opEngMin_due (dv : Dev) (n : ChanId) (k : Fin 8) (d : Idx16) (a : Idx16) (b : Idx16) :
    (Dev.opEngMin dv n k d a b).flt.due = dv.flt.due := by
  unfold Dev.opEngMin; simp

@[simp] theorem Dev.opEngMax_due (dv : Dev) (n : ChanId) (k : Fin 8) (d : Idx16) (a : Idx16) (b : Idx16) :
    (Dev.opEngMax dv n k d a b).flt.due = dv.flt.due := by
  unfold Dev.opEngMax; simp

@[simp] theorem Dev.opEngAnd_due (dv : Dev) (n : ChanId) (k : Fin 8) (d : Idx16) (a : Idx16) (b : Idx16) :
    (Dev.opEngAnd dv n k d a b).flt.due = dv.flt.due := by
  unfold Dev.opEngAnd; simp

@[simp] theorem Dev.opEngOr_due (dv : Dev) (n : ChanId) (k : Fin 8) (d : Idx16) (a : Idx16) (b : Idx16) :
    (Dev.opEngOr dv n k d a b).flt.due = dv.flt.due := by
  unfold Dev.opEngOr; (repeat' split) <;> simp

@[simp] theorem Dev.opEngXor_due (dv : Dev) (n : ChanId) (k : Fin 8) (d : Idx16) (a : Idx16) (b : Idx16) :
    (Dev.opEngXor dv n k d a b).flt.due = dv.flt.due := by
  unfold Dev.opEngXor; (repeat' split) <;> simp

@[simp] theorem Dev.opShl_due (dv : Dev) (n : ChanId) (k : Fin 8) (d : Idx16) (a : Idx16) (count : BitVec 6) :
    (Dev.opShl dv n k d a count).flt.due = dv.flt.due := by
  unfold Dev.opShl; (repeat' split) <;> simp

@[simp] theorem Dev.opShr_due (dv : Dev) (n : ChanId) (k : Fin 8) (d : Idx16) (a : Idx16) (mode : BitVec 2) (count : BitVec 6) :
    (Dev.opShr dv n k d a mode count).flt.due = dv.flt.due := by
  unfold Dev.opShr; (repeat' split) <;> simp

@[simp] theorem Dev.opEngSat_due (dv : Dev) (n : ChanId) (k : Fin 8) (d : Idx16) (a : Idx16) (width : BitVec 6) :
    (Dev.opEngSat dv n k d a width).flt.due = dv.flt.due := by
  unfold Dev.opEngSat; (repeat' split) <;> simp

@[simp] theorem Dev.opEngClamp_due (dv : Dev) (n : ChanId) (k : Fin 8) (d : Idx16) (a : Idx16) (b : Idx16) (c : Idx16) :
    (Dev.opEngClamp dv n k d a b c).flt.due = dv.flt.due := by
  unfold Dev.opEngClamp; (repeat' split) <;> simp

@[simp] theorem Dev.opSels_due (dv : Dev) (n : ChanId) (k : Fin 8) (d : Idx16) (a : Idx16) (b : Idx16) (c : Idx16) (zero : Bool) :
    (Dev.opSels dv n k d a b c zero).flt.due = dv.flt.due := by
  unfold Dev.opSels; (repeat' split) <;> simp

@[simp] theorem Dev.opExt_due (dv : Dev) (n : ChanId) (k : Fin 8) (d : Idx16) (a : Idx16) (signed : Bool) (msb : BitVec 6) (lsb : BitVec 6) :
    (Dev.opExt dv n k d a signed msb lsb).flt.due = dv.flt.due := by
  unfold Dev.opExt; (repeat' split) <;> simp

@[simp] theorem Dev.opIns_due (dv : Dev) (n : ChanId) (k : Fin 8) (d : Idx16) (a : Idx16) (msb : BitVec 6) (lsb : BitVec 6) :
    (Dev.opIns dv n k d a msb lsb).flt.due = dv.flt.due := by
  unfold Dev.opIns; (repeat' split) <;> simp

@[simp] theorem Dev.opMul_due (dv : Dev) (n : ChanId) (k : Fin 8) (d : Idx16) (a : Idx16) (b : Idx16) :
    (Dev.opMul dv n k d a b).flt.due = dv.flt.due := by
  unfold Dev.opMul; (repeat' split) <;> simp

@[simp] theorem Dev.opMac_due (dv : Dev) (n : ChanId) (k : Fin 8) (a : Idx16) (b : Idx16) (subtract : Bool) (acc1 : Bool) :
    (Dev.opMac dv n k a b subtract acc1).flt.due = dv.flt.due := by
  unfold Dev.opMac; (repeat' split) <;> simp

@[simp] theorem Dev.opAccrd_due (dv : Dev) (n : ChanId) (k : Fin 8) (d : Idx16) (clear : Bool) (acc1 : Bool) (mode : BitVec 2) (count : BitVec 6) :
    (Dev.opAccrd dv n k d clear acc1 mode count).flt.due = dv.flt.due := by
  unfold Dev.opAccrd; (repeat' split) <;> simp

@[simp] theorem Dev.opAccld_due (dv : Dev) (n : ChanId) (k : Fin 8) (a : Idx16) (acc1 : Bool) :
    (Dev.opAccld dv n k a acc1).flt.due = dv.flt.due := by
  unfold Dev.opAccld; (repeat' split) <;> simp

@[simp] theorem Dev.opPuts_due (dv : Dev) (n : ChanId) (k : Fin 8) (a : Idx16) (b : Idx16) (e : Idx16) :
    (Dev.opPuts dv n k a b e).flt.due = dv.flt.due := by
  unfold Dev.opPuts; (repeat' split) <;> simp

@[simp] theorem Dev.opTacc_due (dv : Dev) (n : ChanId) (k : Fin 8) (a : Idx16) (b : Idx16) (e : Idx16) :
    (Dev.opTacc dv n k a b e).flt.due = dv.flt.due := by
  unfold Dev.opTacc; (repeat' split) <;> simp

@[simp] theorem Dev.opFlag_due (dv : Dev) (n : ChanId) (k : Fin 8) (a : Idx16) (f : Idx16) :
    (Dev.opFlag dv n k a f).flt.due = dv.flt.due := by
  unfold Dev.opFlag; (repeat' split) <;> simp

@[simp] theorem Dev.opEngFault_due (dv : Dev) (n : ChanId) (k : Fin 8) (a : Idx16) (f2 : Bool) (code : BitVec 12) :
    (Dev.opEngFault dv n k a f2 code).flt.due = dv.flt.due := by
  unfold Dev.opEngFault; (repeat' split) <;> simp

@[simp] theorem Dev.opCorr_due (dv : Dev) (n : ChanId) (k : Fin 8) (a : Idx16) (b : Idx16) :
    (Dev.opCorr dv n k a b).flt.due = dv.flt.due := by
  unfold Dev.opCorr; (repeat' split) <;> simp

@[simp] theorem Dev.opCrd_due (dv : Dev) (n : ChanId) (k : Fin 8) (d : Idx16) (b : Idx16) (lag : BitVec 7) :
    (Dev.opCrd dv n k d b lag).flt.due = dv.flt.due := by
  unfold Dev.opCrd; (repeat' split) <;> simp

@[simp] theorem Dev.opCclr_due (dv : Dev) (n : ChanId) (k : Fin 8) (a : Idx16) :
    (Dev.opCclr dv n k a).flt.due = dv.flt.due := by
  unfold Dev.opCclr; (repeat' split) <;> simp

@[simp] theorem Dev.engWord_due (dv : Dev) (shown : Dev) (n : ChanId) (k : Fin 8) (w : Nat) :
    (Dev.engWord dv shown n k w).flt.due = dv.flt.due := by
  unfold Dev.engWord; (repeat' split) <;> simp

@[simp] theorem Dev.libStore_due (d : Dev) (n : ChanId) (k : Fin 8) (o : Nat) (cyc : Nat) (v : Int) :
    (Dev.libStore d n k o cyc v).flt.due = d.flt.due := by
  unfold Dev.libStore; (repeat' split) <;> simp

@[simp] theorem Dev.libCorrect_due (d : Dev) (n : ChanId) (mi : Bool) (j : Nat) :
    (Dev.libCorrect d n mi j).flt.due = d.flt.due := by
  unfold Dev.libCorrect; exact id rfl

@[simp] theorem Dev.libThresholds_due (d : Dev) (n : ChanId) :
    (Dev.libThresholds d n).flt.due = d.flt.due := by
  unfold Dev.libThresholds; rfl

@[simp] theorem Dev.libInterp_due (d : Dev) (n : ChanId) :
    (Dev.libInterp d n).flt.due = d.flt.due := by
  unfold Dev.libInterp; (repeat' split) <;> simp

@[simp] theorem Dev.libFeed_due (d : Dev) (n : ChanId) :
    (Dev.libFeed d n).flt.due = d.flt.due := by
  unfold Dev.libFeed; (repeat' split) <;> simp

@[simp] theorem Dev.libCycle_due (d : Dev) (shown : Dev) (n : ChanId) (c : Nat) :
    (Dev.libCycle d shown n c).flt.due = d.flt.due := by
  unfold Dev.libCycle; (repeat' split) <;> simp [apply_ite (fun d : Dev => d.flt.due)]

@[simp] theorem Dev.countSat_due (d : Dev) (n : ChanId) :
    (Dev.countSat d n).flt.due = d.flt.due := by
  unfold Dev.countSat; (repeat' split) <;> simp

@[simp] theorem Dev.sysTake_due (d : Dev) (n : ChanId) :
    (Dev.sysTake d n).flt.due = d.flt.due := by
  unfold Dev.sysTake; (repeat' split) <;> simp

@[simp] theorem Dev.dropWindow_due (d : Dev) (n : ChanId) :
    (Dev.dropWindow d n).flt.due = d.flt.due := by
  unfold Dev.dropWindow; (repeat' split) <;> simp

@[simp] theorem Dev.tallyEnds_due (d : Dev) (n : ChanId) (inp : TickInputs) :
    (Dev.tallyEnds d n inp).flt.due = d.flt.due := by
  unfold Dev.tallyEnds; rfl

@[simp] theorem Dev.statusEnds_due (d : Dev) (n : ChanId) (inp : TickInputs) :
    (Dev.statusEnds d n inp).flt.due = d.flt.due := by
  unfold Dev.statusEnds; simp [apply_ite (fun d : Dev => d.flt.due)]

@[simp] theorem Dev.latchLoops_due (d : Dev) :
    (Dev.latchLoops d).flt.due = d.flt.due := by
  unfold Dev.latchLoops; simp [apply_ite (fun d : Dev => d.flt.due)]

@[simp] theorem Dev.measEnds_due (d : Dev) (n : ChanId) :
    (Dev.measEnds d n).flt.due = d.flt.due := by
  unfold Dev.measEnds; simp [apply_ite (fun d : Dev => d.flt.due)]

@[simp] theorem Dev.sysEnds_due (d : Dev) :
    (Dev.sysEnds d).flt.due = d.flt.due := by
  unfold Dev.sysEnds; (repeat' split) <;> simp

@[simp] theorem Dev.bgEnds_due (d : Dev) (n : ChanId) :
    (Dev.bgEnds d n).flt.due = d.flt.due := by
  unfold Dev.bgEnds; simp [apply_ite (fun d : Dev => d.flt.due)]

@[simp] theorem Dev.stallEnds_due (d : Dev) (inp : TickInputs) (s : StallId) :
    (Dev.stallEnds d inp s).flt.due = d.flt.due := by
  unfold Dev.stallEnds; dsimp only; (repeat' split) <;> simp [foldl_due]

@[simp] theorem Dev.monitorsEnd_due (d : Dev) (inp : TickInputs) (n : ChanId) :
    (Dev.monitorsEnd d inp n).flt.due = d.flt.due := by
  unfold Dev.monitorsEnd; simp [foldl_due, apply_ite (fun d : Dev => d.flt.due)]

@[simp] theorem Dev.haltEngines_due (d : Dev) (shown : Dev) (n : ChanId) :
    (Dev.haltEngines d shown n).flt.due = d.flt.due := by
  unfold Dev.haltEngines; simp [apply_ite (fun d : Dev => d.flt.due)]

@[simp] theorem Dev.modDict_due (d : Dev) (f : Dict → Dict) :
    (Dev.modDict d f).flt.due = d.flt.due := by
  unfold Dev.modDict; rfl

@[simp] theorem Dev.store_due (d : Dev) (r : ObjRow) (idx : Nat) (sub : Nat) (v : Nat) :
    (Dev.store d r idx sub v).flt.due = d.flt.due := by
  unfold Dev.store; split <;> simp

@[simp] theorem Dev.entryWritten_due (d : Dev) (m : ChanId) (e : Nat) :
    (Dev.entryWritten d m e).flt.due = d.flt.due := by
  unfold Dev.entryWritten; dsimp only; (repeat' split) <;> simp

@[simp] theorem Dev.rpairWritten_due (d : Dev) (n : ChanId) (e : Nat) :
    (Dev.rpairWritten d n e).flt.due = d.flt.due := by
  unfold Dev.rpairWritten; simp [foldl_due, apply_ite (fun d : Dev => d.flt.due)]

@[simp] theorem Dev.sineCmd_due (d : Dev) (n : ChanId) (v : Nat) :
    (Dev.sineCmd d n v).flt.due = d.flt.due := by
  unfold Dev.sineCmd; (repeat' split) <;> simp

@[simp] theorem Dev.gustCmd_due (d : Dev) (n : ChanId) (v : Nat) :
    (Dev.gustCmd d n v).flt.due = d.flt.due := by
  unfold Dev.gustCmd; (repeat' split) <;> simp

@[simp] theorem Dev.tallyCmd_due (d : Dev) (n : ChanId) (v : Nat) :
    (Dev.tallyCmd d n v).flt.due = d.flt.due := by
  unfold Dev.tallyCmd; simp [apply_ite (fun d : Dev => d.flt.due)]

@[simp] theorem Dev.planWritten_due (d : Dev) (n : ChanId) (p : Nat) :
    (Dev.planWritten d n p).flt.due = d.flt.due := by
  unfold Dev.planWritten; (repeat' split) <;> simp [foldl_due, apply_ite (fun d : Dev => d.flt.due)]

@[simp] theorem Dev.evioWritten_due (d : Dev) (k : Nat) (old : Nat) (v : Nat) :
    (Dev.evioWritten d k old v).flt.due = d.flt.due := by
  unfold Dev.evioWritten; split <;> simp

@[simp] theorem Dev.exportWritten_due (d : Dev) :
    (Dev.exportWritten d).flt.due = d.flt.due := by
  unfold Dev.exportWritten; rfl

@[simp] theorem Dev.queueWrite_due (d : Dev) (cyc : Nat) (rank : Nat) (source : Nat) (sealedBy : Bool) (cmd : Bool) (req : HostReq) :
    (Dev.queueWrite d cyc rank source sealedBy cmd req).flt.due = d.flt.due := by
  unfold Dev.queueWrite; rfl

@[simp] theorem Dev.refuseFrom_due (d : Dev) (source : Nat) (obj : Nat) (code : Nat) :
    (Dev.refuseFrom d source obj code).flt.due = d.flt.due := by
  unfold Dev.refuseFrom; simp

@[simp] theorem Dev.request_due (d : Dev) (source : Nat) (rank : Nat) (cyc : Nat) (sealedBy : Bool) (idx : Nat) (sub : Nat) (len : Nat) (v : Nat) :
    (Dev.request d source rank cyc sealedBy idx sub len v).flt.due = d.flt.due := by
  unfold Dev.request; simp [apply_ite (fun d : Dev => d.flt.due)]

@[simp] theorem Dev.requestWhole_due (d : Dev) (source : Nat) (rank : Nat) (cyc : Nat) (idx : Nat) (vals : List Nat) :
    (Dev.requestWhole d source rank cyc idx vals).flt.due = d.flt.due := by
  unfold Dev.requestWhole; simp [apply_ite (fun d : Dev => d.flt.due)]

@[simp] theorem Dev.readMark_due (d : Dev) (shown : Dev) (obj : Nat) :
    (Dev.readMark d shown obj).flt.due = d.flt.due := by
  unfold Dev.readMark; (repeat' split) <;> simp

@[simp] theorem Dev.answerRead_due (d : Dev) (shown : Dev) (source : Nat) (obj : Nat) (r : Except Nat (List Byte)) :
    (Dev.answerRead d shown source obj r).flt.due = d.flt.due := by
  unfold Dev.answerRead; split <;> simp

@[simp] theorem Dev.objAnswer_due (d : Dev) :
    (Dev.objAnswer d).flt.due = d.flt.due := by
  unfold Dev.objAnswer; simp [apply_ite (fun d : Dev => d.flt.due)]

@[simp] theorem Dev.bulkDone_due (d : Dev) (source : Nat) (code : Nat) :
    (Dev.bulkDone d source code).flt.due = d.flt.due := by
  unfold Dev.bulkDone; (repeat' split) <;> simp

@[simp] theorem Dev.modEc_due (d : Dev) (f : EtherCat → EtherCat) :
    (Dev.modEc d f).flt.due = d.flt.due := by
  unfold Dev.modEc; rfl

@[simp] theorem Dev.frameObject_due (d : Dev) (cyc : Nat) (newSet : Bool) (obj : Nat) (v : Nat) :
    (Dev.frameObject d cyc newSet obj v).flt.due = d.flt.due := by
  unfold Dev.frameObject; dsimp only; (repeat' split) <;> simp

@[simp] theorem Dev.processFrame_due (d : Dev) (outs : List (Nat × Nat)) (cyc : Nat) :
    (Dev.processFrame d outs cyc).flt.due = d.flt.due := by
  unfold Dev.processFrame; simp [foldl_due, apply_ite (fun d : Dev => d.flt.due)]

@[simp] theorem Dev.latchInputs_due (d : Dev) (shown : Dev) :
    (Dev.latchInputs d shown).flt.due = d.flt.due := by
  unfold Dev.latchInputs; split <;> simp

@[simp] theorem Dev.esmRefuse_due (d : Dev) (want : Nat) (code : Nat) :
    (Dev.esmRefuse d want code).flt.due = d.flt.due := by
  unfold Dev.esmRefuse; simp

@[simp] theorem Dev.esmGo_due (d : Dev) (st : EsmState) (err : Bool) :
    (Dev.esmGo d st err).flt.due = d.flt.due := by
  unfold Dev.esmGo; rfl

@[simp] theorem Dev.wdAction_due (d : Dev) (cyc : Nat) :
    (Dev.wdAction d cyc).flt.due = d.flt.due := by
  unfold Dev.wdAction; split <;> simp

@[simp] theorem Dev.leaveOp_due (d : Dev) (st : EsmState) (err : Bool) (cyc : Nat) :
    (Dev.leaveOp d st err cyc).flt.due = d.flt.due := by
  unfold Dev.leaveOp; simp

@[simp] theorem Dev.opError_due (d : Dev) (code : Nat) (cyc : Nat) :
    (Dev.opError d code cyc).flt.due = d.flt.due := by
  unfold Dev.opError; simp

@[simp] theorem Dev.noteApplied_due (d : Dev) (e : Vector Ending 64) (old : Vector Channel 64) :
    (Dev.noteApplied d e old).flt.due = d.flt.due := by
  unfold Dev.noteApplied; rfl

@[simp] theorem Dev.e0Value_due (d : Dev) (e : Vector Ending 64) (n : ChanId) (lead : Option (OuterLoop × Int)) (share : Int) :
    (Dev.e0Value d e n lead share).flt.due = d.flt.due := by
  unfold Dev.e0Value; dsimp only; (repeat' split) <;> simp

@[simp] theorem Dev.gangSetpoints_due (d : Dev) (e : Vector Ending 64) (n : ChanId) :
    (Dev.gangSetpoints d e n).flt.due = d.flt.due := by
  unfold Dev.gangSetpoints; simp [foldl_due, apply_ite (fun d : Dev => d.flt.due)]

@[simp] theorem Dev.rampSetpoint_due (d : Dev) (e : Vector Ending 64) (n : ChanId) :
    (Dev.rampSetpoint d e n).flt.due = d.flt.due := by
  unfold Dev.rampSetpoint; simp [apply_ite (fun d : Dev => d.flt.due)]

@[simp] theorem Dev.setpoints_due (d : Dev) (e : Vector Ending 64) :
    (Dev.setpoints d e).flt.due = d.flt.due := by
  unfold Dev.setpoints; simp [Dev.eachCh_due, apply_ite (fun d : Dev => d.flt.due)]

@[simp] theorem Dev.tickProducers_due (d : Dev) :
    (Dev.tickProducers d).flt.due = d.flt.due := by
  unfold Dev.tickProducers; simp [apply_ite (fun d : Dev => d.flt.due)]

@[simp] theorem Dev.unitsCommit_due (d : Dev) (old : Vector Channel 64) (applied : List (ChanId × Selected)) (n : ChanId) :
    (Dev.unitsCommit d old applied n).flt.due = d.flt.due := by
  unfold Dev.unitsCommit; dsimp only; (repeat' split) <;> simp

@[simp] theorem Dev.presentEntries_due (d : Dev) (e : Vector Ending 64) :
    (Dev.presentEntries d e).flt.due = d.flt.due := by
  unfold Dev.presentEntries; rfl

@[simp] theorem Dev.countHeld_due (d : Dev) (shown : Dev) (n : ChanId) :
    (Dev.countHeld d shown n).flt.due = d.flt.due := by
  unfold Dev.countHeld; simp [apply_ite (fun d : Dev => d.flt.due)]

@[simp] theorem Dev.channelStarts_due (d : Dev) (inp : TickInputs) (n : ChanId) :
    (Dev.channelStarts d inp n).flt.due = d.flt.due := by
  unfold Dev.channelStarts; split <;> simp

@[simp] theorem Dev.modPcie_due (d : Dev) (f : Pcie → Pcie) :
    (Dev.modPcie d f).flt.due = d.flt.due := by
  unfold Dev.modPcie; rfl

@[simp] theorem Dev.modQueue_due (d : Dev) (q : QueueId) (f : Queue → Queue) :
    (Dev.modQueue d q f).flt.due = d.flt.due := by
  unfold Dev.modQueue; rfl

@[simp] theorem Dev.linkDown_due (d : Dev) :
    (Dev.linkDown d).flt.due = d.flt.due := by
  unfold Dev.linkDown; exact id rfl

@[simp] theorem Dev.haltQueue_due (d : Dev) (q : QueueId) (cause : Nat) :
    (Dev.haltQueue d q cause).flt.due = d.flt.due := by
  unfold Dev.haltQueue; rfl

@[simp] theorem Dev.haltAll_due (d : Dev) :
    (Dev.haltAll d).flt.due = d.flt.due := by
  unfold Dev.haltAll; simp [apply_ite (fun d : Dev => d.flt.due)]

@[simp] theorem Dev.badWindow_due (d : Dev) (write : Bool) (offset : Nat) :
    (Dev.badWindow d write offset).flt.due = d.flt.due := by
  unfold Dev.badWindow; split <;> simp

@[simp] theorem Dev.ringHalt_due (d : Dev) (q : QueueId) (tail : Nat) :
    (Dev.ringHalt d q tail).flt.due = d.flt.due := by
  unfold Dev.ringHalt; simp

@[simp] theorem Dev.exportTail_due (d : Dev) (tail : Nat) :
    (Dev.exportTail d tail).flt.due = d.flt.due := by
  unfold Dev.exportTail; simp [apply_ite (fun d : Dev => d.flt.due)]

@[simp] theorem Dev.objRefuse_due (d : Dev) (obj : Nat) (code : Nat) :
    (Dev.objRefuse d obj code).flt.due = d.flt.due := by
  unfold Dev.objRefuse; simp

end Sys2Proof.Machine
end

