-- ==== Sys2Proof/Laws/Answers.lean ====
section
/-! SUPPORT. Laws of the answers of the module: what a refusal, a violation entry, a fault raised and an interrupt leave. -/

namespace Sys2Proof.Machine

open Sys2Proof

/-- A violation changes the logs, its counter and the interrupts. -/
theorem Dev.violate_eq (d : Dev) (a b c e : Nat) : d.violate a b c e =
    { d with flt := (d.violate a b c e).flt, regs := (d.violate a b c e).regs, pcie := (d.violate a b c e).pcie } := by
  cases d; unfold Dev.violate; dsimp only; repeat' (first | rfl | split)

@[simp] theorem Dev.violate_tick (d : Dev) (a b c e : Nat) : (d.violate a b c e).tick = d.tick := by rw [d.violate_eq]
@[simp] theorem Dev.refuse_tick (d : Dev) (o a : Nat) : (d.refuse o a).tick = d.tick := by
  unfold Dev.refuse; rw [Dev.violate_tick]
@[simp] theorem Dev.violate_power (d : Dev) (a b c e : Nat) : (d.violate a b c e).power = d.power := by rw [d.violate_eq]
@[simp] theorem Dev.refuse_power (d : Dev) (o a : Nat) : (d.refuse o a).power = d.power := by
  unfold Dev.refuse; rw [Dev.violate_power]
@[simp] theorem Dev.violate_sync (d : Dev) (a b c e : Nat) : (d.violate a b c e).sync = d.sync := by rw [d.violate_eq]
@[simp] theorem Dev.refuse_sync (d : Dev) (o a : Nat) : (d.refuse o a).sync = d.sync := by
  unfold Dev.refuse; rw [Dev.violate_sync]
@[simp] theorem Dev.violate_fab (d : Dev) (a b c e : Nat) : (d.violate a b c e).fab = d.fab := by rw [d.violate_eq]
@[simp] theorem Dev.refuse_fab (d : Dev) (o a : Nat) : (d.refuse o a).fab = d.fab := by
  unfold Dev.refuse; rw [Dev.violate_fab]
@[simp] theorem Dev.violate_fifo (d : Dev) (a b c e : Nat) : (d.violate a b c e).fifo = d.fifo := by rw [d.violate_eq]
@[simp] theorem Dev.refuse_fifo (d : Dev) (o a : Nat) : (d.refuse o a).fifo = d.fifo := by
  unfold Dev.refuse; rw [Dev.violate_fifo]
@[simp] theorem Dev.violate_dict (d : Dev) (a b c e : Nat) : (d.violate a b c e).dict = d.dict := by rw [d.violate_eq]
@[simp] theorem Dev.refuse_dict (d : Dev) (o a : Nat) : (d.refuse o a).dict = { d.dict with abort := a } := by
  unfold Dev.refuse; rw [Dev.violate_dict]
@[simp] theorem Dev.violate_ec (d : Dev) (a b c e : Nat) : (d.violate a b c e).ec = d.ec := by rw [d.violate_eq]
@[simp] theorem Dev.refuse_ec (d : Dev) (o a : Nat) : (d.refuse o a).ec = d.ec := by
  unfold Dev.refuse; rw [Dev.violate_ec]
@[simp] theorem Dev.violate_load (d : Dev) (a b c e : Nat) : (d.violate a b c e).load = d.load := by rw [d.violate_eq]
@[simp] theorem Dev.refuse_load (d : Dev) (o a : Nat) : (d.refuse o a).load = d.load := by
  unfold Dev.refuse; rw [Dev.violate_load]
@[simp] theorem Dev.violate_sec (d : Dev) (a b c e : Nat) : (d.violate a b c e).sec = d.sec := by rw [d.violate_eq]
@[simp] theorem Dev.refuse_sec (d : Dev) (o a : Nat) : (d.refuse o a).sec = d.sec := by
  unfold Dev.refuse; rw [Dev.violate_sec]
@[simp] theorem Dev.violate_mem (d : Dev) (a b c e : Nat) : (d.violate a b c e).mem = d.mem := by rw [d.violate_eq]
@[simp] theorem Dev.refuse_mem (d : Dev) (o a : Nat) : (d.refuse o a).mem = d.mem := by
  unfold Dev.refuse; rw [Dev.violate_mem]
@[simp] theorem Dev.violate_cal (d : Dev) (a b c e : Nat) : (d.violate a b c e).cal = d.cal := by rw [d.violate_eq]
@[simp] theorem Dev.refuse_cal (d : Dev) (o a : Nat) : (d.refuse o a).cal = d.cal := by
  unfold Dev.refuse; rw [Dev.violate_cal]
@[simp] theorem Dev.violate_stalls (d : Dev) (a b c e : Nat) : (d.violate a b c e).stalls = d.stalls := by rw [d.violate_eq]
@[simp] theorem Dev.refuse_stalls (d : Dev) (o a : Nat) : (d.refuse o a).stalls = d.stalls := by
  unfold Dev.refuse; rw [Dev.violate_stalls]
@[simp] theorem Dev.violate_chans (d : Dev) (a b c e : Nat) : (d.violate a b c e).chans = d.chans := by rw [d.violate_eq]
@[simp] theorem Dev.refuse_chans (d : Dev) (o a : Nat) : (d.refuse o a).chans = d.chans := by
  unfold Dev.refuse; rw [Dev.violate_chans]
@[simp] theorem Dev.violate_parkNow (d : Dev) (a b c e : Nat) : (d.violate a b c e).parkNow = d.parkNow := by rw [d.violate_eq]
@[simp] theorem Dev.refuse_parkNow (d : Dev) (o a : Nat) : (d.refuse o a).parkNow = d.parkNow := by
  unfold Dev.refuse; rw [Dev.violate_parkNow]
@[simp] theorem Dev.violate_wrote (d : Dev) (a b c e : Nat) : (d.violate a b c e).wrote = d.wrote := by rw [d.violate_eq]
@[simp] theorem Dev.refuse_wrote (d : Dev) (o a : Nat) : (d.refuse o a).wrote = d.wrote := by
  unfold Dev.refuse; rw [Dev.violate_wrote]
@[simp] theorem Dev.violate_freeCtr (d : Dev) (a b c e : Nat) : (d.violate a b c e).freeCtr = d.freeCtr := by rw [d.violate_eq]
@[simp] theorem Dev.refuse_freeCtr (d : Dev) (o a : Nat) : (d.refuse o a).freeCtr = d.freeCtr := by
  unfold Dev.refuse; rw [Dev.violate_freeCtr]

/-- The latest entry of the violation log is the violation (R507). -/
theorem Dev.violate_viol (d : Dev) (a b c e : Nat) : (d.violate a b c e).flt.viol =
    (d.flt.viol ++ [(⟨d.tick, a, b, c, e, d.flt.violSeq⟩ : ViolEntry)]).drop (d.flt.viol.length - 255) := by
  unfold Dev.violate; dsimp only
  simp only [Dev.raiseIrq, Dev.inc, Dev.setReg, apply_ite Dev.flt, ite_self]

theorem Dev.refuse_viol (d : Dev) (o a : Nat) : (d.refuse o a).flt.viol =
    (d.flt.viol ++ [(⟨d.tick, d.dict.source, 0x0120, o * 256, a, d.flt.violSeq⟩ : ViolEntry)]).drop (d.flt.viol.length - 255) :=
  Dev.violate_viol ..

end Sys2Proof.Machine
end

