-- ==== Sys2Proof/Laws/Commands.lean ====
section
/-! SUPPORT. Laws of commands: what a command of the released module leaves, by whether it acts inside a tick or at a
commit. -/

namespace Sys2Proof.Machine

open Sys2Proof

/-- A command inside a tick of the released module gives what it makes of the module. -/
theorem gives_in {s : State} {c : Instr} {f : Dev → Dev} {P : State → Prop} (h : s.inside) (he : exec c s = liveIn s f)
    (hp : P (s.inTick (f s.dev))) : Gives c s P := ⟨_, he.trans (liveIn_next s f h), hp⟩

/-- A command at a commit of the released module gives what it makes of the module, and reads see it. -/
theorem gives_at {s : State} {c : Instr} {f : Dev → Dev} {P : State → Prop} (h : s.live) (he : exec c s = liveAt s f)
    (hp : P (s.atCommit (f s.dev))) : Gives c s P := ⟨_, he.trans (liveAt_next s f h), hp⟩

/-- A command that needs no release gives what it makes of the module. -/
theorem gives_runAt {s : State} {c : Instr} {f : Dev → Dev} {P : State → Prop} (he : exec c s = runAt s f)
    (hp : P (s.atCommit (f s.dev))) : Gives c s P := ⟨_, he, hp⟩

theorem gives_runIn {s : State} {c : Instr} {f : Dev → Dev} {P : State → Prop} (he : exec c s = runIn s f)
    (hp : P (s.inTick (f s.dev))) : Gives c s P := ⟨_, he, hp⟩

/-- A channel in no gang serves itself (R106). -/
theorem Dev.leaderOf_alone (d : Dev) (n : ChanId) (h : d.role n = 0) : d.leaderOf n = n := by simp [Dev.leaderOf, h]

theorem Dev.members_alone (d : Dev) (n : ChanId) (h : d.role n = 0) : d.members n = [n] := by simp [Dev.members, h]

theorem Dev.cfg_alone (d : Dev) (n : ChanId) (h : d.role n = 0) : d.cfg n = d.ch n := by simp [Dev.cfg, d.leaderOf_alone n h]

end Sys2Proof.Machine
end

