-- ==== Sys2Proof/Laws/Cores.lean ====
section
/-! SUPPORT. What an event of the fabric leaves of every channel: its force path, barker, loops, tallies, records, monitors,
engines and calibration. -/

namespace Sys2Proof.Machine

open Sys2Proof

/-- The channels without what an event of the fabric can change in them. -/
def Dev.cores (d : Dev) : Vector Channel 64 := d.chans.map (·.still)

theorem foldl_still {α : Type} (f : Channel → α → Channel) (h : ∀ c x, (f c x).still = c.still) (l : List α) (c : Channel) :
    (l.foldl f c).still = c.still := by
  induction l generalizing c with
  | nil => rfl
  | cons x l ih => simp [List.foldl, ih, h]

@[simp] theorem Channel.setReg_still (c : Channel) (k : Nat) (v : Nat) :
    (Channel.setReg c k v).still = c.still := by
  unfold Channel.setReg; exact id rfl

@[simp] theorem Channel.inc_still (c : Channel) (w : Nat) (k : Nat) :
    (Channel.inc c w k).still = c.still := by
  unfold Channel.inc; exact id rfl

@[simp] theorem Channel.orReg_still (c : Channel) (k : Nat) (v : Nat) :
    (Channel.orReg c k v).still = c.still := by
  unfold Channel.orReg; exact id rfl

@[simp] theorem Channel.modGust_still (c : Channel) (f : Gust → Gust) :
    (Channel.modGust c f).still = c.still := by
  unfold Channel.modGust; exact id rfl

@[simp] theorem Channel.modConv_still (c : Channel) (mi : Bool) (f : Conv → Conv) :
    (Channel.modConv c mi f).still = c.still := by
  unfold Channel.modConv; (repeat' split) <;> rfl

@[simp] theorem Channel.sineLoad_still (c : Channel) (tick : Tick) (sub : Nat) :
    (Channel.sineLoad c tick sub).still = c.still := by
  unfold Channel.sineLoad; exact id rfl

@[simp] theorem Channel.sineOff_still (c : Channel) :
    (Channel.sineOff c).still = c.still := by
  unfold Channel.sineOff; exact id rfl

@[simp] theorem Channel.sineRescale_still (c : Channel) (oldLsb : Nat) (newLsb : Nat) :
    (Channel.sineRescale c oldLsb newLsb).still = c.still := by
  unfold Channel.sineRescale; exact id rfl

theorem foldl_cores {α : Type} (f : Dev → α → Dev) (h : ∀ d x, (f d x).cores = d.cores) (l : List α) (d : Dev) :
    (l.foldl f d).cores = d.cores := by
  induction l generalizing d with
  | nil => rfl
  | cons x l ih => simp [List.foldl, ih, h]

theorem foldl_cores1 {α β : Type} (f : Dev × β → α → Dev × β) (h : ∀ d x, (f d x).1.cores = d.1.cores) (l : List α)
    (d : Dev × β) : (l.foldl f d).1.cores = d.1.cores := by
  induction l generalizing d with
  | nil => rfl
  | cons x l ih => simp [List.foldl, ih, h]

@[simp] theorem Dev.cores_mk (tick regs power sync flt fab fifo dict ec load pcie sec mem cal stalls chans parkNow armBack wrote freeCtr) :
    (Dev.mk tick regs power sync flt fab fifo dict ec load pcie sec mem cal stalls chans parkNow armBack wrote freeCtr).cores =
      chans.map (·.still) := by
  exact id rfl

@[simp] theorem Dev.cores_self (d : Dev) : d.chans.map (·.still) = d.cores := by
  cases d; rfl

@[simp] theorem Dev.setReg_cores (d : Dev) (k v : Nat) : (d.setReg k v).cores = d.cores := by
  exact id rfl

@[simp] theorem Dev.modCh_cores (d : Dev) (n : ChanId) (f : Channel → Channel) (h : ∀ c, (f c).still = c.still) :
    (d.modCh n f).cores = d.cores := by
  unfold Dev.modCh Dev.setCh Dev.cores
  simp only []
  ext i hi
  simp only [Vector.getElem_map, Vector.getElem_set]
  split
  · next e => simp [h, Dev.ch, e]
  · rfl

theorem Dev.mapCh_cores (d : Dev) (f : ChanId → Channel → Channel) (h : ∀ n c, (f n c).still = c.still) :
    (d.mapCh f).cores = d.cores := by
  unfold Dev.mapCh Dev.cores
  ext1 i hi
  rw [Vector.getElem_map, Vector.getElem_map, Vector.getElem_ofFn]
  exact h _ _

theorem Dev.eachCh_cores (d : Dev) (f : Dev → ChanId → Dev) (h : ∀ d n, (f d n).cores = d.cores) :
    (d.eachCh f).cores = d.cores := foldl_cores f h _ d

theorem Dev.eachSt_cores (d : Dev) (f : Dev → StallId → Dev) (h : ∀ d n, (f d n).cores = d.cores) :
    (d.eachSt f).cores = d.cores := foldl_cores f h _ d

theorem Dev.inMask_cores (d : Dev) (m : Word64) (f : Dev → ChanId → Dev) (h : ∀ d n, (f d n).cores = d.cores) :
    (d.inMask m f).cores = d.cores := by
  unfold Dev.inMask; apply Dev.eachCh_cores; intro d n; split <;> simp [h]

@[simp] theorem Dev.inc_cores (d : Dev) (w : Nat) (k : Nat) :
    (Dev.inc d w k).cores = d.cores := by
  unfold Dev.inc; simp

@[simp] theorem Dev.incBy_cores (d : Dev) (w : Nat) (k : Nat) (n : Nat) :
    (Dev.incBy d w k n).cores = d.cores := by
  unfold Dev.incBy; simp [apply_ite Dev.cores]

@[simp] theorem Dev.setSt_cores (d : Dev) (s : StallId) (x : Stall) :
    (Dev.setSt d s x).cores = d.cores := by
  unfold Dev.setSt; simp

@[simp] theorem Dev.modSt_cores (d : Dev) (s : StallId) (f : Stall → Stall) :
    (Dev.modSt d s f).cores = d.cores := by
  unfold Dev.modSt; simp

@[simp] theorem Dev.setCreg_cores (d : Dev) (n : ChanId) (k : Nat) (v : Nat) :
    (Dev.setCreg d n k v).cores = d.cores := by
  unfold Dev.setCreg; simp

@[simp] theorem Dev.cinc_cores (d : Dev) (n : ChanId) (w : Nat) (k : Nat) :
    (Dev.cinc d n w k).cores = d.cores := by
  unfold Dev.cinc; simp

@[simp] theorem Dev.sinc_cores (d : Dev) (s : StallId) (w : Nat) (k : Nat) :
    (Dev.sinc d s w k).cores = d.cores := by
  unfold Dev.sinc; simp

@[simp] theorem Dev.trace_cores (d : Dev) (n : Option ChanId) (what : TraceKind) :
    (Dev.trace d n what).cores = d.cores := by
  unfold Dev.trace; simp

@[simp] theorem Dev.raiseAt_cores (d : Dev) (present : Tick) (code : Nat) (cls : Nat) (scope : Scope) (unit : Nat) (detail : Nat) (cause : optParam Nat 0) :
    (Dev.raiseAt d present code cls scope unit detail cause).cores = d.cores := by
  unfold Dev.raiseAt; simp

@[simp] theorem Dev.raiseCh_cores (d : Dev) (code : Nat) (cls : Nat) (n : ChanId) (detail : optParam Nat 0) :
    (Dev.raiseCh d code cls n detail).cores = d.cores := by
  unfold Dev.raiseCh; simp

@[simp] theorem Dev.raiseIrq_cores (d : Dev) (v : Nat) :
    (Dev.raiseIrq d v).cores = d.cores := by
  unfold Dev.raiseIrq; simp

@[simp] theorem Dev.violate_cores (d : Dev) (source : Nat) (code : Nat) (detail : Nat) (answer : Nat) :
    (Dev.violate d source code detail answer).cores = d.cores := by
  unfold Dev.violate; simp [apply_ite Dev.cores]

@[simp] theorem Dev.refuse_cores (d : Dev) (obj : Nat) (code : Nat) :
    (Dev.refuse d obj code).cores = d.cores := by
  unfold Dev.refuse; simp

@[simp] theorem Dev.served_cores (d : Dev) :
    (Dev.served d).cores = d.cores := by
  unfold Dev.served; simp

@[simp] theorem Dev.accept_cores (d : Dev) :
    (Dev.accept d).cores = d.cores := by
  unfold Dev.accept; simp [apply_ite Dev.cores]

@[simp] theorem Dev.beginConv_cores (d : Dev) (n : ChanId) (mi : Bool) (kind : ConvKind) (slot : Nat) (word : Nat) (x : Tick × Nat) :
    (Dev.beginConv d n mi kind slot word x).cores = d.cores := by
  unfold Dev.beginConv; simp

@[simp] theorem Dev.startRegular_cores (d : Dev) (n : ChanId) (mi : Bool) (x : Tick × Nat) :
    (Dev.startRegular d n mi x).cores = d.cores := by
  unfold Dev.startRegular; simp [apply_ite Dev.cores]

@[simp] theorem Dev.restartSeq_cores (d : Dev) (n : ChanId) :
    (Dev.restartSeq d n).cores = d.cores := by
  unfold Dev.restartSeq; dsimp only; (repeat' split) <;> simp

@[simp] theorem Dev.timerStart_cores (d : Dev) (n : ChanId) (mi : Bool) (second : Bool) :
    (Dev.timerStart d n mi second).cores = d.cores := by
  unfold Dev.timerStart; simp [apply_ite Dev.cores]

@[simp] theorem Dev.overrun_cores (d : Dev) (n : ChanId) (c : Nat) :
    (Dev.overrun d n c).cores = d.cores := by
  unfold Dev.overrun; dsimp only; (repeat' split) <;> (try simp) <;> (apply Dev.modCh_cores; intro c; first | exact id rfl | simp)

@[simp] theorem Dev.regularFire_cores (d : Dev) (o : ChanId) (mi : Bool) (x : Tick × Nat) :
    (Dev.regularFire d o mi x).cores = d.cores := by
  unfold Dev.regularFire; simp [foldl_cores, apply_ite Dev.cores]

@[simp] theorem Dev.injectedFire_cores (d : Dev) (o : ChanId) (mi : Bool) (x : Tick × Nat) :
    (Dev.injectedFire d o mi x).cores = d.cores := by
  unfold Dev.injectedFire; simp [foldl_cores, apply_ite Dev.cores]

@[simp] theorem Dev.pulseEnds_cores (d : Dev) (o : ChanId) (mi : Bool) (p : Pulse) :
    (Dev.pulseEnds d o mi p).cores = d.cores := by
  unfold Dev.pulseEnds; simp [apply_ite Dev.cores]

@[simp] theorem Dev.pulsesTo_cores (d : Dev) (o : ChanId) (mi : Bool) (x : Tick × Nat) :
    (Dev.pulsesTo d o mi x).cores = d.cores := by
  unfold Dev.pulsesTo; simp [foldl_cores, apply_ite Dev.cores]

@[simp] theorem Dev.triggered_cores (d : Dev) (o : ChanId) (mi : Bool) (inj : Bool) (qual : Nat) (width : Nat) (ev : Ev) :
    (Dev.triggered d o mi inj qual width ev).cores = d.cores := by
  unfold Dev.triggered; (repeat' split) <;> simp [apply_ite Dev.cores]

@[simp] theorem Dev.widenTrigger_cores (d : Dev) (o : ChanId) (mi : Bool) (inj : Bool) (ev : Ev) :
    (Dev.widenTrigger d o mi inj ev).cores = d.cores := by
  unfold Dev.widenTrigger; simp

@[simp] theorem Dev.regularTrigger_cores (d : Dev) (o : ChanId) (mi : Bool) (ev : Ev) :
    (Dev.regularTrigger d o mi ev).cores = d.cores := by
  unfold Dev.regularTrigger; simp [apply_ite Dev.cores]

@[simp] theorem Dev.injectedTrigger_cores (d : Dev) (o : ChanId) (mi : Bool) (ev : Ev) :
    (Dev.injectedTrigger d o mi ev).cores = d.cores := by
  unfold Dev.injectedTrigger; simp [apply_ite Dev.cores]

@[simp] theorem Dev.deferCal_cores (d : Dev) (n : ChanId) (mi : Bool) :
    (Dev.deferCal d n mi).cores = d.cores := by
  unfold Dev.deferCal; simp

@[simp] theorem Dev.calConversion_cores (d : Dev) (n : ChanId) (mi : Bool) :
    (Dev.calConversion d n mi).cores = d.cores := by
  unfold Dev.calConversion; simp [apply_ite Dev.cores]

@[simp] theorem Dev.wmUnqueue_cores (d : Dev) (n : ChanId) (m : Idx4) :
    (Dev.wmUnqueue d n m).cores = d.cores := by
  unfold Dev.wmUnqueue; simp

@[simp] theorem Dev.gustStop_cores (d : Dev) (n : ChanId) (x : Tick × Nat) :
    (Dev.gustStop d n x).cores = d.cores := by
  unfold Dev.gustStop; simp [foldl_cores]

@[simp] theorem Dev.gustEdge_cores (d : Dev) (n : ChanId) (x : Tick × Nat) :
    (Dev.gustEdge d n x).cores = d.cores := by
  unfold Dev.gustEdge; dsimp only; (repeat' split) <;> simp

@[simp] theorem Dev.collect_cores (d : Dev) (n : ChanId) (c : Nat) (busy : Bool) (ev : Ev) :
    (Dev.collect d n c busy ev).cores = d.cores := by
  unfold Dev.collect; dsimp only; (repeat' split) <;> (try simp) <;> (apply Dev.modCh_cores; intro c; first | exact id rfl | simp)

@[simp] theorem Dev.arrive_cores (d : Dev) (key : Nat) (x : Tick × Nat) :
    (Dev.arrive d key x).cores = d.cores := by
  unfold Dev.arrive; simp

@[simp] theorem Dev.sineReset_cores (d : Dev) (n : ChanId) (x : Tick × Nat) :
    (Dev.sineReset d n x).cores = d.cores := by
  unfold Dev.sineReset; dsimp only; (repeat' split) <;> (try simp) <;> (apply Dev.modCh_cores; intro c; first | exact id rfl | simp)

@[simp] theorem Dev.holdEdge_cores (d : Dev) (n : ChanId) (ev : Ev) : (d.holdEdge n ev).cores = d.cores := by
  unfold Dev.holdEdge; dsimp only
  split
  · simp
  · refine Eq.trans (Dev.modCh_cores _ _ _ fun c => ?_) (Dev.collect_cores d n 11 _ ev)
    cases c; rfl

@[simp] theorem Dev.consume_cores (d : Dev) (n : ChanId) (c : Nat) (ev : Ev) :
    (Dev.consume d n c ev).cores = d.cores := by
  unfold Dev.consume; (repeat' split) <;> simp [apply_ite Dev.cores]

@[simp] theorem Dev.drive_cores (d : Dev) (ovr : Nat) (p : OutPulse) (ev : Ev) :
    (Dev.drive d ovr p ev).cores = d.cores := by
  unfold Dev.drive; simp [apply_ite Dev.cores]

@[simp] theorem Dev.mergeDrive_cores (d : Dev) (p : OutPulse) :
    (Dev.mergeDrive d p).cores = d.cores := by
  unfold Dev.mergeDrive; simp

@[simp] theorem Dev.evioOut_cores (d : Dev) (k : Nat) (ev : Ev) :
    (Dev.evioOut d k ev).cores = d.cores := by
  unfold Dev.evioOut; simp [apply_ite Dev.cores]

@[simp] theorem Dev.mkoOut_cores (d : Dev) (k : StallId) (ev : Ev) :
    (Dev.mkoOut d k ev).cores = d.cores := by
  unfold Dev.mkoOut; simp [apply_ite Dev.cores]

@[simp] theorem Dev.auxFire_cores (d : Dev) (s : StallId) (x : Tick × Nat) :
    (Dev.auxFire d s x).cores = d.cores := by
  unfold Dev.auxFire; simp [apply_ite Dev.cores]

@[simp] theorem Dev.auxPulsesTo_cores (d : Dev) (s : StallId) (x : Tick × Nat) :
    (Dev.auxPulsesTo d s x).cores = d.cores := by
  unfold Dev.auxPulsesTo; simp [foldl_cores, apply_ite Dev.cores]

@[simp] theorem Dev.auxTrigger_cores (d : Dev) (s : StallId) (ev : Ev) :
    (Dev.auxTrigger d s ev).cores = d.cores := by
  unfold Dev.auxTrigger; dsimp only; (repeat' split) <;> simp

@[simp] theorem Dev.deliver_cores (d : Dev) (t : Nat) (ev : Ev) :
    (Dev.deliver d t ev).cores = d.cores := by
  unfold Dev.deliver; dsimp only; rw [foldl_cores]; (apply Dev.eachCh_cores; intro d n; exact foldl_cores _ (fun d c => Dev.consume_cores ..) _ _); (intro d x; (repeat' split) <;> simp)

@[simp] theorem Dev.carry_cores (d : Dev) (t : Nat) (inherited : List Nat) (ev : Ev) :
    (Dev.carry d t inherited ev).cores = d.cores := by
  unfold Dev.carry; simp [apply_ite Dev.cores]

@[simp] theorem Dev.fire_cores (d : Dev) (code : Nat) (inherited : List Nat) (high : Bool) (width : Nat) (cyc : Nat) :
    (Dev.fire d code inherited high width cyc).cores = d.cores := by
  unfold Dev.fire; simp [foldl_cores, apply_ite Dev.cores]

@[simp] theorem Dev.fireCommit_cores (d : Dev) (code : Nat) (inherited : optParam (List Nat) []) :
    (Dev.fireCommit d code inherited).cores = d.cores := by
  unfold Dev.fireCommit; simp

@[simp] theorem Dev.mkoLands_cores (d : Dev) :
    (Dev.mkoLands d).cores = d.cores := by
  unfold Dev.mkoLands; simp

@[simp] theorem Dev.fireBulk_cores (d : Dev) (code : Nat) (cause : Nat) :
    (Dev.fireBulk d code cause).cores = d.cores := by
  unfold Dev.fireBulk; simp [apply_ite Dev.cores]

@[simp] theorem Dev.spoolMarks_cores (d : Dev) (n : ChanId) :
    (Dev.spoolMarks d n).cores = d.cores := by
  unfold Dev.spoolMarks; simp [apply_ite Dev.cores]

@[simp] theorem Dev.seal_cores (d : Dev) :
    (Dev.seal d).cores = d.cores := by
  unfold Dev.seal; simp [foldl_cores, Dev.eachCh_cores]

@[simp] theorem Dev.rewind_cores (d : Dev) (key : Nat) (w : Word64) :
    (Dev.rewind d key w).cores = d.cores := by
  unfold Dev.rewind; simp [apply_ite Dev.cores]

@[simp] theorem Dev.undoStores_cores (d : Dev) (n : ChanId) :
    (Dev.undoStores d n).cores = d.cores := by
  unfold Dev.undoStores; simp [foldl_cores]

@[simp] theorem Dev.logFault_cores (d : Dev) (f : FaultRec) (act : Act) (nested : Bool) (switched : Bool) :
    (Dev.logFault d f act nested switched).cores = d.cores := by
  unfold Dev.logFault; simp [apply_ite Dev.cores]

@[simp] theorem Dev.setLatch_cores (d : Dev) (f : FaultRec) :
    (Dev.setLatch d f).cores = d.cores := by
  unfold Dev.setLatch; (repeat' split) <;> simp [Dev.eachSt_cores, apply_ite Dev.cores]

@[simp] theorem Dev.beginF5_cores (d : Dev) (f : FaultRec) :
    (Dev.beginF5 d f).cores = d.cores := by
  unfold Dev.beginF5; simp [Dev.eachSt_cores, apply_ite Dev.cores]

end Sys2Proof.Machine
end

