-- ==== Sys2Proof/Laws/Forces.lean ====
section
/-! SUPPORT. What each function leaves of the force paths: of one channel, and of all of them. -/

namespace Sys2Proof.Machine

open Sys2Proof

/-- The force paths of the channels. -/
def Dev.forces (d : Dev) : Vector Force 64 := d.chans.map (·.force)

theorem foldl_force {α : Type} (f : Channel → α → Channel) (h : ∀ c x, (f c x).force = c.force) (l : List α) (c : Channel) :
    (l.foldl f c).force = c.force := by
  induction l generalizing c with
  | nil => rfl
  | cons x l ih => simp [List.foldl, ih, h]

@[simp] theorem Channel.setReg_force (c : Channel) (k : Nat) (v : Nat) :
    (Channel.setReg c k v).force = c.force := by
  unfold Channel.setReg; simp

@[simp] theorem Channel.inc_force (c : Channel) (w : Nat) (k : Nat) :
    (Channel.inc c w k).force = c.force := by
  unfold Channel.inc; simp

@[simp] theorem Channel.orReg_force (c : Channel) (k : Nat) (v : Nat) :
    (Channel.orReg c k v).force = c.force := by
  unfold Channel.orReg; simp

@[simp] theorem Channel.modBk_force (c : Channel) (f : Barker → Barker) :
    (Channel.modBk c f).force = c.force := by
  unfold Channel.modBk; simp

@[simp] theorem Channel.modSpool_force (c : Channel) (f : Spool → Spool) :
    (Channel.modSpool c f).force = c.force := by
  unfold Channel.modSpool; simp

@[simp] theorem Channel.modGust_force (c : Channel) (f : Gust → Gust) :
    (Channel.modGust c f).force = c.force := by
  unfold Channel.modGust; simp

@[simp] theorem Channel.modEng_force (c : Channel) (f : Engines → Engines) :
    (Channel.modEng c f).force = c.force := by
  unfold Channel.modEng; simp

@[simp] theorem Channel.modConv_force (c : Channel) (mi : Bool) (f : Conv → Conv) :
    (Channel.modConv c mi f).force = c.force := by
  unfold Channel.modConv; simp [apply_ite Channel.force]

@[simp] theorem Channel.modWm_force (c : Channel) (m : Idx4) (f : Monitor → Monitor) :
    (Channel.modWm c m f).force = c.force := by
  unfold Channel.modWm; simp

@[simp] theorem Channel.modTally_force (c : Channel) (u : Idx16) (f : Tally → Tally) :
    (Channel.modTally c u f).force = c.force := by
  unfold Channel.modTally; simp

@[simp] theorem Channel.modEngine_force (c : Channel) (k : Fin 8) (f : Engine → Engine) :
    (Channel.modEngine c k f).force = c.force := by
  unfold Channel.modEngine; simp

@[simp] theorem Channel.sineLoad_force (c : Channel) (tick : Tick) (sub : Nat) :
    (Channel.sineLoad c tick sub).force = c.force := by
  unfold Channel.sineLoad; simp

@[simp] theorem Channel.sineStart_force (c : Channel) (now : Tick) (s : Idx16) :
    (Channel.sineStart c now s).force = c.force := by
  unfold Channel.sineStart; simp [apply_ite Channel.force]

@[simp] theorem Channel.sineOff_force (c : Channel) :
    (Channel.sineOff c).force = c.force := by
  unfold Channel.sineOff; simp

@[simp] theorem Channel.sinePhase_force (c : Channel) (now : Tick) :
    (Channel.sinePhase c now).force = c.force := by
  unfold Channel.sinePhase; simp [apply_ite Channel.force]

@[simp] theorem Channel.sineRewrite_force (c : Channel) (now : Tick) (amp : Bool) :
    (Channel.sineRewrite c now amp).force = c.force := by
  unfold Channel.sineRewrite; simp [apply_ite Channel.force]

@[simp] theorem Channel.sineRescale_force (c : Channel) (oldLsb : Nat) (newLsb : Nat) :
    (Channel.sineRescale c oldLsb newLsb).force = c.force := by
  unfold Channel.sineRescale; simp

@[simp] theorem Channel.wmRecode_force (c : Channel) (m : Idx4) :
    (Channel.wmRecode c m).force = c.force := by
  unfold Channel.wmRecode; simp

@[simp] theorem Channel.wmOff_force (c : Channel) (m : Idx4) :
    (Channel.wmOff c m).force = c.force := by
  unfold Channel.wmOff; simp

@[simp] theorem Channel.wmRestart_force (c : Channel) (m : Idx4) (now : Tick) :
    (Channel.wmRestart c m now).force = c.force := by
  unfold Channel.wmRestart; simp

@[simp] theorem Channel.wmSuspend_force (c : Channel) (m : Idx4) :
    (Channel.wmSuspend c m).force = c.force := by
  unfold Channel.wmSuspend; simp [apply_ite Channel.force]

@[simp] theorem Channel.gustArm_force (c : Channel) (p : Idx16) :
    (Channel.gustArm c p).force = c.force := by
  unfold Channel.gustArm; simp [apply_ite Channel.force]

@[simp] theorem Channel.gustDisarm_force (c : Channel) :
    (Channel.gustDisarm c).force = c.force := by
  unfold Channel.gustDisarm; simp

@[simp] theorem Channel.lwRestart_force (c : Channel) (history : Bool) :
    (Channel.lwRestart c history).force = c.force := by
  unfold Channel.lwRestart; simp

@[simp] theorem Channel.rescale_force (c : Channel) (now : Tick) (vr : Nat) (ir : Nat) (fi : Bool) (target : Int) :
    (Channel.rescale c now vr ir fi target).force = c.force := by
  unfold Channel.rescale; simp [apply_ite Channel.force]

@[simp] theorem Channel.compSet_force (c : Channel) (now : Tick) (s : Nat) :
    (Channel.compSet c now s).force = c.force := by
  unfold Channel.compSet; simp [apply_ite Channel.force]

@[simp] theorem Channel.compArm_force (c : Channel) (now : Tick) (init : Nat) (fixed : Bool) :
    (Channel.compArm c now init fixed).force = c.force := by
  unfold Channel.compArm; simp

@[simp] theorem Channel.tallyWindow_force (c : Channel) :
    (Channel.tallyWindow c).force = c.force := by
  unfold Channel.tallyWindow; dsimp only; (repeat' split) <;> simp [apply_ite Channel.force, foldl_force]

@[simp] theorem Channel.tallyTick_force (c : Channel) (flags : BitVec 32) (isHeld : Bool) (isProbe : Bool) :
    (Channel.tallyTick c flags isHeld isProbe).force = c.force := by
  unfold Channel.tallyTick; simp

@[simp] theorem Channel.seqFlag_force (c : Channel) (b : Nat) :
    (Channel.seqFlag c b).force = c.force := by
  unfold Channel.seqFlag; simp

@[simp] theorem Channel.modEntry_force (c : Channel) (i : Idx16) (f : Entry → Entry) :
    (Channel.modEntry c i f).force = c.force := by
  unfold Channel.modEntry; simp

@[simp] theorem Channel.runSet_force (c : Channel) (k : Nat) :
    (Channel.runSet c k).force = c.force := by
  unfold Channel.runSet; simp

@[simp] theorem Channel.outerRestart_force (c : Channel) :
    (Channel.outerRestart c).force = c.force := by
  unfold Channel.outerRestart; simp

@[simp] theorem Channel.shift_force (c : Channel) (k : Tick) :
    (Channel.shift c k).force = c.force := by
  unfold Channel.shift; exact id rfl

@[simp] theorem Channel.libTally_force (c : Channel) (mi : Bool) (j : Nat) :
    (Channel.libTally c mi j).force = c.force := by
  unfold Channel.libTally; simp

@[simp] theorem Channel.libFlag_force (c : Channel) (f : Nat) (v : Bool) :
    (Channel.libFlag c f v).force = c.force := by
  unfold Channel.libFlag; simp [apply_ite Channel.force]

@[simp] theorem Channel.libWatch_force (c : Channel) (w : Vector Monitor 4) :
    (Channel.libWatch c w).force = c.force := by
  unfold Channel.libWatch; simp

@[simp] theorem Channel.takePorts_force (c : Channel) (now : Tick) :
    (Channel.takePorts c now).force = c.force := by
  unfold Channel.takePorts; dsimp only; (repeat' split) <;> simp

@[simp] theorem Channel.noteSamples_force (c : Channel) (t : Tick) :
    (Channel.noteSamples c t).force = c.force := by
  unfold Channel.noteSamples; simp

@[simp] theorem Channel.nextEntries_force (c : Channel) :
    (Channel.nextEntries c).force = c.force := by
  unfold Channel.nextEntries; simp

@[simp] theorem Channel.spoilClamped_force (c : Channel) (t : Tick) :
    (Channel.spoilClamped c t).force = c.force := by
  unfold Channel.spoilClamped; simp [apply_ite Channel.force]

@[simp] theorem Channel.bgTick_force (c : Channel) (t : Tick) :
    (Channel.bgTick c t).force = c.force := by
  unfold Channel.bgTick; exact id rfl

@[simp] theorem Channel.endRun_force (c : Channel) (t : Tick) :
    (Channel.endRun c t).force = c.force := by
  unfold Channel.endRun; (repeat' split) <;> simp

@[simp] theorem Channel.spanTick_force (c : Channel) (e : Ending) :
    (Channel.spanTick c e).force = c.force := by
  unfold Channel.spanTick; simp

@[simp] theorem Channel.probe_force (c : Channel) (on : Bool) :
    (Channel.probe c on).force = c.force := by
  unfold Channel.probe; simp [apply_ite Channel.force]

@[simp] theorem Channel.sineDue_force (c : Channel) (t : Tick) :
    (Channel.sineDue c t).force = c.force := by
  unfold Channel.sineDue; (repeat' split) <;> simp

@[simp] theorem Channel.overrunsEnd_force (c : Channel) :
    (Channel.overrunsEnd c).force = c.force := by
  unfold Channel.overrunsEnd; simp

theorem foldl_forces {α : Type} (f : Dev → α → Dev) (h : ∀ d x, (f d x).forces = d.forces) (l : List α) (d : Dev) :
    (l.foldl f d).forces = d.forces := by
  induction l generalizing d with
  | nil => rfl
  | cons x l ih => simp [List.foldl, ih, h]

theorem foldl_forces1 {α β : Type} (f : Dev × β → α → Dev × β) (h : ∀ d x, (f d x).1.forces = d.1.forces) (l : List α)
    (d : Dev × β) : (l.foldl f d).1.forces = d.1.forces := by
  induction l generalizing d with
  | nil => rfl
  | cons x l ih => simp [List.foldl, ih, h]

@[simp] theorem Dev.forces_mk (tick regs power sync flt fab fifo dict ec load pcie sec mem cal stalls chans parkNow armBack wrote freeCtr) :
    (Dev.mk tick regs power sync flt fab fifo dict ec load pcie sec mem cal stalls chans parkNow armBack wrote freeCtr).forces =
      chans.map (·.force) := by
  exact id rfl

@[simp] theorem Dev.forces_self (d : Dev) : d.chans.map (·.force) = d.forces := by
  cases d; rfl

@[simp] theorem Dev.setReg_forces (d : Dev) (k v : Nat) : (d.setReg k v).forces = d.forces := by
  exact id rfl

@[simp] theorem Dev.modCh_forces (d : Dev) (n : ChanId) (f : Channel → Channel) (h : ∀ c, (f c).force = c.force) :
    (d.modCh n f).forces = d.forces := by
  unfold Dev.modCh Dev.setCh Dev.forces
  simp only []
  ext i hi
  simp only [Vector.getElem_map, Vector.getElem_set]
  split
  · next e => simp [h, Dev.ch, e]
  · rfl

theorem Dev.mapCh_forces (d : Dev) (f : ChanId → Channel → Channel) (h : ∀ n c, (f n c).force = c.force) :
    (d.mapCh f).forces = d.forces := by
  unfold Dev.mapCh Dev.forces
  ext1 i hi
  rw [Vector.getElem_map, Vector.getElem_map, Vector.getElem_ofFn]
  exact h _ _

theorem Dev.eachCh_forces (d : Dev) (f : Dev → ChanId → Dev) (h : ∀ d n, (f d n).forces = d.forces) :
    (d.eachCh f).forces = d.forces := foldl_forces f h _ d

theorem Dev.eachSt_forces (d : Dev) (f : Dev → StallId → Dev) (h : ∀ d n, (f d n).forces = d.forces) :
    (d.eachSt f).forces = d.forces := foldl_forces f h _ d

theorem Dev.inMask_forces (d : Dev) (m : Word64) (f : Dev → ChanId → Dev) (h : ∀ d n, (f d n).forces = d.forces) :
    (d.inMask m f).forces = d.forces := by
  unfold Dev.inMask; apply Dev.eachCh_forces; intro d n; split <;> simp [h]

@[simp] theorem Dev.inc_forces (d : Dev) (w : Nat) (k : Nat) :
    (Dev.inc d w k).forces = d.forces := by
  unfold Dev.inc; simp

@[simp] theorem Dev.incBy_forces (d : Dev) (w : Nat) (k : Nat) (n : Nat) :
    (Dev.incBy d w k n).forces = d.forces := by
  unfold Dev.incBy; simp [apply_ite Dev.forces]

@[simp] theorem Dev.setSt_forces (d : Dev) (s : StallId) (x : Stall) :
    (Dev.setSt d s x).forces = d.forces := by
  unfold Dev.setSt; simp

@[simp] theorem Dev.modSt_forces (d : Dev) (s : StallId) (f : Stall → Stall) :
    (Dev.modSt d s f).forces = d.forces := by
  unfold Dev.modSt; simp

@[simp] theorem Dev.setCreg_forces (d : Dev) (n : ChanId) (k : Nat) (v : Nat) :
    (Dev.setCreg d n k v).forces = d.forces := by
  unfold Dev.setCreg; simp

@[simp] theorem Dev.cinc_forces (d : Dev) (n : ChanId) (w : Nat) (k : Nat) :
    (Dev.cinc d n w k).forces = d.forces := by
  unfold Dev.cinc; simp

@[simp] theorem Dev.setSreg_forces (d : Dev) (s : StallId) (k : Nat) (v : Nat) :
    (Dev.setSreg d s k v).forces = d.forces := by
  unfold Dev.setSreg; simp

@[simp] theorem Dev.sinc_forces (d : Dev) (s : StallId) (w : Nat) (k : Nat) :
    (Dev.sinc d s w k).forces = d.forces := by
  unfold Dev.sinc; simp

@[simp] theorem Dev.trace_forces (d : Dev) (n : Option ChanId) (what : TraceKind) :
    (Dev.trace d n what).forces = d.forces := by
  unfold Dev.trace; simp

@[simp] theorem Dev.fresh_forces (d : Dev) :
    (Dev.fresh d).2.forces = d.forces := by
  unfold Dev.fresh; simp

@[simp] theorem Dev.raiseAt_forces (d : Dev) (present : Tick) (code : Nat) (cls : Nat) (scope : Scope) (unit : Nat) (detail : Nat) (cause : optParam Nat 0) :
    (Dev.raiseAt d present code cls scope unit detail cause).forces = d.forces := by
  unfold Dev.raiseAt; simp

@[simp] theorem Dev.raiseNow_forces (d : Dev) (code : Nat) (cls : Nat) (scope : Scope) (unit : Nat) (detail : optParam Nat 0) :
    (Dev.raiseNow d code cls scope unit detail).forces = d.forces := by
  unfold Dev.raiseNow; simp

@[simp] theorem Dev.raiseCh_forces (d : Dev) (code : Nat) (cls : Nat) (n : ChanId) (detail : optParam Nat 0) :
    (Dev.raiseCh d code cls n detail).forces = d.forces := by
  unfold Dev.raiseCh; simp

@[simp] theorem Dev.raiseChCyc_forces (d : Dev) (code : Nat) (cls : Nat) (n : ChanId) (cyc : Nat) (detail : optParam Nat 0) :
    (Dev.raiseChCyc d code cls n cyc detail).forces = d.forces := by
  unfold Dev.raiseChCyc; simp

@[simp] theorem Dev.raiseIrq_forces (d : Dev) (v : Nat) :
    (Dev.raiseIrq d v).forces = d.forces := by
  unfold Dev.raiseIrq; simp

@[simp] theorem Dev.violate_forces (d : Dev) (source : Nat) (code : Nat) (detail : Nat) (answer : Nat) :
    (Dev.violate d source code detail answer).forces = d.forces := by
  unfold Dev.violate; simp [apply_ite Dev.forces]

@[simp] theorem Dev.refuse_forces (d : Dev) (obj : Nat) (code : Nat) :
    (Dev.refuse d obj code).forces = d.forces := by
  unfold Dev.refuse; simp

@[simp] theorem Dev.served_forces (d : Dev) :
    (Dev.served d).forces = d.forces := by
  unfold Dev.served; simp

@[simp] theorem Dev.accept_forces (d : Dev) :
    (Dev.accept d).forces = d.forces := by
  unfold Dev.accept; simp [apply_ite Dev.forces]

theorem Dev.hostOver_forces (d : Dev) (n : ChanId) (k : Nat) (f : Dev → Dev) (h : ∀ d, (f d).forces = d.forces) :
    (d.hostOver n k f).forces = d.forces := by
  unfold Dev.hostOver; split <;> simp [h]

@[simp] theorem Dev.keep_forces (d : Dev) (obj : Nat) (old : Nat) :
    (Dev.keep d obj old).forces = d.forces := by
  unfold Dev.keep; simp

@[simp] theorem Dev.keepOk_forces (d : Dev) (obj : Nat) (old : Nat) :
    (Dev.keepOk d obj old).forces = d.forces := by
  unfold Dev.keepOk; simp [apply_ite Dev.forces]

@[simp] theorem Dev.beginConv_forces (d : Dev) (n : ChanId) (mi : Bool) (kind : ConvKind) (slot : Nat) (word : Nat) (x : Tick × Nat) :
    (Dev.beginConv d n mi kind slot word x).forces = d.forces := by
  unfold Dev.beginConv; simp

@[simp] theorem Dev.startRegular_forces (d : Dev) (n : ChanId) (mi : Bool) (x : Tick × Nat) :
    (Dev.startRegular d n mi x).forces = d.forces := by
  unfold Dev.startRegular; simp [apply_ite Dev.forces]

@[simp] theorem Dev.beginWaiting_forces (d : Dev) (n : ChanId) (mi : Bool) (x : Tick × Nat) :
    (Dev.beginWaiting d n mi x).forces = d.forces := by
  unfold Dev.beginWaiting; (repeat' split) <;> simp

@[simp] theorem Dev.restartSeq_forces (d : Dev) (n : ChanId) :
    (Dev.restartSeq d n).forces = d.forces := by
  unfold Dev.restartSeq; dsimp only; (repeat' split) <;> simp

@[simp] theorem Dev.timerStart_forces (d : Dev) (n : ChanId) (mi : Bool) (second : Bool) :
    (Dev.timerStart d n mi second).forces = d.forces := by
  unfold Dev.timerStart; simp [apply_ite Dev.forces]

@[simp] theorem Dev.overrun_forces (d : Dev) (n : ChanId) (c : Nat) :
    (Dev.overrun d n c).forces = d.forces := by
  unfold Dev.overrun; simp [apply_ite Dev.forces]

@[simp] theorem Dev.regularFire_forces (d : Dev) (o : ChanId) (mi : Bool) (x : Tick × Nat) :
    (Dev.regularFire d o mi x).forces = d.forces := by
  unfold Dev.regularFire; simp [foldl_forces, apply_ite Dev.forces]

@[simp] theorem Dev.injectedFire_forces (d : Dev) (o : ChanId) (mi : Bool) (x : Tick × Nat) :
    (Dev.injectedFire d o mi x).forces = d.forces := by
  unfold Dev.injectedFire; simp [foldl_forces, apply_ite Dev.forces]

@[simp] theorem Dev.pulseEnds_forces (d : Dev) (o : ChanId) (mi : Bool) (p : Pulse) :
    (Dev.pulseEnds d o mi p).forces = d.forces := by
  unfold Dev.pulseEnds; simp [apply_ite Dev.forces]

@[simp] theorem Dev.pulsesTo_forces (d : Dev) (o : ChanId) (mi : Bool) (x : Tick × Nat) :
    (Dev.pulsesTo d o mi x).forces = d.forces := by
  unfold Dev.pulsesTo; simp [foldl_forces, apply_ite Dev.forces]

@[simp] theorem Dev.triggered_forces (d : Dev) (o : ChanId) (mi : Bool) (inj : Bool) (qual : Nat) (width : Nat) (ev : Ev) :
    (Dev.triggered d o mi inj qual width ev).forces = d.forces := by
  unfold Dev.triggered; (repeat' split) <;> simp [apply_ite Dev.forces]

@[simp] theorem Dev.widenTrigger_forces (d : Dev) (o : ChanId) (mi : Bool) (inj : Bool) (ev : Ev) :
    (Dev.widenTrigger d o mi inj ev).forces = d.forces := by
  unfold Dev.widenTrigger; simp

@[simp] theorem Dev.regularTrigger_forces (d : Dev) (o : ChanId) (mi : Bool) (ev : Ev) :
    (Dev.regularTrigger d o mi ev).forces = d.forces := by
  unfold Dev.regularTrigger; dsimp only; (repeat' split) <;> simp

@[simp] theorem Dev.injectedTrigger_forces (d : Dev) (o : ChanId) (mi : Bool) (ev : Ev) :
    (Dev.injectedTrigger d o mi ev).forces = d.forces := by
  unfold Dev.injectedTrigger; dsimp only; (repeat' split) <;> simp

@[simp] theorem Dev.deferCal_forces (d : Dev) (n : ChanId) (mi : Bool) :
    (Dev.deferCal d n mi).forces = d.forces := by
  unfold Dev.deferCal; simp

@[simp] theorem Dev.displace_forces (d : Dev) (n : ChanId) (mi : Bool) (k : ConvKind) :
    (Dev.displace d n mi k).forces = d.forces := by
  unfold Dev.displace; split <;> simp

@[simp] theorem Dev.abandonConv_forces (d : Dev) (n : ChanId) (mi : Bool) (x : Tick × Nat) :
    (Dev.abandonConv d n mi x).forces = d.forces := by
  unfold Dev.abandonConv; dsimp only; (repeat' split) <;> simp [foldl_forces]

@[simp] theorem Dev.injectedSlot_forces (d : Dev) (n : ChanId) (mi : Bool) (j : Nat) (x : Tick × Nat) :
    (Dev.injectedSlot d n mi j x).forces = d.forces := by
  unfold Dev.injectedSlot; simp

@[simp] theorem Dev.injectedDue_forces (d : Dev) (n : ChanId) (mi : Bool) :
    (Dev.injectedDue d n mi).forces = d.forces := by
  unfold Dev.injectedDue; dsimp only; (repeat' split) <;> simp

@[simp] theorem Dev.injectedStart_forces (d : Dev) (n : ChanId) (mi : Bool) :
    (Dev.injectedStart d n mi).forces = d.forces := by
  unfold Dev.injectedStart; dsimp only; (repeat' split) <;> simp

@[simp] theorem Dev.bgCounts_forces (d : Dev) (n : ChanId) (mi : Bool) (kind : ConvKind) (e : Entry) :
    (Dev.bgCounts d n mi kind e).forces = d.forces := by
  unfold Dev.bgCounts; (repeat' split) <;> simp

@[simp] theorem Dev.finishConv_forces (d : Dev) (n : ChanId) (mi : Bool) (r : Running) (raw : BitVec 18) :
    (Dev.finishConv d n mi r raw).forces = d.forces := by
  unfold Dev.finishConv; simp [apply_ite Dev.forces]

@[simp] theorem Dev.conversionEnd_forces (d : Dev) (n : ChanId) (mi : Bool) (raw : BitVec 18) (cyc : Nat) :
    (d.conversionEnd n mi raw cyc).forces = d.forces := by
  unfold Dev.conversionEnd; dsimp only
  split
  · rfl
  · split <;> (try split) <;> simp [apply_ite Dev.forces]

@[simp] theorem Dev.calConversion_forces (d : Dev) (n : ChanId) (mi : Bool) :
    (Dev.calConversion d n mi).forces = d.forces := by
  unfold Dev.calConversion; simp [apply_ite Dev.forces]

@[simp] theorem Dev.wmSettle_forces (d : Dev) (n : ChanId) :
    (Dev.wmSettle d n).forces = d.forces := by
  unfold Dev.wmSettle; simp [foldl_forces, apply_ite Dev.forces]

@[simp] theorem Dev.wmUnqueue_forces (d : Dev) (n : ChanId) (m : Idx4) :
    (Dev.wmUnqueue d n m).forces = d.forces := by
  unfold Dev.wmUnqueue; simp

@[simp] theorem Dev.wmQueue_forces (d : Dev) (n : ChanId) (m : Idx4) :
    (Dev.wmQueue d n m).forces = d.forces := by
  unfold Dev.wmQueue; simp [apply_ite Dev.forces]

@[simp] theorem Dev.wmTake_forces (d : Dev) (n : ChanId) (m : Idx4) (tripped : Bool) (byAux : Bool) :
    (Dev.wmTake d n m tripped byAux).forces = d.forces := by
  unfold Dev.wmTake; simp [apply_ite Dev.forces]

@[simp] theorem Dev.wmCommit_forces (d : Dev) (n : ChanId) (m : Idx4) (inside : Bool) :
    (Dev.wmCommit d n m inside).forces = d.forces := by
  unfold Dev.wmCommit; dsimp only; (repeat' split) <;> simp

@[simp] theorem Dev.wmReadback_forces (d : Dev) (n : ChanId) (m : Idx4) (reading : Int) (began : Tick) :
    (Dev.wmReadback d n m reading began).forces = d.forces := by
  unfold Dev.wmReadback; simp [apply_ite Dev.forces]

@[simp] theorem Dev.wmResolve_forces (d : Dev) (s : StallId) (key : Nat) (reading : Int) :
    (Dev.wmResolve d s key reading).forces = d.forces := by
  unfold Dev.wmResolve; simp [apply_ite Dev.forces]

@[simp] theorem Dev.wmPlausible_forces (d : Dev) (n : ChanId) (m : Idx4) (samples : List (Tick × Int)) :
    (Dev.wmPlausible d n m samples).forces = d.forces := by
  unfold Dev.wmPlausible; simp [foldl_forces, apply_ite Dev.forces]

@[simp] theorem Dev.wmResume_forces (d : Dev) (n : ChanId) :
    (Dev.wmResume d n).forces = d.forces := by
  unfold Dev.wmResume; simp [foldl_forces, apply_ite Dev.forces]

@[simp] theorem Dev.gustStop_forces (d : Dev) (n : ChanId) (x : Tick × Nat) :
    (Dev.gustStop d n x).forces = d.forces := by
  unfold Dev.gustStop; simp [foldl_forces]

@[simp] theorem Dev.gustEdge_forces (d : Dev) (n : ChanId) (x : Tick × Nat) :
    (Dev.gustEdge d n x).forces = d.forces := by
  unfold Dev.gustEdge; dsimp only; (repeat' split) <;> simp

@[simp] theorem Dev.gustBegin_forces (d : Dev) (n : ChanId) :
    (Dev.gustBegin d n).forces = d.forces := by
  unfold Dev.gustBegin; dsimp only; (repeat' split) <;> simp [foldl_forces]

@[simp] theorem Dev.gustEnd_forces (d : Dev) (n : ChanId) :
    (Dev.gustEnd d n).forces = d.forces := by
  unfold Dev.gustEnd; (repeat' split) <;> simp

@[simp] theorem Dev.collect_forces (d : Dev) (n : ChanId) (c : Nat) (busy : Bool) (ev : Ev) :
    (Dev.collect d n c busy ev).forces = d.forces := by
  unfold Dev.collect; simp [apply_ite Dev.forces]

@[simp] theorem Dev.arrive_forces (d : Dev) (key : Nat) (x : Tick × Nat) :
    (Dev.arrive d key x).forces = d.forces := by
  unfold Dev.arrive; simp

@[simp] theorem Dev.sineReset_forces (d : Dev) (n : ChanId) (x : Tick × Nat) :
    (Dev.sineReset d n x).forces = d.forces := by
  unfold Dev.sineReset; simp [apply_ite Dev.forces]

@[simp] theorem Dev.holdEdge_forces (d : Dev) (n : ChanId) (ev : Ev) :
    (Dev.holdEdge d n ev).forces = d.forces := by
  unfold Dev.holdEdge; simp [apply_ite Dev.forces]

@[simp] theorem Dev.consume_forces (d : Dev) (n : ChanId) (c : Nat) (ev : Ev) :
    (Dev.consume d n c ev).forces = d.forces := by
  unfold Dev.consume; (repeat' split) <;> simp [apply_ite Dev.forces]

@[simp] theorem Dev.drive_forces (d : Dev) (ovr : Nat) (p : OutPulse) (ev : Ev) :
    (Dev.drive d ovr p ev).forces = d.forces := by
  unfold Dev.drive; simp [apply_ite Dev.forces]

@[simp] theorem Dev.mergeDrive_forces (d : Dev) (p : OutPulse) :
    (Dev.mergeDrive d p).forces = d.forces := by
  unfold Dev.mergeDrive; simp

@[simp] theorem Dev.evioOut_forces (d : Dev) (k : Nat) (ev : Ev) :
    (Dev.evioOut d k ev).forces = d.forces := by
  unfold Dev.evioOut; simp [apply_ite Dev.forces]

@[simp] theorem Dev.mkoOut_forces (d : Dev) (k : StallId) (ev : Ev) :
    (Dev.mkoOut d k ev).forces = d.forces := by
  unfold Dev.mkoOut; simp [apply_ite Dev.forces]

@[simp] theorem Dev.auxFire_forces (d : Dev) (s : StallId) (x : Tick × Nat) :
    (Dev.auxFire d s x).forces = d.forces := by
  unfold Dev.auxFire; simp [apply_ite Dev.forces]

@[simp] theorem Dev.auxPulsesTo_forces (d : Dev) (s : StallId) (x : Tick × Nat) :
    (Dev.auxPulsesTo d s x).forces = d.forces := by
  unfold Dev.auxPulsesTo; simp [foldl_forces, apply_ite Dev.forces]

@[simp] theorem Dev.auxTrigger_forces (d : Dev) (s : StallId) (ev : Ev) :
    (Dev.auxTrigger d s ev).forces = d.forces := by
  unfold Dev.auxTrigger; dsimp only; (repeat' split) <;> simp

@[simp] theorem Dev.deliver_forces (d : Dev) (t : Nat) (ev : Ev) : (d.deliver t ev).forces = d.forces := by
  unfold Dev.deliver; dsimp only
  rw [foldl_forces, Dev.eachCh_forces]
  · intro d n; exact foldl_forces _ (fun d c => by simp) _ d
  · intro d x; (repeat' split) <;> simp

@[simp] theorem Dev.carry_forces (d : Dev) (t : Nat) (inherited : List Nat) (ev : Ev) :
    (Dev.carry d t inherited ev).forces = d.forces := by
  unfold Dev.carry; simp [apply_ite Dev.forces]

@[simp] theorem Dev.fire_forces (d : Dev) (code : Nat) (inherited : List Nat) (high : Bool) (width : Nat) (cyc : Nat) :
    (Dev.fire d code inherited high width cyc).forces = d.forces := by
  unfold Dev.fire; simp [foldl_forces, apply_ite Dev.forces]

@[simp] theorem Dev.fireCommit_forces (d : Dev) (code : Nat) (inherited : optParam (List Nat) []) :
    (Dev.fireCommit d code inherited).forces = d.forces := by
  unfold Dev.fireCommit; simp

@[simp] theorem Dev.mkoLands_forces (d : Dev) :
    (Dev.mkoLands d).forces = d.forces := by
  unfold Dev.mkoLands; simp

@[simp] theorem Dev.endWindow_forces (d : Dev) (n : ChanId) :
    (Dev.endWindow d n).forces = d.forces := by
  unfold Dev.endWindow; simp

@[simp] theorem Dev.compStep_forces (d : Dev) (n : ChanId) :
    (Dev.compStep d n).forces = d.forces := by
  unfold Dev.compStep; (repeat' split) <;> simp [foldl_forces]

@[simp] theorem Dev.tallyOpen_forces (d : Dev) (n : ChanId) (u : Idx16) :
    (Dev.tallyOpen d n u).forces = d.forces := by
  unfold Dev.tallyOpen; simp

@[simp] theorem Dev.tallyDay_forces (d : Dev) (n : ChanId) (u : Idx16) (day : TallyDay) (ev : TallyEv) :
    (Dev.tallyDay d n u day ev).forces = d.forces := by
  unfold Dev.tallyDay; simp [foldl_forces, apply_ite Dev.forces]

@[simp] theorem Dev.tallyStages_forces (d : Dev) (n : ChanId) (u : Idx16) (ev : TallyEv) :
    (Dev.tallyStages d n u ev).forces = d.forces := by
  unfold Dev.tallyStages; simp

@[simp] theorem Dev.tallyCloseAll_forces (d : Dev) (n : ChanId) (cause : CloseCause) :
    (Dev.tallyCloseAll d n cause).forces = d.forces := by
  unfold Dev.tallyCloseAll; simp [foldl_forces, apply_ite Dev.forces]

@[simp] theorem Dev.tallyCommit_forces (d : Dev) (n : ChanId) (x : UnitInputs) :
    (Dev.tallyCommit d n x).forces = d.forces := by
  unfold Dev.tallyCommit; simp [foldl_forces, apply_ite Dev.forces]

@[simp] theorem Dev.fireBulk_forces (d : Dev) (code : Nat) (cause : Nat) :
    (Dev.fireBulk d code cause).forces = d.forces := by
  unfold Dev.fireBulk; simp [apply_ite Dev.forces]

@[simp] theorem Dev.spoolMarks_forces (d : Dev) (n : ChanId) :
    (Dev.spoolMarks d n).forces = d.forces := by
  unfold Dev.spoolMarks; simp [apply_ite Dev.forces]

@[simp] theorem Dev.seqFault_forces (d : Dev) (n : ChanId) (detail : Nat) :
    (Dev.seqFault d n detail).forces = d.forces := by
  unfold Dev.seqFault; simp

@[simp] theorem Dev.offerJump_forces (d : Dev) (n : ChanId) (src : JumpSrc) (seg : Nat) (arrival : Tick) (origin : List Nat) :
    (Dev.offerJump d n src seg arrival origin).forces = d.forces := by
  unfold Dev.offerJump; dsimp only; (repeat' split) <;> simp

@[simp] theorem Dev.passBoundary_forces (d : Dev) (n : ChanId) :
    (Dev.passBoundary d n).forces = d.forces := by
  unfold Dev.passBoundary; simp

@[simp] theorem Dev.countJump_forces (d : Dev) (n : ChanId) (j : Jump) (clr : Bool) :
    (Dev.countJump d n j clr).forces = d.forces := by
  unfold Dev.countJump; simp [apply_ite Dev.forces]

@[simp] theorem Dev.chainEnd_forces (d : Dev) (n : ChanId) :
    (Dev.chainEnd d n).forces = d.forces := by
  unfold Dev.chainEnd; simp

@[simp] theorem Dev.condRaw_forces (d : Dev) (n : ChanId) (w : Nat) :
    (Dev.condRaw d n w).2.2.forces = d.forces := by
  unfold Dev.condRaw; split <;> simp

@[simp] theorem Dev.condition_forces (d : Dev) (n : ChanId) (w : Nat) :
    (Dev.condition d n w).2.forces = d.forces := by
  unfold Dev.condition; dsimp only; (repeat' split) <;> simp

@[simp] theorem Dev.armBarker_forces (d : Dev) (n : ChanId) :
    (Dev.armBarker d n).forces = d.forces := by
  unfold Dev.armBarker; simp

@[simp] theorem Dev.applyKind_forces (d : Dev) (n : ChanId) (w : Nat) :
    (Dev.applyKind d n w).forces = d.forces := by
  unfold Dev.applyKind; dsimp only; (repeat' split) <;> simp

@[simp] theorem Dev.fireStep_forces (d : Dev) (n : ChanId) (s : Selected) :
    (Dev.fireStep d n s).forces = d.forces := by
  unfold Dev.fireStep; simp

@[simp] theorem Dev.seal_forces (d : Dev) :
    (Dev.seal d).forces = d.forces := by
  unfold Dev.seal; simp [foldl_forces, Dev.eachCh_forces]

@[simp] theorem Dev.engRun_forces (d : Dev) (n : ChanId) (k : Fin 8) (cycles : Nat) (ok : Bool) (f : Dev → Dev)
    (h : ∀ d, (f d).forces = d.forces) : (d.engRun n k cycles ok f).forces = d.forces := by
  unfold Dev.engRun; split <;> simp [h]

@[simp] theorem Dev.engAlu_forces (d : Dev) (n : ChanId) (k : Fin 8) (cycles : Nat) (ok : Bool) (f : Engine → Engine) :
    (Dev.engAlu d n k cycles ok f).forces = d.forces := by
  unfold Dev.engAlu; simp

@[simp] theorem Dev.setScr_forces (d : Dev) (s : StallId) (a : Nat) (w : Word64) :
    (Dev.setScr d s a w).forces = d.forces := by
  unfold Dev.setScr; simp

@[simp] theorem Dev.putScr_forces (d : Dev) (s : StallId) (a : Nat) (cyc : Nat) (te : Nat) (w : Word64) :
    (Dev.putScr d s a cyc te w).forces = d.forces := by
  unfold Dev.putScr; simp

@[simp] theorem Dev.bulkStore_forces (d : Dev) (s : StallId) (addr : Nat) (w : Word64) :
    (Dev.bulkStore d s addr w).forces = d.forces := by
  unfold Dev.bulkStore; simp

@[simp] theorem Dev.engStore_forces (d : Dev) (n : ChanId) (k : Fin 8) (addr : Nat) (cyc : Nat) (v : Int) :
    (Dev.engStore d n k addr cyc v).forces = d.forces := by
  unfold Dev.engStore; dsimp only; (repeat' split) <;> simp

@[simp] theorem Dev.modFifo_forces (d : Dev) (f : Fifo → Fifo) :
    (Dev.modFifo d f).forces = d.forces := by
  unfold Dev.modFifo; simp

@[simp] theorem Dev.formBlock_forces (d : Dev) (sessionEnd : Bool) :
    (Dev.formBlock d sessionEnd).forces = d.forces := by
  unfold Dev.formBlock; simp [apply_ite Dev.forces]

@[simp] theorem Dev.startSession_forces (d : Dev) :
    (Dev.startSession d).forces = d.forces := by
  unfold Dev.startSession; simp

@[simp] theorem Dev.finishSession_forces (d : Dev) (roll : Bool) :
    (Dev.finishSession d roll).forces = d.forces := by
  unfold Dev.finishSession; simp [apply_ite Dev.forces]

@[simp] theorem Dev.endSession_forces (d : Dev) (roll : Bool) :
    (Dev.endSession d roll).forces = d.forces := by
  unfold Dev.endSession; simp [apply_ite Dev.forces]

@[simp] theorem Dev.enterRecord_forces (d : Dev) (r : TallyRec) :
    (Dev.enterRecord d r).forces = d.forces := by
  unfold Dev.enterRecord; (repeat' split) <;> simp [apply_ite Dev.forces]

@[simp] theorem Dev.enterRecords_forces (d : Dev) (n : ChanId) :
    (Dev.enterRecords d n).forces = d.forces := by
  unfold Dev.enterRecords; simp [foldl_forces, apply_ite Dev.forces]

@[simp] theorem Dev.releaseEntries_forces (d : Dev) (k : Nat) :
    (Dev.releaseEntries d k).forces = d.forces := by
  unfold Dev.releaseEntries; simp

@[simp] theorem Dev.fifoHold_forces (d : Dev) :
    (Dev.fifoHold d).forces = d.forces := by
  unfold Dev.fifoHold; simp [apply_ite Dev.forces]

@[simp] theorem Dev.undoMonitor_forces (d : Dev) (n : ChanId) (old : Monitor) (m : Idx4) :
    (Dev.undoMonitor d n old m).forces = d.forces := by
  unfold Dev.undoMonitor; simp [apply_ite Dev.forces]

@[simp] theorem Dev.rewind_forces (d : Dev) (key : Nat) (w : Word64) :
    (Dev.rewind d key w).forces = d.forces := by
  unfold Dev.rewind; simp [apply_ite Dev.forces]

@[simp] theorem Dev.undoStores_forces (d : Dev) (n : ChanId) :
    (Dev.undoStores d n).forces = d.forces := by
  unfold Dev.undoStores; simp [foldl_forces]

@[simp] theorem Dev.logFault_forces (d : Dev) (f : FaultRec) (act : Act) (nested : Bool) (switched : Bool) :
    (Dev.logFault d f act nested switched).forces = d.forces := by
  unfold Dev.logFault; simp [apply_ite Dev.forces]

@[simp] theorem Dev.setLatch_forces (d : Dev) (f : FaultRec) :
    (Dev.setLatch d f).forces = d.forces := by
  unfold Dev.setLatch; (repeat' split) <;> simp [Dev.eachSt_forces, apply_ite Dev.forces]

@[simp] theorem Dev.beginF5_forces (d : Dev) (f : FaultRec) :
    (Dev.beginF5 d f).forces = d.forces := by
  unfold Dev.beginF5; simp [Dev.eachSt_forces, apply_ite Dev.forces]

@[simp] theorem Dev.histClear_forces (d : Dev) (v : Nat) :
    (Dev.histClear d v).forces = d.forces := by
  unfold Dev.histClear; simp [apply_ite Dev.forces]

@[simp] theorem Dev.loseTick_forces (d : Dev) (n : ChanId) (code : Nat) :
    (Dev.loseTick d n code).forces = d.forces := by
  unfold Dev.loseTick; simp [foldl_forces]

@[simp] theorem Dev.recover_forces (d : Dev) (code : Nat) (scope : Scope) (unit : Nat) (detail : Nat) :
    (Dev.recover d code scope unit detail).forces = d.forces := by
  unfold Dev.recover; simp

@[simp] theorem Dev.listLine_forces (d : Dev) (line : Nat) (cause : Nat) (seg : Nat) (now : Tick) :
    (Dev.listLine d line cause seg now).forces = d.forces := by
  unfold Dev.listLine; simp [apply_ite Dev.forces]

@[simp] theorem Dev.refillHeads_forces (d : Dev) (n : ChanId) (line : Nat) :
    (Dev.refillHeads d n line).forces = d.forces := by
  unfold Dev.refillHeads; simp

@[simp] theorem Dev.stuckOn_forces (d : Dev) (n : ChanId) (line : Nat) :
    (Dev.stuckOn d n line).forces = d.forces := by
  unfold Dev.stuckOn; simp [apply_ite Dev.forces]

@[simp] theorem Dev.linePersist_forces (d : Dev) (line : Nat) (cause : ReadCause) (now : Tick) :
    (Dev.linePersist d line cause now).forces = d.forces := by
  unfold Dev.linePersist; split <;> simp

@[simp] theorem Dev.transient_forces (d : Dev) (obj : Nat) (detail : Nat) :
    (Dev.transient d obj detail).forces = d.forces := by
  unfold Dev.transient; simp

@[simp] theorem Dev.repair_forces (d : Dev) (m : Nat) (region : Nat) :
    (Dev.repair d m region).forces = d.forces := by
  unfold Dev.repair; simp [apply_ite Dev.forces]

@[simp] theorem Dev.recoverCh_forces (d : Dev) (n : ChanId) (code : Nat) :
    (Dev.recoverCh d n code).forces = d.forces := by
  unfold Dev.recoverCh; simp [apply_ite Dev.forces]

@[simp] theorem Dev.stalled_forces (d : Dev) (cycles : Nat) :
    (Dev.stalled d cycles).forces = d.forces := by
  unfold Dev.stalled; simp

@[simp] theorem Dev.loseWord_forces (d : Dev) (s : StallId) (a : Nat) :
    (Dev.loseWord d s a).forces = d.forces := by
  unfold Dev.loseWord; simp

@[simp] theorem Dev.scrPersist_forces (d : Dev) (s : StallId) (a : Nat) (readers : List ChanId) :
    (Dev.scrPersist d s a readers).forces = d.forces := by
  unfold Dev.scrPersist; (repeat' split) <;> simp [foldl_forces, apply_ite Dev.forces]

@[simp] theorem Dev.marchNext_forces (d : Dev) (m : Nat) (region : Nat) :
    (Dev.marchNext d m region).forces = d.forces := by
  unfold Dev.marchNext; simp [apply_ite Dev.forces]

@[simp] theorem Dev.marchSkip_forces (k : Nat) (d : Dev) (m : Nat) : (Dev.marchSkip k d m).forces = d.forces := by
  induction k generalizing d with
  | zero => rfl
  | succ k ih => unfold Dev.marchSkip; dsimp only; split <;> simp [ih]

@[simp] theorem Dev.pinHead_forces (d : Dev) (n : ChanId) (h : Idx4) (seg : Nat) :
    (Dev.pinHead d n h seg).forces = d.forces := by
  unfold Dev.pinHead; simp [apply_ite Dev.forces]

@[simp] theorem Dev.cancelJump_forces (d : Dev) (n : ChanId) :
    (Dev.cancelJump d n).forces = d.forces := by
  unfold Dev.cancelJump; simp [apply_ite Dev.forces]

@[simp] theorem Dev.pruneReplay_forces (d : Dev) :
    (Dev.pruneReplay d).forces = d.forces := by
  unfold Dev.pruneReplay; simp

@[simp] theorem Dev.writeDesc_forces (d : Dev) (i : Nat) (w : Word64) :
    (Dev.writeDesc d i w).forces = d.forces := by
  unfold Dev.writeDesc; simp [apply_ite Dev.forces]

@[simp] theorem Dev.resetSpool_forces (d : Dev) (n : ChanId) :
    (Dev.resetSpool d n).forces = d.forces := by
  unfold Dev.resetSpool; simp

@[simp] theorem Dev.writeSpoolSeg_forces (d : Dev) (n : ChanId) (seg : Nat) :
    (Dev.writeSpoolSeg d n seg).forces = d.forces := by
  unfold Dev.writeSpoolSeg; simp [apply_ite Dev.forces]

@[simp] theorem Dev.spoolReset_forces (d : Dev) (n : ChanId) :
    (Dev.spoolReset d n).forces = d.forces := by
  unfold Dev.spoolReset; simp [apply_ite Dev.forces]

@[simp] theorem Dev.writeSafeSeg_forces (d : Dev) (n : ChanId) (seg : Nat) :
    (Dev.writeSafeSeg d n seg).forces = d.forces := by
  unfold Dev.writeSafeSeg; simp [apply_ite Dev.forces]

@[simp] theorem Dev.loadAnswer_forces (d : Dev) (bulk : Bool) (code : Nat) (done : Nat) :
    (Dev.loadAnswer d bulk code done).forces = d.forces := by
  unfold Dev.loadAnswer; simp [apply_ite Dev.forces]

@[simp] theorem Dev.loadViolates_forces (d : Dev) (bulk : Bool) (viol : Nat) (code : Nat) :
    (Dev.loadViolates d bulk viol code).forces = d.forces := by
  unfold Dev.loadViolates; simp

@[simp] theorem Dev.loadRefuse_forces (d : Dev) (bulk : Bool) (code : Nat) :
    (Dev.loadRefuse d bulk code).forces = d.forces := by
  unfold Dev.loadRefuse; simp

@[simp] theorem Dev.descRefuse_forces (d : Dev) (bulk : Bool) (code : Nat) :
    (Dev.descRefuse d bulk code).forces = d.forces := by
  unfold Dev.descRefuse; simp

@[simp] theorem Dev.loadsReset_forces (d : Dev) (bulk : Bool) :
    (Dev.loadsReset d bulk).forces = d.forces := by
  unfold Dev.loadsReset; simp [foldl_forces]

@[simp] theorem Dev.addClaim_forces (d : Dev) (c : Claim) :
    (Dev.addClaim d c).forces = d.forces := by
  unfold Dev.addClaim; simp

@[simp] theorem Dev.writeLines_forces (d : Dev) (line : Nat) (words : List Word64) :
    (Dev.writeLines d line words).forces = d.forces := by
  unfold Dev.writeLines; simp

@[simp] theorem Dev.writeRing_forces (d : Dev) (w : Nat) (f : Nat) (steps : List Word64) :
    (Dev.writeRing d w f steps).forces = d.forces := by
  unfold Dev.writeRing; simp [foldl_forces]

@[simp] theorem Dev.refillRefuse_forces (d : Dev) (bulk : Bool) (n : ChanId) (code : Nat) :
    (Dev.refillRefuse d bulk n code).forces = d.forces := by
  unfold Dev.refillRefuse; simp

@[simp] theorem Dev.refill_forces (d : Dev) (bulk : Bool) (x : LoadDesc) (body : List Byte) :
    (Dev.refill d bulk x body).forces = d.forces := by
  unfold Dev.refill; dsimp only; (repeat' split) <;> simp

@[simp] theorem Dev.ledgerLoad_forces (d : Dev) (bulk : Bool) (line : Nat) (words : List Word64) (cyc : Nat) :
    (Dev.ledgerLoad d bulk line words cyc).forces = d.forces := by
  unfold Dev.ledgerLoad; simp [apply_ite Dev.forces]

@[simp] theorem Dev.actClaim_forces (d : Dev) (c : Claim) :
    (Dev.actClaim d c).forces = d.forces := by
  unfold Dev.actClaim; (repeat' split) <;> simp

@[simp] theorem Dev.actClaims_forces (d : Dev) :
    (Dev.actClaims d).forces = d.forces := by
  unfold Dev.actClaims; simp [foldl_forces]

@[simp] theorem Dev.loadBegin_forces (d : Dev) :
    (Dev.loadBegin d).forces = d.forces := by
  unfold Dev.loadBegin; simp [apply_ite Dev.forces]

@[simp] theorem Dev.loadData_forces (d : Dev) (bytes : List Byte) :
    (Dev.loadData d bytes).forces = d.forces := by
  unfold Dev.loadData; simp [apply_ite Dev.forces]

@[simp] theorem Dev.loadSubmit_forces (d : Dev) :
    (Dev.loadSubmit d).forces = d.forces := by
  unfold Dev.loadSubmit; simp [apply_ite Dev.forces]

@[simp] theorem Dev.loadAbandon_forces (d : Dev) :
    (Dev.loadAbandon d).forces = d.forces := by
  unfold Dev.loadAbandon; simp [apply_ite Dev.forces]

@[simp] theorem Dev.putPackage_forces (lib : Bool) (d : Dev) (p : Package) :
    (Dev.putPackage lib d p).forces = d.forces := by
  unfold Dev.putPackage; simp [foldl_forces, Dev.inMask_forces]

@[simp] theorem Dev.package_forces (d : Dev) (p : Package) :
    (Dev.package d p).forces = d.forces := by
  unfold Dev.package; split <;> simp

@[simp] theorem Dev.unloadSet_forces (d : Dev) :
    (Dev.unloadSet d).forces = d.forces := by
  unfold Dev.unloadSet; dsimp only; (repeat' split) <;> simp

@[simp] theorem Dev.writeScr_forces (d : Dev) (w : Word64) :
    (Dev.writeScr d w).forces = d.forces := by
  unfold Dev.writeScr; dsimp only; (repeat' split) <;> simp

@[simp] theorem Dev.setCoef_forces (d : Dev) (n : ChanId) (o : Nat) (v : Int) :
    (Dev.setCoef d n o v).forces = d.forces := by
  unfold Dev.setCoef; simp

@[simp] theorem Dev.clearEngines_forces (d : Dev) (n : ChanId) :
    (Dev.clearEngines d n).forces = d.forces := by
  unfold Dev.clearEngines; simp

@[simp] theorem Dev.applyDelay_forces (d : Dev) :
    (Dev.applyDelay d).forces = d.forces := by
  unfold Dev.applyDelay; (repeat' split) <;> simp

@[simp] theorem Dev.judgeAgg_forces (d : Dev) (milliamp : Nat) (present : Tick) :
    (Dev.judgeAgg d milliamp present).forces = d.forces := by
  unfold Dev.judgeAgg; simp [apply_ite Dev.forces]

@[simp] theorem Dev.applyEstimate_forces (d : Dev) (n : ChanId) (o : Nat) (est : Int) :
    (Dev.applyEstimate d n o est).forces = d.forces := by
  unfold Dev.applyEstimate; dsimp only; (repeat' split) <;> simp

@[simp] theorem Dev.moveFactor_forces (d : Dev) (s : StallId) (target : Int) :
    (Dev.moveFactor d s target).forces = d.forces := by
  unfold Dev.moveFactor; simp

@[simp] theorem Dev.judgeStall_forces (d : Dev) (s : StallId) (m : Int) (m2 : Int) :
    (Dev.judgeStall d s m m2).forces = d.forces := by
  unfold Dev.judgeStall; simp [apply_ite Dev.forces]

@[simp] theorem Dev.compareGaps_forces (d : Dev) :
    (Dev.compareGaps d).forces = d.forces := by
  unfold Dev.compareGaps; simp [foldl_forces, Dev.eachSt_forces, apply_ite Dev.forces]

@[simp] theorem Dev.storeOutcome_forces (d : Dev) (ok : Bool) :
    (Dev.storeOutcome d ok).forces = d.forces := by
  unfold Dev.storeOutcome; simp

@[simp] theorem Dev.wmTransition_forces (d : Dev) (n : ChanId) (m : Idx4) (trip : Bool) (cyc : Nat) :
    (Dev.wmTransition d n m trip cyc).forces = d.forces := by
  unfold Dev.wmTransition; simp [apply_ite Dev.forces]

@[simp] theorem Dev.writeWmCfg_forces (d : Dev) (n : ChanId) (m : Idx4) (w : Nat) :
    (Dev.writeWmCfg d n m w).forces = d.forces := by
  unfold Dev.writeWmCfg; simp [apply_ite Dev.forces]

@[simp] theorem Dev.modSync_forces (d : Dev) (f : SyncUnit → SyncUnit) :
    (Dev.modSync d f).forces = d.forces := by
  unfold Dev.modSync; simp [apply_ite Dev.forces]

@[simp] theorem Dev.raiseDrift_forces (d : Dev) :
    (Dev.raiseDrift d).forces = d.forces := by
  unfold Dev.raiseDrift; simp

@[simp] theorem Dev.lockedPhase_forces (d : Dev) (phase : Int) (present : Tick) :
    (Dev.lockedPhase d phase present).forces = d.forces := by
  unfold Dev.lockedPhase; simp [apply_ite Dev.forces]

@[simp] theorem Dev.markSeen_forces (d : Dev) (b : Bool) (phase : Int) :
    (Dev.markSeen d b phase).forces = d.forces := by
  unfold Dev.markSeen; dsimp only; (repeat' split) <;> simp

@[simp] theorem Dev.forwardWord_forces (d : Dev) (cmd : Nat) (operand : Nat) :
    (Dev.forwardWord d cmd operand).forces = d.forces := by
  unfold Dev.forwardWord; simp

@[simp] theorem Dev.mismatch_forces (d : Dev) :
    (Dev.mismatch d).forces = d.forces := by
  unfold Dev.mismatch; simp

@[simp] theorem Dev.shiftShared_forces (d : Dev) (k : Tick) :
    (Dev.shiftShared d k).forces = d.forces := by
  unfold Dev.shiftShared; simp

@[simp] theorem Dev.setEpoch_forces (d : Dev) (now : Tick) :
    (Dev.setEpoch d now).forces = d.forces := by
  unfold Dev.setEpoch; simp [Dev.eachSt_forces, Dev.mapCh_forces]

@[simp] theorem Dev.takeEpoch_forces (d : Dev) (now : Tick) :
    (Dev.takeEpoch d now).forces = d.forces := by
  unfold Dev.takeEpoch; simp [apply_ite Dev.forces]

@[simp] theorem Dev.beginLoop_forces (d : Dev) :
    (Dev.beginLoop d).forces = d.forces := by
  unfold Dev.beginLoop; simp [apply_ite Dev.forces]

theorem Dev.rootOnly_forces (d : Dev) (obj : Nat) (f : Dev → Dev) (h : ∀ d, (f d).forces = d.forces) :
    (d.rootOnly obj f).forces = d.forces := by
  unfold Dev.rootOnly; split <;> simp [h]

@[simp] theorem Dev.rootSlot_forces (d : Dev) :
    (Dev.rootSlot d).forces = d.forces := by
  unfold Dev.rootSlot; dsimp only; (repeat' split) <;> simp

@[simp] theorem Dev.syncOut_forces (d : Dev) :
    (Dev.syncOut d).forces = d.forces := by
  unfold Dev.syncOut; simp [apply_ite Dev.forces]

@[simp] theorem Dev.roleWritten_forces (d : Dev) (role : Bool) :
    (Dev.roleWritten d role).forces = d.forces := by
  unfold Dev.roleWritten; simp [apply_ite Dev.forces]

@[simp] theorem Dev.tallyHost_forces (d : Dev) (n : ChanId) (op : Nat) (units : BitVec 16) :
    (Dev.tallyHost d n op units).forces = d.forces := by
  unfold Dev.tallyHost; simp [foldl_forces, apply_ite Dev.forces]

@[simp] theorem Dev.flushSession_forces (d : Dev) :
    (Dev.flushSession d).forces = d.forces := by
  unfold Dev.flushSession; simp [apply_ite Dev.forces]

@[simp] theorem Dev.rollSession_forces (d : Dev) :
    (Dev.rollSession d).forces = d.forces := by
  unfold Dev.rollSession; simp [apply_ite Dev.forces]

@[simp] theorem Dev.fifoAck_forces (d : Dev) (k : Nat) :
    (Dev.fifoAck d k).forces = d.forces := by
  unfold Dev.fifoAck; simp [apply_ite Dev.forces]

@[simp] theorem Dev.auxTake_forces (d : Dev) (s : StallId) (input : Nat) (reading : Int) :
    (Dev.auxTake d s input reading).forces = d.forces := by
  unfold Dev.auxTake; simp

@[simp] theorem Dev.refxReading_forces (d : Dev) (s : StallId) (uV : Int) :
    (Dev.refxReading d s uV).forces = d.forces := by
  unfold Dev.refxReading; simp

@[simp] theorem Dev.auxThresh_forces (d : Dev) (s : StallId) (reading : Int) :
    (Dev.auxThresh d s reading).forces = d.forces := by
  unfold Dev.auxThresh; simp [apply_ite Dev.forces]

@[simp] theorem Dev.auxHouse_forces (d : Dev) (s : StallId) (reading : Int) :
    (Dev.auxHouse d s reading).forces = d.forces := by
  unfold Dev.auxHouse; simp [apply_ite Dev.forces]

@[simp] theorem Dev.calReading_forces (d : Dev) (s : StallId) (i : Nat) :
    (Dev.calReading d s i).forces = d.forces := by
  unfold Dev.calReading; simp [apply_ite Dev.forces]

@[simp] theorem Dev.auxCal_forces (d : Dev) (s : StallId) (reading : Int) :
    (Dev.auxCal d s reading).forces = d.forces := by
  unfold Dev.auxCal; simp [apply_ite Dev.forces]

@[simp] theorem Dev.auxOpenWire_forces (d : Dev) (s : StallId) (n : ChanId) (reading : Int) :
    (Dev.auxOpenWire d s n reading).forces = d.forces := by
  unfold Dev.auxOpenWire; simp

@[simp] theorem Dev.auxRegular_forces (k : Nat) (d : Dev) (s : StallId) (m : Int) :
    (Dev.auxRegular k d s m).forces = d.forces := by
  induction k generalizing d with
  | zero => rfl
  | succ k ih => unfold Dev.auxRegular; dsimp only; split <;> simp [ih]

@[simp] theorem Dev.auxInjected_forces (d : Dev) (s : StallId) (j : Nat) (reading : Int) :
    (Dev.auxInjected d s j reading).forces = d.forces := by
  unfold Dev.auxInjected; simp

@[simp] theorem Dev.auxResolve_forces (d : Dev) (s : StallId) (k : Nat) (reading : Int) :
    (Dev.auxResolve d s k reading).forces = d.forces := by
  unfold Dev.auxResolve; simp

@[simp] theorem Dev.auxWindow_forces (d : Dev) (s : StallId) (second : Bool) (reading : Int) :
    (Dev.auxWindow d s second reading).forces = d.forces := by
  unfold Dev.auxWindow; dsimp only; (repeat' split) <;> simp

@[simp] theorem Dev.owCommit_forces (d : Dev) (n : ChanId) :
    (Dev.owCommit d n).forces = d.forces := by
  unfold Dev.owCommit; (repeat' split) <;> simp

@[simp] theorem Dev.writeRefSel_forces (d : Dev) (s : StallId) (v : Nat) :
    (Dev.writeRefSel d s v).forces = d.forces := by
  unfold Dev.writeRefSel; simp [apply_ite Dev.forces]

@[simp] theorem Dev.writeRefxEn_forces (d : Dev) (s : StallId) (v : Nat) :
    (Dev.writeRefxEn d s v).forces = d.forces := by
  unfold Dev.writeRefxEn; simp [apply_ite Dev.forces]

@[simp] theorem Dev.refxFallback_forces (d : Dev) (s : StallId) :
    (Dev.refxFallback d s).forces = d.forces := by
  unfold Dev.refxFallback; simp [apply_ite Dev.forces]

@[simp] theorem Dev.bufferCommit_forces (d : Dev) (s : StallId) :
    (Dev.bufferCommit d s).forces = d.forces := by
  unfold Dev.bufferCommit; (repeat' split) <;> simp [apply_ite Dev.forces]

@[simp] theorem Dev.recordDrop_forces (d : Dev) (n : ChanId) :
    (Dev.recordDrop d n).forces = d.forces := by
  unfold Dev.recordDrop; (repeat' split) <;> simp [apply_ite Dev.forces]

@[simp] theorem Dev.compHost_forces (d : Dev) (n : ChanId) :
    (Dev.compHost d n).forces = d.forces := by
  unfold Dev.compHost; split <;> simp

@[simp] theorem Dev.writeCompMode_forces (d : Dev) (n : ChanId) (v : Nat) :
    (Dev.writeCompMode d n v).forces = d.forces := by
  unfold Dev.writeCompMode; simp [apply_ite Dev.forces]

@[simp] theorem Dev.writeCompFixed_forces (d : Dev) (n : ChanId) (v : Nat) :
    (Dev.writeCompFixed d n v).forces = d.forces := by
  unfold Dev.writeCompFixed; simp [apply_ite Dev.forces]

@[simp] theorem Dev.publishEstimate_forces (d : Dev) (n : ChanId) (e : LwEstimate) :
    (Dev.publishEstimate d n e).forces = d.forces := by
  unfold Dev.publishEstimate; simp

@[simp] theorem Dev.writeLwEn_forces (d : Dev) (n : ChanId) (v : Nat) :
    (Dev.writeLwEn d n v).forces = d.forces := by
  unfold Dev.writeLwEn; simp [apply_ite Dev.forces]

@[simp] theorem Dev.modSec_forces (d : Dev) (f : Sec → Sec) :
    (Dev.modSec d f).forces = d.forces := by
  unfold Dev.modSec; simp

@[simp] theorem Dev.judged_forces (d : Dev) (code : Nat) (type : Nat) (low : Nat) :
    (Dev.judged d code type low).forces = d.forces := by
  unfold Dev.judged; simp [apply_ite Dev.forces]

@[simp] theorem Dev.secVerdict_forces (d : Dev) (code : Nat) (type : Nat) :
    (Dev.secVerdict d code type).forces = d.forces := by
  unfold Dev.secVerdict; simp [apply_ite Dev.forces]

@[simp] theorem Dev.bumpArb_forces (d : Dev) (v : Verdict) :
    (Dev.bumpArb d v).forces = d.forces := by
  unfold Dev.bumpArb; split <;> simp

@[simp] theorem Dev.countStream_forces (d : Dev) (box : List Byte) :
    (Dev.countStream d box).forces = d.forces := by
  unfold Dev.countStream; simp [apply_ite Dev.forces]

@[simp] theorem Dev.judge_forces (d : Dev) (v : Verdict) :
    (Dev.judge d v).forces = d.forces := by
  unfold Dev.judge; (repeat' split) <;> simp

@[simp] theorem Dev.verify_forces (d : Dev) (v : Verdict) (box : List Byte) (cyc : Nat) :
    (Dev.verify d v box cyc).forces = d.forces := by
  unfold Dev.verify; simp [apply_ite Dev.forces]

@[simp] theorem Dev.verifyRefill_forces (d : Dev) (c : Claim) (fuseOk : Bool) (cyc : Nat) :
    (Dev.verifyRefill d c fuseOk cyc).forces = d.forces := by
  unfold Dev.verifyRefill; dsimp only; (repeat' split) <;> simp

@[simp] theorem Dev.verifyLoad_forces (d : Dev) (bulk : Bool) (x : LoadDesc) (fuseOk : Bool) (cyc : Nat) :
    (Dev.verifyLoad d bulk x fuseOk cyc).forces = d.forces := by
  unfold Dev.verifyLoad; (repeat' split) <;> simp [apply_ite Dev.forces]

@[simp] theorem Dev.closeSession_forces (d : Dev) (cause : Nat) :
    (Dev.closeSession d cause).forces = d.forces := by
  unfold Dev.closeSession; simp [apply_ite Dev.forces]

@[simp] theorem Dev.closeStreams_forces (d : Dev) :
    (Dev.closeStreams d).forces = d.forces := by
  unfold Dev.closeStreams; simp

@[simp] theorem Dev.zeroise_forces (d : Dev) :
    (Dev.zeroise d).forces = d.forces := by
  unfold Dev.zeroise; simp [Dev.mapCh_forces]

@[simp] theorem Dev.lifecycleEnds_forces (d : Dev) (roll : Bool) :
    (Dev.lifecycleEnds d roll).forces = d.forces := by
  unfold Dev.lifecycleEnds; simp

@[simp] theorem Dev.streamCmd_forces (d : Dev) (v : Nat) :
    (Dev.streamCmd d v).forces = d.forces := by
  unfold Dev.streamCmd; simp

@[simp] theorem Dev.sealFail_forces (d : Dev) (obj : Nat) :
    (Dev.sealFail d obj).forces = d.forces := by
  unfold Dev.sealFail; simp

@[simp] theorem Dev.offer_forces (d : Dev) (bulk : Bool) :
    (Dev.offer d bulk).forces = d.forces := by
  unfold Dev.offer; simp [apply_ite Dev.forces]

@[simp] theorem Dev.hostOffer_forces (d : Dev) (offer : List Byte) (bulk : Bool) :
    (Dev.hostOffer d offer bulk).forces = d.forces := by
  unfold Dev.hostOffer; (repeat' split) <;> simp

@[simp] theorem Dev.attest_forces (d : Dev) (nonce : List Byte) :
    (Dev.attest d nonce).forces = d.forces := by
  unfold Dev.attest; simp [apply_ite Dev.forces]

@[simp] theorem Dev.debugRoll_forces (d : Dev) :
    (Dev.debugRoll d).forces = d.forces := by
  unfold Dev.debugRoll; simp [apply_ite Dev.forces]

@[simp] theorem Dev.leaveD2_forces (d : Dev) (level : Nat) :
    (Dev.leaveD2 d level).forces = d.forces := by
  unfold Dev.leaveD2; simp [Dev.mapCh_forces, apply_ite Dev.forces]

@[simp] theorem Dev.drawNonce_forces (d : Dev) (level : Nat) :
    (Dev.drawNonce d level).forces = d.forces := by
  unfold Dev.drawNonce; simp

@[simp] theorem Dev.debugReq_forces (d : Dev) (v : Nat) :
    (Dev.debugReq d v).forces = d.forces := by
  unfold Dev.debugReq; (repeat' split) <;> simp [apply_ite Dev.forces]

@[simp] theorem Dev.enterD3_forces (d : Dev) :
    (Dev.enterD3 d).forces = d.forces := by
  unfold Dev.enterD3; simp [Dev.mapCh_forces]

@[simp] theorem Dev.resumeReq_forces (d : Dev) (mask : Word64) :
    (Dev.resumeReq d mask).forces = d.forces := by
  unfold Dev.resumeReq; simp [Dev.inMask_forces, apply_ite Dev.forces]

@[simp] theorem Dev.stepReq_forces (d : Dev) (mask : Word64) :
    (Dev.stepReq d mask).forces = d.forces := by
  unfold Dev.stepReq; simp [Dev.inMask_forces, apply_ite Dev.forces]

@[simp] theorem Dev.tapSelect_forces (d : Dev) (ir : Nat) (out : TapData) :
    (Dev.tapSelect d ir out).forces = d.forces := by
  unfold Dev.tapSelect; simp

@[simp] theorem Dev.tapBypass_forces (d : Dev) :
    (Dev.tapBypass d).forces = d.forces := by
  unfold Dev.tapBypass; simp

@[simp] theorem Dev.observed_forces (d : Dev) :
    (Dev.observed d).2.forces = d.forces := by
  unfold Dev.observed; simp

@[simp] theorem Dev.modPower_forces (d : Dev) (f : Power → Power) :
    (Dev.modPower d f).forces = d.forces := by
  unfold Dev.modPower; simp

@[simp] theorem Dev.setObj_forces (d : Dev) (obj : Nat) (v : Nat) :
    (Dev.setObj d obj v).forces = d.forces := by
  unfold Dev.setObj; split <;> simp

@[simp] theorem Dev.putProfile_forces (d : Dev) (n : Nat) (b : List Byte) :
    (Dev.putProfile d n b).forces = d.forces := by
  unfold Dev.putProfile; split <;> simp

@[simp] theorem Dev.paramWords_forces (d : Dev) :
    (Dev.paramWords d).forces = d.forces := by
  unfold Dev.paramWords; simp [foldl_forces, Dev.eachCh_forces]

@[simp] theorem Dev.noteSlot_forces (d : Dev) (slot : Fin 2) (r : Except Nat Nat) :
    (Dev.noteSlot d slot r).forces = d.forces := by
  unfold Dev.noteSlot; (repeat' split) <;> simp

@[simp] theorem Dev.toDefault_forces (d : Dev) (obj : Nat) :
    (Dev.toDefault d obj).forces = d.forces := by
  unfold Dev.toDefault; split <;> simp

@[simp] theorem Dev.restorePasses_forces (k : Nat) (d : Dev) (l : List (Nat × Nat × ObjRow)) (b : List Nat) :
    (Dev.restorePasses k d l b).1.forces = d.forces := by
  induction k generalizing d l b with
  | zero => rfl
  | succ k ih => unfold Dev.restorePasses; dsimp only; split <;> simp [ih, foldl_forces]

@[simp] theorem Dev.setOutcome_forces (d : Dev) (k : Nat) (r : Restored) :
    (Dev.setOutcome d k r).forces = d.forces := by
  unfold Dev.setOutcome; simp

@[simp] theorem Dev.noteDefaulted_forces (d : Dev) (rec : Nat) (n : Nat) :
    (Dev.noteDefaulted d rec n).forces = d.forces := by
  unfold Dev.noteDefaulted; simp [apply_ite Dev.forces]

@[simp] theorem Dev.restoreRecord_forces (d : Dev) (rec : Nat) (content : Option (List (Nat × Nat × Nat))) :
    (Dev.restoreRecord d rec content).forces = d.forces := by
  unfold Dev.restoreRecord; (repeat' split) <;> simp [foldl_forces]

@[simp] theorem Dev.sysWords_forces (d : Dev) (ok : Bool) :
    (Dev.sysWords d ok).forces = d.forces := by
  unfold Dev.sysWords; simp [foldl_forces, Dev.eachCh_forces]

@[simp] theorem Dev.restoreCal_forces (d : Dev) (sysOk : Bool) (snapOk : Bool) :
    (Dev.restoreCal d sysOk snapOk).forces = d.forces := by
  unfold Dev.restoreCal; simp [foldl_forces, Dev.mapCh_forces, apply_ite Dev.forces]

@[simp] theorem Dev.readyFlags_forces (d : Dev) :
    (Dev.readyFlags d).forces = d.forces := by
  unfold Dev.readyFlags; simp

@[simp] theorem Dev.readyCommit_forces (d : Dev) :
    (Dev.readyCommit d).forces = d.forces := by
  unfold Dev.readyCommit; simp [apply_ite Dev.forces]

@[simp] theorem Dev.powerCommit_forces (d : Dev) :
    (Dev.powerCommit d).forces = d.forces := by
  unfold Dev.powerCommit; simp

@[simp] theorem Dev.beginTest_forces (d : Dev) (mask : Nat) :
    (Dev.beginTest d mask).forces = d.forces := by
  unfold Dev.beginTest; simp [Dev.eachSt_forces, apply_ite Dev.forces]

@[simp] theorem Dev.analogOff_forces (d : Dev) : d.analogOff.forces = d.forces := by
  unfold Dev.analogOff
  simp
  apply Dev.eachCh_forces
  intro d n
  apply foldl_forces
  simp

@[simp] theorem Dev.writeQuiet_forces (d : Dev) (v : Nat) :
    (Dev.writeQuiet d v).forces = d.forces := by
  unfold Dev.writeQuiet; simp [apply_ite Dev.forces]

@[simp] theorem Dev.selfTest_forces (d : Dev) (mask : Nat) :
    (Dev.selfTest d mask).forces = d.forces := by
  unfold Dev.selfTest; simp [apply_ite Dev.forces]

@[simp] theorem Dev.activate_forces (d : Dev) (f : Flash) (slot : Fin 2) (lenA : Nat) (lenB : Nat) :
    (Dev.activate d f slot lenA lenB).forces = d.forces := by
  unfold Dev.activate; simp

@[simp] theorem Dev.imageCmd_forces (d : Dev) (v : Nat) :
    (Dev.imageCmd d v).forces = d.forces := by
  unfold Dev.imageCmd; dsimp only; (repeat' split) <;> simp

@[simp] theorem Dev.opNop_forces (dv : Dev) (n : ChanId) (k : Fin 8) (count : BitVec 9) :
    (Dev.opNop dv n k count).forces = dv.forces := by
  unfold Dev.opNop; simp

@[simp] theorem Dev.opLdi_forces (dv : Dev) (n : ChanId) (k : Fin 8) (d : Idx16) (imm : BitVec 14) :
    (Dev.opLdi dv n k d imm).forces = dv.forces := by
  unfold Dev.opLdi; simp

@[simp] theorem Dev.opLdh_forces (dv : Dev) (n : ChanId) (k : Fin 8) (d : Idx16) (a : Idx16) (imm : BitVec 14) :
    (Dev.opLdh dv n k d a imm).forces = dv.forces := by
  unfold Dev.opLdh; simp

@[simp] theorem Dev.opMov_forces (dv : Dev) (n : ChanId) (k : Fin 8) (d : Idx16) (a : Idx16) :
    (Dev.opMov dv n k d a).forces = dv.forces := by
  unfold Dev.opMov; simp

@[simp] theorem Dev.opLd_forces (dv : Dev) (n : ChanId) (k : Fin 8) (d : Idx16) (b : Idx16) (region : BitVec 2) (offset : BitVec 12) :
    (Dev.opLd dv n k d b region offset).forces = dv.forces := by
  unfold Dev.opLd; simp

@[simp] theorem Dev.opSt_forces (dv : Dev) (n : ChanId) (k : Fin 8) (a : Idx16) (b : Idx16) (region : BitVec 2) (offset : BitVec 12) :
    (Dev.opSt dv n k a b region offset).forces = dv.forces := by
  unfold Dev.opSt; simp

@[simp] theorem Dev.opEngIn_forces (dv : Dev) (shown : Dev) (n : ChanId) (k : Fin 8) (d : Idx16) (port : BitVec 8) :
    (Dev.opEngIn dv shown n k d port).forces = dv.forces := by
  unfold Dev.opEngIn; simp

@[simp] theorem Dev.opEngOut_forces (dv : Dev) (n : ChanId) (k : Fin 8) (a : Idx16) (port : BitVec 8) :
    (Dev.opEngOut dv n k a port).forces = dv.forces := by
  unfold Dev.opEngOut; simp

@[simp] theorem Dev.opLut_forces (dv : Dev) (n : ChanId) (k : Fin 8) (d : Idx16) (a : Idx16) (sh : BitVec 4) (base : BitVec 10) :
    (Dev.opLut dv n k d a sh base).forces = dv.forces := by
  unfold Dev.opLut; simp

@[simp] theorem Dev.opLuti_forces (dv : Dev) (n : ChanId) (k : Fin 8) (d : Idx16) (a : Idx16) (sh : BitVec 4) (base : BitVec 10) :
    (Dev.opLuti dv n k d a sh base).forces = dv.forces := by
  unfold Dev.opLuti; simp

@[simp] theorem Dev.opAdd_forces (dv : Dev) (n : ChanId) (k : Fin 8) (d : Idx16) (a : Idx16) (b : Idx16) :
    (Dev.opAdd dv n k d a b).forces = dv.forces := by
  unfold Dev.opAdd; simp

@[simp] theorem Dev.opSub_forces (dv : Dev) (n : ChanId) (k : Fin 8) (d : Idx16) (a : Idx16) (b : Idx16) :
    (Dev.opSub dv n k d a b).forces = dv.forces := by
  unfold Dev.opSub; simp

@[simp] theorem Dev.opAddi_forces (dv : Dev) (n : ChanId) (k : Fin 8) (d : Idx16) (a : Idx16) (imm : BitVec 14) :
    (Dev.opAddi dv n k d a imm).forces = dv.forces := by
  unfold Dev.opAddi; simp

@[simp] theorem Dev.opAddw_forces (dv : Dev) (n : ChanId) (k : Fin 8) (d : Idx16) (a : Idx16) (b : Idx16) :
    (Dev.opAddw dv n k d a b).forces = dv.forces := by
  unfold Dev.opAddw; simp

@[simp] theorem Dev.opEngNeg_forces (dv : Dev) (n : ChanId) (k : Fin 8) (d : Idx16) (a : Idx16) :
    (Dev.opEngNeg dv n k d a).forces = dv.forces := by
  unfold Dev.opEngNeg; simp

@[simp] theorem Dev.opEngAbs_forces (dv : Dev) (n : ChanId) (k : Fin 8) (d : Idx16) (a : Idx16) :
    (Dev.opEngAbs dv n k d a).forces = dv.forces := by
  unfold Dev.opEngAbs; simp

@[simp] theorem Dev.opEngMin_forces (dv : Dev) (n : ChanId) (k : Fin 8) (d : Idx16) (a : Idx16) (b : Idx16) :
    (Dev.opEngMin dv n k d a b).forces = dv.forces := by
  unfold Dev.opEngMin; simp

@[simp] theorem Dev.opEngMax_forces (dv : Dev) (n : ChanId) (k : Fin 8) (d : Idx16) (a : Idx16) (b : Idx16) :
    (Dev.opEngMax dv n k d a b).forces = dv.forces := by
  unfold Dev.opEngMax; simp

@[simp] theorem Dev.opEngAnd_forces (dv : Dev) (n : ChanId) (k : Fin 8) (d : Idx16) (a : Idx16) (b : Idx16) :
    (Dev.opEngAnd dv n k d a b).forces = dv.forces := by
  unfold Dev.opEngAnd; simp

@[simp] theorem Dev.opEngOr_forces (dv : Dev) (n : ChanId) (k : Fin 8) (d : Idx16) (a : Idx16) (b : Idx16) :
    (Dev.opEngOr dv n k d a b).forces = dv.forces := by
  unfold Dev.opEngOr; simp

@[simp] theorem Dev.opEngXor_forces (dv : Dev) (n : ChanId) (k : Fin 8) (d : Idx16) (a : Idx16) (b : Idx16) :
    (Dev.opEngXor dv n k d a b).forces = dv.forces := by
  unfold Dev.opEngXor; simp

@[simp] theorem Dev.opShl_forces (dv : Dev) (n : ChanId) (k : Fin 8) (d : Idx16) (a : Idx16) (count : BitVec 6) :
    (Dev.opShl dv n k d a count).forces = dv.forces := by
  unfold Dev.opShl; simp

@[simp] theorem Dev.opShr_forces (dv : Dev) (n : ChanId) (k : Fin 8) (d : Idx16) (a : Idx16) (mode : BitVec 2) (count : BitVec 6) :
    (Dev.opShr dv n k d a mode count).forces = dv.forces := by
  unfold Dev.opShr; simp

@[simp] theorem Dev.opEngSat_forces (dv : Dev) (n : ChanId) (k : Fin 8) (d : Idx16) (a : Idx16) (width : BitVec 6) :
    (Dev.opEngSat dv n k d a width).forces = dv.forces := by
  unfold Dev.opEngSat; simp

@[simp] theorem Dev.opEngClamp_forces (dv : Dev) (n : ChanId) (k : Fin 8) (d : Idx16) (a : Idx16) (b : Idx16) (c : Idx16) :
    (Dev.opEngClamp dv n k d a b c).forces = dv.forces := by
  unfold Dev.opEngClamp; simp

@[simp] theorem Dev.opSels_forces (dv : Dev) (n : ChanId) (k : Fin 8) (d : Idx16) (a : Idx16) (b : Idx16) (c : Idx16) (zero : Bool) :
    (Dev.opSels dv n k d a b c zero).forces = dv.forces := by
  unfold Dev.opSels; simp

@[simp] theorem Dev.opExt_forces (dv : Dev) (n : ChanId) (k : Fin 8) (d : Idx16) (a : Idx16) (signed : Bool) (msb : BitVec 6) (lsb : BitVec 6) :
    (Dev.opExt dv n k d a signed msb lsb).forces = dv.forces := by
  unfold Dev.opExt; simp

@[simp] theorem Dev.opIns_forces (dv : Dev) (n : ChanId) (k : Fin 8) (d : Idx16) (a : Idx16) (msb : BitVec 6) (lsb : BitVec 6) :
    (Dev.opIns dv n k d a msb lsb).forces = dv.forces := by
  unfold Dev.opIns; simp

@[simp] theorem Dev.opMul_forces (dv : Dev) (n : ChanId) (k : Fin 8) (d : Idx16) (a : Idx16) (b : Idx16) :
    (Dev.opMul dv n k d a b).forces = dv.forces := by
  unfold Dev.opMul; simp

@[simp] theorem Dev.opMac_forces (dv : Dev) (n : ChanId) (k : Fin 8) (a : Idx16) (b : Idx16) (subtract : Bool) (acc1 : Bool) :
    (Dev.opMac dv n k a b subtract acc1).forces = dv.forces := by
  unfold Dev.opMac; simp

@[simp] theorem Dev.opAccrd_forces (dv : Dev) (n : ChanId) (k : Fin 8) (d : Idx16) (clear : Bool) (acc1 : Bool) (mode : BitVec 2) (count : BitVec 6) :
    (Dev.opAccrd dv n k d clear acc1 mode count).forces = dv.forces := by
  unfold Dev.opAccrd; simp

@[simp] theorem Dev.opAccld_forces (dv : Dev) (n : ChanId) (k : Fin 8) (a : Idx16) (acc1 : Bool) :
    (Dev.opAccld dv n k a acc1).forces = dv.forces := by
  unfold Dev.opAccld; simp

@[simp] theorem Dev.opPuts_forces (dv : Dev) (n : ChanId) (k : Fin 8) (a : Idx16) (b : Idx16) (e : Idx16) :
    (Dev.opPuts dv n k a b e).forces = dv.forces := by
  unfold Dev.opPuts; simp

@[simp] theorem Dev.opTacc_forces (dv : Dev) (n : ChanId) (k : Fin 8) (a : Idx16) (b : Idx16) (e : Idx16) :
    (Dev.opTacc dv n k a b e).forces = dv.forces := by
  unfold Dev.opTacc; simp

@[simp] theorem Dev.opFlag_forces (dv : Dev) (n : ChanId) (k : Fin 8) (a : Idx16) (f : Idx16) :
    (Dev.opFlag dv n k a f).forces = dv.forces := by
  unfold Dev.opFlag; simp

@[simp] theorem Dev.opEngFault_forces (dv : Dev) (n : ChanId) (k : Fin 8) (a : Idx16) (f2 : Bool) (code : BitVec 12) :
    (Dev.opEngFault dv n k a f2 code).forces = dv.forces := by
  unfold Dev.opEngFault; simp

@[simp] theorem Dev.opCorr_forces (dv : Dev) (n : ChanId) (k : Fin 8) (a : Idx16) (b : Idx16) :
    (Dev.opCorr dv n k a b).forces = dv.forces := by
  unfold Dev.opCorr; simp [apply_ite Channel.force]

@[simp] theorem Dev.opCrd_forces (dv : Dev) (n : ChanId) (k : Fin 8) (d : Idx16) (b : Idx16) (lag : BitVec 7) :
    (Dev.opCrd dv n k d b lag).forces = dv.forces := by
  unfold Dev.opCrd; simp

@[simp] theorem Dev.opCclr_forces (dv : Dev) (n : ChanId) (k : Fin 8) (a : Idx16) :
    (Dev.opCclr dv n k a).forces = dv.forces := by
  unfold Dev.opCclr; simp

@[simp] theorem Dev.engWord_forces (dv : Dev) (shown : Dev) (n : ChanId) (k : Fin 8) (w : Nat) :
    (Dev.engWord dv shown n k w).forces = dv.forces := by
  unfold Dev.engWord; (repeat' split) <;> simp

@[simp] theorem Dev.libStore_forces (d : Dev) (n : ChanId) (k : Fin 8) (o : Nat) (cyc : Nat) (v : Int) :
    (Dev.libStore d n k o cyc v).forces = d.forces := by
  unfold Dev.libStore; simp

@[simp] theorem Dev.libCorrect_forces (d : Dev) (n : ChanId) (mi : Bool) (j : Nat) :
    (Dev.libCorrect d n mi j).forces = d.forces := by
  unfold Dev.libCorrect; simp

@[simp] theorem Dev.libThresholds_forces (d : Dev) (n : ChanId) :
    (Dev.libThresholds d n).forces = d.forces := by
  unfold Dev.libThresholds; simp; apply Dev.modCh_forces; intro c; (repeat' split) <;> simp

@[simp] theorem Dev.libInterp_forces (d : Dev) (n : ChanId) :
    (Dev.libInterp d n).forces = d.forces := by
  unfold Dev.libInterp; (repeat' split) <;> simp

@[simp] theorem Dev.libFeed_forces (d : Dev) (n : ChanId) :
    (Dev.libFeed d n).forces = d.forces := by
  unfold Dev.libFeed; (repeat' split) <;> simp

@[simp] theorem Dev.libCycle_forces (d : Dev) (shown : Dev) (n : ChanId) (c : Nat) :
    (Dev.libCycle d shown n c).forces = d.forces := by
  unfold Dev.libCycle; simp [apply_ite Dev.forces]

@[simp] theorem Dev.countSat_forces (d : Dev) (n : ChanId) :
    (Dev.countSat d n).forces = d.forces := by
  unfold Dev.countSat; simp [apply_ite Dev.forces]

@[simp] theorem Dev.sysTake_forces (d : Dev) (n : ChanId) :
    (Dev.sysTake d n).forces = d.forces := by
  unfold Dev.sysTake; (repeat' split) <;> simp

@[simp] theorem Dev.dropWindow_forces (d : Dev) (n : ChanId) :
    (Dev.dropWindow d n).forces = d.forces := by
  unfold Dev.dropWindow; simp

@[simp] theorem Dev.tallyEnds_forces (d : Dev) (n : ChanId) (inp : TickInputs) :
    (Dev.tallyEnds d n inp).forces = d.forces := by
  unfold Dev.tallyEnds; simp

@[simp] theorem Dev.latchLoops_forces (d : Dev) :
    (Dev.latchLoops d).forces = d.forces := by
  unfold Dev.latchLoops; simp [apply_ite Dev.forces]

@[simp] theorem Dev.countTick_forces (d : Dev) :
    (Dev.countTick d).forces = d.forces := by
  unfold Dev.countTick; simp [apply_ite Dev.forces]

@[simp] theorem Dev.measEnds_forces (d : Dev) (n : ChanId) :
    (Dev.measEnds d n).forces = d.forces := by
  unfold Dev.measEnds; simp [apply_ite Dev.forces]

@[simp] theorem Dev.sysEnds_forces (d : Dev) :
    (Dev.sysEnds d).forces = d.forces := by
  unfold Dev.sysEnds; (repeat' split) <;> simp

@[simp] theorem Dev.bgEnds_forces (d : Dev) (n : ChanId) :
    (Dev.bgEnds d n).forces = d.forces := by
  unfold Dev.bgEnds; simp [apply_ite Dev.forces]

@[simp] theorem Dev.monitorsEnd_forces (d : Dev) (inp : TickInputs) (n : ChanId) :
    (Dev.monitorsEnd d inp n).forces = d.forces := by
  unfold Dev.monitorsEnd; simp [foldl_forces, apply_ite Dev.forces]

@[simp] theorem Dev.haltEngines_forces (d : Dev) (shown : Dev) (n : ChanId) :
    (Dev.haltEngines d shown n).forces = d.forces := by
  unfold Dev.haltEngines; simp [apply_ite Dev.forces]

@[simp] theorem Dev.modDict_forces (d : Dev) (f : Dict → Dict) :
    (Dev.modDict d f).forces = d.forces := by
  unfold Dev.modDict; simp

@[simp] theorem Dev.store_forces (d : Dev) (r : ObjRow) (idx : Nat) (sub : Nat) (v : Nat) :
    (Dev.store d r idx sub v).forces = d.forces := by
  unfold Dev.store; simp [apply_ite Dev.forces]

@[simp] theorem Dev.sineCmd_forces (d : Dev) (n : ChanId) (v : Nat) :
    (Dev.sineCmd d n v).forces = d.forces := by
  unfold Dev.sineCmd; (repeat' split) <;> simp

@[simp] theorem Dev.gustCmd_forces (d : Dev) (n : ChanId) (v : Nat) :
    (Dev.gustCmd d n v).forces = d.forces := by
  unfold Dev.gustCmd; split <;> simp

@[simp] theorem Dev.tallyCmd_forces (d : Dev) (n : ChanId) (v : Nat) :
    (Dev.tallyCmd d n v).forces = d.forces := by
  unfold Dev.tallyCmd; simp [apply_ite Dev.forces]

@[simp] theorem Dev.planWritten_forces (d : Dev) (n : ChanId) (p : Nat) :
    (Dev.planWritten d n p).forces = d.forces := by
  unfold Dev.planWritten; (repeat' split) <;> simp [foldl_forces, apply_ite Dev.forces]

@[simp] theorem Dev.evioWritten_forces (d : Dev) (k : Nat) (old : Nat) (v : Nat) :
    (Dev.evioWritten d k old v).forces = d.forces := by
  unfold Dev.evioWritten; simp [apply_ite Dev.forces]

@[simp] theorem Dev.exportWritten_forces (d : Dev) :
    (Dev.exportWritten d).forces = d.forces := by
  unfold Dev.exportWritten; simp

@[simp] theorem Dev.queueWrite_forces (d : Dev) (cyc : Nat) (rank : Nat) (source : Nat) (sealedBy : Bool) (cmd : Bool) (req : HostReq) :
    (Dev.queueWrite d cyc rank source sealedBy cmd req).forces = d.forces := by
  unfold Dev.queueWrite; simp

@[simp] theorem Dev.refuseFrom_forces (d : Dev) (source : Nat) (obj : Nat) (code : Nat) :
    (Dev.refuseFrom d source obj code).forces = d.forces := by
  unfold Dev.refuseFrom; simp

@[simp] theorem Dev.request_forces (d : Dev) (source : Nat) (rank : Nat) (cyc : Nat) (sealedBy : Bool) (idx : Nat) (sub : Nat) (len : Nat) (v : Nat) :
    (Dev.request d source rank cyc sealedBy idx sub len v).forces = d.forces := by
  unfold Dev.request; simp [apply_ite Dev.forces]

@[simp] theorem Dev.requestWhole_forces (d : Dev) (source : Nat) (rank : Nat) (cyc : Nat) (idx : Nat) (vals : List Nat) :
    (Dev.requestWhole d source rank cyc idx vals).forces = d.forces := by
  unfold Dev.requestWhole; simp [apply_ite Dev.forces]

@[simp] theorem Dev.readMark_forces (d : Dev) (shown : Dev) (obj : Nat) :
    (Dev.readMark d shown obj).forces = d.forces := by
  unfold Dev.readMark; simp [apply_ite Dev.forces]

@[simp] theorem Dev.answerRead_forces (d : Dev) (shown : Dev) (source : Nat) (obj : Nat) (r : Except Nat (List Byte)) :
    (Dev.answerRead d shown source obj r).forces = d.forces := by
  unfold Dev.answerRead; split <;> simp

@[simp] theorem Dev.objAnswer_forces (d : Dev) :
    (Dev.objAnswer d).forces = d.forces := by
  unfold Dev.objAnswer; simp [apply_ite Dev.forces]

@[simp] theorem Dev.bulkDone_forces (d : Dev) (source : Nat) (code : Nat) :
    (Dev.bulkDone d source code).forces = d.forces := by
  unfold Dev.bulkDone; simp [apply_ite Dev.forces]

@[simp] theorem Dev.modEc_forces (d : Dev) (f : EtherCat → EtherCat) :
    (Dev.modEc d f).forces = d.forces := by
  unfold Dev.modEc; simp

@[simp] theorem Dev.frameObject_forces (d : Dev) (cyc : Nat) (newSet : Bool) (obj : Nat) (v : Nat) :
    (Dev.frameObject d cyc newSet obj v).forces = d.forces := by
  unfold Dev.frameObject; dsimp only; (repeat' split) <;> simp

@[simp] theorem Dev.processFrame_forces (d : Dev) (outs : List (Nat × Nat)) (cyc : Nat) :
    (Dev.processFrame d outs cyc).forces = d.forces := by
  unfold Dev.processFrame; simp [foldl_forces, apply_ite Dev.forces]

@[simp] theorem Dev.latchInputs_forces (d : Dev) (shown : Dev) :
    (Dev.latchInputs d shown).forces = d.forces := by
  unfold Dev.latchInputs; simp [apply_ite Dev.forces]

@[simp] theorem Dev.sync0Phase_forces (d : Dev) (cycleNs : Nat) (cyc : Nat) :
    (Dev.sync0Phase d cycleNs cyc).forces = d.forces := by
  unfold Dev.sync0Phase; simp [apply_ite Dev.forces]

@[simp] theorem Dev.esmRefuse_forces (d : Dev) (want : Nat) (code : Nat) :
    (Dev.esmRefuse d want code).forces = d.forces := by
  unfold Dev.esmRefuse; simp

@[simp] theorem Dev.esmGo_forces (d : Dev) (st : EsmState) (err : Bool) :
    (Dev.esmGo d st err).forces = d.forces := by
  unfold Dev.esmGo; simp

@[simp] theorem Dev.wdAction_forces (d : Dev) (cyc : Nat) :
    (Dev.wdAction d cyc).forces = d.forces := by
  unfold Dev.wdAction; split <;> simp

@[simp] theorem Dev.leaveOp_forces (d : Dev) (st : EsmState) (err : Bool) (cyc : Nat) :
    (Dev.leaveOp d st err cyc).forces = d.forces := by
  unfold Dev.leaveOp; simp

@[simp] theorem Dev.opError_forces (d : Dev) (code : Nat) (cyc : Nat) :
    (Dev.opError d code cyc).forces = d.forces := by
  unfold Dev.opError; simp

@[simp] theorem Dev.noteApplied_forces (d : Dev) (e : Vector Ending 64) (old : Vector Channel 64) :
    (Dev.noteApplied d e old).forces = d.forces := by
  unfold Dev.noteApplied; simp [Dev.mapCh_forces, apply_ite Channel.force]

@[simp] theorem Dev.tickProducers_forces (d : Dev) :
    (Dev.tickProducers d).forces = d.forces := by
  unfold Dev.tickProducers; simp [apply_ite Dev.forces]

@[simp] theorem Dev.presentEntries_forces (d : Dev) (e : Vector Ending 64) :
    (Dev.presentEntries d e).forces = d.forces := by
  unfold Dev.presentEntries; simp [Dev.mapCh_forces, apply_ite Channel.force]

@[simp] theorem Dev.recordsCommit_forces (d : Dev) (e : Vector Ending 64) :
    (Dev.recordsCommit d e).forces = d.forces := by
  unfold Dev.recordsCommit; simp [Dev.eachCh_forces, apply_ite Dev.forces]

@[simp] theorem Dev.takeEdge_forces (d : Dev) (n : ChanId) (x : EdgeRec) :
    (Dev.takeEdge d n x).forces = d.forces := by
  unfold Dev.takeEdge; simp [apply_ite Dev.forces]

@[simp] theorem Dev.takeEdges_forces (d : Dev) (n : ChanId) :
    (Dev.takeEdges d n).forces = d.forces := by
  unfold Dev.takeEdges; simp [foldl_forces]

@[simp] theorem Dev.countHeld_forces (d : Dev) (shown : Dev) (n : ChanId) :
    (Dev.countHeld d shown n).forces = d.forces := by
  unfold Dev.countHeld; simp [apply_ite Dev.forces]

@[simp] theorem Dev.channelStarts_forces (d : Dev) (inp : TickInputs) (n : ChanId) :
    (Dev.channelStarts d inp n).forces = d.forces := by
  unfold Dev.channelStarts; simp [apply_ite Dev.forces]

@[simp] theorem Dev.readings_forces (d : Dev) (inp : TickInputs) :
    (Dev.readings d inp).forces = d.forces := by
  unfold Dev.readings; simp [apply_ite Dev.forces]

@[simp] theorem Dev.statesCommit_forces (d : Dev) :
    (Dev.statesCommit d).forces = d.forces := by
  unfold Dev.statesCommit; simp [Dev.eachSt_forces]

@[simp] theorem Dev.tickOver_forces (d : Dev) :
    (Dev.tickOver d).forces = d.forces := by
  unfold Dev.tickOver; (repeat' split) <;> simp [Dev.eachCh_forces, Dev.eachSt_forces, Dev.mapCh_forces]

@[simp] theorem Dev.modPcie_forces (d : Dev) (f : Pcie → Pcie) :
    (Dev.modPcie d f).forces = d.forces := by
  unfold Dev.modPcie; simp

@[simp] theorem Dev.modQueue_forces (d : Dev) (q : QueueId) (f : Queue → Queue) :
    (Dev.modQueue d q f).forces = d.forces := by
  unfold Dev.modQueue; simp

@[simp] theorem Dev.linkDown_forces (d : Dev) :
    (Dev.linkDown d).forces = d.forces := by
  unfold Dev.linkDown; simp

@[simp] theorem Dev.haltQueue_forces (d : Dev) (q : QueueId) (cause : Nat) :
    (Dev.haltQueue d q cause).forces = d.forces := by
  unfold Dev.haltQueue; simp

@[simp] theorem Dev.haltAll_forces (d : Dev) :
    (Dev.haltAll d).forces = d.forces := by
  unfold Dev.haltAll; simp [apply_ite Dev.forces]

@[simp] theorem Dev.badWindow_forces (d : Dev) (write : Bool) (offset : Nat) :
    (Dev.badWindow d write offset).forces = d.forces := by
  unfold Dev.badWindow; simp [apply_ite Dev.forces]

@[simp] theorem Dev.ringHalt_forces (d : Dev) (q : QueueId) (tail : Nat) :
    (Dev.ringHalt d q tail).forces = d.forces := by
  unfold Dev.ringHalt; simp

@[simp] theorem Dev.exportTail_forces (d : Dev) (tail : Nat) :
    (Dev.exportTail d tail).forces = d.forces := by
  unfold Dev.exportTail; simp [apply_ite Dev.forces]

@[simp] theorem Dev.objRefuse_forces (d : Dev) (obj : Nat) (code : Nat) :
    (Dev.objRefuse d obj code).forces = d.forces := by
  unfold Dev.objRefuse; simp

end Sys2Proof.Machine
end

