-- ==== Sys2Proof/Laws/Frame.lean ====
section
/-! SUPPORT. What each function of the module keeps of its frame (the tick number, the release, the trust state, the
debug level, program memories, ledger and directory): one lemma per function, for every function that keeps all of it. -/

namespace Sys2Proof.Machine
open Sys2Proof

theorem Dev.tick_eq (d : Dev) : d.tick = d.frame.tick := by cases d; rfl
theorem Dev.released_eq (d : Dev) : d.power.released = d.frame.released := by cases d; rfl
theorem Dev.trust_eq (d : Dev) : d.sec.trust = d.frame.trust := by cases d; rfl
theorem Dev.debug_eq (d : Dev) : d.sec.debug = d.frame.debug := by cases d; rfl
theorem Dev.progs_eq (d : Dev) : d.mem.progs = d.frame.progs := by cases d; rfl
theorem Dev.sets_eq (d : Dev) : d.mem.sets = d.frame.sets := by cases d; rfl
theorem Dev.ledger_eq (d : Dev) : d.mem.ledger = d.frame.ledger := by cases d; rfl
theorem Dev.dir_eq (d : Dev) : d.mem.dir = d.frame.dir := by cases d; rfl

@[simp] theorem Frame.mk_self (f : Frame) :
    (⟨f.tick, f.released, f.trust, f.debug, f.progs, f.sets, f.ledger, f.dir⟩ : Frame) = f := by cases f; rfl

@[simp] theorem Sec.trust_mk_self (x : Sec) :
    (⟨x.life, x.slots, x.policy, x.arb, x.d3Count, x.ownerHash, x.ownerPub⟩ : Trust) = x.trust := by
  cases x; rfl

@[simp] theorem Dev.frame_mk_self (d : Dev) :
    (⟨d.tick, d.power.released, d.sec.trust, d.sec.debug, d.mem.progs, d.mem.sets, d.mem.ledger, d.mem.dir⟩ : Frame) =
      d.frame := by
  cases d; rfl

@[simp] theorem Sec.trust_mk (life slots policy arb d3Count drbgFail sess sessLink sessRights offerTick sessNo sealSeq sealFails streams debug dbgPend dbgTick dbgNonce draws bscan tapIr tapOut attest statement prevStatement sealedOut devOffer tapRelease ownerPub ownerHash sealKeys sessPair waiting passed recErased trace) :
    (Sec.mk life slots policy arb d3Count drbgFail sess sessLink sessRights offerTick sessNo sealSeq sealFails streams debug dbgPend dbgTick dbgNonce draws bscan tapIr tapOut attest statement prevStatement sealedOut devOffer tapRelease ownerPub ownerHash sealKeys sessPair waiting passed recErased trace).trust =
      ⟨life, slots, policy, arb, d3Count, ownerHash, ownerPub⟩ := by
  exact id rfl

@[simp] theorem Dev.frame_mk (tick regs power sync flt fab fifo dict ec load pcie sec mem cal stalls chans parkNow armBack wrote freeCtr) :
    (Dev.mk tick regs power sync flt fab fifo dict ec load pcie sec mem cal stalls chans parkNow armBack wrote freeCtr).frame =
      ⟨tick, power.released, sec.trust, sec.debug, mem.progs, mem.sets, mem.ledger, mem.dir⟩ := by
  exact id rfl

theorem foldl_frame {α : Type} (f : Dev → α → Dev) (h : ∀ d x, (f d x).frame = d.frame) (l : List α) (d : Dev) :
    (l.foldl f d).frame = d.frame := by
  induction l generalizing d with
  | nil => rfl
  | cons x l ih => simp [List.foldl, ih, h]

theorem foldl_frame1 {α β : Type} (f : Dev × β → α → Dev × β) (h : ∀ d x, (f d x).1.frame = d.1.frame) (l : List α)
    (d : Dev × β) : (l.foldl f d).1.frame = d.1.frame := by
  induction l generalizing d with
  | nil => rfl
  | cons x l ih => simp [List.foldl, ih, h]

theorem Dev.eachCh_frame (d : Dev) (f : Dev → ChanId → Dev) (h : ∀ d n, (f d n).frame = d.frame) :
    (d.eachCh f).frame = d.frame := foldl_frame f h _ d

theorem Dev.inMask_frame (d : Dev) (m : Word64) (f : Dev → ChanId → Dev) (h : ∀ d n, (f d n).frame = d.frame) :
    (d.inMask m f).frame = d.frame := by
  unfold Dev.inMask; apply Dev.eachCh_frame; intro d n; split <;> simp [h]

theorem Dev.eachSt_frame (d : Dev) (f : Dev → StallId → Dev) (h : ∀ d n, (f d n).frame = d.frame) :
    (d.eachSt f).frame = d.frame := foldl_frame f h _ d

@[simp] theorem Dev.setReg_frame (d : Dev) (k : Nat) (v : Nat) :
    (Dev.setReg d k v).frame = d.frame := by
  unfold Dev.setReg; simp

@[simp] theorem Dev.inc_frame (d : Dev) (w : Nat) (k : Nat) :
    (Dev.inc d w k).frame = d.frame := by
  unfold Dev.inc; simp

@[simp] theorem Dev.incBy_frame (d : Dev) (w : Nat) (k : Nat) (n : Nat) :
    (Dev.incBy d w k n).frame = d.frame := by
  unfold Dev.incBy; simp [apply_ite Dev.frame]

@[simp] theorem Dev.setCh_frame (d : Dev) (n : ChanId) (c : Channel) :
    (Dev.setCh d n c).frame = d.frame := by
  unfold Dev.setCh; simp

@[simp] theorem Dev.modCh_frame (d : Dev) (n : ChanId) (f : Channel → Channel) :
    (Dev.modCh d n f).frame = d.frame := by
  unfold Dev.modCh; simp

@[simp] theorem Dev.setSt_frame (d : Dev) (s : StallId) (x : Stall) :
    (Dev.setSt d s x).frame = d.frame := by
  unfold Dev.setSt; simp

@[simp] theorem Dev.modSt_frame (d : Dev) (s : StallId) (f : Stall → Stall) :
    (Dev.modSt d s f).frame = d.frame := by
  unfold Dev.modSt; simp

@[simp] theorem Dev.setCreg_frame (d : Dev) (n : ChanId) (k : Nat) (v : Nat) :
    (Dev.setCreg d n k v).frame = d.frame := by
  unfold Dev.setCreg; simp

@[simp] theorem Dev.cinc_frame (d : Dev) (n : ChanId) (w : Nat) (k : Nat) :
    (Dev.cinc d n w k).frame = d.frame := by
  unfold Dev.cinc; simp

@[simp] theorem Dev.setSreg_frame (d : Dev) (s : StallId) (k : Nat) (v : Nat) :
    (Dev.setSreg d s k v).frame = d.frame := by
  unfold Dev.setSreg; simp

@[simp] theorem Dev.sinc_frame (d : Dev) (s : StallId) (w : Nat) (k : Nat) :
    (Dev.sinc d s w k).frame = d.frame := by
  unfold Dev.sinc; simp

@[simp] theorem Dev.trace_frame (d : Dev) (n : Option ChanId) (what : TraceKind) :
    (Dev.trace d n what).frame = d.frame := by
  unfold Dev.trace; simp

@[simp] theorem Dev.fresh_frame (d : Dev) :
    (Dev.fresh d).2.frame = d.frame := by
  unfold Dev.fresh; simp

@[simp] theorem Dev.mapCh_frame (d : Dev) (f : ChanId → Channel → Channel) :
    (Dev.mapCh d f).frame = d.frame := by
  unfold Dev.mapCh; simp

@[simp] theorem Dev.raiseAt_frame (d : Dev) (present : Tick) (code : Nat) (cls : Nat) (scope : Scope) (unit : Nat) (detail : Nat) (cause : optParam Nat 0) :
    (Dev.raiseAt d present code cls scope unit detail cause).frame = d.frame := by
  unfold Dev.raiseAt; simp

@[simp] theorem Dev.raiseNow_frame (d : Dev) (code : Nat) (cls : Nat) (scope : Scope) (unit : Nat) (detail : optParam Nat 0) :
    (Dev.raiseNow d code cls scope unit detail).frame = d.frame := by
  unfold Dev.raiseNow; simp

@[simp] theorem Dev.raiseCh_frame (d : Dev) (code : Nat) (cls : Nat) (n : ChanId) (detail : optParam Nat 0) :
    (Dev.raiseCh d code cls n detail).frame = d.frame := by
  unfold Dev.raiseCh; simp

@[simp] theorem Dev.raiseChCyc_frame (d : Dev) (code : Nat) (cls : Nat) (n : ChanId) (cyc : Nat) (detail : optParam Nat 0) :
    (Dev.raiseChCyc d code cls n cyc detail).frame = d.frame := by
  unfold Dev.raiseChCyc; simp

@[simp] theorem Dev.raiseIrq_frame (d : Dev) (v : Nat) :
    (Dev.raiseIrq d v).frame = d.frame := by
  unfold Dev.raiseIrq; simp

@[simp] theorem Dev.violate_frame (d : Dev) (source : Nat) (code : Nat) (detail : Nat) (answer : Nat) :
    (Dev.violate d source code detail answer).frame = d.frame := by
  unfold Dev.violate; simp [apply_ite Dev.frame]

@[simp] theorem Dev.refuse_frame (d : Dev) (obj : Nat) (code : Nat) :
    (Dev.refuse d obj code).frame = d.frame := by
  unfold Dev.refuse; simp

@[simp] theorem Dev.served_frame (d : Dev) :
    (Dev.served d).frame = d.frame := by
  unfold Dev.served; simp

@[simp] theorem Dev.accept_frame (d : Dev) :
    (Dev.accept d).frame = d.frame := by
  unfold Dev.accept; simp [apply_ite Dev.frame]

theorem Dev.hostOver_frame (d : Dev) (n : ChanId) (k : Nat) (f : Dev → Dev) (h : ∀ d, (f d).frame = d.frame) :
    (d.hostOver n k f).frame = d.frame := by
  unfold Dev.hostOver; split <;> simp [h]

@[simp] theorem Dev.keep_frame (d : Dev) (obj : Nat) (old : Nat) :
    (Dev.keep d obj old).frame = d.frame := by
  unfold Dev.keep; simp

@[simp] theorem Dev.keepOk_frame (d : Dev) (obj : Nat) (old : Nat) :
    (Dev.keepOk d obj old).frame = d.frame := by
  unfold Dev.keepOk; simp [apply_ite Dev.frame]

@[simp] theorem Dev.beginConv_frame (d : Dev) (n : ChanId) (mi : Bool) (kind : ConvKind) (slot : Nat) (word : Nat) (x : Tick × Nat) :
    (Dev.beginConv d n mi kind slot word x).frame = d.frame := by
  unfold Dev.beginConv; simp

@[simp] theorem Dev.startRegular_frame (d : Dev) (n : ChanId) (mi : Bool) (x : Tick × Nat) :
    (Dev.startRegular d n mi x).frame = d.frame := by
  unfold Dev.startRegular; simp [apply_ite Dev.frame]

@[simp] theorem Dev.beginWaiting_frame (d : Dev) (n : ChanId) (mi : Bool) (x : Tick × Nat) :
    (Dev.beginWaiting d n mi x).frame = d.frame := by
  unfold Dev.beginWaiting; (repeat' split) <;> simp

@[simp] theorem Dev.restartSeq_frame (d : Dev) (n : ChanId) :
    (Dev.restartSeq d n).frame = d.frame := by
  unfold Dev.restartSeq; dsimp only; (repeat' split) <;> simp

@[simp] theorem Dev.timerStart_frame (d : Dev) (n : ChanId) (mi : Bool) (second : Bool) :
    (Dev.timerStart d n mi second).frame = d.frame := by
  unfold Dev.timerStart; simp [apply_ite Dev.frame]

@[simp] theorem Dev.overrun_frame (d : Dev) (n : ChanId) (c : Nat) :
    (Dev.overrun d n c).frame = d.frame := by
  unfold Dev.overrun; simp [apply_ite Dev.frame]

@[simp] theorem Dev.regularFire_frame (d : Dev) (o : ChanId) (mi : Bool) (x : Tick × Nat) :
    (Dev.regularFire d o mi x).frame = d.frame := by
  unfold Dev.regularFire; simp [apply_ite Dev.frame, foldl_frame]

@[simp] theorem Dev.injectedFire_frame (d : Dev) (o : ChanId) (mi : Bool) (x : Tick × Nat) :
    (Dev.injectedFire d o mi x).frame = d.frame := by
  unfold Dev.injectedFire; simp [apply_ite Dev.frame, foldl_frame]

@[simp] theorem Dev.pulseEnds_frame (d : Dev) (o : ChanId) (mi : Bool) (p : Pulse) :
    (Dev.pulseEnds d o mi p).frame = d.frame := by
  unfold Dev.pulseEnds; simp [apply_ite Dev.frame]

@[simp] theorem Dev.pulsesTo_frame (d : Dev) (o : ChanId) (mi : Bool) (x : Tick × Nat) :
    (Dev.pulsesTo d o mi x).frame = d.frame := by
  unfold Dev.pulsesTo; simp [apply_ite Dev.frame, foldl_frame]

@[simp] theorem Dev.triggered_frame (d : Dev) (o : ChanId) (mi : Bool) (inj : Bool) (qual : Nat) (width : Nat) (ev : Ev) :
    (Dev.triggered d o mi inj qual width ev).frame = d.frame := by
  unfold Dev.triggered; dsimp only; (repeat' split) <;> simp

@[simp] theorem Dev.widenTrigger_frame (d : Dev) (o : ChanId) (mi : Bool) (inj : Bool) (ev : Ev) :
    (Dev.widenTrigger d o mi inj ev).frame = d.frame := by
  unfold Dev.widenTrigger; simp

@[simp] theorem Dev.regularTrigger_frame (d : Dev) (o : ChanId) (mi : Bool) (ev : Ev) :
    (Dev.regularTrigger d o mi ev).frame = d.frame := by
  unfold Dev.regularTrigger; dsimp only; (repeat' split) <;> simp_all []

@[simp] theorem Dev.injectedTrigger_frame (d : Dev) (o : ChanId) (mi : Bool) (ev : Ev) :
    (Dev.injectedTrigger d o mi ev).frame = d.frame := by
  unfold Dev.injectedTrigger; dsimp only; (repeat' split) <;> simp_all []

@[simp] theorem Dev.deferCal_frame (d : Dev) (n : ChanId) (mi : Bool) :
    (Dev.deferCal d n mi).frame = d.frame := by
  unfold Dev.deferCal; simp

@[simp] theorem Dev.displace_frame (d : Dev) (n : ChanId) (mi : Bool) (k : ConvKind) :
    (Dev.displace d n mi k).frame = d.frame := by
  unfold Dev.displace; split <;> simp

@[simp] theorem Dev.abandonConv_frame (d : Dev) (n : ChanId) (mi : Bool) (x : Tick × Nat) :
    (Dev.abandonConv d n mi x).frame = d.frame := by
  unfold Dev.abandonConv; dsimp only; (repeat' split) <;> simp [foldl_frame]

@[simp] theorem Dev.injectedSlot_frame (d : Dev) (n : ChanId) (mi : Bool) (j : Nat) (x : Tick × Nat) :
    (Dev.injectedSlot d n mi j x).frame = d.frame := by
  unfold Dev.injectedSlot; simp

@[simp] theorem Dev.injectedDue_frame (d : Dev) (n : ChanId) (mi : Bool) :
    (Dev.injectedDue d n mi).frame = d.frame := by
  unfold Dev.injectedDue; dsimp only; (repeat' split) <;> simp

@[simp] theorem Dev.injectedStart_frame (d : Dev) (n : ChanId) (mi : Bool) :
    (Dev.injectedStart d n mi).frame = d.frame := by
  unfold Dev.injectedStart; dsimp only; (repeat' split) <;> simp

@[simp] theorem Dev.bgCounts_frame (d : Dev) (n : ChanId) (mi : Bool) (kind : ConvKind) (e : Entry) :
    (Dev.bgCounts d n mi kind e).frame = d.frame := by
  unfold Dev.bgCounts; (repeat' split) <;> simp

@[simp] theorem Dev.finishConv_frame (d : Dev) (n : ChanId) (mi : Bool) (r : Running) (raw : BitVec 18) :
    (Dev.finishConv d n mi r raw).frame = d.frame := by
  unfold Dev.finishConv; simp [apply_ite Dev.frame]

@[simp] theorem Dev.conversionEnd_frame (d : Dev) (n : ChanId) (mi : Bool) (raw : BitVec 18) (cyc : Nat) :
    (d.conversionEnd n mi raw cyc).frame = d.frame := by
  unfold Dev.conversionEnd; dsimp only
  split
  · rfl
  · split <;> (try split) <;> simp [apply_ite Dev.frame]

@[simp] theorem Dev.calConversion_frame (d : Dev) (n : ChanId) (mi : Bool) :
    (Dev.calConversion d n mi).frame = d.frame := by
  unfold Dev.calConversion; simp [apply_ite Dev.frame]

@[simp] theorem Dev.wmSettle_frame (d : Dev) (n : ChanId) :
    (Dev.wmSettle d n).frame = d.frame := by
  unfold Dev.wmSettle; simp [apply_ite Dev.frame, foldl_frame]

@[simp] theorem Dev.wmUnqueue_frame (d : Dev) (n : ChanId) (m : Idx4) :
    (Dev.wmUnqueue d n m).frame = d.frame := by
  unfold Dev.wmUnqueue; simp

@[simp] theorem Dev.wmQueue_frame (d : Dev) (n : ChanId) (m : Idx4) :
    (Dev.wmQueue d n m).frame = d.frame := by
  unfold Dev.wmQueue; simp [apply_ite Dev.frame]

@[simp] theorem Dev.wmTake_frame (d : Dev) (n : ChanId) (m : Idx4) (tripped : Bool) (byAux : Bool) :
    (Dev.wmTake d n m tripped byAux).frame = d.frame := by
  unfold Dev.wmTake; simp [apply_ite Dev.frame]

@[simp] theorem Dev.wmCommit_frame (d : Dev) (n : ChanId) (m : Idx4) (inside : Bool) :
    (Dev.wmCommit d n m inside).frame = d.frame := by
  unfold Dev.wmCommit; dsimp only; (repeat' split) <;> simp_all []

@[simp] theorem Dev.wmReadback_frame (d : Dev) (n : ChanId) (m : Idx4) (reading : Int) (began : Tick) :
    (Dev.wmReadback d n m reading began).frame = d.frame := by
  unfold Dev.wmReadback; simp [apply_ite Dev.frame]

@[simp] theorem Dev.wmResolve_frame (d : Dev) (s : StallId) (key : Nat) (reading : Int) :
    (Dev.wmResolve d s key reading).frame = d.frame := by
  unfold Dev.wmResolve; simp [apply_ite Dev.frame]

@[simp] theorem Dev.wmPlausible_frame (d : Dev) (n : ChanId) (m : Idx4) (samples : List (Tick × Int)) :
    (Dev.wmPlausible d n m samples).frame = d.frame := by
  unfold Dev.wmPlausible; simp [apply_ite Dev.frame, foldl_frame]

@[simp] theorem Dev.wmResume_frame (d : Dev) (n : ChanId) :
    (Dev.wmResume d n).frame = d.frame := by
  unfold Dev.wmResume; simp [apply_ite Dev.frame, foldl_frame]

@[simp] theorem Dev.setClamps_frame (d : Dev) (n : ChanId) (hi : Nat) (lo : Nat) :
    (Dev.setClamps d n hi lo).frame = d.frame := by
  unfold Dev.setClamps; simp

@[simp] theorem Dev.reclamp_frame (d : Dev) (n : ChanId) :
    (Dev.reclamp d n).frame = d.frame := by
  unfold Dev.reclamp; simp

@[simp] theorem Dev.gustStop_frame (d : Dev) (n : ChanId) (x : Tick × Nat) :
    (Dev.gustStop d n x).frame = d.frame := by
  unfold Dev.gustStop; simp [foldl_frame]

@[simp] theorem Dev.gustEdge_frame (d : Dev) (n : ChanId) (x : Tick × Nat) :
    (Dev.gustEdge d n x).frame = d.frame := by
  unfold Dev.gustEdge; dsimp only; (repeat' split) <;> simp_all []

@[simp] theorem Dev.gustBegin_frame (d : Dev) (n : ChanId) :
    (Dev.gustBegin d n).frame = d.frame := by
  unfold Dev.gustBegin; dsimp only; (repeat' split) <;> simp_all [foldl_frame]

@[simp] theorem Dev.gustEnd_frame (d : Dev) (n : ChanId) :
    (Dev.gustEnd d n).frame = d.frame := by
  unfold Dev.gustEnd; (repeat' split) <;> simp

@[simp] theorem Dev.collect_frame (d : Dev) (n : ChanId) (c : Nat) (busy : Bool) (ev : Ev) :
    (Dev.collect d n c busy ev).frame = d.frame := by
  unfold Dev.collect; simp [apply_ite Dev.frame]

@[simp] theorem Dev.arrive_frame (d : Dev) (key : Nat) (x : Tick × Nat) :
    (Dev.arrive d key x).frame = d.frame := by
  unfold Dev.arrive; simp

@[simp] theorem Dev.sineReset_frame (d : Dev) (n : ChanId) (x : Tick × Nat) :
    (Dev.sineReset d n x).frame = d.frame := by
  unfold Dev.sineReset; simp [apply_ite Dev.frame]

@[simp] theorem Dev.holdEdge_frame (d : Dev) (n : ChanId) (ev : Ev) :
    (Dev.holdEdge d n ev).frame = d.frame := by
  unfold Dev.holdEdge; simp [apply_ite Dev.frame]

@[simp] theorem Dev.consume_frame (d : Dev) (n : ChanId) (c : Nat) (ev : Ev) :
    (Dev.consume d n c ev).frame = d.frame := by
  unfold Dev.consume; (repeat' split) <;> simp [apply_ite Dev.frame]

@[simp] theorem Dev.drive_frame (d : Dev) (ovr : Nat) (p : OutPulse) (ev : Ev) :
    (Dev.drive d ovr p ev).frame = d.frame := by
  unfold Dev.drive; simp [apply_ite Dev.frame]

@[simp] theorem Dev.mergeDrive_frame (d : Dev) (p : OutPulse) :
    (Dev.mergeDrive d p).frame = d.frame := by
  unfold Dev.mergeDrive; simp

@[simp] theorem Dev.evioOut_frame (d : Dev) (k : Nat) (ev : Ev) :
    (Dev.evioOut d k ev).frame = d.frame := by
  unfold Dev.evioOut; simp [apply_ite Dev.frame]

@[simp] theorem Dev.mkoOut_frame (d : Dev) (k : StallId) (ev : Ev) :
    (Dev.mkoOut d k ev).frame = d.frame := by
  unfold Dev.mkoOut; simp [apply_ite Dev.frame]

@[simp] theorem Dev.auxFire_frame (d : Dev) (s : StallId) (x : Tick × Nat) :
    (Dev.auxFire d s x).frame = d.frame := by
  unfold Dev.auxFire; simp [apply_ite Dev.frame]

@[simp] theorem Dev.auxPulsesTo_frame (d : Dev) (s : StallId) (x : Tick × Nat) :
    (Dev.auxPulsesTo d s x).frame = d.frame := by
  unfold Dev.auxPulsesTo; simp [apply_ite Dev.frame, foldl_frame]

@[simp] theorem Dev.auxTrigger_frame (d : Dev) (s : StallId) (ev : Ev) :
    (Dev.auxTrigger d s ev).frame = d.frame := by
  unfold Dev.auxTrigger; dsimp only; (repeat' split) <;> simp_all []

@[simp] theorem Dev.deliver_frame (d : Dev) (t : Nat) (ev : Ev) : (d.deliver t ev).frame = d.frame := by
  unfold Dev.deliver; dsimp only
  rw [foldl_frame, Dev.eachCh_frame]
  · intro d n; exact foldl_frame _ (fun d c => by simp) _ d
  · intro d x; (repeat' split) <;> simp

@[simp] theorem Dev.carry_frame (d : Dev) (t : Nat) (inherited : List Nat) (ev : Ev) :
    (Dev.carry d t inherited ev).frame = d.frame := by
  unfold Dev.carry; simp [apply_ite Dev.frame]

@[simp] theorem Dev.fire_frame (d : Dev) (code : Nat) (inherited : List Nat) (high : Bool) (width : Nat) (cyc : Nat) :
    (Dev.fire d code inherited high width cyc).frame = d.frame := by
  unfold Dev.fire; simp [apply_ite Dev.frame, foldl_frame]

@[simp] theorem Dev.fireCommit_frame (d : Dev) (code : Nat) (inherited : optParam (List Nat) []) :
    (Dev.fireCommit d code inherited).frame = d.frame := by
  unfold Dev.fireCommit; simp

@[simp] theorem Dev.mkoLands_frame (d : Dev) :
    (Dev.mkoLands d).frame = d.frame := by
  unfold Dev.mkoLands; simp

@[simp] theorem Dev.clampsFor_frame (d : Dev) (n : ChanId) (hi : Nat) (lo : Nat) :
    (Dev.clampsFor d n hi lo).frame = d.frame := by
  unfold Dev.clampsFor; split <;> simp

@[simp] theorem Dev.entryClamps_frame (d : Dev) (n : ChanId) :
    (Dev.entryClamps d n).frame = d.frame := by
  unfold Dev.entryClamps; simp

@[simp] theorem Dev.endWindow_frame (d : Dev) (n : ChanId) :
    (Dev.endWindow d n).frame = d.frame := by
  unfold Dev.endWindow; simp

@[simp] theorem Dev.closeWindow_frame (d : Dev) (n : ChanId) :
    (Dev.closeWindow d n).frame = d.frame := by
  unfold Dev.closeWindow; simp

@[simp] theorem Dev.openWindow_frame (d : Dev) (n : ChanId) (w : Nat) (fi : Bool) (target : Int) (host : Bool) :
    (Dev.openWindow d n w fi target host).frame = d.frame := by
  unfold Dev.openWindow; simp [apply_ite Dev.frame, foldl_frame]

@[simp] theorem Dev.enterEntry_frame (d : Dev) (n : ChanId) (e : Nat) (fi : Bool) (target : Int) (host : Bool) :
    (Dev.enterEntry d n e fi target host).frame = d.frame := by
  unfold Dev.enterEntry; simp [apply_ite Dev.frame]

@[simp] theorem Dev.compStep_frame (d : Dev) (n : ChanId) :
    (Dev.compStep d n).frame = d.frame := by
  unfold Dev.compStep; (repeat' split) <;> simp [foldl_frame]

@[simp] theorem Dev.becomeParked_frame (d : Dev) (n : ChanId) :
    (Dev.becomeParked d n).frame = d.frame := by
  unfold Dev.becomeParked; simp [apply_ite Dev.frame, foldl_frame]

@[simp] theorem Dev.tallyOpen_frame (d : Dev) (n : ChanId) (u : Idx16) :
    (Dev.tallyOpen d n u).frame = d.frame := by
  unfold Dev.tallyOpen; simp

@[simp] theorem Dev.tallyDay_frame (d : Dev) (n : ChanId) (u : Idx16) (day : TallyDay) (ev : TallyEv) :
    (Dev.tallyDay d n u day ev).frame = d.frame := by
  unfold Dev.tallyDay; simp [apply_ite Dev.frame, foldl_frame]

@[simp] theorem Dev.tallyStages_frame (d : Dev) (n : ChanId) (u : Idx16) (ev : TallyEv) :
    (Dev.tallyStages d n u ev).frame = d.frame := by
  unfold Dev.tallyStages; simp

@[simp] theorem Dev.tallyCloseAll_frame (d : Dev) (n : ChanId) (cause : CloseCause) :
    (Dev.tallyCloseAll d n cause).frame = d.frame := by
  unfold Dev.tallyCloseAll; simp [apply_ite Dev.frame, foldl_frame]

@[simp] theorem Dev.tallyCommit_frame (d : Dev) (n : ChanId) (x : UnitInputs) :
    (Dev.tallyCommit d n x).frame = d.frame := by
  unfold Dev.tallyCommit; simp [apply_ite Dev.frame, foldl_frame]

@[simp] theorem Dev.tallyReconfig_frame (d : Dev) (n : ChanId) (u : Idx16) (put : Dev → Dev) (hput : ∀ x, (put x).frame = x.frame) :
    (Dev.tallyReconfig d n u put).frame = d.frame := by
  unfold Dev.tallyReconfig; dsimp only; (repeat' split) <;> simp_all [Dev.tick_eq]

@[simp] theorem Dev.startValue_frame (d : Dev) (n : ChanId) :
    (Dev.startValue d n).frame = d.frame := by
  unfold Dev.startValue; simp [apply_ite Dev.frame]

@[simp] theorem Dev.sysAbort_frame (d : Dev) (code : Nat) :
    (Dev.sysAbort d code).frame = d.frame := by
  unfold Dev.sysAbort; dsimp only; (repeat' split) <;> simp_all []

@[simp] theorem Dev.sysAbortOn_frame (d : Dev) (n : ChanId) (code : Nat) :
    (Dev.sysAbortOn d n code).frame = d.frame := by
  unfold Dev.sysAbortOn; simp [apply_ite Dev.frame]

@[simp] theorem Dev.fireBulk_frame (d : Dev) (code : Nat) (cause : Nat) :
    (Dev.fireBulk d code cause).frame = d.frame := by
  unfold Dev.fireBulk; simp [apply_ite Dev.frame]

@[simp] theorem Dev.spoolMarks_frame (d : Dev) (n : ChanId) :
    (Dev.spoolMarks d n).frame = d.frame := by
  unfold Dev.spoolMarks; simp [apply_ite Dev.frame]

@[simp] theorem Dev.seqFault_frame (d : Dev) (n : ChanId) (detail : Nat) :
    (Dev.seqFault d n detail).frame = d.frame := by
  unfold Dev.seqFault; simp

@[simp] theorem Dev.selectStep_frame (d : Dev) (n : ChanId) (p : Pick) (o : List Nat) :
    (d.selectStep n p o).frame = d.frame := by
  unfold Dev.selectStep; dsimp only
  split
  · simp
  · split <;> (try split) <;> simp [apply_ite Dev.frame, foldl_frame]

@[simp] theorem Dev.offerJump_frame (d : Dev) (n : ChanId) (src : JumpSrc) (seg : Nat) (arrival : Tick) (origin : List Nat) :
    (Dev.offerJump d n src seg arrival origin).frame = d.frame := by
  unfold Dev.offerJump; dsimp only; (repeat' split) <;> simp_all []

@[simp] theorem Dev.passBoundary_frame (d : Dev) (n : ChanId) :
    (Dev.passBoundary d n).frame = d.frame := by
  unfold Dev.passBoundary; simp

@[simp] theorem Dev.countJump_frame (d : Dev) (n : ChanId) (j : Jump) (clr : Bool) :
    (Dev.countJump d n j clr).frame = d.frame := by
  unfold Dev.countJump; simp [apply_ite Dev.frame]

@[simp] theorem Dev.chainEnd_frame (d : Dev) (n : ChanId) :
    (Dev.chainEnd d n).frame = d.frame := by
  unfold Dev.chainEnd; simp

@[simp] theorem Dev.takeSafe_frame (d : Dev) (n : ChanId) (j : Jump) :
    (Dev.takeSafe d n j).frame = d.frame := by
  unfold Dev.takeSafe; simp

@[simp] theorem Dev.underrun_frame (d : Dev) (n : ChanId) (x : Nat) (o : Bool) :
    (d.underrun n x o).frame = d.frame := by
  unfold Dev.underrun; dsimp only
  split <;> (try split) <;> simp [apply_ite Dev.frame]

@[simp] theorem Dev.play_frame (d : Dev) (n : ChanId) (x : Nat) (first : Bool) (origin : List Nat) :
    (Dev.play d n x first origin).frame = d.frame := by
  unfold Dev.play; dsimp only; (repeat' split) <;> simp

@[simp] theorem Dev.move_frame (k : Nat) (d : Dev) (n : ChanId) (m : Move) : (Dev.move k d n m).frame = d.frame := by
  induction k generalizing d m with
  | zero => simp [Dev.move]
  | succ k ih =>
    cases m <;> unfold Dev.move <;> dsimp only
    all_goals (repeat' split) <;> simp [ih]

@[simp] theorem Dev.condRaw_frame (d : Dev) (n : ChanId) (w : Nat) :
    (Dev.condRaw d n w).2.2.frame = d.frame := by
  unfold Dev.condRaw; split <;> simp

@[simp] theorem Dev.condition_frame (d : Dev) (n : ChanId) (w : Nat) :
    (Dev.condition d n w).2.frame = d.frame := by
  unfold Dev.condition; dsimp only; (repeat' split) <;> simp_all []

@[simp] theorem Dev.noteRedo_frame (d : Dev) (n : ChanId) :
    (Dev.noteRedo d n).frame = d.frame := by
  unfold Dev.noteRedo; simp

@[simp] theorem Dev.unselect_frame (d : Dev) (n : ChanId) (r : Redo) (t : Tick) :
    (Dev.unselect d n r t).frame = d.frame := by
  unfold Dev.unselect; simp [foldl_frame]

@[simp] theorem Dev.giveWay_frame (d : Dev) (n : ChanId) :
    (Dev.giveWay d n).frame = d.frame := by
  unfold Dev.giveWay; dsimp only; (repeat' split) <;> simp

@[simp] theorem Dev.forward_frame (d : Dev) (n : ChanId) :
    (Dev.forward d n).frame = d.frame := by
  unfold Dev.forward; dsimp only; (repeat' split) <;> simp

@[simp] theorem Dev.loopBack_frame (d : Dev) (n : ChanId) (l : LoopLevel) :
    (Dev.loopBack d n l).frame = d.frame := by
  unfold Dev.loopBack; simp

@[simp] theorem Dev.spanEnd_frame (d : Dev) (n : ChanId) :
    (Dev.spanEnd d n).frame = d.frame := by
  unfold Dev.spanEnd; dsimp only; (repeat' split) <;> simp_all []

@[simp] theorem Dev.openBoundary_frame (d : Dev) (n : ChanId) :
    (Dev.openBoundary d n).frame = d.frame := by
  unfold Dev.openBoundary; dsimp only; (repeat' split) <;> simp_all []

@[simp] theorem Dev.startSeq_frame (d : Dev) (n : ChanId) :
    (Dev.startSeq d n).frame = d.frame := by
  unfold Dev.startSeq; simp [apply_ite Dev.frame]

@[simp] theorem Dev.armBarker_frame (d : Dev) (n : ChanId) :
    (Dev.armBarker d n).frame = d.frame := by
  unfold Dev.armBarker; simp

@[simp] theorem Dev.stopBarker_frame (d : Dev) (n : ChanId) :
    (Dev.stopBarker d n).frame = d.frame := by
  unfold Dev.stopBarker; simp

@[simp] theorem Dev.applyForce_frame (d : Dev) (m : ChanId) (w : Nat) (differs : Bool) :
    (Dev.applyForce d m w differs).frame = d.frame := by
  unfold Dev.applyForce; simp [apply_ite Dev.frame]

@[simp] theorem Dev.applyFields_frame (d : Dev) (m : ChanId) (w : Nat) :
    (Dev.applyFields d m w).frame = d.frame := by
  unfold Dev.applyFields; simp

@[simp] theorem Dev.applyKind_frame (d : Dev) (n : ChanId) (w : Nat) :
    (Dev.applyKind d n w).frame = d.frame := by
  unfold Dev.applyKind; split <;> simp

@[simp] theorem Dev.applyStep_frame (d : Dev) (n : ChanId) (s : Selected) :
    (Dev.applyStep d n s).frame = d.frame := by
  unfold Dev.applyStep; simp [apply_ite Dev.frame, foldl_frame]

@[simp] theorem Dev.fireStep_frame (d : Dev) (n : ChanId) (s : Selected) :
    (Dev.fireStep d n s).frame = d.frame := by
  unfold Dev.fireStep; simp

@[simp] theorem Dev.seal_frame (d : Dev) :
    (Dev.seal d).frame = d.frame := by
  unfold Dev.seal; simp [foldl_frame, Dev.eachCh_frame]

@[simp] theorem Dev.engRun_frame (d : Dev) (n : ChanId) (k : Fin 8) (cycles : Nat) (ok : Bool) (f : Dev → Dev)
    (h : ∀ d, (f d).frame = d.frame) : (d.engRun n k cycles ok f).frame = d.frame := by
  unfold Dev.engRun; split <;> simp [h]

@[simp] theorem Dev.engAlu_frame (d : Dev) (n : ChanId) (k : Fin 8) (cycles : Nat) (ok : Bool) (f : Engine → Engine) :
    (Dev.engAlu d n k cycles ok f).frame = d.frame := by
  unfold Dev.engAlu; simp

@[simp] theorem Dev.setScr_frame (d : Dev) (s : StallId) (a : Nat) (w : Word64) :
    (Dev.setScr d s a w).frame = d.frame := by
  unfold Dev.setScr; simp

@[simp] theorem Dev.putScr_frame (d : Dev) (s : StallId) (a : Nat) (cyc : Nat) (te : Nat) (w : Word64) :
    (Dev.putScr d s a cyc te w).frame = d.frame := by
  unfold Dev.putScr; simp

@[simp] theorem Dev.bulkStore_frame (d : Dev) (s : StallId) (addr : Nat) (w : Word64) :
    (Dev.bulkStore d s addr w).frame = d.frame := by
  unfold Dev.bulkStore; simp

@[simp] theorem Dev.engStore_frame (d : Dev) (n : ChanId) (k : Fin 8) (addr : Nat) (cyc : Nat) (v : Int) :
    (Dev.engStore d n k addr cyc v).frame = d.frame := by
  unfold Dev.engStore; dsimp only; (repeat' split) <;> simp_all []

@[simp] theorem Dev.modFifo_frame (d : Dev) (f : Fifo → Fifo) :
    (Dev.modFifo d f).frame = d.frame := by
  unfold Dev.modFifo; simp

@[simp] theorem Dev.formBlock_frame (d : Dev) (sessionEnd : Bool) :
    (Dev.formBlock d sessionEnd).frame = d.frame := by
  unfold Dev.formBlock; simp [apply_ite Dev.frame]

@[simp] theorem Dev.startSession_frame (d : Dev) :
    (Dev.startSession d).frame = d.frame := by
  unfold Dev.startSession; simp

@[simp] theorem Dev.finishSession_frame (d : Dev) (roll : Bool) :
    (Dev.finishSession d roll).frame = d.frame := by
  unfold Dev.finishSession; simp [apply_ite Dev.frame]

@[simp] theorem Dev.endSession_frame (d : Dev) (roll : Bool) :
    (Dev.endSession d roll).frame = d.frame := by
  unfold Dev.endSession; simp [apply_ite Dev.frame]

@[simp] theorem Dev.enterRecord_frame (d : Dev) (r : TallyRec) :
    (Dev.enterRecord d r).frame = d.frame := by
  unfold Dev.enterRecord; split <;> simp [apply_ite Dev.frame]

@[simp] theorem Dev.enterRecords_frame (d : Dev) (n : ChanId) :
    (Dev.enterRecords d n).frame = d.frame := by
  unfold Dev.enterRecords; simp [apply_ite Dev.frame, foldl_frame]

@[simp] theorem Dev.releaseEntries_frame (d : Dev) (k : Nat) :
    (Dev.releaseEntries d k).frame = d.frame := by
  unfold Dev.releaseEntries; simp

@[simp] theorem Dev.fifoHold_frame (d : Dev) :
    (Dev.fifoHold d).frame = d.frame := by
  unfold Dev.fifoHold; simp [apply_ite Dev.frame]

@[simp] theorem Dev.undoMonitor_frame (d : Dev) (n : ChanId) (old : Monitor) (m : Idx4) :
    (Dev.undoMonitor d n old m).frame = d.frame := by
  unfold Dev.undoMonitor; simp [apply_ite Dev.frame]

@[simp] theorem Dev.takeBack_frame (d : Dev) (n : ChanId) (a : Applied) :
    (Dev.takeBack d n a).frame = d.frame := by
  unfold Dev.takeBack; simp [foldl_frame]

@[simp] theorem Dev.undoApply_frame (d : Dev) (n : ChanId) :
    (Dev.undoApply d n).frame = d.frame := by
  unfold Dev.undoApply; split <;> simp

@[simp] theorem Dev.rewind_frame (d : Dev) (key : Nat) (w : Word64) :
    (Dev.rewind d key w).frame = d.frame := by
  unfold Dev.rewind; simp [apply_ite Dev.frame]

@[simp] theorem Dev.undoStores_frame (d : Dev) (n : ChanId) :
    (Dev.undoStores d n).frame = d.frame := by
  unfold Dev.undoStores; simp [foldl_frame]

@[simp] theorem Dev.undoWindow_frame (d : Dev) (n : ChanId) :
    (Dev.undoWindow d n).frame = d.frame := by
  unfold Dev.undoWindow; split <;> simp

@[simp] theorem Dev.enterParking_frame (d : Dev) (n : ChanId) :
    (Dev.enterParking d n).frame = d.frame := by
  unfold Dev.enterParking; simp

@[simp] theorem Dev.parkArming_frame (d : Dev) (n : ChanId) :
    (Dev.parkArming d n).frame = d.frame := by
  unfold Dev.parkArming; simp

@[simp] theorem Dev.abortArm_frame (d : Dev) (mask : Word64) (result : Nat) :
    (Dev.abortArm d mask result).frame = d.frame := by
  unfold Dev.abortArm; simp [apply_ite Dev.frame, Dev.inMask_frame]

@[simp] theorem Dev.parkOne_frame (d : Dev) (n : ChanId) :
    (Dev.parkOne d n).frame = d.frame := by
  unfold Dev.parkOne; dsimp only; (repeat' split) <;> simp_all []

@[simp] theorem Dev.parkMask_frame (d : Dev) (mask : Word64) :
    (Dev.parkMask d mask).frame = d.frame := by
  unfold Dev.parkMask; simp [Dev.inMask_frame]

@[simp] theorem Dev.startPolicy_frame (d : Dev) (n : ChanId) (rank : Nat) :
    (Dev.startPolicy d n rank).frame = d.frame := by
  unfold Dev.startPolicy; dsimp only; (repeat' split) <;> simp_all []

@[simp] theorem Dev.safeEntry_frame (d : Dev) (n : ChanId) (rank : Nat) :
    (Dev.safeEntry d n rank).frame = d.frame := by
  unfold Dev.safeEntry; simp

@[simp] theorem Dev.faultOn_frame (d : Dev) (n : ChanId) (rank : Nat) :
    (Dev.faultOn d n rank).1.frame = d.frame := by
  unfold Dev.faultOn; dsimp only; (repeat' split) <;> simp_all []

@[simp] theorem Dev.logFault_frame (d : Dev) (f : FaultRec) (act : Act) (nested : Bool) (switched : Bool) :
    (Dev.logFault d f act nested switched).frame = d.frame := by
  unfold Dev.logFault; simp [apply_ite Dev.frame]

@[simp] theorem Dev.setLatch_frame (d : Dev) (f : FaultRec) :
    (Dev.setLatch d f).frame = d.frame := by
  unfold Dev.setLatch; (repeat' split) <;> simp [apply_ite Dev.frame, Dev.eachSt_frame]

@[simp] theorem Dev.handleOne_frame (d : Dev) (f : FaultRec) : (d.handleOne f).frame = d.frame := by
  unfold Dev.handleOne; dsimp only
  split
  · simp
  · simp only [Dev.logFault_frame, Dev.setLatch_frame]
    exact foldl_frame1 _ (fun a x => by simp) _ (d, Act.latch, false)

@[simp] theorem Dev.beginF5_frame (d : Dev) (f : FaultRec) :
    (Dev.beginF5 d f).frame = d.frame := by
  unfold Dev.beginF5; simp [apply_ite Dev.frame, Dev.eachSt_frame]

@[simp] theorem Dev.handle_frame (d : Dev) (cls : Nat) (fs : List FaultRec) :
    (Dev.handle d cls fs).frame = d.frame := by
  unfold Dev.handle; simp [apply_ite Dev.frame, foldl_frame]

@[simp] theorem Dev.escalate_frame (d : Dev) (cause : Nat) :
    (Dev.escalate d cause).frame = d.frame := by
  unfold Dev.escalate; simp [apply_ite Dev.frame]

@[simp] theorem Dev.enqueue_frame (d : Dev) (f : FaultRec) :
    (Dev.enqueue d f).frame = d.frame := by
  unfold Dev.enqueue; simp [apply_ite Dev.frame]

@[simp] theorem Dev.presentClass_frame (d : Dev) (cls : Nat) (fs : List FaultRec) :
    (Dev.presentClass d cls fs).frame = d.frame := by
  unfold Dev.presentClass; simp [apply_ite Dev.frame, foldl_frame]

@[simp] theorem Dev.presentDue_frame (d : Dev) :
    (Dev.presentDue d).frame = d.frame := by
  unfold Dev.presentDue; simp

@[simp] theorem Dev.present_frame (d : Dev) :
    (Dev.present d).frame = d.frame := by
  unfold Dev.present; simp

@[simp] theorem Dev.beginQueued_frame (d : Dev) :
    (Dev.beginQueued d).frame = d.frame := by
  unfold Dev.beginQueued; (repeat' split) <;> simp

@[simp] theorem Dev.lastResort_frame (d : Dev) (s : StallId) :
    (Dev.lastResort d s).frame = d.frame := by
  unfold Dev.lastResort; simp [foldl_frame]

@[simp] theorem Dev.readStall_frame (d : Dev) (s : StallId) (code : Nat) :
    (Dev.readStall d s code).frame = d.frame := by
  unfold Dev.readStall; simp [apply_ite Dev.frame, foldl_frame]

@[simp] theorem Dev.readStalls_frame (d : Dev) : d.readStalls.frame = d.frame := by
  unfold Dev.readStalls; dsimp only
  split
  · rfl
  · rw [foldl_frame _ (fun d f => by simp)]
    simp
    apply Dev.eachSt_frame; intro d s; (repeat' split) <;> simp

@[simp] theorem Dev.settleFaults_frame (d : Dev) :
    (Dev.settleFaults d).frame = d.frame := by
  unfold Dev.settleFaults; simp

@[simp] theorem Dev.raiseF5_frame (d : Dev) (s : StallId) (code : Nat) (cause : Nat) (detail : Nat) (present : Tick) :
    (Dev.raiseF5 d s code cause detail present).frame = d.frame := by
  unfold Dev.raiseF5; simp

@[simp] theorem Dev.faultClear_frame (d : Dev) (m : BitVec 32) :
    (Dev.faultClear d m).frame = d.frame := by
  unfold Dev.faultClear; simp [apply_ite Dev.frame, Dev.eachSt_frame]

@[simp] theorem Dev.faultClearCh_frame (d : Dev) (m : Word64) :
    (Dev.faultClearCh d m).frame = d.frame := by
  unfold Dev.faultClearCh; simp [apply_ite Dev.frame, Dev.inMask_frame]

@[simp] theorem Dev.histClear_frame (d : Dev) (v : Nat) :
    (Dev.histClear d v).frame = d.frame := by
  unfold Dev.histClear; simp [apply_ite Dev.frame]

@[simp] theorem Dev.loseTick_frame (d : Dev) (n : ChanId) (code : Nat) :
    (Dev.loseTick d n code).frame = d.frame := by
  unfold Dev.loseTick; simp [foldl_frame]

@[simp] theorem Dev.recover_frame (d : Dev) (code : Nat) (scope : Scope) (unit : Nat) (detail : Nat) :
    (Dev.recover d code scope unit detail).frame = d.frame := by
  unfold Dev.recover; simp

@[simp] theorem Dev.failWord_frame (d : Dev) (n : ChanId) :
    (Dev.failWord d n).frame = d.frame := by
  unfold Dev.failWord; simp

@[simp] theorem Dev.listLine_frame (d : Dev) (line : Nat) (cause : Nat) (seg : Nat) (now : Tick) :
    (Dev.listLine d line cause seg now).frame = d.frame := by
  unfold Dev.listLine; simp [apply_ite Dev.frame]

@[simp] theorem Dev.refillHeads_frame (d : Dev) (n : ChanId) (line : Nat) :
    (Dev.refillHeads d n line).frame = d.frame := by
  unfold Dev.refillHeads; simp

@[simp] theorem Dev.stuckOn_frame (d : Dev) (n : ChanId) (line : Nat) :
    (Dev.stuckOn d n line).frame = d.frame := by
  unfold Dev.stuckOn; simp [apply_ite Dev.frame]

@[simp] theorem Dev.linePersist_frame (d : Dev) (line : Nat) (cause : ReadCause) (now : Tick) :
    (Dev.linePersist d line cause now).frame = d.frame := by
  unfold Dev.linePersist; split <;> simp

@[simp] theorem Dev.transient_frame (d : Dev) (obj : Nat) (detail : Nat) :
    (Dev.transient d obj detail).frame = d.frame := by
  unfold Dev.transient; simp

@[simp] theorem Dev.repair_frame (d : Dev) (m r : Nat) : (d.repair m r).frame = d.frame := by
  unfold Dev.repair
  dsimp only [Dev.inc, Dev.setReg, Dev.raiseAt]
  (repeat' split) <;> rfl

@[simp] theorem Dev.recoverCh_frame (d : Dev) (n : ChanId) (code : Nat) :
    (Dev.recoverCh d n code).frame = d.frame := by
  unfold Dev.recoverCh; simp [apply_ite Dev.frame]

@[simp] theorem Dev.stalled_frame (d : Dev) (cycles : Nat) :
    (Dev.stalled d cycles).frame = d.frame := by
  unfold Dev.stalled; simp

@[simp] theorem Dev.loseWord_frame (d : Dev) (s : StallId) (a : Nat) :
    (Dev.loseWord d s a).frame = d.frame := by
  unfold Dev.loseWord; simp

@[simp] theorem Dev.scrPersist_frame (d : Dev) (s : StallId) (a : Nat) (readers : List ChanId) :
    (Dev.scrPersist d s a readers).frame = d.frame := by
  unfold Dev.scrPersist; (repeat' split) <;> simp [apply_ite Dev.frame, foldl_frame]

@[simp] theorem Dev.marchNext_frame (d : Dev) (m : Nat) (region : Nat) :
    (Dev.marchNext d m region).frame = d.frame := by
  unfold Dev.marchNext; simp [apply_ite Dev.frame]

@[simp] theorem Dev.marchSkip_frame (k : Nat) (d : Dev) (m : Nat) : (Dev.marchSkip k d m).frame = d.frame := by
  induction k generalizing d with
  | zero => rfl
  | succ k ih => unfold Dev.marchSkip; dsimp only; split <;> simp [ih]

@[simp] theorem Dev.decideSeq_frame (d : Dev) (n : ChanId) (ok : Bool) :
    (Dev.decideSeq d n ok).frame = d.frame := by
  unfold Dev.decideSeq; simp [apply_ite Dev.frame]

@[simp] theorem Dev.playStep_frame (d : Dev) (n : ChanId) (w : Word64) :
    (Dev.playStep d n w).frame = d.frame := by
  unfold Dev.playStep; dsimp only; (repeat' split) <;> simp

@[simp] theorem Dev.safeNow_frame (d : Dev) (n : ChanId) :
    (Dev.safeNow d n).frame = d.frame := by
  unfold Dev.safeNow; dsimp only; (repeat' split) <;> simp_all []

@[simp] theorem Dev.pinHead_frame (d : Dev) (n : ChanId) (h : Idx4) (seg : Nat) :
    (Dev.pinHead d n h seg).frame = d.frame := by
  unfold Dev.pinHead; simp [apply_ite Dev.frame]

@[simp] theorem Dev.hostJump_frame (d : Dev) (n : ChanId) (seg : Nat) (arrival : Option Tick) :
    (Dev.hostJump d n seg arrival).frame = d.frame := by
  unfold Dev.hostJump; (repeat' split) <;> simp

@[simp] theorem Dev.cancelJump_frame (d : Dev) (n : ChanId) :
    (Dev.cancelJump d n).frame = d.frame := by
  unfold Dev.cancelJump; simp [apply_ite Dev.frame]

@[simp] theorem Dev.pruneReplay_frame (d : Dev) :
    (Dev.pruneReplay d).frame = d.frame := by
  unfold Dev.pruneReplay; simp

@[simp] theorem Dev.resetSpool_frame (d : Dev) (n : ChanId) :
    (Dev.resetSpool d n).frame = d.frame := by
  unfold Dev.resetSpool; simp

@[simp] theorem Dev.writeSpoolSeg_frame (d : Dev) (n : ChanId) (seg : Nat) :
    (Dev.writeSpoolSeg d n seg).frame = d.frame := by
  unfold Dev.writeSpoolSeg; simp [apply_ite Dev.frame]

@[simp] theorem Dev.spoolReset_frame (d : Dev) (n : ChanId) :
    (Dev.spoolReset d n).frame = d.frame := by
  unfold Dev.spoolReset; simp [apply_ite Dev.frame]

@[simp] theorem Dev.writeSafeSeg_frame (d : Dev) (n : ChanId) (seg : Nat) :
    (Dev.writeSafeSeg d n seg).frame = d.frame := by
  unfold Dev.writeSafeSeg; simp [apply_ite Dev.frame]

@[simp] theorem Dev.loadAnswer_frame (d : Dev) (bulk : Bool) (code : Nat) (done : Nat) :
    (Dev.loadAnswer d bulk code done).frame = d.frame := by
  unfold Dev.loadAnswer; simp [apply_ite Dev.frame]

@[simp] theorem Dev.loadViolates_frame (d : Dev) (bulk : Bool) (viol : Nat) (code : Nat) :
    (Dev.loadViolates d bulk viol code).frame = d.frame := by
  unfold Dev.loadViolates; simp

@[simp] theorem Dev.loadRefuse_frame (d : Dev) (bulk : Bool) (code : Nat) :
    (Dev.loadRefuse d bulk code).frame = d.frame := by
  unfold Dev.loadRefuse; simp

@[simp] theorem Dev.descRefuse_frame (d : Dev) (bulk : Bool) (code : Nat) :
    (Dev.descRefuse d bulk code).frame = d.frame := by
  unfold Dev.descRefuse; simp

@[simp] theorem Dev.loadsReset_frame (d : Dev) (bulk : Bool) :
    (Dev.loadsReset d bulk).frame = d.frame := by
  unfold Dev.loadsReset; simp [foldl_frame]

@[simp] theorem Dev.addClaim_frame (d : Dev) (c : Claim) :
    (Dev.addClaim d c).frame = d.frame := by
  unfold Dev.addClaim; simp

@[simp] theorem Dev.refillRefuse_frame (d : Dev) (bulk : Bool) (n : ChanId) (code : Nat) :
    (Dev.refillRefuse d bulk n code).frame = d.frame := by
  unfold Dev.refillRefuse; simp

@[simp] theorem Dev.actClaim_frame (d : Dev) (c : Claim) :
    (Dev.actClaim d c).frame = d.frame := by
  unfold Dev.actClaim; (repeat' split) <;> simp

@[simp] theorem Dev.actClaims_frame (d : Dev) :
    (Dev.actClaims d).frame = d.frame := by
  unfold Dev.actClaims; simp [foldl_frame]

@[simp] theorem Dev.loadBegin_frame (d : Dev) :
    (Dev.loadBegin d).frame = d.frame := by
  unfold Dev.loadBegin; simp [apply_ite Dev.frame]

@[simp] theorem Dev.loadData_frame (d : Dev) (bytes : List Byte) :
    (Dev.loadData d bytes).frame = d.frame := by
  unfold Dev.loadData; simp [apply_ite Dev.frame]

@[simp] theorem Dev.loadSubmit_frame (d : Dev) :
    (Dev.loadSubmit d).frame = d.frame := by
  unfold Dev.loadSubmit; simp [apply_ite Dev.frame]

@[simp] theorem Dev.loadAbandon_frame (d : Dev) :
    (Dev.loadAbandon d).frame = d.frame := by
  unfold Dev.loadAbandon; simp [apply_ite Dev.frame]

@[simp] theorem Dev.writeScr_frame (d : Dev) (w : Word64) :
    (Dev.writeScr d w).frame = d.frame := by
  unfold Dev.writeScr; dsimp only; (repeat' split) <;> simp_all []

@[simp] theorem Dev.setCoef_frame (d : Dev) (n : ChanId) (o : Nat) (v : Int) :
    (Dev.setCoef d n o v).frame = d.frame := by
  unfold Dev.setCoef; simp

@[simp] theorem Dev.clearEngines_frame (d : Dev) (n : ChanId) :
    (Dev.clearEngines d n).frame = d.frame := by
  unfold Dev.clearEngines; simp

@[simp] theorem Dev.armOne_frame (d : Dev) (req : Word64) (n : ChanId) :
    (Dev.armOne d req n).frame = d.frame := by
  unfold Dev.armOne; simp

@[simp] theorem Dev.armMask_frame (d : Dev) (mask : Word64) :
    (Dev.armMask d mask).frame = d.frame := by
  unfold Dev.armMask; simp [apply_ite Dev.frame, Dev.inMask_frame]

@[simp] theorem Dev.undoArm_frame (d : Dev) (a : ArmBack) :
    (Dev.undoArm d a).frame = d.frame := by
  unfold Dev.undoArm; simp [foldl_frame]

@[simp] theorem Dev.armClose_frame (d : Dev) :
    (Dev.armClose d).frame = d.frame := by
  unfold Dev.armClose; simp [apply_ite Dev.frame, Dev.eachCh_frame]

@[simp] theorem Dev.armed_frame (d : Dev) (n : ChanId) :
    (Dev.armed d n).frame = d.frame := by
  unfold Dev.armed; simp [apply_ite Dev.frame]

@[simp] theorem Dev.parkRequest_frame (d : Dev) (mask : Word64) :
    (Dev.parkRequest d mask).frame = d.frame := by
  unfold Dev.parkRequest; (repeat' split) <;> simp

@[simp] theorem Dev.openDisc_frame (d : Dev) (n : ChanId) :
    (Dev.openDisc d n).frame = d.frame := by
  unfold Dev.openDisc; simp

@[simp] theorem Dev.applyDelay_frame (d : Dev) :
    (Dev.applyDelay d).frame = d.frame := by
  unfold Dev.applyDelay; split <;> simp [apply_ite Dev.frame]

@[simp] theorem Dev.judgeAgg_frame (d : Dev) (milliamp : Nat) (present : Tick) :
    (Dev.judgeAgg d milliamp present).frame = d.frame := by
  unfold Dev.judgeAgg; simp [apply_ite Dev.frame]

@[simp] theorem Dev.applyEstimate_frame (d : Dev) (n : ChanId) (o : Nat) (est : Int) :
    (Dev.applyEstimate d n o est).frame = d.frame := by
  unfold Dev.applyEstimate; dsimp only; (repeat' split) <;> simp_all []

@[simp] theorem Dev.moveFactor_frame (d : Dev) (s : StallId) (target : Int) :
    (Dev.moveFactor d s target).frame = d.frame := by
  unfold Dev.moveFactor; simp

@[simp] theorem Dev.judgeStall_frame (d : Dev) (s : StallId) (m : Int) (m2 : Int) :
    (Dev.judgeStall d s m m2).frame = d.frame := by
  unfold Dev.judgeStall; simp [apply_ite Dev.frame]

@[simp] theorem Dev.compareGaps_frame (d : Dev) :
    (Dev.compareGaps d).frame = d.frame := by
  unfold Dev.compareGaps; simp [apply_ite Dev.frame, foldl_frame, Dev.eachSt_frame]

@[simp] theorem Dev.storeOutcome_frame (d : Dev) (ok : Bool) :
    (Dev.storeOutcome d ok).frame = d.frame := by
  unfold Dev.storeOutcome; simp

@[simp] theorem Dev.sysRefuse_frame (d : Dev) (code : Nat) :
    (Dev.sysRefuse d code).frame = d.frame := by
  unfold Dev.sysRefuse; dsimp only; (repeat' split) <;> simp_all []

@[simp] theorem Dev.sysBegin_frame (d : Dev) (n : ChanId) :
    (Dev.sysBegin d n).frame = d.frame := by
  unfold Dev.sysBegin; simp

@[simp] theorem Dev.sysStart_frame (d : Dev) (full : Bool) :
    (Dev.sysStart d full).frame = d.frame := by
  unfold Dev.sysStart; (repeat' split) <;> simp [apply_ite Dev.frame]

@[simp] theorem Dev.sysHostAbort_frame (d : Dev) :
    (Dev.sysHostAbort d).frame = d.frame := by
  unfold Dev.sysHostAbort; split <;> simp

@[simp] theorem Dev.wmTransition_frame (d : Dev) (n : ChanId) (m : Idx4) (trip : Bool) (cyc : Nat) :
    (Dev.wmTransition d n m trip cyc).frame = d.frame := by
  unfold Dev.wmTransition; simp [apply_ite Dev.frame]

@[simp] theorem Dev.writeWmCfg_frame (d : Dev) (n : ChanId) (m : Idx4) (w : Nat) :
    (Dev.writeWmCfg d n m w).frame = d.frame := by
  unfold Dev.writeWmCfg; simp [apply_ite Dev.frame]

@[simp] theorem Dev.modSync_frame (d : Dev) (f : SyncUnit → SyncUnit) :
    (Dev.modSync d f).frame = d.frame := by
  unfold Dev.modSync; simp [apply_ite Dev.frame]

@[simp] theorem Dev.raiseDrift_frame (d : Dev) :
    (Dev.raiseDrift d).frame = d.frame := by
  unfold Dev.raiseDrift; simp

@[simp] theorem Dev.lockedPhase_frame (d : Dev) (phase : Int) (present : Tick) :
    (Dev.lockedPhase d phase present).frame = d.frame := by
  unfold Dev.lockedPhase; simp [apply_ite Dev.frame]

@[simp] theorem Dev.markSeen_frame (d : Dev) (b : Bool) (phase : Int) :
    (Dev.markSeen d b phase).frame = d.frame := by
  unfold Dev.markSeen; dsimp only; (repeat' split) <;> simp_all []

@[simp] theorem Dev.forwardWord_frame (d : Dev) (cmd : Nat) (operand : Nat) :
    (Dev.forwardWord d cmd operand).frame = d.frame := by
  unfold Dev.forwardWord; simp

@[simp] theorem Dev.onWord_frame (d : Dev) (cmd : Nat) (operand : Nat) (f : Dev → Dev) (hf0 : ∀ d, (f d).frame = d.frame) :
    (Dev.onWord d cmd operand f).frame = d.frame := by
  unfold Dev.onWord; dsimp only; (repeat' split) <;> simp_all []

@[simp] theorem Dev.mismatch_frame (d : Dev) :
    (Dev.mismatch d).frame = d.frame := by
  unfold Dev.mismatch; simp

@[simp] theorem Dev.shiftShared_frame (d : Dev) (k : Tick) :
    (Dev.shiftShared d k).frame = d.frame := by
  unfold Dev.shiftShared; simp

@[simp] theorem Dev.beginLoop_frame (d : Dev) :
    (Dev.beginLoop d).frame = d.frame := by
  unfold Dev.beginLoop; simp [apply_ite Dev.frame]

theorem Dev.rootOnly_frame (d : Dev) (obj : Nat) (f : Dev → Dev) (h : ∀ d, (f d).frame = d.frame) :
    (d.rootOnly obj f).frame = d.frame := by
  unfold Dev.rootOnly; split <;> simp [h]

@[simp] theorem Dev.calDomain_frame (d : Dev) :
    (Dev.calDomain d).frame = d.frame := by
  unfold Dev.calDomain; apply Dev.rootOnly_frame; intro d; simp

@[simp] theorem Dev.syncOut_frame (d : Dev) :
    (Dev.syncOut d).frame = d.frame := by
  unfold Dev.syncOut; simp [apply_ite Dev.frame]

@[simp] theorem Dev.roleWritten_frame (d : Dev) (role : Bool) :
    (Dev.roleWritten d role).frame = d.frame := by
  unfold Dev.roleWritten; simp [apply_ite Dev.frame]

@[simp] theorem Dev.startReq_frame (d : Dev) (t : Tick) :
    (Dev.startReq d t).frame = d.frame := by
  unfold Dev.startReq; apply Dev.rootOnly_frame; intro d; simp [apply_ite Dev.frame]

@[simp] theorem Dev.abortReq_frame (d : Dev) (v : Nat) :
    (Dev.abortReq d v).frame = d.frame := by
  unfold Dev.abortReq; apply Dev.rootOnly_frame; intro d; simp [apply_ite Dev.frame]

@[simp] theorem Dev.epochReq_frame (d : Dev) (x : Tick) :
    (Dev.epochReq d x).frame = d.frame := by
  unfold Dev.epochReq; apply Dev.rootOnly_frame; intro d; simp [apply_ite Dev.frame]

@[simp] theorem Dev.syncStart_frame (d : Dev) :
    (Dev.syncStart d).frame = d.frame := by
  unfold Dev.syncStart; simp [apply_ite Dev.frame, Dev.inMask_frame]

@[simp] theorem Dev.tallyHost_frame (d : Dev) (n : ChanId) (op : Nat) (units : BitVec 16) :
    (Dev.tallyHost d n op units).frame = d.frame := by
  unfold Dev.tallyHost; simp [apply_ite Dev.frame, foldl_frame]

@[simp] theorem Dev.tallyWrite_frame (d : Dev) (n : ChanId) (u : Idx16) (w : TallyWord) (v : Nat) :
    (Dev.tallyWrite d n u w v).frame = d.frame := by
  unfold Dev.tallyWrite; simp [apply_ite Dev.frame]

@[simp] theorem Dev.flushSession_frame (d : Dev) :
    (Dev.flushSession d).frame = d.frame := by
  unfold Dev.flushSession; simp [apply_ite Dev.frame]

@[simp] theorem Dev.rollSession_frame (d : Dev) :
    (Dev.rollSession d).frame = d.frame := by
  unfold Dev.rollSession; simp [apply_ite Dev.frame]

@[simp] theorem Dev.fifoAck_frame (d : Dev) (k : Nat) :
    (Dev.fifoAck d k).frame = d.frame := by
  unfold Dev.fifoAck; simp [apply_ite Dev.frame]

@[simp] theorem Dev.auxTake_frame (d : Dev) (s : StallId) (input : Nat) (reading : Int) :
    (Dev.auxTake d s input reading).frame = d.frame := by
  unfold Dev.auxTake; simp

@[simp] theorem Dev.refxReading_frame (d : Dev) (s : StallId) (uV : Int) :
    (Dev.refxReading d s uV).frame = d.frame := by
  unfold Dev.refxReading; simp

@[simp] theorem Dev.auxThresh_frame (d : Dev) (s : StallId) (reading : Int) :
    (Dev.auxThresh d s reading).frame = d.frame := by
  unfold Dev.auxThresh; simp [apply_ite Dev.frame]

@[simp] theorem Dev.auxHouse_frame (d : Dev) (s : StallId) (reading : Int) :
    (Dev.auxHouse d s reading).frame = d.frame := by
  unfold Dev.auxHouse; simp [apply_ite Dev.frame]

@[simp] theorem Dev.calReading_frame (d : Dev) (s : StallId) (i : Nat) :
    (Dev.calReading d s i).frame = d.frame := by
  unfold Dev.calReading; simp [apply_ite Dev.frame]

@[simp] theorem Dev.auxCal_frame (d : Dev) (s : StallId) (reading : Int) :
    (Dev.auxCal d s reading).frame = d.frame := by
  unfold Dev.auxCal; simp [apply_ite Dev.frame]

@[simp] theorem Dev.auxOpenWire_frame (d : Dev) (s : StallId) (n : ChanId) (reading : Int) :
    (Dev.auxOpenWire d s n reading).frame = d.frame := by
  unfold Dev.auxOpenWire; simp

@[simp] theorem Dev.auxRegular_frame (k : Nat) (d : Dev) (s : StallId) (m : Int) :
    (Dev.auxRegular k d s m).frame = d.frame := by
  induction k generalizing d with
  | zero => rfl
  | succ k ih => unfold Dev.auxRegular; dsimp only; split <;> simp [ih]

@[simp] theorem Dev.auxInjected_frame (d : Dev) (s : StallId) (j : Nat) (reading : Int) :
    (Dev.auxInjected d s j reading).frame = d.frame := by
  unfold Dev.auxInjected; simp

@[simp] theorem Dev.auxResolve_frame (d : Dev) (s : StallId) (k : Nat) (reading : Int) :
    (Dev.auxResolve d s k reading).frame = d.frame := by
  unfold Dev.auxResolve; simp

@[simp] theorem Dev.auxWindow_frame (d : Dev) (s : StallId) (second : Bool) (reading : Int) :
    (Dev.auxWindow d s second reading).frame = d.frame := by
  unfold Dev.auxWindow; dsimp only; (repeat' split) <;> simp_all []

@[simp] theorem Dev.owCommit_frame (d : Dev) (n : ChanId) :
    (Dev.owCommit d n).frame = d.frame := by
  unfold Dev.owCommit; split <;> simp [apply_ite Dev.frame]

@[simp] theorem Dev.writeRefSel_frame (d : Dev) (s : StallId) (v : Nat) :
    (Dev.writeRefSel d s v).frame = d.frame := by
  unfold Dev.writeRefSel; simp [apply_ite Dev.frame]

@[simp] theorem Dev.writeRefxEn_frame (d : Dev) (s : StallId) (v : Nat) :
    (Dev.writeRefxEn d s v).frame = d.frame := by
  unfold Dev.writeRefxEn; simp [apply_ite Dev.frame]

@[simp] theorem Dev.refxFallback_frame (d : Dev) (s : StallId) :
    (Dev.refxFallback d s).frame = d.frame := by
  unfold Dev.refxFallback; simp [apply_ite Dev.frame]

@[simp] theorem Dev.bufferCommit_frame (d : Dev) (s : StallId) :
    (Dev.bufferCommit d s).frame = d.frame := by
  unfold Dev.bufferCommit; split <;> simp [apply_ite Dev.frame]

@[simp] theorem Dev.recordDrop_frame (d : Dev) (n : ChanId) :
    (Dev.recordDrop d n).frame = d.frame := by
  unfold Dev.recordDrop; split <;> simp [apply_ite Dev.frame]

@[simp] theorem Dev.compHost_frame (d : Dev) (n : ChanId) :
    (Dev.compHost d n).frame = d.frame := by
  unfold Dev.compHost; simp [apply_ite Dev.frame]

@[simp] theorem Dev.writeCompMode_frame (d : Dev) (n : ChanId) (v : Nat) :
    (Dev.writeCompMode d n v).frame = d.frame := by
  unfold Dev.writeCompMode; simp [apply_ite Dev.frame]

@[simp] theorem Dev.writeCompFixed_frame (d : Dev) (n : ChanId) (v : Nat) :
    (Dev.writeCompFixed d n v).frame = d.frame := by
  unfold Dev.writeCompFixed; simp [apply_ite Dev.frame]

@[simp] theorem Dev.publishEstimate_frame (d : Dev) (n : ChanId) (e : LwEstimate) :
    (Dev.publishEstimate d n e).frame = d.frame := by
  unfold Dev.publishEstimate; simp

@[simp] theorem Dev.writeLwEn_frame (d : Dev) (n : ChanId) (v : Nat) :
    (Dev.writeLwEn d n v).frame = d.frame := by
  unfold Dev.writeLwEn; simp [apply_ite Dev.frame]

@[simp] theorem Dev.modSec_frame (d : Dev) (f : Sec → Sec) :
    (d.modSec f).frame =
      ⟨d.tick, d.power.released, (f d.sec).trust, (f d.sec).debug, d.mem.progs, d.mem.sets, d.mem.ledger, d.mem.dir⟩ := by
  cases d; rfl

@[simp] theorem Dev.judged_frame (d : Dev) (code : Nat) (type : Nat) (low : Nat) :
    (Dev.judged d code type low).frame = d.frame := by
  unfold Dev.judged; simp [apply_ite Dev.frame]

@[simp] theorem Dev.secVerdict_frame (d : Dev) (code : Nat) (type : Nat) :
    (Dev.secVerdict d code type).frame = d.frame := by
  unfold Dev.secVerdict; simp [apply_ite Dev.frame]

@[simp] theorem Dev.countStream_frame (d : Dev) (box : List Byte) :
    (Dev.countStream d box).frame = d.frame := by
  unfold Dev.countStream; simp [apply_ite Dev.frame]

@[simp] theorem Dev.verify_frame (d : Dev) (v : Verdict) (box : List Byte) (cyc : Nat) :
    (Dev.verify d v box cyc).frame = d.frame := by
  unfold Dev.verify; simp [apply_ite Dev.frame]

@[simp] theorem Dev.verifyRefill_frame (d : Dev) (c : Claim) (fuseOk : Bool) (cyc : Nat) :
    (Dev.verifyRefill d c fuseOk cyc).frame = d.frame := by
  unfold Dev.verifyRefill; dsimp only; (repeat' split) <;> simp

@[simp] theorem Dev.verifyLoad_frame (d : Dev) (bulk : Bool) (x : LoadDesc) (fuseOk : Bool) (cyc : Nat) :
    (Dev.verifyLoad d bulk x fuseOk cyc).frame = d.frame := by
  unfold Dev.verifyLoad; dsimp only; (repeat' split) <;> simp

@[simp] theorem Dev.closeSession_frame (d : Dev) (cause : Nat) :
    (Dev.closeSession d cause).frame = d.frame := by
  unfold Dev.closeSession; simp [apply_ite Dev.frame]

@[simp] theorem Dev.closeStreams_frame (d : Dev) :
    (Dev.closeStreams d).frame = d.frame := by
  unfold Dev.closeStreams; simp

@[simp] theorem Dev.lifecycleEnds_frame (d : Dev) (roll : Bool) :
    (Dev.lifecycleEnds d roll).frame = d.frame := by
  unfold Dev.lifecycleEnds; simp

@[simp] theorem Dev.streamCmd_frame (d : Dev) (v : Nat) :
    (Dev.streamCmd d v).frame = d.frame := by
  unfold Dev.streamCmd; simp

@[simp] theorem Dev.sealFail_frame (d : Dev) (obj : Nat) :
    (Dev.sealFail d obj).frame = d.frame := by
  unfold Dev.sealFail; simp

@[simp] theorem Dev.offer_frame (d : Dev) (bulk : Bool) :
    (Dev.offer d bulk).frame = d.frame := by
  unfold Dev.offer; simp [apply_ite Dev.frame]

@[simp] theorem Dev.hostOffer_frame (d : Dev) (offer : List Byte) (bulk : Bool) :
    (Dev.hostOffer d offer bulk).frame = d.frame := by
  unfold Dev.hostOffer; (repeat' split) <;> simp

@[simp] theorem Dev.attest_frame (d : Dev) (nonce : List Byte) :
    (Dev.attest d nonce).frame = d.frame := by
  unfold Dev.attest; simp [apply_ite Dev.frame]

@[simp] theorem Dev.debugRoll_frame (d : Dev) :
    (Dev.debugRoll d).frame = d.frame := by
  unfold Dev.debugRoll; simp [apply_ite Dev.frame]

@[simp] theorem Dev.drawNonce_frame (d : Dev) (level : Nat) :
    (Dev.drawNonce d level).frame = d.frame := by
  unfold Dev.drawNonce; simp

@[simp] theorem Dev.haltReq_frame (d : Dev) (mask : Word64) :
    (Dev.haltReq d mask).frame = d.frame := by
  unfold Dev.haltReq; simp [apply_ite Dev.frame, Dev.inMask_frame]

@[simp] theorem Dev.resumeReq_frame (d : Dev) (mask : Word64) :
    (Dev.resumeReq d mask).frame = d.frame := by
  unfold Dev.resumeReq; simp [apply_ite Dev.frame, Dev.inMask_frame]

@[simp] theorem Dev.stepReq_frame (d : Dev) (mask : Word64) :
    (Dev.stepReq d mask).frame = d.frame := by
  unfold Dev.stepReq; simp [apply_ite Dev.frame, Dev.inMask_frame]

@[simp] theorem Dev.tapSelect_frame (d : Dev) (ir : Nat) (out : TapData) :
    (Dev.tapSelect d ir out).frame = d.frame := by
  unfold Dev.tapSelect; simp

@[simp] theorem Dev.tapBypass_frame (d : Dev) :
    (Dev.tapBypass d).frame = d.frame := by
  unfold Dev.tapBypass; simp

@[simp] theorem Dev.observed_frame (d : Dev) :
    (Dev.observed d).2.frame = d.frame := by
  unfold Dev.observed; simp

theorem Dev.tapPrivate_frame (d : Dev) (a : TapAccess) :
    (Dev.tapPrivate d a).elim (d.frame) (·.frame) = d.frame := by
  unfold Dev.tapPrivate; dsimp only; (repeat' split) <;> simp_all []

@[simp] theorem Dev.modPower_frame (d : Dev) (f : Power → Power) :
    (d.modPower f).frame =
      ⟨d.tick, (f d.power).released, d.sec.trust, d.sec.debug, d.mem.progs, d.mem.sets, d.mem.ledger, d.mem.dir⟩ := by
  cases d; rfl

@[simp] theorem Dev.setObj_frame (d : Dev) (obj : Nat) (v : Nat) :
    (Dev.setObj d obj v).frame = d.frame := by
  unfold Dev.setObj; split <;> simp

@[simp] theorem Dev.putProfile_frame (d : Dev) (n : Nat) (b : List Byte) :
    (Dev.putProfile d n b).frame = d.frame := by
  unfold Dev.putProfile; split <;> simp

@[simp] theorem Dev.paramWords_frame (d : Dev) :
    (Dev.paramWords d).frame = d.frame := by
  unfold Dev.paramWords; simp [foldl_frame, Dev.eachCh_frame]

@[simp] theorem Dev.noteSlot_frame (d : Dev) (slot : Fin 2) (r : Except Nat Nat) :
    (Dev.noteSlot d slot r).frame = d.frame := by
  unfold Dev.noteSlot; (repeat' split) <;> simp

@[simp] theorem Dev.toDefault_frame (d : Dev) (obj : Nat) :
    (Dev.toDefault d obj).frame = d.frame := by
  unfold Dev.toDefault; split <;> simp

@[simp] theorem Dev.restorePasses_frame (k : Nat) (d : Dev) (l : List (Nat × Nat × ObjRow)) (b : List Nat) :
    (Dev.restorePasses k d l b).1.frame = d.frame := by
  induction k generalizing d l b with
  | zero => rfl
  | succ k ih => unfold Dev.restorePasses; dsimp only; split <;> simp [ih, foldl_frame]

@[simp] theorem Dev.setOutcome_frame (d : Dev) (k : Nat) (r : Restored) :
    (Dev.setOutcome d k r).frame = d.frame := by
  unfold Dev.setOutcome; simp

@[simp] theorem Dev.noteDefaulted_frame (d : Dev) (rec : Nat) (n : Nat) :
    (Dev.noteDefaulted d rec n).frame = d.frame := by
  unfold Dev.noteDefaulted; simp [apply_ite Dev.frame]

@[simp] theorem Dev.restoreRecord_frame (d : Dev) (rec : Nat) (content : Option (List (Nat × Nat × Nat))) :
    (Dev.restoreRecord d rec content).frame = d.frame := by
  unfold Dev.restoreRecord; (repeat' split) <;> simp [foldl_frame]

@[simp] theorem Dev.sysWords_frame (d : Dev) (ok : Bool) :
    (Dev.sysWords d ok).frame = d.frame := by
  unfold Dev.sysWords; simp [foldl_frame, Dev.eachCh_frame]

@[simp] theorem Dev.restoreCal_frame (d : Dev) (a b : Bool) : (d.restoreCal a b).frame = d.frame := by
  unfold Dev.restoreCal
  simp [apply_ite Dev.frame]
  apply foldl_frame
  intro d x
  simp

@[simp] theorem Dev.settleRestored_frame (d : Dev) :
    (Dev.settleRestored d).frame = d.frame := by
  unfold Dev.settleRestored; simp [Dev.eachCh_frame, Dev.eachSt_frame]

@[simp] theorem Dev.readyFlags_frame (d : Dev) :
    (Dev.readyFlags d).frame = d.frame := by
  unfold Dev.readyFlags; simp

@[simp] theorem Dev.readyCommit_frame (d : Dev) :
    (Dev.readyCommit d).frame = d.frame := by
  unfold Dev.readyCommit; simp [apply_ite Dev.frame]

@[simp] theorem Dev.powerCommit_frame (d : Dev) :
    (Dev.powerCommit d).frame = d.frame := by
  unfold Dev.powerCommit; simp

@[simp] theorem Dev.beginTest_frame (d : Dev) (mask : Nat) :
    (Dev.beginTest d mask).frame = d.frame := by
  unfold Dev.beginTest; simp [apply_ite Dev.frame, Dev.eachSt_frame]

@[simp] theorem Dev.analogOff_frame (d : Dev) : d.analogOff.frame = d.frame := by
  unfold Dev.analogOff
  simp
  apply Dev.eachCh_frame
  intro d n
  apply foldl_frame
  simp

@[simp] theorem Dev.writeQuiet_frame (d : Dev) (v : Nat) :
    (Dev.writeQuiet d v).frame = d.frame := by
  unfold Dev.writeQuiet; dsimp only; (repeat' split) <;> simp

@[simp] theorem Dev.selfTest_frame (d : Dev) (mask : Nat) :
    (Dev.selfTest d mask).frame = d.frame := by
  unfold Dev.selfTest; simp [apply_ite Dev.frame]

@[simp] theorem Dev.activate_frame (d : Dev) (f : Flash) (slot : Fin 2) (lenA : Nat) (lenB : Nat) :
    (Dev.activate d f slot lenA lenB).frame = d.frame := by
  unfold Dev.activate; simp

@[simp] theorem Dev.imageCmd_frame (d : Dev) (v : Nat) :
    (Dev.imageCmd d v).frame = d.frame := by
  unfold Dev.imageCmd; dsimp only; (repeat' split) <;> simp

@[simp] theorem Dev.opNop_frame (dv : Dev) (n : ChanId) (k : Fin 8) (count : BitVec 9) :
    (Dev.opNop dv n k count).frame = dv.frame := by
  unfold Dev.opNop; simp

@[simp] theorem Dev.opLdi_frame (dv : Dev) (n : ChanId) (k : Fin 8) (d : Idx16) (imm : BitVec 14) :
    (Dev.opLdi dv n k d imm).frame = dv.frame := by
  unfold Dev.opLdi; simp

@[simp] theorem Dev.opLdh_frame (dv : Dev) (n : ChanId) (k : Fin 8) (d : Idx16) (a : Idx16) (imm : BitVec 14) :
    (Dev.opLdh dv n k d a imm).frame = dv.frame := by
  unfold Dev.opLdh; simp

@[simp] theorem Dev.opMov_frame (dv : Dev) (n : ChanId) (k : Fin 8) (d : Idx16) (a : Idx16) :
    (Dev.opMov dv n k d a).frame = dv.frame := by
  unfold Dev.opMov; simp

@[simp] theorem Dev.opLd_frame (dv : Dev) (n : ChanId) (k : Fin 8) (d : Idx16) (b : Idx16) (region : BitVec 2) (offset : BitVec 12) :
    (Dev.opLd dv n k d b region offset).frame = dv.frame := by
  unfold Dev.opLd; simp

@[simp] theorem Dev.opSt_frame (dv : Dev) (n : ChanId) (k : Fin 8) (a : Idx16) (b : Idx16) (region : BitVec 2) (offset : BitVec 12) :
    (Dev.opSt dv n k a b region offset).frame = dv.frame := by
  unfold Dev.opSt; simp

@[simp] theorem Dev.opEngIn_frame (dv : Dev) (shown : Dev) (n : ChanId) (k : Fin 8) (d : Idx16) (port : BitVec 8) :
    (Dev.opEngIn dv shown n k d port).frame = dv.frame := by
  unfold Dev.opEngIn; simp

@[simp] theorem Dev.opEngOut_frame (dv : Dev) (n : ChanId) (k : Fin 8) (a : Idx16) (port : BitVec 8) :
    (Dev.opEngOut dv n k a port).frame = dv.frame := by
  unfold Dev.opEngOut; simp

@[simp] theorem Dev.opLut_frame (dv : Dev) (n : ChanId) (k : Fin 8) (d : Idx16) (a : Idx16) (sh : BitVec 4) (base : BitVec 10) :
    (Dev.opLut dv n k d a sh base).frame = dv.frame := by
  unfold Dev.opLut; simp

@[simp] theorem Dev.opLuti_frame (dv : Dev) (n : ChanId) (k : Fin 8) (d : Idx16) (a : Idx16) (sh : BitVec 4) (base : BitVec 10) :
    (Dev.opLuti dv n k d a sh base).frame = dv.frame := by
  unfold Dev.opLuti; simp

@[simp] theorem Dev.opAdd_frame (dv : Dev) (n : ChanId) (k : Fin 8) (d : Idx16) (a : Idx16) (b : Idx16) :
    (Dev.opAdd dv n k d a b).frame = dv.frame := by
  unfold Dev.opAdd; simp

@[simp] theorem Dev.opSub_frame (dv : Dev) (n : ChanId) (k : Fin 8) (d : Idx16) (a : Idx16) (b : Idx16) :
    (Dev.opSub dv n k d a b).frame = dv.frame := by
  unfold Dev.opSub; simp

@[simp] theorem Dev.opAddi_frame (dv : Dev) (n : ChanId) (k : Fin 8) (d : Idx16) (a : Idx16) (imm : BitVec 14) :
    (Dev.opAddi dv n k d a imm).frame = dv.frame := by
  unfold Dev.opAddi; simp

@[simp] theorem Dev.opAddw_frame (dv : Dev) (n : ChanId) (k : Fin 8) (d : Idx16) (a : Idx16) (b : Idx16) :
    (Dev.opAddw dv n k d a b).frame = dv.frame := by
  unfold Dev.opAddw; simp

@[simp] theorem Dev.opEngNeg_frame (dv : Dev) (n : ChanId) (k : Fin 8) (d : Idx16) (a : Idx16) :
    (Dev.opEngNeg dv n k d a).frame = dv.frame := by
  unfold Dev.opEngNeg; simp

@[simp] theorem Dev.opEngAbs_frame (dv : Dev) (n : ChanId) (k : Fin 8) (d : Idx16) (a : Idx16) :
    (Dev.opEngAbs dv n k d a).frame = dv.frame := by
  unfold Dev.opEngAbs; simp

@[simp] theorem Dev.opEngMin_frame (dv : Dev) (n : ChanId) (k : Fin 8) (d : Idx16) (a : Idx16) (b : Idx16) :
    (Dev.opEngMin dv n k d a b).frame = dv.frame := by
  unfold Dev.opEngMin; simp

@[simp] theorem Dev.opEngMax_frame (dv : Dev) (n : ChanId) (k : Fin 8) (d : Idx16) (a : Idx16) (b : Idx16) :
    (Dev.opEngMax dv n k d a b).frame = dv.frame := by
  unfold Dev.opEngMax; simp

@[simp] theorem Dev.opEngAnd_frame (dv : Dev) (n : ChanId) (k : Fin 8) (d : Idx16) (a : Idx16) (b : Idx16) :
    (Dev.opEngAnd dv n k d a b).frame = dv.frame := by
  unfold Dev.opEngAnd; simp

@[simp] theorem Dev.opEngOr_frame (dv : Dev) (n : ChanId) (k : Fin 8) (d : Idx16) (a : Idx16) (b : Idx16) :
    (Dev.opEngOr dv n k d a b).frame = dv.frame := by
  unfold Dev.opEngOr; simp

@[simp] theorem Dev.opEngXor_frame (dv : Dev) (n : ChanId) (k : Fin 8) (d : Idx16) (a : Idx16) (b : Idx16) :
    (Dev.opEngXor dv n k d a b).frame = dv.frame := by
  unfold Dev.opEngXor; simp

@[simp] theorem Dev.opShl_frame (dv : Dev) (n : ChanId) (k : Fin 8) (d : Idx16) (a : Idx16) (count : BitVec 6) :
    (Dev.opShl dv n k d a count).frame = dv.frame := by
  unfold Dev.opShl; simp

@[simp] theorem Dev.opShr_frame (dv : Dev) (n : ChanId) (k : Fin 8) (d : Idx16) (a : Idx16) (mode : BitVec 2) (count : BitVec 6) :
    (Dev.opShr dv n k d a mode count).frame = dv.frame := by
  unfold Dev.opShr; simp

@[simp] theorem Dev.opEngSat_frame (dv : Dev) (n : ChanId) (k : Fin 8) (d : Idx16) (a : Idx16) (width : BitVec 6) :
    (Dev.opEngSat dv n k d a width).frame = dv.frame := by
  unfold Dev.opEngSat; simp

@[simp] theorem Dev.opEngClamp_frame (dv : Dev) (n : ChanId) (k : Fin 8) (d : Idx16) (a : Idx16) (b : Idx16) (c : Idx16) :
    (Dev.opEngClamp dv n k d a b c).frame = dv.frame := by
  unfold Dev.opEngClamp; simp

@[simp] theorem Dev.opSels_frame (dv : Dev) (n : ChanId) (k : Fin 8) (d : Idx16) (a : Idx16) (b : Idx16) (c : Idx16) (zero : Bool) :
    (Dev.opSels dv n k d a b c zero).frame = dv.frame := by
  unfold Dev.opSels; simp

@[simp] theorem Dev.opExt_frame (dv : Dev) (n : ChanId) (k : Fin 8) (d : Idx16) (a : Idx16) (signed : Bool) (msb : BitVec 6) (lsb : BitVec 6) :
    (Dev.opExt dv n k d a signed msb lsb).frame = dv.frame := by
  unfold Dev.opExt; simp

@[simp] theorem Dev.opIns_frame (dv : Dev) (n : ChanId) (k : Fin 8) (d : Idx16) (a : Idx16) (msb : BitVec 6) (lsb : BitVec 6) :
    (Dev.opIns dv n k d a msb lsb).frame = dv.frame := by
  unfold Dev.opIns; simp

@[simp] theorem Dev.opMul_frame (dv : Dev) (n : ChanId) (k : Fin 8) (d : Idx16) (a : Idx16) (b : Idx16) :
    (Dev.opMul dv n k d a b).frame = dv.frame := by
  unfold Dev.opMul; simp

@[simp] theorem Dev.opMac_frame (dv : Dev) (n : ChanId) (k : Fin 8) (a : Idx16) (b : Idx16) (subtract : Bool) (acc1 : Bool) :
    (Dev.opMac dv n k a b subtract acc1).frame = dv.frame := by
  unfold Dev.opMac; simp

@[simp] theorem Dev.opAccrd_frame (dv : Dev) (n : ChanId) (k : Fin 8) (d : Idx16) (clear : Bool) (acc1 : Bool) (mode : BitVec 2) (count : BitVec 6) :
    (Dev.opAccrd dv n k d clear acc1 mode count).frame = dv.frame := by
  unfold Dev.opAccrd; simp

@[simp] theorem Dev.opAccld_frame (dv : Dev) (n : ChanId) (k : Fin 8) (a : Idx16) (acc1 : Bool) :
    (Dev.opAccld dv n k a acc1).frame = dv.frame := by
  unfold Dev.opAccld; simp

@[simp] theorem Dev.opPuts_frame (dv : Dev) (n : ChanId) (k : Fin 8) (a : Idx16) (b : Idx16) (e : Idx16) :
    (Dev.opPuts dv n k a b e).frame = dv.frame := by
  unfold Dev.opPuts; simp

@[simp] theorem Dev.opTacc_frame (dv : Dev) (n : ChanId) (k : Fin 8) (a : Idx16) (b : Idx16) (e : Idx16) :
    (Dev.opTacc dv n k a b e).frame = dv.frame := by
  unfold Dev.opTacc; simp

@[simp] theorem Dev.opFlag_frame (dv : Dev) (n : ChanId) (k : Fin 8) (a : Idx16) (f : Idx16) :
    (Dev.opFlag dv n k a f).frame = dv.frame := by
  unfold Dev.opFlag; simp

@[simp] theorem Dev.opEngFault_frame (dv : Dev) (n : ChanId) (k : Fin 8) (a : Idx16) (f2 : Bool) (code : BitVec 12) :
    (Dev.opEngFault dv n k a f2 code).frame = dv.frame := by
  unfold Dev.opEngFault; simp

@[simp] theorem Dev.opCorr_frame (dv : Dev) (n : ChanId) (k : Fin 8) (a : Idx16) (b : Idx16) :
    (Dev.opCorr dv n k a b).frame = dv.frame := by
  unfold Dev.opCorr; simp

@[simp] theorem Dev.opCrd_frame (dv : Dev) (n : ChanId) (k : Fin 8) (d : Idx16) (b : Idx16) (lag : BitVec 7) :
    (Dev.opCrd dv n k d b lag).frame = dv.frame := by
  unfold Dev.opCrd; simp

@[simp] theorem Dev.opCclr_frame (dv : Dev) (n : ChanId) (k : Fin 8) (a : Idx16) :
    (Dev.opCclr dv n k a).frame = dv.frame := by
  unfold Dev.opCclr; simp

@[simp] theorem Dev.engWord_frame (dv : Dev) (shown : Dev) (n : ChanId) (k : Fin 8) (w : Nat) :
    (Dev.engWord dv shown n k w).frame = dv.frame := by
  unfold Dev.engWord; split <;> simp

@[simp] theorem Dev.libStore_frame (d : Dev) (n : ChanId) (k : Fin 8) (o : Nat) (cyc : Nat) (v : Int) :
    (Dev.libStore d n k o cyc v).frame = d.frame := by
  unfold Dev.libStore; simp

@[simp] theorem Dev.libCorrect_frame (d : Dev) (n : ChanId) (mi : Bool) (j : Nat) :
    (Dev.libCorrect d n mi j).frame = d.frame := by
  unfold Dev.libCorrect; simp

@[simp] theorem Dev.libThresholds_frame (d : Dev) (n : ChanId) :
    (Dev.libThresholds d n).frame = d.frame := by
  unfold Dev.libThresholds; simp

@[simp] theorem Dev.libInterp_frame (d : Dev) (n : ChanId) :
    (Dev.libInterp d n).frame = d.frame := by
  unfold Dev.libInterp; simp [apply_ite Dev.frame]

@[simp] theorem Dev.libFeed_frame (d : Dev) (n : ChanId) :
    (Dev.libFeed d n).frame = d.frame := by
  unfold Dev.libFeed; simp [apply_ite Dev.frame]

@[simp] theorem Dev.libCycle_frame (d : Dev) (shown : Dev) (n : ChanId) (c : Nat) :
    (Dev.libCycle d shown n c).frame = d.frame := by
  unfold Dev.libCycle; simp [apply_ite Dev.frame]

@[simp] theorem Dev.windowCycle_frame (d shown : Dev) (ps : List (ChanId × Fin 8 × List (Nat × Nat))) (c : Nat) :
    (d.windowCycle shown ps c).frame = d.frame := by
  unfold Dev.windowCycle
  rw [foldl_frame _ fun d p => by split <;> (try split) <;> simp, foldl_frame _ fun d p => by split <;> (try split) <;> simp]
  split
  · exact Dev.eachCh_frame _ _ fun d n => by simp
  · rfl

@[simp] theorem Dev.runWindow_frame (d : Dev) (shown : Dev) :
    (Dev.runWindow d shown).frame = d.frame := by
  unfold Dev.runWindow; simp [foldl_frame]

@[simp] theorem Dev.countSat_frame (d : Dev) (n : ChanId) :
    (Dev.countSat d n).frame = d.frame := by
  unfold Dev.countSat; simp [apply_ite Dev.frame]

@[simp] theorem Dev.sysTake_frame (d : Dev) (n : ChanId) :
    (Dev.sysTake d n).frame = d.frame := by
  unfold Dev.sysTake; (repeat' split) <;> simp

@[simp] theorem Dev.takeWindow_frame (d : Dev) (n : ChanId) :
    (Dev.takeWindow d n).frame = d.frame := by
  unfold Dev.takeWindow; simp [apply_ite Dev.frame, foldl_frame]

@[simp] theorem Dev.dropWindow_frame (d : Dev) (n : ChanId) :
    (Dev.dropWindow d n).frame = d.frame := by
  unfold Dev.dropWindow; simp

@[simp] theorem Dev.tallyEnds_frame (d : Dev) (n : ChanId) (inp : TickInputs) :
    (Dev.tallyEnds d n inp).frame = d.frame := by
  unfold Dev.tallyEnds; simp

@[simp] theorem Dev.statusEnds_frame (d : Dev) (n : ChanId) (inp : TickInputs) :
    (Dev.statusEnds d n inp).frame = d.frame := by
  unfold Dev.statusEnds; simp [apply_ite Dev.frame]

@[simp] theorem Dev.latchLoops_frame (d : Dev) :
    (Dev.latchLoops d).frame = d.frame := by
  unfold Dev.latchLoops; simp [apply_ite Dev.frame]

@[simp] theorem Dev.measEnds_frame (d : Dev) (n : ChanId) :
    (Dev.measEnds d n).frame = d.frame := by
  unfold Dev.measEnds; simp [apply_ite Dev.frame]

@[simp] theorem Dev.sysEnds_frame (d : Dev) :
    (Dev.sysEnds d).frame = d.frame := by
  unfold Dev.sysEnds; split <;> simp [apply_ite Dev.frame]

@[simp] theorem Dev.bgEnds_frame (d : Dev) (n : ChanId) :
    (Dev.bgEnds d n).frame = d.frame := by
  unfold Dev.bgEnds; simp [apply_ite Dev.frame]

@[simp] theorem Dev.stallEnds_frame (d : Dev) (inp : TickInputs) (s : StallId) :
    (Dev.stallEnds d inp s).frame = d.frame := by
  unfold Dev.stallEnds; dsimp only; (repeat' split) <;> simp_all [foldl_frame]

@[simp] theorem Dev.tickEnds_frame (d : Dev) (inp : TickInputs) :
    (Dev.tickEnds d inp).frame = d.frame := by
  unfold Dev.tickEnds; simp [Dev.eachCh_frame, Dev.eachSt_frame]

@[simp] theorem Dev.monitorsEnd_frame (d : Dev) (inp : TickInputs) (n : ChanId) :
    (Dev.monitorsEnd d inp n).frame = d.frame := by
  unfold Dev.monitorsEnd; simp [apply_ite Dev.frame, foldl_frame]

@[simp] theorem Dev.haltEngines_frame (d : Dev) (shown : Dev) (n : ChanId) :
    (Dev.haltEngines d shown n).frame = d.frame := by
  unfold Dev.haltEngines; simp [apply_ite Dev.frame]

@[simp] theorem Dev.windowsEnd_frame (d : Dev) (e : Vector Ending 64) (inp : TickInputs) (shown : Dev) :
    (Dev.windowsEnd d e inp shown).frame = d.frame := by
  unfold Dev.windowsEnd; simp [apply_ite Dev.frame, Dev.eachCh_frame]

@[simp] theorem Dev.modDict_frame (d : Dev) (f : Dict → Dict) :
    (Dev.modDict d f).frame = d.frame := by
  unfold Dev.modDict; simp

@[simp] theorem Dev.guarded_frame (d : Dev) (r : ObjRow) (idx : Nat) (sub : Nat) (v : Nat) (f : Dev → Dev) (hf0 : ∀ d, (f d).frame = d.frame) :
    (Dev.guarded d r idx sub v f).frame = d.frame := by
  unfold Dev.guarded; dsimp only; (repeat' split) <;> simp_all []

@[simp] theorem Dev.store_frame (d : Dev) (r : ObjRow) (idx : Nat) (sub : Nat) (v : Nat) :
    (Dev.store d r idx sub v).frame = d.frame := by
  unfold Dev.store; simp [apply_ite Dev.frame]

@[simp] theorem Dev.entryWritten_frame (d : Dev) (m : ChanId) (e : Nat) :
    (Dev.entryWritten d m e).frame = d.frame := by
  unfold Dev.entryWritten; dsimp only; (repeat' split) <;> simp

@[simp] theorem Dev.rpairWritten_frame (d : Dev) (n : ChanId) (e : Nat) :
    (Dev.rpairWritten d n e).frame = d.frame := by
  unfold Dev.rpairWritten; simp [apply_ite Dev.frame, foldl_frame]

@[simp] theorem Dev.jumpCmd_frame (d : Dev) (n : ChanId) (v : Nat) :
    (Dev.jumpCmd d n v).frame = d.frame := by
  unfold Dev.jumpCmd; split <;> simp

@[simp] theorem Dev.sineCmd_frame (d : Dev) (n : ChanId) (v : Nat) :
    (Dev.sineCmd d n v).frame = d.frame := by
  unfold Dev.sineCmd; simp [apply_ite Dev.frame]

@[simp] theorem Dev.gustCmd_frame (d : Dev) (n : ChanId) (v : Nat) :
    (Dev.gustCmd d n v).frame = d.frame := by
  unfold Dev.gustCmd; simp [apply_ite Dev.frame]

@[simp] theorem Dev.tallyCmd_frame (d : Dev) (n : ChanId) (v : Nat) :
    (Dev.tallyCmd d n v).frame = d.frame := by
  unfold Dev.tallyCmd; simp [apply_ite Dev.frame]

@[simp] theorem Dev.planWritten_frame (d : Dev) (n : ChanId) (p : Nat) :
    (Dev.planWritten d n p).frame = d.frame := by
  unfold Dev.planWritten; simp [apply_ite Dev.frame, foldl_frame]

@[simp] theorem Dev.evioWritten_frame (d : Dev) (k : Nat) (old : Nat) (v : Nat) :
    (Dev.evioWritten d k old v).frame = d.frame := by
  unfold Dev.evioWritten; simp [apply_ite Dev.frame]

@[simp] theorem Dev.exportWritten_frame (d : Dev) :
    (Dev.exportWritten d).frame = d.frame := by
  unfold Dev.exportWritten; simp

theorem Dev.stHook_frame (d : Dev) (s : StallId) (k : Nat) (v : Nat) :
    (Dev.stHook d s k v).elim (d.frame) (·.frame) = d.frame := by
  unfold Dev.stHook; (repeat' split) <;> simp

@[simp] theorem Dev.queueWrite_frame (d : Dev) (cyc : Nat) (rank : Nat) (source : Nat) (sealedBy : Bool) (cmd : Bool) (req : HostReq) :
    (Dev.queueWrite d cyc rank source sealedBy cmd req).frame = d.frame := by
  unfold Dev.queueWrite; simp

@[simp] theorem Dev.refuseFrom_frame (d : Dev) (source : Nat) (obj : Nat) (code : Nat) :
    (Dev.refuseFrom d source obj code).frame = d.frame := by
  unfold Dev.refuseFrom; simp

@[simp] theorem Dev.request_frame (d : Dev) (source : Nat) (rank : Nat) (cyc : Nat) (sealedBy : Bool) (idx : Nat) (sub : Nat) (len : Nat) (v : Nat) :
    (Dev.request d source rank cyc sealedBy idx sub len v).frame = d.frame := by
  unfold Dev.request; simp [apply_ite Dev.frame]

@[simp] theorem Dev.requestWhole_frame (d : Dev) (source : Nat) (rank : Nat) (cyc : Nat) (idx : Nat) (vals : List Nat) :
    (Dev.requestWhole d source rank cyc idx vals).frame = d.frame := by
  unfold Dev.requestWhole; simp [apply_ite Dev.frame]

@[simp] theorem Dev.readMark_frame (d : Dev) (shown : Dev) (obj : Nat) :
    (Dev.readMark d shown obj).frame = d.frame := by
  unfold Dev.readMark; simp [apply_ite Dev.frame]

@[simp] theorem Dev.answerRead_frame (d : Dev) (shown : Dev) (source : Nat) (obj : Nat) (r : Except Nat (List Byte)) :
    (Dev.answerRead d shown source obj r).frame = d.frame := by
  unfold Dev.answerRead; split <;> simp

@[simp] theorem Dev.objAnswer_frame (d : Dev) :
    (Dev.objAnswer d).frame = d.frame := by
  unfold Dev.objAnswer; simp [apply_ite Dev.frame]

@[simp] theorem Dev.bulkDone_frame (d : Dev) (source : Nat) (code : Nat) :
    (Dev.bulkDone d source code).frame = d.frame := by
  unfold Dev.bulkDone; simp [apply_ite Dev.frame]

@[simp] theorem Dev.modEc_frame (d : Dev) (f : EtherCat → EtherCat) :
    (Dev.modEc d f).frame = d.frame := by
  unfold Dev.modEc; simp

@[simp] theorem Dev.frameObject_frame (d : Dev) (cyc : Nat) (newSet : Bool) (obj : Nat) (v : Nat) :
    (Dev.frameObject d cyc newSet obj v).frame = d.frame := by
  unfold Dev.frameObject; dsimp only; (repeat' split) <;> simp_all []

@[simp] theorem Dev.processFrame_frame (d : Dev) (outs : List (Nat × Nat)) (cyc : Nat) :
    (Dev.processFrame d outs cyc).frame = d.frame := by
  unfold Dev.processFrame; simp [apply_ite Dev.frame, foldl_frame]

@[simp] theorem Dev.latchInputs_frame (d : Dev) (shown : Dev) :
    (Dev.latchInputs d shown).frame = d.frame := by
  unfold Dev.latchInputs; simp [apply_ite Dev.frame]

@[simp] theorem Dev.sync0Phase_frame (d : Dev) (cycleNs : Nat) (cyc : Nat) :
    (Dev.sync0Phase d cycleNs cyc).frame = d.frame := by
  unfold Dev.sync0Phase; simp [apply_ite Dev.frame]

@[simp] theorem Dev.esmRefuse_frame (d : Dev) (want : Nat) (code : Nat) :
    (Dev.esmRefuse d want code).frame = d.frame := by
  unfold Dev.esmRefuse; simp

@[simp] theorem Dev.esmGo_frame (d : Dev) (st : EsmState) (err : Bool) :
    (Dev.esmGo d st err).frame = d.frame := by
  unfold Dev.esmGo; simp

@[simp] theorem Dev.wdAction_frame (d : Dev) (cyc : Nat) :
    (Dev.wdAction d cyc).frame = d.frame := by
  unfold Dev.wdAction; split <;> simp

@[simp] theorem Dev.leaveOp_frame (d : Dev) (st : EsmState) (err : Bool) (cyc : Nat) :
    (Dev.leaveOp d st err cyc).frame = d.frame := by
  unfold Dev.leaveOp; simp

@[simp] theorem Dev.opError_frame (d : Dev) (code : Nat) (cyc : Nat) :
    (Dev.opError d code cyc).frame = d.frame := by
  unfold Dev.opError; simp

@[simp] theorem Dev.applyNow_frame (d : Dev) (x : ChanId × Selected) :
    (Dev.applyNow d x).frame = d.frame := by
  unfold Dev.applyNow; dsimp only; (repeat' split) <;> simp_all []

@[simp] theorem Dev.noteApplied_frame (d : Dev) (e : Vector Ending 64) (old : Vector Channel 64) :
    (Dev.noteApplied d e old).frame = d.frame := by
  unfold Dev.noteApplied; simp

@[simp] theorem Dev.e0Value_frame (d : Dev) (e : Vector Ending 64) (n : ChanId) (lead : Option (OuterLoop × Int)) (share : Int) :
    (Dev.e0Value d e n lead share).frame = d.frame := by
  unfold Dev.e0Value; dsimp only; (repeat' split) <;> simp_all []

@[simp] theorem Dev.gangSetpoints_frame (d : Dev) (e : Vector Ending 64) (n : ChanId) :
    (Dev.gangSetpoints d e n).frame = d.frame := by
  unfold Dev.gangSetpoints; simp [apply_ite Dev.frame, foldl_frame]

@[simp] theorem Dev.rampSetpoint_frame (d : Dev) (e : Vector Ending 64) (n : ChanId) :
    (Dev.rampSetpoint d e n).frame = d.frame := by
  unfold Dev.rampSetpoint; simp [apply_ite Dev.frame]

@[simp] theorem Dev.setpoints_frame (d : Dev) (e : Vector Ending 64) :
    (Dev.setpoints d e).frame = d.frame := by
  unfold Dev.setpoints; simp [apply_ite Dev.frame, Dev.eachCh_frame]

@[simp] theorem Dev.tickProducers_frame (d : Dev) :
    (Dev.tickProducers d).frame = d.frame := by
  unfold Dev.tickProducers; simp [apply_ite Dev.frame]

@[simp] theorem Dev.unitsCommit_frame (d : Dev) (old : Vector Channel 64) (applied : List (ChanId × Selected)) (n : ChanId) :
    (Dev.unitsCommit d old applied n).frame = d.frame := by
  unfold Dev.unitsCommit; simp

@[simp] theorem Dev.presentEntries_frame (d : Dev) (e : Vector Ending 64) :
    (Dev.presentEntries d e).frame = d.frame := by
  unfold Dev.presentEntries; simp

@[simp] theorem Dev.recordsCommit_frame (d : Dev) (e : Vector Ending 64) :
    (Dev.recordsCommit d e).frame = d.frame := by
  unfold Dev.recordsCommit; simp [apply_ite Dev.frame, Dev.eachCh_frame]

@[simp] theorem Dev.restoreLost_frame (d : Dev) (n : ChanId) :
    (Dev.restoreLost d n).frame = d.frame := by
  unfold Dev.restoreLost; (repeat' split) <;> simp

@[simp] theorem Dev.takeEdge_frame (d : Dev) (n : ChanId) (x : EdgeRec) :
    (Dev.takeEdge d n x).frame = d.frame := by
  unfold Dev.takeEdge; simp [apply_ite Dev.frame]

@[simp] theorem Dev.takeEdges_frame (d : Dev) (n : ChanId) :
    (Dev.takeEdges d n).frame = d.frame := by
  unfold Dev.takeEdges; simp [foldl_frame]

@[simp] theorem Dev.barkerTick_frame (d : Dev) (e : Vector Ending 64) (n : ChanId) :
    (Dev.barkerTick d e n).frame = d.frame := by
  unfold Dev.barkerTick; simp [apply_ite Dev.frame]

@[simp] theorem Dev.openCommit_frame (d : Dev) (n : ChanId) :
    (Dev.openCommit d n).frame = d.frame := by
  unfold Dev.openCommit; dsimp only; (repeat' split) <;> simp

@[simp] theorem Dev.countHeld_frame (d : Dev) (shown : Dev) (n : ChanId) :
    (Dev.countHeld d shown n).frame = d.frame := by
  unfold Dev.countHeld; simp [apply_ite Dev.frame]

@[simp] theorem Dev.barkersCommit_frame (d : Dev) (e : Vector Ending 64) (shown : Dev) :
    (Dev.barkersCommit d e shown).frame = d.frame := by
  unfold Dev.barkersCommit; simp [apply_ite Dev.frame, Dev.eachCh_frame]

@[simp] theorem Dev.channelStarts_frame (d : Dev) (inp : TickInputs) (n : ChanId) :
    (Dev.channelStarts d inp n).frame = d.frame := by
  unfold Dev.channelStarts; simp [apply_ite Dev.frame]

@[simp] theorem Dev.readings_frame (d : Dev) (inp : TickInputs) :
    (Dev.readings d inp).frame = d.frame := by
  unfold Dev.readings; dsimp only; (repeat' split) <;> simp

@[simp] theorem Dev.sysCommit_frame (d : Dev) :
    (Dev.sysCommit d).frame = d.frame := by
  unfold Dev.sysCommit; split <;> simp [apply_ite Dev.frame]

@[simp] theorem Dev.statesCommit_frame (d : Dev) :
    (Dev.statesCommit d).frame = d.frame := by
  unfold Dev.statesCommit; simp [Dev.eachSt_frame]

@[simp] theorem Dev.tickOver_frame (d : Dev) :
    (Dev.tickOver d).frame = d.frame := by
  unfold Dev.tickOver; simp [apply_ite Dev.frame, Dev.eachCh_frame, Dev.eachSt_frame]

@[simp] theorem Dev.modPcie_frame (d : Dev) (f : Pcie → Pcie) :
    (Dev.modPcie d f).frame = d.frame := by
  unfold Dev.modPcie; simp

@[simp] theorem Dev.modQueue_frame (d : Dev) (q : QueueId) (f : Queue → Queue) :
    (Dev.modQueue d q f).frame = d.frame := by
  unfold Dev.modQueue; simp

@[simp] theorem Dev.linkDown_frame (d : Dev) :
    (Dev.linkDown d).frame = d.frame := by
  unfold Dev.linkDown; simp

@[simp] theorem Dev.haltQueue_frame (d : Dev) (q : QueueId) (cause : Nat) :
    (Dev.haltQueue d q cause).frame = d.frame := by
  unfold Dev.haltQueue; simp

@[simp] theorem Dev.haltAll_frame (d : Dev) :
    (Dev.haltAll d).frame = d.frame := by
  unfold Dev.haltAll; simp [apply_ite Dev.frame]

@[simp] theorem Dev.badWindow_frame (d : Dev) (write : Bool) (offset : Nat) :
    (Dev.badWindow d write offset).frame = d.frame := by
  unfold Dev.badWindow; simp [apply_ite Dev.frame]

@[simp] theorem Dev.ringHalt_frame (d : Dev) (q : QueueId) (tail : Nat) :
    (Dev.ringHalt d q tail).frame = d.frame := by
  unfold Dev.ringHalt; simp

@[simp] theorem Dev.exportTail_frame (d : Dev) (tail : Nat) :
    (Dev.exportTail d tail).frame = d.frame := by
  unfold Dev.exportTail; simp [apply_ite Dev.frame]

@[simp] theorem Dev.objRefuse_frame (d : Dev) (obj : Nat) (code : Nat) :
    (Dev.objRefuse d obj code).frame = d.frame := by
  unfold Dev.objRefuse; simp

end Sys2Proof.Machine
end

