-- ==== Sys2Proof/Laws/Maps.lean ====
section
/-! SUPPORT. Sparse maps: a key reads as it was written last, every other key as before, and a write keeps the canonical
form. -/

namespace Sys2Proof.Machine
open Sys2Proof

theorem sget_sins {β : Type} (x : β) (m : SMap β) (k j : Nat) (v : β) :
    sget x (sins m k v) j = if j = k then v else sget x m j := by
  induction m with
  | nil => simp [sins, sget, eq_comm]
  | cons p m ih =>
    unfold sins
    split
    · simp [sget, eq_comm]
    · split
      · next h => subst h; by_cases h2 : j = p.1 <;> simp [sget, h2, eq_comm (a := p.1)]
      · next h =>
        by_cases h2 : p.1 = j
        · subst h2; simp [sget, h]
        · simp [sget, h2, ih]

theorem sget_filter {β : Type} (x : β) (m : SMap β) (k j : Nat) :
    sget x (m.filter fun e => e.1 != k) j = if j = k then x else sget x m j := by
  induction m with
  | nil => simp [sget]
  | cons p m ih =>
    by_cases h : p.1 = k
    · rw [List.filter_cons_of_neg (by simp [h]), ih]
      by_cases h2 : j = k
      · simp [h2]
      · have : k ≠ j := fun e => h2 e.symm
        simp [h2, sget, h, this]
    · rw [List.filter_cons_of_pos (by simp [h])]
      unfold sget
      rw [ih]
      by_cases h2 : p.1 = j
      · have : j ≠ k := fun e => h (h2.trans e)
        simp [h2, this]
      · simp [h2]

theorem sput_eq {β : Type} [DecidableEq β] (x : β) (m : SMap β) (k : Nat) (v : β) :
    sput x m k v = if v = x then m.filter (fun e => e.1 != k) else sins m k v := by
  cases m <;> rfl

/-- A key reads as it was written last, every other key as before. -/
theorem sget_sput {β : Type} [DecidableEq β] (x : β) (m : SMap β) (k j : Nat) (v : β) :
    sget x (sput x m k v) j = if j = k then v else sget x m j := by
  rw [sput_eq]
  split
  · next h => rw [sget_filter, h]
  · exact sget_sins x m k j v

/-- Every other key reads as before, whatever default it is read with. -/
theorem sget_sput_other {β : Type} [DecidableEq β] (x y : β) (m : SMap β) (k j : Nat) (v : β) (h : j ≠ k) :
    sget y (sput x m k v) j = sget y m j := by
  rw [sput_eq]
  split
  · rw [sget_filter, if_neg h]
  · rw [sget_sins, if_neg h]

theorem mem_sins_key {β : Type} (m : SMap β) (k : Nat) (v : β) : ∀ e ∈ sins m k v, e = (k, v) ∨ e ∈ m := by
  induction m with
  | nil => simp [sins]
  | cons p m ih =>
    intro e; unfold sins
    split
    · simp
    · split
      · simp only [List.mem_cons]; rintro (rfl | h) <;> simp_all
      · simp only [List.mem_cons]; rintro (rfl | h)
        · simp
        · rcases ih e h with h | h <;> simp [h]

theorem sins_ascends {β : Type} (m : SMap β) (k : Nat) (v : β) (h : (m.map Prod.fst).Pairwise (· < ·)) :
    ((sins m k v).map Prod.fst).Pairwise (· < ·) := by
  induction m with
  | nil => simp [sins]
  | cons p m ih =>
    have h0 := h
    simp only [List.map_cons, List.pairwise_cons, List.mem_map, forall_exists_index] at h
    unfold sins
    split
    · next hk =>
      refine List.pairwise_cons.2 ⟨?_, h0⟩
      simp only [List.map_cons, List.mem_cons, List.mem_map]
      rintro a (rfl | ⟨e, he, rfl⟩)
      · exact hk
      · exact Nat.lt_trans hk (h.1 _ e ⟨he, rfl⟩)
    · next hk =>
      split
      · next hk2 =>
        refine List.pairwise_cons.2 ⟨?_, h.2⟩
        simp only [List.mem_map]
        rintro a ⟨e, he, rfl⟩
        exact hk2 ▸ h.1 _ e ⟨he, rfl⟩
      · next hk2 =>
        refine List.pairwise_cons.2 ⟨?_, ih h.2⟩
        simp only [List.mem_map]
        rintro a ⟨e, he, rfl⟩
        rcases mem_sins_key m k v e he with rfl | h1
        · simp only; omega
        · exact h.1 _ e ⟨h1, rfl⟩

/-- Writing a key keeps the canonical form. -/
theorem SMap.wf_sput {β : Type} [DecidableEq β] (df : Nat → β) (m : SMap β) (k : Nat) (v : β) (h : SMap.wf df m) :
    SMap.wf df (sput (df k) m k v) := by
  rw [sput_eq]
  split
  · refine ⟨List.Pairwise.sublist (List.Sublist.map _ List.filter_sublist) h.1, fun e he => h.2 e (List.mem_filter.1 he).1⟩
  · next hv =>
    refine ⟨sins_ascends m k v h.1, fun e he => ?_⟩
    rcases mem_sins_key m k v e he with rfl | h1
    · exact hv
    · exact h.2 e h1

end Sys2Proof.Machine
end

