-- ==== Sys2Proof/Laws/Leads.lean ====
section
/-! SUPPORT. What the commands that leave the frame still keep: the trust state but for the anti-rollback counters, which
only rise, the canonical form of ledger and directory, and the tick number of a module that stays released. -/

namespace Sys2Proof.Machine
open Sys2Proof

/-! ## What even the commands outside the frame keep -/

/-- What a command that no longer keeps the whole frame still keeps: the trust state but for counters that rise, the
canonical form, and the tick number of a module that stays released. -/
structure Frame.Leads (f f' : Frame) : Prop where
  trust : { f'.trust with arb := f.trust.arb } = f.trust
  arb   : ∀ i : Fin 4, f.trust.arb[i] ≤ f'.trust.arb[i]
  wf    : f.wf → f'.wf
  tick  : f'.released = true → f'.tick = f.tick ∧ f.released = true

/-- A frame whose trust state stays. -/
theorem Frame.Leads.same {f f' : Frame} (h : f'.trust = f.trust) (w : f.wf → f'.wf)
    (t : f'.released = true → f'.tick = f.tick ∧ f.released = true) : f.Leads f' :=
  ⟨by rw [h], fun i => by rw [h], w, t⟩
@[simp] theorem Frame.Leads.refl (f : Frame) : f.Leads f := .same rfl id fun h => ⟨rfl, h⟩
theorem Trust.trans {a b c : Trust} (h : { b with arb := a.arb } = a) (k : { c with arb := b.arb } = b) :
    { c with arb := a.arb } = a := by
  cases a; cases b; cases c
  simp only [Trust.mk.injEq] at *
  obtain ⟨h1, h2, h3, -, h4, h5, h6⟩ := h
  obtain ⟨k1, k2, k3, -, k4, k5, k6⟩ := k
  subst h1 h2 h3 h4 h5 h6 k1 k2 k3 k4 k5 k6
  simp
theorem Frame.Leads.trans {a b c : Frame} (h : a.Leads b) (k : b.Leads c) : a.Leads c :=
  ⟨Trust.trans h.trust k.trust, fun i => Nat.le_trans (h.arb i) (k.arb i), fun w => k.wf (h.wf w),
    fun r => ⟨(k.tick r).1.trans (h.tick (k.tick r).2).1, (h.tick (k.tick r).2).2⟩⟩
theorem Frame.Leads.foldl {α : Type} (f : Dev → α → Dev) (h : ∀ (d : Dev) (x : α), d.frame.Leads (f d x).frame) (l : List α) (d : Dev) :
    d.frame.Leads (l.foldl f d).frame := by
  induction l generalizing d with
  | nil => simp
  | cons x l ih => exact (h d x).trans (ih (f d x))
theorem Frame.Leads.ite {f a b : Frame} {c : Prop} [Decidable c] (ha : f.Leads a) (hb : f.Leads b) :
    f.Leads (if c then a else b) := by
  split
  · exact ha
  · exact hb
theorem Frame.wf_nil (t : Tick) (r : Bool) (x : Trust) (g : Nat) (p : SMap (Option Program)) (q : SMap (Option ProgSet)) :
    (⟨t, r, x, g, p, q, [], []⟩ : Frame).wf := by
  simp [Frame.wf, SMap.wf]
theorem wf_foldl_sput {α : Type} (key : α → Nat) (val : α → Word64) (l : List α) (m : SMap Word64)
    (h : SMap.wf (fun _ => 0) m) : SMap.wf (fun _ => 0) (l.foldl (fun m e => sput 0 m (key e) (val e)) m) := by
  induction l generalizing m with
  | nil => exact h
  | cons e l ih => exact ih _ (SMap.wf_sput (fun _ => 0) m (key e) (val e) h)

theorem Dev.writeDesc_leads (d : Dev) (i : Nat) (w : Word64) : d.frame.Leads (d.writeDesc i w).frame := by
  unfold Dev.writeDesc
  split
  · simp
  · split
    · simp
    · rw [Dev.pruneReplay_frame]
      have ha := Dev.accept_frame d
      generalize d.accept = a at ha
      refine .same ?_ (fun h => ⟨h.1, SMap.wf_sput (fun _ => 0) d.mem.dir i w h.2⟩) fun h => ⟨?_, ?_⟩
      · exact (congrArg Frame.trust ha : _)
      · exact (congrArg Frame.tick ha : _)
      · exact (congrArg Frame.released ha : a.frame.released = d.frame.released).symm.trans h
theorem Dev.writeLines_leads (d : Dev) (i : Nat) (w : List Word64) : d.frame.Leads (d.writeLines i w).frame := by
  unfold Dev.writeLines
  dsimp only
  rw [Dev.incBy_frame]
  have hb : (d.fresh.2.incBy 64 Obj.BANK_WAIT d.fresh.1).frame = d.frame := by simp
  generalize d.fresh.2.incBy 64 Obj.BANK_WAIT d.fresh.1 = b at hb
  rw [← hb]
  exact .same rfl (fun h => ⟨wf_foldl_sput (fun e : Word64 × Nat => 8 * i + e.2) Prod.fst _ _ h.1, h.2⟩) fun h => ⟨rfl, h⟩
theorem Dev.putPackage_leads (l : Bool) (d : Dev) (p : Package) : d.frame.Leads (d.putPackage l p).frame := by
  unfold Dev.putPackage
  dsimp only
  rw [foldl_frame _ (fun d s => by simp)]
  refine Frame.Leads.trans (Frame.Leads.foldl _ (fun d s => ?_) _ _) (Frame.Leads.foldl _ (fun d n => ?_) _ _)
  · refine Frame.Leads.foldl _ ?_ _ _
    exact fun d q => .same rfl id fun h => ⟨rfl, h⟩
  · dsimp only
    split
    · refine Frame.Leads.foldl _ ?_ _ _
      exact fun d q => .same rfl id fun h => ⟨rfl, h⟩
    · simp
theorem Dev.unloadSet_leads (d : Dev) : d.frame.Leads d.unloadSet.frame := by
  unfold Dev.unloadSet
  dsimp only
  (repeat' split) <;> simp [Dev.tick_eq, Dev.released_eq, Dev.trust_eq, Dev.debug_eq, Dev.progs_eq, Dev.ledger_eq, Dev.dir_eq]
  exact .same rfl id fun h => ⟨rfl, h⟩
theorem Dev.zeroise_leads (d : Dev) : d.frame.Leads d.zeroise.frame := by
  unfold Dev.zeroise
  simp
  exact .same rfl (fun _ => Frame.wf_nil ..) fun h => ⟨rfl, h⟩
theorem Dev.leaveD2_leads (d : Dev) (l : Nat) : d.frame.Leads (d.leaveD2 l).frame := by
  unfold Dev.leaveD2
  dsimp only
  split <;> simp <;> exact .same rfl id fun h => ⟨rfl, h⟩
theorem Dev.debugReq_leads (d : Dev) (v : Nat) : d.frame.Leads (d.debugReq v).frame := by
  have hm : ∀ d : Dev, d.frame.Leads (d.accept.leaveD2 0).frame ∧ d.frame.Leads (d.accept.leaveD2 1).frame := fun d =>
    ⟨Dev.accept_frame d ▸ Dev.leaveD2_leads d.accept 0, Dev.accept_frame d ▸ Dev.leaveD2_leads d.accept 1⟩
  have h0 : (d.modSec fun x => { x with dbgPend := 0 }).frame = d.frame := by simp
  have := hm (d.modSec fun x => { x with dbgPend := 0 })
  rw [h0] at this
  unfold Dev.debugReq
  dsimp only
  rw [apply_ite Dev.frame]
  refine Frame.Leads.ite (by simp) ?_
  split <;> (try rw [apply_ite Dev.frame]; refine Frame.Leads.ite ?_ ?_) <;>
    first | exact this.1 | exact this.2 | (simp; done)
theorem foldl_setReg_frame (g : Nat → Nat) (l : List Nat) (r : Dev) :
    (l.foldl (fun r k => r.setReg k (g k)) r).frame = r.frame := foldl_frame _ (fun d k => by simp) l r
/-- What a cold boot keeps of the frame, and what it starts anew. -/
theorem Dev.cold_frame (d : Dev) : d.cold.frame =
    ⟨0, false, d.frame.trust, 0, [], [], [], []⟩ := by
  unfold Dev.cold
  have h := foldl_setReg_frame d.reg [Obj.SYS_SEQ, Obj.SYS_BANK, Obj.SNAP_SEQ, Obj.SNAP_BANK, Obj.BOOT_COUNT] Dev.reset
  dsimp only
  simp only [Dev.frame_mk]
  generalize List.foldl _ Dev.reset _ = r at h
  simp only [Dev.tick_eq, Dev.released_eq, Dev.debug_eq, Dev.progs_eq, Dev.sets_eq, Dev.ledger_eq, Dev.dir_eq, h]
  rfl
theorem Dev.reboot_frame (d : Dev) (v : Nat) :
    (d.reboot v).frame = d.frame ∨ (d.reboot v).frame = ⟨0, false, d.frame.trust, 0, [], [], [], []⟩ := by
  unfold Dev.reboot
  split
  · simp
  · split
    · simp
    · right
      have h := foldl_setReg_frame d.reg [Obj.EC_PORT_MODE, Obj.EC_LINK, Obj.BUS_DELAY, Obj.BUS_STATE] d.cold
      rw [Dev.cold_frame] at h
      dsimp only
      simp only [Dev.frame_mk]
      generalize List.foldl _ d.cold _ = c at h
      simp [Dev.tick_eq, Dev.released_eq, Dev.trust_eq, Dev.debug_eq, Dev.progs_eq, Dev.sets_eq, Dev.ledger_eq,
        Dev.dir_eq, h]
theorem Frame.Leads.cold (f : Frame) : f.Leads ⟨0, false, f.trust, 0, [], [], [], []⟩ :=
  .same rfl (fun _ => Frame.wf_nil ..) fun h => by cases h
theorem Dev.reboot_leads (d : Dev) (v : Nat) : d.frame.Leads (d.reboot v).frame := by
  rcases d.reboot_frame v with h | h <;> rw [h]
  · exact Frame.Leads.refl _
  · exact Frame.Leads.cold _

theorem Dev.writeRing_leads (d : Dev) (w f : Nat) (l : List Word64) : d.frame.Leads (d.writeRing w f l).frame :=
  Frame.Leads.foldl _ (fun d _ => Dev.writeLines_leads d _ _) _ _
theorem Dev.ledgerLoad_leads (d : Dev) (b : Bool) (n : Nat) (l : List Word64) (c : Nat) :
    d.frame.Leads (d.ledgerLoad b n l c).frame := by
  unfold Dev.ledgerLoad
  (repeat' split) <;> simp [Dev.writeLines_leads]
theorem Dev.refill_leads (d : Dev) (b : Bool) (x : LoadDesc) (l : List Byte) :
    d.frame.Leads (d.refill b x l).frame := by
  unfold Dev.refill
  dsimp only
  (repeat' split) <;> simp [Dev.writeRing_leads]
theorem Dev.package_leads (d : Dev) (p : Package) : d.frame.Leads (d.package p).frame := by
  unfold Dev.package
  split
  · simp
  · simp [Dev.putPackage_leads]

theorem Dev.guarded_leads (d : Dev) (r : ObjRow) (idx sub v : Nat) (f : Dev → Dev)
    (h : ∀ d : Dev, d.frame.Leads (f d).frame) : d.frame.Leads (d.guarded r idx sub v f).frame := by
  unfold Dev.guarded
  dsimp only
  (repeat' split) <;> first | (simp; done) | exact Dev.accept_frame d ▸ h d.accept
/-- A hook's answer, if it gives one, meets `Q`. -/
def Kept (Q : Dev → Prop) (o : Option Dev) : Prop := ∀ x, o = some x → Q x
theorem Kept.ite {Q : Dev → Prop} {c : Prop} [Decidable c] {a b : Option Dev} (ha : Kept Q a) (hb : Kept Q b) :
    Kept Q (if c then a else b) := by
  intro x; split
  · exact ha x
  · exact hb x
theorem Kept.some {Q : Dev → Prop} {a : Dev} (ha : Q a) : Kept Q (some a) := by
  intro x h; obtain rfl := Option.some.inj h; exact ha
theorem Kept.none {Q : Dev → Prop} : Kept Q none := by
  intro x h; cases h

theorem Dev.chHook_frame (d : Dev) (r : ObjRow) (n : ChanId) (idx sub k v : Nat) :
    Kept (fun d' => d'.frame = d.frame) (d.chHook r n idx sub k v) := by
  unfold Dev.chHook; dsimp only
  split
  · refine Kept.some ?_; simp
  · repeat' with_reducible (first | apply Kept.ite | apply Kept.some | apply Kept.none)
    all_goals first | (apply Dev.guarded_frame; intro d; simp [apply_ite Dev.frame]; done) | simp [apply_ite Dev.frame]
theorem Dev.devHookA_leads (d : Dev) (r : ObjRow) (idx sub v : Nat) :
    Kept (fun d' => d.frame.Leads d'.frame) (d.devHookA r idx sub v) := by
  unfold Dev.devHookA
  extract_lets k guard plain
  clear_value k
  have hg : ∀ f : Dev → Dev, (∀ d : Dev, d.frame.Leads (f d).frame) → Kept (fun d' => d.frame.Leads d'.frame) (guard f) :=
    fun f h => Kept.some (d.guarded_leads r idx sub v f h)
  have hp : ∀ f : Dev → Dev, (∀ d : Dev, (f d).frame = d.frame) → Kept (fun d' => d.frame.Leads d'.frame) (plain f) :=
    fun f h => Kept.some (d.guarded_leads r idx sub v _ fun d => by simp [h])
  clear_value guard plain
  repeat' with_reducible (first | apply Kept.ite | apply Kept.some | apply Kept.none)
  all_goals first
    | with_reducible exact hg _ Dev.unloadSet_leads
    | (with_reducible refine hg _ fun d => ?_; simp [apply_ite Dev.frame]; done)
    | (with_reducible refine hp _ fun d => ?_; simp; done)
    | with_reducible exact Dev.writeDesc_leads ..
    | (simp; done)
theorem Dev.devHookB_leads (d : Dev) (r : ObjRow) (idx sub len v : Nat) :
    Kept (fun d' => d.frame.Leads d'.frame) (d.devHookB r idx sub len v) := by
  unfold Dev.devHookB
  extract_lets k guard plain
  clear_value k
  have hg : ∀ f : Dev → Dev, (∀ d : Dev, d.frame.Leads (f d).frame) → Kept (fun d' => d.frame.Leads d'.frame) (guard f) :=
    fun f h => Kept.some (d.guarded_leads r idx sub v f h)
  have hp : ∀ f : Dev → Dev, (∀ d : Dev, (f d).frame = d.frame) → Kept (fun d' => d.frame.Leads d'.frame) (plain f) :=
    fun f h => Kept.some (d.guarded_leads r idx sub v _ fun d => by simp [h])
  clear_value guard plain
  repeat' with_reducible (first | apply Kept.ite | apply Kept.some | apply Kept.none)
  all_goals first
    | (with_reducible refine hg _ fun d => ?_; simp [apply_ite Dev.frame]; done)
    | (with_reducible refine hp _ fun d => ?_; simp; done)
    | with_reducible exact Dev.debugReq_leads ..
    | with_reducible exact Dev.reboot_leads ..
    | (simp; done)

theorem Dev.writeObj_leads (d : Dev) (idx sub len v : Nat) : d.frame.Leads (d.writeObj idx sub len v).frame := by
  unfold Dev.writeObj
  split
  · simp
  · next r _ =>
    dsimp only
    split
    · next d' h =>
      split at h
      · cases ha : d.devHookA r idx sub v with
        | some x => rw [ha] at h; obtain rfl := Option.some.inj h; exact d.devHookA_leads r idx sub v _ ha
        | none => rw [ha] at h; exact d.devHookB_leads r idx sub len v _ h
      · next s k _ =>
        have h2 := d.stHook_frame s k v
        rw [h] at h2
        exact (show d'.frame = d.frame from h2).symm ▸ Frame.Leads.refl _
      · exact (d.chHook_frame r _ idx sub _ v _ h).symm ▸ Frame.Leads.refl _
    · exact d.guarded_leads r idx sub v _ fun d => by simp

theorem Dev.hostOver_leads (d : Dev) (n : ChanId) (k : Nat) (f : Dev → Dev) (h : ∀ d : Dev, d.frame.Leads (f d).frame) :
    d.frame.Leads (d.hostOver n k f).frame := by
  unfold Dev.hostOver; split
  · simp
  · exact h d
theorem Dev.hostWrite_leads (d : Dev) (idx sub : Nat) (f : Dev → Dev) (h : ∀ d : Dev, d.frame.Leads (f d).frame) :
    d.frame.Leads (d.hostWrite idx sub f).frame := by
  unfold Dev.hostWrite
  split
  · split
    · simp
    · exact h d
  · exact h d
  · exact d.hostOver_leads _ _ f h
theorem Dev.writeList_leads (l : List (Nat × Nat)) (d : Dev) (idx : Nat) : d.frame.Leads (d.writeList idx l).1.frame := by
  induction l generalizing d with
  | nil => simp [Dev.writeList]
  | cons e l ih =>
    obtain ⟨s, v⟩ := e
    have h := d.hostWrite_leads idx s (·.writeObj idx s (((rowOf idx s).map ObjRow.bytes).getD 0) v) fun d => d.writeObj_leads ..
    unfold Dev.writeList
    dsimp only
    split
    · exact h
    · exact h.trans (ih _)
theorem Dev.writeWhole_leads (d : Dev) (idx : Nat) (vals : List Nat) : d.frame.Leads (d.writeWhole idx vals).frame := by
  unfold Dev.writeWhole
  dsimp only
  split
  · rw [Dev.accept_frame]; exact Dev.writeList_leads ..
  · simp
theorem Dev.sealedOp_leads (d : Dev) (o : SealedOp) : d.frame.Leads (d.sealedOp o).1.frame := by
  unfold Dev.sealedOp
  dsimp only
  (repeat' split) <;> first
    | (simp; done)
    | exact Dev.modDict_frame d _ ▸ Dev.writeObj_leads _ _ _ _ _
theorem Dev.sealedOps_leads (l : List SealedOp) (d : Dev) : d.frame.Leads (d.sealedOps l).1.frame := by
  induction l generalizing d with
  | nil => simp [Dev.sealedOps]
  | cons o l ih => unfold Dev.sealedOps; exact (d.sealedOp_leads o).trans (ih _)
theorem Dev.sealedIn_leads (d : Dev) (r : List Byte) (bulk : Bool) : d.frame.Leads (d.sealedIn r bulk).frame := by
  unfold Dev.sealedIn
  dsimp only
  (repeat' split) <;> first | (simp; done) | skip
  simp
  refine Frame.Leads.trans ?_ (Dev.sealedOps_leads _ _)
  simp
/-- The counter of an accepted container rises, and nothing else of the frame changes. -/
theorem Dev.bumpArb_leads (d : Dev) (v : Verdict) : d.frame.Leads (d.bumpArb v).frame := by
  unfold Dev.bumpArb
  split
  · next k a _ _ =>
    refine ⟨rfl, fun i => ?_, id, fun h => ⟨rfl, h⟩⟩
    show d.sec.arb[i] ≤ (d.sec.arb.set k (max d.sec.arb[k] a))[i]
    simp only [Fin.getElem_fin, Vector.getElem_set]
    split
    · next h => simp only [h]; exact Nat.le_max_left _ _
    · exact Nat.le_refl _
  · simp
theorem Dev.judge_leads (d : Dev) (v : Verdict) : d.frame.Leads (d.judge v).frame := by
  unfold Dev.judge
  dsimp only
  split
  · split
    · simp
    · rw [Dev.loadRefuse_frame]; (repeat' split) <;> simp
  · have h := (d.judged v.code v.type (256 * v.block + b2n v.bulk)).bumpArb_leads v
    rw [Dev.judged_frame] at h
    (repeat' split) <;> simpa using h
theorem Dev.actWrite_leads (d : Dev) (w : HostWrite) : d.frame.Leads (d.actWrite w).frame := by
  unfold Dev.actWrite
  split
  · split
    · exact d.sealedIn_leads _ _
    · exact d.hostWrite_leads _ _ _ fun d => d.writeObj_leads _ _ _ _
  · exact d.judge_leads _
  · exact d.writeWhole_leads _ _
  · simp
  · simp
  · dsimp only
    simp only [Dev.modDict_frame]
    split
    · exact d.writeObj_leads _ _ _ _
    · simp
theorem Dev.applyWrite_leads (d : Dev) (w : HostWrite) : d.frame.Leads (d.applyWrite w).frame := by
  have h := (d.modDict fun x => { x with source := w.source, abort := 0, arrived := some w.arrived }).actWrite_leads w
  rw [Dev.modDict_frame] at h
  unfold Dev.applyWrite
  dsimp only
  split <;> simpa only [apply_ite Dev.frame, Dev.bulkDone_frame, Dev.inc_frame, Dev.modDict_frame, ite_self] using h
theorem Dev.actWrites_leads (d : Dev) (p : HostWrite → Bool) : d.frame.Leads (d.actWrites p).frame := by
  unfold Dev.actWrites
  dsimp only
  refine Frame.Leads.trans ?_ (Frame.Leads.foldl _ (fun d w => d.applyWrite_leads w) _ _)
  simp
theorem Dev.writesCommit_leads (d : Dev) : d.frame.Leads d.writesCommit.frame :=
  ((d.actWrites_leads _).trans (Dev.actWrites_leads _ _)).trans (Dev.actWrites_leads _ _)
theorem Dev.applyCommit_leads (d : Dev) (e : Vector Ending 64) (old : Vector Channel 64) :
    d.frame.Leads (d.applyCommit e old).frame := by
  unfold Dev.applyCommit
  dsimp only
  rw [Dev.eachCh_frame _ _ (fun d n => by simp), foldl_frame _ (fun d x => by split <;> simp)]
  refine Frame.Leads.trans ?_ (Dev.actWrites_leads _ _)
  rw [Dev.tickProducers_frame, Dev.presentEntries_frame, Dev.setpoints_frame, foldl_frame _ (fun d x => by simp)]
  simp
theorem Dev.countTick_frame (d : Dev) : d.countTick.frame = { d.frame with tick := d.tick + 1 } := by
  unfold Dev.countTick
  dsimp only
  split <;> simp [Dev.released_eq, Dev.trust_eq, Dev.debug_eq, Dev.progs_eq, Dev.sets_eq, Dev.ledger_eq, Dev.dir_eq]
theorem Dev.beginTick_frame (d : Dev) : d.beginTick.frame = { d.frame with tick := d.tick + 1 } := by
  unfold Dev.beginTick
  dsimp only
  rw [Dev.readStalls_frame, Dev.latchLoops_frame, Dev.mapCh_frame]
  exact Dev.countTick_frame _
/-- COMMIT begins one tick; the writes that act at it may do what a write may do. -/
theorem Dev.commit_leads (d : Dev) (inp : TickInputs) (shown : Dev) :
    ({ d.frame with tick := d.tick + 1 } : Frame).Leads (d.commit inp shown).frame := by
  unfold Dev.commit
  extract_lets src d1 e d2 old d3 d4
  have h1 : d1.frame = d.frame := by simp [d1]
  have h2 : d2.frame = { d.frame with tick := d.tick + 1 } := by
    simp only [d2, Dev.presentDue_frame, Dev.tickEnds_frame, Dev.beginTick_frame, h1, Dev.tick_eq]
  have h3 : d2.frame.Leads d3.frame := by
    have h := ((d2.windowsEnd e inp shown).recordsCommit e).applyCommit_leads e old
    rwa [Dev.recordsCommit_frame, Dev.windowsEnd_frame] at h
  have h4 : d3.frame.Leads d4.frame := by
    simp only [d4, Dev.sysCommit_frame]
    rw [Dev.eachCh_frame _ _ fun d n => by simp]
    have h := (d3.barkersCommit e shown).writesCommit_leads
    rwa [Dev.barkersCommit_frame] at h
  simp only [Dev.settleFaults_frame, Dev.statesCommit_frame]
  rw [Dev.eachCh_frame _ _ fun d n => by simp, Dev.readings_frame, ← h2]
  exact h3.trans h4
theorem Dev.setEpoch_frame (d : Dev) (now : Tick) : (d.setEpoch now).frame = { d.frame with tick := now } := by
  unfold Dev.setEpoch
  dsimp only
  rw [Dev.mapCh_frame, Dev.eachSt_frame _ _ (fun d s => by simp)]
  simp [Dev.released_eq, Dev.trust_eq, Dev.debug_eq, Dev.progs_eq, Dev.sets_eq, Dev.ledger_eq, Dev.dir_eq]
theorem Dev.takeEpoch_frame (d : Dev) (now : Tick) :
    (d.takeEpoch now).frame = d.frame ∨ (d.takeEpoch now).frame = { d.frame with tick := now } := by
  unfold Dev.takeEpoch
  split
  · exact Or.inr (d.setEpoch_frame now)
  · simp
theorem Dev.rootSlot_frame (d : Dev) : ∃ k, d.rootSlot.frame = { d.frame with tick := k } := by
  unfold Dev.rootSlot
  extract_lets d1 d2
  have h1 : ∃ k, d1.frame = { d.frame with tick := k } := by
    simp only [d1]
    split
    · next x _ => rcases d.takeEpoch_frame x with h | h <;> rw [h] <;> exact ⟨_, rfl⟩
    · exact ⟨_, rfl⟩
  have h2 : d2.frame = d1.frame := by simp [d2]
  obtain ⟨k, h1⟩ := h1
  refine ⟨k, ?_⟩
  rw [← h1, ← h2]
  clear_value d2
  split
  · simp
  · dsimp only; split <;> simp
/-- Sections that are applied one after another lead, where each does. -/
theorem sectionsOf_leads {α : Type} (code : Nat) (ok : Dev → α → Bool) (put : Dev → α → Dev)
    (h : ∀ (d : Dev) (x : α), d.frame.Leads (put d x).frame) (l : List α) (d z : Dev) (hz : sectionsOf code ok put l d = .ok z) :
    d.frame.Leads z.frame := by
  induction l generalizing d with
  | nil => obtain rfl := Except.ok.inj hz; simp
  | cons x l ih =>
    simp only [sectionsOf, List.foldlM_cons] at hz ih
    split at hz
    · exact (h d x).trans (ih _ hz)
    · cases hz
theorem Dev.putProfile_leads (d : Dev) (e : Nat × List Byte) : d.frame.Leads (d.putProfile e.1 e.2).frame := by simp
theorem Dev.applyImage_leads (d z : Dev) (b : ImageBody) (h : d.applyImage b = .ok z) : d.frame.Leads z.frame := by
  unfold Dev.applyImage at h
  simp only [bind, Except.bind] at h
  split at h
  · cases h
  · have h0 : (b.defaults.foldl (fun d e => d.setObj e.1 e.2) d).frame = d.frame := foldl_frame _ (fun d e => by simp) _ _
    rw [← h0]
    generalize b.defaults.foldl (fun d e => d.setObj e.1 e.2) d = d0 at h
    split at h; cases h
    next d1 h1 =>
    split at h; cases h
    next d2 h2 =>
    split at h; cases h
    next d3 h3 =>
    split at h; cases h
    next d4 h4 =>
    split at h; cases h
    next d5 h5 =>
    obtain rfl := Except.ok.inj h
    rw [Dev.paramWords_frame, Dev.setReg_frame]
    refine (sectionsOf_leads _ _ _ (fun d p => d.putPackage_leads true p) _ _ _ h1).trans ?_
    refine (sectionsOf_leads _ _ _ (fun d p => d.putPackage_leads false p) _ _ _ h2).trans ?_
    refine (sectionsOf_leads _ _ _ (fun d e => ?_) _ _ _ h3).trans ?_
    · exact .same rfl (fun h => ⟨h.1, SMap.wf_sput (fun _ => 0) d.mem.dir e.1 e.2 h.2⟩) fun h => ⟨rfl, h⟩
    refine (sectionsOf_leads _ _ _ (fun d e => ?_) _ _ _ h4).trans ?_
    · exact .same rfl (fun h => ⟨SMap.wf_sput (fun _ => 0) d.mem.ledger e.1 e.2 h.1, h.2⟩) fun h => ⟨rfl, h⟩
    exact sectionsOf_leads _ _ _ (fun d e => d.putProfile_leads e) _ _ _ h5
theorem Dev.useSlot_leads (d z : Dev) (f : Flash) (k : Fin 2) (h : d.useSlot f k = .ok z) : d.frame.Leads z.frame := by
  unfold Dev.useSlot Except.bind at h
  split at h
  · cases h
  · exact d.applyImage_leads z _ h
theorem Dev.tryImages_leads (d : Dev) (f : Flash) : d.frame.Leads (d.tryImages f).frame := by
  unfold Dev.tryImages
  dsimp only
  split
  · next x h => simpa using d.useSlot_leads x f _ h
  · split
    · next x h => simpa using Dev.useSlot_leads _ x f _ h
    · simp
theorem Dev.enterD3_frame (d : Dev) : d.enterD3.frame =
    { d.frame with trust := { d.frame.trust with d3Count := d.frame.trust.d3Count + 1 }, debug := 3, progs := [], sets := [],
                   ledger := [], dir := [] } := by
  have h0 (x : Sec) : ({ x with d3Count := x.d3Count + 1, debug := 3, dbgPend := 0 } : Sec).trust =
      { x.trust with d3Count := x.trust.d3Count + 1 } := by
    cases x; rfl
  unfold Dev.enterD3 Dev.zeroise
  simp only [Dev.modSec_frame, h0]
  simp [Dev.tick_eq, Dev.released_eq, Dev.trust_eq, Dev.debug_eq, Dev.progs_eq, Dev.sets_eq, Dev.ledger_eq, Dev.dir_eq]
end Sys2Proof.Machine
end

