-- ==== Sys2Proof/Laws/State.lean ====
section
/-! SUPPORT. Laws of State: for each update of the state, what each field of the result is; and reads after writes of
registers. -/

namespace Sys2Proof.Machine

open Sys2Proof

@[simp] theorem Dev.setCh_tick (d : Dev) (n : ChanId) (c : Channel) : (d.setCh n c).tick = d.tick := rfl
@[simp] theorem Dev.modCh_tick (d : Dev) (n : ChanId) (f : Channel → Channel) : (d.modCh n f).tick = d.tick := rfl
@[simp] theorem Dev.setSt_tick (d : Dev) (s : StallId) (x : Stall) : (d.setSt s x).tick = d.tick := rfl
@[simp] theorem Dev.modSt_tick (d : Dev) (s : StallId) (f : Stall → Stall) : (d.modSt s f).tick = d.tick := rfl
@[simp] theorem Dev.setReg_tick (d : Dev) (k v : Nat) : (d.setReg k v).tick = d.tick := rfl
@[simp] theorem Dev.accept_tick (d : Dev) : d.accept.tick = d.tick := by unfold Dev.accept; split <;> rfl
@[simp] theorem Dev.setCh_regs (d : Dev) (n : ChanId) (c : Channel) : (d.setCh n c).regs = d.regs := rfl
@[simp] theorem Dev.modCh_regs (d : Dev) (n : ChanId) (f : Channel → Channel) : (d.modCh n f).regs = d.regs := rfl
@[simp] theorem Dev.setSt_regs (d : Dev) (s : StallId) (x : Stall) : (d.setSt s x).regs = d.regs := rfl
@[simp] theorem Dev.modSt_regs (d : Dev) (s : StallId) (f : Stall → Stall) : (d.modSt s f).regs = d.regs := rfl
@[simp] theorem Dev.setCh_power (d : Dev) (n : ChanId) (c : Channel) : (d.setCh n c).power = d.power := rfl
@[simp] theorem Dev.modCh_power (d : Dev) (n : ChanId) (f : Channel → Channel) : (d.modCh n f).power = d.power := rfl
@[simp] theorem Dev.setSt_power (d : Dev) (s : StallId) (x : Stall) : (d.setSt s x).power = d.power := rfl
@[simp] theorem Dev.modSt_power (d : Dev) (s : StallId) (f : Stall → Stall) : (d.modSt s f).power = d.power := rfl
@[simp] theorem Dev.setReg_power (d : Dev) (k v : Nat) : (d.setReg k v).power = d.power := rfl
@[simp] theorem Dev.accept_power (d : Dev) : d.accept.power = d.power := by unfold Dev.accept; split <;> rfl
@[simp] theorem Dev.setCh_sync (d : Dev) (n : ChanId) (c : Channel) : (d.setCh n c).sync = d.sync := rfl
@[simp] theorem Dev.modCh_sync (d : Dev) (n : ChanId) (f : Channel → Channel) : (d.modCh n f).sync = d.sync := rfl
@[simp] theorem Dev.setSt_sync (d : Dev) (s : StallId) (x : Stall) : (d.setSt s x).sync = d.sync := rfl
@[simp] theorem Dev.modSt_sync (d : Dev) (s : StallId) (f : Stall → Stall) : (d.modSt s f).sync = d.sync := rfl
@[simp] theorem Dev.setReg_sync (d : Dev) (k v : Nat) : (d.setReg k v).sync = d.sync := rfl
@[simp] theorem Dev.accept_sync (d : Dev) : d.accept.sync = d.sync := by unfold Dev.accept; split <;> rfl
@[simp] theorem Dev.setCh_flt (d : Dev) (n : ChanId) (c : Channel) : (d.setCh n c).flt = d.flt := rfl
@[simp] theorem Dev.modCh_flt (d : Dev) (n : ChanId) (f : Channel → Channel) : (d.modCh n f).flt = d.flt := rfl
@[simp] theorem Dev.setSt_flt (d : Dev) (s : StallId) (x : Stall) : (d.setSt s x).flt = d.flt := rfl
@[simp] theorem Dev.modSt_flt (d : Dev) (s : StallId) (f : Stall → Stall) : (d.modSt s f).flt = d.flt := rfl
@[simp] theorem Dev.setReg_flt (d : Dev) (k v : Nat) : (d.setReg k v).flt = d.flt := rfl
@[simp] theorem Dev.accept_flt (d : Dev) : d.accept.flt = d.flt := by unfold Dev.accept; split <;> rfl
@[simp] theorem Dev.setCh_fab (d : Dev) (n : ChanId) (c : Channel) : (d.setCh n c).fab = d.fab := rfl
@[simp] theorem Dev.modCh_fab (d : Dev) (n : ChanId) (f : Channel → Channel) : (d.modCh n f).fab = d.fab := rfl
@[simp] theorem Dev.setSt_fab (d : Dev) (s : StallId) (x : Stall) : (d.setSt s x).fab = d.fab := rfl
@[simp] theorem Dev.modSt_fab (d : Dev) (s : StallId) (f : Stall → Stall) : (d.modSt s f).fab = d.fab := rfl
@[simp] theorem Dev.setReg_fab (d : Dev) (k v : Nat) : (d.setReg k v).fab = d.fab := rfl
@[simp] theorem Dev.accept_fab (d : Dev) : d.accept.fab = d.fab := by unfold Dev.accept; split <;> rfl
@[simp] theorem Dev.setCh_fifo (d : Dev) (n : ChanId) (c : Channel) : (d.setCh n c).fifo = d.fifo := rfl
@[simp] theorem Dev.modCh_fifo (d : Dev) (n : ChanId) (f : Channel → Channel) : (d.modCh n f).fifo = d.fifo := rfl
@[simp] theorem Dev.setSt_fifo (d : Dev) (s : StallId) (x : Stall) : (d.setSt s x).fifo = d.fifo := rfl
@[simp] theorem Dev.modSt_fifo (d : Dev) (s : StallId) (f : Stall → Stall) : (d.modSt s f).fifo = d.fifo := rfl
@[simp] theorem Dev.setReg_fifo (d : Dev) (k v : Nat) : (d.setReg k v).fifo = d.fifo := rfl
@[simp] theorem Dev.accept_fifo (d : Dev) : d.accept.fifo = d.fifo := by unfold Dev.accept; split <;> rfl
@[simp] theorem Dev.setCh_dict (d : Dev) (n : ChanId) (c : Channel) : (d.setCh n c).dict = d.dict := rfl
@[simp] theorem Dev.modCh_dict (d : Dev) (n : ChanId) (f : Channel → Channel) : (d.modCh n f).dict = d.dict := rfl
@[simp] theorem Dev.setSt_dict (d : Dev) (s : StallId) (x : Stall) : (d.setSt s x).dict = d.dict := rfl
@[simp] theorem Dev.modSt_dict (d : Dev) (s : StallId) (f : Stall → Stall) : (d.modSt s f).dict = d.dict := rfl
@[simp] theorem Dev.setReg_dict (d : Dev) (k v : Nat) : (d.setReg k v).dict = d.dict := rfl
@[simp] theorem Dev.setCh_ec (d : Dev) (n : ChanId) (c : Channel) : (d.setCh n c).ec = d.ec := rfl
@[simp] theorem Dev.modCh_ec (d : Dev) (n : ChanId) (f : Channel → Channel) : (d.modCh n f).ec = d.ec := rfl
@[simp] theorem Dev.setSt_ec (d : Dev) (s : StallId) (x : Stall) : (d.setSt s x).ec = d.ec := rfl
@[simp] theorem Dev.modSt_ec (d : Dev) (s : StallId) (f : Stall → Stall) : (d.modSt s f).ec = d.ec := rfl
@[simp] theorem Dev.setReg_ec (d : Dev) (k v : Nat) : (d.setReg k v).ec = d.ec := rfl
@[simp] theorem Dev.accept_ec (d : Dev) : d.accept.ec = d.ec := by unfold Dev.accept; split <;> rfl
@[simp] theorem Dev.setCh_load (d : Dev) (n : ChanId) (c : Channel) : (d.setCh n c).load = d.load := rfl
@[simp] theorem Dev.modCh_load (d : Dev) (n : ChanId) (f : Channel → Channel) : (d.modCh n f).load = d.load := rfl
@[simp] theorem Dev.setSt_load (d : Dev) (s : StallId) (x : Stall) : (d.setSt s x).load = d.load := rfl
@[simp] theorem Dev.modSt_load (d : Dev) (s : StallId) (f : Stall → Stall) : (d.modSt s f).load = d.load := rfl
@[simp] theorem Dev.setReg_load (d : Dev) (k v : Nat) : (d.setReg k v).load = d.load := rfl
@[simp] theorem Dev.accept_load (d : Dev) : d.accept.load = d.load := by unfold Dev.accept; split <;> rfl
@[simp] theorem Dev.setCh_pcie (d : Dev) (n : ChanId) (c : Channel) : (d.setCh n c).pcie = d.pcie := rfl
@[simp] theorem Dev.modCh_pcie (d : Dev) (n : ChanId) (f : Channel → Channel) : (d.modCh n f).pcie = d.pcie := rfl
@[simp] theorem Dev.setSt_pcie (d : Dev) (s : StallId) (x : Stall) : (d.setSt s x).pcie = d.pcie := rfl
@[simp] theorem Dev.modSt_pcie (d : Dev) (s : StallId) (f : Stall → Stall) : (d.modSt s f).pcie = d.pcie := rfl
@[simp] theorem Dev.setReg_pcie (d : Dev) (k v : Nat) : (d.setReg k v).pcie = d.pcie := rfl
@[simp] theorem Dev.accept_pcie (d : Dev) : d.accept.pcie = d.pcie := by unfold Dev.accept; split <;> rfl
@[simp] theorem Dev.setCh_sec (d : Dev) (n : ChanId) (c : Channel) : (d.setCh n c).sec = d.sec := rfl
@[simp] theorem Dev.modCh_sec (d : Dev) (n : ChanId) (f : Channel → Channel) : (d.modCh n f).sec = d.sec := rfl
@[simp] theorem Dev.setSt_sec (d : Dev) (s : StallId) (x : Stall) : (d.setSt s x).sec = d.sec := rfl
@[simp] theorem Dev.modSt_sec (d : Dev) (s : StallId) (f : Stall → Stall) : (d.modSt s f).sec = d.sec := rfl
@[simp] theorem Dev.setReg_sec (d : Dev) (k v : Nat) : (d.setReg k v).sec = d.sec := rfl
@[simp] theorem Dev.accept_sec (d : Dev) : d.accept.sec = d.sec := by unfold Dev.accept; split <;> rfl
@[simp] theorem Dev.setCh_mem (d : Dev) (n : ChanId) (c : Channel) : (d.setCh n c).mem = d.mem := rfl
@[simp] theorem Dev.modCh_mem (d : Dev) (n : ChanId) (f : Channel → Channel) : (d.modCh n f).mem = d.mem := rfl
@[simp] theorem Dev.setSt_mem (d : Dev) (s : StallId) (x : Stall) : (d.setSt s x).mem = d.mem := rfl
@[simp] theorem Dev.modSt_mem (d : Dev) (s : StallId) (f : Stall → Stall) : (d.modSt s f).mem = d.mem := rfl
@[simp] theorem Dev.setReg_mem (d : Dev) (k v : Nat) : (d.setReg k v).mem = d.mem := rfl
@[simp] theorem Dev.accept_mem (d : Dev) : d.accept.mem = d.mem := by unfold Dev.accept; split <;> rfl
@[simp] theorem Dev.setCh_cal (d : Dev) (n : ChanId) (c : Channel) : (d.setCh n c).cal = d.cal := rfl
@[simp] theorem Dev.modCh_cal (d : Dev) (n : ChanId) (f : Channel → Channel) : (d.modCh n f).cal = d.cal := rfl
@[simp] theorem Dev.setSt_cal (d : Dev) (s : StallId) (x : Stall) : (d.setSt s x).cal = d.cal := rfl
@[simp] theorem Dev.modSt_cal (d : Dev) (s : StallId) (f : Stall → Stall) : (d.modSt s f).cal = d.cal := rfl
@[simp] theorem Dev.setReg_cal (d : Dev) (k v : Nat) : (d.setReg k v).cal = d.cal := rfl
@[simp] theorem Dev.accept_cal (d : Dev) : d.accept.cal = d.cal := by unfold Dev.accept; split <;> rfl
@[simp] theorem Dev.setCh_stalls (d : Dev) (n : ChanId) (c : Channel) : (d.setCh n c).stalls = d.stalls := rfl
@[simp] theorem Dev.modCh_stalls (d : Dev) (n : ChanId) (f : Channel → Channel) : (d.modCh n f).stalls = d.stalls := rfl
@[simp] theorem Dev.setReg_stalls (d : Dev) (k v : Nat) : (d.setReg k v).stalls = d.stalls := rfl
@[simp] theorem Dev.accept_stalls (d : Dev) : d.accept.stalls = d.stalls := by unfold Dev.accept; split <;> rfl
@[simp] theorem Dev.setSt_chans (d : Dev) (s : StallId) (x : Stall) : (d.setSt s x).chans = d.chans := rfl
@[simp] theorem Dev.modSt_chans (d : Dev) (s : StallId) (f : Stall → Stall) : (d.modSt s f).chans = d.chans := rfl
@[simp] theorem Dev.setReg_chans (d : Dev) (k v : Nat) : (d.setReg k v).chans = d.chans := rfl
@[simp] theorem Dev.accept_chans (d : Dev) : d.accept.chans = d.chans := by unfold Dev.accept; split <;> rfl
@[simp] theorem Dev.setCh_parkNow (d : Dev) (n : ChanId) (c : Channel) : (d.setCh n c).parkNow = d.parkNow := rfl
@[simp] theorem Dev.modCh_parkNow (d : Dev) (n : ChanId) (f : Channel → Channel) : (d.modCh n f).parkNow = d.parkNow := rfl
@[simp] theorem Dev.setSt_parkNow (d : Dev) (s : StallId) (x : Stall) : (d.setSt s x).parkNow = d.parkNow := rfl
@[simp] theorem Dev.modSt_parkNow (d : Dev) (s : StallId) (f : Stall → Stall) : (d.modSt s f).parkNow = d.parkNow := rfl
@[simp] theorem Dev.setReg_parkNow (d : Dev) (k v : Nat) : (d.setReg k v).parkNow = d.parkNow := rfl
@[simp] theorem Dev.accept_parkNow (d : Dev) : d.accept.parkNow = d.parkNow := by unfold Dev.accept; split <;> rfl
@[simp] theorem Dev.setCh_armBack (d : Dev) (n : ChanId) (c : Channel) : (d.setCh n c).armBack = d.armBack := rfl
@[simp] theorem Dev.modCh_armBack (d : Dev) (n : ChanId) (f : Channel → Channel) : (d.modCh n f).armBack = d.armBack := rfl
@[simp] theorem Dev.setSt_armBack (d : Dev) (s : StallId) (x : Stall) : (d.setSt s x).armBack = d.armBack := rfl
@[simp] theorem Dev.modSt_armBack (d : Dev) (s : StallId) (f : Stall → Stall) : (d.modSt s f).armBack = d.armBack := rfl
@[simp] theorem Dev.setReg_armBack (d : Dev) (k v : Nat) : (d.setReg k v).armBack = d.armBack := rfl
@[simp] theorem Dev.accept_armBack (d : Dev) : d.accept.armBack = d.armBack := by unfold Dev.accept; split <;> rfl
@[simp] theorem Dev.setCh_wrote (d : Dev) (n : ChanId) (c : Channel) : (d.setCh n c).wrote = d.wrote := rfl
@[simp] theorem Dev.modCh_wrote (d : Dev) (n : ChanId) (f : Channel → Channel) : (d.modCh n f).wrote = d.wrote := rfl
@[simp] theorem Dev.setSt_wrote (d : Dev) (s : StallId) (x : Stall) : (d.setSt s x).wrote = d.wrote := rfl
@[simp] theorem Dev.modSt_wrote (d : Dev) (s : StallId) (f : Stall → Stall) : (d.modSt s f).wrote = d.wrote := rfl
@[simp] theorem Dev.setReg_wrote (d : Dev) (k v : Nat) : (d.setReg k v).wrote = d.wrote := rfl
@[simp] theorem Dev.accept_wrote (d : Dev) : d.accept.wrote = d.wrote := by unfold Dev.accept; split <;> rfl
@[simp] theorem Dev.setCh_freeCtr (d : Dev) (n : ChanId) (c : Channel) : (d.setCh n c).freeCtr = d.freeCtr := rfl
@[simp] theorem Dev.modCh_freeCtr (d : Dev) (n : ChanId) (f : Channel → Channel) : (d.modCh n f).freeCtr = d.freeCtr := rfl
@[simp] theorem Dev.setSt_freeCtr (d : Dev) (s : StallId) (x : Stall) : (d.setSt s x).freeCtr = d.freeCtr := rfl
@[simp] theorem Dev.modSt_freeCtr (d : Dev) (s : StallId) (f : Stall → Stall) : (d.modSt s f).freeCtr = d.freeCtr := rfl
@[simp] theorem Dev.setReg_freeCtr (d : Dev) (k v : Nat) : (d.setReg k v).freeCtr = d.freeCtr := rfl
@[simp] theorem Dev.accept_freeCtr (d : Dev) : d.accept.freeCtr = d.freeCtr := by unfold Dev.accept; split <;> rfl
@[simp] theorem Dev.modPower_tick (d : Dev) (f : Power → Power) : (d.modPower f).tick = d.tick := rfl
@[simp] theorem Dev.modPower_regs (d : Dev) (f : Power → Power) : (d.modPower f).regs = d.regs := rfl
@[simp] theorem Dev.modPower_self (d : Dev) (f : Power → Power) : (d.modPower f).power = f d.power := rfl
@[simp] theorem Dev.modPower_sync (d : Dev) (f : Power → Power) : (d.modPower f).sync = d.sync := rfl
@[simp] theorem Dev.modPower_flt (d : Dev) (f : Power → Power) : (d.modPower f).flt = d.flt := rfl
@[simp] theorem Dev.modPower_fab (d : Dev) (f : Power → Power) : (d.modPower f).fab = d.fab := rfl
@[simp] theorem Dev.modPower_fifo (d : Dev) (f : Power → Power) : (d.modPower f).fifo = d.fifo := rfl
@[simp] theorem Dev.modPower_dict (d : Dev) (f : Power → Power) : (d.modPower f).dict = d.dict := rfl
@[simp] theorem Dev.modPower_ec (d : Dev) (f : Power → Power) : (d.modPower f).ec = d.ec := rfl
@[simp] theorem Dev.modPower_load (d : Dev) (f : Power → Power) : (d.modPower f).load = d.load := rfl
@[simp] theorem Dev.modPower_pcie (d : Dev) (f : Power → Power) : (d.modPower f).pcie = d.pcie := rfl
@[simp] theorem Dev.modPower_sec (d : Dev) (f : Power → Power) : (d.modPower f).sec = d.sec := rfl
@[simp] theorem Dev.modPower_mem (d : Dev) (f : Power → Power) : (d.modPower f).mem = d.mem := rfl
@[simp] theorem Dev.modPower_cal (d : Dev) (f : Power → Power) : (d.modPower f).cal = d.cal := rfl
@[simp] theorem Dev.modPower_stalls (d : Dev) (f : Power → Power) : (d.modPower f).stalls = d.stalls := rfl
@[simp] theorem Dev.modPower_chans (d : Dev) (f : Power → Power) : (d.modPower f).chans = d.chans := rfl
@[simp] theorem Dev.modPower_parkNow (d : Dev) (f : Power → Power) : (d.modPower f).parkNow = d.parkNow := rfl
@[simp] theorem Dev.modPower_armBack (d : Dev) (f : Power → Power) : (d.modPower f).armBack = d.armBack := rfl
@[simp] theorem Dev.modPower_wrote (d : Dev) (f : Power → Power) : (d.modPower f).wrote = d.wrote := rfl
@[simp] theorem Dev.modPower_freeCtr (d : Dev) (f : Power → Power) : (d.modPower f).freeCtr = d.freeCtr := rfl
@[simp] theorem Dev.modFifo_tick (d : Dev) (f : Fifo → Fifo) : (d.modFifo f).tick = d.tick := rfl
@[simp] theorem Dev.modFifo_regs (d : Dev) (f : Fifo → Fifo) : (d.modFifo f).regs = d.regs := rfl
@[simp] theorem Dev.modFifo_power (d : Dev) (f : Fifo → Fifo) : (d.modFifo f).power = d.power := rfl
@[simp] theorem Dev.modFifo_sync (d : Dev) (f : Fifo → Fifo) : (d.modFifo f).sync = d.sync := rfl
@[simp] theorem Dev.modFifo_flt (d : Dev) (f : Fifo → Fifo) : (d.modFifo f).flt = d.flt := rfl
@[simp] theorem Dev.modFifo_fab (d : Dev) (f : Fifo → Fifo) : (d.modFifo f).fab = d.fab := rfl
@[simp] theorem Dev.modFifo_self (d : Dev) (f : Fifo → Fifo) : (d.modFifo f).fifo = f d.fifo := rfl
@[simp] theorem Dev.modFifo_dict (d : Dev) (f : Fifo → Fifo) : (d.modFifo f).dict = d.dict := rfl
@[simp] theorem Dev.modFifo_ec (d : Dev) (f : Fifo → Fifo) : (d.modFifo f).ec = d.ec := rfl
@[simp] theorem Dev.modFifo_load (d : Dev) (f : Fifo → Fifo) : (d.modFifo f).load = d.load := rfl
@[simp] theorem Dev.modFifo_pcie (d : Dev) (f : Fifo → Fifo) : (d.modFifo f).pcie = d.pcie := rfl
@[simp] theorem Dev.modFifo_sec (d : Dev) (f : Fifo → Fifo) : (d.modFifo f).sec = d.sec := rfl
@[simp] theorem Dev.modFifo_mem (d : Dev) (f : Fifo → Fifo) : (d.modFifo f).mem = d.mem := rfl
@[simp] theorem Dev.modFifo_cal (d : Dev) (f : Fifo → Fifo) : (d.modFifo f).cal = d.cal := rfl
@[simp] theorem Dev.modFifo_stalls (d : Dev) (f : Fifo → Fifo) : (d.modFifo f).stalls = d.stalls := rfl
@[simp] theorem Dev.modFifo_chans (d : Dev) (f : Fifo → Fifo) : (d.modFifo f).chans = d.chans := rfl
@[simp] theorem Dev.modFifo_parkNow (d : Dev) (f : Fifo → Fifo) : (d.modFifo f).parkNow = d.parkNow := rfl
@[simp] theorem Dev.modFifo_armBack (d : Dev) (f : Fifo → Fifo) : (d.modFifo f).armBack = d.armBack := rfl
@[simp] theorem Dev.modFifo_wrote (d : Dev) (f : Fifo → Fifo) : (d.modFifo f).wrote = d.wrote := rfl
@[simp] theorem Dev.modFifo_freeCtr (d : Dev) (f : Fifo → Fifo) : (d.modFifo f).freeCtr = d.freeCtr := rfl
@[simp] theorem Dev.modDict_tick (d : Dev) (f : Dict → Dict) : (d.modDict f).tick = d.tick := rfl
@[simp] theorem Dev.modDict_regs (d : Dev) (f : Dict → Dict) : (d.modDict f).regs = d.regs := rfl
@[simp] theorem Dev.modDict_power (d : Dev) (f : Dict → Dict) : (d.modDict f).power = d.power := rfl
@[simp] theorem Dev.modDict_sync (d : Dev) (f : Dict → Dict) : (d.modDict f).sync = d.sync := rfl
@[simp] theorem Dev.modDict_flt (d : Dev) (f : Dict → Dict) : (d.modDict f).flt = d.flt := rfl
@[simp] theorem Dev.modDict_fab (d : Dev) (f : Dict → Dict) : (d.modDict f).fab = d.fab := rfl
@[simp] theorem Dev.modDict_fifo (d : Dev) (f : Dict → Dict) : (d.modDict f).fifo = d.fifo := rfl
@[simp] theorem Dev.modDict_self (d : Dev) (f : Dict → Dict) : (d.modDict f).dict = f d.dict := rfl
@[simp] theorem Dev.modDict_ec (d : Dev) (f : Dict → Dict) : (d.modDict f).ec = d.ec := rfl
@[simp] theorem Dev.modDict_load (d : Dev) (f : Dict → Dict) : (d.modDict f).load = d.load := rfl
@[simp] theorem Dev.modDict_pcie (d : Dev) (f : Dict → Dict) : (d.modDict f).pcie = d.pcie := rfl
@[simp] theorem Dev.modDict_sec (d : Dev) (f : Dict → Dict) : (d.modDict f).sec = d.sec := rfl
@[simp] theorem Dev.modDict_mem (d : Dev) (f : Dict → Dict) : (d.modDict f).mem = d.mem := rfl
@[simp] theorem Dev.modDict_cal (d : Dev) (f : Dict → Dict) : (d.modDict f).cal = d.cal := rfl
@[simp] theorem Dev.modDict_stalls (d : Dev) (f : Dict → Dict) : (d.modDict f).stalls = d.stalls := rfl
@[simp] theorem Dev.modDict_chans (d : Dev) (f : Dict → Dict) : (d.modDict f).chans = d.chans := rfl
@[simp] theorem Dev.modDict_parkNow (d : Dev) (f : Dict → Dict) : (d.modDict f).parkNow = d.parkNow := rfl
@[simp] theorem Dev.modDict_armBack (d : Dev) (f : Dict → Dict) : (d.modDict f).armBack = d.armBack := rfl
@[simp] theorem Dev.modDict_wrote (d : Dev) (f : Dict → Dict) : (d.modDict f).wrote = d.wrote := rfl
@[simp] theorem Dev.modDict_freeCtr (d : Dev) (f : Dict → Dict) : (d.modDict f).freeCtr = d.freeCtr := rfl
@[simp] theorem Dev.modEc_tick (d : Dev) (f : EtherCat → EtherCat) : (d.modEc f).tick = d.tick := rfl
@[simp] theorem Dev.modEc_regs (d : Dev) (f : EtherCat → EtherCat) : (d.modEc f).regs = d.regs := rfl
@[simp] theorem Dev.modEc_power (d : Dev) (f : EtherCat → EtherCat) : (d.modEc f).power = d.power := rfl
@[simp] theorem Dev.modEc_sync (d : Dev) (f : EtherCat → EtherCat) : (d.modEc f).sync = d.sync := rfl
@[simp] theorem Dev.modEc_flt (d : Dev) (f : EtherCat → EtherCat) : (d.modEc f).flt = d.flt := rfl
@[simp] theorem Dev.modEc_fab (d : Dev) (f : EtherCat → EtherCat) : (d.modEc f).fab = d.fab := rfl
@[simp] theorem Dev.modEc_fifo (d : Dev) (f : EtherCat → EtherCat) : (d.modEc f).fifo = d.fifo := rfl
@[simp] theorem Dev.modEc_dict (d : Dev) (f : EtherCat → EtherCat) : (d.modEc f).dict = d.dict := rfl
@[simp] theorem Dev.modEc_self (d : Dev) (f : EtherCat → EtherCat) : (d.modEc f).ec = f d.ec := rfl
@[simp] theorem Dev.modEc_load (d : Dev) (f : EtherCat → EtherCat) : (d.modEc f).load = d.load := rfl
@[simp] theorem Dev.modEc_pcie (d : Dev) (f : EtherCat → EtherCat) : (d.modEc f).pcie = d.pcie := rfl
@[simp] theorem Dev.modEc_sec (d : Dev) (f : EtherCat → EtherCat) : (d.modEc f).sec = d.sec := rfl
@[simp] theorem Dev.modEc_mem (d : Dev) (f : EtherCat → EtherCat) : (d.modEc f).mem = d.mem := rfl
@[simp] theorem Dev.modEc_cal (d : Dev) (f : EtherCat → EtherCat) : (d.modEc f).cal = d.cal := rfl
@[simp] theorem Dev.modEc_stalls (d : Dev) (f : EtherCat → EtherCat) : (d.modEc f).stalls = d.stalls := rfl
@[simp] theorem Dev.modEc_chans (d : Dev) (f : EtherCat → EtherCat) : (d.modEc f).chans = d.chans := rfl
@[simp] theorem Dev.modEc_parkNow (d : Dev) (f : EtherCat → EtherCat) : (d.modEc f).parkNow = d.parkNow := rfl
@[simp] theorem Dev.modEc_armBack (d : Dev) (f : EtherCat → EtherCat) : (d.modEc f).armBack = d.armBack := rfl
@[simp] theorem Dev.modEc_wrote (d : Dev) (f : EtherCat → EtherCat) : (d.modEc f).wrote = d.wrote := rfl
@[simp] theorem Dev.modEc_freeCtr (d : Dev) (f : EtherCat → EtherCat) : (d.modEc f).freeCtr = d.freeCtr := rfl
@[simp] theorem Dev.modPcie_tick (d : Dev) (f : Pcie → Pcie) : (d.modPcie f).tick = d.tick := rfl
@[simp] theorem Dev.modPcie_regs (d : Dev) (f : Pcie → Pcie) : (d.modPcie f).regs = d.regs := rfl
@[simp] theorem Dev.modPcie_power (d : Dev) (f : Pcie → Pcie) : (d.modPcie f).power = d.power := rfl
@[simp] theorem Dev.modPcie_sync (d : Dev) (f : Pcie → Pcie) : (d.modPcie f).sync = d.sync := rfl
@[simp] theorem Dev.modPcie_flt (d : Dev) (f : Pcie → Pcie) : (d.modPcie f).flt = d.flt := rfl
@[simp] theorem Dev.modPcie_fab (d : Dev) (f : Pcie → Pcie) : (d.modPcie f).fab = d.fab := rfl
@[simp] theorem Dev.modPcie_fifo (d : Dev) (f : Pcie → Pcie) : (d.modPcie f).fifo = d.fifo := rfl
@[simp] theorem Dev.modPcie_dict (d : Dev) (f : Pcie → Pcie) : (d.modPcie f).dict = d.dict := rfl
@[simp] theorem Dev.modPcie_ec (d : Dev) (f : Pcie → Pcie) : (d.modPcie f).ec = d.ec := rfl
@[simp] theorem Dev.modPcie_load (d : Dev) (f : Pcie → Pcie) : (d.modPcie f).load = d.load := rfl
@[simp] theorem Dev.modPcie_self (d : Dev) (f : Pcie → Pcie) : (d.modPcie f).pcie = f d.pcie := rfl
@[simp] theorem Dev.modPcie_sec (d : Dev) (f : Pcie → Pcie) : (d.modPcie f).sec = d.sec := rfl
@[simp] theorem Dev.modPcie_mem (d : Dev) (f : Pcie → Pcie) : (d.modPcie f).mem = d.mem := rfl
@[simp] theorem Dev.modPcie_cal (d : Dev) (f : Pcie → Pcie) : (d.modPcie f).cal = d.cal := rfl
@[simp] theorem Dev.modPcie_stalls (d : Dev) (f : Pcie → Pcie) : (d.modPcie f).stalls = d.stalls := rfl
@[simp] theorem Dev.modPcie_chans (d : Dev) (f : Pcie → Pcie) : (d.modPcie f).chans = d.chans := rfl
@[simp] theorem Dev.modPcie_parkNow (d : Dev) (f : Pcie → Pcie) : (d.modPcie f).parkNow = d.parkNow := rfl
@[simp] theorem Dev.modPcie_armBack (d : Dev) (f : Pcie → Pcie) : (d.modPcie f).armBack = d.armBack := rfl
@[simp] theorem Dev.modPcie_wrote (d : Dev) (f : Pcie → Pcie) : (d.modPcie f).wrote = d.wrote := rfl
@[simp] theorem Dev.modPcie_freeCtr (d : Dev) (f : Pcie → Pcie) : (d.modPcie f).freeCtr = d.freeCtr := rfl
@[simp] theorem Dev.modSec_tick (d : Dev) (f : Sec → Sec) : (d.modSec f).tick = d.tick := rfl
@[simp] theorem Dev.modSec_regs (d : Dev) (f : Sec → Sec) : (d.modSec f).regs = d.regs := rfl
@[simp] theorem Dev.modSec_power (d : Dev) (f : Sec → Sec) : (d.modSec f).power = d.power := rfl
@[simp] theorem Dev.modSec_sync (d : Dev) (f : Sec → Sec) : (d.modSec f).sync = d.sync := rfl
@[simp] theorem Dev.modSec_flt (d : Dev) (f : Sec → Sec) : (d.modSec f).flt = d.flt := rfl
@[simp] theorem Dev.modSec_fab (d : Dev) (f : Sec → Sec) : (d.modSec f).fab = d.fab := rfl
@[simp] theorem Dev.modSec_fifo (d : Dev) (f : Sec → Sec) : (d.modSec f).fifo = d.fifo := rfl
@[simp] theorem Dev.modSec_dict (d : Dev) (f : Sec → Sec) : (d.modSec f).dict = d.dict := rfl
@[simp] theorem Dev.modSec_ec (d : Dev) (f : Sec → Sec) : (d.modSec f).ec = d.ec := rfl
@[simp] theorem Dev.modSec_load (d : Dev) (f : Sec → Sec) : (d.modSec f).load = d.load := rfl
@[simp] theorem Dev.modSec_pcie (d : Dev) (f : Sec → Sec) : (d.modSec f).pcie = d.pcie := rfl
@[simp] theorem Dev.modSec_self (d : Dev) (f : Sec → Sec) : (d.modSec f).sec = f d.sec := rfl
@[simp] theorem Dev.modSec_mem (d : Dev) (f : Sec → Sec) : (d.modSec f).mem = d.mem := rfl
@[simp] theorem Dev.modSec_cal (d : Dev) (f : Sec → Sec) : (d.modSec f).cal = d.cal := rfl
@[simp] theorem Dev.modSec_stalls (d : Dev) (f : Sec → Sec) : (d.modSec f).stalls = d.stalls := rfl
@[simp] theorem Dev.modSec_chans (d : Dev) (f : Sec → Sec) : (d.modSec f).chans = d.chans := rfl
@[simp] theorem Dev.modSec_parkNow (d : Dev) (f : Sec → Sec) : (d.modSec f).parkNow = d.parkNow := rfl
@[simp] theorem Dev.modSec_armBack (d : Dev) (f : Sec → Sec) : (d.modSec f).armBack = d.armBack := rfl
@[simp] theorem Dev.modSec_wrote (d : Dev) (f : Sec → Sec) : (d.modSec f).wrote = d.wrote := rfl
@[simp] theorem Dev.modSec_freeCtr (d : Dev) (f : Sec → Sec) : (d.modSec f).freeCtr = d.freeCtr := rfl
@[simp] theorem Channel.modForce_regs (c : Channel) (f : Force → Force) : (c.modForce f).regs = c.regs := rfl
@[simp] theorem Channel.modBk_regs (c : Channel) (f : Barker → Barker) : (c.modBk f).regs = c.regs := rfl
@[simp] theorem Channel.modSpool_regs (c : Channel) (f : Spool → Spool) : (c.modSpool f).regs = c.regs := rfl
@[simp] theorem Channel.modGust_regs (c : Channel) (f : Gust → Gust) : (c.modGust f).regs = c.regs := rfl
@[simp] theorem Channel.modEng_regs (c : Channel) (f : Engines → Engines) : (c.modEng f).regs = c.regs := rfl
@[simp] theorem Channel.modWm_regs (c : Channel) (m : Idx4) (f : Monitor → Monitor) : (c.modWm m f).regs = c.regs := rfl
@[simp] theorem Channel.modTally_regs (c : Channel) (u : Idx16) (f : Tally → Tally) : (c.modTally u f).regs = c.regs := rfl
@[simp] theorem Channel.modConv_regs (c : Channel) (mi : Bool) (f : Conv → Conv) : (c.modConv mi f).regs = c.regs := by cases mi <;> rfl
@[simp] theorem Channel.modForce_force_self (c : Channel) (f : Force → Force) : (c.modForce f).force = f c.force := rfl
@[simp] theorem Channel.modForce_bk (c : Channel) (f : Force → Force) : (c.modForce f).bk = c.bk := rfl
@[simp] theorem Channel.modBk_bk_self (c : Channel) (f : Barker → Barker) : (c.modBk f).bk = f c.bk := rfl
@[simp] theorem Channel.modSpool_bk (c : Channel) (f : Spool → Spool) : (c.modSpool f).bk = c.bk := rfl
@[simp] theorem Channel.modGust_bk (c : Channel) (f : Gust → Gust) : (c.modGust f).bk = c.bk := rfl
@[simp] theorem Channel.modEng_bk (c : Channel) (f : Engines → Engines) : (c.modEng f).bk = c.bk := rfl
@[simp] theorem Channel.setReg_bk (c : Channel) (k v : Nat) : (c.setReg k v).bk = c.bk := rfl
@[simp] theorem Channel.modWm_bk (c : Channel) (m : Idx4) (f : Monitor → Monitor) : (c.modWm m f).bk = c.bk := rfl
@[simp] theorem Channel.modTally_bk (c : Channel) (u : Idx16) (f : Tally → Tally) : (c.modTally u f).bk = c.bk := rfl
@[simp] theorem Channel.modConv_bk (c : Channel) (mi : Bool) (f : Conv → Conv) : (c.modConv mi f).bk = c.bk := by cases mi <;> rfl
@[simp] theorem Channel.modForce_spool (c : Channel) (f : Force → Force) : (c.modForce f).spool = c.spool := rfl
@[simp] theorem Channel.modBk_spool (c : Channel) (f : Barker → Barker) : (c.modBk f).spool = c.spool := rfl
@[simp] theorem Channel.modSpool_spool_self (c : Channel) (f : Spool → Spool) : (c.modSpool f).spool = f c.spool := rfl
@[simp] theorem Channel.modGust_spool (c : Channel) (f : Gust → Gust) : (c.modGust f).spool = c.spool := rfl
@[simp] theorem Channel.modEng_spool (c : Channel) (f : Engines → Engines) : (c.modEng f).spool = c.spool := rfl
@[simp] theorem Channel.setReg_spool (c : Channel) (k v : Nat) : (c.setReg k v).spool = c.spool := rfl
@[simp] theorem Channel.modWm_spool (c : Channel) (m : Idx4) (f : Monitor → Monitor) : (c.modWm m f).spool = c.spool := rfl
@[simp] theorem Channel.modTally_spool (c : Channel) (u : Idx16) (f : Tally → Tally) : (c.modTally u f).spool = c.spool := rfl
@[simp] theorem Channel.modConv_spool (c : Channel) (mi : Bool) (f : Conv → Conv) : (c.modConv mi f).spool = c.spool := by cases mi <;> rfl
@[simp] theorem Channel.modForce_undo (c : Channel) (f : Force → Force) : (c.modForce f).undo = c.undo := rfl
@[simp] theorem Channel.modBk_undo (c : Channel) (f : Barker → Barker) : (c.modBk f).undo = c.undo := rfl
@[simp] theorem Channel.modSpool_undo (c : Channel) (f : Spool → Spool) : (c.modSpool f).undo = c.undo := rfl
@[simp] theorem Channel.modGust_undo (c : Channel) (f : Gust → Gust) : (c.modGust f).undo = c.undo := rfl
@[simp] theorem Channel.modEng_undo (c : Channel) (f : Engines → Engines) : (c.modEng f).undo = c.undo := rfl
@[simp] theorem Channel.setReg_undo (c : Channel) (k v : Nat) : (c.setReg k v).undo = c.undo := rfl
@[simp] theorem Channel.modWm_undo (c : Channel) (m : Idx4) (f : Monitor → Monitor) : (c.modWm m f).undo = c.undo := rfl
@[simp] theorem Channel.modTally_undo (c : Channel) (u : Idx16) (f : Tally → Tally) : (c.modTally u f).undo = c.undo := rfl
@[simp] theorem Channel.modConv_undo (c : Channel) (mi : Bool) (f : Conv → Conv) : (c.modConv mi f).undo = c.undo := by cases mi <;> rfl
@[simp] theorem Channel.modForce_redo (c : Channel) (f : Force → Force) : (c.modForce f).redo = c.redo := rfl
@[simp] theorem Channel.modBk_redo (c : Channel) (f : Barker → Barker) : (c.modBk f).redo = c.redo := rfl
@[simp] theorem Channel.modSpool_redo (c : Channel) (f : Spool → Spool) : (c.modSpool f).redo = c.redo := rfl
@[simp] theorem Channel.modGust_redo (c : Channel) (f : Gust → Gust) : (c.modGust f).redo = c.redo := rfl
@[simp] theorem Channel.modEng_redo (c : Channel) (f : Engines → Engines) : (c.modEng f).redo = c.redo := rfl
@[simp] theorem Channel.setReg_redo (c : Channel) (k v : Nat) : (c.setReg k v).redo = c.redo := rfl
@[simp] theorem Channel.modWm_redo (c : Channel) (m : Idx4) (f : Monitor → Monitor) : (c.modWm m f).redo = c.redo := rfl
@[simp] theorem Channel.modTally_redo (c : Channel) (u : Idx16) (f : Tally → Tally) : (c.modTally u f).redo = c.redo := rfl
@[simp] theorem Channel.modConv_redo (c : Channel) (mi : Bool) (f : Conv → Conv) : (c.modConv mi f).redo = c.redo := by cases mi <;> rfl
@[simp] theorem Channel.modForce_sine (c : Channel) (f : Force → Force) : (c.modForce f).sine = c.sine := rfl
@[simp] theorem Channel.modBk_sine (c : Channel) (f : Barker → Barker) : (c.modBk f).sine = c.sine := rfl
@[simp] theorem Channel.modSpool_sine (c : Channel) (f : Spool → Spool) : (c.modSpool f).sine = c.sine := rfl
@[simp] theorem Channel.modGust_sine (c : Channel) (f : Gust → Gust) : (c.modGust f).sine = c.sine := rfl
@[simp] theorem Channel.modEng_sine (c : Channel) (f : Engines → Engines) : (c.modEng f).sine = c.sine := rfl
@[simp] theorem Channel.setReg_sine (c : Channel) (k v : Nat) : (c.setReg k v).sine = c.sine := rfl
@[simp] theorem Channel.modWm_sine (c : Channel) (m : Idx4) (f : Monitor → Monitor) : (c.modWm m f).sine = c.sine := rfl
@[simp] theorem Channel.modTally_sine (c : Channel) (u : Idx16) (f : Tally → Tally) : (c.modTally u f).sine = c.sine := rfl
@[simp] theorem Channel.modConv_sine (c : Channel) (mi : Bool) (f : Conv → Conv) : (c.modConv mi f).sine = c.sine := by cases mi <;> rfl
@[simp] theorem Channel.modForce_ol (c : Channel) (f : Force → Force) : (c.modForce f).ol = c.ol := rfl
@[simp] theorem Channel.modBk_ol (c : Channel) (f : Barker → Barker) : (c.modBk f).ol = c.ol := rfl
@[simp] theorem Channel.modSpool_ol (c : Channel) (f : Spool → Spool) : (c.modSpool f).ol = c.ol := rfl
@[simp] theorem Channel.modGust_ol (c : Channel) (f : Gust → Gust) : (c.modGust f).ol = c.ol := rfl
@[simp] theorem Channel.modEng_ol (c : Channel) (f : Engines → Engines) : (c.modEng f).ol = c.ol := rfl
@[simp] theorem Channel.setReg_ol (c : Channel) (k v : Nat) : (c.setReg k v).ol = c.ol := rfl
@[simp] theorem Channel.modWm_ol (c : Channel) (m : Idx4) (f : Monitor → Monitor) : (c.modWm m f).ol = c.ol := rfl
@[simp] theorem Channel.modTally_ol (c : Channel) (u : Idx16) (f : Tally → Tally) : (c.modTally u f).ol = c.ol := rfl
@[simp] theorem Channel.modConv_ol (c : Channel) (mi : Bool) (f : Conv → Conv) : (c.modConv mi f).ol = c.ol := by cases mi <;> rfl
@[simp] theorem Channel.modForce_comp (c : Channel) (f : Force → Force) : (c.modForce f).comp = c.comp := rfl
@[simp] theorem Channel.modBk_comp (c : Channel) (f : Barker → Barker) : (c.modBk f).comp = c.comp := rfl
@[simp] theorem Channel.modSpool_comp (c : Channel) (f : Spool → Spool) : (c.modSpool f).comp = c.comp := rfl
@[simp] theorem Channel.modGust_comp (c : Channel) (f : Gust → Gust) : (c.modGust f).comp = c.comp := rfl
@[simp] theorem Channel.modEng_comp (c : Channel) (f : Engines → Engines) : (c.modEng f).comp = c.comp := rfl
@[simp] theorem Channel.setReg_comp (c : Channel) (k v : Nat) : (c.setReg k v).comp = c.comp := rfl
@[simp] theorem Channel.modWm_comp (c : Channel) (m : Idx4) (f : Monitor → Monitor) : (c.modWm m f).comp = c.comp := rfl
@[simp] theorem Channel.modTally_comp (c : Channel) (u : Idx16) (f : Tally → Tally) : (c.modTally u f).comp = c.comp := rfl
@[simp] theorem Channel.modConv_comp (c : Channel) (mi : Bool) (f : Conv → Conv) : (c.modConv mi f).comp = c.comp := by cases mi <;> rfl
@[simp] theorem Channel.modForce_lw (c : Channel) (f : Force → Force) : (c.modForce f).lw = c.lw := rfl
@[simp] theorem Channel.modBk_lw (c : Channel) (f : Barker → Barker) : (c.modBk f).lw = c.lw := rfl
@[simp] theorem Channel.modSpool_lw (c : Channel) (f : Spool → Spool) : (c.modSpool f).lw = c.lw := rfl
@[simp] theorem Channel.modGust_lw (c : Channel) (f : Gust → Gust) : (c.modGust f).lw = c.lw := rfl
@[simp] theorem Channel.modEng_lw (c : Channel) (f : Engines → Engines) : (c.modEng f).lw = c.lw := rfl
@[simp] theorem Channel.setReg_lw (c : Channel) (k v : Nat) : (c.setReg k v).lw = c.lw := rfl
@[simp] theorem Channel.modWm_lw (c : Channel) (m : Idx4) (f : Monitor → Monitor) : (c.modWm m f).lw = c.lw := rfl
@[simp] theorem Channel.modTally_lw (c : Channel) (u : Idx16) (f : Tally → Tally) : (c.modTally u f).lw = c.lw := rfl
@[simp] theorem Channel.modConv_lw (c : Channel) (mi : Bool) (f : Conv → Conv) : (c.modConv mi f).lw = c.lw := by cases mi <;> rfl
@[simp] theorem Channel.modForce_rc (c : Channel) (f : Force → Force) : (c.modForce f).rc = c.rc := rfl
@[simp] theorem Channel.modBk_rc (c : Channel) (f : Barker → Barker) : (c.modBk f).rc = c.rc := rfl
@[simp] theorem Channel.modSpool_rc (c : Channel) (f : Spool → Spool) : (c.modSpool f).rc = c.rc := rfl
@[simp] theorem Channel.modGust_rc (c : Channel) (f : Gust → Gust) : (c.modGust f).rc = c.rc := rfl
@[simp] theorem Channel.modEng_rc (c : Channel) (f : Engines → Engines) : (c.modEng f).rc = c.rc := rfl
@[simp] theorem Channel.setReg_rc (c : Channel) (k v : Nat) : (c.setReg k v).rc = c.rc := rfl
@[simp] theorem Channel.modWm_rc (c : Channel) (m : Idx4) (f : Monitor → Monitor) : (c.modWm m f).rc = c.rc := rfl
@[simp] theorem Channel.modTally_rc (c : Channel) (u : Idx16) (f : Tally → Tally) : (c.modTally u f).rc = c.rc := rfl
@[simp] theorem Channel.modConv_rc (c : Channel) (mi : Bool) (f : Conv → Conv) : (c.modConv mi f).rc = c.rc := by cases mi <;> rfl
@[simp] theorem Channel.modForce_gust (c : Channel) (f : Force → Force) : (c.modForce f).gust = c.gust := rfl
@[simp] theorem Channel.modBk_gust (c : Channel) (f : Barker → Barker) : (c.modBk f).gust = c.gust := rfl
@[simp] theorem Channel.modSpool_gust (c : Channel) (f : Spool → Spool) : (c.modSpool f).gust = c.gust := rfl
@[simp] theorem Channel.modGust_gust_self (c : Channel) (f : Gust → Gust) : (c.modGust f).gust = f c.gust := rfl
@[simp] theorem Channel.modEng_gust (c : Channel) (f : Engines → Engines) : (c.modEng f).gust = c.gust := rfl
@[simp] theorem Channel.setReg_gust (c : Channel) (k v : Nat) : (c.setReg k v).gust = c.gust := rfl
@[simp] theorem Channel.modWm_gust (c : Channel) (m : Idx4) (f : Monitor → Monitor) : (c.modWm m f).gust = c.gust := rfl
@[simp] theorem Channel.modTally_gust (c : Channel) (u : Idx16) (f : Tally → Tally) : (c.modTally u f).gust = c.gust := rfl
@[simp] theorem Channel.modConv_gust (c : Channel) (mi : Bool) (f : Conv → Conv) : (c.modConv mi f).gust = c.gust := by cases mi <;> rfl
@[simp] theorem Channel.modForce_mv (c : Channel) (f : Force → Force) : (c.modForce f).mv = c.mv := rfl
@[simp] theorem Channel.modBk_mv (c : Channel) (f : Barker → Barker) : (c.modBk f).mv = c.mv := rfl
@[simp] theorem Channel.modSpool_mv (c : Channel) (f : Spool → Spool) : (c.modSpool f).mv = c.mv := rfl
@[simp] theorem Channel.modGust_mv (c : Channel) (f : Gust → Gust) : (c.modGust f).mv = c.mv := rfl
@[simp] theorem Channel.modEng_mv (c : Channel) (f : Engines → Engines) : (c.modEng f).mv = c.mv := rfl
@[simp] theorem Channel.setReg_mv (c : Channel) (k v : Nat) : (c.setReg k v).mv = c.mv := rfl
@[simp] theorem Channel.modWm_mv (c : Channel) (m : Idx4) (f : Monitor → Monitor) : (c.modWm m f).mv = c.mv := rfl
@[simp] theorem Channel.modTally_mv (c : Channel) (u : Idx16) (f : Tally → Tally) : (c.modTally u f).mv = c.mv := rfl
@[simp] theorem Channel.modForce_mi (c : Channel) (f : Force → Force) : (c.modForce f).mi = c.mi := rfl
@[simp] theorem Channel.modBk_mi (c : Channel) (f : Barker → Barker) : (c.modBk f).mi = c.mi := rfl
@[simp] theorem Channel.modSpool_mi (c : Channel) (f : Spool → Spool) : (c.modSpool f).mi = c.mi := rfl
@[simp] theorem Channel.modGust_mi (c : Channel) (f : Gust → Gust) : (c.modGust f).mi = c.mi := rfl
@[simp] theorem Channel.modEng_mi (c : Channel) (f : Engines → Engines) : (c.modEng f).mi = c.mi := rfl
@[simp] theorem Channel.setReg_mi (c : Channel) (k v : Nat) : (c.setReg k v).mi = c.mi := rfl
@[simp] theorem Channel.modWm_mi (c : Channel) (m : Idx4) (f : Monitor → Monitor) : (c.modWm m f).mi = c.mi := rfl
@[simp] theorem Channel.modTally_mi (c : Channel) (u : Idx16) (f : Tally → Tally) : (c.modTally u f).mi = c.mi := rfl
@[simp] theorem Channel.modForce_was (c : Channel) (f : Force → Force) : (c.modForce f).was = c.was := rfl
@[simp] theorem Channel.modBk_was (c : Channel) (f : Barker → Barker) : (c.modBk f).was = c.was := rfl
@[simp] theorem Channel.modSpool_was (c : Channel) (f : Spool → Spool) : (c.modSpool f).was = c.was := rfl
@[simp] theorem Channel.modGust_was (c : Channel) (f : Gust → Gust) : (c.modGust f).was = c.was := rfl
@[simp] theorem Channel.modEng_was (c : Channel) (f : Engines → Engines) : (c.modEng f).was = c.was := rfl
@[simp] theorem Channel.setReg_was (c : Channel) (k v : Nat) : (c.setReg k v).was = c.was := rfl
@[simp] theorem Channel.modWm_was (c : Channel) (m : Idx4) (f : Monitor → Monitor) : (c.modWm m f).was = c.was := rfl
@[simp] theorem Channel.modTally_was (c : Channel) (u : Idx16) (f : Tally → Tally) : (c.modTally u f).was = c.was := rfl
@[simp] theorem Channel.modConv_was (c : Channel) (mi : Bool) (f : Conv → Conv) : (c.modConv mi f).was = c.was := by cases mi <;> rfl
@[simp] theorem Channel.modForce_ow (c : Channel) (f : Force → Force) : (c.modForce f).ow = c.ow := rfl
@[simp] theorem Channel.modBk_ow (c : Channel) (f : Barker → Barker) : (c.modBk f).ow = c.ow := rfl
@[simp] theorem Channel.modSpool_ow (c : Channel) (f : Spool → Spool) : (c.modSpool f).ow = c.ow := rfl
@[simp] theorem Channel.modGust_ow (c : Channel) (f : Gust → Gust) : (c.modGust f).ow = c.ow := rfl
@[simp] theorem Channel.modEng_ow (c : Channel) (f : Engines → Engines) : (c.modEng f).ow = c.ow := rfl
@[simp] theorem Channel.setReg_ow (c : Channel) (k v : Nat) : (c.setReg k v).ow = c.ow := rfl
@[simp] theorem Channel.modWm_ow (c : Channel) (m : Idx4) (f : Monitor → Monitor) : (c.modWm m f).ow = c.ow := rfl
@[simp] theorem Channel.modTally_ow (c : Channel) (u : Idx16) (f : Tally → Tally) : (c.modTally u f).ow = c.ow := rfl
@[simp] theorem Channel.modConv_ow (c : Channel) (mi : Bool) (f : Conv → Conv) : (c.modConv mi f).ow = c.ow := by cases mi <;> rfl
@[simp] theorem Channel.modForce_tally (c : Channel) (f : Force → Force) : (c.modForce f).tally = c.tally := rfl
@[simp] theorem Channel.modBk_tally (c : Channel) (f : Barker → Barker) : (c.modBk f).tally = c.tally := rfl
@[simp] theorem Channel.modSpool_tally (c : Channel) (f : Spool → Spool) : (c.modSpool f).tally = c.tally := rfl
@[simp] theorem Channel.modGust_tally (c : Channel) (f : Gust → Gust) : (c.modGust f).tally = c.tally := rfl
@[simp] theorem Channel.modEng_tally (c : Channel) (f : Engines → Engines) : (c.modEng f).tally = c.tally := rfl
@[simp] theorem Channel.setReg_tally (c : Channel) (k v : Nat) : (c.setReg k v).tally = c.tally := rfl
@[simp] theorem Channel.modWm_tally (c : Channel) (m : Idx4) (f : Monitor → Monitor) : (c.modWm m f).tally = c.tally := rfl
@[simp] theorem Channel.modConv_tally (c : Channel) (mi : Bool) (f : Conv → Conv) : (c.modConv mi f).tally = c.tally := by cases mi <;> rfl
@[simp] theorem Channel.modForce_recs (c : Channel) (f : Force → Force) : (c.modForce f).recs = c.recs := rfl
@[simp] theorem Channel.modBk_recs (c : Channel) (f : Barker → Barker) : (c.modBk f).recs = c.recs := rfl
@[simp] theorem Channel.modSpool_recs (c : Channel) (f : Spool → Spool) : (c.modSpool f).recs = c.recs := rfl
@[simp] theorem Channel.modGust_recs (c : Channel) (f : Gust → Gust) : (c.modGust f).recs = c.recs := rfl
@[simp] theorem Channel.modEng_recs (c : Channel) (f : Engines → Engines) : (c.modEng f).recs = c.recs := rfl
@[simp] theorem Channel.setReg_recs (c : Channel) (k v : Nat) : (c.setReg k v).recs = c.recs := rfl
@[simp] theorem Channel.modWm_recs (c : Channel) (m : Idx4) (f : Monitor → Monitor) : (c.modWm m f).recs = c.recs := rfl
@[simp] theorem Channel.modTally_recs (c : Channel) (u : Idx16) (f : Tally → Tally) : (c.modTally u f).recs = c.recs := rfl
@[simp] theorem Channel.modConv_recs (c : Channel) (mi : Bool) (f : Conv → Conv) : (c.modConv mi f).recs = c.recs := by cases mi <;> rfl
@[simp] theorem Channel.modForce_unitsIn (c : Channel) (f : Force → Force) : (c.modForce f).unitsIn = c.unitsIn := rfl
@[simp] theorem Channel.modBk_unitsIn (c : Channel) (f : Barker → Barker) : (c.modBk f).unitsIn = c.unitsIn := rfl
@[simp] theorem Channel.modSpool_unitsIn (c : Channel) (f : Spool → Spool) : (c.modSpool f).unitsIn = c.unitsIn := rfl
@[simp] theorem Channel.modGust_unitsIn (c : Channel) (f : Gust → Gust) : (c.modGust f).unitsIn = c.unitsIn := rfl
@[simp] theorem Channel.modEng_unitsIn (c : Channel) (f : Engines → Engines) : (c.modEng f).unitsIn = c.unitsIn := rfl
@[simp] theorem Channel.setReg_unitsIn (c : Channel) (k v : Nat) : (c.setReg k v).unitsIn = c.unitsIn := rfl
@[simp] theorem Channel.modWm_unitsIn (c : Channel) (m : Idx4) (f : Monitor → Monitor) : (c.modWm m f).unitsIn = c.unitsIn := rfl
@[simp] theorem Channel.modTally_unitsIn (c : Channel) (u : Idx16) (f : Tally → Tally) : (c.modTally u f).unitsIn = c.unitsIn := rfl
@[simp] theorem Channel.modConv_unitsIn (c : Channel) (mi : Bool) (f : Conv → Conv) : (c.modConv mi f).unitsIn = c.unitsIn := by cases mi <;> rfl
@[simp] theorem Channel.modForce_days (c : Channel) (f : Force → Force) : (c.modForce f).days = c.days := rfl
@[simp] theorem Channel.modBk_days (c : Channel) (f : Barker → Barker) : (c.modBk f).days = c.days := rfl
@[simp] theorem Channel.modSpool_days (c : Channel) (f : Spool → Spool) : (c.modSpool f).days = c.days := rfl
@[simp] theorem Channel.modGust_days (c : Channel) (f : Gust → Gust) : (c.modGust f).days = c.days := rfl
@[simp] theorem Channel.modEng_days (c : Channel) (f : Engines → Engines) : (c.modEng f).days = c.days := rfl
@[simp] theorem Channel.setReg_days (c : Channel) (k v : Nat) : (c.setReg k v).days = c.days := rfl
@[simp] theorem Channel.modWm_days (c : Channel) (m : Idx4) (f : Monitor → Monitor) : (c.modWm m f).days = c.days := rfl
@[simp] theorem Channel.modTally_days (c : Channel) (u : Idx16) (f : Tally → Tally) : (c.modTally u f).days = c.days := rfl
@[simp] theorem Channel.modConv_days (c : Channel) (mi : Bool) (f : Conv → Conv) : (c.modConv mi f).days = c.days := by cases mi <;> rfl
@[simp] theorem Channel.modForce_wm (c : Channel) (f : Force → Force) : (c.modForce f).wm = c.wm := rfl
@[simp] theorem Channel.modBk_wm (c : Channel) (f : Barker → Barker) : (c.modBk f).wm = c.wm := rfl
@[simp] theorem Channel.modSpool_wm (c : Channel) (f : Spool → Spool) : (c.modSpool f).wm = c.wm := rfl
@[simp] theorem Channel.modGust_wm (c : Channel) (f : Gust → Gust) : (c.modGust f).wm = c.wm := rfl
@[simp] theorem Channel.modEng_wm (c : Channel) (f : Engines → Engines) : (c.modEng f).wm = c.wm := rfl
@[simp] theorem Channel.setReg_wm (c : Channel) (k v : Nat) : (c.setReg k v).wm = c.wm := rfl
@[simp] theorem Channel.modTally_wm (c : Channel) (u : Idx16) (f : Tally → Tally) : (c.modTally u f).wm = c.wm := rfl
@[simp] theorem Channel.modConv_wm (c : Channel) (mi : Bool) (f : Conv → Conv) : (c.modConv mi f).wm = c.wm := by cases mi <;> rfl
@[simp] theorem Channel.modForce_edges (c : Channel) (f : Force → Force) : (c.modForce f).edges = c.edges := rfl
@[simp] theorem Channel.modBk_edges (c : Channel) (f : Barker → Barker) : (c.modBk f).edges = c.edges := rfl
@[simp] theorem Channel.modSpool_edges (c : Channel) (f : Spool → Spool) : (c.modSpool f).edges = c.edges := rfl
@[simp] theorem Channel.modGust_edges (c : Channel) (f : Gust → Gust) : (c.modGust f).edges = c.edges := rfl
@[simp] theorem Channel.modEng_edges (c : Channel) (f : Engines → Engines) : (c.modEng f).edges = c.edges := rfl
@[simp] theorem Channel.setReg_edges (c : Channel) (k v : Nat) : (c.setReg k v).edges = c.edges := rfl
@[simp] theorem Channel.modWm_edges (c : Channel) (m : Idx4) (f : Monitor → Monitor) : (c.modWm m f).edges = c.edges := rfl
@[simp] theorem Channel.modTally_edges (c : Channel) (u : Idx16) (f : Tally → Tally) : (c.modTally u f).edges = c.edges := rfl
@[simp] theorem Channel.modConv_edges (c : Channel) (mi : Bool) (f : Conv → Conv) : (c.modConv mi f).edges = c.edges := by cases mi <;> rfl
@[simp] theorem Channel.modForce_hold (c : Channel) (f : Force → Force) : (c.modForce f).hold = c.hold := rfl
@[simp] theorem Channel.modBk_hold (c : Channel) (f : Barker → Barker) : (c.modBk f).hold = c.hold := rfl
@[simp] theorem Channel.modSpool_hold (c : Channel) (f : Spool → Spool) : (c.modSpool f).hold = c.hold := rfl
@[simp] theorem Channel.modGust_hold (c : Channel) (f : Gust → Gust) : (c.modGust f).hold = c.hold := rfl
@[simp] theorem Channel.modEng_hold (c : Channel) (f : Engines → Engines) : (c.modEng f).hold = c.hold := rfl
@[simp] theorem Channel.setReg_hold (c : Channel) (k v : Nat) : (c.setReg k v).hold = c.hold := rfl
@[simp] theorem Channel.modWm_hold (c : Channel) (m : Idx4) (f : Monitor → Monitor) : (c.modWm m f).hold = c.hold := rfl
@[simp] theorem Channel.modTally_hold (c : Channel) (u : Idx16) (f : Tally → Tally) : (c.modTally u f).hold = c.hold := rfl
@[simp] theorem Channel.modConv_hold (c : Channel) (mi : Bool) (f : Conv → Conv) : (c.modConv mi f).hold = c.hold := by cases mi <;> rfl
@[simp] theorem Channel.modForce_lost (c : Channel) (f : Force → Force) : (c.modForce f).lost = c.lost := rfl
@[simp] theorem Channel.modBk_lost (c : Channel) (f : Barker → Barker) : (c.modBk f).lost = c.lost := rfl
@[simp] theorem Channel.modSpool_lost (c : Channel) (f : Spool → Spool) : (c.modSpool f).lost = c.lost := rfl
@[simp] theorem Channel.modGust_lost (c : Channel) (f : Gust → Gust) : (c.modGust f).lost = c.lost := rfl
@[simp] theorem Channel.modEng_lost (c : Channel) (f : Engines → Engines) : (c.modEng f).lost = c.lost := rfl
@[simp] theorem Channel.setReg_lost (c : Channel) (k v : Nat) : (c.setReg k v).lost = c.lost := rfl
@[simp] theorem Channel.modWm_lost (c : Channel) (m : Idx4) (f : Monitor → Monitor) : (c.modWm m f).lost = c.lost := rfl
@[simp] theorem Channel.modTally_lost (c : Channel) (u : Idx16) (f : Tally → Tally) : (c.modTally u f).lost = c.lost := rfl
@[simp] theorem Channel.modConv_lost (c : Channel) (mi : Bool) (f : Conv → Conv) : (c.modConv mi f).lost = c.lost := by cases mi <;> rfl
@[simp] theorem Channel.modForce_ovr (c : Channel) (f : Force → Force) : (c.modForce f).ovr = c.ovr := rfl
@[simp] theorem Channel.modBk_ovr (c : Channel) (f : Barker → Barker) : (c.modBk f).ovr = c.ovr := rfl
@[simp] theorem Channel.modSpool_ovr (c : Channel) (f : Spool → Spool) : (c.modSpool f).ovr = c.ovr := rfl
@[simp] theorem Channel.modGust_ovr (c : Channel) (f : Gust → Gust) : (c.modGust f).ovr = c.ovr := rfl
@[simp] theorem Channel.modEng_ovr (c : Channel) (f : Engines → Engines) : (c.modEng f).ovr = c.ovr := rfl
@[simp] theorem Channel.setReg_ovr (c : Channel) (k v : Nat) : (c.setReg k v).ovr = c.ovr := rfl
@[simp] theorem Channel.modWm_ovr (c : Channel) (m : Idx4) (f : Monitor → Monitor) : (c.modWm m f).ovr = c.ovr := rfl
@[simp] theorem Channel.modTally_ovr (c : Channel) (u : Idx16) (f : Tally → Tally) : (c.modTally u f).ovr = c.ovr := rfl
@[simp] theorem Channel.modConv_ovr (c : Channel) (mi : Bool) (f : Conv → Conv) : (c.modConv mi f).ovr = c.ovr := by cases mi <;> rfl
@[simp] theorem Channel.modForce_eng (c : Channel) (f : Force → Force) : (c.modForce f).eng = c.eng := rfl
@[simp] theorem Channel.modBk_eng (c : Channel) (f : Barker → Barker) : (c.modBk f).eng = c.eng := rfl
@[simp] theorem Channel.modSpool_eng (c : Channel) (f : Spool → Spool) : (c.modSpool f).eng = c.eng := rfl
@[simp] theorem Channel.modGust_eng (c : Channel) (f : Gust → Gust) : (c.modGust f).eng = c.eng := rfl
@[simp] theorem Channel.modEng_eng_self (c : Channel) (f : Engines → Engines) : (c.modEng f).eng = f c.eng := rfl
@[simp] theorem Channel.setReg_eng (c : Channel) (k v : Nat) : (c.setReg k v).eng = c.eng := rfl
@[simp] theorem Channel.modWm_eng (c : Channel) (m : Idx4) (f : Monitor → Monitor) : (c.modWm m f).eng = c.eng := rfl
@[simp] theorem Channel.modTally_eng (c : Channel) (u : Idx16) (f : Tally → Tally) : (c.modTally u f).eng = c.eng := rfl
@[simp] theorem Channel.modConv_eng (c : Channel) (mi : Bool) (f : Conv → Conv) : (c.modConv mi f).eng = c.eng := by cases mi <;> rfl
@[simp] theorem Channel.modForce_cal (c : Channel) (f : Force → Force) : (c.modForce f).cal = c.cal := rfl
@[simp] theorem Channel.modBk_cal (c : Channel) (f : Barker → Barker) : (c.modBk f).cal = c.cal := rfl
@[simp] theorem Channel.modSpool_cal (c : Channel) (f : Spool → Spool) : (c.modSpool f).cal = c.cal := rfl
@[simp] theorem Channel.modGust_cal (c : Channel) (f : Gust → Gust) : (c.modGust f).cal = c.cal := rfl
@[simp] theorem Channel.modEng_cal (c : Channel) (f : Engines → Engines) : (c.modEng f).cal = c.cal := rfl
@[simp] theorem Channel.setReg_cal (c : Channel) (k v : Nat) : (c.setReg k v).cal = c.cal := rfl
@[simp] theorem Channel.modWm_cal (c : Channel) (m : Idx4) (f : Monitor → Monitor) : (c.modWm m f).cal = c.cal := rfl
@[simp] theorem Channel.modTally_cal (c : Channel) (u : Idx16) (f : Tally → Tally) : (c.modTally u f).cal = c.cal := rfl
@[simp] theorem Channel.modConv_cal (c : Channel) (mi : Bool) (f : Conv → Conv) : (c.modConv mi f).cal = c.cal := by cases mi <;> rfl
@[simp] theorem Stall.setReg_tj (x : Stall) (k v : Nat) : (x.setReg k v).tj = x.tj := rfl
@[simp] theorem Stall.setReg_derate (x : Stall) (k v : Nat) : (x.setReg k v).derate = x.derate := rfl
@[simp] theorem Stall.setReg_derateNew (x : Stall) (k v : Nat) : (x.setReg k v).derateNew = x.derateNew := rfl
@[simp] theorem Stall.setReg_railOut (x : Stall) (k v : Nat) : (x.setReg k v).railOut = x.railOut := rfl
@[simp] theorem Stall.setReg_bufferOn (x : Stall) (k v : Nat) : (x.setReg k v).bufferOn = x.bufferOn := rfl
@[simp] theorem Stall.setReg_refx (x : Stall) (k v : Nat) : (x.setReg k v).refx = x.refx := rfl
@[simp] theorem Stall.setReg_refxFailed (x : Stall) (k v : Nat) : (x.setReg k v).refxFailed = x.refxFailed := rfl
@[simp] theorem Stall.setReg_refxBad (x : Stall) (k v : Nat) : (x.setReg k v).refxBad = x.refxBad := rfl
@[simp] theorem Stall.setReg_refxSwitch (x : Stall) (k v : Nat) : (x.setReg k v).refxSwitch = x.refxSwitch := rfl
@[simp] theorem Stall.setReg_fallTick (x : Stall) (k v : Nat) : (x.setReg k v).fallTick = x.fallTick := rfl
@[simp] theorem Stall.setReg_auxPos (x : Stall) (k v : Nat) : (x.setReg k v).auxPos = x.auxPos := rfl
@[simp] theorem Stall.setReg_rotThresh (x : Stall) (k v : Nat) : (x.setReg k v).rotThresh = x.rotThresh := rfl
@[simp] theorem Stall.setReg_rotHouse (x : Stall) (k v : Nat) : (x.setReg k v).rotHouse = x.rotHouse := rfl
@[simp] theorem Stall.setReg_rotCal (x : Stall) (k v : Nat) : (x.setReg k v).rotCal = x.rotCal := rfl
@[simp] theorem Stall.setReg_auxInj (x : Stall) (k v : Nat) : (x.setReg k v).auxInj = x.auxInj := rfl
@[simp] theorem Stall.setReg_auxPulses (x : Stall) (k v : Nat) : (x.setReg k v).auxPulses = x.auxPulses := rfl
@[simp] theorem Stall.setReg_owChan (x : Stall) (k v : Nat) : (x.setReg k v).owChan = x.owChan := rfl
@[simp] theorem Stall.setReg_resQ (x : Stall) (k v : Nat) : (x.setReg k v).resQ = x.resQ := rfl
@[simp] theorem Stall.setReg_bgState (x : Stall) (k v : Nat) : (x.setReg k v).bgState = x.bgState := rfl
@[simp] theorem Stall.setReg_bgGood (x : Stall) (k v : Nat) : (x.setReg k v).bgGood = x.bgGood := rfl
@[simp] theorem Stall.setReg_bgOut (x : Stall) (k v : Nat) : (x.setReg k v).bgOut = x.bgOut := rfl
@[simp] theorem Stall.setReg_bgReads (x : Stall) (k v : Nat) : (x.setReg k v).bgReads = x.bgReads := rfl
@[simp] theorem Stall.setReg_bgSum (x : Stall) (k v : Nat) : (x.setReg k v).bgSum = x.bgSum := rfl
@[simp] theorem Stall.setReg_f3 (x : Stall) (k v : Nat) : (x.setReg k v).f3 = x.f3 := rfl
@[simp] theorem Stall.setReg_f5 (x : Stall) (k v : Nat) : (x.setReg k v).f5 = x.f5 := rfl
@[simp] theorem Stall.setReg_lastResort (x : Stall) (k v : Nat) : (x.setReg k v).lastResort = x.lastResort := rfl
@[simp] theorem Stall.setReg_uncorr (x : Stall) (k v : Nat) : (x.setReg k v).uncorr = x.uncorr := rfl
@[simp] theorem Stall.setReg_silentDie (x : Stall) (k v : Nat) : (x.setReg k v).silentDie = x.silentDie := rfl
@[simp] theorem Stall.setReg_silentCtl (x : Stall) (k v : Nat) : (x.setReg k v).silentCtl = x.silentCtl := rfl
@[simp] theorem Stall.setReg_silentAt (x : Stall) (k v : Nat) : (x.setReg k v).silentAt = x.silentAt := rfl
@[simp] theorem Stall.setReg_badTicks (x : Stall) (k v : Nat) : (x.setReg k v).badTicks = x.badTicks := rfl
@[simp] theorem Stall.setReg_underTest (x : Stall) (k v : Nat) : (x.setReg k v).underTest = x.underTest := rfl
@[simp] theorem Stall.setReg_selfPass (x : Stall) (k v : Nat) : (x.setReg k v).selfPass = x.selfPass := rfl
@[simp] theorem Stall.setReg_auxSeen (x : Stall) (k v : Nat) : (x.setReg k v).auxSeen = x.auxSeen := rfl
@[simp] theorem Stall.setReg_auxPort (x : Stall) (k v : Nat) : (x.setReg k v).auxPort = x.auxPort := rfl
@[simp] theorem State.inTick_dev (s : State) (d : Dev) : (s.inTick d).dev = d := rfl
@[simp] theorem State.inTick_pending (s : State) (d : Dev) : (s.inTick d).pending = s.pending := rfl
@[simp] theorem State.atCommit_dev (s : State) (d : Dev) : (s.atCommit d).dev = d := rfl
@[simp] theorem State.atCommit_pending (s : State) (d : Dev) : (s.atCommit d).pending = s.pending := rfl
@[simp] theorem State.inTick_prior (s : State) (d : Dev) : (s.inTick d).prior = s.prior := rfl
@[simp] theorem State.atCommit_prior (s : State) (d : Dev) : (s.atCommit d).prior = s.prior := rfl
@[simp] theorem State.inTick_shown (s : State) (d : Dev) : (s.inTick d).shown = s.shown := rfl
@[simp] theorem State.atCommit_shown (s : State) (d : Dev) : (s.atCommit d).shown = d := rfl

theorem Dev.setCh_ch (d : Dev) (n m : ChanId) (c : Channel) : (d.setCh n c).ch m = if m = n then c else d.ch m := by
  unfold Dev.setCh Dev.ch
  by_cases h : m = n
  · subst h; simp
  · have h' : (n : Nat) ≠ (m : Nat) := fun e => h (Fin.ext e.symm)
    simp [h, h']

theorem Dev.setSt_st (d : Dev) (s r : StallId) (x : Stall) : (d.setSt s x).st r = if r = s then x else d.st r := by
  unfold Dev.setSt Dev.st
  by_cases h : r = s
  · subst h; simp
  · have h' : (s : Nat) ≠ (r : Nat) := fun e => h (Fin.ext e.symm)
    simp [h, h']

/-- A register reads what was written to it, every other one as before. -/
theorem Channel.reg_setReg_eq (c : Channel) (k j v : Nat) : (c.setReg k v).reg j = if j = k then v else c.reg j := by
  unfold Channel.setReg Channel.reg
  by_cases h : j = k
  · subst h; simp [sget_sput]
  · rw [sget_sput_other _ _ _ _ _ _ h]; simp [h]

theorem Stall.reg_setReg_eq (c : Stall) (k j v : Nat) : (c.setReg k v).reg j = if j = k then v else c.reg j := by
  unfold Stall.setReg Stall.reg
  by_cases h : j = k
  · subst h; simp [sget_sput]
  · rw [sget_sput_other _ _ _ _ _ _ h]; simp [h]

theorem Dev.reg_setReg_eq (d : Dev) (k j v : Nat) : (d.setReg k v).reg j = if j = k then v else d.reg j := by
  unfold Dev.setReg Dev.reg
  by_cases h : j = k
  · subst h; simp [sget_sput]
  · rw [sget_sput_other _ _ _ _ _ _ h]; simp [h]

end Sys2Proof.Machine
end

