-- ==== Sys2Proof/Laws/Steps.lean ====
section
/-! SUPPORT. Laws of the barker: the fields of a step word, and what the selection of a valid step leaves on a channel in no
gang. -/

namespace Sys2Proof.Machine

open Sys2Proof

theorem stepWord_toNat (k v r : Nat) (f : StepFields) (hk : k < 16) (hv : v < 2 ^ 20) (hr : r < 16) :
    (stepWord k v r f).toNat = k * 2 ^ 60 + v * 2 ^ 40 + r * 2 ^ 36 + f.pset.toNat * 2 ^ 30 + f.mplan.toNat * 2 ^ 26 +
      f.tctl.toNat * 2 ^ 20 + f.mark.toNat * 2 ^ 16 + f.dwell.toNat := by
  have h1 := f.pset.isLt; have h2 := f.mplan.isLt; have h3 := f.tctl.isLt; have h4 := f.mark.isLt; have h5 := f.dwell.isLt
  unfold stepWord
  rw [BitVec.toNat_ofNat, Nat.mod_eq_of_lt]
  omega

section
variable (k v r : Nat) (f : StepFields) (hk : k < 16) (hv : v < 2 ^ 20) (hr : r < 16)
include hk hv hr

theorem stKind_stepWord : stKind (stepWord k v r f).toNat = k := by
  have h1 := f.pset.isLt; have h2 := f.mplan.isLt; have h3 := f.tctl.isLt; have h4 := f.mark.isLt; have h5 := f.dwell.isLt
  rw [stepWord_toNat k v r f hk hv hr]; unfold stKind natBits; simp only [Nat.reducePow, Nat.reduceAdd, Nat.reduceSub] at *; omega
theorem stValue_stepWord : stValue (stepWord k v r f).toNat = v := by
  have h1 := f.pset.isLt; have h2 := f.mplan.isLt; have h3 := f.tctl.isLt; have h4 := f.mark.isLt; have h5 := f.dwell.isLt
  rw [stepWord_toNat k v r f hk hv hr]; unfold stValue natBits; simp only [Nat.reducePow, Nat.reduceAdd, Nat.reduceSub] at *; omega
theorem stRpair_stepWord : stRpair (stepWord k v r f).toNat = r := by
  have h1 := f.pset.isLt; have h2 := f.mplan.isLt; have h3 := f.tctl.isLt; have h4 := f.mark.isLt; have h5 := f.dwell.isLt
  rw [stepWord_toNat k v r f hk hv hr]; unfold stRpair natBits; simp only [Nat.reducePow, Nat.reduceAdd, Nat.reduceSub] at *; omega
theorem stPset_stepWord : stPset (stepWord k v r f).toNat = f.pset.toNat := by
  have h1 := f.pset.isLt; have h2 := f.mplan.isLt; have h3 := f.tctl.isLt; have h4 := f.mark.isLt; have h5 := f.dwell.isLt
  rw [stepWord_toNat k v r f hk hv hr]; unfold stPset natBits; simp only [Nat.reducePow, Nat.reduceAdd, Nat.reduceSub] at *; omega
theorem stPlan_stepWord : stPlan (stepWord k v r f).toNat = f.mplan.toNat := by
  have h1 := f.pset.isLt; have h2 := f.mplan.isLt; have h3 := f.tctl.isLt; have h4 := f.mark.isLt; have h5 := f.dwell.isLt
  rw [stepWord_toNat k v r f hk hv hr]; unfold stPlan natBits; simp only [Nat.reducePow, Nat.reduceAdd, Nat.reduceSub] at *; omega
theorem stGates_stepWord : stGates (stepWord k v r f).toNat = f.tctl := by
  have h1 := f.pset.isLt; have h2 := f.mplan.isLt; have h3 := f.tctl.isLt; have h4 := f.mark.isLt; have h5 := f.dwell.isLt
  have : natBits (stepWord k v r f).toNat 25 20 = f.tctl.toNat := by
    rw [stepWord_toNat k v r f hk hv hr]; unfold natBits; simp only [Nat.reducePow, Nat.reduceAdd, Nat.reduceSub] at *; omega
  unfold stGates; rw [this]; simp
theorem stMarks_stepWord : stMarks (stepWord k v r f).toNat = f.mark := by
  have h1 := f.pset.isLt; have h2 := f.mplan.isLt; have h3 := f.tctl.isLt; have h4 := f.mark.isLt; have h5 := f.dwell.isLt
  have : natBits (stepWord k v r f).toNat 19 16 = f.mark.toNat := by
    rw [stepWord_toNat k v r f hk hv hr]; unfold natBits; simp only [Nat.reducePow, Nat.reduceAdd, Nat.reduceSub] at *; omega
  unfold stMarks; rw [this]; simp
end

/-! ## Registers that a write leaves -/

theorem Channel.reg_setReg_other (c : Channel) (k j v : Nat) (h : j ≠ k) : (c.setReg k v).reg j = c.reg j :=
  sget_sput_other _ _ _ _ _ _ h
theorem Channel.reg_inc_other (c : Channel) (w k j : Nat) (h : j ≠ k) : (c.inc w k).reg j = c.reg j :=
  sget_sput_other _ _ _ _ _ _ h
theorem Channel.reg_setReg (c : Channel) (k v : Nat) : (c.setReg k v).reg k = v := by
  unfold Channel.setReg Channel.reg
  rw [sget_sput, if_pos rfl]

theorem Dev.modCh_id (d : Dev) (n : ChanId) (f : Channel → Channel) (h : f (d.ch n) = d.ch n) : d.modCh n f = d := by
  have : d.chans.set n (d.ch n) = d.chans := by
    ext1 i hi
    rw [Vector.getElem_set]
    split
    · next e => subst e; rfl
    · rfl
  unfold Dev.modCh Dev.setCh
  rw [h, this]

/-! ## Selecting a step -/

/-- The barker of a channel with a step selected from the lines read. -/
def Barker.selectedAs (k : Barker) (lines : List (Nat × Word64)) (p : Pick) (origin : List Nat) : Barker :=
  let w := p.word.toNat
  let k := { k with lines := lines, seq := seqOf (stKind w), addr := p.addr, seg := p.seg, word := p.word, done := 0, left := stDwell w,
                    due := false, loops := loopsRead p k.loops, spanTrip := 0, spanHi := false, spanLo := false,
                    spanUr := false, spanHeld := false, spanRc := false, dry := false, held := k.holdReq,
                    stuckAddr := none, stuckRun := 0, stuckHold := false, carry := [],
                    sel := some { word := p.word, addr := p.addr, seg := p.seg, first := p.first,
                                  origin := originUnion k.carry origin } }
  match stKind w with
  | 5 =>
    if waitPre w then k
    else { k with latch := putBit k.latch (waitInput w) false, latchOrg := k.latchOrg.filter (·.1 != waitInput w) }
  | 6 =>
    { k with loops := { count := stValue w, start := 0, seg := 0, bound := false, first := true, sfirst := false,
                        spoolX := none, head := [] } :: k.loops }
  | _ => k

/-- The force path of a channel with a step selected. -/
def Force.selectedAs (f : Force) (w : Nat) : Force :=
  let f := if stKind w = 4 then f else { f with pset := stPset w }
  if stKind w == 1 || stKind w == 2 then { f with prevTarget := f.target, target := BitVec.ofNat 20 (stValue w) } else f

/-- A channel with a step selected. -/
def Channel.selectedAs (c : Channel) (lines : List (Nat × Word64)) (p : Pick) (origin : List Nat) : Channel :=
  { c.inc 64 Obj.STEPS_PLAYED with
    bk := c.bk.selectedAs lines p origin, force := c.force.selectedAs p.word.toNat,
    eng := { c.eng with setNow := if stKind p.word.toNat = 4 then c.force.pset else stPset p.word.toNat } }

/-- The selection of a valid step, not of a spool, of a channel in no gang: the channel takes it, the trace has an entry, and
nothing else of the module changes. -/
theorem Dev.selectStep_alone (d : Dev) (n : ChanId) (p : Pick) (o : List Nat) (hr : d.role n = 0)
    (hok : d.stepOk n p.word.toNat = true) (hsys : d.sysActive = false) (hs : p.stream = none)
    (hmode : d.modeDiffers n p.word.toNat = false) (h6 : stKind p.word.toNat = 6 → (d.ch n).bk.loops.length < 4) :
    ∃ sec, d.selectStep n p o =
      { d.modCh n (·.selectedAs (d.linesFor n p.seg p.addr p.stream) p o) with sec := sec } := by
  have alone : ∀ F : Channel → Channel, ((F (d.ch n)).reg Obj.GANG_ROLE = (d.ch n).reg Obj.GANG_ROLE) →
      (d.modCh n F).members n = [n] ∧ (d.modCh n F).cfg n = F (d.ch n) := by
    intro F hF
    have h0 : (d.modCh n F).role n = 0 := by
      unfold Dev.role Dev.creg; rw [Dev.ch_modCh, if_pos rfl, hF]; exact hr
    exact ⟨Dev.members_alone _ _ h0, by rw [Dev.cfg_alone _ _ h0, Dev.ch_modCh, if_pos rfl]⟩
  have same : ∀ F : Channel → Channel, (∀ j, j ≠ Obj.STEPS_PLAYED → (F (d.ch n)).reg j = (d.ch n).reg j) →
      (d.modCh n F).modeDiffers n p.word.toNat = false := by
    intro F hF
    unfold Dev.modeDiffers at hmode ⊢
    rw [(alone F (hF _ (by decide))).2,
      hF _ (by unfold Obj.RPAIR Obj.STEPS_PLAYED; have : stRpair p.word.toNat < 16 := Nat.mod_lt _ (by decide); omega)]
    rw [d.cfg_alone n hr] at hmode
    exact hmode
  unfold Dev.selectStep
  generalize hl : d.linesFor n p.seg p.addr p.stream = lines
  generalize hw : p.word.toNat = w at *
  simp only [hok, Bool.not_true, Bool.false_eq_true, if_false, hs, Dev.cinc, Dev.modCh_modCh]
  rw [(alone _ (by exact Channel.reg_inc_other _ _ _ _ (by decide))).1]
  simp only [List.foldl, Dev.modCh_modCh]
  rw [same _ (by intro j hj; split <;> exact Channel.reg_inc_other _ _ _ _ hj),
    (alone _ (by split <;> exact Channel.reg_inc_other _ _ _ _ (by decide))).1]
  simp only [List.foldl, Dev.modCh_modCh, Bool.not_false, Bool.and_true]
  have quiet : ∀ F : Channel → Channel, (d.modCh n F).sysAbortOn n 4 = d.modCh n F := by
    intro F; unfold Dev.sysAbortOn
    rw [show (d.modCh n F).sysActive = false from hsys]; rfl
  have fin : ∀ F : Channel → Channel, F (d.ch n) = (d.ch n).selectedAs lines p o →
      ∃ sec, (d.modCh n F).trace (some n) .selection = { d.modCh n (·.selectedAs lines p o) with sec := sec } := by
    intro F h
    have : d.modCh n F = d.modCh n (·.selectedAs lines p o) := congrArg (d.setCh n) h
    rw [this]; exact ⟨_, rfl⟩
  have then' : ∀ F H : Channel → Channel,
      ∃ sec, ((d.modCh n F).trace (some n) .selection).modCh n H = { d.modCh n (fun c => H (F c)) with sec := sec } := by
    intro F H; rw [← Dev.modCh_modCh d n F H]; exact ⟨_, rfl⟩
  have fin2 : ∀ F H : Channel → Channel, H (F (d.ch n)) = (d.ch n).selectedAs lines p o →
      ∃ sec, ((d.modCh n F).trace (some n) .selection).modCh n H =
        { d.modCh n (·.selectedAs lines p o) with sec := sec } := by
    intro F H h
    obtain ⟨sec, e⟩ := then' F H
    refine ⟨sec, e.trans ?_⟩
    have : d.modCh n (fun c => H (F c)) = d.modCh n (·.selectedAs lines p o) := congrArg (d.setCh n) h
    rw [this]
  rw [← apply_ite (d.modCh n)]
  rw [quiet]
  split
  · next h5 =>
    split
    · next hp => apply fin; simp [h5, hp, hw, Channel.selectedAs, Barker.selectedAs, Force.selectedAs, Channel.modBk, Channel.modEng, Channel.modForce, Channel.inc, Channel.setReg]
    · next hp => apply fin2; simp [h5, hp, hw, Channel.selectedAs, Barker.selectedAs, Force.selectedAs, Channel.modBk, Channel.modEng, Channel.modForce, Channel.inc, Channel.setReg]
  · next h6' =>
    rw [if_neg]
    · apply fin2; simp [h6', hw, Channel.selectedAs, Barker.selectedAs, Force.selectedAs, Channel.modBk, Channel.modEng, Channel.modForce, Channel.inc, Channel.setReg]
    · have := h6 h6'
      show ¬ ((Dev.modCh d n _).ch n).bk.loops.length ≥ 4
      rw [Dev.ch_modCh, if_pos rfl]
      simp [h6', Channel.modBk, Channel.modEng, Channel.modForce, Channel.inc, Channel.setReg, loopsRead]
      omega
  · next h5 h6' =>
    apply fin
    have hb : (d.ch n).bk.selectedAs lines p o = { (d.ch n).bk with
        lines := lines, seq := seqOf (stKind w), addr := p.addr, seg := p.seg, word := p.word, done := 0, left := stDwell w,
        due := false, loops := loopsRead p (d.ch n).bk.loops, spanTrip := 0, spanHi := false, spanLo := false,
        spanUr := false, spanHeld := false, spanRc := false, dry := false, held := (d.ch n).bk.holdReq, stuckAddr := none,
        stuckRun := 0, stuckHold := false, carry := [],
        sel := some { word := p.word, addr := p.addr, seg := p.seg, first := p.first,
                      origin := originUnion (d.ch n).bk.carry o } } := by
      unfold Barker.selectedAs; simp only [hw]
    by_cases h4 : stKind w = 4
    · simp [h4, hb, hw, Channel.selectedAs, Force.selectedAs, Channel.modBk, Channel.modEng, Channel.inc, Channel.setReg]
    · by_cases h12 : stKind w = 1 ∨ stKind w = 2
      · rcases h12 with h | h <;> simp [h, hb, hw, Channel.selectedAs, Force.selectedAs, Channel.modBk, Channel.modEng, Channel.modForce, Channel.inc, Channel.setReg]
      · have h1 : stKind w ≠ 1 := fun h => h12 (.inl h)
        have h2 : stKind w ≠ 2 := fun h => h12 (.inr h)
        simp [h4, h1, h2, hb, hw, Channel.selectedAs, Force.selectedAs, Channel.modBk, Channel.modEng, Channel.modForce, Channel.inc, Channel.setReg]

end Sys2Proof.Machine
end

