-- ==== Sys2Proof/Tests/Slice0.lean ====
section
/-! SUPPORT. Tests: each check of WellFormed refuses an ill-formed command, the table gives no word a command, and for every
statement with hypotheses a state and operands that meet them. -/

namespace Sys2Proof.Tests

open Sys2Proof Sys2Proof.Machine

/-! ## WellFormed refuses -/

theorem test_wf_shl : Instr.wf (.shl 0 0 1 2 48) = false := by decide
theorem test_wf_shr : Instr.wf (.shr 0 0 1 2 0 48) = false := by decide
theorem test_wf_accrd : Instr.wf (.accrd 0 0 1 true false 0 48) = false := by decide
theorem test_wf_ext : Instr.wf (.ext 0 0 1 2 true 3 4) = false := by decide
theorem test_wf_ins : Instr.wf (.ins 0 0 1 2 48 4) = false := by decide
theorem test_wf_engSat : Instr.wf (.engSat 0 0 1 2 1) = false := by decide
theorem test_wf_crd : Instr.wf (.crd 0 5 1 2 3) = false := by decide
theorem test_wf_corr : Instr.wf (.corr 0 5 1 2) = false := by decide
theorem test_wf_cclr : Instr.wf (.cclr 0 5 1) = false := by decide
theorem test_wf_aggCurrent : Instr.wf (.aggCurrent (2 ^ 32) 0) = false := by decide
theorem test_wf_regTrigger : Instr.wf (.regTrigger 0 true true 0 0) = false := by decide
theorem test_wf_injTrigger : Instr.wf (.injTrigger 0 true true 0 0) = false := by decide
theorem test_wf_auxInjTrigger : Instr.wf (.auxInjTrigger 0 true 0 0) = false := by decide
theorem test_wf_auxWindow : Instr.wf (.auxWindow 0 true 5 [32]) = false := by decide
theorem test_wf_evioEdge : Instr.wf (.evioEdge 0 true 0 0) = false := by decide
theorem test_wf_evioOutput : Instr.wf (.evioOutput 0 0 0) = false := by decide
theorem test_wf_mkoOutput : Instr.wf (.mkoOutput 0 0 0) = false := by decide
theorem test_wf_loopMeasureDone : Instr.wf (.loopMeasureDone 5 5 2001) = false := by decide
theorem test_wf_sync0Event : Instr.wf (.sync0Event 0 0) = false := by decide
theorem test_wf_pdFrame : Instr.wf (.pdFrame [(2 ^ 24, 0)] 0) = false := by decide
theorem test_wf_esmPreopToSafeop : Instr.wf (.esmPreopToSafeop true true (some 0)) = false := by decide
theorem test_wf_sdoDownload : Instr.wf (.sdoDownload 0x6000 1 1 256 0) = false := by decide
theorem test_wf_objectWrite : Instr.wf (.objectWrite 0x6000 1 1 256) = false := by decide
theorem test_wf_windowWrite : Instr.wf (.windowWrite (2 ^ 27) 1 0 0) = false := by decide
theorem test_wf_windowRead : Instr.wf (.windowRead (2 ^ 27) 8 0) = false := by decide
theorem test_wf_objWrite : Instr.wf (.objWrite 0x6000 1 1 256 0) = false := by decide
theorem test_wf_sdoCompleteAccessWrite : Instr.wf (.sdoCompleteAccessWrite 0x6000 (List.replicate 256 0) 0) = false := by simp only [Instr.wf, List.length_replicate]; rfl
theorem test_wf_objCaWrite : Instr.wf (.objCaWrite 0x6000 (List.replicate 256 0) 0) = false := by simp only [Instr.wf, List.length_replicate]; rfl
theorem test_wf_queueTailWrite : Instr.wf (.queueTailWrite .load (2 ^ 32) []) = false := by decide
theorem test_wf_exportTailWrite : Instr.wf (.exportTailWrite (2 ^ 32)) = false := by decide
theorem test_wf_bar0RegisterWrite : Instr.wf (.bar0RegisterWrite .irqMask (2 ^ 64)) = false := by decide
theorem test_wf_exportWrite : Instr.wf (.exportWrite 16385) = false := by decide
theorem test_wf_loadData : Instr.wf (.loadData (List.replicate 1025 0)) = false := by simp only [Instr.wf, List.length_replicate]; rfl
theorem test_wf_scrubRead : Instr.wf (.scrubRead 0 (some (4096, 0)) true) = false := by decide
theorem test_wf_linPassDone : Instr.wf (.linPassDone 0 []) = false := by decide
theorem test_wf_attestNonce : Instr.wf (.attestNonce []) = false := by decide
theorem test_wf_add : Instr.wf (.add 3 1 1 2 3) = true := by decide

/-! ## The table gives no row bits -/

theorem test_decode_none : decodeTableWord 16 5 = none := by decide

set_option maxRecDepth 20000

/-! ## States that meet the hypotheses of the statements

`dev0` is released and PARKED at tick 1000; `dev1` has channel 3 ARMED and playing a force step of segment 2. -/

def dev0 : Dev :=
  { Dev.reset with power := { Power.reset with released := true, state := .parked, phase := 5 }, tick := 1000 }

def st (d : Dev) : State := ⟨d, Dev.reset, Dev.reset, []⟩

/-- As `st`, what reads see being the module itself. -/
def st2 (d : Dev) : State := ⟨d, d, d, []⟩

def seg2 : Word64 := BitVec.ofNat 64 (2^63 + 0x1FFF*2^44 + 4*2^26 + 16)
def seg7 : Word64 := BitVec.ofNat 64 (2^63 + 0x1FFF*2^44 + 4*2^26 + 256)
def fl5 : StepFields := ⟨5, 2, 0x15, 0, 100⟩
def dev1 : Dev :=
  let d := { dev0 with mem := { dev0.mem with dir := [(2, seg2), (7, seg7)], sets := [(64*3, some ⟨false, [], []⟩), (64*3+5, some ⟨false, [], []⟩)], ledger := (List.range 32).map (fun i => (16 + i, stepWord 3 0 0 fl5)) ++ (List.range 32).map (fun i => (256 + i, stepWord 3 0 0 fl5)) } }
  d.modCh 3 fun c => { c with force := { c.force with st := .armed, disc := true }, bk := { c.bk with seq := .playing, addr := 16, seg := 2, word := stepWord 3 0 0 fl5, done := 100, left := 0, due := true }, regs := [] }
/-- tether 9 carries marker 1 of channel 3 to sine reset, gust trigger of channel 3 and the JMP of channel 4 -/
def wire (d : Dev) : Dev := ((d.setReg (tethSlot 9 0) (0x10*3 + 9)).setCreg 3 0x400B 9 |>.setCreg 3 0x400A 9).setCreg 4 0x4009 9

namespace globals

def rg (k : Nat) (a : Nat) : Running := { kind := .regular, slot := 0, word := 0x1400, asked := (dev1.tick, a), start := (dev1.tick, a), stop := (dev1.tick, a + k), adv := true, spoilt := false }
def dG (k a : Nat) : Dev := dev1.modCh 3 fun c => c.modConv false fun v => { v with run := some (rg k a) }
def dU : Dev := dev1.modCh 3 fun c => c.modWm 1 fun x => { x with st := .unknown, restart := dev1.tick - 5 }

theorem wit_CommitBeginsTheNextTick_1 : ∃ (s : State),
  s.dev.power.released = true :=
  ⟨(st dev1), by decide⟩

theorem wit_SamplesReachTheirWindow_1 : ∃ (s : State) (n : ChanId) (mi : Bool) (cyc : Cycle) (r : Running),
  (s.dev.power.released = true ∧ s.dev.fab.atCommit = false) ∧
  (((s.dev.ch n).conv mi).run = some r) ∧
  (((s.dev.ch n).conv mi).waits = []) ∧
  (((s.dev.ch n).conv mi).pulses = []) ∧
  (s.dev.role n = 0) ∧
  (r.kind = ConvKind.regular) ∧
  (before (s.dev.tick, ↑cyc) r.stop = false) :=
  ⟨(st (dG 5 1)), 3, false, 11, (rg 5 1), by decide⟩

theorem wit_SamplesReachTheirWindow_2 : ∃ (s : State) (n : ChanId) (mi : Bool) (cyc : Cycle) (r : Running),
  (s.dev.power.released = true ∧ s.dev.fab.atCommit = false) ∧
  (((s.dev.ch n).conv mi).run = some r) ∧
  (((s.dev.ch n).conv mi).waits = []) ∧
  (((s.dev.ch n).conv mi).pulses = []) ∧
  (s.dev.role n = 0) ∧
  (r.kind = ConvKind.regular) ∧
  (before (s.dev.tick, ↑cyc) r.stop = true) :=
  ⟨(st (dG 50 100)), 3, false, 11, (rg 50 100), by decide⟩

theorem wit_UnknownMonitorsAreSilent_1 : ∃ (s : State) (n : ChanId) (m : Idx4),
  (s.dev.power.released = true ∧ s.dev.fab.atCommit = false) ∧
  ((s.dev.ch n).wm[m].st = WmState.unknown) ∧
  ((s.dev.ch n).wm[m].suspended = false) ∧
  ((s.dev.ch n).wm[m].dacFail = false) ∧
  ((s.dev.ch n).wm[m].restart ≠ s.dev.tick) :=
  ⟨(st dU), 3, 1, by decide⟩

end globals

namespace force

def okCh (c : Channel) : Channel := (List.range 16).foldl (fun c i => c.setReg (Obj.RPAIR i) 0x00200FE0) ((c.setReg Obj.DECL_V 100).setReg Obj.DECL_I 100)
def da := { dev0.modCh 3 okCh with sync := { dev0.sync with refclk := .locked } }
def arming (k : Nat) : Dev := { da.armMask 8 with tick := 1000 + BitVec.ofNat 48 k }
def fph (st : ChState) (p : DownPhase) : Dev := dev1.modCh 3 fun c => c.modForce fun f => { f with st := st, phase := p, phaseTick := 800, rampLen := 50 }

theorem wit_ArmRequestDecides_1 : ∃ (s : State) (mask : Word64),
  (s.dev.power.released = true) ∧
  ((mask &&& ~~~maskOf fun (n : ChanId) => (s.dev.ch n).isArmed) ≠ 0) ∧
  (s.dev.accept.armResult (mask &&& ~~~maskOf fun (n : ChanId) => (s.dev.ch n).isArmed) = 0) :=
  ⟨(st da), 8, by decide⟩

theorem wit_ArmSequenceAdvances_1 : ∃ (s : State),
  (s.dev.power.released = true) ∧
  (∀ (m : ChanId), s.dev.armingAt 8 m = true → (match s.dev.sensed m with | some v => s.dev.preCloseFails m v | none => false) = false) ∧
  (s.dev.calm = true) ∧
  (∀ (m : ChanId), s.dev.armingAt 32 m = true → (s.dev.cfg m).reg Obj.START_MODE ≠ 0) :=
  ⟨(st (arming 8)), by decide⟩

theorem wit_ParkAndSafeStagesAdvance_1 : ∃ (s : State) (n : ChanId),
  (s.dev.power.released = true) ∧
  ((s.dev.ch n).force.st = ChState.parking) ∧
  ((s.dev.ch n).force.phase = DownPhase.wait) ∧
  (s.dev.calm = true) ∧
  (s.dev.flt.active = []) ∧
  (reached s.dev.tick ((s.dev.ch n).force.phaseTick + 100#48) = true) :=
  ⟨(st (fph .parking .wait)), 3, by decide⟩

theorem wit_ParkAndSafeStagesAdvance_2 : ∃ (s : State) (n : ChanId),
  (s.dev.power.released = true) ∧
  (s.dev.calm = true) ∧
  (∀ (m : ChanId), s.dev.role m = 0) ∧
  ((s.dev.ch n).force.st = ChState.armed) ∧
  (∀ (m : ChanId), (s.dev.ch m).force.st ≠ ChState.arming) ∧
  (s.dev.sysActive = false) ∧
  (∀ (a : ArmBack), s.dev.armBack = some a → a.tick ≠ s.dev.tick) :=
  ⟨(st dev1), 3, by decide⟩

theorem wit_ParkAndSafeStagesAdvance_3 : ∃ (s : State) (n : ChanId),
  (s.dev.power.released = true) ∧
  ((s.dev.ch n).force.st = ChState.safe) ∧
  ((s.dev.ch n).force.phase = DownPhase.ramp) ∧
  (reached s.dev.tick ((s.dev.ch n).force.phaseTick + BitVec.ofNat 48 (s.dev.ch n).force.rampLen) = true) :=
  ⟨(st (fph .safe .ramp)), 3, by decide⟩

theorem wit_ParkAndSafeStagesAdvance_4 : ∃ (s : State) (n : ChanId),
  (s.dev.power.released = true) ∧
  (s.dev.calm = true) ∧
  ((s.dev.ch n).force.st = ChState.parking ∨ (s.dev.ch n).force.st = ChState.safe) ∧
  ((s.dev.ch n).force.phase = DownPhase.opened) ∧
  (reached s.dev.tick ((s.dev.ch n).force.phaseTick + 16#48) = true) :=
  ⟨(st (fph .safe .opened)), 3, by decide⟩

theorem wit_ParkAndSafeStagesAdvance_5 : ∃ (s : State) (n : ChanId),
  (s.dev.power.released = true) ∧
  ((s.dev.ch n).force.st = ChState.parking) ∧
  ((s.dev.ch n).force.phase = DownPhase.ramp) ∧
  (reached s.dev.tick ((s.dev.ch n).force.phaseTick + BitVec.ofNat 48 (max 1 (s.dev.ch n).force.rampLen)) = true) :=
  ⟨(st (fph .parking .ramp)), 3, by decide⟩

theorem wit_ClampsTripsAndRails_1 : ∃ (s : State) (n : ChanId) (st : StallId) (high : Bool) (amount : Nat) (tj : Int),
  (s.dev.power.released = true ∧ s.dev.fab.atCommit = false) ∧
  (s.dev.clampsLive n = true) ∧
  ((if high = true then (s.dev.ch n).force.engHi else (s.dev.ch n).force.engLo) = false) ∧
  (32000 < amount ∨ 24000 < amount ∧ 10000 < s.dev.power.aggOver) ∧
  (s.dev.power.aggRaised = false) ∧
  (1300 ≤ tj) ∧
  ((s.dev.st st).derate ≠ 3) :=
  ⟨(st (fph .armed .idle)), 3, 0, true, 33000, 1400, by decide⟩

theorem wit_ClampsTripsAndRails_2 : ∃ (s : State) (amount : Nat),
  (s.dev.power.released = true ∧ s.dev.fab.atCommit = false) ∧
  (¬(32000 < amount ∨ 24000 < amount ∧ 10000 < s.dev.power.aggOver) ∨ s.dev.power.aggRaised = true) :=
  ⟨(st (fph .armed .idle)), 25000, by decide⟩

theorem wit_ClampsTripsAndRails_3 : ∃ (s : State) (n : ChanId) (high : Bool),
  (s.dev.power.released = true ∧ s.dev.fab.atCommit = false) ∧
  (s.dev.clampsLive n = true) ∧
  ((if high = true then (s.dev.ch n).force.engHi else (s.dev.ch n).force.engLo) = true) :=
  ⟨(st ({fph .armed .idle with power := {dev1.power with aggOver := 10001}}.modCh 3 fun c => c.modForce fun f => {f with engLo := true})), 3, false, by decide⟩

end force

namespace steps

def f2 : StepFields := ⟨5, 2, 0x15, 2, 100⟩
def dw := wire (dev1.modCh 3 fun c => (c.setReg (Obj.RPAIR 4) 0x4C000000 |>.setReg (Obj.RPAIR 6) 0x90800800))
def xs (k v rp : Nat) : Selected := { word := stepWord k v rp f2, addr := 16, seg := 2, first := false, origin := [] }

/-- The premises of `StepsApply`. -/
def stepsApply (s : State) (n : ChanId) (value : Code20) (rpair : BitVec 4) (f : StepFields) (noTimeout : Bool) (pre : Bool) (input : Idx4) (count : BitVec 20) (x : Idx16) (c : Instr) (kind : Nat) (v : Nat) (rp : Nat) (g : StepFields) : Prop :=
  (s.dev.power.released = true) ∧
  (s.dev.calm = true) ∧
  (s.dev.role n = 0) ∧
  ((s.dev.ch n).isArmed = true) ∧
  ((s.dev.ch n).bk.halt = false) ∧
  ((s.dev.ch n).bk.holdReq = false) ∧
  (s.dev.sysActive = false) ∧
  ((c, kind, v, rp, g) ∈ [(Instr.forceV n value rpair f, 1, BitVec.toNat value, rpair.toNat, f), (Instr.forceI n value rpair f, 2, BitVec.toNat value, rpair.toNat, f), (Instr.stepHold n f, 3, 0, 0, f), (Instr.tallyOnly n f.tctl f.mark f.dwell, 4, 0, 0, { pset := 0, mplan := 0, tctl := f.tctl, mark := f.mark, dwell := f.dwell }), (Instr.waitTether n noTimeout pre input f, 5, noTimeout.toNat * 2 ^ 19 + pre.toNat * 2 ^ 18 + input.val, 0, f), (Instr.loopOpen n count f, 6, count.toNat, 0, f), (Instr.sineSetStart n x f, 9, ↑x, 0, f), (Instr.sineSetZero n f, 9, 2 ^ 18, 0, f), (Instr.sineSetPhaseReset n f, 9, 2 ^ 19, 0, f), (Instr.gustArm n x f, 10, ↑x, 0, f), (Instr.gustDisarm n f, 10, 2 ^ 19, 0, f), (Instr.stepEnd n f, 11, 0, 0, f), (Instr.endPark n f, 11, 1, 0, f)]) ∧
  (kind ≠ 4 → s.dev.setLoaded n f.pset.toNat = true) ∧
  (kind = 6 → (s.dev.ch n).bk.loops.length < 4)

theorem wit_StepsApply_1 : stepsApply (st dw) 3 0x90000 6 f2 false false 1 7 3 (.forceV 3 0x90000 6 f2) 1 0x90000 6 f2
    := by
  unfold stepsApply; decide

theorem wit_StepsApply_2 : stepsApply (st dw) 3 0x90000 4 f2 false false 1 7 3 (.forceI 3 0x90000 4 f2) 2 0x90000 4 f2
    := by
  unfold stepsApply; decide

theorem wit_StepsApply_3 : stepsApply (st dw) 3 0x90000 4 f2 false false 1 7 3 (.stepHold 3 f2) 3 0 0 f2 := by
  unfold stepsApply; decide

theorem wit_StepsApply_4 : stepsApply (st dw) 3 0x90000 4 f2 false false 1 7 3 (.waitTether 3 false false 1 f2) 5 1 0
    f2 := by
  unfold stepsApply; decide

theorem wit_StepsApply_5 : stepsApply (st dw) 3 0x90000 4 f2 true true 1 7 3 (.waitTether 3 true true 1 f2) 5
    (2^19+2^18+1) 0 f2 := by
  unfold stepsApply; decide

theorem wit_StepsApply_6 : stepsApply (st dw) 3 0x90000 4 f2 true true 1 7 3 (.loopOpen 3 7 f2) 6 7 0 f2 := by
  unfold stepsApply; decide

theorem wit_StepsApply_7 : stepsApply (st dw) 3 0x90000 4 f2 true true 1 7 3 (.sineSetStart 3 3 f2) 9 3 0 f2 := by
  unfold stepsApply; decide

theorem wit_StepsApply_8 : stepsApply (st dw) 3 0x90000 4 f2 true true 1 7 3 (.sineSetZero 3 f2) 9 (2^18) 0 f2 := by
  unfold stepsApply; decide

theorem wit_StepsApply_9 : stepsApply (st dw) 3 0x90000 4 f2 true true 1 7 3 (.sineSetPhaseReset 3 f2) 9 (2^19) 0 f2 := by
  unfold stepsApply; decide

theorem wit_StepsApply_10 : stepsApply (st dw) 3 0x90000 4 f2 true true 1 7 3 (.gustArm 3 3 f2) 10 3 0 f2 := by
  unfold stepsApply; decide

theorem wit_StepsApply_11 : stepsApply (st dw) 3 0x90000 4 f2 true true 1 7 3 (.gustDisarm 3 f2) 10 (2^19) 0 f2 := by
  unfold stepsApply; decide

theorem wit_StepsApply_12 : stepsApply (st dw) 3 0x90000 4 f2 true true 1 7 3 (.stepEnd 3 f2) 11 0 0 f2 := by
  unfold stepsApply; decide

theorem wit_SelectedStepsTakeEffect_1 : ∃ (d : Dev) (n : ChanId) (x : Selected) (k16 : Idx16),
  (d.role n = 0) ∧
  (¬(stKind (BitVec.toNat x.word) = 11 ∧ stValue (BitVec.toNat x.word) = 1)) ∧
  (stKind (BitVec.toNat x.word) = 9) ∧
  (stValue (BitVec.toNat x.word) = ↑k16) :=
  ⟨dw, 3, (xs 9 3 0), 3, by decide⟩

theorem wit_SelectedStepsTakeEffect_2 : ∃ (d : Dev) (n : ChanId) (x : Selected),
  (d.role n = 0) ∧
  (stKind (BitVec.toNat x.word) = 11) ∧
  (stValue (BitVec.toNat x.word) = 1) ∧
  (∀ (m : ChanId), d.role m = 0) ∧
  ((d.ch n).isArmed = true) ∧
  (d.sysActive = false) :=
  ⟨dw, 3, (xs 11 1 0), by decide⟩

theorem wit_SelectedStepsTakeEffect_3 : ∃ (d : Dev) (n : ChanId) (x : Selected) (k16 : Idx16),
  (d.role n = 0) ∧
  (stKind (BitVec.toNat x.word) = 10) ∧
  (stValue (BitVec.toNat x.word) = ↑k16) ∧
  ((d.ch n).gust.profiles[k16].loaded = false) :=
  ⟨dw, 3, (xs 10 3 0), 3, by decide⟩

theorem wit_SelectedStepsTakeEffect_4 : ∃ (d : Dev) (n : ChanId) (x : Selected),
  (d.role n = 0) ∧
  (stKind (BitVec.toNat x.word) = 9) ∧
  (stValue (BitVec.toNat x.word) = 2 ^ 18) :=
  ⟨dw, 3, (xs 9 (2^18) 0), by decide⟩

theorem wit_SelectedStepsTakeEffect_5 : ∃ (d : Dev) (n : ChanId) (x : Selected),
  (d.role n = 0) ∧
  (stKind (BitVec.toNat x.word) = 9) ∧
  (stValue (BitVec.toNat x.word) = 2 ^ 19) :=
  ⟨dw, 3, (xs 9 (2^19) 0), by decide⟩

theorem wit_SelectedStepsTakeEffect_6 : ∃ (d : Dev) (n : ChanId) (x : Selected),
  (d.role n = 0) ∧
  (stKind (BitVec.toNat x.word) = 10) ∧
  (stValue (BitVec.toNat x.word) = 2 ^ 19) :=
  ⟨dw, 3, (xs 10 (2^19) 0), by decide⟩

end steps

namespace spans

def withWord (w : Word64) (f : Barker → Barker) : Dev := dev1.modCh 3 fun c => c.modBk fun b => f { b with word := w }
def dh := dev1.modCh 3 fun c => c.modBk fun b => { b with heads := b.heads.set 1 ⟨.filling, 7, []⟩, stage := ⟨.filling, 7, []⟩, safeHead := ⟨.filling, 7, []⟩ }
def dj := dev1.modCh 3 fun c => (c.modBk fun b => { b with pend := some ⟨.safeJump, 7, 5, none, []⟩, safeHead := ⟨.ready, 7, [(256, stepWord 3 0 0 fl5)]⟩ }).setReg Obj.SAFE_SEG 7
def dj2 := dev1.modCh 3 fun c => (c.modBk fun b => { b with pend := some ⟨.host, 7, 5, none, []⟩, safeHead := ⟨.ready, 7, [(256, stepWord 3 0 0 fl5)]⟩ }).setReg Obj.SAFE_SEG 7

theorem wit_SpansEnd_1 : ∃ (s : State) (n : ChanId),
  (s.dev.power.released = true) ∧
  (s.dev.calm = true) ∧
  (s.dev.role n = 0) ∧
  ((s.dev.ch n).isArmed = true) ∧
  (s.dev.sysActive = false) ∧
  ((s.dev.ch n).bk.due = true) ∧
  ((s.dev.ch n).bk.held = false) ∧
  ((s.dev.ch n).bk.halt = false) ∧
  (stKind (BitVec.toNat (s.dev.ch n).bk.word) ≠ 5) ∧
  (stKind (BitVec.toNat (s.dev.ch n).bk.word) ≠ 7) ∧
  (stKind (BitVec.toNat (s.dev.ch n).bk.word) ≠ 8) ∧
  (s.dev.inSpool n = false) ∧
  ((s.dev.ch n).bk.addr + 1 < dsStart (s.dev.desc (s.dev.ch n).bk.seg) + dsSteps (s.dev.desc (s.dev.ch n).bk.seg)) ∧
  (s.dev.stepOk n (BitVec.toNat (((s.dev.ch n).bk.held? ((s.dev.ch n).bk.addr + 1)).getD ((List.lookup ((s.dev.ch
    n).bk.addr + 1) (s.dev.ch n).bk.lines).getD (s.dev.step64 ((s.dev.ch n).bk.addr + 1))))) = true ∧ (stKind
    (BitVec.toNat (((s.dev.ch n).bk.held? ((s.dev.ch n).bk.addr + 1)).getD ((List.lookup ((s.dev.ch n).bk.addr + 1)
    (s.dev.ch n).bk.lines).getD (s.dev.step64 ((s.dev.ch n).bk.addr + 1))))) = 6 → (s.dev.ch n).bk.loops.length < 4)) :=
  ⟨(st dev1), 3, by decide⟩

theorem wit_SpansEnd_2 : ∃ (s : State) (n : ChanId),
  (s.dev.power.released = true) ∧
  (s.dev.calm = true) ∧
  (s.dev.role n = 0) ∧
  ((s.dev.ch n).isArmed = true) ∧
  (s.dev.sysActive = false) ∧
  ((s.dev.ch n).bk.due = true) ∧
  ((s.dev.ch n).bk.held = false) ∧
  ((s.dev.ch n).bk.halt = false) ∧
  (stKind (BitVec.toNat (s.dev.ch n).bk.word) = 5) ∧
  (bit (s.dev.ch n).bk.latch (waitInput (BitVec.toNat (s.dev.ch n).bk.word)) = false) ∧
  (s.dev.inSpool n = false) ∧
  ((s.dev.ch n).bk.addr + 1 < dsStart (s.dev.desc (s.dev.ch n).bk.seg) + dsSteps (s.dev.desc (s.dev.ch n).bk.seg)) ∧
  (s.dev.stepOk n (BitVec.toNat (((s.dev.ch n).bk.held? ((s.dev.ch n).bk.addr + 1)).getD ((List.lookup ((s.dev.ch
    n).bk.addr + 1) (s.dev.ch n).bk.lines).getD (s.dev.step64 ((s.dev.ch n).bk.addr + 1))))) = true ∧ (stKind
    (BitVec.toNat (((s.dev.ch n).bk.held? ((s.dev.ch n).bk.addr + 1)).getD ((List.lookup ((s.dev.ch n).bk.addr + 1)
    (s.dev.ch n).bk.lines).getD (s.dev.step64 ((s.dev.ch n).bk.addr + 1))))) = 6 → (s.dev.ch n).bk.loops.length < 4)) :=
  ⟨(st (withWord (stepWord 5 1 0 fl5) id)), 3, by decide⟩

theorem wit_SpansEnd_3 : ∃ (s : State) (n : ChanId) (seg : Nat),
  (s.dev.power.released = true) ∧
  (s.dev.calm = true) ∧
  (s.dev.role n = 0) ∧
  ((s.dev.ch n).isArmed = true) ∧
  (s.dev.sysActive = false) ∧
  ((s.dev.ch n).bk.due = true) ∧
  ((s.dev.ch n).bk.held = false) ∧
  ((s.dev.ch n).bk.halt = false) ∧
  (stKind (BitVec.toNat (s.dev.ch n).bk.word) = 8) ∧
  (s.dev.segAt (stValue (BitVec.toNat (s.dev.ch n).bk.word)) = some seg) ∧
  (dsValid (s.dev.desc seg) = true) ∧
  ((s.dev.ch n).bk.pend = none) ∧
  ((s.dev.ch n).bk.seq = SeqState.playing ∨ (s.dev.ch n).bk.seq = SeqState.waiting) ∧
  (s.dev.inSpool n = false) ∧
  ((s.dev.ch n).bk.addr + 1 < dsStart (s.dev.desc (s.dev.ch n).bk.seg) + dsSteps (s.dev.desc (s.dev.ch n).bk.seg)) ∧
  (s.dev.stepOk n (BitVec.toNat (((s.dev.ch n).bk.held? ((s.dev.ch n).bk.addr + 1)).getD ((List.lookup ((s.dev.ch
    n).bk.addr + 1) (s.dev.ch n).bk.lines).getD (s.dev.step64 ((s.dev.ch n).bk.addr + 1))))) = true ∧ (stKind
    (BitVec.toNat (((s.dev.ch n).bk.held? ((s.dev.ch n).bk.addr + 1)).getD ((List.lookup ((s.dev.ch n).bk.addr + 1)
    (s.dev.ch n).bk.lines).getD (s.dev.step64 ((s.dev.ch n).bk.addr + 1))))) = 6 → (s.dev.ch n).bk.loops.length < 4)) :=
  ⟨(st (withWord (stepWord 8 256 0 fl5) id)), 3, 7, by decide⟩

theorem wit_SpansEnd_4 : ∃ (s : State) (n : ChanId) (l : LoopLevel) (ls : List LoopLevel),
  (s.dev.power.released = true) ∧
  (s.dev.calm = true) ∧
  (s.dev.role n = 0) ∧
  ((s.dev.ch n).isArmed = true) ∧
  (s.dev.sysActive = false) ∧
  ((s.dev.ch n).bk.due = true) ∧
  ((s.dev.ch n).bk.held = false) ∧
  ((s.dev.ch n).bk.halt = false) ∧
  (stKind (BitVec.toNat (s.dev.ch n).bk.word) = 7) ∧
  ((s.dev.ch n).bk.loops = l :: ls) ∧
  (l.count ≠ 1) ∧
  (s.dev.stepOk n (BitVec.toNat ((List.lookup l.start l.head).getD (s.dev.step64 l.start))) = true ∧ (stKind
    (BitVec.toNat ((List.lookup l.start l.head).getD (s.dev.step64 l.start))) = 6 → (s.dev.ch n).bk.loops.length < 4)) ∧
  (l.bound = true) :=
  ⟨(st (withWord (stepWord 7 0 0 fl5) fun b => {b with loops := [⟨3, 16, 2, true, true, true, none, []⟩]})), 3, ⟨3, 16, 2, true, true, true, none, []⟩, [], by decide⟩

theorem wit_SpansEnd_5 : ∃ (s : State) (n : ChanId) (l : LoopLevel) (ls : List LoopLevel),
  (s.dev.power.released = true) ∧
  (s.dev.calm = true) ∧
  (s.dev.role n = 0) ∧
  ((s.dev.ch n).isArmed = true) ∧
  (s.dev.sysActive = false) ∧
  ((s.dev.ch n).bk.due = true) ∧
  ((s.dev.ch n).bk.held = false) ∧
  ((s.dev.ch n).bk.halt = false) ∧
  (stKind (BitVec.toNat (s.dev.ch n).bk.word) = 7) ∧
  ((s.dev.ch n).bk.loops = l :: ls) ∧
  (l.count = 1) ∧
  (s.dev.inSpool n = false) ∧
  ((s.dev.ch n).bk.addr + 1 < dsStart (s.dev.desc (s.dev.ch n).bk.seg) + dsSteps (s.dev.desc (s.dev.ch n).bk.seg)) ∧
  (s.dev.stepOk n (BitVec.toNat ((({ (s.dev.ch n).bk with loops := ls } : Barker).held? ((s.dev.ch n).bk.addr + 1)).getD ((List.lookup ((s.dev.ch n).bk.addr + 1) ({ (s.dev.ch n).bk with loops := ls } : Barker).lines).getD (s.dev.step64 ((s.dev.ch n).bk.addr + 1))))) = true ∧ (stKind (BitVec.toNat ((({ (s.dev.ch n).bk with loops := ls } : Barker).held? ((s.dev.ch n).bk.addr + 1)).getD ((List.lookup ((s.dev.ch n).bk.addr + 1) ({ (s.dev.ch n).bk with loops := ls } : Barker).lines).getD (s.dev.step64 ((s.dev.ch n).bk.addr + 1))))) = 6 → ls.length < 4)) :=
  ⟨(st (withWord (stepWord 7 0 0 fl5) fun b => {b with loops := [⟨1, 16, 2, true, false, true, none, [(17,5)]⟩]})), 3, ⟨1, 16, 2, true, false, true, none, [(17,5)]⟩, [], by decide⟩

theorem wit_HeadsAndSegments_1 : ∃ (s : State) (n : ChanId) (h : Idx4) (seg : BitVec 16),
  (s.dev.power.released = true) ∧
  (dsValid (s.dev.desc seg.toNat) = true ∧ dsType (s.dev.desc seg.toNat) = 0 ∨ seg = 65535) ∧
  ((s.dev.ch n).bk.pend = none) ∧
  (s.dev.calm = true ∧ (s.dev.ch n).bk.seq ≠ SeqState.ended ∧ (s.dev.ch n).bk.dry = false) ∧
  ((s.dev.ch n).bk.heads[h].st = HeadState.filling) ∧
  ((s.dev.ch n).bk.stage.st = HeadState.filling) ∧
  ((s.dev.ch n).bk.safeHead.st = HeadState.filling) ∧
  (dsValid (s.dev.desc seg.toNat) = true ∧ dsType (s.dev.desc seg.toNat) = 0) ∧
  (s.dev.segInUse ((s.dev.ch n).reg Obj.SPOOL_SEG) = false) ∧
  ((s.dev.load.claims.any fun (x : Claim) => x.seg == some ((s.dev.ch n).reg Obj.SPOOL_SEG)) = false) :=
  ⟨(st dh), 3, 1, 7, by decide⟩

theorem wit_HeadsAndSegments_2 : ∃ (s : State) (n : ChanId) (seg : BitVec 16) (word : Word64),
  (s.dev.power.released = true) ∧
  ((s.dev.ch n).isParked = true) ∧
  (seg = 65535 ∨ dsValid (s.dev.desc seg.toNat) = true ∧ dsType (s.dev.desc seg.toNat) = 1 ∧ ∀ (m : ChanId), m ≠ n →
    s.dev.creg m Obj.SPOOL_SEG ≠ seg.toNat) ∧
  (s.dev.segInUse (s.dev.reg Obj.DIR_SEL) = false) ∧
  (s.dev.descOk (s.dev.reg Obj.DIR_SEL) (BitVec.toNat word) = true) :=
  ⟨(st (dh.setReg Obj.DIR_SEL 9)), 4, 0xFFFF, (seg7 + 256), by decide⟩

theorem wit_HeadsAndSegments_3 : ∃ (s : State) (seg : BitVec 16),
  (s.dev.power.released = true) ∧
  (¬(dsValid (s.dev.desc seg.toNat) = true ∧ dsType (s.dev.desc seg.toNat) = 0)) ∧
  (seg ≠ 65535) :=
  ⟨(st dh), 9, by decide⟩

theorem wit_HeadsAndSegments_4 : ∃ (s : State) (n : ChanId) (seg : BitVec 16),
  (s.dev.power.released = true) ∧
  ((s.dev.ch n).isParked = false) ∧
  (seg = 65535) :=
  ⟨(st dh), 3, 0xFFFF, by decide⟩

theorem wit_JumpsAreOfferedAndTaken_1 : ∃ (s : State) (n : ChanId) (j : Jump),
  (s.dev.power.released = true) ∧
  (s.dev.calm = true) ∧
  (s.dev.role n = 0) ∧
  ((s.dev.ch n).isArmed = true) ∧
  ((s.dev.ch n).bk.pend = some j) ∧
  (j.src = JumpSrc.safeJump) ∧
  ((s.dev.ch n).bk.safeHead.st = HeadState.ready) ∧
  ((s.dev.ch n).bk.halt = false) ∧
  ((s.dev.ch n).bk.holdReq = false) ∧
  (s.dev.sysActive = false) ∧
  (s.dev.stepOk n (BitVec.toNat ((List.lookup (dsStart (s.dev.desc ((s.dev.ch n).reg Obj.SAFE_SEG))) (s.dev.ch
    n).bk.safeHead.steps).getD (s.dev.step64 (dsStart (s.dev.desc ((s.dev.ch n).reg Obj.SAFE_SEG)))))) = true) :=
  ⟨(st dj), 3, ⟨.safeJump, 7, 5, none, []⟩, by decide⟩

theorem wit_JumpsAreOfferedAndTaken_2 : ∃ (s : State) (n : ChanId) (seg : BitVec 16),
  (s.dev.power.released = true) ∧
  (s.dev.calm = true) ∧
  (s.dev.role n = 0) ∧
  ((s.dev.ch n).isArmed = true) ∧
  (dsValid (s.dev.desc seg.toNat) = true) ∧
  ((s.dev.ch n).bk.seq = SeqState.playing ∨ (s.dev.ch n).bk.seq = SeqState.waiting) ∧
  ((s.dev.ch n).bk.dry = false) ∧
  ((s.dev.ch n).bk.pend = none) ∧
  (∀ (r : Redo), (s.dev.ch n).redo = some r → r.tick ≠ s.dev.tick) :=
  ⟨(st dev1), 3, 7, by decide⟩

end spans

namespace loops

def lw (u : Nat) : Dev := dev1.modCh 3 fun c => { c with lw := { c.lw with probes := 1016, ticks := [(1000, 1016, 0)], sums := List.replicate 4 ⟨u, (List.range 128).map fun i => (if i < 40 then (3000000000 : Int) - 70000000*i else 0) * u⟩ } }
def rcx (o c : Tick) (m : Bool) : Dev := dev1.modCh 3 fun x => { x with rc := { x.rc with active := true, opened := o, closes := c, made := m } }
def gs (p : Nat) : Dev := dev1.modCh 3 fun c => { c with gust := { c.gust with sched := some (p, 1000, 7), armed := some p, running := some ⟨2, (1000, 3), (1000, 400)⟩, spans := [((1000,3),(1000,400)), ((999,3),(1010,400))] } }
def wmd (st : WmState) (side : Bool) (w : Nat) : Dev := (dev1.modCh 3 fun c => c.modWm 1 fun x => { x with st := st, side := side }).setCreg 3 (Obj.WM_CFG 1) w

theorem wit_CompensationAndLoadWatch_1 : ∃ (s : State) (n : ChanId) (fixed : Bool) (value : BitVec 8),
  (s.dev.power.released = true) ∧
  (s.dev.role n = 0) ∧
  (s.dev.power.released = true ∧ s.dev.fab.atCommit = false) ∧
  ((s.dev.ch n).isParked = false) ∧
  ((s.dev.ch n).comp.stepAt ≠ some s.dev.tick) ∧
  (value.toNat ≤ if fixed = true then 31 else 2) ∧
  (1016 ≤ (s.dev.ch n).lw.probes) ∧
  (∀ x ∈ (s.dev.ch n).lw.ticks, 1016 ≤ x.2.1) ∧
  (9 * 1016 ≤ 10 * (s.dev.ch n).lw.total.n) ∧
  (((s.dev.ch n).lw.estimate (lsbV (s.dev.ch n).force.vrange) (compRs n (s.dev.ch n).comp.now)).nF < 2 ^ 32) :=
  ⟨(st (lw 250)), 3, false, 2, by decide +kernel⟩

theorem wit_CompensationAndLoadWatch_2 : ∃ (s : State) (n : ChanId) (fixed : Bool) (value : BitVec 8),
  (s.dev.power.released = true) ∧
  (s.dev.role n = 0) ∧
  (s.dev.power.released = true ∧ s.dev.fab.atCommit = false) ∧
  ((s.dev.ch n).isParked = true) ∧
  ((if fixed = true then 31 else 2) < value.toNat) :=
  ⟨(st dev0), 3, true, 32, by decide⟩

theorem wit_CompensationAndLoadWatch_3 : ∃ (s : State) (n : ChanId),
  (s.dev.power.released = true) ∧
  (s.dev.role n = 0) ∧
  (1016 ≤ (s.dev.ch n).lw.probes) ∧
  (∀ x ∈ (s.dev.ch n).lw.ticks, 1016 ≤ x.2.1) ∧
  (10 * (s.dev.ch n).lw.total.n < 9 * 1016) :=
  ⟨(st (lw 100)), 3, by decide⟩

theorem wit_RangeWindowsAndGusts_1 : ∃ (s : State) (n : ChanId) (p : Nat) (sub : Nat),
  (s.dev.power.released = true) ∧
  (s.dev.role n = 0) ∧
  (s.dev.power.released = true ∧ s.dev.fab.atCommit = false) ∧
  (¬((s.dev.ch n).rc.active = true ∧ (s.dev.ch n).rc.opened = s.dev.tick)) ∧
  (¬((s.dev.ch n).rc.active = true ∧ reached s.dev.tick (s.dev.ch n).rc.closes = true)) ∧
  ((s.dev.ch n).gust.sched = some (p, s.dev.tick, sub)) ∧
  ((s.dev.ch n).isArmed = true) ∧
  ((s.dev.ch n).force.fi = false) ∧
  ((s.dev.ch n).rc.active = false) ∧
  ((s.dev.ch n).force.irange = ((s.dev.ch n).gust.profile p).irange) :=
  ⟨(st (gs 5)), 3, 5, 7, by decide⟩

theorem wit_RangeWindowsAndGusts_2 : ∃ (s : State) (n : ChanId),
  (s.dev.power.released = true) ∧
  (s.dev.role n = 0) ∧
  ((s.dev.ch n).rc.active = true) ∧
  (reached s.dev.tick (s.dev.ch n).rc.closes = true) :=
  ⟨(st (rcx 997 1000 true)), 3, by decide⟩

theorem wit_RangeWindowsAndGusts_3 : ∃ (s : State) (n : ChanId),
  (s.dev.power.released = true) ∧
  (s.dev.role n = 0) ∧
  (s.dev.power.released = true ∧ s.dev.fab.atCommit = false) ∧
  ((s.dev.ch n).rc.active = true) ∧
  ((s.dev.ch n).rc.opened = s.dev.tick) :=
  ⟨(st (rcx 1000 1003 true)), 3, by decide⟩

theorem wit_RangeWindowsAndGusts_4 : ∃ (s : State) (n : ChanId) (p : Nat) (sub : Nat),
  (s.dev.power.released = true) ∧
  (s.dev.role n = 0) ∧
  (s.dev.power.released = true ∧ s.dev.fab.atCommit = false) ∧
  ((s.dev.ch n).gust.sched = some (p, s.dev.tick, sub)) ∧
  ((s.dev.ch n).isArmed = false ∨ (s.dev.ch n).force.fi = true ∨ (s.dev.ch n).rc.active = true ∨ (s.dev.ch
    n).force.irange ≠ ((s.dev.ch n).gust.profile p).irange) :=
  ⟨(st ((gs 5).modCh 3 fun c => c.modForce fun f => {f with irange := 4})), 3, 5, 7, by decide⟩

theorem wit_WaveCommands_1 : ∃ (s : State) (n : ChanId) (x : Idx16),
  (s.dev.power.released = true) ∧
  (s.dev.calm = true) ∧
  (s.dev.role n = 0) ∧
  ((↑n, Obj.GUST_ARM_CMD) ∉ s.dev.wrote) ∧
  ((s.dev.ch n).gust.profiles[x].loaded = false) ∧
  ((↑n, Obj.SINE_CMD) ∉ s.dev.wrote) ∧
  ((s.dev.ch n).isArmed = false) :=
  ⟨(st dev0), 3, 5, by decide⟩

theorem wit_WaveCommands_2 : ∃ (s : State) (n : ChanId),
  (s.dev.power.released = true) ∧
  (s.dev.calm = true) ∧
  (s.dev.role n = 0) ∧
  ((↑n, Obj.SINE_CMD) ∉ s.dev.wrote) ∧
  ((s.dev.ch n).isArmed = true) :=
  ⟨(st (gs 5)), 3, by decide⟩

theorem wit_MonitorsFollow_1 : ∃ (s : State) (n : ChanId) (m : Idx4) (trip : Bool) (word : BitVec 32),
  (s.dev.power.released = true) ∧
  (s.dev.power.released = true ∧ s.dev.fab.atCommit = false) ∧
  ((s.dev.ch n).wm[m].st = WmState.clear ∨ (s.dev.ch n).wm[m].st = WmState.tripped) ∧
  ((s.dev.ch n).wm[m].side ≠ trip) ∧
  (wmCfgOk m word.toNat = true) ∧
  ((s.dev.ch n).wm[m].suspended = false) :=
  ⟨(st (wmd .clear false 0x80000040)), 3, 1, true, 0x0, by decide⟩

theorem wit_MonitorsFollow_2 : ∃ (s : State) (n : ChanId) (m : Idx4) (trip : Bool),
  (s.dev.power.released = true) ∧
  (s.dev.power.released = true ∧ s.dev.fab.atCommit = false) ∧
  (¬(((s.dev.ch n).wm[m].st = WmState.clear ∨ (s.dev.ch n).wm[m].st = WmState.tripped) ∧ (s.dev.ch n).wm[m].side ≠
    trip)) ∧
  ((s.dev.ch n).wm[m].st = WmState.unknown) ∧
  ((s.dev.ch n).wm[m].suspended = false) ∧
  ((s.dev.ch n).wm[m].dacFail = false) ∧
  ((s.dev.ch n).wm[m].restart ≠ s.dev.tick) :=
  ⟨(st (wmd .unknown true 0x80000000)), 3, 1, false, by decide⟩

theorem wit_MonitorsFollow_3 : ∃ (s : State) (m : Idx4) (word : BitVec 32),
  (s.dev.power.released = true) ∧
  (wmCfgOk m word.toNat = false) :=
  ⟨(st (wmd .tripped true 0x80000000)), 1, 0xFFFFFFFF, by decide⟩

end loops

namespace engines

def dE : Dev := (dev1.modCh 3 fun c => c.modEngine 6 fun e => { e with regs := e.regs.set 4 (BitVec.ofInt 48 (-7)) |>.set 5 123456 , acc0 := 99, cyc := 475 }).modCh 3 fun c => { c with eng := { c.eng with chips := 1 } }
def dEs : Dev := (dev1.modCh 3 fun c => c.modEngine 6 fun e => { e with regs := e.regs.set 4 (BitVec.ofInt 48 (-7)) |>.set 5 123456 , cyc := 479 })

theorem wit_EngineArithmetic_1 : ∃ (s : State) (n : ChanId) (k : Fin 8),
  (s.dev.power.released = true ∧ s.dev.fab.atCommit = false) ∧ s.dev.engReady n k 1 = true :=
  ⟨(st dEs), 3, 6, by decide⟩

theorem wit_EngineBitsAndFields_1 : ∃ (s : State) (n : ChanId) (k : Fin 8) (count : BitVec 6) (msb : BitVec 6) (lsb :
    BitVec 6) (width : BitVec 6),
  ((s.dev.power.released = true ∧ s.dev.fab.atCommit = false) ∧ s.dev.engReady n k 1 = true) ∧
  (count.toNat ≤ 47) ∧
  (lsb.toNat ≤ msb.toNat) ∧
  (msb.toNat ≤ 47) ∧
  (2 ≤ width.toNat) ∧
  (width.toNat ≤ 48) :=
  ⟨(st dEs), 3, 6, 0, 3, 3, 2, by decide⟩

theorem wit_EngineMovesTablesAndPorts_1 : ∃ (s : State) (n : ChanId) (k : Fin 8) (b : Idx16) (region : BitVec 2)
    (offset : BitVec 12) (count : BitVec 9) (addr : Nat),
  ((s.dev.power.released = true ∧ s.dev.fab.atCommit = false) ∧ s.dev.engReady n k 1 = true) ∧
  ((s.dev.power.released = true ∧ s.dev.fab.atCommit = false) ∧ s.dev.engReady n k (count.toNat + 1) = true) ∧
  ((s.dev.power.released = true ∧ s.dev.fab.atCommit = false) ∧ s.dev.engReady n k 2 = true) ∧
  (scrAddress n k region.toNat offset.toNat (↑b == 0) false false ((s.dev.engine n k).x b) = some addr) ∧
  ((s.dev.power.released = true ∧ s.dev.fab.atCommit = false) ∧ s.dev.engReady n k 3 = true) ∧
  ((s.dev.power.released = true ∧ s.dev.fab.atCommit = false) ∧ s.dev.engReady n k 5 = true) :=
  ⟨(st dE), 3, 6, 0, 0, 63, 4, (0x300*3+0x40*6+63), by decide⟩

theorem wit_EngineProductsAndAccumulators_1 : ∃ (s : State) (n : ChanId) (k : Fin 8),
  ((s.dev.power.released = true ∧ s.dev.fab.atCommit = false) ∧ s.dev.engReady n k 2 = true) ∧
  ((s.dev.power.released = true ∧ s.dev.fab.atCommit = false) ∧ s.dev.engReady n k 1 = true) :=
  ⟨(st dE), 3, 6, by decide⟩

theorem wit_EngineStoresAndOutputs_1 : ∃ (s : State) (n : ChanId) (k : Fin 8) (b : Idx16) (port : BitVec 8) (region :
    BitVec 2) (offset : BitVec 12) (addr : Nat) (f2 : Bool),
  ((s.dev.power.released = true ∧ s.dev.fab.atCommit = false) ∧ s.dev.engReady n k 1 = true) ∧
  (scrAddress n k region.toNat offset.toNat (↑b == 0) true (capCal (s.dev.capsOf n k)) ((s.dev.engine n k).x b) = some
    addr) ∧
  (storeGranted region.toNat (regionOf n k region.toNat).1 addr (s.dev.capsOf n k) = true) ∧
  (∀ y ∈ s.dev.mem.stores, y.key = 8192 * ↑(stallOf n) + addr → y.cyc < (s.dev.engine n k).cyc ∨ y.cyc = (s.dev.engine
    n k).cyc ∧ y.te < teOf n k) ∧
  (outGranted port.toNat (s.dev.capsOf n k) = true) ∧
  (f2 = true → capFault2 (s.dev.capsOf n k) = true) :=
  ⟨(st dE), 3, 6, 0, 0x85, 0, 0, (0x300*3+0x40*6), false, by decide⟩

theorem wit_EngineCorrelator_1 : ∃ (s : State) (n : ChanId),
  ((s.dev.power.released = true ∧ s.dev.fab.atCommit = false) ∧ s.dev.engReady n 6 1 = true) ∧
  ((s.dev.power.released = true ∧ s.dev.fab.atCommit = false) ∧ s.dev.engReady n 6 2 = true) :=
  ⟨(st dE), 3, by decide⟩

end engines

namespace measure

def ra : Running := .of .regular 0 0x1400 (1000,0) (1000,20)
def mA : Dev := dev1.modCh 3 fun c => { c with mv := { c.mv with run := some ra } }
def mAr : Dev := dev1.modCh 3 fun c => { c with force := { c.force with st := .arming } }
def mB : Dev := dev1.modCh 3 fun c => { c with mv := { c.mv with injAt := some (1000, 100) } }
def mC : Dev := { dev0 with tick := 1004, power := { dev0.power with analogUp := true } }
def mC' : Dev := { mC with tick := 1011 }
def mB1 : Dev := dev1.modSt 0 fun x => { x with bufferOn := some 3, auxPos := 0, regs := [(2, 0x5074)] }
def mB2 (ph : OwPhase) (k : Nat) : Dev := (dev1.modSt 0 fun x => { x with bufferOn := some 3, auxPos := 0, regs := sput 0 [] (Obj.AUX_SLOT 0) 0x2000 }).modCh 3 fun c => { c with ow := { c.ow with phase := ph, settled := true, taken := k, since := 900, aPos := 60, aNeg := -40, bPos := 10, bNeg := 5 }, regs := sput 0 (sput 0 c.regs Obj.OW_RESULT 8) Obj.OW_EN 1 }
def mE : Dev := dev1.modCh 3 fun c => { c with regs := sput 0 c.regs Obj.OW_EN 1 }
def mF (ph : OwPhase) : Dev := mE.modCh 3 fun c => { c with ow := { c.ow with phase := ph, since := 900, aPos := 60, aNeg := -40, bPos := 10, bNeg := 5 }, regs := sput 0 c.regs Obj.OW_RESULT 8 }
def mG : Dev := dev0.setSreg 2 Obj.REFX_EN 1
def mH : Dev := (dev0.setSreg 2 Obj.REFX_EN 1).setSreg 2 Obj.REF_SEL 1

theorem wit_ConversionsBeginAndEnd_1 : ∃ (s : State) (n : ChanId) (mi : Bool),
  (s.dev.power.released = true ∧ s.dev.fab.atCommit = false) ∧
  (s.dev.role n = 0) ∧
  (s.dev.sysActive = false) ∧
  ((s.dev.ch n).force.st = ChState.parked) ∧
  (((s.dev.ch n).conv mi).injAt = none) ∧
  (((s.dev.ch n).conv mi).pulses = []) ∧
  (((s.dev.ch n).conv mi).run = none) ∧
  (s.dev.analogOn = true) ∧
  ((s.dev.ch n).converts = false) ∧
  (((s.dev.ch n).conv mi).injSlot = none) ∧
  (((s.dev.ch n).conv mi).deferred = false) ∧
  ((BitVec.toNat s.dev.tick + (4 * ↑n + b2n mi)) % 16 ≠ 0) :=
  ⟨(st mC), 3, false, by decide⟩

theorem wit_ConversionsBeginAndEnd_2 : ∃ (s : State) (n : ChanId) (mi : Bool) (second : Bool) (x : Tick × Nat),
  (s.dev.power.released = true ∧ s.dev.fab.atCommit = false) ∧
  (s.dev.role n = 0) ∧
  (s.dev.sysActive = false) ∧
  ((s.dev.ch n).converts = true) ∧
  (hdrEvent mi (planHdr (s.dev.ch n) (s.dev.ch n).force.plan) = false) ∧
  (hdrLen mi (planHdr (s.dev.ch n) (s.dev.ch n).force.plan) ≠ 0) ∧
  (second = true → tmPh1 (planTiming (s.dev.ch n) mi (s.dev.ch n).force.plan) ≠ 255) ∧
  (((s.dev.ch n).conv mi).injSlot = none) ∧
  (s.dev.stolen n mi = false) ∧
  (((s.dev.ch n).conv mi).run = none) ∧
  (((s.dev.ch n).conv mi).injAt = some x) ∧
  (x.1 = s.dev.tick) ∧
  (((s.dev.ch n).conv mi).waits = []) ∧
  (((s.dev.ch n).conv mi).pulses = []) ∧
  ((List.filter (fun (x_1 : Tick) => x_1 == (((s.dev.ch n).conv mi).acquireAt x).1) ((s.dev.ch n).conv
    mi).begun).length < 2) :=
  ⟨(st mB), 3, false, false, (1000,100), by decide⟩

theorem wit_ConversionsBeginAndEnd_3 : ∃ (s : State) (n : ChanId) (mi : Bool) (cyc : Cycle) (r : Running),
  (s.dev.power.released = true ∧ s.dev.fab.atCommit = false) ∧
  (s.dev.role n = 0) ∧
  (s.dev.sysActive = false) ∧
  (((s.dev.ch n).conv mi).run = some r) ∧
  (before (s.dev.tick, ↑cyc) r.stop = true) :=
  ⟨(st mA), 3, false, ⟨4, by decide⟩, ra, by decide⟩

theorem wit_ConversionsBeginAndEnd_4 : ∃ (s : State) (n : ChanId) (mi : Bool),
  (s.dev.power.released = true ∧ s.dev.fab.atCommit = false) ∧
  (s.dev.role n = 0) ∧
  (s.dev.sysActive = false) ∧
  (s.dev.analogOn = true) ∧
  ((s.dev.ch n).converts = false) ∧
  (((s.dev.ch n).conv mi).injSlot = none) ∧
  (((s.dev.ch n).conv mi).deferred = false) ∧
  (((s.dev.ch n).conv mi).run = none) ∧
  (((s.dev.ch n).conv mi).pulses = []) ∧
  ((BitVec.toNat s.dev.tick + (4 * ↑n + b2n mi)) % 16 = 0) :=
  ⟨(st mC'), 3, true, by decide⟩

theorem wit_ConversionsBeginAndEnd_5 : ∃ (s : State) (n : ChanId),
  (s.dev.power.released = true ∧ s.dev.fab.atCommit = false) ∧
  (s.dev.role n = 0) ∧
  (s.dev.sysActive = false) ∧
  ((s.dev.ch n).force.st = ChState.arming) ∧
  ((s.dev.ch n).mv.run = none) :=
  ⟨(st mAr), 3, by decide⟩

theorem wit_ConversionsBeginAndEnd_6 : ∃ (s : State) (n : ChanId) (mi : Bool) (cyc : Cycle) (r : Running),
  (s.dev.power.released = true ∧ s.dev.fab.atCommit = false) ∧
  (s.dev.role n = 0) ∧
  (s.dev.sysActive = false) ∧
  (((s.dev.ch n).conv mi).run = some r) ∧
  (r.kind = ConvKind.regular) ∧
  (((s.dev.ch n).conv mi).waits = []) ∧
  (((s.dev.ch n).conv mi).pulses = []) ∧
  (before (s.dev.tick, ↑cyc) r.stop = false) :=
  ⟨(st mA), 3, false, ⟨400, by decide⟩, ra, by decide⟩

theorem wit_AuxWindowsAndOpenWireChecks_1 : ∃ (s : State) (n : ChanId) (st : StallId),
  (s.dev.power.released = true ∧ s.dev.fab.atCommit = false) ∧
  ((s.dev.st st).bufferOn = none) ∧
  (s.dev.power.released = true) ∧
  (s.dev.owNext (stallOf n) = some n) ∧
  (∀ m ∈ chansOf (stallOf n), (s.dev.ch m).ow.phase = OwPhase.idle) ∧
  (s.dev.sreg (stallOf n) Obj.OW_SETTLE ≤ ticksFrom (s.dev.ch n).ow.since s.dev.tick) ∧
  ((s.dev.ch n).ow.phase ≠ OwPhase.readNeg) :=
  ⟨(st mE), 3, 0, by decide⟩

theorem wit_AuxWindowsAndOpenWireChecks_2 : ∃ (s : State) (n : ChanId) (st : StallId),
  (s.dev.power.released = true ∧ s.dev.fab.atCommit = false) ∧
  ((s.dev.st st).bufferOn.isSome = true) ∧
  ((s.dev.st st).auxInj = none) ∧
  ((s.dev.st st).auxPulses = []) ∧
  ((s.dev.st st).resQ = []) ∧
  (natBits (s.dev.sreg st (Obj.AUX_SLOT ((s.dev.st st).auxPos % max 1 (s.dev.sreg st Obj.AUX_LEN)))) 15 12 = 5) ∧
  (s.dev.power.released = true) ∧
  (s.dev.owEligible n = false) :=
  ⟨(st mB1), 3, 0, by decide⟩

theorem wit_AuxWindowsAndOpenWireChecks_3 : ∃ (s : State) (n : ChanId),
  (s.dev.power.released = true) ∧
  ((s.dev.ch n).ow.phase = OwPhase.readNeg) ∧
  (s.dev.calm = true) ∧
  ((s.dev.ch n).reg Obj.OW_RESULT = 8) ∧
  ((s.dev.ch n).ow.aPos - (s.dev.ch n).ow.aNeg ≤ 200 * ↑((s.dev.ch n).reg Obj.OW_LIMIT)) ∧
  ((s.dev.ch n).ow.bPos - (s.dev.ch n).ow.bNeg ≤ 200 * ↑((s.dev.ch n).reg Obj.OW_LIMIT)) :=
  ⟨(st (mF .readNeg)), 3, by decide⟩

theorem wit_AuxWindowsAndOpenWireChecks_4 : ∃ (s : State) (n : ChanId) (st : StallId),
  (s.dev.power.released = true ∧ s.dev.fab.atCommit = false) ∧
  ((s.dev.st st).bufferOn.isSome = true) ∧
  ((s.dev.st st).auxInj = none) ∧
  ((s.dev.st st).auxPulses = []) ∧
  ((s.dev.st st).resQ = []) ∧
  (natBits (s.dev.sreg st (Obj.AUX_SLOT ((s.dev.st st).auxPos % max 1 (s.dev.sreg st Obj.AUX_LEN)))) 15 12 = 2) ∧
  (s.dev.owReady st = some n) ∧
  ((s.dev.ch n).ow.phase = OwPhase.settleNeg) :=
  ⟨(st (mB2 .settleNeg 0)), 3, 0, by decide⟩

theorem wit_AuxWindowsAndOpenWireChecks_5 : ∃ (s : State) (n : ChanId) (st : StallId),
  (s.dev.power.released = true ∧ s.dev.fab.atCommit = false) ∧
  ((s.dev.st st).bufferOn.isSome = true) ∧
  ((s.dev.st st).auxInj = none) ∧
  ((s.dev.st st).auxPulses = []) ∧
  ((s.dev.st st).resQ = []) ∧
  (natBits (s.dev.sreg st (Obj.AUX_SLOT ((s.dev.st st).auxPos % max 1 (s.dev.sreg st Obj.AUX_LEN)))) 15 12 = 2) ∧
  (s.dev.owReady st = some n) ∧
  ((s.dev.ch n).ow.phase = OwPhase.settlePos) :=
  ⟨(st (mB2 .settlePos 0)), 3, 0, by decide⟩

theorem wit_ReferencesAreSelected_1 : ∃ (s : State) (st : StallId) (v : Bool),
  (s.dev.power.released = true) ∧
  (v = true → s.dev.sreg st Obj.REFX_EN ≠ 0) ∧
  (s.dev.stallParked st = true) ∧
  (v = false) ∧
  (s.dev.sreg st Obj.REF_SEL = 1) :=
  ⟨(st mH), 2, false, by decide⟩

theorem wit_ReferencesAreSelected_2 : ∃ (s : State) (st : StallId) (v : Bool),
  (s.dev.power.released = true) ∧
  (v = true ∧ s.dev.sreg st Obj.REFX_EN = 0 ∨ s.dev.stallParked st = false) ∧
  (v = true ∨ s.dev.sreg st Obj.REF_SEL ≠ 1) :=
  ⟨(st dev0), 2, true, by decide⟩

end measure

namespace results

def cfgT (op cl re : Nat) : Nat := op * 2^28 + cl*2^24 + re*2^23 + 0xFF0
def rT (o : Bool) (cf : Nat) : Dev := dev1.modCh 3 fun c =>
  let t : Tally := { Tally.reset with isOpen := o, openTick := 900, unheld := 100, rangeV := (c.sourceRange cf).1, range := (c.sourceRange cf).2, count := 5 }
  { c with tally := (c.tally.set 2 t).set 5 t, regs := [(Obj.TALLY_CFG 2, cf), (Obj.TALLY_CFG 5, cf)] ++ [(Obj.TALLY_N 2, 100)] }
def rF (full : Bool) : Dev := { dev1 with fifo := { dev1.fifo with key := [1,2,3], group := [[1,2],[3]], groupTick := 5, readCnt := 2, entries := if full then List.replicate 16384 (.record 0 []) else [.record 0 [1,2], .record 1 [3]] } }
def rG : Dev := (rF false).setReg Obj.FLUSH_TICKS 100
def rH : Dev := { rF false with fifo := { (rF false).fifo with endWait := some ⟨true⟩ } }
def rI : Dev := { rF false with sec := { (rF false).sec with debug := 3 } }

theorem wit_HostTallyCommands_1 : ∃ (s : State) (n : ChanId) (units : BitVec 16),
  (s.dev.power.released = true) ∧
  (s.dev.sysActive = false) ∧
  ((∀ (u : Idx16), (s.dev.ch n).dayOf u s.dev.tick = { before := (s.dev.ch n).tally[u], ev := TallyEv.none, ignored := 0 }) ∧ ∀ r ∈ (s.dev.ch n).recs, r.closed ≠ s.dev.tick) ∧
  (∀ (u : Idx16), bit units ↑u = true → tcClose ((s.dev.ch n).reg (Obj.TALLY_CFG ↑u)) = 3 ∧ tcReopen ((s.dev.ch n).reg
    (Obj.TALLY_CFG ↑u)) = false ∧ (s.dev.ch n).tally[u].isOpen = true) ∧
  (∀ (u : Idx16), (s.dev.ch n).tally[u].isOpen = true → ((s.dev.ch n).tally[u].rangeV, (s.dev.ch n).tally[u].range) =
    (s.dev.ch n).sourceRange ((s.dev.ch n).reg (Obj.TALLY_CFG ↑u))) ∧
  (∀ (u : Idx16), bit units ↑u = true → (s.dev.ch n).tally[u].isOpen = true ∨ (s.dev.ch n).tally[u] = Tally.reset) :=
  ⟨(st (rT true (cfgT 4 3 0))), 3, 0x4, by decide⟩

theorem wit_HostTallyCommands_2 : ∃ (s : State) (n : ChanId) (units : BitVec 16),
  (s.dev.power.released = true) ∧
  (s.dev.sysActive = false) ∧
  ((∀ (u : Idx16), (s.dev.ch n).dayOf u s.dev.tick = { before := (s.dev.ch n).tally[u], ev := TallyEv.none, ignored := 0 }) ∧ ∀ r ∈ (s.dev.ch n).recs, r.closed ≠ s.dev.tick) ∧
  (∀ (u : Idx16), bit units ↑u = true → tcOpen ((s.dev.ch n).reg (Obj.TALLY_CFG ↑u)) = 4 ∧ (s.dev.ch
    n).tally[u].isOpen = false) ∧
  ((s.dev.ch n).mayOpen = true) :=
  ⟨(st (rT false (cfgT 4 3 0))), 3, 0x24, by decide⟩

theorem wit_TalliesCloseAndAreReconfigured_1 : ∃ (s : State) (n : ChanId) (u : Idx16) (w : TallyWord) (value : BitVec 32),
  (s.dev.power.released = true) ∧
  (s.dev.sysActive = false) ∧
  ((s.dev.ch n).dayOf u s.dev.tick = { before := (s.dev.ch n).tally[u], ev := TallyEv.none, ignored := 0 }) ∧
  (∀ r ∈ (s.dev.ch n).recs, r.closed ≠ s.dev.tick) ∧
  ((s.dev.ch n).tally[u].isOpen = true) ∧
  (tcClose ((s.dev.ch n).reg (Obj.TALLY_CFG ↑u)) = 2) ∧
  ((s.dev.ch n).reg (Obj.TALLY_N ↑u) ≤ (s.dev.ch n).tally[u].unheld) ∧
  (tcReopen ((s.dev.ch n).reg (Obj.TALLY_CFG ↑u)) = true) ∧
  ((s.dev.ch n).mayOpen = true) ∧
  (((s.dev.ch n).tally[u].rangeV, (s.dev.ch n).tally[u].range) = (s.dev.ch n).sourceRange ((s.dev.ch n).reg
    (Obj.TALLY_CFG ↑u))) ∧
  (ticksFrom (s.dev.ch n).tally[u].openTick s.dev.tick < 4294967295) ∧
  ((s.dev.ch n).tallyWordOk w u value.toNat = false) :=
  ⟨(st (rT true (cfgT 4 2 1))), 3, 2, .ticks, 0, by decide⟩

theorem wit_TalliesCloseAndAreReconfigured_2 : ∃ (s : State) (n : ChanId) (u : Idx16) (w : TallyWord) (value : BitVec 32),
  (s.dev.power.released = true) ∧
  (s.dev.sysActive = false) ∧
  ((s.dev.ch n).dayOf u s.dev.tick = { before := (s.dev.ch n).tally[u], ev := TallyEv.none, ignored := 0 }) ∧
  (∀ r ∈ (s.dev.ch n).recs, r.closed ≠ s.dev.tick) ∧
  ((s.dev.ch n).tally[u].isOpen = true) ∧
  (tcClose ((s.dev.ch n).reg (Obj.TALLY_CFG ↑u)) = 2) ∧
  ((s.dev.ch n).reg (Obj.TALLY_N ↑u) ≤ (s.dev.ch n).tally[u].unheld) ∧
  (tcReopen ((s.dev.ch n).reg (Obj.TALLY_CFG ↑u)) = false) ∧
  (((s.dev.ch n).tally[u].rangeV, (s.dev.ch n).tally[u].range) = (s.dev.ch n).sourceRange ((s.dev.ch n).reg
    (Obj.TALLY_CFG ↑u))) ∧
  ((s.dev.ch n).tallyWordOk w u value.toNat = true) ∧
  ((s.dev.ch n).unitsIn.tick = s.dev.tick → (s.dev.ch n).unitsIn.events u (if w = TallyWord.cfg then value.toNat else
    (s.dev.ch n).reg (Obj.TALLY_CFG ↑u)) = TallyEv.none) :=
  ⟨(st (rT true (cfgT 4 2 0))), 3, 2, .ticks, 77, by decide⟩

theorem wit_TalliesCloseAndAreReconfigured_3 : ∃ (s : State) (n : ChanId) (u : Idx16),
  (s.dev.power.released = true) ∧
  (s.dev.sysActive = false) ∧
  ((s.dev.ch n).dayOf u s.dev.tick = { before := (s.dev.ch n).tally[u], ev := TallyEv.none, ignored := 0 }) ∧
  (∀ r ∈ (s.dev.ch n).recs, r.closed ≠ s.dev.tick) ∧
  ((s.dev.ch n).tally[u].unheld < (s.dev.ch n).reg (Obj.TALLY_N ↑u)) :=
  ⟨(st (rT true (cfgT 4 2 1))), 3, 5, by decide⟩

theorem wit_TalliesCloseAndAreReconfigured_4 : ∃ (s : State) (n : ChanId) (u : Idx16),
  (s.dev.power.released = true) ∧
  (s.dev.sysActive = false) ∧
  ((s.dev.ch n).dayOf u s.dev.tick = { before := (s.dev.ch n).tally[u], ev := TallyEv.none, ignored := 0 }) ∧
  (∀ r ∈ (s.dev.ch n).recs, r.closed ≠ s.dev.tick) ∧
  ((s.dev.ch n).tally[u].isOpen = true) ∧
  (4294967295 ≤ ticksFrom (s.dev.ch n).tally[u].openTick s.dev.tick) ∧
  (((s.dev.ch n).tally[u].rangeV, (s.dev.ch n).tally[u].range) = (s.dev.ch n).sourceRange ((s.dev.ch n).reg
    (Obj.TALLY_CFG ↑u))) :=
  ⟨(st {rT true (cfgT 4 2 1) with tick := 899}), 3, 2, by decide⟩

theorem wit_BlocksSessionsAndAcknowledgement_1 : ∃ (s : State) (count : BitVec 16),
  (s.dev.power.released = true) ∧
  (s.dev.fifo.group ≠ []) ∧
  (0 < s.dev.fifo.free) ∧
  (s.dev.reg Obj.FLUSH_TICKS ≤ ticksFrom s.dev.fifo.groupTick s.dev.tick) ∧
  (s.dev.sec.debug ≠ 3) ∧
  (s.dev.sec.drbgFail = false) ∧
  (s.dev.fifo.key ≠ []) ∧
  (s.dev.fifo.endWait = none) ∧
  (s.dev.fifo.endWait = none ∨ s.dev.fifo.free = 0) ∧
  (count.toNat = 0 ∨ min 16 s.dev.fifo.readCnt < count.toNat) :=
  ⟨(st rG), 3, by decide⟩

theorem wit_BlocksSessionsAndAcknowledgement_2 : ∃ (s : State),
  (s.dev.power.released = true) ∧
  (s.dev.fifo.group = [] ∨ ticksFrom s.dev.fifo.groupTick s.dev.tick < s.dev.reg Obj.FLUSH_TICKS) ∧
  (s.dev.sec.debug = 3) :=
  ⟨(st rI), by decide⟩

theorem wit_BlocksSessionsAndAcknowledgement_3 : ∃ (s : State) (roll : Bool),
  (s.dev.power.released = true) ∧
  (s.dev.fifo.endWait = some { roll := roll }) ∧
  (0 < s.dev.fifo.free) :=
  ⟨(st rH), true, by decide⟩

theorem wit_BlocksSessionsAndAcknowledgement_4 : ∃ (s : State),
  (s.dev.power.released = true) ∧
  (s.dev.fifo.group = []) ∧
  (s.dev.sec.debug ≠ 3) :=
  ⟨(st dev1), by decide⟩

theorem wit_BlocksSessionsAndAcknowledgement_5 : ∃ (s : State) (count : BitVec 16),
  (s.dev.power.released = true) ∧
  (1 ≤ count.toNat) ∧
  (count.toNat ≤ min 16 s.dev.fifo.readCnt) :=
  ⟨(st (rF false)), 2, by decide⟩

end results

namespace faults

def fS : Dev := dev1.modCh 3 fun c => { c with force := { c.force with st := .safe, safeTick := 999 } }
def fQ : Dev := { dev1 with flt := { dev1.flt with queue := [⟨0x0901, 1, .stall, 2, 5, 998, 0⟩] } }
def fL : Dev := { ((dev1.modSt 2 fun x => { x with f3 := [0x0109] }).modSt 3 fun x => { x with f5 := [0x0D03], f3 := [0x0D03] }) with flt := { dev1.flt with f4 := [0x0D02] } }
def fP : Dev := fL.mapCh fun n c => { c with force := { c.force with st := .parked, latch := true } }
def fSi : Dev := dev1.modSt 0 fun x => { x with silentAt := some 1000, silentDie := 2 }
def fSi8 : Dev := dev1.modSt 0 fun x => { x with silentAt := some 1001, silentDie := 8 }
def fSi9 : Dev := dev1.modSt 0 fun x => { x with uncorr := List.replicate 17 1000 }

theorem wit_LastResortActsOnItsStall_1 : ∃ (s : State) (st : StallId) (n : ChanId) (tj : Int) (cyc : Cycle),
  (s.dev.power.released = true ∧ s.dev.fab.atCommit = false) ∧
  ((s.dev.st st).silentDie < 8) ∧
  (tj < 1450) ∧
  ((s.dev.ch n).force.st = ChState.safe) ∧
  (s.dev.calm = true) ∧
  (10 < ↑cyc) ∧
  (s.dev.power.released = true) ∧
  ((s.dev.ch n).force.confirmed = false) ∧
  ((s.dev.ch n).force.safeTick + 1 = s.dev.tick) :=
  ⟨(st fS), 1, 3, 3, ⟨40, by decide⟩, by decide⟩

theorem wit_LastResortActsOnItsStall_2 : ∃ (s : State) (st : StallId) (n : ChanId),
  (s.dev.power.released = true ∧ s.dev.fab.atCommit = false) ∧
  (s.dev.silentRun st (s.dev.st st).silentDie = true) ∧
  ((s.dev.ch n).force.st ≠ ChState.safe) ∧
  ((s.dev.ch n).eng.setNow ≠ 63) ∧
  (s.dev.power.released = true) ∧
  ((s.dev.ch n).force.st ≠ ChState.safe ∨ (s.dev.ch n).force.confirmed = true ∨ (s.dev.ch n).force.safeTick + 1 ≠
    s.dev.tick) :=
  ⟨(st fSi8), 0, 3, by decide⟩

theorem wit_LastResortActsOnItsStall_3 : ∃ (s : State) (tj : Int),
  (s.dev.power.released = true ∧ s.dev.fab.atCommit = false) ∧
  (1450 ≤ tj) :=
  ⟨(st dev1), 1455, by decide⟩

theorem wit_QueuedFaultsAndClearing_1 : ∃ (s : State) (mask : BitVec 32) (value : BitVec 32),
  (s.dev.power.released = true) ∧
  (s.dev.calm = true) ∧
  (s.dev.clearRefused mask = true) ∧
  (value ≠ 1953720680) :=
  ⟨(st fL), 0x804, 0x746968, by decide⟩

theorem wit_QueuedFaultsAndClearing_2 : ∃ (s : State) (q : FaultRec),
  (s.dev.power.released = true) ∧
  (s.dev.flt.due = []) ∧
  (s.dev.flt.escal = none) ∧
  (s.dev.flt.queue = [q]) ∧
  (q.cls ≤ 1) ∧
  (s.dev.flt.active = []) ∧
  (s.dev.flt.log = []) :=
  ⟨(st fQ), ⟨0x0901, 1, .stall, 2, 5, 998, 0⟩, by decide⟩

theorem wit_QueuedFaultsAndClearing_3 : ∃ (s : State) (mask : BitVec 32),
  (s.dev.power.released = true) ∧
  (s.dev.calm = true) ∧
  (s.dev.clearRefused mask = false) :=
  ⟨(st fP), 0x800, by decide⟩

theorem wit_QueuedFaultsAndClearing_4 : ∃ (s : State) (value : BitVec 32),
  (s.dev.power.released = true) ∧
  (value = 1953720680) :=
  ⟨(st dev1), 0x74736968, by decide⟩

theorem wit_BrokenLinkWordsHoldTicks_1 : ∃ (s : State) (st : StallId) (die : Bool),
  (s.dev.power.released = true ∧ s.dev.fab.atCommit = false) ∧
  (∀ (n : ChanId), s.dev.role n = 0) ∧
  (∀ (n : ChanId), (s.dev.ch n).isSafe = false) ∧
  (∀ (n : ChanId), (s.dev.ch n).lost = none) ∧
  ((s.dev.st st).silentAt = some s.dev.tick) ∧
  (die = true) ∧
  (s.dev.linkFails st = false) :=
  ⟨(st fSi), 0, true, by decide⟩

theorem wit_BrokenLinkWordsHoldTicks_2 : ∃ (s : State) (st : StallId) (die : Bool) (ctl : Bool),
  (s.dev.power.released = true ∧ s.dev.fab.atCommit = false) ∧
  (∀ (n : ChanId), s.dev.role n = 0) ∧
  (∀ (n : ChanId), (s.dev.ch n).isSafe = false) ∧
  (∀ (n : ChanId), (s.dev.ch n).lost = none) ∧
  (die = true ∨ ctl = true) ∧
  ((s.dev.st st).silentAt ≠ some s.dev.tick) ∧
  ((s.dev.st st).silentAt ≠ some (s.dev.tick + 1)) ∧
  (s.dev.linkFails st = true) :=
  ⟨(st fSi9), 0, true, false, by decide⟩

end faults

namespace memories

def mmL : Dev := { dev1 with mem := { dev1.mem with replay := [⟨7, 0, 2, 5⟩] } }
def mmS : Dev := dev1.modCh 3 fun c => { c with bk := { c.bk with stuckAddr := some 2, stuckRun := 1000 } }
def mmE : Dev := dev1.modCh 3 fun c => { c with eng := { c.eng with refetch := some 990, restore := some 980, budget := List.replicate 16 990 } }
def mmM : Dev := { dev1.setReg Obj.MARCH_EN 7 with mem := { dev1.mem with borrows := [⟨0, 0, 1000, true⟩] } }
def mmO : Dev := dev1.setReg Obj.MARCH_EN 7

theorem wit_LedgerParityIsListedAndHeld_1 : ∃ (s : State) (n : ChanId) (line : BitVec 17),
  (s.dev.power.released = true) ∧
  (s.dev.calm = true) ∧
  (s.dev.power.released = true ∧ s.dev.fab.atCommit = false) ∧
  (s.dev.mem.replay.length < 64) ∧
  ((s.dev.mem.replay.any fun (x : ReplayEntry) => x.line == line.toNat) = false) ∧
  ((s.dev.ch n).bk.addr / 8 = line.toNat) ∧
  ((s.dev.ch n).bk.seq = SeqState.playing) ∧
  ((s.dev.ch n).bk.stuckAddr = none) :=
  ⟨(st dev1), 3, 2, by decide⟩

theorem wit_LedgerParityIsListedAndHeld_2 : ∃ (s : State) (line : BitVec 17),
  (s.dev.power.released = true) ∧
  (s.dev.calm = true) ∧
  (s.dev.power.released = true ∧ s.dev.fab.atCommit = false) ∧
  ((s.dev.mem.replay.any fun (x : ReplayEntry) => x.line == line.toNat) = true) :=
  ⟨(st mmL), 7, by decide⟩

theorem wit_LedgerParityIsListedAndHeld_3 : ∃ (s : State) (n : ChanId) (line : BitVec 17),
  (s.dev.power.released = true) ∧
  (s.dev.calm = true) ∧
  ((s.dev.ch n).bk.stuckAddr = some line.toNat) ∧
  (1000 ≤ (s.dev.ch n).bk.stuckRun) ∧
  ((s.dev.ch n).isArmed = true) ∧
  (s.dev.role n = 0) :=
  ⟨(st mmS), 3, 2, by decide⟩

theorem wit_ProgramsAndScratchpadRecover_1 : ∃ (s : State) (n : ChanId) (st : StallId) (word : BitVec 16) (cycles :
    Nat) (addr : BitVec 13),
  (s.dev.power.released = true) ∧
  (s.dev.calm = true) ∧
  (∀ (m : ChanId), s.dev.role m = 0) ∧
  (∀ (m : ChanId), (s.dev.ch m).eng.setNow ≠ 63) ∧
  (∀ (m : ChanId), (s.dev.ch m).lost = none) ∧
  (s.dev.power.released = true ∧ s.dev.fab.atCommit = false) ∧
  ((s.dev.ch n).eng.badWord ≠ some word.toNat) ∧
  ((s.dev.ch n).eng.refetch.isSome = true) ∧
  ((s.dev.ch n).isArmed = true) ∧
  (scrAction addr.toNat = ScrAction.copy) ∧
  (stallOf n = st) ∧
  ((s.dev.ch n).eng.restore.isSome = true) ∧
  (∀ (m : ChanId), m ≠ n → (s.dev.ch m).eng.restore = none) ∧
  (10 < cycles) ∧
  (16 ≤ (s.dev.ch n).eng.budget.length) ∧
  (((s.dev.ch n).eng.budget.all fun (x : Tick) => decide (ticksFrom x s.dev.tick < 1000)) = true) :=
  ⟨(st mmE), 3, 0, 7, 50, 0xbb0, by decide⟩

theorem wit_ProgramsAndScratchpadRecover_2 : ∃ (s : State) (n : ChanId) (cycles : Nat) (addr : BitVec 13),
  (s.dev.power.released = true) ∧
  (s.dev.calm = true) ∧
  (∀ (m : ChanId), s.dev.role m = 0) ∧
  (∀ (m : ChanId), (s.dev.ch m).eng.setNow ≠ 63) ∧
  (∀ (m : ChanId), (s.dev.ch m).lost = none) ∧
  ((s.dev.ch n).eng.refetch = none) ∧
  (s.dev.power.released = true ∧ s.dev.fab.atCommit = false) ∧
  (scrAction addr.toNat = ScrAction.zero) ∧
  (∀ (m : ChanId), (s.dev.ch m).eng.restore = none) ∧
  (cycles ≤ 10) ∧
  ((s.dev.ch n).eng.budget.length < 16) :=
  ⟨(st dev1), 3, 5, 0x1800, by decide⟩

theorem wit_ProgramsAndScratchpadRecover_3 : ∃ (s : State) (addr : BitVec 13),
  (s.dev.power.released = true) ∧
  (s.dev.calm = true) ∧
  (∀ (m : ChanId), s.dev.role m = 0) ∧
  (∀ (m : ChanId), (s.dev.ch m).eng.setNow ≠ 63) ∧
  (∀ (m : ChanId), (s.dev.ch m).lost = none) ∧
  (s.dev.power.released = true ∧ s.dev.fab.atCommit = false) ∧
  (scrAction addr.toNat = ScrAction.stall) :=
  ⟨(st mmE), 0x1a00, by decide⟩

theorem wit_ProgramsAndScratchpadRecover_4 : ∃ (s : State) (addr : BitVec 13),
  (s.dev.power.released = true) ∧
  (s.dev.calm = true) ∧
  (∀ (m : ChanId), s.dev.role m = 0) ∧
  (∀ (m : ChanId), (s.dev.ch m).eng.setNow ≠ 63) ∧
  (∀ (m : ChanId), (s.dev.ch m).lost = none) ∧
  (s.dev.power.released = true ∧ s.dev.fab.atCommit = false) ∧
  (scrAction addr.toNat = ScrAction.restore) :=
  ⟨(st mmE), 0x1905, by decide⟩

theorem wit_ScrubberAndMarchTest_1 : ∃ (s : State) (line : BitVec 17) (m : Fin 17),
  (s.dev.power.released = true ∧ s.dev.fab.atCommit = false) ∧
  (s.dev.mem.sweep = line.toNat) ∧
  (s.dev.mayBorrow ↑m = false) ∧
  (s.dev.mem.borrows = [{ mem := ↑m, region := sget 0 s.dev.mem.nextRegion ↑m, since := s.dev.tick, testing := true }]) ∧
  (m = 0) ∧
  (0 < s.dev.mem.bankSpare[bankOf (sget 0 s.dev.mem.nextRegion ↑m)]) :=
  ⟨(st mmM), 0, 0, by decide⟩

theorem wit_ScrubberAndMarchTest_2 : ∃ (s : State) (m : Fin 17),
  (s.dev.power.released = true ∧ s.dev.fab.atCommit = false) ∧
  (s.dev.mayBorrow ↑m = true) ∧
  (s.dev.mem.replay = []) ∧
  (s.dev.mem.borrows = []) :=
  ⟨(st mmO), 5, by decide⟩

end memories

namespace loads

def segS : Word64 := BitVec.ofNat 64 (2^63 + 1*2^61 + 0x1FFF*2^44 + 4*2^26 + 16)
def lS : Dev := { dev1.modCh 3 (fun c => { c with spool := { c.spool with st := .idle, rd := 30, wr := 40 } }) with mem := { dev1.mem with dir := [(2, segS), (7, seg7)] } }.setCreg 3 Obj.SPOOL_SEG 2
def wds : List Word64 := (List.range 8).map fun i => BitVec.ofNat 64 (i*7919+3)
def prof : List Byte := [0x55,0x47,5,2,2,0,3,0,1,0,0xFF,0xFF]
def prof5 : GustProfile := ⟨true, 2, 3, 2, [1,-1]⟩
def lG : Dev := dev1.modCh 3 fun c => { c with gust := { c.gust with arriving := [(true, 5, prof5)] } }
def le (n v : Nat) : List Byte := leBytes n v
def bodyR : List Byte := (List.range 64).map fun i => BitVec.ofNat 8 (i*7+3)
def boxR (ty : Nat) (body : List Byte) : List Byte := le 2 0x4354 ++ le 1 1 ++ le 1 ty ++ le 1 0 ++ le 1 1 ++ le 1 0 ++ le 1 0 ++ le 8 0 ++ le 4 body.length ++ le 4 7 ++ le 8 0 ++ List.replicate 16 0 ++ body ++ List.replicate 16 0
def descR (first : Nat) : LoadDesc := ⟨1, 0, 2, BitVec.ofNat 48 first, boxR 1 bodyR⟩
def lSb : Dev := { lS with load := { lS.load with busy := true, begun := true, staging := boxR 1 bodyR } }.setReg Obj.LOAD_TYPE 1 |>.setReg Obj.LOAD_TARGET 2 |>.setReg Obj.LOAD_FIRST 40
def lSc : Dev := lSb.setReg Obj.LOAD_FIRST 48
def vv (ty tg : Nat) (b : List Byte) : Verdict := ⟨0, 0, true, false, ty, none, tg, [], b, []⟩
def lbody (start : Nat) : List Byte := le 4 start ++ bodyR
def lV2 (v : Verdict) : Dev := { lS with sec := { lS.sec with passed := [v] } }
def lpk : List Byte := prof
def lB (b y : Bool) : Dev := { dev1 with load := { dev1.load with begun := b, busy := y, staging := [1,2] } }.setReg Obj.LOAD_TYPE 1
def pkB : List Byte := []
def pkG : List Byte := le 2 0x5450 ++ le 1 1 ++ le 1 0 ++ le 2 0 ++ le 2 0 ++ le 8 8 ++ le 4 32 ++ List.replicate 12 0
def lP (v : Verdict) : Dev := { dev1 with sec := { dev1.sec with passed := [v] } }
def lU (k : Nat) : Dev := dev1.setReg Obj.PSET_SEL (3*256+k)
def lV : Dev := { dev1.setReg Obj.PSET_SEL (3*256+5) with mem := { dev1.mem with sets := [(64*3, some ⟨false, [], []⟩), (64*3+5, some ⟨false, [], []⟩)] } }
def lR (k : Nat) : Dev := dev1.setReg Obj.SCR_ADDR (2*2^16+k)

theorem wit_RefillsLedgerLoadsAndProfiles_1 : ∃ (s : State) (src : Option LoadDesc) (bulk : Bool) (n : ChanId) (v :
    Verdict),
  (s.dev.power.released = true) ∧
  (s.dev.power.released = true ∧ s.dev.fab.atCommit = false) ∧
  (s.dev.loadWaits src.isSome = false) ∧
  (List.find? (fun (y : Verdict) => y.type == 2 && y.bulk == bulk) s.dev.sec.passed = none) ∧
  (List.find? (fun (y : Verdict) => y.type == 4 && y.bulk == bulk) s.dev.sec.passed = some v) ∧
  (chanOf v.target = none ∨ readProfile v.body = none) ∧
  ((s.dev.ch n).gust.arriving = []) :=
  ⟨(st (lV2 (vv 4 3 [1]))), none, true, 3, (vv 4 3 [1]), by decide⟩

theorem wit_RefillsLedgerLoadsAndProfiles_2 : ∃ (s : State) (src : Option LoadDesc) (n : ChanId) (body : List Byte),
  (s.dev.power.released = true) ∧
  (s.dev.power.released = true ∧ s.dev.fab.atCommit = false) ∧
  (s.dev.loadWaits src.isSome = true ∧ (src.getD s.dev.ecatDesc).type = 1 ∧ descCode (src.getD s.dev.ecatDesc) = 0 ∧
    s.dev.imageless 1 = false ∧ boxOk (src.getD s.dev.ecatDesc).box = true ∧ (boxHeadOf (src.getD
    s.dev.ecatDesc).box).size = (src.getD s.dev.ecatDesc).box.length ∧ (boxHeadOf (src.getD s.dev.ecatDesc).box).type = 1
    ∧ boxText (src.getD s.dev.ecatDesc).box (Option.map (fun (x : Machine.Stream) => x.key) (s.dev.streamOf (src.getD
    s.dev.ecatDesc).box)) = some body ∧ body.length % 64 = 0) ∧
  ((src.getD s.dev.ecatDesc).target.toNat < 4096) ∧
  (s.dev.spoolOwner (src.getD s.dev.ecatDesc).target.toNat = some n) ∧
  (dsValid (s.dev.desc (src.getD s.dev.ecatDesc).target.toNat) = true) ∧
  (dsType (s.dev.desc (src.getD s.dev.ecatDesc).target.toNat) = 1) ∧
  (s.dev.mem.replay = []) ∧
  (1 ≤ body.length / 64) ∧
  (body.length / 64 ≤ 512) ∧
  ((src.getD s.dev.ecatDesc).first.toNat = s.dev.claimOf n (src.getD s.dev.ecatDesc).target.toNat) ∧
  (8 * (body.length / 64) ≤ (s.dev.ch n).rel + dsSteps (s.dev.desc (src.getD s.dev.ecatDesc).target.toNat) - (src.getD
    s.dev.ecatDesc).first.toNat) ∧
  ((s.dev.ch n).spool.st ≠ SpoolState.ended) ∧
  ((s.dev.ch n).spool.st ≠ SpoolState.stopped) ∧
  ((s.dev.ch n).spool.eos = none) ∧
  ((s.dev.load.claims.any fun (y : Claim) => y.seg == some (src.getD s.dev.ecatDesc).target.toNat && y.fin) = false) :=
  ⟨(st lSb), none, 3, bodyR, by decide⟩

theorem wit_RefillsLedgerLoadsAndProfiles_3 : ∃ (s : State) (src : Option LoadDesc) (n : ChanId) (body : List Byte),
  (s.dev.power.released = true) ∧
  (s.dev.power.released = true ∧ s.dev.fab.atCommit = false) ∧
  (s.dev.loadWaits src.isSome = true ∧ (src.getD s.dev.ecatDesc).type = 1 ∧ descCode (src.getD s.dev.ecatDesc) = 0 ∧
    s.dev.imageless 1 = false ∧ boxOk (src.getD s.dev.ecatDesc).box = true ∧ (boxHeadOf (src.getD
    s.dev.ecatDesc).box).size = (src.getD s.dev.ecatDesc).box.length ∧ (boxHeadOf (src.getD s.dev.ecatDesc).box).type = 1
    ∧ boxText (src.getD s.dev.ecatDesc).box (Option.map (fun (x : Machine.Stream) => x.key) (s.dev.streamOf (src.getD
    s.dev.ecatDesc).box)) = some body ∧ body.length % 64 = 0) ∧
  ((src.getD s.dev.ecatDesc).target.toNat < 4096) ∧
  (s.dev.spoolOwner (src.getD s.dev.ecatDesc).target.toNat = some n) ∧
  (dsValid (s.dev.desc (src.getD s.dev.ecatDesc).target.toNat) = true) ∧
  (dsType (s.dev.desc (src.getD s.dev.ecatDesc).target.toNat) = 1) ∧
  (s.dev.mem.replay = []) ∧
  (1 ≤ body.length / 64) ∧
  (body.length / 64 ≤ 512) ∧
  ((src.getD s.dev.ecatDesc).first.toNat ≠ s.dev.claimOf n (src.getD s.dev.ecatDesc).target.toNat) :=
  ⟨(st lSc), none, 3, bodyR, by decide⟩

theorem wit_RefillsLedgerLoadsAndProfiles_4 : ∃ (s : State) (bulk : Bool) (n : ChanId) (p : Nat) (g : GustProfile),
  (s.dev.power.released = true) ∧
  ((s.dev.ch n).gust.arriving = [(bulk, p, g)]) :=
  ⟨(st lG), true, 3, 5, prof5, by decide⟩

theorem wit_RefillsLedgerLoadsAndProfiles_5 : ∃ (s : State) (bulk : Bool) (n : ChanId) (v : Verdict) (p : Nat) (g :
    GustProfile),
  (s.dev.power.released = true) ∧
  (s.dev.power.released = true ∧ s.dev.fab.atCommit = false) ∧
  (List.find? (fun (y : Verdict) => y.type == 4 && y.bulk == bulk) s.dev.sec.passed = some v) ∧
  (chanOf v.target = some n) ∧
  (readProfile v.body = some (p, g)) ∧
  ((s.dev.ch n).gust.armed ≠ some p) :=
  ⟨(st (lV2 (vv 4 3 prof))), true, 3, (vv 4 3 prof), 5, prof5, by decide⟩

theorem wit_RefillsLedgerLoadsAndProfiles_6 : ∃ (s : State) (bulk : Bool) (line : Nat) (words : List Word64) (v :
    Verdict),
  (s.dev.power.released = true) ∧
  (s.dev.power.released = true ∧ s.dev.fab.atCommit = false) ∧
  (List.find? (fun (y : Verdict) => y.type == 2 && y.bulk == bulk) s.dev.sec.passed = some v) ∧
  (readLedger v.body = some (line, words)) ∧
  (((List.range (words.length / 8)).any fun (i : Nat) => s.dev.spoolLine (line + i)) = true) :=
  ⟨(st (lV2 (vv 2 3 (lbody 24)))), true, 3, (stepsOf bodyR), (vv 2 3 (lbody 24)), by decide⟩

theorem wit_RefillsLedgerLoadsAndProfiles_7 : ∃ (s : State) (bulk : Bool) (line : Nat) (words : List Word64) (v :
    Verdict),
  (s.dev.power.released = true) ∧
  (s.dev.power.released = true ∧ s.dev.fab.atCommit = false) ∧
  (List.find? (fun (y : Verdict) => y.type == 2 && y.bulk == bulk) s.dev.sec.passed = some v) ∧
  (readLedger v.body = some (line, words)) ∧
  (((List.range (words.length / 8)).any fun (i : Nat) => s.dev.spoolLine (line + i)) = false) :=
  ⟨(st (lV2 (vv 2 3 (lbody 256)))), true, 32, (stepsOf bodyR), (vv 2 3 (lbody 256)), by decide⟩

theorem wit_LoadsPackagesAndScratchpad_1 : ∃ (s : State) (bytes : List Byte) (n : ChanId),
  (s.dev.power.released = true) ∧
  (s.dev.load.begun = false) ∧
  (s.dev.load.busy = false) ∧
  (bytes ≠ []) ∧
  (bytes.length ≤ 1024) ∧
  (s.dev.sec.passed = []) ∧
  (↑n = s.dev.psetSel.1) ∧
  (s.dev.psetSel.2 ≠ 0) ∧
  (s.dev.psetSel.2 ≠ 63) ∧
  (s.dev.psetInUse n s.dev.psetSel.2 = true) ∧
  (scrArea s.dev.scrSel.2 = 0) :=
  ⟨(st (lU 5)), [7,8], 3, by decide⟩

theorem wit_LoadsPackagesAndScratchpad_2 : ∃ (s : State) (bytes : List Byte),
  (s.dev.power.released = true) ∧
  (s.dev.load.begun = true ∨ s.dev.load.busy = true) ∧
  (bytes ≠ []) ∧
  (bytes.length ≤ 1024) ∧
  (s.dev.load.begun = true) ∧
  (s.dev.load.busy = false) ∧
  (1 ≤ s.dev.reg Obj.LOAD_TYPE) ∧
  (s.dev.reg Obj.LOAD_TYPE ≤ 5) ∧
  (s.dev.load.staging ≠ []) ∧
  (descCode s.dev.ecatDesc = 0) ∧
  (s.dev.load.claims = []) ∧
  (s.dev.sec.passed = []) :=
  ⟨(st (lB true false)), [7,8], by decide⟩

theorem wit_LoadsPackagesAndScratchpad_3 : ∃ (s : State) (n : ChanId),
  (s.dev.power.released = true) ∧
  (↑n = s.dev.psetSel.1) ∧
  (s.dev.psetSel.2 ≠ 0) ∧
  (s.dev.psetSel.2 ≠ 63) ∧
  (s.dev.psetInUse n s.dev.psetSel.2 = false) :=
  ⟨(st (lU 9)), 3, by decide⟩

theorem wit_LoadsPackagesAndScratchpad_4 : ∃ (s : State) (bulk : Bool) (v : Verdict) (bad : Nat × Nat × Nat × Nat),
  (s.dev.power.released = true) ∧
  (List.find? (fun (y : Verdict) => y.type == 3 && y.bulk == bulk) s.dev.sec.passed = some v) ∧
  (s.dev.contentBad (packageOf v.body) = some bad) :=
  ⟨(st (lP (vv 3 3 pkB))), true, (vv 3 3 pkB), (1,0,0,0), by decide⟩

theorem wit_LoadsPackagesAndScratchpad_5 : ∃ (s : State) (bulk : Bool) (v : Verdict),
  (s.dev.power.released = true) ∧
  (List.find? (fun (y : Verdict) => y.type == 3 && y.bulk == bulk) s.dev.sec.passed = some v) ∧
  (s.dev.contentBad (packageOf v.body) = none) :=
  ⟨(st (lP (vv 3 3 pkG))), true, (vv 3 3 pkG), by decide⟩

theorem wit_LoadsPackagesAndScratchpad_6 : ∃ (s : State),
  (s.dev.power.released = true) ∧
  (scrArea s.dev.scrSel.2 ≠ 0) ∧
  (∀ y ∈ s.dev.mem.stores, y.key ≠ 8192 * ↑s.dev.scrSel.1 + s.dev.scrSel.2) :=
  ⟨(st (lR 0x1A05)), by decide⟩

end loads

namespace cal

def cP (age : Nat) : Dev := { dev0 with tick := BitVec.ofNat 48 (5000000 + age) }.modCh 3 fun c => { c with cal := { c.cal with cycleStart := 5000000, engSince := some 4, linConvs := 2112, convs := [(0, 9999),(4,9999)] , ticksOf := [(0, age)], readings := [(0,20),(1,20),(2,20),(3,20),(4,20),(5,20)] } }
def cA (age : Nat) : Dev := ({ dev1 with tick := BitVec.ofNat 48 (5000000 + age) }.modCh 3 fun c => { c with cal := { c.cal with cycleStart := 5000000, convs := [(0, 9999),(4,9999)] , ticksOf := [], readings := [(0,20),(1,20),(2,20),(3,20),(4,20),(5,20)] } }).setCoef 3 1 500
def cG (t r : Nat) : Dev := { dev0 with tick := BitVec.ofNat 48 t, stalls := dev0.stalls.map fun x => { x with bgReads := r } }
def cGG : Dev := { dev0 with tick := 10000000, stalls := Vector.ofFn fun i => { dev0.stalls[i] with bgReads := 1000, bgSum := 1000 * (#v[999996, 1000002, 1000035, 999999, 1000006, 999991, 1000003, 1000000] : Vector Int 8)[i] } }
def sd0 : Dev := (dev1.modCh 3 fun c => { c with cal := { c.cal with cycled := true }, bk := { c.bk with seq := .noStep } }).setReg Obj.SYSCAL_CH 3 |>.setReg Obj.SYSCAL_SETPT 0x12345
def lib : ProgSet := ⟨false, [0,1,2,3,4,5,6,7], [0,1,2,3,4,5,6,7]⟩
def sdOk : Dev := { sd0 with mem := { sd0.mem with sets := [(64*3, some lib)] } }
def sdI : Dev := sdOk.modCh 3 fun c => { c with mv := { c.mv with injSlot := some 0 } }
def sdS (y : SysCalState) (full : Bool) : Dev := { sdOk with cal := { sdOk.cal with sys := y, full := full, point := some (3, false, 1, 1), since := 900, meas := 256, measEnd := 990, zero := some 5, zeroKey := some (3,0,1), newZ := 5, newS := -77, taken := (List.range 256).map fun i => (BitVec.ofNat 48 (i+700), (2:Int)^104 * (5 + i % 3)) } }
def sdF : Dev := let d := (sdS .measuring true).setReg Obj.SYSCAL_TRUE (16*500000); { d with cal := { d.cal with taken := (List.range 256).map fun i => (BitVec.ofNat 48 (i+700), (2:Int)^104 * (499998 + i % 3)) } }
def sdSI : Dev := { sdI with cal := (sdS .waiting false).cal }

theorem wit_BackgroundCalibrationCycles_1 : ∃ (s : State) (n : ChanId),
  (s.dev.power.released = true) ∧
  (s.dev.calm = true) ∧
  (s.dev.bgPaused n = true ∨ ticksFrom (s.dev.ch n).cal.cycleStart s.dev.tick < 4000000 ∨ s.dev.quotaMet n = false) ∧
  ((s.dev.ch n).cal.engSince = none) ∧
  ((s.dev.ch n).isParked = false ∨ (s.dev.ch n).cal.linConvs < 64 * 33) ∧
  (BitVec.toNat s.dev.tick % 10000000 = 0) ∧
  (∀ (st : StallId), (s.dev.st st).f3 = [] ∧ (s.dev.st st).bgReads = 1000 ∧ (s.dev.st st).bgSum = 1000 * #v[999996,
    1000002, 1000035, 999999, 1000006, 999991, 1000003, 1000000][st] ∧ (s.dev.st st).bgState = 0) ∧
  (BitVec.toNat s.dev.tick % 4000000 = 2000000) :=
  ⟨(st (cGG)), 3, by decide⟩

theorem wit_BackgroundCalibrationCycles_2 : ∃ (s : State) (n : ChanId) (o : Nat),
  (s.dev.power.released = true) ∧
  (s.dev.calm = true) ∧
  (s.dev.bgPaused n = false) ∧
  (4000000 ≤ ticksFrom (s.dev.ch n).cal.cycleStart s.dev.tick) ∧
  (s.dev.quotaMet n = true) ∧
  ((s.dev.ch n).isParked = true) ∧
  (updated o = true) ∧
  (64 * 33 ≤ (s.dev.ch n).cal.linConvs) ∧
  (BitVec.toNat s.dev.tick % 10000000 ≠ 0) ∧
  (BitVec.toNat s.dev.tick % 4000000 ≠ 2000000) :=
  ⟨(st (cP 4000001)), 3, 1, by decide⟩

theorem wit_BackgroundCalibrationCycles_3 : ∃ (s : State) (n : ChanId) (o : Nat) (e : Int) (step : Int) (jump : Int),
  (s.dev.power.released = true) ∧
  (s.dev.calm = true) ∧
  (s.dev.bgPaused n = false) ∧
  (4000000 ≤ ticksFrom (s.dev.ch n).cal.cycleStart s.dev.tick) ∧
  (s.dev.quotaMet n = true) ∧
  ((s.dev.ch n).isParked = false) ∧
  (updated o = true) ∧
  (updateLimits o (s.dev.coef n o) = some (step, jump)) ∧
  (↑(e - s.dev.coef n o).natAbs ≤ jump) :=
  ⟨(st (cA 4000001)), 3, 1, 515, 32, 640, by decide⟩

theorem wit_BackgroundCalibrationCycles_4 : ∃ (s : State) (n : ChanId) (o : Nat) (e : Int) (step : Int) (jump : Int),
  (s.dev.power.released = true) ∧
  (s.dev.calm = true) ∧
  (s.dev.bgPaused n = false) ∧
  (4000000 ≤ ticksFrom (s.dev.ch n).cal.cycleStart s.dev.tick) ∧
  (s.dev.quotaMet n = true) ∧
  ((s.dev.ch n).isParked = false) ∧
  (updated o = true) ∧
  (updateLimits o (s.dev.coef n o) = some (step, jump)) ∧
  (jump < ↑(e - s.dev.coef n o).natAbs) :=
  ⟨(st (cA 4000000)), 3, 1, 1515, 32, 640, by decide⟩

theorem wit_SystemCalibrationPoints_1 : ∃ (s : State) (n : ChanId) (r : Bool × Nat × Nat),
  (s.dev.power.released = true) ∧
  (s.dev.calm = true) ∧
  (s.dev.cal.sys = SysCalState.waiting ∨ s.dev.cal.sys = SysCalState.measuring ∨ s.dev.cal.sys = SysCalState.storing) ∧
  (s.dev.cal.point = some (n, r)) ∧
  (s.dev.cal.sys = SysCalState.storing) ∧
  (r.2.2 < 10) ∧
  (∀ y ∈ s.dev.mem.stores, y.key ≠ 8192 * ↑(stallOf n) + chanWord n (32 + r.2.2) ∧ y.key ≠ 8192 * ↑(stallOf n) +
    chanWord n (48 + r.2.2)) :=
  ⟨(st (sdS .storing true)), 3, (false,1,1), by decide⟩

theorem wit_SystemCalibrationPoints_2 : ∃ (s : State) (n : ChanId) (full : Bool),
  (s.dev.power.released = true) ∧
  (s.dev.calm = true) ∧
  (¬(s.dev.cal.sys = SysCalState.waiting ∨ s.dev.cal.sys = SysCalState.measuring ∨ s.dev.cal.sys = SysCalState.storing)) ∧
  (s.dev.sysNamed = some n) ∧
  (s.dev.sysActive = false) ∧
  (s.dev.sysCheck n full ≠ 0) :=
  ⟨(st sd0), 3, false, by decide⟩

theorem wit_SystemCalibrationPoints_3 : ∃ (s : State) (n : ChanId) (r : Bool × Nat × Nat),
  (s.dev.power.released = true) ∧
  (s.dev.calm = true) ∧
  (s.dev.cal.point = some (n, r)) ∧
  (s.dev.cal.sys = SysCalState.measuring) ∧
  (256 ≤ s.dev.cal.meas) ∧
  (reached s.dev.tick (s.dev.cal.measEnd + 1) = true) :=
  ⟨(st sdF), 3, (false,1,1), by decide⟩

theorem wit_SystemCalibrationPoints_4 : ∃ (s : State) (n : ChanId) (full : Bool),
  (s.dev.power.released = true) ∧
  (s.dev.calm = true) ∧
  (¬(s.dev.cal.sys = SysCalState.waiting ∨ s.dev.cal.sys = SysCalState.measuring ∨ s.dev.cal.sys = SysCalState.storing)) ∧
  (s.dev.sysNamed = some n) ∧
  (s.dev.sysCheck n full = 0) :=
  ⟨(st sdI), 3, false, by decide⟩

theorem wit_SystemCalibrationPoints_5 : ∃ (s : State) (n : ChanId) (r : Bool × Nat × Nat),
  (s.dev.power.released = true) ∧
  (s.dev.calm = true) ∧
  (s.dev.cal.point = some (n, r)) ∧
  (s.dev.cal.sys = SysCalState.waiting) ∧
  (s.dev.injRunning n = true) :=
  ⟨(st sdSI), 3, (false,1,1), by decide⟩

theorem wit_SystemCalibrationPoints_6 : ∃ (s : State) (n : ChanId),
  (s.dev.power.released = true) ∧
  (s.dev.calm = true) ∧
  (s.dev.cal.sys = SysCalState.zeroDone) ∧
  (Option.map (fun (x : ChanId × Bool × Nat × Nat) => x.1) s.dev.cal.point = some n) :=
  ⟨(st (sdS .zeroDone true)), 3, by decide⟩

theorem wit_SystemCalibrationPoints_7 : ∃ (s : State) (n : ChanId) (r : Bool × Nat × Nat),
  (s.dev.power.released = true) ∧
  (s.dev.calm = true) ∧
  (s.dev.cal.point = some (n, r)) ∧
  (s.dev.cal.sys = SysCalState.waiting) ∧
  (s.dev.injRunning n = false) :=
  ⟨(st (sdS .waiting false)), 3, (false,1,1), by decide⟩

end cal

namespace sync

def sy (d : Dev) (role : Nat) (f : SyncUnit → SyncUnit) : Dev := { (d.setReg Obj.SYNC_ROLE role).setReg Obj.SYNC_OUT_EN 1 with sync := f d.sync }
def devR (d : Dev) : Dev := d
def dA : Dev := dev1.modCh 3 fun c => { c with bk := { c.bk with seq := .noStep, due := false, word := 0 } }
def dB : Dev := ({ (dA.setReg Obj.ARM_MASK 8) with sync := { dA.sync with start := .pending, startTick := 1000 } }).modCh 3 (fun c => { c with regs := c.regs }) |>.setCreg 3 Obj.START_SEG 2 |>.setCreg 3 Obj.START_MODE 1
def at64 (d : Dev) : Dev := { d with tick := 1024 }
def rx (d : Dev) (k x : Nat) : Dev := { d with sync := { d.sync with rxBits := syncWord k x } }

theorem wit_ReferenceClockAndPhaseLock_1 : ∃ (s : State) (edge : Int) (high : Nat),
  (s.dev.sync.refclk = RefclkState.locked ∨ s.dev.sync.refclk = RefclkState.present) ∧
  (s.dev.power.state ≠ PowerState.off) ∧
  (s.dev.sync.refclk = RefclkState.present) ∧
  (s.dev.allParked = true) ∧
  (s.dev.power.released = true ∧ s.dev.fab.atCommit = false) ∧
  (s.dev.isNode = true) ∧
  (10000 ≤ high) ∧
  (high ≤ 60000) ∧
  ((edge - (↑s.dev.sync.parentD + signedOf 16 (s.dev.reg Obj.IN_TRIM))).natAbs ≤ 2000) ∧
  (s.dev.sync.lock = LockState.acquiring ∨ s.dev.sync.lock = LockState.locked ∧ (edge - (↑s.dev.sync.parentD +
    signedOf 16 (s.dev.reg Obj.IN_TRIM))).natAbs ≤ 100 ∧ s.dev.sync.driftRaised = false) ∧
  (8 ≤ s.dev.sync.missRun) ∧
  (s.dev.sync.lock = LockState.locked ∨ s.dev.sync.lock = LockState.acquiring) ∧
  (s.dev.power.released = true) ∧
  (s.dev.sync.lock = LockState.acquiring) ∧
  ((edge - (↑s.dev.sync.parentD + signedOf 16 (s.dev.reg Obj.IN_TRIM))).natAbs ≤ 5) ∧
  (s.dev.sync.lock ≠ LockState.locked ∨ s.dev.stepFree = false) ∧
  (BitVec.toNat s.dev.tick % 1000000 ≠ 0) :=
  ⟨(st (sy dev0 2 fun y => { y with refclk := .present, lock := .acquiring, missRun := 9 })), 5, 40000, by decide⟩

theorem wit_ReferenceClockAndPhaseLock_2 : ∃ (s : State) (edge : Int),
  (s.dev.sync.refclk = RefclkState.absent ∨ s.dev.sync.refclk = RefclkState.holdover) ∧
  (s.dev.power.state ≠ PowerState.off) ∧
  (s.dev.sync.refclk ≠ RefclkState.present ∨ s.dev.allParked = false) ∧
  (s.dev.power.released = true ∧ s.dev.fab.atCommit = false) ∧
  (s.dev.isNode = false) ∧
  (s.dev.sync.missRun < 8) ∧
  (s.dev.power.released = true) ∧
  (s.dev.sync.lock = LockState.locked) ∧
  (s.dev.stepFree = true) ∧
  ((edge - (↑s.dev.sync.parentD + signedOf 16 (s.dev.reg Obj.IN_TRIM))).natAbs ≤ 100) ∧
  (s.dev.calm = true) :=
  ⟨(st (sy dev0 1 fun y => { y with refclk := .holdover, lock := .locked })), 50, by decide⟩

theorem wit_ReferenceClockAndPhaseLock_3 : ∃ (s : State) (edge : Int) (high : Nat),
  (s.dev.power.released = true ∧ s.dev.fab.atCommit = false) ∧
  (s.dev.isNode = true) ∧
  (10000 ≤ high) ∧
  (high ≤ 60000) ∧
  ((edge - (↑s.dev.sync.parentD + signedOf 16 (s.dev.reg Obj.IN_TRIM))).natAbs ≤ 2000) ∧
  (s.dev.sync.lock = LockState.hold) ∧
  ((edge - (↑s.dev.sync.parentD + signedOf 16 (s.dev.reg Obj.IN_TRIM))).natAbs ≤ 100) ∧
  (s.dev.power.released = true) ∧
  (BitVec.toNat s.dev.tick % 1000000 = 0) :=
  ⟨(st (sy {dev1 with tick := 3000000} 2 fun y => { y with refclk := .holdover, lock := .hold })), 50, 40000, by decide⟩

theorem wit_ReferenceClockAndPhaseLock_4 : ∃ (s : State) (edge : Int) (high : Nat),
  (s.dev.power.released = true ∧ s.dev.fab.atCommit = false) ∧
  (s.dev.isNode = true) ∧
  (10000 ≤ high) ∧
  (high ≤ 60000) ∧
  ((edge - (↑s.dev.sync.parentD + signedOf 16 (s.dev.reg Obj.IN_TRIM))).natAbs ≤ 2000) ∧
  (s.dev.sync.lock = LockState.hold) ∧
  (100 < (edge - (↑s.dev.sync.parentD + signedOf 16 (s.dev.reg Obj.IN_TRIM))).natAbs) ∧
  (s.dev.allParked = false) ∧
  (s.dev.sync.driftRaised = false) :=
  ⟨(st (sy dev1 2 fun y => { y with refclk := .locked, lock := .hold, parentD := 3 })), 700, 30000, by decide⟩

theorem wit_ReferenceClockAndPhaseLock_5 : ∃ (s : State) (high : Nat),
  (s.dev.power.released = true ∧ s.dev.fab.atCommit = false) ∧
  (s.dev.isNode = true) ∧
  (high < 10000 ∨ 60000 < high) :=
  ⟨(st (sy dev1 2 fun y => { y with refclk := .locked, lock := .locked, parentD := 3 })), 9999, by decide⟩

theorem wit_ReferenceClockAndPhaseLock_6 : ∃ (s : State) (edge : Int) (high : Nat),
  (s.dev.power.released = true ∧ s.dev.fab.atCommit = false) ∧
  (s.dev.isNode = true) ∧
  (10000 ≤ high) ∧
  (high ≤ 60000) ∧
  ((edge - (↑s.dev.sync.parentD + signedOf 16 (s.dev.reg Obj.IN_TRIM))).natAbs ≤ 2000) ∧
  (s.dev.sync.lock = LockState.locked) ∧
  (100 < (edge - (↑s.dev.sync.parentD + signedOf 16 (s.dev.reg Obj.IN_TRIM))).natAbs) ∧
  (s.dev.sync.driftRaised = false) :=
  ⟨(st (sy dev1 2 fun y => { y with refclk := .locked, lock := .locked, parentD := 3 })), 300, 19999, by decide⟩

theorem wit_ReferenceClockAndPhaseLock_7 : ∃ (s : State) (edge : Int),
  (s.dev.power.released = true ∧ s.dev.fab.atCommit = false) ∧
  (s.dev.isNode = true) ∧
  (s.dev.sync.lock = LockState.locked ∨ s.dev.sync.lock = LockState.hold) ∧
  (2000 < (edge - (↑s.dev.sync.parentD + signedOf 16 (s.dev.reg Obj.IN_TRIM))).natAbs) :=
  ⟨(st (sy dev1 2 fun y => { y with refclk := .locked, lock := .locked, parentD := 3 })), 3000, by decide⟩

theorem wit_SyncWordsActAndAreForwarded_1 : ∃ (s : State),
  (s.dev.power.released = true) ∧
  (s.dev.calm = true) ∧
  (s.dev.isRoot = true) ∧
  (s.dev.reg Obj.SYNC_OUT_EN = 1) ∧
  (BitVec.toNat s.dev.tick % 64 = 0) ∧
  (s.dev.sync.rootEpoch = none) ∧
  (s.dev.sync.sendQ = []) ∧
  (s.dev.isNode = false) :=
  ⟨(st (at64 (sy dev0 1 fun y => { y with epoch := .domain }))), by decide⟩

theorem wit_SyncWordsActAndAreForwarded_2 : ∃ (s : State) (tick : Tick),
  (s.dev.power.released = true) ∧
  (s.dev.calm = true) ∧
  (s.dev.isNode = true) ∧
  (s.dev.sync.rxBits = syncWord 1 (BitVec.toNat tick)) ∧
  (s.dev.reg Obj.SYNC_OUT_EN = 1) ∧
  (BitVec.toNat s.dev.tick % 64 = 0) :=
  ⟨(st (rx (at64 (sy dev1 2 fun y => { y with lock := .locked })) 1 960)), 960, by decide⟩

theorem wit_SyncWordsActAndAreForwarded_3 : ∃ (s : State),
  (s.dev.power.released = true) ∧
  (s.dev.calm = true) ∧
  (s.dev.isNode = true) ∧
  (s.dev.sync.rxBits = syncWord 0 0) :=
  ⟨(st (rx (sy dev0 2 fun y => { y with lock := .locked }) 0 0)), by decide⟩

theorem wit_SyncWordsActAndAreForwarded_4 : ∃ (s : State) (level : BitVec 3),
  (s.dev.power.released = true) ∧
  (s.dev.calm = true) ∧
  (s.dev.isNode = true) ∧
  (s.dev.sync.rxBits = syncWord 5 level.toNat) ∧
  (level.toNat ≠ s.dev.reg Obj.SYNC_LEVEL) :=
  ⟨(st (rx (sy dev1 2 fun y => { y with lock := .locked }) 5 3)), 3, by decide⟩

theorem wit_SyncWordsActAndAreForwarded_5 : ∃ (s : State) (tick : Tick),
  (s.dev.power.released = true) ∧
  (s.dev.calm = true) ∧
  (s.dev.isNode = true) ∧
  (s.dev.sync.rxBits = syncWord 3 (BitVec.toNat tick)) ∧
  (s.dev.sync.epoch ≠ EpochState.domain) :=
  ⟨(st (rx (sy dev0 2 fun y => { y with lock := .locked }) 3 964)), 964, by decide⟩

theorem wit_SyncWordsActAndAreForwarded_6 : ∃ (s : State),
  (s.dev.power.released = true) ∧
  (s.dev.calm = true) ∧
  (s.dev.isNode = true) ∧
  (s.dev.sync.rxBits.length = 64) ∧
  (readSyncWord s.dev.sync.rxBits = none) :=
  ⟨(st (rx (at64 (sy dev1 2 fun y => { y with lock := .locked })) 9 960)), by decide⟩

theorem wit_SyncWordsActAndAreForwarded_7 : ∃ (s : State) (level : BitVec 3) (delay : BitVec 16),
  (s.dev.power.released = true) ∧
  (s.dev.calm = true) ∧
  (s.dev.isNode = true) ∧
  (s.dev.sync.rxBits = syncWord 6 (delay.toNat + 2 ^ 16 * level.toNat)) ∧
  (((delay.toNat : Int) - (s.dev.sync.parentD : Int)).natAbs ≤ 5 ∨ s.dev.allParked = true) :=
  ⟨(st (rx (sy dev0 2 fun y => { y with lock := .locked }) 6 (700 + 65536*3))), 3, 700, by decide⟩

theorem wit_SyncWordsActAndAreForwarded_8 : ∃ (s : State) (level : BitVec 3) (delay : BitVec 16),
  (s.dev.power.released = true) ∧
  (s.dev.calm = true) ∧
  (s.dev.isNode = true) ∧
  (s.dev.sync.rxBits = syncWord 6 (delay.toNat + 2 ^ 16 * level.toNat)) ∧
  (5 < ((delay.toNat : Int) - (s.dev.sync.parentD : Int)).natAbs) ∧
  (s.dev.allParked = false) :=
  ⟨(st (rx (sy dev1 2 fun y => { y with lock := .locked }) 6 (700 + 65536*3))), 3, 700, by decide⟩

theorem wit_SyncWordsActAndAreForwarded_9 : ∃ (s : State) (tick : Tick),
  (s.dev.power.released = true) ∧
  (s.dev.calm = true) ∧
  (s.dev.isNode = true) ∧
  (s.dev.sync.rxBits = syncWord 3 (BitVec.toNat tick)) ∧
  (s.dev.sync.lastCmd ≠ some (3, BitVec.toNat tick)) ∧
  (s.dev.sync.epoch = EpochState.domain) ∧
  (s.dev.sync.start ≠ StartState.pending) ∧
  (reached s.dev.tick tick = true) :=
  ⟨(st (rx (sy dev0 2 fun y => { y with lock := .locked, epoch := .domain }) 3 964)), 964, by decide⟩

theorem wit_SyncWordsActAndAreForwarded_10 : ∃ (s : State) (tick : Tick),
  (s.dev.power.released = true) ∧
  (s.dev.calm = true) ∧
  (s.dev.isNode = true) ∧
  (s.dev.sync.rxBits = syncWord 2 (BitVec.toNat tick)) ∧
  (s.dev.sync.lastCmd ≠ some (2, BitVec.toNat tick)) :=
  ⟨(st (rx (sy dev0 2 fun y => { y with lock := .locked, epoch := .domain }) 2 1964)), 1964, by decide⟩

theorem wit_SyncWordsActAndAreForwarded_11 : ∃ (s : State) (tick : Tick),
  (s.dev.power.released = true) ∧
  (s.dev.calm = true) ∧
  (s.dev.isNode = true) ∧
  (s.dev.sync.rxBits = syncWord 3 (BitVec.toNat tick)) ∧
  (s.dev.sync.lastCmd ≠ some (3, BitVec.toNat tick)) ∧
  (s.dev.sync.epoch = EpochState.domain) ∧
  (s.dev.sync.start ≠ StartState.pending) ∧
  (reached s.dev.tick tick = false) :=
  ⟨(st (rx (sy dev0 2 fun y => { y with lock := .locked, epoch := .domain }) 3 1964)), 1964, by decide⟩

theorem wit_SyncWordsActAndAreForwarded_12 : ∃ (s : State),
  (s.dev.power.released = true) ∧
  (s.dev.calm = true) ∧
  (s.dev.isNode = true) ∧
  (s.dev.reg Obj.SYNC_OUT_EN ≠ 1) ∧
  (BitVec.toNat s.dev.tick % 64 = 0) :=
  ⟨(st ((at64 (sy dev0 2 fun y => { y with epoch := .domain})).setReg Obj.SYNC_OUT_EN 0)), by decide⟩

theorem wit_SyncWordsActAndAreForwarded_13 : ∃ (s : State) (tick : Tick),
  (s.dev.power.released = true) ∧
  (s.dev.calm = true) ∧
  (s.dev.isRoot = true) ∧
  (s.dev.reg Obj.SYNC_OUT_EN = 1) ∧
  (BitVec.toNat s.dev.tick % 64 = 0) ∧
  (s.dev.sync.rootEpoch = none) ∧
  (s.dev.sync.sendQ = [(2, BitVec.toNat tick), (2, BitVec.toNat tick)]) :=
  ⟨(st (at64 (sy dev0 1 fun y => { y with epoch := .domain, sendQ := [(2,1984),(2,1984)] }))), 1984, by decide⟩

theorem wit_SyncWordsActAndAreForwarded_14 : ∃ (s : State) (tick : Tick),
  (s.dev.power.released = true) ∧
  (s.dev.calm = true) ∧
  (s.dev.isRoot = true) ∧
  (s.dev.reg Obj.SYNC_OUT_EN = 1) ∧
  (BitVec.toNat s.dev.tick % 64 = 0) ∧
  (s.dev.sync.rootEpoch = none) ∧
  (s.dev.sync.sendQ = [(3, BitVec.toNat tick), (3, BitVec.toNat tick)]) :=
  ⟨(st (at64 (sy dev0 1 fun y => { y with epoch := .domain, sendQ := [(3,1984),(3,1984)] }))), 1984, by decide⟩

theorem wit_SyncWordsActAndAreForwarded_15 : ∃ (s : State),
  (s.dev.power.released = true) ∧
  (s.dev.calm = true) ∧
  (s.dev.isRoot = true) ∧
  (BitVec.toNat s.dev.tick % 64 ≠ 0) :=
  ⟨(st ((sy dev0 1 fun y => { y with epoch := .domain, sendQ := [], rootEpoch := some 1984 }))), by decide⟩

theorem wit_SyncWordsActAndAreForwarded_16 : ∃ (s : State) (tick : Tick),
  (s.dev.power.released = true) ∧
  (s.dev.calm = true) ∧
  (s.dev.isRoot = true) ∧
  (BitVec.toNat s.dev.tick % 64 = 0) ∧
  (s.dev.sync.rootEpoch = some tick) ∧
  (s.dev.sync.sendQ = []) ∧
  (s.dev.allParked = true) :=
  ⟨(st (at64 (sy dev0 1 fun y => { y with epoch := .domain, sendQ := [], rootEpoch := some 1984 }))), 1984, by decide⟩

theorem wit_SyncWordsActAndAreForwarded_17 : ∃ (s : State) (level : BitVec 3),
  (s.dev.power.released = true) ∧
  (s.dev.calm = true) ∧
  (s.dev.isNode = true) ∧
  (s.dev.sync.rxBits = syncWord 5 level.toNat) ∧
  (level.toNat = s.dev.reg Obj.SYNC_LEVEL) ∧
  (s.dev.reg Obj.RET_FITTED ≠ 0) ∧
  (s.dev.sync.lock = LockState.locked) ∧
  (s.dev.anyLive = false) :=
  ⟨(st (rx ((sy dev0 2 fun y => { y with lock := .locked, epoch := .domain, loopCal := .done }).setReg Obj.SYNC_LEVEL 3 |>.setReg Obj.RET_FITTED 1) 5 3)), 3, by decide⟩

theorem wit_SyncWordsActAndAreForwarded_18 : ∃ (s : State) (tick : Tick),
  (s.dev.power.released = true) ∧
  (s.dev.calm = true) ∧
  (s.dev.isNode = true) ∧
  (s.dev.sync.rxBits = syncWord 2 (BitVec.toNat tick)) ∧
  (¬s.dev.sync.lastCmd ≠ some (2, BitVec.toNat tick)) :=
  ⟨(st (rx (sy dev0 2 fun y => { y with lock := .locked, epoch := .domain, loopCal := .done, start := .pending, startTick := 960, lastCmd := some (2, 960) }) 2 960)), 960, by decide⟩

theorem wit_SyncWordsActAndAreForwarded_19 : ∃ (s : State) (tick : Tick),
  (s.dev.power.released = true) ∧
  (s.dev.calm = true) ∧
  (s.dev.isNode = true) ∧
  (s.dev.sync.rxBits = syncWord 4 (BitVec.toNat tick)) ∧
  (s.dev.sync.lastCmd ≠ some (4, BitVec.toNat tick)) :=
  ⟨(st (rx (sy dev0 2 fun y => { y with lock := .locked, epoch := .domain, loopCal := .done, start := .pending, startTick := 960, lastCmd := some (2, 960) }) 4 960)), 960, by decide⟩

theorem wit_SyncRequestsStartsAndLoops_1 : ∃ (s : State) (tick : Tick) (value : BitVec 8),
  (s.dev.power.released = true) ∧
  (s.dev.calm = true) ∧
  (s.dev.isRoot = true) ∧
  (s.dev.sync.calNext = none) ∧
  (s.dev.reg Obj.RET_FITTED = 0) ∧
  (s.dev.sync.epoch ≠ EpochState.domain) ∧
  (s.dev.sync.start = StartState.pending) ∧
  (value ≠ 1) ∧
  (BitVec.toNat tick % 64 ≠ 0) ∧
  (s.dev.sync.start ≠ StartState.pending ∨ s.dev.sync.startTick ≠ s.dev.tick) :=
  ⟨(st ((sy dev1 1 fun y => { y with start := .pending }))), 1500, 3, by decide⟩

theorem wit_SyncRequestsStartsAndLoops_2 : ∃ (s : State) (due : Tick) (lvl : Nat),
  (s.dev.power.released = true) ∧
  (s.dev.calm = true) ∧
  (s.dev.sync.calNext = some (lvl, due)) ∧
  (reached s.dev.tick due = true) ∧
  (s.dev.reg Obj.RET_FITTED ≠ 0) ∧
  (s.dev.sync.loopCal = LoopCal.measuring) ∧
  (2000 ≤ ticksFrom s.dev.sync.measSince s.dev.tick) ∧
  (s.dev.isRoot = false) :=
  ⟨(st ((sy dev1 2 fun y => { y with calNext := some (4, 990), lock := .free, start := .pending, epoch := .domain, loopCal := .measuring, measSince := 990 - 2000}).setReg Obj.RET_FITTED 1)), 990, 4, by decide⟩

theorem wit_SyncRequestsStartsAndLoops_3 : ∃ (s : State) (n : ChanId),
  (s.dev.power.released = true) ∧
  (s.dev.calm = true) ∧
  (s.dev.sync.start = StartState.pending) ∧
  (s.dev.sync.startTick = s.dev.tick) ∧
  (s.dev.sync.epoch = EpochState.domain) ∧
  (s.dev.reg Obj.ARM_MASK = 2 ^ n.val) ∧
  (s.dev.waitsSync n = true) ∧
  (s.dev.role n = 0) ∧
  (s.dev.sysActive = false) ∧
  ((s.dev.spoolLow n = true → (s.dev.ch n).spool.wasLow = true) ∧ (s.dev.spoolHigh n = true → (s.dev.ch
    n).spool.wasHigh = true)) ∧
  (dsValid (s.dev.desc (s.dev.creg n Obj.START_SEG)) = true) ∧
  (dsType (s.dev.desc (s.dev.creg n Obj.START_SEG)) = 0) ∧
  (0 < dsLen (s.dev.desc (s.dev.creg n Obj.START_SEG))) ∧
  (s.dev.stepOk n (BitVec.toNat (s.dev.step64 (dsStart (s.dev.desc (s.dev.creg n Obj.START_SEG))))) = true) ∧
  ((s.dev.ch n).bk.loops = []) :=
  ⟨(st {dB with sync := { dB.sync with epoch := .domain } }), 3, by decide⟩

theorem wit_SyncRequestsStartsAndLoops_4 : ∃ (s : State),
  (s.dev.power.released = true) ∧
  (s.dev.calm = true) ∧
  (s.dev.sync.start = StartState.pending) ∧
  (s.dev.sync.startTick = s.dev.tick) ∧
  (s.dev.sync.epoch = EpochState.mismatch) :=
  ⟨(st {dB with sync := { dB.sync with epoch := .mismatch } }), by decide⟩

theorem wit_SyncRequestsStartsAndLoops_5 : ∃ (s : State) (tick : Tick),
  (s.dev.power.released = true) ∧
  (s.dev.calm = true) ∧
  (s.dev.isRoot = true) ∧
  (s.dev.sync.epoch = EpochState.domain) ∧
  (s.dev.sync.start = StartState.pending) ∧
  (s.dev.sync.startTick ≠ tick) :=
  ⟨(st ((sy dev1 1 fun y => { y with start := .pending, epoch := .domain }))), 1500, by decide⟩

theorem wit_SyncRequestsStartsAndLoops_6 : ∃ (s : State) (tick : Tick),
  (s.dev.power.released = true) ∧
  (s.dev.calm = true) ∧
  (s.dev.isRoot = true) ∧
  (s.dev.sync.epoch = EpochState.domain) ∧
  (s.dev.sync.start ≠ StartState.pending) ∧
  (reached tick (s.dev.freeSlot + 576) = true) :=
  ⟨(st (sy dev1 1 fun y => { y with calNext := some (5, 990), lock := .locked, epoch := .domain })), 5000, by decide⟩

theorem wit_SyncRequestsStartsAndLoops_7 : ∃ (s : State) (tick : Tick),
  (s.dev.power.released = true) ∧
  (s.dev.calm = true) ∧
  (s.dev.isRoot = true) ∧
  (s.dev.sync.epoch = EpochState.domain) ∧
  (s.dev.sync.start ≠ StartState.pending) ∧
  (reached tick (s.dev.freeSlot + 576) = false) :=
  ⟨(st ((sy dev1 1 fun y => { y with calNext := some (4, 990), lock := .locked, epoch := .domain, loopCal := .measuring, measSince := 990 - 2000}).setReg Obj.RET_FITTED 1)), 1500, by decide⟩

theorem wit_SyncRequestsStartsAndLoops_8 : ∃ (s : State) (tick : Tick),
  (s.dev.power.released = true) ∧
  (s.dev.calm = true) ∧
  (s.dev.isRoot = true) ∧
  (BitVec.toNat tick % 64 = 0) :=
  ⟨(st ((sy dev0 1 fun y => { y with calNext := some (4, 990), lock := .locked, epoch := .localTime, loopCal := .measuring, measSince := 990 - 2000}).setReg Obj.RET_FITTED 1)), 4992, by decide⟩

end sync

namespace ecat

def ec (d : Dev) (st : EsmState) (f : EtherCat → EtherCat) (rs : List (Nat × Nat)) : Dev :=
  let d := { d with ec := f { d.ec with esm := st } }
  rs.foldl (fun d e => d.setReg e.1 e.2) d

theorem wit_EtherCatStatesAndLinks_1 : ∃ (s : State) (port : Bool) (smOk : Bool) (sync1 : Bool) (target : BitVec 4),
  (natBit (s.dev.reg Obj.EC_LINK) (b2n port) = false) ∧
  (s.dev.power.state ≠ PowerState.off) ∧
  (s.dev.reg Obj.EC_LINK < 256) ∧
  (s.dev.power.released = true ∧ s.dev.fab.atCommit = false) ∧
  (s.dev.ec.esm = EsmState.preop) ∧
  (smOk = true) ∧
  (s.dev.outputsOk = true) ∧
  (mapFits (s.dev.assigned 7187) = true) ∧
  (sync1 = true) ∧
  (esmOf target.toNat = none) ∧
  (target ≠ 3) ∧
  (s.dev.ec.esm ≠ EsmState.op) :=
  ⟨(st (ec dev1 .preop id [(Obj.EC_LINK, 0x21)])), true, true, true, 5, by decide⟩

theorem wit_EtherCatStatesAndLinks_2 : ∃ (s : State) (target : BitVec 4) (st : EsmState),
  (s.dev.power.released = true ∧ s.dev.fab.atCommit = false) ∧
  (esmOf target.toNat = some st) ∧
  (st.code < s.dev.ec.esm.code) ∧
  (s.dev.reg Obj.PD_WD_ACTION = 0) ∧
  (s.dev.ec.esm = EsmState.op) ∧
  (s.dev.ec.missed < 8) :=
  ⟨(st (ec dev1 .op (fun e => {e with frames := 1}) [(Obj.OUT_SYNC_MODE, 2)])), 4, .safeop, by decide⟩

theorem wit_EtherCatStatesAndLinks_3 : ∃ (s : State) (port : Bool),
  (s.dev.power.state ≠ PowerState.off) ∧
  (s.dev.reg Obj.EC_LINK < 256) ∧
  (natBit (s.dev.reg Obj.EC_LINK) (b2n port) = true) ∧
  (s.dev.power.released = true ∧ s.dev.fab.atCommit = false) ∧
  (s.dev.ec.esm = EsmState.init) :=
  ⟨(st (ec dev1 .init id [(Obj.EC_LINK, 0x21)])), false, by decide⟩

theorem wit_EtherCatStatesAndLinks_4 : ∃ (s : State) (smOk : Bool) (sync1 : Bool) (dcCycle : Option Nat),
  (s.dev.power.released = true ∧ s.dev.fab.atCommit = false) ∧
  (s.dev.ec.esm = EsmState.preop) ∧
  (smOk = true) ∧
  (s.dev.outputsOk = true) ∧
  (mapFits (s.dev.assigned 7187) = true) ∧
  (sync1 = false) ∧
  (s.dev.dcMode = false ∨ dcCycle.getD 0 % 1000 = 0 ∧ 31000 ≤ dcCycle.getD 0 ∧ s.dev.sync.refclk = RefclkState.locked) :=
  ⟨(st (ec dev1 .preop id [(Obj.EC_LINK, 0x21)])), true, false, none, by decide⟩

theorem wit_EtherCatStatesAndLinks_5 : ∃ (s : State) (smOk : Bool),
  (s.dev.power.released = true ∧ s.dev.fab.atCommit = false) ∧
  (s.dev.ec.esm = EsmState.preop) ∧
  (smOk = false) :=
  ⟨(st (ec dev1 .preop id [(Obj.EC_LINK, 0x21)])), false, by decide⟩

theorem wit_EtherCatStatesAndLinks_6 : ∃ (s : State) (smOk : Bool) (sync1 : Bool) (dcCycle : Option Nat),
  (s.dev.power.released = true ∧ s.dev.fab.atCommit = false) ∧
  (s.dev.ec.esm = EsmState.preop) ∧
  (smOk = true) ∧
  (s.dev.outputsOk = true) ∧
  (mapFits (s.dev.assigned 7187) = true) ∧
  (sync1 = false) ∧
  (s.dev.dcMode = true) ∧
  (dcCycle.getD 0 % 1000 ≠ 0 ∨ dcCycle.getD 0 < 31000) :=
  ⟨(st (ec dev1 .preop id [(Obj.OUT_SYNC_MODE, 2)])), true, false, (some 31500), by decide⟩

theorem wit_EtherCatStatesAndLinks_7 : ∃ (s : State) (smOk : Bool) (sync1 : Bool) (dcCycle : Option Nat),
  (s.dev.power.released = true ∧ s.dev.fab.atCommit = false) ∧
  (s.dev.ec.esm = EsmState.preop) ∧
  (smOk = true) ∧
  (s.dev.outputsOk = true) ∧
  (mapFits (s.dev.assigned 7187) = true) ∧
  (sync1 = false) ∧
  (s.dev.dcMode = true) ∧
  (dcCycle.getD 0 % 1000 = 0) ∧
  (31000 ≤ dcCycle.getD 0) ∧
  (s.dev.sync.refclk ≠ RefclkState.locked) :=
  ⟨(st (ec dev1 .preop id [(Obj.OUT_SYNC_MODE, 2)])), true, false, (some 32000), by decide⟩

theorem wit_EtherCatStatesAndLinks_8 : ∃ (s : State),
  (s.dev.power.released = true ∧ s.dev.fab.atCommit = false) ∧
  (s.dev.ec.esm = EsmState.safeop) ∧
  (s.dev.ec.frames = 0) :=
  ⟨(st (ec dev1 .safeop id [(Obj.OUT_SYNC_MODE, 2)])), by decide⟩

theorem wit_EtherCatStatesAndLinks_9 : ∃ (s : State),
  (s.dev.power.released = true ∧ s.dev.fab.atCommit = false) ∧
  (s.dev.ec.esm = EsmState.safeop) ∧
  (s.dev.ec.frames ≠ 0) ∧
  (s.dev.dcMode = true) ∧
  (s.dev.ec.sync0 = false ∨ 1000 < ticksFrom s.dev.ec.sync0At s.dev.tick) :=
  ⟨(st (ec dev1 .safeop (fun e => {e with frames := 1}) [(Obj.OUT_SYNC_MODE, 2)])), by decide⟩

theorem wit_EtherCatStatesAndLinks_10 : ∃ (s : State),
  (s.dev.power.released = true ∧ s.dev.fab.atCommit = false) ∧
  (s.dev.ec.esm = EsmState.safeop) ∧
  (s.dev.ec.frames ≠ 0) ∧
  (s.dev.dcMode = false) :=
  ⟨(st (ec dev1 .safeop (fun e => {e with frames := 1}) [(Obj.OUT_SYNC_MODE, 1)])), by decide⟩

theorem wit_EtherCatStatesAndLinks_11 : ∃ (s : State),
  (s.dev.power.released = true ∧ s.dev.fab.atCommit = false) ∧
  (s.dev.ec.esm = EsmState.op) ∧
  (s.dev.dcMode = true) ∧
  (8 ≤ s.dev.ec.missed) :=
  ⟨(st (ec dev1 .op (fun e => {e with missed := 9}) [(Obj.OUT_SYNC_MODE, 2),(Obj.PD_WD_ACTION,1)])), by decide⟩

theorem wit_FramesEventsAndMailbox_2 : ∃ (s : State) (cyc : Cycle) (idx : BitVec 16) (sub : BitVec 8) (len : Nat)
    (value : Nat) (code : Nat),
  (s.dev.power.released = true) ∧
  (8 ≤ ↑cyc → s.dev.fab.atCommit = false) ∧
  (s.dev.power.released = true ∧ s.dev.fab.atCommit = false) ∧
  (s.dev.pdRuns = true) ∧
  (s.dev.dcMode = true) ∧
  (s.dev.dict.frame = none) ∧
  (s.dev.ec.sync0 = false) ∧
  (s.dev.receipt false false idx.toNat sub.toNat len value = code) ∧
  (code ≠ 0) :=
  ⟨(st (ec dev1 .safeop id [(Obj.OUT_SYNC_MODE, 2)])), 3, 0x2104, 5, 7, 5, 0x06070010, by decide⟩

theorem wit_FramesEventsAndMailbox_6 : ∃ (s : State) (cyc : Cycle),
  (s.dev.power.released = true) ∧
  (8 ≤ ↑cyc → s.dev.fab.atCommit = false) ∧
  (s.dev.power.released = true ∧ s.dev.fab.atCommit = false) ∧
  (s.dev.pdRuns = true) ∧
  (s.dev.dcMode = false) ∧
  (Option.any (fun (l : Tick × Nat) => decide (cycFrom l (s.dev.tick, ↑cyc) < 15500)) s.dev.dict.lastFrame = true) :=
  ⟨(st (ec {dev1 with dict := {dev1.dict with lastFrame := some (985, 0)}} .safeop id [(Obj.OUT_SYNC_MODE, 1)])), 3, by decide⟩

theorem wit_FramesEventsAndMailbox_7 : ∃ (s : State) (cyc : Cycle),
  (s.dev.power.released = true) ∧
  (8 ≤ ↑cyc → s.dev.fab.atCommit = false) ∧
  (s.dev.power.released = true ∧ s.dev.fab.atCommit = false) ∧
  (s.dev.pdRuns = true) ∧
  (s.dev.dcMode = false) ∧
  (Option.all (fun (l : Tick × Nat) => decide (15500 ≤ cycFrom l (s.dev.tick, ↑cyc))) s.dev.dict.lastFrame = true) ∧
  (s.dev.ec.esm = EsmState.safeop) :=
  ⟨(st (ec {dev1 with dict := {dev1.dict with lastFrame := some (905, 0)}} .safeop id [(Obj.OUT_SYNC_MODE, 1)])), 3, by decide⟩

theorem wit_FramesEventsAndMailbox_8 : ∃ (s : State) (old : List (Nat × Nat)) (cyc : Cycle),
  (s.dev.power.released = true) ∧
  (8 ≤ ↑cyc → s.dev.fab.atCommit = false) ∧
  (s.dev.dcMode = true) ∧
  (s.dev.ec.esm = EsmState.safeop) ∧
  (s.dev.dict.frame = some old) :=
  ⟨(st (ec {dev1 with dict := {dev1.dict with frame := some [(5,6)]}} .safeop id [(Obj.OUT_SYNC_MODE, 2)])), [(5,6)], 3, by decide⟩

end ecat

namespace mailbox

def ec (d : Dev) (st : EsmState) (f : EtherCat → EtherCat) (rs : List (Nat × Nat)) : Dev :=
  let d := { d with ec := f { d.ec with esm := st } }
  rs.foldl (fun d e => d.setReg e.1 e.2) d
def st2 (d : Dev) : State := ⟨d, d, d, []⟩
def rd (i j : Nat) := (dev1.readObj i j)

theorem wit_FramesEventsAndMailbox_1 : ∃ (s : State) (cyc : Cycle) (idx : BitVec 16) (sub : BitVec 8) (code : Nat)
    (values : List Nat) (data : List Byte),
  (s.dev.power.released = true) ∧
  (8 ≤ ↑cyc → s.dev.fab.atCommit = false) ∧
  (s.dev.power.released = true ∧ s.dev.fab.atCommit = false) ∧
  (s.dev.pdRuns = false) ∧
  (s.dev.dcMode = false) ∧
  (s.dev.receiptWhole false idx.toNat values = code) ∧
  (code ≠ 0) ∧
  ((if ↑cyc < 8 then s.prior else s.shown).readObj idx.toNat sub.toNat = Except.ok data) :=
  ⟨(st2 dev1), 303, 0x2106, 1, 0x06070010, [], ([0,0]:List Byte), by decide⟩

theorem wit_FramesEventsAndMailbox_3 : ∃ (s : State) (cyc : Cycle) (idx : BitVec 16) (sub : BitVec 8) (code : Nat),
  (s.dev.power.released = true) ∧
  (8 ≤ ↑cyc → s.dev.fab.atCommit = false) ∧
  ((if ↑cyc < 8 then s.prior else s.shown).readObj idx.toNat sub.toNat = Except.error code) ∧
  ((if ↑cyc < 8 then s.prior else s.shown).readWhole idx.toNat = Except.error code) :=
  ⟨(st2 dev1), 303, 0x2104, 3, 0x06010001, by decide⟩

theorem wit_FramesEventsAndMailbox_4 : ∃ (s : State) (cyc : Cycle) (idx : BitVec 16) (values : List Nat),
  (s.dev.power.released = true) ∧
  (8 ≤ ↑cyc → s.dev.fab.atCommit = false) ∧
  (s.dev.power.released = true ∧ s.dev.fab.atCommit = false) ∧
  (s.dev.receiptWhole false idx.toNat values = 0) :=
  ⟨(st2 dev1), 3, 0x1010, [1], by decide⟩

theorem wit_FramesEventsAndMailbox_5 : ∃ (s : State) (cyc : Cycle) (idx : BitVec 16) (sub : BitVec 8) (len : Nat)
    (value : Nat),
  (s.dev.power.released = true) ∧
  (8 ≤ ↑cyc → s.dev.fab.atCommit = false) ∧
  (s.dev.power.released = true ∧ s.dev.fab.atCommit = false) ∧
  (s.dev.receipt false false idx.toNat sub.toNat len value = 0) :=
  ⟨(st2 dev1), 303, 0x2010, 2, 8, 5, by decide⟩

end mailbox

namespace pcie

def st2 (d : Dev) : State := ⟨d, d, d, []⟩
def pc (f : Pcie → Pcie) (rs : List (Nat × Nat)) : Dev :=
  let d := { dev1 with pcie := f { dev1.pcie with up := true, perst := false } }
  rs.foldl (fun d e => d.setReg e.1 e.2) d
def q1 : Queue := ⟨4096, 5, true, true, false, 0, 3, 7, [true,false,true,false]⟩
def pq (f : Pcie → Pcie) := pc (fun p => f { p with load := q1, obj := q1, exp := {q1 with notify := [] }, irq := 9 }) [(Obj.EXPORT_LINK,1)]
def pq2 := { pq (fun p => {p with exp := {p.exp with head := 9}}) with fifo := { dev1.fifo with entries := List.replicate 9 (.record 0 [5]) } }

theorem wit_LinkRegistersAndWindow_1 : ∃ (s : State) (q : QueueId) (slot : Nat) (len : Nat) (offset : Nat) (code :
    Nat) (cyc : Cycle),
  (s.dev.power.released = true ∧ s.dev.fab.atCommit = false) ∧
  (s.dev.pcie.up = true) ∧
  (s.dev.pcie.perst = false) ∧
  (s.dev.reg Obj.PCIE_EN ≠ 0) ∧
  (s.dev.power.state ≠ PowerState.off) ∧
  (s.dev.power.state = PowerState.boot → 2 ≤ s.dev.power.phase) ∧
  (s.dev.pcie.load.runs = true) ∧
  (0 < s.dev.pcie.load.waiting) ∧
  (s.dev.load.claims = []) ∧
  (s.dev.sec.passed = []) ∧
  ((s.dev.pcie.queue q).enabled = true) ∧
  (offset % 8 ≠ 0) ∧
  (slot < 2 ^ 24) ∧
  ((if ↑cyc < 8 then s.prior else s.shown).readSlot slot = Except.error (1, code)) ∧
  (code ≠ 0) ∧
  (1 ≤ len) ∧
  (len ≤ 8) :=
  ⟨(st2 (pq id)), .load, (0x1f04*256+5), 8, 3, 0x06020000, 300, by decide⟩

theorem wit_LinkRegistersAndWindow_2 : ∃ (s : State) (q : QueueId) (value : Nat) (slot : Nat) (len : Nat) (cyc :
    Cycle) (data : List Byte),
  (s.dev.power.released = true ∧ s.dev.fab.atCommit = false) ∧
  (s.dev.pcie.up = true) ∧
  (s.dev.pcie.perst = false) ∧
  (s.dev.reg Obj.PCIE_EN = 0) ∧
  (s.dev.pcie.load.enabled = false) ∧
  (s.dev.load.claims = []) ∧
  (s.dev.sec.passed = []) ∧
  ((s.dev.pcie.queue q).enabled = false) ∧
  (4 ≤ value) ∧
  (value ≤ 12) ∧
  (slot < 2 ^ 24) ∧
  (s.dev.receipt false false (slot / 256) (slot % 256) len value = 0) ∧
  (slotBytes slot = some len) ∧
  ((if ↑cyc < 8 then s.prior else s.shown).readSlot slot = Except.ok data) ∧
  (1 ≤ len) ∧
  (len ≤ 8) :=
  ⟨(st2 (pc id [(Obj.PCIE_EN,0)])), .obj, 5, (0x2104*256+5), 8, 300, [0,0,0,0,0,0,0,0], by decide⟩

theorem wit_LinkRegistersAndWindow_3 : ∃ (s : State) (q : QueueId) (value : Nat) (slot : Nat) (len : Nat) (code : Nat),
  (s.dev.power.released = true ∧ s.dev.fab.atCommit = false) ∧
  (s.dev.pcie.up = true) ∧
  (s.dev.pcie.perst = false) ∧
  ((s.dev.pcie.queue q).enabled = false) ∧
  (value % 4096 = 0) ∧
  (value < 2 ^ 64) ∧
  (slot < 2 ^ 24) ∧
  (s.dev.receipt false false (slot / 256) (slot % 256) len value = code) ∧
  (code ≠ 0) ∧
  (slotBytes slot = some len) :=
  ⟨(st2 (pc id [(Obj.PCIE_EN,1)])), .obj, 4096, (0x2106*256+1), 2, 0x06010002, by decide⟩

theorem wit_QueuesAndExport_1 : ∃ (s : State) (q : QueueId) (tail : Nat) (len : Nat) (value : Nat) (code : Nat) (idx :
    BitVec 16) (sub : BitVec 8) (cyc : Cycle) (values : List Nat),
  (s.dev.power.released = true ∧ s.dev.fab.atCommit = false) ∧
  (s.dev.pcie.up = true) ∧
  (s.dev.pcie.perst = false) ∧
  (s.dev.pcie.d3 = false) ∧
  (q ≠ QueueId.load) ∧
  (s.dev.pcie.load.runs = true) ∧
  (0 < s.dev.pcie.load.waiting) ∧
  (s.dev.load.claims = []) ∧
  (s.dev.sec.passed = []) ∧
  (s.dev.pcie.exp.halted = false) ∧
  (tail < s.dev.pcie.exp.ring) ∧
  ((tail + s.dev.pcie.exp.ring - s.dev.pcie.exp.tail) % s.dev.pcie.exp.ring ≤ s.dev.pcie.exp.inRing) ∧
  (s.dev.reg Obj.EXPORT_LINK = 1) ∧
  (s.dev.pcie.exp.runs = true) ∧
  (s.dev.objWaits = true) ∧
  ((if ↑cyc < 8 then s.prior else s.shown).readObj idx.toNat sub.toNat = Except.error code) ∧
  (1 ≤ len) ∧
  (len ≤ 1024) ∧
  (s.dev.receipt false false idx.toNat sub.toNat len value = code) ∧
  (code ≠ 0) ∧
  (s.dev.receiptWhole false idx.toNat values = 0) ∧
  ((s.dev.pcie.queue q).runs = true) :=
  ⟨(st2 pq2), .exp, 8, 8, 7, 0x06090011, 0x1010, 5, 3, [1], by decide⟩

theorem wit_QueuesAndExport_2 : ∃ (s : State) (q : QueueId) (tail : Nat) (notify : List Bool),
  (s.dev.power.released = true ∧ s.dev.fab.atCommit = false) ∧
  (s.dev.pcie.up = true) ∧
  (s.dev.pcie.perst = false) ∧
  (s.dev.pcie.load.enabled = false) ∧
  (s.dev.load.claims = []) ∧
  (s.dev.sec.passed = []) ∧
  (q ≠ QueueId.exp) ∧
  ((s.dev.pcie.queue q).halted = false) ∧
  (tail < (s.dev.pcie.queue q).ring) ∧
  (notify.length = (tail + (s.dev.pcie.queue q).ring - (s.dev.pcie.queue q).tail) % (s.dev.pcie.queue q).ring) ∧
  (s.dev.reg Obj.EXPORT_LINK ≠ 1) ∧
  (s.dev.objWaits = false) :=
  ⟨(st2 (pc id [])), .obj, 9, (List.replicate 9 true), by decide⟩

theorem wit_QueuesAndExport_3 : ∃ (s : State) (q : QueueId) (tail : Nat) (code : Nat) (idx : BitVec 16) (values : List
    Nat),
  (s.dev.power.released = true ∧ s.dev.fab.atCommit = false) ∧
  (s.dev.pcie.up = true) ∧
  (s.dev.pcie.perst = false) ∧
  (s.dev.pcie.exp.halted = false) ∧
  (tail < s.dev.pcie.exp.ring) ∧
  (s.dev.pcie.exp.inRing < (tail + s.dev.pcie.exp.ring - s.dev.pcie.exp.tail) % s.dev.pcie.exp.ring) ∧
  (q = QueueId.exp) ∧
  (s.dev.objWaits = true) ∧
  (s.dev.receiptWhole false idx.toNat values = code) ∧
  (code ≠ 0) :=
  ⟨(st2 pq2), .exp, 10, 0x06070010, 0x1010, [1,2], by decide⟩

theorem wit_QueuesAndExport_4 : ∃ (s : State) (q : QueueId) (tail : Nat) (len : Nat) (value : Nat) (idx : BitVec 16)
    (sub : BitVec 8),
  (s.dev.power.released = true ∧ s.dev.fab.atCommit = false) ∧
  (s.dev.pcie.up = true) ∧
  (s.dev.pcie.perst = false) ∧
  (q ≠ QueueId.exp) ∧
  ((s.dev.pcie.queue q).halted = false) ∧
  ((s.dev.pcie.queue q).ring ≤ tail) ∧
  (s.dev.objWaits = true) ∧
  (1 ≤ len) ∧
  (len ≤ 1024) ∧
  (s.dev.receipt false false idx.toNat sub.toNat len value = 0) :=
  ⟨(st2 (pq id)), .obj, 32, 8, 7, 0x2104, 5, by decide⟩

theorem wit_QueuesAndExport_5 : ∃ (s : State) (idx : BitVec 16) (sub : BitVec 8) (cyc : Cycle) (data : List Byte),
  (s.dev.power.released = true ∧ s.dev.fab.atCommit = false) ∧
  (s.dev.pcie.up = true) ∧
  (s.dev.pcie.perst = false) ∧
  (s.dev.objWaits = true) ∧
  ((if ↑cyc < 8 then s.prior else s.shown).readObj idx.toNat sub.toNat = Except.ok data) :=
  ⟨(st2 (pq id)), 0x2106, 1, 300, [0,0], by decide⟩

end pcie

namespace trust

def st2 (d : Dev) : State := ⟨d, d, d, []⟩
def sc (d : Dev) (f : Sec → Sec) (rs : List (Nat × Nat)) : Dev := rs.foldl (fun d e => d.setReg e.1 e.2) { d with sec := f d.sec }
def str1 : Stream := ⟨7, 2, 0, 5, 8, []⟩
def arbS (x : Sec) : Sec := { x with life := .vendor, arb := Vector.replicate 4 3 }
def hl (b : Bool) (d : Dev) : Dev := d.modCh 3 fun c => { c with eng := { c.eng with halted := b } }
def ver (ty : Nat) (body : List Byte) (bulk := false) : Verdict := ⟨0, 0, bulk, true, ty, some 9, 0, [0], body, [1,2,3]⟩
def ownB : List Byte := List.replicate 97 5 ++ [0,0,0,1,0,0,0]
def strB : List Byte := [7,0,0,0,2,0,0,0,5,0,0,0,9,0,0,0] ++ List.replicate 97 5 ++ [0,0,0] ++ List.replicate 60 1
def tkB (l : Byte) : List Byte := [l,0,0,0] ++ List.replicate 32 6
def ld0 : LoadDesc := ⟨2, 0, 0, 0, [9,9]⟩
def cl0 : Claim := { bulk := true, act := none, box := [9,9], lines := [], seg := none, last := 0, grow := 0, fin := false }
def q1' (x : Sec) : Sec := { x with waiting := [(true,[9,9])], passed := [ver 0x13 [], ver 0x11 ownB, ver 0x10 strB true] }
def ldq : LoadDesc := ⟨5, 0, 0xFFFF, 0, List.replicate 40 0⟩
def ldq2 : LoadDesc := ⟨5, 0, 0xFFFF, 0, [0,0,0,5] ++ List.replicate 40 0⟩
def pq0 : Dev := {dev0 with pcie := {dev0.pcie with up := true, perst := false, load := ⟨4096, 5, true, true, false, 0, 3, 7, []⟩}}
def dn : List Byte := List.replicate 32 6
def tk : DebugToken := ⟨2, true, true⟩

theorem wit_ContainersOwnershipAndSessions_1 : ∃ (s : State) (box : List Byte) (offer : List Byte) (nonce : List Byte)
    (pub : List Byte) (rest : List (Bool × List Byte)) (v : Verdict) (y : LoadDesc) (c : Claim) (policy : Nat) (bulk :
    Bool),
  (s.dev.power.released = true) ∧
  (s.dev.calm = true) ∧
  (s.dev.power.released = true ∧ s.dev.fab.atCommit = false) ∧
  (s.dev.sec.waiting = (bulk, box) :: rest) ∧
  (s.dev.load.claims = [c]) ∧
  (c.bulk = true) ∧
  (c.act = none) ∧
  (c.box = box) ∧
  (v.code = 0) ∧
  (v.type ≠ 1) ∧
  (((List.find? (fun (y : Verdict) => y.type == 17 && y.bulk == false) s.dev.sec.passed).orElse fun (x : Unit) =>
    List.find? (fun (y : Verdict) => y.type == 17 && y.bulk == true) s.dev.sec.passed) = some v) ∧
  (readOwnership v.body = some (pub, policy)) ∧
  (s.dev.sec.life ≠ Lifecycle.vendor) ∧
  (s.dev.offerBarred = true) ∧
  (s.dev.sec.sess ≠ SessState.closed) ∧
  (s.dev.sec.sess = SessState.offered) ∧
  (ticksFrom s.dev.sec.offerTick s.dev.tick ≤ 10000000) ∧
  (s.dev.sec.sess ≠ SessState.offered ∨ 10000000 < ticksFrom s.dev.sec.offerTick s.dev.tick ∨ offer.length ≠ 404) ∧
  (ticksFrom s.dev.sec.offerTick s.dev.tick < 10000000) ∧
  ((List.filter (fun (w : Tick) => decide (ticksFrom w s.dev.tick ≤ 1000000)) s.dev.sec.sealFails).length < 64) ∧
  (nonce.length = 32) ∧
  (s.dev.sec.life ≠ Lifecycle.blank) :=
  ⟨(st2 ({(sc dev0 (fun x => q1' { x with life := .owned, slots := Vector.replicate 2 2, streams := Vector.replicate 16 (some str1), sess := .offered, offerTick := 900, drbgFail := true}) [(Obj.CONT_REFUSED,5)]) with load := {dev0.load with claims := [cl0]}})), [9,9], [1], (List.replicate 32 7), (List.replicate 97 5), [], (ver 0x11 ownB), ld0, cl0, 1, true, by decide⟩

theorem wit_ContainersOwnershipAndSessions_2 : ∃ (s : State) (box : List Byte) (v : Verdict) (y : LoadDesc),
  (s.dev.power.released = true) ∧
  (s.dev.calm = true) ∧
  (s.dev.power.released = true ∧ s.dev.fab.atCommit = false) ∧
  (s.dev.sec.waiting = []) ∧
  (s.dev.load.claims = []) ∧
  (s.dev.loadWaits true = true) ∧
  (descCode y = 0) ∧
  (s.dev.imageless y.type.toNat = false) ∧
  (y.box = box) ∧
  ((boxHeadOf box).type = y.type.toNat) ∧
  ((boxHeadOf box).type ≠ 1) ∧
  (v.code ≠ 0) ∧
  (((List.find? (fun (y : Verdict) => y.type == 17 && y.bulk == false) s.dev.sec.passed).orElse fun (x : Unit) =>
    List.find? (fun (y : Verdict) => y.type == 17 && y.bulk == true) s.dev.sec.passed) = none) ∧
  (((List.find? (fun (y : Verdict) => y.type == 19 && y.bulk == false) s.dev.sec.passed).orElse fun (x : Unit) =>
    List.find? (fun (y : Verdict) => y.type == 19 && y.bulk == true) s.dev.sec.passed) = none) ∧
  (((List.find? (fun (y : Verdict) => y.type == 16 && y.bulk == false) s.dev.sec.passed).orElse fun (x : Unit) =>
    List.find? (fun (y : Verdict) => y.type == 16 && y.bulk == true) s.dev.sec.passed) = none) ∧
  (s.dev.offerBarred = false) ∧
  (s.dev.sec.drbgFail = false) :=
  ⟨(st2 pq0), ([0,0,0,5] ++ List.replicate 40 0), ({ver 5 [1] with code := 9, sec := false}), ldq2, by decide⟩

theorem wit_ContainersOwnershipAndSessions_3 : ∃ (s : State) (nonce : List Byte) (v : Verdict) (y : LoadDesc),
  (s.dev.power.released = true) ∧
  (s.dev.calm = true) ∧
  (((List.find? (fun (y : Verdict) => y.type == 19 && y.bulk == false) s.dev.sec.passed).orElse fun (x : Unit) =>
    List.find? (fun (y : Verdict) => y.type == 19 && y.bulk == true) s.dev.sec.passed) = some v) ∧
  (s.dev.sec.life = Lifecycle.vendor ∨ s.dev.sec.life = Lifecycle.owned) ∧
  (s.dev.allParked = false) ∧
  (s.dev.sec.sess = SessState.offered) ∧
  (10000000 ≤ ticksFrom s.dev.sec.offerTick s.dev.tick) ∧
  (64 ≤ (List.filter (fun (w : Tick) => decide (ticksFrom w s.dev.tick ≤ 1000000)) s.dev.sec.sealFails).length) ∧
  (s.dev.sec.sess ≠ SessState.closed) ∧
  (nonce.length ≠ 32) :=
  ⟨(st2 (sc dev1 (fun x => q1' { x with life := .vendor, slots := Vector.replicate 2 2, streams := Vector.replicate 16 (some str1), sess := .offered, offerTick := 1000-10000001, sealFails := List.replicate 70 995}) [])), (List.replicate 31 7), (ver 0x13 []), ld0, by decide⟩

theorem wit_ContainersOwnershipAndSessions_4 : ∃ (s : State) (pub : List Byte) (v : Verdict) (y : LoadDesc) (policy :
    Nat) (k : Fin 2),
  (s.dev.power.released = true) ∧
  (s.dev.calm = true) ∧
  (((List.find? (fun (y : Verdict) => y.type == 17 && y.bulk == false) s.dev.sec.passed).orElse fun (x : Unit) =>
    List.find? (fun (y : Verdict) => y.type == 17 && y.bulk == true) s.dev.sec.passed) = some v) ∧
  (readOwnership v.body = some (pub, policy)) ∧
  (s.dev.sec.life = Lifecycle.vendor) ∧
  (s.dev.allParked = true) ∧
  (s.dev.sec.blankSlot = some k) :=
  ⟨(st2 (sc dev0 (fun x => q1' (arbS x)) [])), (List.replicate 97 5), (ver 0x11 ownB), ld0, 1, 0, by decide⟩

theorem wit_ContainersOwnershipAndSessions_5 : ∃ (s : State) (nonce : List Byte) (v : Verdict) (y : LoadDesc),
  (s.dev.power.released = true) ∧
  (s.dev.calm = true) ∧
  (((List.find? (fun (y : Verdict) => y.type == 16 && y.bulk == false) s.dev.sec.passed).orElse fun (x : Unit) =>
    List.find? (fun (y : Verdict) => y.type == 16 && y.bulk == true) s.dev.sec.passed) = some v) ∧
  (readStream (boxHead v.box) v.body = none) ∧
  (nonce.length = 32) ∧
  (s.dev.sec.life = Lifecycle.blank) :=
  ⟨(st2 (sc dev0 (fun x => { x with life := .blank, sess := .closed, passed := [ver 0x13 [], ver 0x11 [1], ver 0x10 [1]]}) [])), (List.replicate 32 7), (ver 0x10 [1]), ld0, by decide⟩

theorem wit_ContainersOwnershipAndSessions_6 : ∃ (s : State) (v : Verdict) (y : LoadDesc),
  (s.dev.power.released = true) ∧
  (s.dev.calm = true) ∧
  (((List.find? (fun (y : Verdict) => y.type == 19 && y.bulk == false) s.dev.sec.passed).orElse fun (x : Unit) =>
    List.find? (fun (y : Verdict) => y.type == 19 && y.bulk == true) s.dev.sec.passed) = some v) ∧
  (s.dev.sec.life = Lifecycle.vendor ∨ s.dev.sec.life = Lifecycle.owned) ∧
  (s.dev.allParked = true) :=
  ⟨(st2 (sc dev0 (fun x => q1' (arbS x)) [])), (ver 0x13 []), ld0, by decide⟩

theorem wit_ContainersOwnershipAndSessions_7 : ∃ (s : State) (v : Verdict) (y : LoadDesc),
  (s.dev.power.released = true) ∧
  (s.dev.calm = true) ∧
  (((List.find? (fun (y : Verdict) => y.type == 19 && y.bulk == false) s.dev.sec.passed).orElse fun (x : Unit) =>
    List.find? (fun (y : Verdict) => y.type == 19 && y.bulk == true) s.dev.sec.passed) = some v) ∧
  (s.dev.sec.life = Lifecycle.blank ∨ s.dev.sec.life = Lifecycle.retired) :=
  ⟨(st2 (sc dev0 (fun x => { x with life := .retired, sess := .closed, passed := [ver 0x13 [], ver 0x11 [1], ver 0x10 [1]]}) [])), (ver 0x13 []), ld0, by decide⟩

theorem wit_ContainersOwnershipAndSessions_8 : ∃ (s : State) (v : Verdict) (y : LoadDesc),
  (s.dev.power.released = true) ∧
  (s.dev.calm = true) ∧
  (((List.find? (fun (y : Verdict) => y.type == 17 && y.bulk == false) s.dev.sec.passed).orElse fun (x : Unit) =>
    List.find? (fun (y : Verdict) => y.type == 17 && y.bulk == true) s.dev.sec.passed) = some v) ∧
  (readOwnership v.body = none) :=
  ⟨(st2 (sc dev0 (fun x => { x with life := .retired, sess := .closed, passed := [ver 0x13 [], ver 0x11 [1], ver 0x10 [1]]}) [])), (ver 0x11 [1]), ld0, by decide⟩

theorem wit_ContainersOwnershipAndSessions_9 : ∃ (s : State) (pub : List Byte) (v : Verdict) (y : LoadDesc) (policy :
    Nat),
  (s.dev.power.released = true) ∧
  (s.dev.calm = true) ∧
  (((List.find? (fun (y : Verdict) => y.type == 17 && y.bulk == false) s.dev.sec.passed).orElse fun (x : Unit) =>
    List.find? (fun (y : Verdict) => y.type == 17 && y.bulk == true) s.dev.sec.passed) = some v) ∧
  (readOwnership v.body = some (pub, policy)) ∧
  (s.dev.sec.life = Lifecycle.vendor) ∧
  (s.dev.allParked = false) :=
  ⟨(st2 (sc dev1 (fun x => q1' { x with life := .vendor, slots := Vector.replicate 2 2, streams := Vector.replicate 16 (some str1), sess := .offered, offerTick := 1000-10000001, sealFails := List.replicate 70 995}) [])), (List.replicate 97 5), (ver 0x11 ownB), ld0, 1, by decide⟩

theorem wit_DebugLevelsHaltsAndTap_1 : ∃ (s : State) (v' : Verdict) (tok : DebugToken) (n : ChanId) (mask : Word64) (v
    : Word48),
  (s.dev.power.released = true) ∧
  (s.dev.calm = true) ∧
  (s.dev.sec.life ≠ Lifecycle.blank) ∧
  (s.dev.sec.debug = 1 ∨ s.dev.sec.debug = 2) ∧
  (s.dev.sec.debug = 0 ∨ s.dev.sec.debug = 2) ∧
  (natBit s.dev.policy 2 = true) ∧
  (s.dev.d2Allowed = true) ∧
  (s.dev.sec.drbgFail = false) ∧
  (s.dev.d3Allowed = true) ∧
  (ticksFrom s.dev.sec.dbgTick s.dev.tick < 60000000) ∧
  (tok.level = 2) ∧
  (s.dev.sec.life = Lifecycle.vendor) ∧
  (tok.vendor = true) ∧
  (tok.nonceOk = false) ∧
  (((List.find? (fun (y : Verdict) => y.type == 18 && y.bulk == false) s.dev.sec.passed).orElse fun (x : Unit) =>
    List.find? (fun (y : Verdict) => y.type == 18 && y.bulk == true) s.dev.sec.passed) = some v' ∧ s.dev.readToken v' =
    some tok) ∧
  (s.dev.tokenCode tok ≠ 0) ∧
  (s.dev.sec.debug = 2) ∧
  (∀ (m : ChanId), s.dev.role m = 0) ∧
  (∀ (m : ChanId), (s.dev.ch m).force.st ≠ ChState.arming) ∧
  (s.dev.sysActive = false) ∧
  (s.dev.armBack = none) ∧
  (∀ (m : ChanId), bit mask ↑m = true → (s.dev.ch m).eng.halted = true) ∧
  (s.dev.bscanOffered = true) ∧
  ((s.dev.ch n).eng.halted = true) :=
  ⟨(st2 (hl true (sc dev0 (fun x => { x with life := .vendor, debug := 2, dbgPend := 2, dbgTick := 900, bscan := 2, passed := [ver 0x12 (tkB 2)], dbgNonce := []}) []))), (ver 0x12 (tkB 2)), {tk with nonceOk := false}, 3, 8, 77, by decide⟩

theorem wit_DebugLevelsHaltsAndTap_2 : ∃ (s : State) (v' : Verdict) (v : Word48),
  (s.dev.power.released = true) ∧
  (s.dev.calm = true) ∧
  (s.dev.sec.life = Lifecycle.blank) ∧
  (((List.find? (fun (y : Verdict) => y.type == 18 && y.bulk == false) s.dev.sec.passed).orElse fun (x : Unit) =>
    List.find? (fun (y : Verdict) => y.type == 18 && y.bulk == true) s.dev.sec.passed) = some v') ∧
  (v'.body.length ≠ 36) ∧
  (s.dev.sec.debug ≠ 2) :=
  ⟨(st2 ((sc dev0 (fun x => { x with life := .blank, debug := 1, dbgPend := 3, dbgTick := 900, passed := [ver 0x12 [1]] }) []))), (ver 0x12 [1]), 77, by decide⟩

theorem wit_DebugLevelsHaltsAndTap_3 : ∃ (s : State) (n : ChanId) (mask : Word64),
  (s.dev.power.released = true) ∧
  (s.dev.calm = true) ∧
  (s.dev.sec.life ≠ Lifecycle.blank) ∧
  (s.dev.d2Allowed = false) ∧
  (s.dev.d3Allowed = false) ∧
  (s.dev.sec.dbgPend ≠ 0) ∧
  (60000000 ≤ ticksFrom s.dev.sec.dbgTick s.dev.tick) ∧
  (((List.find? (fun (y : Verdict) => y.type == 18 && y.bulk == false) s.dev.sec.passed).orElse fun (x : Unit) =>
    List.find? (fun (y : Verdict) => y.type == 18 && y.bulk == true) s.dev.sec.passed) = none) ∧
  (s.dev.sec.debug = 2) ∧
  (bit mask ↑n = true) ∧
  ((s.dev.ch n).eng.halted = false) ∧
  (s.dev.bscanOffered = false) :=
  ⟨(st2 (hl false (sc dev1 (fun x => { x with life := .owned, policy := 2, debug := 2, dbgPend := 2, dbgTick := 1000 - 60000000, bscan := 2}) []))), 3, 8, by decide⟩

theorem wit_DebugLevelsHaltsAndTap_4 : ∃ (s : State) (v' : Verdict) (tok : DebugToken) (v : Word48),
  (s.dev.power.released = true) ∧
  (s.dev.calm = true) ∧
  (s.dev.sec.life ≠ Lifecycle.blank) ∧
  (s.dev.sec.debug = 0 ∨ s.dev.sec.debug = 3) ∧
  (tok.level = 2) ∧
  (tok.nonceOk = true) ∧
  (tok.vendor = true) ∧
  (s.dev.sec.life = Lifecycle.vendor) ∧
  (s.dev.sec.dbgPend = 2) ∧
  (ticksFrom s.dev.sec.dbgTick s.dev.tick ≤ 60000000) ∧
  (s.dev.d2Allowed = true) ∧
  (((List.find? (fun (y : Verdict) => y.type == 18 && y.bulk == false) s.dev.sec.passed).orElse fun (x : Unit) =>
    List.find? (fun (y : Verdict) => y.type == 18 && y.bulk == true) s.dev.sec.passed) = some v' ∧ s.dev.readToken v' =
    some tok) ∧
  (s.dev.tokenCode tok = 0) :=
  ⟨(st2 (sc dev0 (fun x => { x with life := .vendor, debug := 0, dbgPend := 2, dbgTick := 900, passed := [ver 0x12 (tkB 2)], dbgNonce := dn}) [])), (ver 0x12 (tkB 2)), tk, 77, by decide⟩

theorem wit_DebugLevelsHaltsAndTap_5 : ∃ (s : State) (v' : Verdict) (tok : DebugToken) (v : Word48),
  (s.dev.power.released = true) ∧
  (s.dev.calm = true) ∧
  (((List.find? (fun (y : Verdict) => y.type == 18 && y.bulk == false) s.dev.sec.passed).orElse fun (x : Unit) =>
    List.find? (fun (y : Verdict) => y.type == 18 && y.bulk == true) s.dev.sec.passed) = some v' ∧ s.dev.readToken v' =
    some tok) ∧
  (s.dev.tokenCode tok = 0) ∧
  (tok.level = 3) ∧
  (s.dev.sec.life ≠ Lifecycle.owned) :=
  ⟨(st2 ((sc dev0 (fun x => { x with life := .vendor, debug := 1, dbgPend := 3, dbgTick := 900, dbgNonce := dn, passed := [ver 0x12 (tkB 3)] }) []))), (ver 0x12 (tkB 3)), {tk with level := 3, vendor := true}, 77, by decide⟩

theorem wit_DebugLevelsHaltsAndTap_6 : ∃ (s : State) (v' : Verdict) (tok : DebugToken) (v : Word48),
  (s.dev.power.released = true) ∧
  (s.dev.calm = true) ∧
  (((List.find? (fun (y : Verdict) => y.type == 18 && y.bulk == false) s.dev.sec.passed).orElse fun (x : Unit) =>
    List.find? (fun (y : Verdict) => y.type == 18 && y.bulk == true) s.dev.sec.passed) = some v' ∧ s.dev.readToken v' =
    some tok) ∧
  (s.dev.tokenCode tok = 0) ∧
  (tok.level = 3) ∧
  (s.dev.sec.life = Lifecycle.owned) ∧
  (s.dev.sec.dbgPend = 3) :=
  ⟨(st2 ((sc dev0 (fun x => { x with life := .owned, debug := 1, dbgPend := 3, dbgTick := 900, dbgNonce := dn, passed := [{ver 0x12 (tkB 3) with signers := [1]}] }) []))), {ver 0x12 (tkB 3) with signers := [1]}, {tk with level := 3, vendor := false}, 77, by decide⟩

theorem wit_DebugLevelsHaltsAndTap_7 : ∃ (s : State) (v' : Verdict) (tok : DebugToken) (v : Word48),
  (s.dev.power.released = true) ∧
  (s.dev.calm = true) ∧
  (((List.find? (fun (y : Verdict) => y.type == 18 && y.bulk == false) s.dev.sec.passed).orElse fun (x : Unit) =>
    List.find? (fun (y : Verdict) => y.type == 18 && y.bulk == true) s.dev.sec.passed) = some v' ∧ s.dev.readToken v' =
    some tok) ∧
  (s.dev.tokenCode tok = 0) ∧
  (tok.level = 3) ∧
  (s.dev.sec.life = Lifecycle.owned) ∧
  (s.dev.sec.dbgPend = if tok.vendor = true then 19 else 35) :=
  ⟨(st2 ((sc dev0 (fun x => { x with life := .owned, debug := 1, dbgPend := 0x23, dbgTick := 900, dbgNonce := dn, passed := [{ver 0x12 (tkB 3) with signers := [1]}] }) []))), {ver 0x12 (tkB 3) with signers := [1]}, {tk with level := 3, vendor := false}, 77, by decide⟩

end trust

namespace boot

def st2 (d : Dev) : State := ⟨d, d, d, []⟩
def bo (d : Dev) (f : Power → Power) (rs : List (Nat × Nat)) : Dev := rs.foldl (fun d e => d.setReg e.1 e.2) { d with power := f d.power }
def im (ok : Bool) : FlashRead := ⟨ok, 5, 64, ⟨[], [], []⟩⟩
def rr : RetainedResult := ⟨true, true, true, 9, 5, 8, []⟩
def bt (k : Nat) : Dev := bo Dev.reset (fun p => { p with state := .boot, phase := k }) []
def bsnap : Dev := { bt 3 with cal := { Dev.reset.cal with snap := [(0x200, 5)] } }
def ut : Dev := dev0.modSt 2 fun x => { x with underTest := true }
def vr (bulk := false) : Verdict := ⟨0, 0, bulk, true, 5, some 9, 0, [0], [4], [1,2,3]⟩
def ps (d : Dev) := { d with sec := { d.sec with passed := [vr, vr true] } }

theorem wit_StartUpPhases_1 : ∃ (s : State) (img : FlashRead),
  (s.dev.power.state ≠ PowerState.off) ∧
  (s.dev.reg Obj.BUS_STATE ≠ 1) ∧
  (s.dev.reg Obj.BUS_STATE = 2) ∧
  (s.dev.power.state = PowerState.boot) ∧
  (s.dev.power.phase = 2) ∧
  (within 32 256 img.flashMib.toNat = true ∧ img.sfdpOk = true) ∧
  (s.dev.power.analogUp = false) :=
  ⟨(st2 (bo (bt 2) id [(Obj.BUS_STATE,2)])), (im true), by decide⟩

theorem wit_StartUpPhases_2 : ∃ (s : State),
  s.dev.power.state = PowerState.off :=
  ⟨(st2 Dev.reset), by decide⟩

theorem wit_StartUpPhases_3 : ∃ (s : State),
  (s.dev.reg Obj.BUS_STATE = 1) ∧
  (s.dev.power.state = PowerState.boot) ∧
  (s.dev.power.phase = 1) :=
  ⟨(st2 (bo (bt 1) id [(Obj.BUS_STATE,1)])), by decide⟩

theorem wit_StartUpPhases_4 : ∃ (s : State) (img : FlashRead),
  (s.dev.reg Obj.BUS_STATE = 3) ∧
  (s.dev.power.state = PowerState.boot) ∧
  (s.dev.reg Obj.ANALOG_STATE < 256) ∧
  (s.dev.power.phase = 2) ∧
  (¬(within 32 256 img.flashMib.toNat = true ∧ img.sfdpOk = true)) :=
  ⟨(st2 (bo (bt 2) id [(Obj.BUS_STATE,3),(Obj.ANALOG_STATE,0xF7)])), (im false), by decide⟩

theorem wit_StartUpPhases_5 : ∃ (s : State) (r : RetainedResult),
  (s.dev.power.state = PowerState.boot) ∧
  (s.dev.power.phase = 3) ∧
  (r.mramOk = true) ∧
  (r.records = []) ∧
  (s.dev.dict.records = []) :=
  ⟨(st2 bsnap), rr, by decide⟩

theorem wit_StartUpPhases_6 : ∃ (s : State),
  (s.dev.power.state = PowerState.boot) ∧
  (s.dev.power.phase = 4) ∧
  (s.dev.power.analogUp = true) ∧
  (s.dev.power.trustOk = true) ∧
  (s.dev.allParked = true) ∧
  (s.dev.reg Obj.QUIET_REQ = 0) ∧
  (s.dev.flt.due = []) :=
  ⟨(st2 (bo (bt 4) (fun p => {p with analogUp := true, trustOk := true}) [])), by decide⟩

theorem wit_StartUpPhases_7 : ∃ (s : State),
  (s.dev.power.released = true) ∧
  (s.dev.fab.atCommit = false) ∧
  (s.dev.reg Obj.BUS_STATE = 3) :=
  ⟨(st2 (bo dev1 (fun p => {p with analogUp := true, trustOk := true}) [(Obj.BUS_STATE,3)])), by decide⟩

theorem wit_QuietRebootSelfTestAndImages_1 : ∃ (s : State) (v : BitVec 32) (st : StallId) (result : BitVec 32) (bulk :
    Bool) (x : Verdict) (cmd : BitVec 8),
  (s.dev.power.released = true) ∧
  (s.dev.calm = true) ∧
  (s.dev.allParked = false ∨ (s.dev.stalls.toList.any fun (x : Stall) => x.underTest) = true ∨ s.dev.sysActive = true) ∧
  (s.dev.power.state ≠ PowerState.quiet) ∧
  (v ≠ 1953460066) ∧
  (s.dev.power.state = PowerState.parked ∨ s.dev.power.state = PowerState.quiet) ∧
  (s.dev.sec.debug ≠ 3) ∧
  (s.dev.loadBusy = false) ∧
  (s.dev.load.claims = []) ∧
  (s.dev.pcie.load.waiting = 0) ∧
  (s.dev.dict.retains = []) ∧
  (s.dev.sysActive = false) ∧
  (s.dev.power.state = PowerState.quiet ∨ (s.dev.stalls.toList.any fun (x : Stall) => x.underTest) = true) ∧
  ((s.dev.st st).underTest = true) ∧
  (natBits result.toNat 25 16 = 0) ∧
  (List.find? (fun (y : Verdict) => y.type == 5 && y.bulk == bulk) s.dev.sec.passed = none) ∧
  (cmd ≠ 1) :=
  ⟨(st2 ut), 5, 2, 0, true, vr, 5, by decide⟩

theorem wit_QuietRebootSelfTestAndImages_2 : ∃ (s : State) (mask : BitVec 8) (st : StallId) (bulk : Bool) (x : Verdict),
  (s.dev.power.released = true) ∧
  (s.dev.calm = true) ∧
  (s.dev.allParked = true) ∧
  ((s.dev.stalls.toList.any fun (x : Stall) => x.underTest) = false) ∧
  (s.dev.sysActive = false) ∧
  (s.dev.power.state ≠ PowerState.quiet) ∧
  (((List.finRange 8).all fun (x : Fin 8) => !natBit mask.toNat ↑x || s.dev.stallParked x) = true) ∧
  ((s.dev.st st).underTest = false) ∧
  (List.find? (fun (y : Verdict) => y.type == 5 && y.bulk == bulk) s.dev.sec.passed = some x) :=
  ⟨(st2 (ps dev0)), 0x0F, 2, true, (vr true), by decide⟩

theorem wit_QuietRebootSelfTestAndImages_3 : ∃ (s : State),
  (s.dev.power.released = true) ∧
  (s.dev.calm = true) ∧
  (s.dev.power.state = PowerState.quiet) ∧
  (s.dev.reg Obj.QUIET_REQ = 0) ∧
  (s.dev.allParked = true) :=
  ⟨(st2 (bo dev0 (fun p => {p with state := .quiet}) [])), by decide⟩

theorem wit_QuietRebootSelfTestAndImages_4 : ∃ (s : State) (st : StallId) (result : BitVec 32),
  (s.dev.power.released = true) ∧
  (s.dev.calm = true) ∧
  ((s.dev.st st).underTest = true) ∧
  (natBits result.toNat 25 16 ≠ 0) ∧
  (s.dev.flt.active = []) ∧
  (s.dev.flt.queue = []) ∧
  (s.dev.flt.escal = none) :=
  ⟨(st2 ut), 2, 0x30000, by decide⟩

theorem wit_QuietRebootSelfTestAndImages_5 : ∃ (s : State),
  (s.dev.power.released = true) ∧
  (s.dev.calm = true) ∧
  (s.dev.power.state ≠ PowerState.parked) ∧
  (s.dev.power.state ≠ PowerState.quiet) :=
  ⟨(st2 (bo dev1 (fun p => {p with state := .armed}) [])), by decide⟩

end boot

namespace dict

def st2 (d : Dev) : State := ⟨d, d, d, []⟩
def rw1 : RetainWrite := ⟨0x300, 0x2101, 1, 0, 950, 0⟩
def dr : Dev := { (dev0.setReg Obj.SYNC_ROLE 2) with dict := { dev0.dict with retains := [rw1] } }
def ds (x : Nat) : Dev := { dev1 with sec := { dev1.sec with sess := .opened, sessLink := 0, sealSeq := x } }

theorem wit_ObjectsRecordsAndSealedRequests_1 : ∃ (s : State) (idx : BitVec 16) (record : BitVec 16) (sub : BitVec 8)
    (len : Nat) (value : Nat) (v : BitVec 32) (w : RetainWrite) (bulk : Bool),
  (s.dev.power.released = true) ∧
  (s.dev.calm = true) ∧
  (s.dev.receipt false false idx.toNat sub.toNat len value ≠ 0) ∧
  (s.dev.missing 8452 5 = 0) ∧
  (s.dev.ec.esm ≠ EsmState.op) ∧
  (s.dev.wrote.contains (64, Obj.ARM_MASK) = false) ∧
  (s.dev.dict.retains = [w]) ∧
  (w.record = record.toNat) ∧
  (w.source = 0) ∧
  (v ≠ 1702257011) ∧
  (s.dev.allParked = true) ∧
  (v ≠ 1684107116) ∧
  (v.toNat % 256 = 0) ∧
  (s.dev.power.released = true ∧ s.dev.fab.atCommit = false) ∧
  (s.dev.missing idx.toNat 0 = 0) ∧
  (s.dev.missing idx.toNat sub.toNat = 0) ∧
  (s.dev.sec.sess ≠ SessState.opened ∨ s.dev.sec.sessLink ≠ b2n bulk) :=
  ⟨(st2 dr), 0x2104, 0x300, 5, 7, 9, 0x27100700, rw1, false, by decide⟩

theorem wit_ObjectsRecordsAndSealedRequests_2 : ∃ (s : State) (idx : BitVec 16) (sub : BitVec 8) (req : List Byte)
    (bulk : Bool),
  (s.dev.power.released = true) ∧
  (s.dev.calm = true) ∧
  (s.dev.missing 8449 1 = 0) ∧
  (s.dev.ec.esm ≠ EsmState.op) ∧
  (s.dev.wrote.contains (64, Obj.SYNC_ROLE) = false) ∧
  (s.dev.allParked = false) ∧
  (s.dev.dict.retains = []) ∧
  (s.dev.power.released = true ∧ s.dev.fab.atCommit = false) ∧
  (s.dev.missing idx.toNat 0 ≠ 0) ∧
  (s.dev.missing idx.toNat sub.toNat ≠ 0) ∧
  (s.dev.sec.sess = SessState.opened) ∧
  (s.dev.sec.sessLink = b2n bulk) ∧
  (req.length < 24) :=
  ⟨(st2 (ds 5)), 0x1f04, 5, [1,2,3], false, by decide⟩

end dict

namespace fabric

def gt1 : Dev := dev1.modCh 3 fun c => (c.modGust fun g => { g with armed := some 5 }).sineStart 900 3
def inj (b : Bool) : Dev := dev1.setCreg 3 (if b then Obj.MI_INJ_CTRL else Obj.MV_INJ_CTRL) 0x81
def aux1 : Dev := dev1.setSreg 0 Obj.AUX_INJ_CTRL 0x80
def reg1 : Dev := ((dev1.setCreg 3 (Obj.MPLAN_HDR 2) 0x180000)).modCh 3 fun c => c.modForce fun f => { f with plan := 2 }
def out1 : Dev := (dev1.setReg (Obj.EVIO_CFG 3) (0xC0000000+0x10)).setReg (Obj.MKO_CFG 2) 50

theorem wit_EdgesWaitForTheirCommit_1 : ∃ (s : State) (n : ChanId) (w : Idx4) (u : Idx16) (cyc : Cycle) (c : Instr)
    (con : Nat),
  (s.dev.power.released = true ∧ s.dev.fab.atCommit = false) ∧
  (s.dev.role n = 0) ∧
  ((c, con) ∈ [(Instr.waitEdge n w cyc, 4 + w.val), (Instr.jmpEdge n cyc, 8), (Instr.holdRequest n cyc, 11),
    (Instr.tallyOpenEdge n u cyc, 12 + u.val), (Instr.tallyCloseEdge n u cyc, 28 + u.val)]) ∧
  (∀ e ∈ (s.dev.ch n).edges, e.con = con → (e.act ≠ if ↑cyc ≤ 249 then s.dev.tick + 1 else s.dev.tick + 2) ∧ (e.tick,
    e.cyc) ≠ (s.dev.tick, ↑cyc)) ∧
  (¬(con < 8 ∧ bit (s.dev.ch n).bk.latch (con - 4) = true ∨ con = 11 ∧ (s.dev.ch n).hold ≠ none)) :=
  ⟨(st dev1), 3, 1, 5, 300, (.jmpEdge 3 300), 8, by decide⟩

theorem wit_EdgesWaitForTheirCommit_2 : ∃ (s : State) (n : ChanId) (w : Idx4) (u : Idx16) (cyc : Cycle) (c : Instr)
    (con : Nat),
  (s.dev.power.released = true ∧ s.dev.fab.atCommit = false) ∧
  (s.dev.role n = 0) ∧
  ((c, con) ∈ [(Instr.waitEdge n w cyc, 4 + w.val), (Instr.jmpEdge n cyc, 8), (Instr.holdRequest n cyc, 11),
    (Instr.tallyOpenEdge n u cyc, 12 + u.val), (Instr.tallyCloseEdge n u cyc, 28 + u.val)]) ∧
  (∀ e ∈ (s.dev.ch n).edges, e.con = con → (e.tick, e.cyc) ≠ (s.dev.tick, ↑cyc)) ∧
  ((con < 8 ∧ bit (s.dev.ch n).bk.latch (con - 4) = true ∨ con = 11 ∧ (s.dev.ch n).hold ≠ none) ∨ ∃ e ∈ (s.dev.ch
    n).edges, e.con = con ∧ e.act = if ↑cyc ≤ 249 then s.dev.tick + 1 else s.dev.tick + 2) :=
  ⟨(st (dev1.modCh 3 fun c => {c with edges := [⟨17,1001,1000,20,[]⟩]})), 3, 1, 5, 30, (.tallyOpenEdge 3 5 30), 17, by decide⟩

theorem wit_OutputLandsAndLocks_1 : ∃ (s : State) (k : Idx16) (p : StallId) (t' : BitVec 8),
  (s.dev.power.released = true ∧ s.dev.fab.atCommit = false) ∧
  (natBits (s.dev.reg (Obj.EVIO_CFG ↑k)) 30 29 < 2) ∧
  (natBit (s.dev.reg (Obj.MKO_SRC ↑p)) 15 = true ∨ s.dev.fab.mkoMode[p] ≠ 0) ∧
  (s.dev.power.released = true) ∧
  (t'.toNat < 128) :=
  ⟨(st dev1), 3, 2, 5, by decide⟩

theorem wit_OutputLandsAndLocks_2 : ∃ (s : State) (k : Idx16) (t' : BitVec 8) (cyc : Cycle),
  (s.dev.power.released = true ∧ s.dev.fab.atCommit = false) ∧
  (2 ≤ natBits (s.dev.reg (Obj.EVIO_CFG ↑k)) 30 29) ∧
  (s.dev.merges (4096 + k.val) (s.dev.tick, ↑cyc) = false) ∧
  (s.dev.power.released = true) ∧
  (128 ≤ t'.toNat) :=
  ⟨(st out1), 3, 0x85, 7, by decide⟩

theorem wit_TriggersAct_1 : ∃ (s : State) (n : ChanId) (mi : Bool) (cyc : Cycle),
  (s.dev.power.released = true ∧ s.dev.fab.atCommit = false) ∧
  (s.dev.role n = 0) ∧
  (s.dev.merges (64 * ↑n + 9) (s.dev.tick, ↑cyc) = false) ∧
  ((s.dev.ch n).gust.armed = none) ∧
  (s.dev.merges (64 * ↑n + 10) (s.dev.tick, ↑cyc) = false) ∧
  ((s.dev.ch n).sine.on = false) ∧
  (s.dev.merges (64 * ↑n + mi.toNat) (s.dev.tick, ↑cyc) = false) ∧
  ((s.dev.ch n).converts = true) ∧
  (s.dev.sysPlan n = false) ∧
  (hdrEvent mi (planHdr (s.dev.ch n) (s.dev.ch n).force.plan) = true) ∧
  (hdrLen mi (planHdr (s.dev.ch n) (s.dev.ch n).force.plan) ≠ 0) ∧
  (qualOn ((s.dev.ch n).reg (if mi = true then Obj.MI_REG_QUAL else Obj.MV_REG_QUAL)) = false) ∧
  (((s.dev.ch n).conv mi).pulses = []) ∧
  (((s.dev.ch n).conv mi).injSlot = none) ∧
  (((s.dev.ch n).conv mi).waits = []) ∧
  (∀ (r : Running), ((s.dev.ch n).conv mi).run = some r → r.kind ≠ ConvKind.regular) ∧
  (((s.dev.ch n).conv mi).begun.length < 2) :=
  ⟨(st reg1), 3, false, 7, by decide⟩

theorem wit_TriggersAct_2 : ∃ (s : State) (n : ChanId) (p : Nat) (cyc : Cycle),
  (s.dev.power.released = true ∧ s.dev.fab.atCommit = false) ∧
  (s.dev.role n = 0) ∧
  (s.dev.merges (64 * ↑n + 9) (s.dev.tick, ↑cyc) = false) ∧
  ((s.dev.ch n).gust.armed = some p) ∧
  ((s.dev.ch n).gust.sched = none) ∧
  ((s.dev.ch n).gust.runsAt (s.dev.tick, ↑cyc) = false) ∧
  (s.dev.merges (64 * ↑n + 10) (s.dev.tick, ↑cyc) = false) ∧
  ((s.dev.ch n).sine.on = true) ∧
  ((s.dev.ch n).sine.resetAt = none) :=
  ⟨(st gt1), 3, 5, 499, by decide⟩

theorem wit_TriggersAct_3 : ∃ (s : State) (n : ChanId) (st : StallId) (cyc : Cycle),
  (s.dev.power.released = true ∧ s.dev.fab.atCommit = false) ∧
  (s.dev.role n = 0) ∧
  (s.dev.merges (4120 + st.val) (s.dev.tick, ↑cyc) = false) ∧
  (natBit (s.dev.sreg st Obj.AUX_INJ_CTRL) 7 = true) ∧
  (qualOn (s.dev.sreg st Obj.AUX_INJ_QUAL) = false) ∧
  ((s.dev.st st).auxPulses = []) ∧
  ((s.dev.st st).auxInj = none) :=
  ⟨(st aux1), 3, 0, 499, by decide⟩

theorem wit_TriggersAct_4 : ∃ (s : State) (n : ChanId) (mi : Bool) (cyc : Cycle),
  (s.dev.power.released = true ∧ s.dev.fab.atCommit = false) ∧
  (s.dev.role n = 0) ∧
  (s.dev.merges (64 * ↑n + if mi = true then 3 else 2) (s.dev.tick, ↑cyc) = false) ∧
  ((s.dev.ch n).converts = true) ∧
  (s.dev.sysOn n = false) ∧
  (natBit ((s.dev.ch n).reg (if mi = true then Obj.MI_INJ_CTRL else Obj.MV_INJ_CTRL)) 7 = true) ∧
  (qualOn ((s.dev.ch n).reg (if mi = true then Obj.MI_INJ_QUAL else Obj.MV_INJ_QUAL)) = false) ∧
  (((s.dev.ch n).conv mi).pulses = []) ∧
  (((s.dev.ch n).conv mi).injSlot = none) ∧
  (((s.dev.ch n).conv mi).injAt = none) :=
  ⟨(st (inj true)), 3, true, 499, by decide⟩

theorem wit_TriggersAct_5 : ∃ (s : State) (n : ChanId) (k : Idx16) (rising : Bool) (cyc : Cycle),
  (s.dev.power.released = true ∧ s.dev.fab.atCommit = false) ∧
  (s.dev.role n = 0) ∧
  (evioDir (s.dev.reg (Obj.EVIO_CFG ↑k)) % 2 = 1) ∧
  (evioFires (s.dev.reg (Obj.EVIO_CFG ↑k)) rising = true) ∧
  ((s.dev.fab.quiet.any fun (q : Nat × Tick) => q.1 == ↑k && reached q.2 s.dev.tick) = false) ∧
  (↑cyc < 497) ∧
  (s.dev.tethersOf (1040 + k.val) = []) :=
  ⟨(st (dev1.setReg (Obj.EVIO_CFG 5) (2^29))), 3, 5, true, 7, by decide⟩

end fabric

theorem wit_StepRunsTheFrontCommand_1 : ∃ (s : State) (c : Instr) (rest : List Instr), s.pending = c :: rest :=
  ⟨{ st dev0 with pending := [.quietEnter, .quietExit] }, .quietEnter, [.quietExit], by decide⟩

theorem wit_StepRunsTheFrontCommand_2 : ∃ s : State, s.pending = [] := ⟨st dev0, by decide⟩

theorem wit_StepsKeepTheLedgerCanonical : ∃ s t : State, s.dev.frame.wf ∧ step s = .next t :=
  ⟨State.reset, _, by unfold Frame.wf; decide, rfl⟩

theorem wit_TrustChangesByItsCommandsAlone : ∃ (c : Instr) (s t : State), exec c s = .next t ∧ movesTrust c = false :=
  ⟨.sdoUpload 0x2001 1 0, st dev0, _, rfl, by decide⟩

theorem wit_TickMovesByCommitsAndEpochsAlone :
    ∃ (c : Instr) (s t : State), movesTick c = false ∧ s.live ∧ exec c s = .next t ∧ t.live :=
  ⟨.quietExit, st dev0, _, by decide, by unfold State.live; decide, rfl, by unfold State.live; decide⟩

theorem wit_CommitBeginsTheNextTick : ∃ s : State, s.live ∧ s.dev.frame.wf :=
  ⟨st dev0, by unfold State.live Frame.wf; decide⟩

end Sys2Proof.Tests
end

section
/-! R2: the numbering of channels by stall and position. -/

namespace Sys2Proof

theorem stallOf_val (n : ChanId) : (stallOf n).val = n.val / 8 := rfl

theorem posOf_lt (n : ChanId) : posOf n < 8 := Nat.mod_lt _ (by decide)

theorem isHS_iff_posOf_eq (n : ChanId) : isHS n = true ↔ posOf n = 7 := beq_iff_eq

@[simp] theorem stallOf_chanAt (st : StallId) (p : Fin 8) : stallOf (chanAt st p) = st :=
  Fin.ext (by simp only [stallOf, chanAt]; omega)

@[simp] theorem posOf_chanAt (st : StallId) (p : Fin 8) : posOf (chanAt st p) = p.val := by
  simp only [posOf, chanAt]; omega

@[simp] theorem chanAt_stallOf_posOf (n : ChanId) : chanAt (stallOf n) ⟨posOf n, posOf_lt n⟩ = n :=
  Fin.ext (Nat.div_add_mod' n.val 8)

/-- `chanAt` inverts the pair of `stallOf` and `posOf`. -/
theorem chanAt_eq_iff (st : StallId) (p : Fin 8) (n : ChanId) :
    chanAt st p = n ↔ stallOf n = st ∧ posOf n = p.val := by
  constructor
  · rintro rfl
    exact ⟨stallOf_chanAt st p, posOf_chanAt st p⟩
  · rintro ⟨rfl, hp⟩
    have hp' : p = ⟨posOf n, posOf_lt n⟩ := Fin.ext hp.symm
    rw [hp', chanAt_stallOf_posOf]

/-- The HS channels of the 64 are those R2 lists. -/
theorem isHS_iff_mem (n : ChanId) : isHS n = true ↔ n.val ∈ [7, 15, 23, 31, 39, 47, 55, 63] := by
  have hn : n.val < 64 := n.isLt
  rw [isHS_iff_posOf_eq, posOf]
  simp only [List.mem_cons, List.not_mem_nil, or_false]
  omega

/-- Settles O8: stall and position are quotient and remainder by 8, and `chanAt` is the inverse of the pair. -/
theorem channelsStallsAndPositions : Obligations.ChannelsStallsAndPositions := fun n =>
  ⟨stallOf_val n, rfl, isHS_iff_mem n, isHS_iff_posOf_eq n, fun st p => chanAt_eq_iff st p n⟩

end Sys2Proof
end

section
namespace Sys2Proof.Machine
open Sys2Proof

/-! R20, R40: how each shape of command ends. -/

/-- A command at a state ends in a next state, leaves the queue, and shows reads one of the three modules of R20 and R40. -/
def Answered (s : State) (o : Host.Outcome State Fault Refusal) : Prop :=
  ∃ t, o = .next t ∧ t.pending = s.pending ∧
    (t.shown = s.shown ∨ (s.dev.fab.atCommit = true ∧ t.shown = s.dev.seal) ∨ t.shown = t.dev)

theorem answered_next (s : State) : Answered s (.next s) := ⟨s, rfl, rfl, .inl rfl⟩

theorem answered_runIn (s : State) (f : Dev → Dev) : Answered s (runIn s f) := ⟨_, rfl, rfl, .inl rfl⟩

theorem answered_runAt (s : State) (f : Dev → Dev) : Answered s (runAt s f) := ⟨_, rfl, rfl, .inr (.inr rfl)⟩

theorem answered_runIn_sealed (s : State) (f : Dev → Dev) : Answered s (runIn s.sealed f) := by
  unfold State.sealed
  split
  · next h => exact ⟨_, rfl, rfl, .inr (.inl ⟨h, rfl⟩)⟩
  · exact answered_runIn s f

theorem answered_liveIn (s : State) (f : Dev → Dev) : Answered s (liveIn s f) := answered_runIn_sealed s _

theorem answered_liveAt (s : State) (f : Dev → Dev) : Answered s (liveAt s f) := by
  unfold liveAt
  split
  · exact answered_runAt s f
  · exact answered_next s

theorem answered_liveRead (s : State) (cyc : Cycle) (f : Dev → Dev) : Answered s (liveRead s cyc f) := by
  unfold liveRead
  split
  · exact answered_runIn s _
  · exact answered_liveIn s f

theorem answered_commit (s : State) (inp : TickInputs) : Answered s (execCommit inp s) := by
  unfold execCommit
  split
  · exact ⟨_, rfl, rfl, .inr (.inr rfl)⟩
  · exact answered_next s

theorem answered_ledgerReadParity (s : State) (line : BitVec 17) (cause : ReadCause) (persistent : Bool) :
    Answered s (execLedgerReadParity line cause persistent s) := by
  unfold execLedgerReadParity
  split
  · exact answered_liveIn s _
  · cases cause with
    | playback => exact answered_liveAt s _
    | lookahead | sweep | march => exact answered_liveIn s _

/-- Every command is of one of the shapes; the rows that no alternative names act at a commit. -/
theorem answered_exec (c : Instr) (s : State) : Answered s (exec c s) := by
  unfold exec
  cases c with
  | commit => exact answered_commit s _
  | ledgerReadParity => exact answered_ledgerReadParity s _ _ _
  | pcieReset => exact answered_runIn_sealed s _
  | refclkLoss | refclkPresent | refclkRelock => exact answered_runIn s _
  | powerGood | busStart | busInRegulation | stallAnalogReady | fusePhase | configMemoryPhase | retainedStatePhase
  | release | powerLoss | ecLinkLost | ecLinkUp | tapBypass | tapIdcode | tapSamplePreload | tapExtest
  | perstNDeassert | pcieLinkTrained | tapReset => exact answered_runAt s _
  | sync0Event | sdoUpload | sdoCompleteAccessRead | windowRead | objRead | objCaRead | tickLoRead => exact answered_liveRead s _ _
  | jmpEdge | waitEdge | holdRequest | clampEngage | clampRelease | hardwareTrip | railFail | aggCurrent
  | derateLevelChange | shareFault | ringDrop | rangeChangeBreak | gustTrigger | gustInjectionStart
  | gustInjectionEnd | sinePhaseReset | timerConversionStart | regTrigger | injTrigger | injSequenceStart
  | conversionDone | calConversion | auxWindow | auxInjTrigger | owSettleExpiry | wmTransition | tallyOpenEdge
  | tallyCloseEdge | evioEdge | evioOutput | evioPulseEnd | mkoOutput | syncMark | syncLost | pdFrame
  | sm2Watchdog | sync0Missed | esmInitToPreop | esmPreopToSafeop | esmSafeopToOp | esmLeaveOp
  | esmBootstrapRequest | esmInvalidRequest | mailboxRequest | sdoDownload | sdoCompleteAccessWrite | getOdList
  | getObjectDescription | getEntryDescription | sdoSegmentTimeout | busMasterDisable | windowWrite
  | irqStatusWrite | queueEnable | queueReset | queueTailWrite | exportTailWrite | exportWrite | objWrite
  | objCaWrite | dmaReadError | tlpUnsupported | spoolRefill | ledgerLoad | gustProfile | containerVerified | nop
  | ldi | ldh | mov | ld | st | engIn | engOut | lut | luti | add | sub | addi | addw | engNeg | engAbs | engMin
  | engMax | engAnd | engOr | engXor | shl | shr | engSat | engClamp | sels | ext | ins | mul | mac | accrd
  | accld | puts | tacc | flag | engFault | corr | crd | cclr | stallLinkWord | silentTick | linkUncorr
  | linkSilent | stallTjLimit | programParity | refetchDone | scratchpadParity | scrRestoreDone | stallDiscard
  | stallBudget | scrubRead | marchBorrow | marchRelease | marchRestoreDone | safePath | mgmtWdt | busFail
  | esmDownwardTransition | bar0RegisterWrite => exact answered_liveIn s _
  | _ => exact answered_liveAt s _

end Sys2Proof.Machine

namespace Sys2Proof
open Sys2Proof.Machine

/-- Settles O2: each shape of command ends in a next state, leaves the queue and shows reads one of the three modules. -/
theorem commandsAnswerAndKeepTheQueue : Obligations.CommandsAnswerAndKeepTheQueue := fun c s => answered_exec c s

end Sys2Proof
end

section
namespace Sys2Proof.Machine
open Sys2Proof

/-! R18: the end of a regular conversion. -/

@[simp] theorem Channel.conv_modConv_same (c : Channel) (mi : Bool) (f : Conv → Conv) :
    (c.modConv mi f).conv mi = f (c.conv mi) := by cases mi <;> rfl

@[simp] theorem Channel.conv_modConv_other (c : Channel) (mi : Bool) (f : Conv → Conv) :
    (c.modConv mi f).conv (!mi) = c.conv (!mi) := by cases mi <;> rfl

@[simp] theorem Channel.conv_inc (c : Channel) (w k : Nat) (mi : Bool) : (c.inc w k).conv mi = c.conv mi := rfl

theorem exec_conversionDone (n : ChanId) (mi : Bool) (raw : BitVec 18) (cyc : Cycle) (s : State) :
    exec (.conversionDone n mi raw cyc) s = liveIn s fun d => d.conversionEnd n mi raw cyc.val := rfl

/-- No pulse of a trigger is measured: none ends (R168). -/
theorem Dev.pulsesTo_idle (d : Dev) (n : ChanId) (mi : Bool) (x : Tick × Nat) (h : ((d.ch n).conv mi).pulses = []) :
    d.pulsesTo n mi x = d := by
  simp [Dev.pulsesTo, h]

/-- Nothing waits for the converter: nothing begins (R167). -/
theorem Dev.beginWaiting_idle (d : Dev) (n : ChanId) (mi : Bool) (x : Tick × Nat)
    (h : ((d.ch n).conv mi).waits = []) : d.beginWaiting n mi x = d := by
  simp [Dev.beginWaiting, h]

/-- The row of a conversion that has not ended yet changes nothing (R160). -/
theorem Dev.conversionEnd_running (d : Dev) (n : ChanId) (mi : Bool) (raw : BitVec 18) (cyc : Nat) (r : Running)
    (hr : ((d.ch n).conv mi).run = some r) (hb : before (d.tick, cyc) r.stop = true) :
    d.conversionEnd n mi raw cyc = d := by
  simp [Dev.conversionEnd, hr, hb]

/-- The channel after the counters of a conversion and what it means for background calibration. -/
def Channel.counted (c : Channel) (mi : Bool) (e : Entry) : Channel :=
  let c := c.inc 64 (mvmi mi Obj.MV_CONV Obj.MI_CONV)
  let c := if bit e.tags 3 then c.inc 32 Obj.UNSETTLED_CNT else c
  { c with cal := { c.cal with gains := putBit c.cal.gains (4 * b2n mi + e.pga % 4) true } }

@[simp] theorem Channel.conv_counted (c : Channel) (mi b : Bool) (e : Entry) : (c.counted mi e).conv b = c.conv b := by
  unfold Channel.counted
  dsimp only
  split <;> cases b <;> rfl

/-- The converter after a regular conversion, whose sample entry reaches the present window or the next. -/
def Conv.made (v : Conv) (r : Running) (len : Nat) (e : Entry) (here : Bool) : Conv :=
  { v with
    run := none, lastEnd := some r.stop, lastIn := some (slotInput r.word), lastPga := some (slotPga r.word),
    gainRun := decide (v.lastPga ≠ some (slotPga r.word)),
    pos := if r.adv then (if r.slot + 1 < len then r.slot + 1 else 0) else v.pos,
    regPga := slotPga r.word, regTick := some r.start.1, tags := v.tags ||| e.tags,
    entries := if here then insertEntry e v.entries else v.entries,
    next := if here then v.next else insertEntry e v.next }

/-- The sample of a conversion is in the engine window of the present tick if it completed by t+0.020 µs (R18). -/
def Dev.sampleHere (d : Dev) (r : Running) : Bool := !before (d.tick, 10) r.stop

/-- The sample entry that a conversion leaves. -/
def Dev.sampleOf (d : Dev) (n : ChanId) (mi : Bool) (r : Running) (raw : BitVec 18) : Entry :=
  d.entryOf n mi r raw (if d.sampleHere r then d.tick else d.tick + 1)

/-- A regular conversion that is made changes its channel alone (R160). -/
theorem Dev.finishConv_regular (d : Dev) (n : ChanId) (mi : Bool) (r : Running) (raw : BitVec 18)
    (hk : r.kind = .regular) :
    d.finishConv n mi r raw = d.modCh n fun c => (c.counted mi (d.sampleOf n mi r raw)).modConv mi
      (·.made r (hdrLen mi (planHdr (d.cfg n) (d.ch n).force.plan)) (d.sampleOf n mi r raw) (d.sampleHere r)) := by
  have hhere : (!before (d.tick, 10) r.stop) = d.sampleHere r := rfl
  have he : d.entryOf n mi r raw (if d.sampleHere r = true then d.tick else d.tick + 1) = d.sampleOf n mi r raw := rfl
  have hpre : (ConvKind.regular == .preClose) = false := rfl
  unfold Dev.finishConv
  simp only [hk, hhere, he, hpre]
  generalize d.sampleOf n mi r raw = e
  by_cases hb : bit e.tags 3 = true <;>
    simp [hb, Dev.bgCounts, Dev.cinc, Dev.modCh_modCh, Channel.counted, Conv.made]

section
variable (d : Dev) (n : ChanId) (mi : Bool) (r : Running) (raw : BitVec 18)

theorem Dev.conv_finishConv_regular (hk : r.kind = .regular) :
    ((d.finishConv n mi r raw).ch n).conv mi = ((d.ch n).conv mi).made r
      (hdrLen mi (planHdr (d.cfg n) (d.ch n).force.plan)) (d.sampleOf n mi r raw) (d.sampleHere r) := by
  rw [d.finishConv_regular n mi r raw hk, Dev.ch_modCh, if_pos rfl, Channel.conv_modConv_same, Channel.conv_counted]

theorem Dev.conv_finishConv_other_quantity (hk : r.kind = .regular) :
    ((d.finishConv n mi r raw).ch n).conv (!mi) = (d.ch n).conv (!mi) := by
  rw [d.finishConv_regular n mi r raw hk, Dev.ch_modCh, if_pos rfl, Channel.conv_modConv_other, Channel.conv_counted]

theorem Dev.ch_finishConv_other (hk : r.kind = .regular) (m : ChanId) (hm : m ≠ n) :
    (d.finishConv n mi r raw).ch m = d.ch m := by
  rw [d.finishConv_regular n mi r raw hk, Dev.ch_modCh, if_neg hm]

/-- A regular conversion that has ended, with nothing waiting, is made, and its converter rests. -/
theorem Dev.conversionEnd_regular (cyc : Nat) (hrun : ((d.ch n).conv mi).run = some r)
    (hwaits : ((d.ch n).conv mi).waits = []) (hpulses : ((d.ch n).conv mi).pulses = []) (hrole : d.role n = 0)
    (hk : r.kind = .regular) (hb : before (d.tick, cyc) r.stop = false) :
    d.conversionEnd n mi raw cyc = d.finishConv n mi r raw := by
  have hend : (((d.finishConv n mi r raw).ch n).conv mi).waits = [] := by
    rw [d.conv_finishConv_regular n mi r raw hk]
    exact hwaits
  simp [Dev.conversionEnd, hrun, hb, d.leaderOf_alone n hrole, d.pulsesTo_idle n mi r.stop hpulses, hk,
    Dev.beginWaiting_idle _ n mi r.stop hend]
end

end Sys2Proof.Machine

namespace Sys2Proof
open Sys2Proof.Machine

/-- Settles O9: a regular conversion that has ended puts its entry into the window of the present tick or of the next. -/
theorem samplesReachTheirWindow : Obligations.SamplesReachTheirWindow := by
  intro s n mi raw cyc r hin v hrun hwaits hpulses hrole hk
  refine ⟨fun hb => gives_in hin (exec_conversionDone ..) ?_, fun hb => gives_in hin (exec_conversionDone ..) ?_⟩
  · rw [s.dev.conversionEnd_running n mi raw cyc r hrun hb]
    rfl
  · rw [s.dev.conversionEnd_regular n mi r raw cyc hrun hwaits hpulses hrole hk hb]
    have hconv := s.dev.conv_finishConv_regular n mi r raw hk
    refine ⟨rfl, rfl, fun hh => ?_, fun hh => ?_, congrArg Conv.run hconv,
      s.dev.conv_finishConv_other_quantity n mi r raw hk, s.dev.ch_finishConv_other n mi r raw hk, rfl⟩
    · exact ⟨(congrArg Conv.entries hconv).trans (if_pos hh), (congrArg Conv.next hconv).trans (if_pos hh)⟩
    · have hh' : ¬ s.dev.sampleHere r = true := Bool.not_eq_true _ ▸ hh
      exact ⟨(congrArg Conv.entries hconv).trans (if_neg hh'), (congrArg Conv.next hconv).trans (if_neg hh')⟩

end Sys2Proof
end

section
namespace Sys2Proof.Machine
open Sys2Proof

/-! R12, R13, R68, R546: words of a stall link that are lost. -/

theorem exec_linkUncorr (k : StallId) (s : State) : exec (.linkUncorr k) s =
    liveIn s fun d => if d.linkFails k then d.raiseAt (d.tick + 1) 0x0904 3 .stall k.val 0 else d := rfl

/-- The channels that an uncorrectable word carried. -/
def carried (k : StallId) (chans : BitVec 8) : List ChanId :=
  (List.finRange 8).filterMap fun p => if bit chans p.val then some (chanAt k p) else none

theorem mem_carried (k : StallId) (chans : BitVec 8) (n : ChanId) :
    n ∈ carried k chans ↔ (stallOf n == k && bit chans (posOf n)) = true := by
  simp only [carried, List.mem_filterMap, List.mem_finRange, true_and, Option.ite_none_right_eq_some,
    Option.some.injEq, Bool.and_eq_true, beq_iff_eq]
  constructor
  · rintro ⟨p, hp, rfl⟩
    exact ⟨stallOf_chanAt k p, by rwa [posOf_chanAt]⟩
  · rintro ⟨rfl, hb⟩
    exact ⟨⟨posOf n, posOf_lt n⟩, hb, chanAt_stallOf_posOf n⟩

theorem mem_chansOf (k : StallId) (n : ChanId) : n ∈ chansOf k ↔ (stallOf n == k) = true := by
  simp only [chansOf, List.mem_map, List.mem_finRange, true_and, beq_iff_eq]
  constructor
  · rintro ⟨p, rfl⟩
    exact stallOf_chanAt k p
  · rintro rfl
    exact ⟨⟨posOf n, posOf_lt n⟩, chanAt_stallOf_posOf n⟩

/-- A word of the channel failed: its shadows keep the active values (R13). -/
def Channel.keepsShadows (c : Channel) : Channel := c.modForce fun f => { f with wordLost := true }

/-- The work of the present tick is discarded on the channel for a cause, unless it already is for another (R68). -/
def Channel.loses (code : Nat) (c : Channel) : Channel := { c with lost := some (c.lost.getD code) }

theorem Channel.loses_of_lost (c : Channel) (code : Nat) (h : c.lost.isSome = true) : c.loses code = c := by
  obtain ⟨x, hx⟩ := Option.isSome_iff_exists.1 h
  cases c
  simp_all [Channel.loses]

theorem Channel.keepsShadows_regs (c : Channel) : c.keepsShadows.regs = c.regs := rfl
theorem Channel.keepsShadows_keepsShadows (c : Channel) : c.keepsShadows.keepsShadows = c.keepsShadows := rfl
theorem Channel.loses_regs (code : Nat) (c : Channel) : (c.loses code).regs = c.regs := rfl

theorem Channel.loses_loses (c : Channel) (code : Nat) : (c.loses code).loses code = c.loses code :=
  Channel.loses_of_lost _ _ rfl

/-- In a channel of no gang a lost tick concerns that channel alone. -/
theorem Dev.loseTick_alone (d : Dev) (n : ChanId) (code : Nat) (h : d.role n = 0) :
    d.loseTick n code = d.modCh n (·.loses code) := by
  simp [Dev.loseTick, Dev.gangOf, d.leaderOf_alone n h, d.members_alone n h, Channel.loses]

/-- The channels of a list have taken a change, and of the rest that a lost word touches only LINK_HELD of the stall. -/
structure Dev.Took (k : StallId) (l : List ChanId) (F : Channel → Channel) (d t : Dev) : Prop where
  ch   : ∀ m, t.ch m = if m ∈ l then F (d.ch m) else d.ch m
  due  : t.flt.due = d.flt.due
  tick : t.tick = d.tick
  sreg : ∀ j, j ≠ Obj.LINK_HELD → t.sreg k j = d.sreg k j
  silentAt  : (t.st k).silentAt = (d.st k).silentAt
  silentDie : (t.st k).silentDie = (d.st k).silentDie

theorem Dev.Took.nil (k : StallId) (F : Channel → Channel) (d : Dev) : Dev.Took k [] F d d :=
  ⟨fun m => by simp, rfl, rfl, fun _ _ => rfl, rfl, rfl⟩

/-- One change after the other, where the second leaves a channel that has taken it. -/
theorem Dev.Took.cons {k : StallId} {n : ChanId} {l : List ChanId} {F : Channel → Channel} {d t u : Dev}
    (hF : ∀ c, F (F c) = F c) (h : Dev.Took k [n] F d t) (h' : Dev.Took k l F t u) : Dev.Took k (n :: l) F d u where
  ch m := by
    rw [h'.ch, h.ch]
    by_cases hn : m = n <;> by_cases hl : m ∈ l <;> simp [hn, hl, hF]
  due := h'.due.trans h.due
  tick := h'.tick.trans h.tick
  sreg j hj := (h'.sreg j hj).trans (h.sreg j hj)
  silentAt := h'.silentAt.trans h.silentAt
  silentDie := h'.silentDie.trans h.silentDie

theorem Dev.Took.role {k : StallId} {l : List ChanId} {F : Channel → Channel} {d t : Dev}
    (hF : ∀ c, (F c).regs = c.regs) (h : Dev.Took k l F d t) (m : ChanId) : t.role m = d.role m := by
  have hm : (t.ch m).regs = (d.ch m).regs := by
    rw [h.ch]
    split
    · exact hF _
    · rfl
  exact congrArg (sget (chDefault Obj.GANG_ROLE) · Obj.GANG_ROLE) hm

/-- A change made to one channel after the other of a module without gangs is made to each of them once. -/
theorem Dev.Took.foldl {k : StallId} {F : Channel → Channel} {g : Dev → ChanId → Dev} (hF : ∀ c, F (F c) = F c)
    (hr : ∀ c, (F c).regs = c.regs) (hg : ∀ d n, d.role n = 0 → Dev.Took k [n] F d (g d n)) (l : List ChanId) (d : Dev)
    (h : ∀ m, d.role m = 0) : Dev.Took k l F d (l.foldl g d) := by
  induction l generalizing d with
  | nil => exact .nil k F d
  | cons n l ih =>
    have hn := hg d n (h n)
    exact .cons hF hn (ih (g d n) fun m => (hn.role hr m).trans (h m))

theorem Dev.took_modCh (k : StallId) (d : Dev) (n : ChanId) (F : Channel → Channel) : Dev.Took k [n] F d (d.modCh n F) where
  ch m := by
    rw [Dev.ch_modCh]
    by_cases h : m = n <;> simp [h]
  due := rfl
  tick := rfl
  sreg _ _ := rfl
  silentAt := rfl
  silentDie := rfl

theorem Dev.took_failWord (k : StallId) (d : Dev) (n : ChanId) :
    Dev.Took k [n] Channel.keepsShadows d (d.failWord n) := d.took_modCh k n _

theorem Dev.Took.role_keepsShadows {k : StallId} {l : List ChanId} {d t : Dev}
    (h : Dev.Took k l Channel.keepsShadows d t) (m : ChanId) : t.role m = d.role m := h.role Channel.keepsShadows_regs m

/-- Changes of the same channels follow one another. -/
theorem Dev.Took.comp {k : StallId} {l : List ChanId} {F G : Channel → Channel} {d t u : Dev}
    (h : Dev.Took k l F d t) (h' : Dev.Took k l G t u) : Dev.Took k l (fun c => G (F c)) d u where
  ch m := by
    rw [h'.ch, h.ch]
    split <;> rfl
  due := h'.due.trans h.due
  tick := h'.tick.trans h.tick
  sreg j hj := (h'.sreg j hj).trans (h.sreg j hj)
  silentAt := h'.silentAt.trans h.silentAt
  silentDie := h'.silentDie.trans h.silentDie

theorem Dev.took_held (k : StallId) (l : List ChanId) (d : Dev) : Dev.Took k l id d (d.sinc k 32 Obj.LINK_HELD) where
  ch m := (ite_self _).symm
  due := rfl
  tick := rfl
  sreg j hj := by
    unfold Dev.sreg Dev.sinc Stall.inc
    rw [Dev.st_modSt, if_pos rfl, Stall.reg_setReg_eq, if_neg hj]
  silentAt := by rw [Dev.sinc, Dev.st_modSt, if_pos rfl]; rfl
  silentDie := by rw [Dev.sinc, Dev.st_modSt, if_pos rfl]; rfl

/-- A channel loses a tick for a lost word, and the stall counts it (R68). -/
theorem Dev.took_loseTick (k : StallId) (d : Dev) (n : ChanId) (code : Nat) (h : d.role n = 0) :
    Dev.Took k [n] (·.loses code) d ((d.sinc k 32 Obj.LINK_HELD).loseTick n code) := by
  rw [Dev.loseTick_alone (d.sinc k 32 Obj.LINK_HELD) n code h]
  exact (Dev.took_held k [n] d).comp (Dev.took_modCh k _ n _)

/-- A tick that is lost already is not lost again. -/
theorem Dev.took_loseOnce (k : StallId) (d : Dev) (n : ChanId) (code : Nat) (h : d.role n = 0) :
    Dev.Took k [n] (·.loses code) d
      (if (d.ch n).lost.isSome then d else (d.sinc k 32 Obj.LINK_HELD).loseTick n code) := by
  split
  · next hl =>
    refine ⟨fun m => ?_, rfl, rfl, fun _ _ => rfl, rfl, rfl⟩
    by_cases hm : m = n
    · subst hm; simp [Channel.loses_of_lost _ code hl]
    · simp [hm]
  · exact d.took_loseTick k n code h

/-- A silent tick of a channel: the word of the strobe failed, and the tick is lost (R546). -/
theorem Dev.took_silent (k : StallId) (d : Dev) (n : ChanId) (code : Nat) (h : d.role n = 0) :
    Dev.Took k [n] (fun c => c.keepsShadows.loses code) d (((d.failWord n).sinc k 32 Obj.LINK_HELD).loseTick n code) :=
  (d.took_failWord k n).comp
    (Dev.took_loseTick k _ n code (((d.took_failWord k n).role_keepsShadows n).trans h))

/-- What a lost word makes of a channel that loses no tick yet. -/
theorem Channel.keepsShadows_loses (c : Channel) (code : Nat) (h : c.lost = none) : c.keepsShadows.loses code =
    { c with lost := some code, force := { c.force with wordLost := true } } := by
  simp [Channel.keepsShadows, Channel.loses, Channel.modForce, h]

/-- No channel of the list is in its SAFE entry path where none is SAFE (R498). -/
theorem Dev.any_inSafePath (d : Dev) (l : List ChanId) (h : ∀ n, (d.ch n).isSafe = false) : l.any d.inSafePath = false := by
  simp [Dev.inSafePath, h]

section
variable {k : StallId} {l : List ChanId} {code : Nat} {d t : Dev}

/-- The channels of a list have lost the tick, and those outside are as they were. -/
theorem Dev.Took.lost {p : ChanId → Bool} (h : Dev.Took k l (fun c => c.keepsShadows.loses code) d t)
    (hl : ∀ n, n ∈ l ↔ p n = true) (hd : ∀ n, (d.ch n).lost = none) (n : ChanId) :
    t.ch n = if p n then { d.ch n with lost := some code, force := { (d.ch n).force with wordLost := true } } else d.ch n := by
  rw [h.ch, ← Channel.keepsShadows_loses _ _ (hd n)]
  simp only [hl]
end

/-! ## An uncorrectable word (R12, R13) -/

/-- The stall counts an uncorrectable word (R12). -/
def Dev.countBad (d : Dev) (k : StallId) : Dev :=
  (d.sinc k 32 Obj.LINK_UNCORR).setSreg k Obj.LINK_LAST_TICK d.tick.toNat

theorem Dev.sreg_countBad_last (d : Dev) (k : StallId) : (d.countBad k).sreg k Obj.LINK_LAST_TICK = d.tick.toNat := by
  unfold Dev.countBad Dev.setSreg Dev.sreg
  rw [Dev.st_modSt, if_pos rfl, Stall.reg_setReg_eq, if_pos rfl]

theorem Dev.sreg_countBad (d : Dev) (k : StallId) :
    (d.countBad k).sreg k Obj.LINK_UNCORR = bump 32 (d.sreg k Obj.LINK_UNCORR) := by
  unfold Dev.countBad Dev.setSreg Dev.sinc Dev.sreg Stall.inc
  rw [Dev.modSt_modSt, Dev.st_modSt, if_pos rfl, Stall.reg_setReg_eq, if_neg (by decide), Stall.reg_setReg_eq, if_pos rfl]

/-- The stall keeps the ticks of its uncorrectable words (R12, R501). -/
def Dev.noteBad (d : Dev) (k : StallId) : Dev :=
  d.modSt k fun x => { x with uncorr := (d.tick :: x.uncorr).take 32, badTicks := (d.tick :: x.badTicks).take 8 }

theorem Dev.sreg_noteBad (d : Dev) (k : StallId) (j : Nat) : (d.noteBad k).sreg k j = d.sreg k j := by
  unfold Dev.noteBad Dev.sreg
  rw [Dev.st_modSt, if_pos rfl]
  rfl

/-- What an uncorrectable word makes of the module. -/
def Dev.badWord (d : Dev) (k : StallId) (chans : BitVec 8) : Dev :=
  let d := ((carried k chans).foldl Dev.failWord (d.countBad k)).noteBad k
  let path := (carried k chans).any d.inSafePath
  let d := (carried k chans).foldl
    (fun d n => if (d.ch n).lost.isSome then d else (d.sinc k 32 Obj.LINK_HELD).loseTick n 0x0903) d
  if path then d.inc 32 Obj.RECOV_EVENTS else d.recover 0x0903 .stall k.val 0

theorem exec_stallLinkWord_bad (k : StallId) (chans : BitVec 8) (s : State) :
    exec (.stallLinkWord k chans true) s = liveIn s fun d => d.badWord k chans := rfl

theorem exec_stallLinkWord_good (k : StallId) (chans : BitVec 8) (s : State) :
    exec (.stallLinkWord k chans false) s =
      liveIn s fun d => (d.sinc k 32 Obj.LINK_CORR).raiseAt (d.tick + 1) 0x0901 0 .stall k.val 0 := rfl

/-- A module without gangs and without a SAFE channel: the carried channels lose the tick, the word is counted, and its
entry waits. -/
theorem Dev.badWord_spec (d : Dev) (k : StallId) (chans : BitVec 8) (hr : ∀ n, d.role n = 0)
    (hs : ∀ n, (d.ch n).isSafe = false) :
    (∀ n, (d.badWord k chans).ch n = if n ∈ carried k chans then (d.ch n).keepsShadows.loses 0x0903 else d.ch n) ∧
    (d.badWord k chans).sreg k Obj.LINK_UNCORR = bump 32 (d.sreg k Obj.LINK_UNCORR) ∧
    (d.badWord k chans).sreg k Obj.LINK_LAST_TICK = d.tick.toNat ∧
    (d.badWord k chans).flt.due = d.flt.due ++ [(d.tick + 1, ⟨0x0903, 1, .stall, k.val, 0, d.tick, 0⟩)] := by
  have h1 : Dev.Took k (carried k chans) Channel.keepsShadows (d.countBad k) ((carried k chans).foldl Dev.failWord (d.countBad k)) :=
    .foldl Channel.keepsShadows_keepsShadows Channel.keepsShadows_regs (fun d n _ => d.took_failWord k n) _ _ hr
  unfold Dev.badWord
  dsimp only
  generalize (carried k chans).foldl Dev.failWord (d.countBad k) = d2 at h1
  have hsafe : (carried k chans).any (Dev.inSafePath (d2.noteBad k)) = false := by
    refine Dev.any_inSafePath _ _ fun n => ?_
    have : (d2.ch n).isSafe = false := by
      rw [h1.ch]
      split <;> exact hs n
    exact this
  have h2 := Dev.Took.foldl (fun c : Channel => c.loses_loses 0x0903) (fun _ => rfl)
    (fun d n h => d.took_loseOnce k n 0x0903 h) (carried k chans) (d2.noteBad k)
    fun n => (h1.role_keepsShadows n).trans (hr n)
  rw [hsafe]
  generalize (carried k chans).foldl _ (d2.noteBad k) = d4 at h2
  have hreg : ∀ j, j ≠ Obj.LINK_HELD → d4.sreg k j = (d.countBad k).sreg k j := fun j hj =>
    ((h2.sreg j hj).trans (d2.sreg_noteBad k j)).trans (h1.sreg j hj)
  have htick : d4.tick = d.tick := h2.tick.trans h1.tick
  have hdue : d4.flt.due = d.flt.due := h2.due.trans h1.due
  refine ⟨fun n => ?_, (hreg _ (by decide)).trans (d.sreg_countBad k), (hreg _ (by decide)).trans (d.sreg_countBad_last k), ?_⟩
  · refine (h2.ch n).trans ?_
    rw [show (d2.noteBad k).ch n = d2.ch n from rfl, h1.ch]
    split <;> rfl
  · show d4.flt.due ++ [(d4.tick + 1, ⟨0x0903, 1, .stall, k.val, 0, d4.tick, 0⟩)] = _
    rw [hdue, htick]

/-! ## Silent ticks (R546) -/

/-- A run of silent ticks after one more tick: it goes on, or begins anew. -/
def Stall.silentUpd (x : Stall) (now : Tick) (seen : Bool) (run : Nat) : Nat :=
  if seen then (if x.silentAt == some now then run + 1 else if x.silentAt == some (now + 1) then max run 1 else 1)
  else if x.silentAt == some (now + 1) then run else 0

/-- The stall notes a silent tick, the one that the next commit begins. -/
def Dev.noteSilent (d : Dev) (k : StallId) (die ctl : Bool) : Dev :=
  d.modSt k fun x =>
    { x with silentDie := (d.st k).silentUpd d.tick die x.silentDie,
             silentCtl := if die then 0 else (d.st k).silentUpd d.tick ctl x.silentCtl,
             silentAt := some (d.tick + 1), badTicks := ((d.tick + 1) :: x.badTicks).take 8 }

theorem Dev.noteSilent_silentAt (d : Dev) (k : StallId) (die ctl : Bool) :
    ((d.noteSilent k die ctl).st k).silentAt = some (d.tick + 1) := by
  rw [Dev.noteSilent, Dev.st_modSt, if_pos rfl]

/-- A silent tick that follows another counts one more in the run at the stall die. -/
theorem Dev.noteSilent_run (d : Dev) (k : StallId) (die ctl : Bool) (hdie : die = true)
    (h : (d.st k).silentAt = some d.tick) :
    ((d.noteSilent k die ctl).st k).silentDie = (d.st k).silentDie + 1 := by
  rw [Dev.noteSilent, Dev.st_modSt, if_pos rfl]
  simp [Stall.silentUpd, hdie, h]

/-- The tick that follows is another one (R43). -/
theorem Dev.tick_ne_next (d : Dev) : d.tick ≠ d.tick + 1 := by
  intro h
  bv_omega

/-- Every channel of a stall loses the tick. -/
def Dev.loseStall (d : Dev) (k : StallId) : Dev :=
  (chansOf k).foldl (fun d n => ((d.failWord n).sinc k 32 Obj.LINK_HELD).loseTick n 0x0903) d

/-- What a silent tick that the stall has not noted yet makes of the module: the first of a run is logged. -/
def Dev.silent (d : Dev) (k : StallId) (die ctl : Bool) : Dev :=
  let t := ((d.noteSilent k die ctl).loseStall k).inc 32 Obj.RECOV_EVENTS |>.setReg Obj.RECOV_LAST_CODE 0x0903
  if (d.st k).silentAt == some d.tick then t
  else { t with flt := { t.flt with due := t.flt.due ++ [(d.tick + 1, ⟨0x0903, 1, .stall, k.val, 1, d.tick + 1, 0⟩)] } }

/-- A silent tick, seen at the stall die, at the controller die or at neither. -/
def Dev.silentTick (d : Dev) (k : StallId) (die ctl : Bool) : Dev :=
  if !die && !ctl then d
  else if (d.st k).silentAt == some (d.tick + 1) then d.noteSilent k die ctl else d.silent k die ctl

theorem exec_silentTick (k : StallId) (die ctl : Bool) (s : State) :
    exec (.silentTick k die ctl) s = liveIn s fun d => d.silentTick k die ctl := by
  show execSilentTick k die ctl s = _
  unfold execSilentTick
  refine congrArg (liveIn s) (funext fun d => ?_)
  dsimp only [Dev.silentTick, Dev.silent, Dev.loseStall, Dev.noteSilent, Stall.silentUpd]

/-- A silent tick is noted as new unless the stall has noted it already. -/
theorem Dev.silentTick_new (d : Dev) (k : StallId) (die ctl : Bool) (hseen : die = true ∨ ctl = true)
    (h : (d.st k).silentAt ≠ some (d.tick + 1)) : d.silentTick k die ctl = d.silent k die ctl := by
  have hs : (!die && !ctl) = false := by rcases hseen with h | h <;> simp [h]
  rw [Dev.silentTick, hs, if_neg (by decide), if_neg (by simpa using h)]

theorem Dev.took_loseStall (d : Dev) (k : StallId) (hr : ∀ n, d.role n = 0) :
    Dev.Took k (chansOf k) (fun c => c.keepsShadows.loses 0x0903) d (d.loseStall k) :=
  .foldl (F := fun c => c.keepsShadows.loses 0x0903) (fun _ => Channel.loses_of_lost _ _ rfl) (fun _ => rfl)
    (fun d n h => d.took_silent k n 0x0903 h) _ _ hr

/-- A silent tick of a module without gangs: every channel of the stall loses it, and the stall notes it. -/
theorem Dev.silent_spec (d : Dev) (k : StallId) (die ctl : Bool) (hr : ∀ n, d.role n = 0) :
    (∀ n, (d.silent k die ctl).ch n = if n ∈ chansOf k then (d.ch n).keepsShadows.loses 0x0903 else d.ch n) ∧
    (d.silent k die ctl).sreg k Obj.LINK_UNCORR = d.sreg k Obj.LINK_UNCORR ∧
    ((d.silent k die ctl).st k).silentAt = some (d.tick + 1) ∧
    ((d.silent k die ctl).st k).silentDie = ((d.noteSilent k die ctl).st k).silentDie ∧
    (d.silent k die ctl).flt.due = d.flt.due ++
      if (d.st k).silentAt == some d.tick then [] else [(d.tick + 1, ⟨0x0903, 1, .stall, k.val, 1, d.tick + 1, 0⟩)] := by
  have h := (d.noteSilent k die ctl).took_loseStall k hr
  have hreg : (d.noteSilent k die ctl).sreg k Obj.LINK_UNCORR = d.sreg k Obj.LINK_UNCORR := by
    unfold Dev.noteSilent Dev.sreg
    rw [Dev.st_modSt, if_pos rfl]
    rfl
  unfold Dev.silent
  dsimp only
  generalize (d.noteSilent k die ctl).loseStall k = t at h
  have hdue : t.flt.due = d.flt.due := h.due
  have hat : (t.st k).silentAt = some (d.tick + 1) := h.silentAt.trans (d.noteSilent_silentAt k die ctl)
  split
  · exact ⟨h.ch, (h.sreg _ (by decide)).trans hreg, hat, h.silentDie, by simp [hdue]⟩
  · refine ⟨h.ch, (h.sreg _ (by decide)).trans hreg, hat, h.silentDie, ?_⟩
    show t.flt.due ++ _ = _
    rw [hdue]

end Sys2Proof.Machine

namespace Sys2Proof
open Sys2Proof.Machine

/-- Settles O41: each row's effect on the module, and what it makes of the channels that it concerns. -/
theorem brokenLinkWordsHoldTicks : Obligations.BrokenLinkWordsHoldTicks := by
  intro s k chans die ctl hin hrole hsafe hlost d lose told
  have hlose : ∀ {t : Dev} {l : List ChanId} {p : ChanId → Bool}, (∀ n, n ∈ l ↔ p n = true) →
      (∀ n, t.ch n = if n ∈ l then (d.ch n).keepsShadows.loses 0x0903 else d.ch n) → lose (s.inTick t) p := by
    intro t l p hl ht
    refine ⟨fun n => (ht n).trans ?_, rfl⟩
    rw [← Channel.keepsShadows_loses (d.ch n) 0x0903 (hlost n)]
    simp only [hl]
  refine ⟨gives_in hin (exec_stallLinkWord_good ..) ?_, gives_in hin (exec_stallLinkWord_bad ..) ?_,
    fun hseen hrun hsame => gives_in hin (exec_silentTick ..) ?_, fun hrun hdie => gives_in hin (exec_silentTick ..) ?_,
    gives_in hin (exec_silentTick ..) rfl, fun hf => gives_in hin (exec_linkUncorr ..) ?_,
    fun hf => gives_in hin (exec_linkUncorr ..) ?_⟩
  · refine ⟨?_, rfl, rfl, rfl⟩
    show ((s.dev.modSt k (·.inc 32 Obj.LINK_CORR)).st k).reg Obj.LINK_CORR = _
    rw [Dev.st_modSt, if_pos rfl, Stall.inc, Stall.reg_setReg_eq, if_pos rfl]
    rfl
  · obtain ⟨hch, hcount, hlast, hdue⟩ := s.dev.badWord_spec k chans hrole hsafe
    exact ⟨hlose (mem_carried k chans) hch, hcount, hlast, hdue⟩
  · have hrun' : ((d.st k).silentAt == some d.tick) = false := beq_false_of_ne hrun
    obtain ⟨hch, hcount, hat, -, hdue⟩ := d.silent_spec k die ctl hrole
    rw [hrun'] at hdue
    rw [s.dev.silentTick_new k die ctl hseen hsame]
    simp only [State.inTick_dev, told]
    exact ⟨hlose (mem_chansOf k) hch, hat, hcount, hdue⟩
  · have hrun' : ((d.st k).silentAt == some d.tick) = true := by rw [hrun]; exact beq_self_eq_true _
    have hsame : (d.st k).silentAt ≠ some (d.tick + 1) := by
      rw [hrun]
      exact fun h => d.tick_ne_next (Option.some.inj h)
    obtain ⟨hch, -, -, hdies, hdue⟩ := d.silent_spec k die ctl hrole
    rw [hrun'] at hdue
    rw [s.dev.silentTick_new k die ctl (.inl hdie) hsame]
    simp only [State.inTick_dev]
    exact ⟨hlose (mem_chansOf k) hch, hdies.trans (d.noteSilent_run k die ctl hdie hrun), hdue.trans (List.append_nil _)⟩
  · rw [if_pos hf]
    exact ⟨rfl, rfl, rfl⟩
  · rw [if_neg (Bool.not_eq_true _ ▸ hf)]
    rfl

end Sys2Proof
end

section
namespace Sys2Proof.Machine
open Sys2Proof

/-! R104, R311: an event of the fabric leaves the gang role of every channel. -/

/-- The gang roles of the channels. -/
def Dev.roles (d : Dev) : Vector Nat 64 := d.chans.map (·.reg Obj.GANG_ROLE)

theorem Dev.role_of_roles {d t : Dev} (h : t.roles = d.roles) (n : ChanId) : t.role n = d.role n := by
  have hn : t.roles[n] = d.roles[n] := by rw [h]
  simpa [Dev.roles, Dev.role, Dev.creg, Dev.ch] using hn

theorem ite_roles {p : Prop} [Decidable p] {a b d : Dev} (ha : a.roles = d.roles) (hb : b.roles = d.roles) :
    (if p then a else b).roles = d.roles := by
  split
  · exact ha
  · exact hb

theorem foldl_roles {α : Type} (f : Dev → α → Dev) (h : ∀ d x, (f d x).roles = d.roles) (l : List α) (d : Dev) :
    (l.foldl f d).roles = d.roles := by
  induction l generalizing d with
  | nil => rfl
  | cons x l ih => exact (ih (f d x)).trans (h d x)

theorem Dev.modCh_roles (d : Dev) (n : ChanId) (f : Channel → Channel)
    (h : ∀ c, (f c).reg Obj.GANG_ROLE = c.reg Obj.GANG_ROLE) : (d.modCh n f).roles = d.roles := by
  unfold Dev.modCh Dev.setCh Dev.roles
  ext i hi
  simp only [Vector.getElem_map, Vector.getElem_set]
  split
  · next e => simp [h, Dev.ch, e]
  · rfl

/-- A register other than GANG_ROLE leaves the roles. -/
theorem Dev.setCreg_roles (d : Dev) (n : ChanId) (k v : Nat) (hk : Obj.GANG_ROLE ≠ k) : (d.setCreg n k v).roles = d.roles :=
  d.modCh_roles n _ fun c => c.reg_setReg_other k _ v hk

theorem Dev.cinc_roles (d : Dev) (n : ChanId) (w k : Nat) (hk : Obj.GANG_ROLE ≠ k) : (d.cinc n w k).roles = d.roles :=
  d.modCh_roles n _ fun c => c.reg_inc_other w k _ hk

theorem Dev.modConv_roles (d : Dev) (n : ChanId) (mi : Bool) (f : Conv → Conv) :
    (d.modCh n fun c => c.modConv mi f).roles = d.roles :=
  d.modCh_roles n _ fun c => by cases mi <;> rfl

theorem Dev.modSt_roles (d : Dev) (s : StallId) (f : Stall → Stall) : (d.modSt s f).roles = d.roles := rfl

theorem role_ne_ovr (c : Nat) : Obj.GANG_ROLE ≠ Obj.OVR_CNT c := by unfold Obj.GANG_ROLE Obj.OVR_CNT; omega
theorem role_ne_merge (c : Nat) : Obj.GANG_ROLE ≠ Obj.MERGE_CNT c := by unfold Obj.GANG_ROLE Obj.MERGE_CNT; omega
theorem role_ne_skip (mi : Bool) : Obj.GANG_ROLE ≠ mvmi mi Obj.MV_SKIP_INJ Obj.MI_SKIP_INJ := by cases mi <;> decide

/-! ## Converters -/

theorem Dev.startRegular_roles (d : Dev) (n : ChanId) (mi : Bool) (x : Tick × Nat) : (d.startRegular n mi x).roles = d.roles :=
  ite_roles (d.modConv_roles n mi _) (d.modConv_roles n mi _)

theorem Dev.overrun_roles (d : Dev) (n : ChanId) (c : Nat) : (d.overrun n c).roles = d.roles := by
  have h : ((d.modCh n fun ch => { ch with ovr := putBit ch.ovr c true }).cinc n 32 (Obj.OVR_CNT c)).roles = d.roles :=
    (Dev.cinc_roles _ n 32 _ (role_ne_ovr c)).trans (d.modCh_roles n _ fun _ => rfl)
  exact ite_roles ((Dev.cinc_roles _ n 32 _ (by decide)).trans h)
    (ite_roles ((Dev.cinc_roles _ n 32 _ (by decide)).trans h) h)

theorem Dev.regularFire_roles (d : Dev) (o : ChanId) (mi : Bool) (x : Tick × Nat) :
    (d.regularFire o mi x).roles = d.roles := by
  unfold Dev.regularFire
  dsimp only
  refine ite_roles rfl (ite_roles ((Dev.overrun_roles _ o _).trans ?_) ?_) <;>
    exact foldl_roles _ (fun d n => ite_roles (d.cinc_roles n 32 _ (role_ne_skip mi))
      (ite_roles rfl (d.startRegular_roles n mi _))) _ d

theorem Dev.injectedFire_roles (d : Dev) (o : ChanId) (mi : Bool) (x : Tick × Nat) : (d.injectedFire o mi x).roles = d.roles :=
  ite_roles rfl (ite_roles (d.overrun_roles o _) (foldl_roles _ (fun d n => d.modConv_roles n mi _) _ d))

theorem Dev.pulseEnds_roles (d : Dev) (o : ChanId) (mi : Bool) (p : Pulse) : (d.pulseEnds o mi p).roles = d.roles :=
  ite_roles (d.cinc_roles o 32 _ (by decide)) (ite_roles (d.injectedFire_roles o mi _) (d.regularFire_roles o mi _))

theorem Dev.pulsesTo_roles (d : Dev) (o : ChanId) (mi : Bool) (x : Tick × Nat) : (d.pulsesTo o mi x).roles = d.roles :=
  ite_roles rfl ((foldl_roles _ (fun d p => d.pulseEnds_roles o mi p) _ _).trans (d.modConv_roles o mi _))

theorem Dev.triggered_roles (d : Dev) (o : ChanId) (mi inj : Bool) (qual width : Nat) (ev : Ev) :
    (d.triggered o mi inj qual width ev).roles = d.roles := by
  have h := d.pulsesTo_roles o mi (addCyc ev.at' 1)
  unfold Dev.triggered
  dsimp only
  cases qualify qual width ev with
  | nothing => exact h
  | fire => exact ite_roles ((Dev.injectedFire_roles _ o mi _).trans h) ((Dev.regularFire_roles _ o mi _).trans h)
  | measure edge ok => exact ite_roles ((Dev.overrun_roles _ o _).trans h) ((Dev.modConv_roles _ o mi _).trans h)

theorem Dev.widenTrigger_roles (d : Dev) (o : ChanId) (mi inj : Bool) (ev : Ev) :
    (d.widenTrigger o mi inj ev).roles = d.roles := d.modConv_roles o mi _

theorem Dev.regularTrigger_roles (d : Dev) (o : ChanId) (mi : Bool) (ev : Ev) : (d.regularTrigger o mi ev).roles = d.roles :=
  ite_roles rfl (d.triggered_roles o mi false _ _ ev)

theorem Dev.injectedTrigger_roles (d : Dev) (o : ChanId) (mi : Bool) (ev : Ev) : (d.injectedTrigger o mi ev).roles = d.roles :=
  ite_roles rfl (d.triggered_roles o mi true _ _ ev)

/-! ## The other consumers -/

theorem Dev.gustEdge_roles (d : Dev) (n : ChanId) (x : Tick × Nat) : (d.gustEdge n x).roles = d.roles := by
  unfold Dev.gustEdge
  dsimp only
  cases (d.ch n).gust.armed with
  | none => rfl
  | some p => exact ite_roles rfl (ite_roles (d.overrun_roles n 9) (d.modCh_roles n _ fun _ => rfl))

theorem Dev.collect_roles (d : Dev) (n : ChanId) (c : Nat) (busy : Bool) (ev : Ev) : (d.collect n c busy ev).roles = d.roles := by
  unfold Dev.collect
  dsimp only
  exact ite_roles ((Dev.cinc_roles _ n 32 _ (role_ne_merge c)).trans (d.modCh_roles n _ fun _ => rfl))
    (ite_roles (d.overrun_roles n c) (d.modCh_roles n _ fun _ => rfl))

theorem Channel.sineLoad_role (c : Channel) (t : Tick) (sub : Nat) :
    (c.sineLoad t sub).reg Obj.GANG_ROLE = c.reg Obj.GANG_ROLE :=
  (Channel.reg_setReg_other _ _ _ _ (by decide)).trans (Channel.reg_setReg_other _ _ _ _ (by decide))

theorem Dev.sineReset_roles (d : Dev) (n : ChanId) (x : Tick × Nat) : (d.sineReset n x).roles = d.roles := by
  have h : ∀ b, (d.modCh n fun c => { c with sine := { c.sine with resetAt := some b } }).roles = d.roles :=
    fun b => d.modCh_roles n _ fun _ => rfl
  unfold Dev.sineReset
  dsimp only
  exact ite_roles rfl (ite_roles (d.overrun_roles n 10) (ite_roles
    (((Dev.cinc_roles _ n 32 _ (by decide)).trans (Dev.modCh_roles _ n _ fun c => c.sineLoad_role _ _)).trans (h _)) (h _)))

theorem Dev.holdEdge_roles (d : Dev) (n : ChanId) (ev : Ev) : (d.holdEdge n ev).roles = d.roles := by
  unfold Dev.holdEdge
  dsimp only
  refine ite_roles (d.collect_roles n 11 _ ev) ((Dev.modCh_roles _ n _ fun c => ?_).trans (d.collect_roles n 11 _ ev))
  rfl

theorem Dev.consume_roles (d : Dev) (n : ChanId) (c : Nat) (ev : Ev) : (d.consume n c ev).roles = d.roles := by
  unfold Dev.consume
  generalize (if c ≤ 11 then d.leaderOf n else n) = m
  have hm := d.cinc_roles m 32 _ (role_ne_merge c)
  have ha : (d.arrive (64 * m.val + c) ev.at').roles = d.roles := rfl
  dsimp only
  refine ite_roles (d.collect_roles m c _ ev) (ite_roles (d.collect_roles m c _ ev) (ite_roles (d.holdEdge_roles m ev)
    (ite_roles (d.collect_roles m c _ ev) (ite_roles (ite_roles ((Dev.widenTrigger_roles _ m _ _ ev).trans hm) hm) ?_))))
  split
  · exact (Dev.regularTrigger_roles _ m false ev).trans ha
  · exact (Dev.regularTrigger_roles _ m true ev).trans ha
  · exact (Dev.injectedTrigger_roles _ m false ev).trans ha
  · exact (Dev.injectedTrigger_roles _ m true ev).trans ha
  · exact (Dev.gustEdge_roles _ m ev.at').trans ha
  · exact (Dev.sineReset_roles _ m ev.at').trans ha

/-! ## Output pins, stall triggers and tethers -/

theorem Dev.drive_roles (d : Dev) (ovr : Nat) (p : OutPulse) (ev : Ev) : (d.drive ovr p ev).roles = d.roles := ite_roles rfl rfl

theorem Dev.evioOut_roles (d : Dev) (k : Nat) (ev : Ev) : (d.evioOut k ev).roles = d.roles :=
  ite_roles rfl (ite_roles rfl (Dev.drive_roles _ _ _ ev))

theorem Dev.mkoOut_roles (d : Dev) (k : StallId) (ev : Ev) : (d.mkoOut k ev).roles = d.roles :=
  ite_roles rfl (ite_roles rfl (Dev.drive_roles _ _ _ ev))

theorem Dev.auxFire_roles (d : Dev) (s : StallId) (x : Tick × Nat) : (d.auxFire s x).roles = d.roles := ite_roles rfl rfl

theorem Dev.auxPulsesTo_roles (d : Dev) (s : StallId) (x : Tick × Nat) : (d.auxPulsesTo s x).roles = d.roles := by
  unfold Dev.auxPulsesTo
  dsimp only
  refine ite_roles rfl ((foldl_roles _ (fun d p => ?_) _ _).trans (d.modSt_roles s _))
  exact ite_roles (d.auxFire_roles s p.edge) rfl

theorem Dev.auxTrigger_roles (d : Dev) (s : StallId) (ev : Ev) : (d.auxTrigger s ev).roles = d.roles := by
  have h : ((d.arrive (4120 + s.val) ev.at').auxPulsesTo s (addCyc ev.at' 1)).roles = d.roles := Dev.auxPulsesTo_roles _ s _
  unfold Dev.auxTrigger
  dsimp only
  refine ite_roles rfl (ite_roles rfl ?_)
  split
  · exact h
  · exact (Dev.auxFire_roles _ s _).trans h
  · exact ite_roles h h

theorem Dev.deliver_roles (d : Dev) (t : Nat) (ev : Ev) : (d.deliver t ev).roles = d.roles := by
  unfold Dev.deliver
  dsimp only
  refine (foldl_roles _ (fun d e => ite_roles rfl (ite_roles (d.evioOut_roles _ ev) ?_)) _ _).trans
    (foldl_roles _ (fun d n => foldl_roles _ (fun d c => d.consume_roles n c ev) _ d) _ d)
  split
  · exact d.auxTrigger_roles _ ev
  split
  · exact d.mkoOut_roles _ ev
  · rfl

theorem Dev.carry_roles (d : Dev) (t : Nat) (inherited : List Nat) (ev : Ev) : (d.carry t inherited ev).roles = d.roles :=
  ite_roles (ite_roles rfl rfl) ((Dev.deliver_roles _ t ev).trans (ite_roles rfl rfl))

theorem Dev.fire_roles (d : Dev) (code : Nat) (inherited : List Nat) (high : Bool) (width cyc : Nat) :
    (d.fire code inherited high width cyc).roles = d.roles :=
  ite_roles rfl ((foldl_roles _ (fun d t => d.carry_roles t _ _) _ _).trans (ite_roles rfl rfl))

/-- An event of the fabric at a commit leaves the gang roles. -/
theorem Dev.fireCommit_roles (d : Dev) (code : Nat) (inherited : List Nat) : (d.fireCommit code inherited).roles = d.roles :=
  Dev.fire_roles _ code inherited true 2 8

end Sys2Proof.Machine
end

section
namespace Sys2Proof.Machine
open Sys2Proof

/-! R80, R145, R146: what a range-pair entry that acts on a channel leaves of the module. -/

/-- A force path without its clamps. -/
def Force.unclamped (f : Force) : Force := { f with clampHi := 0, clampLo := 0, baseHi := 0, baseLo := 0 }

/-- From one module to another, nothing of a channel changes that a clamp, a monitor, a converter or an event would leave, and
nothing of the others that an event would leave. -/
structure Dev.Keeps (n : ChanId) (d t : Dev) : Prop where
  others : ∀ m, m ≠ n → (t.ch m).still = (d.ch m).still
  bk     : (t.ch n).bk = (d.ch n).bk
  tally  : (t.ch n).tally = (d.ch n).tally
  force  : (t.ch n).force.unclamped = (d.ch n).force.unclamped
  roles  : t.roles = d.roles

theorem Dev.Keeps.refl (n : ChanId) (d : Dev) : Dev.Keeps n d d := ⟨fun _ _ => rfl, rfl, rfl, rfl, rfl⟩

theorem Dev.Keeps.trans {n : ChanId} {d t u : Dev} (h : Dev.Keeps n d t) (h' : Dev.Keeps n t u) : Dev.Keeps n d u :=
  ⟨fun m hm => (h'.others m hm).trans (h.others m hm), h'.bk.trans h.bk, h'.tally.trans h.tally, h'.force.trans h.force,
    h'.roles.trans h.roles⟩

theorem Dev.Keeps.ite {n : ChanId} {p : Prop} [Decidable p] {d a b : Dev} (ha : Dev.Keeps n d a) (hb : Dev.Keeps n d b) :
    Dev.Keeps n d (if p then a else b) := by
  split
  · exact ha
  · exact hb

theorem Dev.Keeps.foldl {n : ChanId} {α : Type} (f : Dev → α → Dev) (h : ∀ d x, Dev.Keeps n d (f d x)) (l : List α) (d : Dev) :
    Dev.Keeps n d (l.foldl f d) := by
  induction l generalizing d with
  | nil => exact .refl n d
  | cons x l ih => exact (h d x).trans (ih (f d x))

theorem Dev.still_of_cores {d t : Dev} (h : t.cores = d.cores) (m : ChanId) : (t.ch m).still = (d.ch m).still := by
  have hm : t.cores[m] = d.cores[m] := by rw [h]
  simp only [Dev.cores, Fin.getElem_fin, Vector.getElem_map] at hm
  exact hm

/-- What leaves the cores and the gang roles keeps every channel. -/
theorem Dev.Keeps.of_cores (n : ChanId) {d t : Dev} (h : t.cores = d.cores) (hr : t.roles = d.roles) : Dev.Keeps n d t :=
  have hn := Dev.still_of_cores h n
  ⟨fun m _ => Dev.still_of_cores h m, (congrArg Channel.bk hn : _), (congrArg Channel.tally hn : _),
    congrArg Force.unclamped (congrArg Channel.force hn : _), hr⟩

theorem Dev.Keeps.modCh (n : ChanId) (d : Dev) (f : Channel → Channel)
    (hr : ∀ c, (f c).reg Obj.GANG_ROLE = c.reg Obj.GANG_ROLE := by intro c; rfl)
    (hb : ∀ c, (f c).bk = c.bk := by intro c; rfl) (ht : ∀ c, (f c).tally = c.tally := by intro c; rfl)
    (hf : ∀ c, (f c).force.unclamped = c.force.unclamped := by intro c; rfl) : Dev.Keeps n d (d.modCh n f) where
  others m hm := by rw [Dev.ch_modCh, if_neg hm]
  bk := by rw [Dev.ch_modCh, if_pos rfl, hb]
  tally := by rw [Dev.ch_modCh, if_pos rfl, ht]
  force := by rw [Dev.ch_modCh, if_pos rfl, hf]
  roles := d.modCh_roles n f hr

theorem Dev.Keeps.modSt (n : ChanId) (d : Dev) (s : StallId) (f : Stall → Stall) : Dev.Keeps n d (d.modSt s f) :=
  ⟨fun _ _ => rfl, rfl, rfl, rfl, rfl⟩

theorem Dev.Keeps.setCreg (n : ChanId) (d : Dev) (k v : Nat) (hk : Obj.GANG_ROLE ≠ k) : Dev.Keeps n d (d.setCreg n k v) :=
  .modCh n d _ fun c => c.reg_setReg_other k _ v hk

theorem Dev.Keeps.cinc (n : ChanId) (d : Dev) (w k : Nat) (hk : Obj.GANG_ROLE ≠ k) : Dev.Keeps n d (d.cinc n w k) :=
  .modCh n d _ fun c => c.reg_inc_other w k _ hk

theorem Dev.Keeps.fireCommit (n : ChanId) (d : Dev) (code : Nat) (inherited : List Nat) :
    Dev.Keeps n d (d.fireCommit code inherited) := .of_cores n (d.fireCommit_cores code inherited) (d.fireCommit_roles code inherited)

/-! ## Clamps, monitors, converters and gusts -/

theorem Dev.Keeps.clampsFor (n : ChanId) (d : Dev) (hi lo : Nat) : Dev.Keeps n d (d.clampsFor n hi lo) := by
  unfold Dev.clampsFor Dev.setClamps
  split
  · exact .modCh n d _
  · exact .refl n d

theorem Dev.Keeps.wmSuspend (n : ChanId) (d : Dev) (m : Idx4) : Dev.Keeps n d (d.modCh n (·.wmSuspend m)) := by
  have h : ∀ c : Channel, ∃ wm, c.wmSuspend m = { c with wm := wm } := by
    intro c
    unfold Channel.wmSuspend
    dsimp only
    split <;> exact ⟨_, rfl⟩
  refine .modCh n d _ ?_ ?_ ?_ ?_ <;> (intro c; obtain ⟨wm, hc⟩ := h c; simp only [hc, Channel.reg])

theorem Dev.Keeps.wmResume (n : ChanId) (d : Dev) : Dev.Keeps n d (d.wmResume n) :=
  .foldl _ (fun d _ => .ite (.refl n d) (.ite (.modCh n d _) (.modCh n d _))) _ d

/-- The converters of a channel change, and nothing else. -/
def Dev.OnlyConvs (n : ChanId) (d t : Dev) : Prop := ∃ mv mi, t = d.modCh n fun c => { c with mv := mv, mi := mi }

theorem Dev.OnlyConvs.trans {n : ChanId} {d t u : Dev} (h : Dev.OnlyConvs n d t) (h' : Dev.OnlyConvs n t u) :
    Dev.OnlyConvs n d u := by
  obtain ⟨mv, mi, rfl⟩ := h
  obtain ⟨mv', mi', rfl⟩ := h'
  exact ⟨mv', mi', Dev.modCh_modCh ..⟩

theorem Dev.onlyConvs_modConv (d : Dev) (n : ChanId) (mi : Bool) (f : Conv → Conv) :
    Dev.OnlyConvs n d (d.modCh n fun c => c.modConv mi f) :=
  ⟨((d.ch n).modConv mi f).mv, ((d.ch n).modConv mi f).mi, congrArg (d.setCh n) (by cases mi <;> rfl)⟩

/-- The regular sequence of one converter goes back to slot 0 (R165). -/
def Dev.restartConv (d : Dev) (n : ChanId) (mi : Bool) : Dev :=
  let d := d.modCh n fun c => c.modConv mi fun v => { v with pos := 0, run := v.run.map fun r => { r with adv := false } }
  match ((d.ch n).conv mi).run with
  | some r =>
    if r.kind == .regular && !before r.start (d.tick, 0) then
      let w := d.regularWord n mi
      d.modCh n fun c => c.modConv mi fun v => { v with run := some (.of .regular w.1 w.2 r.asked r.start) }
    else d
  | none => d

theorem Dev.restartSeq_eq (d : Dev) (n : ChanId) : d.restartSeq n = (d.restartConv n false).restartConv n true := rfl

theorem Dev.onlyConvs_restartConv (d : Dev) (n : ChanId) (mi : Bool) : Dev.OnlyConvs n d (d.restartConv n mi) := by
  have h := d.onlyConvs_modConv n mi fun v => { v with pos := 0, run := v.run.map fun r => { r with adv := false } }
  unfold Dev.restartConv
  dsimp only
  split
  · split
    · exact h.trans (Dev.onlyConvs_modConv _ n mi _)
    · exact h
  · exact h

/-- Restarting the regular sequences changes the converters alone (R165). -/
theorem Dev.onlyConvs_restartSeq (d : Dev) (n : ChanId) : Dev.OnlyConvs n d (d.restartSeq n) := by
  rw [d.restartSeq_eq n]
  exact (d.onlyConvs_restartConv n false).trans (Dev.onlyConvs_restartConv _ n true)

theorem Dev.Keeps.restartSeq (n : ChanId) (d : Dev) : Dev.Keeps n d (d.restartSeq n) := by
  obtain ⟨mv, mi, h⟩ := d.onlyConvs_restartSeq n
  rw [h]
  exact .modCh n d _

theorem Dev.gustStop_roles (d : Dev) (n : ChanId) (x : Tick × Nat) : (d.gustStop n x).roles = d.roles := by
  unfold Dev.gustStop
  dsimp only
  refine (Dev.modCh_roles _ n _ ?_).trans (foldl_roles _ (fun d m => d.modCh_roles m _ ?_) _ d) <;> exact fun _ => rfl

theorem Dev.Keeps.gustStop (n : ChanId) (d : Dev) (x : Tick × Nat) : Dev.Keeps n d (d.gustStop n x) :=
  .of_cores n (d.gustStop_cores n x) (d.gustStop_roles n x)

/-! ## Windows (R146) -/

theorem Dev.Keeps.closeWindow (n : ChanId) (d : Dev) : Dev.Keeps n d (d.closeWindow n) := by
  have hend : Dev.Keeps n d (d.endWindow n) := by
    unfold Dev.endWindow
    exact (Dev.Keeps.modCh n d _).trans (.setCreg n _ Obj.RC_LAST_TICK _ (by decide))
  unfold Dev.closeWindow Dev.entryClamps
  exact hend.trans ((Dev.Keeps.clampsFor n _ _ _).trans ((Dev.Keeps.wmResume n _).trans (.fireCommit n _ _ _)))

/-! ## The window of a range change (R145, R146) -/

/-- From one channel to another the gang role, the barker and the tallies stay. -/
structure Channel.Keeps (c c' : Channel) : Prop where
  role  : c'.reg Obj.GANG_ROLE = c.reg Obj.GANG_ROLE
  bk    : c'.bk = c.bk
  tally : c'.tally = c.tally

theorem Channel.Keeps.trans {a b c : Channel} (h : a.Keeps b) (h' : b.Keeps c) : a.Keeps c :=
  ⟨h'.role.trans h.role, h'.bk.trans h.bk, h'.tally.trans h.tally⟩

theorem Channel.Keeps.ite {p : Prop} [Decidable p] {a b c : Channel} (hb : a.Keeps b) (hc : a.Keeps c) :
    a.Keeps (if p then b else c) := by
  split
  · exact hb
  · exact hc

/-- A change of ranges or mode keeps the gang role, the barker and the tallies (R146). -/
theorem Channel.keeps_rescale (c : Channel) (now : Tick) (vr ir : Nat) (fi : Bool) (target : Int) :
    c.Keeps (c.rescale now vr ir fi target) := by
  have load : ∀ {p : Prop} [Decidable p] {b : Channel}, c.Keeps b → c.Keeps (if p then b.sineLoad now 0 else b) :=
    fun h => .ite (h.trans ⟨Channel.sineLoad_role _ now 0, rfl, rfl⟩) h
  unfold Channel.rescale
  dsimp only
  exact .ite ⟨rfl, rfl, rfl⟩ (load (.ite ⟨rfl, rfl, rfl⟩ ⟨rfl, rfl, rfl⟩))

/-- From one module to another a range-pair entry acts on a channel, whose force path becomes `g` but for its clamps. -/
structure Dev.Enters (n : ChanId) (g : Force) (d t : Dev) : Prop where
  others : ∀ m, m ≠ n → (t.ch m).still = (d.ch m).still
  bk     : (t.ch n).bk = { (d.ch n).bk with spanRc := (t.ch n).bk.spanRc }
  tally  : (t.ch n).tally = (d.ch n).tally
  force  : (t.ch n).force.unclamped = g.unclamped
  roles  : t.roles = d.roles

theorem Dev.Keeps.enters {n : ChanId} {d t : Dev} (h : Dev.Keeps n d t) : Dev.Enters n (d.ch n).force d t :=
  ⟨h.others, by rw [h.bk], h.tally, h.force, h.roles⟩

theorem Dev.Enters.trans {n : ChanId} {g g' : Force} {d t u : Dev} (h : Dev.Enters n g d t) (h' : Dev.Enters n g' t u) :
    Dev.Enters n g' d u :=
  ⟨fun m hm => (h'.others m hm).trans (h.others m hm), by rw [h'.bk, h.bk], h'.tally.trans h.tally, h'.force,
    h'.roles.trans h.roles⟩

theorem Dev.Enters.keeps {n : ChanId} {g : Force} {d t u : Dev} (h : Dev.Enters n g d t) (h' : Dev.Keeps n t u) :
    Dev.Enters n g d u := { h.trans h'.enters with force := h'.force.trans h.force }

theorem Dev.Enters.congr {n : ChanId} {g g' : Force} {d t : Dev} (h : Dev.Enters n g d t) (hg : g.unclamped = g'.unclamped) :
    Dev.Enters n g' d t := { h with force := h.force.trans hg }

/-- The ranges and the mode of a range-pair entry on a force path (R80). -/
def Force.inRanges (f : Force) (vr ir : Nat) (fi : Bool) : Force := { f with vrange := vr, irange := ir, fi := fi }

theorem Force.inRanges_unclamped {f g : Force} (vr ir : Nat) (fi : Bool) (h : f.unclamped = g.unclamped) :
    (f.inRanges vr ir fi).unclamped = (g.inRanges vr ir fi).unclamped :=
  congrArg (fun f : Force => f.inRanges vr ir fi) h

/-- What a window writes into the channel as it opens (R146). -/
theorem Dev.enters_window (d : Dev) (n : ChanId) (vr ir : Nat) (fi mc : Bool) (target : Int) (rc : RangeChange) :
    Dev.Enters n ((d.ch n).force.inRanges vr ir fi) d (d.modCh n fun c =>
      { (((c.rescale d.tick vr ir fi target).lwRestart mc).modForce fun f =>
        { f with vrange := vr, irange := ir, fi := fi }).modBk fun b => { b with spanRc := true } with rc := rc }) where
  others m hm := by rw [Dev.ch_modCh, if_neg hm]
  bk := by
    rw [Dev.ch_modCh, if_pos rfl]
    exact congrArg (fun b : Barker => { b with spanRc := true }) ((d.ch n).keeps_rescale d.tick vr ir fi target).bk
  tally := by
    rw [Dev.ch_modCh, if_pos rfl]
    exact ((d.ch n).keeps_rescale d.tick vr ir fi target).tally
  force := by
    rw [Dev.ch_modCh, if_pos rfl]
    exact congrArg (fun f : Force => (f.inRanges vr ir fi).unclamped) ((d.ch n).rescale_force d.tick vr ir fi target)
  roles := d.modCh_roles n _ fun c => (c.keeps_rescale d.tick vr ir fi target).role

/-- A window opens: the ranges and the mode of the entry act, and the barker's span has seen it (R146). -/
theorem Dev.enters_openWindow (d : Dev) (n : ChanId) (w : Nat) (fi : Bool) (target : Int) :
    Dev.Enters n ((d.ch n).force.inRanges (rpVRange w) (rpIRange w) fi) d (d.openWindow n w fi target false) := by
  have hclose : Dev.Keeps n d (if (d.ch n).rc.active && reached d.tick (d.ch n).rc.closes then d.closeWindow n else d) :=
    .ite (.closeWindow n d) (.refl n d)
  unfold Dev.openWindow
  dsimp only
  generalize (if (d.ch n).rc.active && reached d.tick (d.ch n).rc.closes then d.closeWindow n else d) = u at hclose ⊢
  have hforce := Force.inRanges_unclamped (rpVRange w) (rpIRange w) fi hclose.force
  have hopen := fun mc rc => u.enters_window n (rpVRange w) (rpIRange w) fi mc target rc
  have hsusp : ∀ (q : Idx4 → Bool) (d : Dev), Dev.Keeps n d ((List.finRange 4).foldl
      (fun d m => if q m then (d.wmUnqueue n m).modCh n (·.wmSuspend m) else d) d) :=
    fun q => .foldl _ (fun d m => .ite ((Dev.Keeps.modSt n d _ _).trans (.wmSuspend n _ m)) (.refl n d)) _
  have hcount : ∀ (b : Prop) [Decidable b] (d : Dev) (v : Nat),
      Dev.Keeps n d ((if b then d.setCreg n Obj.RC_LAST_TICK v else d).cinc n 32 Obj.RC_COUNT) := fun b _ d v =>
    (Dev.Keeps.ite (.setCreg n d Obj.RC_LAST_TICK v (by decide)) (.refl n d)).trans (.cinc n _ 32 Obj.RC_COUNT (by decide))
  exact .congr (hclose.enters.trans (((((hopen _ _).keeps (.gustStop n _ _)).keeps (.restartSeq n _)).keeps (hcount _ _ _)).keeps
    (hsusp _ _) |>.keeps (.clampsFor n _ _ _))) hforce

/-- A range-pair entry acts on a channel: it is the applied one, and its ranges and its mode act (R80, R145). -/
theorem Dev.enters_enterEntry (d : Dev) (n : ChanId) (e : Nat) (fi : Bool) (target : Int) :
    let w := (d.cfg n).reg (Obj.RPAIR e)
    Dev.Enters n ({ (d.ch n).force with rpair := e }.inRanges (rpVRange w) (rpIRange w) fi) d (d.enterEntry n e fi target false) := by
  intro w
  have hpair : Dev.Enters n { (d.ch n).force with rpair := e } d (d.modCh n fun c => c.modForce fun f => { f with rpair := e }) :=
    ⟨fun m hm => by rw [Dev.ch_modCh, if_neg hm], by rw [Dev.ch_modCh, if_pos rfl]; rfl, by rw [Dev.ch_modCh, if_pos rfl]; rfl,
      by rw [Dev.ch_modCh, if_pos rfl]; rfl, d.modCh_roles n _ fun _ => rfl⟩
  have hw : (d.cfg n).reg (Obj.RPAIR e) = w := rfl
  unfold Dev.enterEntry
  rw [hw]
  dsimp only
  by_cases hsame : (d.ch n).force.vrange = rpVRange w ∧ (d.ch n).force.irange = rpIRange w ∧ (d.ch n).force.fi = fi
  · obtain ⟨hv, hi, hf⟩ := hsame
    have hg : ({ (d.ch n).force with rpair := e } : Force) =
        ({ (d.ch n).force with rpair := e } : Force).inRanges (rpVRange w) (rpIRange w) fi := by
      rw [← hv, ← hi, ← hf]; rfl
    rw [if_neg (by simp [hv, hi, hf]), ← hg]
    split
    · exact (hpair.keeps (.modCh n _ _)).keeps (.clampsFor n _ _ _)
    · exact hpair.keeps (.clampsFor n _ _ _)
  · rw [if_pos (by simpa only [Bool.or_eq_true, bne_iff_ne, ne_eq, not_and_or, or_assoc] using hsame)]
    have hopen := Dev.enters_openWindow (d.modCh n fun c => c.modForce fun f => { f with rpair := e }) n w fi target
    exact (hpair.trans hopen).congr (Force.inRanges_unclamped _ _ _ hpair.force)

end Sys2Proof.Machine
end

section
namespace Sys2Proof.Machine
open Sys2Proof

/-! R80, R140, R228, R232, R273: what a step does to a channel in no gang as it applies. -/

/-- The range pair of a step, whose entry has the word `e`, on a force path, but for the clamps (R80). -/
def Force.onPair (f : Force) (w e : Nat) : Force :=
  if stKind w = 1 ∨ stKind w = 2 then
    if rpMode e = decide (stKind w = 2) then
      { f with withheld := false, rpair := stRpair w }.inRanges (rpVRange e) (rpIRange e) (decide (stKind w = 2))
    else { f with withheld := true }
  else { f with withheld := false }

/-- Plan, gates and marks of a step on a force path (R232). -/
def Force.onFields (f : Force) (w : Nat) : Force :=
  { f with plan := if stKind w == 4 then f.plan else stPlan w, gates := stGates w, marks := stMarks w }

theorem Force.onFields_unclamped {f g : Force} (w : Nat) (h : f.unclamped = g.unclamped) :
    (f.onFields w).unclamped = (g.onFields w).unclamped :=
  congrArg (fun f : Force => f.onFields w) h

theorem stKind_two (w : Nat) : (stKind w == 2) = decide (stKind w = 2) := rfl

theorem stKind_forces (w : Nat) : (stKind w == 1 || stKind w == 2) = true ↔ stKind w = 1 ∨ stKind w = 2 := by simp

theorem Dev.modeDiffers_alone (d : Dev) (n : ChanId) (w : Nat) (h : d.role n = 0) (hk : stKind w = 1 ∨ stKind w = 2) :
    d.modeDiffers n w = !decide (rpMode ((d.ch n).reg (Obj.RPAIR (stRpair w))) = decide (stKind w = 2)) := by
  unfold Dev.modeDiffers
  rw [d.cfg_alone n h, (stKind_forces w).2 hk, stKind_two, Bool.true_and]
  rfl

/-- A write of the force path of a channel enters nothing else of it. -/
theorem Dev.enters_modForce (d : Dev) (n : ChanId) (f : Force → Force) :
    Dev.Enters n (f (d.ch n).force) d (d.modCh n fun c => c.modForce f) :=
  ⟨fun m hm => by rw [Dev.ch_modCh, if_neg hm], by rw [Dev.ch_modCh, if_pos rfl]; rfl, by rw [Dev.ch_modCh, if_pos rfl]; rfl,
    by rw [Dev.ch_modCh, if_pos rfl]; rfl, d.modCh_roles n _ fun _ => rfl⟩

/-- The force fields of a step reach its channel (R80). -/
theorem Dev.enters_applyForce (d : Dev) (n : ChanId) (w : Nat) (h : d.role n = 0) :
    Dev.Enters n ((d.ch n).force.onPair w ((d.ch n).reg (Obj.RPAIR (stRpair w)))) d (d.applyForce n w (d.modeDiffers n w)) := by
  unfold Dev.applyForce Force.onPair
  by_cases hk : stKind w = 1 ∨ stKind w = 2
  · rw [if_pos hk, if_pos ((stKind_forces w).2 hk), d.modeDiffers_alone n w h hk]
    by_cases hm : rpMode ((d.ch n).reg (Obj.RPAIR (stRpair w))) = decide (stKind w = 2)
    · rw [if_pos hm, if_neg (by simp [hm])]
      have hw := d.enters_modForce n fun f => { f with withheld := false }
      have hrole := (Dev.role_of_roles hw.roles n).trans h
      have hent := (d.modCh n fun c => c.modForce fun f => { f with withheld := false }).enters_enterEntry n (stRpair w) (stKind w == 2) (codeVal (BitVec.ofNat 20 (stValue w)))
      rw [Dev.cfg_alone _ n hrole, Dev.ch_modCh, if_pos rfl] at hent
      exact hw.trans hent
    · rw [if_neg hm, if_pos (by simp [hm])]
      exact d.enters_modForce n fun f => { f with withheld := true }
  · rw [if_neg hk, if_neg (mt (stKind_forces w).1 hk)]
    exact d.enters_modForce n fun f => { f with withheld := false }

/-- The other own fields of a step reach its channel (R232). -/
theorem Dev.enters_applyFields (d : Dev) (n : ChanId) (w : Nat) : Dev.Enters n ((d.ch n).force.onFields w) d (d.applyFields n w) :=
  (d.enters_modForce n fun f => f.onFields w).keeps (.restartSeq n _)

theorem Channel.keeps_sineStart (c : Channel) (now : Tick) (s : Idx16) : c.Keeps (c.sineStart now s) := by
  unfold Channel.sineStart
  dsimp only
  exact .ite ⟨Channel.sineLoad_role _ now 0, rfl, rfl⟩ ⟨rfl, rfl, rfl⟩

theorem Channel.keeps_sinePhase (c : Channel) (now : Tick) : c.Keeps (c.sinePhase now) :=
  .ite ⟨c.sineLoad_role now 0, rfl, rfl⟩ ⟨rfl, rfl, rfl⟩

theorem Channel.keeps_gustArm (c : Channel) (p : Idx16) : c.Keeps (c.gustArm p) :=
  .ite ⟨rfl, rfl, rfl⟩ ⟨c.reg_inc_other 32 _ _ (by decide), rfl, rfl⟩

theorem Channel.keeps_compSet (c : Channel) (now : Tick) (s : Nat) : c.Keeps (c.compSet now s) :=
  .ite ⟨rfl, rfl, rfl⟩ ⟨Channel.reg_setReg_other _ _ _ _ (by decide), rfl, rfl⟩

/-- What keeps the gang role, the barker, the tallies and the force path of a channel keeps the channel. -/
theorem Dev.Keeps.of_channel (n : ChanId) (d : Dev) (f : Channel → Channel) (h : ∀ c : Channel, c.Keeps (f c))
    (hf : ∀ c, (f c).force = c.force) : Dev.Keeps n d (d.modCh n f) :=
  .modCh n d f (fun c => (h c).role) (fun c => (h c).bk) (fun c => (h c).tally) fun c => by rw [hf c]

/-- The step kinds that act on the sine and the gust injector keep the rest (R140, R273). -/
theorem Dev.Keeps.applyKind (n : ChanId) (d : Dev) (w : Nat) : Dev.Keeps n d (d.applyKind n w) := by
  unfold Dev.applyKind
  dsimp only
  split
  · refine .of_channel n d _ (fun c => ?_) fun c => ?_ <;> split
    · exact c.keeps_sineStart _ _
    · exact ⟨rfl, rfl, rfl⟩
    · exact c.keeps_sinePhase _
    · exact c.sineStart_force _ _
    · rfl
    · exact c.sinePhase_force _
  · refine .of_channel n d _ (fun c => .ite ⟨rfl, rfl, rfl⟩ (c.keeps_gustArm _)) fun c => ?_
    split
    · rfl
    · exact c.gustArm_force _
  · exact .refl n d

/-- The compensation of a channel in no gang moves by itself (R125, R135). -/
theorem Dev.compStep_alone (d : Dev) (n : ChanId) (h : d.role n = 0) :
    d.compStep n = (match d.compNext n with
      | none => d
      | some s => d.modCh n (·.compSet d.tick s)).modCh n fun c =>
        { c with comp := { c.comp with hostReq := false, stepAt := some d.tick } } := by
  unfold Dev.compStep
  rw [d.members_alone n h]
  cases d.compNext n <;> rfl

theorem Dev.Keeps.compStep (n : ChanId) (d : Dev) (h : d.role n = 0) : Dev.Keeps n d (d.compStep n) := by
  rw [d.compStep_alone n h]
  cases d.compNext n with
  | none => exact .modCh n d _
  | some s => exact (Dev.Keeps.of_channel n d _ (fun c => c.keeps_compSet _ s) fun c => c.compSet_force _ s).trans (.modCh n _ _)

theorem Channel.compSet_sine (c : Channel) (now : Tick) (s : Nat) : (c.compSet now s).sine = c.sine := by
  unfold Channel.compSet
  split <;> rfl

theorem Channel.compSet_gust (c : Channel) (now : Tick) (s : Nat) : (c.compSet now s).gust = c.gust := by
  unfold Channel.compSet
  split <;> rfl

/-- The compensation leaves the sine and the gust injector. -/
theorem Dev.compStep_injects (d : Dev) (n : ChanId) (h : d.role n = 0) :
    ((d.compStep n).ch n).sine = (d.ch n).sine ∧ ((d.compStep n).ch n).gust = (d.ch n).gust := by
  rw [d.compStep_alone n h, Dev.ch_modCh, if_pos rfl]
  cases d.compNext n with
  | none => exact ⟨rfl, rfl⟩
  | some s =>
    rw [Dev.ch_modCh, if_pos rfl]
    exact ⟨Channel.compSet_sine _ _ s, Channel.compSet_gust _ _ s⟩

/-! ## A step applies (R16, R232) -/

/-- What the fields of a step make of the module, before its kind acts. -/
def Dev.onFields (d : Dev) (n : ChanId) (s : Selected) : Dev :=
  let w := s.word.toNat
  let t := (d.applyForce n w (d.modeDiffers n w)).applyFields n w
  if d.modeDiffers n w then t.raiseCh 0x0201 1 n s.addr else t

theorem Dev.applyStep_alone (d : Dev) (n : ChanId) (s : Selected) (h : d.role n = 0) :
    d.applyStep n s = ((d.onFields n s).applyKind n s.word.toNat).compStep n := by
  unfold Dev.applyStep
  rw [d.members_alone n h]
  rfl

theorem Dev.enters_onFields (d : Dev) (n : ChanId) (s : Selected) (h : d.role n = 0) :
    let w := s.word.toNat
    Dev.Enters n (((d.ch n).force.onPair w ((d.ch n).reg (Obj.RPAIR (stRpair w)))).onFields w) d (d.onFields n s) := by
  intro w
  have hpair := d.enters_applyForce n w h
  have hfields := (hpair.trans (Dev.enters_applyFields _ n w)).congr (Force.onFields_unclamped w hpair.force)
  unfold Dev.onFields
  dsimp only
  split
  · exact hfields.keeps (.of_cores n (Dev.raiseCh_cores _ 0x0201 1 n s.addr) rfl)
  · exact hfields

/-- A step applies: its range pair and its fields reach the force path, and the barker keeps all but what a window shows it. -/
theorem Dev.enters_applyStep (d : Dev) (n : ChanId) (s : Selected) (h : d.role n = 0) :
    let w := s.word.toNat
    Dev.Enters n (((d.ch n).force.onPair w ((d.ch n).reg (Obj.RPAIR (stRpair w)))).onFields w) d (d.applyStep n s) := by
  intro w
  have hkind := (d.enters_onFields n s h).keeps (.applyKind n _ w)
  rw [d.applyStep_alone n s h]
  exact hkind.keeps (.compStep n _ ((Dev.role_of_roles hkind.roles n).trans h))

end Sys2Proof.Machine
end

section
namespace Sys2Proof.Machine
open Sys2Proof

/-! R93, R255: a park request of one channel in no gang. -/

theorem getLsbD_foldl_mask (f : ChanId → Bool) (i : Nat) (hi : i < 64) (l : List ChanId) (m : Word64) :
    (l.foldl (fun m n => if f n then m ||| BitVec.twoPow 64 n.val else m) m).getLsbD i =
      (m.getLsbD i || l.any fun n => f n && decide (n.val = i)) := by
  induction l generalizing m with
  | nil => simp
  | cons x l ih =>
    rw [List.foldl_cons, ih, List.any_cons]
    cases f x <;> simp [hi, Bool.or_assoc, eq_comm]

/-- A mask names the channels that it was made of. -/
theorem bit_maskOf (f : ChanId → Bool) (n : ChanId) : bit (maskOf f) n.val = f n := by
  unfold bit maskOf
  rw [getLsbD_foldl_mask f n.val n.isLt, Bool.eq_iff_iff]
  simp [Fin.val_inj]

/-- With no gang, a park mask of one channel parks that one (R105). -/
theorem Dev.parkMask_alone (d : Dev) (n : ChanId) (h : ∀ m, d.role m = 0) :
    d.parkMask (BitVec.twoPow 64 n.val) = d.parkOne n := by
  have hmask : ∀ m : ChanId, bit (d.gangMask (BitVec.twoPow 64 n.val)) m.val = decide (m = n) := by
    intro m
    unfold Dev.gangMask Dev.gangOf
    rw [bit_maskOf, d.leaderOf_alone m (h m), d.members_alone m (h m)]
    simp [bit, Fin.ext_iff, eq_comm]
  have hone : (List.finRange 64).filter (fun m => decide (m = n)) = [n] := by
    rw [List.filter_eq, List.count_eq_one_of_mem (List.nodup_finRange 64) (List.mem_finRange n), List.replicate_one]
  unfold Dev.parkMask Dev.inMask Dev.eachCh
  simp only [hmask]
  rw [← List.foldl_filter (p := fun m => decide (m = n)) (f := fun (d : Dev) m => d.parkOne m), hone]
  rfl

/-- From one module to another the barker of a channel stays as it stands, and the other channels keep their force paths. -/
structure Dev.StaysPut (n : ChanId) (d t : Dev) : Prop where
  others : ∀ m, m ≠ n → (t.ch m).force = (d.ch m).force
  seq    : (t.ch n).bk.seq = (d.ch n).bk.seq

theorem Dev.StaysPut.refl (n : ChanId) (d : Dev) : Dev.StaysPut n d d := ⟨fun _ _ => rfl, rfl⟩

theorem Dev.StaysPut.trans {n : ChanId} {d t u : Dev} (h : Dev.StaysPut n d t) (h' : Dev.StaysPut n t u) : Dev.StaysPut n d u :=
  ⟨fun m hm => (h'.others m hm).trans (h.others m hm), h'.seq.trans h.seq⟩

theorem Dev.StaysPut.ite {n : ChanId} {p : Prop} [Decidable p] {d a b : Dev} (ha : Dev.StaysPut n d a)
    (hb : Dev.StaysPut n d b) : Dev.StaysPut n d (if p then a else b) := by
  split
  · exact ha
  · exact hb

theorem Dev.StaysPut.foldl {n : ChanId} {α : Type} (f : Dev → α → Dev) (h : ∀ d x, Dev.StaysPut n d (f d x)) (l : List α)
    (d : Dev) : Dev.StaysPut n d (l.foldl f d) := by
  induction l generalizing d with
  | nil => exact .refl n d
  | cons x l ih => exact (h d x).trans (ih (f d x))

theorem Dev.StaysPut.modCh (n : ChanId) (d : Dev) (f : Channel → Channel)
    (hf : ∀ c, (f c).bk.seq = c.bk.seq := by intro c; rfl) : Dev.StaysPut n d (d.modCh n f) :=
  ⟨fun m hm => by rw [Dev.ch_modCh, if_neg hm], by rw [Dev.ch_modCh, if_pos rfl, hf]⟩

theorem Dev.StaysPut.of_chans (n : ChanId) {d t : Dev} (h : t.chans = d.chans) : Dev.StaysPut n d t := by
  have hch : ∀ m, t.ch m = d.ch m := fun m => by unfold Dev.ch; rw [h]
  exact ⟨fun m _ => by rw [hch m], by rw [hch n]⟩

theorem Dev.Enters.staysPut {n : ChanId} {g : Force} {d t : Dev} (h : Dev.Enters n g d t) : Dev.StaysPut n d t :=
  ⟨fun m hm => (congrArg Channel.force (h.others m hm) : _), by rw [h.bk]⟩

theorem Dev.Keeps.staysPut {n : ChanId} {d t : Dev} (h : Dev.Keeps n d t) : Dev.StaysPut n d t := h.enters.staysPut

/-! ## What parking does first (R93, R196, R255, R359) -/

theorem Dev.staysPut_undoMonitor (d : Dev) (n : ChanId) (old : Monitor) (m : Idx4) : Dev.StaysPut n d (d.undoMonitor n old m) := by
  have hmod : Dev.StaysPut n d (d.modCh n fun c => (c.modWm m fun _ => old).wmRecode m) := .modCh n d _
  unfold Dev.undoMonitor
  exact .ite (.refl n d) (.ite (hmod.trans (.modCh n _ _)) (.ite hmod (hmod.trans (.of_chans n rfl))))

theorem Dev.staysPut_undoApply (d : Dev) (n : ChanId) : Dev.StaysPut n d (d.undoApply n) := by
  unfold Dev.undoApply Dev.takeBack
  split
  · refine .trans (t := { d with fab := { d.fab with steps := d.fab.steps.filter fun q => q.1 / 16 != n.val } }) (.of_chans n rfl) ?_
    exact ((Dev.StaysPut.modCh n _ _).trans (.foldl _ (fun d m => d.staysPut_undoMonitor n _ m) _ _))
  · exact .refl n d

/-- The barker stops, and the other channels stay (R255). -/
theorem Dev.stopBarker_spec (d : Dev) (n : ChanId) : ((d.stopBarker n).ch n).bk.seq = .stopped ∧
    ∀ m, m ≠ n → ((d.stopBarker n).ch m) = d.ch m := by
  unfold Dev.stopBarker
  refine ⟨?_, fun m hm => by rw [Dev.ch_modCh, if_neg hm]⟩
  rw [Dev.ch_modCh, if_pos rfl]
  dsimp only
  split <;> rfl

theorem Dev.staysPut_tallyOpen (d : Dev) (n : ChanId) (u : Idx16) : Dev.StaysPut n d (d.tallyOpen n u) := by
  unfold Dev.tallyOpen
  exact .modCh n d _

theorem Dev.staysPut_tallyDay (d : Dev) (n : ChanId) (u : Idx16) (day : TallyDay) (ev : TallyEv) :
    Dev.StaysPut n d (d.tallyDay n u day ev) := by
  unfold Dev.tallyDay
  dsimp only
  have hignored : ∀ (d : Dev) (p : Prop) [Decidable p] v (l : List Nat), Dev.StaysPut n d (if p then d.setCreg n Obj.TALLY_IGNORED v
      else l.foldl (fun d _ => d.cinc n 32 Obj.TALLY_IGNORED) d) := fun d p _ v l =>
    .ite (.modCh n d _) (.foldl _ (fun d _ => .modCh n d _) l d)
  have hunit : ∀ (d : Dev) (p q : Prop) [Decidable p] [Decidable q], Dev.StaysPut n d (if p then d.tallyOpen n u
      else if q then d.modCh n fun c => c.modTally u fun _ => Tally.reset else d) := fun d p q _ _ =>
    .ite (d.staysPut_tallyOpen n u) (.ite (.modCh n d _) (.refl n d))
  have hfire : ∀ (d : Dev) (p : Prop) [Decidable p] code inh, Dev.StaysPut n d (if p then d.fireCommit code inh else d) :=
    fun d p _ code inh => .ite (Dev.Keeps.fireCommit n d code inh).staysPut (.refl n d)
  exact (((Dev.StaysPut.modCh n d _).trans (hignored _ _ _ _)).trans (hunit _ _ _)).trans (hfire _ _ _ _)

theorem Dev.staysPut_tallyCloseAll (d : Dev) (n : ChanId) (cause : CloseCause) : Dev.StaysPut n d (d.tallyCloseAll n cause) := by
  unfold Dev.tallyCloseAll
  exact .foldl _ (fun d u => .ite (.refl n d) (d.staysPut_tallyDay n u _ _)) _ d

theorem Dev.staysPut_startValue (d : Dev) (n : ChanId) : Dev.StaysPut n d (d.startValue n) := by
  have hw := d.enters_modForce n fun f => { f with target := zeroCode, prevTarget := f.target }
  unfold Dev.startValue
  exact .ite (hw.trans (Dev.enters_enterEntry _ n 0 _ 0)).staysPut (.refl n d)

/-- An abort of the calibration of a channel lets it begin at its start value (R359). -/
theorem Dev.sysAbort_of_chan (d : Dev) (n : ChanId) (code : Nat) (h : d.sysChan = some n) :
    ∃ u : Dev, u.chans = d.chans ∧ d.sysAbort code = u.startValue n := by
  unfold Dev.sysAbort
  rw [h]
  exact ⟨({ d with cal := { d.cal with sys := .aborted, zero := none } }.setReg Obj.SYSCAL_ABORT code).raiseCh 0x0A04 1 n code,
    rfl, rfl⟩

theorem Dev.staysPut_sysAbortOn (d : Dev) (n : ChanId) (code : Nat) : Dev.StaysPut n d (d.sysAbortOn n code) := by
  unfold Dev.sysAbortOn
  split
  · next hon =>
    obtain ⟨-, hwho⟩ := Bool.and_eq_true_iff.1 hon
    obtain ⟨u, hu, heq⟩ := d.sysAbort_of_chan n code (eq_of_beq hwho)
    rw [heq]
    exact (Dev.StaysPut.of_chans n hu).trans (u.staysPut_startValue n)
  · exact .refl n d

/-- The ramp of a channel that parks begins (R93). -/
def Dev.startParkRamp (d : Dev) (n : ChanId) : Dev :=
  (d.gustStop n d.commitAt).modCh n fun c => ((c.outerRestart.sineOff).runSet 63).modForce fun f =>
    { f with st := .parking, phase := .ramp, phaseTick := d.tick, rampFrom := f.setpt, rampLen := c.reg Obj.PARK_RAMP,
             confirmed := false }

theorem Dev.enterParking_eq (d : Dev) (n : ChanId) :
    d.enterParking n = ((((d.undoApply n).stopBarker n).tallyCloseAll n .park).sysAbortOn n 1).startParkRamp n := rfl

theorem Dev.startParkRamp_force (d : Dev) (n : ChanId) :
    ((d.startParkRamp n).ch n).force.st = .parking ∧ ((d.startParkRamp n).ch n).force.phase = .ramp ∧
      ((d.startParkRamp n).ch n).force.phaseTick = d.tick := by
  unfold Dev.startParkRamp
  rw [Dev.ch_modCh, if_pos rfl]
  exact ⟨rfl, rfl, rfl⟩

theorem Dev.staysPut_startParkRamp (d : Dev) (n : ChanId) : Dev.StaysPut n d (d.startParkRamp n) :=
  (Dev.Keeps.gustStop n d d.commitAt).staysPut.trans (.modCh n _ _)

theorem Dev.tick_of_frame {d t : Dev} (h : t.frame = d.frame) : t.tick = d.tick := congrArg Frame.tick h

theorem Dev.sysAbortOn_tick_of_parking (d : Dev) (n : ChanId) :
    ((((d.undoApply n).stopBarker n).tallyCloseAll n .park).sysAbortOn n 1).tick = d.tick :=
  Dev.tick_of_frame (((Dev.sysAbortOn_frame _ n 1).trans (Dev.tallyCloseAll_frame _ n .park)).trans
    ((Dev.stopBarker_frame _ n).trans (d.undoApply_frame n)))

/-- A channel enters PARKING: a ramp from the present commit, with its barker stopped and the other channels as they were. -/
theorem Dev.enterParking_spec (d : Dev) (n : ChanId) :
    ((d.enterParking n).ch n).force.st = .parking ∧ ((d.enterParking n).ch n).force.phase = .ramp ∧
      ((d.enterParking n).ch n).force.phaseTick = d.tick ∧ ((d.enterParking n).ch n).bk.seq = .stopped ∧
      ∀ m, m ≠ n → ((d.enterParking n).ch m).force = (d.ch m).force := by
  obtain ⟨hstop, hothers⟩ := (d.undoApply n).stopBarker_spec n
  have hrest := ((Dev.staysPut_tallyCloseAll ((d.undoApply n).stopBarker n) n .park).trans (Dev.staysPut_sysAbortOn _ n 1)).trans
    (Dev.staysPut_startParkRamp _ n)
  have hramp := Dev.startParkRamp_force ((((d.undoApply n).stopBarker n).tallyCloseAll n .park).sysAbortOn n 1) n
  rw [← d.enterParking_eq n] at hrest hramp
  obtain ⟨hst, hphase, htick⟩ := hramp
  refine ⟨hst, hphase, htick.trans (d.sysAbortOn_tick_of_parking n), hrest.seq.trans hstop, fun m hm => ?_⟩
  rw [hrest.others m hm, hothers m hm, (d.staysPut_undoApply n).others m hm]

/-- A park request of an armed channel with no gang in the module enters PARKING (R93). -/
theorem Dev.parkMask_armed (d : Dev) (n : ChanId) (h : ∀ m, d.role m = 0) (ha : (d.ch n).isArmed = true) :
    d.parkMask (BitVec.twoPow 64 n.val) = d.enterParking n := by
  have harmed : (d.ch n).force.st = .armed := eq_of_beq ha
  rw [d.parkMask_alone n h]
  unfold Dev.parkOne
  dsimp only
  rw [harmed]

end Sys2Proof.Machine
end

section
namespace Sys2Proof.Machine
open Sys2Proof

/-! R140, R229, R273: what SINE_SET and GUST_ARM do as they apply, and the step as a whole. -/

theorem Channel.sineStart_sine {c c' : Channel} (now : Tick) (s : Idx16) (hr : c'.regs = c.regs) (hs : c'.sine = c.sine) :
    (c'.sineStart now s).sine = (c.sineStart now s).sine := by
  unfold Channel.sineStart Channel.sineLoad Channel.reg
  simp only [hr, hs, apply_ite Channel.sine]
  rfl

theorem Channel.sineStart_gust (c : Channel) (now : Tick) (s : Idx16) : (c.sineStart now s).gust = c.gust := by
  unfold Channel.sineStart
  dsimp only
  split <;> rfl

theorem Channel.sinePhase_sine {c c' : Channel} (now : Tick) (hr : c'.regs = c.regs) (hs : c'.sine = c.sine) :
    (c'.sinePhase now).sine = (c.sinePhase now).sine := by
  unfold Channel.sinePhase Channel.sineLoad Channel.reg
  simp only [hr, hs, apply_ite Channel.sine]
  rfl

/-- A step that is no force step touches nothing but the force path and the converters of its channel, before its kind acts. -/
theorem Dev.onFields_of_other (d : Dev) (n : ChanId) (s : Selected)
    (hk : ¬ (stKind s.word.toNat = 1 ∨ stKind s.word.toNat = 2)) :
    ∃ mv mi, d.onFields n s = d.modCh n fun c =>
      { c with force := { c.force with withheld := false }.onFields s.word.toNat, mv := mv, mi := mi } := by
  have hdiff : d.modeDiffers n s.word.toNat = false := by
    unfold Dev.modeDiffers
    rw [Bool.eq_false_iff.2 (mt (stKind_forces _).1 hk), Bool.false_and]
  have hforce : d.applyForce n s.word.toNat false = d.modCh n fun c => c.modForce fun f => { f with withheld := false } := by
    unfold Dev.applyForce
    rw [if_neg (mt (stKind_forces _).1 hk)]
  obtain ⟨mv, mi, hconv⟩ := Dev.onlyConvs_restartSeq ((d.modCh n fun c => c.modForce fun f => { f with withheld := false }).modCh n
    fun c => c.modForce fun f => f.onFields s.word.toNat) n
  refine ⟨mv, mi, ?_⟩
  unfold Dev.onFields
  dsimp only
  rw [hdiff, hforce]
  exact hconv.trans ((Dev.modCh_modCh ..).trans (Dev.modCh_modCh ..))

theorem Dev.force_of_forces {d t : Dev} (h : t.forces = d.forces) (n : ChanId) : (t.ch n).force = (d.ch n).force := by
  have hn : t.forces[n] = d.forces[n] := by rw [h]
  simp only [Dev.forces, Fin.getElem_fin, Vector.getElem_map] at hn
  exact hn

/-- What injects into a channel as a step that is no force step applies: its kind acts on the channel as it was. -/
theorem Dev.applyStep_injects (d : Dev) (n : ChanId) (s : Selected) (h : d.role n = 0)
    (hk : ¬ (stKind s.word.toNat = 1 ∨ stKind s.word.toNat = 2)) :
    ∃ u : Dev, u.tick = d.tick ∧ (u.ch n).regs = (d.ch n).regs ∧ (u.ch n).sine = (d.ch n).sine ∧ (u.ch n).gust = (d.ch n).gust ∧
      (u.ch n).force = { (d.ch n).force with withheld := false }.onFields s.word.toNat ∧
      ((d.applyStep n s).ch n).force = (u.ch n).force ∧
      ((d.applyStep n s).ch n).sine = ((u.applyKind n s.word.toNat).ch n).sine ∧
      ((d.applyStep n s).ch n).gust = ((u.applyKind n s.word.toNat).ch n).gust := by
  obtain ⟨mv, mi, hu⟩ := d.onFields_of_other n s hk
  have hroles := ((d.enters_onFields n s h).keeps (.applyKind n _ s.word.toNat)).roles
  obtain ⟨hsine, hgust⟩ := Dev.compStep_injects ((d.onFields n s).applyKind n s.word.toNat) n ((Dev.role_of_roles hroles n).trans h)
  have hforces : (d.applyStep n s).forces = (d.onFields n s).forces := by
    rw [d.applyStep_alone n s h, Dev.compStep_forces, Dev.applyKind_forces]
  rw [← d.applyStep_alone n s h] at hsine hgust
  refine ⟨d.onFields n s, by rw [hu]; rfl, ?_, ?_, ?_, ?_, Dev.force_of_forces hforces n, hsine, hgust⟩ <;>
    rw [hu, Dev.ch_modCh, if_pos rfl]

/-! ## The kinds (R140, R273) -/

theorem Dev.applyKind_sineSet (d : Dev) (n : ChanId) (w : Nat) (k16 : Idx16) (hk : stKind w = 9) (hv : stValue w = k16.val) :
    (d.applyKind n w).ch n = (d.ch n).sineStart d.tick k16 := by
  have hop : natBits k16.val 19 18 = 0 := by unfold natBits; omega
  have hs : (⟨k16.val % 16, Nat.mod_lt _ (by decide)⟩ : Idx16) = k16 := Fin.ext (Nat.mod_eq_of_lt k16.isLt)
  unfold Dev.applyKind
  simp only [hk, hv, hop]
  rw [Dev.ch_modCh, if_pos rfl, hs]

theorem Dev.applyKind_sineOff (d : Dev) (n : ChanId) (w : Nat) (hk : stKind w = 9) (hv : stValue w = 2 ^ 18) :
    (d.applyKind n w).ch n = (d.ch n).sineOff := by
  unfold Dev.applyKind
  simp only [hk, hv]
  rw [Dev.ch_modCh, if_pos rfl]
  rfl

theorem Dev.applyKind_sinePhase (d : Dev) (n : ChanId) (w : Nat) (hk : stKind w = 9) (hv : stValue w = 2 ^ 19) :
    (d.applyKind n w).ch n = (d.ch n).sinePhase d.tick := by
  unfold Dev.applyKind
  simp only [hk, hv]
  rw [Dev.ch_modCh, if_pos rfl]
  rfl

theorem Dev.applyKind_gustArm (d : Dev) (n : ChanId) (w : Nat) (k16 : Idx16) (hk : stKind w = 10) (hv : stValue w = k16.val) :
    (d.applyKind n w).ch n = (d.ch n).gustArm k16 := by
  have hop : natBit k16.val 19 = false := by
    have hzero : k16.val / 2 ^ 19 = 0 := by omega
    unfold natBit
    rw [hzero]
    rfl
  have hs : (⟨k16.val % 16, Nat.mod_lt _ (by decide)⟩ : Idx16) = k16 := Fin.ext (Nat.mod_eq_of_lt k16.isLt)
  unfold Dev.applyKind
  simp only [hk, hv, hop]
  rw [Dev.ch_modCh, if_pos rfl, if_neg (by decide), hs]

theorem Dev.applyKind_gustDisarm (d : Dev) (n : ChanId) (w : Nat) (hk : stKind w = 10) (hv : stValue w = 2 ^ 19) :
    (d.applyKind n w).ch n = (d.ch n).gustDisarm := by
  unfold Dev.applyKind
  simp only [hk, hv]
  rw [Dev.ch_modCh, if_pos rfl]
  rfl

/-- GUST_ARM arms a loaded profile whose LEAD and advance give two periods (R140). -/
theorem Channel.gustArm_loaded (c : Channel) (p : Idx16) (hl : c.gust.profiles[p].loaded = true)
    (ht : 2 ≤ (gtLead (c.reg (Obj.GUST_TIMING p.val)) : Int) + gtAdv (c.reg (Obj.GUST_TIMING p.val))) :
    c.gustArm p = c.modGust fun g => { g with armed := some p.val } := by
  unfold Channel.gustArm
  dsimp only
  rw [if_pos (by rw [hl, decide_eq_true ht]; rfl)]

theorem Channel.gustArm_unloaded (c : Channel) (p : Idx16) (hl : c.gust.profiles[p].loaded = false) :
    c.gustArm p = c.inc 32 Obj.GUST_REFUSED := by
  unfold Channel.gustArm
  dsimp only
  rw [if_neg (by rw [hl, Bool.false_and]; decide)]

/-! ## The step at its commit -/

/-- The step of a channel that the present commit applies is no longer selected. -/
def Dev.stepTaken (d : Dev) (n : ChanId) : Dev := d.modCh n fun c => c.modBk fun k => { k with sel := none }

theorem Dev.stepTaken_roles (d : Dev) (n : ChanId) : (d.stepTaken n).roles = d.roles := d.modCh_roles n _ fun _ => rfl

theorem Dev.stepTaken_self (d : Dev) (n : ChanId) :
    (d.stepTaken n).ch n = { d.ch n with bk := { (d.ch n).bk with sel := none } } := by
  unfold Dev.stepTaken
  rw [Dev.ch_modCh, if_pos rfl]
  rfl

theorem Dev.stepTaken_other (d : Dev) (n : ChanId) (m : ChanId) (hm : m ≠ n) : (d.stepTaken n).ch m = d.ch m := by
  unfold Dev.stepTaken
  rw [Dev.ch_modCh, if_neg hm]

/-- END with PARK 1 is a park request of its channel (R253). -/
theorem Dev.applyNow_park (d : Dev) (n : ChanId) (x : Selected) (hk : stKind x.word.toNat = 11) (hv : stValue x.word.toNat = 1) :
    d.applyNow (n, x) = (d.stepTaken n).parkMask (BitVec.twoPow 64 n.val) := by
  unfold Dev.applyNow
  dsimp only
  rw [if_pos (by simp [hk, hv])]
  rfl

/-- Any other selected step applies to the module in which it is no longer selected (R16). -/
theorem Dev.applyNow_step (d : Dev) (n : ChanId) (x : Selected) (h : ¬ (stKind x.word.toNat = 11 ∧ stValue x.word.toNat = 1)) :
    ∃ u : Dev, u.roles = d.roles ∧ u.tick = d.tick ∧ (∀ m, m ≠ n → u.ch m = d.ch m) ∧
      u.ch n = { d.ch n with bk := { (d.ch n).bk with sel := none } } ∧ d.applyNow (n, x) = u.applyStep n x := by
  have hroles := d.stepTaken_roles n
  have hothers := d.stepTaken_other n
  have hself := d.stepTaken_self n
  unfold Dev.applyNow
  dsimp only
  rw [if_neg (by simpa using h)]
  cases stepObject x.word.toNat with
  | none => exact ⟨d.stepTaken n, hroles, rfl, hothers, hself, rfl⟩
  | some k => exact ⟨{ d.stepTaken n with wrote := (n.val, k) :: d.wrote }, hroles, rfl, hothers, hself, rfl⟩

/-- Plan, gates and marks are the step's, and the rest of the force path is as its range pair leaves it. -/
theorem Force.unclamped_onFields {f g : Force} {w : Nat} (h : f.unclamped = (g.onFields w).unclamped) :
    f.gates = stGates w ∧ f.marks = stMarks w ∧ f.plan = (if stKind w = 4 then g.plan else stPlan w) ∧ f.st = g.st ∧
      f.setpt = g.setpt ∧ f.target = g.target ∧ f.disc = g.disc ∧ f.rpair = g.rpair ∧ f.vrange = g.vrange ∧
      f.irange = g.irange ∧ f.fi = g.fi ∧ f.withheld = g.withheld := by
  refine ⟨(congrArg Force.gates h : _), (congrArg Force.marks h : _), (congrArg Force.plan h : _).trans ?_, (congrArg Force.st h : _),
    (congrArg Force.setpt h : _), (congrArg Force.target h : _), (congrArg Force.disc h : _), (congrArg Force.rpair h : _),
    (congrArg Force.vrange h : _), (congrArg Force.irange h : _), (congrArg Force.fi h : _), (congrArg Force.withheld h : _)⟩
  simp [Force.unclamped, Force.onFields]

/-- The range pair of a step leaves the rest of the force path. -/
theorem Force.onPair_rest (f : Force) (w e : Nat) :
    (f.onPair w e).plan = f.plan ∧ (f.onPair w e).st = f.st ∧ (f.onPair w e).setpt = f.setpt ∧
      (f.onPair w e).target = f.target ∧ (f.onPair w e).disc = f.disc := by
  unfold Force.onPair
  split
  · split <;> exact ⟨rfl, rfl, rfl, rfl, rfl⟩
  · exact ⟨rfl, rfl, rfl, rfl, rfl⟩

/-- What a step makes of the force path: a force step whose entry has its mode applies its range pair, one whose entry has the
other mode is withheld, and every other kind keeps the range pair (R80, R228). -/
theorem Force.onPair_spec {f g : Force} {w e : Nat} (hp : g.rpair = (f.onPair w e).rpair) (hv : g.vrange = (f.onPair w e).vrange)
    (hi : g.irange = (f.onPair w e).irange) (hf : g.fi = (f.onPair w e).fi) (hw : g.withheld = (f.onPair w e).withheld) :
    if stKind w = 1 ∨ stKind w = 2 then
      if rpMode e = decide (stKind w = 2) then
        g.rpair = stRpair w ∧ g.vrange = rpVRange e ∧ g.irange = rpIRange e ∧ g.fi = decide (stKind w = 2) ∧ g.withheld = false
      else g.rpair = f.rpair ∧ g.vrange = f.vrange ∧ g.irange = f.irange ∧ g.fi = f.fi ∧ g.withheld = true
    else g.rpair = f.rpair ∧ g.vrange = f.vrange ∧ g.irange = f.irange ∧ g.fi = f.fi ∧ g.withheld = false := by
  rw [hp, hv, hi, hf, hw]
  unfold Force.onPair
  by_cases hk : stKind w = 1 ∨ stKind w = 2
  · by_cases hm : rpMode e = decide (stKind w = 2)
    · simp only [if_pos hk, if_pos hm, Force.inRanges, and_self]
    · simp only [if_pos hk, if_neg hm, and_self]
  · simp only [if_neg hk, and_self]

/-- A selected step applies at its commit: its range pair and fields, and nothing of the other channels (R16, R80, R232). -/
theorem Dev.enters_applyNow (d : Dev) (n : ChanId) (x : Selected) (h : d.role n = 0)
    (hp : ¬ (stKind x.word.toNat = 11 ∧ stValue x.word.toNat = 1)) :
    let w := x.word.toNat
    let t := d.applyNow (n, x)
    (t.ch n).force.unclamped = (((d.ch n).force.onPair w ((d.ch n).reg (Obj.RPAIR (stRpair w)))).onFields w).unclamped ∧
      (t.ch n).bk = { (d.ch n).bk with sel := none, spanRc := (t.ch n).bk.spanRc } ∧ (t.ch n).tally = (d.ch n).tally ∧
      ∀ m, m ≠ n → (t.ch m).still = (d.ch m).still := by
  obtain ⟨u, hroles, -, hothers, hself, heq⟩ := d.applyNow_step n x hp
  obtain ⟨hent, hbk, htally, hforce, -⟩ := u.enters_applyStep n x ((Dev.role_of_roles hroles n).trans h)
  rw [← heq, hself] at hbk htally hforce
  rw [← heq] at hent
  exact ⟨hforce, hbk, htally, fun m hm => (hent m hm).trans (by rw [hothers m hm])⟩

/-- What a step other than a force step does at its commit: its kind acts on registers, sine and gust injector as they were, and
its fields reach the force path (R16, R232). -/
theorem Dev.applyNow_injects (d : Dev) (n : ChanId) (x : Selected) (h : d.role n = 0)
    (hp : ¬ (stKind x.word.toNat = 11 ∧ stValue x.word.toNat = 1)) (hk : ¬ (stKind x.word.toNat = 1 ∨ stKind x.word.toNat = 2)) :
    ∃ u : Dev, u.tick = d.tick ∧ (u.ch n).regs = (d.ch n).regs ∧ (u.ch n).sine = (d.ch n).sine ∧ (u.ch n).gust = (d.ch n).gust ∧
      ((d.applyNow (n, x)).ch n).force = { (d.ch n).force with withheld := false }.onFields x.word.toNat ∧
      ((d.applyNow (n, x)).ch n).sine = ((u.applyKind n x.word.toNat).ch n).sine ∧
      ((d.applyNow (n, x)).ch n).gust = ((u.applyKind n x.word.toNat).ch n).gust := by
  obtain ⟨u, hroles, htick, -, hself, heq⟩ := d.applyNow_step n x hp
  obtain ⟨v, hvtick, hregs, hsine, hgust, hvf, hf, hs, hg⟩ := u.applyStep_injects n x ((Dev.role_of_roles hroles n).trans h) hk
  rw [hself] at hregs hsine hgust hvf
  rw [heq]
  exact ⟨v, hvtick.trans htick, hregs, hsine, hgust, hf.trans hvf, hs, hg⟩

end Sys2Proof.Machine

namespace Sys2Proof
open Machine

/-- Settles O19: the range pair enters the force path (`Dev.enters_applyNow`), the kind acts on the channel as it was
(`Dev.applyNow_injects`), and END with PARK 1 is a park request of one channel (`Dev.enterParking_spec`). -/
theorem selectedStepsTakeEffect : Obligations.SelectedStepsTakeEffect := by
  unfold Obligations.SelectedStepsTakeEffect
  intro d n x k16 hrole w c t k v e f
  have hinjects : ∀ a, k = a → a ≠ 1 → a ≠ 2 → a ≠ 11 → _ := fun a hk h1 h2 h11 =>
    d.applyNow_injects n x hrole (fun h => h11 (hk.symm.trans h.1)) fun h => h.elim (h1 <| hk.symm.trans ·) (h2 <| hk.symm.trans ·)
  refine ⟨fun hpark => ?_, fun hk hv => ?_, fun hk hv => ?_, fun hk hv => ?_, fun hk hv hl ht => ?_, fun hk hv hl => ?_,
    fun hk hv => ?_, fun hk hv hroles ha _ => ?_⟩
  · obtain ⟨hforce, hbk, htally, hothers⟩ := d.enters_applyNow n x hrole hpark
    obtain ⟨hgates, hmarks, hplan, hst, hsetpt, htarget, hdisc, hrpair, hvr, hir, hfi, hwith⟩ := Force.unclamped_onFields hforce
    obtain ⟨rplan, rst, rsetpt, rtarget, rdisc⟩ := c.force.onPair_rest w e
    refine ⟨hgates, hmarks, hplan.trans (by rw [rplan]), hst.trans rst, hsetpt.trans rsetpt, htarget.trans rtarget, hdisc.trans rdisc,
      ?_, hbk, htally, hothers⟩
    have hpair := Force.onPair_spec hrpair hvr hir hfi hwith
    by_cases hk : k = 1 ∨ k = 2
    · rw [if_pos hk] at hpair ⊢
      exact hpair
    · rw [if_neg hk] at hpair ⊢
      obtain ⟨hr, hv, hi, hm, hw⟩ := hpair
      obtain ⟨u, -, -, -, -, hf, -⟩ := d.applyNow_injects n x hrole hpark hk
      exact ⟨hr, hv, hi, hm, hw, (congrArg Force.clampHi hf : _), (congrArg Force.clampLo hf : _)⟩
  · obtain ⟨u, htick, hregs, hsine, hgust, -, hs, hg⟩ := hinjects 9 hk (by decide) (by decide) (by decide)
    rw [u.applyKind_sineSet n w k16 hk hv, htick] at hs hg
    exact ⟨hs.trans (Channel.sineStart_sine d.tick k16 hregs hsine), hg.trans ((Channel.sineStart_gust ..).trans hgust)⟩
  · obtain ⟨u, -, -, hsine, -, -, hs, -⟩ := hinjects 9 hk (by decide) (by decide) (by decide)
    rw [u.applyKind_sineOff n w hk hv] at hs
    exact hs.trans (congrArg (fun s : Sine => { s with on := false, setting := 0xFF, amp := 0, resetAt := none }) hsine)
  · obtain ⟨u, htick, hregs, hsine, -, -, hs, -⟩ := hinjects 9 hk (by decide) (by decide) (by decide)
    rw [u.applyKind_sinePhase n w hk hv, htick] at hs
    exact hs.trans (Channel.sinePhase_sine d.tick hregs hsine)
  · obtain ⟨u, -, hregs, hsine, hgust, -, hs, hg⟩ := hinjects 10 hk (by decide) (by decide) (by decide)
    rw [u.applyKind_gustArm n w k16 hk hv, Channel.gustArm_loaded _ k16 (by rw [hgust]; exact hl)
      (by unfold Channel.reg; rw [hregs]; exact ht)] at hs hg
    exact ⟨hg.trans (congrArg (fun g : Gust => { g with armed := some k16.val }) hgust), hs.trans hsine⟩
  · obtain ⟨u, -, -, -, hgust, -, -, hg⟩ := hinjects 10 hk (by decide) (by decide) (by decide)
    rw [u.applyKind_gustArm n w k16 hk hv, Channel.gustArm_unloaded _ k16 (by rw [hgust]; exact hl)] at hg
    exact hg.trans hgust
  · obtain ⟨u, -, -, -, hgust, -, -, hg⟩ := hinjects 10 hk (by decide) (by decide) (by decide)
    rw [u.applyKind_gustDisarm n w hk hv] at hg
    exact hg.trans (congrArg (fun g : Gust => { g with armed := none }) hgust)
  · have hpark : t = (d.stepTaken n).enterParking n := (d.applyNow_park n x hk hv).trans ((d.stepTaken n).parkMask_armed n
      (fun m => (Dev.role_of_roles (d.stepTaken_roles n) m).trans (hroles m)) (by rw [d.stepTaken_self n]; exact ha))
    obtain ⟨hst, hphase, htick, hseq, hothers⟩ := (d.stepTaken n).enterParking_spec n
    rw [← hpark] at hst hphase htick hseq hothers
    exact ⟨hst, hphase, htick, hseq, fun m hm => (hothers m hm).trans (by rw [d.stepTaken_other n m hm])⟩

end Sys2Proof
end

section
namespace Sys2Proof.Machine
open Sys2Proof

/-! R41, R44, R49, R470: what a command makes of the frame, by its shape. -/

/-- A command at a state leaves a module whose frame stands in a relation to the frame of before. -/
def Framed (R : Frame → Frame → Prop) (s : State) (o : Host.Outcome State Fault Refusal) : Prop :=
  ∀ t, o = .next t → R s.dev.frame t.dev.frame

theorem framed_runIn {R : Frame → Frame → Prop} {s : State} (f : Dev → Dev) (h : R s.dev.frame (f s.dev).frame) :
    Framed R s (runIn s f) := by
  rintro _ ⟨⟩
  exact h

theorem framed_runAt {R : Frame → Frame → Prop} {s : State} (f : Dev → Dev) (h : R s.dev.frame (f s.dev).frame) :
    Framed R s (runAt s f) := by
  rintro _ ⟨⟩
  exact h

theorem State.sealed_frame (s : State) : s.sealed.dev.frame = s.dev.frame := by
  unfold State.sealed
  split
  · exact s.dev.seal_frame
  · rfl

section
variable {R : Frame → Frame → Prop} (hR : ∀ f, R f f) (s : State) (f : Dev → Dev) (h : ∀ d : Dev, R d.frame (f d).frame)

theorem framed_runIn_sealed (h : ∀ d : Dev, R d.frame (f d).frame) : Framed R s (runIn s.sealed f) := by
  rintro _ ⟨⟩
  exact s.sealed_frame ▸ h s.sealed.dev

include hR h

theorem framed_liveIn : Framed R s (liveIn s f) :=
  framed_runIn_sealed s _ fun d => by
    split
    · exact h d
    · exact hR _

theorem framed_liveAt : Framed R s (liveAt s f) := by
  unfold liveAt
  split
  · exact framed_runAt f (h _)
  · rintro _ ⟨⟩
    exact hR _

theorem framed_liveRead (cyc : Cycle) : Framed R s (liveRead s cyc f) := by
  unfold liveRead
  split
  · refine framed_runIn _ ?_
    split
    · exact h _
    · exact hR _
  · exact framed_liveIn hR s f h

theorem framed_linkIn : Framed R s (linkIn s f) :=
  framed_liveIn hR s _ fun d => by
    split
    · exact h d
    · exact hR _

theorem framed_linkRead (cyc : Cycle) : Framed R s (linkRead s cyc f) :=
  framed_liveRead hR s _ (fun d => by
    split
    · exact h d
    · exact hR _) cyc
end

end Sys2Proof.Machine
end

section
namespace Sys2Proof.Machine
open Sys2Proof

/-! Commands that leave the frame, or whose frame the rules of the module's functions do not give at once. -/

/-- The tick number of a module that is still released stays, and it was released before. -/
def Frame.TicksOn (f g : Frame) : Prop := g.released = true → g.tick = f.tick ∧ f.released = true

@[simp] theorem Frame.TicksOn.refl (f : Frame) : f.TicksOn f := fun h => ⟨rfl, h⟩

theorem Frame.TicksOn.trans {a b c : Frame} (h : a.TicksOn b) (k : b.TicksOn c) : a.TicksOn c := fun r =>
  ⟨(k r).1.trans (h (k r).2).1, (h (k r).2).2⟩

theorem Dev.modSec_ticksOn (d : Dev) (f : Sec → Sec) : d.frame.TicksOn (d.modSec f).frame := fun h => ⟨rfl, h⟩

theorem Frame.Leads.of_eq {f g : Frame} (h : g = f) : f.Leads g := h ▸ .refl _

@[simp] theorem Dev.marchFailed_frame (d : Dev) (m region : Nat) : (d.marchFailed m region).frame = d.frame := by
  simp [Dev.marchFailed]

@[simp] theorem Dev.restoreMeets_frame (d : Dev) (m : Nat) : (d.restoreMeets m).frame = d.frame := by
  unfold Dev.restoreMeets
  dsimp only
  split
  · split <;> simp
  · rfl

/-- A verified container leaves what waits, and nothing of the frame. -/
theorem Dev.takePassed_frame {d e : Dev} {type : Nat} {bulk : Bool} {v : Verdict} (h : d.takePassed type bulk = some (v, e)) :
    e.frame = d.frame := by
  unfold Dev.takePassed at h
  obtain ⟨w, -, hw⟩ := Option.map_eq_some_iff.1 h
  cases hw
  rfl

theorem Dev.takeSecurity_frame {d e : Dev} {type : Nat} {v : Verdict} (h : d.takeSecurity type = some (v, e)) :
    e.frame = d.frame := by
  unfold Dev.takeSecurity at h
  cases hp : d.takePassed type false with
  | some x =>
    rw [hp] at h
    cases h
    exact Dev.takePassed_frame hp
  | none =>
    rw [hp] at h
    exact Dev.takePassed_frame h

/-- A change of the power state that does not release the module. -/
theorem Dev.modPower_leads (d : Dev) (f : Power → Power) (h : (f d.power).released = true → d.power.released = true) :
    d.frame.Leads (d.modPower f).frame := by
  rw [Dev.modPower_frame]
  exact .same rfl id fun r => ⟨rfl, h r⟩

theorem Dev.cold_leads (d : Dev) : d.frame.Leads d.cold.frame := d.cold_frame ▸ .cold _

section
variable (s : State)

/-! ## Start-up and loss of power -/

theorem framed_powerGood (strap : BitVec 6) (ecMode : BitVec 2) : Framed Frame.Leads s (execPowerGood strap ecMode s) := by
  refine framed_runAt _ ?_
  split
  · exact .refl _
  · dsimp only
    simp only [Dev.setReg_frame]
    exact s.dev.cold_leads.trans (Dev.modPower_leads _ _ id)

theorem framed_powerLoss : Framed Frame.Leads s (execPowerLoss s) := by
  refine framed_runAt _ ?_
  split
  · exact .refl _
  · refine .trans (.of_eq ?_) (Dev.modPower_leads _ _ nofun)
    simp [apply_ite Dev.frame, Dev.eachSt_frame]

theorem framed_configMemoryPhase (img : FlashRead) (time10us : BitVec 16) :
    Framed Frame.Leads s (execConfigMemoryPhase img time10us s) := by
  refine framed_runAt _ ?_
  split
  · exact .refl _
  · split
    · simp
    · refine .trans ?_ (Dev.tryImages_leads _ _)
      simp

theorem framed_retainedStatePhase (r : RetainedResult) (time10us : BitVec 16) :
    Framed Frame.Leads s (execRetainedStatePhase r time10us s) := by
  refine framed_runAt _ ?_
  split
  · exact .refl _
  · dsimp only
    rw [Dev.settleRestored_frame]
    refine .trans ?_ (Dev.modPower_leads _ _ id)
    rw [apply_ite Dev.frame, Dev.raiseNow_frame, ite_self, foldl_frame _ fun d rec => Dev.restoreRecord_frame ..,
      apply_ite Dev.frame]
    simp [apply_ite Dev.frame]

/-! ## Writes of objects -/

theorem framed_objectWrite (idx : BitVec 16) (sub : BitVec 8) (len value : Nat) :
    Framed Frame.Leads s (execObjectWrite idx sub len value s) := by
  refine framed_liveAt .refl s _ fun d => ?_
  dsimp only
  split
  · simp
  · rw [Dev.settleFaults_frame]
    exact d.hostWrite_leads _ _ _ fun d => d.writeObj_leads ..

theorem framed_retainRecordWritten (record : BitVec 16) (ok : Bool) :
    Framed Frame.Leads s (execRetainRecordWritten record ok s) := by
  refine framed_liveAt .refl s _ fun d => .of_eq ?_
  dsimp only
  split
  · rfl
  · split
    · rw [foldl_frame _ fun d w => Dev.bulkDone_frame ..]
      simp [apply_ite Dev.frame]
    · rw [Dev.settleFaults_frame, foldl_frame _ fun d w => (Dev.bulkDone_frame ..).trans (Dev.modDict_frame ..)]
      simp

theorem framed_sealedIn (req : List Byte) (bulk : Bool) : Framed Frame.Leads s (execSealedIn req bulk s) := by
  refine framed_liveAt .refl s _ fun d => ?_
  simp only [Dev.settleFaults_frame, Dev.modDict_frame]
  exact Dev.modDict_frame d _ ▸ Dev.sealedIn_leads _ _ _

/-! ## Loads -/

theorem framed_spoolRefill (src : Option LoadDesc) : Framed Frame.Leads s (execSpoolRefill src s) := by
  refine framed_liveIn .refl s _ fun d => ?_
  dsimp only
  repeat' split
  any_goals simp
  exact d.refill_leads ..

theorem framed_ledgerLoad (bulk : Bool) (cyc : Cycle) : Framed Frame.Leads s (execLedgerLoad bulk cyc s) := by
  refine framed_liveIn .refl s _ fun d => ?_
  split
  · exact .refl _
  · next v e he =>
    rw [← Dev.takePassed_frame he]
    split
    · simp
    · exact e.ledgerLoad_leads ..

theorem framed_programPackage (bulk : Bool) : Framed Frame.Leads s (execProgramPackage bulk s) := by
  refine framed_liveAt .refl s _ fun d => ?_
  split
  · exact .refl _
  · next v e he =>
    rw [← Dev.takePassed_frame he]
    dsimp only
    rw [apply_ite Dev.frame, Dev.loadAnswer_frame, Dev.loadRefuse_frame, ite_self]
    exact e.package_leads _

theorem framed_gustProfile (bulk : Bool) : Framed Frame.Leads s (execGustProfile bulk s) := by
  refine framed_liveIn .refl s _ fun d => .of_eq ?_
  split
  · rfl
  · next v e he =>
    rw [← Dev.takePassed_frame he]
    (repeat' split) <;> simp

theorem framed_imageUpdate (bulk readBack : Bool) : Framed Frame.Leads s (execImageUpdate bulk readBack s) := by
  refine framed_liveAt .refl s _ fun d => .of_eq ?_
  split
  · rfl
  · next v e he =>
    rw [← Dev.takePassed_frame he]
    dsimp only
    (repeat' split) <;> simp

/-! ## Security and debug -/

theorem framed_streamOpen : Framed Frame.Leads s (execStreamOpen s) := by
  refine framed_liveAt .refl s _ fun d => .of_eq ?_
  split
  · rfl
  · next v e he =>
    rw [← Dev.takeSecurity_frame he]
    dsimp only
    (repeat' split) <;> simp

theorem framed_tapPrivateInstruction (a : TapAccess) : Framed Frame.Leads s (execTapPrivateInstruction a s) := by
  refine framed_liveAt .refl s _ fun d => .of_eq ?_
  have h := d.tapPrivate_frame a
  cases ht : d.tapPrivate a with
  | none => exact d.tapBypass_frame
  | some e =>
    rw [ht] at h
    exact h

theorem framed_ownership (fuseOk : Bool) : Framed Frame.TicksOn s (execOwnership fuseOk s) := by
  refine framed_liveAt .refl s _ fun d => ?_
  split
  · exact .refl _
  · next v e he =>
    rw [← Dev.takeSecurity_frame he]
    dsimp only
    repeat' split
    any_goals simp only [Dev.secVerdict_frame, Dev.lifecycleEnds_frame, Frame.TicksOn.refl]
    all_goals exact .trans (by simp) (Dev.modSec_ticksOn _ _)

theorem framed_retire (fuseOk : Bool) : Framed Frame.TicksOn s (execRetire fuseOk s) := by
  refine framed_liveAt .refl s _ fun d => ?_
  split
  · exact .refl _
  · next v e he =>
    rw [← Dev.takeSecurity_frame he]
    split
    · simp
    · split
      · simp
      · refine .trans ?_ (Dev.modSec_ticksOn _ _)
        exact .trans (by simp) (Dev.zeroise_leads _).tick

theorem Dev.enterD3_ticksOn (d : Dev) : d.frame.TicksOn d.enterD3.frame := by
  rw [d.enterD3_frame]
  exact fun h => ⟨rfl, h⟩

theorem framed_debugToken : Framed Frame.TicksOn s (execDebugToken s) := by
  refine framed_liveAt .refl s _ fun d => ?_
  split
  · exact .refl _
  · next v e he =>
    rw [← Dev.takeSecurity_frame he]
    split
    · simp
    · next tok _ =>
      extract_lets code u
      have hu : u.frame = e.frame := e.secVerdict_frame ..
      rw [← hu]
      split
      · exact .refl _
      · split
        · rw [apply_ite Dev.frame, Dev.debugRoll_frame, ite_self]
          exact u.modSec_ticksOn _
        · split
          · exact u.enterD3_ticksOn
          · exact u.modSec_ticksOn _

/-! ## Other rows -/

theorem framed_sync0Event (cycleNs : Nat) (cyc : Cycle) : Framed Frame.Leads s (execSync0Event cycleNs cyc s) := by
  refine framed_liveRead .refl s _ (fun d => .of_eq ?_) cyc
  dsimp only
  (repeat' split) <;> simp

theorem framed_windowRead (offset len : Nat) (cyc : Cycle) : Framed Frame.Leads s (execWindowRead offset len cyc s) := by
  refine framed_linkRead .refl s _ (fun d => .of_eq ?_) cyc
  dsimp only
  (repeat' split) <;> simp

theorem framed_derateLevelChange (k : StallId) (tj : Int) : Framed Frame.Leads s (execDerateLevelChange k tj s) := by
  refine framed_liveIn .refl s _ fun d => .of_eq ?_
  dsimp only
  (repeat' split) <;> simp

theorem framed_syscalPointJudged : Framed Frame.Leads s (execSyscalPointJudged s) := by
  refine framed_liveAt .refl s _ fun d => .of_eq ?_
  dsimp only
  (repeat' split) <;> simp

theorem framed_ledgerReadParity (line : BitVec 17) (cause : ReadCause) (persistent : Bool) :
    Framed Frame.Leads s (execLedgerReadParity line cause persistent s) := by
  unfold execLedgerReadParity
  split
  · exact framed_liveIn .refl s _ fun d => .of_eq (by simp)
  · cases cause with
    | playback => exact framed_liveAt .refl s _ fun d => .of_eq (by simp)
    | lookahead | sweep | march => exact framed_liveIn .refl s _ fun d => .of_eq (by simp)
end

end Sys2Proof.Machine
end

section
namespace Sys2Proof.Machine
open Sys2Proof

/-! ## Every command -/

/-- Every command that moves neither the tick nor the trust state leads: most of them keep the whole frame, since every function
that they call does. -/
theorem exec_leads (c : Instr) (s : State) (htick : movesTick c = false) (htrust : movesTrust c = false) :
    Framed Frame.Leads s (exec c s) := by
  unfold exec
  cases c with
  | commit | syncEpoch | syncSlotSend | release => cases htick
  | ownership | retire | debugToken => cases htrust
  | powerGood => exact framed_powerGood s _ _
  | configMemoryPhase => exact framed_configMemoryPhase s _ _
  | retainedStatePhase => exact framed_retainedStatePhase s _ _
  | powerLoss => exact framed_powerLoss s
  | dirEntryWrite => exact framed_liveAt .refl s _ fun d => d.writeDesc_leads _ _
  | derateLevelChange => exact framed_derateLevelChange s _ _
  | sync0Event => exact framed_sync0Event s _ _
  | objectWrite => exact framed_objectWrite s _ _ _ _
  | retainRecordWritten => exact framed_retainRecordWritten s _ _
  | storeParams | restoreDefaults | restoreQuery => exact framed_liveAt .refl s _ fun d => d.writeObj_leads _ _ _ _
  | windowRead => exact framed_windowRead s _ _ _
  | spoolRefill => exact framed_spoolRefill s _
  | ledgerLoad => exact framed_ledgerLoad s _ _
  | programPackage => exact framed_programPackage s _
  | gustProfile => exact framed_gustProfile s _
  | imageUpdate => exact framed_imageUpdate s _ _
  | psetCmdUnload => exact framed_liveAt .refl s _ fun d => d.unloadSet_leads
  | ledgerReadParity => exact framed_ledgerReadParity s _ _ _
  | syscalPointJudged => exact framed_syscalPointJudged s
  | rebootCmd => exact framed_liveAt .refl s _ fun d => d.reboot_leads _
  | streamOpen => exact framed_streamOpen s
  | sealedIn => exact framed_sealedIn s _ _
  | debugReqD0 | debugReqD1 | debugReqD2 | debugReqD3 => exact framed_liveAt .refl s _ fun d => d.debugReq_leads _
  | tapPrivateInstruction => exact framed_tapPrivateInstruction s _
  | gustArmCmdArm | gustArmCmdDisarm | sineCmdStart | sineCmdZero | sineCmdPhaseReset =>
    refine framed_liveAt .refl s _ fun d => .of_eq ?_
    rw [Dev.settleFaults_frame]
    exact d.hostOver_frame _ _ _ fun d => by simp [apply_ite Dev.frame]
  | busStart | busInRegulation | stallAnalogReady | fusePhase | ecLinkLost | ecLinkUp | tapBypass | tapIdcode |
    tapSamplePreload | tapExtest | perstNDeassert | pcieLinkTrained | tapReset =>
    refine framed_runAt _ (.of_eq ?_)
    (repeat' split) <;> simp [apply_ite Dev.frame]
  | refclkLoss | refclkPresent | refclkRelock =>
    refine framed_runIn _ (.of_eq ?_)
    (repeat' split) <;> simp
  | pcieReset => exact framed_runIn_sealed s _ fun d => .of_eq (by simp [apply_ite Dev.frame])
  | sdoUpload | sdoCompleteAccessRead => exact framed_liveRead .refl s _ (fun d => .of_eq (by simp)) _
  | objRead | objCaRead | tickLoRead =>
    refine framed_linkRead .refl s _ (fun d => .of_eq ?_) _
    (repeat' split) <;> simp
  | busMasterDisable | windowWrite | irqStatusWrite | queueEnable | queueReset | queueTailWrite | exportTailWrite |
    exportWrite | objWrite | objCaWrite | dmaReadError | tlpUnsupported | bar0RegisterWrite =>
    refine framed_linkIn .refl s _ fun d => .of_eq ?_
    (repeat' split) <;> simp [apply_ite Dev.frame]
  | jmpEdge | waitEdge | holdRequest | clampEngage | clampRelease | hardwareTrip | railFail | aggCurrent | shareFault |
    ringDrop | rangeChangeBreak | gustTrigger | gustInjectionStart | gustInjectionEnd | sinePhaseReset |
    timerConversionStart | regTrigger | injTrigger | injSequenceStart | conversionDone | calConversion | auxWindow |
    auxInjTrigger | owSettleExpiry | wmTransition | tallyOpenEdge | tallyCloseEdge | evioEdge | evioOutput | evioPulseEnd |
    mkoOutput | syncMark | syncLost | pdFrame | sm2Watchdog | sync0Missed | esmInitToPreop | esmPreopToSafeop |
    esmSafeopToOp | esmLeaveOp | esmBootstrapRequest | esmInvalidRequest | mailboxRequest | sdoDownload |
    sdoCompleteAccessWrite | getOdList | getObjectDescription | getEntryDescription | sdoSegmentTimeout | containerVerified |
    nop | ldi | ldh | mov | ld | st | engIn | engOut | lut | luti | add | sub | addi | addw | engNeg | engAbs | engMin |
    engMax | engAnd | engOr | engXor | shl | shr | engSat | engClamp | sels | ext | ins | mul | mac | accrd | accld | puts |
    tacc | flag | engFault | corr | crd | cclr | stallLinkWord | silentTick | linkUncorr | linkSilent | stallTjLimit |
    programParity | refetchDone | scratchpadParity | scrRestoreDone | stallDiscard | stallBudget | scrubRead | marchBorrow |
    marchRelease | marchRestoreDone | safePath | mgmtWdt | busFail | esmDownwardTransition =>
    refine framed_liveIn .refl s _ fun d => .of_eq ?_
    (repeat' split) <;> simp [apply_ite Dev.frame, foldl_frame]
  | _ =>
    refine framed_liveAt .refl s _ fun d => .of_eq ?_
    (repeat' split) <;> simp [apply_ite Dev.frame, foldl_frame, Dev.eachCh_frame]

theorem exec_commit_live (s : State) (inp : TickInputs) (h : s.live) : exec (.commit inp) s =
    .next { s with dev := s.dev.commit inp s.shown, shown := s.dev.commit inp s.shown, prior := s.shown } := if_pos h

/-- A command that does not move the tick leaves the tick number of a module that stays released. -/
theorem exec_ticksOn (c : Instr) (s : State) (htick : movesTick c = false) : Framed Frame.TicksOn s (exec c s) := by
  cases c with
  | ownership fuseOk => exact framed_ownership s fuseOk
  | retire fuseOk => exact framed_retire s fuseOk
  | debugToken => exact framed_debugToken s
  | commit => cases htick
  | _ => exact fun t ht => (exec_leads _ s htick rfl t ht).tick

end Sys2Proof.Machine

namespace Sys2Proof
open Machine

/-- Settles O6: every command but those four keeps the tick number of a module that stays released (`exec_ticksOn`). -/
theorem tickMovesByCommitsAndEpochsAlone : Obligations.TickMovesByCommitsAndEpochsAlone :=
  fun c s t hmoves _ ht hlive => (exec_ticksOn c s hmoves t ht hlive).1

/-- Settles O7: what a commit makes of the frame is a tick more and what the writes of that commit may do
(`Dev.commit_leads`). -/
theorem commitBeginsTheNextTick : Obligations.CommitBeginsTheNextTick := by
  intro s inp hlive
  have hleads := s.dev.commit_leads inp s.shown
  have hexec := exec_commit_live s inp hlive
  generalize s.dev.commit inp s.shown = d at hleads hexec
  obtain ⟨htrust, harb, hwf, htick⟩ := hleads
  exact ⟨_, hexec, fun h => (htick h).1, rfl, rfl, htrust, harb, hwf⟩

end Sys2Proof
end

section
namespace Sys2Proof.Machine
open Sys2Proof

/-! R35, R36, R472, R45, R51, R52, R54, R66: laws of the SYNC unit's updates, and what a mark, a phase step and the events
of REFCLK make of the module. -/

/-! ## What an update of the SYNC unit, a counted event and a raised fault leave -/

section
variable (d : Dev) (f : SyncUnit → SyncUnit)

@[simp] theorem Dev.modSync_sync : (d.modSync f).sync = f d.sync := by unfold Dev.modSync; dsimp only; split <;> rfl
@[simp] theorem Dev.modSync_chans : (d.modSync f).chans = d.chans := by unfold Dev.modSync; dsimp only; split <;> rfl
@[simp] theorem Dev.modSync_mem : (d.modSync f).mem = d.mem := by unfold Dev.modSync; dsimp only; split <;> rfl
@[simp] theorem Dev.modSync_tick : (d.modSync f).tick = d.tick := by unfold Dev.modSync; dsimp only; split <;> rfl
@[simp] theorem Dev.modSync_cal : (d.modSync f).cal = d.cal := by unfold Dev.modSync; dsimp only; split <;> rfl
@[simp] theorem Dev.modSync_flt : (d.modSync f).flt = d.flt := by unfold Dev.modSync; dsimp only; split <;> rfl
@[simp] theorem Dev.modSync_regs : (d.modSync f).regs = d.regs := by unfold Dev.modSync; dsimp only; split <;> rfl
@[simp] theorem Dev.modSync_power : (d.modSync f).power = d.power := by unfold Dev.modSync; dsimp only; split <;> rfl
@[simp] theorem Dev.modSync_reg (k : Nat) : (d.modSync f).reg k = d.reg k := by simp [Dev.reg]
end

@[simp] theorem Dev.modSync_calm (d : Dev) (f : SyncUnit → SyncUnit) : (d.modSync f).calm = d.calm := by simp [Dev.calm]
@[simp] theorem Dev.setReg_calm (d : Dev) (k v : Nat) : (d.setReg k v).calm = d.calm := rfl
@[simp] theorem Dev.settleFaults_tick (d : Dev) : d.settleFaults.tick = d.tick := Dev.tick_of_frame d.settleFaults_frame
@[simp] theorem Dev.settleFaults_reg (d : Dev) (h : d.calm = true) (k : Nat) : d.settleFaults.reg k = d.reg k := by
  simp [Dev.reg, h]

section
variable (d : Dev) (at' : Tick) (code cls : Nat) (scope : Scope) (unit detail : Nat)

@[simp] theorem Dev.raiseAt_sync : (d.raiseAt at' code cls scope unit detail).sync = d.sync := rfl
@[simp] theorem Dev.raiseAt_chans : (d.raiseAt at' code cls scope unit detail).chans = d.chans := rfl
@[simp] theorem Dev.raiseAt_mem : (d.raiseAt at' code cls scope unit detail).mem = d.mem := rfl
@[simp] theorem Dev.raiseAt_tick : (d.raiseAt at' code cls scope unit detail).tick = d.tick := rfl
@[simp] theorem Dev.raiseAt_cal : (d.raiseAt at' code cls scope unit detail).cal = d.cal := rfl
@[simp] theorem Dev.raiseAt_reg (k : Nat) : (d.raiseAt at' code cls scope unit detail).reg k = d.reg k := rfl
theorem Dev.raiseAt_waits : (d.raiseAt at' code cls scope unit detail).flt.due =
    d.flt.due ++ [(at', ⟨code, cls, scope, unit, detail, d.tick, 0⟩)] := rfl
end

/-! ## Marks (R45) -/

theorem Dev.phaseOf_eq (d : Dev) (edge : Int) :
    edge - (d.sync.parentD + signedOf 16 (d.reg Obj.IN_TRIM)) = d.phaseOf edge := rfl

theorem Dev.readMarkIn_misshaped (d : Dev) (edge : Int) (high : Nat) (h : high < 10000 ∨ 60000 < high) :
    d.readMarkIn (some (edge, high)) = none := by
  unfold Dev.readMarkIn
  rcases h with h | h <;> simp [h]

theorem Dev.readMarkIn_unexpected (d : Dev) (edge : Int) (high : Nat) (he : d.sync.lock = .locked ∨ d.sync.lock = .hold)
    (hp : 2000 < (d.phaseOf edge).natAbs) : d.readMarkIn (some (edge, high)) = none := by
  unfold Dev.readMarkIn
  rcases he with he | he <;> simp [he, hp]

/-- A mark of 100 ns to 600 ns within ±20 ns of its instant is a bit (R45). -/
theorem Dev.readMarkIn_bit (d : Dev) (edge : Int) (high : Nat) (hl : 10000 ≤ high) (hh : high ≤ 60000)
    (hp : (d.phaseOf edge).natAbs ≤ 2000) :
    d.readMarkIn (some (edge, high)) = some (decide (30000 ≤ high), d.phaseOf edge) := by
  unfold Dev.readMarkIn
  simp [Nat.not_lt.2 hl, Nat.not_lt.2 hh, Nat.not_lt.2 hp]

/-- What every mark with its bit writes, whatever the lock does. -/
def Dev.markRead (d : Dev) (b : Bool) (phase : Int) : Dev :=
  (d.setReg Obj.PHASE_ERR (unsignedOf 32 phase)).modSync fun y =>
    { y with missRun := 0, rxBits := (y.rxBits ++ [b]).drop (y.rxBits.length - 63) }

@[simp] theorem Dev.markRead_sync (d : Dev) (b : Bool) (phase : Int) : (d.markRead b phase).sync =
    { d.sync with missRun := 0, rxBits := (d.sync.rxBits ++ [b]).drop (d.sync.rxBits.length - 63) } := by simp [Dev.markRead]
@[simp] theorem Dev.markRead_chans (d : Dev) (b : Bool) (phase : Int) : (d.markRead b phase).chans = d.chans := by
  simp [Dev.markRead]
@[simp] theorem Dev.markRead_mem (d : Dev) (b : Bool) (phase : Int) : (d.markRead b phase).mem = d.mem := by
  simp [Dev.markRead]
@[simp] theorem Dev.markRead_tick (d : Dev) (b : Bool) (phase : Int) : (d.markRead b phase).tick = d.tick := by
  simp [Dev.markRead]
@[simp] theorem Dev.markRead_cal (d : Dev) (b : Bool) (phase : Int) : (d.markRead b phase).cal = d.cal := by
  simp [Dev.markRead]
@[simp] theorem Dev.markRead_flt (d : Dev) (b : Bool) (phase : Int) : (d.markRead b phase).flt = d.flt := by
  simp [Dev.markRead]
theorem Dev.markRead_phaseErr (d : Dev) (b : Bool) (phase : Int) :
    (d.markRead b phase).reg Obj.PHASE_ERR = unsignedOf 32 phase := by simp [Dev.markRead, Dev.reg_setReg_eq]
@[simp] theorem Dev.markRead_allParked (d : Dev) (b : Bool) (phase : Int) : (d.markRead b phase).allParked = d.allParked := by
  simp only [Dev.allParked, Dev.allCh, Dev.markRead_chans]

/-- A phase within 1 ns ends an excursion and raises nothing (R52). -/
theorem Dev.lockedPhase_near (d : Dev) (phase : Int) (present : Tick) (hp : phase.natAbs ≤ 100) :
    d.lockedPhase phase present = d.modSync fun y => { y with driftRaised := false } := by
  simp [Dev.lockedPhase, Nat.not_lt.2 hp]

/-- A phase that leaves 1 ns raises SYNC_DRIFT (R52). -/
theorem Dev.lockedPhase_far (d : Dev) (phase : Int) (present : Tick) (hp : 100 < phase.natAbs) (hd : d.sync.driftRaised = false) :
    d.lockedPhase phase present =
      (d.raiseAt present 0x0103 1 .device 0xFF 0).modSync fun y => { y with driftRaised := true } := by
  simp [Dev.lockedPhase, hp, hd]

/-! What a mark makes of the lock, by the lock's state (R52, R54). -/

section
variable {d : Dev} {b : Bool} {phase : Int}

theorem Dev.markSeen_acquiring (h : d.sync.lock = .acquiring) : d.markSeen b phase = d.markRead b phase := by
  simp [Dev.markSeen, Dev.markRead, h]

theorem Dev.markSeen_locked (h : d.sync.lock = .locked) :
    d.markSeen b phase = (d.markRead b phase).lockedPhase phase (d.tick + 1) := by
  simp [Dev.markSeen, Dev.markRead, h]

theorem Dev.markSeen_hold_near (h : d.sync.lock = .hold) (hp : phase.natAbs ≤ 100) :
    d.markSeen b phase = (d.markRead b phase).modSync fun y => { y with lock := .locked, driftRaised := false } := by
  simp [Dev.markSeen, Dev.markRead, h, hp]

theorem Dev.markSeen_hold_far (h : d.sync.lock = .hold) (hp : 100 < phase.natAbs) (ha : d.allParked = false)
    (hd : d.sync.driftRaised = false) :
    d.markSeen b phase = (d.markRead b phase).raiseDrift.modSync fun y => { y with driftRaised := true } := by
  have hpark := (d.markRead_allParked b phase).trans ha
  unfold Dev.markRead at hpark
  simp [Dev.markSeen, Dev.markRead, h, Nat.not_le.2 hp, hpark, hd]
end

/-- What a missing mark leaves (R45, R54). -/
def Dev.markMissed (d : Dev) : Dev :=
  (d.inc 32 Obj.MISSING_MARKS).modSync fun y =>
    { y with missRun := y.missRun + 1, rxBits := (y.rxBits ++ [false]).drop (y.rxBits.length - 63) }

theorem Dev.markMissed_leaves (d : Dev) : d.markMissed.sync =
      { d.sync with missRun := d.sync.missRun + 1, rxBits := (d.sync.rxBits ++ [false]).drop (d.sync.rxBits.length - 63) } ∧
    d.markMissed.reg Obj.MISSING_MARKS = bump 32 (d.reg Obj.MISSING_MARKS) ∧ d.markMissed.flt = d.flt ∧
    d.markMissed.chans = d.chans ∧ d.markMissed.mem = d.mem ∧ d.markMissed.tick = d.tick ∧ d.markMissed.cal = d.cal := by
  simp [Dev.markMissed, Dev.inc, Dev.reg_setReg_eq]

theorem gives_syncMark_read {s : State} {m : Option (Int × Nat)} {b : Bool} {phase : Int} {P : State → Prop}
    (h : s.inside) (hn : s.dev.isNode = true) (hm : s.dev.readMarkIn m = some (b, phase))
    (hp : P (s.inTick (s.dev.markSeen b phase))) : Gives (.syncMark m) s P :=
  gives_in h (show execSyncMark m s = _ from rfl) (by simpa [hn, hm] using hp)

theorem gives_syncMark_missed {s : State} {m : Option (Int × Nat)} {P : State → Prop}
    (h : s.inside) (hn : s.dev.isNode = true) (hm : s.dev.readMarkIn m = none)
    (hp : P (s.inTick s.dev.markMissed)) : Gives (.syncMark m) s P :=
  gives_in h (show execSyncMark m s = _ from rfl) (by simpa [hn, hm, Dev.markMissed] using hp)

end Sys2Proof.Machine

namespace Sys2Proof
open Machine

/-- Settles O49: each clause by what its event makes of the lock (`markSeen_*`, `lockedPhase_*`) and of the SYNC unit. -/
theorem referenceClockAndPhaseLock : Obligations.ReferenceClockAndPhaseLock := by
  intro s dev edge high cyc
  dsimp only
  rw [s.dev.phaseOf_eq edge]
  have hleaves := s.dev.markMissed_leaves
  refine ⟨?loss, ?present, ?relock, ?noRelock, ?marks, ?noNode, ?lost, ?notLost, ?acquired, ?notAcquired, ?step, ?noStep,
    ?latch, ?noLatch⟩
  case loss =>
    intro hclk hon
    refine gives_runIn (show execRefclkLoss dev cyc s = _ from rfl) ?_
    have hheld : (s.dev.sync.refclk != .locked && s.dev.sync.refclk != .present) = false := by rcases hclk with h | h <;> simp [h]
    cases hrel : s.dev.power.released with
    | false => simp [hheld, hon, hrel, State.live, Dev.reg_setReg_eq]
    | true => simp [hheld, hon, Dev.inc, Dev.reg_setReg_eq, Dev.raiseAt_waits, Dev.presentAt]
  case present =>
    intro hclk hon
    refine gives_runIn (show execRefclkPresent dev s = _ from rfl) ?_
    rcases hclk with h | h <;> simp [h, hon, Dev.reg_setReg_eq]
  case relock =>
    intro hclk hpark
    refine gives_runIn (show execRefclkRelock s = _ from rfl) ?_
    simp [hclk, hpark]
  case noRelock =>
    intro h
    refine gives_runIn (show execRefclkRelock s = _ from rfl) (if_pos ?_)
    rcases h with h | h <;> simp [h]
  case marks =>
    intro hin hn
    refine ⟨gives_syncMark_missed hin hn rfl hleaves,
      fun hh => gives_syncMark_missed hin hn (s.dev.readMarkIn_misshaped edge high hh) hleaves,
      fun he hp => gives_syncMark_missed hin hn (s.dev.readMarkIn_unexpected edge high he hp) hleaves, fun hl hh hp => ?_⟩
    have hbit := s.dev.readMarkIn_bit edge high hl hh hp
    refine ⟨?steady, ?drifts, ?regained, ?astray⟩
    case steady =>
      intro hlock
      refine gives_syncMark_read hin hn hbit ?_
      rcases hlock with hlock | ⟨hlock, hnear, hdrift⟩
      · simp [Dev.markSeen_acquiring hlock, Dev.markRead_phaseErr]
      · rw [Dev.markSeen_locked hlock, Dev.lockedPhase_near _ _ _ hnear]
        simp [Dev.markRead_phaseErr, hdrift]
    case drifts =>
      intro hlock hfar hdrift
      refine gives_syncMark_read hin hn hbit ?_
      rw [Dev.markSeen_locked hlock, Dev.lockedPhase_far _ _ _ hfar (by simp [hdrift])]
      simp [Dev.raiseAt_waits]
    case regained =>
      intro hlock hnear
      refine gives_syncMark_read hin hn hbit ?_
      rw [Dev.markSeen_hold_near hlock hnear]
      simp
    case astray =>
      intro hlock hfar hpark hdrift
      refine gives_syncMark_read hin hn hbit ?_
      rw [Dev.markSeen_hold_far hlock hfar hpark hdrift]
      simp [Dev.raiseDrift, Dev.raiseAt_waits]
  case noNode =>
    intro hin hn
    exact gives_in hin (show execSyncMark _ s = _ from rfl) (if_pos (by simp [hn]))
  case lost =>
    intro hin hrun hlock
    refine gives_in hin (show execSyncLost s = _ from rfl) ?_
    rcases hlock with hlock | hlock <;> simp [Nat.not_lt.2 hrun, hlock, Dev.raiseAt_waits]
  case notLost =>
    intro hin hrun
    exact gives_in hin (show execSyncLost s = _ from rfl) (if_pos (by simp [hrun]))
  case acquired =>
    intro hlive hlock hpark hp
    refine gives_at hlive rfl ?_
    simp [hlock, hpark, hp, Dev.reg_setReg_eq]
  case notAcquired =>
    intro hlive hlock hp
    refine gives_at hlive rfl (if_neg ?_)
    simp [Nat.not_le.2 hp]
  case step =>
    intro hlive hlock hfree hp hcalm
    refine gives_at hlive rfl ?_
    simp [hlock, hfree, Dev.lockedPhase_near _ _ _ hp, hcalm, Dev.reg_setReg_eq]
  case noStep =>
    intro hlive h
    refine gives_at hlive rfl (if_pos ?_)
    rcases h with h | h <;> simp [h]
  case latch =>
    intro hlive htick
    refine gives_at hlive rfl ?_
    simp [htick, Dev.reg_setReg_eq]
  case noLatch =>
    intro hlive htick
    exact gives_at hlive rfl (if_pos htick)

end Sys2Proof
end

section
namespace Sys2Proof.Machine
open Sys2Proof

/-! R44, R48, R49: an EPOCH that a parked NODE takes moves the instants of the memories with the counter. -/

theorem foldl_kept {α β : Type} (p : Dev → β) (f : Dev → α → Dev) (h : ∀ d x, p (f d x) = p d) (l : List α) (d : Dev) :
    p (l.foldl f d) = p d := by
  induction l generalizing d with
  | nil => rfl
  | cons x l ih => exact (ih _).trans (h d x)

theorem Dev.eachSt_mem (d : Dev) (f : StallId → Stall → Stall) : (d.eachSt fun d s => d.modSt s (f s)).mem = d.mem :=
  foldl_kept Dev.mem _ (fun d s => d.modSt_mem s (f s)) _ d

theorem Dev.eachSt_flt (d : Dev) (f : StallId → Stall → Stall) : (d.eachSt fun d s => d.modSt s (f s)).flt = d.flt :=
  foldl_kept Dev.flt _ (fun d s => d.modSt_flt s (f s)) _ d

theorem Dev.mapCh_mem (d : Dev) (f : ChanId → Channel → Channel) : (d.mapCh f).mem = d.mem := by unfold Dev.mapCh; rfl
theorem Dev.mapCh_flt (d : Dev) (f : ChanId → Channel → Channel) : (d.mapCh f).flt = d.flt := by unfold Dev.mapCh; rfl

theorem Dev.shiftShared_mem (d : Dev) (k : Tick) : (d.shiftShared k).mem = { d.mem with
    borrows := d.mem.borrows.map fun b => { b with since := b.since + k }
    released := d.mem.released.map fun r => (r.1, r.2 + k)
    marched := d.mem.marched.map fun r => (r.1, r.2 + k) } := rfl

theorem Dev.shiftShared_flt (d : Dev) (k : Tick) : (d.shiftShared k).flt = { d.flt with
    due := d.flt.due.map fun x => (x.1 + k, x.2)
    active := d.flt.active.map fun x => (x.1, x.2 + k) } := rfl

/-- The memories move their instants by what the counter moves (R49). -/
theorem Dev.setEpoch_marched (d : Dev) (now : Tick) :
    (d.setEpoch now).mem.marched = d.mem.marched.map fun r => (r.1, r.2 + (now - d.tick)) := by
  simp only [Dev.setEpoch, Dev.mapCh_mem, Dev.eachSt_mem, Dev.shiftShared_mem, Dev.modSync_mem, Dev.setReg_mem]

/-- Of the faults that wait, the instants alone move (R49). -/
theorem Dev.setEpoch_flt (d : Dev) (now : Tick) : (d.setEpoch now).flt = { d.flt with
    due := d.flt.due.map fun x => (x.1 + (now - d.tick), x.2)
    active := d.flt.active.map fun x => (x.1, x.2 + (now - d.tick)) } := by
  simp only [Dev.setEpoch, Dev.mapCh_flt, Dev.eachSt_flt, Dev.shiftShared_flt, Dev.modSync_flt, Dev.setReg_flt]

/-- No fault waits, due or not. -/
def Dev.unfaulted (d : Dev) : Prop := d.flt.due = [] ∧ d.flt.queue = [] ∧ d.flt.escal = none

theorem Dev.unfaulted.setEpoch_calm {d : Dev} (h : d.unfaulted) (now : Tick) : (d.setEpoch now).calm = true := by
  obtain ⟨hdue, hqueue, hescal⟩ := h
  simp [Dev.calm_iff, d.setEpoch_flt, hdue, hqueue, hescal]

/-- A word of the slot passed on and noted as acted on (R48). -/
def Dev.noteWord (d : Dev) (cmd x : Nat) : Dev := (d.forwardWord cmd x).modSync fun y => { y with lastCmd := some (cmd, x) }

section
variable (d : Dev) (cmd x : Nat)

@[simp] theorem Dev.noteWord_mem : (d.noteWord cmd x).mem = d.mem := by simp [Dev.noteWord, Dev.forwardWord]
@[simp] theorem Dev.noteWord_flt : (d.noteWord cmd x).flt = d.flt := by simp [Dev.noteWord, Dev.forwardWord]
@[simp] theorem Dev.noteWord_tick : (d.noteWord cmd x).tick = d.tick := by simp [Dev.noteWord, Dev.forwardWord]
@[simp] theorem Dev.noteWord_allParked : (d.noteWord cmd x).allParked = d.allParked := by
  simp only [Dev.allParked, Dev.allCh, Dev.noteWord, Dev.forwardWord, Dev.modSync_chans]
@[simp] theorem Dev.noteWord_levelTicks : (d.noteWord cmd x).levelTicks = d.levelTicks := by
  simp [Dev.levelTicks, Dev.syncLevel, Dev.isRoot, Dev.noteWord, Dev.forwardWord]

theorem Dev.onWord_fresh (f : Dev → Dev) (h : d.sync.lastCmd ≠ some (cmd, x)) : d.onWord cmd x f = f (d.noteWord cmd x) := by
  unfold Dev.onWord
  exact if_neg (by simpa using h)
end

section
variable {s : State} (second : Bool) {x : Nat} (hlive : s.live) (hheard : s.dev.heard 2 = some x)
  (hfresh : s.dev.sync.lastCmd ≠ some (2, x)) (hpark : s.dev.allParked = true)
include hlive hheard hfresh hpark

/-- What a parked NODE makes of an EPOCH it has not acted on (R48, R49). -/
theorem exec_syncEpoch_taken : exec (.syncEpoch second) s = .next (s.atCommit ((s.dev.noteWord 2 x).setEpoch
    (BitVec.ofNat 48 x + (if second then 64 else 0) + s.dev.levelTicks)).settleFaults) := by
  refine (show exec (.syncEpoch second) s = _ from liveAt_next s _ hlive).trans ?_
  rw [hheard]
  dsimp only
  rw [Dev.onWord_fresh _ _ _ _ hfresh, Dev.noteWord_levelTicks, Dev.takeEpoch, if_pos (by simpa using hpark)]

/-- The instants of the memories after it: later by what the counter moved (R49). -/
theorem marched_of_syncEpoch {t : State} (hfaults : s.dev.unfaulted) (h : exec (.syncEpoch second) s = .next t) :
    t.dev.mem.marched = s.dev.mem.marched.map fun r =>
      (r.1, r.2 + (BitVec.ofNat 48 x + (if second then 64 else 0) + s.dev.levelTicks - s.dev.tick)) := by
  rw [exec_syncEpoch_taken second hlive hheard hfresh hpark] at h
  obtain rfl := Host.Outcome.next.inj h
  have hnoted : (s.dev.noteWord 2 x).unfaulted := by simpa [Dev.unfaulted] using hfaults
  simp [Dev.settleFaults_mem _ (hnoted.setEpoch_calm _), Dev.setEpoch_marched]
end

/-- A NODE hears the word that its slot spells (R46). -/
theorem Dev.heard_of_read (d : Dev) {cmd x : Nat} (hn : d.isNode = true) (h : readSyncWord d.sync.rxBits = some (cmd, x)) :
    d.heard cmd = some x := by
  simp [Dev.heard, hn, h]

theorem readSyncWord_epochOne : readSyncWord (syncWord 2 1) = some (2, 1) := by
  simp [syncWord, readSyncWord, crc6, bitsVal, natBit, List.range_succ, b2n]

/-- A NODE at tick 0 with every channel PARKED, whose slot spells EPOCH of tick 1; a bank has been marched at tick 0. -/
def epochHeard : State :=
  let d := { Dev.reset.setReg Obj.SYNC_ROLE 2 with
    power := { Power.reset with released := true, state := .parked }
    sync := { SyncUnit.reset with rxBits := syncWord 2 1 }
    mem := { Memories.reset with marched := [(0, 0)] } }
  { dev := d, shown := d, prior := d, pending := [] }

end Sys2Proof.Machine

namespace Sys2Proof
open Machine

/-- Refutes O50: the clause of a fresh EPOCH leaves the memories as they were, but a parked NODE that takes it moves the
instants of the memories with the counter (`Dev.setEpoch_marched`): at `epochHeard` the march of tick 0 reads tick 1. -/
theorem not_syncWordsActAndAreForwarded : ¬ Obligations.SyncWordsActAndAreForwarded := by
  intro h
  obtain ⟨hnode, -⟩ := h epochHeard 1 false 0 0 rfl (by decide)
  obtain ⟨-, -, -, hepoch, -⟩ := hnode (by decide)
  obtain ⟨t, ht, ⟨-, -, hmem⟩, -⟩ := hepoch rfl (by decide)
  have hheard : epochHeard.dev.heard 2 = some 1 := Dev.heard_of_read _ (by decide) readSyncWord_epochOne
  have hmoved := marched_of_syncEpoch (s := epochHeard) false rfl hheard (by decide) (by decide) ⟨rfl, rfl, rfl⟩ ht
  rw [hmem] at hmoved
  exact absurd hmoved (by decide)

end Sys2Proof
end

section
namespace Sys2Proof.Machine
open Sys2Proof

/-! R62, R238: the first step of a start is the word of a line that the barker holds, before the ledger's. -/

/-- A TALLY_ONLY step with a dwell. -/
def tallyStep (dwell : Nat) : Word64 := stepWord 4 0 0 ⟨0, 0, 0, 0, BitVec.ofNat _ dwell⟩

/-- Channel 0 ARMED and waiting for the start of tick 0 at segment 0, whose first step has dwell 1; its barker holds a line
of the segment that was read when that step had dwell 2. -/
def staleLine : State :=
  let d := { (Dev.reset.setReg Obj.ARM_MASK 1).modCh 0 fun c => (c.setReg Obj.START_MODE 1).setReg Obj.START_SEG 0 with
    power := { Power.reset with released := true, state := .parked }
    sync := { SyncUnit.reset with epoch := .domain, start := .pending, startTick := 0 }
    mem := { Memories.reset with dir := [(0, BitVec.ofNat 64 (2 ^ 63 + 2 ^ 26 + 8))], ledger := [(8, tallyStep 1)] } }
  let d := d.modCh 0 fun c => { c with
    force := { c.force with st := .armed }
    bk := { c.bk with seq := .noStep, lines := [(8, tallyStep 2)] } }
  { dev := d, shown := d, prior := d, pending := [] }

/-- The start selects the word of the held line (`Dev.readStep`), not that of the ledger. -/
theorem staleLine_started : (staleLine.dev.syncStart.ch 0).bk.word = tallyStep 2 := by decide

theorem staleLine_ledger :
    staleLine.dev.step64 (dsStart (staleLine.dev.desc (staleLine.dev.creg 0 Obj.START_SEG))) = tallyStep 1 := by decide

end Sys2Proof.Machine

namespace Sys2Proof
open Machine

/-- Refutes O51: the clause of the start says that the channel selects the first step of START_SEG as the ledger has it now,
but the barker reads a line that it holds first (R238), and no hypothesis says that it holds none: at `staleLine` it plays
the word of the line. -/
theorem not_syncRequestsStartsAndLoops : ¬ Obligations.SyncRequestsStartsAndLoops := by
  intro h
  obtain ⟨-, -, -, -, -, -, -, -, -, -, -, -, -, -, -, hstart, -⟩ := h staleLine 0 0 0 0 0 0 0 0 rfl (by decide)
  obtain ⟨t, ht, -, -, hword, -⟩ := hstart rfl rfl rfl (by decide) (by decide) (by decide) (by decide)
    (by unfold Dev.marksStay; decide) (by decide) (by decide) (by decide) (by decide) rfl
  obtain rfl := Host.Outcome.next.inj ((liveAt_next staleLine Dev.syncStart rfl).symm.trans ht)
  rw [staleLine_ledger] at hword
  exact absurd (hword.symm.trans staleLine_started) (by decide)

end Sys2Proof
end

section
namespace Sys2Proof.Machine
open Sys2Proof

/-! R29, R83, R86, R103, R107, R112: what the events of clamps, trips, rails and temperatures make of the module. -/

theorem Dev.ch_of_cores {d t : Dev} (h : t.cores = d.cores) (n : ChanId) :
    (t.ch n).force = (d.ch n).force ∧ (t.ch n).rc = (d.ch n).rc :=
  have hn := Dev.still_of_cores h n
  ⟨(congrArg Channel.force hn : _), (congrArg Channel.rc hn : _)⟩

/-- An event of the fabric leaves the force path and the range-change window of every channel. -/
theorem Dev.fire_ch (d : Dev) (code : Nat) (inherited : List Nat) (high : Bool) (width cyc : Nat) (n : ChanId) :
    ((d.fire code inherited high width cyc).ch n).force = (d.ch n).force ∧
      ((d.fire code inherited high width cyc).ch n).rc = (d.ch n).rc :=
  Dev.ch_of_cores (d.fire_cores code inherited high width cyc) n

/-- A channel fault of this tick waits for the commit of R490. -/
theorem Dev.raiseChCyc_due (d : Dev) (code cls : Nat) (n : ChanId) (cyc detail : Nat) :
    (d.raiseChCyc code cls n cyc detail).flt.due =
      d.flt.due ++ [(d.presentAt cyc, ⟨code, cls, .channel, n.val, detail, d.tick, 0⟩)] := rfl

section
variable (d : Dev) (present : Tick) (code cls : Nat) (scope : Scope) (unit detail cause : Nat)

/-- A fault that waits leaves the channels and the stalls. -/
@[simp] theorem Dev.raiseAt_ch (n : ChanId) : (d.raiseAt present code cls scope unit detail cause).ch n = d.ch n := rfl
@[simp] theorem Dev.raiseAt_st (k : StallId) : (d.raiseAt present code cls scope unit detail cause).st k = d.st k := rfl
@[simp] theorem Dev.raiseChCyc_ch (m n : ChanId) (cyc : Nat) : (d.raiseChCyc code cls m cyc detail).ch n = d.ch n := rfl
@[simp] theorem Dev.raiseChCyc_st (m : ChanId) (cyc : Nat) (k : StallId) :
    (d.raiseChCyc code cls m cyc detail).st k = d.st k := rfl
end

/-- R29: above 32 A, or above 24 A for longer than 10 ms. -/
theorem Dev.judgeAgg_above (d : Dev) (amount : Nat) (present : Tick)
    (h : 32000 < amount ∨ (24000 < amount ∧ 10000 < d.power.aggOver)) (hr : d.power.aggRaised = false) :
    d.judgeAgg amount present =
      { d with power := { d.power with aggRaised := true } }.raiseAt present 0x020A 4 .device 0xFF amount := by
  unfold Dev.judgeAgg
  simp [h, hr]

theorem Dev.judgeAgg_below (d : Dev) (amount : Nat) (present : Tick)
    (h : ¬ (32000 < amount ∨ (24000 < amount ∧ 10000 < d.power.aggOver)) ∨ d.power.aggRaised = true) :
    d.judgeAgg amount present = d := by
  unfold Dev.judgeAgg
  refine if_neg fun hc => ?_
  simp only [Bool.and_eq_true, Bool.or_eq_true, decide_eq_true_eq, Bool.not_eq_true'] at hc
  obtain ⟨habove, hnot⟩ := hc
  rcases h with h | h
  · exact h habove
  · exact Bool.false_ne_true (hnot.symm.trans h)

/-- From 130 °C on the level is 3, whatever it was (Table 3-7). -/
theorem derateLevel_hot (now : Nat) (tj : Int) (h : 1300 ≤ tj) : derateLevel now tj = 3 := by
  unfold derateLevel
  have hkeep : (1250 : Int) < tj := by omega
  simp only [if_pos h, if_pos hkeep]
  split
  · rfl
  · omega

end Sys2Proof.Machine

namespace Sys2Proof
open Machine

/-- Settles O14: each event by what it writes (`judgeAgg_above`, `derateLevel_hot`, `raiseChCyc_due`); the fabric events of a
clamp edge leave the force path (`Dev.fire_ch`). -/
theorem clampsTripsAndRails : Obligations.ClampsTripsAndRails := by
  intro s n st rail high span cyc amount tj hin
  dsimp only
  refine ⟨?engage, ?release, ?trip, ?rail, ?above, ?below, ?share, ?derate⟩
  case engage =>
    intro hlive hoff
    refine gives_in hin (show execClampEngage n high cyc s = _ from rfl) ?_
    simp [hlive, hoff, Dev.fire_ch, Channel.modForce]
  case release =>
    intro hlive hon
    refine gives_in hin (show execClampRelease n high cyc s = _ from rfl) ?_
    simp [hlive, hon, Dev.fire_ch, Channel.modForce]
  case trip =>
    refine gives_in hin (show execHardwareTrip n span cyc s = _ from rfl) ⟨?_, ?_, fun m hm => ?_, rfl⟩
    · simp [Channel.modForce, Force.openNow]
    · simp [Channel.modForce, Force.openNow]
    · simp [hm]
  case rail =>
    refine gives_in hin (show execRailFail st rail cyc s = _ from rfl) ⟨?_, rfl, rfl⟩
    simp [Dev.sreg, Dev.setSreg, Stall.reg_setReg_eq]
  case above =>
    intro habove hraised
    refine gives_in hin (show execAggCurrent amount cyc s = _ from rfl) ?_
    rw [s.dev.judgeAgg_above amount _ habove hraised]
    exact ⟨rfl, rfl, rfl⟩
  case below =>
    intro hnot
    exact gives_in hin (show execAggCurrent amount cyc s = _ from rfl)
      (congrArg s.inTick (s.dev.judgeAgg_below amount _ hnot))
  case share =>
    intro hrole
    refine gives_in hin (show execShareFault n cyc s = _ from rfl) ?_
    rw [if_neg hrole]
    exact ⟨rfl, rfl⟩
  case derate =>
    intro hhot hlevel
    refine gives_in hin (show execDerateLevelChange st tj s = _ from rfl) ?_
    simp [derateLevel_hot _ tj hhot, Ne.symm hlevel, Dev.raiseAt_waits]

end Sys2Proof
end

section
namespace Sys2Proof.Machine
open Sys2Proof

/-! R40: a commit that acts on the channels one after the other gives each its turn. -/

theorem notMem_of_finRange_eq {k : Nat} {n : Fin k} {l r : List (Fin k)} (h : List.finRange k = l ++ n :: r) :
    n ∉ l ∧ n ∉ r := by
  have hnd := List.nodup_finRange k
  rw [h, List.nodup_middle, List.nodup_cons, List.mem_append, not_or] at hnd
  exact hnd.1

/-- What holds of a channel before its turn, what its turn makes of it, and what the turns of the others then leave. -/
theorem Dev.eachCh_turn {P Q : Dev → Prop} {f : Dev → ChanId → Dev} {d : Dev} (n : ChanId) (h : P d)
    (hbefore : ∀ d m, m ≠ n → P d → P (f d m)) (hturn : ∀ d, P d → Q (f d n)) (hafter : ∀ d m, m ≠ n → Q d → Q (f d m)) :
    Q (d.eachCh f) := by
  obtain ⟨l, r, hlr⟩ := List.append_of_mem (List.mem_finRange n)
  obtain ⟨hl, hr⟩ := notMem_of_finRange_eq hlr
  unfold Dev.eachCh
  rw [hlr, List.foldl_append, List.foldl_cons]
  have hP : P (l.foldl f d) :=
    List.foldlRecOn l f h fun d hd m hm => hbefore d m (fun e => hl (e ▸ hm)) hd
  exact List.foldlRecOn r f (hturn _ hP) fun d hd m hm => hafter d m (fun e => hr (e ▸ hm)) hd

/-- What every turn keeps, the commit keeps. -/
theorem Dev.eachCh_keeps {P : Dev → Prop} {f : Dev → ChanId → Dev} {d : Dev} (h : P d) (hf : ∀ d m, P d → P (f d m)) :
    P (d.eachCh f) := List.foldlRecOn _ f h fun d hd m _ => hf d m hd

end Sys2Proof.Machine
end

section
namespace Sys2Proof.Machine
open Sys2Proof

/-! R89, R90, R91: what an arm request and the arm commit make of the module. -/

@[simp] theorem Dev.accept_ch (d : Dev) (n : ChanId) : d.accept.ch n = d.ch n := by simp [Dev.ch]

section
variable (d : Dev) (n m : ChanId) (h : m ≠ n)
include h

theorem Dev.modCh_other (f : Channel → Channel) : (d.modCh n f).ch m = d.ch m := by rw [Dev.ch_modCh, if_neg h]

theorem Dev.clearEngines_other : (d.clearEngines n).ch m = d.ch m := Dev.modCh_other _ n m h _

theorem Dev.armBarker_other : (d.armBarker n).ch m = d.ch m := d.modCh_other n m h _

/-- The arm commit on a channel leaves the others. -/
theorem Dev.armOne_other (req : Word64) : (d.armOne req n).ch m = d.ch m := by
  unfold Dev.armOne
  rw [Dev.armBarker_other _ n m h, Dev.clearEngines_other _ n m h, Dev.modCh_other _ n m h]
end

theorem Dev.armOne_regs (d : Dev) (req : Word64) (n : ChanId) : (d.armOne req n).regs = d.regs := rfl

/-- A force path that a request armed at a tick, with its disconnect as before (R91). -/
def Force.ArmedBy (f : Force) (req : Word64) (now : Tick) (disc : Bool) : Prop :=
  f.st = .arming ∧ f.armTick = now ∧ f.armMask = req ∧ f.setpt = zeroCode ∧ f.rpair = 0 ∧ f.disc = disc

/-- The arm commit on a channel: ARMING at code 0x8_0000 on range pair 0, the disconnect as it was (R91). -/
theorem Dev.armOne_force (d : Dev) (req : Word64) (n : ChanId) :
    ((d.armOne req n).ch n).force.ArmedBy req d.tick (d.ch n).force.disc := by
  unfold Dev.armOne
  dsimp only
  rw [Dev.force_of_forces ((Dev.armBarker_forces _ n).trans (Dev.clearEngines_forces _ n)) n, Dev.ch_modCh, if_pos rfl]
  simp [Channel.modForce, Channel.wmRecodeAll, foldl_force, Force.ArmedBy]

/-- The turn of a channel in the arm commit of a request: it arms where the request names it (R90). -/
def Dev.armTurn (req : Word64) (d : Dev) (n : ChanId) : Dev := if bit req n.val then d.armOne req n else d

/-- The arm commit of a request (R90). -/
def Dev.armNamed (d : Dev) (req : Word64) : Dev := d.eachCh (Dev.armTurn req)

/-- What an arm request writes into the registers of the module (R89, R90). -/
structure Dev.ArmAnswered (d t : Dev) (result : Nat) : Prop where
  chans  : t.chans = d.chans
  mem    : t.mem = d.mem
  tick   : t.tick = d.tick
  result : t.reg Obj.ARM_RESULT = result
  at'    : t.reg Obj.ARM_RESULT_TICK = d.tick.toNat

section
variable (d : Dev) (mask : Word64) {req : Word64} (hreq : mask &&& ~~~(maskOf fun n => (d.ch n).isArmed) = req) (hne : req ≠ 0)
include hreq hne

/-- A request whose checks pass arms every channel that it names and that is not ARMED (R90). -/
theorem Dev.armMask_accepted (h : d.armResult req = 0) :
    ∃ u, d.armMask mask = u.armNamed req ∧ d.ArmAnswered u 0 := by
  unfold Dev.armMask
  simp only [hreq, if_neg hne, h, ne_eq, not_true_eq_false, if_false]
  refine ⟨_, rfl, rfl, rfl, rfl, ?_, ?_⟩ <;> simp [Dev.reg_setReg_eq]

/-- A request that is refused writes its result and no channel (R89). -/
theorem Dev.armMask_refused (h : d.armResult req ≠ 0) : d.ArmAnswered (d.armMask mask) (d.armResult req) := by
  unfold Dev.armMask
  simp only [hreq, if_neg hne, if_pos h]
  exact ⟨rfl, rfl, rfl, by simp [Dev.reg_setReg_eq], by simp [Dev.reg_setReg_eq]⟩
end

section
variable (d : Dev) (req : Word64) (n m : ChanId)

theorem Dev.armTurn_regs : (Dev.armTurn req d n).regs = d.regs := by
  unfold Dev.armTurn
  split
  · exact d.armOne_regs req n
  · rfl

theorem Dev.armTurn_tick : (Dev.armTurn req d n).tick = d.tick := by
  unfold Dev.armTurn
  split
  · exact Dev.tick_of_frame (d.armOne_frame req n)
  · rfl

theorem Dev.armTurn_other (h : m ≠ n) : (Dev.armTurn req d n).ch m = d.ch m := by
  unfold Dev.armTurn
  split
  · exact d.armOne_other n m h req
  · rfl

/-- The arm commit leaves the registers of the module. -/
theorem Dev.armNamed_regs : (d.armNamed req).regs = d.regs :=
  Dev.eachCh_keeps (P := fun t => t.regs = d.regs) rfl fun t m h => (t.armTurn_regs req m).trans h

/-- A channel that the request does not name stays. -/
theorem Dev.armNamed_out (h : bit req n.val = false) : (d.armNamed req).ch n = d.ch n := by
  refine Dev.eachCh_keeps (P := fun t => t.ch n = d.ch n) rfl fun t m ht => ?_
  by_cases hm : n = m
  · subst hm
    rw [Dev.armTurn, h]
    exact ht
  · exact (t.armTurn_other req m n hm).trans ht

/-- A channel that the request names is armed in its turn. -/
theorem Dev.armNamed_in (h : bit req n.val = true) :
    ((d.armNamed req).ch n).force.ArmedBy req d.tick (d.ch n).force.disc := by
  refine Dev.eachCh_turn (P := fun t => t.tick = d.tick ∧ t.ch n = d.ch n)
    (Q := fun t => (t.ch n).force.ArmedBy req d.tick (d.ch n).force.disc) n ⟨rfl, rfl⟩ ?before ?turn ?after
  case before =>
    rintro t m hm ⟨htick, hch⟩
    exact ⟨(t.armTurn_tick req m).trans htick, (t.armTurn_other req m n (Ne.symm hm)).trans hch⟩
  case turn =>
    rintro t ⟨htick, hch⟩
    rw [Dev.armTurn, if_pos h, ← htick, ← hch]
    exact t.armOne_force req n
  case after =>
    rintro t m hm hf
    rw [t.armTurn_other req m n (Ne.symm hm)]
    exact hf
end

end Sys2Proof.Machine

namespace Sys2Proof
open Machine

/-- Settles O11: an accepted request arms the channels that it names, each in its turn (`Dev.armNamed_in`), and no other
(`Dev.armNamed_out`). -/
theorem armRequestDecides : Obligations.ArmRequestDecides := by
  intro s mask hlive req
  have hreq : mask &&& ~~~(maskOf fun n => (s.dev.accept.ch n).isArmed) = req := by simp only [Dev.accept_ch]; rfl
  refine ⟨fun hne hok => gives_at hlive (show execArmReq mask s = _ from rfl) ?_,
    fun hne hbad => gives_at hlive (show execArmReq mask s = _ from rfl) ?_⟩
  · obtain ⟨u, heq, hchans, -, htick, hresult, hat⟩ := s.dev.accept.armMask_accepted mask hreq hne hok
    have hch : ∀ n, u.ch n = s.dev.ch n := fun n => by simp [Dev.ch, hchans]
    rw [heq]
    refine ⟨fun n hn => ?_, fun n hn => (u.armNamed_out req n hn).trans (hch n), ?_, ?_, rfl⟩
    · have hin := u.armNamed_in req n hn
      rw [htick, hch, Dev.accept_tick] at hin
      exact hin
    · exact (congrArg (sget _ · _) (u.armNamed_regs req)).trans hresult
    · exact (congrArg (sget _ · _) (u.armNamed_regs req)).trans (hat.trans (by rw [Dev.accept_tick]))
  · obtain ⟨hchans, hmem, -, hresult, hat⟩ := s.dev.accept.armMask_refused mask hreq hne hbad
    exact ⟨hresult, hat.trans (by rw [Dev.accept_tick]), hchans.trans s.dev.accept_chans, hmem.trans s.dev.accept_mem, rfl⟩

end Sys2Proof
end

section
namespace Sys2Proof.Machine
open Sys2Proof

/-! R87, R93, R493: what the final stage of a park makes of the module. -/

/-- From one module to another nothing changes but channels and stalls. -/
def Dev.Local (d t : Dev) : Prop := t = { d with chans := t.chans, stalls := t.stalls }

section
variable {d t u : Dev}

theorem Dev.Local.refl (d : Dev) : Dev.Local d d := rfl

theorem Dev.Local.trans (h : Dev.Local d t) (h' : Dev.Local t u) : Dev.Local d u := by
  unfold Dev.Local at h h' ⊢
  rw [h']
  rw [h]

theorem Dev.Local.ite {p : Prop} [Decidable p] (ht : Dev.Local d t) (hu : Dev.Local d u) : Dev.Local d (if p then t else u) := by
  split
  · exact ht
  · exact hu

theorem Dev.Local.foldl {α : Type} {f : Dev → α → Dev} (h : ∀ d x, Dev.Local d (f d x)) (l : List α) (d : Dev) :
    Dev.Local d (l.foldl f d) :=
  List.foldlRecOn l f (.refl d) fun _ hd x _ => hd.trans (h _ x)

theorem Dev.Local.modCh (d : Dev) (n : ChanId) (f : Channel → Channel) : Dev.Local d (d.modCh n f) := rfl
theorem Dev.Local.modSt (d : Dev) (k : StallId) (f : Stall → Stall) : Dev.Local d (d.modSt k f) := rfl

theorem Dev.Local.tick (h : Dev.Local d t) : t.tick = d.tick := (congrArg Dev.tick h : _)
theorem Dev.Local.regs (h : Dev.Local d t) : t.regs = d.regs := (congrArg Dev.regs h : _)
theorem Dev.reg_of_regs (h : t.regs = d.regs) (k : Nat) : t.reg k = d.reg k := by unfold Dev.reg; rw [h]
theorem Dev.Local.flt (h : Dev.Local d t) : t.flt = d.flt := (congrArg Dev.flt h : _)
end

section
variable (d : Dev) (n : ChanId)

/-- The monitors of a channel are off, and its range-change window ends (R93, R214). -/
def Dev.monitorsOff : Dev :=
  ((List.finRange 4).foldl (fun d m => (d.wmUnqueue n m).modCh n (·.wmOff m)) d).modCh n (·.wmRecodeAll)

/-- The window of a channel ends if one is open (R152). -/
def Dev.windowOver : Dev := if (d.ch n).rc.active then d.endWindow n else d

/-- What the final stage of a park leaves of a channel (R87, R93). -/
def Channel.AtRest (c : Channel) : Prop :=
  c.force.st = .parked ∧ c.force.disc = false ∧ c.force.setpt = zeroCode ∧ c.force.rpair = 0 ∧ c.force.phase = .idle ∧
    c.comp.now = 0

/-- The stages of a park's end: the channel is at rest, its monitors are off, its window ends, and its clamps are minimum. -/
theorem Dev.becomeParked_stages : ∃ F : Channel → Channel,
    d.becomeParked n = ((((d.gustStop n d.commitAt).modCh n F).monitorsOff n).windowOver n).setClamps n 0x802 0x7FE ∧
      ∀ c, (F c).AtRest ∧ (F c).bk = c.bk := by
  unfold Dev.becomeParked Dev.windowOver Dev.monitorsOff
  dsimp only
  refine ⟨_, rfl, fun c => ?_⟩
  simp [Channel.AtRest, Channel.modForce, Channel.sineOff, Channel.modConv, Channel.modEng]

theorem Dev.Local.gustStop (x : Tick × Nat) : Dev.Local d (d.gustStop n x) := by
  unfold Dev.gustStop
  exact (Dev.Local.foldl (fun d _ => Dev.Local.modCh d _ _) _ d).trans (Dev.Local.modCh _ n _)

theorem Dev.Local.stopBarker : Dev.Local d (d.stopBarker n) := .modCh d n _

theorem Dev.Local.monitorsOff : Dev.Local d (d.monitorsOff n) :=
  (Dev.Local.foldl (fun d _ => (Dev.Local.modSt d _ _).trans (.modCh _ n _)) _ d).trans (.modCh _ n _)

theorem Dev.Local.windowOver : Dev.Local d (d.windowOver n) := by
  unfold Dev.windowOver Dev.endWindow Dev.setCreg
  exact .ite ((Dev.Local.modCh d n _).trans (.modCh _ n _)) (.refl d)

theorem Dev.Local.setClamps (hi lo : Nat) : Dev.Local d (d.setClamps n hi lo) := by
  unfold Dev.setClamps
  exact .modCh d n _

theorem Dev.Local.becomeParked : Dev.Local d (d.becomeParked n) := by
  obtain ⟨F, heq, -⟩ := d.becomeParked_stages n
  rw [heq]
  exact ((((Dev.Local.gustStop d n _).trans (.modCh _ n F)).trans (.monitorsOff _ n)).trans (.windowOver _ n)).trans
    (.setClamps _ n _ _)

theorem Dev.StaysPut.monitorsOff : Dev.StaysPut n d (d.monitorsOff n) :=
  (Dev.StaysPut.foldl _ (fun d _ => (Dev.Keeps.modSt n d _ _).staysPut.trans (.modCh n _ _)) _ d).trans (.modCh n _ _)

theorem Dev.StaysPut.windowOver : Dev.StaysPut n d (d.windowOver n) := by
  unfold Dev.windowOver Dev.endWindow Dev.setCreg
  exact .ite ((Dev.StaysPut.modCh n d _).trans (.modCh n _ _)) (.refl n d)

theorem Dev.StaysPut.setClamps (hi lo : Nat) : Dev.StaysPut n d (d.setClamps n hi lo) := by
  unfold Dev.setClamps
  exact .modCh n d _

/-- The final stage of a park leaves the force paths of the other channels. -/
theorem Dev.StaysPut.becomeParked : Dev.StaysPut n d (d.becomeParked n) := by
  obtain ⟨F, heq, hF⟩ := d.becomeParked_stages n
  rw [heq]
  exact ((((Dev.Keeps.gustStop n d _).staysPut.trans (.modCh n _ F fun c => congrArg Barker.seq (hF c).2)).trans
    (.monitorsOff _ n)).trans (.windowOver _ n)).trans (.setClamps _ n _ _)

theorem Dev.monitorsOff_forces : (d.monitorsOff n).forces = d.forces := by
  unfold Dev.monitorsOff
  rw [Dev.modCh_forces _ _ _ fun c => by simp [Channel.wmRecodeAll, foldl_force]]
  exact foldl_forces _ (fun d m => by simp) _ d

theorem Channel.wmRecodeAll_comp (c : Channel) : c.wmRecodeAll.comp = c.comp :=
  List.foldlRecOn (motive := fun x : Channel => x.comp = c.comp) (List.finRange 4) _ rfl fun _ h _ _ => h

theorem Dev.monitorsOff_comp : ((d.monitorsOff n).ch n).comp = (d.ch n).comp := by
  unfold Dev.monitorsOff
  rw [Dev.ch_modCh, if_pos rfl, Channel.wmRecodeAll_comp]
  exact foldl_kept (fun d => (d.ch n).comp) _ (fun d m => by rw [Dev.ch_modCh, if_pos rfl]; rfl) _ d

theorem Dev.windowOver_forces : (d.windowOver n).forces = d.forces := by
  unfold Dev.windowOver
  split
  · exact d.endWindow_forces n
  · rfl

theorem Dev.windowOver_comp : ((d.windowOver n).ch n).comp = (d.ch n).comp := by
  unfold Dev.windowOver Dev.endWindow Dev.setCreg
  split
  · rw [Dev.ch_modCh, if_pos rfl, Dev.ch_modCh, if_pos rfl]; rfl
  · rfl

/-- The final stage of a park leaves its channel at rest with minimum clamps (R87, R93). -/
theorem Dev.becomeParked_spec :
    ((d.becomeParked n).ch n).AtRest ∧ ((d.becomeParked n).ch n).force.baseHi = 0x802 ∧
      ((d.becomeParked n).ch n).force.baseLo = 0x7FE := by
  obtain ⟨F, heq, hF⟩ := d.becomeParked_stages n
  have hforce : ∀ u : Dev, (((u.monitorsOff n).windowOver n).ch n).force = (u.ch n).force := fun u =>
    Dev.force_of_forces ((Dev.windowOver_forces _ n).trans (u.monitorsOff_forces n)) n
  have hcomp : ∀ u : Dev, (((u.monitorsOff n).windowOver n).ch n).comp = (u.ch n).comp := fun u =>
    (Dev.windowOver_comp _ n).trans (u.monitorsOff_comp n)
  rw [heq]
  unfold Dev.setClamps
  dsimp only
  rw [Dev.ch_modCh, if_pos rfl]
  refine ⟨?_, rfl, rfl⟩
  simp only [Channel.AtRest, Channel.modForce, hforce, hcomp]
  rw [Dev.ch_modCh, if_pos rfl]
  exact (hF _).1
end

end Sys2Proof.Machine
end

section
namespace Sys2Proof.Machine
open Sys2Proof

/-! R91, R92: the stages of an arm, each a commit at which the channels that were decided so many ticks before have their
turn. -/

/-- The registers of every channel stay. -/
def Dev.SameSettings (d t : Dev) : Prop := ∀ m, (t.ch m).regs = (d.ch m).regs

theorem Dev.SameSettings.trans {d t u : Dev} (h : Dev.SameSettings d t) (h' : Dev.SameSettings t u) : Dev.SameSettings d u :=
  fun m => (h' m).trans (h m)

theorem Dev.SameSettings.modCh (d : Dev) (n : ChanId) (f : Channel → Channel) (hf : ∀ c, (f c).regs = c.regs := by intro c; rfl) :
    Dev.SameSettings d (d.modCh n f) := fun m => by
  rw [Dev.ch_modCh]
  split
  · next h => rw [hf, h]
  · rfl

section
variable {d t : Dev} (h : Dev.SameSettings d t) (n : ChanId)
include h

theorem Dev.SameSettings.reg (m : ChanId) (k : Nat) : (t.ch m).reg k = (d.ch m).reg k := congrArg (sget _ · k) (h m)

/-- A channel has the leader that the registers name (R104). -/
theorem Dev.SameSettings.leaderOf : t.leaderOf n = d.leaderOf n := by
  have hrole : ∀ m, t.role m = d.role m := fun m => h.reg m _
  have hlead : t.creg n Obj.GANG_LEADER = d.creg n Obj.GANG_LEADER := h.reg n _
  unfold Dev.leaderOf
  simp only [hrole, hlead]

theorem Dev.SameSettings.cfg (k : Nat) : (t.cfg n).reg k = (d.cfg n).reg k := by
  rw [Dev.cfg, h.leaderOf n, h.reg]
  rfl
end

/-! ## Commit k+8 -/

/-- The pre-close check of a channel fails, where MV sensed a voltage (R91). -/
def Dev.checkFails (d : Dev) (n : ChanId) : Bool :=
  match d.sensed n with
  | some v => d.preCloseFails n v
  | none => false

/-- Channels whose pre-close check fails at the present commit (R91). -/
def Dev.badMask (d : Dev) : Word64 := maskOf fun n => d.armingAt 8 n && d.checkFails n

/-- The turn of a channel at commit k+8 (R91). -/
def Dev.closeTurn (bad : Word64) (d : Dev) (n : ChanId) : Dev :=
  if !d.armingAt 8 n then d
  else if (bad &&& (d.ch n).force.armMask) != 0 then ((d.setReg Obj.ARM_RESULT 0x0A).stopBarker n).becomeParked n
  else d.modCh n fun c => c.modForce fun f => { f with disc := true }

theorem Dev.armClose_eq (d : Dev) : d.armClose = d.eachCh (Dev.closeTurn d.badMask) := rfl

section
variable (d : Dev) (n m : ChanId) (bad : Word64)

theorem Dev.badMask_bit : bit d.badMask n.val = (d.armingAt 8 n && d.checkFails n) := bit_maskOf _ n

theorem Dev.badMask_zero (h : ∀ m, d.armingAt 8 m = true → d.checkFails m = false) : d.badMask = 0 := by
  refine BitVec.eq_of_getLsbD_eq fun i hi => ?_
  refine (d.badMask_bit ⟨i, hi⟩).trans ?_
  cases ha : d.armingAt 8 ⟨i, hi⟩ with
  | false => simp
  | true => simp [h _ ha]

/-- Two masks that name a channel meet. -/
theorem bit_and_ne_zero {a b : Word64} {i : Nat} (ha : bit a i = true) (hb : bit b i = true) : (a &&& b) != 0 := by
  refine bne_iff_ne.2 fun h => ?_
  have hi : bit (a &&& b) i = true := by simp [bit] at ha hb ⊢; simp [ha, hb]
  rw [h] at hi
  simp [bit] at hi

/-- The abort of an arm at its pre-close check, on one channel (R91). -/
def Dev.abortClose : Dev := ((d.setReg Obj.ARM_RESULT 0x0A).stopBarker n).becomeParked n

theorem Dev.abortClose_result : (d.abortClose n).reg Obj.ARM_RESULT = 0x0A := by
  unfold Dev.abortClose
  rw [Dev.reg_of_regs (Dev.Local.becomeParked _ n).regs, Dev.reg_of_regs (Dev.Local.stopBarker _ n).regs,
    Dev.reg_setReg_eq, if_pos rfl]

theorem Dev.abortClose_atRest : ((d.abortClose n).ch n).AtRest := (Dev.becomeParked_spec _ n).1

theorem Dev.abortClose_other (h : m ≠ n) : ((d.abortClose n).ch m).force = (d.ch m).force :=
  ((Dev.StaysPut.becomeParked _ n).others m h).trans
    (congrArg Channel.force ((Dev.stopBarker_spec (d.setReg Obj.ARM_RESULT 0x0A) n).2 m h))

theorem Dev.closeTurn_tick : (Dev.closeTurn bad d n).tick = d.tick := by
  unfold Dev.closeTurn
  split
  · rfl
  split
  · exact (Dev.Local.becomeParked _ n).tick.trans (Dev.Local.stopBarker _ n).tick
  · rfl

theorem Dev.closeTurn_other (h : m ≠ n) : ((Dev.closeTurn bad d n).ch m).force = (d.ch m).force := by
  unfold Dev.closeTurn
  split
  · rfl
  split
  · exact d.abortClose_other n m h
  · rw [Dev.modCh_other d n m h]

/-- The turn of another channel leaves the result of an arm that has failed. -/
theorem Dev.closeTurn_result (h : d.reg Obj.ARM_RESULT = 0x0A) : (Dev.closeTurn bad d n).reg Obj.ARM_RESULT = 0x0A := by
  unfold Dev.closeTurn
  split
  · exact h
  split
  · exact d.abortClose_result n
  · exact h
end

section
variable (d : Dev) (n : ChanId)

/-- A channel before its turn: its force path is as it was, at the same tick. -/
def Dev.Waits (n : ChanId) (d t : Dev) : Prop := t.tick = d.tick ∧ (t.ch n).force = (d.ch n).force

theorem Dev.Waits.armingAt {n : ChanId} {d t : Dev} (h : Dev.Waits n d t) (k : Nat) : t.armingAt k n = d.armingAt k n := by
  simp only [Dev.armingAt, h.1, h.2]

/-- Where every check passes, the disconnects of the channels at commit k+8 close, and nothing else changes of a channel (R91). -/
theorem Dev.armClose_closes (h : ∀ m, d.armingAt 8 m = true → d.checkFails m = false) :
    d.armClose.ch n = if d.armingAt 8 n then (d.ch n).modForce fun f => { f with disc := true } else d.ch n := by
  have hturn : ∀ (t : Dev) m, Dev.closeTurn 0 t m =
      if t.armingAt 8 m then t.modCh m fun c => c.modForce fun f => { f with disc := true } else t := by
    intro t m
    unfold Dev.closeTurn
    cases t.armingAt 8 m <;> simp
  have hother : ∀ (t : Dev) m, m ≠ n → (Dev.closeTurn 0 t m).ch n = t.ch n := by
    intro t m hm
    rw [hturn]
    split
    · exact t.modCh_other m n (Ne.symm hm) _
    · rfl
  rw [d.armClose_eq, d.badMask_zero h]
  refine Dev.eachCh_turn (P := fun t => t.tick = d.tick ∧ t.ch n = d.ch n) (f := Dev.closeTurn 0)
    (Q := fun t => t.ch n = if d.armingAt 8 n then (d.ch n).modForce fun f => { f with disc := true } else d.ch n)
    n ⟨rfl, rfl⟩ ?before ?turn ?after
  case before =>
    rintro t m hm ⟨htick, hch⟩
    exact ⟨(t.closeTurn_tick m 0).trans htick, (hother t m hm).trans hch⟩
  case turn =>
    rintro t ⟨htick, hch⟩
    rw [hturn, (show Dev.Waits n d t from ⟨htick, by rw [hch]⟩).armingAt 8]
    split
    · rw [Dev.ch_modCh, if_pos rfl, hch]
    · exact hch
  case after =>
    intro t m hm hch
    exact (hother t m hm).trans hch

/-- An arm whose check fails on a channel that it names leaves that channel PARKED with its disconnect open (R91). -/
theorem Dev.armClose_aborts (h8 : d.armingAt 8 n = true) (hfails : d.checkFails n = true)
    (hmask : bit (d.ch n).force.armMask n.val = true) :
    d.armClose.reg Obj.ARM_RESULT = 0x0A ∧ (d.armClose.ch n).force.st = .parked ∧ (d.armClose.ch n).force.disc = false := by
  have hbad : bit d.badMask n.val = true := by rw [d.badMask_bit, h8, hfails]; rfl
  rw [d.armClose_eq]
  refine Dev.eachCh_turn (P := Dev.Waits n d)
    (Q := fun t => t.reg Obj.ARM_RESULT = 0x0A ∧ (t.ch n).force.st = .parked ∧ (t.ch n).force.disc = false)
    n ⟨rfl, rfl⟩ ?before ?turn ?after
  case before =>
    rintro t m hm ⟨htick, hforce⟩
    exact ⟨(t.closeTurn_tick m _).trans htick, (t.closeTurn_other m n _ (Ne.symm hm)).trans hforce⟩
  case turn =>
    intro t ht
    have habort : Dev.closeTurn d.badMask t n = t.abortClose n := by
      unfold Dev.closeTurn
      rw [ht.armingAt 8, h8, ht.2, if_neg (by decide), if_pos (bit_and_ne_zero hbad hmask)]
      rfl
    rw [habort]
    obtain ⟨hst, hdisc, -⟩ := t.abortClose_atRest n
    exact ⟨t.abortClose_result n, hst, hdisc⟩
  case after =>
    rintro t m hm ⟨hresult, hforce⟩
    rw [t.closeTurn_other m n _ (Ne.symm hm)]
    exact ⟨t.closeTurn_result m _ hresult, hforce⟩

/-! ## Commit k+24 -/

/-- The turn of a channel at commit k+24 (R91, R214). -/
def Dev.clampTurn (d : Dev) (n : ChanId) : Dev := if d.armingAt 24 n then (d.entryClamps n).wmSettle n else d

theorem Dev.SameSettings.wmSettle : Dev.SameSettings d (d.wmSettle n) := by
  unfold Dev.wmSettle
  refine List.foldlRecOn (motive := Dev.SameSettings d) _ _ (fun _ => rfl) fun t h m _ => h.trans ?_
  dsimp only
  split
  · exact .modCh t n _
  split
  · exact .modCh t n _
  · exact fun _ => rfl

theorem Dev.SameSettings.entryClamps : Dev.SameSettings d (d.entryClamps n) := by
  unfold Dev.entryClamps Dev.clampsFor Dev.setClamps
  dsimp only
  split
  · exact .modCh d n _
  · exact fun _ => rfl

theorem Dev.entryClamps_other (m : ChanId) (h : m ≠ n) : ((d.entryClamps n).ch m).force = (d.ch m).force := by
  unfold Dev.entryClamps Dev.clampsFor Dev.setClamps
  dsimp only
  split
  · rw [d.modCh_other n m h]
  · rfl

/-- The clamps of an ARMING channel at commit k+24 become those of the entry (R91). -/
theorem Dev.entryClamps_arming (h : d.armingAt 24 n = true) :
    ((d.entryClamps n).ch n).force.baseHi = rpHi (d.entryWord n) ∧ ((d.entryClamps n).ch n).force.baseLo = rpLo (d.entryWord n) ∧
      ((d.entryClamps n).ch n).force.st = .arming := by
  simp only [Dev.armingAt, Bool.and_eq_true, beq_iff_eq] at h
  obtain ⟨hst, hticks⟩ := h
  have hclamps : d.stateClamps n (rpHi (d.entryWord n)) (rpLo (d.entryWord n)) =
      some (rpHi (d.entryWord n), rpLo (d.entryWord n)) := by
    unfold Dev.stateClamps
    rw [hst, hticks]
    rfl
  unfold Dev.entryClamps Dev.clampsFor Dev.setClamps
  simp [hclamps, hst, Channel.modForce]

theorem Dev.clampTurn_tick : (Dev.clampTurn d n).tick = d.tick := by
  unfold Dev.clampTurn
  split
  · exact Dev.tick_of_frame ((Dev.wmSettle_frame _ n).trans (d.entryClamps_frame n))
  · rfl

theorem Dev.clampTurn_settings : Dev.SameSettings d (Dev.clampTurn d n) := by
  unfold Dev.clampTurn
  split
  · exact (Dev.SameSettings.entryClamps d n).trans (.wmSettle _ n)
  · exact fun _ => rfl

theorem Dev.clampTurn_other (m : ChanId) (h : m ≠ n) : ((Dev.clampTurn d n).ch m).force = (d.ch m).force := by
  unfold Dev.clampTurn
  split
  · exact (Dev.force_of_forces (Dev.wmSettle_forces _ n) m).trans (d.entryClamps_other n m h)
  · rfl

theorem Dev.SameSettings.entryWord {d t : Dev} (h : Dev.SameSettings d t) {n : ChanId} (hf : (t.ch n).force = (d.ch n).force) :
    t.entryWord n = d.entryWord n := by
  unfold Dev.entryWord
  rw [h.cfg n, hf]

/-- Commit k+24 of the arms in progress (R91). -/
def Dev.armClamps (d : Dev) : Dev := d.eachCh Dev.clampTurn

theorem Dev.armClamps_out (h : d.armingAt 24 n = false) : (d.armClamps.ch n).force = (d.ch n).force := by
  unfold Dev.armClamps
  refine (Dev.eachCh_keeps (P := Dev.Waits n d) ⟨rfl, rfl⟩ fun t m ht => ⟨(t.clampTurn_tick m).trans ht.1, ?_⟩).2
  by_cases hm : n = m
  · subst hm
    rw [Dev.clampTurn, ht.armingAt 24, h]
    exact ht.2
  · exact (t.clampTurn_other m n hm).trans ht.2

theorem Dev.armClamps_in (h : d.armingAt 24 n = true) : (d.armClamps.ch n).force.baseHi = rpHi (d.entryWord n) ∧
    (d.armClamps.ch n).force.baseLo = rpLo (d.entryWord n) ∧ (d.armClamps.ch n).force.st = .arming := by
  unfold Dev.armClamps
  refine Dev.eachCh_turn (P := fun t => Dev.Waits n d t ∧ Dev.SameSettings d t)
    (Q := fun t => (t.ch n).force.baseHi = rpHi (d.entryWord n) ∧ (t.ch n).force.baseLo = rpLo (d.entryWord n) ∧
      (t.ch n).force.st = .arming) n ⟨⟨rfl, rfl⟩, fun _ => rfl⟩ ?before ?turn ?after
  case before =>
    rintro t m hm ⟨⟨htick, hforce⟩, hset⟩
    exact ⟨⟨(t.clampTurn_tick m).trans htick, (t.clampTurn_other m n (Ne.symm hm)).trans hforce⟩, hset.trans (t.clampTurn_settings m)⟩
  case turn =>
    rintro t ⟨ht, hset⟩
    have h24 : t.armingAt 24 n = true := (ht.armingAt 24).trans h
    rw [Dev.clampTurn, if_pos h24, Dev.force_of_forces (Dev.wmSettle_forces _ n) n, ← hset.entryWord ht.2]
    exact t.entryClamps_arming n h24
  case after =>
    intro t m hm hclamps
    rw [t.clampTurn_other m n (Ne.symm hm)]
    exact hclamps

/-! ## Commit k+32 -/

/-- The turn of a channel at commit k+32 (R91, R92). -/
def Dev.completeTurn (d : Dev) (n : ChanId) : Dev := if d.armingAt 32 n then d.armed n else d

/-- With START_MODE not IMMEDIATE a channel becomes ARMED, and nothing else happens (R92). -/
theorem Dev.armed_waiting (h : (d.cfg n).reg Obj.START_MODE ≠ 0) :
    d.armed n = d.modCh n fun c => c.modForce fun f => { f with st := .armed, armMask := 0 } := by
  unfold Dev.armed
  dsimp only
  rw [(Dev.SameSettings.modCh d n _).cfg n]
  exact if_neg h

/-- The force path of a channel whose arm is complete. -/
def Channel.nowArmed (c : Channel) : Channel := c.modForce fun f => { f with st := .armed, armMask := 0 }

/-- While the channels complete their arms: the faults that wait and the settings stay, and no channel comes to commit k+32. -/
structure Dev.Completing (d t : Dev) : Prop where
  tick     : t.tick = d.tick
  flt      : t.flt = d.flt
  settings : Dev.SameSettings d t
  arming   : ∀ m, t.armingAt 32 m = true → d.armingAt 32 m = true

theorem Dev.Completing.refl : Dev.Completing d d := ⟨rfl, rfl, fun _ => rfl, fun _ => id⟩

theorem Dev.Completing.modCh {d t : Dev} (h : Dev.Completing d t) (m : ChanId) : Dev.Completing d (t.modCh m Channel.nowArmed) := by
  refine ⟨h.tick, h.flt, h.settings.trans (.modCh t m _), fun k hk => h.arming k ?_⟩
  simp only [Dev.armingAt, Dev.ch_modCh, Dev.modCh_tick] at hk ⊢
  split at hk
  · simp [Channel.nowArmed, Channel.modForce] at hk
  · exact hk

section
variable {d}
variable (hmode : ∀ m, d.armingAt 32 m = true → (d.cfg m).reg Obj.START_MODE ≠ 0)
include hmode

/-- With no START_MODE IMMEDIATE the turn of a channel makes it ARMED and does nothing else (R92). -/
theorem Dev.Completing.turn {t : Dev} (h : Dev.Completing d t) (m : ChanId) :
    t.completeTurn m = if t.armingAt 32 m then t.modCh m Channel.nowArmed else t := by
  unfold Dev.completeTurn
  split
  · next ha =>
    refine t.armed_waiting m ?_
    rw [h.settings.cfg m]
    exact hmode m (h.arming m ha)
  · rfl

theorem Dev.Completing.step {t : Dev} (h : Dev.Completing d t) (m : ChanId) : Dev.Completing d (t.completeTurn m) := by
  rw [h.turn hmode m]
  split
  · exact h.modCh m
  · exact h

/-- Commit k+32: the channels decided 32 ticks before are ARMED, the others stay (R91, R92). -/
theorem Dev.eachCh_completeTurn (n : ChanId) : Dev.Completing d (d.eachCh Dev.completeTurn) ∧
    (d.eachCh Dev.completeTurn).ch n = if d.armingAt 32 n then (d.ch n).nowArmed else d.ch n := by
  have hother : ∀ {t : Dev} (m : ChanId), m ≠ n → Dev.Completing d t → (t.completeTurn m).ch n = t.ch n := by
    intro t m hm h
    rw [h.turn hmode m]
    split
    · exact t.modCh_other m n (Ne.symm hm) _
    · rfl
  refine Dev.eachCh_turn (f := Dev.completeTurn) (P := fun t => Dev.Completing d t ∧ t.ch n = d.ch n)
    (Q := fun t => Dev.Completing d t ∧ t.ch n = if d.armingAt 32 n then (d.ch n).nowArmed else d.ch n) n
    ⟨.refl d, rfl⟩ ?before ?turn ?after
  case before =>
    rintro t m hm ⟨h, hch⟩
    exact ⟨h.step hmode m, (hother m hm h).trans hch⟩
  case turn =>
    rintro t ⟨h, hch⟩
    refine ⟨h.step hmode n, ?_⟩
    rw [h.turn hmode n, (show Dev.Waits n d t from ⟨h.tick, by rw [hch]⟩).armingAt 32]
    split
    · rw [Dev.ch_modCh, if_pos rfl, hch]
    · exact hch
  case after =>
    rintro t m hm ⟨h, hch⟩
    exact ⟨h.step hmode m, (hother m hm h).trans hch⟩
end
end

theorem exec_armDisconnectClose (s : State) : exec .armDisconnectClose s = liveAt s Dev.armClose := rfl
theorem exec_armClamps (s : State) : exec .armClamps s = liveAt s Dev.armClamps := rfl
theorem exec_armComplete (s : State) :
    exec .armComplete s = liveAt s fun d => (d.eachCh Dev.completeTurn).settleFaults := rfl

/-- Where no fault becomes due, a module stays calm. -/
theorem Dev.calm_of_flt {d t : Dev} (hflt : t.flt = d.flt) (htick : t.tick = d.tick) (h : d.calm = true) : t.calm = true := by
  unfold Dev.calm at h ⊢
  rw [hflt, htick]
  exact h

theorem Dev.settleFaults_ch (d : Dev) (h : d.calm = true) (n : ChanId) : d.settleFaults.ch n = d.ch n := by
  unfold Dev.ch
  rw [d.settleFaults_chans h]

end Sys2Proof.Machine

namespace Sys2Proof
open Machine

/-- Settles O12: at each stage the channels decided so many ticks before have their turn (`Dev.armClose_closes`,
`Dev.armClose_aborts`, `Dev.armClamps_in`, `Dev.eachCh_completeTurn`). -/
theorem armSequenceAdvances : Obligations.ArmSequenceAdvances := by
  intro s n hlive fails
  have hfails : ∀ m, fails m = s.dev.checkFails m := fun _ => rfl
  refine ⟨fun hpass => gives_at hlive (exec_armDisconnectClose s) ?_,
    fun h8 hbad hmask => gives_at hlive (exec_armDisconnectClose s) ?_, gives_at hlive (exec_armClamps s) ?_,
    fun hcalm hmode => gives_at hlive (exec_armComplete s) ?_⟩ <;> simp only [State.atCommit_dev]
  · exact s.dev.armClose_closes n fun m hm => (hfails m).symm.trans (hpass m hm)
  · exact s.dev.armClose_aborts n h8 ((hfails n).symm.trans hbad) hmask
  · exact ⟨s.dev.armClamps_out n, s.dev.armClamps_in n⟩
  · obtain ⟨hcompleting, hch⟩ := Dev.eachCh_completeTurn hmode n
    exact (Dev.settleFaults_ch _ (Dev.calm_of_flt hcompleting.flt hcompleting.tick hcalm) n).trans hch

end Sys2Proof
end

section
namespace Sys2Proof.Machine
open Sys2Proof

/-! R311, R490, R496: an event of the fabric leaves the faults that wait, the calibration and the settings of the channels. -/

/-- From one module to another the faults, the calibration and the settings of the channels stay; the counters of a channel lie
from key 0x1000 on. -/
structure Dev.Steady (d t : Dev) : Prop where
  flt      : t.flt = d.flt
  cal      : t.cal = d.cal
  settings : ∀ n k, k < 0x1000 → (t.ch n).reg k = (d.ch n).reg k

namespace Dev.Steady

theorem refl (d : Dev) : Dev.Steady d d := ⟨rfl, rfl, fun _ _ _ => rfl⟩

theorem trans {d t u : Dev} (h : Dev.Steady d t) (h' : Dev.Steady t u) : Dev.Steady d u :=
  ⟨h'.flt.trans h.flt, h'.cal.trans h.cal, fun n k hk => (h'.settings n k hk).trans (h.settings n k hk)⟩

theorem ite {p : Prop} [Decidable p] {d t u : Dev} (ht : Dev.Steady d t) (hu : Dev.Steady d u) :
    Dev.Steady d (if p then t else u) := by
  split
  · exact ht
  · exact hu

theorem foldl {α : Type} {f : Dev → α → Dev} (h : ∀ d x, Dev.Steady d (f d x)) (l : List α) (d : Dev) :
    Dev.Steady d (l.foldl f d) :=
  List.foldlRecOn l f (.refl d) fun _ hd x _ => hd.trans (h _ x)

theorem eachCh {f : Dev → ChanId → Dev} (h : ∀ d n, Dev.Steady d (f d n)) (d : Dev) : Dev.Steady d (d.eachCh f) := foldl h _ d

theorem of_chans {d t : Dev} (hflt : t.flt = d.flt) (hcal : t.cal = d.cal) (hchans : t.chans = d.chans) : Dev.Steady d t :=
  ⟨hflt, hcal, fun n k _ => by unfold Dev.ch; rw [hchans]⟩

section
variable (d : Dev) (n : ChanId)

theorem modCh (f : Channel → Channel) (hf : ∀ c k, k < 0x1000 → (f c).reg k = c.reg k := by intro c k _; rfl) :
    Dev.Steady d (d.modCh n f) :=
  ⟨rfl, rfl, fun m k hk => by
    rw [Dev.ch_modCh]
    split
    · next h => rw [hf _ k hk, h]
    · rfl⟩

theorem modConv (mi : Bool) (f : Conv → Conv) : Dev.Steady d (d.modCh n fun c => c.modConv mi f) :=
  modCh d n _ fun c _ _ => by cases mi <;> rfl

/-- A counter of a channel is no setting. -/
theorem cinc (w k : Nat) (hk : 0x1000 ≤ k := by decide) : Dev.Steady d (d.cinc n w k) :=
  modCh d n _ fun c j hj => c.reg_inc_other w k j (by omega)

theorem modSt (k : StallId) (f : Stall → Stall) : Dev.Steady d (d.modSt k f) := of_chans rfl rfl rfl
theorem inc (w k : Nat) : Dev.Steady d (d.inc w k) := of_chans rfl rfl rfl
theorem sinc (s : StallId) (w k : Nat) : Dev.Steady d (d.sinc s w k) := modSt d s _
theorem withFab (f : Fabric) : Dev.Steady d { d with fab := f } := of_chans rfl rfl rfl
theorem arrive (key : Nat) (x : Tick × Nat) : Dev.Steady d (d.arrive key x) := of_chans rfl rfl rfl
end

theorem ovr_ge (c : Nat) : 0x1000 ≤ Obj.OVR_CNT c := by unfold Obj.OVR_CNT; omega
theorem merge_ge (c : Nat) : 0x1000 ≤ Obj.MERGE_CNT c := by unfold Obj.MERGE_CNT; omega
theorem skip_ge (mi : Bool) : 0x1000 ≤ mvmi mi Obj.MV_SKIP_INJ Obj.MI_SKIP_INJ := by cases mi <;> decide

/-! ## Converters -/

section
variable (d : Dev) (n : ChanId) (mi : Bool) (x : Tick × Nat) (ev : Ev)

theorem startRegular : Dev.Steady d (d.startRegular n mi x) := ite (modConv d n mi _) (modConv d n mi _)

theorem overrun (c : Nat) : Dev.Steady d (d.overrun n c) := by
  have h : Dev.Steady d ((d.modCh n fun ch => { ch with ovr := putBit ch.ovr c true }).cinc n 32 (Obj.OVR_CNT c)) :=
    (modCh d n _).trans (cinc _ n 32 _ (ovr_ge c))
  exact ite (h.trans (cinc _ n 32 _)) (ite (h.trans (cinc _ n 32 _)) h)

theorem regularFire : Dev.Steady d (d.regularFire n mi x) := by
  have h : ∀ (f : Dev → ChanId → Bool) y (l : List ChanId), Dev.Steady d (l.foldl (fun d m =>
      if ((d.ch m).conv mi).injSlot.isSome then d.cinc m 32 (mvmi mi Obj.MV_SKIP_INJ Obj.MI_SKIP_INJ)
      else if f d m then d else d.startRegular m mi y) d) := fun f y l =>
    foldl (fun d m => ite (cinc d m 32 _ (skip_ge mi)) (ite (refl d) (startRegular d m mi y))) l d
  unfold Dev.regularFire
  exact ite (refl d) (ite ((h _ _ _).trans (overrun _ n _)) (h _ _ _))

theorem injectedFire : Dev.Steady d (d.injectedFire n mi x) :=
  ite (refl d) (ite (overrun d n _) (foldl (fun d m => modConv d m mi _) _ d))

theorem pulseEnds (p : Pulse) : Dev.Steady d (d.pulseEnds n mi p) :=
  ite (cinc d n 32 _) (ite (injectedFire d n mi _) (regularFire d n mi _))

theorem pulsesTo : Dev.Steady d (d.pulsesTo n mi x) :=
  ite (refl d) ((modConv d n mi _).trans (foldl (fun d p => pulseEnds d n mi p) _ _))

theorem triggered (inj : Bool) (qual width : Nat) : Dev.Steady d (d.triggered n mi inj qual width ev) := by
  have h := pulsesTo d n mi (addCyc ev.at' 1)
  unfold Dev.triggered
  dsimp only
  cases qualify qual width ev with
  | nothing => exact h
  | fire => exact ite (h.trans (injectedFire _ n mi _)) (h.trans (regularFire _ n mi _))
  | measure edge ok => exact ite (h.trans (overrun _ n _)) (h.trans (modConv _ n mi _))

theorem widenTrigger (inj : Bool) : Dev.Steady d (d.widenTrigger n mi inj ev) := modConv d n mi _

theorem regularTrigger : Dev.Steady d (d.regularTrigger n mi ev) := ite (refl d) (triggered d n mi ev false _ _)

theorem injectedTrigger : Dev.Steady d (d.injectedTrigger n mi ev) := ite (refl d) (triggered d n mi ev true _ _)

/-! ## The other consumers -/

theorem gustEdge : Dev.Steady d (d.gustEdge n x) := by
  unfold Dev.gustEdge
  dsimp only
  cases (d.ch n).gust.armed with
  | none => exact refl d
  | some p => exact ite (refl d) (ite (overrun d n 9) (modCh d n _))

theorem collect (c : Nat) (busy : Bool) : Dev.Steady d (d.collect n c busy ev) :=
  ite ((modCh d n _).trans (cinc _ n 32 _ (merge_ge c))) (ite (overrun d n c) (modCh d n _))

theorem sineReset : Dev.Steady d (d.sineReset n x) := by
  have hload : ∀ (d : Dev) t sub, Dev.Steady d (d.modCh n fun c => c.sineLoad t sub) := fun d t sub =>
    modCh d n _ fun c k hk => (Channel.reg_setReg_other _ _ _ _ (Nat.ne_of_lt (Nat.lt_of_lt_of_le hk (by decide)))).trans
      (Channel.reg_setReg_other _ _ _ _ (Nat.ne_of_lt (Nat.lt_of_lt_of_le hk (by decide))))
  unfold Dev.sineReset
  exact ite (refl d) (ite (overrun d n 10)
    (ite (((modCh d n _).trans (hload _ _ _)).trans (cinc _ n 32 _)) (modCh d n _)))

theorem holdEdge : Dev.Steady d (d.holdEdge n ev) := ite (collect d n ev 11 _) ((collect d n ev 11 _).trans (modCh _ n _))

theorem consume (c : Nat) : Dev.Steady d (d.consume n c ev) := by
  unfold Dev.consume
  generalize (if c ≤ 11 then d.leaderOf n else n) = m
  have hmerge := cinc d m 32 (Obj.MERGE_CNT c) (merge_ge c)
  have harrive := arrive d (64 * m.val + c) ev.at'
  refine ite (collect d m ev c _) (ite (collect d m ev c _) (ite (holdEdge d m ev) (ite (collect d m ev c _)
    (ite (ite (hmerge.trans (widenTrigger _ m _ ev _)) hmerge) (harrive.trans ?_)))))
  split
  · exact regularTrigger _ m false ev
  · exact regularTrigger _ m true ev
  · exact injectedTrigger _ m false ev
  · exact injectedTrigger _ m true ev
  · exact gustEdge _ m ev.at'
  · exact sineReset _ m ev.at'
end

/-! ## Output pins, stall triggers and tethers -/

section
variable (d : Dev) (s : StallId) (ev : Ev)

theorem drive (ovr : Nat) (p : OutPulse) : Dev.Steady d (d.drive ovr p ev) := ite (inc d 32 ovr) (withFab d _)

theorem evioOut (k : Nat) : Dev.Steady d (d.evioOut k ev) :=
  ite (refl d) (ite ((inc d 32 _).trans (withFab _ _)) ((arrive d _ _).trans (drive _ ev _ _)))

theorem mkoOut : Dev.Steady d (d.mkoOut s ev) := ite (refl d) (ite (inc d 32 _) ((arrive d _ _).trans (drive _ ev _ _)))

theorem auxFire (x : Tick × Nat) : Dev.Steady d (d.auxFire s x) := ite (sinc d s 32 _) (modSt d s _)

theorem auxPulsesTo (x : Tick × Nat) : Dev.Steady d (d.auxPulsesTo s x) := by
  unfold Dev.auxPulsesTo
  dsimp only
  refine ite (refl d) ((modSt d s _).trans (foldl (fun d p => ?_) _ _))
  exact ite (auxFire d s p.edge) (refl d)

theorem auxTrigger : Dev.Steady d (d.auxTrigger s ev) := by
  have h := (arrive d (4120 + s.val) ev.at').trans (auxPulsesTo _ s (addCyc ev.at' 1))
  unfold Dev.auxTrigger
  dsimp only
  refine ite (refl d) (ite ((inc d 32 _).trans (modSt _ s _)) ?_)
  split
  · exact h
  · exact h.trans (auxFire _ s _)
  · exact ite (h.trans (modSt _ s _)) (h.trans (sinc _ s 32 _))

theorem deliver (t : Nat) : Dev.Steady d (d.deliver t ev) := by
  unfold Dev.deliver
  refine (eachCh (fun d n => foldl (fun d c => consume d n ev c) _ d) d).trans (foldl (fun d e => ite (refl d)
    (ite (evioOut d ev _) ?_)) _ _)
  split
  · exact auxTrigger d _ ev
  split
  · exact mkoOut d _ ev
  · exact refl d

theorem carry (t : Nat) (inherited : List Nat) : Dev.Steady d (d.carry t inherited ev) := by
  have h : ∀ p : Bool, Dev.Steady d (if p then
      { d.inc 32 (Obj.TETH_LOOPS t) with fab := { d.fab with loops := t :: d.fab.loops } } else d) := fun p =>
    ite ((inc d 32 _).trans (withFab _ _)) (refl d)
  exact ite (h _) ((h _).trans ((inc _ 32 _).trans (deliver _ ev t)))

theorem fire (code : Nat) (inherited : List Nat) (high : Bool) (width cyc : Nat) :
    Dev.Steady d (d.fire code inherited high width cyc) := by
  unfold Dev.fire
  dsimp only
  exact ite (inc d 32 _) ((withFab d _).trans ((ite (inc _ 32 _) (refl _)).trans (foldl (fun d t => carry d _ t _) _ _)))

/-- An event of the fabric at a commit. -/
theorem fireCommit (code : Nat) (inherited : List Nat) : Dev.Steady d (d.fireCommit code inherited) :=
  (of_chans rfl rfl rfl : Dev.Steady d (d.trace (chanOf (code / 16)) (.event code))).trans (fire _ code inherited true 2 8)
end

end Dev.Steady

end Sys2Proof.Machine
end

section
namespace Sys2Proof.Machine
open Sys2Proof

/-! R93, R255: what entry to PARKING keeps of the module. -/

namespace Dev.Steady

section
variable (d : Dev) (n : ChanId)

theorem undoMonitor (old : Monitor) (m : Idx4) : Dev.Steady d (d.undoMonitor n old m) := by
  have hold : Dev.Steady d (d.modCh n fun c => (c.modWm m fun _ => old).wmRecode m) := modCh d n _
  unfold Dev.undoMonitor
  exact ite (refl d) (ite (hold.trans (modCh _ n _)) (ite hold (hold.trans (modSt _ _ _))))

theorem undoApply : Dev.Steady d (d.undoApply n) := by
  unfold Dev.undoApply Dev.takeBack
  split
  · exact ((withFab d _).trans (modCh _ n _)).trans (foldl (fun d m => undoMonitor d n _ m) _ _)
  · exact refl d

theorem stopBarker : Dev.Steady d (d.stopBarker n) :=
  modCh d n _ fun c k _ => by dsimp only; split <;> rfl

theorem tallyOpen (u : Idx16) : Dev.Steady d (d.tallyOpen n u) := by
  unfold Dev.tallyOpen
  exact modCh d n _

theorem setCreg (k v : Nat) (hk : 0x1000 ≤ k) : Dev.Steady d (d.setCreg n k v) :=
  modCh d n _ fun c j hj => c.reg_setReg_other k j v (by omega)

theorem tallyDay (u : Idx16) (day : TallyDay) (ev : TallyEv) : Dev.Steady d (d.tallyDay n u day ev) := by
  have hignored : ∀ (d : Dev) (p : Prop) [Decidable p] v (l : List Nat), Dev.Steady d (if p then d.setCreg n Obj.TALLY_IGNORED v
      else l.foldl (fun d _ => d.cinc n 32 Obj.TALLY_IGNORED) d) := fun d p _ v l =>
    ite (setCreg d n _ v (by decide)) (foldl (fun d _ => cinc d n 32 _) l d)
  have hunit : ∀ (d : Dev) (p q : Prop) [Decidable p] [Decidable q], Dev.Steady d (if p then d.tallyOpen n u
      else if q then d.modCh n fun c => c.modTally u fun _ => Tally.reset else d) := fun d p q _ _ =>
    ite (tallyOpen d n u) (ite (modCh d n _) (refl d))
  unfold Dev.tallyDay
  dsimp only
  exact (((modCh d n _).trans (hignored _ _ _ _)).trans (hunit _ _ _)).trans (ite (fireCommit _ _ _) (refl _))

theorem tallyCloseAll (cause : CloseCause) : Dev.Steady d (d.tallyCloseAll n cause) := by
  unfold Dev.tallyCloseAll
  exact foldl (fun d u => ite (refl d) (tallyDay d n u _ _)) _ d

theorem gustStop (x : Tick × Nat) : Dev.Steady d (d.gustStop n x) := by
  unfold Dev.gustStop
  exact (foldl (fun d m => modCh d m _) _ d).trans (modCh _ n _)

theorem startParkRamp : Dev.Steady d (d.startParkRamp n) := (gustStop d n _).trans (modCh _ n _)

/-- All that precedes the ramp of a park, where no system calibration runs (R255, R359). -/
theorem beforeRamp (code : Nat) (h : d.sysActive = false) :
    Dev.Steady d ((((d.undoApply n).stopBarker n).tallyCloseAll n .park).sysAbortOn n code) := by
  have hstep := ((undoApply d n).trans (stopBarker _ n)).trans (tallyCloseAll _ n .park)
  have hidle : (((d.undoApply n).stopBarker n).tallyCloseAll n .park).sysActive = false := by
    unfold Dev.sysActive at h ⊢
    rw [hstep.cal]
    exact h
  unfold Dev.sysAbortOn
  rw [hidle]
  exact hstep

theorem enterParking (h : d.sysActive = false) : Dev.Steady d (d.enterParking n) := by
  rw [d.enterParking_eq]
  exact (beforeRamp d n 1 h).trans (startParkRamp _ n)
end

end Dev.Steady

section
variable (d : Dev) (n : ChanId)

theorem Dev.startParkRamp_rampLen : ((d.startParkRamp n).ch n).force.rampLen = d.creg n Obj.PARK_RAMP := by
  unfold Dev.startParkRamp
  rw [Dev.ch_modCh, if_pos rfl]
  exact (Dev.Steady.gustStop d n d.commitAt).settings n Obj.PARK_RAMP (by decide)

/-- The ramp of a channel that parks lasts PARK_RAMP ticks (R93). -/
theorem Dev.enterParking_rampLen (h : d.sysActive = false) :
    ((d.enterParking n).ch n).force.rampLen = d.creg n Obj.PARK_RAMP := by
  rw [d.enterParking_eq, Dev.startParkRamp_rampLen]
  exact (Dev.Steady.beforeRamp d n 1 h).settings n Obj.PARK_RAMP (by decide)

/-! ## The park request -/

/-- What a park request gives to a channel that was ARMED (R93, R255). -/
def Channel.Parks (c : Channel) (now : Tick) (rampLen : Nat) : Prop :=
  c.force.st = .parking ∧ c.force.phase = .ramp ∧ c.force.phaseTick = now ∧ c.force.rampLen = rampLen ∧ c.bk.seq = .stopped

theorem Dev.enterParking_parks (h : d.sysActive = false) : ((d.enterParking n).ch n).Parks d.tick (d.creg n Obj.PARK_RAMP) := by
  obtain ⟨hst, hphase, htick, hseq, -⟩ := d.enterParking_spec n
  exact ⟨hst, hphase, htick, d.enterParking_rampLen n h, hseq⟩

/-- Parking an ARMED channel leaves a calm module calm. -/
theorem Dev.enterParking_calm (hsys : d.sysActive = false) (h : d.calm = true) : (d.enterParking n).calm = true :=
  Dev.calm_of_flt (Dev.Steady.enterParking d n hsys).flt (Dev.tick_of_frame (d.enterParking_frame n)) h

/-- A park request acts on its channels, and is known to the arm requests that follow at the same commit (R93, R110). -/
def Dev.parkNamed (mask : Word64) : Dev := { d with parkNow := d.parkNow ||| mask }.parkMask mask

/-- A park request with no arm request decided before it at the same commit. -/
theorem Dev.parkRequest_alone (mask : Word64) (h : ∀ a, d.armBack = some a → a.tick ≠ d.tick) :
    d.parkRequest mask = (d.parkNamed mask).settleFaults := by
  unfold Dev.parkRequest
  refine congrArg Dev.settleFaults ?_
  cases ha : d.armBack with
  | none => rfl
  | some a =>
    refine if_neg ?_
    simp [h a ha]

/-- A park request of an ARMED channel, in a module with no gang, is its entry to PARKING. -/
theorem Dev.parkNamed_armed (hrole : ∀ m, d.role m = 0) (ha : (d.ch n).isArmed = true) :
    d.parkNamed (BitVec.twoPow 64 n.val) = { d with parkNow := d.parkNow ||| BitVec.twoPow 64 n.val }.enterParking n :=
  Dev.parkMask_armed { d with parkNow := d.parkNow ||| BitVec.twoPow 64 n.val } n hrole ha

/-- Entry to PARKING in a calm module, and the faults that its commit presents: none. -/
theorem Dev.enterParking_settles (hcalm : d.calm = true) (hsys : d.sysActive = false) :
    ((d.enterParking n).settleFaults.ch n).Parks d.tick (d.creg n Obj.PARK_RAMP) ∧
      ∀ m, m ≠ n → ((d.enterParking n).settleFaults.ch m).force = (d.ch m).force := by
  obtain ⟨-, -, -, -, hothers⟩ := d.enterParking_spec n
  have hch := Dev.settleFaults_ch _ (d.enterParking_calm n hsys hcalm)
  refine ⟨?_, fun m hm => ?_⟩
  · rw [hch n]
    exact d.enterParking_parks n hsys
  · rw [hch m]
    exact hothers m hm

/-- A park request of an ARMED channel, in a calm module with no gang (R93, R255). -/
theorem Dev.parkRequest_parks (hcalm : d.calm = true) (hrole : ∀ m, d.role m = 0) (ha : (d.ch n).isArmed = true)
    (hsys : d.sysActive = false) (hback : ∀ a, d.armBack = some a → a.tick ≠ d.tick) :
    ((d.parkRequest (BitVec.twoPow 64 n.val)).ch n).Parks d.tick (d.creg n Obj.PARK_RAMP) ∧
      ∀ m, m ≠ n → ((d.parkRequest (BitVec.twoPow 64 n.val)).ch m).force = (d.ch m).force := by
  rw [d.parkRequest_alone _ hback, d.parkNamed_armed n hrole ha]
  exact Dev.enterParking_settles { d with parkNow := d.parkNow ||| BitVec.twoPow 64 n.val } n hcalm hsys
end

/-! ## The wait that lasts too long -/

/-- What waits for the fault manager stays, and so does the tick. -/
def Dev.SameWaiting (d t : Dev) : Prop :=
  t.flt.due = d.flt.due ∧ t.flt.queue = d.flt.queue ∧ t.flt.escal = d.flt.escal ∧ t.tick = d.tick

namespace Dev.SameWaiting

theorem calm {d t : Dev} (h : Dev.SameWaiting d t) : t.calm = d.calm := by
  obtain ⟨hdue, hqueue, hescal, htick⟩ := h
  unfold Dev.calm
  rw [hdue, hqueue, hescal, htick]

theorem refl (d : Dev) : Dev.SameWaiting d d := ⟨rfl, rfl, rfl, rfl⟩

theorem trans {d t u : Dev} (h : Dev.SameWaiting d t) (h' : Dev.SameWaiting t u) : Dev.SameWaiting d u := by
  obtain ⟨hdue, hqueue, hescal, htick⟩ := h
  obtain ⟨hdue', hqueue', hescal', htick'⟩ := h'
  exact ⟨hdue'.trans hdue, hqueue'.trans hqueue, hescal'.trans hescal, htick'.trans htick⟩

theorem ite {p : Prop} [Decidable p] {d t u : Dev} (ht : Dev.SameWaiting d t) (hu : Dev.SameWaiting d u) :
    Dev.SameWaiting d (if p then t else u) := by
  split
  · exact ht
  · exact hu

section
variable (d : Dev)

theorem inc (w k : Nat) : Dev.SameWaiting d (d.inc w k) := ⟨rfl, rfl, rfl, rfl⟩

theorem of_flt {d t : Dev} (hflt : t.flt = d.flt) (htick : t.tick = d.tick) : Dev.SameWaiting d t := by
  unfold Dev.SameWaiting
  rw [hflt, htick]
  exact ⟨rfl, rfl, rfl, rfl⟩

theorem trace (n : Option ChanId) (what : TraceKind) : Dev.SameWaiting d (d.trace n what) := ⟨rfl, rfl, rfl, rfl⟩
theorem raiseIrq (v : Nat) : Dev.SameWaiting d (d.raiseIrq v) := ⟨rfl, rfl, rfl, rfl⟩

theorem fireCommit (code : Nat) (inherited : List Nat) : Dev.SameWaiting d (d.fireCommit code inherited) :=
  of_flt (Dev.Steady.fireCommit d code inherited).flt (Dev.tick_of_frame (d.fireCommit_frame code inherited))

/-- To log a fault puts none into the queue (R505). -/
theorem logFault (f : FaultRec) (act : Act) (nested switched : Bool) :
    Dev.SameWaiting d (d.logFault f act nested switched) := by
  unfold Dev.logFault
  dsimp only
  have hfired : ∀ (t : Dev) (p q : Prop) [Decidable p] [Decidable q],
      Dev.SameWaiting t (if p then (if q then t else t.fireCommit 0x430).raiseIrq 5 else t) := fun t p q _ _ =>
    ite ((ite (refl t) (fireCommit t 0x430 [])).trans (raiseIrq _ 5)) (refl t)
  refine .trans (.trans ?_ (trace _ _ _)) (hfired _ _ _)
  refine ite ?_ ?_
  · exact .trans ⟨rfl, rfl, rfl, rfl⟩ (inc _ 32 Obj.FLOG_LOST)
  · exact ⟨rfl, rfl, rfl, rfl⟩
end
end Dev.SameWaiting

/-- The disconnect opens at the present commit, and the stage with it open begins (R93). -/
theorem Dev.openDisc_force (d : Dev) (n : ChanId) : ((d.openDisc n).ch n).force =
    { (d.ch n).force with disc := false, phase := .opened, phaseTick := d.tick } := by
  unfold Dev.openDisc
  rw [Dev.ch_modCh, if_pos rfl]
  rfl

section
variable (d : Dev) (f : FaultRec)

theorem Dev.incBy_flt (w k n : Nat) : (d.incBy w k n).flt = d.flt := by
  unfold Dev.incBy
  split <;> rfl

/-- A fault of class F1 with the fault manager free and its queue empty is handled at once (R495, R496). -/
theorem Dev.presentClass_handles (hq : d.flt.queue = []) (hactive : d.flt.active = []) :
    ∃ u : Dev, d.presentClass 1 [f] = u.handleOne f ∧ Dev.SameWaiting d u ∧ u.forces = d.forces := by
  have hflt := d.incBy_flt 32 (Obj.FAULT_CNT_F0 1) [f].length
  have htick := Dev.tick_of_frame (d.incBy_frame 32 (Obj.FAULT_CNT_F0 1) [f].length)
  have hforces := d.incBy_forces 32 (Obj.FAULT_CNT_F0 1) [f].length
  unfold Dev.presentClass
  rw [show [f].isEmpty = false from rfl]
  generalize d.incBy 32 (Obj.FAULT_CNT_F0 1) [f].length = v at hflt htick hforces
  have hfree : v.managerFree 1 = true := by unfold Dev.managerFree; rw [hflt, hactive]; rfl
  have hnone : v.queuedFor 1 = [] := by unfold Dev.queuedFor; rw [hflt, hq]; rfl
  simp only [Bool.false_eq_true, if_false, hfree, hnone, Bool.not_true]
  unfold Dev.handle
  refine ⟨_, rfl, ?_, hforces⟩
  unfold Dev.SameWaiting
  dsimp only
  rw [hflt, htick]
  exact ⟨rfl, rfl, rfl, rfl⟩

/-- A fault of class F0 or F1 that is handled is logged: no force path changes, and nothing more waits (R505). -/
theorem Dev.presentClass_logs (hcls : f.cls ≤ 1) (hq : d.flt.queue = []) (hactive : d.flt.active = []) :
    Dev.SameWaiting d (d.presentClass 1 [f]) ∧ (d.presentClass 1 [f]).forces = d.forces := by
  obtain ⟨u, heq, hwait, hforces⟩ := d.presentClass_handles f hq hactive
  rw [heq, Dev.handleOne, if_pos hcls]
  exact ⟨hwait.trans (.logFault u f _ _ _), (u.logFault_forces f _ _ _).trans hforces⟩

/-- The module with one more fault that waits for the present commit. -/
def Dev.withDue : Dev := { d with flt := { d.flt with due := d.flt.due ++ [(d.tick, f)] } }

/-- Of a calm module with one fault of class F1 due, the commit presents that fault (R490). -/
theorem Dev.presentDue_withDue (hcalm : d.calm = true) (hactive : d.flt.active = []) (hcls : f.cls = 1) :
    (d.withDue f).presentDue = d.presentClass 1 [f] := by
  obtain ⟨hdue, hq, he⟩ := d.calm_iff.1 hcalm
  have hself : reached d.tick d.tick = true := by simp [reached]
  have hnow : ((d.withDue f).flt.due.filter fun x => reached (d.withDue f).tick x.1) = [(d.tick, f)] := by
    unfold Dev.withDue
    rw [List.filter_append, List.filter_eq_nil_iff.2 fun x hx => by simp [hdue x hx]]
    simp [hself]
  have hlater : ((d.withDue f).flt.due.filter fun x => !reached (d.withDue f).tick x.1) = d.flt.due := by
    unfold Dev.withDue
    rw [List.filter_append, List.filter_eq_self.2 fun x hx => by simp [hdue x hx]]
    simp [hself]
  obtain ⟨⟨-, hq', he', -⟩, -⟩ := d.presentClass_logs f hcls.le hq hactive
  unfold Dev.presentDue
  rw [hnow, hlater]
  have hback : ({ d.withDue f with flt := { (d.withDue f).flt with due := d.flt.due } } : Dev) = d := rfl
  rw [hback]
  simp [hcls, d.presentClass_nil _ hq he, (d.presentClass 1 [f]).presentClass_nil _ (hq'.trans hq) (he'.trans he)]

/-- Settling that fault logs it: the force paths stay. -/
theorem Dev.settleFaults_withDue (hcalm : d.calm = true) (hactive : d.flt.active = []) (hcls : f.cls = 1) :
    (d.withDue f).settleFaults.forces = d.forces := by
  obtain ⟨-, hq, -⟩ := d.calm_iff.1 hcalm
  obtain ⟨hwait, hforces⟩ := d.presentClass_logs f hcls.le hq hactive
  have hpresent : (d.withDue f).present = d.presentClass 1 [f] := by
    unfold Dev.present
    rw [d.presentDue_withDue f hcalm hactive hcls, Dev.presentDue_calm _ (hwait.calm.trans hcalm)]
  unfold Dev.settleFaults
  rw [hpresent]
  exact (Dev.mkoLands_forces _).trans hforces
end

/-! ## The stages -/

/-- A command that writes the force path of one channel leaves the other channels. -/
theorem Dev.modForce_alone (d : Dev) (n : ChanId) (g : Force → Force) :
    (d.modCh n fun c => c.modForce g).ch n = (d.ch n).modForce g ∧
      ∀ m, m ≠ n → (d.modCh n fun c => c.modForce g).ch m = d.ch m :=
  ⟨by rw [Dev.ch_modCh, if_pos rfl], fun m hm => d.modCh_other n m hm _⟩

theorem Dev.parkForced_force (d : Dev) (n : ChanId) (hcalm : d.calm = true) (hactive : d.flt.active = []) :
    (((d.openDisc n).raiseCh 0x0202 1 n).settleFaults.ch n).force =
      { (d.ch n).force with disc := false, phase := .opened, phaseTick := d.tick } :=
  (Dev.force_of_forces ((d.openDisc n).settleFaults_withDue ⟨0x0202, 1, .channel, n.val, 0, d.tick, 0⟩ hcalm hactive rfl) n).trans
    (d.openDisc_force n)

theorem Dev.applyDelay_keeps (d : Dev) : d.applyDelay.flt = d.flt ∧ d.applyDelay.tick = d.tick ∧ d.applyDelay.chans = d.chans := by
  unfold Dev.applyDelay
  split
  · split <;> exact ⟨rfl, rfl, rfl⟩
  · exact ⟨rfl, rfl, rfl⟩

/-- The final stage of a park in a calm module leaves the channel as `becomeParked` does (R93). -/
theorem Dev.parkEnds_ch (d : Dev) (n : ChanId) (h : d.calm = true) :
    (d.becomeParked n).applyDelay.settleFaults.ch n = (d.becomeParked n).ch n := by
  obtain ⟨hflt, htick, hchans⟩ := (d.becomeParked n).applyDelay_keeps
  have hlocal := Dev.Local.becomeParked d n
  rw [Dev.settleFaults_ch _ (Dev.calm_of_flt (hflt.trans hlocal.flt) (htick.trans hlocal.tick) h)]
  unfold Dev.ch
  rw [hchans]

end Sys2Proof.Machine

namespace Sys2Proof
open Machine

/-- Settles O13: each stage by what it writes; a park request by `Dev.parkRequest_parks`, the end of a park by
`Dev.becomeParked_spec`, and the fault of a wait that lasts too long by `Dev.settleFaults_withDue`. -/
theorem parkAndSafeStagesAdvance : Obligations.ParkAndSafeStagesAdvance := by
  intro s n hlive f lasted others
  have hdone : ∀ {k}, lasted k → s.dev.phaseDone n k = true := id
  refine ⟨?ramp, ?low, ?safe, ?complete, ?forced, ?request⟩
  case ramp =>
    intro hst hphase hlast
    refine gives_at hlive (show execParkRampDone n s = _ from rfl) ?_
    rw [if_pos (show (f.st == .parking && f.phase == .ramp && s.dev.phaseDone n (max 1 f.rampLen)) = true by
      rw [hst, hphase, hdone hlast]; rfl)]
    exact s.dev.modForce_alone n _
  case low =>
    intro hst hphase
    refine gives_at hlive (show execParkCurrentLow n s = _ from rfl) ?_
    rw [if_pos (show (f.st == .parking && f.phase == .wait) = true by rw [hst, hphase]; rfl)]
    exact s.dev.modForce_alone n _
  case safe =>
    intro hst hphase hlast
    refine gives_at hlive (show execSafeRampDone n s = _ from rfl) ?_
    rw [if_pos (show (f.st == .safe && f.phase == .ramp && s.dev.phaseDone n f.rampLen) = true by
      rw [hst, hphase, hdone hlast]; rfl)]
    exact s.dev.modForce_alone n _
  case complete =>
    intro hcalm hst hphase hlast
    refine gives_at hlive (show execParkComplete n s = _ from rfl) ?_
    rw [if_pos (show ((f.st == .parking || f.st == .safe) && f.phase == .opened && s.dev.phaseDone n 16) = true by
      rw [hphase, hdone hlast]; simp [hst])]
    obtain ⟨⟨hpark, hdisc, hset, hpair, hidle, hcomp⟩, hhi, hlo⟩ := s.dev.becomeParked_spec n
    simp only [State.atCommit_dev, s.dev.parkEnds_ch n hcalm]
    exact ⟨hpark, hdisc, hset, hpair, hidle, hhi, hlo, hcomp⟩
  case forced =>
    intro hcalm hactive hst hphase hlast
    refine gives_at hlive (show execParkForced n s = _ from rfl) ?_
    rw [if_pos (show (f.st == .parking && f.phase == .wait && s.dev.phaseDone n 100) = true by
      rw [hst, hphase, hdone hlast]; rfl)]
    intro g
    have hg : g = { f with disc := false, phase := .opened, phaseTick := s.dev.tick } := s.dev.parkForced_force n hcalm hactive
    rw [hg]
    exact ⟨hst, rfl, rfl, rfl⟩
  case request =>
    intro hcalm hrole hst _ hsys hback
    refine gives_at hlive (show execParkReq _ s = _ from rfl) ?_
    have hrole' : ∀ m, s.dev.accept.role m = 0 := fun m => by
      rw [Dev.role, Dev.creg, Dev.accept_ch]
      exact hrole m
    have harmed : (s.dev.accept.ch n).isArmed = true := by rw [Dev.accept_ch]; exact beq_iff_eq.2 hst
    have hsys' : s.dev.accept.sysActive = false := by unfold Dev.sysActive; rw [Dev.accept_cal]; exact hsys
    have hback' : ∀ a, s.dev.accept.armBack = some a → a.tick ≠ s.dev.accept.tick := by
      rw [Dev.accept_armBack, Dev.accept_tick]
      exact hback
    obtain ⟨⟨hpark, hramp, htick, hlen, hseq⟩, hothers⟩ := s.dev.accept.parkRequest_parks n
      (Dev.calm_of_flt s.dev.accept_flt s.dev.accept_tick hcalm) hrole' harmed hsys' hback'
    rw [Dev.accept_tick] at htick
    unfold Dev.creg at hlen
    simp only [Dev.accept_ch] at hlen hothers
    simp only [State.atCommit_dev]
    exact ⟨hpark, hramp, htick, hlen, hseq, hothers⟩

end Sys2Proof
end

section
namespace Sys2Proof.Machine
open Sys2Proof

/-! R22, R140, R144, R273: a host command that writes a command object of a channel in no gang. -/

/-- A channel in no gang follows none (R106). -/
theorem Dev.isFollower_alone (d : Dev) (n : ChanId) (h : d.role n = 0) : d.isFollower n = false := by
  simp [Dev.isFollower, d.leaderOf_alone n h]

@[simp] theorem Dev.accept_role (d : Dev) (n : ChanId) : d.accept.role n = d.role n := by simp [Dev.role, Dev.creg]

@[simp] theorem Dev.accept_abort (d : Dev) : d.accept.dict.abort = 0 := by unfold Dev.accept; split <;> rfl

/-- A host write of a channel object that meets no data path acts (R22). -/
theorem Dev.hostOver_free (d : Dev) (n : ChanId) (k : Nat) (f : Dev → Dev) (h : (n.val, k) ∉ d.wrote) :
    d.hostOver n k f = f d := by
  simp [Dev.hostOver, h]

/-- An injection into a channel in no gang stops in that channel alone (R139, R144). -/
theorem Dev.gustStop_alone (d : Dev) (n : ChanId) (x : Tick × Nat) (h : d.role n = 0) :
    d.gustStop n x = d.modCh n fun c => c.modGust fun g => { g with running := none, spans := g.spans.map (endSpan x) } := by
  unfold Dev.gustStop
  rw [d.isFollower_alone n h, d.members_alone n h]
  exact d.modCh_modCh n (·.modGust fun g => { g with spans := g.spans.map (endSpan x) })
    (·.modGust fun g => { g with running := none })

/-- A command of the host makes of a channel what it is to make, and accepts the write; no other channel changes. -/
def ActsOn (s t : State) (n : ChanId) (f : Channel → Channel) : Prop :=
  t.dev.ch n = f (s.dev.ch n) ∧ (∀ m, m ≠ n → t.dev.ch m = s.dev.ch m) ∧ t.dev.dict.abort = 0 ∧
    t.dev.mem = s.dev.mem ∧ t.shown = t.dev

/-- A command object whose write meets no data path, at a commit with no fault to present (R22). -/
theorem gives_hostOver {s : State} {c : Instr} {n : ChanId} {k : Nat} {g : Dev → Dev} {f : Channel → Channel} (hlive : s.live)
    (hcalm : s.dev.calm = true) (hfree : (n.val, k) ∉ s.dev.wrote)
    (he : exec c s = liveAt s fun d => (d.hostOver n k g).settleFaults) (hg : g s.dev = s.dev.accept.modCh n f) :
    Gives c s fun t => ActsOn s t n f := by
  refine gives_at hlive he ?_
  rw [s.dev.hostOver_free n k g hfree, hg]
  have hcalm' : (s.dev.accept.modCh n f).calm = true := Dev.calm_of_flt s.dev.accept_flt s.dev.accept_tick hcalm
  refine ⟨?_, fun m hm => ?_, ?_, ?_, rfl⟩ <;> simp only [State.atCommit_dev]
  · rw [Dev.settleFaults_ch _ hcalm', Dev.ch_modCh, if_pos rfl, Dev.accept_ch]
  · rw [Dev.settleFaults_ch _ hcalm', Dev.modCh_other _ n m hm, Dev.accept_ch]
  · rw [Dev.settleFaults_dict _ hcalm', Dev.modCh_dict, Dev.accept_abort]
  · rw [Dev.settleFaults_mem _ hcalm', Dev.modCh_mem, Dev.accept_mem]

/-- The sine of a channel in no gang acts while the channel is ARMED (R273). -/
theorem Dev.sineActs_alone (d : Dev) (n : ChanId) (h : d.role n = 0) : d.sineActs n = (d.ch n).isArmed := by
  simp [Dev.sineActs, d.isFollower_alone n h]

/-- A sine command on a channel in no gang that is ARMED (R273). -/
theorem Dev.sineCmd_armed (d : Dev) (n : ChanId) (f : Channel → Channel) (h : d.role n = 0) (ha : (d.ch n).isArmed = true) :
    (if d.sineActs n then d.accept.modCh n f else d.accept) = d.accept.modCh n f :=
  if_pos ((d.sineActs_alone n h).trans ha)

/-- A sine command on a channel that is not ARMED is accepted and has no effect (R273). -/
theorem Dev.sineCmd_unarmed (d : Dev) (n : ChanId) (f : Channel → Channel) (h : d.role n = 0) (ha : (d.ch n).isArmed = false) :
    (if d.sineActs n then d.accept.modCh n f else d.accept) = d.accept.modCh n id := by
  rw [Dev.modCh_id _ n id rfl, d.sineActs_alone n h, ha]
  exact if_neg Bool.false_ne_true

/-- Stopping the injection and disarming the profile, on a channel in no gang (R140, R144). -/
theorem Dev.gustDisarm_alone (d : Dev) (n : ChanId) (h : d.role n = 0) :
    (d.accept.gustStop n d.commitAt).modCh n (·.gustDisarm) = d.accept.modCh n fun c =>
      { c with gust := { c.gust with armed := none, running := none, spans := c.gust.spans.map (endSpan (d.tick, 0)) } } := by
  rw [Dev.gustStop_alone _ n _ ((d.accept_role n).trans h), Dev.modCh_modCh]
  rfl

end Sys2Proof.Machine

namespace Sys2Proof
open Machine

/-- Settles O25: each command by what it makes of its channel (`gives_hostOver`): `Channel.gustArm_loaded`,
`Channel.gustArm_unloaded`, `Dev.gustDisarm_alone`, `Dev.sineCmd_armed`, `Dev.sineCmd_unarmed`. -/
theorem waveCommands : Obligations.WaveCommands := by
  intro s n x hlive hcalm hrole ch does
  refine ⟨fun hfree => ⟨fun hloaded htwo => ?arm, fun hunloaded => ?refuse, ?disarm⟩,
    fun hfree => ⟨fun harmed => ?armed, fun hnot => ?unarmed⟩⟩
  case arm =>
    obtain ⟨t, ht, hch, hrest⟩ := gives_hostOver hlive hcalm hfree (show exec (.gustArmCmdArm n x) s = _ from rfl) rfl
    exact ⟨t, ht, hch.trans (ch.gustArm_loaded x hloaded htwo), hrest⟩
  case refuse =>
    obtain ⟨t, ht, hch, hrest⟩ := gives_hostOver hlive hcalm hfree (show exec (.gustArmCmdArm n x) s = _ from rfl) rfl
    exact ⟨t, ht, hch.trans (ch.gustArm_unloaded x hunloaded), hrest⟩
  case disarm =>
    exact gives_hostOver hlive hcalm hfree (show exec (.gustArmCmdDisarm n) s = _ from rfl) (s.dev.gustDisarm_alone n hrole)
  case armed =>
    exact ⟨gives_hostOver hlive hcalm hfree (show exec (.sineCmdStart n x) s = _ from rfl)
        (s.dev.sineCmd_armed n _ hrole harmed),
      gives_hostOver hlive hcalm hfree (show exec (.sineCmdZero n) s = _ from rfl)
        (s.dev.sineCmd_armed n _ hrole harmed),
      gives_hostOver (f := (·.sinePhase s.dev.tick)) hlive hcalm hfree (show exec (.sineCmdPhaseReset n) s = _ from rfl)
        (s.dev.sineCmd_armed n _ hrole harmed)⟩
  case unarmed =>
    exact ⟨gives_hostOver hlive hcalm hfree (show exec (.sineCmdStart n x) s = _ from rfl)
        (s.dev.sineCmd_unarmed n _ hrole hnot),
      gives_hostOver hlive hcalm hfree (show exec (.sineCmdZero n) s = _ from rfl)
        (s.dev.sineCmd_unarmed n _ hrole hnot),
      gives_hostOver hlive hcalm hfree (show exec (.sineCmdPhaseReset n) s = _ from rfl) (s.dev.sineCmd_unarmed n _ hrole hnot)⟩

end Sys2Proof
end

section
namespace Sys2Proof.Machine
open Sys2Proof

/-! R145, R146: the clamps that a window leaves as it closes are read by the number of the applied entry. -/

/-- As a window closes, its channel has the force path that the clamps of the entry leave (R146). -/
theorem Dev.closeWindow_force (d : Dev) (n m : ChanId) :
    ((d.closeWindow n).ch m).force = (((d.endWindow n).entryClamps n).ch m).force := by
  unfold Dev.closeWindow
  exact Dev.force_of_forces ((Dev.fireCommit_forces _ _).trans (Dev.wmResume_forces _ n)) m

/-- Channel 0 ARMED in a window whose last commit is tick 4096, with the applied range pair 1,794: the key of that entry's
word is that of RC_LAST_TICK. -/
def strayPair : State :=
  let d := { Dev.reset with tick := 4096, power := { Power.reset with released := true } }
  let d := d.modCh 0 fun c => { c with
    force := { c.force with st := .armed, rpair := 1794 }
    rc := { c.rc with active := true, closes := 4096 } }
  { dev := d, shown := d, prior := d, pending := [] }

/-- The clamps that act are those of the word which the end of the window has just written. -/
theorem strayPair_closed : ((strayPair.dev.closeWindow 0).ch 0).force.baseHi = 1 := by
  rw [Dev.closeWindow_force]
  decide

theorem strayPair_word : rpHi ((strayPair.dev.ch 0).reg (Obj.RPAIR (strayPair.dev.ch 0).force.rpair)) = 0 := by decide

end Sys2Proof.Machine

namespace Sys2Proof
open Machine

/-- Refutes O24: the clause of the closing window reads the word of the applied entry as it was before the commit, for every
number of an entry that the force path can hold, and no hypothesis bounds that number by the 16 entries that a channel holds. At
`strayPair` the number is one whose word is RC_LAST_TICK, which the end of the window writes before the clamps are read. -/
theorem not_rangeWindowsAndGusts : ¬ Obligations.RangeWindowsAndGusts := by
  intro h
  obtain ⟨-, -, hclose, -⟩ := h strayPair 0 0 0 rfl (by decide)
  obtain ⟨t, ht, -, -, -, -, -, hclamps, -⟩ := hclose rfl (by decide)
  have hexec : exec (.rangeChangeClose 0) strayPair = .next (strayPair.atCommit (strayPair.dev.closeWindow 0)) := by
    refine (liveAt_next strayPair _ rfl).trans (congrArg (fun d => Host.Outcome.next (strayPair.atCommit d)) (if_pos ?_))
    decide
  obtain rfl := Host.Outcome.next.inj (hexec.symm.trans ht)
  have hhi := (hclamps rfl).1
  rw [strayPair_word] at hhi
  exact absurd (strayPair_closed.symm.trans hhi) (by decide)

end Sys2Proof
end

section
namespace Sys2Proof.Machine
open Sys2Proof

/-! R123, R125, R132, R133, R137: what a write of the compensation and an estimate of load watch make of a channel. -/

/-! ## Writes of the compensation (R123, R125) -/

/-- A written COMP_MODE ends TAIL_LOCK (R123). -/
def Comp.unlocked (x : Comp) : CompState :=
  if x.st == .tailLock then (if x.now = 31 then .tailed else .normal) else x.st

theorem Comp.unlocked_ne (x : Comp) : x.unlocked ≠ .tailLock := by
  unfold Comp.unlocked
  split
  · split <;> exact CompState.noConfusion
  · next h => exact fun e => h (beq_iff_eq.2 e)

/-- The object of a compensation write. -/
def compKey (fixed : Bool) : Nat := if fixed then Obj.COMP_FIXED else Obj.COMP_MODE

/-- A channel with a compensation write accepted (R123, R125). -/
def Channel.compWritten (c : Channel) (fixed : Bool) (v : Nat) : Channel :=
  { c.setReg (compKey fixed) v with
    comp := if fixed then { c.comp with hostReq := true }
      else { c.comp with drops := [], hostReq := true, st := c.comp.unlocked } }

section
variable (c : Channel) (fixed : Bool) (v : Nat)

/-- The write leaves every other object of the channel. -/
theorem Channel.compWritten_reg (j : Nat) : (c.compWritten fixed v).reg j = if j = compKey fixed then v else c.reg j :=
  c.reg_setReg_eq (compKey fixed) j v

/-- The write asks for its setting at the next step; the applied setting stays (R125). -/
theorem Channel.compWritten_asks :
    (c.compWritten fixed v).comp.hostReq = true ∧ (c.compWritten fixed v).comp.now = c.comp.now := by
  cases fixed <;> exact ⟨rfl, rfl⟩

/-- A written COMP_MODE ends TAIL_LOCK and clears the drop history (R123). -/
theorem Channel.compWritten_mode :
    (c.compWritten false v).comp.st ≠ .tailLock ∧ (c.compWritten false v).comp.drops = [] := ⟨c.comp.unlocked_ne, rfl⟩

theorem Channel.compWritten_fixed : (c.compWritten true v).comp.st = c.comp.st := rfl

theorem Channel.compWritten_force : (c.compWritten fixed v).force = c.force := rfl
end

/-- A write of the compensation at its commit (R125). -/
def Dev.compWrite (d : Dev) (n : ChanId) (fixed : Bool) (v : Nat) : Dev :=
  if fixed then d.writeCompFixed n v else d.writeCompMode n v

theorem exec_compModeWrite (n : ChanId) (fixed : Bool) (value : BitVec 8) (s : State) :
    exec (.compModeWrite n fixed value) s = liveAt s fun d => d.compWrite n fixed value.toNat := rfl

/-- Where no new step applies at the commit, the change waits for the next one (R125). -/
theorem Dev.compHost_waits (d : Dev) (n : ChanId) (f : Channel → Channel) (h : (f (d.ch n)).comp.stepAt ≠ some d.tick) :
    (d.modCh n f).compHost n = d.modCh n f := by
  simp [Dev.compHost, h]

/-- A kept write leaves the channels and the tick. -/
@[simp] theorem Dev.keep_ch (d : Dev) (obj old : Nat) (n : ChanId) : (d.keep obj old).ch n = d.ch n := rfl
@[simp] theorem Dev.keep_tick (d : Dev) (obj old : Nat) : (d.keep obj old).tick = d.tick := rfl

section
variable (d : Dev) (n : ChanId) (fixed : Bool) (v : Nat)

/-- A write in range, at a commit at which no new step applies, is accepted and writes its channel alone (R125). -/
theorem Dev.compWrite_inRange (hv : v ≤ if fixed then 31 else 2) (hstep : (d.ch n).comp.stepAt ≠ some d.tick) :
    d.compWrite n fixed v =
      (d.accept.keep (chObj n (compKey fixed)) (d.creg n (compKey fixed))).modCh n (·.compWritten fixed v) := by
  have hwaits : ∀ obj old, ((d.accept.keep obj old).ch n).comp.stepAt ≠ some (d.accept.keep obj old).tick := by
    intro obj old
    rw [Dev.keep_ch, Dev.keep_tick, Dev.accept_ch, Dev.accept_tick]
    exact hstep
  cases fixed with
  | true =>
    refine (if_neg (Nat.not_lt.2 hv)).trans ?_
    rw [Dev.setCreg, Dev.modCh_modCh]
    exact Dev.compHost_waits _ n (·.compWritten true v) (hwaits _ _)
  | false =>
    refine (if_neg (Nat.not_lt.2 hv)).trans ?_
    dsimp only
    rw [Dev.setCreg, Dev.modCh_modCh]
    exact Dev.compHost_waits _ n (·.compWritten false v) (hwaits _ _)

/-- A write out of range is refused (R125). -/
theorem Dev.compWrite_outOfRange (hv : (if fixed then 31 else 2) < v) :
    d.compWrite n fixed v = d.refuse (chObj n (compKey fixed)) abRange := by
  cases fixed with
  | true => exact if_pos hv
  | false => exact if_pos hv
end

/-! ## Estimates (R132, R133, R134) -/

/-- A channel with an estimate published: the load, the flags and the target setting (R132, R133, R134). -/
def Channel.withEstimate (c : Channel) (nF esr flags target : Nat) (now : Tick) : Channel :=
  let c := { c with lw := { c.lw.turn with targets := (target :: c.lw.targets).take 2 } }
  let c := (c.setReg Obj.C_EST nF).setReg Obj.ESR_EST esr
  let c := (c.setReg Obj.EST_FLAGS flags).setReg Obj.EST_TICK now.toNat
  (c.setReg Obj.TARGET target).inc 32 Obj.EST_COUNT

section
variable (c : Channel) (nF esr flags target : Nat) (now : Tick)

/-- The objects of a published estimate read what it gives (R133, R137). -/
theorem Channel.withEstimate_regs :
    let g := c.withEstimate nF esr flags target now
    g.reg Obj.C_EST = nF ∧ g.reg Obj.ESR_EST = esr ∧ g.reg Obj.EST_FLAGS = flags ∧ g.reg Obj.EST_TICK = now.toNat ∧
      g.reg Obj.TARGET = target := by
  simp [Channel.withEstimate, Channel.inc, Channel.reg_setReg_eq]

theorem Channel.withEstimate_force : (c.withEstimate nF esr flags target now).force = c.force := rfl
end

/-- A number divided by the one channel of no gang is itself. -/
theorem divRound_one (r : Nat) : (divRound r 1).toNat = r := by
  have hround : (2 * r + 1) / 2 = r := by omega
  simp [divRound, hround]

/-- The estimate of a channel in no gang is its load, and only that channel changes; where the manual states no ESR a free value
stands (R133, log 87). -/
theorem Dev.publishEstimate_alone (d : Dev) (n : ChanId) (e : LwEstimate) (h : d.role n = 0) (hnF : e.nF < 2 ^ 32) :
    ∃ free : Nat, (d.publishEstimate n e).ch n = (d.ch n).withEstimate e.nF ((e.esr.map (·.getD free)).getD 0xFFFF)
        (1 + 2 * b2n e.floor) ((d.ch n).lwTarget e.nF (e.esr.map (·.getD free))) d.tick ∧
      ∀ m, m ≠ n → (d.publishEstimate n e).ch m = d.ch m := by
  have hk : (d.members n).length = 1 := by rw [d.members_alone n h]; rfl
  unfold Dev.publishEstimate
  simp only [hk, Nat.one_mul, if_pos hnF]
  refine ⟨d.fresh.2.fresh.1 % 0xFFFF, ?_, fun m hm => Dev.modCh_other _ n m hm _⟩
  rw [Dev.ch_modCh, if_pos rfl]
  cases e.esr with
  | none => rfl
  | some r =>
    cases r with
    | none => rfl
    | some r =>
      simp only [Option.map_some, Nat.cast_one, divRound_one]
      rfl

/-- An estimate with enough usable samples over 1,016 probe ticks is published (R132). -/
def Dev.estimated (d : Dev) (n : ChanId) : Dev :=
  d.publishEstimate n ((d.ch n).lw.estimate (lsbV (d.ch n).force.vrange) (compRs n (d.ch n).comp.now))

/-- A channel with its estimate discarded (R132). -/
def Channel.withoutEstimate (c : Channel) : Channel := ({ c with lw := c.lw.turn } : Channel).inc 32 Obj.EST_DISCARDS

theorem Channel.withoutEstimate_lw (c : Channel) : c.withoutEstimate.lw = c.lw.turn := rfl
theorem Channel.withoutEstimate_comp (c : Channel) : c.withoutEstimate.comp = c.comp := rfl
theorem Channel.withoutEstimate_force (c : Channel) : c.withoutEstimate.force = c.force := rfl
theorem Channel.withoutEstimate_regs (c : Channel) : c.withoutEstimate.regs = (c.inc 32 Obj.EST_DISCARDS).regs := by
  simp only [Channel.withoutEstimate, Channel.inc, Channel.setReg, Channel.reg]

theorem LoadWatch.turn_targets (w : LoadWatch) : w.turn.targets = w.targets := by simp only [LoadWatch.turn]
theorem LoadWatch.turn_probes (w : LoadWatch) : w.turn.probes = w.probes - 1016 := by simp only [LoadWatch.turn]

/-- Once the samples of 1,016 probe ticks of a channel in no gang are in, its estimate is published or discarded (R132). -/
theorem exec_lwEstimate (s : State) (n : ChanId) (hlive : s.live) (h : s.dev.role n = 0)
    (hprobes : 1016 ≤ (s.dev.ch n).lw.probes) (hticks : ∀ x ∈ (s.dev.ch n).lw.ticks, 1016 ≤ x.2.1) :
    exec (.lwEstimate n) s = Host.Outcome.next (s.atCommit (if 10 * (s.dev.ch n).lw.total.n < 9 * 1016 then
      s.dev.modCh n (·.withoutEstimate) else s.dev.estimated n)) := by
  refine (liveAt_next s _ hlive).trans (congrArg (fun d => Host.Outcome.next (s.atCommit d)) ?_)
  have hin : ((s.dev.ch n).lw.ticks.any fun x => decide (x.2.1 < 1016)) = false := by
    simpa using hticks
  rw [if_neg (by simp [hin, s.dev.isFollower_alone n h]; omega)]
  exact if_congr Iff.rfl (s.dev.modCh_modCh n (fun c => { c with lw := c.lw.turn }) (·.inc 32 Obj.EST_DISCARDS)) rfl

end Sys2Proof.Machine

namespace Sys2Proof
open Machine

/-- Settles O23: a compensation write by `Dev.compWrite_inRange` and `Dev.compWrite_outOfRange`, an estimate by
`exec_lwEstimate` and `Dev.publishEstimate_alone`. -/
theorem compensationAndLoadWatch : Obligations.CompensationAndLoadWatch := by
  intro s n cyc fixed value hlive hrole ch others
  refine ⟨?drop, ?parked, ?written, ?refused, ?published, ?discarded⟩
  case drop =>
    intro hin hpark
    refine gives_in hin (show execRingDrop n cyc s = _ from rfl) ?_
    rw [if_neg (ne_true_of_eq_false hpark)]
    rfl
  case parked =>
    intro hin hpark
    exact gives_in hin (show execRingDrop n cyc s = _ from rfl) (congrArg s.inTick (if_pos hpark))
  case written =>
    intro hstep hv
    refine gives_at hlive (exec_compModeWrite n fixed value s) ?_
    rw [s.dev.compWrite_inRange n fixed value.toNat hv hstep]
    simp only [State.atCommit_dev, Dev.ch_modCh, if_true, Dev.keep_ch, Dev.accept_ch]
    obtain ⟨hasks, hnow⟩ := ch.compWritten_asks fixed value.toNat
    refine ⟨?_, hasks, hnow, fun j hj => ?_, ?_, ?_, s.dev.accept_abort, ⟨fun m hm => ?_, ?_⟩, rfl⟩
    · exact (ch.compWritten_reg fixed value.toNat _).trans (if_pos rfl)
    · exact (ch.compWritten_reg fixed value.toNat j).trans (if_neg hj)
    · rintro rfl
      exact ch.compWritten_mode value.toNat
    · rintro rfl
      exact ch.compWritten_fixed value.toNat
    · simp only [State.atCommit_dev, Dev.ch_modCh, if_neg hm, Dev.keep_ch, Dev.accept_ch]
    · simp only [State.atCommit_dev, Dev.ch_modCh, if_true, Dev.keep_ch, Dev.accept_ch]
      exact ch.compWritten_force fixed value.toNat
  case refused =>
    intro hv
    refine gives_at hlive (exec_compModeWrite n fixed value s) ?_
    rw [s.dev.compWrite_outOfRange n fixed value.toNat hv]
    exact ⟨Dev.refuse_chans _ _ _, by simp [abRange], rfl⟩
  case published =>
    intro hprobes hticks hmost e hnF
    obtain ⟨free, hself, hother⟩ := s.dev.publishEstimate_alone n e hrole hnF
    obtain ⟨hcap, hesr, hflags, htick, htarget⟩ := ch.withEstimate_regs e.nF ((e.esr.map (·.getD free)).getD 0xFFFF)
      (1 + 2 * b2n e.floor) (ch.lwTarget e.nF (e.esr.map (·.getD free))) s.dev.tick
    refine ⟨_, exec_lwEstimate s n hlive hrole hprobes hticks, ?_⟩
    have heq : s.dev.estimated n = s.dev.publishEstimate n e := rfl
    rw [if_neg (Nat.not_lt.2 hmost), heq]
    simp only [State.atCommit_dev, hself]
    refine ⟨hcap, fun h => ?_, fun r h => ?_, ?_, ?_, fun r h => ?_, fun h => ?_, htick, rfl, rfl, rfl, ⟨hother, ?_⟩, rfl⟩
    · rw [hesr, h]; rfl
    · rw [hesr, h]; rfl
    · rw [hflags]; cases e.floor <;> rfl
    · rw [htarget]; rfl
    · rw [htarget, h]; rfl
    · rw [htarget, h]; rfl
    · simp only [State.atCommit_dev, hself]
      exact ch.withEstimate_force ..
  case discarded =>
    intro hprobes hticks hfew
    refine ⟨_, exec_lwEstimate s n hlive hrole hprobes hticks, ?_⟩
    rw [if_pos hfew]
    have hself : (s.dev.modCh n (·.withoutEstimate)).ch n = ch.withoutEstimate := by rw [Dev.ch_modCh, if_pos rfl]
    have hforce := (congrArg Channel.force hself).trans ch.withoutEstimate_force
    have hother := fun m hm => s.dev.modCh_other n m hm (·.withoutEstimate)
    simp only [State.atCommit_dev, hself]
    refine ⟨?_, ?_, ch.withoutEstimate_comp, ⟨hother, hforce⟩, ch.withoutEstimate_regs⟩ <;> rw [ch.withoutEstimate_lw]
    · exact ch.lw.turn_targets
    · exact ch.lw.turn_probes

end Sys2Proof
end

section
namespace Sys2Proof.Machine
open Sys2Proof

/-! R141, R168, R170, R180, R273, R312: an event at a consumer that acts on arrival. -/

@[simp] theorem Dev.arrive_ch (d : Dev) (key : Nat) (x : Tick × Nat) (n : ChanId) : (d.arrive key x).ch n = d.ch n := rfl

/-! ## Events reach their consumers (Table 11-3) -/

section
variable (d : Dev) (n : ChanId) (ev : Ev) (h : d.role n = 0)
include h

theorem Dev.consume_gust (hm : d.merges (64 * n.val + 9) ev.at' = false) :
    d.consume n 9 ev = (d.arrive (64 * n.val + 9) ev.at').gustEdge n ev.at' := by
  simp [Dev.consume, d.leaderOf_alone n h, hm]

theorem Dev.consume_sine (hm : d.merges (64 * n.val + 10) ev.at' = false) :
    d.consume n 10 ev = (d.arrive (64 * n.val + 10) ev.at').sineReset n ev.at' := by
  simp [Dev.consume, d.leaderOf_alone n h, hm]

theorem Dev.consume_regular (mi : Bool) (hm : d.merges (64 * n.val + b2n mi) ev.at' = false) :
    d.consume n (b2n mi) ev = (d.arrive (64 * n.val + b2n mi) ev.at').regularTrigger n mi ev := by
  cases mi with
  | false => simp [Dev.consume, b2n, d.leaderOf_alone n h, show d.merges (64 * n.val) ev.at' = false from hm]
  | true => simp [Dev.consume, b2n, d.leaderOf_alone n h, show d.merges (64 * n.val + 1) ev.at' = false from hm]

theorem Dev.consume_injected (mi : Bool) (hm : d.merges (64 * n.val + (2 + b2n mi)) ev.at' = false) :
    d.consume n (2 + b2n mi) ev = (d.arrive (64 * n.val + (2 + b2n mi)) ev.at').injectedTrigger n mi ev := by
  cases mi with
  | false => simp [Dev.consume, b2n, d.leaderOf_alone n h, show d.merges (64 * n.val + 2) ev.at' = false from hm]
  | true => simp [Dev.consume, b2n, d.leaderOf_alone n h, show d.merges (64 * n.val + 3) ev.at' = false from hm]
end

/-! ## Gusts and the sine (R141, R273) -/

section
variable (d : Dev) (n : ChanId) (x : Tick × Nat)

/-- The tick and the gust-clock period of the injection that an edge at an instant schedules (R141). -/
def gustInstant (w : Nat) (x : Tick × Nat) : Tick × Nat :=
  let per : Int := ((x.2 + 9) / 10 : Nat) + gtLead w + gtAdv w
  (x.1 + BitVec.ofInt 48 (per.fdiv 50), (per.fmod 50).toNat)

/-- An edge at the gust trigger of a channel in no gang schedules the armed profile (R141). -/
theorem Dev.gustEdge_armed (p : Nat) (h : d.role n = 0) (harmed : (d.ch n).gust.armed = some p)
    (hsched : (d.ch n).gust.sched = none) (hruns : (d.ch n).gust.runsAt x = false) :
    d.gustEdge n x = d.modCh n fun c => c.modGust fun g =>
      { g with sched := some (p, gustInstant ((d.ch n).reg (Obj.GUST_TIMING p)) x) } := by
  unfold Dev.gustEdge
  simp only [harmed, d.isFollower_alone n h, hsched, hruns]
  rfl

/-- With no profile armed the edge does nothing (R143). -/
theorem Dev.gustEdge_disarmed (harmed : (d.ch n).gust.armed = none) : d.gustEdge n x = d := by
  unfold Dev.gustEdge
  simp only [harmed]

/-- A phase reset of the sine waits for an instant (R273). -/
def Channel.sineWaits (c : Channel) (b : Tick × Nat) : Channel := { c with sine := { c.sine with resetAt := some b } }

/-- A phase reset of a running sine waits for the first sub-step boundary after its arrival; where that lies in the present tick,
the phase is loaded for it (R273). -/
theorem Dev.sineReset_on (hon : (d.ch n).sine.on = true) (hnone : (d.ch n).sine.resetAt = none) :
    let b := nextSubStep x
    d.sineReset n x = d.modCh n fun c =>
      if b.1 == d.tick then ((c.sineWaits b).sineLoad b.1 b.2).inc 32 Obj.SINE_RESETS else c.sineWaits b := by
  intro b
  have hwait : ((d.ch n).sine.resetAt == some b) = false := by rw [hnone]; rfl
  have hrun : (!(d.ch n).sine.on) = false := by rw [hon]; rfl
  unfold Dev.sineReset
  simp only [hrun, hwait, Bool.false_eq_true, if_false, Dev.cinc, Dev.modCh_modCh, Dev.modCh_tick, b]
  split <;> rfl

/-- A phase reset finds no sine to act on (R273). -/
theorem Dev.sineReset_off (hoff : (d.ch n).sine.on = false) : d.sineReset n x = d := by
  unfold Dev.sineReset
  simp only [hoff]
  rfl
end

/-! ## Converters (R168, R169, R170) -/

/-- No regular conversion runs or waits, and fewer than two conversions begin in the tick: none is in the way of another (R169). -/
theorem Conv.blocks_free (v : Conv) (x y : Tick × Nat) (hwaits : v.waits = [])
    (hrun : ∀ r, v.run = some r → r.kind ≠ .regular) (hbegun : v.begun.length < 2) : v.blocks x y = false := by
  have hregular : v.regularAt x = false := by
    unfold Conv.regularAt
    rw [hwaits]
    cases hr : v.run with
    | none => rfl
    | some r => simp [hrun r hr]
  unfold Conv.blocks
  have hfew : ∀ a : Tick × Nat, (v.begun.filter (· == a.1)).length < 2 := fun a =>
    Nat.lt_of_le_of_lt (List.length_filter_le ..) hbegun
  simp only [hregular, hwaits, List.length_nil, Bool.false_or, decide_eq_false_iff_not, ge_iff_le, Nat.not_le]
  exact hfew _

section
variable (d : Dev) (n : ChanId) (mi : Bool)

/-- Without a qualifier a trigger fires at once (R168). -/
theorem Dev.triggered_unqualified (inj : Bool) (qual width : Nat) (ev : Ev) (hq : qualOn qual = false)
    (hp : ((d.ch n).conv mi).pulses = []) :
    d.triggered n mi inj qual width ev = if inj then d.injectedFire n mi ev.at' else d.regularFire n mi ev.at' := by
  unfold Dev.triggered qualify
  simp only [d.pulsesTo_idle n mi _ hp, hq]
  rfl

/-- An injected trigger of a channel in no gang asks for its sequence after its delay, on the 10 ns grid (R170). -/
theorem Dev.injectedFire_free (x : Tick × Nat) (h : d.role n = 0) (hconv : (d.ch n).converts = true) (hsys : d.sysOn n = false)
    (hslot : ((d.ch n).conv mi).injSlot = none) (hat : ((d.ch n).conv mi).injAt = none) :
    d.injectedFire n mi x = d.modCh n fun c => c.modConv mi fun v => { v with injAt := some (gridUp (addCyc x
      (5 * qualDelay ((d.ch n).reg (mvmi mi Obj.MV_INJ_QUAL Obj.MI_INJ_QUAL))))) } := by
  unfold Dev.injectedFire
  simp only [hconv, hsys, hslot, hat, d.members_alone n h]
  rfl

/-- A regular trigger of a channel in no gang that nothing is in the way of starts its conversion after its delay, on the 10 ns
grid (R168, R169). -/
theorem Dev.regularFire_free (x : Tick × Nat) (h : d.role n = 0) (hconv : (d.ch n).converts = true) (hsys : d.sysPlan n = false)
    (hev : hdrEvent mi (planHdr (d.ch n) (d.ch n).force.plan) = true)
    (hlen : hdrLen mi (planHdr (d.ch n) (d.ch n).force.plan) ≠ 0) (hslot : ((d.ch n).conv mi).injSlot = none)
    (hfree : ∀ y, ((d.ch n).conv mi).blocks x y = false) :
    d.regularFire n mi x =
      d.startRegular n mi (gridUp (addCyc x (5 * tmDelay (planTiming (d.ch n) mi (d.ch n).force.plan)))) := by
  unfold Dev.regularFire
  simp [hconv, hsys, hev, hlen, hslot, hfree, d.members_alone n h]

/-- A regular conversion that starts changes the converter alone: behind a conversion that runs it waits, else it begins (R167,
R168). -/
theorem Dev.startRegular_conv (y : Tick × Nat) (hwaits : ((d.ch n).conv mi).waits = []) :
    ∃ f : Conv → Conv, d.startRegular n mi y = d.modCh n (·.modConv mi f) ∧
      let v := (d.ch n).conv mi
      if v.run.isSome then (f v).waits = [(.regular, y)] ∧ (f v).run = v.run
      else ∃ r, (f v).run = some r ∧ r.kind = .regular ∧ r.asked = y ∧ r.start = v.acquireAt y := by
  unfold Dev.startRegular
  cases hrun : ((d.ch n).conv mi).run with
  | some r =>
    refine ⟨(·.queue .regular y), rfl, ?_⟩
    simp [Conv.queue, hrun, hwaits]
  | none =>
    refine ⟨fun v => { v with run := some (.of .regular (d.regularWord n mi).1 (d.regularWord n mi).2 y
      (((d.ch n).conv mi).acquireAt y)), begun := v.begun ++ [(((d.ch n).conv mi).acquireAt y).1] }, rfl, ?_⟩
    simp [hrun, Running.of]
end

/-- An arrival whose consumer changes its channel alone leaves the other channels, and what reads see. -/
theorem gives_arrival {s : State} {c : Instr} {g : Dev → Dev} {key : Nat} {x : Tick × Nat} {n : ChanId}
    {f : Channel → Channel} {P : State → Prop} (hin : s.inside) (he : exec c s = liveIn s g)
    (hg : g s.dev = (s.dev.arrive key x).modCh n f)
    (hp : ∀ t : State, t.dev.ch n = f (s.dev.ch n) → (∀ m, m ≠ n → t.dev.ch m = s.dev.ch m) → t.shown = s.shown →
      P t) : Gives c s P := by
  refine gives_in hin he (hp _ ?_ (fun m hm => ?_) rfl) <;> rw [State.inTick_dev, hg]
  · rw [Dev.ch_modCh, if_pos rfl, Dev.arrive_ch]
  · rw [Dev.modCh_other _ n m hm, Dev.arrive_ch]

section
variable (d : Dev) (n : ChanId) (mi : Bool) (ev : Ev)

/-- An unqualified edge at an injected trigger (R170). -/
theorem Dev.injectedTrigger_unqualified (hconv : (d.ch n).converts = true) (hsys : d.sysOn n = false)
    (hen : natBit ((d.ch n).reg (mvmi mi Obj.MV_INJ_CTRL Obj.MI_INJ_CTRL)) 7 = true)
    (hq : qualOn ((d.ch n).reg (mvmi mi Obj.MV_INJ_QUAL Obj.MI_INJ_QUAL)) = false) (hp : ((d.ch n).conv mi).pulses = []) :
    d.injectedTrigger n mi ev = d.injectedFire n mi ev.at' := by
  unfold Dev.injectedTrigger
  simp only [hconv, hsys, hen]
  exact d.triggered_unqualified n mi true _ _ ev hq hp

/-- An unqualified edge at a regular trigger (R168). -/
theorem Dev.regularTrigger_unqualified (hconv : (d.ch n).converts = true) (hsys : d.sysPlan n = false)
    (hev : hdrEvent mi (planHdr (d.ch n) (d.ch n).force.plan) = true)
    (hlen : hdrLen mi (planHdr (d.ch n) (d.ch n).force.plan) ≠ 0)
    (hq : qualOn ((d.ch n).reg (mvmi mi Obj.MV_REG_QUAL Obj.MI_REG_QUAL)) = false) (hp : ((d.ch n).conv mi).pulses = []) :
    d.regularTrigger n mi ev = d.regularFire n mi ev.at' := by
  unfold Dev.regularTrigger
  simp only [hconv, hsys, hev, beq_false_of_ne hlen]
  exact d.triggered_unqualified n mi false _ _ ev hq hp
end

/-! ## The AUX injected trigger of a stall (R180) -/

/-- An unqualified edge at the AUX injected trigger asks for its slots after the delay, on the 10 ns grid (R180). -/
theorem Dev.auxTrigger_unqualified (d : Dev) (k : StallId) (ev : Ev) (hm : d.merges (4120 + k.val) ev.at' = false)
    (hen : natBit (d.sreg k Obj.AUX_INJ_CTRL) 7 = true) (hq : qualOn (d.sreg k Obj.AUX_INJ_QUAL) = false)
    (hp : (d.st k).auxPulses = []) (hnone : (d.st k).auxInj = none) :
    let y := gridUp (addCyc ev.at' (5 * qualDelay (d.sreg k Obj.AUX_INJ_QUAL)))
    d.auxTrigger k ev = (d.arrive (4120 + k.val) ev.at').modSt k fun z => { z with auxInj := some (0, y.1, y.2) } := by
  have hidle : ∀ x, (d.arrive (4120 + k.val) ev.at').auxPulsesTo k x = d.arrive (4120 + k.val) ev.at' := by
    intro x
    unfold Dev.auxPulsesTo
    rw [show ((d.arrive (4120 + k.val) ev.at').st k).auxPulses = [] from hp]
    rfl
  have hq' : qualOn ((d.arrive (4120 + k.val) ev.at').sreg k Obj.AUX_INJ_QUAL) = false := hq
  have hnone' : ((d.arrive (4120 + k.val) ev.at').st k).auxInj = none := hnone
  unfold Dev.auxTrigger
  simp only [hen, hm, hidle, qualify, hq', Dev.auxFire, hnone']
  rfl

/-! ## Producers (R307, R312) -/

/-- A list that a write of a key puts into a map holds the written pair and what was there. -/
theorem mem_sput {β : Type} [DecidableEq β] (x : β) (m : SMap β) (k : Nat) (v : β) (e : Nat × β) (he : e ∈ sput x m k v) :
    e = (k, v) ∨ e ∈ m := by
  rw [sput_eq] at he
  split at he
  · exact .inr (List.mem_filter.1 he).1
  · exact mem_sins_key m k v e he

/-- No tether selects a producer where no slot that holds its code is a slot of a tether (R307). -/
theorem Dev.tethersOf_eq_nil_iff (d : Dev) (code : Nat) :
    d.tethersOf code = [] ↔ ∀ e ∈ d.regs, e.2 = code → slotTether e.1 = none := by
  have hdups : ∀ l : List Nat, l.eraseDups = [] ↔ l = [] := by
    intro l
    cases l with
    | nil => simp
    | cons a l => simp [List.eraseDups_cons]
  unfold Dev.tethersOf
  rw [hdups, List.filterMap_eq_nil_iff]
  simp

/-- A write of a register that is no producer slot leaves a producer without a tether (R307). -/
theorem Dev.tethersOf_setReg (d : Dev) (k v code : Nat) (hk : slotTether k = none) (h : d.tethersOf code = []) :
    (d.setReg k v).tethersOf code = [] := by
  rw [Dev.tethersOf_eq_nil_iff] at h ⊢
  intro e he hcode
  rcases mem_sput _ d.regs k v e he with rfl | hmem
  · exact hk
  · exact h e hmem hcode

/-- A producer that has fired in the tick is suppressed (R307). -/
theorem Dev.fire_again (d : Dev) (code : Nat) (inherited : List Nat) (high : Bool) (width cyc : Nat) (hcyc : cyc < 500)
    (hfired : code ∈ d.fab.fired) : d.fire code inherited high width cyc = d.inc 32 Obj.SUPPRESSED := by
  unfold Dev.fire
  simp [hcyc, hfired]

/-- The producer of a code has fired in the tick. -/
def Dev.markFired (d : Dev) (code : Nat) : Dev := { d with fab := { d.fab with fired := code :: d.fab.fired } }

/-- A producer that no tether selects fires alone; an origin set of more than 15 codes is cut (R307, R318). -/
theorem Dev.fire_untethered (d : Dev) (code : Nat) (inherited : List Nat) (high : Bool) (width cyc : Nat) (hcyc : cyc < 500)
    (hfired : code ∉ d.fab.fired) (hteth : d.tethersOf code = []) :
    d.fire code inherited high width cyc =
      if (inherited.filter (· != code)).length > 15 then (d.markFired code).inc 32 Obj.TAG_OVF else d.markFired code := by
  have hmark : (d.markFired code).tethersOf code = [] := hteth
  have hover : ((d.markFired code).inc 32 Obj.TAG_OVF).tethersOf code = [] :=
    Dev.tethersOf_setReg _ _ _ code (by decide) hmark
  unfold Dev.fire
  simp only [hcyc, if_true, List.contains_eq_mem, decide_eq_true_eq, if_neg hfired]
  split
  · exact (congrArg (List.foldl _ _) hover).trans rfl
  · exact (congrArg (List.foldl _ _) hmark).trans rfl

/-- An edge at an EVIO land of input service that its EDGE selects fires the producer of the land; it inherits an origin set only
where the land is driven too (R310, R312). -/
theorem evioEdge_fires (s : State) (k : Idx16) (rising : Bool) (width : Nat) (cyc : Cycle) (w : Nat) (hin : s.inside)
    (hw : s.dev.reg (Obj.EVIO_CFG k.val) = w) (hdir : evioDir w % 2 = 1) (hfires : evioFires w rising = true)
    (hquiet : (s.dev.fab.quiet.any fun q => q.1 == k.val && reached q.2 s.dev.tick) = false) :
    ∃ org high pulse, (evioDir w = 1 → org = []) ∧
      exec (.evioEdge k rising width cyc) s =
        Host.Outcome.next (s.inTick (s.dev.fire (0x410 + k.val) org high pulse (cyc.val + 3))) := by
  have hodd : evioDir w = 1 ∨ evioDir w = 3 := by
    have hlt : evioDir w < 4 := Nat.mod_lt _ (by decide)
    omega
  have hacts : ((evioDir w != 1 && evioDir w != 3) || !evioFires w rising ||
      s.dev.fab.quiet.any fun q => q.1 == k.val && reached q.2 s.dev.tick) = false := by
    rw [hfires, hquiet]
    rcases hodd with h | h <;> rw [h] <;> rfl
  subst hw
  refine ⟨_, _, _, fun h => ?_, (show execEvioEdge k rising width cyc s = _ from liveIn_next s _ hin).trans
    (congrArg (fun d => Host.Outcome.next (s.inTick d)) (if_neg (ne_true_of_eq_false hacts)))⟩
  exact if_neg (by rw [h]; decide)

end Sys2Proof.Machine

namespace Sys2Proof
open Machine

/-- Settles O17: each event by what its consumer does with it (`Dev.gustEdge_armed`, `Dev.sineReset_on`, `Dev.injectedFire_free`,
`Dev.regularFire_free`, `Dev.auxTrigger_unqualified`), and an edge at an EVIO land by what its producer does
(`Dev.fire_untethered`). -/
theorem triggersAct : Obligations.TriggersAct := by
  intro s n k' k mi rising width p cyc hin hrole ch at' others
  refine ⟨?gust, ?noGust, ?sine, ?noSine, ?injected, ?regular, ?aux, ?evio⟩
  case gust =>
    intro hm harmed hsched hruns
    refine gives_arrival hin (show execGustTrigger n cyc s = _ from rfl) ((s.dev.consume_gust n _ hrole hm).trans
      (Dev.gustEdge_armed _ n _ p hrole harmed hsched hruns)) fun t hself hothers hshown => ?_
    dsimp only
    rw [hself]
    exact ⟨rfl, rfl, hothers, hshown⟩
  case noGust =>
    intro hm harmed
    exact gives_in hin (show execGustTrigger n cyc s = _ from rfl)
      (congrArg Dev.chans ((s.dev.consume_gust n _ hrole hm).trans (Dev.gustEdge_disarmed _ n _ harmed)) : _)
  case sine =>
    intro hm hon hnone
    refine gives_arrival hin (show execSinePhaseReset n cyc s = _ from rfl) ((s.dev.consume_sine n _ hrole hm).trans
      (Dev.sineReset_on _ n _ hon hnone)) fun t hself hothers hshown => ⟨?_, hothers, hshown⟩
    rw [hself]
    split <;> rfl
  case noSine =>
    intro hm hoff
    exact gives_in hin (show execSinePhaseReset n cyc s = _ from rfl)
      (congrArg Dev.chans ((s.dev.consume_sine n _ hrole hm).trans (Dev.sineReset_off _ n _ hoff)) : _)
  case injected =>
    intro hm hconv hsys hen hq hp hslot hat
    have hm' : s.dev.merges (64 * n.val + (2 + b2n mi)) at' = false := by cases mi <;> exact hm
    let u := s.dev.arrive (64 * n.val + (2 + b2n mi)) at'
    refine gives_arrival hin (show execInjTrigger n mi rising width cyc s = _ from rfl)
      ((s.dev.consume_injected n _ hrole mi hm').trans ((u.injectedTrigger_unqualified n mi _ hconv hsys hen hq hp).trans
        (u.injectedFire_free n mi _ hrole hconv hsys hslot hat))) fun t hself hothers hshown => ?_
    rw [hself, Channel.conv_modConv_same, Channel.conv_modConv_other, Channel.modConv_force]
    exact ⟨rfl, rfl, rfl, hothers, hshown⟩
  case regular =>
    intro hm hconv hsys hev hlen hq hp hslot hwaits hrun hbegun
    have hm' : s.dev.merges (64 * n.val + b2n mi) at' = false := by cases mi <;> exact hm
    let u := s.dev.arrive (64 * n.val + b2n mi) at'
    have hfree : ∀ y, ((u.ch n).conv mi).blocks at' y = false := fun y => Conv.blocks_free _ _ y hwaits hrun hbegun
    obtain ⟨f, heq, hstarts⟩ := u.startRegular_conv n mi
      (gridUp (addCyc at' (5 * tmDelay (planTiming ch mi ch.force.plan)))) hwaits
    refine gives_arrival hin (show execRegTrigger n mi rising width cyc s = _ from rfl)
      ((s.dev.consume_regular n _ hrole mi hm').trans ((u.regularTrigger_unqualified n mi _ hconv hsys hev hlen hq hp).trans
        ((u.regularFire_free n mi _ hrole hconv hsys hev hlen hslot hfree).trans heq))) fun t hself hothers hshown => ?_
    dsimp only
    rw [hself, Channel.conv_modConv_same, Channel.modConv_force]
    exact ⟨hstarts, rfl, hothers, hshown⟩
  case aux =>
    intro hm hen hq hp hnone
    refine gives_in hin (show execAuxInjTrigger k' rising width cyc s = _ from rfl) ?_
    rw [s.dev.auxTrigger_unqualified k' _ hm hen hq hp hnone]
    refine ⟨?_, rfl, rfl⟩
    rw [State.inTick_dev, Dev.st_modSt, if_pos rfl]
    rfl
  case evio =>
    intro hdir hfires hquiet hcyc hteth
    obtain ⟨org, high, pulse, horg, hexec⟩ := evioEdge_fires s k rising width cyc _ hin rfl hdir hfires hquiet
    refine ⟨_, hexec, ?_⟩
    dsimp only
    have hcyc' : cyc.val + 3 < 500 := by omega
    by_cases hfired : 0x410 + k.val ∈ s.dev.fab.fired
    · rw [if_pos hfired, s.dev.fire_again _ org high pulse _ hcyc' hfired]
    · rw [if_neg hfired, s.dev.fire_untethered _ org high pulse _ hcyc' hfired hteth]
      refine ⟨?_, ?_, rfl, fun hone => ?_⟩
      · simp only [State.inTick_dev]; split <;> rfl
      · simp only [State.inTick_dev]; split <;> rfl
      · rw [horg hone]; rfl

end Sys2Proof
end

section
namespace Sys2Proof.Machine
open Sys2Proof

/-! R174: a write of an object of a stall that selects its reference, accepted or refused. -/

@[simp] theorem Dev.accept_st (d : Dev) (st : StallId) : d.accept.st st = d.st st := by
  unfold Dev.st
  rw [Dev.accept_stalls]

@[simp] theorem Dev.setSreg_tick (d : Dev) (st : StallId) (k v : Nat) : (d.setSreg st k v).tick = d.tick := rfl

theorem not_one_lt_b2n (v : Bool) : ¬ 1 < b2n v := by cases v <;> decide

/-- A stall whose reference is selected (R174). -/
def Stall.refSelected (x : Stall) (v : Bool) : Stall :=
  { x.setReg Obj.REF_SEL (b2n v) with refx := v, refxFailed := false, refxBad := 0, refxSwitch := false }

/-- A stall whose external reference is enabled or disabled; enabling it notes the tick (R174). -/
def Stall.refxEnabled (x : Stall) (v : Bool) (now : Tick) : Stall :=
  let y := x.setReg Obj.REFX_EN (b2n v)
  if v = true ∧ x.reg Obj.REFX_EN = 0 then y.setReg Obj.REFX_EN_TICK now.toNat else y

theorem Stall.refSelected_reg (x : Stall) (v : Bool) (k : Nat) :
    (x.refSelected v).reg k = if k = Obj.REF_SEL then b2n v else x.reg k := x.reg_setReg_eq Obj.REF_SEL k (b2n v)

theorem Stall.refxEnabled_reg (x : Stall) (v : Bool) (now : Tick) (k : Nat) :
    (x.refxEnabled v now).reg k = if k = Obj.REFX_EN then b2n v
      else if k = Obj.REFX_EN_TICK ∧ v = true ∧ x.reg Obj.REFX_EN = 0 then now.toNat else x.reg k := by
  have hkeys : k = Obj.REFX_EN → k ≠ Obj.REFX_EN_TICK := by rintro rfl; decide
  unfold Stall.refxEnabled
  dsimp only
  by_cases hnew : v = true ∧ x.reg Obj.REFX_EN = 0
  · rw [if_pos hnew, Stall.reg_setReg_eq, Stall.reg_setReg_eq]
    by_cases hk : k = Obj.REFX_EN
    · rw [if_neg (hkeys hk), if_pos hk, if_pos hk]
    · rw [if_neg hk, if_neg hk]
      exact if_congr (and_iff_left hnew).symm rfl rfl
  · rw [if_neg hnew, Stall.reg_setReg_eq, if_neg (c := k = Obj.REFX_EN_TICK ∧ _) fun h => hnew h.2]

section
variable (d : Dev) (st : StallId) (v : Bool)

theorem Dev.writeRefSel_accepted (hen : v = true → d.sreg st Obj.REFX_EN ≠ 0) (hparked : d.stallParked st = true) :
    d.writeRefSel st (b2n v) =
      (d.accept.modSt st (·.refSelected v)).keep (stObj st Obj.REF_SEL) (d.sreg st Obj.REF_SEL) := by
  have hfree : (decide (b2n v = 1) && decide (d.sreg st Obj.REFX_EN = 0)) = false := by
    cases v with
    | false => rfl
    | true => simpa [b2n] using hen rfl
  have hsel : (b2n v == 1) = v := by cases v <;> rfl
  unfold Dev.writeRefSel
  simp only [if_neg (not_one_lt_b2n v), hfree, hparked, hsel, Dev.setSreg, Dev.modSt_modSt]
  rfl

theorem Dev.writeRefSel_refused (h : v = true ∧ d.sreg st Obj.REFX_EN = 0 ∨ d.stallParked st = false) :
    d.writeRefSel st (b2n v) = d.refuse (stObj st Obj.REF_SEL) abState := by
  unfold Dev.writeRefSel
  rw [if_neg (not_one_lt_b2n v)]
  rcases h with ⟨rfl, hoff⟩ | hparked
  · simp [b2n, hoff]
  · simp [hparked]

theorem Dev.modSt_refxEnabled (now : Tick) : d.modSt st (·.refxEnabled v now) =
    if v = true ∧ d.sreg st Obj.REFX_EN = 0 then
      (d.setSreg st Obj.REFX_EN (b2n v)).setSreg st Obj.REFX_EN_TICK now.toNat
    else d.setSreg st Obj.REFX_EN (b2n v) := by
  unfold Dev.setSreg
  rw [Dev.modSt_modSt]
  by_cases hnew : v = true ∧ d.sreg st Obj.REFX_EN = 0
  · rw [if_pos hnew]
    exact congrArg (d.setSt st) (if_pos hnew)
  · rw [if_neg hnew]
    exact congrArg (d.setSt st) (if_neg hnew)

theorem Dev.writeRefxEn_accepted (h : v = true ∨ d.sreg st Obj.REF_SEL ≠ 1) :
    d.writeRefxEn st (b2n v) =
      (d.accept.modSt st (·.refxEnabled v d.tick)).keep (stObj st Obj.REFX_EN) (d.sreg st Obj.REFX_EN) := by
  have hfree : (decide (b2n v = 0) && decide (d.sreg st Obj.REF_SEL = 1)) = false := by
    cases v with
    | true => rfl
    | false => simpa [b2n] using h
  have hone : b2n v = 1 ↔ v = true := by cases v <;> decide
  have hthere : d.accept.sreg st Obj.REFX_EN = d.sreg st Obj.REFX_EN := congrArg (Stall.reg · _) (d.accept_st st)
  unfold Dev.writeRefxEn
  simp only [if_neg (not_one_lt_b2n v), hfree, Bool.false_eq_true, if_false, Bool.and_eq_true, decide_eq_true_eq, hone,
    Dev.modSt_refxEnabled, hthere, Dev.keep_tick, Dev.setSreg_tick, Dev.accept_tick]
  split <;> rfl

theorem Dev.writeRefxEn_refused (hv : v = false) (hsel : d.sreg st Obj.REF_SEL = 1) :
    d.writeRefxEn st (b2n v) = d.refuse (stObj st Obj.REFX_EN) abState := by
  subst hv
  simp [Dev.writeRefxEn, b2n, hsel]
end

/-- A write of a stall's object at a commit leaves the channels and the other stalls, and reads see it. -/
def StallWrite (s t : State) (st : StallId) : Prop :=
  t.dev.chans = s.dev.chans ∧ (∀ j, j ≠ st → t.dev.st j = s.dev.st j) ∧ t.shown = t.dev

/-- An accepted write of a stall's object. -/
theorem gives_stallAccepted {s : State} {c : Instr} {g : Dev → Dev} {st : StallId} {f : Stall → Stall} {obj old : Nat}
    (hlive : s.live) (he : exec c s = liveAt s g) (hg : g s.dev = (s.dev.accept.modSt st f).keep obj old) :
    Gives c s fun t => t.dev.st st = f (s.dev.st st) ∧ t.dev.dict.abort = 0 ∧ StallWrite s t st := by
  refine gives_at hlive he ?_
  rw [hg]
  refine ⟨?_, s.dev.accept_abort, s.dev.accept_chans, fun j hj => ?_, rfl⟩
  · exact (Dev.st_modSt ..).trans ((if_pos rfl).trans (congrArg f (s.dev.accept_st st)))
  · exact (Dev.st_modSt ..).trans ((if_neg hj).trans (s.dev.accept_st j))

/-- A refused write of a stall's object changes no register. -/
theorem gives_stallRefused {s : State} {c : Instr} {g : Dev → Dev} {st : StallId} {obj : Nat}
    (hlive : s.live) (he : exec c s = liveAt s g) (hg : g s.dev = s.dev.refuse obj abState) :
    Gives c s fun t => t.dev.stalls = s.dev.stalls ∧ t.dev.dict.abort = 0x08000022 ∧ StallWrite s t st := by
  refine gives_at hlive he ?_
  rw [hg]
  have hstalls := s.dev.refuse_stalls obj abState
  exact ⟨hstalls, congrArg Dict.abort (s.dev.refuse_dict obj abState), s.dev.refuse_chans obj abState,
    fun j _ => congrArg (fun l : Vector Stall 8 => l[j]) hstalls, rfl⟩

end Sys2Proof.Machine

namespace Sys2Proof
open Machine

/-- Settles O35: each write by what it makes of its stall, or by its refusal. -/
theorem referencesAreSelected : Obligations.ReferencesAreSelected := by
  intro s st v k hlive d x kept refused
  refine ⟨fun hen hparked => ?select, fun h => ?selectRefused, fun hv hsel => ?enableRefused, fun h => ?enable⟩
  case select =>
    obtain ⟨t, ht, hst, habort, hkept⟩ := gives_stallAccepted hlive (show exec (.refSelWrite st v) s = _ from rfl)
      (s.dev.writeRefSel_accepted st v hen hparked)
    refine ⟨t, ht, ?_, congrArg Stall.refx hst, congrArg Stall.refxFailed hst, congrArg Stall.refxBad hst, habort, hkept⟩
    exact (congrArg (Stall.reg · k) hst).trans (Stall.refSelected_reg _ v k)
  case selectRefused =>
    exact gives_stallRefused hlive (show exec (.refSelWrite st v) s = _ from rfl) (s.dev.writeRefSel_refused st v h)
  case enableRefused =>
    exact gives_stallRefused hlive (show exec (.refxEnWrite st v) s = _ from rfl) (s.dev.writeRefxEn_refused st v hv hsel)
  case enable =>
    obtain ⟨t, ht, hst, habort, hkept⟩ := gives_stallAccepted hlive (show exec (.refxEnWrite st v) s = _ from rfl)
      (s.dev.writeRefxEn_accepted st v h)
    exact ⟨t, ht, (congrArg (Stall.reg · k) hst).trans (Stall.refxEnabled_reg _ v s.dev.tick k), habort, hkept⟩

end Sys2Proof
end

section
namespace Sys2Proof.Machine
open Sys2Proof

/-! Commands whose row makes one thing of the module under what a clause assumes. -/

theorem next_in {s : State} {c : Instr} {f : Dev → Dev} {u : Dev} (h : s.inside) (he : exec c s = liveIn s f)
    (hf : f s.dev = u) : exec c s = .next (s.inTick u) := hf ▸ he.trans (liveIn_next s f h)

theorem next_at {s : State} {c : Instr} {f : Dev → Dev} {u : Dev} (h : s.live) (he : exec c s = liveAt s f)
    (hf : f s.dev = u) : exec c s = .next (s.atCommit u) := hf ▸ he.trans (liveAt_next s f h)

end Sys2Proof.Machine
end

section
namespace Sys2Proof.Machine
open Sys2Proof

/-! R178, R179, R181: what an AUX window of the regular sequence makes of its stall and of the open-wire check that it serves. -/

/-- A channel whose open-wire check alone changes. -/
def Channel.modOw (c : Channel) (f : OpenWire → OpenWire) : Channel := { c with ow := f c.ow }

/-- A module in which the open-wire check of one channel has changed leaves the channel's objects and force path, and every other
channel. -/
theorem Dev.owOnly {d t : Dev} {n : ChanId} {f : OpenWire → OpenWire} (h : t.chans = (d.modCh n (·.modOw f)).chans) :
    (t.ch n).ow = f (d.ch n).ow ∧ (t.ch n).regs = (d.ch n).regs ∧ (∀ m, m ≠ n → t.ch m = d.ch m) ∧
      (t.ch n).force = (d.ch n).force := by
  have hch : ∀ m, t.ch m = if m = n then (d.ch n).modOw f else d.ch m := fun m =>
    (congrArg (fun l : Vector Channel 64 => l[m]) h).trans (d.ch_modCh n m _)
  have hself : t.ch n = (d.ch n).modOw f := (hch n).trans (if_pos rfl)
  rw [hself]
  exact ⟨rfl, rfl, fun m hm => (hch m).trans (if_neg hm), rfl⟩

/-- A stall whose AUX converter has taken an input for a slot of a regular sequence of so many: the sequence goes on, and the
conversion is counted and seen at the AUX ports (R178, R179). -/
def Stall.auxTaken (x : Stall) (len input : Nat) (reading : Int) : Stall :=
  { x.inc 64 Obj.AUX_CONV with
    auxPos := (x.auxPos % len + 1) % len,
    auxSeen := x.auxSeen ++ (List.range 8).filterMap fun p => if auxConcerns input p then some (p, input, reading) else none }

theorem Stall.auxTaken_spec (x : Stall) (len input : Nat) (reading : Int) :
    (x.auxTaken len input reading).auxPos = (x.auxPos % len + 1) % len ∧
    (x.auxTaken len input reading).auxSeen =
      x.auxSeen ++ (List.range 8).filterMap (fun p => if auxConcerns input p then some (p, input, reading) else none) ∧
    (x.auxTaken len input reading).regs = (x.inc 64 Obj.AUX_CONV).regs := ⟨rfl, rfl, rfl⟩

/-- An open-wire check that reads the next difference of its polarity; the second ends the polarity (R181). -/
def OpenWire.read (o : OpenWire) (reading : Int) : OpenWire :=
  match o.phase with
  | .settlePos =>
    if o.taken = 0 then { o with aPos := reading, taken := 1 } else { o with bPos := reading, taken := 2, phase := .readPos }
  | .settleNeg =>
    if o.taken = 0 then { o with aNeg := reading, taken := 1 } else { o with bNeg := reading, taken := 2, phase := .readNeg }
  | .idle | .readPos | .readNeg => o

theorem OpenWire.read_pos (o : OpenWire) (reading : Int) (h : o.phase = .settlePos) : o.read reading =
    if o.taken = 0 then { o with aPos := reading, taken := 1 } else { o with bPos := reading, taken := 2, phase := .readPos } := by
  unfold OpenWire.read
  rw [h]

theorem OpenWire.read_neg (o : OpenWire) (reading : Int) (h : o.phase = .settleNeg) : o.read reading =
    if o.taken = 0 then { o with aNeg := reading, taken := 1 } else { o with bNeg := reading, taken := 2, phase := .readNeg } := by
  unfold OpenWire.read
  rw [h]

/-- The AUX input of the difference that an open-wire check reads next (R181). -/
def OpenWire.input (o : OpenWire) (p : Nat) : Nat := (if o.taken = 0 then 0x40 else 0x48) + p

section
variable (d : Dev) (st : StallId) (reading : Int)

/-- The number of slots of the regular AUX sequence (R179). -/
def Dev.auxLen : Nat := max 1 (d.sreg st Obj.AUX_LEN)

/-- The word of the slot of the regular AUX sequence whose turn it is (R179). -/
def Dev.auxWord : Nat := d.sreg st (Obj.AUX_SLOT ((d.st st).auxPos % d.auxLen st))

/-- The regular sequence has gone on to its next slot. -/
def Dev.auxNext : Dev := d.modSt st fun x => { x with auxPos := ((d.st st).auxPos % d.auxLen st + 1) % d.auxLen st }

theorem Dev.auxNext_take (input : Nat) :
    (d.auxNext st).auxTake st input reading = d.modSt st (·.auxTaken (d.auxLen st) input reading) := by
  unfold Dev.auxNext Dev.auxTake Dev.sinc
  rw [Dev.modSt_modSt, Dev.modSt_modSt]
  rfl

theorem Dev.auxNext_openWire (n : ChanId) :
    (d.auxNext st).auxOpenWire st n reading =
      (d.modSt st (·.auxTaken (d.auxLen st) ((d.ch n).ow.input (posOf n)) reading)).modCh n
        (·.modOw (·.read reading)) := by
  unfold Dev.auxOpenWire
  simp only [Dev.auxNext_take, beq_iff_eq]
  rfl

/-- A window with no injected slot, pulse or resolution to serve goes to the regular sequence (R178, R180, R219). -/
theorem Dev.auxWindow_regular (second : Bool) (hinj : (d.st st).auxInj = none) (hpulses : (d.st st).auxPulses = [])
    (hres : (d.st st).resQ = []) : d.auxWindow st second reading = Dev.auxRegular 16 d st reading := by
  have hidle : ∀ x, d.auxPulsesTo st x = d := by
    intro x
    unfold Dev.auxPulsesTo
    rw [hpulses]
    rfl
  unfold Dev.auxWindow
  simp only [hidle, hinj, hres]

/-- A FIXED slot takes the input that it names (R179). -/
theorem Dev.auxRegular_fixed (fuel : Nat) (hw : natBits (d.auxWord st) 15 12 = 5) :
    Dev.auxRegular (fuel + 1) d st reading =
      d.modSt st (·.auxTaken (d.auxLen st) (natBits (d.auxWord st) 11 0) reading) := by
  rw [← d.auxNext_take]
  unfold Dev.auxWord Dev.auxLen at hw
  unfold Dev.auxRegular
  simp only [hw]
  rfl

/-- An OPENWIRE slot takes the next difference of a check whose pulls have settled (R179, R181). -/
theorem Dev.auxRegular_openWire (fuel : Nat) (n : ChanId) (hw : natBits (d.auxWord st) 15 12 = 2)
    (hready : d.owReady st = some n) :
    Dev.auxRegular (fuel + 1) d st reading =
      (d.modSt st (·.auxTaken (d.auxLen st) ((d.ch n).ow.input (posOf n)) reading)).modCh n
        (·.modOw (·.read reading)) := by
  have hstays : ∀ f, (d.modSt st f).owReady st = some n := fun _ => hready
  rw [← d.auxNext_openWire]
  unfold Dev.auxWord Dev.auxLen at hw
  unfold Dev.auxRegular
  simp only [hw, hstays]
  rfl
end

section
variable (s : State) (st : StallId) (second : Bool) (reading : Int) (hin : s.inside)
include hin

theorem exec_auxWindow_off (hoff : (s.dev.st st).bufferOn = none) : exec (.auxWindow st second reading []) s = .next s :=
  next_in hin (show execAuxWindow st second reading [] s = _ from rfl) (if_pos (by rw [hoff]; rfl))

/-- A window of a buffer that is on, with no monitor in its band, no injected slot, pulse or resolution to serve. -/
theorem exec_auxWindow_regular (hon : (s.dev.st st).bufferOn.isSome = true) (hinj : (s.dev.st st).auxInj = none)
    (hpulses : (s.dev.st st).auxPulses = []) (hres : (s.dev.st st).resQ = []) :
    exec (.auxWindow st second reading []) s = .next (s.inTick (Dev.auxRegular 16 s.dev st reading)) := by
  have hnone : ¬ (s.dev.st st).bufferOn.isNone = true := by
    rw [← Option.not_isSome, hon]
    decide
  refine next_in hin (show execAuxWindow st second reading [] s = _ from rfl) ((if_neg hnone).trans ?_)
  rw [List.foldl_nil, ite_self, s.dev.auxWindow_regular st reading second hinj hpulses hres]
end

end Sys2Proof.Machine
end

section
namespace Sys2Proof.Machine
open Sys2Proof

/-! R181, R182: the stages of an open-wire check. -/

/-- An open-wire check whose pulls have just been switched on (R181). -/
def OpenWire.begun (o : OpenWire) (now : Tick) : OpenWire :=
  { o with phase := .settlePos, settled := false, since := now, taken := 0 }

/-- An open-wire check whose pulls have settled (R181). -/
def OpenWire.settles (o : OpenWire) : OpenWire := { o with settled := true }

/-- A channel whose open-wire check `o` is over with both leads whole and not OPEN before: half the differences are published and the
pulls are off (R182). -/
def Channel.owCleared (c : Channel) (o : OpenWire) (now : Tick) : Channel :=
  let c := { c with ow := { c.ow with phase := .idle, overH := 0, underH := o.underH + 1, overL := 0, underL := o.underL + 1 } }
  let c := (c.setReg Obj.OW_D_SNSH (unsignedOf 16 (satInt 16 (divRound (o.aPos - o.aNeg) 2)))).setReg Obj.OW_D_SNSL
    (unsignedOf 16 (satInt 16 (divRound (o.bPos - o.bNeg) 2)))
  ((c.setReg Obj.OW_RESULT 8).setReg Obj.OW_LAST_TICK now.toNat).inc 32 Obj.OW_COUNT

theorem Channel.owCleared_spec (c : Channel) (o : OpenWire) (now : Tick) :
    let g := c.owCleared o now
    g.ow.phase = .idle ∧ g.ow.overH = 0 ∧ g.ow.overL = 0 ∧ g.reg Obj.OW_RESULT = 8 ∧
      g.reg Obj.OW_D_SNSH = unsignedOf 16 (satInt 16 (divRound (o.aPos - o.aNeg) 2)) ∧
      g.reg Obj.OW_D_SNSL = unsignedOf 16 (satInt 16 (divRound (o.bPos - o.bNeg) 2)) ∧
      g.reg Obj.OW_LAST_TICK = now.toNat ∧ g.force = c.force := by
  simp [Channel.owCleared, Channel.inc, Channel.reg_setReg_eq]

/-- A lead that was not OPEN, with a difference within the limit, stays so (R182). -/
theorem leadJudge_within (above below : Nat) (twice : Int) (limit : Nat) (h : twice ≤ 200 * limit) :
    leadJudge false above below twice limit = (false, 0, below + 1) := if_neg (Int.not_lt.2 h)

section
variable (d : Dev) (n : ChanId)

/-- The channel that a stall checks next meets the conditions of a check (R181). -/
theorem Dev.owNext_eligible (st : StallId) (h : d.owNext st = some n) : d.owEligible n = true := List.find?_some h

/-- The module as such a check ends; the last channel of its stall ends a round (R182, R183). -/
def Dev.owCleared : Dev :=
  let t := d.modCh n (·.owCleared (d.ch n).ow d.tick)
  if (chansOf (stallOf n)).all fun m => decide (m ≤ n) || !t.owEligible m then
    t.setSreg (stallOf n) Obj.OW_ROUND_TICK t.tick.toNat
  else t

theorem Dev.owCleared_ch (m : ChanId) :
    (d.owCleared n).ch m = if m = n then (d.ch n).owCleared (d.ch n).ow d.tick else d.ch m := by
  have hmod := d.ch_modCh n m (·.owCleared (d.ch n).ow d.tick)
  unfold Dev.owCleared
  dsimp only
  split <;> exact hmod

theorem Dev.owCleared_flt : (d.owCleared n).flt = d.flt := by unfold Dev.owCleared; dsimp only; split <;> rfl
theorem Dev.owCleared_tick : (d.owCleared n).tick = d.tick := by unfold Dev.owCleared; dsimp only; split <;> rfl
end

section
variable (s : State) (n : ChanId)

theorem exec_owCheckStart_begins (hlive : s.live) (hnext : s.dev.owNext (stallOf n) = some n)
    (hidle : ∀ m, m ∈ chansOf (stallOf n) → (s.dev.ch m).ow.phase = .idle) :
    exec (.owCheckStart n) s = .next (s.atCommit ((s.dev.modCh n (·.modOw (·.begun s.dev.tick))).modSt
      (stallOf n) fun x => { x with owChan := posOf n })) := by
  have hfree : ¬ (s.dev.owNext (stallOf n) != some n ||
      (chansOf (stallOf n)).any fun m => (s.dev.ch m).ow.phase != .idle) = true := by
    simpa [hnext] using hidle
  exact next_at hlive (show execOwCheckStart n s = _ from rfl) (if_neg hfree)

theorem exec_owCheckStart_ineligible (hlive : s.live) (h : s.dev.owEligible n = false) :
    exec (.owCheckStart n) s = .next (s.atCommit s.dev) := by
  have hnext : s.dev.owNext (stallOf n) ≠ some n := fun e => Bool.eq_false_iff.1 h (s.dev.owNext_eligible n _ e)
  exact next_at hlive (show execOwCheckStart n s = _ from rfl) (if_pos (by simp [hnext]))

theorem exec_owSettleExpiry_early (hin : s.inside)
    (h : ticksFrom (s.dev.ch n).ow.since s.dev.tick < s.dev.sreg (stallOf n) Obj.OW_SETTLE) :
    exec (.owSettleExpiry n) s = .next s :=
  next_in hin (show execOwSettleExpiry n s = _ from rfl) (if_pos h)

theorem exec_owSettleExpiry_settles (hin : s.inside)
    (h : s.dev.sreg (stallOf n) Obj.OW_SETTLE ≤ ticksFrom (s.dev.ch n).ow.since s.dev.tick) :
    exec (.owSettleExpiry n) s = .next (s.inTick (s.dev.modCh n (·.modOw OpenWire.settles))) :=
  next_in hin (show execOwSettleExpiry n s = _ from rfl) (if_neg (Nat.not_lt.2 h))

theorem exec_owCheckDone_early (hlive : s.live) (h : (s.dev.ch n).ow.phase ≠ .readNeg) :
    exec (.owCheckDone n) s = .next (s.atCommit s.dev) :=
  next_at hlive (show execOwCheckDone n s = _ from rfl) (if_pos (bne_iff_ne.2 h))

section
variable (hlive : s.live) (hphase : (s.dev.ch n).ow.phase = .readNeg) (hres : (s.dev.ch n).reg Obj.OW_RESULT = 8)
  (hH : (s.dev.ch n).ow.aPos - (s.dev.ch n).ow.aNeg ≤ 200 * (s.dev.ch n).reg Obj.OW_LIMIT)
  (hL : (s.dev.ch n).ow.bPos - (s.dev.ch n).ow.bNeg ≤ 200 * (s.dev.ch n).reg Obj.OW_LIMIT)
include hlive hphase hres hH hL

theorem exec_owCheckDone_clears :
    exec (.owCheckDone n) s = .next (s.atCommit (s.dev.owCleared n).settleFaults) := by
  have hwhole : natBit 8 0 = false ∧ natBit 8 1 = false := by decide
  have hover : ¬ ((s.dev.ch n).ow.phase != .readNeg) = true := by rw [hphase]; decide
  refine next_at hlive (show execOwCheckDone n s = _ from rfl) ((if_neg hover).trans ?_)
  simp only [hres, hwhole.1, hwhole.2, leadJudge_within _ _ _ _ hH, leadJudge_within _ _ _ _ hL, Bool.false_and,
    Bool.false_eq_true, if_false]
  rfl

/-- A check that ends with both differences within the limit, at a commit with no fault to present (R182). -/
theorem gives_owCleared (hcalm : s.dev.calm = true) : Gives (.owCheckDone n) s fun t =>
    t.dev.ch n = (s.dev.ch n).owCleared (s.dev.ch n).ow s.dev.tick ∧ (∀ m, m ≠ n → t.dev.ch m = s.dev.ch m) ∧
      t.dev.flt.due = s.dev.flt.due ∧ t.shown = t.dev := by
  have hcalm' := Dev.calm_of_flt (s.dev.owCleared_flt n) (s.dev.owCleared_tick n) hcalm
  have hch : ∀ m, (s.dev.owCleared n).settleFaults.ch m = _ := fun m =>
    (Dev.settleFaults_ch _ hcalm' m).trans (s.dev.owCleared_ch n m)
  exact ⟨_, exec_owCheckDone_clears s n hlive hphase hres hH hL, (hch n).trans (if_pos rfl),
    fun m hm => (hch m).trans (if_neg hm),
    congrArg FaultMgr.due ((Dev.settleFaults_flt _ hcalm').trans (s.dev.owCleared_flt n)), rfl⟩
end
end

end Sys2Proof.Machine

namespace Sys2Proof
open Machine

/-- Settles O34: an AUX window by what it makes of its stall and of the channel that it checks (`Dev.auxRegular_fixed`,
`Dev.auxRegular_openWire`), each stage of a check by what its row leaves. -/
theorem auxWindowsAndOpenWireChecks : Obligations.AuxWindowsAndOpenWireChecks := by
  intro s n st second reading d c o x len w others takes
  have htakes : ∀ (t : State) input, t.dev.st st = x.auxTaken len input reading → t.shown = s.shown → takes t input := by
    intro t input hst hshown
    obtain ⟨hpos, hseen, hregs⟩ := x.auxTaken_spec len input reading
    rw [← hst] at hpos hseen hregs
    exact ⟨hpos, hseen, hregs, hshown⟩
  refine ⟨fun hin hoff => ⟨s, exec_auxWindow_off s st second reading hin hoff, rfl⟩, fun hin hon hinj hpulses hres => ?windows,
    fun hlive hnext hidle => ?start, fun hlive hnot => ⟨_, exec_owCheckStart_ineligible s n hlive hnot, rfl⟩,
    fun hin hlong => ?settles, fun hin hearly => ⟨s, exec_owSettleExpiry_early s n hin hearly, rfl⟩,
    fun hlive hphase hcalm hresult hH hL => ?done, fun hlive hphase => ⟨_, exec_owCheckDone_early s n hlive hphase, rfl⟩⟩
  case windows =>
    have hexec := exec_auxWindow_regular s st second reading hin hon hinj hpulses hres
    have htaken : ∀ input, (d.modSt st (·.auxTaken len input reading)).st st = x.auxTaken len input reading := fun _ =>
      (d.st_modSt st st _).trans (if_pos rfl)
    have hreads : natBits w 15 12 = 2 → d.owReady st = some n → Gives (.auxWindow st second reading []) s fun t =>
        takes t (o.input (posOf n)) ∧ (t.dev.ch n).ow = o.read reading ∧ others t := by
      intro hw hready
      rw [d.auxRegular_openWire st reading 15 n hw hready] at hexec
      obtain ⟨how, -, hothers⟩ := Dev.owOnly (d := d.modSt st (·.auxTaken len (o.input (posOf n)) reading)) (n := n)
        (f := (·.read reading)) rfl
      exact ⟨_, hexec, htakes _ _ (htaken _) rfl, how, hothers⟩
    refine ⟨fun hw => ?_, fun hw hready hphase => ?_, fun hw hready hphase => ?_⟩
    · rw [d.auxRegular_fixed st reading 15 hw] at hexec
      exact ⟨_, hexec, htakes _ _ (htaken _) rfl, rfl⟩
    · obtain ⟨t, ht, htake, how, hothers⟩ := hreads hw hready
      exact ⟨t, ht, htake, how.trans (o.read_pos reading hphase), hothers⟩
    · obtain ⟨t, ht, htake, how, hothers⟩ := hreads hw hready
      exact ⟨t, ht, htake, how.trans (o.read_neg reading hphase), hothers⟩
  case start =>
    obtain ⟨how, hregs, hothers⟩ := Dev.owOnly (d := d) (n := n) (f := (·.begun d.tick)) rfl
    exact ⟨_, exec_owCheckStart_begins s n hlive hnext hidle, how, hregs,
      congrArg Stall.owChan ((Dev.st_modSt ..).trans (if_pos rfl)), hothers, rfl⟩
  case settles =>
    obtain ⟨how, hregs, hothers⟩ := Dev.owOnly (d := d) (n := n) (f := OpenWire.settles) rfl
    exact ⟨_, exec_owSettleExpiry_settles s n hin hlong, how, hregs, hothers, rfl⟩
  case done =>
    obtain ⟨t, ht, hself, hothers, hdue, hshown⟩ := gives_owCleared s n hlive hphase hresult hH hL hcalm
    have hspec := c.owCleared_spec o d.tick
    rw [← hself] at hspec
    obtain ⟨hidle, hoverH, hoverL, hres, hsnsh, hsnsl, htick, hforce⟩ := hspec
    exact ⟨t, ht, hidle, hoverH, hoverL, hres, hsnsh, hsnsl, htick, hdue, ⟨hothers, hforce⟩, hshown⟩

end Sys2Proof
end

section
namespace Sys2Proof.Machine
open Sys2Proof

/-! R172: the calibration conversion of a converter that makes no other, and the slot word that its gain gives. -/

section
variable (d : Dev) (n : ChanId) (mi : Bool)

/-- A calibration point runs only while system calibration is in progress (R360, R361). -/
theorem Dev.sysPlan_inactive (h : d.sysActive = false) : d.sysPlan n = false := by
  have hmeasuring : d.cal.sys ≠ .measuring := fun e => absurd h (by simp [Dev.sysActive, e])
  simp [Dev.sysPlan, hmeasuring]

/-- A conversion that begins runs on its converter from its acquisition on (R157, R19). -/
theorem Dev.beginConv_run (kind : ConvKind) (slot word : Nat) (x : Tick × Nat) :
    (((d.beginConv n mi kind slot word x).ch n).conv mi).run =
      some (.of kind slot word x (((d.ch n).conv mi).acquireAt x)) := by
  unfold Dev.beginConv
  rw [Dev.ch_modCh, if_pos rfl, Channel.conv_modConv_same]

/-- Every sixteenth tick a converter that makes no regular conversion and is free begins a calibration conversion at the start of the
tick (R172). -/
theorem Dev.calConversion_free (hrole : d.role n = 0) (hsys : d.sysActive = false) (hconv : (d.ch n).converts = false)
    (hslot : ((d.ch n).conv mi).injSlot = none) (hrun : ((d.ch n).conv mi).run = none)
    (hpulses : ((d.ch n).conv mi).pulses = []) (htick : (d.tick.toNat + (4 * n.val + b2n mi)) % 16 = 0) :
    d.calConversion n mi = d.beginConv n mi .calibration 0 (calWord ((d.ch n).calGain mi d.tick)) (d.tick, 0) := by
  have hturn : d.calTick n mi = true := by simp [Dev.calTick, hconv, htick]
  have hyields : ∀ x, (d.modCh n fun c => c.modConv mi fun v => v.yields x) = d := by
    intro x
    refine d.modCh_id n _ ?_
    have hstays : ((d.ch n).conv mi).yields x = (d.ch n).conv mi := by unfold Conv.yields; rw [hrun]
    cases mi with
    | false => exact congrArg (fun v => { d.ch n with mv := v }) hstays
    | true => exact congrArg (fun v => { d.ch n with mi := v }) hstays
  unfold Dev.calConversion
  simp only [d.sysPlan_inactive n hsys, hconv, hturn, d.leaderOf_alone n hrole, d.pulsesTo_idle n mi _ hpulses, hslot, hyields, hrun]
  rfl
end

/-- A module in tick 0 whose channel 0, PARKED, holds 16 as the gain of its next calibration conversion of MV. -/
def strayGain : State :=
  let d := { Dev.reset with power := { Power.reset with released := true, analogUp := true } }
  let d := d.modCh 0 fun c => { c with mv := { c.mv with idleGain := 16 } }
  { dev := d, shown := d, prior := d, pending := [] }

theorem strayGain_exec : exec (.calConversion 0 false) strayGain =
    .next (strayGain.inTick (strayGain.dev.beginConv 0 false .calibration 0 (calWord 16) (0, 0))) := by
  have hgain : (strayGain.dev.ch 0).calGain false strayGain.dev.tick = 16 := by decide
  refine next_in ⟨rfl, rfl⟩ (show execCalConversion 0 false strayGain = _ from rfl) ((if_pos rfl).trans ?_)
  rw [strayGain.dev.calConversion_free 0 false (by decide) (by decide) (by decide) (by decide) (by decide) (by decide)
    (by decide), hgain]
  rfl

end Sys2Proof.Machine

namespace Sys2Proof
open Machine

/-- Refutes O33: the last clause has every calibration conversion acquire for 200 ns (ACQ 20) whatever number the converter holds as
its gain, and no hypothesis bounds that number by the four gains. At `strayGain` it is 16, which carries out of the PGA field of the
slot word into ACQ and makes it 21. -/
theorem not_conversionsBeginAndEnd : ¬ Obligations.ConversionsBeginAndEnd := by
  intro h
  obtain ⟨-, -, -, -, -, -, -, -, hcal⟩ :=
    h strayGain 0 false false 0 0 (0, 0) (.of .regular 0 0 (0, 0) (0, 0)) ⟨rfl, rfl⟩ (by decide) (by decide)
  obtain ⟨hturn, -⟩ := hcal (by decide) (by decide) (by decide) (by decide) (by decide) (by decide)
  obtain ⟨t, ht, ⟨q, hrun, -, -, hacq, -⟩, -⟩ := hturn (by decide)
  obtain rfl := Host.Outcome.next.inj (strayGain_exec.symm.trans ht)
  obtain rfl := Option.some.inj ((strayGain.dev.beginConv_run 0 false .calibration 0 (calWord 16) (0, 0)).symm.trans hrun)
  exact absurd hacq (by decide)

end Sys2Proof
end

section
namespace Sys2Proof.Machine
open Sys2Proof

/-! R203, R205, R206: what blocks, session ends and acknowledgements make of the result FIFO, and what they leave. -/

@[simp] theorem length_leBytes (n v : Nat) : (leBytes n v).length = n := by
  induction n generalizing v with
  | zero => rfl
  | succ n ih => exact congrArg (· + 1) (ih (v / 256))

/-- Nothing changes but the result FIFO and what a session draws: the channels stay, and of the device objects all but
LAST_WRITE_TICK. -/
structure Dev.SameObjects (d t : Dev) : Prop where
  chans : t.chans = d.chans
  regs  : ∀ k, k ≠ Obj.LAST_WRITE_TICK → t.reg k = d.reg k

namespace Dev.SameObjects

theorem trans {d t u : Dev} (h : Dev.SameObjects d t) (h' : Dev.SameObjects t u) : Dev.SameObjects d u :=
  ⟨h'.chans.trans h.chans, fun k hk => (h'.regs k hk).trans (h.regs k hk)⟩

theorem of_eq {d t : Dev} (hchans : t.chans = d.chans) (hregs : t.regs = d.regs) : Dev.SameObjects d t :=
  ⟨hchans, fun k _ => by unfold Dev.reg; rw [hregs]⟩

/-- An accepted write names its tick in LAST_WRITE_TICK alone (R38). -/
theorem accept (d : Dev) : Dev.SameObjects d d.accept where
  chans := d.accept_chans
  regs k hk := by
    unfold Dev.accept
    split
    · rfl
    · exact (Dev.reg_setReg_eq ..).trans (if_neg hk)

theorem modFifo (d : Dev) (f : Fifo → Fifo) : Dev.SameObjects d (d.modFifo f) := of_eq rfl rfl

end Dev.SameObjects

/-! ## Blocks (R205, Table 6-6) -/

section
variable (f : Fifo) (now : Tick) (last : Bool)

/-- The first 22 bytes of a block: its kind, its group, session and numbers, and its tick. -/
def Fifo.blockId : List Byte :=
  leBytes 2 0x4154 ++ leBytes 1 1 ++ leBytes 1 f.group.length ++ leBytes 4 f.session ++ leBytes 4 f.blkSeq ++
    leBytes 4 f.groupSeq ++ leBytes 6 now.toNat

/-- A block before its tag. -/
def Fifo.blockHead : List Byte :=
  f.blockId now ++ leBytes 2 (b2n (decide (f.group.length < 16)) + 2 * b2n last) ++ leBytes 4 f.droppedBlk ++ leBytes 4 0

/-- The tag over the tag before, the block and its group (R206). -/
def Fifo.blockTag : List Byte := bytesN 32 (Config.hmac32 f.key (f.prevTag ++ f.blockHead now last ++ f.group.flatten))

/-- The FIFO with the block over its group. -/
def Fifo.withBlock : Fifo :=
  { f with entries := f.entries ++ [.block (f.blockHead now last ++ f.blockTag now last)], group := [], blkSeq := f.blkSeq + 1,
           droppedBlk := 0, prevTag := f.blockTag now last }

theorem Fifo.length_blockId : (f.blockId now).length = 22 := by simp [Fifo.blockId]

theorem Fifo.length_blockHead : (f.blockHead now last).length = 32 := by simp [Fifo.blockHead, Fifo.length_blockId]

theorem Fifo.take_id_block : (f.blockHead now last ++ f.blockTag now last).take 22 = f.blockId now := by
  simp only [Fifo.blockHead, List.append_assoc]
  exact List.take_left' (f.length_blockId now)

theorem Fifo.take_head_block : (f.blockHead now last ++ f.blockTag now last).take 32 = f.blockHead now last :=
  List.take_left' (f.length_blockHead now last)

theorem Fifo.drop_head_block : (f.blockHead now last ++ f.blockTag now last).drop 32 = f.blockTag now last :=
  List.drop_left' (f.length_blockHead now last)
end

section
variable (d : Dev) (last roll : Bool)

/-- A group with records gets its block, and nothing else changes. -/
theorem Dev.formBlock_of_group (h : d.fifo.group ≠ []) : d.formBlock last = d.modFifo (·.withBlock d.tick last) := by
  have hsome : d.fifo.group.isEmpty = false := by simpa using h
  unfold Dev.formBlock
  simp only [hsome, Bool.false_eq_true, if_false]
  rfl

/-- A block takes one entry and ends the group; the session and its records stay. -/
theorem Dev.formBlock_fifo : ∃ e g n tag, (d.formBlock last).fifo =
    { d.fifo with entries := d.fifo.entries ++ [e], group := g, blkSeq := n, droppedBlk := 0, prevTag := tag } := by
  unfold Dev.formBlock
  dsimp only
  split <;> exact ⟨_, _, _, _, rfl⟩

theorem Dev.formBlock_sec : (d.formBlock last).sec = d.sec := by
  unfold Dev.formBlock
  dsimp only
  split <;> rfl

theorem Dev.formBlock_dict : (d.formBlock last).dict = d.dict := by
  unfold Dev.formBlock
  dsimp only
  split <;> rfl

theorem Dev.SameObjects.formBlock : Dev.SameObjects d (d.formBlock last) := by
  unfold Dev.formBlock
  dsimp only
  split <;> exact .of_eq rfl rfl

/-! ## The end of a session (R205, R206) -/

theorem Dev.SameObjects.finishSession : Dev.SameObjects d (d.finishSession roll) := by
  cases roll with
  | true => exact (Dev.SameObjects.formBlock d true).trans (.of_eq rfl rfl)
  | false => exact (Dev.SameObjects.formBlock d true).trans (.of_eq rfl rfl)

/-- The end of a session takes one entry, for its block, and no end waits after it; a roll begins the next session. -/
theorem Dev.finishSession_fifo : (d.finishSession roll).fifo.entries.length = d.fifo.entries.length + 1 ∧
    (d.finishSession roll).fifo.endWait = none ∧
    (d.finishSession roll).fifo.session = if roll then d.fifo.session + 1 else d.fifo.session := by
  obtain ⟨e, g, n, tag, hblock⟩ := d.formBlock_fifo true
  have hlen : (d.formBlock true).fifo.entries.length = d.fifo.entries.length + 1 := by rw [hblock]; simp
  have hsession : (d.formBlock true).fifo.session = d.fifo.session := by rw [hblock]
  cases roll with
  | true => exact ⟨hlen, rfl, congrArg (· + 1) hsession⟩
  | false => exact ⟨hlen, rfl, hsession⟩

/-- A roll begins the next session with its numbers at 0 and an empty group, and keeps the statement of the last (R206). -/
theorem Dev.rolled_session : (d.finishSession true).fifo.recSeq = 0 ∧ (d.finishSession true).fifo.blkSeq = 0 ∧
    (d.finishSession true).fifo.group = [] ∧ (d.finishSession true).fifo.droppedBlk = 0 ∧
    (d.finishSession true).sec.prevStatement = d.sec.statement :=
  ⟨rfl, rfl, rfl, rfl, congrArg Sec.statement (d.formBlock_sec true)⟩

theorem Dev.finishSession_dict : (d.finishSession roll).dict = d.dict := by
  cases roll <;> exact d.formBlock_dict true

/-- A session with no end that waits ends at once where an entry is free, and waits where none is (R204). -/
theorem Dev.endSession_of_session (hkey : d.fifo.key ≠ []) (hwait : d.fifo.endWait = none) : d.endSession roll =
    if d.fifo.free = 0 then d.modFifo fun f => { f with endWait := some ⟨roll⟩ } else d.finishSession roll := by
  simp [Dev.endSession, hkey, hwait]
end

/-! ## The commands -/

theorem exec_flushTimeout (s : State) : exec .flushTimeout s = liveAt s fun d =>
    if !d.fifo.group.isEmpty && decide (d.reg Obj.FLUSH_TICKS ≤ ticksFrom d.fifo.groupTick d.tick) && decide (0 < d.fifo.free) then
      d.formBlock false
    else d := rfl
theorem exec_resSessionFlush (s : State) : exec .resSessionFlush s = liveAt s fun d => d.flushSession := rfl
theorem exec_resSessionRoll (s : State) : exec .resSessionRoll s = liveAt s fun d => d.rollSession := rfl
theorem exec_fifoAck (count : BitVec 16) (s : State) : exec (.fifoAck count) s = liveAt s fun d => d.fifoAck count.toNat := rfl

/-- An end that waits ends its session once an entry is free (R204). -/
theorem exec_sessionEndDeferred_waiting {s : State} {roll : Bool} (hlive : s.live) (hwait : s.dev.fifo.endWait = some ⟨roll⟩)
    (hfree : 0 < s.dev.fifo.free) : exec .sessionEndDeferred s = .next (s.atCommit (s.dev.finishSession roll)) := by
  refine next_at hlive (show exec _ s = execSessionEndDeferred s from rfl) ?_
  simp only [hwait, hfree.ne', if_false]

theorem exec_sessionEndDeferred_idle {s : State} (hlive : s.live) (h : s.dev.fifo.endWait = none ∨ s.dev.fifo.free = 0) :
    exec .sessionEndDeferred s = .next (s.atCommit s.dev) := by
  refine next_at hlive (show exec _ s = execSessionEndDeferred s from rfl) ?_
  split
  · rfl
  · next w hw => exact if_pos (h.resolve_left fun hnone => by simp [hnone] at hw)

section
variable (d : Dev)

theorem Dev.flushSession_of_group (hgroup : d.fifo.group ≠ []) (hfree : 0 < d.fifo.free) (hdebug : d.sec.debug ≠ 3) :
    d.flushSession = d.accept.formBlock false := by
  simp [Dev.flushSession, hgroup, hfree.ne', hdebug]

theorem Dev.flushSession_of_no_group (hgroup : d.fifo.group = []) (hdebug : d.sec.debug ≠ 3) : d.flushSession = d.accept := by
  simp [Dev.flushSession, hgroup, hdebug]

theorem Dev.rollSession_accepted (hdebug : d.sec.debug ≠ 3) (hdrbg : d.sec.drbgFail = false) :
    d.rollSession = d.accept.endSession true := by
  simp [Dev.rollSession, hdebug, hdrbg]

/-- At D3 the host neither flushes nor rolls (R452). -/
theorem Dev.sessionCmd_debugging (hdebug : d.sec.debug = 3) : d.flushSession = d.refuse Obj.RES_SESSION_CMD abState ∧
    d.rollSession = d.refuse Obj.RES_SESSION_CMD abState := by
  simp [Dev.flushSession, Dev.rollSession, hdebug]
end

/-- What a block leaves of the FIFO and the module, for a command that accepts a write or makes none. -/
structure State.FormsBlock (s : State) (f : Fifo) (now : Tick) (t : State) : Prop where
  fifo  : t.dev.fifo = f.withBlock now false
  same  : Dev.SameObjects s.dev t.dev
  shown : t.shown = t.dev

/-- A command that makes of a module the block over its group, once it has accepted its write or not. -/
theorem gives_formsBlock {s : State} {c : Instr} {g : Dev → Dev} {u : Dev} (hlive : s.live) (he : exec c s = liveAt s g)
    (hg : g s.dev = u.formBlock false) (hsame : Dev.SameObjects s.dev u) (hfifo : u.fifo = s.dev.fifo) (htick : u.tick = s.dev.tick)
    (hgroup : s.dev.fifo.group ≠ []) : Gives c s (s.FormsBlock s.dev.fifo s.dev.tick) := by
  refine gives_at hlive he ?_
  rw [hg, u.formBlock_of_group false (hfifo ▸ hgroup), htick]
  exact ⟨congrArg (Fifo.withBlock · s.dev.tick false) hfifo, hsame.trans (.of_eq rfl rfl), rfl⟩

/-- A refused write of an object that is no channel's. -/
theorem gives_refused {s : State} {c : Instr} {g : Dev → Dev} {obj code : Nat} (hlive : s.live) (he : exec c s = liveAt s g)
    (hg : g s.dev = s.dev.refuse obj code) :
    Gives c s fun t => t.dev.fifo = s.dev.fifo ∧ t.dev.dict.abort = code ∧ t.dev.chans = s.dev.chans := by
  refine gives_at hlive he ?_
  rw [hg]
  exact ⟨s.dev.refuse_fifo obj code, congrArg Dict.abort (s.dev.refuse_dict obj code), s.dev.refuse_chans obj code⟩

end Sys2Proof.Machine

namespace Sys2Proof
open Machine

/-- Settles O38: blocks by `gives_formsBlock` and the layout of `Fifo.withBlock`, the end of a session by
`Dev.finishSession_fifo`, and refusals by `gives_refused`. -/
theorem blocksSessionsAndAcknowledgement : Obligations.BlocksSessionsAndAcknowledgement := by
  intro s count roll hlive d f kept forms
  have hforms : ∀ c, Gives c s (s.FormsBlock f d.tick) → forms c := by
    rintro c ⟨t, ht, hfifo, ⟨hchans, hregs⟩, hshown⟩
    have hb : (t.dev.fifo.entries.getLast?.map FifoEntry.bytes).getD [] = f.blockHead d.tick false ++ f.blockTag d.tick false := by
      rw [hfifo]; simp [Fifo.withBlock, FifoEntry.bytes]
    refine ⟨t, ht, ?_⟩
    dsimp only
    rw [hb, f.take_id_block, f.take_head_block, f.drop_head_block, hfifo]
    exact ⟨⟨rfl, rfl, rfl, rfl⟩, rfl, rfl, rfl, rfl, rfl, hchans, hregs, hshown⟩
  have hkept : ∀ u : Dev, Dev.SameObjects d u → kept (s.atCommit u) := fun u hu => ⟨hu.chans, hu.regs, rfl⟩
  refine ⟨fun hgroup hfree hlong => ?timeout, fun h => ?early, fun hgroup hfree hdebug => ?flush, fun hgroup hdebug => ?noGroup,
    fun hdebug => ?debugging, fun hdebug hdrbg hkey hwait => ⟨fun hfree => ?roll, fun hfree => ?rollWaits⟩,
    fun hwait hfree => ?deferred, fun h => ?notDeferred, fun hpos hle => ?ack, fun h => ?ackRefused⟩
  case timeout =>
    refine hforms _ (gives_formsBlock hlive (exec_flushTimeout s) (if_pos ?_) ⟨rfl, fun _ _ => rfl⟩ rfl rfl hgroup)
    have hgroup' : ¬ s.dev.fifo.group = [] := hgroup
    simpa [show 0 < s.dev.fifo.free from hfree, hgroup'] using hlong
  case early =>
    refine gives_at hlive (exec_flushTimeout s) (if_neg ?_)
    rcases h with hgroup | hshort
    · simp [show s.dev.fifo.group = [] from hgroup]
    · simp [show ¬ s.dev.reg Obj.FLUSH_TICKS ≤ ticksFrom s.dev.fifo.groupTick s.dev.tick from Nat.not_le.2 hshort]
  case flush =>
    exact hforms _ (gives_formsBlock hlive (exec_resSessionFlush s) (d.flushSession_of_group hgroup hfree hdebug) (.accept d)
      d.accept_fifo d.accept_tick hgroup)
  case noGroup =>
    refine gives_at hlive (exec_resSessionFlush s) ?_
    rw [d.flushSession_of_no_group hgroup hdebug]
    exact ⟨d.accept_fifo, d.accept_abort, hkept _ (.accept d)⟩
  case debugging =>
    obtain ⟨hflush, hroll⟩ := d.sessionCmd_debugging hdebug
    exact ⟨gives_refused hlive (exec_resSessionFlush s) hflush, gives_refused hlive (exec_resSessionRoll s) hroll⟩
  case roll =>
    refine gives_at hlive (exec_resSessionRoll s) ?_
    have hends := d.accept.endSession_of_session true (d.accept_fifo ▸ hkey) (d.accept_fifo ▸ hwait)
    rw [d.rollSession_accepted hdebug hdrbg, hends, d.accept_fifo, if_neg hfree.ne']
    obtain ⟨hlen, -, hsession⟩ := d.accept.finishSession_fifo true
    obtain ⟨hrec, hblk, hgroup, hdropped, hstatement⟩ := d.accept.rolled_session
    rw [d.accept_fifo] at hlen hsession
    rw [d.accept_sec] at hstatement
    exact ⟨hlen, hsession, hrec, hblk, hgroup, hdropped, hstatement,
      (congrArg Dict.abort (d.accept.finishSession_dict true)).trans d.accept_abort,
      hkept _ ((Dev.SameObjects.accept d).trans (.finishSession _ true))⟩
  case rollWaits =>
    refine gives_at hlive (exec_resSessionRoll s) ?_
    have hends := d.accept.endSession_of_session true (d.accept_fifo ▸ hkey) (d.accept_fifo ▸ hwait)
    rw [d.rollSession_accepted hdebug hdrbg, hends, d.accept_fifo, if_pos hfree]
    exact ⟨congrArg (fun f : Fifo => { f with endWait := some ⟨true⟩ }) d.accept_fifo, d.accept_abort,
      hkept _ ((Dev.SameObjects.accept d).trans (.modFifo _ _))⟩
  case deferred =>
    obtain ⟨hlen, hnone, hsession⟩ := d.finishSession_fifo roll
    exact ⟨_, exec_sessionEndDeferred_waiting hlive hwait hfree, hlen, hnone, hsession, hkept _ (.finishSession d roll)⟩
  case notDeferred => exact ⟨_, exec_sessionEndDeferred_idle hlive h, rfl⟩
  case ack =>
    have hin : ¬ (count.toNat = 0 ∨ count.toNat > min 16 f.readCnt) := by omega
    refine gives_at hlive (exec_fifoAck count s) ?_
    rw [show s.dev.fifoAck count.toNat = d.accept.releaseEntries count.toNat from if_neg hin]
    refine ⟨?_, d.accept_abort, hkept _ ((Dev.SameObjects.accept d).trans (.modFifo _ _))⟩
    rw [State.atCommit_dev, Dev.releaseEntries, Dev.modFifo_self, d.accept_fifo]
  case ackRefused =>
    obtain ⟨t, ht, hfifo, habort, hchans⟩ := gives_refused hlive (exec_fifoAck count s) (if_pos h)
    exact ⟨t, ht, hfifo, hchans, habort⟩

end Sys2Proof
end

section
namespace Sys2Proof.Machine
open Sys2Proof

/-! R195, R197: the activations that a commit has already brought to a unit, and those of an earlier commit. -/

theorem exec_tallyCmdAbort (n : ChanId) (units : BitVec 16) (s : State) :
    exec (.tallyCmdAbort n units) s = liveAt s fun d => d.tallyHost n 3 units := rfl

/-- A module at tick 0 whose channel 0 has every unit closed, and still holds what another commit, of tick 1, brought to unit 1,
which was open before it. -/
def staleDay : State :=
  let d := { Dev.reset with power := { Power.reset with released := true } }
  let d := d.modCh 0 fun c =>
    { c with unitsIn := { c.unitsIn with tick := 1 }, days := [(1, ⟨{ Tally.reset with isOpen := true }, TallyEv.none, 0⟩)] }
  { dev := d, shown := d, prior := d, pending := [] }

/-- An abort of units 0 and 1 writes a record, though no unit is open: with unit 0 the present commit becomes the one whose
activations the channel holds, and those of the other commit count for unit 1. -/
theorem staleDay_abort_recs : ((staleDay.dev.tallyHost 0 3 3).ch 0).recs.length = 1 := by decide

end Sys2Proof.Machine

namespace Sys2Proof
open Machine

/-- Refutes O36: `fresh` reads what a unit has had at the present commit from the state before the command, where a channel that has
had nothing at this commit may still hold the activations of another one. The first unit that a command names makes the present
commit the one that they belong to, and a later unit then takes its old ones: at `staleDay` an abort of two closed units
leaves a record. -/
theorem not_hostTallyCommands : ¬ Obligations.HostTallyCommands := by
  intro h
  obtain ⟨-, -, habort⟩ := h staleDay 0 3 rfl (by decide) (by decide)
  obtain ⟨t, ht, -, hrecs, -⟩ := habort (by decide) (by decide)
  obtain rfl := Host.Outcome.next.inj ((next_at (s := staleDay) rfl (exec_tallyCmdAbort 0 3 staleDay) rfl).symm.trans ht)
  have hlen := (congrArg List.length hrecs).symm.trans staleDay_abort_recs
  exact absurd hlen (by decide)

end Sys2Proof
end

section
namespace Sys2Proof.Machine
open Sys2Proof

/-! R311: an event of the fabric is a chain of changes of a few kinds, none of which reaches the result FIFO, the dictionary or the
words of a tally unit. -/

/-- From one module to another by changes of the kinds that an event of the fabric makes: to a channel but for the words of its
tally units, to a stall, to a device object, to the fabric, and to the trace. -/
inductive Dev.Ripples : Dev → Dev → Prop
  | refl (d : Dev) : Dev.Ripples d d
  | trans {d t u : Dev} : Dev.Ripples d t → Dev.Ripples t u → Dev.Ripples d u
  | modCh (d : Dev) (n : ChanId) (f : Channel → Channel)
      (hf : ∀ c k, 0x2000 ≤ k → k < 0x3000 → (f c).reg k = c.reg k := by intro c k _ _; rfl) : Dev.Ripples d (d.modCh n f)
  | modSt (d : Dev) (s : StallId) (f : Stall → Stall) : Dev.Ripples d (d.modSt s f)
  | setReg (d : Dev) (k v : Nat) : Dev.Ripples d (d.setReg k v)
  | withFab (d : Dev) (f : Fabric) : Dev.Ripples d { d with fab := f }
  | withSec (d : Dev) (x : Sec) : Dev.Ripples d { d with sec := x }

namespace Dev.Ripples

theorem fifo {d t : Dev} (h : Dev.Ripples d t) : t.fifo = d.fifo := by
  induction h with
  | trans _ _ h h' => exact h'.trans h
  | refl | modCh | modSt | setReg | withFab | withSec => rfl

theorem dict {d t : Dev} (h : Dev.Ripples d t) : t.dict = d.dict := by
  induction h with
  | trans _ _ h h' => exact h'.trans h
  | refl | modCh | modSt | setReg | withFab | withSec => rfl

/-- The words of a channel's tally units stay (Table 6-8). -/
theorem words {d t : Dev} (h : Dev.Ripples d t) (n : ChanId) (k : Nat) (hlo : 0x2000 ≤ k) (hhi : k < 0x3000) :
    (t.ch n).reg k = (d.ch n).reg k := by
  induction h with
  | trans _ _ h h' => exact h'.trans h
  | modCh d m f hf =>
    rw [Dev.ch_modCh]
    split
    · next e => rw [hf _ k hlo hhi, e]
    · rfl
  | refl | modSt | setReg | withFab | withSec => rfl

theorem ite {p : Prop} [Decidable p] {d t u : Dev} (ht : Dev.Ripples d t) (hu : Dev.Ripples d u) :
    Dev.Ripples d (if p then t else u) := by
  split
  · exact ht
  · exact hu

theorem foldl {α : Type} {f : Dev → α → Dev} (h : ∀ d x, Dev.Ripples d (f d x)) (l : List α) (d : Dev) :
    Dev.Ripples d (l.foldl f d) :=
  List.foldlRecOn l f (.refl d) fun _ hd x _ => hd.trans (h _ x)

section
variable (d : Dev) (n : ChanId) (mi : Bool) (x : Tick × Nat) (ev : Ev)

theorem arrive (key : Nat) : Dev.Ripples d (d.arrive key x) := withFab d _

theorem modConv (f : Conv → Conv) : Dev.Ripples d (d.modCh n fun c => c.modConv mi f) :=
  modCh d n _ fun c _ _ _ => by cases mi <;> rfl

theorem setCreg (k v : Nat) (hk : k < 0x2000 ∨ 0x3000 ≤ k) : Dev.Ripples d (d.setCreg n k v) :=
  modCh d n _ fun c j _ _ => c.reg_setReg_other k j v (by omega)

theorem cinc (w k : Nat) (hk : k < 0x2000 ∨ 0x3000 ≤ k := by decide) : Dev.Ripples d (d.cinc n w k) := setCreg d n k _ hk

theorem mergeCount (c : Nat) : Dev.Ripples d (d.cinc n 32 (Obj.MERGE_CNT c)) :=
  cinc d n 32 _ (.inr (Nat.le_trans (by decide) (Nat.le_add_right 0x412F c)))

/-! ## Converters -/

theorem overrun (c : Nat) : Dev.Ripples d (d.overrun n c) :=
  have h := (modCh d n fun ch => { ch with ovr := putBit ch.ovr c true }).trans
    (cinc _ n 32 (Obj.OVR_CNT c) (.inr (Nat.le_trans (by decide) (Nat.le_add_right 0x4103 c))))
  ite (h.trans (cinc _ n 32 _)) (ite (h.trans (cinc _ n 32 _)) h)

theorem startRegular : Dev.Ripples d (d.startRegular n mi x) := ite (modConv d n mi _) (modConv d n mi _)

theorem regularFire : Dev.Ripples d (d.regularFire n mi x) := by
  have hskip : ∀ d m, Dev.Ripples d (d.cinc m 32 (mvmi mi Obj.MV_SKIP_INJ Obj.MI_SKIP_INJ)) := fun d m =>
    cinc d m 32 _ (by cases mi <;> decide)
  have hmembers : ∀ (blocked : Dev → ChanId → Bool) y (l : List ChanId), Dev.Ripples d (l.foldl (fun d m =>
      if ((d.ch m).conv mi).injSlot.isSome then d.cinc m 32 (mvmi mi Obj.MV_SKIP_INJ Obj.MI_SKIP_INJ)
      else if blocked d m then d else d.startRegular m mi y) d) := fun _ y l =>
    foldl (fun d m => ite (hskip d m) (ite (refl d) (startRegular d m mi y))) l d
  exact ite (refl d) (ite ((hmembers _ _ _).trans (overrun _ n _)) (hmembers _ _ _))

theorem injectedFire : Dev.Ripples d (d.injectedFire n mi x) :=
  ite (refl d) (ite (overrun d n _) (foldl (fun d m => modConv d m mi _) _ d))

theorem pulseEnds (p : Pulse) : Dev.Ripples d (d.pulseEnds n mi p) :=
  ite (cinc d n 32 _) (ite (injectedFire d n mi _) (regularFire d n mi _))

theorem pulsesTo : Dev.Ripples d (d.pulsesTo n mi x) :=
  ite (refl d) ((modConv d n mi _).trans (foldl (fun d p => pulseEnds d n mi p) _ _))

theorem triggered (inj : Bool) (qual width : Nat) : Dev.Ripples d (d.triggered n mi inj qual width ev) := by
  unfold Dev.triggered
  refine (pulsesTo d n mi (addCyc ev.at' 1)).trans ?_
  cases qualify qual width ev with
  | nothing => exact refl _
  | fire => exact ite (injectedFire _ n mi _) (regularFire _ n mi _)
  | measure => exact ite (overrun _ n _) (modConv _ n mi _)

theorem regularTrigger : Dev.Ripples d (d.regularTrigger n mi ev) := ite (refl d) (triggered d n mi ev false _ _)

theorem injectedTrigger : Dev.Ripples d (d.injectedTrigger n mi ev) := ite (refl d) (triggered d n mi ev true _ _)

/-! ## The other consumers -/

theorem gustEdge : Dev.Ripples d (d.gustEdge n x) := by
  unfold Dev.gustEdge
  dsimp only
  cases (d.ch n).gust.armed with
  | none => exact refl d
  | some p => exact ite (refl d) (ite (overrun d n 9) (modCh d n _))

theorem collect (c : Nat) (busy : Bool) : Dev.Ripples d (d.collect n c busy ev) :=
  ite ((modCh d n _).trans (mergeCount _ n c)) (ite (overrun d n c) (modCh d n _))

theorem sineLoad (t : Tick) (sub : Nat) : Dev.Ripples d (d.modCh n fun c => c.sineLoad t sub) := by
  refine modCh d n _ fun c k hlo hhi => ?_
  have htick : k ≠ Obj.SINE_LOAD_TICK := Nat.ne_of_lt (Nat.lt_of_lt_of_le hhi (by decide))
  have hsub : k ≠ Obj.SINE_LOAD_SUB := Nat.ne_of_lt (Nat.lt_of_lt_of_le hhi (by decide))
  exact (Channel.reg_setReg_other _ _ _ _ hsub).trans (Channel.reg_setReg_other _ _ _ _ htick)

theorem sineReset : Dev.Ripples d (d.sineReset n x) :=
  ite (refl d) (ite (overrun d n 10) (ite (((modCh d n _).trans (sineLoad _ n _ _)).trans (cinc _ n 32 _)) (modCh d n _)))

theorem consume (c : Nat) : Dev.Ripples d (d.consume n c ev) := by
  unfold Dev.consume
  generalize (if c ≤ 11 then d.leaderOf n else n) = m
  have hhold : Dev.Ripples d (d.holdEdge m ev) := ite (collect d m ev 11 _) ((collect d m ev 11 _).trans (modCh _ m _))
  have hmerge := mergeCount d m c
  have harrive := arrive d ev.at' (64 * m.val + c)
  refine ite (collect d m ev c _) (ite (collect d m ev c _) (ite hhold (ite (collect d m ev c _)
    (ite (ite (hmerge.trans (modConv _ m _ _)) hmerge) (harrive.trans ?_)))))
  split
  · exact regularTrigger _ m false ev
  · exact regularTrigger _ m true ev
  · exact injectedTrigger _ m false ev
  · exact injectedTrigger _ m true ev
  · exact gustEdge _ m ev.at'
  · exact sineReset _ m ev.at'
end

/-! ## Output pins, stall triggers and tethers -/

section
variable (d : Dev) (s : StallId) (ev : Ev)

theorem drive (ovr : Nat) (p : OutPulse) : Dev.Ripples d (d.drive ovr p ev) := ite (setReg d _ _) (withFab d _)

theorem evioOut (k : Nat) : Dev.Ripples d (d.evioOut k ev) :=
  ite (refl d) (ite ((setReg d _ _).trans (withFab _ _)) ((arrive d _ _).trans (drive _ ev _ _)))

theorem mkoOut : Dev.Ripples d (d.mkoOut s ev) := ite (refl d) (ite (setReg d _ _) ((arrive d _ _).trans (drive _ ev _ _)))

theorem auxFire (x : Tick × Nat) : Dev.Ripples d (d.auxFire s x) := ite (modSt d s _) (modSt d s _)

theorem auxPulsesTo (x : Tick × Nat) : Dev.Ripples d (d.auxPulsesTo s x) :=
  have hdue := fun l d => foldl (f := fun d p => if p.ok then d.auxFire s p.edge else d)
    (fun d (p : Pulse) => ite (auxFire d s p.edge) (refl d)) l d
  ite (refl d) ((modSt d s _).trans (hdue _ _))

theorem auxTrigger : Dev.Ripples d (d.auxTrigger s ev) := by
  have hfirst := (arrive d ev.at' (4120 + s.val)).trans (auxPulsesTo _ s (addCyc ev.at' 1))
  unfold Dev.auxTrigger
  refine ite (refl d) (ite ((setReg d _ _).trans (modSt _ s _)) (hfirst.trans ?_))
  dsimp only
  generalize (d.arrive (4120 + s.val) ev.at').auxPulsesTo s (addCyc ev.at' 1) = t
  cases qualify (t.sreg s Obj.AUX_INJ_QUAL) (t.sreg s Obj.AUX_INJ_WIDTH) ev with
  | nothing => exact refl _
  | fire => exact auxFire _ s _
  | measure => exact ite (modSt _ s _) (modSt _ s _)

theorem deliver (t : Nat) : Dev.Ripples d (d.deliver t ev) := by
  refine (foldl (fun d n => foldl (fun d c => consume d n ev c) _ d) (List.finRange 64) d).trans
    (foldl (fun d e => ite (refl d) (ite (evioOut d ev _) ?_)) _ _)
  split
  · exact auxTrigger d _ ev
  split
  · exact mkoOut d _ ev
  · exact refl d

theorem carry (t : Nat) (inherited : List Nat) : Dev.Ripples d (d.carry t inherited ev) :=
  have hrep := ite (p := d.selectsAny t inherited = true)
    ((setReg d _ _).trans (withFab (d.inc 32 (Obj.TETH_LOOPS t)) { d.fab with loops := t :: d.fab.loops })) (refl d)
  ite hrep (hrep.trans ((setReg _ _ _).trans (deliver _ ev t)))

theorem fire (code : Nat) (inherited : List Nat) (high : Bool) (width cyc : Nat) :
    Dev.Ripples d (d.fire code inherited high width cyc) :=
  ite (setReg d _ _) ((withFab d _).trans ((ite (setReg _ _ _) (refl _)).trans (foldl (fun d t => carry d _ t _) _ _)))

/-- An event of the fabric at a commit. -/
theorem fireCommit (code : Nat) (inherited : List Nat) : Dev.Ripples d (d.fireCommit code inherited) :=
  (withSec d _).trans (fire _ code inherited true 2 8)
end

end Dev.Ripples

end Sys2Proof.Machine
end

section
namespace Sys2Proof.Machine
open Sys2Proof

/-! R194–R199: what the activation of one tally unit makes of the module, where no other has reached the unit at its commit. -/

/-! ## The stages of R195 for the activations of these rows -/

theorem TallyEv.none_and (ev : TallyEv) : TallyEv.none.and ev = ev := by simp [TallyEv.and, TallyEv.none]

section
variable (cfg : Nat) {isOpen : Bool} (may : Bool)

/-- A close event closes an open unit, which opens again where it is configured to and may. -/
theorem TallyEv.stages_closes (h : isOpen = true) :
    { TallyEv.none with closes := true }.stages cfg isOpen false may = ⟨some .configured, tcReopen cfg && may, 0⟩ := by
  simp [TallyEv.stages, TallyEv.none, b2n, h]

/-- A forced close gives its cause, and the unit stays closed. -/
theorem TallyEv.stages_forced (h : isOpen = true) (cause : CloseCause) :
    { TallyEv.none with forced := some cause }.stages cfg isOpen false may = ⟨some cause, false, 0⟩ := by
  simp [TallyEv.stages, TallyEv.none, b2n, h]

/-- A closed unit to which nothing comes stays closed. -/
theorem TallyEv.stages_none (h : isOpen = false) : TallyEv.none.stages cfg isOpen false may = ⟨Option.none, false, 0⟩ := by
  simp [TallyEv.stages, TallyEv.none, b2n, h]
end

/-- A commit that brings nothing to the units of a channel. -/
def UnitInputs.idle (now : Tick) : UnitInputs := { tick := now, was := 0, gates := 0, step := false, edges := [] }

theorem UnitInputs.idle_events (now : Tick) (u : Idx16) (cfg : Nat) : (UnitInputs.idle now).events u cfg = TallyEv.none := by
  simp [UnitInputs.events, UnitInputs.idle, TallyEv.none, bit]

/-! ## The stages of R195 for one unit -/

/-- The record that a unit leaves as it closes (R197). -/
def Channel.recordOf (c : Channel) (n : ChanId) (u : Idx16) (now : Tick) (cause : CloseCause) : TallyRec :=
  { chan := n.val, unit := u.val, src := tcSource (c.reg (Obj.TALLY_CFG u.val)), cause := cause, closed := now,
    cfg := c.reg (Obj.TALLY_CFG u.val), filt := c.reg (Obj.TALLY_FILT u.val), body := c.tally[u] }

/-- A unit that has just opened (R192). -/
def Channel.openedUnit (c : Channel) (u : Idx16) (now : Tick) (gen : Nat) : Tally :=
  { Tally.reset with isOpen := true, openTick := now, gen := gen, rangeV := (c.sourceRange (c.reg (Obj.TALLY_CFG u.val))).1,
                     range := (c.sourceRange (c.reg (Obj.TALLY_CFG u.val))).2 }

/-- A unit after the stages of R195. -/
def Channel.unitAfter (c : Channel) (u : Idx16) (now : Tick) (gen : Nat) (out : TallyOut) : Tally :=
  if out.opens then c.openedUnit u now gen
  else if out.cause.isSome || !c.tally[u].isOpen then Tally.reset
  else c.tally[u]

theorem Channel.unitAfter_closes (c : Channel) (u : Idx16) (now : Tick) (gen : Nat) {out : TallyOut} (h : out.cause.isSome = true) :
    c.unitAfter u now gen out = if out.opens then c.openedUnit u now gen else Tally.reset := by
  simp [Channel.unitAfter, h]

theorem Channel.modTally_self (c : Channel) (u : Idx16) : (c.modTally u fun _ => c.tally[u]) = c :=
  congrArg (fun v => { c with tally := v }) (Vector.set_getElem_self ..)

/-- A channel that has noted the first activation of a unit at a commit, and the record it leaves. -/
def Channel.noteDay (c : Channel) (n : ChanId) (u : Idx16) (now : Tick) (ev : TallyEv) (cause : Option CloseCause) : Channel :=
  { c with
    recs := c.recs ++ (cause.map (c.recordOf n u now)).toList,
    days := (u.val, ⟨c.tally[u], ev, 0⟩) :: c.days.filter (·.1 != u.val),
    unitsIn := if c.unitsIn.tick = now then c.unitsIn else UnitInputs.idle now }

/-- What the stages of R195 make of the channel of a unit that no other activation has reached at the commit. -/
def Channel.withDay (c : Channel) (n : ChanId) (u : Idx16) (now : Tick) (gen : Nat) (ev : TallyEv) (out : TallyOut) : Channel :=
  (c.noteDay n u now ev out.cause).modTally u fun _ => c.unitAfter u now gen out

/-- The close producer of a channel fires where CLOSE_EVT_MASK selects a unit that has closed (R197). -/
def Dev.closeEvent (d : Dev) (n : ChanId) (u : Idx16) (cause : Option CloseCause) (origin : List Nat) : Dev :=
  if cause.isSome && natBit (d.creg n Obj.CLOSE_EVT_MASK) u.val && !d.fab.fired.contains (chProd n 14) then
    d.fireCommit (chProd n 14) origin
  else d

section
variable (d : Dev) (n : ChanId) (u : Idx16)

theorem Dev.ripples_closeEvent (cause : Option CloseCause) (origin : List Nat) :
    Dev.Ripples d (d.closeEvent n u cause origin) := .ite (.fireCommit d _ _) (.refl d)

theorem Dev.closeEvent_cores (cause : Option CloseCause) (origin : List Nat) : (d.closeEvent n u cause origin).cores = d.cores := by
  unfold Dev.closeEvent
  split
  · exact d.fireCommit_cores _ _
  · rfl

/-- A unit that stays open, or that the mask does not select, has no event. -/
theorem Dev.closeEvent_silent (cause : Option CloseCause) (origin : List Nat)
    (h : cause = none ∨ natBit (d.creg n Obj.CLOSE_EVT_MASK) u.val = false) : d.closeEvent n u cause origin = d := by
  rcases h with h | h <;> simp [Dev.closeEvent, h]

theorem Dev.sysOn_inactive (h : d.sysActive = false) : d.sysOn n = false := by simp [Dev.sysOn, h]

/-- A unit that no activation has reached at the present commit. -/
def Dev.freshDay : TallyDay := ⟨(d.ch n).tally[u], TallyEv.none, 0⟩

/-- The first activation of a unit at a commit. -/
theorem Dev.tallyStages_fresh (ev : TallyEv) (hday : (d.ch n).dayOf u d.tick = d.freshDay n u) :
    d.tallyStages n u ev = d.tallyDay n u (d.freshDay n u) ev := by
  unfold Dev.tallyStages
  rw [hday]
  exact congrArg (d.tallyDay n u (d.freshDay n u)) ev.none_and

/-- A unit is whole: while it is open, the range of its quantity is that with which it opened (R192). -/
def Dev.unitWhole : Prop :=
  (d.ch n).tally[u].isOpen = true →
  ((d.ch n).tally[u].rangeV, (d.ch n).tally[u].range) = (d.ch n).sourceRange ((d.ch n).reg (Obj.TALLY_CFG u.val))

/-- Once its channel has noted the activation, the unit itself turns. -/
theorem Dev.unit_turns (ev : TallyEv) (out : TallyOut) :
    (if out.opens then (d.modCh n fun c => c.noteDay n u d.tick ev out.cause).tallyOpen n u
      else if out.cause.isSome || !(d.ch n).tally[u].isOpen then
        (d.modCh n fun c => c.noteDay n u d.tick ev out.cause).modCh n fun c => c.modTally u fun _ => Tally.reset
      else d.modCh n fun c => c.noteDay n u d.tick ev out.cause) =
    d.modCh n fun c => c.withDay n u d.tick d.sync.gen ev out := by
  have hturn : ∀ x, (d.ch n).unitAfter u d.tick d.sync.gen out = x →
      (d.modCh n fun c => c.noteDay n u d.tick ev out.cause).modCh n (fun c => c.modTally u fun _ => x) =
        d.modCh n fun c => c.withDay n u d.tick d.sync.gen ev out := by
    rintro x rfl
    exact d.modCh_modCh n _ _
  split
  · next hopens =>
    unfold Dev.tallyOpen Dev.creg
    rw [Dev.ch_modCh, if_pos rfl]
    exact hturn _ (if_pos hopens)
  split
  · next hopens hcloses => exact hturn _ ((if_neg hopens).trans (if_pos hcloses))
  · next hopens hstays =>
    have hsame : (d.ch n).unitAfter u d.tick d.sync.gen out = (d.ch n).tally[u] := (if_neg hopens).trans (if_neg hstays)
    refine (Dev.modCh_id _ n (fun c => c.modTally u fun _ => (d.ch n).tally[u]) ?_).symm.trans (hturn _ hsame)
    rw [Dev.ch_modCh, if_pos rfl]
    exact Channel.modTally_self ((d.ch n).noteDay n u d.tick ev out.cause) u

/-- The stages of R195 for a whole unit on its first activation at a commit, none of them ignored: its channel takes what they
give, and its close event fires. -/
theorem Dev.tallyDay_fresh {ev : TallyEv} {out : TallyOut} (hsys : d.sysActive = false)
    (hrecs : ∀ r, r ∈ (d.ch n).recs → r.closed ≠ d.tick) (hwhole : d.unitWhole n u)
    (hout : ev.stages ((d.ch n).reg (Obj.TALLY_CFG u.val)) (d.ch n).tally[u].isOpen false (d.ch n).mayOpen = out)
    (hignored : out.ignored = 0) :
    d.tallyDay n u (d.freshDay n u) ev =
      (d.modCh n fun c => c.withDay n u d.tick d.sync.gen ev out).closeEvent n u out.cause ev.origin := by
  have hsplit : ((d.ch n).tally[u].isOpen && (((d.ch n).tally[u].rangeV, (d.ch n).tally[u].range) !=
      (d.ch n).sourceRange ((d.ch n).reg (Obj.TALLY_CFG u.val)))) = false := by
    cases hopen : (d.ch n).tally[u].isOpen with
    | false => rfl
    | true => rw [hwhole hopen]; simp
  have hmay : ((d.ch n).mayOpen && !d.sysOn n) = (d.ch n).mayOpen := by simp [d.sysOn_inactive n hsys]
  have hkeep : ((d.ch n).recs.filter fun x => !(x.unit == u.val && x.closed == d.tick)) = (d.ch n).recs :=
    List.filter_eq_self.2 fun r hr => by simp [hrecs r hr]
  unfold Dev.tallyDay Dev.closeEvent
  dsimp only [Dev.freshDay]
  simp only [hsplit, hmay, hout, hkeep, hignored, Nat.lt_irrefl, if_false, Nat.sub_self, List.range_zero, List.foldl_nil]
  exact congrArg (fun t : Dev => t.closeEvent n u out.cause ev.origin) (d.unit_turns n u ev out)

end

/-- From one module to another a unit of a channel becomes `x`, and the records of the channel that wait become `recs`; the other
units, the force path, the other channels and the result FIFO stay. -/
structure Dev.UnitTurns (n : ChanId) (u : Idx16) (x : Tally) (recs : List TallyRec) (d t : Dev) : Prop where
  unit   : (t.ch n).tally[u] = x
  recs   : (t.ch n).recs = recs
  units  : ∀ v, v ≠ u → (t.ch n).tally[v] = (d.ch n).tally[v]
  force  : (t.ch n).force = (d.ch n).force
  others : ∀ m, m ≠ n → (t.ch m).still = (d.ch m).still
  fifo   : t.fifo = d.fifo
  abort  : t.dict.abort = d.dict.abort

section
variable (d : Dev) (n : ChanId) (u : Idx16) {ev : TallyEv} {out : TallyOut}

/-- The stages of R195 have turned the unit in its channel, and the close event keeps that (R311). -/
theorem Dev.still_withDay (origin : List Nat) (m : ChanId) :
    (((d.modCh n fun c => c.withDay n u d.tick d.sync.gen ev out).closeEvent n u out.cause origin).ch m).still =
      if m = n then ((d.ch n).withDay n u d.tick d.sync.gen ev out).still else (d.ch m).still := by
  refine (Dev.still_of_cores (Dev.closeEvent_cores _ n u out.cause origin) m).trans ?_
  rw [Dev.ch_modCh]
  split <;> rfl

theorem Dev.unitTurns_withDay (origin : List Nat) : Dev.UnitTurns n u ((d.ch n).unitAfter u d.tick d.sync.gen out)
    ((d.ch n).recs ++ (out.cause.map ((d.ch n).recordOf n u d.tick)).toList) d
    ((d.modCh n fun c => c.withDay n u d.tick d.sync.gen ev out).closeEvent n u out.cause origin) := by
  have hstill := d.still_withDay n u (ev := ev) (out := out) origin
  have hripples := Dev.ripples_closeEvent (d.modCh n fun c => c.withDay n u d.tick d.sync.gen ev out) n u out.cause origin
  generalize (d.modCh n fun c => c.withDay n u d.tick d.sync.gen ev out).closeEvent n u out.cause origin = t at hstill hripples ⊢
  have hn := (hstill n).trans (if_pos rfl)
  have hunit : ∀ v, (t.ch n).tally[v] = if v = u then (d.ch n).unitAfter u d.tick d.sync.gen out else (d.ch n).tally[v] := fun v =>
    (congrArg (fun c : Channel => c.tally[v]) hn : _).trans (Vector.getF_set ..)
  exact ⟨(hunit u).trans (if_pos rfl), (congrArg Channel.recs hn : _), fun v hv => (hunit v).trans (if_neg hv),
    (congrArg Channel.force hn : _), fun m hm => (hstill m).trans (if_neg hm), hripples.fifo, congrArg Dict.abort hripples.dict⟩

/-- The activations of the commit that a channel holds once one has reached a unit. -/
theorem Dev.unitsIn_withDay (origin : List Nat) :
    (((d.modCh n fun c => c.withDay n u d.tick d.sync.gen ev out).closeEvent n u out.cause origin).ch n).unitsIn =
      if (d.ch n).unitsIn.tick = d.tick then (d.ch n).unitsIn else UnitInputs.idle d.tick :=
  (congrArg Channel.unitsIn ((d.still_withDay n u origin n).trans (if_pos rfl)) : _)

theorem Dev.regs_modCh_withDay :
    ((d.modCh n fun c => c.withDay n u d.tick d.sync.gen ev out).ch n).regs = (d.ch n).regs := by
  rw [Dev.ch_modCh, if_pos rfl]
  rfl

/-- The words of a channel's units stay, whether or not the close event fires. -/
theorem Dev.words_withDay (origin : List Nat) (k : Nat) (hlo : 0x2000 ≤ k) (hhi : k < 0x3000) :
    (((d.modCh n fun c => c.withDay n u d.tick d.sync.gen ev out).closeEvent n u out.cause origin).ch n).reg k =
      (d.ch n).reg k :=
  ((Dev.ripples_closeEvent _ n u _ _).words n k hlo hhi).trans (congrArg (sget (chDefault k) · k) (d.regs_modCh_withDay n u))

/-- With no close event every object of the channel stays. -/
theorem Dev.regs_withDay (origin : List Nat)
    (h : out.cause = none ∨ natBit ((d.ch n).reg Obj.CLOSE_EVT_MASK) u.val = false) :
    (((d.modCh n fun c => c.withDay n u d.tick d.sync.gen ev out).closeEvent n u out.cause origin).ch n).regs = (d.ch n).regs := by
  have hregs := d.regs_modCh_withDay n u (ev := ev) (out := out)
  rw [Dev.closeEvent_silent _ n u _ _ (h.imp_right fun hmask => ?_)]
  · exact hregs
  · exact (congrArg (fun l => natBit (sget (chDefault Obj.CLOSE_EVT_MASK) l Obj.CLOSE_EVT_MASK) u.val) hregs).trans hmask

variable (hsys : d.sysActive = false) (hrecs : ∀ r, r ∈ (d.ch n).recs → r.closed ≠ d.tick) (hwhole : d.unitWhole n u)
include hsys hrecs hwhole

/-- The stages of R195 for a whole unit on its first activation at a commit, none of them ignored. -/
theorem Dev.unitTurns_tallyDay
    (hout : ev.stages ((d.ch n).reg (Obj.TALLY_CFG u.val)) (d.ch n).tally[u].isOpen false (d.ch n).mayOpen = out)
    (hignored : out.ignored = 0) : Dev.UnitTurns n u ((d.ch n).unitAfter u d.tick d.sync.gen out)
      ((d.ch n).recs ++ (out.cause.map ((d.ch n).recordOf n u d.tick)).toList) d (d.tallyDay n u (d.freshDay n u) ev) := by
  rw [d.tallyDay_fresh n u hsys hrecs hwhole hout hignored]
  exact d.unitTurns_withDay n u ev.origin

/-- A forced close of an open unit (R196, R199). -/
theorem Dev.unitTurns_forced (cause : CloseCause) (hopen : (d.ch n).tally[u].isOpen = true) :
    Dev.UnitTurns n u Tally.reset ((d.ch n).recs ++ [(d.ch n).recordOf n u d.tick cause]) d
      (d.tallyDay n u (d.freshDay n u) { TallyEv.none with forced := some cause }) :=
  d.unitTurns_tallyDay n u hsys hrecs hwhole (TallyEv.stages_forced _ _ hopen cause) rfl

omit hwhole in
/-- A closed unit to which nothing comes leaves no record, and every object of its channel stays (R195). -/
theorem Dev.unitTurns_nothing (hclosed : (d.ch n).tally[u].isOpen = false) :
    Dev.UnitTurns n u Tally.reset (d.ch n).recs d (d.tallyDay n u (d.freshDay n u) TallyEv.none) ∧
      ((d.tallyDay n u (d.freshDay n u) TallyEv.none).ch n).regs = (d.ch n).regs := by
  have hwhole : d.unitWhole n u := fun hopen => absurd hopen (Bool.eq_false_iff.1 hclosed)
  have hout := TallyEv.stages_none ((d.ch n).reg (Obj.TALLY_CFG u.val)) (d.ch n).mayOpen hclosed
  have hturns := d.unitTurns_tallyDay n u hsys hrecs hwhole hout rfl
  have hreset : (d.ch n).unitAfter u d.tick d.sync.gen ⟨none, false, 0⟩ = Tally.reset :=
    (if_neg Bool.false_ne_true).trans (if_pos (by rw [hclosed]; rfl))
  rw [hreset] at hturns
  refine ⟨List.append_nil (d.ch n).recs ▸ hturns, ?_⟩
  rw [d.tallyDay_fresh n u hsys hrecs hwhole hout rfl]
  exact d.regs_withDay n u _ (.inl rfl)

/-- A close event of its close source closes an open unit; it opens again where it is configured to and may (R194, R195). -/
theorem Dev.unitTurns_closes (hday : (d.ch n).dayOf u d.tick = d.freshDay n u) (hopen : (d.ch n).tally[u].isOpen = true) :
    Dev.UnitTurns n u (if tcReopen ((d.ch n).reg (Obj.TALLY_CFG u.val)) && (d.ch n).mayOpen
        then (d.ch n).openedUnit u d.tick d.sync.gen else Tally.reset)
      ((d.ch n).recs ++ [(d.ch n).recordOf n u d.tick .configured]) d
      (d.tallyStages n u { TallyEv.none with closes := true }) := by
  have h := d.unitTurns_tallyDay n u hsys hrecs hwhole (TallyEv.stages_closes _ _ hopen) rfl
  rw [Channel.unitAfter_closes _ _ _ _ rfl] at h
  rw [d.tallyStages_fresh n u _ hday]
  exact h

end

end Sys2Proof.Machine
end

section
namespace Sys2Proof.Machine
open Sys2Proof

/-! R199: the write of a word of a tally unit. -/

section
variable (d : Dev) (n : ChanId) (u : Idx16) (w : TallyWord) (v : Nat)

/-- The word of a unit takes a value that is to be kept (R384). -/
def Dev.putWord : Dev := (d.keep (chObj n (tallyObj w u)) (d.creg n (tallyObj w u))).setCreg n (tallyObj w u) v

theorem Dev.tallyWrite_accepted (h : (d.ch n).tallyWordOk w u v = true) :
    d.tallyWrite n u w v = d.accept.tallyReconfig n u (·.putWord n u w v) := if_pos h

theorem Dev.tallyWrite_refused (h : (d.ch n).tallyWordOk w u v = false) :
    d.tallyWrite n u w v = d.refuse (chObj n (tallyObj w u)) abRange := if_neg (Bool.eq_false_iff.1 h)

theorem Dev.putWord_ch : (d.putWord n u w v).ch n = (d.ch n).setReg (tallyObj w u) v := by
  unfold Dev.putWord Dev.setCreg
  rw [Dev.ch_modCh, if_pos rfl, Dev.keep_ch]

/-- The write itself turns no unit. -/
theorem Dev.unitTurns_putWord : Dev.UnitTurns n u (d.ch n).tally[u] (d.ch n).recs d (d.putWord n u w v) where
  unit := by rw [d.putWord_ch]; rfl
  recs := by rw [d.putWord_ch]; rfl
  units _ _ := by rw [d.putWord_ch]; rfl
  force := by rw [d.putWord_ch]; rfl
  others m hm := by
    unfold Dev.putWord Dev.setCreg
    rw [Dev.ch_modCh, if_neg hm, Dev.keep_ch]
  fifo := rfl
  abort := rfl

/-- The objects of a unit's words are apart from one another (Table 6-8). -/
theorem tallyObj_eq_cfg_iff : Obj.TALLY_CFG u.val = tallyObj w u ↔ w = .cfg := by
  cases w <;> simp [tallyObj]

theorem tallyCfg_range : 0x2000 ≤ Obj.TALLY_CFG u.val ∧ Obj.TALLY_CFG u.val < 0x3000 := by
  unfold Obj.TALLY_CFG
  omega

theorem Dev.putWord_cfg : ((d.putWord n u w v).ch n).reg (Obj.TALLY_CFG u.val) =
    if w = .cfg then v else (d.ch n).reg (Obj.TALLY_CFG u.val) := by
  rw [d.putWord_ch, Channel.reg_setReg_eq]
  exact if_congr (tallyObj_eq_cfg_iff u w) rfl rfl

/-- What a write in range makes of the module: its unit turns, the object takes the value, and no other object of the channel
changes unless the close event of the unit may fire. -/
structure Dev.WordWritten (x : Tally) (recs : List TallyRec) (t : Dev) : Prop extends Dev.UnitTurns n u x recs d t where
  word  : (t.ch n).reg (tallyObj w u) = v
  quiet : natBit ((d.ch n).reg Obj.CLOSE_EVT_MASK) u.val = false → ∀ k, k ≠ tallyObj w u → (t.ch n).reg k = (d.ch n).reg k
end

theorem Dev.UnitTurns.trans {d t r : Dev} {n : ChanId} {u : Idx16} {x y : Tally} {recs recs' : List TallyRec}
    (h : Dev.UnitTurns n u x recs d t) (h' : Dev.UnitTurns n u y recs' t r) : Dev.UnitTurns n u y recs' d r :=
  ⟨h'.unit, h'.recs, fun v hv => (h'.units v hv).trans (h.units v hv), h'.force.trans h.force,
    fun m hm => (h'.others m hm).trans (h.others m hm), h'.fifo.trans h.fifo, h'.abort.trans h.abort⟩

theorem Dev.UnitTurns.putWord {d t : Dev} {n : ChanId} {u : Idx16} {x : Tally} {recs : List TallyRec}
    (h : Dev.UnitTurns n u x recs d t) (w : TallyWord) (v : Nat) : Dev.UnitTurns n u x recs d (t.putWord n u w v) := by
  have h' := t.unitTurns_putWord n u w v
  rw [h.unit, h.recs] at h'
  exact h.trans h'

section
variable (d : Dev) (n : ChanId) (u : Idx16) (w : TallyWord) (v : Nat) (hsys : d.sysActive = false)
  (hrecs : ∀ r, r ∈ (d.ch n).recs → r.closed ≠ d.tick) (hwhole : d.unitWhole n u)
  (hday : (d.ch n).dayOf u d.tick = d.freshDay n u)
  (hquiet : (d.ch n).unitsIn.tick = d.tick →
    (d.ch n).unitsIn.events u (if w = .cfg then v else (d.ch n).reg (Obj.TALLY_CFG u.val)) = TallyEv.none)

include hday in
/-- An open unit closes with RECONFIG before its word changes, and stays closed where its new words bring nothing to it. -/
theorem Dev.tallyReconfig_open (put : Dev → Dev) (hopen : (d.ch n).tally[u].isOpen = true) {t : Dev}
    (ht : put (d.tallyDay n u (d.freshDay n u) { TallyEv.none with forced := some .reconfig }) = t)
    (hnew : (t.ch n).unitsIn.tick = t.tick →
      (t.ch n).unitsIn.events u ((t.ch n).reg (Obj.TALLY_CFG u.val)) = TallyEv.none) :
    d.tallyReconfig n u put = t := by
  have hopens : (if (t.ch n).unitsIn.tick = t.tick then (t.ch n).unitsIn.events u ((t.ch n).reg (Obj.TALLY_CFG u.val))
      else TallyEv.none).opens = false := by
    split
    · next h => rw [hnew h]; rfl
    · rfl
  unfold Dev.tallyReconfig
  rw [hday]
  dsimp only [Dev.freshDay] at ht ⊢
  simp only [hopen, if_true, TallyEv.none, Bool.false_and, Bool.or_false] at ht hopens ⊢
  rw [ht]
  simp only [hopens, Bool.false_and, Bool.false_eq_true, if_false]

include hday in
/-- A closed unit to which its new words bring nothing takes its new words alone. -/
theorem Dev.tallyReconfig_closed (put : Dev → Dev) (hclosed : (d.ch n).tally[u].isOpen = false) {t : Dev} (ht : put d = t)
    (hnew : (t.ch n).unitsIn.tick = t.tick →
      (t.ch n).unitsIn.events u ((t.ch n).reg (Obj.TALLY_CFG u.val)) = TallyEv.none) :
    d.tallyReconfig n u put = if (d.ch n).reg (Obj.TALLY_CFG u.val) = (t.ch n).reg (Obj.TALLY_CFG u.val) then t
      else t.tallyDay n u (d.freshDay n u) TallyEv.none := by
  have hnone : (if (t.ch n).unitsIn.tick = t.tick then (t.ch n).unitsIn.events u ((t.ch n).reg (Obj.TALLY_CFG u.val))
      else TallyEv.none) = TallyEv.none := by
    split
    · next h => exact hnew h
    · rfl
  unfold Dev.tallyReconfig
  rw [hday]
  dsimp only [Dev.freshDay]
  simp only [hclosed, Bool.false_eq_true, if_false, ht, hnone]
  simp only [TallyEv.none, Bool.false_and, Bool.or_false]

include hsys hrecs hwhole hday hquiet

/-- The words of an open unit are written: it closes with RECONFIG (R199). -/
theorem Dev.wordWritten_open (hopen : (d.ch n).tally[u].isOpen = true) :
    d.WordWritten n u w v Tally.reset ((d.ch n).recs ++ [(d.ch n).recordOf n u d.tick .reconfig])
      (d.tallyReconfig n u (·.putWord n u w v)) := by
  have hturns := d.unitTurns_forced n u hsys hrecs hwhole .reconfig hopen
  have heq := d.tallyDay_fresh n u hsys hrecs hwhole
    (TallyEv.stages_forced ((d.ch n).reg (Obj.TALLY_CFG u.val)) (d.ch n).mayOpen hopen .reconfig) rfl
  have hinputs := (congrArg (fun t : Dev => (t.ch n).unitsIn) heq).trans (d.unitsIn_withDay n u _)
  have hword := fun k hlo hhi => (congrArg (fun t : Dev => (t.ch n).reg k) heq).trans (d.words_withDay n u _ k hlo hhi)
  have hregs := fun hmask => (congrArg (fun t : Dev => (t.ch n).regs) heq).trans (d.regs_withDay n u _ (.inr hmask))
  rw [d.tallyReconfig_open n u hday (·.putWord n u w v) hopen rfl]
  · refine ⟨hturns.putWord w v, ?_, fun hmask k hk => ?_⟩ <;> rw [Dev.putWord_ch]
    · exact Channel.reg_setReg _ _ _
    · exact (Channel.reg_setReg_other _ _ _ _ hk).trans (congrArg (sget (chDefault k) · k) (hregs hmask))
  · intro _
    obtain ⟨hlo, hhi⟩ := tallyCfg_range u
    rw [Dev.putWord_cfg, hword _ hlo hhi, Dev.putWord_ch]
    refine (congrArg (UnitInputs.events · u _) hinputs).trans ?_
    split
    · next hnow => exact hquiet hnow
    · exact UnitInputs.idle_events ..

omit hwhole in
/-- The words of a closed unit are written: it stays closed and leaves no record (R199). -/
theorem Dev.wordWritten_closed (hclosed : (d.ch n).tally[u].isOpen = false) : ∃ x : Tally, x.isOpen = false ∧
    d.WordWritten n u w v x (d.ch n).recs (d.tallyReconfig n u (·.putWord n u w v)) := by
  have hput := d.putWord_ch n u w v
  have hturns := d.unitTurns_putWord n u w v
  have hword : ((d.putWord n u w v).ch n).reg (tallyObj w u) = v := by rw [hput]; exact Channel.reg_setReg _ _ _
  have hothers : ∀ k, k ≠ tallyObj w u → ((d.putWord n u w v).ch n).reg k = (d.ch n).reg k := fun k hk => by
    rw [hput]; exact Channel.reg_setReg_other _ _ _ _ hk
  rw [d.tallyReconfig_closed n u hday (·.putWord n u w v) hclosed rfl]
  · split
    · exact ⟨_, hclosed, hturns, hword, fun _ => hothers⟩
    · have hfresh : d.freshDay n u = (d.putWord n u w v).freshDay n u := by
        unfold Dev.freshDay; rw [hturns.unit]
      obtain ⟨hstays, hregs⟩ := (d.putWord n u w v).unitTurns_nothing n u hsys (hturns.recs.symm ▸ hrecs)
        ((congrArg Tally.isOpen hturns.unit).trans hclosed)
      rw [hturns.recs] at hstays
      have hreg := fun k => congrArg (sget (chDefault k) · k) hregs
      rw [hfresh]
      exact ⟨_, rfl, hturns.trans hstays, (hreg _).trans hword, fun _ k hk => (hreg k).trans (hothers k hk)⟩
  · intro hnow
    rw [Dev.putWord_cfg, hput]
    rw [hput] at hnow
    exact hquiet hnow
end

/-- The write of a word in range, once it is accepted. -/
theorem Dev.wordWritten_accepted (d : Dev) (n : ChanId) (u : Idx16) (w : TallyWord) (v : Nat) (hsys : d.sysActive = false)
    (hrecs : ∀ r, r ∈ (d.ch n).recs → r.closed ≠ d.tick) (hwhole : d.unitWhole n u)
    (hday : (d.ch n).dayOf u d.tick = d.freshDay n u)
    (hquiet : (d.ch n).unitsIn.tick = d.tick →
      (d.ch n).unitsIn.events u (if w = .cfg then v else (d.ch n).reg (Obj.TALLY_CFG u.val)) = TallyEv.none) :
    let t := d.accept.tallyReconfig n u (·.putWord n u w v)
    ((d.ch n).tally[u].isOpen = true →
      d.accept.WordWritten n u w v Tally.reset ((d.ch n).recs ++ [(d.ch n).recordOf n u d.tick .reconfig]) t) ∧
    ((d.ch n).tally[u].isOpen = false → ∃ x : Tally, x.isOpen = false ∧ d.accept.WordWritten n u w v x (d.ch n).recs t) := by
  have hch := d.accept_ch n
  have htick := d.accept_tick
  have hsys' : d.accept.sysActive = false := by unfold Dev.sysActive at hsys ⊢; rw [d.accept_cal]; exact hsys
  have hrecs' : ∀ r, r ∈ (d.accept.ch n).recs → r.closed ≠ d.accept.tick := by rw [hch, htick]; exact hrecs
  have hwhole' : d.accept.unitWhole n u := by unfold Dev.unitWhole; rw [hch]; exact hwhole
  have hday' : (d.accept.ch n).dayOf u d.accept.tick = d.accept.freshDay n u := by unfold Dev.freshDay; rw [hch, htick]; exact hday
  rw [← hch, ← htick] at hquiet
  have hopened := d.accept.wordWritten_open n u w v hsys' hrecs' hwhole' hday' hquiet
  have hshut := d.accept.wordWritten_closed n u w v hsys' hrecs' hday' hquiet
  rw [hch] at hopened hshut
  rw [htick] at hopened
  exact ⟨hopened, hshut⟩

/-! ## The rows -/

/-- A unit of close source TICKS has covered its N ticks that were not held (R194). -/
def Dev.ticksCovered (d : Dev) (n : ChanId) (u : Idx16) : Prop :=
  (d.ch n).tally[u].isOpen = true ∧ tcClose ((d.ch n).reg (Obj.TALLY_CFG u.val)) = 2 ∧
    (d.ch n).reg (Obj.TALLY_N u.val) ≤ (d.ch n).tally[u].unheld

/-- A unit has reached the longest span (R196). -/
def Dev.spanFull (d : Dev) (n : ChanId) (u : Idx16) : Prop :=
  (d.ch n).tally[u].isOpen = true ∧ 0xFFFFFFFF ≤ ticksFrom (d.ch n).tally[u].openTick d.tick

section
variable {s : State} (n : ChanId) (u : Idx16) (hlive : s.live)
include hlive

theorem exec_tallyTicksExpiry (h : s.dev.ticksCovered n u) : exec (.tallyTicksExpiry n u) s =
    .next (s.atCommit (s.dev.tallyStages n u { TallyEv.none with closes := true })) := by
  obtain ⟨hopen, hsrc, hticks⟩ := h
  refine next_at hlive (show exec _ s = execTallyTicksExpiry n u s from rfl) (if_pos ?_)
  simp only [Bool.and_eq_true, beq_iff_eq, decide_eq_true_eq]
  exact ⟨⟨hopen, hsrc⟩, hticks⟩

theorem exec_tallyTicksExpiry_early (h : ¬ s.dev.ticksCovered n u) :
    exec (.tallyTicksExpiry n u) s = .next (s.atCommit s.dev) := by
  refine next_at hlive (show exec _ s = execTallyTicksExpiry n u s from rfl) (if_neg fun hdue => h ?_)
  simp only [Bool.and_eq_true, beq_iff_eq, decide_eq_true_eq] at hdue
  obtain ⟨⟨hopen, hsrc⟩, hticks⟩ := hdue
  exact ⟨hopen, hsrc, hticks⟩

theorem exec_spanLimit (h : s.dev.spanFull n u) : exec (.spanLimit n u) s =
    .next (s.atCommit (s.dev.tallyStages n u { TallyEv.none with forced := some .spanLimit })) := by
  refine next_at hlive (show exec _ s = execSpanLimit n u s from rfl) (if_pos ?_)
  simp only [Bool.and_eq_true, decide_eq_true_eq]
  exact h

theorem exec_spanLimit_early (h : ¬ s.dev.spanFull n u) : exec (.spanLimit n u) s = .next (s.atCommit s.dev) := by
  refine next_at hlive (show exec _ s = execSpanLimit n u s from rfl) (if_neg fun hdue => h ?_)
  simp only [Bool.and_eq_true, decide_eq_true_eq] at hdue
  exact hdue
end

theorem exec_tallyConfigWrite (n : ChanId) (u : Idx16) (w : TallyWord) (value : BitVec 32) (s : State) :
    exec (.tallyConfigWrite n u w value) s = liveAt s fun d => d.tallyWrite n u w value.toNat := rfl

end Sys2Proof.Machine

namespace Sys2Proof
open Machine

/-- Settles O37: TICKS by `Dev.unitTurns_closes`, the span limit by `Dev.unitTurns_forced`, a write in range by
`Dev.wordWritten_open` and `Dev.wordWritten_closed`. -/
theorem talliesCloseAndAreReconfigured : Obligations.TalliesCloseAndAreReconfigured := by
  intro s n u w value k hlive hsys d c x cfg new whole others closed hday hrecs
  have hothers : ∀ {y recs t}, Dev.UnitTurns n u y recs d t → others (s.atCommit t) := fun h =>
    ⟨h.others, h.force, h.units, h.fifo, rfl⟩
  have hclosed : ∀ {cause t}, Dev.UnitTurns n u Tally.reset (c.recs ++ [c.recordOf n u d.tick cause]) d t →
      closed (s.atCommit t) cause := fun h => ⟨h.unit, h.recs, hothers h⟩
  refine ⟨fun hopen hsrc hticks hre hwhole => ?closes, fun hopen hsrc hticks hre hmay hwhole => ?reopens, fun hfew => ?early,
    fun hopen hspan hwhole => ?span, fun hshort => ?short, fun hok hquiet hwhole => ?written, fun hbad => ?refused⟩
  case closes =>
    have hturns := d.unitTurns_closes n u hsys hrecs (fun _ => hwhole) hday hopen
    have hstays : (tcReopen ((d.ch n).reg (Obj.TALLY_CFG u.val)) && (d.ch n).mayOpen) = false := Bool.and_eq_false_iff.2 (.inl hre)
    rw [if_neg (Bool.eq_false_iff.1 hstays)] at hturns
    exact ⟨_, exec_tallyTicksExpiry n u hlive ⟨hopen, hsrc, hticks⟩, hclosed hturns⟩
  case reopens =>
    have hturns := d.unitTurns_closes n u hsys hrecs (fun _ => hwhole) hday hopen
    rw [if_pos (Bool.and_eq_true_iff.2 ⟨hre, hmay⟩)] at hturns
    refine ⟨_, exec_tallyTicksExpiry n u hlive ⟨hopen, hsrc, hticks⟩, congrArg Tally.isOpen hturns.unit,
      congrArg Tally.openTick hturns.unit, congrArg Tally.count hturns.unit, congrArg Tally.sum hturns.unit, ?_, hothers hturns⟩
    exact (congrArg List.length hturns.recs).trans List.length_append
  case early => exact ⟨_, exec_tallyTicksExpiry_early n u hlive fun ⟨_, _, hticks⟩ => Nat.not_le.2 hfew hticks, rfl⟩
  case span =>
    have hturns := d.unitTurns_forced n u hsys hrecs (fun _ => hwhole) .spanLimit hopen
    rw [← d.tallyStages_fresh n u _ hday] at hturns
    exact ⟨_, exec_spanLimit n u hlive ⟨hopen, hspan⟩, hclosed hturns⟩
  case short => exact ⟨_, exec_spanLimit_early n u hlive fun ⟨_, hspan⟩ => Nat.not_le.2 hshort hspan, rfl⟩
  case written =>
    refine gives_at hlive (exec_tallyConfigWrite n u w value s) ?_
    rw [d.tallyWrite_accepted n u w _ hok]
    obtain ⟨hopened, hshut⟩ := d.wordWritten_accepted n u w value.toNat hsys hrecs (fun _ => hwhole) hday hquiet
    have hwritten : ∀ {y recs t}, d.accept.WordWritten n u w value.toNat y recs t → (t.ch n).reg (tallyObj w u) = value.toNat ∧
        t.dict.abort = 0 ∧ (natBit (c.reg Obj.CLOSE_EVT_MASK) u.val = false → k ≠ tallyObj w u → (t.ch n).reg k = c.reg k) ∧
        others (s.atCommit t) := by
      intro y recs t h
      obtain ⟨⟨-, -, hunits, hforce, hstill, hfifo, habort⟩, hword, hregs⟩ := h
      simp only [Dev.accept_ch, Dev.accept_fifo, Dev.accept_abort] at hunits hforce hstill hfifo habort hregs
      exact ⟨hword, habort, fun hmask hk => hregs hmask k hk, hstill, hforce, hunits, hfifo, rfl⟩
    cases hopen : x.isOpen with
    | true =>
      have h := hopened hopen
      have hrest := hwritten h
      have ⟨_, _, _, hother⟩ := hrest
      exact ⟨fun _ => ⟨h.unit, h.recs, hother⟩, fun hno => absurd hno (by decide), hrest⟩
    | false =>
      obtain ⟨y, hy, h⟩ := hshut hopen
      exact ⟨fun hno => absurd hno (by decide), fun _ => ⟨(congrArg Tally.isOpen h.unit).trans hy, h.recs⟩, hwritten h⟩
  case refused =>
    refine gives_at hlive (exec_tallyConfigWrite n u w value s) ?_
    rw [d.tallyWrite_refused n u w _ hbad]
    have hch : ∀ m, (d.refuse (chObj n (tallyObj w u)) abRange).ch m = d.ch m := fun m => by unfold Dev.ch; rw [Dev.refuse_chans]
    refine ⟨Dev.refuse_chans _ _ _, congrArg Dict.abort (Dev.refuse_dict _ _ _), fun m _ => congrArg Channel.still (hch m),
      congrArg Channel.force (hch n), fun v _ => congrArg (fun c : Channel => c.tally[v]) (hch n), Dev.refuse_fifo _ _ _, rfl⟩

end Sys2Proof
end

section
namespace Sys2Proof.Machine
open Sys2Proof

/-! R214–R218: what an operation makes of one monitor of a channel. -/

theorem Channel.wm_modWm (c : Channel) (m j : Idx4) (f : Monitor → Monitor) :
    (c.modWm m f).wm[j] = if j = m then f c.wm[m] else c.wm[j] := Vector.getF_set ..

/-- From one module to another, one monitor of a channel becomes `y`, and neither the other monitors of the channel, nor its
force path, nor another channel changes. -/
structure Dev.MonitorTurns (n : ChanId) (m : Idx4) (y : Monitor) (d t : Dev) : Prop where
  self   : (t.ch n).wm[m] = y
  wm     : ∀ j, j ≠ m → (t.ch n).wm[j] = (d.ch n).wm[j]
  force  : (t.ch n).force = (d.ch n).force
  others : ∀ j, j ≠ n → t.ch j = d.ch j

namespace Dev.MonitorTurns
variable {n : ChanId} {m : Idx4} {y : Monitor} {d t : Dev}

/-- A change of the channel that leaves its monitors and its force path. -/
theorem modCh (h : Dev.MonitorTurns n m y d t) (f : Channel → Channel) (hwm : ∀ c, (f c).wm = c.wm := by intro c; rfl)
    (hforce : ∀ c, (f c).force = c.force := by intro c; rfl) : Dev.MonitorTurns n m y d (t.modCh n f) := by
  have hself : (t.modCh n f).ch n = f (t.ch n) := (t.ch_modCh n n f).trans (if_pos rfl)
  refine ⟨?_, fun j hj => ?_, ?_, fun j hj => ?_⟩
  · rw [hself, hwm]; exact h.self
  · rw [hself, hwm]; exact h.wm j hj
  · rw [hself, hforce]; exact h.force
  · rw [Dev.ch_modCh, if_neg hj]; exact h.others j hj

theorem ite {p : Prop} [Decidable p] {u : Dev} (ht : Dev.MonitorTurns n m y d t) (hu : Dev.MonitorTurns n m y d u) :
    Dev.MonitorTurns n m y d (if p then t else u) := by
  split
  · exact ht
  · exact hu

end Dev.MonitorTurns

/-- A monitor turns, and the objects of every channel, the tick and the answer to an access stay. -/
structure Dev.MonitorSet (n : ChanId) (m : Idx4) (y : Monitor) (d t : Dev) : Prop extends Dev.MonitorTurns n m y d t where
  settings : Dev.SameSettings d t
  tick     : t.tick = d.tick
  dict     : t.dict = d.dict

/-- A change that is one of the monitor alone. -/
theorem Dev.monitorSet_modCh (d : Dev) (n : ChanId) (m : Idx4) (f : Channel → Channel) (g : Monitor → Monitor)
    (hf : f (d.ch n) = (d.ch n).modWm m g) : Dev.MonitorSet n m (g (d.ch n).wm[m]) d (d.modCh n f) := by
  have hself : (d.modCh n f).ch n = (d.ch n).modWm m g := (d.ch_modCh n n f).trans ((if_pos rfl).trans hf)
  refine ⟨⟨?_, fun j hj => ?_, ?_, fun j hj => ?_⟩, fun j => ?_, rfl, rfl⟩
  · rw [hself, Channel.wm_modWm, if_pos rfl]
  · rw [hself, Channel.wm_modWm, if_neg hj]
  · rw [hself, Channel.modWm_force]
  · rw [Dev.ch_modCh, if_neg hj]
  · by_cases hj : j = n
    · rw [hj, hself, Channel.modWm_regs]
    · rw [Dev.ch_modCh, if_neg hj]

/-- The same after a resolution of the monitor has left its stall's queue (R222). -/
theorem Dev.monitorSet_unqueued (d : Dev) (n : ChanId) (m : Idx4) (f : Channel → Channel) (g : Monitor → Monitor)
    (hf : f (d.ch n) = (d.ch n).modWm m g) :
    Dev.MonitorSet n m (g (d.ch n).wm[m]) d ((d.wmUnqueue n m).modCh n f) := by
  obtain ⟨⟨hself, hwm, hforce, hothers⟩, hset, htick, hdict⟩ := (d.wmUnqueue n m).monitorSet_modCh n m f g hf
  exact ⟨⟨hself, hwm, hforce, hothers⟩, hset, htick, hdict⟩

/-! ## Resolutions -/

/-- A monitor that takes a side, with no event (R218, R219). -/
def Monitor.taking (x : Monitor) (tripped : Bool) : Monitor :=
  { x with st := if tripped then .tripped else .clear, side := tripped, seenNow := tripped, tripSeen := false,
           res := .none, resolved := none, moved := false }

theorem Dev.monitorTurns_wmTake (d : Dev) (n : ChanId) (m : Idx4) (tripped byAux : Bool) :
    Dev.MonitorTurns n m ((d.ch n).wm[m].taking tripped) d (d.wmTake n m tripped byAux) := by
  have htake := (d.monitorSet_unqueued n m (·.modWm m (·.taking tripped)) (·.taking tripped) rfl).toMonitorTurns
  have hcounted := htake.modCh (·.inc 32 (Obj.WM_RESOLVED m.val))
  exact .ite ((Dev.MonitorTurns.ite hcounted htake).modCh _) (.ite hcounted htake)

theorem ite_fab {p : Prop} [Decidable p] {a b d : Dev} (ha : a.fab = d.fab) (hb : b.fab = d.fab) :
    (if p then a else b).fab = d.fab := by
  split
  · exact ha
  · exact hb

theorem Dev.wmTake_fab (d : Dev) (n : ChanId) (m : Idx4) (tripped byAux : Bool) :
    (d.wmTake n m tripped byAux).fab = d.fab := ite_fab (ite_fab rfl rfl) (ite_fab rfl rfl)

/-- An UNKNOWN monitor that neither a window nor a failed DAC holds takes its side, unless it restarted at this commit. -/
theorem exec_wmResolved_takes {s : State} (n : ChanId) (m : Idx4) (tripped : Bool) (hlive : s.live)
    (hst : (s.dev.ch n).wm[m].st = .unknown) (hfree : (s.dev.ch n).wm[m].suspended = false)
    (hdac : (s.dev.ch n).wm[m].dacFail = false) (hold : (s.dev.ch n).wm[m].restart ≠ s.dev.tick) :
    exec (.wmResolved n m tripped) s =
      .next (s.atCommit (s.dev.wmTake n m tripped (s.dev.ch n).wm[m].resolved.isSome)) :=
  next_at hlive (show exec _ s = execWmResolved n m tripped s from rfl) (if_pos (by rw [hst, hfree, hdac]; simpa using hold))

/-! ## Transitions -/

/-- A transition that a monitor records, to the other side of a monitor that is CLEAR or TRIPPED (R215). -/
def Monitor.heeds (x : Monitor) (trip : Bool) : Prop := (x.st = .clear ∨ x.st = .tripped) ∧ x.side ≠ trip

theorem Monitor.heeds_iff (x : Monitor) (trip : Bool) :
    ((x.st == .clear || x.st == .tripped) && x.side != trip) = true ↔ x.heeds trip := by
  simp [Monitor.heeds]

theorem exec_wmTransition (n : ChanId) (m : Idx4) (trip : Bool) (cyc : Cycle) (s : State) :
    exec (.wmTransition n m trip cyc) s = liveIn s fun d => d.wmTransition n m trip cyc.val := rfl

/-- A transition that its monitor does not record shows in the comparator's side alone (R221). -/
theorem Dev.wmTransition_silent (d : Dev) (n : ChanId) (m : Idx4) (trip : Bool) (cyc : Nat)
    (h : ¬ (d.ch n).wm[m].heeds trip) :
    d.wmTransition n m trip cyc = d.modCh n fun c => c.modWm m fun x => { x with side := trip } := by
  have hknown := Bool.eq_false_iff.2 fun hk => h (((d.ch n).wm[m].heeds_iff trip).1 hk)
  unfold Dev.wmTransition
  simp only [hknown, Bool.false_and, Bool.or_false, Bool.not_false, if_true]

/-- A monitor that records a transition. -/
def Monitor.moves (x : Monitor) (trip : Bool) : Monitor :=
  { x with side := trip, seenNow := x.seenNow || trip, moved := true }

/-- The producer of a monitor fires at a transition that EDGE of its word selects (R216). -/
def Dev.wmFires (d : Dev) (n : ChanId) (m : Idx4) (w : Nat) (trip : Bool) (cyc : Nat) : Dev :=
  if wmEdgeFires w trip then
    if !d.fab.fired.contains (chProd n (4 + m.val)) then
      (d.fire (chProd n (4 + m.val)) [] true 2 cyc).cinc n 32 (Obj.WM_EVENTS m.val)
    else d.fire (chProd n (4 + m.val)) [] true 2 cyc
  else d

section
variable (d : Dev) (n : ChanId) (m : Idx4) (w : Nat) (trip : Bool) (cyc : Nat)

theorem Dev.wmFires_cores : (d.wmFires n m w trip cyc).cores = d.cores := by
  unfold Dev.wmFires
  split
  · split <;> simp [Dev.cinc]
  · rfl

theorem Dev.wmFires_due : (d.wmFires n m w trip cyc).flt.due = d.flt.due := by
  unfold Dev.wmFires
  split
  · split <;> simp
  · rfl

theorem Dev.wmFires_tick : (d.wmFires n m w trip cyc).tick = d.tick := by
  have hfire := Dev.tick_of_frame (d.fire_frame (chProd n (4 + m.val)) [] true 2 cyc)
  unfold Dev.wmFires
  split
  · split <;> exact hfire
  · rfl

/-- What ACTION makes of a trip (R216). -/
def Dev.wmActs : Dev :=
  (d.modCh n fun c => c.modWm m fun x => { x with acted := true }).raiseChCyc 0x0601 (if wmAction w = 2 then 2 else 1) n cyc m.val

/-- A transition that its monitor records: the producer fires, and a trip acts once in its tick (R216). -/
theorem Dev.wmTransition_heeded (h : (d.ch n).wm[m].heeds trip) (hw : (d.ch n).reg (Obj.WM_CFG m.val) = w) :
    d.wmTransition n m trip cyc =
      if trip = true ∧ wmAction w ≠ 0 ∧ (d.ch n).wm[m].acted = false then
        ((d.modCh n (·.modWm m (·.moves trip))).wmFires n m w trip cyc).wmActs n m w cyc
      else (d.modCh n (·.modWm m (·.moves trip))).wmFires n m w trip cyc := by
  subst hw
  have hknown := ((d.ch n).wm[m].heeds_iff trip).2 h
  unfold Dev.wmTransition
  simp only [hknown, Bool.true_and, Bool.or_true, Bool.not_true, Bool.false_eq_true, if_false]
  refine if_congr ?_ rfl rfl
  simp [and_assoc, Dev.creg]

end

/-- What a transition that its monitor records makes of the module (R215, R216). -/
theorem Dev.wmTransition_heeded_spec (d : Dev) (n : ChanId) (m : Idx4) (trip : Bool) (cyc : Nat)
    (h : (d.ch n).wm[m].heeds trip) :
    let t := d.wmTransition n m trip cyc
    let x := (d.ch n).wm[m]
    let w := (d.ch n).reg (Obj.WM_CFG m.val)
    (∃ a, (t.ch n).wm[m] = { x.moves trip with acted := a }) ∧ (t.ch n).force = (d.ch n).force ∧
      (∀ j, j ≠ n → (t.ch j).still = (d.ch j).still) ∧
      t.flt.due = if trip = true ∧ wmAction w ≠ 0 ∧ x.acted = false then
          d.flt.due ++ [(d.presentAt cyc, ⟨0x0601, if wmAction w = 2 then 2 else 1, .channel, n.val, m.val, d.tick, 0⟩)]
        else d.flt.due := by
  intro t x w
  have hmoved := (d.monitorSet_modCh n m (·.modWm m (·.moves trip)) (·.moves trip) rfl).toMonitorTurns
  have heq : t = _ := d.wmTransition_heeded n m w trip cyc h rfl
  rw [heq]
  generalize he : d.modCh n (·.modWm m (·.moves trip)) = e at hmoved ⊢
  have hdue : (e.wmFires n m w trip cyc).flt.due = d.flt.due := (e.wmFires_due n m w trip cyc).trans (by rw [← he, Dev.modCh_due])
  have htick : (e.wmFires n m w trip cyc).tick = d.tick := (e.wmFires_tick n m w trip cyc).trans (by rw [← he, Dev.modCh_tick])
  have hstill := Dev.still_of_cores (e.wmFires_cores n m w trip cyc)
  generalize e.wmFires n m w trip cyc = u at hdue htick hstill ⊢
  have hwm : (u.ch n).wm[m] = x.moves trip := (congrArg (fun c : Channel => c.wm[m]) (hstill n)).trans hmoved.self
  have hforce : (u.ch n).force = (d.ch n).force := (congrArg Channel.force (hstill n)).trans hmoved.force
  have hothers : ∀ j, j ≠ n → (u.ch j).still = (d.ch j).still := fun j hj =>
    (hstill j).trans (congrArg Channel.still (hmoved.others j hj))
  split
  · have hacts := (u.monitorSet_modCh n m (·.modWm m fun x => { x with acted := true }) _ rfl).toMonitorTurns
    refine ⟨⟨true, ?_⟩, hacts.force.trans hforce, fun j hj => ?_, ?_⟩
    · exact hacts.self.trans (congrArg (fun x : Monitor => { x with acted := true }) hwm)
    · exact (congrArg Channel.still (hacts.others j hj)).trans (hothers j hj)
    · rw [Dev.wmActs, Dev.raiseChCyc_due, Dev.modCh_due, hdue]
      simp only [Dev.presentAt, Dev.modCh_tick, htick]
  · exact ⟨⟨x.acted, hwm⟩, hforce, hothers, hdue⟩

/-! ## Writes of the configuration word -/

theorem exec_wmCfgWrite (n : ChanId) (m : Idx4) (word : BitVec 32) (s : State) :
    exec (.wmCfgWrite n m word) s = liveAt s fun d => d.writeWmCfg n m word.toNat := rfl

theorem Channel.modWm_modWm (c : Channel) (m : Idx4) (f g : Monitor → Monitor) :
    (c.modWm m f).modWm m g = c.modWm m fun x => g (f x) := by
  simp [Channel.modWm]

/-- Whether a monitor runs depends on settings, on the force path of its channel and on the tick (R214). -/
theorem Dev.MonitorSet.wmRuns {n : ChanId} {m : Idx4} {y : Monitor} {d t : Dev} (h : Dev.MonitorSet n m y d t) :
    t.wmRuns n m = d.wmRuns n m := by
  unfold Dev.wmRuns Dev.isFollower
  simp only [h.settings.leaderOf n, h.settings.reg n, h.force, h.tick]

/-- A configuration word is accepted, kept and written, before its monitor follows it (R38, R384). -/
def Dev.wmWritten (d : Dev) (n : ChanId) (m : Idx4) (w : Nat) : Dev :=
  (d.accept.setCreg n (Obj.WM_CFG m.val) w).keep (chObj n (Obj.WM_CFG m.val)) (d.creg n (Obj.WM_CFG m.val))

theorem Dev.wmWritten_ch (d : Dev) (n j : ChanId) (m : Idx4) (w : Nat) :
    (d.wmWritten n m w).ch j = if j = n then (d.ch n).setReg (Obj.WM_CFG m.val) w else d.ch j := by
  unfold Dev.wmWritten Dev.setCreg
  rw [Dev.keep_ch, Dev.ch_modCh, Dev.accept_ch, Dev.accept_ch]

/-- A word gives a monitor another code or another hysteresis than it has applied (R217). -/
def Monitor.changesBy (x : Monitor) (m : Idx4) (w : Nat) (f : Force) : Bool :=
  (wmCodeOf m w f.vrange f.irange).1 != x.code || wmHyst w != x.hyst

theorem Monitor.changesBy_iff (x : Monitor) (m : Idx4) (w : Nat) (f : Force) :
    x.changesBy m w f = true ↔ (wmCodeOf m w f.vrange f.irange).1 ≠ x.code ∨ wmHyst w ≠ x.hyst := by
  simp [Monitor.changesBy]

/-- A monitor with the code and the hysteresis of its configuration word (R211). -/
def Channel.wmCoded (c : Channel) (m : Idx4) (x : Monitor) : Monitor :=
  let w := c.reg (Obj.WM_CFG m.val)
  let q := wmCodeOf m w c.force.vrange c.force.irange
  { x with code := q.1, sat := q.2, hyst := wmHyst w }

/-- A monitor turned off (R214). -/
def Monitor.turnedOff (x : Monitor) : Monitor :=
  { x with st := .off, res := .none, resolved := none, suspended := false, tripSeen := false, seenNow := false, moved := true,
           dacFail := false, fails := 0, passes := 0 }

/-- A monitor restarted at a commit (R218, R222). -/
def Monitor.restarted (x : Monitor) (now : Tick) : Monitor :=
  { x with st := .unknown, res := .none, resolved := none, suspended := false, restart := now, tripSeen := false,
           seenNow := false, moved := true }

theorem Channel.wmRecode_eq (c : Channel) (m : Idx4) : c.wmRecode m = c.modWm m (c.wmCoded m) := rfl

theorem Channel.wmOff_wmRecode (c : Channel) (m : Idx4) :
    (c.wmOff m).wmRecode m = c.modWm m fun x => c.wmCoded m x.turnedOff := c.modWm_modWm m (·.turnedOff) (c.wmCoded m)

theorem Channel.wmRestart_eq (c : Channel) (m : Idx4) (now : Tick) :
    c.wmRestart m now = c.modWm m fun x => (c.wmCoded m x).restarted now := c.modWm_modWm m (c.wmCoded m) (·.restarted now)

/-- The module after a valid word for a monitor that is CLEAR or TRIPPED and not suspended: the monitor turns off where it may not
run, restarts where its code or its hysteresis changes, and else goes on (R214, R217). -/
def Dev.wmFollows (d : Dev) (n : ChanId) (m : Idx4) (changed : Bool) : Dev :=
  if !d.wmRuns n m then (d.wmUnqueue n m).modCh n fun c => (c.wmOff m).wmRecode m
  else if changed then (d.wmUnqueue n m).modCh n (·.wmRestart m d.tick)
  else d.modCh n (·.wmRecode m)

theorem Dev.monitorSet_wmFollows (d : Dev) (n : ChanId) (m : Idx4) (changed : Bool) :
    Dev.MonitorSet n m
      (if !d.wmRuns n m then (d.ch n).wmCoded m (d.ch n).wm[m].turnedOff
        else if changed then ((d.ch n).wmCoded m (d.ch n).wm[m]).restarted d.tick
        else (d.ch n).wmCoded m (d.ch n).wm[m])
      d (d.wmFollows n m changed) := by
  unfold Dev.wmFollows
  split
  · exact d.monitorSet_unqueued n m (fun c => (c.wmOff m).wmRecode m) _ ((d.ch n).wmOff_wmRecode m)
  split
  · exact d.monitorSet_unqueued n m (·.wmRestart m d.tick) _ ((d.ch n).wmRestart_eq m d.tick)
  · exact d.monitorSet_modCh n m (·.wmRecode m) _ ((d.ch n).wmRecode_eq m)

theorem Dev.writeWmCfg_accepted (d : Dev) (n : ChanId) (m : Idx4) (w : Nat) (hok : wmCfgOk m w = true)
    (hst : (d.ch n).wm[m].st = .clear ∨ (d.ch n).wm[m].st = .tripped) (hfree : (d.ch n).wm[m].suspended = false) :
    d.writeWmCfg n m w = (d.wmWritten n m w).wmFollows n m ((d.ch n).wm[m].changesBy m w (d.ch n).force) := by
  have hforce : ((d.wmWritten n m w).ch n).force = (d.ch n).force := by rw [Dev.wmWritten_ch, if_pos rfl]; rfl
  have hon : ((d.ch n).wm[m].st == .off) = false := by rcases hst with h | h <;> rw [h] <;> rfl
  rw [← hforce]
  unfold Dev.writeWmCfg
  simp only [hok, hon, hfree, Bool.not_true, Bool.false_eq_true, if_false]
  rfl

theorem Dev.writeWmCfg_refused (d : Dev) (n : ChanId) (m : Idx4) (w : Nat) (hbad : wmCfgOk m w = false) :
    d.writeWmCfg n m w = d.refuse (chObj n (Obj.WM_CFG m.val)) abRange := if_pos (by rw [hbad]; rfl)

end Sys2Proof.Machine

namespace Sys2Proof
open Machine

/-- Settles O10: an UNKNOWN monitor heeds no transition (`Dev.wmTransition_silent`), and takes its side when it resolves without
touching the fabric (`Dev.monitorTurns_wmTake`, `Dev.wmTake_fab`). -/
theorem unknownMonitorsAreSilent : Obligations.UnknownMonitorsAreSilent := by
  intro s n m trip cyc hin d x hst
  have hnot : ¬ x.heeds trip := by rintro ⟨h | h, -⟩ <;> exact WmState.noConfusion (hst.symm.trans h)
  refine ⟨gives_in hin (exec_wmTransition n m trip cyc s) ?_, fun hfree hdac hold =>
    ⟨_, exec_wmResolved_takes n m trip hin.1 hst hfree hdac hold, ?_⟩⟩
  · rw [d.wmTransition_silent n m trip cyc.val hnot]
    have hself := (d.monitorSet_modCh n m (·.modWm m fun x => { x with side := trip }) _ rfl).self
    exact ⟨rfl, rfl, rfl, (congrArg Monitor.st hself).trans hst, (congrArg Monitor.tripSeen hself : _),
      (congrArg Monitor.seenNow hself : _)⟩
  · have hself := (d.monitorTurns_wmTake n m trip x.resolved.isSome).self
    exact ⟨congrArg Monitor.st hself, congrArg Monitor.side hself, d.wmTake_fab n m trip _, d.wmTake_due n m trip _⟩

/-- Settles O26: a transition by `Dev.wmTransition_heeded_spec` or `Dev.wmTransition_silent`, a valid word by
`Dev.writeWmCfg_accepted` and `Dev.monitorSet_wmFollows`, a resolution by `Dev.monitorTurns_wmTake`. -/
theorem monitorsFollow : Obligations.MonitorsFollow := by
  intro s n m trip cyc word hlive ch x w due
  refine ⟨fun hin hst hside => ?heeded, fun hin hnot => ?silent, fun hok hst hfree => ?written, fun hbad => ?refused,
    fun hst hfree hdac hold => ?resolved⟩
  case heeded =>
    obtain ⟨⟨a, hself⟩, hforce, hothers, hdue⟩ := s.dev.wmTransition_heeded_spec n m trip cyc.val ⟨hst, hside⟩
    exact gives_in hin (exec_wmTransition n m trip cyc s) ⟨congrArg Monitor.side hself, (congrArg Monitor.st hself : _),
      congrArg Monitor.moved hself, congrArg Monitor.seenNow hself, hforce, hothers, rfl, hdue⟩
  case silent =>
    exact gives_in hin (exec_wmTransition n m trip cyc s)
      (congrArg s.inTick (s.dev.wmTransition_silent n m trip cyc.val hnot))
  case written =>
    have hset := (s.dev.wmWritten n m word.toNat).monitorSet_wmFollows n m (x.changesBy m word.toNat ch.force)
    have hself : (s.dev.wmWritten n m word.toNat).ch n = ch.setReg (Obj.WM_CFG m.val) word.toNat :=
      (s.dev.wmWritten_ch n n m word.toNat).trans (if_pos rfl)
    have htick : (s.dev.wmWritten n m word.toNat).tick = s.dev.tick := s.dev.accept_tick
    rw [← s.dev.writeWmCfg_accepted n m word.toNat hok hst hfree, hself, htick, ← hset.wmRuns] at hset
    refine gives_at hlive (exec_wmCfgWrite n m word s) ⟨?_, ?_, ?_, ?_, ?_, fun j hj => ?_, ?_, fun j hj => ?_, rfl⟩
    all_goals simp only [State.atCommit_dev]
    · rw [hset.settings.reg, hself, Channel.reg_setReg]
    · exact (congrArg Dict.abort hset.dict).trans s.dev.accept_abort
    · intro hruns
      rw [hset.self, hruns]
      rfl
    · intro hruns hchanged
      rw [hset.self, hruns, (x.changesBy_iff ..).2 hchanged]
      exact ⟨rfl, rfl⟩
    · intro hruns hcode hhyst
      have hsame : x.changesBy m word.toNat ch.force = false :=
        Bool.eq_false_iff.2 fun hc => ((x.changesBy_iff ..).1 hc).elim (· hcode) (· hhyst)
      rw [hset.self, hruns, hsame]
      exact ⟨rfl, rfl⟩
    · rw [hset.wm j hj, hself, Channel.setReg_wm]
    · rw [hset.force, hself]; rfl
    · rw [hset.others j hj, Dev.wmWritten_ch, if_neg hj]
  case refused =>
    refine gives_at hlive (exec_wmCfgWrite n m word s) ?_
    rw [s.dev.writeWmCfg_refused n m _ hbad]
    exact ⟨Dev.refuse_chans _ _ _, congrArg Dict.abort (Dev.refuse_dict _ _ _), rfl⟩
  case resolved =>
    obtain ⟨hself, hwm, hforce, hothers⟩ := s.dev.monitorTurns_wmTake n m trip x.resolved.isSome
    exact ⟨_, exec_wmResolved_takes n m trip hlive hst hfree hdac hold, congrArg Monitor.st hself, congrArg Monitor.side hself,
      congrArg Monitor.seenNow hself, congrArg Monitor.res hself, hwm, hforce, hothers, rfl⟩

end Sys2Proof
end

section
namespace Sys2Proof.Machine
open Sys2Proof

/-! R16, R230, R239: what the barker of a channel in no gang changes of the module as it selects a step. -/

/-- From one module to another only channel `n` and the trace change, and of the registers of the channel only the counters that
a selection may change (`redoKeys`). -/
structure Dev.Sequences (n : ChanId) (d t : Dev) : Prop where
  rest     : ∃ c sec, t = { d.setCh n c with sec := sec }
  settings : ∀ k, k ∉ redoKeys → (t.ch n).reg k = (d.ch n).reg k

theorem cond_notMem_redoKeys (w : Nat) : Obj.COND (stRpair w) ∉ redoKeys :=
  (by decide : ∀ i : Fin 16, Obj.COND i ∉ redoKeys) ⟨stRpair w, Nat.mod_lt _ (by decide)⟩

theorem pair_notMem_redoKeys (w : Nat) : Obj.RPAIR (stRpair w) ∉ redoKeys :=
  (by decide : ∀ i : Fin 16, Obj.RPAIR i ∉ redoKeys) ⟨stRpair w, Nat.mod_lt _ (by decide)⟩

/-- A flag of SEQ_STATUS shows in SEQ_STICKY alone. -/
theorem Channel.seqFlag_reg (c : Channel) (b : Nat) {k : Nat} (hk : k ∉ redoKeys) : (c.seqFlag b).reg k = c.reg k :=
  Channel.reg_setReg_other _ _ _ _ fun h => hk (h ▸ by decide)

namespace Dev.Sequences

theorem trans {n : ChanId} {d t u : Dev} (h : Dev.Sequences n d t) (h' : Dev.Sequences n t u) : Dev.Sequences n d u := by
  obtain ⟨⟨c, sec, rfl⟩, hset⟩ := h
  obtain ⟨⟨c', sec', rfl⟩, hset'⟩ := h'
  exact ⟨⟨c', sec', by simp [Dev.setCh]⟩, fun k hk => (hset' k hk).trans (hset k hk)⟩

theorem refl (n : ChanId) (d : Dev) : Dev.Sequences n d d :=
  ⟨⟨d.ch n, d.sec, (d.modCh_id n id rfl).symm⟩, fun _ _ => rfl⟩

theorem ite {n : ChanId} {p : Prop} [Decidable p] {d t u : Dev} (ht : Dev.Sequences n d t) (hu : Dev.Sequences n d u) :
    Dev.Sequences n d (if p then t else u) := by
  split
  · exact ht
  · exact hu

section
variable (n : ChanId) (d : Dev)

theorem modCh (f : Channel → Channel) (hf : ∀ c k, k ∉ redoKeys → (f c).reg k = c.reg k := by intro c k _; rfl) :
    Dev.Sequences n d (d.modCh n f) :=
  ⟨⟨f (d.ch n), d.sec, rfl⟩, fun k hk => by rw [Dev.ch_modCh, if_pos rfl, hf _ k hk]⟩

theorem setCreg (k v : Nat) (hk : k ∈ redoKeys := by decide) : Dev.Sequences n d (d.setCreg n k v) :=
  modCh n d _ fun c j hj => c.reg_setReg_other k j v fun h => hj (h ▸ hk)

theorem cinc (w k : Nat) (hk : k ∈ redoKeys := by decide) : Dev.Sequences n d (d.cinc n w k) := setCreg n d k _ hk

theorem trace (m : Option ChanId) (what : TraceKind) : Dev.Sequences n d (d.trace m what) :=
  ⟨⟨d.ch n, _, congrArg (fun e : Dev => { e with sec := (d.trace m what).sec }) (d.modCh_id n id rfl).symm⟩, fun _ _ => rfl⟩

theorem seqFlag (b : Nat) : Dev.Sequences n d (d.modCh n (·.seqFlag b)) := modCh n d _ fun c _ hk => c.seqFlag_reg b hk
end

section
variable {n : ChanId} {d t : Dev} (h : Dev.Sequences n d t)
include h

theorem others {m : ChanId} (hm : m ≠ n) : t.ch m = d.ch m := by
  obtain ⟨⟨c, sec, rfl⟩, -⟩ := h
  exact (d.setCh_ch n m c).trans (if_neg hm)

theorem tick : t.tick = d.tick := by obtain ⟨⟨c, sec, rfl⟩, -⟩ := h; rfl
theorem flt : t.flt = d.flt := by obtain ⟨⟨c, sec, rfl⟩, -⟩ := h; rfl
theorem mem : t.mem = d.mem := by obtain ⟨⟨c, sec, rfl⟩, -⟩ := h; rfl
theorem sysActive : t.sysActive = d.sysActive := by obtain ⟨⟨c, sec, rfl⟩, -⟩ := h; rfl

theorem calm (hc : d.calm = true) : t.calm = true := Dev.calm_of_flt h.flt h.tick hc

theorem role : t.role n = d.role n := h.settings _ (by decide)

theorem desc (i : Nat) : t.desc i = d.desc i := by unfold Dev.desc; rw [h.mem]
theorem segAt (a : Nat) : t.segAt a = d.segAt a := by unfold Dev.segAt; rw [h.mem]
theorem step64 (a : Nat) : t.step64 a = d.step64 a := by unfold Dev.step64; rw [h.mem]

/-- The conditions and the loaded sets stay, so the same steps are valid (R231). -/
theorem stepOk (w : Nat) : t.stepOk n w = d.stepOk n w := by
  have hcond : t.creg n (Obj.COND (stRpair w)) = d.creg n (Obj.COND (stRpair w)) :=
    h.settings _ (cond_notMem_redoKeys w)
  unfold Dev.stepOk Dev.setLoaded
  rw [h.mem, hcond]

/-- The word of an entry of the range-pair table stays. -/
theorem pairWord (w : Nat) : (t.ch n).reg (Obj.RPAIR (stRpair w)) = (d.ch n).reg (Obj.RPAIR (stRpair w)) :=
  h.settings _ (pair_notMem_redoKeys w)
end

end Dev.Sequences

/-! ## Selecting a step -/

/-- A barker with a step selected from the lines read, before what the kind of the step does to it. -/
def Barker.taking (k : Barker) (lines : List (Nat × Word64)) (p : Pick) (o : List Nat) : Barker :=
  { k with lines := lines, seq := seqOf (stKind p.word.toNat), addr := p.addr, seg := p.seg, word := p.word, done := 0,
           left := stDwell p.word.toNat, due := false, loops := loopsRead p k.loops, spanTrip := 0, spanHi := false,
           spanLo := false, spanUr := false, spanHeld := false, spanRc := false, dry := false, held := k.holdReq,
           stuckAddr := none, stuckRun := 0, stuckHold := false, carry := [],
           sel := some { word := p.word, addr := p.addr, seg := p.seg, first := p.first,
                         origin := originUnion k.carry o } }

/-- The latch that a WAIT_TETHER clears and the level that a LOOP_OPEN opens, as they are selected (R241, R243). -/
def Barker.onKind (k : Barker) (w : Nat) : Barker :=
  match stKind w with
  | 5 =>
    if waitPre w then k
    else { k with latch := putBit k.latch (waitInput w) false, latchOrg := k.latchOrg.filter (·.1 != waitInput w) }
  | 6 =>
    { k with loops := { count := stValue w, start := 0, seg := 0, bound := false, first := true, sfirst := false,
                        spoolX := none, head := [] } :: k.loops }
  | _ => k

theorem Barker.selectedAs_eq (k : Barker) (lines : List (Nat × Word64)) (p : Pick) (o : List Nat) :
    k.selectedAs lines p o = (k.taking lines p o).onKind p.word.toNat := rfl

/-- A channel with the program set of a step of a word (R230). -/
def Channel.withSet (c : Channel) (w : Nat) : Channel :=
  let c := if stKind w = 4 then c else c.modForce fun f => { f with pset := stPset w }
  c.modEng fun e => { e with setNow := c.force.pset }

/-- A force path with the target of a step of a word. -/
def Force.aimed (f : Force) (w : Nat) : Force := { f with prevTarget := f.target, target := BitVec.ofNat 20 (stValue w) }

/-- A force step moves the target where its entry has its mode (R80). -/
abbrev movesTarget (w entry : Nat) : Prop := (stKind w = 1 ∨ stKind w = 2) ∧ rpMode entry = decide (stKind w = 2)

/-- A channel whose play is at a stream index of its spool, if it is there at all. -/
def Channel.atStream (c : Channel) (stream : Option Nat) : Channel :=
  match stream with
  | some x => c.modSpool fun s => { s with x := x, rd := max s.rd (x + 1), st := s.st.live }
  | none => c

@[simp] theorem Channel.atStream_bk (c : Channel) (x : Option Nat) : (c.atStream x).bk = c.bk := by cases x <;> rfl
@[simp] theorem Channel.atStream_force (c : Channel) (x : Option Nat) : (c.atStream x).force = c.force := by cases x <;> rfl
@[simp] theorem Channel.atStream_regs (c : Channel) (x : Option Nat) : (c.atStream x).regs = c.regs := by cases x <;> rfl

/-- The force path as a valid step is selected. -/
def Force.selecting (f : Force) (w entry : Nat) : Force :=
  { f with pset := if stKind w = 4 then f.pset else stPset w
           target := if movesTarget w entry then BitVec.ofNat 20 (stValue w) else f.target
           prevTarget := if movesTarget w entry then f.target else f.prevTarget }

/-- What the selection of a step makes of a channel, whatever it has read ahead. -/
structure Channel.Selects (c : Channel) (p : Pick) (o : List Nat) (c' : Channel) : Prop where
  bk    : ∃ lines, c'.bk = c.bk.selectedAs lines p o
  force : c'.force = c.force.selecting p.word.toNat (c.reg (Obj.RPAIR (stRpair p.word.toNat)))
  spool : p.stream = none → c'.spool = c.spool

section
variable (d : Dev) (n : ChanId) (p : Pick) (o : List Nat) (w : Nat)

/-- The barker and the stream as a valid step is selected. -/
def Dev.selectInto : Dev :=
  let lines := d.linesFor n p.seg p.addr p.stream
  (d.cinc n 64 Obj.STEPS_PLAYED).modCh n fun c => (c.modBk fun k => k.taking lines p o).atStream p.stream

def Dev.selectSet : Dev := (d.members n).foldl (fun d m => d.modCh m (·.withSet w)) d

def Dev.selectTarget : Dev :=
  if (stKind w == 1 || stKind w == 2) && !d.modeDiffers n w then
    (d.members n).foldl (fun d m => d.modCh m (·.modForce (·.aimed w))) d
  else d

def Dev.selectKind : Dev :=
  match stKind w with
  | 5 =>
    if waitPre w then d
    else d.modCh n fun c => c.modBk fun k =>
      { k with latch := putBit k.latch (waitInput w) false, latchOrg := k.latchOrg.filter (·.1 != waitInput w) }
  | 6 =>
    if (d.ch n).bk.loops.length ≥ 4 then (d.modCh n fun c => c.modBk fun k => { k with sel := none }).seqFault n 1
    else d.modCh n fun c => c.modBk fun k =>
      { k with loops := { count := stValue w, start := 0, seg := 0, bound := false, first := true, sfirst := false,
                          spoolX := none, head := [] } :: k.loops }
  | _ => d

/-- The selection of a valid step by its stages. -/
theorem Dev.selectStep_stages (hok : d.stepOk n p.word.toNat = true) : d.selectStep n p o =
    (((((d.selectInto n p o).selectSet n p.word.toNat).selectTarget n p.word.toNat).sysAbortOn n 4).trace (some n)
      .selection).selectKind n p.word.toNat := by
  unfold Dev.selectStep
  rw [if_neg (by simp [hok])]
  rfl

theorem Dev.sequences_selectInto : Dev.Sequences n d (d.selectInto n p o) := by
  unfold Dev.selectInto
  refine (Dev.Sequences.cinc n d 64 Obj.STEPS_PLAYED).trans (.modCh n _ _ fun c k _ => ?_)
  simp [Channel.reg]

theorem Dev.selectInto_ch : (d.selectInto n p o).ch n =
    (((d.ch n).inc 64 Obj.STEPS_PLAYED).modBk (·.taking (d.linesFor n p.seg p.addr p.stream) p o)).atStream p.stream := by
  simp only [Dev.selectInto, Dev.cinc, Dev.ch_modCh, if_true]

/-- A LOOP_OPEN with a free level opens it, a WAIT_TETHER without PRE clears its latch (R241, R243, R244). -/
theorem Dev.selectKind_open (h6 : stKind w = 6 → (d.ch n).bk.loops.length < 4) :
    d.selectKind n w = d.modCh n (·.modBk (·.onKind w)) := by
  unfold Dev.selectKind Barker.onKind
  split
  · split
    · exact (d.modCh_id n _ rfl).symm
    · rfl
  · next h => exact if_neg (Nat.not_le.2 (h6 h))
  · exact (d.modCh_id n _ rfl).symm

theorem Dev.sysAbortOn_idle (code : Nat) (hsys : d.sysActive = false) : d.sysAbortOn n code = d := by
  simp [Dev.sysAbortOn, hsys]

/-! A channel in no gang takes the set and the target alone. -/

section
variable (hr : d.role n = 0)
include hr

theorem Dev.selectSet_alone : d.selectSet n w = d.modCh n (·.withSet w) := by
  unfold Dev.selectSet
  rw [d.members_alone n hr]
  rfl

theorem Dev.sequences_selectSet : Dev.Sequences n d (d.selectSet n w) := by
  rw [d.selectSet_alone n w hr]
  refine .modCh n d _ fun c k _ => ?_
  unfold Channel.withSet
  split <;> rfl

theorem Dev.selectTarget_alone : d.selectTarget n w =
    if movesTarget w ((d.ch n).reg (Obj.RPAIR (stRpair w))) then d.modCh n (·.modForce (·.aimed w)) else d := by
  unfold Dev.selectTarget
  rw [d.members_alone n hr]
  by_cases hk : stKind w = 1 ∨ stKind w = 2
  · rw [(stKind_forces w).2 hk, d.modeDiffers_alone n w hr hk]
    simp [movesTarget, hk]
  · rw [Bool.eq_false_iff.2 (mt (stKind_forces w).1 hk)]
    simp [movesTarget, hk]

theorem Dev.sequences_selectTarget : Dev.Sequences n d (d.selectTarget n w) := by
  rw [d.selectTarget_alone n w hr]
  exact .ite (.modCh n d _) (.refl n d)

/-- Set and target: the force path as the step is selected, and the engines' set. -/
theorem Dev.selectTarget_ch : (((d.selectSet n w).selectTarget n w).ch n).bk = (d.ch n).bk ∧
    (((d.selectSet n w).selectTarget n w).ch n).spool = (d.ch n).spool ∧
    (((d.selectSet n w).selectTarget n w).ch n).force =
      (d.ch n).force.selecting w ((d.ch n).reg (Obj.RPAIR (stRpair w))) := by
  have hset := d.sequences_selectSet n w hr
  rw [(d.selectSet n w).selectTarget_alone n w (hset.role.trans hr), hset.pairWord w, d.selectSet_alone n w hr]
  unfold Force.selecting Channel.withSet
  split <;> split <;> simp_all [Channel.modForce, Channel.modEng, Force.aimed]

/-- The selection of a valid step of a channel in no gang (R230, R239). -/
theorem Dev.selectStep_valid (hok : d.stepOk n p.word.toNat = true) (hsys : d.sysActive = false)
    (h6 : stKind p.word.toNat = 6 → (d.ch n).bk.loops.length < 4) :
    Dev.Sequences n d (d.selectStep n p o) ∧ (d.ch n).Selects p o ((d.selectStep n p o).ch n) := by
  have hinto := d.sequences_selectInto n p o
  have hr' := hinto.role.trans hr
  have hset := (d.selectInto n p o).sequences_selectSet n p.word.toNat hr'
  have haimed := (hinto.trans hset).trans (Dev.sequences_selectTarget _ n p.word.toNat (hset.role.trans hr'))
  obtain ⟨hbk, hspool, hforce⟩ := (d.selectInto n p o).selectTarget_ch n p.word.toNat hr'
  rw [hinto.pairWord] at hforce
  rw [d.selectInto_ch n p o] at hbk hspool hforce
  rw [d.selectStep_stages n p o hok]
  generalize ((d.selectInto n p o).selectSet n p.word.toNat).selectTarget n p.word.toNat = t at *
  rw [t.sysAbortOn_idle n 4 (haimed.sysActive.trans hsys), Dev.selectKind_open]
  · refine ⟨(haimed.trans (.trace n t _ _)).trans (.modCh n _ _), ?_⟩
    rw [Dev.ch_modCh, if_pos rfl]
    refine ⟨⟨d.linesFor n p.seg p.addr p.stream, ?_⟩, hforce.trans ?_, fun hs => hspool.trans ?_⟩
    · rw [Barker.selectedAs_eq]
      exact congrArg (Barker.onKind · p.word.toNat) (hbk.trans (Channel.atStream_bk _ _))
    · rw [Channel.atStream_force]
      rfl
    · rw [hs]
      rfl
  · intro hk
    have hloops : (t.ch n).bk.loops = loopsRead p (d.ch n).bk.loops := by rw [hbk, Channel.atStream_bk]; rfl
    show (t.ch n).bk.loops.length < 4
    rw [hloops]
    simpa [loopsRead] using h6 hk
end
end

/-! ## What a selected step leaves of the barker -/

section
variable (k : Barker) (p : Pick) (o : List Nat) (w : Nat)

/-- The kind of a step acts on the latches and the loops alone. -/
theorem Barker.onKind_shape : ∃ latch org ls, k.onKind w = { k with latch := latch, latchOrg := org, loops := ls } := by
  unfold Barker.onKind
  split
  · split <;> exact ⟨_, _, _, rfl⟩
  · exact ⟨_, _, _, rfl⟩
  · exact ⟨_, _, _, rfl⟩

/-- The step is the current one, with its whole DWELL left, and waits to apply (R16, R230). -/
structure Barker.Plays (k : Barker) (p : Pick) (b : Barker) : Prop where
  addr  : b.addr = p.addr
  seg   : b.seg = p.seg
  word  : b.word = p.word
  done  : b.done = 0
  left  : b.left = stDwell p.word.toNat
  due   : b.due = false
  sel   : b.sel.map (fun x => (x.word, x.addr, x.seg)) = some (p.word, p.addr, p.seg)
  seq   : b.seq = seqOf (stKind p.word.toNat)
  pend  : b.pend = k.pend
  waitTimeout : b.waitTimeout = k.waitTimeout

theorem Barker.plays_selectedAs (lines : List (Nat × Word64)) : k.Plays p (k.selectedAs lines p o) := by
  obtain ⟨latch, org, ls, h⟩ := (k.taking lines p o).onKind_shape p.word.toNat
  rw [Barker.selectedAs_eq, h]
  exact ⟨rfl, rfl, rfl, rfl, rfl, rfl, rfl, rfl, rfl, rfl⟩

/-- Reading a step leaves the counts of the open levels. -/
theorem loopsRead_counts (ls : List LoopLevel) : (loopsRead p ls).map (·.count) = ls.map (·.count) := by
  simp only [loopsRead, List.map_map]
  refine List.map_congr_left fun l _ => ?_
  simp only [Function.comp]
  split
  · rfl
  · split <;> rfl

theorem Barker.selectedAs_loops (lines : List (Nat × Word64)) (hk : stKind p.word.toNat ≠ 6) :
    (k.selectedAs lines p o).loops = loopsRead p k.loops := by
  rw [Barker.selectedAs_eq]
  unfold Barker.onKind
  split
  · split <;> rfl
  · next h => exact absurd h hk
  · rfl

theorem Barker.selectedAs_opens (lines : List (Nat × Word64)) (hk : stKind p.word.toNat = 6) :
    (k.selectedAs lines p o).loops.map (·.count) = stValue p.word.toNat :: k.loops.map (·.count) := by
  rw [Barker.selectedAs_eq]
  unfold Barker.onKind
  rw [hk]
  exact congrArg (_ :: ·) (loopsRead_counts p k.loops)

/-- A WAIT_TETHER with PRE keeps its latch, one without clears it (R241). -/
theorem Barker.selectedAs_latch (lines : List (Nat × Word64)) (hk : stKind p.word.toNat = 5) :
    bit (k.selectedAs lines p o).latch (waitInput p.word.toNat) =
      (waitPre p.word.toNat && bit k.latch (waitInput p.word.toNat)) := by
  rw [Barker.selectedAs_eq]
  unfold Barker.onKind
  rw [hk]
  cases waitPre p.word.toNat
  · simp [Barker.taking, bit, putBit]
  · rfl
end

end Sys2Proof.Machine
end

section
namespace Sys2Proof.Machine
open Sys2Proof

/-! R16, R228, R230: the step kinds. -/

section
variable (d : Dev) (n : ChanId)

/-- What the barker was is noted in the channel, for R68. -/
theorem Dev.noteRedo_ch : ∃ r, (d.noteRedo n).ch n = { d.ch n with redo := some r } :=
  ⟨_, (d.setCh_ch n n _).trans (if_pos rfl)⟩

theorem Dev.sequences_noteRedo : Dev.Sequences n d (d.noteRedo n) := by
  obtain ⟨r, hr⟩ := d.noteRedo_ch n
  exact ⟨⟨_, d.sec, rfl⟩, fun k _ => by rw [hr]; rfl⟩

theorem Dev.maySelect_alone (hr : d.role n = 0) (ha : (d.ch n).isArmed = true) (hh : (d.ch n).bk.halt = false) :
    d.maySelect n = true := by
  simp [Dev.maySelect, ha, hh, d.isFollower_alone n hr]
end

/-- A command that sequences a channel at a commit with no fault to present: what the settled module has of the channels. -/
theorem gives_sequenced {s : State} {c : Instr} {n : ChanId} {f : Dev → Dev} {u : Dev} (hlive : s.live)
    (hcalm : s.dev.calm = true) (he : exec c s = liveAt s f) (hf : f s.dev = u.settleFaults)
    (hseq : Dev.Sequences n s.dev u) :
    Gives c s fun t => t.dev.ch n = u.ch n ∧ (∀ m, m ≠ n → t.dev.ch m = s.dev.ch m) ∧ t.shown = t.dev := by
  have hu := hseq.calm hcalm
  refine gives_at hlive he ⟨?_, fun m hm => ?_, rfl⟩ <;> rw [State.atCommit_dev, hf, u.settleFaults_ch hu]
  exact hseq.others hm

/-- A command that ends with the selection of a valid step, after what `d` has of the module. -/
theorem gives_selects {s : State} {c : Instr} {n : ChanId} {f : Dev → Dev} {d : Dev} {p : Pick} (hlive : s.live)
    (hcalm : s.dev.calm = true) (hr : s.dev.role n = 0) (hsys : s.dev.sysActive = false) (he : exec c s = liveAt s f)
    (hf : f s.dev = (d.selectStep n p []).settleFaults) (hseq : Dev.Sequences n s.dev d)
    (hok : s.dev.stepOk n p.word.toNat = true) (h6 : stKind p.word.toNat = 6 → (d.ch n).bk.loops.length < 4) :
    Gives c s fun t => (d.ch n).Selects p [] (t.dev.ch n) ∧ (∀ m, m ≠ n → t.dev.ch m = s.dev.ch m) ∧ t.shown = t.dev := by
  obtain ⟨hstep, hsel⟩ := d.selectStep_valid n p [] (hseq.role.trans hr) ((hseq.stepOk _).trans hok)
    (hseq.sysActive.trans hsys) h6
  obtain ⟨t, ht, hself, hrest⟩ := gives_sequenced hlive hcalm he hf (hseq.trans hstep)
  exact ⟨t, ht, hself ▸ hsel, hrest⟩

/-- A command of a step kind that is valid selects its step (R228). -/
theorem gives_playStep {s : State} {c : Instr} {n : ChanId} {w : Word64} (hlive : s.live) (hcalm : s.dev.calm = true)
    (hr : s.dev.role n = 0) (ha : (s.dev.ch n).isArmed = true) (hhalt : (s.dev.ch n).bk.halt = false)
    (hhold : (s.dev.ch n).bk.holdReq = false) (hsys : s.dev.sysActive = false) (he : exec c s = liveAt s (·.playStep n w))
    (hok : s.dev.stepOk n w.toNat = true) (h6 : stKind w.toNat = 6 → (s.dev.ch n).bk.loops.length < 4) :
    Gives c s fun t =>
      (s.dev.ch n).Selects ⟨(s.dev.ch n).bk.addr, (s.dev.ch n).bk.seg, w, false, none⟩ [] (t.dev.ch n) ∧
      (∀ m, m ≠ n → t.dev.ch m = s.dev.ch m) ∧ t.shown = t.dev := by
  obtain ⟨r, hch⟩ := s.dev.noteRedo_ch n
  have hplay : s.dev.playStep n w = _ := if_neg (by simp [s.dev.maySelect_alone n hr ha hhalt, hhold])
  obtain ⟨t, ht, hsel, hrest⟩ := gives_selects hlive hcalm hr hsys he hplay (s.dev.sequences_noteRedo n) hok
    (by rw [hch]; exact h6)
  rw [hch] at hsel
  exact ⟨t, ht, ⟨hsel.bk, hsel.force, hsel.spool⟩, hrest⟩

/-! ## The rows of Table 8-2 -/

/-- What makes the fields of a step word valid (R231). -/
def Dev.fieldsOk (d : Dev) (n : ChanId) (kind v rp pset plan : Nat) : Bool :=
  let set' := d.setLoaded n pset
  match kind with
  | 1 | 2 => set'
  | 3 | 7 => decide (rp = 0) && v == 0 && set'
  | 4 => decide (rp = 0) && v == 0 && pset == 0 && plan == 0
  | 5 => decide (rp = 0) && set' && natBits v 17 2 == 0
  | 6 => decide (rp = 0) && set'
  | 8 => set' && condOk (d.creg n (Obj.COND rp))
  | 9 => decide (rp = 0) && set' && natBits v 17 4 == 0 && natBits v 19 18 != 3
  | 0xA => decide (rp = 0) && set' && natBits v 18 4 == 0 && !(natBit v 19 && natBits v 3 0 != 0)
  | 0xB => decide (rp = 0) && set' && decide (v ≤ 1)
  | _ => false

theorem Dev.stepOk_fields (d : Dev) (n : ChanId) (w : Nat) :
    d.stepOk n w = d.fieldsOk n (stKind w) (stValue w) (stRpair w) (stPset w) (stPlan w) := rfl

theorem seqOf_eq (kind : Nat) : seqOf kind = if kind = 5 then .waiting else if kind = 11 then .ended else .playing := by
  unfold seqOf
  split
  · rfl
  · rfl
  · next h5 h11 => rw [if_neg h5, if_neg h11]

theorem Dev.stepOk_stepWord (d : Dev) (n : ChanId) (k v r : Nat) (g : StepFields) (hk : k < 16) (hv : v < 2 ^ 20) (hr : r < 16) :
    d.stepOk n (stepWord k v r g).toNat = d.fieldsOk n k v r g.pset.toNat g.mplan.toNat := by
  rw [d.stepOk_fields, stKind_stepWord k v r g hk hv hr, stValue_stepWord k v r g hk hv hr, stRpair_stepWord k v r g hk hv hr,
    stPset_stepWord k v r g hk hv hr, stPlan_stepWord k v r g hk hv hr]

/-- VALUE of a WAIT_TETHER (Table 8-3). -/
def waitValue (noTimeout pre : Bool) (input : Idx4) : Nat := noTimeout.toNat * 2 ^ 19 + pre.toNat * 2 ^ 18 + input.val

section
variable (noTimeout pre : Bool) (input : Idx4)

theorem waitValue_lt : waitValue noTimeout pre input < 2 ^ 20 := by
  unfold waitValue
  cases noTimeout <;> cases pre <;> simp only [Bool.toNat_true, Bool.toNat_false] <;> omega

theorem waitValue_reserved : natBits (waitValue noTimeout pre input) 17 2 = 0 := by
  unfold waitValue natBits
  cases noTimeout <;> cases pre <;> simp only [Bool.toNat_true, Bool.toNat_false] <;> omega

theorem waitValue_pre : natBit (waitValue noTimeout pre input) 18 = pre := by
  unfold waitValue natBit
  have := input.isLt
  cases noTimeout <;> cases pre <;> simp only [Bool.toNat_true, Bool.toNat_false, beq_iff_eq, beq_eq_false_iff_ne] <;> omega

theorem waitValue_input : natBits (waitValue noTimeout pre input) 1 0 = input.val := by
  unfold waitValue natBits
  cases noTimeout <;> cases pre <;> simp only [Bool.toNat_true, Bool.toNat_false] <;> omega

end

theorem idx16_bits (x : Idx16) : natBits x.val 17 4 = 0 ∧ natBits x.val 18 4 = 0 ∧ natBits x.val 19 18 = 0 ∧ natBit x.val 19 = false := by
  revert x
  decide

/-- A row of Table 8-2: a command that plays a valid step word, with what its kind asks of the fields. -/
structure StepRow (d : Dev) (n : ChanId) (value : Code20) (f : StepFields) (pre : Bool) (input : Idx4) (count : BitVec 20)
    (c : Instr) (kind v rp : Nat) (g : StepFields) : Prop where
  plays  : ∀ s, exec c s = liveAt s (·.playStep n (stepWord kind v rp g))
  kindLo : 1 ≤ kind
  kindHi : kind < 16
  vLt    : v < 2 ^ 20
  rpLt   : rp < 16
  valid  : d.fieldsOk n kind v rp g.pset.toNat g.mplan.toNat = true
  pset   : kind ≠ 4 → g.pset = f.pset
  code   : kind ≤ 2 → v = value.toNat
  wait   : kind = 5 → natBit v 18 = pre ∧ natBits v 1 0 = input.val
  opens  : kind = 6 → v = count.toNat

/-- A row of a force kind. -/
theorem StepRow.force {d : Dev} {n : ChanId} {value : Code20} {f : StepFields} {pre : Bool} {input : Idx4} {count : BitVec 20}
    {c : Instr} {kind rp : Nat} (hplays : ∀ s, exec c s = liveAt s (·.playStep n (stepWord kind value.toNat rp f)))
    (hkind : kind = 1 ∨ kind = 2) (hrp : rp < 16) (hset : d.setLoaded n f.pset.toNat = true) :
    StepRow d n value f pre input count c kind value.toNat rp f :=
  ⟨hplays, by omega, by omega, value.isLt, hrp, by rcases hkind with rfl | rfl <;> exact hset, fun _ => rfl, fun _ => rfl,
    by omega, by omega⟩

/-- A row of a kind other than the force kinds, WAIT_TETHER, LOOP_OPEN and TALLY_ONLY. -/
theorem StepRow.plain {d : Dev} {n : ChanId} {value : Code20} {f : StepFields} {pre : Bool} {input : Idx4} {count : BitVec 20}
    {c : Instr} {kind v : Nat} (hplays : ∀ s, exec c s = liveAt s (·.playStep n (stepWord kind v 0 f)))
    (hkind : kind = 3 ∨ kind = 9 ∨ kind = 10 ∨ kind = 11) (hv : v < 2 ^ 20)
    (hvalid : d.fieldsOk n kind v 0 f.pset.toNat f.mplan.toNat = true) :
    StepRow d n value f pre input count c kind v 0 f :=
  ⟨hplays, by omega, by omega, hv, by omega, hvalid, fun _ => rfl, by omega, by omega, by omega⟩

/-- The rows of the step kinds: command, kind, VALUE, RPAIR and the other fields. -/
def stepRows (n : ChanId) (value : Code20) (rpair : BitVec 4) (f : StepFields) (noTimeout pre : Bool) (input : Idx4)
    (count : BitVec 20) (x : Idx16) : List (Instr × Nat × Nat × Nat × StepFields) :=
  [(.forceV n value rpair f, 1, value.toNat, rpair.toNat, f), (.forceI n value rpair f, 2, value.toNat, rpair.toNat, f),
    (.stepHold n f, 3, 0, 0, f), (.tallyOnly n f.tctl f.mark f.dwell, 4, 0, 0, ⟨0, 0, f.tctl, f.mark, f.dwell⟩),
    (.waitTether n noTimeout pre input f, 5, waitValue noTimeout pre input, 0, f), (.loopOpen n count f, 6, count.toNat, 0, f),
    (.sineSetStart n x f, 9, x.val, 0, f), (.sineSetZero n f, 9, 2 ^ 18, 0, f), (.sineSetPhaseReset n f, 9, 2 ^ 19, 0, f),
    (.gustArm n x f, 10, x.val, 0, f), (.gustDisarm n f, 10, 2 ^ 19, 0, f), (.stepEnd n f, 11, 0, 0, f),
    (.endPark n f, 11, 1, 0, f)]

section
variable {d : Dev} {n : ChanId} {value : Code20} {rpair : BitVec 4} {f : StepFields} {noTimeout pre : Bool} {input : Idx4}
  {count : BitVec 20} {x : Idx16} {c : Instr} {kind v rp : Nat} {g : StepFields}

theorem exec_waitTether (s : State) : exec (.waitTether n noTimeout pre input f) s =
    liveAt s (·.playStep n (stepWord 5 (waitValue noTimeout pre input) 0 f)) := by
  cases noTimeout <;> cases pre <;> rfl

/-- Every row plays a valid step, where the set that it names is loaded. -/
theorem stepRow_of_mem (h : (c, kind, v, rp, g) ∈ stepRows n value rpair f noTimeout pre input count x)
    (hset : kind ≠ 4 → d.setLoaded n f.pset.toNat = true) : StepRow d n value f pre input count c kind v rp g := by
  obtain ⟨h17, h18, h19, hbit⟩ := idx16_bits x
  have hx : x.val < 2 ^ 20 := by omega
  simp only [stepRows, List.mem_cons, Prod.mk.injEq, List.not_mem_nil, or_false] at h
  rcases h with ⟨rfl, rfl, rfl, rfl, rfl⟩ | ⟨rfl, rfl, rfl, rfl, rfl⟩ | ⟨rfl, rfl, rfl, rfl, rfl⟩ | ⟨rfl, rfl, rfl, rfl, rfl⟩ |
    ⟨rfl, rfl, rfl, rfl, rfl⟩ | ⟨rfl, rfl, rfl, rfl, rfl⟩ | ⟨rfl, rfl, rfl, rfl, rfl⟩ | ⟨rfl, rfl, rfl, rfl, rfl⟩ |
    ⟨rfl, rfl, rfl, rfl, rfl⟩ | ⟨rfl, rfl, rfl, rfl, rfl⟩ | ⟨rfl, rfl, rfl, rfl, rfl⟩ | ⟨rfl, rfl, rfl, rfl, rfl⟩ |
    ⟨rfl, rfl, rfl, rfl, rfl⟩
  · exact .force (fun _ => rfl) (.inl rfl) rpair.isLt (hset (by decide))
  · exact .force (fun _ => rfl) (.inr rfl) rpair.isLt (hset (by decide))
  · exact .plain (fun _ => rfl) (by decide) (by decide) (by simp [Dev.fieldsOk, hset])
  · exact ⟨fun _ => rfl, by decide, by decide, by decide, by decide, rfl, by simp, by simp, by simp, by simp⟩
  · exact ⟨exec_waitTether, by decide, by decide, waitValue_lt .., by decide,
      by simp [Dev.fieldsOk, hset, waitValue_reserved], fun _ => rfl, by simp,
      fun _ => ⟨waitValue_pre .., waitValue_input ..⟩, by simp⟩
  · exact ⟨fun _ => rfl, by decide, by decide, count.isLt, by decide, by simp [Dev.fieldsOk, hset], fun _ => rfl, by simp,
      by simp, fun _ => rfl⟩
  · exact .plain (fun _ => rfl) (by decide) hx (by simp [Dev.fieldsOk, hset, h17, h19])
  · exact .plain (fun _ => rfl) (by decide) (by decide) (by simp [Dev.fieldsOk, hset, natBits])
  · exact .plain (fun _ => rfl) (by decide) (by decide) (by simp [Dev.fieldsOk, hset, natBits])
  · exact .plain (fun _ => rfl) (by decide) hx (by simp [Dev.fieldsOk, hset, h18, hbit])
  · exact .plain (fun _ => rfl) (by decide) (by decide) (by simp [Dev.fieldsOk, hset, natBits, natBit])
  · exact .plain (fun _ => rfl) (by decide) (by decide) (by simp [Dev.fieldsOk, hset])
  · exact .plain (fun _ => rfl) (by decide) (by decide) (by simp [Dev.fieldsOk, hset])
end

/-- The force path of a channel that selects a row: PSET but of a TALLY_ONLY, and the target of a force step whose entry has
its mode. -/
theorem StepRow.selecting {d : Dev} {n : ChanId} {value : Code20} {f : StepFields} {pre : Bool} {input : Idx4} {count : BitVec 20}
    {c : Instr} {kind v rp : Nat} {g : StepFields} (h : StepRow d n value f pre input count c kind v rp g) (p : Force)
    (entry : Nat) :
    let moves := kind ≤ 2 ∧ rpMode entry = decide (kind = 2)
    p.selecting (stepWord kind v rp g).toNat entry =
      { p with pset := if kind = 4 then p.pset else f.pset.toNat, target := if moves then value else p.target,
               prevTarget := if moves then p.target else p.prevTarget } := by
  intro moves
  have hkind := stKind_stepWord kind v rp g h.kindHi h.vLt h.rpLt
  have hmoves : movesTarget (stepWord kind v rp g).toNat entry ↔ moves := by
    unfold movesTarget
    rw [hkind]
    exact and_congr_left' (by have := h.kindLo; omega)
  have hset : (if stKind (stepWord kind v rp g).toNat = 4 then p.pset else stPset (stepWord kind v rp g).toNat) =
      if kind = 4 then p.pset else f.pset.toNat := by
    rw [hkind, stPset_stepWord kind v rp g h.kindHi h.vLt h.rpLt]
    split
    · rfl
    · next h4 => rw [h.pset h4]
  unfold Force.selecting
  rw [hset, stValue_stepWord kind v rp g h.kindHi h.vLt h.rpLt]
  by_cases hm : moves
  · rw [if_pos (hmoves.2 hm), if_pos (hmoves.2 hm), if_pos hm, if_pos hm, h.code hm.1, BitVec.ofNat_toNat, BitVec.setWidth_eq]
  · rw [if_neg (mt hmoves.1 hm), if_neg (mt hmoves.1 hm), if_neg hm, if_neg hm]

end Sys2Proof.Machine

namespace Sys2Proof
open Machine

/-- Settles O18: each row plays a valid step (`stepRow_of_mem`, `gives_playStep`), and the channel has it selected
(`Barker.plays_selectedAs`, `StepRow.selecting`). -/
theorem stepsApply : Obligations.StepsApply := by
  intro s n value rpair f noTimeout pre input count x c kind v rp g hlive hcalm hrole harmed hhalt hhold hsys hmem ch hset hfree
  have row := stepRow_of_mem (d := s.dev) hmem hset
  have hkind := stKind_stepWord kind v rp g row.kindHi row.vLt row.rpLt
  have hvalue := stValue_stepWord kind v rp g row.kindHi row.vLt row.rpLt
  have hok := (s.dev.stepOk_stepWord n kind v rp g row.kindHi row.vLt row.rpLt).trans row.valid
  obtain ⟨t, ht, ⟨⟨lines, hbk⟩, hforce, -⟩, hrest⟩ := gives_playStep hlive hcalm hrole harmed hhalt hhold hsys (row.plays s) hok
    fun h6 => hfree (hkind.symm.trans h6)
  rw [stRpair_stepWord kind v rp g row.kindHi row.vLt row.rpLt] at hforce
  have hplays := ch.bk.plays_selectedAs ⟨ch.bk.addr, ch.bk.seg, stepWord kind v rp g, false, none⟩ [] lines
  refine ⟨t, ht, ?_⟩
  beta_reduce
  intro b moves
  have hb : b = ch.bk.selectedAs lines ⟨ch.bk.addr, ch.bk.seg, stepWord kind v rp g, false, none⟩ [] := hbk
  rw [← hb] at hplays
  refine ⟨hplays.word, hplays.addr, hplays.seg, hplays.done, hplays.due, hplays.left, ?_, ?_, hforce.trans (row.selecting _ _),
    fun h5 => ?_, fun h6 => ?_, fun h6 => ?_, hrest⟩
  · rw [hplays.sel, hplays.word, hplays.addr, hplays.seg]
  · rw [hplays.seq, hkind, seqOf_eq]
  · obtain ⟨hpre, hinput⟩ := row.wait h5
    have hlatch := ch.bk.selectedAs_latch ⟨ch.bk.addr, ch.bk.seg, stepWord kind v rp g, false, none⟩ [] lines (hkind.trans h5)
    unfold waitInput waitPre at hlatch
    rw [hvalue, hpre, hinput, ← hb] at hlatch
    exact hlatch
  · rw [hb, Barker.selectedAs_opens _ _ _ _ (hkind.trans h6), hvalue, row.opens h6]
  · rw [hb, Barker.selectedAs_loops _ _ _ _ (by rwa [hkind])]
    exact loopsRead_counts _ _

end Sys2Proof
end

section
namespace Sys2Proof.Machine
open Sys2Proof

/-! R239, R242, R243, R246: the end of a span inside a segment. -/

/-- The step at an address as a barker reads it (R238): from a head, from a line that it has read, or from the ledger. -/
def Dev.wordAt (d : Dev) (k : Barker) (a : Nat) : Word64 := (k.held? a).getD ((k.lines.lookup a).getD (d.step64 a))

/-- A channel stands at the same step as another, with the loop levels `ls` open. -/
structure Channel.StandsAt (c : Channel) (ls : List LoopLevel) (c' : Channel) : Prop where
  force : c'.force = c.force
  addr  : c'.bk.addr = c.bk.addr
  seg   : c'.bk.seg = c.bk.seg
  lines : c'.bk.lines = c.bk.lines
  cache : c'.bk.cache = c.bk.cache
  loops : c'.bk.loops = ls

/-- The step that follows the current one inside its segment. -/
def Dev.following (d : Dev) (n : ChanId) (ls : List LoopLevel) : Pick :=
  let b := (d.ch n).bk
  { addr := b.addr + 1, seg := b.seg, word := d.wordAt { b with loops := ls } (b.addr + 1), first := false, stream := none }

/-- The ledger has a step of the segment after the current one. -/
def Dev.inSegment (d : Dev) (n : ChanId) : Prop :=
  (d.ch n).bk.addr + 1 < dsStart (d.desc (d.ch n).bk.seg) + dsSteps (d.desc (d.ch n).bk.seg)

section
variable {d t : Dev} {n : ChanId} {ls : List LoopLevel}

/-- Inside a segment the barker goes forward to the step that follows, from the channel as `d` has it. -/
theorem Dev.forward_follows (hseq : Dev.Sequences n d t) (hat : (d.ch n).StandsAt ls (t.ch n)) (hspool : d.inSpool n = false)
    (hin : d.inSegment n) : t.forward n = t.selectStep n (d.following n ls) [] := by
  have hspool' : t.inSpool n = false := by
    unfold Dev.inSpool at hspool ⊢
    rw [hat.seg, hseq.desc, show t.creg n Obj.SPOOL_SEG = d.creg n Obj.SPOOL_SEG from hseq.settings _ (by decide)]
    exact hspool
  have hword : t.readStep n ((d.ch n).bk.addr + 1) = (d.following n ls).word := by
    simp only [Dev.readStep, Dev.following, Dev.wordAt, Barker.held?, hat.loops, hat.cache, hat.lines, hseq.step64]
  unfold Dev.forward
  rw [hspool', if_neg (by simp), hat.addr, hat.seg, hseq.desc, hword]
  exact if_pos hin
end

/-! ## Conditions and offers (R246–R248) -/

section
variable (d : Dev) (n : ChanId)

/-- To read a condition changes of the module only the latch that it tests, JUMP_LATE and the origin set (R246, R247, R318). -/
theorem Dev.condRaw_shape (w : Nat) : ∃ latch org late, (d.condRaw n w).2.2 = d.modCh n fun c => c.modBk fun k =>
    { k with latch := latch, latchOrg := org, jumpLate := late } := by
  have same : ∃ latch org late, d = d.modCh n fun c => c.modBk fun k =>
      { k with latch := latch, latchOrg := org, jumpLate := late } :=
    ⟨(d.ch n).bk.latch, (d.ch n).bk.latchOrg, (d.ch n).bk.jumpLate, (d.modCh_id n _ rfl).symm⟩
  unfold Dev.condRaw
  dsimp only
  split
  case h_7 => exact ⟨_, _, (d.ch n).bk.jumpLate, rfl⟩
  case h_16 => exact ⟨(d.ch n).bk.latch, (d.ch n).bk.latchOrg, false, rfl⟩
  all_goals exact same

theorem Dev.condition_shape (w : Nat) : ∃ latch org late carry, (d.condition n w).2 = d.modCh n fun c => c.modBk fun k =>
    { k with latch := latch, latchOrg := org, jumpLate := late, carry := carry } := by
  obtain ⟨latch, org, late, hraw⟩ := d.condRaw_shape n w
  unfold Dev.condition
  dsimp only
  rw [hraw]
  split
  · exact ⟨(d.ch n).bk.latch, (d.ch n).bk.latchOrg, (d.ch n).bk.jumpLate, (d.ch n).bk.carry, (d.modCh_id n _ rfl).symm⟩
  · split
    · rw [Dev.modCh_modCh]
      exact ⟨latch, org, late, _, rfl⟩
    · exact ⟨latch, org, late, (d.ch n).bk.carry, rfl⟩

theorem Dev.sequences_condition (w : Nat) : Dev.Sequences n d (d.condition n w).2 := by
  obtain ⟨latch, org, late, carry, h⟩ := d.condition_shape n w
  rw [h]
  exact .modCh n d _

/-- What a condition reads is none of what is noted for R68. -/
theorem Dev.condition_noteRedo (w : Nat) : ((d.noteRedo n).condition n w).1 = (d.condition n w).1 := by
  obtain ⟨r, hch⟩ := d.noteRedo_ch n
  have hraw : ((d.noteRedo n).condRaw n w).1 = (d.condRaw n w).1 := by
    unfold Dev.condRaw
    rw [hch]
    dsimp only
    split <;> rfl
  unfold Dev.condition
  dsimp only
  rw [hraw, hch]
  dsimp only
  split <;> rfl

/-- A jump to a VALID segment is pending, where a chain plays and none is pending (R248). -/
theorem Dev.offerJump_pends (src : JumpSrc) (seg : Nat) (arrival : Tick) (origin : List Nat)
    (hv : dsValid (d.desc seg) = true) (hplays : (d.ch n).bk.seq = .playing ∨ (d.ch n).bk.seq = .waiting)
    (ha : (d.ch n).isArmed = true) (hp : (d.ch n).bk.pend = none) : ∃ missed stage, d.offerJump n src seg arrival origin =
      d.modCh n fun c => c.modBk fun k => { k with pend := some ⟨src, seg, d.tick, missed, origin⟩, stage := stage } := by
  have hseq : ((d.ch n).bk.seq == .noStep) = false ∧ ((d.ch n).bk.seq == .stopped) = false := by
    rcases hplays with h | h <;> rw [h] <;> exact ⟨rfl, rfl⟩
  unfold Dev.offerJump
  rw [if_neg (by simp [hv]), if_neg (by simp [hseq, ha])]
  simp only [hp]
  exact ⟨_, _, rfl⟩

/-- The condition of a JUMP_IF is read, and where it holds a jump to a segment is offered (R246, R248). -/
def Dev.jumpIf (w seg : Nat) : Dev :=
  let r := d.condition n w
  if r.1 then r.2.offerJump n .jumpIf seg r.2.tick [] else r.2

/-- A JUMP_IF whose segment is VALID, while a chain plays and no jump is pending: the jump is pending if its condition holds. -/
theorem Dev.jumpIf_offers (w seg : Nat) (hv : dsValid (d.desc seg) = true)
    (hplays : (d.ch n).bk.seq = .playing ∨ (d.ch n).bk.seq = .waiting) (ha : (d.ch n).isArmed = true)
    (hp : (d.ch n).bk.pend = none) : Dev.Sequences n d (d.jumpIf n w seg) ∧
      (d.ch n).StandsAt (d.ch n).bk.loops ((d.jumpIf n w seg).ch n) ∧
      ((d.jumpIf n w seg).ch n).bk.pend.map (fun j => (j.src, j.seg)) =
        if (d.condition n w).1 then some (.jumpIf, seg) else none := by
  obtain ⟨latch, org, late, carry, hshape⟩ := d.condition_shape n w
  have hread := d.sequences_condition n w
  have hch : ((d.condition n w).2).ch n =
      (d.ch n).modBk fun k => { k with latch := latch, latchOrg := org, jumpLate := late, carry := carry } := by
    rw [hshape, Dev.ch_modCh, if_pos rfl]
  unfold Dev.jumpIf
  dsimp only
  split
  · obtain ⟨missed, stage, hoffer⟩ := (d.condition n w).2.offerJump_pends n .jumpIf seg (d.condition n w).2.tick []
      (by rwa [hread.desc]) (by rwa [hch]) (by rwa [hch]) (by rwa [hch])
    rw [hoffer, Dev.ch_modCh, if_pos rfl, hch]
    exact ⟨hread.trans (.modCh n _ _), ⟨rfl, rfl, rfl, rfl, rfl, rfl⟩, rfl⟩
  · rw [hch]
    exact ⟨hread, ⟨rfl, rfl, rfl, rfl, rfl, rfl⟩, congrArg _ hp⟩
end

/-! ## What the kind of the ended span does first -/

/-- The wait of a channel has timed out: WAIT_TIMEOUT and its counter (R242). -/
def Dev.timedOut (d : Dev) (n : ChanId) : Dev :=
  (d.modCh n fun c => (c.seqFlag 16).modBk fun k => { k with waitTimeout := true }).cinc n 32 Obj.WAIT_TIMEOUTS

theorem Dev.sequences_timedOut (d : Dev) (n : ChanId) : Dev.Sequences n d (d.timedOut n) := by
  unfold Dev.timedOut
  refine .trans (.modCh n d _ fun c k hk => ?_) (.cinc n _ 32 Obj.WAIT_TIMEOUTS)
  exact c.seqFlag_reg 16 hk

theorem Dev.timedOut_ch (d : Dev) (n : ChanId) : (d.timedOut n).ch n =
    (((d.ch n).seqFlag 16).modBk fun k => { k with waitTimeout := true }).inc 32 Obj.WAIT_TIMEOUTS := by
  simp only [Dev.timedOut, Dev.cinc, Dev.ch_modCh, if_true]

/-- A sequencing command whose kind is that of the ended span (R239). -/
theorem Dev.decideSeq_of (d : Dev) (n : ChanId) {ok : Bool} (h : ok = true) : d.decideSeq n ok = (d.spanEnd n).settleFaults :=
  if_pos h

section
variable (d : Dev) (n : ChanId) (hdue : (d.ch n).bk.due = true) (hheld : (d.ch n).bk.held = false) (hmay : d.maySelect n = true)
include hdue hheld hmay

theorem Dev.spanEnd_plain (h5 : stKind (d.ch n).bk.word.toNat ≠ 5) (h7 : stKind (d.ch n).bk.word.toNat ≠ 7)
    (h8 : stKind (d.ch n).bk.word.toNat ≠ 8) : d.spanEnd n = (d.noteRedo n).forward n := by
  unfold Dev.spanEnd
  rw [if_neg (by simp [hdue, hheld, hmay])]
  dsimp only
  split
  · next h => exact absurd h h5
  · next h => exact absurd h h7
  · next h => exact absurd h h8
  · rfl

/-- No edge is latched: the wait times out (R242). -/
theorem Dev.spanEnd_timeout (h5 : stKind (d.ch n).bk.word.toNat = 5)
    (hl : bit (d.ch n).bk.latch (waitInput (d.ch n).bk.word.toNat) = false) :
    d.spanEnd n = ((d.noteRedo n).timedOut n).forward n := by
  unfold Dev.spanEnd
  rw [if_neg (by simp [hdue, hheld, hmay])]
  simp only [h5, hl, Bool.false_eq_true, if_false]
  rfl

theorem Dev.spanEnd_loops {l : LoopLevel} {ls : List LoopLevel} (h7 : stKind (d.ch n).bk.word.toNat = 7)
    (hls : (d.ch n).bk.loops = l :: ls) (hl : l.count ≠ 1) :
    d.spanEnd n = (d.noteRedo n).loopBack n { l with count := l.count - 1, first := false } := by
  have hcount : (if l.count = 0 then 0 else l.count - 1) = l.count - 1 := by split <;> omega
  unfold Dev.spanEnd
  rw [if_neg (by simp [hdue, hheld, hmay])]
  simp only [h7, hls, beq_eq_false_iff_ne.2 hl, Bool.false_eq_true, if_false, hcount]

theorem Dev.spanEnd_leaves {l : LoopLevel} {ls : List LoopLevel} (h7 : stKind (d.ch n).bk.word.toNat = 7)
    (hls : (d.ch n).bk.loops = l :: ls) (hl : l.count = 1) :
    d.spanEnd n = ((d.noteRedo n).modCh n fun c => c.modBk fun k => { k with loops := ls }).forward n := by
  unfold Dev.spanEnd
  rw [if_neg (by simp [hdue, hheld, hmay])]
  simp only [h7, hls, hl, beq_self_eq_true, if_true]

/-- A JUMP_IF with its condition read: what it offers, and forward (R246, R248). -/
theorem Dev.spanEnd_jumpIf {seg : Nat} (h8 : stKind (d.ch n).bk.word.toNat = 8)
    (hseg : d.segAt (stValue (d.ch n).bk.word.toNat) = some seg) : d.spanEnd n =
      ((d.noteRedo n).jumpIf n ((d.noteRedo n).creg n (Obj.COND (stRpair (d.ch n).bk.word.toNat))) seg).forward n := by
  have hseq := (d.sequences_noteRedo n).trans (Dev.sequences_condition (d.noteRedo n) n
    ((d.noteRedo n).creg n (Obj.COND (stRpair (d.ch n).bk.word.toNat))))
  unfold Dev.spanEnd Dev.jumpIf
  rw [if_neg (by simp [hdue, hheld, hmay])]
  simp only [h8, hseq.segAt, hseg]
  split <;> rfl
end

/-! ## The step that follows is selected -/

/-- At commit `t` the step at an address is the current one, with its whole DWELL left, and waits to apply; the setpoint and the
gates and the other channels stay. -/
def Shows (s t : State) (n : ChanId) (a : Nat) (w : Word64) : Prop :=
  let k := (t.dev.ch n).bk
  k.addr = a ∧ k.word = w ∧ k.done = 0 ∧ k.left = stDwell w.toNat ∧ k.due = false ∧
  k.sel.map (fun x => (x.word, x.addr)) = some (w, a) ∧ (t.dev.ch n).force.setpt = (s.dev.ch n).force.setpt ∧
  (t.dev.ch n).force.gates = (s.dev.ch n).force.gates ∧ (∀ m, m ≠ n → t.dev.ch m = s.dev.ch m) ∧ t.shown = t.dev

/-- What the selection of a step leaves of the channel's barker. -/
theorem Channel.Selects.plays {c c' : Channel} {p : Pick} {o : List Nat} (h : c.Selects p o c') : c.bk.Plays p c'.bk := by
  obtain ⟨lines, hbk⟩ := h.bk
  rw [hbk]
  exact c.bk.plays_selectedAs p o lines

theorem Channel.Selects.counts {c c' : Channel} {p : Pick} {o : List Nat} (h : c.Selects p o c')
    (h6 : stKind c'.bk.word.toNat ≠ 6) : c'.bk.loops.map (·.count) = c.bk.loops.map (·.count) := by
  rw [h.plays.word] at h6
  obtain ⟨lines, hbk⟩ := h.bk
  rw [hbk, c.bk.selectedAs_loops p o lines h6, loopsRead_counts]

theorem Channel.Selects.shows {s t : State} {n : ChanId} {c : Channel} {p : Pick} {o : List Nat}
    (h : c.Selects p o (t.dev.ch n)) (hforce : c.force = (s.dev.ch n).force)
    (hrest : (∀ m, m ≠ n → t.dev.ch m = s.dev.ch m) ∧ t.shown = t.dev) : Shows s t n p.addr p.word := by
  have hp := h.plays
  refine ⟨hp.addr, hp.word, hp.done, hp.left, hp.due, ?_, ?_, ?_, hrest⟩
  · have hsel := congrArg (Option.map fun x : Word64 × Nat × Nat => (x.1, x.2.1)) hp.sel
    rwa [Option.map_map] at hsel
  · rw [h.force, hforce]
    rfl
  · rw [h.force, hforce]
    rfl

/-- A command that ends a span inside a segment selects the step that follows (R239). -/
theorem gives_follows {s : State} {c : Instr} {n : ChanId} {f : Dev → Dev} {d : Dev} {ls : List LoopLevel} (hlive : s.live)
    (hcalm : s.dev.calm = true) (hr : s.dev.role n = 0) (hsys : s.dev.sysActive = false) (he : exec c s = liveAt s f)
    (hf : f s.dev = (d.forward n).settleFaults) (hseq : Dev.Sequences n s.dev d) (hat : (s.dev.ch n).StandsAt ls (d.ch n))
    (hspool : s.dev.inSpool n = false) (hin : s.dev.inSegment n)
    (hok : s.dev.stepOk n (s.dev.following n ls).word.toNat = true ∧
      (stKind (s.dev.following n ls).word.toNat = 6 → ls.length < 4)) :
    Gives c s fun t => Shows s t n ((s.dev.ch n).bk.addr + 1) (s.dev.following n ls).word ∧
      (d.ch n).Selects (s.dev.following n ls) [] (t.dev.ch n) := by
  rw [Dev.forward_follows hseq hat hspool hin] at hf
  obtain ⟨t, ht, hsel, hrest⟩ := gives_selects hlive hcalm hr hsys he hf hseq hok.1 (by rw [hat.loops]; exact hok.2)
  exact ⟨t, ht, hsel.shows hat.force hrest, hsel⟩

/-- A level whose count is not 1 is gone through again, from its first step (R243). -/
theorem Dev.loopBack_selects (d : Dev) (n : ChanId) (l : LoopLevel) :
    ∃ t, Dev.Sequences n d t ∧ t.ch n = (d.ch n).modBk (fun k => { k with loops := l :: k.loops.drop 1, cache := [], lines := [] }) ∧
      d.loopBack n l = t.selectStep n ⟨l.start, l.seg, (l.head.lookup l.start).getD (d.step64 l.start), l.sfirst, l.spoolX⟩ [] := by
  refine ⟨(d.trace (some n) .loopBack).modCh n _, (Dev.Sequences.trace n d _ _).trans (.modCh n _ _), ?_, rfl⟩
  rw [Dev.ch_modCh, if_pos rfl]
  rfl

end Sys2Proof.Machine

namespace Sys2Proof
open Machine

/-- Settles O20: what the kind of the ended span does first (`Dev.spanEnd_plain`, `Dev.spanEnd_timeout`, `Dev.spanEnd_leaves`,
`Dev.spanEnd_jumpIf`), then the step that follows (`gives_follows`), or a loop back (`Dev.loopBack_selects`). -/
theorem spansEnd : Obligations.SpansEnd := by
  intro s n l ls seg hlive hcalm hrole harmed hsys ch b kind next wordOf takes shows hdue hheld hhalt
  have hmay := s.dev.maySelect_alone n hrole harmed hhalt
  have hnote := s.dev.sequences_noteRedo n
  obtain ⟨r, hch⟩ := s.dev.noteRedo_ch n
  refine ⟨fun h5 h7 h8 hspool hin htakes => ?plain, fun h5 hlatch hspool hin htakes => ?timeout,
    fun h7 hls hcount htakes hbound => ?again, fun h7 hls hcount hspool hin htakes => ?leaves,
    fun h8 hseg hvalid hpend hplays hspool hin htakes => ?jump⟩
  case plain =>
    obtain ⟨t, ht, hshows, -⟩ := gives_follows hlive hcalm hrole hsys (show exec (.dwellExpiry n) s = _ from rfl)
      (congrArg Dev.settleFaults (s.dev.spanEnd_plain n hdue hheld hmay h5 h7 h8)) hnote (ls := b.loops)
      (by rw [hch]; exact ⟨rfl, rfl, rfl, rfl, rfl, rfl⟩) hspool hin htakes
    exact ⟨t, ht, hshows⟩
  case timeout =>
    have hout := (s.dev.noteRedo n).timedOut_ch n
    rw [hch] at hout
    obtain ⟨t, ht, hshows, hsel⟩ := gives_follows hlive hcalm hrole hsys (show exec (.waitTimeout n) s = _ from rfl)
      ((s.dev.decideSeq_of n (Bool.and_eq_true_iff.2 ⟨beq_iff_eq.2 h5, congrArg Bool.not hlatch⟩)).trans
        (congrArg Dev.settleFaults (s.dev.spanEnd_timeout n hdue hheld hmay h5 hlatch)))
      (hnote.trans (Dev.sequences_timedOut _ n)) (ls := b.loops) (by rw [hout]; exact ⟨rfl, rfl, rfl, rfl, rfl, rfl⟩) hspool hin
      htakes
    exact ⟨t, ht, hshows, hsel.plays.waitTimeout.trans (by rw [hout]; rfl)⟩
  case again =>
    obtain ⟨u, hback, huch, hu⟩ := (s.dev.noteRedo n).loopBack_selects n { l with count := l.count - 1, first := false }
    rw [hch] at huch
    have huls : (u.ch n).bk.loops = { l with count := l.count - 1, first := false } :: ls := by
      rw [huch]
      exact congrArg (_ :: List.drop 1 ·) hls
    rw [hnote.step64] at hu
    obtain ⟨t, ht, hsel, hrest⟩ := gives_selects hlive hcalm hrole hsys (show exec (.loopClose n) s = _ from rfl)
      ((s.dev.decideSeq_of n (beq_iff_eq.2 h7)).trans
        (congrArg Dev.settleFaults ((s.dev.spanEnd_loops n hdue hheld hmay h7 hls hcount).trans hu)))
      (hnote.trans hback) htakes.1 (by rw [huls]; rw [hls] at htakes; exact htakes.2)
    refine ⟨t, ht, hsel.shows (by rw [huch]; rfl) hrest, hsel.plays.seg, fun h6 => ?_⟩
    rw [hsel.counts h6, huls]
    rfl
  case leaves =>
    obtain ⟨t, ht, hshows, hsel⟩ := gives_follows hlive hcalm hrole hsys (show exec (.loopClose n) s = _ from rfl)
      ((s.dev.decideSeq_of n (beq_iff_eq.2 h7)).trans
        (congrArg Dev.settleFaults (s.dev.spanEnd_leaves n hdue hheld hmay h7 hls hcount)))
      (hnote.trans (.modCh n _ _)) (ls := ls)
      (by rw [Dev.ch_modCh, if_pos rfl, hch]; exact ⟨rfl, rfl, rfl, rfl, rfl, rfl⟩) hspool hin htakes
    refine ⟨t, ht, hshows, fun h6 => (hsel.counts h6).trans ?_⟩
    rw [Dev.ch_modCh, if_pos rfl]
    rfl
  case jump =>
    obtain ⟨hseq, hat, hoffered⟩ := (s.dev.noteRedo n).jumpIf_offers n
      ((s.dev.noteRedo n).creg n (Obj.COND (stRpair b.word.toNat))) seg (by rwa [hnote.desc]) (by rwa [hch]) (by rwa [hch])
      (by rwa [hch])
    rw [hch] at hat
    obtain ⟨t, ht, hshows, hsel⟩ := gives_follows hlive hcalm hrole hsys (show exec (.jumpIf n) s = _ from rfl)
      ((s.dev.decideSeq_of n (beq_iff_eq.2 h8)).trans
        (congrArg Dev.settleFaults (s.dev.spanEnd_jumpIf n hdue hheld hmay h8 hseg)))
      (hnote.trans hseq) (ls := b.loops) ⟨hat.force, hat.addr, hat.seg, hat.lines, hat.cache, hat.loops⟩ hspool hin htakes
    refine ⟨t, ht, hshows, ?_⟩
    rw [hsel.plays.pend, hoffered, s.dev.condition_noteRedo,
      show (s.dev.noteRedo n).creg n (Obj.COND (stRpair b.word.toNat)) = _ from hnote.settings _ (cond_notMem_redoKeys _)]

end Sys2Proof
end

section
namespace Sys2Proof.Machine
open Sys2Proof

/-! R38: a write at a commit that is accepted and changes one channel. -/

/-- An accepted write that makes of a channel what it is to make. -/
theorem gives_acts {s : State} {c : Instr} {n : ChanId} {f : Dev → Dev} {g : Channel → Channel} (hlive : s.live)
    (he : exec c s = liveAt s f) (hf : f s.dev = s.dev.accept.modCh n g) : Gives c s fun t => ActsOn s t n g := by
  refine gives_at hlive he ?_
  rw [hf]
  refine ⟨?_, fun m hm => ?_, s.dev.accept_abort, s.dev.accept_mem, rfl⟩ <;> rw [State.atCommit_dev]
  · rw [Dev.ch_modCh, if_pos rfl, Dev.accept_ch]
  · rw [Dev.modCh_other _ n m hm, Dev.accept_ch]

/-- The same at a commit with no fault to present, which it settles. -/
theorem gives_actsSettled {s : State} {c : Instr} {n : ChanId} {f : Dev → Dev} {g : Channel → Channel} (hlive : s.live)
    (hcalm : s.dev.calm = true) (he : exec c s = liveAt s f) (hf : f s.dev = (s.dev.accept.modCh n g).settleFaults) :
    Gives c s fun t => ActsOn s t n g := by
  have hcalm' : (s.dev.accept.modCh n g).calm = true := Dev.calm_of_flt s.dev.accept_flt s.dev.accept_tick hcalm
  refine gives_at hlive he ?_
  rw [hf]
  refine ⟨?_, fun m hm => ?_, ?_, ?_, rfl⟩ <;> rw [State.atCommit_dev]
  · rw [Dev.settleFaults_ch _ hcalm', Dev.ch_modCh, if_pos rfl, Dev.accept_ch]
  · rw [Dev.settleFaults_ch _ hcalm', Dev.modCh_other _ n m hm, Dev.accept_ch]
  · rw [Dev.settleFaults_dict _ hcalm', Dev.modCh_dict, Dev.accept_abort]
  · rw [Dev.settleFaults_mem _ hcalm', Dev.modCh_mem, Dev.accept_mem]

/-- The segment of a VALID descriptor has a number below 4,096. -/
theorem Dev.lt_of_dsValid {d : Dev} {i : Nat} (h : dsValid (d.desc i) = true) : i < 4096 := by
  by_contra hi
  rw [Dev.desc, if_neg hi] at h
  exact absurd h (by decide)

@[simp] theorem Dev.accept_desc (d : Dev) (i : Nat) : d.accept.desc i = d.desc i := by simp [Dev.desc]

/-! R248, R249, R266: jumps that are offered, cancelled and taken. -/

section
variable (d : Dev) (n : ChanId)

/-- Where a chain plays with no under-run open, no commit but its boundaries is one (R254, R265). -/
theorem Dev.openBoundary_closed (hseq : (d.ch n).bk.seq ≠ .ended) (hdry : (d.ch n).bk.dry = false) : d.openBoundary n = d := by
  unfold Dev.openBoundary
  dsimp only
  split
  · rfl
  · rw [if_neg (by simpa using hseq), if_neg (by simp [hdry])]

/-- No selection of the present commit has taken a jump that might give way (R249). -/
theorem Dev.giveWay_none (h : ∀ r, (d.ch n).redo = some r → r.tick ≠ d.tick) : d.giveWay n = d := by
  unfold Dev.giveWay
  split
  · next r hr => exact if_neg (by simp [h r hr])
  · rfl

/-- A host jump to a VALID segment, while a chain plays and no jump is pending (R248, R249). -/
theorem Dev.hostJump_pends (seg : Nat) (hr : d.role n = 0) (hv : dsValid (d.desc seg) = true)
    (hplays : (d.ch n).bk.seq = .playing ∨ (d.ch n).bk.seq = .waiting) (ha : (d.ch n).isArmed = true)
    (hdry : (d.ch n).bk.dry = false) (hp : (d.ch n).bk.pend = none) (hredo : ∀ r, (d.ch n).redo = some r → r.tick ≠ d.tick) :
    ∃ missed stage, d.hostJump n seg none = (d.accept.modCh n fun c => c.modBk fun k =>
      { k with pend := some ⟨.host, seg, d.tick, missed, []⟩, stage := stage }).settleFaults := by
  have hlt := Dev.lt_of_dsValid hv
  obtain ⟨missed, stage, hoffer⟩ := d.accept.offerJump_pends n .host seg (d.tick - 1) [] (by rwa [Dev.accept_desc]) (by rwa [Dev.accept_ch])
    (by rwa [Dev.accept_ch]) (by rwa [Dev.accept_ch])
  refine ⟨missed, stage, ?_⟩
  have hgive : d.accept.giveWay n = d.accept := d.accept.giveWay_none n (by rwa [Dev.accept_ch, Dev.accept_tick])
  have hopen := (d.accept.offerJump n .host seg (d.tick - 1) []).openBoundary_closed n
    (by rw [hoffer, Dev.ch_modCh, if_pos rfl, Dev.accept_ch]; rcases hplays with h | h <;> simp [Channel.modBk, h])
    (by rw [hoffer, Dev.ch_modCh, if_pos rfl, Dev.accept_ch]; exact hdry)
  unfold Dev.hostJump
  rw [d.isFollower_alone n hr, if_neg (by simp), if_neg (by simp; omega)]
  dsimp only
  rw [hgive, hopen, hoffer, Dev.accept_tick]

/-- A cancel takes every pending jump away but a safe jump (R249, R266). -/
theorem Dev.cancelJump_alone {j : Jump} (hr : d.role n = 0) (hp : (d.ch n).bk.pend = some j) : d.cancelJump n =
    d.accept.modCh n (·.modBk fun k => { k with pend := if j.src = .safeJump then some j else none }) := by
  unfold Dev.cancelJump
  rw [d.isFollower_alone n hr, if_neg (by simp)]
  refine congrArg (d.accept.setCh n) ?_
  simp [Channel.modBk, hp]

/-- A channel whose jump is taken with CLR_LOOPS, before what its lateness shows (R251). -/
def Dev.jumped (j : Jump) : Dev :=
  (((d.trace (some n) .jump).cinc n 32 Obj.JUMPS_TAKEN).setCreg n Obj.LAST_JUMP_TICK d.tick.toNat).modCh n fun c => c.modBk fun k =>
    { k.bound d.tick with pend := none, loops := [], cache := [], lines := [], dry := false,
                          jumpLate := k.jumpLate || j.late d.tick }

theorem Dev.countJump_jumped (j : Jump) : d.countJump n j true = if j.late d.tick then
    ((d.jumped n j).modCh n (·.seqFlag 1)).cinc n 32 Obj.JUMP_LATE_CNT else d.jumped n j := rfl

theorem Dev.sequences_jumped (j : Jump) : Dev.Sequences n d (d.jumped n j) := by
  unfold Dev.jumped
  exact (((Dev.Sequences.trace n d (some n) .jump).trans (.cinc n _ 32 Obj.JUMPS_TAKEN)).trans
    (.setCreg n _ Obj.LAST_JUMP_TICK d.tick.toNat)).trans (.modCh n _ _)

/-- Nothing is pending, no level is open, no line is held, and the force path stays as another channel's. -/
structure Channel.Cleared (c c' : Channel) : Prop where
  pend  : c'.bk.pend = none
  loops : c'.bk.loops = []
  lines : c'.bk.lines = []
  force : c'.force = c.force

theorem Dev.jumped_cleared (j : Jump) : (d.ch n).Cleared ((d.jumped n j).ch n) := by
  unfold Dev.jumped Dev.cinc Dev.setCreg
  rw [Dev.ch_modCh, if_pos rfl, Dev.ch_modCh, if_pos rfl, Dev.ch_modCh, if_pos rfl]
  exact ⟨rfl, rfl, rfl, rfl⟩

/-- A jump that is taken with CLR_LOOPS (R248, R251). -/
theorem Dev.countJump_cleared (j : Jump) : Dev.Sequences n d (d.countJump n j true) ∧
    (d.ch n).Cleared ((d.countJump n j true).ch n) := by
  have hjumped := d.sequences_jumped n j
  obtain ⟨hpend, hloops, hlines, hforce⟩ := d.jumped_cleared n j
  rw [d.countJump_jumped n j]
  split
  · refine ⟨(hjumped.trans (.seqFlag n _ 1)).trans (.cinc n _ 32 Obj.JUMP_LATE_CNT), ?_⟩
    rw [Dev.cinc, Dev.ch_modCh, if_pos rfl, Dev.ch_modCh, if_pos rfl]
    exact ⟨hpend, hloops, hlines, hforce⟩
  · exact ⟨hjumped, hpend, hloops, hlines, hforce⟩

/-- The channel as a safe jump is taken, before its first step is selected: it plays from the safe head, and its spool stops. -/
structure Channel.EntersSafe (c c' : Channel) : Prop extends c.Cleared c' where
  cache : c'.bk.cache = c.bk.safeHead.steps
  spool : c'.spool.st = .stopped

/-- A safe jump selects the first step of SAFE_SEG, as the safe head or the ledger has it (R266). -/
theorem Dev.takeSafe_selects (j : Jump) : ∃ t, Dev.Sequences n d t ∧ (d.ch n).EntersSafe (t.ch n) ∧
    let seg := d.creg n Obj.SAFE_SEG
    let a := dsStart (d.desc seg)
    d.takeSafe n j = t.selectStep n
      ⟨a, seg, ((d.ch n).bk.safeHead.steps.lookup a).getD (d.step64 a), true, none⟩ [] := by
  obtain ⟨hcount, hpend, hloops, hlines, hforce⟩ := d.countJump_cleared n j
  let u := (d.countJump n j true).cinc n 32 Obj.SAFE_JUMPS
  let t := u.modCh n fun c => (c.modSpool fun s => { s with st := .stopped }).modBk fun k =>
    { k with cache := (d.ch n).bk.safeHead.steps }
  have hseq : Dev.Sequences n d t := (hcount.trans (.cinc n _ 32 Obj.SAFE_JUMPS)).trans (.modCh n _ _)
  have hch : (d.ch n).EntersSafe (t.ch n) := by
    simp only [t, u, Dev.cinc, Dev.ch_modCh, if_true]
    exact ⟨⟨hpend, hloops, hlines, hforce⟩, rfl, rfl⟩
  refine ⟨t, hseq, hch, ?_⟩
  have hread : ∀ a, t.readStep n a = ((d.ch n).bk.safeHead.steps.lookup a).getD (d.step64 a) := fun a => by
    simp [Dev.readStep, Barker.held?, hch.loops, hch.lines, hch.cache, hseq.step64]
  intro seg a
  rw [← hread]
  show t.selectStep n ⟨dsStart (t.desc seg), seg, t.readStep n (dsStart (t.desc seg)), true, none⟩ [] = _
  rw [hseq.desc]

/-- A safe jump that is pending, with its head READY, is taken at once (R266). -/
theorem Dev.safeNow_takes {j : Jump} (hmay : d.maySelect n = true) (hhold : (d.ch n).bk.holdReq = false)
    (hp : (d.ch n).bk.pend = some j) (hsrc : j.src = .safeJump) (hready : (d.ch n).bk.safeHead.st = .ready) :
    d.safeNow n = ((d.noteRedo n).takeSafe n j).settleFaults := by
  unfold Dev.safeNow
  dsimp only
  rw [hp]
  exact if_pos (by simp [hsrc, hready, hmay, hhold])
end

end Sys2Proof.Machine

namespace Sys2Proof
open Machine

/-- Settles O22: a host jump by `Dev.hostJump_pends`, its cancel by `Dev.cancelJump_alone`, a safe jump by
`Dev.takeSafe_selects`. -/
theorem jumpsAreOfferedAndTaken : Obligations.JumpsAreOfferedAndTaken := by
  intro s n seg j hlive hcalm hrole harmed ch b
  refine ⟨fun hv hplays hdry hpend hredo => ?offered, fun hpend => ?cancelled, fun hpend hsrc hready hhalt hhold hsys => ?safe⟩
  case offered =>
    obtain ⟨missed, stage, hjump⟩ := s.dev.hostJump_pends n seg.toNat hrole hv hplays harmed hdry hpend hredo
    obtain ⟨t, ht, hself, hothers, habort, -, hshown⟩ :=
      gives_actsSettled hlive hcalm (show exec (.jumpCmdJump n seg) s = _ from rfl) hjump
    refine ⟨t, ht, ?_, ?_, ?_, ?_, habort, hothers, hshown⟩ <;> rw [hself] <;> rfl
  case cancelled =>
    obtain ⟨t, ht, hself, hothers, -, -, hshown⟩ :=
      gives_acts hlive (show exec (.jumpCmdCancel n) s = _ from rfl) (s.dev.cancelJump_alone n hrole hpend)
    refine ⟨t, ht, ?_, ?_, hothers, hshown⟩ <;> rw [hself] <;> rfl
  case safe =>
    intro a w hok
    have hnote := s.dev.sequences_noteRedo n
    obtain ⟨r, hch⟩ := s.dev.noteRedo_ch n
    have hseg : (s.dev.noteRedo n).creg n Obj.SAFE_SEG = ch.reg Obj.SAFE_SEG := hnote.settings _ (by decide)
    obtain ⟨u, hseq, hsafe, hu⟩ := (s.dev.noteRedo n).takeSafe_selects n j
    dsimp only at hu
    rw [hseg, hnote.desc, hnote.step64] at hu
    rw [hch] at hsafe hu
    obtain ⟨t, ht, hsel, hothers, hshown⟩ := gives_selects hlive hcalm hrole hsys (show exec (.safeJump n) s = _ from rfl)
      ((s.dev.safeNow_takes n (s.dev.maySelect_alone n hrole harmed hhalt) hhold hpend hsrc hready).trans
        (congrArg Dev.settleFaults hu)) (hnote.trans hseq) hok fun _ => by rw [hsafe.loops]; decide
    have hplays := hsel.plays
    refine ⟨t, ht, hplays.addr, hplays.seg, hplays.word, fun h6 => ?_, hplays.pend.trans hsafe.pend, ?_, ?_,
      fun m hm => congrArg Channel.still (hothers m hm), hshown⟩
    · have hcounts := hsel.counts (by rw [hplays.word]; exact h6)
      rw [hsafe.loops] at hcounts
      exact List.map_eq_nil_iff.1 hcounts
    · rw [hsel.spool rfl]
      exact hsafe.spool
    · rw [hsel.force, hsafe.force]
      rfl

end Sys2Proof
end

section
namespace Sys2Proof.Machine
open Sys2Proof

/-! R237, R250, R259, R264, R266: heads, descriptors and spools. -/

theorem toNat_unnamed (seg : BitVec 16) : seg.toNat = 0xFFFF ↔ seg = 0xFFFF := BitVec.toNat_inj (y := 0xFFFF#16)

section
variable (d : Dev) (n : ChanId)

/-- A head that fills from a segment, or is empty where none is named (R250). -/
def headFrom (seg : Nat) : Head := if seg = 0xFFFF then Head.reset else { st := .filling, seg := seg, steps := [] }

theorem headFrom_toNat (seg : BitVec 16) :
    headFrom seg.toNat = if seg = 0xFFFF then Head.reset else ⟨.filling, seg.toNat, []⟩ := by
  simp only [headFrom, toNat_unnamed]

/-- A channel with a head pinned (R250). -/
def Channel.pinned (c : Channel) (h : Idx4) (seg : Nat) : Channel :=
  (c.setReg (Obj.HEAD_PIN h.val) seg).modBk fun k => { k with heads := k.heads.set h (headFrom seg) }

theorem Dev.pinHead_accepted (h : Idx4) (seg : Nat)
    (hseg : seg = 0xFFFF ∨ dsValid (d.desc seg) = true ∧ dsType (d.desc seg) = 0) (hp : (d.ch n).bk.pend = none) :
    d.pinHead n h seg = d.accept.modCh n (·.pinned h seg) := by
  have hok : d.pinOk n h seg = true := by
    rcases hseg with rfl | ⟨hv, ht⟩
    · simp [Dev.pinOk, hp]
    · simp [Dev.pinOk, hp, hv, ht]
  unfold Dev.pinHead
  rw [if_pos hok]
  exact Dev.modCh_modCh ..

theorem Dev.pinHead_refused (h : Idx4) (seg : Nat) (hseg : seg ≠ 0xFFFF)
    (hbad : ¬ (dsValid (d.desc seg) = true ∧ dsType (d.desc seg) = 0)) :
    d.pinHead n h seg = d.refuse (chObj n (Obj.HEAD_PIN h.val)) abRange := by
  unfold Dev.pinHead Dev.pinOk
  rw [if_neg]
  simp only [Bool.and_eq_true, Bool.or_eq_true, beq_iff_eq, not_and]
  intro h'
  exact absurd (h'.resolve_left hseg) hbad

/-- SAFE_SEG names a RESIDENT segment: the safe head fills (R266). -/
theorem Dev.writeSafeSeg_accepted (seg : Nat) (hv : dsValid (d.desc seg) = true) (ht : dsType (d.desc seg) = 0) :
    d.writeSafeSeg n seg = d.accept.modCh n fun c => (c.setReg Obj.SAFE_SEG seg).modBk fun k =>
      { k with safeHead := ⟨.filling, seg, []⟩ } := by
  have hseg : seg ≠ 0xFFFF := by have := Dev.lt_of_dsValid hv; omega
  unfold Dev.writeSafeSeg
  rw [if_neg (by simp [hseg, hv, ht]), if_neg hseg]
  exact Dev.modCh_modCh ..

/-- A channel whose stream starts again (R264). -/
def Channel.streamReset (c : Channel) : Channel :=
  { c with spool := { Spool.reset with st := if c.reg Obj.SPOOL_SEG = 0xFFFF then .none else .idle } }

theorem Dev.resetSpool_eq : d.resetSpool n = d.modCh n (·.streamReset) := rfl

/-- SPOOL_SEG of a PARKED channel names a spool that no other channel has, or none (R259). -/
theorem Dev.writeSpoolSeg_accepted (seg : Nat) (hp : (d.ch n).isParked = true)
    (hseg : seg = 0xFFFF ∨ dsValid (d.desc seg) = true ∧ dsType (d.desc seg) = 1 ∧ ∀ m, m ≠ n → d.creg m Obj.SPOOL_SEG ≠ seg) :
    d.writeSpoolSeg n seg = d.accept.modCh n fun c => (c.setReg Obj.SPOOL_SEG seg).streamReset := by
  unfold Dev.writeSpoolSeg
  rw [if_neg, if_neg (by simp [hp]), Dev.resetSpool_eq]
  · exact Dev.modCh_modCh ..
  · rcases hseg with rfl | ⟨hv, ht, hother⟩
    · simp
    · simpa [hv, ht] using fun _ => hother

theorem Dev.writeSpoolSeg_refused (hp : (d.ch n).isParked = false) :
    d.writeSpoolSeg n 0xFFFF = d.refuse (chObj n Obj.SPOOL_SEG) abState := by
  unfold Dev.writeSpoolSeg
  rw [if_neg (by simp), if_pos (by simp [hp])]

/-- SPOOL_CMD 1 while nothing uses the segment of the spool (R264). -/
theorem Dev.spoolReset_accepted (huse : d.segInUse (d.creg n Obj.SPOOL_SEG) = false)
    (hclaim : d.load.claims.any (·.seg == some (d.creg n Obj.SPOOL_SEG)) = false) :
    d.spoolReset n = d.accept.modCh n (·.streamReset) := by
  unfold Dev.spoolReset
  exact if_neg (by simp [huse, hclaim])

/-- A descriptor that is not in use is written (R236, R237). -/
theorem Dev.writeDesc_accepted (i : Nat) (w : Word64) (huse : d.segInUse i = false) (hok : d.descOk i w.toNat = true) :
    d.writeDesc i w = ({ d.accept with mem := { d.mem with dir := sput 0 d.mem.dir i w } } : Dev).pruneReplay := by
  unfold Dev.writeDesc
  rw [huse, hok]
  rfl

theorem Dev.writeDesc_refused (i : Nat) (w : Word64) (huse : d.segInUse i = true) :
    d.writeDesc i w = (d.inc 32 Obj.DIR_REFUSED).refuse Obj.DIR_ENTRY abState := by
  unfold Dev.writeDesc
  rw [huse]
  rfl

/-- Where no boundary is open and no fault waits, nothing but the channel changes. -/
theorem Dev.fills_settled (g : Channel → Channel) (hcalm : d.calm = true) (hseq : (g (d.ch n)).bk.seq ≠ .ended)
    (hdry : (g (d.ch n)).bk.dry = false) : ((d.modCh n g).openBoundary n).settleFaults.chans = (d.modCh n g).chans ∧
      ((d.modCh n g).openBoundary n).settleFaults.mem = d.mem := by
  have hself : (d.modCh n g).ch n = g (d.ch n) := (d.ch_modCh n n g).trans (if_pos rfl)
  have hcalm' : (d.modCh n g).calm = true := Dev.calm_of_flt rfl rfl hcalm
  rw [Dev.openBoundary_closed _ n (by rwa [hself]) (by rwa [hself])]
  exact ⟨Dev.settleFaults_chans _ hcalm', Dev.settleFaults_mem _ hcalm'⟩

/-- With no jump pending, no safe jump is taken (R266). -/
theorem Dev.safeNow_none (h : (d.ch n).bk.pend = none) : d.safeNow n = d := by
  unfold Dev.safeNow
  dsimp only
  rw [h]

/-- The channel whose head holds its steps (R250). -/
def Channel.headFilled (c : Channel) (h : Idx4) (steps : List (Nat × Word64)) (tick : Nat) : Channel :=
  (c.modBk fun k => { k with heads := k.heads.set h ⟨.ready, c.bk.heads[h].seg, steps⟩ }).setReg (Obj.HEAD_FILL_TICK h.val) tick

/-- The channel whose stage holds its steps (R250). -/
def Channel.stageFilled (c : Channel) (steps : List (Nat × Word64)) : Channel :=
  c.modBk fun k => { k with stage := ⟨.ready, c.bk.stage.seg, steps⟩ }

/-- The channel whose safe head holds its steps (R266). -/
def Channel.safeFilled (c : Channel) (steps : List (Nat × Word64)) : Channel :=
  c.modBk fun k => { k with safeHead := ⟨.ready, c.bk.safeHead.seg, steps⟩ }
end

/-- A command that changes one channel and neither the other ones nor the memories. -/
theorem gives_fills {s : State} {c : Instr} {n : ChanId} {f : Dev → Dev} {g : Channel → Channel} (hlive : s.live)
    (he : exec c s = liveAt s f) (hf : (f s.dev).chans = (s.dev.modCh n g).chans ∧ (f s.dev).mem = s.dev.mem) :
    Gives c s fun t => t.dev.ch n = g (s.dev.ch n) ∧ (∀ m, m ≠ n → t.dev.ch m = s.dev.ch m) ∧ t.dev.mem = s.dev.mem ∧
      t.shown = t.dev := by
  obtain ⟨hchans, hmem⟩ := hf
  have hch : ∀ m, (f s.dev).ch m = if m = n then g (s.dev.ch n) else s.dev.ch m := fun m =>
    (congrArg (fun v : Vector Channel 64 => v[m]) hchans).trans (s.dev.ch_modCh n m g)
  exact gives_at hlive he ⟨(hch n).trans (if_pos rfl), fun m hm => (hch m).trans (if_neg hm), hmem, rfl⟩

end Sys2Proof.Machine

namespace Sys2Proof
open Machine

/-- Settles O21: each write by what it makes of its channel or directory, or by its refusal; a fill that is done meets no
boundary, so only its head changes (`Dev.fills_settled`). -/
theorem headsAndSegments : Obligations.HeadsAndSegments := by
  intro s n h seg word hlive ch b d resident others quiet
  refine ⟨fun hseg hpend => ?pin, fun hbad hseg => ?pinRefused, fun hquiet hfill => ?head, fun hquiet hfill => ?stage,
    fun hquiet hfill hpend => ?safeHead, fun hres => ?safeSeg, fun hparked hseg => ?spoolSeg, fun hparked hseg => ?spoolRefused,
    fun huse hclaim => ?spoolReset, fun huse hok => ?desc, fun huse => ?descRefused⟩
  case pin =>
    obtain ⟨t, ht, hself, hothers, habort, hmem, hshown⟩ := gives_acts hlive (show exec (.headPin n h seg) s = _ from rfl)
      (s.dev.pinHead_accepted n h seg.toNat (hseg.symm.imp_left (toNat_unnamed seg).2) hpend)
    refine ⟨t, ht, ?_, fun j => ?_, ?_, habort, hothers, hmem, hshown⟩ <;> rw [hself]
    · exact Channel.reg_setReg ..
    · rw [← headFrom_toNat]
      exact Vector.getF_set ..
    · rfl
  case pinRefused =>
    obtain ⟨t, ht, -, habort, hchans⟩ := gives_refused hlive (show exec (.headPin n h seg) s = _ from rfl)
      (s.dev.pinHead_refused n h seg.toNat (fun h' => hseg ((toNat_unnamed seg).1 h')) hbad)
    exact ⟨t, ht, hchans, habort⟩
  case head =>
    obtain ⟨hcalm, hseq, hdry⟩ := hquiet
    obtain ⟨t, ht, hself, hothers, hmem, hshown⟩ := gives_fills (n := n)
      (g := (·.headFilled h (s.dev.first32 b.heads[h].seg) s.dev.tick.toNat)) hlive
      (show exec (.headFillDone n h) s = _ from rfl) (by
        rw [if_neg (by simpa using hfill)]
        dsimp only [Dev.setCreg]
        rw [Dev.modCh_modCh]
        exact s.dev.fills_settled n _ hcalm hseq hdry)
    refine ⟨t, ht, fun j => ?_, ?_, hothers, hmem, hshown⟩ <;> rw [hself]
    · exact Vector.getF_set ..
    · rfl
  case stage =>
    obtain ⟨hcalm, hseq, hdry⟩ := hquiet
    obtain ⟨t, ht, hself, hothers, hmem, hshown⟩ := gives_fills (n := n)
      (g := (·.stageFilled (s.dev.first32 b.stage.seg))) hlive (show exec (.stageFillDone n) s = _ from rfl) (by
        rw [if_neg (by simpa using hfill)]
        exact s.dev.fills_settled n _ hcalm hseq hdry)
    refine ⟨t, ht, ?_, ?_, hothers, hmem, hshown⟩ <;> rw [hself] <;> rfl
  case safeHead =>
    obtain ⟨t, ht, hself, hothers, hmem, hshown⟩ := gives_fills (n := n)
      (g := (·.safeFilled (s.dev.first32 b.safeHead.seg))) hlive (show exec (.safeHeadFillDone n) s = _ from rfl) (by
        rw [if_neg (by simpa using hfill), Dev.safeNow_none _ n (by rw [Dev.ch_modCh, if_pos rfl]; exact hpend)]
        exact ⟨rfl, rfl⟩)
    refine ⟨t, ht, ?_, ?_, hothers, hmem, hshown⟩ <;> rw [hself] <;> rfl
  case safeSeg =>
    obtain ⟨hvalid, htype⟩ := hres
    obtain ⟨t, ht, hself, hothers, habort, hmem, hshown⟩ := gives_acts hlive
      (show exec (.safeSegWrite n seg) s = _ from rfl) (s.dev.writeSafeSeg_accepted n seg.toNat hvalid htype)
    refine ⟨t, ht, ?_, habort, ?_, hothers, hmem, hshown⟩ <;> rw [hself] <;> rfl
  case spoolSeg =>
    obtain ⟨t, ht, hself, hothers, -, hmem, hshown⟩ := gives_acts hlive (show exec (.spoolSegWrite n seg) s = _ from rfl)
      (s.dev.writeSpoolSeg_accepted n seg.toNat hparked (hseg.imp_left (toNat_unnamed seg).2))
    refine ⟨t, ht, ?_, ?_, ?_, ⟨hothers, hmem, hshown⟩, ?_⟩ <;> rw [hself]
    · exact Channel.reg_setReg ..
    · rfl
    · rfl
    · simp only [Channel.streamReset, Channel.reg_setReg, toNat_unnamed]
  case spoolRefused =>
    subst hseg
    obtain ⟨t, ht, -, habort, hchans⟩ := gives_refused hlive (show exec (.spoolSegWrite n 0xFFFF) s = _ from rfl)
      (s.dev.writeSpoolSeg_refused n hparked)
    exact ⟨t, ht, hchans, habort⟩
  case spoolReset =>
    obtain ⟨t, ht, hself, hothers, -, hmem, hshown⟩ := gives_acts hlive (show exec (.spoolCmdReset n) s = _ from rfl)
      (s.dev.spoolReset_accepted n huse hclaim)
    refine ⟨t, ht, ?_, ?_, hothers, hmem, hshown⟩ <;> rw [hself] <;> rfl
  case desc =>
    refine gives_at hlive (show exec (.dirEntryWrite word) s = _ from rfl) ?_
    rw [s.dev.writeDesc_accepted _ word huse hok]
    exact ⟨rfl, rfl, s.dev.accept_chans, s.dev.accept_abort, rfl⟩
  case descRefused =>
    refine gives_at hlive (show exec (.dirEntryWrite word) s = _ from rfl) ?_
    rw [s.dev.writeDesc_refused _ word huse]
    exact ⟨Dev.refuse_mem .., Dev.refuse_chans .., congrArg Dict.abort (Dev.refuse_dict ..), rfl⟩

end Sys2Proof
end

section
namespace Sys2Proof.Machine
open Sys2Proof

/-! R261, R328, R419: what the writes of ledger lines make of the ledger, and what they leave. -/

/-- Writes from a key on in ascending order: each key of their range reads its value, every other key as before. -/
theorem sget_writeFrom (ws : List Word64) (m : SMap Word64) (b k a : Nat) :
    sget 0 ((ws.zipIdx k).foldl (fun m (w : Word64 × Nat) => sput 0 m (b + w.2) w.1) m) a =
      if b + k ≤ a ∧ a < b + k + ws.length then ws.getD (a - (b + k)) 0 else sget 0 m a := by
  induction ws generalizing m k with
  | nil => rw [if_neg (by simp)]; rfl
  | cons w ws ih =>
    rw [List.zipIdx_cons, List.foldl_cons, ih, sget_sput, List.length_cons]
    obtain h | rfl | h : a < b + k ∨ a = b + k ∨ b + (k + 1) ≤ a := by omega
    · rw [if_neg (by omega), if_neg (by omega), if_neg (by omega)]
    · rw [if_neg (by omega), if_pos rfl, if_pos (by omega), Nat.sub_self, List.getD_cons_zero]
    · rw [if_neg (show a ≠ b + k by omega), show a - (b + k) = a - (b + (k + 1)) + 1 by omega, List.getD_cons_succ]
      exact if_congr (by omega) rfl rfl

/-- Ledger lines have been written: nothing differs but the ledger, the replay list, device objects and the free values
drawn. -/
def Dev.StoresLines (d t : Dev) : Prop := ∃ regs ctr ledger replay,
  t = { d with regs := regs, freeCtr := ctr, mem := { d.mem with ledger := ledger, replay := replay } }

namespace Dev.StoresLines

theorem refl (d : Dev) : Dev.StoresLines d d := ⟨_, _, _, _, rfl⟩

theorem trans {d t u : Dev} (h : Dev.StoresLines d t) (h' : Dev.StoresLines t u) : Dev.StoresLines d u := by
  obtain ⟨_, _, _, _, rfl⟩ := h
  obtain ⟨_, _, _, _, rfl⟩ := h'
  exact ⟨_, _, _, _, rfl⟩

theorem incBy (d : Dev) (w k n : Nat) : Dev.StoresLines d (d.incBy w k n) := by
  unfold Dev.incBy
  split
  · exact refl d
  · exact ⟨_, _, _, _, rfl⟩

theorem writeLines (d : Dev) (line : Nat) (words : List Word64) : Dev.StoresLines d (d.writeLines line words) :=
  have hwait : Dev.StoresLines d (d.fresh.2.incBy 64 Obj.BANK_WAIT d.fresh.1) := .trans ⟨_, _, _, _, rfl⟩ (incBy ..)
  (hwait.trans ⟨_, _, _, _, rfl⟩).trans (incBy ..)

theorem writeRing (d : Dev) (w f : Nat) (steps : List Word64) : Dev.StoresLines d (d.writeRing w f steps) := by
  unfold Dev.writeRing
  generalize List.range (steps.length / 8) = is
  induction is generalizing d with
  | nil => exact refl d
  | cons i is ih => exact (writeLines d _ _).trans (ih _)

section
variable {d t : Dev} (h : Dev.StoresLines d t)
include h

theorem load : t.load = d.load := by obtain ⟨_, _, _, _, rfl⟩ := h; rfl
theorem sec : t.sec = d.sec := by obtain ⟨_, _, _, _, rfl⟩ := h; rfl

/-- Channels, directory and programs stay. -/
theorem kept : t.chans = d.chans ∧ t.mem.dir = d.mem.dir ∧ t.mem.progs = d.mem.progs := by
  obtain ⟨_, _, _, _, rfl⟩ := h
  exact ⟨rfl, rfl, rfl⟩
end

end Dev.StoresLines

theorem Dev.incBy_mem (d : Dev) (w k n : Nat) : (d.incBy w k n).mem = d.mem := by
  unfold Dev.incBy
  split <;> rfl

/-- A write of lines gives their words to the steps of those lines and to no other (R419). -/
theorem Dev.writeLines_ledger (d : Dev) (line : Nat) (words : List Word64) (a : Nat) :
    sget 0 (d.writeLines line words).mem.ledger a =
      if 8 * line ≤ a ∧ a < 8 * line + words.length then words.getD (a - 8 * line) 0 else sget 0 d.mem.ledger a := by
  unfold Dev.writeLines
  dsimp only
  rw [Dev.incBy_mem, sget_writeFrom, Dev.incBy_mem]
  rfl

/-- The lines written leave the replay list (R338). -/
theorem Dev.writeLines_replay (d : Dev) (line : Nat) (words : List Word64) : (d.writeLines line words).mem.replay =
    d.mem.replay.filter fun e => e.line < line || line + words.length / 8 ≤ e.line := by
  unfold Dev.writeLines
  dsimp only
  rw [Dev.incBy_mem, Dev.incBy_mem]
  rfl

/-! ## The ring of a spool (R261) -/

/-- Ledger line of the granule that holds the stream indices from `f + 8 * q` on. -/
def ringLine (w f q : Nat) : Nat := (dsStart w + (f + 8 * q) % dsSteps w) / 8

/-- What one granule of a refill makes of the module. -/
def Dev.writeGranule (w f : Nat) (steps : List Word64) (d : Dev) (q : Nat) : Dev :=
  d.writeLines (ringLine w f q) ((steps.drop (8 * q)).take 8)

theorem Dev.writeRing_eq (d : Dev) (w f : Nat) (steps : List Word64) :
    d.writeRing w f steps = (List.range (steps.length / 8)).foldl (Dev.writeGranule w f steps) d := rfl

section
variable {w f : Nat} (hstart : dsStart w % 8 = 0) (hsteps : dsSteps w % 8 = 0) (hf : f % 8 = 0)
include hsteps hf

/-- A granule does not wrap: its indices go on from its first within the ring. -/
theorem ring_within_granule (q r : Nat) (hpos : 0 < dsSteps w) (hr : r < 8) :
    (f + (8 * q + r)) % dsSteps w = (f + 8 * q) % dsSteps w + r := by
  have hlt := Nat.mod_lt (f + 8 * q) hpos
  have hmod : (f + 8 * q) % dsSteps w % 8 = (f + 8 * q) % 8 := Nat.mod_mod_of_dvd _ (Nat.dvd_of_mod_eq_zero hsteps)
  have hr' : r % dsSteps w = r := Nat.mod_eq_of_lt (by omega)
  rw [← Nat.add_assoc, Nat.add_mod_of_add_mod_lt (by omega), hr']

include hstart

/-- The step of a stream index lies in the line of its granule. -/
theorem ring_addr (q r : Nat) (hpos : 0 < dsSteps w) (hr : r < 8) :
    dsStart w + (f + (8 * q + r)) % dsSteps w = 8 * ringLine w f q + r := by
  have hmod : (f + 8 * q) % dsSteps w % 8 = (f + 8 * q) % 8 := Nat.mod_mod_of_dvd _ (Nat.dvd_of_mod_eq_zero hsteps)
  rw [ring_within_granule hsteps hf q r hpos hr, ringLine]
  omega

/-- Granules that fit the ring together have lines of their own. -/
theorem ringLine_ne {q j : Nat} (hq : q < j) (hj : 8 * j < dsSteps w) : ringLine w f q ≠ ringLine w f j := by
  intro h
  have hq' := ring_addr hstart hsteps hf q 0 (by omega) (by omega)
  have hj' := ring_addr hstart hsteps hf j 0 (by omega) (by omega)
  simp only [Nat.add_zero] at hq' hj'
  have hmod : f + 8 * q ≡ f + 8 * j [MOD dsSteps w] := by
    unfold Nat.ModEq
    omega
  have := (hmod.add_left_cancel' f).eq_of_lt_of_lt (by omega) hj
  omega

/-- The first granules of a refill that fits its ring stand at their ring addresses. -/
theorem Dev.writeGranules_ledger (d : Dev) (steps : List Word64) (hfit : steps.length ≤ dsSteps w) (j : Nat)
    (hj : 8 * j ≤ steps.length) (i : Nat) (hi : i < 8 * j) :
    sget 0 ((List.range j).foldl (Dev.writeGranule w f steps) d).mem.ledger (dsStart w + (f + i) % dsSteps w) =
      steps.getD i 0 := by
  induction j with
  | zero => omega
  | succ j ih =>
    have hlen : ((steps.drop (8 * j)).take 8).length = 8 := by simp; omega
    have haddr := ring_addr hstart hsteps hf (i / 8) (i % 8) (by omega) (by omega)
    rw [Nat.div_add_mod] at haddr
    rw [List.range_succ, List.foldl_concat, Dev.writeGranule, Dev.writeLines_ledger, hlen]
    by_cases hlast : i < 8 * j
    · have hother := ringLine_ne hstart hsteps hf (q := i / 8) (j := j) (by omega) (by omega)
      rw [if_neg (by omega)]
      exact ih (by omega) hlast
    · have hq : i / 8 = j := by omega
      rw [hq] at haddr
      rw [if_pos (by omega), show dsStart w + (f + i) % dsSteps w - 8 * ringLine w f j = i % 8 by omega]
      simp only [List.getD_eq_getElem?_getD]
      rw [List.getElem?_take_of_lt (by omega), List.getElem?_drop, show 8 * j + i % 8 = i by omega]

/-- A refill that fits its ring stands at its ring addresses (R261). -/
theorem Dev.writeRing_ledger (d : Dev) (steps : List Word64) (hfit : steps.length ≤ dsSteps w) (hwhole : steps.length % 8 = 0)
    (i : Nat) (hi : i < steps.length) :
    sget 0 (d.writeRing w f steps).mem.ledger (dsStart w + (f + i) % dsSteps w) = steps.getD i 0 := by
  rw [d.writeRing_eq]
  exact d.writeGranules_ledger hstart hsteps hf steps hfit _ (by omega) i (by omega)
end

theorem length_stepsOf (b : List Byte) : (stepsOf b).length = b.length / 8 := by simp [stepsOf, wordsAt]

/-! ## Answers to a load (R424, Table 15-10) -/

/-- An answer ends the load on its link: its status, its queue and interrupts change, and no claim. -/
theorem Dev.loadAnswer_eq (d : Dev) (bulk : Bool) (code done : Nat) : ∃ regs pcie load,
    d.loadAnswer bulk code done = { d with regs := regs, pcie := pcie, load := load } ∧ load.claims = d.load.claims := by
  unfold Dev.loadAnswer
  dsimp only
  split
  · split
    · split <;> exact ⟨_, _, _, rfl, rfl⟩
    · exact ⟨_, _, _, rfl, rfl⟩
  · split
    · split <;> exact ⟨_, _, _, rfl, rfl⟩
    · exact ⟨_, _, _, rfl, rfl⟩

theorem Dev.loadAnswer_ch (d : Dev) (bulk : Bool) (code done : Nat) (m : ChanId) :
    (d.loadAnswer bulk code done).ch m = d.ch m := by
  obtain ⟨regs, pcie, load, heq, -⟩ := d.loadAnswer_eq bulk code done
  rw [heq]
  rfl

theorem Dev.violate_violSeq (d : Dev) (a b c e : Nat) : (d.violate a b c e).flt.violSeq = d.flt.violSeq + 1 := by
  unfold Dev.violate
  simp only [Dev.raiseIrq, Dev.inc, Dev.setReg, apply_ite Dev.flt, ite_self]

/-- A load is refused with nothing of it in the memories, among the claims, or in a channel's force path and spool; the
violation is numbered (R424). -/
structure Dev.RefusesLoad (d t : Dev) : Prop where
  mem     : t.mem = d.mem
  claims  : t.load.claims = d.load.claims
  chans   : ∀ m, (t.ch m).force = (d.ch m).force ∧ (t.ch m).spool = (d.ch m).spool
  counted : t.flt.violSeq = d.flt.violSeq + 1

theorem Dev.loadRefuse_refuses (d : Dev) (bulk : Bool) (code : Nat) : d.RefusesLoad (d.loadRefuse bulk code) := by
  obtain ⟨regs, pcie, load, heq, hclaims⟩ := d.loadAnswer_eq bulk code 0
  unfold Dev.loadRefuse Dev.loadViolates
  dsimp only
  rw [heq]
  have hch : ∀ (t : Dev) (a b c e : Nat) (m : ChanId), (t.violate a b c e).ch m = t.ch m := fun t a b c e m =>
    congrArg (fun v : Vector Channel 64 => v[m]) (t.violate_chans a b c e)
  refine ⟨Dev.violate_mem .., ?_, fun m => ?_, Dev.violate_violSeq ..⟩
  · rw [Dev.violate_load]
    exact hclaims
  · rw [hch]
    exact ⟨rfl, rfl⟩

/-- A refused refill counts on its channel (R261). -/
theorem Dev.refillRefuse_refuses (d : Dev) (bulk : Bool) (n : ChanId) (code : Nat) :
    d.RefusesLoad (d.refillRefuse bulk n code) := by
  obtain ⟨hmem, hclaims, hchans, hcounted⟩ := (d.cinc n 32 Obj.REFILL_REFUSED).loadRefuse_refuses bulk code
  refine ⟨hmem, hclaims, fun m => ?_, hcounted⟩
  obtain ⟨hforce, hspool⟩ := hchans m
  have hcount : ((d.cinc n 32 Obj.REFILL_REFUSED).ch m).force = (d.ch m).force ∧
      ((d.cinc n 32 Obj.REFILL_REFUSED).ch m).spool = (d.ch m).spool := by
    unfold Dev.cinc
    rw [Dev.ch_modCh]
    split
    · next h => exact h ▸ ⟨rfl, rfl⟩
    · exact ⟨rfl, rfl⟩
  exact ⟨hforce.trans hcount.1, hspool.trans hcount.2⟩

theorem gives_refusedLoad {s : State} {c : Instr} {u : Dev} (he : exec c s = .next (s.inTick u)) (hu : s.dev.RefusesLoad u) :
    Gives c s fun t => t.dev.mem = s.dev.mem ∧ t.dev.load.claims = s.dev.load.claims ∧
      (∀ m, (t.dev.ch m).force = (s.dev.ch m).force ∧ (t.dev.ch m).spool = (s.dev.ch m).spool) ∧
      t.dev.flt.violSeq = s.dev.flt.violSeq + 1 :=
  ⟨_, he, hu.mem, hu.claims, hu.chans, hu.counted⟩

/-! ## Refills (R261, R418) -/

/-- The body of a refill arrives: the link takes a load, the descriptor and the layout of its container hold (R418). -/
def Dev.RefillArrives (d : Dev) (bulk : Bool) (x : LoadDesc) (body : List Byte) : Prop :=
  d.loadWaits bulk = true ∧ x.type = 1 ∧ descCode x = 0 ∧ d.imageless 1 = false ∧ boxOk x.box = true ∧
    (boxHeadOf x.box).size = x.box.length ∧ (boxHeadOf x.box).type = 1 ∧
    boxText x.box ((d.streamOf x.box).map (·.key)) = some body ∧ body.length % 64 = 0

/-- A body that arrives is of whole granules. -/
theorem Dev.RefillArrives.whole {d : Dev} {bulk : Bool} {x : LoadDesc} {body : List Byte} (h : d.RefillArrives bulk x body) :
    body.length % 64 = 0 := by
  obtain ⟨-, -, -, -, -, -, -, -, h⟩ := h
  exact h

section
variable {s : State} {src : Option LoadDesc} (hin : s.inside)
include hin

theorem exec_spoolRefill_none (h : s.dev.loadWaits src.isSome = false) : exec (.spoolRefill src) s = .next s :=
  next_in hin (show execSpoolRefill src s = _ from rfl) (if_pos (by simp [h]))

/-- A body that arrives is judged as a refill (R418). -/
theorem exec_spoolRefill_arrives {body : List Byte} (h : s.dev.RefillArrives src.isSome (src.getD s.dev.ecatDesc) body) :
    exec (.spoolRefill src) s = .next (s.inTick (s.dev.refill src.isSome (src.getD s.dev.ecatDesc) body)) := by
  obtain ⟨hwaits, htype, hcode, himage, hok, hsize, hkind, htext, -⟩ := h
  refine next_in hin (show execSpoolRefill src s = _ from rfl) ?_
  dsimp only
  rw [if_neg (by simp [hwaits, htype]), if_neg (by simp [hcode]), if_neg (by simp [himage]),
    if_neg (by simp [hok, hsize, hkind]), htext]
end

section
variable (d : Dev) (bulk : Bool) (x : LoadDesc) {body : List Byte} (hwhole : body.length % 64 = 0)
  (hseg : x.target.toNat < 4096)

/-- The claim that an accepted refill leaves until its container is verified (R418). -/
def refillClaim (w g : Nat) : Claim :=
  { bulk := bulk, act := none, box := x.box, lines := ringLines w x.first.toNat g, seg := some x.target.toNat,
    last := x.first.toNat + 8 * g, grow := 8 * g, fin := natBit x.flags.toNat 1 }

include hwhole hseg

/-- A refill of a segment that no channel has as its spool is refused (R418). -/
theorem Dev.refill_unowned (hown : d.spoolOwner x.target.toNat = none) : d.refill bulk x body = d.loadRefuse bulk 3 := by
  unfold Dev.refill
  dsimp only
  rw [if_neg (by omega), if_pos hseg, hown]

/-- A refill of a channel's spool that has no line to be sent again is judged by its code (R418). -/
theorem Dev.refill_judged {n : ChanId} (hown : d.spoolOwner x.target.toNat = some n)
    (hvalid : dsValid (d.desc x.target.toNat) = true) (hspool : dsType (d.desc x.target.toNat) = 1) (hreplay : d.mem.replay = [])
    (hpos : 1 ≤ body.length / 64) : d.refill bulk x body =
      let w := d.desc x.target.toNat
      let g := body.length / 64
      let code := d.refillCode n x.target.toNat x.first.toNat g (natBit x.flags.toNat 1) false
      if code ≠ 0 then d.refillRefuse bulk n code
      else ((d.writeRing w x.first.toNat (stepsOf body)).incBy 64 Obj.REFILL_GRANULES g).addClaim (refillClaim bulk x w g) := by
  obtain ⟨g, hg⟩ : ∃ g, body.length / 64 = g + 1 := ⟨_, (Nat.sub_add_cancel hpos).symm⟩
  have hlines : ((ringLines (d.desc x.target.toNat) x.first.toNat (body.length / 64)).all fun l =>
      d.mem.replay.any (·.line == l)) = false := by
    rw [hreplay, hg, ringLines, List.range_succ]
    simp
  unfold Dev.refill
  dsimp only
  rw [if_neg (by omega), if_pos hseg, hown]
  dsimp only
  rw [if_neg (by simp [hvalid, hspool]), hlines, Bool.and_false]
  rfl
end

section
variable (d : Dev) (n : ChanId) (seg f g : Nat) (fin : Bool)

/-- A refill at another index than the claim is SEQUENCE (R418). -/
theorem Dev.refillCode_offClaim (h : f ≠ d.claimOf n seg) : d.refillCode n seg f g fin false = 4 := by
  unfold Dev.refillCode
  simp [h]

/-- A refill at the claim of 1 to 512 granules is accepted where the ring has room and the stream goes on (R418). -/
theorem Dev.refillCode_fits (hclaim : f = d.claimOf n seg) (hpos : 1 ≤ g) (hmax : g ≤ 512)
    (hroom : 8 * g ≤ (d.ch n).rel + dsSteps (d.desc seg) - f) (hended : (d.ch n).spool.st ≠ .ended)
    (hstopped : (d.ch n).spool.st ≠ .stopped) (heos : (d.ch n).spool.eos = none)
    (hfin : d.load.claims.any (fun y => y.seg == some seg && y.fin) = false) : d.refillCode n seg f g fin false = 0 := by
  unfold Dev.refillCode
  dsimp only
  rw [if_neg (by simp), if_neg (by simpa using hclaim), ← hclaim, if_neg (by simp; omega)]
  simp [hended, hstopped, heos, hfin]
end

/-! ## Bodies that have passed R440 -/

/-- The module without a verdict that waits. -/
def Dev.dropPassed (d : Dev) (v : Verdict) : Dev := { d with sec := { d.sec with passed := d.sec.passed.erase v } }

/-- The oldest body of a type on a link that has passed R440. -/
abbrev Dev.firstPassed (d : Dev) (type : Nat) (bulk : Bool) : Option Verdict :=
  d.sec.passed.find? fun y => y.type == type && y.bulk == bulk

theorem Dev.takePassed_eq (d : Dev) (type : Nat) (bulk : Bool) :
    d.takePassed type bulk = (d.firstPassed type bulk).map fun v => (v, d.dropPassed v) := rfl

/-- A refusal after the verdict is taken refuses the load. -/
theorem Dev.dropPassed_refuses (d : Dev) (v : Verdict) (bulk : Bool) (code : Nat) :
    d.RefusesLoad ((d.dropPassed v).loadRefuse bulk code) :=
  have h := (d.dropPassed v).loadRefuse_refuses bulk code
  ⟨h.mem, h.claims, h.chans, h.counted⟩

section
variable {s : State} {bulk : Bool} {v : Verdict} (hin : s.inside)
include hin

theorem exec_ledgerLoad_none (cyc : Cycle) (h : s.dev.firstPassed 2 bulk = none) : exec (.ledgerLoad bulk cyc) s = .next s :=
  next_in hin (show execLedgerLoad bulk cyc s = _ from rfl) (by rw [Dev.takePassed_eq, h]; rfl)

/-- A body that holds whole lines is judged as a ledger load (R419). -/
theorem exec_ledgerLoad_read (cyc : Cycle) {line : Nat} {words : List Word64} (h : s.dev.firstPassed 2 bulk = some v)
    (hread : readLedger v.body = some (line, words)) : exec (.ledgerLoad bulk cyc) s =
      .next (s.inTick ((s.dev.dropPassed v).ledgerLoad bulk line words cyc.val)) :=
  next_in hin (show execLedgerLoad bulk cyc s = _ from rfl) (by
    rw [Dev.takePassed_eq, h]
    dsimp only [Option.map_some]
    rw [hread])

/-- A profile for no channel, or in no format of Table 4-2, is refused (R138). -/
theorem exec_gustProfile_bad (h : s.dev.firstPassed 4 bulk = some v)
    (hbad : chanOf v.target = none ∨ readProfile v.body = none) : ∃ code,
      exec (.gustProfile bulk) s = .next (s.inTick ((s.dev.dropPassed v).loadRefuse bulk code)) := by
  cases hchan : chanOf v.target with
  | none =>
    refine ⟨3, next_in hin (show execGustProfile bulk s = _ from rfl) ?_⟩
    rw [Dev.takePassed_eq, h]
    dsimp only [Option.map_some]
    rw [hchan]
  | some n =>
    have hread := hbad.resolve_left (by simp [hchan])
    refine ⟨8, next_in hin (show execGustProfile bulk s = _ from rfl) ?_⟩
    rw [Dev.takePassed_eq, h]
    dsimp only [Option.map_some]
    rw [hchan, hread]

/-- A profile that its channel has not armed is on its way (R138). -/
theorem exec_gustProfile_read {n : ChanId} {p : Nat} {g : GustProfile} (h : s.dev.firstPassed 4 bulk = some v)
    (hchan : chanOf v.target = some n) (hread : readProfile v.body = some (p, g)) (harmed : (s.dev.ch n).gust.armed ≠ some p) :
    exec (.gustProfile bulk) s = .next (s.inTick ((s.dev.dropPassed v).modCh n
      (·.modGust fun x => { x with arriving := x.arriving ++ [(bulk, p, g)] }))) := by
  refine next_in hin (show execGustProfile bulk s = _ from rfl) ?_
  rw [Dev.takePassed_eq, h]
  dsimp only [Option.map_some]
  rw [hchan, hread]
  exact if_neg harmed
end

/-- A ledger load that meets a line of a SPOOL segment is refused whole (R419). -/
theorem Dev.ledgerLoad_spool (d : Dev) (bulk : Bool) (line : Nat) (words : List Word64) (cyc : Nat)
    (h : (List.range (words.length / 8)).any (fun i => d.spoolLine (line + i)) = true) :
    d.ledgerLoad bulk line words cyc = d.loadRefuse bulk 6 := if_pos h

/-- The claim that a written ledger load leaves until the commit at which it acts (R38). -/
def ledgerClaim (bulk : Bool) (act : Tick) : Claim :=
  { bulk := bulk, act := some act, box := [], lines := [], seg := none, last := 0, grow := 0, fin := false }

/-- A ledger load that meets none is written and acts at its commit (R38, R419). -/
theorem Dev.ledgerLoad_written (d : Dev) (bulk : Bool) (line : Nat) (words : List Word64) (cyc : Nat)
    (h : (List.range (words.length / 8)).any (fun i => d.spoolLine (line + i)) = false) :
    d.ledgerLoad bulk line words cyc = (d.writeLines line words).addClaim (ledgerClaim bulk (d.loadAct bulk cyc)) :=
  if_neg (by simp [h])

/-! ## A gust profile becomes valid (R138) -/

/-- The gust generator of a channel with a profile at a number, and other deliveries on their way. -/
def Gust.withProfile (x : Gust) (p : Nat) (g : GustProfile) (rest : List (Bool × Nat × GustProfile)) : Gust :=
  { x with arriving := rest, profiles := Vector.ofFn fun i => if i.val = p then g else x.profiles[i] }

theorem Gust.withProfile_profiles (x : Gust) (p : Nat) (g : GustProfile) (rest : List (Bool × Nat × GustProfile)) (i : Idx16) :
    (x.withProfile p g rest).profiles[i] = if i.val = p then g else x.profiles[i] := by
  simp [Gust.withProfile]

section
variable {s : State} {n : ChanId} (hlive : s.live)
include hlive

theorem exec_gustProfileValid_none (h : (s.dev.ch n).gust.arriving = []) :
    exec (.gustProfileValid n) s = .next (s.atCommit s.dev) :=
  next_at hlive (show execGustProfileValid n s = _ from rfl) (by rw [h])

/-- The oldest delivery becomes valid, and its load is answered (R138). -/
theorem exec_gustProfileValid_oldest {bulk : Bool} {p : Nat} {g : GustProfile} {rest : List (Bool × Nat × GustProfile)}
    (h : (s.dev.ch n).gust.arriving = (bulk, p, g) :: rest) : exec (.gustProfileValid n) s =
      .next (s.atCommit ((s.dev.modCh n (·.modGust (·.withProfile p g rest))).loadAnswer bulk 0 s.dev.tick.toNat)) :=
  next_at hlive (show execGustProfileValid n s = _ from rfl) (by rw [h]; rfl)
end

end Sys2Proof.Machine

namespace Sys2Proof
open Machine

/-- Settles O45: a refill by its code and the ring it fills (`Dev.refill_judged`, `Dev.writeRing_ledger`), a ledger load by the
lines it writes (`Dev.writeLines_ledger`), a profile by its delivery, and refusals by `gives_refusedLoad`. -/
theorem refillsLedgerLoadsAndProfiles : Obligations.RefillsLedgerLoadsAndProfiles := by
  intro s src bulk n body line words cyc v p a g hlive d x seg w c k f fin first arrives kept refused
  have hwhole : arrives → body.length % 64 = 0 := Dev.RefillArrives.whole
  refine ⟨fun hin harr hseg hown hvalid hspool hreplay hpos hmax => ⟨fun hclaim hroom hended hstopped heos hfin => ?refill,
      fun hclaim => ?offClaim⟩,
    fun hin harr hseg hown => ?unowned, fun hin h => ⟨s, exec_spoolRefill_none hin h, rfl⟩,
    fun hin hv hread => ⟨fun hfree => ?ledger, fun hmeets => ?ledgerRefused⟩,
    fun hin h => ⟨s, exec_ledgerLoad_none hin cyc h, rfl⟩, fun hin hv hbad => ?profileRefused,
    fun hin hv hchan hread harmed => ?profile, fun harriving => ?valid,
    fun h => ⟨_, exec_gustProfileValid_none hlive h, rfl⟩⟩
  case refill =>
    have hjudged := d.refill_judged src.isSome x (hwhole harr) hseg hown hvalid hspool hreplay hpos
    dsimp only at hjudged
    rw [d.refillCode_fits n seg f k fin hclaim hpos hmax hroom hended hstopped heos hfin, if_neg (by simp)] at hjudged
    have hstored : d.StoresLines ((d.writeRing w f (stepsOf body)).incBy 64 Obj.REFILL_GRANULES k) :=
      (Dev.StoresLines.writeRing ..).trans (.incBy ..)
    refine ⟨_, (exec_spoolRefill_arrives hin harr).trans (congrArg (Host.Outcome.next <| s.inTick ·) hjudged), ?_, ?_, ?_, rfl⟩
    · intro i hi hfit hsteps hf hstart
      have hlen := length_stepsOf body
      refine (congrArg (sget 0 ·.ledger _) (Dev.incBy_mem ..)).trans
        (d.writeRing_ledger hstart hsteps hf (stepsOf body) (by omega) (by omega) i hi)
    · exact congrArg (·.claims ++ _) hstored.load
    · exact hstored.kept
  case offClaim =>
    refine gives_refusedLoad (exec_spoolRefill_arrives hin harr) ?_
    rw [s.dev.refill_judged src.isSome x (hwhole harr) hseg hown hvalid hspool hreplay hpos]
    dsimp only
    rw [s.dev.refillCode_offClaim n seg f k fin hclaim, if_pos (by simp)]
    exact Dev.refillRefuse_refuses ..
  case unowned =>
    refine gives_refusedLoad (exec_spoolRefill_arrives hin harr) ?_
    rw [s.dev.refill_unowned src.isSome x (hwhole harr) hseg hown]
    exact Dev.loadRefuse_refuses ..
  case ledger =>
    have hstored := Dev.StoresLines.writeLines (d.dropPassed v) line words
    refine ⟨_, (exec_ledgerLoad_read hin cyc hv hread).trans (congrArg (Host.Outcome.next <| s.inTick ·)
      (Dev.ledgerLoad_written _ bulk line words cyc.val hfree)), ?_, ?_, ?_, ?_, ?_, rfl⟩
    · exact (d.dropPassed v).writeLines_ledger line words a
    · exact (d.dropPassed v).writeLines_replay line words
    · exact congrArg (·.claims ++ _) hstored.load
    · exact congrArg (·.passed) hstored.sec
    · exact hstored.kept
  case ledgerRefused =>
    refine gives_refusedLoad (exec_ledgerLoad_read hin cyc hv hread) ?_
    rw [Dev.ledgerLoad_spool (s.dev.dropPassed v) bulk line words cyc.val hmeets]
    exact s.dev.dropPassed_refuses v bulk 6
  case profileRefused =>
    obtain ⟨code, he⟩ := exec_gustProfile_bad hin hv hbad
    exact gives_refusedLoad he (s.dev.dropPassed_refuses v bulk code)
  case profile =>
    refine ⟨_, exec_gustProfile_read hin hv hchan hread harmed, ?_, fun m hm => ?_, rfl, rfl, rfl⟩
    · exact (Dev.ch_modCh ..).trans (if_pos rfl)
    · exact Dev.modCh_other _ n m hm _
  case valid =>
    refine ⟨_, exec_gustProfileValid_oldest hlive harriving, ?_⟩
    simp only [State.atCommit_dev, Dev.loadAnswer_ch, Dev.ch_modCh, if_true]
    exact ⟨c.gust.withProfile_profiles p g [], rfl, rfl, fun m hm => if_neg hm, rfl⟩

end Sys2Proof
end

section
namespace Sys2Proof.Machine
open Sys2Proof

/-! R287–R289: what a register instruction of a tick engine writes. -/

section
variable {s : State} {c : Instr} {n : ChanId} {k : Fin 8} {cycles : Nat} {d : Idx16} {ok : Bool}

/-- A register instruction whose fields the table admits writes its value as it is. -/
theorem engAlu_puts {v : Engine → Int} (h : s.engReady n k cycles) (hok : ok = true)
    (hc : exec c s = liveIn s fun dv => dv.engAlu n k cycles ok fun e => e.put d (v e)) :
    EngineWrites s c n k cycles d (v (s.dev.engine n k)) false := by
  subst hok
  exact engAlu_writes s c n k cycles d _ false _ h hc (Engine.mark_false _).symm

/-- A register instruction whose fields the table admits writes its value and notes whether it limited an operand. -/
theorem engAlu_marks {v : Engine → Int} {acted : Engine → Bool} (h : s.engReady n k cycles) (hok : ok = true)
    (hc : exec c s = liveIn s fun dv => dv.engAlu n k cycles ok fun e => (e.put d (v e)).mark (acted e)) :
    EngineWrites s c n k cycles d (v (s.dev.engine n k)) (acted (s.dev.engine n k)) := by
  subst hok
  exact engAlu_writes s c n k cycles d _ _ _ h hc rfl

/-- A register instruction whose fields the table admits writes its value limited to 48 bits, and notes where it limited. -/
theorem engAlu_saturates {v : Engine → Int} (h : s.engReady n k cycles) (hok : ok = true)
    (hc : exec c s = liveIn s fun dv => dv.engAlu n k cycles ok fun e => e.putSat d (v e)) :
    EngineWrites s c n k cycles d (satInt 48 (v (s.dev.engine n k)))
      (decide (satInt 48 (v (s.dev.engine n k)) ≠ v (s.dev.engine n k))) :=
  engAlu_marks (v := fun e => satInt 48 (v e)) (acted := fun e => decide (satInt 48 (v e) ≠ v e)) h hok hc
end

end Sys2Proof.Machine

namespace Sys2Proof
open Machine

/-- Settles O27: the table's value of each instruction, limited (`engAlu_saturates`) or as it is (`engAlu_puts`). -/
theorem engineArithmetic : Obligations.EngineArithmetic := by
  intro s n k d a b imm h x sat raw
  refine ⟨?add, ?sub, ?addi, ?neg, ?abs, ?addw, ?min, ?max⟩
  case add => exact engAlu_saturates (v := fun e => e.x a + e.x b) h rfl rfl
  case sub => exact engAlu_saturates (v := fun e => e.x a - e.x b) h rfl rfl
  case addi => exact engAlu_saturates (v := fun e => e.x a + imm.toInt) h rfl rfl
  case neg => exact engAlu_saturates (v := fun e => -e.x a) h rfl rfl
  case abs => exact engAlu_saturates (v := fun e => (e.x a).natAbs) h rfl rfl
  case addw => exact engAlu_puts (v := fun e => e.x a + e.x b) h rfl rfl
  case min => exact engAlu_puts (v := fun e => min (e.x a) (e.x b)) h rfl rfl
  case max => exact engAlu_puts (v := fun e => max (e.x a) (e.x b)) h rfl rfl

/-- Settles O28: each instruction writes its value once the operand range that the table gives is met (`engAlu_puts`), SHL
and SAT with their mark (`engAlu_saturates`, `engAlu_marks`). -/
theorem engineBitsAndFields : Obligations.EngineBitsAndFields := by
  intro s n k d a b c count msb lsb width mode zero signed h hcount hlsb hmsb htwo hwidth x w fld bits raw
  have hshift : decide (count.toNat ≤ 47) = true := decide_eq_true hcount
  have hfield : (decide (lsb.toNat ≤ msb.toNat) && decide (msb.toNat ≤ 47)) = true := by simp [hlsb, hmsb]
  have hbits : (decide (2 ≤ width.toNat) && decide (width.toNat ≤ 48)) = true := by simp [htwo, hwidth]
  refine ⟨?and, ?or, ?xor, ?shl, ?shr, ?sat, ?clamp, ?sels, ?ext, ?ins⟩
  case and => exact engAlu_puts (v := fun e => (BitVec.ofInt 48 (e.x a) &&& BitVec.ofInt 48 (e.x b)).toInt) h rfl rfl
  case or => exact engAlu_puts (v := fun e => (BitVec.ofInt 48 (e.x a) ||| BitVec.ofInt 48 (e.x b)).toInt) h rfl rfl
  case xor => exact engAlu_puts (v := fun e => (BitVec.ofInt 48 (e.x a) ^^^ BitVec.ofInt 48 (e.x b)).toInt) h rfl rfl
  case shl => exact engAlu_saturates (v := fun e => e.x a * 2 ^ count.toNat) h hshift rfl
  case shr => exact engAlu_puts (v := fun e => shiftRound mode.toNat (e.x a) count.toNat) h hshift rfl
  case sat =>
    exact engAlu_marks (v := fun e => satInt width.toNat (e.x a))
      (acted := fun e => decide (satInt width.toNat (e.x a) ≠ e.x a)) h hbits rfl
  case clamp => exact engAlu_puts (v := fun e => min (max (e.x a) (e.x b)) (e.x c)) h rfl rfl
  case sels =>
    have hwrites := engAlu_puts (c := .sels n k d a b c zero) (d := d) h rfl rfl
      (v := fun e => if decide (e.x a < 0) || (zero && decide (e.x a = 0)) then e.x b else e.x c)
    simpa only [Bool.or_eq_true, Bool.and_eq_true, decide_eq_true_eq] using hwrites
  case ext =>
    exact engAlu_puts (v := fun e => if signed then signedOf fld (natBits (unsignedOf 48 (e.x a)) msb.toNat lsb.toNat)
      else natBits (unsignedOf 48 (e.x a)) msb.toNat lsb.toNat) h hfield rfl
  case ins =>
    exact engAlu_puts (v := fun e => ((unsignedOf 48 (e.x d) - natBits (unsignedOf 48 (e.x d)) msb.toNat lsb.toNat *
      2 ^ lsb.toNat + unsignedOf fld (e.x a) * 2 ^ lsb.toNat : Nat) : Int)) h hfield rfl

end Sys2Proof
end

section
namespace Sys2Proof.Machine
open Sys2Proof

/-! R288–R291: what the instructions that read the module write, and what those on an accumulator leave. -/

section
variable {s : State} {c : Instr} {n : ChanId} {k : Fin 8} {cycles : Nat}

/-- A register instruction on a ready engine makes the engine what its function makes of it, takes its cycles, and leaves the
rest of the module. -/
theorem engAlu_gives {f : Engine → Engine} {P : State → Prop} (h : s.engReady n k cycles)
    (hc : exec c s = liveIn s fun dv => dv.engAlu n k cycles true f)
    (hP : ∀ t : State, t.dev.engine n k = { f (s.dev.engine n k) with cyc := (f (s.dev.engine n k)).cyc + cycles } →
      EngineOnly s t n k → P t) : Gives c s P := by
  refine ⟨_, hc.trans (engAlu_next s n k cycles f h), hP _ (Dev.engine_modEngine ..) ?_⟩
  simp only [EngineOnly, State.inTick_dev, Dev.engine_modEngine]
  rfl

/-- What a command inside a tick does is what its function makes of the module there. -/
theorem liveIn_congr {f g : Dev → Dev} (h : s.inside) (hfg : f s.dev = g s.dev) : liveIn s f = liveIn s g := by
  rw [liveIn_next s f h, liveIn_next s g h, hfg]

/-- An instruction that reads the module writes the value read, where the table admits its fields. -/
theorem engRun_reads {d : Idx16} {ok : Bool} {v : Dev → Engine → Int} (h : s.engReady n k cycles) (hok : ok = true)
    (hc : exec c s = liveIn s fun dv => dv.engRun n k cycles ok fun u => u.modCh n (·.modEngine k fun e => e.put d (v u e))) :
    EngineWrites s c n k cycles d (v s.dev (s.dev.engine n k)) false := by
  subst hok
  refine engRun_writes s c n k cycles d _ false _ h hc ?_
  rw [Engine.mark_false]
  rfl
end

/-! ## Accumulators (R288) -/

section
variable (e : Engine) (d : Idx16) (one : Bool) (v : Int)

theorem Engine.acc_setAcc : (e.setAcc one v).acc one = wrap48 v := by cases one <;> rfl
theorem Engine.acc_setAcc_other : (e.setAcc one v).acc (!one) = e.acc (!one) := by
  cases one <;> simp [Engine.acc, Engine.setAcc]
theorem Engine.setAcc_regs : (e.setAcc one v).regs = e.regs := by cases one <;> rfl
theorem Engine.setAcc_sat : (e.setAcc one v).sat = e.sat := by cases one <;> rfl
theorem Engine.setAcc_x (j : Idx16) : (e.setAcc one v).x j = e.x j := by cases one <;> rfl
theorem Engine.put_acc : (e.put d v).acc one = e.acc one := by cases one <;> simp [Engine.acc]

/-- A width holds a value that has been limited to it. -/
theorem toInt_ofInt_satInt {w : Nat} (hw : 0 < w) : (BitVec.ofInt w (satInt w v)).toInt = satInt w v := by
  have hpos : (0 : Int) < 2 ^ (w - 1) := by positivity
  refine BitVec.toInt_ofInt_eq_self hw (le_max_left ..) (max_lt (by omega) ((min_le_left ..).trans_lt (sub_one_lt _)))

theorem wrap48_satInt : wrap48 (satInt 48 v) = satInt 48 v := toInt_ofInt_satInt v (by decide)

/-- 48 bits hold the value of a register. -/
theorem Engine.wrap48_x (i : Idx16) : wrap48 (e.x i) = e.x i := by
  unfold Engine.x
  split
  · rfl
  · exact congrArg BitVec.toInt BitVec.ofInt_toInt
end

end Sys2Proof.Machine

namespace Sys2Proof
open Machine

/-- Settles O29: constants and moves by `engAlu_puts`, what is read of scratchpad and tables by `engRun_reads`. -/
theorem engineMovesTablesAndPorts : Obligations.EngineMovesTablesAndPorts := by
  intro s n k d a b imm region offset port sh base count addr v x
  refine ⟨fun h => ⟨?ldi, ?ldh, ?mov⟩, fun h => ?nop, fun h haddr => ?ld, fun h hport => ?inp, fun h => ?lut,
    fun h => ?luti⟩
  case ldi => exact engAlu_puts (v := fun _ => imm.toInt) h rfl rfl
  case ldh => exact engAlu_puts (v := fun e => ((BitVec.ofInt 48 (e.x a) <<< 14) ||| imm.zeroExtend 48).toInt) h rfl rfl
  case mov => exact engAlu_puts (v := fun e => e.x a) h rfl rfl
  case nop => exact engAlu_puts (v := fun _ => 0) h rfl rfl
  case ld =>
    refine engRun_reads (v := fun u _ => scrVal (u.scrAt (stallOf n) addr (s.dev.engine n k).cyc)) h rfl
      ((show exec (.ld n k d b region offset) s = liveIn s (·.opLd n k d b region offset) from rfl).trans (liveIn_congr h.1 ?_))
    rw [Dev.opLd, haddr]
    rfl
  case inp =>
    refine engAlu_puts (v := fun _ => v) h rfl
      ((show exec (.engIn n k d port) s = liveIn s (·.opEngIn s.sealed.shown n k d port) from rfl).trans (liveIn_congr h.1 ?_))
    rw [Dev.opEngIn, s.sealed_inside h.1, hport]
    rfl
  case lut => exact engRun_reads (v := fun u e => u.table (stallOf n) (base.toNat + lutIndex (e.x a) sh.toNat base.toNat)) h rfl rfl
  case luti => exact engRun_reads (v := fun u e => u.lutInterp (stallOf n) (e.x a) sh.toNat base.toNat) h rfl rfl

/-- Settles O30: MUL by `engAlu_marks`, the others by what they make of the engine (`engAlu_gives`) and its accumulators. -/
theorem engineProductsAndAccumulators : Obligations.EngineProductsAndAccumulators := by
  intro s n k d a b sub clear one mode count e p lim sum
  refine ⟨fun h => ?mul, fun h => ⟨?mac, ?accrd, ?accld⟩⟩
  case mul =>
    exact engAlu_marks (v := fun e => sat24 (e.x a) * sat24 (e.x b)) (acted := fun e => limited24 (e.x a) (e.x b)) h rfl rfl
  case mac =>
    refine engAlu_gives h rfl fun t he honly => ?_
    dsimp only
    rw [he]
    refine ⟨(e.acc_setAcc one _).trans (wrap48_satInt sum), e.acc_setAcc_other one _, e.setAcc_regs one _, ?_, honly⟩
    exact (congrArg (· || _) (e.setAcc_sat one _)).trans (Bool.or_assoc ..).symm
  case accrd =>
    let v := shiftRound mode.toNat (e.acc one) count.toNat
    refine engAlu_gives h rfl fun t he honly => ?_
    dsimp only
    rw [he]
    cases clear with
    | false => exact ⟨fun j => e.x_put d j v, e.put_acc d one v, e.put_acc d (!one) v, e.put_sat d v, honly⟩
    | true =>
      exact ⟨fun j => ((e.put d v).setAcc_x one 0 j).trans (e.x_put d j v), (e.put d v).acc_setAcc one 0,
        ((e.put d v).acc_setAcc_other one 0).trans (e.put_acc d (!one) v),
        ((e.put d v).setAcc_sat one 0).trans (e.put_sat d v), honly⟩
  case accld =>
    refine engAlu_gives h rfl fun t he honly => ?_
    dsimp only
    rw [he]
    exact ⟨(e.acc_setAcc one _).trans (e.wrap48_x a), e.acc_setAcc_other one _, e.setAcc_regs one _, e.setAcc_sat one _, honly⟩

end Sys2Proof
end

section
namespace Sys2Proof.Machine
open Sys2Proof

/-! R288, R291, R293–R297: what the instructions that write the channel or the scratchpad leave. -/

/-- An engine after an instruction of so many cycles. -/
def Engine.spend (e : Engine) (cycles : Nat) : Engine := { e with cyc := e.cyc + cycles }

/-- The engines of a channel after an instruction of one of them. -/
def Engines.spend (e : Engines) (k : Fin 8) (cycles : Nat) : Engines := { e with te := e.te.set k (e.te[k].spend cycles) }

theorem Engines.spend_regs (e : Engines) (k : Fin 8) (cycles : Nat) : (e.spend k cycles).te[k].regs = e.te[k].regs := by
  simp [Engines.spend, Engine.spend]

section
variable {s : State} {c : Instr} {n : ChanId} {k : Fin 8} {cycles : Nat} {f : Dev → Dev} {P : State → Prop}

/-- An instruction on a ready engine does what its function does, and takes its cycles. -/
theorem engRun_gives (h : s.engReady n k cycles) (hc : exec c s = liveIn s fun d => d.engRun n k cycles true f)
    (hP : P (s.inTick ((f s.dev).modCh n (·.modEngine k (·.spend cycles))))) : Gives c s P :=
  ⟨_, hc.trans (engRun_next s n k cycles f h), hP⟩

/-- An instruction that changes the engines of its channel leaves the rest of the module. -/
theorem engRun_engines {g : Channel → Channel} {e : Engines} (h : s.engReady n k cycles)
    (hc : exec c s = liveIn s fun d => d.engRun n k cycles true (·.modCh n g))
    (hg : g (s.dev.ch n) = (s.dev.ch n).modEng fun _ => e)
    (hP : ∀ t : State, (t.dev.ch n).eng = e.spend k cycles → EnginesOnly s t n → P t) : Gives c s P := by
  refine engRun_gives h hc (hP _ ?_ ?_)
  · rw [State.inTick_dev, Dev.modCh_modCh, Dev.ch_modCh, if_pos rfl, hg]
    rfl
  · unfold EnginesOnly
    rw [State.inTick_dev, Dev.modCh_modCh, Dev.ch_modCh, if_pos rfl, Dev.modCh, Dev.modCh, hg]
    rfl

/-- PUTS and TACC act on the entry that they name (R294, R295). -/
theorem engRun_entry {g : Channel → Entry → Entry} (e : Idx16) (h : s.engReady n k cycles)
    (hc : exec c s = liveIn s fun d => d.engRun n k cycles true (·.modCh n fun c => c.modEntry e (g c))) :
    Gives c s fun t =>
      ((t.dev.ch n).conv (decide (8 ≤ e.val))).entries =
        ((s.dev.ch n).conv (decide (8 ≤ e.val))).entries.modify (e.val % 8) (g (s.dev.ch n)) ∧
      (t.dev.ch n).conv (!decide (8 ≤ e.val)) = (s.dev.ch n).conv (!decide (8 ≤ e.val)) ∧
      (t.dev.ch n).tally = (s.dev.ch n).tally ∧ (∀ m, m ≠ n → t.dev.ch m = s.dev.ch m) ∧ t.dev.mem = s.dev.mem ∧
      t.shown = s.shown := by
  have hconv : ∀ (x : Channel) (mi : Bool), (x.modEngine k (·.spend cycles)).conv mi = x.conv mi := fun x mi => by
    cases mi <;> rfl
  refine engRun_gives h hc ?_
  rw [State.inTick_dev, Dev.modCh_modCh, Dev.ch_modCh, if_pos rfl, hconv, hconv]
  refine ⟨?_, Channel.conv_modConv_other .., Channel.modConv_tally .., fun m hm => Dev.modCh_other _ n m hm _, rfl, rfl⟩
  exact congrArg (·.entries) (Channel.conv_modConv_same ..)

/-- An engine that may execute an instruction stands at one of the cycles in which a program runs (R302). -/
theorem cyc_le_of_engReady (h : s.engReady n k cycles) : (s.dev.engine n k).cyc ≤ 480 := by
  have hready := h.2
  unfold Dev.engReady at hready
  simp only [Bool.and_eq_true, decide_eq_true_eq] at hready
  omega
end

/-! ## Scratchpad words (R293) -/

/-- Every region lies in the scratchpad (Table 10-7). -/
theorem regionOf_fits (n : ChanId) (k : Fin 8) (region : Nat) :
    0 < (regionOf n k region).2 ∧ (regionOf n k region).1 + (regionOf n k region).2 ≤ 8192 := by
  have hp := posOf_lt n
  have hk := k.isLt
  unfold regionOf
  split <;> dsimp only <;> omega

/-- Every address of an access is a word of the stall's scratchpad (Table 10-7). -/
theorem scrAddress_lt {n : ChanId} {k : Fin 8} {region offset addr : Nat} {static store cal : Bool} {b : Int}
    (h : scrAddress n k region offset static store cal b = some addr) : addr < 8192 := by
  obtain ⟨hpos, hfits⟩ := regionOf_fits n k region
  have hp := posOf_lt n
  unfold scrAddress at h
  dsimp only at h
  split at h
  · split at h
    · obtain rfl := Option.some.inj h
      omega
    · cases h
  · split at h
    · next hown =>
      obtain ⟨-, rfl⟩ : (store = true ∧ cal = false) ∧ region = 1 := by simpa using hown
      obtain rfl := Option.some.inj h
      have hbase : (regionOf n k 1).1 = 0x300 * posOf n + 0x200 := rfl
      omega
    · split at h
      · next hshared =>
        obtain ⟨-, rfl⟩ : (store = true ∧ cal = false) ∧ region = 2 := by simpa using hshared
        obtain rfl := Option.some.inj h
        have hbase : (regionOf n k 2).1 = 0x1800 := rfl
        omega
      · obtain rfl := Option.some.inj h
        have hlt := Int.emod_lt_of_pos (offset + b) (Int.natCast_pos.2 hpos)
        omega

section
variable {l : List ScrWrite} {x : ScrWrite} {key cyc : Nat}

/-- A write of an earlier cycle, or of a lower engine number in the same cycle, is not carried out after another one (R293). -/
theorem ScrWrite.after_of_before {x y : ScrWrite} (h : y.cyc < x.cyc ∨ (y.cyc = x.cyc ∧ y.te < x.te)) : y.after x = false := by
  simp only [ScrWrite.after, Bool.or_eq_false_iff, decide_eq_false_iff_not, Bool.and_eq_false_iff, beq_eq_false_iff_ne]
  omega

/-- Of two writes of a word the one that is carried out later, as `lastWrite` keeps it. -/
def laterWrite (a : Option ScrWrite) (x : ScrWrite) : Option ScrWrite :=
  match a with
  | none => some x
  | some y => if x.after y then some x else some y

theorem lastWrite_eq (l : List ScrWrite) (key cyc : Nat) :
    lastWrite l key cyc = (l.filter fun x => x.key == key && decide (x.cyc ≤ cyc)).foldl laterWrite none := rfl

theorem foldl_laterWrite_mem (a : Option ScrWrite) (h : l.foldl laterWrite a = some x) : a = some x ∨ x ∈ l := by
  induction l generalizing a with
  | nil => exact .inl h
  | cons y l ih =>
    rcases ih _ h with hy | hx
    · unfold laterWrite at hy
      split at hy
      · exact .inr (Option.some.inj hy ▸ List.mem_cons_self)
      · split at hy
        · exact .inr (Option.some.inj hy ▸ List.mem_cons_self)
        · exact .inl hy
    · exact .inr (List.mem_cons_of_mem _ hx)

theorem foldl_laterWrite_newest (h : ∀ y ∈ l, y.after x = false) : l.foldl laterWrite (some x) = some x := by
  induction l with
  | nil => rfl
  | cons y l ih =>
    rw [List.foldl_cons, show laterWrite (some x) y = some x from if_neg (by simp [h y])]
    exact ih fun z hz => h z (List.mem_cons_of_mem _ hz)

/-- The last write of a word is one of the list. -/
theorem lastWrite_mem (h : lastWrite l key cyc = some x) : x ∈ l := by
  rw [lastWrite_eq] at h
  exact List.mem_of_mem_filter ((foldl_laterWrite_mem none h).resolve_left nofun)

/-- A write is the last of its word where it is carried out after every other one (R293). -/
theorem lastWrite_cons (hkey : x.key = key) (hcyc : x.cyc ≤ cyc) (h : ∀ y ∈ l, y.key = key → y.after x = false) :
    lastWrite (x :: l) key cyc = some x := by
  rw [lastWrite_eq, List.filter_cons_of_pos (by simp [hkey, hcyc]), List.foldl_cons]
  refine foldl_laterWrite_newest fun y hy => ?_
  obtain ⟨hmem, hkey', -⟩ : y ∈ l ∧ y.key = key ∧ y.cyc ≤ cyc := by simpa using hy
  exact h y hmem hkey'
end

/-- The module with one more write of a word in the window, which the word holds. -/
def Dev.withStore (d : Dev) (x : ScrWrite) : Dev :=
  { d with mem := { d.mem with scr := sput 0 d.mem.scr x.key x.val, stores := x :: d.mem.stores } }

section
variable (d : Dev) (st : StallId) (a cyc : Nat)

/-- A write that is carried out after the window's other writes of its word leaves its value there. -/
theorem Dev.putScr_newest (te : Nat) (w : Word64) (hcyc : cyc ≤ 511)
    (h : ∀ y ∈ d.mem.stores, y.key = 8192 * st.val + a → y.cyc < cyc ∨ (y.cyc = cyc ∧ y.te < te)) :
    ∃ was, d.putScr st a cyc te w = d.withStore ⟨8192 * st.val + a, cyc, te, w, was⟩ := by
  refine ⟨((d.mem.stores.find? (·.key == 8192 * st.val + a)).map (·.was)).getD (d.scr st a), ?_⟩
  unfold Dev.putScr
  dsimp only
  rw [lastWrite_cons rfl hcyc fun y hy hkey => ScrWrite.after_of_before (h y hy hkey)]
  rfl

/-- A read of the word in that cycle or a later one finds the value (R292, R296). -/
theorem Dev.scrAt_withStore {x : ScrWrite} (hkey : x.key = 8192 * st.val + a) (hcyc : x.cyc ≤ cyc)
    (h : ∀ y ∈ d.mem.stores, y.key = 8192 * st.val + a → y.after x = false) : (d.withStore x).scrAt st a cyc = x.val := by
  have hfind : (d.withStore x).mem.stores.find? (·.key == 8192 * st.val + a) = some x :=
    List.find?_cons_of_pos (beq_iff_eq.2 hkey)
  have hlast : lastWrite (d.withStore x).mem.stores (8192 * st.val + a) cyc = some x := lastWrite_cons hkey hcyc h
  unfold Dev.scrAt
  dsimp only
  rw [hfind, hlast]
  rfl

/-- Every other word of the scratchpads reads as before. -/
theorem Dev.scr_withStore_other {x : ScrWrite} {r : Nat} (haddr : a < 8192) (hkey : x.key = 8192 * st.val + a) (st' : StallId)
    (hr : r < 8192) (hne : (st', r) ≠ (st, a)) : (d.withStore x).scr st' r = d.scr st' r := by
  refine sget_sput_other 0 0 d.mem.scr x.key _ x.val fun heq => hne (Prod.ext (Fin.ext ?_) ?_) <;> dsimp only <;> omega
end

section
variable (d : Dev) (n : ChanId) (k : Fin 8) (addr : Nat) {cyc : Nat} (v : Int)

/-- The writes of a word that its store in a window cycle meets. -/
def Dev.meets (key cyc : Nat) : List ScrWrite := d.mem.stores.filter fun x => x.key == key && x.cyc == cyc

/-- A store that is carried out after the window's other stores of its word writes that word; only a write that it overwrites
in its own cycle is counted, on its channel (R293). -/
theorem Dev.engStore_newest (hcyc : cyc ≤ 511)
    (h : ∀ y ∈ d.mem.stores, y.key = 8192 * (stallOf n).val + addr → y.cyc < cyc ∨ (y.cyc = cyc ∧ y.te < teOf n k)) :
    ∃ (cs : Vector Channel 64) (was : Word64),
      ((∀ y ∈ d.mem.stores, y.key = 8192 * (stallOf n).val + addr → y.cyc < cyc) → cs = d.chans) ∧
      d.engStore n k addr cyc v = Dev.withStore { d with chans := cs }
        ⟨8192 * (stallOf n).val + addr, cyc, teOf n k, BitVec.ofInt 64 v, was⟩ := by
  have hput := fun cs => Dev.putScr_newest { d with chans := cs } (stallOf n) addr cyc (teOf n k) (BitVec.ofInt 64 v) hcyc h
  cases hlast : lastWrite (d.meets (8192 * (stallOf n).val + addr) cyc) (8192 * (stallOf n).val + addr) cyc with
  | none =>
    obtain ⟨was, hput⟩ := hput d.chans
    refine ⟨d.chans, was, fun _ => rfl, ?_⟩
    unfold Dev.meets at hlast
    unfold Dev.engStore
    dsimp only
    rw [hlast]
    exact hput
  | some x =>
    obtain ⟨hx, hkey, hsame⟩ : x ∈ d.mem.stores ∧ x.key = 8192 * (stallOf n).val + addr ∧ x.cyc = cyc := by
      simpa [Dev.meets] using lastWrite_mem hlast
    have hte : x.te < teOf n k := (h x hx hkey).elim (fun hlt => absurd hsame hlt.ne) And.right
    let counted := d.cinc ⟨x.te / 8 % 64, by omega⟩ 32 Obj.ENG_COLLIDE
    obtain ⟨was, hput⟩ := hput counted.chans
    refine ⟨counted.chans, was, fun hbefore => absurd hsame (hbefore x hx hkey).ne, ?_⟩
    unfold Dev.meets at hlast
    unfold Dev.engStore
    dsimp only
    rw [hlast]
    exact (congrArg (Dev.putScr · _ _ _ _ _) (if_pos hte)).trans hput
end

/-! ## The correlator (R288) -/

/-- What CORR makes of lag `l` where it adds its sample: the value before 48 bits limit it. -/
def Engines.correlated (e : Engines) (v : Int) (l : Nat) : Int := e.lag l + (if bit e.chips l then -v else v)

/-- The engines after CORR has added its sample to every lag. -/
def Engines.corr (e : Engines) (k : Fin 8) (v : Int) : Engines :=
  let upd := (List.range 128).map fun l =>
    (satInt 48 (e.correlated v l), decide (satInt 48 (e.correlated v l) ≠ e.correlated v l))
  { e with lags := upd.map (·.1), te := e.te.set k (e.te[k].mark (upd.any (·.2))) }

theorem Engines.corr_lag (e : Engines) (k : Fin 8) (v : Int) {l : Nat} (hl : l < 128) :
    (e.corr k v).lag l = satInt 48 (e.correlated v l) := by
  simp [Engines.lag, Engines.corr, hl]

theorem Engines.corr_regs (e : Engines) (k : Fin 8) (v : Int) : (e.corr k v).te[k].regs = e.te[k].regs := by
  simp [Engines.corr, Engine.mark]

end Sys2Proof.Machine

namespace Sys2Proof
open Machine

/-- Settles O32: CORR by what it makes of each lag (`Engines.corr_lag`), CCLR by the empty list of lags, each as an instruction on
the engines (`engRun_engines`); CRD by `engRun_reads`. -/
theorem engineCorrelator : Obligations.EngineCorrelator := by
  intro s n d a b lag x g
  refine ⟨fun h => ⟨?corr, ?cclr⟩, fun h => ?crd⟩
  case corr =>
    by_cases hneg : x b < 0
    · refine engRun_engines (e := g.corr 6 (x a)) h rfl (if_pos hneg) fun t he honly => ?_
      unfold Dev.engine
      rw [he]
      refine ⟨fun l hl => ?_, ((g.corr 6 (x a)).spend_regs 6 1).trans (g.corr_regs 6 (x a)), honly⟩
      exact (g.corr_lag 6 (x a) hl).trans (if_pos hneg).symm
    · refine engRun_engines (e := g) h rfl (if_neg hneg) fun t he honly => ?_
      unfold Dev.engine
      rw [he]
      exact ⟨fun l _ => (if_neg hneg).symm, g.spend_regs 6 1, honly⟩
  case cclr =>
    refine engRun_engines (e := if x a < 0 then { g with lags := [] } else g) h rfl rfl fun t he honly => ?_
    unfold Dev.engine
    rw [he]
    refine ⟨fun l => ?_, (Engines.spend_regs _ 6 1).trans ?_, honly⟩ <;> split <;> rfl
  case crd =>
    exact engRun_reads (v := fun u e => (u.ch n).eng.lag (((lag.toNat : Int) + e.x b) % 128).toNat) h rfl rfl

/-- Settles O31: ST by `Dev.engStore_newest`, OUT, FLAG and FAULT as instructions on the engines (`engRun_engines`), PUTS and
TACC by `engRun_entry`. -/
theorem engineStoresAndOutputs : Obligations.EngineStoresAndOutputs := by
  intro s n k a b e f port region offset addr f2 code h x g caps
  refine ⟨fun haddr hgranted => ?st, fun hport => ?out, ?flag, fun hcap => ?fault, ?puts, ?tacc⟩
  case st =>
    intro key cyc hnewest
    obtain ⟨cs, was, hquiet, hstore⟩ := s.dev.engStore_newest n k addr (x a) ((cyc_le_of_engReady h).trans (by decide)) hnewest
    have hexec : exec (.st n k a b region offset) s = liveIn s (·.opSt n k a b region offset) := rfl
    refine engRun_gives (f := (·.engStore n k addr cyc (x a))) h (hexec.trans (liveIn_congr h.1 ?_)) ?_
    · unfold Dev.opSt
      dsimp only
      rw [haddr]
      dsimp only
      rw [hgranted]
      rfl
    · rw [hstore]
      refine ⟨rfl, fun st r hr hne => ?_, ?_, rfl, fun hbefore => ⟨rfl, fun m hm => ?_, ?_⟩⟩
      · exact Dev.scr_withStore_other { s.dev with chans := cs } (stallOf n) addr (scrAddress_lt haddr) rfl st hr hne
      · exact Dev.scrAt_withStore { s.dev with chans := cs } (stallOf n) addr cyc rfl le_rfl
          fun y hy hkey => ScrWrite.after_of_before (hnewest y hy hkey)
      · obtain rfl := hquiet hbefore
        exact Dev.modCh_other _ n m hm _
      · obtain rfl := hquiet hbefore
        exact (Dev.ch_modCh ..).trans (if_pos rfl)
  case out =>
    have hexec : exec (.engOut n k a port) s = liveIn s (·.opEngOut n k a port) := rfl
    exact engRun_engines (g := fun c => c.modEng (·.out port.toNat (c.eng.te[k].x a))) h
      (hexec.trans (liveIn_congr h.1 (by rw [Dev.opEngOut, hport]))) rfl fun t he honly => ⟨congrArg (·.outs) he, honly⟩
  case flag =>
    exact engRun_engines (e := g.setFlag f.val (decide (x a < 0))) h rfl rfl fun t he honly => ⟨congrArg (·.pflags) he, honly⟩
  case fault =>
    have hok : (!f2 || capFault2 caps) = true := by
      cases f2 with
      | false => rfl
      | true => exact hcap rfl
    have hexec : exec (.engFault n k a f2 code) s = liveIn s (·.opEngFault n k a f2 code) := rfl
    refine engRun_engines (g := fun c => c.modEng fun e =>
      if c.eng.te[k].x a < 0 then { e with faults := e.faults ++ [{ code := code.toNat, f2 := f2 }] } else e) h
      (hexec.trans (liveIn_congr h.1 (by rw [Dev.opEngFault, hok]))) rfl fun t he honly =>
        ⟨(congrArg (·.faults) he).trans ?_, honly⟩
    exact apply_ite Engines.faults ..
  case puts =>
    obtain ⟨t, ht, hentry, hother, -, hchans, hmem, hshown⟩ := engRun_entry (c := .puts n k a b e) e h rfl
    exact ⟨t, ht, hentry, hother, hchans, hmem, hshown⟩
  case tacc =>
    obtain ⟨t, ht, hentry, -, htally, hchans, hmem, hshown⟩ := engRun_entry (c := .tacc n k a b e) e h rfl
    exact ⟨t, ht, hentry, htally, hchans, hmem, hshown⟩

end Sys2Proof
end

section
namespace Sys2Proof.Machine
open Sys2Proof

/-! R495, R496: a program fault that meets a handling of a higher class waits in the queue. -/

/-- A module in tick 0 whose fault manager handles an F3 fault, begun at this commit, and whose channel 0, ARMED, waits for the
re-fetch of a program. -/
def busyManager : State :=
  let d := { Dev.reset with power := { Power.reset with released := true }, flt := { Dev.reset.flt with active := [(3, 1)] } }
  let d := d.modCh 0 fun c => { c with force := { c.force with st := .armed }, eng := { c.eng with refetch := some 0 } }
  { dev := d, shown := d, prior := d, pending := [] }

/-- The module with the failure of the re-fetch raised as F2 at the present commit (R502). -/
def Dev.refetchFailed (d : Dev) (n : ChanId) : Dev :=
  (d.modCh n fun c => c.modEng fun e => { e with refetch := none }).raiseCh 0x0803 2 n

theorem busyManager_exec :
    exec (.refetchFail 0) busyManager = .next (busyManager.atCommit (busyManager.dev.refetchFailed 0).settleFaults) :=
  next_at rfl (show execRefetchFail 0 busyManager = _ from rfl) (if_neg (by decide))

/-- The fault enters the queue, and the channel stays ARMED (R496). -/
theorem busyManager_queues : (busyManager.dev.refetchFailed 0).settleFaults.flt.queue.length = 1 ∧
    ((busyManager.dev.refetchFailed 0).settleFaults.ch 0).force.st = .armed := by decide

end Sys2Proof.Machine

namespace Sys2Proof
open Machine

/-- Refutes O43: the clause of a re-fetch that fails puts the ARMED channel into SAFE at that commit, and no hypothesis says that
the fault manager is free for class F2; a calm module has nothing queued, but may be handling a fault. At `busyManager` it handles an F3
fault, so that the F2 fault enters the queue (R496) and the channel stays ARMED. -/
theorem not_programsAndScratchpadRecover : ¬ Obligations.ProgramsAndScratchpadRecover := by
  intro h
  obtain ⟨-, -, -, hfail, -⟩ := h busyManager 0 0 0 0 0 0 0 rfl (by decide) (by decide) (by decide) (by decide)
  obtain ⟨t, ht, -, hsafe, -⟩ := hfail (by decide) (by decide)
  obtain rfl := Host.Outcome.next.inj (busyManager_exec.symm.trans ht)
  exact absurd (busyManager_queues.2.symm.trans hsafe) (by decide)

end Sys2Proof
end

section
namespace Sys2Proof
open Machine

/-- Settles O1: both cases are `step` on a known queue. -/
theorem stepRunsTheFrontCommand : Obligations.StepRunsTheFrontCommand := by
  intro s c rest
  refine ⟨fun h => ?_, fun h => ?_⟩ <;> simp only [step, h]

/-- Settles O3: the reset state is written out, and every channel is `Channel.reset`. -/
theorem resetIsBeforePowerGood : Obligations.ResetIsBeforePowerGood := by
  have hch (n : ChanId) : State.reset.dev.ch n = Channel.reset := Vector.getElem_replicate _
  refine ⟨by unfold State.live; decide, rfl, rfl, Frame.wf_nil .., fun n => ?_, rfl, rfl, rfl⟩
  rw [hch n]
  exact ⟨rfl, rfl, rfl, rfl, rfl⟩

end Sys2Proof
end

section
namespace Sys2Proof.Machine
open Sys2Proof

/-! R435, R436, R437, R441, R454, R455: what changes the program memories or the step ledger leaves the trust state. -/

theorem foldl_trust {α : Type} (f : Dev → α → Dev) (h : ∀ d x, (f d x).frame.trust = d.frame.trust) (l : List α) (d : Dev) :
    (l.foldl f d).frame.trust = d.frame.trust := by
  induction l generalizing d with
  | nil => rfl
  | cons x l ih => exact (ih _).trans (h d x)

theorem Dev.trust_of_frame {d e : Dev} (h : e.frame = d.frame) : e.frame.trust = d.frame.trust := congrArg Frame.trust h

theorem Dev.writeDesc_trust (d : Dev) (i : Nat) (w : Word64) : (d.writeDesc i w).frame.trust = d.frame.trust := by
  unfold Dev.writeDesc
  split
  · exact Dev.trust_of_frame (by simp)
  · split
    · exact Dev.trust_of_frame (by simp)
    · rw [Dev.pruneReplay_frame]
      exact (congrArg Frame.trust (Dev.accept_frame d) :)

theorem Dev.writeLines_trust (d : Dev) (i : Nat) (w : List Word64) : (d.writeLines i w).frame.trust = d.frame.trust := by
  unfold Dev.writeLines
  dsimp only
  rw [Dev.incBy_frame]
  exact Dev.trust_of_frame (e := d.fresh.2.incBy 64 Obj.BANK_WAIT d.fresh.1) (by simp)

theorem Dev.putPackage_trust (l : Bool) (d : Dev) (p : Package) : (d.putPackage l p).frame.trust = d.frame.trust := by
  unfold Dev.putPackage
  dsimp only
  rw [foldl_frame _ fun d s => by simp]
  refine (foldl_trust _ (fun d n => ?_) _ _).trans (foldl_trust _ (fun d s => ?_) _ _)
  · dsimp only
    split
    · exact foldl_trust _ (by intro d x; rfl) _ _
    · rfl
  · exact foldl_trust _ (by intro d q; rfl) _ _

theorem Dev.unloadSet_trust (d : Dev) : d.unloadSet.frame.trust = d.frame.trust := by
  unfold Dev.unloadSet
  dsimp only
  (repeat' split) <;> simp [Dev.trust_eq]

theorem Dev.zeroise_trust (d : Dev) : d.zeroise.frame.trust = d.frame.trust := by
  simp [Dev.zeroise, Dev.trust_eq]

theorem Dev.leaveD2_trust (d : Dev) (l : Nat) : (d.leaveD2 l).frame.trust = d.frame.trust := by
  unfold Dev.leaveD2
  dsimp only
  split <;> simp [Dev.trust_eq]

theorem Dev.debugReq_trust (d : Dev) (v : Nat) : (d.debugReq v).frame.trust = d.frame.trust := by
  unfold Dev.debugReq
  dsimp only
  have h0 : (d.modSec fun x => { x with dbgPend := 0 }).frame = d.frame := by simp
  have hleave (e : Dev) (l : Nat) : (e.accept.leaveD2 l).frame.trust = e.frame.trust :=
    (Dev.leaveD2_trust _ l).trans (Dev.trust_of_frame e.accept_frame)
  rw [← h0]
  (repeat' split) <;> simp [hleave]

theorem Dev.reboot_trust (d : Dev) (v : Nat) : (d.reboot v).frame.trust = d.frame.trust := by
  rcases d.reboot_frame v with h | h <;> rw [h]

theorem Dev.writeRing_trust (d : Dev) (w f : Nat) (l : List Word64) : (d.writeRing w f l).frame.trust = d.frame.trust :=
  foldl_trust _ (fun d _ => d.writeLines_trust _ _) _ _

theorem Dev.ledgerLoad_trust (d : Dev) (b : Bool) (n : Nat) (l : List Word64) (c : Nat) :
    (d.ledgerLoad b n l c).frame.trust = d.frame.trust := by
  unfold Dev.ledgerLoad
  (repeat' split) <;> simp [Dev.writeLines_trust]

theorem Dev.refill_trust (d : Dev) (b : Bool) (x : LoadDesc) (l : List Byte) :
    (d.refill b x l).frame.trust = d.frame.trust := by
  unfold Dev.refill
  dsimp only
  (repeat' split) <;> simp [Dev.writeRing_trust]

theorem Dev.package_trust (d : Dev) (p : Package) : (d.package p).frame.trust = d.frame.trust := by
  unfold Dev.package
  split
  · simp
  · simp [Dev.putPackage_trust]

theorem Dev.guarded_trust (d : Dev) (r : ObjRow) (idx sub v : Nat) (f : Dev → Dev)
    (h : ∀ d : Dev, (f d).frame.trust = d.frame.trust) : (d.guarded r idx sub v f).frame.trust = d.frame.trust := by
  unfold Dev.guarded
  dsimp only
  (repeat' split) <;> simp [h]

/-- What a hook of a device object makes of the trust state, where it answers. -/
theorem Dev.devHookA_trust (d : Dev) (r : ObjRow) (idx sub v : Nat) :
    Kept (fun e => e.frame.trust = d.frame.trust) (d.devHookA r idx sub v) := by
  unfold Dev.devHookA
  extract_lets k guard plain
  have hg (f : Dev → Dev) (h : ∀ e, (f e).frame.trust = e.frame.trust) : Kept (fun e => e.frame.trust = d.frame.trust) (guard f) :=
    .some (d.guarded_trust r idx sub v f h)
  have hp (f : Dev → Dev) (h : ∀ e, (f e).frame = e.frame) : Kept (fun e => e.frame.trust = d.frame.trust) (plain f) :=
    .some (d.guarded_trust r idx sub v _ fun e => by simp [h])
  clear_value k guard plain
  repeat' with_reducible (first | apply Kept.ite | apply Kept.some | apply Kept.none)
  all_goals first
    | with_reducible exact hg _ Dev.unloadSet_trust
    | with_reducible exact Dev.writeDesc_trust ..
    | (with_reducible refine hp _ fun e => ?_; simp)
    | (with_reducible refine hg _ fun e => ?_; simp [apply_ite Dev.frame])
    | simp

theorem Dev.devHookB_trust (d : Dev) (r : ObjRow) (idx sub len v : Nat) :
    Kept (fun e => e.frame.trust = d.frame.trust) (d.devHookB r idx sub len v) := by
  unfold Dev.devHookB
  extract_lets k guard plain
  have hg (f : Dev → Dev) (h : ∀ e, (f e).frame = e.frame) : Kept (fun e => e.frame.trust = d.frame.trust) (guard f) :=
    .some (d.guarded_trust r idx sub v f fun e => Dev.trust_of_frame (h e))
  have hp (f : Dev → Dev) (h : ∀ e, (f e).frame = e.frame) : Kept (fun e => e.frame.trust = d.frame.trust) (plain f) :=
    .some (d.guarded_trust r idx sub v _ fun e => by simp [h])
  clear_value k guard plain
  repeat' with_reducible (first | apply Kept.ite | apply Kept.some | apply Kept.none)
  all_goals first
    | with_reducible exact Dev.debugReq_trust ..
    | with_reducible exact Dev.reboot_trust ..
    | (with_reducible refine hg _ fun e => ?_; simp [apply_ite Dev.frame])
    | (with_reducible refine hp _ fun e => ?_; simp)
    | simp

theorem Dev.writeObj_trust (d : Dev) (idx sub len v : Nat) : (d.writeObj idx sub len v).frame.trust = d.frame.trust := by
  unfold Dev.writeObj
  split
  · simp
  · next r _ =>
    dsimp only
    split
    · next e he =>
      split at he
      · rcases ho : d.devHookA r idx sub v with _ | x <;> rw [ho] at he
        · exact d.devHookB_trust r idx sub len v _ he
        · obtain rfl := Option.some.inj he
          exact d.devHookA_trust r idx sub v _ ho
      · next s k _ => 
        have h := d.stHook_frame s k v
        rw [he] at h
        exact Dev.trust_of_frame h
      · exact Dev.trust_of_frame (d.chHook_frame r _ idx sub _ v _ he)
    · exact d.guarded_trust r idx sub v _ fun d => by simp

theorem Dev.hostOver_trust (d : Dev) (n : ChanId) (k : Nat) (f : Dev → Dev) (h : ∀ d : Dev, (f d).frame.trust = d.frame.trust) :
    (d.hostOver n k f).frame.trust = d.frame.trust := by
  unfold Dev.hostOver
  split
  · simp
  · exact h d

theorem Dev.hostWrite_trust (d : Dev) (idx sub : Nat) (f : Dev → Dev) (h : ∀ d : Dev, (f d).frame.trust = d.frame.trust) :
    (d.hostWrite idx sub f).frame.trust = d.frame.trust := by
  unfold Dev.hostWrite
  split
  · split
    · simp
    · exact h d
  · exact h d
  · exact d.hostOver_trust _ _ f h

theorem Dev.sealedOp_trust (d : Dev) (o : SealedOp) : (d.sealedOp o).1.frame.trust = d.frame.trust := by
  unfold Dev.sealedOp
  dsimp only
  (repeat' split) <;> simp [Dev.writeObj_trust]

theorem Dev.sealedOps_trust (l : List SealedOp) (d : Dev) : (d.sealedOps l).1.frame.trust = d.frame.trust := by
  induction l generalizing d with
  | nil => rfl
  | cons o l ih => exact (ih _).trans (d.sealedOp_trust o)

theorem Dev.sealedIn_trust (d : Dev) (r : List Byte) (bulk : Bool) : (d.sealedIn r bulk).frame.trust = d.frame.trust := by
  unfold Dev.sealedIn
  dsimp only
  (repeat' split) <;> simp [Dev.sealedOps_trust]

theorem sectionsOf_trust {α : Type} (code : Nat) (ok : Dev → α → Bool) (put : Dev → α → Dev)
    (h : ∀ d x, (put d x).frame.trust = d.frame.trust) (l : List α) (d z : Dev) (hz : sectionsOf code ok put l d = .ok z) :
    z.frame.trust = d.frame.trust := by
  induction l generalizing d with
  | nil => obtain rfl := Except.ok.inj hz; rfl
  | cons x l ih =>
    simp only [sectionsOf, List.foldlM_cons] at hz ih
    split at hz
    · exact (ih _ hz).trans (h d x)
    · cases hz

/-- A value that a bind answers is one that its second part answers from its first. -/
theorem exists_of_except_bind_ok {ε α β : Type} {x : Except ε α} {f : α → Except ε β} {z : β} (h : x >>= f = .ok z) :
    ∃ y, x = .ok y ∧ f y = .ok z := by
  cases x with
  | error e => cases h
  | ok y => exact ⟨y, rfl, h⟩

theorem Dev.applyImage_trust (d z : Dev) (b : ImageBody) (h : d.applyImage b = .ok z) : z.frame.trust = d.frame.trust := by
  unfold Dev.applyImage at h
  dsimp only at h
  split at h
  · cases h
  · obtain ⟨d1, h1, h⟩ := exists_of_except_bind_ok h
    obtain ⟨d2, h2, h⟩ := exists_of_except_bind_ok h
    obtain ⟨d3, h3, h⟩ := exists_of_except_bind_ok h
    obtain ⟨d4, h4, h⟩ := exists_of_except_bind_ok h
    obtain ⟨d5, h5, h⟩ := exists_of_except_bind_ok h
    obtain rfl := Except.ok.inj h
    calc (d5.setReg Obj.IMAGE_VER b.version).paramWords.frame.trust
        = d5.frame.trust := by simp
      _ = d4.frame.trust := sectionsOf_trust _ _ _ (fun d e => by simp) _ _ _ h5
      _ = d3.frame.trust := sectionsOf_trust _ _ _ (fun d e => by rfl) _ _ _ h4
      _ = d2.frame.trust := sectionsOf_trust _ _ _ (fun d e => by rfl) _ _ _ h3
      _ = d1.frame.trust := sectionsOf_trust _ _ _ (Dev.putPackage_trust false) _ _ _ h2
      _ = _ := sectionsOf_trust _ _ _ (Dev.putPackage_trust true) _ _ _ h1
      _ = d.frame.trust := foldl_trust _ (fun d e => by simp) _ _

theorem Dev.useSlot_trust (d z : Dev) (f : Flash) (k : Fin 2) (h : d.useSlot f k = .ok z) : z.frame.trust = d.frame.trust := by
  obtain ⟨b, -, hb⟩ := exists_of_except_bind_ok (show (d.imageOf (flashBox f k)) >>= d.applyImage = .ok z from h)
  exact d.applyImage_trust z b hb

theorem Dev.tryImages_trust (d : Dev) (f : Flash) : (d.tryImages f).frame.trust = d.frame.trust := by
  unfold Dev.tryImages
  dsimp only
  split
  · next x h => simpa using d.useSlot_trust x f _ h
  · split
    · next x h => simpa using Dev.useSlot_trust _ x f _ h
    · simp

end Sys2Proof.Machine
namespace Sys2Proof.Machine
open Sys2Proof

/-! ## Every command -/

/-- The trust state stays. -/
def Frame.Trusts (f g : Frame) : Prop := g.trust = f.trust

theorem Frame.Trusts.refl (f : Frame) : f.Trusts f := rfl

theorem Frame.Trusts.of_eq {f g : Frame} (h : g = f) : f.Trusts g := congrArg Frame.trust h

theorem Frame.Trusts.trans {a b c : Frame} (h : a.Trusts b) (k : b.Trusts c) : a.Trusts c := Eq.trans k h

section
variable (s : State)

theorem Dev.modPower_trusts (d : Dev) (f : Power → Power) : d.frame.Trusts (d.modPower f).frame := rfl

theorem framed_powerGood_trusts (strap : BitVec 6) (ecMode : BitVec 2) :
    Framed Frame.Trusts s (execPowerGood strap ecMode s) := by
  refine framed_runAt _ ?_
  split
  · exact .refl _
  · simp [Frame.Trusts, Dev.trust_eq, Dev.cold_frame]

theorem framed_powerLoss_trusts : Framed Frame.Trusts s (execPowerLoss s) := by
  refine framed_runAt _ ?_
  split
  · exact .refl _
  · refine .trans (.of_eq ?_) (Dev.modPower_trusts _ _)
    simp [apply_ite Dev.frame, Dev.eachSt_frame]

theorem framed_configMemoryPhase_trusts (img : FlashRead) (time10us : BitVec 16) :
    Framed Frame.Trusts s (execConfigMemoryPhase img time10us s) := by
  refine framed_runAt _ ?_
  split
  · exact .refl _
  · split
    · exact .of_eq (by simp)
    · exact .trans (.of_eq (by simp)) (Dev.tryImages_trust _ _)

theorem framed_retainedStatePhase_trusts (r : RetainedResult) (time10us : BitVec 16) :
    Framed Frame.Trusts s (execRetainedStatePhase r time10us s) := by
  refine framed_runAt _ ?_
  split
  · exact .refl _
  · dsimp only
    rw [Dev.settleRestored_frame]
    refine .trans (.of_eq ?_) (Dev.modPower_trusts _ _)
    rw [apply_ite Dev.frame, Dev.raiseNow_frame, ite_self, foldl_frame _ fun d rec => Dev.restoreRecord_frame ..,
      apply_ite Dev.frame]
    simp [apply_ite Dev.frame]

theorem framed_objectWrite_trusts (idx : BitVec 16) (sub : BitVec 8) (len value : Nat) :
    Framed Frame.Trusts s (execObjectWrite idx sub len value s) := by
  refine framed_liveAt .refl s _ fun d => ?_
  dsimp only
  split
  · exact .of_eq (by simp)
  · rw [Dev.settleFaults_frame]
    exact d.hostWrite_trust _ _ _ fun d => d.writeObj_trust ..

theorem framed_retainRecordWritten_trusts (record : BitVec 16) (ok : Bool) :
    Framed Frame.Trusts s (execRetainRecordWritten record ok s) := by
  refine framed_liveAt .refl s _ fun d => .of_eq ?_
  dsimp only
  split
  · rfl
  · split
    · rw [foldl_frame _ fun d w => Dev.bulkDone_frame ..]
      simp [apply_ite Dev.frame]
    · rw [Dev.settleFaults_frame, foldl_frame _ fun d w => (Dev.bulkDone_frame ..).trans (Dev.modDict_frame ..)]
      simp

theorem framed_sealedIn_trusts (req : List Byte) (bulk : Bool) : Framed Frame.Trusts s (execSealedIn req bulk s) := by
  refine framed_liveAt .refl s _ fun d => ?_
  simp only [Dev.settleFaults_frame, Dev.modDict_frame]
  exact Dev.modDict_frame d _ ▸ Dev.sealedIn_trust _ _ _

theorem framed_spoolRefill_trusts (src : Option LoadDesc) : Framed Frame.Trusts s (execSpoolRefill src s) := by
  refine framed_liveIn .refl s _ fun d => ?_
  dsimp only
  (repeat' split) <;> simp [Frame.Trusts, Dev.refill_trust]

theorem framed_ledgerLoad_trusts (bulk : Bool) (cyc : Cycle) : Framed Frame.Trusts s (execLedgerLoad bulk cyc s) := by
  refine framed_liveIn .refl s _ fun d => ?_
  split
  · exact .refl _
  · next v e he =>
    rw [← Dev.takePassed_frame he]
    split
    · exact .of_eq (by simp)
    · exact e.ledgerLoad_trust ..

theorem framed_programPackage_trusts (bulk : Bool) : Framed Frame.Trusts s (execProgramPackage bulk s) := by
  refine framed_liveAt .refl s _ fun d => ?_
  split
  · exact .refl _
  · next v e he =>
    rw [← Dev.takePassed_frame he]
    dsimp only
    rw [apply_ite Dev.frame, Dev.loadAnswer_frame, Dev.loadRefuse_frame, ite_self]
    exact e.package_trust _

/-- Nothing of the frame has changed but the tick number and the release. -/
def Frame.Ticks (f g : Frame) : Prop := ∃ k r, g = { f with tick := k, released := r }

theorem Frame.Ticks.refl (f : Frame) : f.Ticks f := ⟨_, _, rfl⟩

theorem Frame.Ticks.trusts {f g : Frame} (h : f.Ticks g) : f.Trusts g := by
  obtain ⟨k, r, rfl⟩ := h
  rfl

theorem Frame.Ticks.wf {f g : Frame} (h : f.Ticks g) (w : f.wf) : g.wf := by
  obtain ⟨k, r, rfl⟩ := h
  exact w

theorem framed_release (time10us : BitVec 16) : Framed Frame.Ticks s (execRelease time10us s) := by
  refine framed_runAt _ ?_
  extract_lets p quiet d0 d1 d2 d3 d4
  split
  · exact .refl _
  · have h1 : d1.frame = { s.dev.frame with tick := 0, released := true } := by
      simp only [d1, d0, Dev.modPower_frame]
      congr 1
    have h2 : d2.frame = d1.frame := by simp [d2, apply_ite Dev.frame]
    have h3 : d3.frame = d2.frame := by simp [d3, apply_ite Dev.frame]
    have h4 : d4.frame = d3.frame := by simp [d4, apply_ite Dev.frame]
    refine ⟨0, true, ?_⟩
    calc d4.powerCommit.readyFlags.settleFaults.frame
        = d4.frame := by simp
      _ = { s.dev.frame with tick := 0, released := true } := h4.trans (h3.trans (h2.trans h1))

theorem Dev.onWord_ticks (d : Dev) (cmd x : Nat) (f : Dev → Dev) (h : ∀ e : Dev, e.frame.Ticks (f e).frame) :
    d.frame.Ticks (d.onWord cmd x f).frame := by
  unfold Dev.onWord
  dsimp only
  split
  · rw [Dev.forwardWord_frame]
    exact .refl _
  · have hnote : ((d.forwardWord cmd x).modSync fun y => { y with lastCmd := some (cmd, x) }).frame = d.frame := by simp
    exact hnote ▸ h _

theorem framed_syncEpoch (second : Bool) : Framed Frame.Ticks s (execSyncEpoch second s) := by
  refine framed_liveAt .refl s _ fun d => ?_
  split
  · next x _ =>
    rw [Dev.settleFaults_frame]
    exact d.onWord_ticks 2 x _ fun e => (e.takeEpoch_frame _).elim (fun h => h ▸ .refl _) fun h => ⟨_, _, h⟩
  · exact .refl _

theorem framed_syncSlotSend : Framed Frame.Ticks s (execSyncSlotSend s) := by
  refine framed_liveAt .refl s _ fun d => ?_
  split
  · exact .refl _
  · dsimp only
    rw [Dev.settleFaults_frame, Dev.syncOut_frame]
    split
    · obtain ⟨k, h⟩ := d.rootSlot_frame
      exact ⟨k, _, h⟩
    · split
      · exact ⟨_, _, by simp; rfl⟩
      · exact .refl _

/-- Every command that moves neither the trust state nor the tick keeps the trust state: most of them keep the whole frame. -/
theorem exec_trusts (c : Instr) (htrust : movesTrust c = false) : Framed Frame.Trusts s (exec c s) := by
  unfold exec
  cases c with
  | commit | ownership | retire | debugToken => cases htrust
  | powerGood => exact framed_powerGood_trusts s _ _
  | configMemoryPhase => exact framed_configMemoryPhase_trusts s _ _
  | retainedStatePhase => exact framed_retainedStatePhase_trusts s _ _
  | powerLoss => exact framed_powerLoss_trusts s
  | release => exact fun t ht => (framed_release s _ t ht).trusts
  | syncEpoch => exact fun t ht => (framed_syncEpoch s _ t ht).trusts
  | syncSlotSend => exact fun t ht => (framed_syncSlotSend s t ht).trusts
  | objectWrite => exact framed_objectWrite_trusts s _ _ _ _
  | retainRecordWritten => exact framed_retainRecordWritten_trusts s _ _
  | sealedIn => exact framed_sealedIn_trusts s _ _
  | spoolRefill => exact framed_spoolRefill_trusts s _
  | ledgerLoad => exact framed_ledgerLoad_trusts s _ _
  | programPackage => exact framed_programPackage_trusts s _
  | dirEntryWrite => exact framed_liveAt .refl s _ fun d => d.writeDesc_trust _ _
  | storeParams | restoreDefaults | restoreQuery => exact framed_liveAt .refl s _ fun d => d.writeObj_trust _ _ _ _
  | psetCmdUnload => exact framed_liveAt .refl s _ fun d => d.unloadSet_trust
  | rebootCmd => exact framed_liveAt .refl s _ fun d => d.reboot_trust _
  | debugReqD0 | debugReqD1 | debugReqD2 | debugReqD3 => exact framed_liveAt .refl s _ fun d => d.debugReq_trust _
  | sync0Event =>
    refine framed_liveRead .refl s _ (fun d => .of_eq ?_) _
    dsimp only
    (repeat' split) <;> simp
  | windowRead =>
    refine framed_linkRead .refl s _ (fun d => .of_eq ?_) _
    dsimp only
    (repeat' split) <;> simp
  | gustProfile =>
    refine framed_liveIn .refl s _ fun d => .of_eq ?_
    split
    · rfl
    · next v e he =>
      rw [← Dev.takePassed_frame he]
      (repeat' split) <;> simp
  | imageUpdate =>
    refine framed_liveAt .refl s _ fun d => .of_eq ?_
    split
    · rfl
    · next v e he =>
      rw [← Dev.takePassed_frame he]
      dsimp only
      (repeat' split) <;> simp
  | streamOpen =>
    refine framed_liveAt .refl s _ fun d => .of_eq ?_
    split
    · rfl
    · next v e he =>
      rw [← Dev.takeSecurity_frame he]
      dsimp only
      (repeat' split) <;> simp
  | ledgerReadParity line cause persistent =>
    change Framed _ s (execLedgerReadParity line cause persistent s)
    unfold execLedgerReadParity
    split
    · exact framed_liveIn .refl s _ fun d => .of_eq (by simp)
    · cases cause with
      | playback => exact framed_liveAt .refl s _ fun d => .of_eq (by simp)
      | lookahead | sweep | march => exact framed_liveIn .refl s _ fun d => .of_eq (by simp)
  | derateLevelChange =>
    refine framed_liveIn .refl s _ fun d => .of_eq ?_
    dsimp only
    (repeat' split) <;> simp
  | syscalPointJudged =>
    refine framed_liveAt .refl s _ fun d => .of_eq ?_
    dsimp only
    (repeat' split) <;> simp
  | tapPrivateInstruction a =>
    refine framed_liveAt .refl s _ fun d => .of_eq ?_
    have h := d.tapPrivate_frame a
    rcases ht : d.tapPrivate a with _ | e
    · exact d.tapBypass_frame
    · rw [ht] at h
      exact h
  | gustArmCmdArm | gustArmCmdDisarm | sineCmdStart | sineCmdZero | sineCmdPhaseReset =>
    refine framed_liveAt .refl s _ fun d => .of_eq ?_
    rw [Dev.settleFaults_frame]
    exact d.hostOver_frame _ _ _ fun d => by simp [apply_ite Dev.frame]
  | busStart | busInRegulation | stallAnalogReady | fusePhase | ecLinkLost | ecLinkUp | tapBypass | tapIdcode |
    tapSamplePreload | tapExtest | perstNDeassert | pcieLinkTrained | tapReset =>
    refine framed_runAt _ (.of_eq ?_)
    (repeat' split) <;> simp [apply_ite Dev.frame]
  | refclkLoss | refclkPresent | refclkRelock =>
    refine framed_runIn _ (.of_eq ?_)
    (repeat' split) <;> simp
  | pcieReset => exact framed_runIn_sealed s _ fun d => .of_eq (by simp [apply_ite Dev.frame])
  | sdoUpload | sdoCompleteAccessRead => exact framed_liveRead .refl s _ (fun d => .of_eq (by simp)) _
  | objRead | objCaRead | tickLoRead =>
    refine framed_linkRead .refl s _ (fun d => .of_eq ?_) _
    (repeat' split) <;> simp
  | busMasterDisable | windowWrite | irqStatusWrite | queueEnable | queueReset | queueTailWrite | exportTailWrite |
    exportWrite | objWrite | objCaWrite | dmaReadError | tlpUnsupported | bar0RegisterWrite =>
    refine framed_linkIn .refl s _ fun d => .of_eq ?_
    (repeat' split) <;> simp [apply_ite Dev.frame]
  | jmpEdge | waitEdge | holdRequest | clampEngage | clampRelease | hardwareTrip | railFail | aggCurrent | shareFault |
    ringDrop | rangeChangeBreak | gustTrigger | gustInjectionStart | gustInjectionEnd | sinePhaseReset |
    timerConversionStart | regTrigger | injTrigger | injSequenceStart | conversionDone | calConversion | auxWindow |
    auxInjTrigger | owSettleExpiry | wmTransition | tallyOpenEdge | tallyCloseEdge | evioEdge | evioOutput | evioPulseEnd |
    mkoOutput | syncMark | syncLost | pdFrame | sm2Watchdog | sync0Missed | esmInitToPreop | esmPreopToSafeop |
    esmSafeopToOp | esmLeaveOp | esmBootstrapRequest | esmInvalidRequest | mailboxRequest | sdoDownload |
    sdoCompleteAccessWrite | getOdList | getObjectDescription | getEntryDescription | sdoSegmentTimeout | containerVerified |
    nop | ldi | ldh | mov | ld | st | engIn | engOut | lut | luti | add | sub | addi | addw | engNeg | engAbs | engMin |
    engMax | engAnd | engOr | engXor | shl | shr | engSat | engClamp | sels | ext | ins | mul | mac | accrd | accld | puts |
    tacc | flag | engFault | corr | crd | cclr | stallLinkWord | silentTick | linkUncorr | linkSilent | stallTjLimit |
    programParity | refetchDone | scratchpadParity | scrRestoreDone | stallDiscard | stallBudget | scrubRead | marchBorrow |
    marchRelease | marchRestoreDone | safePath | mgmtWdt | busFail | esmDownwardTransition =>
    refine framed_liveIn .refl s _ fun d => .of_eq ?_
    (repeat' split) <;> simp [apply_ite Dev.frame, foldl_frame]
  | _ =>
    refine framed_liveAt .refl s _ fun d => .of_eq ?_
    (repeat' split) <;> simp [apply_ite Dev.frame, foldl_frame, Dev.eachCh_frame]

/-- What every command keeps of the frame: no anti-rollback counter falls, and the memories keep their canonical form. -/
structure Frame.Grows (f g : Frame) : Prop where
  arb : ∀ i : Fin 4, f.trust.arb[i] ≤ g.trust.arb[i]
  wf  : f.wf → g.wf

theorem Frame.Grows.refl (f : Frame) : f.Grows f := ⟨fun _ => le_rfl, id⟩

theorem Frame.Grows.of_eq {f g : Frame} (h : g = f) : f.Grows g := h ▸ .refl _

theorem Frame.Leads.grows {f g : Frame} (h : f.Leads g) : f.Grows g := ⟨h.arb, h.wf⟩

theorem Frame.Ticks.grows {f g : Frame} (h : f.Ticks g) : f.Grows g := ⟨fun i => by rw [h.trusts], h.wf⟩

theorem Frame.Grows.trans {a b c : Frame} (h : a.Grows b) (k : b.Grows c) : a.Grows c :=
  ⟨fun i => (h.arb i).trans (k.arb i), fun w => k.wf (h.wf w)⟩

/-- A change of what the security unit holds that leaves the counters. -/
theorem Dev.modSec_grows (d : Dev) (f : Sec → Sec) (h : (f d.sec).arb = d.sec.arb) : d.frame.Grows (d.modSec f).frame :=
  ⟨fun i => le_of_eq (congrArg (·[i]) h.symm), id⟩

theorem framed_ownership_grows (fuseOk : Bool) : Framed Frame.Grows s (execOwnership fuseOk s) := by
  refine framed_liveAt .refl s _ fun d => ?_
  split
  · exact .refl _
  · next v e he =>
    rw [← Dev.takeSecurity_frame he]
    dsimp only
    repeat' split
    any_goals simp only [Dev.secVerdict_frame, Dev.lifecycleEnds_frame, Frame.Grows.refl]
    all_goals exact .trans (.of_eq (Dev.secVerdict_frame ..)) (Dev.modSec_grows _ _ rfl)

theorem framed_retire_grows (fuseOk : Bool) : Framed Frame.Grows s (execRetire fuseOk s) := by
  refine framed_liveAt .refl s _ fun d => ?_
  split
  · exact .refl _
  · next v e he =>
    rw [← Dev.takeSecurity_frame he]
    split
    · rw [Dev.secVerdict_frame]
      exact .refl _
    · split
      · rw [Dev.secVerdict_frame]
        exact .refl _
      · refine .trans ?_ (Dev.modSec_grows _ _ rfl)
        have h := Dev.zeroise_leads ((e.secVerdict (if fuseOk then 0 else 0xD) 0x13).lifecycleEnds false)
        rw [Dev.lifecycleEnds_frame, Dev.secVerdict_frame] at h
        exact h.grows

theorem Dev.enterD3_grows (d : Dev) : d.frame.Grows d.enterD3.frame := by
  rw [d.enterD3_frame]
  exact ⟨fun _ => le_rfl, fun _ => Frame.wf_nil ..⟩

theorem framed_debugToken_grows : Framed Frame.Grows s (execDebugToken s) := by
  refine framed_liveAt .refl s _ fun d => ?_
  split
  · exact .refl _
  · next v e he =>
    rw [← Dev.takeSecurity_frame he]
    split
    · rw [Dev.secVerdict_frame]
      exact .refl _
    · next tok _ =>
      extract_lets code u
      have hu : u.frame = e.frame := e.secVerdict_frame ..
      rw [← hu]
      split
      · exact .refl _
      · split
        · rw [apply_ite Dev.frame, Dev.debugRoll_frame, ite_self]
          exact u.modSec_grows _ rfl
        · split
          · exact u.enterD3_grows
          · exact u.modSec_grows _ rfl

theorem Dev.commit_grows (d : Dev) (inp : TickInputs) (shown : Dev) : d.frame.Grows (d.commit inp shown).frame :=
  have hbegun : d.frame.Ticks { d.frame with tick := d.tick + 1 } := ⟨_, _, rfl⟩
  hbegun.grows.trans (d.commit_leads inp shown).grows

theorem framed_commit (inp : TickInputs) : Framed Frame.Grows s (exec (.commit inp) s) := by
  by_cases hlive : s.live
  · intro t ht
    have hexec := exec_commit_live s inp hlive
    have hgrows := s.dev.commit_grows inp s.shown
    generalize s.dev.commit inp s.shown = d at hexec hgrows
    obtain rfl := Host.Outcome.next.inj (hexec.symm.trans ht)
    exact hgrows
  · rw [show exec (.commit inp) s = .next s from if_neg hlive]
    rintro _ ⟨⟩
    exact .refl _

theorem exec_grows (c : Instr) : Framed Frame.Grows s (exec c s) := by
  cases c with
  | commit inp => exact framed_commit s inp
  | ownership fuseOk => exact framed_ownership_grows s fuseOk
  | retire fuseOk => exact framed_retire_grows s fuseOk
  | debugToken => exact framed_debugToken_grows s
  | release => exact fun t ht => (framed_release s _ t ht).grows
  | syncEpoch => exact fun t ht => (framed_syncEpoch s _ t ht).grows
  | syncSlotSend => exact fun t ht => (framed_syncSlotSend s t ht).grows
  | _ => exact fun t ht => (exec_leads _ s rfl rfl t ht).grows
end

end Sys2Proof.Machine

namespace Sys2Proof
open Machine

/-- Settles O5: the commands but those four keep the trust state (`exec_trusts`), and none lowers a counter
(`exec_grows`). -/
theorem trustChangesByItsCommandsAlone : Obligations.TrustChangesByItsCommandsAlone :=
  fun c s t ht => ⟨fun htrust => exec_trusts s c htrust t ht, (exec_grows s c t ht).arb⟩

/-- Settles O4: an idle step changes nothing, and every command keeps the canonical form (`exec_grows`). -/
theorem stepsKeepTheLedgerCanonical : Obligations.StepsKeepTheLedgerCanonical := by
  intro s t hwf ht
  unfold step at ht
  split at ht
  · cases ht
    exact hwf
  · next c rest _ => exact (exec_grows { s with pending := rest } c t ht).wf hwf

end Sys2Proof
end

section
namespace Sys2Proof.Machine
open Sys2Proof

/-! R17, R194, R241, R248, R315, R316: an edge at a consumer that acts at a commit. -/

/-- The consumers that act at a commit: the wait inputs, the jump input, the hold and the tally gates (Table 11-3). -/
def CommitActing (con : Nat) : Prop := 4 ≤ con ∧ con ≠ 9 ∧ con ≠ 10

/-- A latched wait input and a hold that is pending or runs bar their consumer (R316). -/
def Channel.barsEdge (c : Channel) (con : Nat) : Prop := (con < 8 ∧ bit c.bk.latch (con - 4) = true) ∨ (con = 11 ∧ c.hold ≠ none)

/-- A channel with an edge collected for a consumer (R315). -/
def Channel.withEdge (c : Channel) (con : Nat) (ev : Ev) : Channel :=
  { c with edges := c.edges ++ [{ con := con, act := actFor ev.at', tick := ev.at'.1, cyc := ev.at'.2, origin := ev.origin }] }

/-- The first edge at the hold consumer makes a hold pending (R316). -/
def Channel.collects (c : Channel) (con : Nat) (ev : Ev) : Channel :=
  { c.withEdge con ev with
    hold := if con = 11 ∧ (∀ e ∈ c.edges, e.con ≠ 11) then some (actFor ev.at', actFor ev.at') else c.hold }

theorem Channel.collects_first (c : Channel) (ev : Ev) (h : ∀ e ∈ c.edges, e.con ≠ 11) :
    c.collects 11 ev = { c.withEdge 11 ev with hold := some (actFor ev.at', actFor ev.at') } := by
  unfold Channel.collects
  rw [if_pos ⟨rfl, h⟩]

theorem Channel.collects_later (c : Channel) {con : Nat} (ev : Ev) (h : ¬ (con = 11 ∧ ∀ e ∈ c.edges, e.con ≠ 11)) :
    c.collects con ev = c.withEdge con ev := by
  unfold Channel.collects
  rw [if_neg h]
  rfl

section
variable {d : Dev} {n : ChanId} {con : Nat} {ev : Ev}

theorem Dev.collect_new (hfree : ∀ e ∈ (d.ch n).edges, e.con = con → e.act ≠ actFor ev.at' ∧ (e.tick, e.cyc) ≠ ev.at') :
    d.collect n con false ev = d.modCh n (·.withEdge con ev) := by
  have hmerge : ((d.ch n).edges.any fun e => e.con == con && e.tick == ev.at'.1 && e.cyc == ev.at'.2) = false := by
    rw [List.any_eq_false]
    intro e he
    have := (hfree e he · |>.2)
    simpa [Prod.ext_iff] using this
  have hact : ((d.ch n).edges.any fun e => e.con == con && e.act == actFor ev.at') = false := by
    rw [List.any_eq_false]
    intro e he
    have := (hfree e he · |>.1)
    simpa using this
  unfold Dev.collect
  simp only [hmerge, hact]
  rfl

theorem Dev.collect_again {busy : Bool} (hother : ∀ e ∈ (d.ch n).edges, e.con = con → (e.tick, e.cyc) ≠ ev.at')
    (h : busy = true ∨ ∃ e ∈ (d.ch n).edges, e.con = con ∧ e.act = actFor ev.at') :
    d.collect n con busy ev = d.overrun n con := by
  have hmerge : ((d.ch n).edges.any fun e => e.con == con && e.tick == ev.at'.1 && e.cyc == ev.at'.2) = false := by
    rw [List.any_eq_false]
    intro e he
    have := hother e he
    simpa [Prod.ext_iff] using this
  have hover : (busy || (d.ch n).edges.any fun e => e.con == con && e.act == actFor ev.at') = true := by
    simpa using h
  unfold Dev.collect
  simp only [hmerge, hover]
  rfl

theorem Dev.holdEdge_new (hfree : ∀ e ∈ (d.ch n).edges, e.con = 11 → e.act ≠ actFor ev.at' ∧ (e.tick, e.cyc) ≠ ev.at')
    (hhold : (d.ch n).hold = none) : d.holdEdge n ev = d.modCh n (·.collects 11 ev) := by
  unfold Dev.holdEdge
  rw [hhold]
  simp only [Option.isSome_none, Bool.false_or, Dev.collect_new hfree]
  by_cases h : ∀ e ∈ (d.ch n).edges, e.con ≠ 11
  · have hany : ((d.ch n).edges.any fun e => e.con == 11) = false := by simpa using h
    rw [hany, if_neg nofun, Dev.modCh_modCh]
    exact congrArg (d.setCh n) (Channel.collects_first _ ev h).symm
  · have hany : ((d.ch n).edges.any fun e => e.con == 11) = true := by simpa using h
    rw [hany, if_pos rfl]
    exact congrArg (d.setCh n) (Channel.collects_later _ ev fun h' => h h'.2).symm

theorem Dev.holdEdge_again (hother : ∀ e ∈ (d.ch n).edges, e.con = 11 → (e.tick, e.cyc) ≠ ev.at')
    (h : (d.ch n).hold ≠ none ∨ ∃ e ∈ (d.ch n).edges, e.con = 11 ∧ e.act = actFor ev.at') :
    d.holdEdge n ev = d.overrun n 11 := by
  have hcollect : d.collect n 11 (d.ch n).hold.isSome ev = d.overrun n 11 :=
    Dev.collect_again hother (h.imp_left Option.isSome_iff_ne_none.2)
  have hdone : ((d.ch n).hold.isSome || (d.ch n).edges.any fun e => e.con == 11) = true := by
    rw [Bool.or_eq_true, Option.isSome_iff_ne_none, List.any_eq_true]
    exact h.imp_right fun ⟨e, he, hcon, _⟩ => ⟨e, he, beq_iff_eq.2 hcon⟩
  unfold Dev.holdEdge
  simp only [hcollect, hdone]
  rfl

/-- An event at a consumer that acts at a commit is collected, or is a hold request (Table 11-3). -/
theorem Dev.consume_commitActing (hrole : d.role n = 0) (hcon : CommitActing con) : d.consume n con ev =
    if con = 11 then d.holdEdge n ev else d.collect n con (decide (con < 8) && bit (d.ch n).bk.latch (con - 4)) ev := by
  obtain ⟨h4, h9, h10⟩ := hcon
  unfold Dev.consume
  rw [d.leaderOf_alone n hrole, ite_self]
  dsimp only
  by_cases hw : con < 8
  · have : con ≤ 7 := by omega
    simp [h4, hw, this, show con ≠ 11 by omega]
  · have : ¬ con ≤ 7 := by omega
    by_cases h8 : con = 8
    · simp [h8]
    · by_cases h11 : con = 11
      · simp [h11]
      · simp [hw, this, h8, h11, show 12 ≤ con by omega]

/-- An edge for a commit with none before it, at a consumer that nothing bars, is collected (R315). -/
theorem Dev.consume_new (hrole : d.role n = 0) (hcon : CommitActing con)
    (hfree : ∀ e ∈ (d.ch n).edges, e.con = con → e.act ≠ actFor ev.at' ∧ (e.tick, e.cyc) ≠ ev.at')
    (hbar : ¬ (d.ch n).barsEdge con) : d.consume n con ev = d.modCh n (·.collects con ev) := by
  obtain ⟨hlatch, hhold⟩ := not_or.1 hbar
  rw [Dev.consume_commitActing hrole hcon]
  split
  · next h =>
    subst h
    exact Dev.holdEdge_new hfree (not_not.1 fun h => hhold ⟨rfl, h⟩)
  · next h =>
    have hbusy : (decide (con < 8) && bit (d.ch n).bk.latch (con - 4)) = false := by
      simpa using hlatch
    rw [hbusy, Dev.collect_new hfree]
    exact congrArg (d.setCh n) (Channel.collects_later _ ev fun h' => h h'.1).symm

/-- A second edge for a commit, or one at a consumer that is barred, is an overrun (R315, R316). -/
theorem Dev.consume_again (hrole : d.role n = 0) (hcon : CommitActing con)
    (hother : ∀ e ∈ (d.ch n).edges, e.con = con → (e.tick, e.cyc) ≠ ev.at')
    (h : (d.ch n).barsEdge con ∨ ∃ e ∈ (d.ch n).edges, e.con = con ∧ e.act = actFor ev.at') :
    d.consume n con ev = d.overrun n con := by
  rw [Dev.consume_commitActing hrole hcon]
  split
  · next h11 =>
    subst h11
    exact Dev.holdEdge_again hother (h.imp_left fun hbar => hbar.elim (fun hw => absurd hw.1 (by decide)) (·.2))
  · next h11 =>
    refine Dev.collect_again hother (h.imp_left fun hbar => ?_)
    obtain ⟨hw, hl⟩ := hbar.resolve_right fun hh => h11 hh.1
    rw [hl, decide_eq_true hw]
    rfl

/-- An overrun of a consumer that acts at a commit sets its bit, and counts (R315). -/
theorem Dev.overrun_commitActing (hcon : CommitActing con) : d.overrun n con =
    d.modCh n fun c => Channel.inc { c with ovr := c.ovr ||| BitVec.twoPow 64 con } 32 (Obj.OVR_CNT con) := by
  have h4 : 4 ≤ con := hcon.1
  unfold Dev.overrun
  simp only [Dev.cinc, Dev.modCh_modCh]
  rw [if_neg (by omega), if_neg (by omega)]
  rfl
end

end Sys2Proof.Machine

namespace Sys2Proof
open Machine

/-- Settles O15: each of the five rows is an edge at a consumer that acts at a commit, collected (`Dev.consume_new`) or an
overrun (`Dev.consume_again`). -/
theorem edgesWaitForTheirCommit : Obligations.EdgesWaitForTheirCommit := by
  intro s n w u cyc c con hinside hrole hmem ch act busy
  have hrow : CommitActing con ∧ exec c s = liveIn s fun d => d.consume n con (d.arrival cyc.val) := by
    simp only [List.mem_cons, Prod.mk.injEq, List.not_mem_nil, or_false] at hmem
    unfold CommitActing
    rcases hmem with ⟨rfl, rfl⟩ | ⟨rfl, rfl⟩ | ⟨rfl, rfl⟩ | ⟨rfl, rfl⟩ | ⟨rfl, rfl⟩ <;> exact ⟨by omega, rfl⟩
  obtain ⟨hcon, hexec⟩ := hrow
  have hact : actFor (s.dev.tick, cyc.val) = act := if_congr (by omega) rfl rfl
  refine ⟨fun hfree hbusy => gives_in hinside hexec ?_, fun hother hagain => gives_in hinside hexec ?_⟩
  · rw [Dev.consume_new hrole hcon (ev := s.dev.arrival cyc.val) (fun e he hc => hact ▸ hfree e he hc) hbusy]
    rw [← hact]
    rfl
  · rw [Dev.consume_again hrole hcon (ev := s.dev.arrival cyc.val) hother (hact ▸ hagain), Dev.overrun_commitActing hcon]
    simp only [State.inTick_dev, State.inTick_shown, Dev.ch_modCh, if_true]
    exact ⟨rfl, rfl, rfl, fun m hm => if_neg hm, trivial⟩

end Sys2Proof
end

section
namespace Sys2Proof.Machine
open Sys2Proof

/-! R276, R312, R315, R320, R322: output pins, tether locks and the MKO run write. -/

section
variable {d : Dev} {ovr : Nat} {p : OutPulse} {ev : Ev}

/-- An activation of a pin whose pulse is active is an overrun (R315). -/
theorem Dev.drive_pulsing (h : d.fab.pulsing p.pin ev.at' = true) : d.drive ovr p ev = d.inc 32 ovr := if_pos h

theorem Dev.drive_idle (h : d.fab.pulsing p.pin ev.at' = false) :
    d.drive ovr p ev = { d with fab := { d.fab with outs := p :: d.fab.outs } } := if_neg (by simp [h])

theorem Dev.drive_keeps : (d.drive ovr p ev).chans = d.chans ∧ (d.drive ovr p ev).mem = d.mem := by
  unfold Dev.drive
  split <;> exact ⟨rfl, rfl⟩
end

/-- A pin drives an event, or counts an overrun: what a command that does so gives (R315, R322). -/
theorem gives_drives {s : State} {c : Instr} {f : Dev → Dev} {key ovr : Nat} {p : OutPulse} {ev : Ev} (hinside : s.inside)
    (hexec : exec c s = liveIn s f) (hf : f s.dev = (s.dev.arrive key ev.at').drive ovr p ev) : Gives c s fun t =>
      t.dev.chans = s.dev.chans ∧ t.dev.mem = s.dev.mem ∧ t.shown = s.shown ∧
      (s.dev.fab.pulsing p.pin ev.at' = true → t.dev.regs = (s.dev.inc 32 ovr).regs ∧ t.dev.fab.outs = s.dev.fab.outs) ∧
      (s.dev.fab.pulsing p.pin ev.at' = false → t.dev.regs = s.dev.regs ∧ t.dev.fab.outs = p :: s.dev.fab.outs) := by
  refine gives_in hinside hexec ?_
  rw [hf, State.inTick_dev, State.inTick_shown]
  refine ⟨Dev.drive_keeps.1, Dev.drive_keeps.2, rfl, fun h => ?_, fun h => ?_⟩
  · rw [Dev.drive_pulsing (d := s.dev.arrive key ev.at') h]
    exact ⟨rfl, rfl⟩
  · rw [Dev.drive_idle (d := s.dev.arrive key ev.at') h]
    exact ⟨rfl, rfl⟩

/-- The pulses of a pin that end within the present tick end (R322). -/
def Dev.endPulses (d : Dev) (pin : Nat) : Dev :=
  { d with fab := { d.fab with outs := d.fab.outs.filter fun p => p.pin != pin || before (d.tick, 499) p.stop } }

/-- A tether is locked, or the lock is refused (R320). -/
def Dev.lockTether (d : Dev) (t : BitVec 8) : Dev :=
  if t.toNat ≥ 128 then d.refuse Obj.LOCK_CMD abRange
  else { d.accept with fab := { d.fab with locks := putBit d.fab.locks t.toNat true } }

/-- MKO_RUN is written (R276). -/
def Dev.runMko (d : Dev) (v : Bool) : Dev :=
  let d := d.accept.setReg Obj.MKO_RUN (b2n v)
  { d with fab := { d.fab with mkoGo := d.fab.mkoGo || v } }.mkoLands

theorem evioWidth_eq (w : Nat) (ev : Ev) :
    evioWidth w ev = if natBits w 11 0 = 0 then max ev.width (if evioStd w then 4 else 10) else natBits w 11 0 := by
  unfold evioWidth
  split
  · next h => rw [if_pos h]
  · next h => rw [if_neg h]

end Sys2Proof.Machine

namespace Sys2Proof
open Machine

/-- Settles O16: an event at a pin that drives pulses is a `Dev.drive` (`gives_drives`); the other rows are written out in their
commands. -/
theorem outputLandsAndLocks : Obligations.OutputLandsAndLocks := by
  intro s k p t' width cyc mko v f at' cfg pw w pulse
  refine ⟨fun hinside => ⟨fun hdir hmerge => ?evio, fun hdir => ?evioOff, fun hsrc hmode hmerge => ?mko, fun hoff => ?mkoOff, ?ends⟩,
    fun hlive => ⟨fun ht => ?lock, fun ht => ?lockRange, ?run⟩⟩
  case evio =>
    have hw : evioWidth cfg (s.dev.arrival cyc.val true width) = w := evioWidth_eq ..
    refine gives_drives (key := 4096 + k.val) (ovr := Obj.EVIO_OVR k.val) (f := fun d => d.evioOut k.val (d.arrival cyc.val true width)) (p := pulse k.val w)
      (ev := s.dev.arrival cyc.val true width) hinside rfl ?_
    have hm : s.dev.merges (4096 + k.val) (s.dev.arrival cyc.val true width).at' = false := hmerge
    unfold Dev.evioOut
    rw [if_neg (show ¬ evioDir cfg < 2 from Nat.not_lt.2 hdir), hm, ← hw]
    rfl
  case evioOff =>
    refine gives_in hinside (f := fun d => d.evioOut k.val (d.arrival cyc.val true width)) rfl ?_
    rw [Dev.evioOut, if_pos (show evioDir cfg < 2 from hdir)]
    rfl
  case mko =>
    refine gives_drives (key := 4112 + p.val) (ovr := Obj.MKO_OVR p.val) (f := fun d => d.mkoOut p (d.arrival cyc.val true width)) (p := pulse (16 + p.val) _)
      (ev := s.dev.arrival cyc.val true width) hinside rfl ?_
    have hm : s.dev.merges (4112 + p.val) (s.dev.arrival cyc.val true width).at' = false := hmerge
    unfold Dev.mkoOut
    rw [hsrc, show s.dev.fab.mkoMode[p] = 0 from hmode, if_neg nofun,
      hm]
    rfl
  case mkoOff =>
    refine gives_in hinside (f := fun d => d.mkoOut p (d.arrival cyc.val true width)) rfl ?_
    rw [Dev.mkoOut, if_pos (by simpa using hoff)]
    rfl
  case ends =>
    refine gives_in hinside (f := (·.endPulses (if mko then 16 + k.val else k.val))) rfl ⟨rfl, fun q => ?_⟩
    simp [Dev.endPulses, List.mem_filter, f]
  case lock =>
    refine gives_at hlive (f := (·.lockTether t')) rfl ?_
    rw [State.atCommit_dev, State.atCommit_shown, Dev.lockTether, if_neg (Nat.not_le.2 ht)]
    exact ⟨rfl, s.dev.accept_abort, s.dev.accept_chans, s.dev.accept_mem, rfl⟩
  case lockRange =>
    refine gives_at hlive (f := (·.lockTether t')) rfl ?_
    rw [State.atCommit_dev, State.atCommit_shown, Dev.lockTether, if_pos ht]
    exact ⟨by rw [Dev.refuse_fab], by rw [Dev.refuse_dict]; rfl, Dev.refuse_chans .., rfl⟩
  case run =>
    refine gives_at hlive (f := (·.runMko v)) rfl
      ⟨congrArg (fun x : Fabric => x.mkoGo || v) s.dev.accept_fab, ?_, s.dev.accept_chans, s.dev.accept_mem, rfl⟩
    calc (s.dev.runMko v).reg Obj.MKO_RUN
        = b2n v := (Dev.reg_setReg_eq s.dev.accept ..).trans (if_pos rfl)
      _ = v.toNat := by cases v <;> rfl

end Sys2Proof
end

section
namespace Sys2Proof.Machine
open Sys2Proof

/-! R338, R495, R496: a ledger line that cannot be read while the manager handles a fault of a higher class. -/

/-- A module in tick 0 whose fault manager handles an F3 fault, begun at this commit, and whose channel 0, ARMED, has been held for
1,000 ticks on a line that cannot be read. -/
def busyLedger : State :=
  let d := { Dev.reset with power := { Power.reset with released := true }, flt := { Dev.reset.flt with active := [(3, 1)] } }
  let d := d.modCh 0 fun c => { c with force := { c.force with st := .armed }, bk := { c.bk with stuckAddr := some 0, stuckRun := 1000 } }
  { dev := d, shown := d, prior := d, pending := [] }

theorem busyLedger_exec :
    exec (.stepParityStuck 0) busyLedger = .next (busyLedger.atCommit (busyLedger.dev.raiseCh 0x0703 2 0).settleFaults) :=
  next_at rfl (show exec (.stepParityStuck 0) busyLedger = liveAt busyLedger _ from rfl) (if_pos (by decide))

/-- The fault enters the queue, and the channel stays ARMED (R496). -/
theorem busyLedger_queues : ((busyLedger.dev.raiseCh 0x0703 2 0).settleFaults.ch 0).force.st = .armed := by decide

end Sys2Proof.Machine

namespace Sys2Proof
open Machine

/-- Refutes O42: the clause of STEP_PARITY_STUCK puts the ARMED channel into SAFE at that commit, and no hypothesis says that the fault
manager is free for class F2. At `busyLedger` it handles an F3 fault, so that the F2 fault enters the queue (R496) and the channel
stays ARMED. -/
theorem not_ledgerParityIsListedAndHeld : ¬ Obligations.LedgerParityIsListedAndHeld := by
  intro h
  obtain ⟨-, -, -, hstuck, -⟩ := h busyLedger 0 0 0 .sweep rfl (by decide)
  obtain ⟨t, ht, hsafe, -⟩ := hstuck (by decide) (by decide) (by decide) (by decide)
  obtain rfl := Host.Outcome.next.inj (busyLedger_exec.symm.trans ht)
  exact absurd (busyLedger_queues.symm.trans hsafe) (by decide)

end Sys2Proof
end

section
namespace Sys2Proof.Machine
open Sys2Proof

/-! R338, R341, R342, R344, R345: the scrubber and the march test. -/

/-- What no scrub read and no stage of the march test changes. -/
def Dev.TestsAround (d t : Dev) : Prop :=
  t.chans = d.chans ∧ t.mem.ledger = d.mem.ledger ∧ t.mem.scr = d.mem.scr ∧ t.mem.progs = d.mem.progs

theorem Dev.TestsAround.of_mem {d t : Dev} (hchans : t.chans = d.chans) (hmem : t.mem = d.mem) : d.TestsAround t := by
  unfold Dev.TestsAround
  rw [hmem]
  exact ⟨hchans, rfl, rfl, rfl⟩

theorem Dev.TestsAround.trans {d t u : Dev} (h : d.TestsAround t) (k : t.TestsAround u) : d.TestsAround u := by
  obtain ⟨hc, hl, hs, hp⟩ := h
  obtain ⟨kc, kl, ks, kp⟩ := k
  exact ⟨kc.trans hc, kl.trans hl, ks.trans hs, kp.trans hp⟩

/-- The region that the march test takes after one (R342). -/
def regionAfter (m region : Nat) : Nat := if memRegions m ≤ region + 1 then 0 else region + 1

section
variable (d : Dev) (m region : Nat)

theorem Dev.marchSkip_of_replay_nil (k : Nat) (h : d.mem.replay = []) : Dev.marchSkip k d m = d := by
  cases k with
  | zero => rfl
  | succ k => simp [Dev.marchSkip, h]

theorem Dev.marchNext_mem : (d.marchNext m region).mem =
    { d.mem with nextRegion := sput 0 d.mem.nextRegion m (regionAfter m region) } := by
  unfold Dev.marchNext regionAfter
  dsimp only
  by_cases h : memRegions m ≤ region + 1 <;> simp only [h, decide_true, decide_false, if_true, if_false] <;> split <;> rfl

theorem Dev.marchNext_chans : (d.marchNext m region).chans = d.chans := by
  unfold Dev.marchNext
  dsimp only
  split <;> rfl

theorem Dev.marchNext_flt : (d.marchNext m region).flt = d.flt := by
  unfold Dev.marchNext
  dsimp only
  split <;> rfl

theorem Dev.marchNext_tick : (d.marchNext m region).tick = d.tick := by
  unfold Dev.marchNext
  dsimp only
  split <;> rfl

theorem Dev.marchNext_around : d.TestsAround (d.marchNext m region) := by
  unfold Dev.TestsAround
  rw [d.marchNext_mem]
  exact ⟨d.marchNext_chans m region, rfl, rfl, rfl⟩

/-- The end of a restore may count a collision, and nothing more (R329). -/
theorem Dev.restoreMeets_eq : ∃ regs ctr, d.restoreMeets m = { d with regs := regs, freeCtr := ctr } := by
  unfold Dev.restoreMeets
  dsimp only
  split
  · split <;> exact ⟨_, _, rfl⟩
  · exact ⟨_, _, rfl⟩

theorem Dev.sget_marchNext : sget 0 (d.marchNext m region).mem.nextRegion m = regionAfter m region := by
  rw [d.marchNext_mem, sget_sput, if_pos rfl]

/-- The test is no longer on a memory, and goes on from its next region (R342). -/
def Dev.marchDone : Dev :=
  ({ d with mem := { d.mem with borrows := d.mem.borrows.filter (·.mem != m) } }.marchNext m region).restoreMeets m

theorem Dev.marchDone_spec : d.TestsAround (d.marchDone m region) ∧
    (d.marchDone m region).mem = { d.mem with borrows := d.mem.borrows.filter (·.mem != m),
                                              nextRegion := sput 0 d.mem.nextRegion m (regionAfter m region) } ∧
    (d.marchDone m region).flt = d.flt ∧ (d.marchDone m region).tick = d.tick := by
  let d' : Dev := { d with mem := { d.mem with borrows := d.mem.borrows.filter (·.mem != m) } }
  obtain ⟨regs, ctr, h⟩ := (d'.marchNext m region).restoreMeets_eq m
  rw [show d.marchDone m region = _ from h]
  exact ⟨(show d.TestsAround d' from ⟨rfl, rfl, rfl, rfl⟩).trans (d'.marchNext_around m region), d'.marchNext_mem m region,
    d'.marchNext_flt m region, d'.marchNext_tick m region⟩
end

/-- A ledger region that failed takes a spare of its bank, where one is left (R345). -/
theorem Dev.repair_ledger (d : Dev) (region : Nat) (h : 0 < d.mem.bankSpare[bankOf region]) :
    (d.repair 0 region).mem = { d.mem with bankSpare := d.mem.bankSpare.set (bankOf region) (d.mem.bankSpare[bankOf region] - 1),
                                           mapped := (0, region) :: d.mem.mapped } ∧
    (d.repair 0 region).flt.due = d.flt.due ++ [(d.tick + 1, ⟨0x0906, 1, .device, 0xFF, region, d.tick, 0⟩)] ∧
    (d.repair 0 region).chans = d.chans := by
  unfold Dev.repair
  dsimp only
  rw [if_pos rfl, if_neg h.ne']
  exact ⟨rfl, rfl, rfl⟩

section
variable {s : State} {m : Fin 17}

/-- The latest borrow of a memory is the present one (R342). -/
def Dev.noteBorrow (d : Dev) (m : Nat) : Dev :=
  { d with mem := { d.mem with marched := (m, d.tick) :: d.mem.marched.filter (·.1 != m) } }

/-- The test of a region begins (R342). -/
def Dev.borrowRegion (d : Dev) (b : Borrow) : Dev := { d with mem := { d.mem with borrows := b :: d.mem.borrows } }

/-- A borrow takes the next region, where no line waits for its replay; without its save the test goes on (R342). -/
theorem exec_marchBorrow_may (hinside : s.inside) (hmay : s.dev.mayBorrow m.val = true) (hreplay : s.dev.mem.replay = [])
    (saveOk : Bool) : exec (.marchBorrow m saveOk) s = .next (s.inTick (
      let region := sget 0 s.dev.mem.nextRegion m.val
      let d := s.dev.noteBorrow m.val
      if saveOk then d.borrowRegion { mem := m.val, region := region, since := s.dev.tick, testing := true }
      else d.marchNext m.val region)) := by
  refine next_in hinside (show execMarchBorrow m saveOk s = liveIn s _ from rfl) ?_
  dsimp only
  rw [hmay, Dev.marchSkip_of_replay_nil _ _ _ hreplay]
  rfl

theorem exec_marchBorrow_barred (hinside : s.inside) (hmay : s.dev.mayBorrow m.val = false) (saveOk : Bool) :
    exec (.marchBorrow m saveOk) s = .next s := by
  refine next_in hinside (show execMarchBorrow m saveOk s = liveIn s _ from rfl) ?_
  dsimp only
  rw [hmay]
  rfl

/-- A release ends the test of the borrowed region (R344). -/
theorem exec_marchRelease_testing (hinside : s.inside) {b : Borrow} (hborrows : s.dev.mem.borrows = [b]) (hmem : b.mem = m.val)
    (htesting : b.testing = true) : exec (.marchRelease m) s = .next (s.inTick
      ({ s.dev with mem := { s.dev.mem with
        borrows := [{ b with testing := false }],
        released := (m.val, s.dev.tick) :: s.dev.mem.released.filter (·.1 != m.val) } }.inc 32 Obj.MARCH_RELEASES)) := by
  refine next_in hinside (show execMarchRelease m s = liveIn s _ from rfl) ?_
  dsimp only
  rw [hborrows]
  simp [hmem, htesting]

theorem exec_marchRelease_idle (hinside : s.inside) (hborrows : s.dev.mem.borrows = []) : exec (.marchRelease m) s = .next s := by
  refine next_in hinside (show execMarchRelease m s = liveIn s _ from rfl) ?_
  dsimp only
  rw [hborrows]
  rfl

theorem exec_marchRestoreDone_borrowed (hinside : s.inside) {b : Borrow} (hborrows : s.dev.mem.borrows = [b]) (hmem : b.mem = m.val)
    (pass : Bool) : exec (.marchRestoreDone m pass) s = .next (s.inTick (
      let d := s.dev.marchDone m.val b.region
      if pass then d else (d.marchFailed m.val b.region).repair m.val b.region)) := by
  refine next_in hinside (show execMarchRestoreDone m pass s = liveIn s _ from rfl) ?_
  have hfind : s.dev.mem.borrows.find? (·.mem == m.val) = some b := by
    simp [hborrows, hmem]
  dsimp only
  rw [hfind]
  rfl

theorem exec_marchRestoreDone_idle (hinside : s.inside) (hborrows : s.dev.mem.borrows = []) (pass : Bool) :
    exec (.marchRestoreDone m pass) s = .next s := by
  refine next_in hinside (show execMarchRestoreDone m pass s = liveIn s _ from rfl) ?_
  dsimp only
  rw [hborrows]
  rfl

/-- A scrub read in the sweep's order moves the sweep on (R341). -/
theorem exec_scrubRead_sweep (hinside : s.inside) {line : BitVec 17} (hsweep : s.dev.mem.sweep = line.toNat) :
    ∃ regs, exec (.scrubRead line none true) s = .next (s.inTick { s.dev with
      regs := regs
      mem := { s.dev.mem with replay := s.dev.mem.replay.filter (·.line != line.toNat),
                              sweep := if line.toNat + 1 < 131072 then line.toNat + 1 else 0 } }) := by
  by_cases h : line.toNat + 1 < 131072
  · refine ⟨s.dev.regs, next_in hinside (show execScrubRead line none true s = liveIn s _ from rfl) ?_⟩
    simp [hsweep, h]
  · refine ⟨(s.dev.setReg Obj.SCRUB_SWEEP_TICK (s.dev.tick + 1).toNat).regs,
      next_in hinside (show execScrubRead line none true s = liveIn s _ from rfl) ?_⟩
    simp [hsweep, h, Dev.setReg]
end

end Sys2Proof.Machine

namespace Sys2Proof
open Machine

/-- Settles O44: the scrub read and the stages of the march test by what their rows make of the memories, `Dev.marchDone_spec` and
`Dev.repair_ledger`. -/
theorem scrubberAndMarchTest : Obligations.ScrubberAndMarchTest := by
  intro s line m k hinside d others region next b
  have hothers {t : Dev} (h : d.TestsAround t) : others (s.inTick t) := ⟨h.1, h.2.1, h.2.2.1, h.2.2.2, rfl⟩
  have hnext (n : SMap Nat) : sget 0 (sput 0 n m.val (regionAfter m.val region)) m.val = next :=
    (sget_sput ..).trans (if_pos rfl)
  have hdone (h : d.mem.borrows = [b]) : d.mem.borrows.filter (·.mem != m.val) = [] := by
    rw [h]
    simp [b]
  refine ⟨fun hsweep => ?sweep, ?ahead, fun hmay hreplay => ⟨?borrow, ?noSave⟩,
    fun hmay => ⟨s, exec_marchBorrow_barred hinside hmay true, rfl⟩,
    fun hborrows => ⟨?release, ?restored, fun hm hspare => ?failed⟩,
    fun hborrows => ⟨⟨s, exec_marchRelease_idle hinside hborrows, rfl⟩, ⟨s, exec_marchRestoreDone_idle hinside hborrows _, rfl⟩⟩⟩
  case sweep =>
    obtain ⟨regs, h⟩ := exec_scrubRead_sweep hinside hsweep
    exact ⟨_, h, rfl, rfl, hothers ⟨rfl, rfl, rfl, rfl⟩⟩
  case ahead =>
    refine gives_in hinside (show execScrubRead line (some (k, 5000)) false s = liveIn s _ from rfl) ?_
    exact ⟨rfl, (Dev.reg_setReg_eq ..).trans (if_pos rfl), hothers (.of_mem rfl rfl)⟩
  case borrow => exact ⟨_, exec_marchBorrow_may hinside hmay hreplay true, rfl, hothers ⟨rfl, rfl, rfl, rfl⟩⟩
  case noSave =>
    refine ⟨_, exec_marchBorrow_may hinside hmay hreplay false, ?_, ?_, hothers (.trans ⟨rfl, rfl, rfl, rfl⟩ ((d.noteBorrow m.val).marchNext_around m.val region))⟩
    · exact (congrArg Memories.borrows ((d.noteBorrow m.val).marchNext_mem m.val region) :)
    · exact (congrArg (fun x : Memories => sget 0 x.nextRegion m.val) ((d.noteBorrow m.val).marchNext_mem m.val region) :).trans (hnext _)
  case release =>
    refine ⟨_, exec_marchRelease_testing hinside hborrows rfl rfl, rfl, rfl, ?_, hothers ⟨rfl, rfl, rfl, rfl⟩⟩
    simp [Dev.mayBorrow, Dev.inc]
  case restored =>
    obtain ⟨haround, hmem, hflt, -⟩ := d.marchDone_spec m.val region
    refine ⟨_, exec_marchRestoreDone_borrowed hinside hborrows rfl true, ?_, ?_, hflt, hothers haround⟩
    · exact (congrArg Memories.borrows hmem).trans (hdone hborrows)
    · exact (congrArg (fun x : Memories => sget 0 x.nextRegion m.val) hmem).trans (hnext _)
  case failed =>
    subst hm
    obtain ⟨haround, hmem, hflt, htick⟩ := d.marchDone_spec 0 region
    have hspare' : (d.marchDone 0 region).mem.bankSpare = d.mem.bankSpare := (congrArg Memories.bankSpare hmem :)
    have hleft : 0 < (d.marchDone 0 region).mem.bankSpare[bankOf region] := hspare' ▸ hspare
    obtain ⟨rmem, rdue, rchans⟩ := ((d.marchDone 0 region).marchFailed 0 region).repair_ledger region hleft
    have rmem' := rmem.trans (congrArg (fun x : Memories => { x with
      bankSpare := x.bankSpare.set (bankOf region) (x.bankSpare[bankOf region] - 1), mapped := (0, region) :: x.mapped }) hmem)
    refine ⟨_, exec_marchRestoreDone_borrowed hinside hborrows rfl false, ?_, ?_, ?_, ?_, hothers ⟨rchans.trans haround.1, ?_⟩⟩
    · exact (congrArg Memories.borrows rmem' :).trans (hdone hborrows)
    · exact (congrArg (·.bankSpare[bankOf region]) rmem' :).trans (by simp)
    · exact (congrArg Memories.mapped rmem' :)
    · refine rdue.trans ?_
      rw [show ((d.marchDone 0 region).marchFailed 0 region).flt = d.flt from hflt,
        show ((d.marchDone 0 region).marchFailed 0 region).tick = d.tick from htick]
    · exact ⟨(congrArg Memories.ledger rmem' :), (congrArg Memories.scr rmem' :), (congrArg Memories.progs rmem' :)⟩

end Sys2Proof
end

section
namespace Sys2Proof.Machine
open Sys2Proof

/-! R96, R498, R499, R500: what the last resort makes of the channels of its stall. -/

/-- A channel on which the stall die has acted (R500). -/
structure Channel.Resorted (c : Channel) : Prop where
  setpt : c.force.setpt = zeroCode
  disc : c.force.disc = false
  hi : c.force.baseHi = 0x802
  lo : c.force.baseLo = 0x7FE
  engHi : c.force.engHi = false
  engLo : c.force.engLo = false
  sine : c.sine.on = false
  gust : c.gust.running = none

/-- The stall die acts on one channel. -/
def Dev.resort (d : Dev) (n : ChanId) : Dev :=
  ((d.gustStop n d.commitAt).modCh n fun c => (c.sineOff).modForce fun f =>
    { f with setpt := zeroCode, prevSetpt := zeroCode, disc := false, engHi := false, engLo := false, kept := none }).setClamps n 0x802 0x7FE

theorem Dev.lastResort_eq (d : Dev) (k : StallId) : d.lastResort k = (chansOf k).foldl Dev.resort d := rfl

/-- A channel whose spans of injection are cut. -/
def Channel.cut (c : Channel) (x : Tick × Nat) : Channel := c.modGust fun g => { g with spans := g.spans.map (endSpan x) }

section
variable (d : Dev) (n m : ChanId)

theorem Dev.foldl_modCh_other (f : Channel → Channel) (l : List ChanId) (h : m ∉ l) :
    (l.foldl (fun d k => d.modCh k f) d).ch m = d.ch m := by
  refine List.foldlRecOn (motive := fun t : Dev => t.ch m = d.ch m) l _ rfl fun t ht k hk => ?_
  rw [Dev.modCh_other _ k m (fun e => h (e ▸ hk)), ht]

/-- A member of a gang sits in its stall (R104). -/
theorem Dev.stallOf_of_mem_members (h : m ∈ d.members n) : stallOf m = stallOf n := by
  unfold Dev.members at h
  split at h
  · obtain rfl | h := List.mem_cons.1 h
    · rfl
    · exact eq_of_beq ((mem_chansOf _ _).1 (List.mem_filter.1 h).1)
  · rw [List.mem_singleton.1 h]

/-- To stop an injection leaves the channels of the other stalls. -/
theorem Dev.gustStop_otherStall (x : Tick × Nat) (h : stallOf m ≠ stallOf n) : (d.gustStop n x).ch m = d.ch m := by
  have hmem : m ∉ (if d.isFollower n then [n] else d.members n) := fun hm => h (by
    split at hm
    · rw [List.mem_singleton.1 hm]
    · exact d.stallOf_of_mem_members n m hm)
  unfold Dev.gustStop
  dsimp only
  rw [Dev.modCh_other _ n m (fun e => h (e ▸ rfl))]
  exact Dev.foldl_modCh_other d m _ _ hmem

/-- To stop an injection changes spans of the channels of the gang, and the run of the channel. -/
theorem Dev.gustStop_ch (x : Tick × Nat) : ∃ sp, (d.gustStop n x).ch m =
    (d.ch m).modGust fun g => { g with spans := sp, running := if m = n then none else g.running } := by
  have hspans : ∀ l : List ChanId, ∃ sp, (l.foldl (fun d k => d.modCh k (·.cut x)) d).ch m =
      (d.ch m).modGust fun g => { g with spans := sp } := by
    intro l
    refine List.foldlRecOn (motive := fun t : Dev => ∃ sp, t.ch m = (d.ch m).modGust fun g => { g with spans := sp }) l _
      ⟨_, rfl⟩ fun t ht k _ => ?_
    obtain ⟨sp, ht⟩ := ht
    by_cases hk : m = k
    · exact ⟨sp.map (endSpan x), by rw [Dev.ch_modCh, if_pos hk, ← hk, ht]; rfl⟩
    · exact ⟨sp, by rw [Dev.ch_modCh, if_neg hk, ht]⟩
  obtain ⟨sp, hsp⟩ := hspans (if d.isFollower n then [n] else d.members n)
  refine ⟨sp, ?_⟩
  unfold Dev.gustStop
  rw [Dev.ch_modCh]
  by_cases hm : m = n
  · subst hm
    simp only [if_true]
    exact (congrArg (fun c : Channel => c.modGust fun g => { g with running := none }) hsp :)
  · simp only [if_neg hm]
    exact hsp

theorem Dev.resort_otherStall (h : stallOf m ≠ stallOf n) : (d.resort n).ch m = d.ch m := by
  have hm : m ≠ n := fun e => h (e ▸ rfl)
  unfold Dev.resort Dev.setClamps
  rw [Dev.modCh_other _ _ _ hm, Dev.modCh_other _ _ _ hm, d.gustStop_otherStall n m _ h]

theorem Dev.resort_self : ((d.resort n).ch n).Resorted := by
  obtain ⟨sp, hsp⟩ := d.gustStop_ch n n d.commitAt
  unfold Dev.resort Dev.setClamps
  rw [Dev.ch_modCh, if_pos rfl, Dev.ch_modCh, if_pos rfl, hsp]
  exact ⟨rfl, rfl, rfl, rfl, rfl, rfl, rfl, by simp [Channel.modForce, Channel.sineOff, Channel.modGust]⟩

/-- The state of a channel and its range-change window stay. -/
theorem Dev.resort_keeps : ((d.resort n).ch m).force.st = (d.ch m).force.st ∧
    ((d.resort n).ch m).rc.active = (d.ch m).rc.active := by
  obtain ⟨sp, hsp⟩ := d.gustStop_ch n m d.commitAt
  unfold Dev.resort Dev.setClamps
  by_cases hm : m = n
  · subst hm
    rw [Dev.ch_modCh, if_pos rfl, Dev.ch_modCh, if_pos rfl, hsp]
    exact ⟨rfl, rfl⟩
  · rw [Dev.modCh_other _ _ _ hm, Dev.modCh_other _ _ _ hm, hsp]
    exact ⟨rfl, rfl⟩

/-- What the stall die has done to a channel, it leaves when it acts on the next. -/
theorem Dev.resort_resorted (h : (d.ch m).Resorted) : ((d.resort n).ch m).Resorted := by
  by_cases hm : m = n
  · exact hm ▸ d.resort_self m
  · obtain ⟨sp, hsp⟩ := d.gustStop_ch n m d.commitAt
    unfold Dev.resort Dev.setClamps
    rw [Dev.modCh_other _ _ _ hm, Dev.modCh_other _ _ _ hm, hsp]
    obtain ⟨h1, h2, h3, h4, h5, h6, h7, h8⟩ := h
    exact ⟨h1, h2, h3, h4, h5, h6, h7, (if_neg hm).trans h8⟩

theorem Dev.Local.resort : Dev.Local d (d.resort n) :=
  ((Dev.Local.gustStop d n _).trans (.modCh _ n _)).trans (.setClamps _ n _ _)

theorem Dev.Local.lastResort (k : StallId) : Dev.Local d (d.lastResort k) := Dev.Local.foldl (fun d n => .resort d n) _ d

theorem Dev.foldl_resort_resorted (l : List ChanId) (h : m ∈ l) : ((l.foldl Dev.resort d).ch m).Resorted := by
  obtain ⟨a, b, rfl⟩ := List.append_of_mem h
  rw [List.foldl_append, List.foldl_cons]
  exact List.foldlRecOn (motive := fun t : Dev => (t.ch m).Resorted) b _ (Dev.resort_self _ m)
    fun t ht k _ => t.resort_resorted k m ht

/-- The last resort of a stall zeroes every channel of it (R500). -/
theorem Dev.lastResort_resorted : ((d.lastResort (stallOf m)).ch m).Resorted :=
  d.foldl_resort_resorted m _ ((mem_chansOf _ _).2 (beq_self_eq_true _))

theorem Dev.lastResort_keeps (k : StallId) : ((d.lastResort k).ch m).force.st = (d.ch m).force.st ∧
    ((d.lastResort k).ch m).rc.active = (d.ch m).rc.active := by
  rw [d.lastResort_eq]
  refine List.foldlRecOn (motive := fun t : Dev => (t.ch m).force.st = (d.ch m).force.st ∧ (t.ch m).rc.active = (d.ch m).rc.active)
    (chansOf k) Dev.resort ⟨rfl, rfl⟩ fun t ht j _ => ?_
  exact ⟨(t.resort_keeps j m).1.trans ht.1, (t.resort_keeps j m).2.trans ht.2⟩

theorem Dev.lastResort_otherStall (k : StallId) (h : stallOf m ≠ k) : (d.lastResort k).ch m = d.ch m := by
  rw [d.lastResort_eq]
  refine List.foldlRecOn (motive := fun t : Dev => t.ch m = d.ch m) (chansOf k) Dev.resort rfl fun t ht j hj => ?_
  rw [t.resort_otherStall j m (fun e => h (e.trans (eq_of_beq ((mem_chansOf _ _).1 hj)))), ht]
end

section
variable (d : Dev) (k : StallId) (code cause detail : Nat) (present : Tick)

theorem Dev.raiseF5_ch (m : ChanId) : (d.raiseF5 k code cause detail present).ch m = (d.lastResort k).ch m := by
  unfold Dev.ch Dev.raiseF5
  simp only [Dev.modSt_chans]

theorem Dev.raiseF5_flt : (d.raiseF5 k code cause detail present).flt =
    { d.flt with due := d.flt.due ++ [(present, ⟨code, 5, .stall, k.val, detail, d.tick, cause⟩)] } := by
  have hflt := (Dev.Local.lastResort d k).flt
  unfold Dev.raiseF5
  generalize d.lastResort k = t at hflt
  rw [← hflt]
  rfl

theorem Dev.raiseF5_tick : (d.raiseF5 k code cause detail present).tick = d.tick := by
  have htick := (Dev.Local.lastResort d k).tick
  unfold Dev.raiseF5
  generalize d.lastResort k = t at htick
  exact htick

theorem Dev.raiseF5_fltN : (d.raiseF5 k code cause detail present).power.fltN = true := by
  unfold Dev.raiseF5
  generalize d.lastResort k = t
  rfl

/-- A fault that waits for a later commit leaves a calm module calm. -/
theorem Dev.raiseF5_calm (hcalm : d.calm = true) (hlater : reached d.tick present = false) :
    (d.raiseF5 k code cause detail present).calm = true := by
  obtain ⟨hdue, hq, he⟩ := d.calm_iff.1 hcalm
  refine (Dev.calm_iff _).2 ?_
  rw [d.raiseF5_flt, d.raiseF5_tick]
  refine ⟨fun x hx => ?_, hq, he⟩
  obtain hx | hx := List.mem_append.1 hx
  · exact hdue x hx
  · rw [List.mem_singleton.1 hx]; exact hlater
end

/-- A SAFE entry that its confirmation ends, counted (R492). -/
def Dev.confirm (d : Dev) (n : ChanId) : Dev :=
  let t := d.modCh n fun c => c.modForce fun f => { f with confirmed := true }
  { t with flt := { t.flt with awaiting := t.flt.awaiting.filter (·.1 != n.val) } }.inc 32 Obj.SAFE_ENTRIES

theorem Dev.confirm_ch (d : Dev) (n m : ChanId) :
    (d.confirm n).ch m = (d.modCh n fun c => c.modForce fun f => { f with confirmed := true }).ch m := rfl

theorem Dev.confirm_regs (d : Dev) (n : ChanId) : (d.confirm n).regs = (d.inc 32 Obj.SAFE_ENTRIES).regs := rfl

theorem reached_later (t : Tick) (k : Nat) (h0 : 0 < k) (h1 : k < 2 ^ 47) : reached t (t + BitVec.ofNat 48 k) = false := by
  unfold reached
  rw [decide_eq_false_iff_not]
  bv_omega

theorem Dev.presentAt_later (d : Dev) (cyc : Nat) : reached d.tick (d.presentAt cyc) = false := by
  unfold Dev.presentAt
  split
  · exact reached_later d.tick 1 (by decide) (by decide)
  · exact reached_later d.tick 2 (by decide) (by decide)

end Sys2Proof.Machine

namespace Sys2Proof
open Machine

section
variable (s : State) (k : StallId)

/-- What each trigger of the last resort does to its stall (R500). -/
theorem gives_raiseF5 {c : Instr} {f : Dev → Dev} (code detail : Nat) (present : Tick) (hin : s.inside)
    (he : exec c s = liveIn s f) (hf : f s.dev = s.dev.raiseF5 k code 0 detail present) :
    Gives c s fun t =>
      (∀ m : ChanId, stallOf m = k → let g := (t.dev.ch m).force
        g.setpt = zeroCode ∧ g.disc = false ∧ g.baseHi = 0x802 ∧ g.baseLo = 0x7FE ∧ g.engHi = false ∧ g.engLo = false ∧
        g.st = (s.dev.ch m).force.st ∧ (t.dev.ch m).sine.on = false ∧ (t.dev.ch m).gust.running = none ∧
        (t.dev.ch m).rc.active = (s.dev.ch m).rc.active) ∧
      (∀ m : ChanId, stallOf m ≠ k → t.dev.ch m = s.dev.ch m) ∧
      t.dev.flt.due = s.dev.flt.due ++ [(present, ⟨code, 5, .stall, k.val, detail, s.dev.tick, 0⟩)] ∧ t.dev.power.fltN = true ∧
      t.dev.flt.log = s.dev.flt.log ∧ t.shown = s.shown := by
  have hflt := s.dev.raiseF5_flt k code 0 detail present
  have hch := s.dev.raiseF5_ch k code 0 detail present
  refine ⟨_, next_in hin he hf, fun m hm => ?_, fun m hm => (hch m).trans (s.dev.lastResort_otherStall m k hm),
    (congrArg FaultMgr.due hflt :), s.dev.raiseF5_fltN .., (congrArg FaultMgr.log hflt :), s.inTick_shown _⟩
  dsimp only [State.inTick]
  rw [hch m]
  obtain ⟨hsetpt, hdisc, hhi, hlo, hengHi, hengLo, hsine, hgust⟩ := hm ▸ s.dev.lastResort_resorted m
  obtain ⟨hst, hrc⟩ := s.dev.lastResort_keeps m k
  exact ⟨hsetpt, hdisc, hhi, hlo, hengHi, hengLo, hst, hsine, hgust, hrc⟩

variable (n : ChanId) (cause : BitVec 16) (cyc : Cycle)

/-- A failure in a channel's SAFE entry path, past the cycles that the commit itself detects (R490, R498). -/
theorem exec_safePath_acts (hin : s.inside) (hsafe : (s.dev.ch n).force.st = .safe) (hcyc : 10 < cyc.val) :
    exec (.safePath n cause cyc) s = .next (s.inTick
      (s.dev.raiseF5 (stallOf n) 0x0D03 cause.toNat 0 (s.dev.presentAt cyc.val)).settleFaults) := by
  refine next_in hin (show execSafePath n cause cyc s = _ from rfl) ?_
  have hs : (s.dev.ch n).isSafe = true := beq_iff_eq.2 hsafe
  simp only [hs, Bool.true_or, if_true, if_neg (Nat.not_le.2 hcyc)]

theorem exec_safePath_idle (hin : s.inside) (hsafe : (s.dev.ch n).force.st ≠ .safe) (hset : (s.dev.ch n).eng.setNow ≠ 63) :
    exec (.safePath n cause cyc) s = .next s := by
  refine next_in hin (show execSafePath n cause cyc s = _ from rfl) (u := s.dev) ?_
  have hs : (s.dev.ch n).isSafe = false := beq_eq_false_iff_ne.2 hsafe
  have hk : ((s.dev.ch n).eng.setNow == 63) = false := beq_eq_false_iff_ne.2 hset
  simp only [hs, hk, Bool.or_self, Bool.false_eq_true, if_false]

theorem exec_safeConfirm_confirms (hlive : s.live) (hsafe : (s.dev.ch n).force.st = .safe)
    (hconf : (s.dev.ch n).force.confirmed = false) (htick : (s.dev.ch n).force.safeTick + 1 = s.dev.tick) :
    exec (.safeConfirm n) s = .next (s.atCommit (s.dev.confirm n)) := by
  refine next_at hlive (show execSafeConfirm n s = _ from rfl) ?_
  have hs : (s.dev.ch n).isSafe = true := beq_iff_eq.2 hsafe
  simp only [hs, hconf, htick, Bool.not_false, beq_self_eq_true, Bool.and_self, if_true]
  rfl

theorem exec_safeConfirm_idle (hlive : s.live) (h : (s.dev.ch n).force.st ≠ .safe ∨ (s.dev.ch n).force.confirmed = true ∨
    (s.dev.ch n).force.safeTick + 1 ≠ s.dev.tick) : exec (.safeConfirm n) s = .next (s.atCommit s.dev) := by
  refine next_at hlive (show execSafeConfirm n s = _ from rfl) ?_
  dsimp only
  rw [if_neg]
  simp only [Channel.isSafe, Bool.and_eq_true, beq_iff_eq, Bool.not_eq_true', not_and]
  rintro ⟨hs, hc⟩ ht
  obtain h | h | h := h
  · exact h hs
  · rw [h] at hc; cases hc
  · exact h ht
end

/-- Settles O39: every trigger is `Dev.raiseF5` on its stall, whose channels `Dev.lastResort_resorted` describes; a failed SAFE
entry path is settled besides, which in a calm module leaves the fault for its commit. -/
theorem lastResortActsOnItsStall : Obligations.LastResortActsOnItsStall := by
  intro s st n cause tj cyc
  refine ⟨fun hin hrun => ?_, fun hin hdie => ?_, fun hin htj => ?_, fun hin htj => ?_, fun hin hsafe hcalm hcyc => ?_,
    fun hin hsafe hset => ⟨_, exec_safePath_idle s n cause cyc hin hsafe hset, rfl⟩, fun hlive hsafe hconf htick => ?_,
    fun hlive h => ⟨_, exec_safeConfirm_idle s n hlive h, rfl⟩, fun hin => ?_⟩
  · exact gives_raiseF5 s st 0x0D04 0 _ hin (show execLinkSilent st s = _ from rfl) (if_pos hrun)
  · refine ⟨_, next_in hin (show execLinkSilent st s = _ from rfl) (u := s.dev) (if_neg ?_), rfl⟩
    simp [Dev.silentRun, Nat.not_le.2 hdie]
  · exact gives_raiseF5 s st 0x0D05 tj.toNat _ hin (show execStallTjLimit st tj s = _ from rfl) (if_neg (Int.not_lt.2 htj))
  · exact ⟨_, next_in hin (show execStallTjLimit st tj s = _ from rfl) (u := s.dev) (if_pos htj), rfl⟩
  · have hlater := s.dev.raiseF5_calm (stallOf n) 0x0D03 cause.toNat 0 _ hcalm (s.dev.presentAt_later cyc.val)
    refine ⟨_, exec_safePath_acts s n cause cyc hin hsafe hcyc, fun m hm => ?_, fun m hm => ?_, ?_, s.inTick_shown _⟩
    · obtain ⟨hsetpt, hdisc, hhi, hlo, -⟩ := hm ▸ s.dev.lastResort_resorted m
      rw [State.inTick, Dev.settleFaults_ch _ hlater, Dev.raiseF5_ch]
      exact ⟨hsetpt, hdisc, hhi, hlo⟩
    · rw [State.inTick, Dev.settleFaults_ch _ hlater, Dev.raiseF5_ch, s.dev.lastResort_otherStall m (stallOf n) hm]
    · have hdue : ∀ t : Dev, t.calm = true → (s.inTick t.settleFaults).dev.flt = t.flt := fun t ht => t.settleFaults_flt ht
      exact (congrArg FaultMgr.due ((hdue _ hlater).trans (s.dev.raiseF5_flt ..)) :)
  · refine ⟨_, exec_safeConfirm_confirms s n hlive hsafe hconf htick, ?_, fun m hm => ?_, s.dev.confirm_regs n, rfl⟩
    · exact (s.dev.confirm_ch n n).trans ((Dev.ch_modCh ..).trans (if_pos rfl))
    · exact (s.dev.confirm_ch n m).trans (Dev.modCh_other s.dev n m hm _)
  · exact ⟨_, next_in hin (show execMgmtWdt cyc s = _ from rfl) rfl, rfl⟩

end Sys2Proof
end

section
namespace Sys2Proof.Machine
open Sys2Proof

/-! R311, R490, R495, R505: what an event of the fabric, and a fault of class F0 or F1 that is counted, queued and logged, leave
of the module. -/

/-- A stall without what an event of the fabric can change in it: its counters and its injected trigger. -/
def Stall.still (x : Stall) : Stall := { x with regs := [], auxInj := none, auxPulses := [] }

/-- The parts that a logged fault and its event leave: of the channels and stalls the still part, injected sequences that run, of the registers those of
calibration and of the boot (0x2240 to 0x24FF) and of all that follows the fault objects (from 0x2600), and all else but the fabric, the fault manager, the trace, the interrupt and FLT_N. -/
structure Dev.Mild (d t : Dev) : Prop where
  rest : t = { d with chans := t.chans, stalls := t.stalls, regs := t.regs, fab := t.fab, flt := t.flt,
                      sec := { d.sec with trace := t.sec.trace },
                      pcie := { d.pcie with irq := t.pcie.irq, irqSent := t.pcie.irqSent },
                      power := { d.power with fltN := t.power.fltN } }
  cores : t.cores = d.cores
  inj : ∀ n mi, ((t.ch n).conv mi).injSlot = ((d.ch n).conv mi).injSlot
  stalls : ∀ k, (t.st k).still = (d.st k).still
  regs : ∀ k, 0x224000 ≤ k → k < 0x250000 ∨ 0x260000 ≤ k → t.reg k = d.reg k

namespace Dev.Mild

theorem refl (d : Dev) : Dev.Mild d d := ⟨rfl, rfl, fun _ _ => rfl, fun _ => rfl, fun _ _ _ => rfl⟩

theorem trans {d t u : Dev} (h : Dev.Mild d t) (h' : Dev.Mild t u) : Dev.Mild d u where
  rest := by rw [h'.rest]; rw [h.rest]
  cores := h'.cores.trans h.cores
  inj n mi := (h'.inj n mi).trans (h.inj n mi)
  stalls k := (h'.stalls k).trans (h.stalls k)
  regs k hlo hhi := (h'.regs k hlo hhi).trans (h.regs k hlo hhi)

section
variable {d t : Dev} (h : Dev.Mild d t)
include h
theorem mem : t.mem = d.mem := (congrArg Dev.mem h.rest :)
theorem cal : t.cal = d.cal := (congrArg Dev.cal h.rest :)
theorem dict : t.dict = d.dict := (congrArg Dev.dict h.rest :)
theorem tick : t.tick = d.tick := (congrArg Dev.tick h.rest :)
theorem force (n : ChanId) : (t.ch n).force = (d.ch n).force := (Dev.ch_of_cores h.cores n).1
theorem chCal (n : ChanId) : (t.ch n).cal = (d.ch n).cal := (congrArg Channel.cal (Dev.still_of_cores h.cores n) :)
theorem bgState (k : StallId) : (t.st k).bgState = (d.st k).bgState := (congrArg Stall.bgState (h.stalls k) :)
end

theorem ite {p : Prop} [Decidable p] {d t u : Dev} (ht : Dev.Mild d t) (hu : Dev.Mild d u) : Dev.Mild d (if p then t else u) := by
  split
  · exact ht
  · exact hu

theorem foldl {α : Type} {f : Dev → α → Dev} (l : List α) (d : Dev) (h : ∀ d x, x ∈ l → Dev.Mild d (f d x)) :
    Dev.Mild d (l.foldl f d) := List.foldlRecOn l f (.refl d) fun _ hd x hx => hd.trans (h _ x hx)

section
variable (d : Dev) (n : ChanId) (mi : Bool) (x : Tick × Nat) (ev : Ev)

theorem modCh (f : Channel → Channel) (hf : ∀ c, (f c).still = c.still := by intro c; rfl)
    (hi : ∀ c mi, ((f c).conv mi).injSlot = (c.conv mi).injSlot := by intro c mi; cases mi <;> rfl) : Dev.Mild d (d.modCh n f) where
  rest := rfl
  cores := d.modCh_cores n f hf
  inj m mi := by
    rw [Dev.ch_modCh]
    split
    · next h => rw [hi, h]
    · rfl
  stalls _ := rfl
  regs _ _ _ := rfl

theorem modConv (f : Conv → Conv) (hf : ∀ v, (f v).injSlot = v.injSlot := by intro v; rfl) :
    Dev.Mild d (d.modCh n fun c => c.modConv mi f) :=
  modCh d n _ (fun c => by cases mi <;> rfl) fun c mj =>
    match mi, mj with
    | false, false => hf c.mv
    | true, true => hf c.mi
    | false, true | true, false => rfl

theorem cinc (w k : Nat) : Dev.Mild d (d.cinc n w k) := modCh d n _

theorem modSt (s : StallId) (f : Stall → Stall) (hf : ∀ x, (f x).still = x.still := by intro x; rfl) : Dev.Mild d (d.modSt s f) where
  rest := rfl
  cores := rfl
  inj _ _ := rfl
  stalls k := by
    rw [Dev.st_modSt]
    split
    · next h => rw [hf, h]
    · rfl
  regs _ _ _ := rfl

theorem sinc (s : StallId) (w k : Nat) : Dev.Mild d (d.sinc s w k) := modSt d s _

theorem setReg (k v : Nat) (hk : k < 0x224000 ∨ 0x250000 ≤ k ∧ k < 0x260000) : Dev.Mild d (d.setReg k v) where
  rest := rfl
  cores := rfl
  inj _ _ := rfl
  stalls _ := rfl
  regs j hlo hhi := by rw [Dev.reg_setReg_eq, if_neg (by omega)]

theorem inc (w k : Nat) (hk : k < 0x224000 ∨ 0x250000 ≤ k ∧ k < 0x260000) : Dev.Mild d (d.inc w k) := setReg d k _ hk

theorem withFab (f : Fabric) : Dev.Mild d { d with fab := f } := ⟨rfl, rfl, fun _ _ => rfl, fun _ => rfl, fun _ _ _ => rfl⟩
theorem withFlt (f : FaultMgr) : Dev.Mild d { d with flt := f } := ⟨rfl, rfl, fun _ _ => rfl, fun _ => rfl, fun _ _ _ => rfl⟩
theorem withFltN (b : Bool) : Dev.Mild d { d with power := { d.power with fltN := b } } := ⟨rfl, rfl, fun _ _ => rfl, fun _ => rfl, fun _ _ _ => rfl⟩
theorem trace (m : Option ChanId) (what : TraceKind) : Dev.Mild d (d.trace m what) := ⟨rfl, rfl, fun _ _ => rfl, fun _ => rfl, fun _ _ _ => rfl⟩
theorem raiseIrq (v : Nat) : Dev.Mild d (d.raiseIrq v) := ⟨rfl, rfl, fun _ _ => rfl, fun _ => rfl, fun _ _ _ => rfl⟩
theorem arrive (key : Nat) : Dev.Mild d (d.arrive key x) := withFab d _

/-! ## Converters -/

theorem overrun (c : Nat) : Dev.Mild d (d.overrun n c) :=
  have h := (modCh d n fun ch => { ch with ovr := putBit ch.ovr c true }).trans (cinc _ n 32 (Obj.OVR_CNT c))
  ite (h.trans (cinc _ n 32 _)) (ite (h.trans (cinc _ n 32 _)) h)

theorem startRegular : Dev.Mild d (d.startRegular n mi x) := ite (modConv d n mi _) (modConv d n mi _)

theorem regularFire : Dev.Mild d (d.regularFire n mi x) := by
  have hmembers : ∀ (blocked : Dev → ChanId → Bool) y (l : List ChanId), Dev.Mild d (l.foldl (fun d m =>
      if ((d.ch m).conv mi).injSlot.isSome then d.cinc m 32 (mvmi mi Obj.MV_SKIP_INJ Obj.MI_SKIP_INJ)
      else if blocked d m then d else d.startRegular m mi y) d) := fun _ y l =>
    foldl l d fun d m _ => ite (cinc d m 32 _) (ite (refl d) (startRegular d m mi y))
  exact ite (refl d) (ite ((hmembers _ _ _).trans (overrun _ n _)) (hmembers _ _ _))

theorem injectedFire : Dev.Mild d (d.injectedFire n mi x) :=
  ite (refl d) (ite (overrun d n _) (foldl _ d fun d m _ => modConv d m mi _))

theorem pulseEnds (p : Pulse) : Dev.Mild d (d.pulseEnds n mi p) :=
  ite (cinc d n 32 _) (ite (injectedFire d n mi _) (regularFire d n mi _))

theorem pulsesTo : Dev.Mild d (d.pulsesTo n mi x) :=
  ite (refl d) ((modConv d n mi _).trans (foldl _ _ fun d p _ => pulseEnds d n mi p))

theorem triggered (inj : Bool) (qual width : Nat) : Dev.Mild d (d.triggered n mi inj qual width ev) := by
  unfold Dev.triggered
  refine (pulsesTo d n mi (addCyc ev.at' 1)).trans ?_
  cases qualify qual width ev with
  | nothing => exact refl _
  | fire => exact ite (injectedFire _ n mi _) (regularFire _ n mi _)
  | measure => exact ite (overrun _ n _) (modConv _ n mi _)

theorem regularTrigger : Dev.Mild d (d.regularTrigger n mi ev) := ite (refl d) (triggered d n mi ev false _ _)

theorem injectedTrigger : Dev.Mild d (d.injectedTrigger n mi ev) := ite (refl d) (triggered d n mi ev true _ _)

/-! ## The other consumers -/

theorem gustEdge : Dev.Mild d (d.gustEdge n x) := by
  unfold Dev.gustEdge
  dsimp only
  cases (d.ch n).gust.armed with
  | none => exact refl d
  | some p => exact ite (refl d) (ite (overrun d n 9) (modCh d n _))

theorem collect (c : Nat) (busy : Bool) : Dev.Mild d (d.collect n c busy ev) :=
  ite ((modCh d n _).trans (cinc _ n 32 _)) (ite (overrun d n c) (modCh d n _))

theorem sineReset : Dev.Mild d (d.sineReset n x) :=
  ite (refl d) (ite (overrun d n 10) (ite (((modCh d n _).trans (modCh _ n _)).trans (cinc _ n 32 _)) (modCh d n _)))

theorem consume (c : Nat) : Dev.Mild d (d.consume n c ev) := by
  unfold Dev.consume
  generalize (if c ≤ 11 then d.leaderOf n else n) = m
  have hhold : Dev.Mild d (d.holdEdge m ev) := ite (collect d m ev 11 _) ((collect d m ev 11 _).trans (modCh _ m _))
  have hmerge := cinc d m 32 (Obj.MERGE_CNT c)
  refine ite (collect d m ev c _) (ite (collect d m ev c _) (ite hhold (ite (collect d m ev c _)
    (ite (ite (hmerge.trans (modConv _ m _ _)) hmerge) ((arrive d ev.at' (64 * m.val + c)).trans ?_)))))
  split
  · exact regularTrigger _ m false ev
  · exact regularTrigger _ m true ev
  · exact injectedTrigger _ m false ev
  · exact injectedTrigger _ m true ev
  · exact gustEdge _ m ev.at'
  · exact sineReset _ m ev.at'
end

/-! ## Output pins, stall triggers and tethers -/

section
variable (d : Dev) (s : StallId) (ev : Ev)

theorem drive (ovr : Nat) (p : OutPulse) (h : ovr < 0x224000) : Dev.Mild d (d.drive ovr p ev) :=
  ite (inc d 32 _ (.inl h)) (withFab d _)

theorem evioOut (k : Nat) (hk : k < 16) : Dev.Mild d (d.evioOut k ev) :=
  ite (refl d) (ite ((inc d 32 _ (.inl (by unfold Obj.EVIO_MERGE; omega))).trans (withFab _ _))
    ((arrive d _ _).trans (drive _ ev _ _ (by unfold Obj.EVIO_OVR; omega))))

theorem mkoOut : Dev.Mild d (d.mkoOut s ev) :=
  ite (refl d) (ite (inc d 32 _ (.inl (by unfold Obj.MKO_MERGE; omega)))
    ((arrive d _ _).trans (drive _ ev _ _ (by unfold Obj.MKO_OVR; omega))))

theorem auxFire (x : Tick × Nat) : Dev.Mild d (d.auxFire s x) := ite (sinc d s _ _) (modSt d s _)

theorem auxPulsesTo (x : Tick × Nat) : Dev.Mild d (d.auxPulsesTo s x) :=
  ite (refl d) ((modSt d s _).trans (foldl _ _ fun d (p : Pulse) _ => ite (auxFire d s p.edge) (refl d)))

theorem auxTrigger : Dev.Mild d (d.auxTrigger s ev) := by
  have hfirst := (arrive d ev.at' (4120 + s.val)).trans (auxPulsesTo _ s (addCyc ev.at' 1))
  unfold Dev.auxTrigger
  refine ite (refl d) (ite ((inc d 32 _ (.inl (by unfold Obj.AUX_INJ_MERGE; omega))).trans (modSt _ s _)) (hfirst.trans ?_))
  dsimp only
  generalize (d.arrive (4120 + s.val) ev.at').auxPulsesTo s (addCyc ev.at' 1) = t
  cases qualify (t.sreg s Obj.AUX_INJ_QUAL) (t.sreg s Obj.AUX_INJ_WIDTH) ev with
  | nothing => exact refl _
  | fire => exact auxFire _ s _
  | measure => exact ite (modSt _ s _) (sinc _ s _ _)

theorem deliver (t : Nat) : Dev.Mild d (d.deliver t ev) := by
  refine (foldl (List.finRange 64) d fun d n _ => foldl _ d fun d c _ => consume d n ev c).trans
    (foldl _ _ fun d e _ => ite (refl d) ?_)
  split
  · next h =>
    simp only [Bool.and_eq_true, decide_eq_true_eq] at h
    exact evioOut d ev _ (by omega)
  split
  · exact auxTrigger d _ ev
  split
  · exact mkoOut d _ ev
  · exact refl d

theorem carry (t : Nat) (ht : t < 128) (inherited : List Nat) : Dev.Mild d (d.carry t inherited ev) :=
  have hrep := ite (p := d.selectsAny t inherited = true)
    ((inc d 32 (Obj.TETH_LOOPS t) (.inl (by unfold Obj.TETH_LOOPS; omega))).trans
      (withFab (d.inc 32 (Obj.TETH_LOOPS t)) { d.fab with loops := t :: d.fab.loops })) (refl d)
  ite hrep (hrep.trans ((inc _ 32 _ (.inl (by unfold Obj.TETH_FIRES; omega))).trans (deliver _ ev t)))

theorem lt_of_mem_tethersOf {code t : Nat} (h : t ∈ d.tethersOf code) : t < 128 := by
  simp only [Dev.tethersOf, List.mem_eraseDups, List.mem_filterMap] at h
  obtain ⟨e, -, he⟩ := h
  split at he
  · unfold slotTether at he
    simp only [Option.ite_none_right_eq_some, Option.some.injEq, Bool.and_eq_true, decide_eq_true_eq] at he
    omega
  · cases he

theorem fire (code : Nat) (inherited : List Nat) (high : Bool) (width cyc : Nat) :
    Dev.Mild d (d.fire code inherited high width cyc) :=
  ite (inc d 32 _ (.inl (by decide))) ((withFab d _).trans ((ite (inc _ 32 _ (.inl (by decide))) (refl _)).trans
    (foldl _ _ fun d t ht => carry d _ t (lt_of_mem_tethersOf _ ht) _)))

/-- An event of the fabric at a commit. -/
theorem fireCommit (code : Nat) (inherited : List Nat) : Dev.Mild d (d.fireCommit code inherited) :=
  (trace d _ _).trans (fire _ code inherited true 2 8)

theorem mkoLands : Dev.Mild d d.mkoLands := withFab d _

/-! ## The fault manager -/

theorem incBy (w k n : Nat) (hk : k < 0x224000 ∨ 0x250000 ≤ k ∧ k < 0x260000) : Dev.Mild d (d.incBy w k n) := ite (refl d) (setReg d k _ hk)

/-- One more entry of the log (R505). -/
theorem logFault (f : FaultRec) (act : Act) (nested switched : Bool) : Dev.Mild d (d.logFault f act nested switched) := by
  unfold Dev.logFault
  dsimp only
  have hfired : ∀ (t : Dev) (p q : Prop) [Decidable p] [Decidable q],
      Dev.Mild t (if p then (if q then t else t.fireCommit 0x430).raiseIrq 5 else t) := fun t p q _ _ =>
    ite ((ite (refl t) (fireCommit t 0x430 [])).trans (raiseIrq _ 5)) (refl t)
  refine .trans (.trans (ite ?_ ?_) (trace _ _ _)) (hfired _ _ _)
  · exact (withFlt d _).trans (inc _ 32 Obj.FLOG_LOST (.inr (by decide)))
  · exact withFlt d _
end

end Dev.Mild

/-- What waits for the fault manager is of class F0 or F1, and nothing escalates. -/
structure Dev.Minor (d : Dev) : Prop where
  due : ∀ x ∈ d.flt.due, reached d.tick x.1 = true → x.2.cls ≤ 1
  queue : ∀ f ∈ d.flt.queue, f.cls ≤ 1
  escal : d.flt.escal = none

namespace Dev.Minor

theorem of_calm {d : Dev} (h : d.calm = true) : d.Minor := by
  obtain ⟨hdue, hq, he⟩ := d.calm_iff.1 h
  exact ⟨fun x hx hr => absurd hr (by simp [hdue x hx]), by simp [hq], he⟩

theorem same {d t : Dev} (h : d.Minor) (hw : Dev.SameWaiting d t) : t.Minor := by
  obtain ⟨hdue, hqueue, hescal, htick⟩ := hw
  exact ⟨hdue ▸ htick ▸ h.due, hqueue ▸ h.queue, hescal.trans h.escal⟩

theorem raiseAt {d : Dev} (h : d.Minor) (p : Tick) (code cls : Nat) (sc : Scope) (u det : Nat) (hc : cls ≤ 1) :
    (d.raiseAt p code cls sc u det).Minor := by
  refine ⟨fun x hx hr => ?_, h.queue, h.escal⟩
  obtain hx | hx := List.mem_append.1 hx
  · exact h.due x hx hr
  · rw [List.mem_singleton.1 hx]; exact hc

/-- A fault of class F0 or F1 finds a place in the queue (R496). -/
theorem enqueue {d : Dev} (h : d.Minor) (f : FaultRec) (hf : f.cls ≤ 1) : Dev.Mild d (d.enqueue f) ∧ (d.enqueue f).Minor := by
  have hdrop : ∀ (low : Nat) (l : List FaultRec), ∀ x ∈ dropFirst low l, x ∈ l := by
    intro low l
    induction l with
    | nil => simp [dropFirst]
    | cons y l ih =>
      intro x hx
      unfold dropFirst at hx
      split at hx
      · exact List.mem_cons_of_mem y hx
      · obtain rfl | hx := List.mem_cons.1 hx
        · exact List.mem_cons_self ..
        · exact List.mem_cons_of_mem y (ih x hx)
  unfold Dev.enqueue
  dsimp only
  split
  · refine ⟨.withFlt d _, h.due, fun x hx => ?_, h.escal⟩
    obtain hx | hx := List.mem_append.1 hx
    · exact h.queue x hx
    · rw [List.mem_singleton.1 hx]; exact hf
  · next hlen =>
    have hany : (d.flt.queue.any fun x => decide (x.cls ≤ 1)) = true := by
      obtain ⟨y, hy⟩ := List.exists_mem_of_length_pos (l := d.flt.queue) (by omega)
      exact List.any_eq_true.2 ⟨y, hy, decide_eq_true (h.queue y hy)⟩
    rw [if_pos hany]
    refine ⟨(Dev.Mild.withFlt d _).trans (.inc _ 32 _ (.inr (by decide))), h.due, fun x hx => ?_, h.escal⟩
    obtain hx | hx := List.mem_append.1 hx
    · exact h.queue x (hdrop _ _ x hx)
    · rw [List.mem_singleton.1 hx]; exact hf

/-- What a list of such faults makes of the module, one after the other. -/
theorem foldl {f : Dev → FaultRec → Dev} (hf : ∀ d x, Dev.Minor d → x.cls ≤ 1 → Dev.Mild d (f d x) ∧ (f d x).Minor) (l : List FaultRec)
    {d : Dev} (h : d.Minor) (hl : ∀ x ∈ l, x.cls ≤ 1) : Dev.Mild d (l.foldl f d) ∧ (l.foldl f d).Minor :=
  List.foldlRecOn (motive := fun t => Dev.Mild d t ∧ t.Minor) l f ⟨.refl d, h⟩ fun t ht x hx =>
    have hx := hf t x ht.2 (hl x hx)
    ⟨ht.1.trans hx.1, hx.2⟩

/-- Such a fault is handled by its entry in the log (R505). -/
theorem handleOne {d : Dev} (h : d.Minor) (f : FaultRec) (hf : f.cls ≤ 1) : Dev.Mild d (d.handleOne f) ∧ (d.handleOne f).Minor := by
  rw [Dev.handleOne, if_pos hf]
  exact ⟨.logFault d f _ _ _, h.same (.logFault d f _ _ _)⟩

/-- A class at the present commit, where faults of classes F0 and F1 alone wait. -/
theorem presentClass {d : Dev} (h : d.Minor) (c : Nat) (hc : c < 6) (fs : List FaultRec) (hfs : ∀ f ∈ fs, f.cls ≤ 1 ∧ f.cls = c) :
    Dev.Mild d (d.presentClass c fs) ∧ (d.presentClass c fs).Minor := by
  have hcount : Dev.Mild d (d.incBy 32 (Obj.FAULT_CNT_F0 c) fs.length) := .incBy d 32 _ _ (.inr (by unfold Obj.FAULT_CNT_F0; omega))
  have hcounted : (d.incBy 32 (Obj.FAULT_CNT_F0 c) fs.length).Minor := h.same (.of_flt (d.incBy_flt ..) hcount.tick)
  have hstart : Dev.Mild d (if fs.isEmpty then d else d.incBy 32 (Obj.FAULT_CNT_F0 c) fs.length) ∧
      (if fs.isEmpty then d else d.incBy 32 (Obj.FAULT_CNT_F0 c) fs.length).Minor := by
    split
    · exact ⟨.refl d, h⟩
    · exact ⟨hcount, hcounted⟩
  unfold Dev.presentClass
  dsimp only
  generalize (if fs.isEmpty then d else d.incBy 32 (Obj.FAULT_CNT_F0 c) fs.length) = u at hstart
  obtain ⟨hmild, hu⟩ := hstart
  split
  · have hq := foldl (f := Dev.enqueue) (fun d x hd hx => hd.enqueue x hx) fs hu fun f hf => (hfs f hf).1
    exact ⟨hmild.trans hq.1, hq.2⟩
  · have hescal : u.escalFor c = [] := by
      unfold Dev.escalFor
      rw [hu.escal]
      split <;> rfl
    have hall : ∀ f ∈ u.escalFor c ++ u.queuedFor c ++ fs, f.cls ≤ 1 ∧ f.cls = c := by
      intro f hf
      rw [hescal, List.nil_append, List.mem_append] at hf
      obtain hf | hf := hf
      · unfold Dev.queuedFor at hf
        split at hf
        · cases hf
        · obtain ⟨hmem, hcls⟩ := List.mem_filter.1 hf
          exact ⟨hu.queue f hmem, eq_of_beq hcls⟩
      · exact hfs f hf
    split
    · exact ⟨hmild, hu⟩
    · next hne =>
      obtain ⟨y, hy⟩ := List.exists_mem_of_ne_nil _ (fun e => hne (List.isEmpty_iff.2 e))
      obtain ⟨hle, rfl⟩ := hall y hy
      unfold Dev.handle
      rw [if_neg (by omega)]
      refine ((foldl (fun d x hd hx => hd.handleOne x hx) _ ?_ fun f hf => (hall f hf).1).imp
        (fun ht => hmild.trans (.trans ?_ ht)) id)
      · refine ⟨hu.due, fun f hf => ?_, ?_⟩
        · dsimp only at hf
          split at hf
          · exact hu.queue f hf
          · exact hu.queue f (List.mem_filter.1 hf).1
        · dsimp only
          split
          · rfl
          · exact hu.escal
      · exact (Dev.Mild.withFlt u _).trans (.withFlt _ _)

/-- The presentation of such faults (R490). -/
theorem presentDue {d : Dev} (h : d.Minor) : Dev.Mild d d.presentDue ∧ d.presentDue.Minor := by
  unfold Dev.presentDue
  dsimp only
  have hnow : ∀ c, ∀ f ∈ ((d.flt.due.filter fun x => reached d.tick x.1).map (·.2)).filter (·.cls == c), f.cls ≤ 1 ∧ f.cls = c := by
    intro c f hf
    obtain ⟨hmem, hcls⟩ := List.mem_filter.1 hf
    obtain ⟨x, hx, rfl⟩ := List.mem_map.1 hmem
    obtain ⟨hx, hr⟩ := List.mem_filter.1 hx
    exact ⟨h.due x hx hr, eq_of_beq hcls⟩
  generalize (d.flt.due.filter fun x => reached d.tick x.1).map (·.2) = now at hnow
  have h0 : ({ d with flt := { d.flt with due := d.flt.due.filter fun x => !reached d.tick x.1 } } : Dev).Minor :=
    ⟨fun x hx => h.due x (List.mem_filter.1 hx).1, h.queue, h.escal⟩
  refine List.foldlRecOn (motive := fun t => Dev.Mild d t ∧ t.Minor) [5, 4, 3, 2, 1, 0] _ ⟨.withFlt d _, h0⟩ fun t ht c hc => ?_
  have hc6 : c < 6 := by
    simp only [List.mem_cons, List.not_mem_nil, or_false] at hc
    omega
  have hp := ht.2.presentClass c hc6 _ (hnow c)
  exact ⟨ht.1.trans hp.1, hp.2⟩

/-- Faults of classes F0 and F1 are counted, queued and logged as they settle, and leave all else (R490, R496). -/
theorem settles {d : Dev} (h : d.Minor) : Dev.Mild d d.settleFaults := by
  obtain ⟨hfirst, hminor⟩ := h.presentDue
  obtain ⟨hsecond, -⟩ := hminor.presentDue
  have hp : Dev.Mild d d.present := hfirst.trans hsecond
  unfold Dev.settleFaults
  generalize d.present = t at hp
  exact (hp.trans (.withFltN t _)).trans (.mkoLands _)

end Dev.Minor
end Sys2Proof.Machine
end

section
namespace Sys2Proof.Machine
open Sys2Proof

/-! R487, R495, R496: one queued fault of class F0 or F1 that the free manager handles. -/

section
variable (d : Dev) (q : FaultRec)

/-- The entry that a fault without effect on a channel leaves in the log, with every entry since the last that fitted. -/
def Dev.minorEntry : LogEntry :=
  ⟨d.tick, q.code, q.cls, false, q.cause != 0, false, q.scope, q.unit, Act.logged.code, q.detail, q.detect, min 65535 d.flt.drops,
    d.flt.seq, q.cause⟩

/-- The manager as the first entry of an empty log leaves it. -/
theorem Dev.logFault_flt (hcls : q.cls ≤ 1) (hlog : d.flt.log = []) : (d.logFault q .logged false false).flt =
    { d.flt with log := [d.minorEntry q], seq := d.flt.seq + 1, drops := 0 } := by
  unfold Dev.logFault
  have hevent : ∀ (t : Dev) (p r : Prop) [Decidable p] [Decidable r],
      (if p then (if r then t else t.fireCommit 0x430).raiseIrq 5 else t).flt = t.flt := by
    intro t p r _ _
    have hfire : (t.fireCommit 0x430).flt = t.flt := (Dev.Steady.fireCommit t 0x430 []).flt
    split
    · split
      · rfl
      · exact hfire
    · rfl
  dsimp only
  rw [hevent]
  simp [hlog, Dev.trace, Dev.minorEntry, Nat.not_le.2 (Nat.lt_succ_of_le hcls)]

/-- The module whose manager has taken up the one fault that waits. -/
def Dev.takenUp (c : Nat) : Dev := { d with flt := { d.flt with queue := [], active := [(c, lastOf c d.tick)] } }

theorem Dev.presentClass_takes (c : Nat) (hq : d.flt.queue = [q]) (hc : q.cls = c) (hc1 : c ≤ 1) (hescal : d.flt.escal = none)
    (hactive : d.flt.active = []) :
    d.presentClass c [] = (d.takenUp c).logFault q .logged false false := by
  have hfree : d.managerFree c = true := by simp [Dev.managerFree, hactive]
  have h4 : c ≠ 4 := by omega
  have h5 : c ≠ 5 := by omega
  have hqf : d.queuedFor c = [q] := by simp [Dev.queuedFor, hq, hc]
  simp [Dev.presentClass, hfree, hqf, Dev.escalFor, h4, h5, Dev.handle, hactive, hq, hc, Dev.handleOne, hc1, Dev.takenUp, hescal]

theorem Dev.presentClass_waits (c : Nat) (hq : d.flt.queue = [q]) (hc : q.cls ≠ c) (hescal : d.flt.escal = none) :
    d.presentClass c [] = d := by
  have hqf : d.queuedFor c = [] := by simp [Dev.queuedFor, hq, hc]
  simp [Dev.presentClass, hqf, Dev.escalFor, hescal]

/-- The one queued fault is logged, and nothing else waits. -/
theorem Dev.beginQueued_logs (hq : d.flt.queue = [q]) (hcls : q.cls ≤ 1) (hescal : d.flt.escal = none) (hactive : d.flt.active = []) :
    d.beginQueued = (d.takenUp q.cls).logFault q .logged false false := by
  have hwaits := fun c hc => d.presentClass_waits q c hq hc hescal
  have htakes := d.presentClass_takes q q.cls hq rfl hcls hescal hactive
  have hnone : ∀ c, (((d.takenUp q.cls).logFault q .logged false false).presentClass c []) =
      (d.takenUp q.cls).logFault q .logged false false := fun c => by
    obtain ⟨-, hqueue, he, -⟩ := Dev.SameWaiting.logFault (d.takenUp q.cls) q .logged false false
    exact Dev.presentClass_nil _ c hqueue (he.trans hescal)
  unfold Dev.beginQueued
  simp only [List.foldl_cons, List.foldl_nil]
  rw [hwaits 5 (by omega), hwaits 4 (by omega), hwaits 3 (by omega), hwaits 2 (by omega)]
  obtain h | h : q.cls = 1 ∨ q.cls = 0 := by omega
  · rw [h] at htakes hnone ⊢
    rw [htakes, hnone]
  · rw [hwaits 1 (by omega)]
    rw [h] at htakes ⊢
    exact htakes
end

/-! ## The clearing of latches (R501) -/

theorem Dev.refuse_faults (d : Dev) (o a : Nat) :
    (d.refuse o a).flt = { d.flt with viol := (d.refuse o a).flt.viol, violSeq := (d.refuse o a).flt.violSeq } := by
  unfold Dev.refuse Dev.violate
  simp only [Dev.raiseIrq, Dev.inc, Dev.setReg, apply_ite Dev.flt, ite_self]

theorem Dev.ch_of_chans {d t : Dev} (h : t.chans = d.chans) (n : ChanId) : t.ch n = d.ch n := by
  unfold Dev.ch
  rw [h]

theorem Dev.settleFaults_st (d : Dev) (h : d.calm = true) (k : StallId) : d.settleFaults.st k = d.st k := by
  unfold Dev.st
  rw [d.settleFaults_stalls h]

/-- A change of every stall changes each once. -/
theorem Dev.eachSt_st (d : Dev) (f : StallId → Stall → Stall) (k : StallId) :
    (d.eachSt fun d s => d.modSt s (f s)).st k = f k (d.st k) := by
  obtain ⟨l, r, hlr⟩ := List.append_of_mem (List.mem_finRange k)
  obtain ⟨hl, hr⟩ := notMem_of_finRange_eq hlr
  have hrest : ∀ (l : List StallId) (t : Dev), k ∉ l → (l.foldl (fun d s => d.modSt s (f s)) t).st k = t.st k := by
    intro l t hk
    refine List.foldlRecOn (motive := fun u : Dev => u.st k = t.st k) l _ rfl fun u hu s hs => ?_
    rw [Dev.st_modSt, if_neg (fun e : k = s => hk (e ▸ hs)), hu]
  unfold Dev.eachSt
  rw [hlr, List.foldl_append, List.foldl_cons, hrest r _ hr, Dev.st_modSt, if_pos rfl, hrest l _ hl]

theorem Dev.Local.eachSt (d : Dev) (f : StallId → Stall → Stall) : Dev.Local d (d.eachSt fun d s => d.modSt s (f s)) :=
  Dev.Local.foldl (fun d k => .modSt d k _) _ d

theorem Dev.eachSt_chans (d : Dev) (f : StallId → Stall → Stall) : (d.eachSt fun d s => d.modSt s (f s)).chans = d.chans :=
  foldl_kept Dev.chans _ (fun d s => d.modSt_chans s (f s)) _ d

/-- The F3 and F5 latches that a mask of FAULT_CLEAR leaves of a stall. -/
def Stall.cleared (m : BitVec 32) (k : StallId) (x : Stall) : Stall :=
  { x with f3 := if bit m k.val || bit m (8 + k.val) then [] else x.f3, f5 := if bit m (8 + k.val) then [] else x.f5 }

/-- The module whose latches a FAULT_CLEAR has cleared. -/
def Dev.latchesCleared (d : Dev) (m : BitVec 32) : Dev :=
  let t := d.accept.eachSt fun d s => d.modSt s (Stall.cleared m s)
  { t with flt := { t.flt with f4 := if bit m 16 then [] else t.flt.f4 } }

theorem Dev.faultClear_clears (d : Dev) (m : BitVec 32) (h : d.clearRefused m = false) :
    d.faultClear m = (d.latchesCleared m).settleFaults := by
  unfold Dev.faultClear
  rw [if_neg (by simp [h])]
  rfl

theorem Dev.latchesCleared_flt (d : Dev) (m : BitVec 32) : (d.latchesCleared m).flt =
    { d.flt with f4 := if bit m 16 then [] else d.flt.f4 } := by
  unfold Dev.latchesCleared
  simp only [Dev.eachSt_flt, Dev.accept_flt]

theorem Dev.latchesCleared_tick (d : Dev) (m : BitVec 32) : (d.latchesCleared m).tick = d.tick := by
  have h := (Dev.Local.eachSt d.accept (Stall.cleared m)).tick.trans (Dev.accept_tick d)
  unfold Dev.latchesCleared
  dsimp only
  exact h

theorem Dev.latchesCleared_calm (d : Dev) (m : BitVec 32) (h : d.calm = true) : (d.latchesCleared m).calm = true := by
  obtain ⟨hdue, hq, he⟩ := d.calm_iff.1 h
  refine (Dev.calm_iff _).2 ?_
  rw [d.latchesCleared_flt, d.latchesCleared_tick]
  exact ⟨hdue, hq, he⟩

theorem Dev.latchesCleared_st (d : Dev) (m : BitVec 32) (k : StallId) : (d.latchesCleared m).st k = Stall.cleared m k (d.st k) := by
  have h := d.accept.eachSt_st (Stall.cleared m) k
  rw [Dev.accept_st] at h
  unfold Dev.latchesCleared Dev.st at *
  exact h

theorem Dev.latchesCleared_chans (d : Dev) (m : BitVec 32) : (d.latchesCleared m).chans = d.chans := by
  have h := (Dev.eachSt_chans d.accept (Stall.cleared m)).trans (Dev.accept_chans d)
  unfold Dev.latchesCleared
  dsimp only
  exact h

theorem Dev.latchesCleared_dict (d : Dev) (m : BitVec 32) : (d.latchesCleared m).dict = d.accept.dict := by
  have h : (d.accept.eachSt fun d s => d.modSt s (Stall.cleared m s)).dict = d.accept.dict :=
    (congrArg Dev.dict (Dev.Local.eachSt d.accept (Stall.cleared m)) :)
  unfold Dev.latchesCleared
  dsimp only
  exact h

/-- What FAULT_CLEAR_CH makes of a channel that its mask names. -/
def Channel.unlatched (c : Channel) : Channel := if c.isParked then c.modForce fun f => { f with latch := false } else c

/-- The turn of a channel that FAULT_CLEAR_CH names. -/
def Dev.unlatch (d : Dev) (n : ChanId) : Dev := if (d.ch n).isParked then d.modCh n fun c => c.modForce fun f => { f with latch := false } else d

theorem Dev.unlatch_ch (d : Dev) (n m : ChanId) : (d.unlatch n).ch m = if m = n then (d.ch n).unlatched else d.ch m := by
  unfold Dev.unlatch Channel.unlatched
  split
  · rw [Dev.ch_modCh]
  · split
    · next h => rw [h]
    · rfl

theorem Dev.Local.unlatch (d : Dev) (n : ChanId) : Dev.Local d (d.unlatch n) := .ite (.modCh d n _) (.refl d)

theorem Dev.faultClearCh_eq (d : Dev) (mask : Word64) : d.faultClearCh mask = (d.accept.inMask mask Dev.unlatch).settleFaults := rfl

theorem Dev.inMask_unlatch_ch (d : Dev) (mask : Word64) (n : ChanId) :
    (d.inMask mask Dev.unlatch).ch n = if bit mask n.val then (d.ch n).unlatched else d.ch n := by
  unfold Dev.inMask
  refine Dev.eachCh_turn (P := fun t => t.ch n = d.ch n) (Q := fun t => t.ch n = if bit mask n.val then (d.ch n).unlatched else d.ch n)
    n rfl (fun t m hm ht => ?_) (fun t ht => ?_) (fun t m hm ht => ?_)
  · split
    · rw [Dev.unlatch_ch, if_neg (Ne.symm hm), ht]
    · exact ht
  · split
    · rw [Dev.unlatch_ch, if_pos rfl, ht]
    · exact ht
  · split
    · rw [Dev.unlatch_ch, if_neg (Ne.symm hm), ht]
    · exact ht

theorem Dev.Local.inMask_unlatch (d : Dev) (mask : Word64) : Dev.Local d (d.inMask mask Dev.unlatch) :=
  Dev.Local.foldl (fun d n => .ite (.unlatch d n) (.refl d)) _ d

theorem Channel.unlatched_force (c : Channel) : c.unlatched.force.latch = (c.force.latch && !c.isParked) ∧ c.unlatched.force.st = c.force.st := by
  unfold Channel.unlatched
  cases h : c.isParked <;> simp [Channel.modForce]

end Sys2Proof.Machine

namespace Sys2Proof
open Machine

/-- Settles O40: the queued fault by `Dev.beginQueued_logs`; the clearing commands by what they leave of the latches, after which a
calm module settles nothing. -/
theorem queuedFaultsAndClearing : Obligations.QueuedFaultsAndClearing := by
  intro s q mask m64 value hlive
  refine ⟨fun hdue hescal hqueue hcls hactive hlog => ?_, fun hcalm => ?_, fun href => ?_, fun hcalm hok => ?_, fun hcalm => ?_,
    fun hv => ?_, fun hv => ?_⟩
  · have hbegin := s.dev.beginQueued_logs q hqueue hcls hescal hactive
    have hflt := (s.dev.takenUp q.cls).logFault_flt q hcls hlog
    have hforces := (s.dev.takenUp q.cls).logFault_forces q .logged false false
    generalize (s.dev.takenUp q.cls).logFault q .logged false false = t at hbegin hflt hforces
    have hcalm : t.calm = true := (Dev.calm_iff t).2 (by rw [hflt]; exact ⟨fun x hx => absurd (hdue ▸ hx) List.not_mem_nil, rfl, hescal⟩)
    refine ⟨_, next_at hlive (show execFaultHandlingBegin s = _ from rfl) (congrArg Dev.settleFaults hbegin), ?_⟩
    have hsettled := t.settleFaults_flt hcalm
    have hch := t.settleFaults_ch hcalm
    rw [hflt] at hsettled
    refine ⟨(congrArg FaultMgr.log hsettled :), (congrArg FaultMgr.queue hsettled :), (congrArg FaultMgr.seq hsettled :),
      (congrArg FaultMgr.drops hsettled :), (congrArg FaultMgr.hist hsettled :), fun n => ?_, rfl⟩
    exact (congrArg Channel.force (hch n)).trans (Dev.force_of_forces hforces n)
  · obtain ⟨-, hq, he⟩ := s.dev.calm_iff.1 hcalm
    refine ⟨_, next_at hlive (show execFaultHandlingBegin s = _ from rfl)
      (congrArg Dev.settleFaults (s.dev.beginQueued_empty hq he)), s.dev.settleFaults_chans hcalm, ?_, rfl⟩
    exact (congrArg FaultMgr.log (s.dev.settleFaults_flt hcalm) :)
  · refine ⟨_, next_at hlive (show execFaultClear mask s = _ from rfl) (if_pos href), Dev.refuse_stalls .., ?_,
      congrArg Dict.abort (Dev.refuse_dict ..), Dev.refuse_chans ..⟩
    exact (congrArg FaultMgr.f4 (s.dev.refuse_faults Obj.FAULT_CLEAR abState) :)
  · have hc := s.dev.latchesCleared_calm mask hcalm
    have hflt := s.dev.latchesCleared_flt mask
    have hst := s.dev.latchesCleared_st mask
    have hdict := s.dev.latchesCleared_dict mask
    have hch := fun n => Dev.ch_of_chans (s.dev.latchesCleared_chans mask) n
    have hclear := s.dev.faultClear_clears mask hok
    generalize s.dev.latchesCleared mask = u at hc hflt hst hdict hch hclear
    refine ⟨_, next_at hlive (show execFaultClear mask s = _ from rfl) hclear, fun k => ?_, ?_, ?_, fun n => ?_, rfl⟩
    · rw [State.atCommit, Dev.settleFaults_st _ hc, hst]
      exact ⟨rfl, rfl⟩
    · rw [State.atCommit, Dev.settleFaults_flt _ hc, hflt]
    · rw [State.atCommit, Dev.settleFaults_dict _ hc, hdict, Dev.accept_abort]
    · rw [State.atCommit, Dev.settleFaults_ch _ hc, hch]
  · have hl := Dev.Local.inMask_unlatch s.dev.accept m64
    have hflt := hl.flt.trans s.dev.accept_flt
    have htick := hl.tick.trans s.dev.accept_tick
    have habort : (s.dev.accept.inMask m64 Dev.unlatch).dict.abort = 0 := (congrArg (·.dict.abort) hl).trans s.dev.accept_abort
    have hch := s.dev.accept.inMask_unlatch_ch m64
    have hclear := s.dev.faultClearCh_eq m64
    generalize s.dev.accept.inMask m64 Dev.unlatch = u at hflt htick habort hch hclear
    have hc : u.calm = true := Dev.calm_of_flt hflt htick hcalm
    refine ⟨_, next_at hlive (show execFaultClearCh m64 s = _ from rfl) hclear, fun n => ?_, ?_, ?_, rfl⟩
    · rw [State.atCommit, Dev.settleFaults_ch _ hc, hch, Dev.accept_ch]
      obtain ⟨hlatch, hst⟩ := (s.dev.ch n).unlatched_force
      cases hb : bit m64 n.val
      · simp
      · simpa using ⟨hlatch, hst⟩
    · rw [State.atCommit, Dev.settleFaults_dict _ hc, habort]
    · rw [State.atCommit, Dev.settleFaults_flt _ hc, hflt]
  · refine ⟨_, next_at hlive (show execHistClear value s = _ from rfl) (if_pos (congrArg BitVec.toNat hv)), rfl, rfl, Dev.accept_abort _,
      Dev.accept_chans _, rfl⟩
  · refine ⟨_, next_at hlive (show execHistClear value s = _ from rfl) (if_neg fun h => hv (BitVec.eq_of_toNat_eq h)), ?_,
      congrArg Dict.abort (Dev.refuse_dict ..), Dev.refuse_chans ..⟩
    exact (congrArg FaultMgr.hist (s.dev.refuse_faults Obj.HIST_CLEAR abRange) :)

end Sys2Proof
end

section
namespace Sys2Proof.Machine
open Sys2Proof

/-! R352, R353, R356: the coefficients that a background cycle and a linearisation pass write. -/

section
variable (d : Dev) (n : ChanId) (o : Nat)

/-- The key of a coefficient in the scratchpads. -/
def coefKey (n : ChanId) (o : Nat) : Nat := 8192 * (stallOf n).val + chanWord n o

theorem Dev.setCoef_scr (v : Int) (a : Nat) :
    sget 0 (d.setCoef n o v).mem.scr a = if a = coefKey n o then BitVec.ofInt 64 v else sget 0 d.mem.scr a := by
  unfold Dev.setCoef Dev.setScr coefKey
  rw [sget_sput]

/-- A cycle of background calibration ends at the present commit, and the next begins (R352). -/
def Dev.cycleEnds (age : Nat) : Dev :=
  d.modCh n fun c => { c with cal := { c.cal.begin d.tick with
    cycleTick := d.tick, cycles := bump 32 c.cal.cycles, late := decide (4000000 < age),
    cycled := c.cal.cycled || (c.force.armTick != 0 && reached c.cal.cycleStart c.force.armTick) } }

/-- What the end of a cycle shows of a channel. -/
def ChCal.Ended (c k : ChCal) (now : Tick) (age : Nat) : Prop :=
  k.cycleTick = now ∧ k.cycleStart = now ∧ k.cycles = bump 32 c.cycles ∧ k.late = decide (4000000 < age)

theorem Dev.cycleEnds_ended (age : Nat) : ChCal.Ended (d.ch n).cal ((d.cycleEnds n age).ch n).cal d.tick age := by
  unfold Dev.cycleEnds
  rw [Dev.ch_modCh, if_pos rfl]
  exact ⟨rfl, rfl, rfl, rfl⟩

theorem Dev.cycleEnds_force (age : Nat) : ((d.cycleEnds n age).ch n).force = (d.ch n).force := by
  unfold Dev.cycleEnds
  rw [Dev.ch_modCh, if_pos rfl]

theorem Dev.cycleEnds_steps (age : Nat) : ((d.cycleEnds n age).ch n).cal.steps = (d.ch n).cal.steps := by
  unfold Dev.cycleEnds
  rw [Dev.ch_modCh, if_pos rfl]
  rfl

theorem Dev.cycleEnds_other (age : Nat) (m : ChanId) (h : m ≠ n) : (d.cycleEnds n age).ch m = d.ch m := d.modCh_other n m h _

theorem Dev.applyEstimate_parked (e : Int) (hpark : (d.ch n).isParked = true) (hup : updated o = true) :
    d.applyEstimate n o e = d.setCoef n o e := by
  simp [Dev.applyEstimate, hpark, hup]

/-- The value that a limited step gives a coefficient (Table 13-3). -/
def limitedStep (cur step e : Int) : Int := cur + clampInt (-step) step (e - cur)

theorem Dev.applyEstimate_steps (e step jump : Int) (hpark : (d.ch n).isParked = false) (hup : updated o = true)
    (hlim : updateLimits o (d.coef n o) = some (step, jump)) (hjump : (e - d.coef n o).natAbs ≤ jump) :
    d.applyEstimate n o e = d.setCoef n o (limitedStep (d.coef n o) step e) := by
  simp only [Dev.applyEstimate, hpark, hup, hlim, Bool.not_true, Bool.false_eq_true, if_false, if_neg (Int.not_lt.2 hjump), limitedStep]

/-- The module with a jump of the channel counted. -/
def Dev.jumpCounted : Dev := d.modCh n fun c => { c with cal := { c.cal with steps := bump 32 c.cal.steps } }

theorem Dev.jumpCounted_cal : ((d.jumpCounted n).ch n).cal = { (d.ch n).cal with steps := bump 32 (d.ch n).cal.steps } := by
  unfold Dev.jumpCounted
  rw [Dev.ch_modCh, if_pos rfl]

theorem Dev.applyEstimate_jumps (e step jump : Int) (hpark : (d.ch n).isParked = false) (hup : updated o = true)
    (hlim : updateLimits o (d.coef n o) = some (step, jump)) (hjump : jump < (e - d.coef n o).natAbs) :
    d.applyEstimate n o e = ((d.setCoef n o (limitedStep (d.coef n o) step e)).jumpCounted n).raiseCh 0x0A01 1 n o := by
  simp only [Dev.applyEstimate, hpark, hup, hlim, Bool.not_true, Bool.false_eq_true, if_false, if_pos hjump, limitedStep, Dev.jumpCounted]

/-- The jump told as F1 settles with the end of the cycle, and changes neither word nor shown value. -/
theorem Dev.Minor.jump_settles (h : d.Minor) (age : Nat) :
    let t := (((d.jumpCounted n).raiseCh 0x0A01 1 n o).cycleEnds n age).settleFaults
    t.mem = d.mem ∧ ChCal.Ended (d.ch n).cal (t.ch n).cal d.tick age ∧ (t.ch n).cal.steps = bump 32 (d.ch n).cal.steps := by
  have hminor := (h.raiseAt d.tick 0x0A01 1 .channel n.val o (by decide)).same
    (t := ((d.jumpCounted n).raiseCh 0x0A01 1 n o).cycleEnds n age) ⟨rfl, rfl, rfl, rfl⟩
  have hcounted : (((d.jumpCounted n).raiseCh 0x0A01 1 n o).ch n).cal = { (d.ch n).cal with steps := bump 32 (d.ch n).cal.steps } :=
    d.jumpCounted_cal n
  have hended := ((d.jumpCounted n).raiseCh 0x0A01 1 n o).cycleEnds_ended n age
  have hsteps := ((d.jumpCounted n).raiseCh 0x0A01 1 n o).cycleEnds_steps n age
  rw [hcounted] at hended hsteps
  dsimp only
  rw [hminor.settles.chCal n, hminor.settles.mem]
  exact ⟨rfl, hended, hsteps⟩
end

/-! R357, R358: the comparison of the band gaps. -/

/-- What the preparation of a comparison leaves: it changes registers, of the module and of the stalls, and readings. -/
structure Dev.GapsRead (d t : Dev) : Prop where
  rest : t = { d with stalls := t.stalls, regs := t.regs }
  states : ∀ k, (t.st k).bgState = (d.st k).bgState

namespace Dev.GapsRead

theorem refl (d : Dev) : Dev.GapsRead d d := ⟨rfl, fun _ => rfl⟩

theorem trans {d t u : Dev} (h : Dev.GapsRead d t) (h' : Dev.GapsRead t u) : Dev.GapsRead d u :=
  ⟨by rw [h'.rest]; rw [h.rest], fun k => (h'.states k).trans (h.states k)⟩

theorem foldl {α : Type} {f : Dev → α → Dev} (h : ∀ d x, Dev.GapsRead d (f d x)) (l : List α) (d : Dev) : Dev.GapsRead d (l.foldl f d) :=
  List.foldlRecOn l f (.refl d) fun _ hd x _ => hd.trans (h _ x)

theorem modSt (d : Dev) (k : StallId) (f : Stall → Stall) (hf : ∀ x, (f x).bgState = x.bgState := by intro x; rfl) :
    Dev.GapsRead d (d.modSt k f) := ⟨rfl, fun j => by
  rw [Dev.st_modSt]
  split
  · next h => rw [hf, h]
  · rfl⟩

theorem setReg (d : Dev) (k v : Nat) : Dev.GapsRead d (d.setReg k v) := ⟨rfl, fun _ => rfl⟩

theorem eachSt (d : Dev) (f : StallId → Stall → Stall) (hf : ∀ k x, (f k x).bgState = x.bgState) :
    Dev.GapsRead d (d.eachSt fun d s => d.modSt s (f s)) := foldl (fun d k => modSt d k (f k) (hf k)) _ d

theorem deviations (l : List (StallId × Int)) (g : StallId × Int → Nat) (d : Dev) :
    Dev.GapsRead d (l.foldl (fun d p => d.setSreg p.1 Obj.BG_DEV (g p)) d) :=
  List.foldlRecOn (motive := Dev.GapsRead d) l _ (.refl d) fun t ht p _ => ht.trans (modSt t p.1 (·.setReg Obj.BG_DEV (g p)))

section
variable {d t : Dev} (h : Dev.GapsRead d t)
include h
theorem mem : t.mem = d.mem := (congrArg Dev.mem h.rest :)
theorem chans : t.chans = d.chans := (congrArg Dev.chans h.rest :)
theorem flt : t.flt = d.flt := (congrArg Dev.flt h.rest :)
theorem tick : t.tick = d.tick := (congrArg Dev.tick h.rest :)
end
end Dev.GapsRead

/-- The readings of a stall's period are shown and begin again. -/
def Stall.readingsTaken (x : Stall) : Stall := { x.setReg Obj.BG_READINGS x.bgReads with bgReads := 0, bgSum := 0 }

/-- The module at the beginning of a comparison. -/
def Dev.gapsTaken (d : Dev) : Dev := (d.setReg Obj.BG_CHECK_TICK d.tick.toNat).eachSt fun d s => d.modSt s Stall.readingsTaken

theorem Dev.gapsTaken_eq (d : Dev) : d.gapsTaken = (d.setReg Obj.BG_CHECK_TICK d.tick.toNat).eachSt fun d s =>
    (d.setSreg s Obj.BG_READINGS (d.st s).bgReads).modSt s fun x => { x with bgReads := 0, bgSum := 0 } := by
  unfold Dev.gapsTaken Dev.setSreg
  simp only [Dev.modSt_modSt]
  rfl

theorem Dev.GapsRead.gapsTaken (d : Dev) : Dev.GapsRead d d.gapsTaken :=
  (Dev.GapsRead.setReg d _ _).trans (.foldl (fun d k => .modSt d k _) _ _)

theorem Dev.gapsTaken_st (d : Dev) (k : StallId) : (d.gapsTaken.st k).bgReads = 0 :=
  congrArg Stall.bgReads (Dev.eachSt_st (d.setReg Obj.BG_CHECK_TICK d.tick.toNat) (fun _ => Stall.readingsTaken) k)

theorem Dev.gapsTaken_reg (d : Dev) (k : Nat) (h : k ≠ Obj.BG_CHECK_TICK) : d.gapsTaken.reg k = d.reg k := by
  have hregs : d.gapsTaken.regs = (d.setReg Obj.BG_CHECK_TICK d.tick.toNat).regs :=
    foldl_kept Dev.regs _ (fun d s => d.modSt_regs s Stall.readingsTaken) _ _
  rw [Dev.reg_of_regs hregs, Dev.reg_setReg_eq, if_neg h]

/-- The stalls that take part are marked, and the deviation of each is shown. -/
def Dev.gapsShown (d : Dev) (part : List (StallId × Int)) : Dev :=
  part.foldl (fun d p => d.setSreg p.1 Obj.BG_DEV (unsignedOf 32
      (divRound ((2 * p.2 - median2 (part.map (·.2))) * 10000000) (median2 (part.map (·.2))))))
    (d.eachSt fun d s => d.modSt s fun x => { x with bgOut := !(part.any (·.1 == s)) })

theorem Dev.GapsRead.gapsShown (d : Dev) (part : List (StallId × Int)) : Dev.GapsRead d (d.gapsShown part) :=
  (Dev.GapsRead.eachSt d (fun s x => { x with bgOut := !(part.any (·.1 == s)) }) fun _ _ => rfl).trans (.deviations part _ _)

/-- A comparison of five stalls or more, with two at most beyond 30 ppm, judges each (R358). -/
theorem Dev.compareGaps_compares (d : Dev) (h : ¬ d.transferMeans.length < 5)
    (hspread : ¬ 2 < (d.transferMeans.filter fun p => beyondPpm p.2 (median2 (d.transferMeans.map (·.2))) 30).length) :
    d.compareGaps = d.transferMeans.foldl (fun t p => t.judgeStall p.1 p.2 (median2 (d.transferMeans.map (·.2))))
      (d.gapsTaken.gapsShown d.transferMeans) := by
  unfold Dev.compareGaps
  dsimp only
  rw [if_neg h, if_neg hspread, d.gapsTaken_eq]
  rfl

/-- Of a comparison with fewer than five stalls the count alone is left (R357). -/
theorem Dev.compareGaps_few (d : Dev) (h : d.transferMeans.length < 5) : d.compareGaps = d.gapsTaken.inc 32 Obj.BG_INSUFFICIENT := by
  unfold Dev.compareGaps
  dsimp only
  rw [if_pos h, d.gapsTaken_eq]

/-! ## The judgement of one stall -/

section
variable (d : Dev) (k : StallId) (m m2 : Int)

theorem Dev.moveFactor_st (j : StallId) (target : Int) : ((d.moveFactor k target).st j).bgState = (d.st j).bgState := by
  unfold Dev.moveFactor
  exact (Dev.GapsRead.modSt _ k _).states j

theorem Dev.moveFactor_scr (j : StallId) (target : Int) (h : (chansOf k).any (fun n => (d.ch n).isArmed) = false) :
    (d.moveFactor k target).scr j stallFactor = if j = k then BitVec.ofInt 64 target else d.scr j stallFactor := by
  unfold Dev.moveFactor
  simp only [h, Bool.false_eq_true, if_false]
  unfold Dev.scr Dev.setSreg Dev.setScr
  simp only [Dev.modSt_mem, sget_sput]
  by_cases hj : j = k
  · simp [hj]
  · rw [if_neg hj, if_neg]
    intro h
    exact hj (Fin.ext (by omega))

theorem Dev.moveFactor_scrOther (j : StallId) (target : Int) (hj : j ≠ k) :
    (d.moveFactor k target).scr j stallFactor = d.scr j stallFactor := by
  unfold Dev.moveFactor
  unfold Dev.scr Dev.setSreg Dev.setScr
  simp only [Dev.modSt_mem, sget_sput]
  rw [if_neg]
  intro h
  exact hj (Fin.ext (by omega))

/-- A stall that was normal, after its state is judged. -/
def Dev.gapJudged : Dev :=
  if beyondPpm m m2 30 then
    ((d.modSt k fun x => { x with bgState := 1, bgGood := 0 }).sinc k 16 Obj.BG_OUTLIERS).raiseNow 0x0A02 1 .stall k.val
  else d

theorem Dev.judgeStall_normal (h : (d.st k).bgState = 0) : d.judgeStall k m m2 =
    (if ((d.gapJudged k m m2).st k).bgState = 1 then (d.gapJudged k m m2).moveFactor k (divRound (m2 * unity) (2 * m))
     else (d.gapJudged k m m2).moveFactor k unity) := by
  unfold Dev.judgeStall Dev.gapJudged
  simp only [h, if_true]

theorem Dev.gapJudged_st (j : StallId) : ((d.gapJudged k m m2).st j).bgState =
    if j = k ∧ beyondPpm m m2 30 = true then 1 else (d.st j).bgState := by
  unfold Dev.gapJudged
  by_cases hb : beyondPpm m m2 30 = true
  · rw [if_pos hb]
    have hst : ∀ t : Dev, (((t.sinc k 16 Obj.BG_OUTLIERS).raiseNow 0x0A02 1 .stall k.val).st j).bgState = (t.st j).bgState := fun t =>
      (Dev.GapsRead.modSt t k (·.inc 16 Obj.BG_OUTLIERS)).states j
    rw [hst, Dev.st_modSt]
    by_cases hj : j = k <;> simp [hj, hb]
  · simp [hb]

theorem Dev.gapJudged_chans : (d.gapJudged k m m2).chans = d.chans := by
  unfold Dev.gapJudged
  split <;> rfl
end

/-! ## The judgement of all stalls -/

/-- What the judgement of other stalls leaves of one: its state, its factor, and the channels. -/
structure Dev.Aside (k : StallId) (d t : Dev) : Prop where
  state : (t.st k).bgState = (d.st k).bgState
  factor : t.scr k stallFactor = d.scr k stallFactor
  chans : t.chans = d.chans

namespace Dev.Aside
variable {k : StallId}

theorem refl (d : Dev) : Dev.Aside k d d := ⟨rfl, rfl, rfl⟩

theorem trans {d t u : Dev} (h : Dev.Aside k d t) (h' : Dev.Aside k t u) : Dev.Aside k d u :=
  ⟨h'.state.trans h.state, h'.factor.trans h.factor, h'.chans.trans h.chans⟩

theorem ite {p : Prop} [Decidable p] {d t u : Dev} (ht : Dev.Aside k d t) (hu : Dev.Aside k d u) : Dev.Aside k d (if p then t else u) := by
  split
  · exact ht
  · exact hu

theorem modSt {j : StallId} (h : k ≠ j) (d : Dev) (f : Stall → Stall) : Dev.Aside k d (d.modSt j f) :=
  ⟨by rw [Dev.st_modSt, if_neg h], rfl, rfl⟩

theorem raiseNow (d : Dev) (code cls : Nat) (sc : Scope) (u : Nat) : Dev.Aside k d (d.raiseNow code cls sc u) := ⟨rfl, rfl, rfl⟩

theorem moveFactor {j : StallId} (h : k ≠ j) (d : Dev) (target : Int) : Dev.Aside k d (d.moveFactor j target) :=
  ⟨d.moveFactor_st j k target, d.moveFactor_scrOther j k target h, rfl⟩

theorem judgeStall {j : StallId} (h : k ≠ j) (d : Dev) (m m2 : Int) : Dev.Aside k d (d.judgeStall j m m2) := by
  unfold Dev.judgeStall
  dsimp only
  have hjudged : Dev.Aside k d
      (if (d.st j).bgState = 0 then
        (if beyondPpm m m2 30 then
          ((d.modSt j fun x => { x with bgState := 1, bgGood := 0 }).sinc j 16 Obj.BG_OUTLIERS).raiseNow 0x0A02 1 .stall j.val
        else d)
      else if 3 ≤ (if !beyondPpm m m2 20 then (d.st j).bgGood + 1 else 0) then d.modSt j fun x => { x with bgState := 0, bgGood := 0 }
      else d.modSt j fun x => { x with bgGood := if !beyondPpm m m2 20 then (d.st j).bgGood + 1 else 0 }) :=
    ite (ite (((modSt h d _).trans (modSt h _ _)).trans (raiseNow _ _ _ _ _)) (refl d)) (ite (modSt h d _) (modSt h d _))
  exact hjudged.trans (ite (moveFactor h _ _) (moveFactor h _ _))

theorem foldl {α : Type} {f : Dev → α → Dev} (l : List α) (d : Dev) (h : ∀ d x, x ∈ l → Dev.Aside k d (f d x)) :
    Dev.Aside k d (l.foldl f d) := List.foldlRecOn l f (.refl d) fun _ hd x hx => hd.trans (h _ x hx)
end Dev.Aside

theorem Dev.Minor.judgeStall {d : Dev} (h : d.Minor) (k : StallId) (m m2 : Int) : (d.judgeStall k m m2).Minor := by
  have hmoved : ∀ (t : Dev) (target : Int), t.Minor → (t.moveFactor k target).Minor := fun t _ ht => ht.same ⟨rfl, rfl, rfl, rfl⟩
  have hpart : ∀ (p : Prop) [Decidable p] (t u : Dev), t.Minor → u.Minor → (if p then t else u).Minor := fun p _ t u ht hu => by
    split
    · exact ht
    · exact hu
  unfold Dev.judgeStall
  dsimp only
  have hjudged : ∀ t : Dev, t.Minor → (if (t.st k).bgState = 1 then t.moveFactor k (divRound (m2 * unity) (2 * m)) else t.moveFactor k unity).Minor :=
    fun t ht => hpart _ _ _ (hmoved t _ ht) (hmoved t _ ht)
  refine hjudged _ (hpart _ _ _ (hpart _ _ _ ?_ h) (hpart _ _ _ ?_ ?_))
  · exact (h.same (t := (d.modSt k _).sinc k 16 Obj.BG_OUTLIERS) ⟨rfl, rfl, rfl, rfl⟩).raiseAt _ _ _ _ _ _ (by decide)
  · exact h.same ⟨rfl, rfl, rfl, rfl⟩
  · exact h.same ⟨rfl, rfl, rfl, rfl⟩

/-- The state and the factor of a stall that was normal, after all are judged (R358). -/
theorem Dev.judgeAll_turn (d : Dev) (mean : StallId → Int) (m2 : Int) (k : StallId) (h : (d.st k).bgState = 0) :
    let t := (List.finRange 8).foldl (fun d j => d.judgeStall j (mean j) m2) d
    (t.st k).bgState = (if beyondPpm (mean k) m2 30 then 1 else 0) ∧
    ((chansOf k).any (fun n => (d.ch n).isArmed) = false → beyondPpm (mean k) m2 30 = true →
      t.scr k stallFactor = BitVec.ofInt 64 (divRound (m2 * unity) (2 * mean k))) := by
  obtain ⟨l, r, hlr⟩ := List.append_of_mem (List.mem_finRange k)
  obtain ⟨hl, hr⟩ := notMem_of_finRange_eq hlr
  have hbefore : Dev.Aside k d (l.foldl (fun d j => d.judgeStall j (mean j) m2) d) :=
    .foldl l d fun t j hj => .judgeStall (fun e : k = j => hl (e ▸ hj)) t _ _
  have hafter := fun t : Dev => Dev.Aside.foldl (k := k) (f := fun d j => d.judgeStall j (mean j) m2) r t
    fun t j hj => .judgeStall (fun e : k = j => hr (e ▸ hj)) t _ _
  intro t
  have ht : t = r.foldl (fun d j => d.judgeStall j (mean j) m2)
      ((l.foldl (fun d j => d.judgeStall j (mean j) m2) d).judgeStall k (mean k) m2) := by
    show (List.finRange 8).foldl _ d = _
    rw [hlr, List.foldl_append, List.foldl_cons]
  generalize l.foldl (fun d j => d.judgeStall j (mean j) m2) d = u at hbefore ht
  have h0 := hbefore.state.trans h
  have hst := u.gapJudged_st k (mean k) m2 k
  rw [h0] at hst
  obtain ⟨hstate, hfactor, -⟩ := hafter (u.judgeStall k (mean k) m2)
  rw [← ht] at hstate hfactor
  rw [hstate, hfactor, u.judgeStall_normal k (mean k) m2 h0]
  by_cases hb : beyondPpm (mean k) m2 30 = true
  · rw [if_pos ⟨rfl, hb⟩] at hst
    rw [if_pos hst]
    refine ⟨by rw [Dev.moveFactor_st, hst, if_pos hb], fun hlive _ => ?_⟩
    rw [Dev.moveFactor_scr, if_pos rfl]
    have hch : (u.gapJudged k (mean k) m2).chans = d.chans := (u.gapJudged_chans k _ m2).trans hbefore.chans
    simpa only [Dev.ch, hch] using hlive
  · rw [if_neg (fun e => hb e.2)] at hst
    rw [if_neg (by omega)]
    exact ⟨by rw [Dev.moveFactor_st, hst, if_neg hb], fun _ e => absurd e hb⟩

/-! ## The example of R358 -/

/-- The means of the example, in ppm of the nominal transfer. -/
def exampleGaps : Vector Int 8 := #v[999996, 1000002, 1000035, 999999, 1000006, 999991, 1000003, 1000000]

/-- The common number by which the means of eight stalls with 1,000 readings each are multiplied. -/
def exampleScale : Int := 1000 * 1000 ^ 7

theorem Dev.transferMeans_example (d : Dev) (h : ∀ st, (d.st st).f3 = [] ∧ (d.st st).bgReads = 1000 ∧
    (d.st st).bgSum = 1000 * exampleGaps[st]) :
    d.transferMeans = (List.finRange 8).map fun st => (st, exampleScale * exampleGaps[st]) := by
  have hpart : (List.finRange 8).filter (fun s => (d.st s).f3.isEmpty && decide (1000 ≤ (d.st s).bgReads)) = List.finRange 8 :=
    List.filter_eq_self.2 fun st _ => by simp [(h st).1, (h st).2.1]
  have hprod : (List.finRange 8).foldl (fun p s => p * (d.st s).bgReads) 1 = 1000 ^ 8 := by
    simp only [fun st => (h st).2.1]
    rfl
  unfold Dev.transferMeans
  dsimp only
  rw [hpart, hprod]
  refine List.map_congr_left fun st _ => ?_
  rw [(h st).2.1, (h st).2.2]
  exact Prod.ext rfl (by unfold exampleScale; norm_num; ring)

theorem median2_example : median2 (((List.finRange 8).map fun st => (st, exampleScale * exampleGaps[st])).map (·.2)) =
    exampleScale * 2000002 := by decide

theorem beyondPpm_example (st : StallId) : beyondPpm (exampleScale * exampleGaps[st]) (exampleScale * 2000002) 30 = decide (st = 2) := by
  revert st
  decide

theorem factor_example : divRound (exampleScale * 2000002 * unity) (2 * (exampleScale * exampleGaps[(2 : StallId)])) =
    divRound (2000002 * unity) 2000070 := by decide

/-- In the example every stall takes part, and one of them is beyond 30 ppm. -/
theorem Dev.compareGaps_example (d : Dev) (h : ∀ st, (d.st st).f3 = [] ∧ (d.st st).bgReads = 1000 ∧
    (d.st st).bgSum = 1000 * exampleGaps[st]) : d.compareGaps =
      (List.finRange 8).foldl (fun d j => d.judgeStall j (exampleScale * exampleGaps[j]) (exampleScale * 2000002))
        (d.gapsTaken.gapsShown d.transferMeans) := by
  have hone : (((List.finRange 8).map fun st => (st, exampleScale * exampleGaps[st])).filter
      fun p => beyondPpm p.2 (exampleScale * 2000002) 30).length = 1 := by
    rw [List.filter_map, List.length_map]
    simp only [Function.comp_def, beyondPpm_example]
    decide
  have hmeans := d.transferMeans_example h
  rw [d.compareGaps_compares (by rw [hmeans]; simp) (by rw [hmeans, median2_example, hone]; decide)]
  generalize d.gapsTaken.gapsShown d.transferMeans = t
  rw [hmeans, median2_example, List.foldl_map]

theorem Dev.compareGaps_judges (d : Dev) (hcalm : d.calm = true) (h : ∀ st, (d.st st).f3 = [] ∧ (d.st st).bgReads = 1000 ∧
    (d.st st).bgSum = 1000 * exampleGaps[st] ∧ (d.st st).bgState = 0) : d.compareGaps.Minor ∧
      (∀ st, (d.compareGaps.st st).bgState = if st = 2 then 1 else 0) ∧
      ((chansOf 2).any (fun m => (d.ch m).isArmed) = false →
        d.compareGaps.scr 2 stallFactor = BitVec.ofInt 64 (divRound (2000002 * unity) 2000070)) := by
  have heq := d.compareGaps_example fun st => ⟨(h st).1, (h st).2.1, (h st).2.2.1⟩
  have hread := (Dev.GapsRead.gapsTaken d).trans (.gapsShown d.gapsTaken d.transferMeans)
  generalize d.gapsTaken.gapsShown d.transferMeans = t at heq hread
  have hminor : t.Minor := .of_calm (Dev.calm_of_flt hread.flt hread.tick hcalm)
  rw [heq]
  refine ⟨List.foldlRecOn (motive := Dev.Minor) _ _ hminor fun u hu j _ => hu.judgeStall j _ _, fun st => ?_, fun hlive => ?_⟩
  · have hturn := (t.judgeAll_turn (fun j => exampleScale * exampleGaps[j]) (exampleScale * 2000002) st
      ((hread.states st).trans (h st).2.2.2)).1
    rw [hturn, beyondPpm_example]
    by_cases h2 : st = 2 <;> simp [h2]
  · have hturn := (t.judgeAll_turn (fun j => exampleScale * exampleGaps[j]) (exampleScale * 2000002) 2
      ((hread.states 2).trans (h 2).2.2.2)).2
    rw [hturn (by simpa only [Dev.ch, hread.chans] using hlive) (by rw [beyondPpm_example]; rfl), factor_example]

/-! ## Linearisation and the snapshot (R356, R367) -/

/-- The residuals of a linearisation pass, written. -/
def Dev.linWritten (d : Dev) (n : ChanId) (table : List (BitVec 16)) (k : Nat) : Dev :=
  (List.range k).foldl (fun d j => d.setCoef n (0x40 + j) ((table.getD j 0).toInt)) d

theorem Dev.linWritten_succ (d : Dev) (n : ChanId) (table : List (BitVec 16)) (k : Nat) :
    d.linWritten n table (k + 1) = (d.linWritten n table k).setCoef n (0x40 + k) ((table.getD k 0).toInt) := by
  unfold Dev.linWritten
  rw [List.range_succ, List.foldl_append]
  rfl

theorem Dev.linWritten_scr (d : Dev) (n : ChanId) (table : List (BitVec 16)) (k a : Nat) :
    sget 0 (d.linWritten n table k).mem.scr a =
      if coefKey n 0x40 ≤ a ∧ a < coefKey n 0x40 + k then BitVec.ofInt 64 ((table.getD (a - coefKey n 0x40) 0).toInt)
      else sget 0 d.mem.scr a := by
  induction k with
  | zero => rw [if_neg (by omega)]; rfl
  | succ k ih =>
    have hkey : coefKey n (0x40 + k) = coefKey n 0x40 + k := by unfold coefKey chanWord; omega
    rw [Dev.linWritten_succ, Dev.setCoef_scr, ih, hkey]
    by_cases ha : a = coefKey n 0x40 + k
    · rw [if_pos ha, if_pos (by omega), ha, Nat.add_sub_cancel_left]
    · rw [if_neg ha]
      refine if_congr ?_ rfl rfl
      omega

theorem Dev.linWritten_rest (d : Dev) (n : ChanId) (table : List (BitVec 16)) (k : Nat) :
    d.linWritten n table k = { d with mem := { d.mem with scr := (d.linWritten n table k).mem.scr } } := by
  induction k with
  | zero => rfl
  | succ k ih =>
    rw [Dev.linWritten_succ]
    rw [ih]
    rfl

/-- A linearisation pass is shown; what remains after the correction is a free value (R356). -/
def Dev.linShown (d : Dev) (n : ChanId) : Dev :=
  d.fresh.2.modCh n fun c => { c with cal := { c.cal with linValid := true, linTick := d.tick, linMax := signedOf 16 d.fresh.1, linConvs := 0 } }

theorem Dev.linShown_ch (d : Dev) (n : ChanId) : ((d.linShown n).ch n).cal.linValid = true ∧ ((d.linShown n).ch n).cal.linTick = d.tick ∧
    ((d.linShown n).ch n).force = (d.ch n).force := by
  unfold Dev.linShown
  rw [Dev.ch_modCh, if_pos rfl]
  exact ⟨rfl, rfl, rfl⟩

theorem Dev.linShown_other (d : Dev) (n m : ChanId) (h : m ≠ n) : (d.linShown n).ch m = d.ch m := Dev.modCh_other _ n m h _

/-- The words of a snapshot, with its record. -/
def Dev.snapWritten (d : Dev) : Dev :=
  let t := (d.setReg Obj.SNAP_SEQ (bump 32 (d.reg Obj.SNAP_SEQ))).setReg Obj.SNAP_BANK (otherBank (d.reg Obj.SNAP_BANK))
  { t with cal := { t.cal with snap := t.mem.scr.filter fun e => inSnapshot e.1 } }

theorem Dev.storeOutcome_reg (d : Dev) (ok : Bool) (k : Nat) (h : k ≠ Obj.STORE_STATUS) : (d.storeOutcome ok).reg k = d.reg k := by
  unfold Dev.storeOutcome
  rw [Dev.reg_setReg_eq, if_neg h]

theorem Dev.snapWritten_reg (d : Dev) : d.snapWritten.reg Obj.SNAP_SEQ = bump 32 (d.reg Obj.SNAP_SEQ) ∧
    d.snapWritten.reg Obj.SNAP_BANK = otherBank (d.reg Obj.SNAP_BANK) := by
  have hreg : ∀ k, d.snapWritten.reg k =
    ((d.setReg Obj.SNAP_SEQ (bump 32 (d.reg Obj.SNAP_SEQ))).setReg Obj.SNAP_BANK (otherBank (d.reg Obj.SNAP_BANK))).reg k := fun _ => rfl
  rw [hreg, hreg, Dev.reg_setReg_eq, Dev.reg_setReg_eq, Dev.reg_setReg_eq]
  exact ⟨(if_neg (by decide)).trans (if_pos rfl), if_pos rfl⟩

theorem toInt_ofInt_of_16 (x : BitVec 16) : (BitVec.ofInt 64 x.toInt).toInt = x.toInt := by
  have := BitVec.toInt_lt (x := x)
  have := BitVec.le_toInt x
  rw [BitVec.toInt_ofInt]
  refine Int.bmod_eq_of_le ?_ ?_ <;> norm_num at * <;> omega

end Sys2Proof.Machine

namespace Sys2Proof
open Machine

section
variable (s : State) (n : ChanId) (est : List (Nat × Int))

theorem exec_bgCycle_ends (hlive : s.live) (hrun : s.dev.bgPaused n = false)
    (hage : 4000000 ≤ ticksFrom (s.dev.ch n).cal.cycleStart s.dev.tick) (hquota : s.dev.quotaMet n = true) :
    exec (.bgCycleComplete n est) s = .next (s.atCommit (((est.foldl (fun d e => d.applyEstimate n e.1 e.2) s.dev).cycleEnds n
      (ticksFrom (s.dev.ch n).cal.cycleStart s.dev.tick)).settleFaults)) := by
  refine next_at hlive (show execBgCycleComplete n est s = _ from rfl) ?_
  dsimp only
  rw [if_neg (by simp [hrun, hquota, Nat.not_lt.2 hage])]
  rfl

theorem exec_linPass_writes (table : List (BitVec 16)) (hlive : s.live) (hpark : (s.dev.ch n).isParked = true)
    (hconvs : 64 * 33 ≤ (s.dev.ch n).cal.linConvs) :
    exec (.linPassDone n table) s = .next (s.atCommit ((s.dev.linWritten n table 33).linShown n)) := by
  refine next_at hlive (show execLinPassDone n table s = _ from rfl) ?_
  dsimp only
  rw [if_neg (by simp [hpark, Nat.not_lt.2 hconvs])]
  rfl

theorem exec_linPass_waits (table : List (BitVec 16)) (hlive : s.live) (h : (s.dev.ch n).isParked = false ∨ (s.dev.ch n).cal.linConvs < 64 * 33) :
    exec (.linPassDone n table) s = .next (s.atCommit s.dev) := by
  refine next_at hlive (show execLinPassDone n table s = _ from rfl) (if_pos ?_)
  obtain h | h := h <;> simp [h]

theorem exec_calSnapshot_idle (ok : Bool) (hlive : s.live) (h : s.dev.tick.toNat % 4000000 ≠ 2000000) :
    exec (.calSnapshot ok) s = .next (s.atCommit s.dev) :=
  next_at hlive (show execCalSnapshot ok s = _ from rfl) (if_pos h)

/-- A snapshot that is written (R367). -/
theorem exec_calSnapshot_written (hlive : s.live) (h : s.dev.tick.toNat % 4000000 = 2000000) :
    exec (.calSnapshot true) s = .next (s.atCommit (s.dev.storeOutcome true).snapWritten) := by
  refine next_at hlive (show execCalSnapshot true s = _ from rfl) ?_
  dsimp only
  rw [if_neg (not_not.2 h)]
  rfl

theorem exec_calSnapshot_failed (hlive : s.live) (h : s.dev.tick.toNat % 4000000 = 2000000) :
    exec (.calSnapshot false) s = .next (s.atCommit (s.dev.storeOutcome false)) := by
  refine next_at hlive (show execCalSnapshot false s = _ from rfl) ?_
  dsimp only
  rw [if_neg (not_not.2 h)]
  rfl

theorem exec_bgCycle_waits (hlive : s.live) (h : s.dev.bgPaused n = true ∨ ticksFrom (s.dev.ch n).cal.cycleStart s.dev.tick < 4000000 ∨
    s.dev.quotaMet n = false) : exec (.bgCycleComplete n est) s = .next (s.atCommit s.dev) := by
  refine next_at hlive (show execBgCycleComplete n est s = _ from rfl) (if_pos ?_)
  obtain h | h | h := h <;> simp [h]
end

section
variable (s : State) (n : ChanId) (o : Nat) (e : Int)

/-- A cycle whose estimates leave a calm module ends with them in the scratchpad, and with nothing else changed (R353). -/
theorem gives_bgCycle {v : Int} (hlive : s.live) (hcalm : s.dev.calm = true) (hrun : s.dev.bgPaused n = false)
    (hage : 4000000 ≤ ticksFrom (s.dev.ch n).cal.cycleStart s.dev.tick) (hquota : s.dev.quotaMet n = true)
    (hest : s.dev.applyEstimate n o e = s.dev.setCoef n o v) : Gives (.bgCycleComplete n [(o, e)]) s fun t =>
      (∀ a, sget 0 t.dev.mem.scr a = if a = coefKey n o then BitVec.ofInt 64 v else sget 0 s.dev.mem.scr a) ∧
      ChCal.Ended (s.dev.ch n).cal (t.dev.ch n).cal s.dev.tick (ticksFrom (s.dev.ch n).cal.cycleStart s.dev.tick) ∧
      (t.dev.ch n).cal.steps = (s.dev.ch n).cal.steps ∧
      (∀ m, m ≠ n → t.dev.ch m = s.dev.ch m) ∧ (t.dev.ch n).force = (s.dev.ch n).force ∧ t.dev.mem.dir = s.dev.mem.dir ∧
      t.dev.mem.ledger = s.dev.mem.ledger := by
  refine ⟨_, exec_bgCycle_ends s n _ hlive hrun hage hquota, ?_⟩
  simp only [List.foldl_cons, List.foldl_nil, hest]
  generalize ticksFrom (s.dev.ch n).cal.cycleStart s.dev.tick = age
  have hc : ((s.dev.setCoef n o v).cycleEnds n age).calm = true := Dev.calm_of_flt rfl rfl hcalm
  have hch := Dev.settleFaults_ch _ hc
  have hmem := Dev.settleFaults_mem _ hc
  refine ⟨fun a => ?_, ?_, ?_, fun m hm => ?_, ?_, ?_, ?_⟩
  · rw [State.atCommit, hmem]
    exact s.dev.setCoef_scr n o v a
  · rw [State.atCommit, hch]
    exact (s.dev.setCoef n o v).cycleEnds_ended n age
  · rw [State.atCommit, hch]
    exact (s.dev.setCoef n o v).cycleEnds_steps n age
  · rw [State.atCommit, hch]
    exact (s.dev.setCoef n o v).cycleEnds_other n age m hm
  · rw [State.atCommit, hch]
    exact (s.dev.setCoef n o v).cycleEnds_force n age
  · rw [State.atCommit, hmem]
    rfl
  · rw [State.atCommit, hmem]
    rfl

/-- A jump is written within its step, counted, and told as F1, which changes no coefficient (R353). -/
theorem gives_bgCycle_jump (step jump : Int) (hlive : s.live) (hcalm : s.dev.calm = true) (hrun : s.dev.bgPaused n = false)
    (hage : 4000000 ≤ ticksFrom (s.dev.ch n).cal.cycleStart s.dev.tick) (hquota : s.dev.quotaMet n = true)
    (hpark : (s.dev.ch n).isParked = false) (hup : updated o = true)
    (hlim : updateLimits o (s.dev.coef n o) = some (step, jump)) (hjump : jump < (e - s.dev.coef n o).natAbs) :
    Gives (.bgCycleComplete n [(o, e)]) s fun t =>
      (∀ a, sget 0 t.dev.mem.scr a = if a = coefKey n o then BitVec.ofInt 64 (limitedStep (s.dev.coef n o) step e) else sget 0 s.dev.mem.scr a) ∧
      ChCal.Ended (s.dev.ch n).cal (t.dev.ch n).cal s.dev.tick (ticksFrom (s.dev.ch n).cal.cycleStart s.dev.tick) ∧
      (t.dev.ch n).cal.steps = bump 32 (s.dev.ch n).cal.steps := by
  refine ⟨_, exec_bgCycle_ends s n _ hlive hrun hage hquota, ?_⟩
  simp only [List.foldl_cons, List.foldl_nil, s.dev.applyEstimate_jumps n o e step jump hpark hup hlim hjump]
  generalize ticksFrom (s.dev.ch n).cal.cycleStart s.dev.tick = age
  have hscr := s.dev.setCoef_scr n o (limitedStep (s.dev.coef n o) step e)
  have hminor : (s.dev.setCoef n o (limitedStep (s.dev.coef n o) step e)).Minor :=
    (Dev.Minor.of_calm hcalm).same ⟨rfl, rfl, rfl, rfl⟩
  obtain ⟨hmem, hended, hsteps⟩ := Dev.Minor.jump_settles _ n o hminor age
  generalize (((s.dev.setCoef n o (limitedStep (s.dev.coef n o) step e)).jumpCounted n).raiseCh 0x0A01 1 n o).cycleEnds n age = u at *
  refine ⟨fun a => ?_, hended, hsteps⟩
  rw [State.atCommit, hmem]
  exact hscr a
end

/-- Settles O47: a cycle by what its one estimate writes (`Dev.applyEstimate_parked`, `_steps`, `_jumps`), the linearisation by
`Dev.linWritten_scr`, the example of R358 by `Dev.compareGaps_judges`; faults of class F1 that settle leave all of it. -/
theorem backgroundCalibrationCycles : Obligations.BackgroundCalibrationCycles := by
  intro s n o a e table est since step jump ok hlive hcalm
  refine ⟨fun hrun hage hquota => ⟨fun hpark hup => ?_, fun hpark hup hlim hjump => ?_, fun hpark hup hlim hjump => ?_⟩,
    fun h => ⟨_, exec_bgCycle_waits s n est hlive h, rfl⟩, fun hsince hlong => ?_, fun hnone => ?_, fun hpark hconvs => ?_,
    fun h => ⟨_, exec_linPass_waits s n table hlive h, rfl⟩, fun htick => ⟨fun hfew => ?_, fun hall => ?_⟩, fun htick => ?_,
    fun htick => ?_, fun htick => ⟨_, exec_calSnapshot_idle s ok hlive htick, rfl⟩⟩
  · obtain ⟨t, ht, hscr, hended, -, hothers⟩ := gives_bgCycle s n o e hlive hcalm hrun hage hquota (s.dev.applyEstimate_parked n o e hpark hup)
    exact ⟨t, ht, hscr a, hended, hothers⟩
  · obtain ⟨t, ht, hscr, hended, hrest⟩ := gives_bgCycle s n o e hlive hcalm hrun hage hquota
      (s.dev.applyEstimate_steps n o e step jump hpark hup hlim hjump)
    exact ⟨t, ht, hscr a, hended, hrest⟩
  · obtain ⟨t, ht, hscr, hended, hsteps⟩ := gives_bgCycle_jump s n o e step jump hlive hcalm hrun hage hquota hpark hup hlim hjump
    exact ⟨t, ht, hscr a, hended, hsteps⟩
  · refine ⟨_, next_at hlive (show execCalPauseClamp n s = _ from rfl)
      (u := s.dev.modCh n fun c => { c with cal := { c.cal with pausedClamp := true } }) ?_, rfl, ?_⟩
    · simp only [hsince, if_pos hlong]
    · simp [State.atCommit, Dev.bgPaused]
  · refine ⟨_, next_at hlive (show execCalPauseClamp n s = _ from rfl) (u := s.dev) ?_, rfl⟩
    simp only [hnone]
  · have hscr := s.dev.linWritten_scr n table 33
    have hrest := s.dev.linWritten_rest n table 33
    have hexec := exec_linPass_writes s n table hlive hpark hconvs
    generalize s.dev.linWritten n table 33 = u at hscr hrest hexec
    have hchans : ∀ m, u.ch m = s.dev.ch m := fun m => (congrArg (fun d : Dev => d.ch m) hrest :)
    obtain ⟨hvalid, hlintick, hforce⟩ := u.linShown_ch n
    refine ⟨_, hexec, fun j hj => ?_, fun hout => ?_, hvalid, hlintick.trans (congrArg Dev.tick hrest :),
      fun m hm => (u.linShown_other n m hm).trans (hchans m), hforce.trans (congrArg Channel.force (hchans n)),
      (congrArg (·.mem.dir) hrest :), (congrArg (·.mem.ledger) hrest :)⟩
    · have hkey : 8192 * (stallOf n).val + chanWord n (0x40 + j) = coefKey n 0x40 + j := by unfold coefKey chanWord; omega
      have hword := hscr (coefKey n 0x40 + j)
      rw [if_pos ⟨by omega, by omega⟩, Nat.add_sub_cancel_left] at hword
      show (sget 0 u.mem.scr _).toInt = _
      rw [hkey, hword, toInt_ofInt_of_16]
    · refine (hscr a).trans (if_neg ?_)
      dsimp only [coefKey, chanWord] at hout ⊢
      omega
  · have hread := Dev.GapsRead.gapsTaken s.dev
    have hst := s.dev.gapsTaken_st
    have hfew' := s.dev.compareGaps_few hfew
    have hreg := s.dev.gapsTaken_reg Obj.BG_INSUFFICIENT (by decide)
    generalize s.dev.gapsTaken = u at hread hst hreg hfew'
    have hc : (u.inc 32 Obj.BG_INSUFFICIENT).calm = true := Dev.calm_of_flt hread.flt hread.tick hcalm
    refine ⟨_, next_at hlive (show execBgComparison s = _ from rfl) ((if_pos htick).trans (congrArg Dev.settleFaults hfew')), ?_, ?_, fun st => ?_, ?_⟩
    · rw [State.atCommit, Dev.settleFaults_reg _ hc, Dev.inc, Dev.reg_setReg_eq, if_pos rfl, hreg]
    · rw [State.atCommit, Dev.settleFaults_mem _ hc]
      exact hread.mem
    · rw [State.atCommit, Dev.settleFaults_st _ hc]
      exact ⟨hread.states st, hst st⟩
    · rw [State.atCommit, Dev.settleFaults_chans _ hc]
      exact hread.chans
  · obtain ⟨hminor, hstates, hfactor⟩ := s.dev.compareGaps_judges hcalm hall
    have hexec : exec .bgComparison s = .next (s.atCommit s.dev.compareGaps.settleFaults) :=
      next_at hlive (show execBgComparison s = _ from rfl) (if_pos htick)
    generalize s.dev.compareGaps = u at hminor hstates hfactor hexec
    refine ⟨_, hexec, fun st => (hminor.settles.bgState st).trans (hstates st), fun hidle => ?_⟩
    rw [State.atCommit, Dev.scr, hminor.settles.mem]
    exact hfactor hidle
  · exact ⟨_, next_at hlive (show execBgComparison s = _ from rfl) (if_neg htick), rfl⟩
  · cases ok with
    | false =>
      refine ⟨_, exec_calSnapshot_failed s hlive htick, rfl, s.dev.storeOutcome_reg false _ (by decide), s.dev.storeOutcome_reg false _ (by decide), rfl, rfl, rfl⟩
    | true =>
      obtain ⟨hseq, hbank⟩ := (s.dev.storeOutcome true).snapWritten_reg
      rw [s.dev.storeOutcome_reg true _ (by decide)] at hseq hbank
      exact ⟨_, exec_calSnapshot_written s hlive htick, rfl, hseq, hbank, rfl, rfl, rfl⟩

end Sys2Proof
end

section
namespace Sys2Proof.Machine
open Sys2Proof

/-! R145, R196, R361: what a range-pair entry, the closing of tallies and the return to the start value leave of the module. -/

/-- The memories, the calibration, the answers, what waits for the fault manager, and the registers of calibration. -/
structure Dev.Apart (d t : Dev) : Prop where
  mem : t.mem = d.mem
  cal : t.cal = d.cal
  flt : t.flt = d.flt
  tick : t.tick = d.tick
  dict : t.dict = d.dict
  regs : ∀ k, 0x224000 ≤ k → k < 0x250000 → t.reg k = d.reg k

namespace Dev.Apart

theorem refl (d : Dev) : Dev.Apart d d := ⟨rfl, rfl, rfl, rfl, rfl, fun _ _ _ => rfl⟩

theorem trans {d t u : Dev} (h : Dev.Apart d t) (h' : Dev.Apart t u) : Dev.Apart d u :=
  ⟨h'.mem.trans h.mem, h'.cal.trans h.cal, h'.flt.trans h.flt, h'.tick.trans h.tick, h'.dict.trans h.dict,
    fun k hlo hhi => (h'.regs k hlo hhi).trans (h.regs k hlo hhi)⟩

theorem ite {p : Prop} [Decidable p] {d t u : Dev} (ht : Dev.Apart d t) (hu : Dev.Apart d u) : Dev.Apart d (if p then t else u) := by
  split
  · exact ht
  · exact hu

theorem foldl {α : Type} {f : Dev → α → Dev} (h : ∀ d x, Dev.Apart d (f d x)) (l : List α) (d : Dev) : Dev.Apart d (l.foldl f d) :=
  List.foldlRecOn l f (.refl d) fun _ hd x _ => hd.trans (h _ x)

theorem calm {d t : Dev} (h : Dev.Apart d t) (hc : d.calm = true) : t.calm = true := Dev.calm_of_flt h.flt h.tick hc

theorem minor {d t : Dev} (h : Dev.Apart d t) (hm : d.Minor) : t.Minor := hm.same (.of_flt h.flt h.tick)

theorem of_mild {d t : Dev} (h : Dev.Mild d t) (hflt : t.flt = d.flt) : Dev.Apart d t := ⟨h.mem, h.cal, hflt, h.tick, h.dict, fun k hlo hhi => h.regs k hlo (.inl hhi)⟩

section
variable (d : Dev) (n : ChanId)

theorem modCh (f : Channel → Channel) : Dev.Apart d (d.modCh n f) := ⟨rfl, rfl, rfl, rfl, rfl, fun _ _ _ => rfl⟩
theorem modSt (k : StallId) (f : Stall → Stall) : Dev.Apart d (d.modSt k f) := ⟨rfl, rfl, rfl, rfl, rfl, fun _ _ _ => rfl⟩

theorem fireCommit (code : Nat) (inherited : List Nat) : Dev.Apart d (d.fireCommit code inherited) :=
  .of_mild (.fireCommit d code inherited) (Dev.Steady.fireCommit d code inherited).flt

theorem clampsFor (hi lo : Nat) : Dev.Apart d (d.clampsFor n hi lo) := by
  unfold Dev.clampsFor Dev.setClamps
  split
  · exact modCh d n _
  · exact refl d

theorem closeWindow : Dev.Apart d (d.closeWindow n) := by
  unfold Dev.closeWindow Dev.entryClamps Dev.endWindow
  have hresume : ∀ d : Dev, Dev.Apart d (d.wmResume n) := foldl (fun d _ => ite (refl d) (ite (modCh d n _) (modCh d n _))) _
  exact ((modCh d n _).trans (modCh _ n _)).trans ((clampsFor _ n _ _).trans ((hresume _).trans (fireCommit _ _ _)))

theorem gustStop (x : Tick × Nat) : Dev.Apart d (d.gustStop n x) := by
  unfold Dev.gustStop
  exact (foldl (fun d m => modCh d m _) _ d).trans (modCh _ n _)

theorem restartSeq : Dev.Apart d (d.restartSeq n) := by
  obtain ⟨mv, mi, h⟩ := d.onlyConvs_restartSeq n
  rw [h]
  exact modCh d n _

theorem openWindow (w : Nat) (fi : Bool) (target : Int) (host : Bool) : Dev.Apart d (d.openWindow n w fi target host) := by
  have hclose : Dev.Apart d (if (d.ch n).rc.active && reached d.tick (d.ch n).rc.closes then d.closeWindow n else d) :=
    ite (closeWindow d n) (refl d)
  unfold Dev.openWindow
  dsimp only
  generalize (if (d.ch n).rc.active && reached d.tick (d.ch n).rc.closes then d.closeWindow n else d) = u at hclose ⊢
  have hsusp : ∀ (q : Idx4 → Bool) (d : Dev), Dev.Apart d ((List.finRange 4).foldl
      (fun d m => if q m then (d.wmUnqueue n m).modCh n (·.wmSuspend m) else d) d) :=
    fun q => foldl (fun d m => ite ((modSt d _ _).trans (modCh _ n _)) (refl d)) _
  have hcount : ∀ (b : Prop) [Decidable b] (d : Dev) (v : Nat),
      Dev.Apart d ((if b then d.setCreg n Obj.RC_LAST_TICK v else d).cinc n 32 Obj.RC_COUNT) := fun b _ d v =>
    (ite (modCh d n _) (refl d)).trans (modCh _ n _)
  exact hclose.trans ((modCh u n _).trans ((gustStop _ n _).trans ((restartSeq _ n).trans ((hcount _ _ _).trans
    ((hsusp _ _).trans (clampsFor _ n _ _))))))

/-- A range-pair entry acts on the channels alone. -/
theorem enterEntry (e : Nat) (fi : Bool) (target : Int) (host : Bool) : Dev.Apart d (d.enterEntry n e fi target host) :=
  (modCh d n _).trans (ite (openWindow _ n _ _ _ _) (ite ((modCh _ n _).trans (clampsFor _ n _ _)) (clampsFor _ n _ _)))

theorem startValue : Dev.Apart d (d.startValue n) := ite ((modCh d n _).trans (enterEntry _ n _ _ _ _)) (refl d)

theorem tallyDay (u : Idx16) (day : TallyDay) (ev : TallyEv) : Dev.Apart d (d.tallyDay n u day ev) := by
  unfold Dev.tallyDay
  dsimp only
  have hcount : ∀ (k : Nat) (d : Dev), Dev.Apart d ((List.range k).foldl (fun d _ => d.cinc n 32 Obj.TALLY_IGNORED) d) :=
    fun k => foldl (fun d _ => modCh d n _) _
  have hopen : ∀ d : Dev, Dev.Apart d (d.tallyOpen n u) := fun d => by unfold Dev.tallyOpen; exact modCh d n _
  refine .trans ?_ (ite (fireCommit _ _ _) (refl _))
  refine .trans ?_ (ite (hopen _) (ite (modCh _ n _) (refl _)))
  exact (modCh d n _).trans (ite (modCh _ n _) (hcount _ _))

theorem tallyCloseAll (cause : CloseCause) : Dev.Apart d (d.tallyCloseAll n cause) := by
  unfold Dev.tallyCloseAll
  exact foldl (fun d u => ite (refl d) (tallyDay d n u _ _)) _ d
end
end Dev.Apart

/-! ## Injected sequences that run -/

/-- The injected sequences of a channel run, or do not, as before. -/
def Dev.InjStays (n : ChanId) (d t : Dev) : Prop := ∀ mi, ((t.ch n).conv mi).injSlot = ((d.ch n).conv mi).injSlot

namespace Dev.InjStays
variable {n : ChanId}

theorem refl (d : Dev) : Dev.InjStays n d d := fun _ => rfl

theorem trans {d t u : Dev} (h : Dev.InjStays n d t) (h' : Dev.InjStays n t u) : Dev.InjStays n d u := fun mi => (h' mi).trans (h mi)

theorem ite {p : Prop} [Decidable p] {d t u : Dev} (ht : Dev.InjStays n d t) (hu : Dev.InjStays n d u) :
    Dev.InjStays n d (if p then t else u) := by
  split
  · exact ht
  · exact hu

theorem foldl {α : Type} {f : Dev → α → Dev} (h : ∀ d x, Dev.InjStays n d (f d x)) (l : List α) (d : Dev) :
    Dev.InjStays n d (l.foldl f d) := List.foldlRecOn l f (.refl d) fun _ hd x _ => hd.trans (h _ x)

theorem modCh (d : Dev) (f : Channel → Channel) (hf : ∀ c mi, ((f c).conv mi).injSlot = (c.conv mi).injSlot := by
    intro c mi; cases mi <;> rfl) : Dev.InjStays n d (d.modCh n f) := fun mi => by
  rw [Dev.ch_modCh, if_pos rfl, hf]

theorem tallyDay (d : Dev) (u : Idx16) (day : TallyDay) (ev : TallyEv) : Dev.InjStays n d (d.tallyDay n u day ev) := by
  unfold Dev.tallyDay
  dsimp only
  have hcount : ∀ (k : Nat) (d : Dev), Dev.InjStays n d ((List.range k).foldl (fun d _ => d.cinc n 32 Obj.TALLY_IGNORED) d) :=
    fun k => foldl (fun d _ => modCh d _) _
  have hopen : ∀ d : Dev, Dev.InjStays n d (d.tallyOpen n u) := fun d => by unfold Dev.tallyOpen; exact modCh d _
  have hfire : ∀ (d : Dev) (code : Nat) (l : List Nat), Dev.InjStays n d (d.fireCommit code l) := fun d code l =>
    (Dev.Mild.fireCommit d code l).inj n
  refine .trans ?_ (ite (hfire _ _ _) (refl _))
  refine .trans ?_ (ite (hopen _) (ite (modCh _ _) (refl _)))
  exact (modCh d _).trans (ite (modCh _ _) (hcount _ _))

theorem tallyCloseAll (d : Dev) (cause : CloseCause) : Dev.InjStays n d (d.tallyCloseAll n cause) := by
  unfold Dev.tallyCloseAll
  exact foldl (fun d u => ite (refl d) (tallyDay d u _ _)) _ d

theorem running {d t : Dev} (h : Dev.InjStays n d t) : t.injRunning n = d.injRunning n :=
  congrArg₂ (fun a b : Option Nat => a.isSome || b.isSome) (h false) (h true)
end Dev.InjStays

/-! ## The start of a point (R359, R360) -/

section
variable (d : Dev) (n : ChanId)

/-- A pending injected activation of a converter is cancelled (R360). -/
def Dev.injCancelled (mi : Bool) : Dev :=
  if ((d.ch n).conv mi).injAt.isSome then
    (d.modCh n fun c => c.modConv mi fun v => { v with injAt := none }).setCreg n (mvmi mi Obj.MV_SKIP_INJ Obj.MI_SKIP_INJ)
      (bumpBy 32 (d.creg n (mvmi mi Obj.MV_SKIP_INJ Obj.MI_SKIP_INJ)) (d.injectedLen n mi))
  else d

/-- What a point does to its channel before it waits. -/
def Dev.sysPrepared : Dev := ((d.injCancelled n false).injCancelled n true).tallyCloseAll n .reconfig

/-- What stays of the module, of the force paths and of the running sequences as a point is prepared. -/
structure Dev.Prepared (n : ChanId) (d t : Dev) : Prop where
  apart : Dev.Apart d t
  forces : t.forces = d.forces
  inj : Dev.InjStays n d t

theorem Dev.Prepared.injCancelled (mi : Bool) : Dev.Prepared n d (d.injCancelled n mi) := by
  unfold Dev.injCancelled Dev.setCreg
  split
  · refine ⟨(Dev.Apart.modCh d n _).trans (.modCh _ n _), ?_, .trans (.modCh d _ fun c mj => ?_) (.modCh _ _)⟩
    · refine (Dev.modCh_forces _ n _ ?_).trans (Dev.modCh_forces d n _ ?_)
      · exact fun _ => rfl
      · exact fun c => by cases mi <;> rfl
    · cases mi <;> cases mj <;> rfl
  · exact ⟨.refl d, rfl, .refl d⟩

theorem Dev.Prepared.trans {t u : Dev} {d : Dev} {n : ChanId} (h : Dev.Prepared n d t) (h' : Dev.Prepared n t u) : Dev.Prepared n d u :=
  ⟨h.apart.trans h'.apart, h'.forces.trans h.forces, h.inj.trans h'.inj⟩

theorem Dev.sysPrepared_prepared : Dev.Prepared n d (d.sysPrepared n) :=
  ((Dev.Prepared.injCancelled d n false).trans (.injCancelled _ n true)).trans
    ⟨.tallyCloseAll _ n _, Dev.tallyCloseAll_forces _ n _, .tallyCloseAll _ _⟩

/-- The calibration as the command of a point leaves it, before the point begins. -/
def Dev.sysTaken (full : Bool) (r : Bool × Nat × Nat) : Dev :=
  { d with cal := { d.cal with sys := SysCalState.waiting, full := full, since := d.tick, zero := if full then d.cal.zero else none,
                               point := some (n, r) } }.setReg Obj.SYSCAL_ABORT 0

/-- A calibration is under way, so that a command for a point is refused (R359). -/
def Dev.sysBusy : Prop := d.cal.sys = .waiting ∨ d.cal.sys = .measuring ∨ d.cal.sys = .storing

theorem Dev.not_sysBusy (h : ¬ d.sysBusy) : (d.cal.sys == .waiting || d.cal.sys == .measuring || d.cal.sys == .storing) = false := by
  unfold Dev.sysBusy at h
  cases hs : d.cal.sys <;> simp [hs] at h ⊢

/-- What the command of a point leaves as it takes it up. -/
theorem Dev.sysTaken_taken (full : Bool) (r : Bool × Nat × Nat) :
    let t := d.sysTaken n full r
    t.flt = d.flt ∧ t.tick = d.tick ∧ t.mem = d.mem ∧ t.dict = d.dict ∧ t.chans = d.chans ∧ t.cal.full = full ∧ t.cal.since = d.tick ∧
      t.cal.zero = (if full then d.cal.zero else none) ∧ t.cal.point = some (n, r) ∧ t.cal.sys = .waiting ∧
      ∀ k, t.reg k = if k = Obj.SYSCAL_ABORT then 0 else d.reg k :=
  ⟨rfl, rfl, rfl, rfl, rfl, rfl, rfl, rfl, rfl, rfl, fun k => Dev.reg_setReg_eq _ _ k _⟩

theorem Dev.sysStart_busy (full : Bool) (h : d.sysBusy) : d.sysStart full = d.refuse Obj.SYSCAL_CMD abState := by
  unfold Dev.sysStart
  rw [if_pos]
  obtain h | h | h := h <;> rw [h] <;> rfl

theorem Dev.sysHostAbort_busy (h : d.sysBusy) : d.sysHostAbort = d.refuse Obj.SYSCAL_CMD abState := by
  unfold Dev.sysHostAbort
  obtain h | h | h := h <;> rw [h]

theorem Dev.sysHostAbort_zeroDone (h : d.cal.sys = .zeroDone) : d.sysHostAbort = d.accept.sysAbort 0xC := by
  unfold Dev.sysHostAbort
  rw [h]

theorem Dev.sysHostAbort_inactive (h : d.sysActive = false) : d.sysHostAbort = d.accept := by
  unfold Dev.sysHostAbort
  cases hs : d.cal.sys <;> simp [Dev.sysActive, hs] at h ⊢

theorem Dev.accept_reg (k : Nat) (h : k ≠ Obj.LAST_WRITE_TICK) : d.accept.reg k = d.reg k := by
  unfold Dev.accept
  split
  · rfl
  · exact (Dev.reg_setReg_eq _ _ _ _).trans (if_neg h)

theorem Dev.accept_sysRange : d.accept.sysRange n = d.sysRange n := by
  unfold Dev.sysRange Dev.creg
  rw [d.accept_reg _ (by decide), d.accept_reg _ (by decide), Dev.accept_ch]

theorem Dev.accept_sysCheck (full : Bool) : d.accept.sysCheck n full = d.sysCheck n full := by
  unfold Dev.sysCheck Dev.calPath
  rw [d.accept_sysRange, Dev.accept_ch, Dev.accept_role, Dev.accept_cal, Dev.accept_mem]

/-- A command for a point that fails a check (R359). -/
theorem Dev.sysStart_refuses (full : Bool) (hfree : ¬ d.sysBusy) (hname : d.sysNamed = some n) (hcheck : d.sysCheck n full ≠ 0) :
    d.sysStart full = d.accept.sysRefuse (d.sysCheck n full) := by
  unfold Dev.sysStart
  simp only [d.not_sysBusy hfree, Bool.false_eq_true, if_false, hname]
  rw [d.accept_sysCheck, if_pos hcheck]

/-- A command for a point that passes every check (R359, R360). -/
theorem Dev.sysStart_starts (full : Bool) (hfree : ¬ d.sysBusy) (hname : d.sysNamed = some n) (hcheck : d.sysCheck n full = 0) :
    let u := (d.accept.sysPrepared n).sysTaken n full (d.sysRange n)
    d.sysStart full = if u.injRunning n then u else u.sysBegin n := by
  unfold Dev.sysStart Dev.sysTaken Dev.sysPrepared Dev.injCancelled
  simp only [d.not_sysBusy hfree, Bool.false_eq_true, if_false, hname]
  rw [d.accept_sysCheck, if_neg (not_not.2 hcheck), d.accept_sysRange]

/-- What of a module a system calibration leaves: the memories, the answers, and the force paths of the other channels. -/
structure Dev.SysAround (n : ChanId) (d t : Dev) : Prop where
  mem : t.mem = d.mem
  dict : t.dict = d.dict
  force : ∀ m, m ≠ n → (t.ch m).force = (d.ch m).force

theorem Dev.SysAround.trans {n : ChanId} {d t u : Dev} (h : Dev.SysAround n d t) (h' : Dev.SysAround n t u) : Dev.SysAround n d u :=
  ⟨h'.mem.trans h.mem, h'.dict.trans h.dict, fun m hm => (h'.force m hm).trans (h.force m hm)⟩

theorem Dev.SysAround.of_mild {d t : Dev} (n : ChanId) (h : Dev.Mild d t) : Dev.SysAround n d t := ⟨h.mem, h.dict, fun m _ => h.force m⟩

/-! ## A calibration that ends (R361, R364) -/

/-- The calibration as an abort leaves it. -/
def Dev.sysEnded (code : Nat) : Dev := { d with cal := { d.cal with sys := .aborted, zero := none } }.setReg Obj.SYSCAL_ABORT code

theorem Dev.sysEnded_reg (code k : Nat) : (d.sysEnded code).reg k = if k = Obj.SYSCAL_ABORT then code else d.reg k :=
  Dev.reg_setReg_eq _ _ _ _

theorem Dev.sysAbort_named (code : Nat) (h : d.sysChan = some n) :
    d.sysAbort code = ((d.sysEnded code).raiseCh 0x0A04 1 n code).startValue n := by
  unfold Dev.sysAbort
  rw [h]
  rfl

/-- An aborted calibration shows its code, and its entry of class F1 settles (R361). -/
theorem Dev.Minor.sysAbort_settles (h : d.Minor) (code : Nat) (hch : d.sysChan = some n) :
    let t := (d.sysAbort code).settleFaults
    t.cal.sys = .aborted ∧ t.reg Obj.SYSCAL_ABORT = code ∧
      (∀ k, 0x224000 ≤ k → k < 0x250000 → k ≠ Obj.SYSCAL_ABORT → t.reg k = d.reg k) ∧ Dev.SysAround n d t := by
  have hraised : ((d.sysEnded code).raiseCh 0x0A04 1 n code).Minor :=
    (h.same (t := d.sysEnded code) ⟨rfl, rfl, rfl, rfl⟩).raiseAt _ _ _ _ _ _ (by decide)
  have hreg := d.sysEnded_reg code
  rw [d.sysAbort_named n code hch]
  have hapart := Dev.Apart.startValue ((d.sysEnded code).raiseCh 0x0A04 1 n code) n
  have hput := Dev.staysPut_startValue ((d.sysEnded code).raiseCh 0x0A04 1 n code) n
  have hm := (hapart.minor hraised).settles
  dsimp only
  refine ⟨?_, ?_, fun k hlo hhi hk => ?_, hm.mem.trans hapart.mem, hm.dict.trans hapart.dict, fun m hne => (hm.force m).trans (hput.others m hne)⟩
  · rw [hm.cal, hapart.cal]
    rfl
  · rw [hm.regs _ (by decide) (by decide), hapart.regs _ (by decide) (by decide)]
    exact (hreg _).trans (if_pos rfl)
  · rw [hm.regs k hlo (.inl hhi), hapart.regs k hlo hhi]
    exact (hreg k).trans (if_neg hk)

theorem Dev.Minor.sysRefuse_settles (h : d.Minor) (code : Nat) (hidle : d.sysActive = false) (hname : d.sysNamed = some n) :
    let t := (d.sysRefuse code).settleFaults
    t.cal.sys = .aborted ∧ t.reg Obj.SYSCAL_ABORT = code ∧ Dev.SysAround n d t ∧ (t.ch n).force = (d.ch n).force := by
  have hchan : (d.sysEnded code).sysChan = some n := by
    have hreg : (d.sysEnded code).sysNamed = d.sysNamed := by
      unfold Dev.sysNamed
      simp only [d.sysEnded_reg code Obj.SYSCAL_CH, show Obj.SYSCAL_CH ≠ Obj.SYSCAL_ABORT by decide, if_false]
    exact (if_neg (show ¬ (false = true) by decide)).trans (hreg.trans hname)
  have heq : d.sysRefuse code = (d.sysEnded code).raiseCh 0x0A04 1 n code := by
    unfold Dev.sysRefuse
    rw [hidle, if_neg (by decide)]
    exact congrArg (fun o : Option ChanId => match o with
      | some n => (d.sysEnded code).raiseCh 0x0A04 1 n code
      | none => d.sysEnded code) hchan
  have hraised : ((d.sysEnded code).raiseCh 0x0A04 1 n code).Minor :=
    (h.same (t := d.sysEnded code) ⟨rfl, rfl, rfl, rfl⟩).raiseAt _ _ _ _ _ _ (by decide)
  have hm := hraised.settles
  rw [heq]
  dsimp only
  refine ⟨?_, ?_, ⟨hm.mem, hm.dict, fun m _ => hm.force m⟩, hm.force n⟩
  · rw [hm.cal]
    rfl
  · rw [hm.regs _ (by decide) (by decide)]
    exact (d.sysEnded_reg code _).trans (if_pos rfl)

/-! ## A point that begins (R360) -/

/-- The calibration as a point that begins leaves it. -/
def CalDev.pointBegun (c : CalDev) (now : Tick) : CalDev :=
  { c with sys := .measuring, begun := now, meas := 0, measHeld := 0, measClamp := false, taken := [], tagged := false }

/-- The setpoint of a point acts, before its range pair does. -/
def Dev.pointSet : Dev :=
  { (d.setReg Obj.SYSCAL_WAIT (ticksFrom d.cal.since d.tick)).modCh n fun c => c.modForce fun f =>
      { f with prevTarget := f.target, target := BitVec.ofNat 20 (d.reg Obj.SYSCAL_SETPT) } with
    cal := d.cal.pointBegun d.tick }

theorem Dev.sysBegin_eq : d.sysBegin n = (d.pointSet n).enterEntry n (d.reg Obj.SYSCAL_RPAIR % 16)
    (rpMode ((d.pointSet n).creg n (Obj.RPAIR (d.reg Obj.SYSCAL_RPAIR % 16)))) (codeVal (BitVec.ofNat 20 (d.reg Obj.SYSCAL_SETPT))) false := rfl

theorem Dev.pointSet_ch (m : ChanId) : (d.pointSet n).ch m = if m = n then (d.ch n).modForce fun f =>
    { f with prevTarget := f.target, target := BitVec.ofNat 20 (d.reg Obj.SYSCAL_SETPT) } else d.ch m :=
  ((d.setReg Obj.SYSCAL_WAIT (ticksFrom d.cal.since d.tick)).ch_modCh n m fun c => c.modForce fun f =>
    { f with prevTarget := f.target, target := BitVec.ofNat 20 (d.reg Obj.SYSCAL_SETPT) } :)

theorem Dev.pointSet_reg (k : Nat) : (d.pointSet n).reg k = if k = Obj.SYSCAL_WAIT then ticksFrom d.cal.since d.tick else d.reg k :=
  Dev.reg_setReg_eq ..

/-- A point begins at the present commit: its channel takes the setpoint and the range pair of SYSCAL (R360, R361). -/
theorem Dev.sysBegin_begins :
    let t := d.sysBegin n
    t.cal = d.cal.pointBegun d.tick ∧ t.flt = d.flt ∧ t.tick = d.tick ∧ t.reg Obj.SYSCAL_WAIT = ticksFrom d.cal.since d.tick ∧
      (t.ch n).force.target = BitVec.ofNat 20 (d.reg Obj.SYSCAL_SETPT) ∧ Dev.SysAround n d t := by
  have hch := d.pointSet_ch n
  have hreg := d.pointSet_reg n Obj.SYSCAL_WAIT
  have hrest : (d.pointSet n).cal = d.cal.pointBegun d.tick ∧ (d.pointSet n).flt = d.flt ∧ (d.pointSet n).tick = d.tick ∧
    (d.pointSet n).mem = d.mem ∧ (d.pointSet n).dict = d.dict := ⟨rfl, rfl, rfl, rfl, rfl⟩
  rw [d.sysBegin_eq n]
  generalize d.pointSet n = u at hch hreg hrest ⊢
  obtain ⟨hcal, hflt, htick, hmem, hdict⟩ := hrest
  have henters := u.enters_enterEntry n (d.reg Obj.SYSCAL_RPAIR % 16) (rpMode (u.creg n (Obj.RPAIR (d.reg Obj.SYSCAL_RPAIR % 16))))
    (codeVal (BitVec.ofNat 20 (d.reg Obj.SYSCAL_SETPT)))
  have hapart := Dev.Apart.enterEntry u n (d.reg Obj.SYSCAL_RPAIR % 16) (rpMode (u.creg n (Obj.RPAIR (d.reg Obj.SYSCAL_RPAIR % 16))))
    (codeVal (BitVec.ofNat 20 (d.reg Obj.SYSCAL_SETPT))) false
  generalize u.enterEntry n _ _ _ false = t at henters hapart ⊢
  refine ⟨hapart.cal.trans hcal, hapart.flt.trans hflt, hapart.tick.trans htick, ?_, ?_, hapart.mem.trans hmem, hapart.dict.trans hdict,
    fun m hm => ?_⟩
  · rw [hapart.regs _ (by decide) (by decide), hreg, if_pos rfl]
  · have htarget : (t.ch n).force.target = (u.ch n).force.target := (congrArg Force.target henters.force :)
    rw [htarget, hch n, if_pos rfl]
    rfl
  · have hstill : (t.ch m).force = (u.ch m).force := (congrArg Channel.force (henters.others m hm) :)
    rw [hstill, hch m, if_neg hm]

/-! ## A point that is judged and stored (R362, R363, R366) -/

/-- The results of a point are shown. -/
def Dev.pointShown (p : PointStats) : Dev :=
  let t := if d.cal.taken.isEmpty then d.fresh.2 else d
  ((t.setReg Obj.SYSCAL_MEAN (unsignedOf 32 p.mean)).setReg Obj.SYSCAL_SD (min 0xFFFFFFFF p.sd)).setReg Obj.SYSCAL_RESULT_TICK t.tick.toNat

theorem Dev.pointShown_reg (p : PointStats) (k : Nat) : (d.pointShown p).reg k =
    if k = Obj.SYSCAL_RESULT_TICK then d.tick.toNat else if k = Obj.SYSCAL_SD then min 0xFFFFFFFF p.sd
    else if k = Obj.SYSCAL_MEAN then unsignedOf 32 p.mean else d.reg k := by
  have hfresh : (if d.cal.taken.isEmpty then d.fresh.2 else d).reg k = d.reg k := by
    split <;> rfl
  have htick : (if d.cal.taken.isEmpty then d.fresh.2 else d).tick = d.tick := by
    split <;> rfl
  unfold Dev.pointShown
  dsimp only
  rw [Dev.reg_setReg_eq, Dev.reg_setReg_eq, Dev.reg_setReg_eq, hfresh, htick]

theorem Dev.pointShown_rest (p : PointStats) : (d.pointShown p).cal = d.cal ∧ (d.pointShown p).flt = d.flt ∧ (d.pointShown p).tick = d.tick ∧
    (d.pointShown p).mem = d.mem ∧ (d.pointShown p).dict = d.dict ∧ (d.pointShown p).chans = d.chans := by
  unfold Dev.pointShown
  split <;> exact ⟨rfl, rfl, rfl, rfl, rfl, rfl⟩

/-- What becomes of a point that is judged. -/
def Dev.pointJudged (r : Bool × Nat × Nat) (p : PointStats) : Dev :=
  let u := d.pointShown p
  if d.judgeCode r p ≠ 0 then u.sysAbort (d.judgeCode r p)
  else if u.cal.full then
    let z := u.cal.zero.getD 0
    let g := (p.gain (signedOf 32 (u.reg Obj.SYSCAL_TRUE)) z).getD 0
    { u with cal := { u.cal with sys := .storing, newZ := z, newS := g } }
  else { u with cal := { u.cal with sys := .zeroDone, zero := some p.mean, zeroKey := some (n.val, b2n r.1, r.2.2) } }

/-- A full point whose judgement passes has a gain (R362, R363). -/
theorem Dev.judgeCode_gain (r : Bool × Nat × Nat) (p : PointStats) (h : d.judgeCode r p = 0) (hfull : d.cal.full = true) :
    p.gain (signedOf 32 (d.reg Obj.SYSCAL_TRUE)) (d.cal.zero.getD 0) =
      some ((p.gain (signedOf 32 (d.reg Obj.SYSCAL_TRUE)) (d.cal.zero.getD 0)).getD 0) := by
  cases hg : p.gain (signedOf 32 (d.reg Obj.SYSCAL_TRUE)) (d.cal.zero.getD 0) with
  | some x => rfl
  | none =>
    unfold Dev.judgeCode at h
    simp only [hg, hfull, Bool.true_and, Bool.and_true, if_true] at h
    repeat' split at h
    all_goals cases h

/-- The two words of a slot, written (R349, R363). -/
def Dev.slotWritten (slot : Nat) (z g : Int) : Dev :=
  (d.putScr (stallOf n) (chanWord n (0x20 + slot)) 0 bulkTe (BitVec.ofInt 64 z)).putScr (stallOf n) (chanWord n (0x30 + slot))
    1 bulkTe (BitVec.ofInt 64 (unity + g))

theorem Dev.slotWritten_scr (slot : Nat) (z g : Int)
    (h : ∀ y ∈ d.mem.stores, y.key ≠ coefKey n (0x20 + slot) ∧ y.key ≠ coefKey n (0x30 + slot)) :
    ∀ a, sget 0 (d.slotWritten n slot z g).mem.scr a = if a = coefKey n (0x30 + slot) then BitVec.ofInt 64 (unity + g)
      else if a = coefKey n (0x20 + slot) then BitVec.ofInt 64 z else sget 0 d.mem.scr a := by
  obtain ⟨w0, h0⟩ := d.putScr_newest (stallOf n) (chanWord n (0x20 + slot)) 0 bulkTe (BitVec.ofInt 64 z) (by decide)
    fun y hy hkey => absurd hkey (h y hy).1
  have hdiff : coefKey n (0x20 + slot) ≠ coefKey n (0x30 + slot) := by unfold coefKey chanWord; omega
  obtain ⟨w1, h1⟩ := (d.withStore ⟨coefKey n (0x20 + slot), 0, bulkTe, BitVec.ofInt 64 z, w0⟩).putScr_newest (stallOf n)
    (chanWord n (0x30 + slot)) 1 bulkTe (BitVec.ofInt 64 (unity + g)) (by decide) fun y hy hkey => by
      obtain rfl | hy := List.mem_cons.1 hy
      · exact absurd hkey hdiff
      · exact absurd hkey (h y hy).2
  have heq : d.slotWritten n slot z g = (d.withStore ⟨coefKey n (0x20 + slot), 0, bulkTe, BitVec.ofInt 64 z, w0⟩).withStore
      ⟨coefKey n (0x30 + slot), 1, bulkTe, BitVec.ofInt 64 (unity + g), w1⟩ := by
    unfold Dev.slotWritten
    rw [h0]
    exact h1
  intro a
  rw [heq]
  unfold Dev.withStore
  dsimp only
  rw [sget_sput, sget_sput]

theorem Dev.slotWritten_rest (slot : Nat) (z g : Int) :
    d.slotWritten n slot z g = { d with mem := (d.slotWritten n slot z g).mem } := rfl

/-- The calibration and its record, after both words are written. -/
def Dev.sysStored (r : Bool × Nat × Nat) : Dev :=
  let i := 10 * n.val + r.2.2
  let dc := if d.ec.sync0 then d.sync.dcNow.toNat / 1000000000 % 2 ^ 48 else 0
  let old := sget ⟨0, 0, 0, 0, 0⟩ d.cal.entries i
  let e : SysEntry := { z := d.cal.newZ, s := d.cal.newS, count := min 255 (old.count + 1), flags := 1, dc := dc }
  let u := d.slotWritten n r.2.2 d.cal.newZ d.cal.newS
  let u := { u with cal := { u.cal with sys := .done, zero := none, entries := sput ⟨0, 0, 0, 0, 0⟩ u.cal.entries i e } }
  ((u.setReg Obj.SYS_SEQ (bump 32 (u.reg Obj.SYS_SEQ))).setReg Obj.SYS_BANK (otherBank (u.reg Obj.SYS_BANK))).inc 32 Obj.SYS_COMMITS

theorem Dev.sysStored_regs (r : Bool × Nat × Nat) : (d.sysStored n r).reg Obj.SYS_COMMITS = bump 32 (d.reg Obj.SYS_COMMITS) := by
  have hwritten : (d.slotWritten n r.2.2 d.cal.newZ d.cal.newS).reg Obj.SYS_COMMITS = d.reg Obj.SYS_COMMITS :=
    Dev.reg_of_regs (congrArg Dev.regs (d.slotWritten_rest n r.2.2 d.cal.newZ d.cal.newS) :) _
  unfold Dev.sysStored Dev.inc
  dsimp only
  rw [Dev.reg_setReg_eq, if_pos rfl, Dev.reg_setReg_eq, if_neg (by decide), Dev.reg_setReg_eq, if_neg (by decide)]
  exact congrArg (bump 32) hwritten

theorem Dev.sysStored_rest (r : Bool × Nat × Nat) : (d.sysStored n r).cal.sys = .done ∧ (d.sysStored n r).flt = d.flt ∧
    (d.sysStored n r).tick = d.tick ∧ (d.sysStored n r).mem = (d.slotWritten n r.2.2 d.cal.newZ d.cal.newS).mem ∧
    (d.sysStored n r).chans = d.chans := by
  have hrest := d.slotWritten_rest n r.2.2 d.cal.newZ d.cal.newS
  unfold Dev.sysStored
  generalize d.slotWritten n r.2.2 d.cal.newZ d.cal.newS = u at hrest
  exact ⟨rfl, (congrArg Dev.flt hrest :), (congrArg Dev.tick hrest :), rfl, (congrArg Dev.chans hrest :)⟩
end
section
variable (d : Dev) (n : ChanId)

theorem Dev.pointJudged_aborts (r : Bool × Nat × Nat) (p : PointStats) (h : d.judgeCode r p ≠ 0) :
    d.pointJudged n r p = (d.pointShown p).sysAbort (d.judgeCode r p) := if_pos h

/-- An accepted zero point. -/
def Dev.zeroAccepted (r : Bool × Nat × Nat) (p : PointStats) : Dev :=
  { d with cal := { d.cal with sys := .zeroDone, zero := some p.mean, zeroKey := some (n.val, b2n r.1, r.2.2) } }

/-- A full point whose coefficients are to be stored. -/
def Dev.toStore (z g : Int) : Dev := { d with cal := { d.cal with sys := .storing, newZ := z, newS := g } }

theorem Dev.zeroAccepted_rest (r : Bool × Nat × Nat) (p : PointStats) :
    d.zeroAccepted n r p = { d with cal := (d.zeroAccepted n r p).cal } ∧ (d.zeroAccepted n r p).cal.sys = .zeroDone ∧
      (d.zeroAccepted n r p).cal.zero = some p.mean := ⟨rfl, rfl, rfl⟩

theorem Dev.toStore_rest (z g : Int) : d.toStore z g = { d with cal := (d.toStore z g).cal } ∧ (d.toStore z g).cal.sys = .storing ∧
    (d.toStore z g).cal.newZ = z ∧ (d.toStore z g).cal.newS = g := ⟨rfl, rfl, rfl, rfl⟩

theorem Dev.pointJudged_zero (r : Bool × Nat × Nat) (p : PointStats) (h : d.judgeCode r p = 0) (hfull : d.cal.full = false) :
    d.pointJudged n r p = (d.pointShown p).zeroAccepted n r p := by
  have hfull' : (d.pointShown p).cal.full = false := (congrArg CalDev.full (d.pointShown_rest p).1).trans hfull
  unfold Dev.pointJudged
  dsimp only
  rw [if_neg (not_not.2 h), if_neg (by simp [hfull'])]
  rfl

theorem Dev.pointJudged_full (r : Bool × Nat × Nat) (p : PointStats) (h : d.judgeCode r p = 0) (hfull : d.cal.full = true) :
    d.pointJudged n r p = (d.pointShown p).toStore (d.cal.zero.getD 0)
      ((p.gain (signedOf 32 (d.reg Obj.SYSCAL_TRUE)) (d.cal.zero.getD 0)).getD 0) := by
  have hcal := (d.pointShown_rest p).1
  have htrue : (d.pointShown p).reg Obj.SYSCAL_TRUE = d.reg Obj.SYSCAL_TRUE := by
    rw [d.pointShown_reg p, if_neg (by decide), if_neg (by decide), if_neg (by decide)]
  unfold Dev.pointJudged
  dsimp only
  rw [if_neg (not_not.2 h), if_pos (by rw [hcal]; exact hfull), htrue, hcal]
  unfold Dev.toStore
  rw [hcal]

end

/-- What every command of system calibration leaves. -/
def Dev.SysLeaves (n : ChanId) (d t : Dev) : Prop :=
  ((∀ m, m ≠ n → (t.ch m).force = (d.ch m).force) ∧ t.mem.dir = d.mem.dir ∧ t.mem.ledger = d.mem.ledger ∧ t.mem.progs = d.mem.progs) ∧
    t.mem.scr = d.mem.scr

theorem Dev.SysAround.leaves {n : ChanId} {d t : Dev} (h : Dev.SysAround n d t) : Dev.SysLeaves n d t := by
  unfold Dev.SysLeaves
  rw [h.mem]
  exact ⟨⟨h.force, rfl, rfl, rfl⟩, rfl⟩

/-- What a judged point shows, and leaves, as it settles. -/
theorem Dev.pointShown_shows (d : Dev) (n : ChanId) (p : PointStats) (t : Dev)
    (hreg : ∀ k, 0x224000 ≤ k → k < 0x250000 → k ≠ Obj.SYSCAL_ABORT → t.reg k = (d.pointShown p).reg k)
    (ha : Dev.SysAround n (d.pointShown p) t) :
    t.reg Obj.SYSCAL_MEAN = unsignedOf 32 p.mean ∧ t.reg Obj.SYSCAL_SD = min 0xFFFFFFFF p.sd ∧
      t.reg Obj.SYSCAL_RESULT_TICK = d.tick.toNat ∧ Dev.SysLeaves n d t := by
  obtain ⟨-, -, -, hmem, -, hchans⟩ := d.pointShown_rest p
  refine ⟨?_, ?_, ?_, ?_⟩
  · rw [hreg _ (by decide) (by decide) (by decide), d.pointShown_reg, if_neg (by decide), if_neg (by decide), if_pos rfl]
  · rw [hreg _ (by decide) (by decide) (by decide), d.pointShown_reg, if_neg (by decide), if_pos rfl]
  · rw [hreg _ (by decide) (by decide) (by decide), d.pointShown_reg, if_pos rfl]
  · unfold Dev.SysLeaves
    rw [ha.mem, hmem]
    exact ⟨⟨fun m hm => (ha.force m hm).trans (congrArg Channel.force (Dev.ch_of_chans hchans m)), rfl, rfl, rfl⟩, rfl⟩

/-- A command that is refused while a calibration is under way (R359). -/
theorem Dev.refuse_settles (d : Dev) (n : ChanId) (o : Nat) (hcalm : d.calm = true) :
    let t := (d.refuse o abState).settleFaults
    t.dict.abort = 0x08000022 ∧ t.cal = d.cal ∧ Dev.SysLeaves n d t := by
  have hminor := (Dev.Minor.of_calm hcalm).same (t := d.refuse o abState)
    ⟨Dev.refuse_due .., (congrArg FaultMgr.queue (d.refuse_faults o abState) :), (congrArg FaultMgr.escal (d.refuse_faults o abState) :), Dev.refuse_tick ..⟩
  have hm := hminor.settles
  have hforce : ∀ m, ((d.refuse o abState).ch m).force = (d.ch m).force := fun m => by rw [Dev.ch_of_chans (Dev.refuse_chans ..)]
  refine ⟨?_, hm.cal.trans (Dev.refuse_cal ..), ⟨fun m _ => (hm.force m).trans (hforce m), ?_, ?_, ?_⟩, ?_⟩
  · rw [hm.dict, Dev.refuse_dict]
    rfl
  all_goals rw [hm.mem, Dev.refuse_mem]

/-- What an accepted command leaves beside its answer. -/
theorem Dev.SysAround.accepted {n : ChanId} {d t : Dev} (h : Dev.SysAround n d.accept t) : Dev.SysLeaves n d t ∧ t.dict.abort = 0 := by
  refine ⟨?_, (congrArg Dict.abort h.dict).trans d.accept_abort⟩
  unfold Dev.SysLeaves
  rw [h.mem, Dev.accept_mem]
  exact ⟨⟨fun m hm => (h.force m hm).trans (congrArg Channel.force (d.accept_ch m)), rfl, rfl, rfl⟩, rfl⟩

theorem Dev.accept_calm (d : Dev) (h : d.calm = true) : d.accept.calm = true := Dev.calm_of_flt d.accept_flt d.accept_tick h
section
variable (d : Dev) (n : ChanId) (full : Bool)

/-- The module whose calibration has taken up a point, before the point begins. -/
structure Dev.PointTaken (t : Dev) : Prop where
  calm : t.calm = true
  tick : t.tick = d.tick
  kind : t.cal.full = full
  since : t.cal.since = d.tick
  zero : t.cal.zero = if full then d.cal.zero else none
  point : t.cal.point = some (n, d.sysRange n)
  sys : t.cal.sys = .waiting
  setpt : t.reg Obj.SYSCAL_SETPT = d.reg Obj.SYSCAL_SETPT
  around : Dev.SysAround n d.accept t

theorem Dev.sysStart_takes (hcalm : d.calm = true) (hfree : ¬ d.sysBusy) (hname : d.sysNamed = some n) (hcheck : d.sysCheck n full = 0) :
    ∃ v, Dev.PointTaken d n full v ∧ d.sysStart full = if d.injRunning n then v else v.sysBegin n := by
  obtain ⟨hapart, hforces, hinj⟩ := d.accept.sysPrepared_prepared n
  have hstart := d.sysStart_starts n full hfree hname hcheck
  have hrun : (d.accept.sysPrepared n).injRunning n = d.injRunning n := by
    rw [hinj.running]
    unfold Dev.injRunning
    rw [Dev.accept_ch]
  have hforce : ∀ m, ((d.accept.sysPrepared n).ch m).force = (d.accept.ch m).force := Dev.force_of_forces hforces
  generalize d.accept.sysPrepared n = u at hapart hstart hrun hforce
  obtain ⟨hflt, htick, hmem, hdict, hchans, hfull, hsince, hzero, hpoint, hsys, hreg⟩ := u.sysTaken_taken n full (d.sysRange n)
  have hrun' : (u.sysTaken n full (d.sysRange n)).injRunning n = d.injRunning n := hrun
  have hnow : u.tick = d.tick := hapart.tick.trans d.accept_tick
  refine ⟨u.sysTaken n full (d.sysRange n), ⟨?_, htick.trans hnow, hfull, hsince.trans hnow, ?_, hpoint, hsys, ?_, ?_⟩, ?_⟩
  · exact Dev.calm_of_flt (hflt.trans hapart.flt) (htick.trans hapart.tick) (d.accept_calm hcalm)
  · rw [hzero, hapart.cal, Dev.accept_cal]
  · rw [hreg, if_neg (by decide), hapart.regs _ (by decide) (by decide), Dev.accept_reg _ _ (by decide)]
  · exact ⟨hmem.trans hapart.mem, hdict.trans hapart.dict,
      fun m _ => (congrArg Channel.force (Dev.ch_of_chans hchans m)).trans (hforce m)⟩
  · dsimp only at hstart
    rw [hstart, hrun']

/-- The command of a point that passes every check (R359, R360). -/
theorem Dev.sysStart_settles (hcalm : d.calm = true) (hfree : ¬ d.sysBusy) (hname : d.sysNamed = some n) (hcheck : d.sysCheck n full = 0) :
    let t := (d.sysStart full).settleFaults
    t.cal.full = full ∧ t.cal.since = d.tick ∧ t.cal.zero = (if full then d.cal.zero else none) ∧
      t.cal.point = some (n, d.sysRange n) ∧ t.cal.sys = (if d.injRunning n then .waiting else .measuring) ∧
      (d.injRunning n = false → (t.ch n).force.target = BitVec.ofNat 20 (d.reg Obj.SYSCAL_SETPT) ∧ t.cal.begun = d.tick ∧
        t.reg Obj.SYSCAL_WAIT = 0) ∧ Dev.SysLeaves n d t := by
  obtain ⟨v, hv, hstart⟩ := d.sysStart_takes n full hcalm hfree hname hcheck
  rw [hstart]
  cases hi : d.injRunning n with
  | true =>
    have hm := (Dev.Minor.of_calm hv.calm).settles
    rw [if_pos rfl]
    generalize v.settleFaults = t at hm
    dsimp only
    rw [hm.cal]
    exact ⟨hv.kind, hv.since, hv.zero, hv.point, hv.sys, fun h => by simp at h, (hv.around.trans (.of_mild n hm)).accepted.1⟩
  | false =>
    obtain ⟨hcal, hflt, htick, hwait, htarget, hbegun⟩ := v.sysBegin_begins n
    have hm := (Dev.Minor.of_calm (Dev.calm_of_flt hflt htick hv.calm)).settles
    rw [if_neg Bool.false_ne_true]
    generalize v.sysBegin n = u at *
    generalize u.settleFaults = t at hm
    dsimp only
    rw [hm.cal, hcal, hm.force, htarget, hm.regs _ (by decide) (by decide), hwait, hv.setpt, hv.since, hv.tick]
    exact ⟨hv.kind, hv.since, hv.zero, hv.point, rfl, fun _ => ⟨rfl, rfl, by simp [ticksFrom]⟩,
      ((hv.around.trans hbegun).trans (.of_mild n hm)).accepted.1⟩
end

/-- A point whose wait is over begins (R360). -/
theorem Dev.sysBegin_settles (d : Dev) (n : ChanId) (hcalm : d.calm = true) :
    let t := (d.sysBegin n).settleFaults
    t.cal.sys = .measuring ∧ t.cal.begun = d.tick ∧ t.reg Obj.SYSCAL_WAIT = ticksFrom d.cal.since d.tick ∧
      (t.ch n).force.target = BitVec.ofNat 20 (d.reg Obj.SYSCAL_SETPT) ∧ Dev.SysLeaves n d t := by
  obtain ⟨hcal, hflt, htick, hwait, htarget, hbegun⟩ := d.sysBegin_begins n
  have hm := (Dev.Minor.of_calm (Dev.calm_of_flt hflt htick hcalm)).settles
  generalize d.sysBegin n = u at *
  generalize u.settleFaults = t at hm
  dsimp only
  rw [hm.cal, hcal, hm.force, htarget, hm.regs _ (by decide) (by decide), hwait]
  exact ⟨rfl, rfl, rfl, rfl, (hbegun.trans (.of_mild n hm)).leaves⟩

/-- A point whose calibration alone goes on is shown as it settles. -/
theorem Dev.pointShown_settles (d : Dev) (n : ChanId) (p : PointStats) (hcalm : d.calm = true) (u : Dev)
    (hu : u = { d.pointShown p with cal := u.cal }) (t : Dev) (ht : u.settleFaults = t) : t.cal = u.cal ∧
      (t.reg Obj.SYSCAL_MEAN = unsignedOf 32 p.mean ∧ t.reg Obj.SYSCAL_SD = min 0xFFFFFFFF p.sd ∧
        t.reg Obj.SYSCAL_RESULT_TICK = d.tick.toNat ∧ Dev.SysLeaves n d t) := by
  obtain ⟨-, hflt, htick, -⟩ := d.pointShown_rest p
  have hshows := d.pointShown_shows n p
  generalize d.pointShown p = v at *
  have hcalm' : u.calm = true := Dev.calm_of_flt ((congrArg Dev.flt hu :).trans hflt) ((congrArg Dev.tick hu :).trans htick) hcalm
  have hm := (Dev.Minor.of_calm hcalm').settles
  rw [ht] at hm
  have hreg : ∀ k, u.reg k = v.reg k := Dev.reg_of_regs (congrArg Dev.regs hu :)
  have hch : ∀ m, u.ch m = v.ch m := Dev.ch_of_chans (congrArg Dev.chans hu :)
  refine ⟨hm.cal, hshows _ (fun k hlo hhi _ => (hm.regs k hlo (.inl hhi)).trans (hreg k)) ⟨?_, ?_, fun m _ => ?_⟩⟩
  · exact hm.mem.trans (congrArg Dev.mem hu :)
  · exact hm.dict.trans (congrArg Dev.dict hu :)
  · exact (hm.force m).trans (congrArg Channel.force (hch m))

/-- A point is judged: it aborts with its code, is accepted as zero point, or gives what is to be stored (R361, R362). -/
theorem Dev.pointJudged_settles (d : Dev) (n : ChanId) (r : Bool × Nat × Nat) (p : PointStats) (hcalm : d.calm = true)
    (hpoint : d.cal.point = some (n, r)) (hsys : d.cal.sys = .measuring) :
    let t := (d.pointJudged n r p).settleFaults
    (t.reg Obj.SYSCAL_MEAN = unsignedOf 32 p.mean ∧ t.reg Obj.SYSCAL_SD = min 0xFFFFFFFF p.sd ∧
      t.reg Obj.SYSCAL_RESULT_TICK = d.tick.toNat ∧ Dev.SysLeaves n d t) ∧
    (d.judgeCode r p ≠ 0 → t.cal.sys = .aborted ∧ t.reg Obj.SYSCAL_ABORT = d.judgeCode r p) ∧
    (d.judgeCode r p = 0 → d.cal.full = false → t.cal.sys = .zeroDone ∧ t.cal.zero = some p.mean) ∧
    (d.judgeCode r p = 0 → d.cal.full = true → t.cal.sys = .storing ∧ t.cal.newZ = d.cal.zero.getD 0 ∧
      p.gain (signedOf 32 (d.reg Obj.SYSCAL_TRUE)) (d.cal.zero.getD 0) = some t.cal.newS) := by
  obtain ⟨hcal, hflt, htick, -⟩ := d.pointShown_rest p
  have hcalm' : (d.pointShown p).calm = true := Dev.calm_of_flt hflt htick hcalm
  have hminor := Dev.Minor.of_calm hcalm'
  have hshows := d.pointShown_shows n p
  have hchan : (d.pointShown p).sysChan = some n := by
    unfold Dev.sysChan Dev.sysActive
    rw [hcal, hsys, hpoint]
    rfl
  by_cases hcode : d.judgeCode r p = 0
  · cases hfull : d.cal.full with
    | false =>
      obtain ⟨hrest, hdone, hzero⟩ := (d.pointShown p).zeroAccepted_rest n r p
      obtain ⟨hcal', hshown⟩ := d.pointShown_settles n p hcalm ((d.pointShown p).zeroAccepted n r p) hrest _ rfl
      rw [d.pointJudged_zero n r p hcode hfull]
      generalize ((d.pointShown p).zeroAccepted n r p).settleFaults = t at hcal' hshown
      dsimp only
      rw [hcal']
      exact ⟨hshown, fun h => absurd hcode h, fun _ _ => ⟨hdone, hzero⟩, fun _ h => absurd h Bool.false_ne_true⟩
    | true =>
      have hgain := d.judgeCode_gain r p hcode hfull
      have hjudged := d.pointJudged_full n r p hcode hfull
      generalize (p.gain (signedOf 32 (d.reg Obj.SYSCAL_TRUE)) (d.cal.zero.getD 0)).getD 0 = g at hgain hjudged
      obtain ⟨hrest, hstoring, hz, hg⟩ := (d.pointShown p).toStore_rest (d.cal.zero.getD 0) g
      obtain ⟨hcal', hshown⟩ := d.pointShown_settles n p hcalm ((d.pointShown p).toStore (d.cal.zero.getD 0) g) hrest _ rfl
      rw [hjudged]
      generalize ((d.pointShown p).toStore (d.cal.zero.getD 0) g).settleFaults = t at hcal' hshown
      dsimp only
      rw [hcal', hg]
      exact ⟨hshown, fun h => absurd hcode h, fun _ h => absurd h.symm Bool.false_ne_true, fun _ _ => ⟨hstoring, hz, hgain⟩⟩
  · obtain ⟨hsys', habort, hreg, haround⟩ := hminor.sysAbort_settles _ n (d.judgeCode r p) hchan
    rw [d.pointJudged_aborts n r p hcode]
    generalize ((d.pointShown p).sysAbort (d.judgeCode r p)).settleFaults = t at *
    exact ⟨hshows _ hreg haround, fun _ => ⟨hsys', habort⟩, fun h => absurd h hcode, fun h => absurd h hcode⟩

/-- Both words of a slot are stored, and the channel returns to its start value (R363, R366). -/
theorem Dev.sysStored_settles (d : Dev) (n : ChanId) (r : Bool × Nat × Nat) (hcalm : d.calm = true)
    (h : ∀ y ∈ d.mem.stores, y.key ≠ coefKey n (0x20 + r.2.2) ∧ y.key ≠ coefKey n (0x30 + r.2.2)) :
    let t := ((d.sysStored n r).startValue n).settleFaults
    t.cal.sys = .done ∧
      (∀ a, sget 0 t.mem.scr a = if a = coefKey n (0x30 + r.2.2) then BitVec.ofInt 64 (unity + d.cal.newS)
        else if a = coefKey n (0x20 + r.2.2) then BitVec.ofInt 64 d.cal.newZ else sget 0 d.mem.scr a) ∧
      t.reg Obj.SYS_COMMITS = bump 32 (d.reg Obj.SYS_COMMITS) ∧ (∀ m, m ≠ n → (t.ch m).force = (d.ch m).force) ∧
      t.mem.dir = d.mem.dir ∧ t.mem.ledger = d.mem.ledger ∧ t.mem.progs = d.mem.progs := by
  have hscr := d.slotWritten_scr n r.2.2 d.cal.newZ d.cal.newS h
  obtain ⟨hsys, hflt, htick, hmem, hchans⟩ := d.sysStored_rest n r
  have hcommits := d.sysStored_regs n r
  have hframe : (d.slotWritten n r.2.2 d.cal.newZ d.cal.newS).mem.dir = d.mem.dir ∧
      (d.slotWritten n r.2.2 d.cal.newZ d.cal.newS).mem.ledger = d.mem.ledger ∧
      (d.slotWritten n r.2.2 d.cal.newZ d.cal.newS).mem.progs = d.mem.progs := ⟨rfl, rfl, rfl⟩
  rw [← hmem] at hscr hframe
  generalize d.sysStored n r = u at *
  have hapart := Dev.Apart.startValue u n
  have hput := u.staysPut_startValue n
  have hm := (Dev.Minor.of_calm (hapart.calm (Dev.calm_of_flt hflt htick hcalm))).settles
  generalize u.startValue n = v at *
  generalize v.settleFaults = t at hm
  dsimp only
  rw [hm.cal, hapart.cal, hm.mem, hapart.mem, hm.regs _ (by decide) (by decide), hapart.regs _ (by decide) (by decide)]
  exact ⟨hsys, hscr, hcommits, fun m hne => (hm.force m).trans ((hput.others m hne).trans (congrArg Channel.force (Dev.ch_of_chans hchans m))),
    hframe⟩

end Sys2Proof.Machine

namespace Sys2Proof
open Machine

section
variable (s : State) (n : ChanId) (r : Bool × Nat × Nat)

/-- The command of a point. -/
def pointCmd (full : Bool) : Instr := if full then .syscalCmdFull else .syscalCmdZero

theorem exec_pointCmd (full : Bool) (hlive : s.live) :
    exec (pointCmd full) s = .next (s.atCommit (s.dev.sysStart full).settleFaults) := by
  cases full
  · exact next_at hlive (show execSyscalCmdZero s = _ from rfl) rfl
  · exact next_at hlive (show execSyscalCmdFull s = _ from rfl) rfl

theorem exec_syscalCmdAbort (hlive : s.live) : exec .syscalCmdAbort s = .next (s.atCommit s.dev.sysHostAbort.settleFaults) :=
  next_at hlive (show execSyscalCmdAbort s = _ from rfl) rfl

theorem exec_pointBegin (hlive : s.live) (hpoint : s.dev.cal.point = some (n, r)) (hsys : s.dev.cal.sys = .waiting) :
    exec .syscalPointBegin s = .next (s.atCommit (if s.dev.injRunning n then s.dev else (s.dev.sysBegin n).settleFaults)) := by
  have hchan : s.dev.sysChan = some n := by
    have hactive : s.dev.sysActive = true := by
      unfold Dev.sysActive
      rw [hsys]
    unfold Dev.sysChan
    rw [if_pos hactive, hpoint]
    rfl
  refine next_at hlive (show execSyscalPointBegin s = _ from rfl) ?_
  simp only [hchan, hsys, beq_self_eq_true, Bool.true_and]
  cases s.dev.injRunning n <;> rfl

theorem exec_pointJudged (hlive : s.live) (hpoint : s.dev.cal.point = some (n, r)) (hsys : s.dev.cal.sys = .measuring)
    (hmeas : 256 ≤ s.dev.cal.meas) (hend : reached s.dev.tick (s.dev.cal.measEnd + 1) = true) :
    exec .syscalPointJudged s = .next (s.atCommit (s.dev.pointJudged n r (pointStats s.dev.pointMeans)).settleFaults) := by
  refine next_at hlive (show execSyscalPointJudged s = _ from rfl) ?_
  simp only [hpoint]
  rw [if_neg (by rw [hsys, hend]; simp [Nat.not_lt.2 hmeas])]
  rfl

theorem exec_storeDone_stores (hlive : s.live) (hpoint : s.dev.cal.point = some (n, r)) (hsys : s.dev.cal.sys = .storing) :
    exec (.syscalStoreDone true) s = .next (s.atCommit (((s.dev.storeOutcome true).sysStored n r).startValue n).settleFaults) := by
  refine next_at hlive (show execSyscalStoreDone true s = _ from rfl) ?_
  simp only [hpoint, hsys, bne_self_eq_false, Bool.false_eq_true, if_false, Bool.not_true]
  rfl

theorem exec_storeDone_fails (hlive : s.live) (hpoint : s.dev.cal.point = some (n, r)) (hsys : s.dev.cal.sys = .storing) :
    exec (.syscalStoreDone false) s = .next (s.atCommit ((s.dev.storeOutcome false).sysAbort 0xE).settleFaults) := by
  refine next_at hlive (show execSyscalStoreDone false s = _ from rfl) ?_
  simp only [hpoint, hsys, bne_self_eq_false, Bool.false_eq_true, if_false, Bool.not_false, if_true]

end

/-- Settles O48: a command by `Dev.sysStart_busy`, `_refuses` and `_starts`, an abort by `Dev.Minor.sysAbort_settles`, a judged point by
`Dev.pointJudged` and a stored one by `Dev.slotWritten_scr`; the entries of class F1 settle and leave all of it. -/
theorem systemCalibrationPoints : Obligations.SystemCalibrationPoints := by
  intro s n r a full hlive hcalm
  have hminor := Dev.Minor.of_calm hcalm
  refine ⟨fun hbusy => ⟨?_, ?_⟩, fun hfree hname => ⟨fun hidle hcheck => ?_, fun hcheck => ?_⟩, fun hsys hpoint => ?_, fun hidle => ?_,
    fun hpoint => ⟨fun hsys hinj => ?_, fun hsys hinj => ?_, fun hsys hmeas hend => ?_, fun hsys hslot hstores => ⟨?_, ?_⟩⟩⟩
  · refine ⟨_, exec_pointCmd s full hlive, ?_⟩
    rw [s.dev.sysStart_busy full hbusy]
    exact s.dev.refuse_settles n Obj.SYSCAL_CMD hcalm
  · refine ⟨_, exec_syscalCmdAbort s hlive, ?_⟩
    rw [s.dev.sysHostAbort_busy hbusy]
    exact s.dev.refuse_settles n Obj.SYSCAL_CMD hcalm
  · refine ⟨_, exec_pointCmd s full hlive, ?_⟩
    rw [s.dev.sysStart_refuses n full hfree hname hcheck]
    have hname' : s.dev.accept.sysNamed = some n := by
      unfold Dev.sysNamed at hname ⊢
      simp only [s.dev.accept_reg Obj.SYSCAL_CH (by decide)]
      exact hname
    have hidle' : s.dev.accept.sysActive = false := by
      unfold Dev.sysActive at hidle ⊢
      rw [Dev.accept_cal]
      exact hidle
    obtain ⟨hsys, habort, haround, hforce⟩ :=
      (Dev.Minor.of_calm (s.dev.accept_calm hcalm)).sysRefuse_settles _ n (s.dev.sysCheck n full) hidle' hname'
    exact ⟨hsys, habort, hforce.trans (congrArg Channel.force (s.dev.accept_ch n)), haround.accepted.1⟩
  · refine ⟨_, exec_pointCmd s full hlive, ?_⟩
    have h := s.dev.sysStart_settles n full hcalm hfree hname hcheck
    generalize (s.dev.sysStart full).settleFaults = t at h ⊢
    exact h
  · have hchan : s.dev.accept.sysChan = some n := by
      unfold Dev.sysChan Dev.sysActive
      rw [Dev.accept_cal, hsys]
      exact hpoint
    refine ⟨_, exec_syscalCmdAbort s hlive, ?_⟩
    rw [s.dev.sysHostAbort_zeroDone hsys]
    obtain ⟨hsys', habort, -, haround⟩ := (Dev.Minor.of_calm (s.dev.accept_calm hcalm)).sysAbort_settles _ n 0xC hchan
    generalize (s.dev.accept.sysAbort 0xC).settleFaults = t at *
    exact ⟨hsys', habort, haround.accepted.2, haround.accepted.1⟩
  · refine ⟨_, exec_syscalCmdAbort s hlive, ?_⟩
    rw [s.dev.sysHostAbort_inactive hidle]
    have hm := (Dev.Minor.of_calm (s.dev.accept_calm hcalm)).settles
    generalize s.dev.accept.settleFaults = t at hm ⊢
    have haround := (Dev.SysAround.of_mild n hm).accepted
    exact ⟨hm.cal.trans s.dev.accept_cal, haround.2, haround.1⟩
  · refine ⟨_, exec_pointBegin s n r hlive hpoint hsys, ?_⟩
    have h := s.dev.sysBegin_settles n hcalm
    rw [hinj, if_neg Bool.false_ne_true]
    generalize (s.dev.sysBegin n).settleFaults = t at h ⊢
    exact h
  · refine ⟨_, exec_pointBegin s n r hlive hpoint hsys, ?_⟩
    rw [hinj, if_pos rfl]
    rfl
  · obtain ⟨⟨hmean, hsd, hresult, hothers, hscr⟩, hcases⟩ :=
      s.dev.pointJudged_settles n r (pointStats s.dev.pointMeans) hcalm hpoint hsys
    exact ⟨_, exec_pointJudged s n r hlive hpoint hsys hmeas hend, hmean, hsd, hresult, hothers, hscr, hcases⟩
  · obtain ⟨hsys', hscr, hcommits, hothers⟩ := (s.dev.storeOutcome true).sysStored_settles n r (Dev.calm_of_flt rfl rfl hcalm) hstores
    refine ⟨_, exec_storeDone_stores s n r hlive hpoint hsys, hsys', hscr a, ?_, hothers⟩
    exact hcommits.trans (congrArg (bump 32) (s.dev.storeOutcome_reg true _ (by decide)))
  · have hchan : (s.dev.storeOutcome false).sysChan = some n := by
      have hactive : (s.dev.storeOutcome false).sysActive = true := by
        unfold Dev.sysActive
        rw [show (s.dev.storeOutcome false).cal.sys = .storing from hsys]
      unfold Dev.sysChan
      rw [if_pos hactive]
      exact congrArg (Option.map (·.1)) hpoint
    have hm : (s.dev.storeOutcome false).Minor := hminor.same ⟨rfl, rfl, rfl, rfl⟩
    obtain ⟨hsys', habort, -, haround⟩ := hm.sysAbort_settles _ n 0xE hchan
    refine ⟨_, exec_storeDone_fails s n r hlive hpoint hsys, hsys', habort, ?_⟩
    exact haround.leaves
end Sys2Proof
end

section
namespace Sys2Proof.Machine
open Sys2Proof

/-! ## The objects of the EtherCAT load (R421) -/

/-- A load keeps the channels, the ledger and the directory. -/
structure Dev.LoadKeeps (d t : Dev) : Prop where
  chans  : t.chans = d.chans
  ledger : t.mem.ledger = d.mem.ledger
  dir    : t.mem.dir = d.mem.dir

theorem Dev.LoadKeeps.of_mem {d t : Dev} (hchans : t.chans = d.chans) (hmem : t.mem = d.mem) : Dev.LoadKeeps d t :=
  ⟨hchans, congrArg Memories.ledger hmem, congrArg Memories.dir hmem⟩

/-- A refused write answers with its code, and keeps the load and the memories. -/
theorem Dev.refuse_loads (d : Dev) (o a : Nat) : (d.refuse o a).load = d.load ∧ (d.refuse o a).mem = d.mem ∧
    (d.refuse o a).dict.abort = a ∧ Dev.LoadKeeps d (d.refuse o a) :=
  ⟨d.refuse_load o a, d.refuse_mem o a, congrArg Dict.abort (d.refuse_dict o a), .of_mem (d.refuse_chans o a) (d.refuse_mem o a)⟩

theorem Dev.loadBegin_begins (d : Dev) (hbegun : d.load.begun = false) (hbusy : d.load.busy = false) :
    d.loadBegin.load = { d.load with staging := [], begun := true } ∧ d.loadBegin.reg Obj.LOAD_BYTES = 0 ∧
      d.loadBegin.dict.abort = 0 ∧ Dev.LoadKeeps d d.loadBegin := by
  unfold Dev.loadBegin
  rw [if_neg (by simp [Dev.loadBusy, hbegun, hbusy])]
  refine ⟨congrArg (fun l : LoadUnit => { l with staging := [], begun := true }) d.accept_load, ?_, d.accept_abort,
    .of_mem d.accept_chans d.accept_mem⟩
  exact (Dev.reg_setReg_eq ..).trans (if_pos rfl)

theorem Dev.loadBegin_refused (d : Dev) (h : d.load.begun = true ∨ d.load.busy = true) :
    d.loadBegin = d.refuse Obj.LOAD_CMD abState :=
  if_pos (by simpa [Dev.loadBusy] using h)

theorem Dev.loadData_appends (d : Dev) (bytes : List Byte) (hne : bytes ≠ []) (hmax : bytes.length ≤ 1024)
    (hbegun : d.load.begun = true) (hbusy : d.load.busy = false) :
    let t := d.loadData bytes
    t.load = { d.load with staging := d.load.staging ++ bytes } ∧
      t.reg Obj.LOAD_BYTES = (d.load.staging ++ bytes).length ∧ t.dict.abort = 0 ∧ Dev.LoadKeeps d t := by
  unfold Dev.loadData
  rw [if_neg (by simp [hne]; omega), if_neg (by simp [hbegun, hbusy])]
  exact ⟨rfl, (Dev.reg_setReg_eq d.accept ..).trans (if_pos rfl), d.accept_abort, .of_mem d.accept_chans d.accept_mem⟩

theorem Dev.loadData_refused (d : Dev) (bytes : List Byte) (hne : bytes ≠ []) (hmax : bytes.length ≤ 1024)
    (hbegun : d.load.begun = false) : d.loadData bytes = d.refuse Obj.LOAD_DATA abState := by
  unfold Dev.loadData
  rw [if_neg (by simp [hne]; omega), if_pos (by simp [hbegun])]

/-- A submitted load whose descriptor holds goes to verification. -/
theorem Dev.loadSubmit_submits (d : Dev) (hbegun : d.load.begun = true) (hbusy : d.load.busy = false)
    (hdesc : descCode d.ecatDesc = 0) :
    let t := d.loadSubmit
    t.load = { d.load with busy := true } ∧ t.mem = d.mem ∧ t.dict.abort = 0 ∧ Dev.LoadKeeps d t := by
  have hreg : ∀ (x : LoadUnit) (k : Nat), k ≠ Obj.LAST_WRITE_TICK → ({ d.accept with load := x }).reg k = d.reg k :=
    fun _ k hk => d.accept_reg k hk
  unfold Dev.loadSubmit
  rw [if_neg (by simp [hbegun, hbusy])]
  dsimp only
  have hupdate : ∀ t : Dev, (if t.reg Obj.LOAD_TYPE = 5 then t.setReg Obj.UPDATE_STATE 1 else t).ecatDesc = t.ecatDesc := by
    intro t
    split
    · unfold Dev.ecatDesc
      simp only [Dev.reg_setReg_eq]
      rfl
    · rfl
  have hsame : ({ d.accept with load := { d.load with busy := true } }).ecatDesc = d.ecatDesc := by
    unfold Dev.ecatDesc
    rw [hreg _ _ (by decide), hreg _ _ (by decide), hreg _ _ (by decide), hreg _ _ (by decide)]
  have hcode := congrArg descCode ((hupdate _).trans hsame)
  rw [hdesc] at hcode
  rw [if_neg (not_not_intro hcode)]
  split
  · exact ⟨rfl, d.accept_mem, d.accept_abort, .of_mem d.accept_chans d.accept_mem⟩
  · exact ⟨rfl, d.accept_mem, d.accept_abort, .of_mem d.accept_chans d.accept_mem⟩

theorem Dev.loadSubmit_refused (d : Dev) (hbegun : d.load.begun = false) : d.loadSubmit = d.refuse Obj.LOAD_CMD abState :=
  if_pos (by simp [hbegun])

/-- What a refused or answered load leaves: the memories, the channels, the claims, the answer of the write. -/
structure Dev.LoadEnds (d t : Dev) : Prop where
  mem    : t.mem = d.mem
  chans  : t.chans = d.chans
  claims : t.load.claims = d.load.claims
  dict   : t.dict = d.dict

theorem Dev.loadAnswer_ends (d : Dev) (bulk : Bool) (code done : Nat) : Dev.LoadEnds d (d.loadAnswer bulk code done) := by
  obtain ⟨regs, pcie, load, heq, hclaims⟩ := d.loadAnswer_eq bulk code done
  rw [heq]
  exact ⟨rfl, rfl, hclaims, rfl⟩

theorem Dev.loadRefuse_ends (d : Dev) (bulk : Bool) (code : Nat) : Dev.LoadEnds d (d.loadRefuse bulk code) := by
  have h := d.loadAnswer_ends bulk code 0
  exact ⟨(Dev.violate_mem ..).trans h.mem, (Dev.violate_chans ..).trans h.chans,
    (congrArg LoadUnit.claims (Dev.violate_load ..)).trans h.claims, (Dev.violate_dict ..).trans h.dict⟩

/-- A reset of a link's loads with none that claims or waits. -/
theorem Dev.loadsReset_ends (d : Dev) (bulk : Bool) (hclaims : d.load.claims = []) : Dev.LoadEnds d (d.loadsReset bulk) := by
  have hfold : ∀ (l : List Nat) (x : Dev), Dev.LoadEnds x (l.foldl (fun d _ => d.loadRefuse bulk 0xA) x) := by
    intro l
    induction l with
    | nil => exact fun x => ⟨rfl, rfl, rfl, rfl⟩
    | cons i l ih =>
      intro x
      have h := x.loadRefuse_ends bulk 0xA
      have h' := ih (x.loadRefuse bulk 0xA)
      exact ⟨h'.mem.trans h.mem, h'.chans.trans h.chans, h'.claims.trans h.claims, h'.dict.trans h.dict⟩
  unfold Dev.loadsReset
  dsimp only
  obtain ⟨hm, hc, hl, hd⟩ := hfold (List.range _) _
  exact ⟨hm, hc, hl.trans (by rw [hclaims]; rfl), hd⟩

theorem Dev.loadAbandon_abandons (d : Dev) (hbusy : d.load.begun = true ∨ d.load.busy = true) (hclaims : d.load.claims = []) :
    let t := d.loadAbandon
    t.load = { d.load with staging := [], begun := false, busy := false } ∧ t.reg Obj.LOAD_STATUS = 0x800A ∧
      t.dict.abort = 0 ∧ Dev.LoadKeeps d t := by
  unfold Dev.loadAbandon
  dsimp only
  rw [if_neg (by simpa [Dev.loadBusy, or_iff_not_imp_left] using hbusy)]
  have h := d.accept.loadsReset_ends false (by rw [d.accept_load]; exact hclaims)
  refine ⟨?_, (Dev.reg_setReg_eq ..).trans (if_pos rfl), (congrArg Dict.abort h.dict).trans d.accept_abort,
    .of_mem (h.chans.trans d.accept_chans) (h.mem.trans d.accept_mem)⟩
  exact congrArg (fun c => ({ staging := [], begun := false, busy := false, claims := c } : LoadUnit))
    (h.claims.trans (congrArg LoadUnit.claims d.accept_load))

/-! ## Packages (R300, R302) -/

/-- A package has been put into effect: programs, sets and device objects differ at most. -/
def Dev.Installs (d t : Dev) : Prop := ∃ regs progs sets,
  t = { d with regs := regs, mem := { d.mem with progs := progs, sets := sets } }

namespace Dev.Installs

theorem refl (d : Dev) : Dev.Installs d d := ⟨_, _, _, rfl⟩

theorem trans {d t u : Dev} (h : Dev.Installs d t) (h' : Dev.Installs t u) : Dev.Installs d u := by
  obtain ⟨_, _, _, rfl⟩ := h
  obtain ⟨_, _, _, rfl⟩ := h'
  exact ⟨_, _, _, rfl⟩

theorem foldl {α : Type} {f : Dev → α → Dev} (hf : ∀ d x, Dev.Installs d (f d x)) (l : List α) (d : Dev) :
    Dev.Installs d (l.foldl f d) := by
  induction l generalizing d with
  | nil => exact refl d
  | cons x l ih => exact (hf d x).trans (ih _)

theorem keeps {d t : Dev} (h : Dev.Installs d t) : Dev.LoadKeeps d t := by
  obtain ⟨_, _, _, rfl⟩ := h
  exact ⟨rfl, rfl, rfl⟩

theorem putPackage (lib : Bool) (d : Dev) (p : Package) : Dev.Installs d (d.putPackage lib p) := by
  unfold Dev.putPackage
  dsimp only
  refine .trans (.trans (foldl (fun d s => foldl (fun d q => ⟨_, _, _, rfl⟩) _ d) _ _) (foldl (fun d n => ?_) _ _))
    (foldl (fun d s => ⟨_, _, _, rfl⟩) _ _)
  split
  · exact foldl (fun d x => ⟨_, _, _, rfl⟩) _ _
  · exact refl d

end Dev.Installs

/-- The module with another state of the trust core. -/
def Dev.withSec (x : Sec) (d : Dev) : Dev := { d with sec := x }

/-- A program of a package is in effect on a stall; `lib` marks the image's library. -/
def Dev.putProg (lib : Bool) (p : Package) (s : StallId) (d : Dev) (q : PackageProg) : Dev :=
  { d with mem := { d.mem with
      progs := sput none d.mem.progs (4096 * s.val + q.id) (some { caps := p.caps, lib := lib, words := q.words }) } }

/-- A set of a package is in effect on a channel. -/
def Dev.putSet (p : Package) (n : ChanId) (d : Dev) (x : PackageSet) : Dev :=
  let us := match checkSet x.urgent x.progs (d.progAfter p (stallOf n)) (fun _ => none) with | .ok us => us | .error _ => []
  { d with mem := { d.mem with
      sets := sput none d.mem.sets (64 * n.val + x.set) (some { urgent := x.urgent, progs := x.progs, cycles := us }) } }

/-- The programs of a stall are counted. -/
def Dev.countProgs (d : Dev) (s : StallId) : Dev :=
  let mine := d.mem.progs.filter fun e => e.1 / 4096 == s.val && e.2.isSome
  let words := mine.foldl (fun m e => m + (match e.2 with | some q => q.words.length | none => 0)) 0
  (d.setReg (Obj.PROG_WORDS s.val) words).setReg (Obj.PROG_IDS s.val) mine.length

/-- What a package puts into effect does not depend on the trust core. -/
theorem Dev.putPackage_withSec (d : Dev) (x : Sec) (lib : Bool) (p : Package) :
    (d.withSec x).putPackage lib p = (d.putPackage lib p).withSec x := by
  have hfold : ∀ {α : Type} (f : Dev → α → Dev), (∀ t a, f (t.withSec x) a = (f t a).withSec x) → ∀ (l : List α) (t : Dev),
      l.foldl f (t.withSec x) = (l.foldl f t).withSec x :=
    fun f hf l t => List.foldl_hom (Dev.withSec x) (fun t a => hf t a)
  unfold Dev.putPackage
  dsimp only
  have hprogs := hfold (fun d s => p.progs.foldl (Dev.putProg lib p s) d) (fun t s => hfold _ (fun t q => rfl) _ t) (packageStalls p) d
  have hsets := fun t => hfold (fun d n => if bit p.mask n.val then p.sets.foldl (Dev.putSet p n) d else d) (fun t n => by
    split
    · exact hfold _ (fun t q => rfl) _ t
    · rfl) (List.finRange 64) t
  have hcounts := fun t => hfold Dev.countProgs (fun t s => rfl) (packageStalls p) t
  exact (congrArg (List.foldl Dev.countProgs · _) ((congrArg (List.foldl _ · _) hprogs).trans (hsets _))).trans (hcounts _)

set_option maxRecDepth 4096 in
theorem Dev.violate_reg (d : Dev) (a b c e : Nat) {k : Nat} (hk : k ≠ Obj.VLOG_LOST) : (d.violate a b c e).reg k = d.reg k := by
  have hlost : ∀ (lost : Bool) (t : Dev), ((if lost then t.inc 32 Obj.VLOG_LOST else t).raiseIrq 6).reg k = t.reg k := by
    intro lost t
    cases lost
    · rfl
    · exact (Dev.reg_setReg_eq t ..).trans (if_neg hk)
  exact hlost _ _

theorem Dev.loadAnswer_reg (d : Dev) (bulk : Bool) (code done : Nat) {k : Nat} (hstatus : k ≠ Obj.LOAD_STATUS)
    (hdone : k ≠ Obj.LOAD_DONE_TICK) : (d.loadAnswer bulk code done).reg k = d.reg k := by
  have hset : ∀ (t : Dev) (v : Nat), (t.setReg Obj.LOAD_STATUS v).reg k = t.reg k := fun t v =>
    (Dev.reg_setReg_eq ..).trans (if_neg hstatus)
  unfold Dev.loadAnswer
  dsimp only
  split
  · split
    · split <;> rfl
    · rfl
  · split
    · split
      · exact (Dev.reg_setReg_eq ..).trans ((if_neg hdone).trans (hset _ _))
      · exact hset _ _
    · rfl

theorem Dev.loadRefuse_reg (d : Dev) (bulk : Bool) (code : Nat) {k : Nat} (hlost : k ≠ Obj.VLOG_LOST)
    (hstatus : k ≠ Obj.LOAD_STATUS) (hdone : k ≠ Obj.LOAD_DONE_TICK) : (d.loadRefuse bulk code).reg k = d.reg k :=
  (Dev.violate_reg _ _ _ _ _ hlost).trans (d.loadAnswer_reg bulk code 0 hstatus hdone)

/-- The load of a package is answered by its result: done, or refused. -/
def Dev.packageAnswer (d : Dev) (bulk : Bool) : Dev :=
  if d.reg Obj.LOAD_RESULT = 0 then d.loadAnswer bulk 0 d.tick.toNat else d.loadRefuse bulk 8

theorem Dev.packageAnswer_ends (d : Dev) (bulk : Bool) : Dev.LoadEnds d (d.packageAnswer bulk) := by
  unfold Dev.packageAnswer
  split
  · exact d.loadAnswer_ends ..
  · exact d.loadRefuse_ends ..

theorem Dev.packageAnswer_reg (d : Dev) (bulk : Bool) {k : Nat} (hlost : k ≠ Obj.VLOG_LOST)
    (hstatus : k ≠ Obj.LOAD_STATUS) (hdone : k ≠ Obj.LOAD_DONE_TICK) : (d.packageAnswer bulk).reg k = d.reg k := by
  unfold Dev.packageAnswer
  split
  · exact d.loadAnswer_reg bulk _ _ hstatus hdone
  · exact d.loadRefuse_reg bulk 8 hlost hstatus hdone

theorem exec_programPackage {s : State} {bulk : Bool} {v : Verdict} (hlive : s.live) (h : s.dev.firstPassed 3 bulk = some v) :
    exec (.programPackage bulk) s =
      .next (s.atCommit (((s.dev.dropPassed v).package (packageOf v.body)).packageAnswer bulk)) :=
  next_at hlive (show execProgramPackage bulk s = _ from rfl) (by rw [Dev.takePassed_eq, h]; rfl)

/-- A package that meets no refusal is in effect as a whole (R300). -/
theorem Dev.package_accepted (d : Dev) (v : Verdict) (p : Package) (bulk : Bool) (h : d.contentBad p = none) :
    let t := ((d.dropPassed v).package p).packageAnswer bulk
    t.mem = (d.putPackage false p).mem ∧ t.reg Obj.LOAD_RESULT = 0 ∧ t.reg Obj.LOAD_TICK = d.tick.toNat ∧ Dev.LoadKeeps d t := by
  have hput : (d.dropPassed v).putPackage false p = (d.putPackage false p).withSec _ := d.putPackage_withSec _ false p
  obtain ⟨hchans, hledger, hdir⟩ := (Dev.Installs.putPackage false d p).keeps
  have hpackage : (d.dropPassed v).package p = ((((d.dropPassed v).putPackage false p).setReg Obj.LOAD_RESULT 0).setReg
      Obj.LOAD_DETAIL 0).setReg Obj.LOAD_TICK d.tick.toNat := by
    unfold Dev.package
    rw [show (d.dropPassed v).contentBad p = none from h]
    rfl
  have hends := ((d.dropPassed v).package p).packageAnswer_ends bulk
  have hmem : ((d.dropPassed v).package p).mem = (d.putPackage false p).mem := by
    rw [hpackage]
    exact (congrArg Dev.mem hput :)
  have hchans' : ((d.dropPassed v).package p).chans = d.chans := by
    rw [hpackage]
    exact (congrArg Dev.chans hput :).trans hchans
  have hkept := hends.mem.trans hmem
  refine ⟨hkept, ?_, ?_, hends.chans.trans hchans', (congrArg Memories.ledger hkept).trans hledger,
    (congrArg Memories.dir hkept).trans hdir⟩
  · rw [Dev.packageAnswer_reg _ _ (by decide) (by decide) (by decide), hpackage, Dev.reg_setReg_eq, if_neg (by decide),
      Dev.reg_setReg_eq, if_neg (by decide), Dev.reg_setReg_eq, if_pos rfl]
  · rw [Dev.packageAnswer_reg _ _ (by decide) (by decide) (by decide), hpackage, Dev.reg_setReg_eq, if_pos rfl]

/-- A package that meets a refusal changes no memory, and its code shows (R300). -/
theorem Dev.package_refused (d : Dev) (v : Verdict) (p : Package) (bulk : Bool) {bad : Nat × Nat × Nat × Nat}
    (h : d.contentBad p = some bad) :
    let t := ((d.dropPassed v).package p).packageAnswer bulk
    t.mem = d.mem ∧ t.reg Obj.LOAD_RESULT = bad.1 ∧ Dev.LoadKeeps d t := by
  obtain ⟨code, set', slot, word⟩ := bad
  have hpackage : (d.dropPassed v).package p = (((d.dropPassed v).setReg Obj.LOAD_RESULT code).setReg Obj.LOAD_DETAIL
      (code * 2 ^ 24 + set' * 2 ^ 18 + slot * 2 ^ 15 + word)).inc 32 Obj.LOADS_REFUSED := by
    unfold Dev.package
    rw [show (d.dropPassed v).contentBad p = some (code, set', slot, word) from h]
  have hends := ((d.dropPassed v).package p).packageAnswer_ends bulk
  have hmem : ((d.dropPassed v).package p).mem = d.mem := by
    rw [hpackage]
    rfl
  have hchans : ((d.dropPassed v).package p).chans = d.chans := by
    rw [hpackage]
    rfl
  refine ⟨hends.mem.trans hmem, ?_, .of_mem (hends.chans.trans hchans) (hends.mem.trans hmem)⟩
  rw [Dev.packageAnswer_reg _ _ (by decide) (by decide) (by decide), hpackage, Dev.inc, Dev.reg_setReg_eq, if_neg (by decide),
    Dev.reg_setReg_eq, if_neg (by decide), Dev.reg_setReg_eq, if_pos rfl]

/-! ## Unloading and the scratchpad (R306, R329) -/

theorem Dev.unloadSet_unloads (d : Dev) (n : ChanId) (a : Nat) (hn : n.val = d.psetSel.1) (hzero : d.psetSel.2 ≠ 0)
    (hsafe : d.psetSel.2 ≠ 63) (hfree : d.psetInUse n d.psetSel.2 = false) :
    let t := d.unloadSet
    sget none t.mem.sets a = (if a = 64 * d.psetSel.1 + d.psetSel.2 then none else sget none d.mem.sets a) ∧
      t.mem.progs = d.mem.progs ∧ t.dict.abort = 0 ∧ Dev.LoadKeeps d t := by
  have hfree' : d.psetInUse ⟨d.psetSel.1, hn ▸ n.isLt⟩ d.psetSel.2 = false := by
    rw [show (⟨d.psetSel.1, hn ▸ n.isLt⟩ : ChanId) = n from Fin.ext hn.symm]
    exact hfree
  unfold Dev.unloadSet
  dsimp only
  rw [dif_pos (hn ▸ n.isLt), if_neg (by simp [hzero, hsafe]), if_neg (by simp [hfree'])]
  refine ⟨?_, (congrArg Memories.progs d.accept_mem :), d.accept_abort, d.accept_chans,
    (congrArg Memories.ledger d.accept_mem :), (congrArg Memories.dir d.accept_mem :)⟩
  rw [← d.accept_mem]
  exact sget_sput ..

theorem Dev.unloadSet_inUse (d : Dev) (n : ChanId) (hn : n.val = d.psetSel.1) (hzero : d.psetSel.2 ≠ 0)
    (hsafe : d.psetSel.2 ≠ 63) (huse : d.psetInUse n d.psetSel.2 = true) :
    let t := d.unloadSet
    t.mem = d.mem ∧ t.reg Obj.LOAD_RESULT = 0x0E ∧ t.dict.abort = 0x08000022 ∧ Dev.LoadKeeps d t := by
  have huse' : d.psetInUse ⟨d.psetSel.1, hn ▸ n.isLt⟩ d.psetSel.2 = true := by
    rw [show (⟨d.psetSel.1, hn ▸ n.isLt⟩ : ChanId) = n from Fin.ext hn.symm]
    exact huse
  unfold Dev.unloadSet
  dsimp only
  rw [dif_pos (hn ▸ n.isLt), if_neg (by simp [hzero, hsafe]), if_pos huse']
  obtain ⟨-, hmem, habort, hchans, -, -⟩ := Dev.refuse_loads ((d.setReg Obj.LOAD_RESULT 0x0E).setReg Obj.LOAD_DETAIL
    (0x0E * 2 ^ 24 + d.psetSel.2 * 2 ^ 18)) Obj.PSET_CMD abState
  refine ⟨hmem, ?_, habort, .of_mem hchans hmem⟩
  rw [Dev.refuse, Dev.violate_reg _ _ _ _ _ (by decide)]
  exact (Dev.reg_setReg_eq ..).trans ((if_neg (by decide)).trans ((Dev.reg_setReg_eq ..).trans (if_pos rfl)))

/-- A store to a word that no store of the window names gives the word its value (R22, R329). -/
theorem Dev.putScr_first (d : Dev) (st : StallId) (addr cyc te a : Nat) (w : Word64)
    (h : ∀ y ∈ d.mem.stores, y.key ≠ 8192 * st.val + addr) :
    sget 0 (d.putScr st addr cyc te w).mem.scr a = if a = 8192 * st.val + addr then w else sget 0 d.mem.scr a := by
  have hnone : (d.mem.stores.filter fun y => y.key == 8192 * st.val + addr && decide (y.cyc ≤ 511)) = [] :=
    List.filter_eq_nil_iff.2 fun y hy => by simp [h y hy]
  have hlast : ∀ was, ((lastWrite (⟨8192 * st.val + addr, cyc, te, w, was⟩ :: d.mem.stores) (8192 * st.val + addr) 511).map
      (·.val)).getD w = w := by
    intro was
    unfold lastWrite
    rw [List.filter_cons, hnone]
    split <;> rfl
  unfold Dev.putScr
  dsimp only
  rw [hlast]
  exact sget_sput ..

theorem Dev.writeScr_writes (d : Dev) (value : Word64) (a : Nat) (harea : scrArea d.scrSel.2 ≠ 0)
    (h : ∀ y ∈ d.mem.stores, y.key ≠ 8192 * d.scrSel.1.val + d.scrSel.2) :
    let t := d.writeScr value
    sget 0 t.mem.scr a = (if a = 8192 * d.scrSel.1.val + d.scrSel.2 then value else sget 0 d.mem.scr a) ∧
      t.mem.progs = d.mem.progs ∧ t.dict.abort = 0 ∧ Dev.LoadKeeps d t := by
  let u := d.accept.bulkStore d.scrSel.1 d.scrSel.2 value
  have hstore : sget 0 u.mem.scr a = if a = 8192 * d.scrSel.1.val + d.scrSel.2 then value else sget 0 d.mem.scr a := by
    rw [show sget 0 d.mem.scr a = sget 0 d.accept.mem.scr a by rw [d.accept_mem]]
    exact d.accept.putScr_first _ _ _ _ a value (by rw [d.accept_mem]; exact h)
  have hkeeps : u.mem.progs = d.mem.progs ∧ u.dict.abort = 0 ∧ Dev.LoadKeeps d u :=
    ⟨(congrArg Memories.progs d.accept_mem :), d.accept_abort, d.accept_chans, (congrArg Memories.ledger d.accept_mem :),
      (congrArg Memories.dir d.accept_mem :)⟩
  obtain ⟨hprogs, habort, hchans, hledger, hdir⟩ := hkeeps
  unfold Dev.writeScr
  dsimp only
  split
  · next h0 => exact absurd h0 harea
  · exact ⟨hstore, hprogs, habort, hchans, hledger, hdir⟩
  · exact ⟨hstore, hprogs, habort, hchans, hledger, hdir⟩

theorem Dev.writeScr_refused (d : Dev) (value : Word64) (harea : scrArea d.scrSel.2 = 0) :
    d.writeScr value = d.refuse Obj.SCR_DATA 0x06010000 := by
  unfold Dev.writeScr
  dsimp only
  split
  · rfl
  · next h => omega
  · next h _ => exact absurd harea h

end Sys2Proof.Machine

namespace Sys2Proof
open Machine

/-- Settles O46: each load command by what it makes of the module (`Dev.loadBegin_begins`, `Dev.loadData_appends`,
`Dev.loadSubmit_submits`, `Dev.loadAbandon_abandons`), a package by its first refusal (`Dev.package_accepted`,
`Dev.package_refused`), an unload and SCR_DATA by the one word they write. -/
theorem loadsPackagesAndScratchpad : Obligations.LoadsPackagesAndScratchpad := by
  intro s bytes bulk v value a n bad hlive d kept pkg taken state
  have hstate : ∀ {op : Instr} {f : Dev → Dev} (o : Nat), exec op s = liveAt s f → f d = d.refuse o abState → state op := by
    intro op f o he hf
    obtain ⟨hload, hmem, habort, hk⟩ := d.refuse_loads o abState
    exact ⟨_, next_at hlive he hf, hload, hmem, habort, hk.chans, hk.ledger, hk.dir, rfl⟩
  refine ⟨?_, ?_, ?_, ?_, ?_, ?_, ?_, ?_, ?_, ?_, ?_, ?_, ?_⟩
  · intro hbegun hbusy
    obtain ⟨hload, hbytes, habort, hk⟩ := d.loadBegin_begins hbegun hbusy
    exact gives_at hlive (show execLoadCmdBegin s = _ from rfl) ⟨hload, hbytes, habort, hk.chans, hk.ledger, hk.dir, rfl⟩
  · exact fun h => hstate _ (show execLoadCmdBegin s = _ from rfl) (d.loadBegin_refused h)
  · intro hne hmax hbegun hbusy
    obtain ⟨hload, hbytes, habort, hk⟩ := d.loadData_appends bytes hne hmax hbegun hbusy
    exact gives_at hlive (show execLoadData bytes s = _ from rfl) ⟨hload, hbytes, habort, hk.chans, hk.ledger, hk.dir, rfl⟩
  · exact fun hne hmax hbegun => hstate _ (show execLoadData bytes s = _ from rfl) (d.loadData_refused bytes hne hmax hbegun)
  · intro hbegun hbusy _ _ _ hdesc
    obtain ⟨hload, hmem, habort, hk⟩ := d.loadSubmit_submits hbegun hbusy hdesc
    exact gives_at hlive (show execLoadCmdSubmit s = _ from rfl) ⟨hload, hmem, habort, hk.chans, hk.ledger, hk.dir, rfl⟩
  · exact fun hbegun => hstate _ (show execLoadCmdSubmit s = _ from rfl) (d.loadSubmit_refused hbegun)
  · intro hbusy hclaims _
    obtain ⟨hload, hstatus, habort, hk⟩ := d.loadAbandon_abandons hbusy hclaims
    exact gives_at hlive (show execLoadCmdAbandon s = _ from rfl) ⟨hload, hstatus, habort, hk.chans, hk.ledger, hk.dir, rfl⟩
  · intro htaken hgood
    obtain ⟨hmem, hresult, htick, hk⟩ := d.package_accepted v pkg bulk hgood
    exact ⟨_, exec_programPackage hlive htaken, hmem, hresult, htick, hk.chans, hk.ledger, hk.dir, rfl⟩
  · intro htaken hbad
    obtain ⟨hmem, hresult, hk⟩ := d.package_refused v pkg bulk hbad
    exact ⟨_, exec_programPackage hlive htaken, hmem, hresult, hk.chans, hk.ledger, hk.dir, rfl⟩
  · intro hnone
    have htake : d.takePassed 3 bulk = none := by rw [Dev.takePassed_eq, Dev.firstPassed, hnone]; rfl
    exact ⟨_, next_at hlive (show execProgramPackage bulk s = _ from rfl) (u := d) (by rw [htake]), rfl⟩
  · intro hn hzero hsafe
    refine ⟨fun hfree => ?_, fun huse => ?_⟩
    · obtain ⟨hsets, hprogs, habort, hk⟩ := d.unloadSet_unloads n a hn hzero hsafe hfree
      exact gives_at hlive (show execPsetCmdUnload s = _ from rfl) ⟨hsets, hprogs, habort, hk.chans, hk.ledger, hk.dir, rfl⟩
    · obtain ⟨hmem, hresult, habort, hk⟩ := d.unloadSet_inUse n hn hzero hsafe huse
      exact gives_at hlive (show execPsetCmdUnload s = _ from rfl) ⟨hmem, hresult, habort, hk.chans, hk.ledger, hk.dir, rfl⟩
  · intro harea hstores
    obtain ⟨hscr, hprogs, habort, hk⟩ := d.writeScr_writes value a harea hstores
    exact gives_at hlive (show execScrDataWrite value s = _ from rfl) ⟨hscr, hprogs, habort, hk.chans, hk.ledger, hk.dir, rfl⟩
  · intro harea
    obtain ⟨-, hmem, habort, hk⟩ := d.refuse_loads Obj.SCR_DATA 0x06010000
    exact ⟨_, next_at hlive (show execScrDataWrite value s = _ from rfl) (d.writeScr_refused value harea), hmem, habort,
      hk.chans, hk.ledger, hk.dir, rfl⟩

end Sys2Proof
end

section
namespace Sys2Proof.Machine
open Sys2Proof

/-! ## Links of EtherCAT (R402) -/

theorem natBit_eq_testBit (v i : Nat) : natBit v i = v.testBit i := by
  rw [natBit, Nat.testBit_eq_decide_div_mod_eq]
  rfl

theorem testBit_clearBits (a b i : Nat) : (clearBits a b).testBit i = (a.testBit i && !b.testBit i) := by
  rw [clearBits, Nat.testBit_xor, Nat.testBit_and]
  cases a.testBit i <;> cases b.testBit i <;> rfl

set_option maxRecDepth 20000 in
/-- Taking a port's bit off EC_LINK clears it. -/
theorem sub_portBit : ∀ v < 256, ∀ port : Bool, natBit v (b2n port) = true → v - 2 ^ b2n port = clearBits v (2 ^ b2n port) := by
  decide

/-- EC_LINK with bit `p` cleared and bit `q` set. -/
theorem natBit_moved (v p q i : Nat) (hpq : p ≠ q) : natBit (clearBits v (2 ^ p) ||| 2 ^ q) i =
    if i = p then false else if i = q then true else natBit v i := by
  simp only [natBit_eq_testBit, Nat.testBit_or, testBit_clearBits, Nat.testBit_two_pow]
  by_cases hp : i = p
  · subst hp
    simp [hpq.symm]
  · by_cases hq : i = q
    · simp [hq, hpq.symm]
    · simp [hp, hq, Ne.symm hp, Ne.symm hq]

theorem ite_swap_ne {α : Type} {p q i : Nat} (hpq : p ≠ q) (x y z : α) :
    (if i = p then x else if i = q then y else z) = if i = q then y else if i = p then x else z := by
  by_cases hp : i = p
  · subst hp
    simp [hpq]
  · simp [hp]

/-- EC_LINK with a port closed, and the loss counted. -/
def Dev.linkLost (d : Dev) (port : Bool) : Dev :=
  (d.setReg Obj.EC_LINK ((d.reg Obj.EC_LINK - 2 ^ b2n port) ||| 2 ^ (4 + b2n port))).inc 16 Obj.LOST_LINKS

theorem exec_ecLinkLost {s : State} {port : Bool} (hoff : s.dev.power.state ≠ .off)
    (hlink : natBit (s.dev.reg Obj.EC_LINK) (b2n port) = true) :
    exec (.ecLinkLost port) s = .next (s.atCommit (s.dev.linkLost port)) := by
  have hrun : exec (.ecLinkLost port) s = runAt s _ := (show execEcLinkLost port s = _ from rfl)
  rw [hrun, runAt, if_neg (by simp [hoff, hlink])]
  rfl

theorem Dev.linkLost_regs (d : Dev) (port : Bool) (hv : d.reg Obj.EC_LINK < 256)
    (hlink : natBit (d.reg Obj.EC_LINK) (b2n port) = true) (i : Nat) :
    natBit ((d.linkLost port).reg Obj.EC_LINK) i =
      (if i = b2n port then false else if i = 4 + b2n port then true else natBit (d.reg Obj.EC_LINK) i) ∧
    (d.linkLost port).reg Obj.LOST_LINKS = bump 16 (d.reg Obj.LOST_LINKS) := by
  refine ⟨?_, ?_⟩
  · rw [Dev.linkLost, Dev.inc, Dev.reg_setReg_eq, if_neg (by decide), Dev.reg_setReg_eq, if_pos rfl, sub_portBit _ hv port hlink]
    exact natBit_moved _ _ _ i (by omega)
  · rw [Dev.linkLost, Dev.inc, Dev.reg_setReg_eq, if_pos rfl, Dev.reg_setReg_eq, if_neg (by decide)]

/-- EC_LINK with a port open. -/
def Dev.linkUp (d : Dev) (port : Bool) : Dev :=
  d.setReg Obj.EC_LINK (clearBits (d.reg Obj.EC_LINK) (2 ^ (4 + b2n port)) ||| 2 ^ b2n port)

theorem exec_ecLinkUp {s : State} {port : Bool} (hoff : s.dev.power.state ≠ .off) :
    exec (.ecLinkUp port) s = .next (s.atCommit (s.dev.linkUp port)) := by
  have hrun : exec (.ecLinkUp port) s = runAt s _ := (show execEcLinkUp port s = _ from rfl)
  rw [hrun, runAt, if_neg hoff]
  rfl

theorem Dev.linkUp_regs (d : Dev) (port : Bool) (i : Nat) :
    natBit ((d.linkUp port).reg Obj.EC_LINK) i =
      (if i = b2n port then true else if i = 4 + b2n port then false else natBit (d.reg Obj.EC_LINK) i) ∧
    (d.linkUp port).reg Obj.LOST_LINKS = d.reg Obj.LOST_LINKS := by
  refine ⟨?_, ?_⟩
  · rw [Dev.linkUp, Dev.reg_setReg_eq, if_pos rfl, natBit_moved _ _ _ i (by omega)]
    exact ite_swap_ne (by omega) ..
  · rw [Dev.linkUp, Dev.reg_setReg_eq, if_neg (by decide)]

/-! ## The state machine (R403–R405) -/

/-- What no transition changes: the channels, the memories, the FIFO, the counter and the power state. -/
structure Dev.EsmStays (d t : Dev) : Prop where
  chans : t.chans = d.chans
  mem   : t.mem = d.mem
  fifo  : t.fifo = d.fifo
  tick  : t.tick = d.tick
  power : t.power = d.power

theorem Dev.EsmStays.violates {d u : Dev} (h : Dev.EsmStays d u) (a b c e : Nat) : Dev.EsmStays d (u.violate a b c e) :=
  ⟨(u.violate_chans a b c e).trans h.chans, (u.violate_mem a b c e).trans h.mem, (u.violate_fifo a b c e).trans h.fifo,
    (u.violate_tick a b c e).trans h.tick, (u.violate_power a b c e).trans h.power⟩

theorem Dev.EsmStays.counts {d u : Dev} (h : Dev.EsmStays d u) (w k : Nat) : Dev.EsmStays d (u.inc w k) :=
  ⟨h.chans, h.mem, h.fifo, h.tick, h.power⟩

/-- A refusal leaves the state and shows its AL status code (R403). -/
theorem Dev.esmRefuse_refuses (d : Dev) (want code : Nat) :
    let t := d.esmRefuse want code
    t.ec = { d.ec with errInd := true } ∧ t.reg Obj.AL_CODE = code ∧ t.dict = d.dict ∧
      t.flt.violSeq = d.flt.violSeq + 1 ∧ Dev.EsmStays d t := by
  unfold Dev.esmRefuse
  refine ⟨Dev.violate_ec .., ?_, Dev.violate_dict .., Dev.violate_violSeq .., Dev.EsmStays.violates ?_ ..⟩
  · rw [Dev.violate_reg _ _ _ _ _ (by decide), Dev.reg_setReg_eq, if_pos rfl]
  · exact ⟨rfl, rfl, rfl, rfl, rfl⟩

/-- A transition counts and enters its state (R403). -/
theorem Dev.esmGo_enters (d : Dev) (st : EsmState) (err : Bool) :
    let t := d.esmGo st err
    t.ec = { d.ec with esm := st, errInd := err, frames := 0, missed := 0 } ∧
      t.reg Obj.ESM_CHANGES = bump 32 (d.reg Obj.ESM_CHANGES) ∧ t.flt = d.flt ∧ Dev.EsmStays d t :=
  ⟨rfl, (Dev.reg_setReg_eq ..).trans (if_pos rfl), rfl, rfl, rfl, rfl, rfl, rfl⟩

theorem mem_insertWrite (w : HostWrite) (l : List HostWrite) : w ∈ insertWrite w l := by
  induction l with
  | nil => exact List.mem_singleton_self w
  | cons x xs ih =>
    rw [insertWrite]
    split
    · exact List.mem_cons_self
    · exact List.mem_cons_of_mem x ih

theorem length_insertWrite (w : HostWrite) (l : List HostWrite) : (insertWrite w l).length = l.length + 1 := by
  induction l with
  | nil => rfl
  | cons x xs ih =>
    rw [insertWrite]
    split
    · rfl
    · rw [List.length_cons, ih, List.length_cons]

/-- The park request that PD_WD_ACTION 1 sends when OP is left in an engine cycle (R394). -/
def Dev.wdPark (d : Dev) (cyc : Nat) : HostWrite :=
  { act := d.actAt cyc, arrived := d.tick, cyc := cyc, rank := 0, source := 1, sealedBy := false, cmd := false,
    req := .one 0x2010 2 8 (2 ^ 64 - 1) }

/-- OP is left with the request that PD_WD_ACTION sends, and with nothing else changed. -/
theorem Dev.wdAction_eq (d : Dev) (cyc : Nat) : ∃ dict, d.wdAction cyc = { d with dict := dict } ∧
    (d.reg Obj.PD_WD_ACTION = 0 → dict = d.dict) ∧
    (d.reg Obj.PD_WD_ACTION = 1 → dict.writes = insertWrite (d.wdPark cyc) d.dict.writes) := by
  unfold Dev.wdAction
  split
  · next h => exact ⟨_, rfl, fun h0 => absurd (h.symm.trans h0) (by decide), fun _ => rfl⟩
  · next h => exact ⟨_, rfl, fun h0 => absurd (h.symm.trans h0) (by decide), fun h1 => absurd (h.symm.trans h1) (by decide)⟩
  · next h _ => exact ⟨_, rfl, fun _ => rfl, fun h1 => absurd h1 h⟩

theorem Dev.esmGo_action (d : Dev) (st : EsmState) (err : Bool) :
    (d.esmGo st err).reg Obj.PD_WD_ACTION = d.reg Obj.PD_WD_ACTION :=
  (Dev.reg_setReg_eq ..).trans (if_neg (by decide))

/-- Where PD_WD_ACTION is 0, leaving OP is a transition alone. -/
theorem Dev.leaveOp_plain (d : Dev) (st : EsmState) (err : Bool) (cyc : Nat) (h : d.reg Obj.PD_WD_ACTION = 0) :
    d.leaveOp st err cyc = d.esmGo st err := by
  obtain ⟨dict, heq, hplain, -⟩ := (d.esmGo st err).wdAction_eq cyc
  rw [Dev.leaveOp, heq, hplain ((d.esmGo_action st err).trans h)]

/-- OP is left for an error: SAFEOP with the error indication, the AL status code, the violation, the park request of
PD_WD_ACTION 1, and a counter (R404). -/
theorem Dev.opError_errs (d : Dev) (code cyc counter : Nat) (hcode : counter ≠ Obj.AL_CODE) (hlost : counter ≠ Obj.VLOG_LOST)
    (hchanges : counter ≠ Obj.ESM_CHANGES) :
    let t := (d.opError code cyc).inc 32 counter
    t.ec = { d.ec with esm := .safeop, errInd := true, frames := 0, missed := 0 } ∧ t.reg Obj.AL_CODE = code ∧
      t.reg counter = bump 32 (d.reg counter) ∧ t.flt.violSeq = d.flt.violSeq + 1 ∧
      (d.reg Obj.PD_WD_ACTION = 0 → t.dict = d.dict) ∧
      (d.reg Obj.PD_WD_ACTION = 1 → t.dict.writes.length = d.dict.writes.length + 1 ∧ d.wdPark cyc ∈ t.dict.writes) ∧
      Dev.EsmStays d t := by
  obtain ⟨dict, heq, hplain, hpark⟩ := (d.esmGo .safeop true).wdAction_eq cyc
  rw [d.esmGo_action] at hplain hpark
  have hdict : ((d.opError code cyc).inc 32 counter).dict = dict := by
    unfold Dev.opError Dev.leaveOp
    rw [heq]
    exact Dev.violate_dict ..
  have hreg : (d.opError code cyc).reg counter = d.reg counter := by
    unfold Dev.opError Dev.leaveOp
    rw [Dev.violate_reg _ _ _ _ _ hlost, Dev.reg_setReg_eq, if_neg hcode, heq]
    exact (Dev.reg_setReg_eq ..).trans (if_neg hchanges)
  refine ⟨?_, ?_, ?_, ?_, fun h => hdict.trans (hplain h), fun h => ?_, ?_⟩
  · unfold Dev.opError Dev.leaveOp
    rw [heq]
    exact Dev.violate_ec ..
  · rw [Dev.inc, Dev.reg_setReg_eq, if_neg hcode.symm, Dev.opError, Dev.violate_reg _ _ _ _ _ (by decide), Dev.reg_setReg_eq,
      if_pos rfl]
  · rw [Dev.inc, Dev.reg_setReg_eq, if_pos rfl, hreg]
  · unfold Dev.opError Dev.leaveOp
    rw [heq]
    exact Dev.violate_violSeq ..
  · rw [hdict, hpark h]
    exact ⟨length_insertWrite .., mem_insertWrite ..⟩
  · unfold Dev.opError Dev.leaveOp
    rw [heq]
    refine .counts (.violates ?_ ..) ..
    exact ⟨rfl, rfl, rfl, rfl, rfl⟩


/-- AL status code of a refusal of PREOP to SAFEOP, in the order of Table 15-2. -/
theorem Dev.safeopCode_none (d : Dev) (dcCycle : Option Nat) (hout : d.outputsOk = true) (hin : mapFits (d.assigned 0x1C13) = true)
    (hdc : d.dcMode = false ∨ dcCycle.getD 0 % 1000 = 0 ∧ 31000 ≤ dcCycle.getD 0 ∧ d.sync.refclk = .locked) :
    d.safeopCode true false dcCycle = 0 := by
  unfold Dev.safeopCode
  obtain hfree | ⟨hwhole, hmin, hlock⟩ := hdc
  · simp [hout, hin, hfree]
  · simp [hout, hin, hwhole, hlock, Nat.not_lt.2 hmin]

section
variable {s : State} (hin : s.inside)
include hin

theorem exec_preopToSafeop_made (smOk sync1 : Bool) (dcCycle : Option Nat) (hst : s.dev.ec.esm = .preop)
    (hcode : s.dev.safeopCode smOk sync1 dcCycle = 0) : exec (.esmPreopToSafeop smOk sync1 dcCycle) s =
      .next (s.inTick ((s.dev.esmGo .safeop false).modDict fun x => { x with frame := none, lastFrame := none })) :=
  next_in hin (show execEsmPreopToSafeop smOk sync1 dcCycle s = _ from rfl) (by simp [hst, hcode])

/-- A refusal of PREOP to SAFEOP: a cycle of DC that does not hold shows in SYNC0_STATE too (R64). -/
theorem exec_preopToSafeop_refused (smOk sync1 : Bool) (dcCycle : Option Nat) (hst : s.dev.ec.esm = .preop) {code : Nat}
    (hcode : s.dev.safeopCode smOk sync1 dcCycle = code) (hne : code ≠ 0) : exec (.esmPreopToSafeop smOk sync1 dcCycle) s =
      .next (s.inTick ((if code = 0x0036 then s.dev.setReg Obj.SYNC0_STATE 2 else s.dev).esmRefuse 4 code)) :=
  next_in hin (show execEsmPreopToSafeop smOk sync1 dcCycle s = _ from rfl) (by
    subst hcode
    simp only [hst]
    rw [if_neg (by decide), if_pos hne])
end

end Sys2Proof.Machine

namespace Sys2Proof
open Machine

/-- Settles O52: each transition is refused (`Dev.esmRefuse_refuses`), made (`Dev.esmGo_enters`) or forced by an error of OP
(`Dev.opError_errs`); the links move one bit of EC_LINK (`natBit_moved`). -/
theorem etherCatStatesAndLinks : Obligations.EtherCatStatesAndLinks := by
  intro s port smOk sync1 dcCycle target st cyc d e p v stays refused enters errors
  have refuses : ∀ {op : Instr} {f : Dev → Dev} (x : Dev) (want code : Nat), s.inside → exec op s = liveIn s f →
      f d = x.esmRefuse want code → x.ec = d.ec → x.dict = d.dict → x.flt = d.flt → Dev.EsmStays d x → refused op code := by
    intro op f x want code hin he hf hec hdict hflt hx
    obtain ⟨hec', hcode, hdict', hviol, hst⟩ := x.esmRefuse_refuses want code
    refine ⟨_, next_in hin he hf, ?_, hcode, hdict'.trans hdict, ?_, ?_⟩
    · exact hec'.trans (by rw [hec])
    · exact hviol.trans (by rw [hflt])
    · exact ⟨hst.chans.trans hx.chans, hst.mem.trans hx.mem, hst.fifo.trans hx.fifo, hst.tick.trans hx.tick,
        hst.power.trans hx.power⟩
  have made : ∀ {op : Instr} {f : Dev → Dev} (st : EsmState), s.inside → exec op s = liveIn s f →
      f d = d.esmGo st false → enters op st := by
    intro op f st hin he hf
    obtain ⟨hec, hcount, hflt, hst⟩ := d.esmGo_enters st false
    exact ⟨_, next_in hin he hf, hec, hcount, hflt, hst.chans, hst.mem, hst.fifo, hst.tick, hst.power⟩
  have errs : ∀ {op : Instr} {f : Dev → Dev} (code counter c : Nat), s.inside → exec op s = liveIn s f →
      f d = (d.opError code c).inc 32 counter → counter ≠ Obj.AL_CODE → counter ≠ Obj.VLOG_LOST →
      counter ≠ Obj.ESM_CHANGES → errors op code counter c := by
    intro op f code counter c hin he hf hcode hlost hchanges
    obtain ⟨hec, hal, hcount, hviol, hplain, hpark, hst⟩ := d.opError_errs code c counter hcode hlost hchanges
    exact ⟨_, next_in hin he hf, hec, hal, hcount, hviol, hplain, hpark, hst.chans, hst.mem, hst.fifo, hst.tick, hst.power⟩
  have here : Dev.EsmStays d d := ⟨rfl, rfl, rfl, rfl, rfl⟩
  refine ⟨?_, ?_, ?_, ?_, ?_, ?_, ?_, ?_, ?_, ?_, ?_, ?_⟩
  · intro hoff hv hlink
    exact ⟨_, exec_ecLinkLost hoff hlink, fun i _ => (d.linkLost_regs port hv hlink i).1, (d.linkLost_regs port hv hlink 0).2, rfl, rfl,
      rfl, rfl, rfl, rfl⟩
  · intro hlink
    exact gives_runAt (show execEcLinkLost port s = _ from rfl) (if_pos (by
      simp [show natBit (s.dev.reg Obj.EC_LINK) (b2n port) = false from hlink]))
  · intro hoff _
    exact ⟨_, exec_ecLinkUp hoff, fun i _ => (d.linkUp_regs port i).1, (d.linkUp_regs port 0).2, rfl, rfl, rfl, rfl, rfl, rfl⟩
  · intro hin hst
    have hst' : (d.ec.esm != .init) = false := by simp [show d.ec.esm = .init from hst]
    exact ⟨made _ hin (show execEsmInitToPreop true s = _ from rfl) (by simp [hst']),
      refuses d 2 _ hin (show execEsmInitToPreop false s = _ from rfl) (by simp [hst']) rfl rfl rfl here⟩
  · intro hin hst
    have hrefuse : ∀ code, d.safeopCode smOk sync1 dcCycle = code → code ≠ 0 →
        refused (.esmPreopToSafeop smOk sync1 dcCycle) code := by
      intro code hcode hne
      refine refuses (if code = 0x0036 then d.setReg Obj.SYNC0_STATE 2 else d) 4 code hin
        (show execEsmPreopToSafeop smOk sync1 dcCycle s = _ from rfl) ?_ ?_ ?_ ?_ ?_
      · subst hcode
        exact (if_neg (by simp [show d.ec.esm = .preop from hst])).trans (if_pos hne)
      all_goals split
      · rfl
      · rfl
      · rfl
      · rfl
      · rfl
      · rfl
      · exact ⟨rfl, rfl, rfl, rfl, rfl⟩
      · exact here
    refine ⟨?_, ?_, ?_, ?_⟩
    · exact fun hsm => hrefuse _ (by simp [Dev.safeopCode, hsm]) (by decide)
    · exact fun hsm hout => hrefuse _ (by simp [Dev.safeopCode, hsm, hout]) (by decide)
    · exact fun hsm hout hfit => hrefuse _ (by simp [Dev.safeopCode, hsm, hout, hfit]) (by decide)
    · intro hsm hout hfit
      refine ⟨?_, ?_, ?_, ?_⟩
      · exact fun hsync => hrefuse _ (by simp [Dev.safeopCode, hsm, hout, hfit, hsync]) (by decide)
      · exact fun hsync hdc hcyc => hrefuse _ (by simp [Dev.safeopCode, hsm, hout, hfit, hsync, hdc, hcyc]) (by decide)
      · exact fun hsync hdc hwhole hmin hlock => hrefuse _ (by
          simp [Dev.safeopCode, hsm, hout, hfit, hsync, hdc, hwhole, Nat.not_lt.2 hmin, hlock]) (by decide)
      · intro hsync hdc
        have hcode : d.safeopCode smOk sync1 dcCycle = 0 := by
          rw [hsm, hsync]
          exact d.safeopCode_none dcCycle hout hfit hdc
        obtain ⟨hec, hcount, hflt, hstays⟩ := d.esmGo_enters .safeop false
        exact ⟨_, exec_preopToSafeop_made hin smOk sync1 dcCycle hst hcode, hec, hcount, hflt, hstays.chans, hstays.mem,
          hstays.fifo, hstays.tick, hstays.power⟩
  · intro hin hst
    have hst' : (d.ec.esm != .safeop) = false := by simp [show d.ec.esm = .safeop from hst]
    refine ⟨fun hframes => ?_, fun hframes hdc hsync => ?_, fun hframes hdc => ?_⟩
    · exact refuses d 8 _ hin (show execEsmSafeopToOp s = _ from rfl)
        ((if_neg (by simp [hst'])).trans (if_pos hframes)) rfl rfl rfl here
    · refine refuses d 8 _ hin (show execEsmSafeopToOp s = _ from rfl)
        ((if_neg (by simp [hst'])).trans ((if_neg hframes).trans (if_pos ?_))) rfl rfl rfl here
      obtain hsync | hlate := hsync
      · simp [hdc, show d.ec.sync0 = false from hsync]
      · simp [hdc, show 1000 < ticksFrom d.ec.sync0At d.tick from hlate]
    · exact made _ hin (show execEsmSafeopToOp s = _ from rfl)
        ((if_neg (by simp [hst'])).trans ((if_neg hframes).trans (if_neg (by simp [hdc]))))
  · exact fun hin => refuses d 3 _ hin (show execEsmBootstrapRequest s = _ from rfl) rfl rfl rfl rfl here
  · intro hin htarget htwice hup
    refine refuses d target.toNat _ hin (show execEsmInvalidRequest target s = _ from rfl) ?_ rfl rfl rfl here
    rw [htarget]
    exact if_neg (by simpa [esmDefined] using And.intro hup htwice)
  · intro hin htarget hthree
    refine refuses d target.toNat _ hin (show execEsmInvalidRequest target s = _ from rfl) ?_ rfl rfl rfl here
    rw [htarget]
    exact if_neg fun h => hthree (BitVec.eq_of_toNat_eq h)
  · intro hin htarget hdown hplain
    have hleave := d.leaveOp_plain st false 0 hplain
    refine ⟨made st hin (show execEsmDownwardTransition target s = _ from rfl) ?_, fun hop =>
      made st hin (show execEsmLeaveOp target s = _ from rfl) ?_⟩
    · rw [htarget]
      refine (if_neg (Nat.not_le.2 hdown)).trans ?_
      rw [hleave]
      exact ite_self _
    · rw [htarget]
      refine (if_pos ?_).trans hleave
      have hne : st ≠ .op := fun h => by
        rw [h, show e.esm = .op from hop] at hdown
        exact absurd hdown (by decide)
      simp [show d.ec.esm = .op from hop, hne]
  · intro hin hop
    have hop' : (d.ec.esm != .op) = false := by simp [show d.ec.esm = .op from hop]
    refine ⟨?_, fun hdc hmissed => ?_, fun hfew => ?_⟩
    · exact errs _ _ _ hin (show execSm2Watchdog cyc s = _ from rfl) (if_neg (by simp [hop'])) (by decide) (by decide) (by decide)
    · exact errs _ _ 0 hin (show execSync0Missed s = _ from rfl)
        (if_neg (by simp [hop', hdc, Nat.not_lt.2 (show 8 ≤ d.ec.missed from hmissed)])) (by decide) (by decide) (by decide)
    · have hkeep : (d.ec.esm != .op || !d.dcMode || decide (d.ec.missed < 8)) = true := by
        simp [show d.ec.missed < 8 from hfew]
      exact ⟨_, next_in hin (show execSync0Missed s = _ from rfl) (if_pos hkeep), rfl⟩
  · intro hin hop
    have hop' : (d.ec.esm == .op) = false := by simpa using show d.ec.esm ≠ .op from hop
    refine ⟨⟨_, next_in hin (show execSm2Watchdog cyc s = _ from rfl) (if_pos (by simpa using show d.ec.esm ≠ .op from hop)), rfl⟩, ?_⟩
    refine ⟨_, next_in hin (show execEsmLeaveOp target s = _ from rfl) (u := d) ?_, rfl⟩
    split
    · exact if_neg (by simp [show (s.dev.ec.esm == .op) = false from hop'])
    · rfl

end Sys2Proof
end

section
namespace Sys2Proof.Machine
open Sys2Proof

/-! ## The phase of a SYNC0 event (R64, R65) -/

/-- The run of events on one side of the cutoff. -/
def SyncUnit.afterSync0 (y : SyncUnit) (late : Bool) : SyncUnit :=
  { y with sync0Late := some late, sync0Run := if y.sync0Late != some late then 0 else y.sync0Run + 1 }

/-- SYNC0_STATE after an event on a side of the cutoff (R64, R65). -/
def Dev.sync0State (d : Dev) (cycleNs : Nat) (late : Bool) : Nat :=
  let was := d.reg Obj.SYNC0_STATE
  if d.sync.sync0Late = some (!late) then 3
  else if (was = 3 ∧ (d.sync.sync0Late ≠ some late ∨ d.sync.sync0Run + 1 < 64)) ∨
      ((cycleNs % 1000 ≠ 0 ∨ cycleNs < 31000) ∧ was = 2) then was
  else 1

/-- The phase of a SYNC0 event shows, and what else it leaves. -/
structure Dev.ShowsPhase (d t : Dev) (cycleNs cyc : Nat) : Prop where
  rest  : ∃ regs flt, t = { d with regs := regs, flt := flt, sync := d.sync.afterSync0 (decide (250 ≤ cyc)) }
  phase : t.reg Obj.SYNC0_PHASE = cyc / 5
  cycle : t.reg Obj.SYNC0_CYCLE = cycleNs / 1000
  state : t.reg Obj.SYNC0_STATE = d.sync0State cycleNs (decide (250 ≤ cyc))
  regs  : ∀ k, k ≠ Obj.SYNC0_PHASE → k ≠ Obj.SYNC0_CYCLE → k ≠ Obj.SYNC0_STATE → t.reg k = d.reg k

/-- The phase, the cycle and the run of a SYNC0 event, before its state is judged. -/
def Dev.sync0Base (d : Dev) (cycleNs cyc : Nat) : Dev :=
  ((d.modSync (·.afterSync0 (decide (250 ≤ cyc)))).setReg Obj.SYNC0_PHASE (cyc / 5)).setReg Obj.SYNC0_CYCLE (cycleNs / 1000)

theorem Dev.sync0Base_rest (d : Dev) (cycleNs cyc : Nat) : ∃ regs,
    d.sync0Base cycleNs cyc = { d with regs := regs, sync := d.sync.afterSync0 (decide (250 ≤ cyc)) } := by
  unfold Dev.sync0Base Dev.modSync
  exact ⟨_, congrArg (fun t : Dev => (t.setReg _ _).setReg _ _) (if_pos (by simp [SyncUnit.afterSync0]))⟩

theorem Dev.sync0Base_regs (d : Dev) (cycleNs cyc : Nat) :
    (d.sync0Base cycleNs cyc).reg Obj.SYNC0_PHASE = cyc / 5 ∧ (d.sync0Base cycleNs cyc).reg Obj.SYNC0_CYCLE = cycleNs / 1000 ∧
      ∀ k, k ≠ Obj.SYNC0_PHASE → k ≠ Obj.SYNC0_CYCLE → (d.sync0Base cycleNs cyc).reg k = d.reg k := by
  unfold Dev.sync0Base
  refine ⟨?_, ?_, fun k hp hc => ?_⟩
  · rw [Dev.reg_setReg_eq, if_neg (by decide), Dev.reg_setReg_eq, if_pos rfl]
  · rw [Dev.reg_setReg_eq, if_pos rfl]
  · rw [Dev.reg_setReg_eq, if_neg hc, Dev.reg_setReg_eq, if_neg hp, Dev.modSync_reg]

/-- The state of a SYNC0 event does not touch its phase. -/
theorem Dev.sync0Base_shows (d : Dev) (cycleNs cyc : Nat) {t : Dev} {regs flt : _}
    (ht : t = { d.sync0Base cycleNs cyc with regs := regs, flt := flt })
    (hstate : t.reg Obj.SYNC0_STATE = d.sync0State cycleNs (decide (250 ≤ cyc)))
    (hregs : ∀ k, k ≠ Obj.SYNC0_STATE → t.reg k = (d.sync0Base cycleNs cyc).reg k) : Dev.ShowsPhase d t cycleNs cyc := by
  obtain ⟨hphase, hcycle, hother⟩ := d.sync0Base_regs cycleNs cyc
  obtain ⟨_, hrest⟩ := d.sync0Base_rest cycleNs cyc
  refine ⟨⟨_, _, ht.trans (by rw [hrest])⟩, ?_, ?_, hstate, fun k hp hc hs => (hregs k hs).trans (hother k hp hc)⟩
  · exact (hregs _ (by decide)).trans hphase
  · exact (hregs _ (by decide)).trans hcycle

theorem Dev.sync0Phase_shows (d : Dev) (cycleNs cyc : Nat) : Dev.ShowsPhase d (d.sync0Phase cycleNs cyc) cycleNs cyc := by
  obtain ⟨-, -, hother⟩ := d.sync0Base_regs cycleNs cyc
  have hwas := hother Obj.SYNC0_STATE (by decide) (by decide)
  have hset : ∀ v k, k ≠ Obj.SYNC0_STATE → ((d.sync0Base cycleNs cyc).setReg Obj.SYNC0_STATE v).reg k =
      (d.sync0Base cycleNs cyc).reg k := fun v k hk => (Dev.reg_setReg_eq ..).trans (if_neg hk)
  have heq : d.sync0Phase cycleNs cyc =
      if d.sync.sync0Late == some (!decide (250 ≤ cyc)) then
        (if d.reg Obj.SYNC0_STATE == 3 then d.sync0Base cycleNs cyc
         else ((d.sync0Base cycleNs cyc).setReg Obj.SYNC0_STATE 3).raiseAt ((d.sync0Base cycleNs cyc).presentAt cyc) 0x0108 1
          .device 0xFF 0)
      else if (d.reg Obj.SYNC0_STATE == 3 && decide ((d.sync.afterSync0 (decide (250 ≤ cyc))).sync0Run < 64)) ||
          ((decide (cycleNs % 1000 ≠ 0) || decide (cycleNs < 31000)) && (d.sync0Base cycleNs cyc).reg Obj.SYNC0_STATE == 2) then
        d.sync0Base cycleNs cyc
      else (d.sync0Base cycleNs cyc).setReg Obj.SYNC0_STATE 1 := rfl
  rw [heq]
  split
  · next hj =>
    have hstate : d.sync0State cycleNs (decide (250 ≤ cyc)) = 3 := if_pos (eq_of_beq hj)
    split
    · next hr =>
      exact d.sync0Base_shows cycleNs cyc rfl (by rw [hstate, hwas]; exact eq_of_beq hr) fun _ _ => rfl
    · exact d.sync0Base_shows cycleNs cyc rfl (by rw [hstate]; exact (Dev.reg_setReg_eq ..).trans (if_pos rfl)) (hset 3)
  · next hj =>
    have hj' : ¬ d.sync.sync0Late = some (!decide (250 ≤ cyc)) := fun h => hj (beq_iff_eq.2 h)
    have hrun : (d.sync.afterSync0 (decide (250 ≤ cyc))).sync0Run < 64 ↔
        d.sync.sync0Late ≠ some (decide (250 ≤ cyc)) ∨ d.sync.sync0Run + 1 < 64 := by
      unfold SyncUnit.afterSync0
      by_cases hflip : d.sync.sync0Late = some (decide (250 ≤ cyc)) <;> simp [hflip]
    rw [hwas]
    split
    · next hk =>
      have hstate : d.sync0State cycleNs (decide (250 ≤ cyc)) = d.reg Obj.SYNC0_STATE := by
        unfold Dev.sync0State
        dsimp only
        rw [if_neg hj', if_pos (by simpa [hrun] using hk)]
      exact d.sync0Base_shows cycleNs cyc rfl (by rw [hstate, hwas]) fun _ _ => rfl
    · next hk =>
      have hstate : d.sync0State cycleNs (decide (250 ≤ cyc)) = 1 := by
        unfold Dev.sync0State
        dsimp only
        rw [if_neg hj', if_neg (fun h => hk (by simpa [hrun] using h))]
      exact d.sync0Base_shows cycleNs cyc rfl (by rw [hstate]; exact (Dev.reg_setReg_eq ..).trans (if_pos rfl)) (hset 1)

/-! ## SYNC0 events (R64, R391, R393) -/

/-- A read in an engine cycle acts on the module: its commit is over, or the module as the commit before left it is read. -/
theorem liveRead_next {s : State} {cyc : Cycle} (f : Dev → Dev) (hlive : s.live) (h : 8 ≤ cyc.val → s.dev.fab.atCommit = false) :
    liveRead s cyc f = .next (s.inTick (f s.dev)) := by
  unfold liveRead
  split
  · exact congrArg Host.Outcome.next (congrArg s.inTick (if_pos hlive))
  · exact liveIn_next s f ⟨hlive, h (by omega)⟩

theorem State.seen_eq {s : State} {cyc : Cycle} (h : 8 ≤ cyc.val → s.dev.fab.atCommit = false) :
    s.seen cyc = if cyc.val < 8 then s.prior else s.shown := by
  unfold State.seen State.sealed
  split
  · rfl
  · rw [h (by omega)]
    rfl

/-- The module after a SYNC0 event has shown its phase. -/
def Dev.sync0Seen (d : Dev) (cycleNs cyc : Nat) : Dev :=
  (d.sync0Phase cycleNs cyc).modEc fun e => { e with sync0 := true, sync0At := d.tick }

/-- An interval has ended without a frame (R391). -/
def Dev.sync0Absent (d : Dev) : Dev :=
  ((d.inc 16 Obj.SM_EVENT_MISSED).setReg Obj.SYNC_ERROR 1).modEc fun e => { e with missed := e.missed + 1 }

/-- The frame that waits for a SYNC0 event is processed at it (R391). -/
def Dev.sync0Frame (d : Dev) (outs : List (Nat × Nat)) (cyc : Nat) : Dev :=
  ((d.modDict fun x => { x with frame := none }).setReg Obj.SYNC_ERROR 0).processFrame outs cyc

section
variable (s : State) (cycleNs : Nat) (cyc : Cycle)

/-- What a SYNC0 event does, by the mode, the frame that waits and whether an interval ends. -/
theorem exec_sync0Event (hlive : s.live) (h : 8 ≤ cyc.val → s.dev.fab.atCommit = false) :
    exec (.sync0Event cycleNs cyc) s = .next (s.inTick (
      let d := s.dev.sync0Seen cycleNs cyc.val
      if !d.dcMode || !d.pdRuns then d
      else
        (match d.dict.frame with
          | some outs => d.sync0Frame outs cyc.val
          | none => if !s.dev.ec.sync0 then d else d.sync0Absent).latchInputs (s.seen cyc))) := by
  rw [show exec (.sync0Event cycleNs cyc) s = liveRead s cyc _ from rfl, liveRead_next _ hlive h]
  rfl
end

/-- The module shows the phase of a SYNC0 event. -/
structure Dev.PhaseShown (d t : Dev) (cycleNs cyc : Nat) : Prop where
  phase : t.reg Obj.SYNC0_PHASE = cyc / 5
  cycle : t.reg Obj.SYNC0_CYCLE = cycleNs / 1000
  seen  : t.ec.sync0 = true
  at'   : t.ec.sync0At = d.tick
  late  : t.sync.sync0Late = some (decide (250 ≤ cyc))
  state : t.reg Obj.SYNC0_STATE = d.sync0State cycleNs (decide (250 ≤ cyc))

section
variable (d : Dev) (cycleNs cyc : Nat)

/-- What a SYNC0 event leaves before the frame: its phase shows, and nothing of the process data. -/
theorem Dev.sync0Seen_rest : ∃ regs flt sync, d.sync0Seen cycleNs cyc =
    { d with regs := regs, flt := flt, sync := sync, ec := { d.ec with sync0 := true, sync0At := d.tick } } := by
  obtain ⟨⟨regs, flt, heq⟩, -, -, -, -⟩ := d.sync0Phase_shows cycleNs cyc
  exact ⟨regs, flt, _, by rw [Dev.sync0Seen, heq]; rfl⟩

theorem Dev.sync0Seen_reg {k : Nat} (hp : k ≠ Obj.SYNC0_PHASE) (hc : k ≠ Obj.SYNC0_CYCLE) (hs : k ≠ Obj.SYNC0_STATE) :
    (d.sync0Seen cycleNs cyc).reg k = d.reg k := (d.sync0Phase_shows cycleNs cyc).regs k hp hc hs

theorem Dev.sync0Seen_shows : Dev.PhaseShown d (d.sync0Seen cycleNs cyc) cycleNs cyc := by
  obtain ⟨⟨regs, flt, heq⟩, hphase, hcycle, hstate, -⟩ := d.sync0Phase_shows cycleNs cyc
  exact ⟨hphase, hcycle, rfl, rfl, (congrArg (·.sync.sync0Late) heq :), hstate⟩

theorem Dev.sync0Seen_dcMode : (d.sync0Seen cycleNs cyc).dcMode = d.dcMode := by
  unfold Dev.dcMode
  rw [d.sync0Seen_reg cycleNs cyc (by decide) (by decide) (by decide)]
end

section
variable {s : State} {cycleNs : Nat} {cyc : Cycle} (hlive : s.live) (h : 8 ≤ cyc.val → s.dev.fab.atCommit = false)
include hlive h

theorem exec_sync0Event_free (hmode : s.dev.dcMode = false) :
    exec (.sync0Event cycleNs cyc) s = .next (s.inTick (s.dev.sync0Seen cycleNs cyc.val)) := by
  rw [exec_sync0Event s cycleNs cyc hlive h]
  refine congrArg (fun u => Host.Outcome.next (s.inTick u)) (if_pos ?_)
  simp [Dev.sync0Seen_dcMode, hmode]

variable (hmode : s.dev.dcMode = true) (hrun : s.dev.pdRuns = true)
include hmode hrun

/-- In DC SYNC0 an event takes what waits, and latches the inputs. -/
theorem exec_sync0Event_dc : exec (.sync0Event cycleNs cyc) s = .next (s.inTick (
    (match s.dev.dict.frame with
      | some outs => (s.dev.sync0Seen cycleNs cyc.val).sync0Frame outs cyc.val
      | none => if !s.dev.ec.sync0 then s.dev.sync0Seen cycleNs cyc.val
          else (s.dev.sync0Seen cycleNs cyc.val).sync0Absent).latchInputs (s.seen cyc))) := by
  have hmode' := s.dev.sync0Seen_dcMode cycleNs cyc.val
  have hevent := exec_sync0Event s cycleNs cyc hlive h
  obtain ⟨regs, flt, sync, heq⟩ := s.dev.sync0Seen_rest cycleNs cyc.val
  generalize s.dev.sync0Seen cycleNs cyc.val = u at *
  have hrun' : u.pdRuns = true := by
    rw [heq]
    exact hrun
  have hframe : u.dict.frame = s.dev.dict.frame := by rw [heq]
  rw [hevent]
  refine congrArg (fun u => Host.Outcome.next (s.inTick u)) ((if_neg (by simp [hmode', hmode, hrun'])).trans ?_)
  rw [hframe]
end

/-- The phase stays shown where device objects of it, its instant and the unit stay. -/
theorem Dev.PhaseShown.kept {d t u : Dev} {cycleNs cyc : Nat} (h : Dev.PhaseShown d t cycleNs cyc)
    (hregs : ∀ k, k ≠ Obj.SM_EVENT_MISSED → k ≠ Obj.SYNC_ERROR → u.reg k = t.reg k) (hseen : u.ec.sync0 = t.ec.sync0)
    (hat : u.ec.sync0At = t.ec.sync0At) (hsync : u.sync = t.sync) : Dev.PhaseShown d u cycleNs cyc :=
  ⟨(hregs _ (by decide) (by decide)).trans h.phase, (hregs _ (by decide) (by decide)).trans h.cycle, hseen.trans h.seen,
    hat.trans h.at', (congrArg (·.sync0Late) hsync).trans h.late, (hregs _ (by decide) (by decide)).trans h.state⟩

/-! ## What process data, mailbox services and SDO transfers leave -/

/-- The memories, the channels and the counter stay. -/
structure Dev.PdStays (d t : Dev) : Prop where
  chans : t.chans = d.chans
  mem   : t.mem = d.mem
  tick  : t.tick = d.tick

theorem Dev.latchInputs_eq (d seen : Dev) (h : d.pdRuns = true) :
    d.latchInputs seen = d.modDict fun x => { x with inputs := seen.inputValues } := if_pos h

section
variable (d seen : Dev) (cycleNs cyc : Nat)

/-- A SYNC0 event of free run, or of no process data, shows its phase alone. -/
theorem Dev.sync0Seen_leaves : (d.sync0Seen cycleNs cyc).dict = d.dict ∧ Dev.PdStays d (d.sync0Seen cycleNs cyc) := by
  obtain ⟨regs, flt, sync, heq⟩ := d.sync0Seen_rest cycleNs cyc
  rw [heq]
  exact ⟨rfl, rfl, rfl, rfl⟩

/-- A SYNC0 event without a frame that ends no interval latches the inputs. -/
theorem Dev.sync0First_leaves (hrun : d.pdRuns = true) : let t := (d.sync0Seen cycleNs cyc).latchInputs seen
    Dev.PhaseShown d t cycleNs cyc ∧ t.ec.missed = d.ec.missed ∧ t.dict = { d.dict with inputs := seen.inputValues } ∧
      Dev.PdStays d t := by
  have hshown := d.sync0Seen_shows cycleNs cyc
  obtain ⟨regs, flt, sync, heq⟩ := d.sync0Seen_rest cycleNs cyc
  have hrun' : (d.sync0Seen cycleNs cyc).pdRuns = true := by
    rw [heq]
    exact hrun
  rw [Dev.latchInputs_eq _ _ hrun']
  refine ⟨hshown.kept (fun _ _ _ => rfl) rfl rfl rfl, ?_⟩
  rw [heq]
  exact ⟨rfl, rfl, rfl, rfl, rfl⟩

/-- A SYNC0 event that ends an interval without a frame counts it and latches the inputs (R391). -/
theorem Dev.sync0Absent_leaves (hrun : d.pdRuns = true) :
    let t := (d.sync0Seen cycleNs cyc).sync0Absent.latchInputs seen
    Dev.PhaseShown d t cycleNs cyc ∧ t.ec.missed = d.ec.missed + 1 ∧
      t.reg Obj.SM_EVENT_MISSED = bump 16 (d.reg Obj.SM_EVENT_MISSED) ∧ t.dict = { d.dict with inputs := seen.inputValues } ∧
      Dev.PdStays d t := by
  have hshown := d.sync0Seen_shows cycleNs cyc
  have hmissed := d.sync0Seen_reg cycleNs cyc (k := Obj.SM_EVENT_MISSED) (by decide) (by decide) (by decide)
  obtain ⟨regs, flt, sync, heq⟩ := d.sync0Seen_rest cycleNs cyc
  generalize d.sync0Seen cycleNs cyc = u at *
  have hrun' : u.sync0Absent.pdRuns = true := by
    rw [heq]
    exact hrun
  rw [Dev.latchInputs_eq _ _ hrun']
  refine ⟨hshown.kept (fun k hm he => ?_) rfl rfl rfl, ?_, ?_, ?_⟩
  · exact (Dev.reg_setReg_eq ..).trans ((if_neg he).trans ((Dev.reg_setReg_eq ..).trans (if_neg hm)))
  · rw [heq]
    rfl
  · rw [← hmissed]
    exact (Dev.reg_setReg_eq ..).trans ((if_neg (by decide)).trans ((Dev.reg_setReg_eq ..).trans (if_pos rfl)))
  · rw [heq]
    exact ⟨rfl, rfl, rfl, rfl⟩

theorem Dev.processFrame_safeop (outs : List (Nat × Nat)) (h : d.ec.esm = .safeop) : d.processFrame outs cyc =
    (d.modEc fun e => { e with frames := e.frames + 1, missed := 0 }).modDict fun x =>
      { x with lastFrame := some (d.tick, cyc), holdAll := false } := if_pos (by simp [Dev.modEc, Dev.modDict, h])

/-- The frame that waits is processed at the SYNC0 event: in SAFEOP it counts and nothing of it acts (R391). -/
theorem Dev.sync0Frame_leaves (outs : List (Nat × Nat)) (hst : d.ec.esm = .safeop) :
    let t := ((d.sync0Seen cycleNs cyc).sync0Frame outs cyc).latchInputs seen
    Dev.PhaseShown d t cycleNs cyc ∧ t.ec.frames = d.ec.frames + 1 ∧ t.ec.missed = 0 ∧ t.reg Obj.SYNC_ERROR = 0 ∧
      t.dict.frame = none ∧ t.dict.inputs = seen.inputValues ∧ t.dict.writes = d.dict.writes ∧ Dev.PdStays d t := by
  have hshown := d.sync0Seen_shows cycleNs cyc
  obtain ⟨regs, flt, sync, heq⟩ := d.sync0Seen_rest cycleNs cyc
  generalize d.sync0Seen cycleNs cyc = u at *
  have hst' : u.ec.esm = .safeop := by
    rw [heq]
    exact hst
  have hframe : u.sync0Frame outs cyc = _ :=
    Dev.processFrame_safeop ((u.modDict fun x => { x with frame := none }).setReg Obj.SYNC_ERROR 0) cyc outs hst'
  rw [hframe, Dev.latchInputs_eq]
  · refine ⟨hshown.kept (fun k _ he => (Dev.reg_setReg_eq ..).trans (if_neg he)) rfl rfl rfl, ?_, rfl,
      (Dev.reg_setReg_eq ..).trans (if_pos rfl), rfl, rfl, ?_⟩
    · rw [heq]
      rfl
    · rw [heq]
      exact ⟨rfl, rfl, rfl, rfl⟩
  · simp [Dev.pdRuns, Dev.modDict, Dev.modEc, Dev.setReg, hst']
end

/-- A frame in free run is processed, or only counted where it follows the last one too soon (R391). -/
theorem exec_pdFrame_free {s : State} {outs : List (Nat × Nat)} {cyc : Cycle} (hin : s.inside) (hrun : s.dev.pdRuns = true)
    (hmode : s.dev.dcMode = false) : exec (.pdFrame outs cyc) s = .next (s.inTick
      (if s.dev.dict.lastFrame.any (fun l => decide (cycFrom l (s.dev.tick, cyc.val) < 15500)) = true then
        s.dev.inc 16 Obj.CYCLE_TOO_SMALL else s.dev.processFrame outs cyc.val)) := by
  refine next_in hin (show execPdFrame outs cyc s = _ from rfl) ((if_neg (by simp [hrun])).trans
    ((if_neg (by simp [hmode])).trans ?_))
  cases s.dev.dict.lastFrame <;> rfl

/-! ## Requests and reads (R377, R379, R406) -/

/-- A request that is refused at its receipt: its abort code, and its violation (R424). -/
theorem Dev.refuseFrom_refuses (d : Dev) (source obj code : Nat) :
    let t := d.refuseFrom source obj code
    t.dict = { d.dict with source := 0, abort := code } ∧ t.flt.violSeq = d.flt.violSeq + 1 ∧ Dev.PdStays d t := by
  unfold Dev.refuseFrom
  refine ⟨?_, ?_, ?_, ?_, ?_⟩
  · exact congrArg (fun x : Dict => { x with source := 0 }) (Dev.refuse_dict _ obj code)
  · exact Dev.violate_violSeq ..
  · exact Dev.refuse_chans ..
  · exact Dev.refuse_mem ..
  · exact Dev.refuse_tick ..

/-- A read marks no object's value, and no memory. -/
theorem Dev.readMark_leaves (d shown : Dev) (obj : Nat) : (d.readMark shown obj).dict = d.dict ∧
    (d.readMark shown obj).regs = d.regs ∧ Dev.PdStays d (d.readMark shown obj) := by
  unfold Dev.readMark
  split
  · split
    · exact ⟨rfl, rfl, rfl, rfl, rfl⟩
    · exact ⟨rfl, rfl, rfl, rfl, rfl⟩
  · split
    · exact ⟨rfl, rfl, rfl, rfl, rfl⟩
    · split
      · exact ⟨rfl, rfl, rfl, rfl, rfl⟩
      · exact ⟨rfl, rfl, rfl, rfl, rfl⟩

/-- A read that is served gives its data (R379). -/
theorem Dev.answerRead_ok (d shown : Dev) (source obj : Nat) (data : List Byte) :
    let t := d.answerRead shown source obj (.ok data)
    t.dict = { d.dict with abort := 0, data := data, answer := leNat data } ∧ t.regs = d.regs ∧ Dev.PdStays d t := by
  obtain ⟨hdict, hregs, hst⟩ := d.served.readMark_leaves shown obj
  exact ⟨congrArg (fun x : Dict => { x with data := data, answer := leNat data }) hdict, hregs, hst.chans, hst.mem, hst.tick⟩

end Sys2Proof.Machine

namespace Sys2Proof
open Machine

/-- Settles O53: frames and SYNC0 events by the mode and the frame that waits (`exec_sync0Event`, `Dev.processFrame_safeop`),
requests by their receipt (`Dev.refuseFrom_refuses`, `length_insertWrite`), reads by what a commit showed (`State.seen_eq`). -/
theorem framesEventsAndMailbox : Obligations.FramesEventsAndMailbox := by
  intro s outs old cycleNs cyc svc idx sub len value code values data hlive hcyc d x seen late flips jitter wrong was stays queued
    answered error phase
  have hseen : s.seen cyc = seen := State.seen_eq hcyc
  have here : Dev.PdStays d d := ⟨rfl, rfl, rfl⟩
  have stay : ∀ {u : Dev}, Dev.PdStays d u → stays (s.inTick u) := fun h => ⟨h.chans, h.mem, h.tick, rfl⟩
  have shows : ∀ {u : Dev}, Dev.PhaseShown d u cycleNs cyc.val → phase (s.inTick u) := fun h =>
    ⟨h.phase, h.cycle, h.seen, h.at', h.late, h.state⟩
  have answers : ∀ {op : Instr} (source obj c : Nat), exec op s = .next (s.inTick (d.refuseFrom source obj c)) →
      answered op c := by
    intro op source obj c he
    obtain ⟨hdict, hviol, hst⟩ := d.refuseFrom_refuses source obj c
    exact ⟨_, he, (congrArg Dict.abort hdict :), (congrArg Dict.writes hdict :), hviol, stay hst⟩
  have reads : ∀ {op : Instr} {f : Dev → Dev} (obj : Nat) (r : Except Nat (List Byte)), exec op s = liveRead s cyc f →
      f d = d.answerRead (s.seen cyc) 0 obj r →
      (r = .ok data → Gives op s fun t => t.dev.dict = { x with abort := 0, data := data, answer := leNat data } ∧
        t.dev.regs = d.regs ∧ stays t) ∧ (r = .error code → answered op code) := by
    intro op f obj r he hf
    have hnext := he.trans (liveRead_next f hlive hcyc)
    refine ⟨fun hok => ?_, fun herr => answers 0 obj code ?_⟩
    · obtain ⟨hdict, hregs, hst⟩ := d.answerRead_ok (s.seen cyc) 0 obj data
      rw [← hok, ← hf] at hdict hregs hst
      exact ⟨_, hnext, hdict, hregs, stay hst⟩
    · rw [hnext]
      exact congrArg (fun u => Host.Outcome.next (s.inTick u)) (by rw [show f s.dev = _ from hf, herr]; rfl)
  have queues : ∀ {op : Instr} {f : Dev → Dev} (req : HostReq), s.inside → exec op s = liveIn s f →
      f d = d.queueWrite cyc.val 1 0 false false req → Gives op s fun t =>
        queued t { act := if cyc.val < 250 then d.tick + 1 else d.tick + 2, arrived := d.tick, cyc := cyc.val, rank := 1,
                   source := 0, sealedBy := false, cmd := false, req := req } := by
    intro op f req hin he hf
    exact ⟨_, next_in hin he hf, length_insertWrite .., mem_insertWrite .., rfl, rfl, rfl, rfl, rfl, rfl⟩
  have upload := reads (op := .sdoUpload idx sub cyc) (idx.toNat * 256 + sub.toNat) ((s.seen cyc).readObj idx.toNat sub.toNat) rfl rfl
  have whole := reads (op := .sdoCompleteAccessRead idx cyc) (idx.toNat * 256) ((s.seen cyc).readWhole idx.toNat) rfl rfl
  have boxErr : ∀ {svc : MailboxService} (c reply : Nat), s.inside → exec (.mailboxRequest svc) s = .next (s.inTick
      ((d.modEc fun e => { e with mailbox := [reply] }).violate 0 c 0 reply)) → error svc reply := fun c reply hin he =>
    ⟨_, he, Dev.violate_ec .., Dev.violate_dict .., Dev.violate_violSeq .., Dev.violate_chans .., Dev.violate_mem ..,
      Dev.violate_tick .., rfl⟩
  refine ⟨?_, ?_, ?_, ?_, ?_, ?_, ?_, ?_, ?_, ?_, ?_, ?_, ?_, ?_, ?_, ?_, ?_, ?_⟩
  · intro hin hrun hmode
    exact ⟨_, next_in hin (show execPdFrame outs cyc s = _ from rfl)
      ((if_neg (by simp [show s.dev.pdRuns = true from hrun])).trans (if_pos hmode)), rfl, rfl, rfl, stay ⟨rfl, rfl, rfl⟩⟩
  · intro hin hrun hmode
    have hnext := exec_pdFrame_free (outs := outs) (cyc := cyc) hin hrun hmode
    refine ⟨fun hall hsafeop => ?_, fun hsoon => ?_⟩
    · have hlong : ¬ s.dev.dict.lastFrame.any (fun l => decide (cycFrom l (s.dev.tick, cyc.val) < 15500)) = true := by
        cases hl : s.dev.dict.lastFrame with
        | none => simp
        | some l =>
          rw [show x.lastFrame = some l from hl] at hall
          simpa using hall
      rw [if_neg hlong, Dev.processFrame_safeop _ _ _ hsafeop] at hnext
      exact ⟨_, hnext, rfl, rfl, rfl, stay ⟨rfl, rfl, rfl⟩⟩
    · exact ⟨_, hnext.trans (congrArg (fun u => Host.Outcome.next (s.inTick u)) (if_pos hsoon)), rfl, rfl,
        (Dev.reg_setReg_eq ..).trans (if_pos rfl), stay ⟨rfl, rfl, rfl⟩⟩
  · intro hin hrun
    exact ⟨_, next_in hin (show execPdFrame outs cyc s = _ from rfl) (if_pos (by simp [show s.dev.pdRuns = false from hrun])), rfl⟩
  · intro hmode
    obtain ⟨hdict, hst⟩ := d.sync0Seen_leaves cycleNs cyc.val
    exact ⟨_, exec_sync0Event_free hlive hcyc hmode, shows (d.sync0Seen_shows cycleNs cyc.val), hdict, stay hst⟩
  · intro hmode hrun hframe hfirst
    obtain ⟨hshown, hmissed, hdict, hst⟩ := d.sync0First_leaves (s.seen cyc) cycleNs cyc.val hrun
    refine ⟨_, (exec_sync0Event_dc hlive hcyc hmode hrun).trans ?_, shows hshown, hmissed, hseen ▸ hdict, stay hst⟩
    rw [show s.dev.dict.frame = none from hframe, show s.dev.ec.sync0 = false from hfirst]
    rfl
  · intro hmode hrun hframe hsecond
    obtain ⟨hshown, hmissed, hcount, hdict, hst⟩ := d.sync0Absent_leaves (s.seen cyc) cycleNs cyc.val hrun
    refine ⟨_, (exec_sync0Event_dc hlive hcyc hmode hrun).trans ?_, shows hshown, hmissed, hcount, hseen ▸ hdict, stay hst⟩
    rw [show s.dev.dict.frame = none from hframe, show s.dev.ec.sync0 = true from hsecond]
    rfl
  · intro hmode hsafeop hframe
    have hrun : d.pdRuns = true := by simp [Dev.pdRuns, hsafeop]
    obtain ⟨hshown, hframes, hmissed, herror, hnone, hinputs, hwrites, hst⟩ :=
      d.sync0Frame_leaves (s.seen cyc) cycleNs cyc.val old hsafeop
    refine ⟨_, (exec_sync0Event_dc hlive hcyc hmode hrun).trans ?_, shows hshown, hframes, hmissed, herror, hnone,
      hseen ▸ hinputs, hwrites, stay hst⟩
    rw [show s.dev.dict.frame = some old from hframe]
  · exact fun hin => ⟨_, next_in hin (show execMailboxRequest .coe s = _ from rfl) rfl, rfl, rfl, rfl, stay ⟨rfl, rfl, rfl⟩⟩
  · intro hin
    exact ⟨boxErr 0x0102 2 hin (next_in hin (show execMailboxRequest (.unsupported svc) s = _ from rfl) rfl),
      boxErr 0x0101 5 hin (next_in hin (show execMailboxRequest .badHeader s = _ from rfl) rfl),
      boxErr 0x0103 6 hin (next_in hin (show execMailboxRequest .tooShort s = _ from rfl) rfl),
      boxErr 0x0103 8 hin (next_in hin (show execMailboxRequest .tooLong s = _ from rfl) rfl)⟩
  · intro hin hcode
    exact queues _ hin (show execSdoDownload idx sub len value cyc s = _ from rfl) (if_neg (not_not_intro hcode))
  · intro hin hcode hne
    have hbad : d.request 0 1 cyc.val false idx.toNat sub.toNat len value = d.refuseFrom 0 (idx.toNat * 256 + sub.toNat) code := by
      rw [← hcode] at hne ⊢
      exact if_pos hne
    exact answers 0 _ code (next_in hin (show execSdoDownload idx sub len value cyc s = _ from rfl) hbad)
  · intro hin hcode
    exact queues _ hin (show execSdoCompleteAccessWrite idx values cyc s = _ from rfl) (if_neg (not_not_intro hcode))
  · intro hin hcode hne
    have hbad : d.requestWhole 0 1 cyc.val idx.toNat values = d.refuseFrom 0 (idx.toNat * 256) code := by
      rw [← hcode] at hne ⊢
      exact if_pos hne
    exact answers 0 _ code (next_in hin (show execSdoCompleteAccessWrite idx values cyc s = _ from rfl) hbad)
  · exact (hseen ▸ upload).1
  · exact (hseen ▸ upload).2
  · exact (hseen ▸ whole).1
  · exact (hseen ▸ whole).2
  · intro hin
    refine ⟨_, next_in hin (show execSdoSegmentTimeout s = _ from rfl) rfl, ?_, ?_, Dev.violate_violSeq .., ?_⟩
    · exact (congrArg Dict.abort (Dev.violate_dict ..) :)
    · exact (congrArg Dict.writes (Dev.violate_dict ..) :)
    · exact ⟨Dev.violate_chans .., Dev.violate_mem .., Dev.violate_tick .., rfl⟩

end Sys2Proof
end

section
namespace Sys2Proof.Machine
open Sys2Proof

/-! R500, R508: a commit between a last resort and the commit at which its F5 fault is presented. -/

/-- The module of a last resort: the F5 fault of stall 0 waits for the commit of tick 2, and FLT_N is asserted (R500). -/
def f5Waits : State :=
  let f : FaultRec := { code := 0x0B01, cls := 5, scope := .stall, unit := 0, detail := 0, detect := 0, cause := 0 }
  let d := { Dev.reset with power := { Power.reset with released := true, state := .parked, fltN := true },
                            flt := { Dev.reset.flt with due := [(2, f)] } }
  { dev := d, shown := d, prior := d, pending := [] }

/-- What a sealed request without an open session makes of it at the commit of tick 0. -/
def f5WaitsAfter : Dev :=
  (((f5Waits.dev.modDict fun x => { x with source := 0 }).refuse Obj.SEALED_IN abState).modDict fun x =>
    { x with source := 0 }).settleFaults

theorem f5Waits_exec : exec (.sealedIn [] false) f5Waits = .next (f5Waits.atCommit f5WaitsAfter) :=
  next_at rfl (show execSealedIn [] false f5Waits = _ from rfl) (by
    have hclosed : (f5Waits.dev.modDict fun x => { x with source := 0 }).sealedIn [] false =
        (f5Waits.dev.modDict fun x => { x with source := 0 }).refuse Obj.SEALED_IN abState := if_pos (by decide)
    exact congrArg (fun d : Dev => (d.modDict fun x => { x with source := 0 }).settleFaults) hclosed)

/-- The commit releases FLT_N before the F5 fault is presented. -/
theorem f5WaitsAfter_fltN : f5WaitsAfter.power.fltN = false := by decide

end Sys2Proof.Machine

namespace Sys2Proof
open Machine

/-- Refutes O60: a sealed request refused at a commit keeps the power unit, says the statement, and that unit holds FLT_N. A commit
sets FLT_N by the latches alone (R508): at `f5Waits`, where a last resort has asserted it and its F5 fault waits for the next commit,
the refused request releases it. -/
theorem not_objectsRecordsAndSealedRequests : ¬ Obligations.ObjectsRecordsAndSealedRequests := by
  intro h
  obtain ⟨-, -, -, -, -, -, -, -, -, -, -, -, -, -, -, -, hrefused, -⟩ :=
    h f5Waits 0 0 0 0 0 0 0 0 ⟨0, 0, 0, 0, 0, 0⟩ [] false 0 rfl (by decide)
  obtain ⟨t, ht, -, -, -, -, -, -, -, hpower, -⟩ := hrefused (.inl (by decide))
  obtain rfl := Host.Outcome.next.inj (f5Waits_exec.symm.trans ht)
  exact absurd ((congrArg Power.fltN hpower :).symm.trans f5WaitsAfter_fltN) (by decide)

end Sys2Proof
end

section
namespace Sys2Proof.Machine
open Sys2Proof

/-! ## Requests of the link (R407) -/

/-- Ticks run, and the link is up. -/
structure State.linked (s : State) : Prop where
  inside : s.inside
  up     : s.dev.pcie.up = true
  perst  : s.dev.pcie.perst = false

section
variable {s : State} (h : s.linked)
include h

theorem next_link {c : Instr} {f : Dev → Dev} {u : Dev} (he : exec c s = linkIn s f) (hf : f s.dev = u) :
    exec c s = .next (s.inTick u) :=
  next_in h.inside (he.trans (show linkIn s f = liveIn s _ from rfl)) ((if_pos (by simp [h.up, h.perst])).trans hf)

theorem next_linkRead {c : Instr} {cyc : Cycle} {f : Dev → Dev} {u : Dev} (he : exec c s = linkRead s cyc f) (hf : f s.dev = u) :
    exec c s = .next (s.inTick u) := by
  rw [he, linkRead, liveRead_next _ h.inside.1 fun _ => h.inside.2]
  exact congrArg (fun u => Host.Outcome.next (s.inTick u)) ((if_pos (by simp [h.up, h.perst])).trans hf)

/-- A read inside a tick sees the latest commit, or in cycles 0 to 7 the one before (R39). -/
theorem State.linked.seen (cyc : Cycle) : s.seen cyc = if cyc.val < 8 then s.prior else s.shown := State.seen_eq fun _ => h.inside.2
end

/-! ## What a violation and a raised interrupt leave -/

/-- A violation is numbered, and nothing else but the interrupt changes (R424). -/
theorem Dev.violate_notes (d : Dev) (a b c e : Nat) : ∃ regs flt irq sent,
    d.violate a b c e = { d with regs := regs, flt := flt, pcie := { d.pcie with irq := irq, irqSent := sent } } ∧
      flt.violSeq = d.flt.violSeq + 1 := by
  have hpcie : (d.violate a b c e).pcie = { d.pcie with irq := (d.violate a b c e).pcie.irq, irqSent := (d.violate a b c e).pcie.irqSent } := by
    have hlost : ∀ (lost : Bool) (t : Dev), ((if lost then t.inc 32 Obj.VLOG_LOST else t).raiseIrq 6).pcie =
        { t.pcie with irq := ((if lost then t.inc 32 Obj.VLOG_LOST else t).raiseIrq 6).pcie.irq,
                      irqSent := ((if lost then t.inc 32 Obj.VLOG_LOST else t).raiseIrq 6).pcie.irqSent } := by
      intro lost t
      cases lost <;> rfl
    exact hlost _ _
  exact ⟨(d.violate a b c e).regs, _, (d.violate a b c e).pcie.irq, (d.violate a b c e).pcie.irqSent,
    (d.violate_eq a b c e).trans (by rw [← hpcie]), d.violate_violSeq a b c e⟩

/-- What a request of the link keeps: the channels, the FIFO, the memories, the counter and the trust core. -/
structure Dev.LinkStays (d t : Dev) : Prop where
  chans : t.chans = d.chans
  fifo  : t.fifo = d.fifo
  mem   : t.mem = d.mem
  tick  : t.tick = d.tick
  sec   : t.sec = d.sec

/-- A request that is not served is logged, and keeps what the link keeps (R424). -/
structure Dev.LinkLogs (d t : Dev) : Prop where
  stays : Dev.LinkStays d t
  noted : t.flt.violSeq = d.flt.violSeq + 1

theorem Dev.LinkLogs.violates {d u : Dev} (h : Dev.LinkStays d u) (hflt : u.flt = d.flt) (a b c e : Nat) :
    Dev.LinkLogs d (u.violate a b c e) := by
  obtain ⟨regs, flt, irq, sent, heq, hviol⟩ := u.violate_notes a b c e
  rw [heq]
  exact ⟨⟨h.chans, h.fifo, h.mem, h.tick, h.sec⟩, hviol.trans (by rw [hflt])⟩

/-! ## Bus Master Enable (R408) -/

/-- An enabled queue that is not halted halts with BME. -/
def Queue.haltBme (x : Queue) : Queue := if x.enabled && !x.halted then { x with halted := true, cause := 3 } else x

theorem Dev.haltStep_eq (d : Dev) (q : QueueId) : ∃ irq sent,
    (if (d.pcie.queue q).enabled && !(d.pcie.queue q).halted then d.haltQueue q 3 else d) =
      { d with pcie := { d.pcie.setQueue q (d.pcie.queue q).haltBme with irq := irq, irqSent := sent } } := by
  unfold Queue.haltBme
  split
  · cases q <;> exact ⟨_, _, rfl⟩
  · cases q <;> exact ⟨_, _, rfl⟩

theorem Dev.haltAll_eq (d : Dev) : ∃ irq sent, d.haltAll = { d with pcie := { d.pcie with
    load := d.pcie.load.haltBme, obj := d.pcie.obj.haltBme, exp := d.pcie.exp.haltBme, irq := irq, irqSent := sent } } := by
  obtain ⟨irq, sent, hload⟩ := d.haltStep_eq .load
  unfold Dev.haltAll
  rw [List.foldl_cons, hload, List.foldl_cons]
  obtain ⟨irq', sent', hobj⟩ := Dev.haltStep_eq { d with pcie := { d.pcie.setQueue .load (d.pcie.queue .load).haltBme with
    irq := irq, irqSent := sent } } .obj
  rw [hobj, List.foldl_cons]
  obtain ⟨irq'', sent'', hexp⟩ := Dev.haltStep_eq { d with pcie := { d.pcie.setQueue .load (d.pcie.queue .load).haltBme with
    obj := d.pcie.obj.haltBme, irq := irq', irqSent := sent' } } .exp
  exact ⟨irq'', sent'', hexp⟩

/-! ## Resets of the link (R408) -/

/-- A reset takes a link down for which a reset of its kind does. -/
def Dev.resetLink (d : Dev) (kind : PcieResetKind) : Dev :=
  if kind == .perst || kind == .hotReset || kind == .linkDisable then d.linkDown else d

/-- The endpoint after a reset of a kind. -/
def Pcie.afterReset (p : Pcie) (kind : PcieResetKind) : Pcie :=
  { p with load := p.load.off false, obj := p.obj.off false, exp := p.exp.off true, d3 := false, bme := false,
           perst := p.perst || kind == .perst }

theorem exec_pcieReset {s : State} (h : s.linked) (kind : PcieResetKind) : exec (.pcieReset kind) s =
    .next (s.inTick (((s.dev.resetLink kind).loadsReset true).modPcie (·.afterReset kind))) := by
  rw [show exec (.pcieReset kind) s = execPcieReset kind s from rfl, execPcieReset, State.sealed, h.inside.2]
  rfl

theorem Dev.resetLink_eq (d : Dev) (kind : PcieResetKind) (hup : d.pcie.up = true) : ∃ regs,
    d.resetLink kind = { d with regs := regs,
                                pcie := { d.pcie with up := !decide (kind = .perst ∨ kind = .hotReset ∨ kind = .linkDisable) } } ∧
    (d.resetLink kind).reg Obj.PCIE_RATE =
      (if kind = .perst ∨ kind = .hotReset ∨ kind = .linkDisable then 0 else d.reg Obj.PCIE_RATE) ∧
    (d.resetLink kind).reg Obj.GUAR_REFILL =
      (if kind = .perst ∨ kind = .hotReset ∨ kind = .linkDisable then 0 else d.reg Obj.GUAR_REFILL) := by
  unfold Dev.resetLink
  by_cases hdown : kind = .perst ∨ kind = .hotReset ∨ kind = .linkDisable
  · rw [if_pos (by simpa [or_assoc] using hdown), if_pos hdown, if_pos hdown, decide_eq_true hdown]
    refine ⟨_, rfl, ?_, ?_⟩
    · exact (Dev.reg_setReg_eq ..).trans ((if_neg (by decide)).trans ((Dev.reg_setReg_eq ..).trans ((if_neg (by decide)).trans
        ((Dev.reg_setReg_eq ..).trans (if_pos rfl)))))
    · exact (Dev.reg_setReg_eq ..).trans (if_pos rfl)
  · rw [if_neg (by simpa [or_assoc] using hdown), if_neg hdown, if_neg hdown, decide_eq_false hdown]
    exact ⟨d.regs, by rw [Bool.not_false, ← hup], rfl, rfl⟩

/-- No load of the link is lost at a reset where none waits in a queue, claims, or waits for its chapter. -/
theorem Dev.loadsReset_none (d : Dev) (hruns : d.pcie.load.runs = false) (hclaims : d.load.claims = [])
    (hpassed : d.sec.passed = []) : d.loadsReset true = d := by
  have hload : { d.load with claims := [] } = d.load := by rw [← hclaims]
  have hsec : { d.sec with passed := [] } = d.sec := by rw [← hpassed]
  unfold Dev.loadsReset
  simp only [hruns, hclaims, hpassed, List.filter_nil, if_true, if_false, List.range_zero, List.foldl_nil, Bool.false_eq_true,
    hload, hsec]

/-- The load at the head of the running queue is abandoned with RESET (R408). -/
theorem Dev.loadsReset_head (d : Dev) (hruns : d.pcie.load.runs = true) (hwaits : 0 < d.pcie.load.waiting)
    (hclaims : d.load.claims = []) (hpassed : d.sec.passed = []) : d.loadsReset true = d.loadRefuse true 0xA := by
  have hload : { d.load with claims := [] } = d.load := by rw [← hclaims]
  have hsec : { d.sec with passed := [] } = d.sec := by rw [← hpassed]
  have hone : min d.pcie.load.waiting (max 0 1) = 1 := by omega
  unfold Dev.loadsReset
  simp only [hruns, hclaims, hpassed, List.filter_nil, if_true, List.length_nil, Nat.add_zero, hone, hload, hsec]
  rfl

/-- The load at the head of the running queue is answered: its STATUS is written, its ring index first of those done. -/
theorem Dev.loadAnswer_head (d : Dev) (code : Nat) (hruns : d.pcie.load.runs = true) (hwaits : 0 < d.pcie.load.waiting) :
    ∃ irq sent, d.loadAnswer true code 0 = { d with pcie := { d.pcie with
      load := d.pcie.load.take.1, done := (d.pcie.load.head, 0x8000 + code) :: d.pcie.done, irq := irq, irqSent := sent } } := by
  unfold Dev.loadAnswer
  simp only [hruns, hwaits, decide_true, Bool.and_self, if_true]
  split
  · exact ⟨_, _, rfl⟩
  · exact ⟨_, _, rfl⟩

theorem Dev.loadRefuse_head (d : Dev) (code : Nat) (hruns : d.pcie.load.runs = true) (hwaits : 0 < d.pcie.load.waiting) :
    ∃ regs flt irq sent, d.loadRefuse true code = { d with regs := regs, flt := flt, pcie := { d.pcie with
      load := d.pcie.load.take.1, done := (d.pcie.load.head, 0x8000 + code) :: d.pcie.done, irq := irq, irqSent := sent } } ∧
      flt.violSeq = d.flt.violSeq + 1 := by
  obtain ⟨irq, sent, heq⟩ := d.loadAnswer_head code hruns hwaits
  unfold Dev.loadRefuse Dev.loadViolates
  dsimp only
  rw [heq]
  obtain ⟨regs, flt, irq', sent', heq', hviol⟩ := Dev.violate_notes _ (if true then 6 else 0) 0x0150 _ _
  exact ⟨regs, flt, irq', sent', heq', hviol⟩

end Sys2Proof.Machine
end

section
namespace Sys2Proof.Machine
open Sys2Proof

/-! ## Training and interrupts (R408, R411) -/

/-- The link is up at a rate and a width. -/
def Dev.trained (d : Dev) (rate width : Nat) : Dev :=
  ((((d.setReg Obj.PCIE_RATE rate).setReg Obj.PCIE_WIDTH width).setReg Obj.GUAR_REFILL (guaranteed rate width)).inc 32
    Obj.PCIE_RETRAINS).modPcie fun p => { p with up := true }

theorem exec_pcieLinkTrained {s : State} (rate width : BitVec 8) (hperst : s.dev.pcie.perst = false)
    (hen : s.dev.reg Obj.PCIE_EN ≠ 0) (hoff : s.dev.power.state ≠ .off) (hboot : s.dev.power.state = .boot → 2 ≤ s.dev.power.phase) :
    exec (.pcieLinkTrained rate width) s =
      .next (s.atCommit (s.dev.trained (min rate.toNat (s.dev.reg Obj.PCIE_MAX_SPEED)) width.toNat)) := by
  have hrun : exec (.pcieLinkTrained rate width) s = runAt s _ := (show execPcieLinkTrained rate width s = _ from rfl)
  have hcond : (s.dev.pcie.perst || s.dev.power.state = .off || (s.dev.power.state = .boot && s.dev.power.phase < 2) ||
      s.dev.reg Obj.PCIE_EN = 0) = false := by
    by_cases hb : s.dev.power.state = .boot
    · have hphase : ¬ s.dev.power.phase < 2 := Nat.not_lt.2 (hboot hb)
      simp [hperst, hen, hb, hphase, -not_lt]
    · simp [hperst, hen, hoff, hb]
  rw [hrun, runAt, if_neg (by rw [hcond]; decide)]
  rfl

theorem Dev.trained_regs (d : Dev) (rate width : Nat) : let t := d.trained rate width
    t.reg Obj.PCIE_RATE = rate ∧ t.reg Obj.PCIE_WIDTH = width ∧ t.reg Obj.GUAR_REFILL = guaranteed rate width ∧
      t.reg Obj.PCIE_RETRAINS = bump 32 (d.reg Obj.PCIE_RETRAINS) := by
  have htrained : ∀ k, (d.trained rate width).reg k = if k = Obj.PCIE_RETRAINS then bump 32 (d.reg Obj.PCIE_RETRAINS)
      else if k = Obj.GUAR_REFILL then guaranteed rate width else if k = Obj.PCIE_WIDTH then width
      else if k = Obj.PCIE_RATE then rate else d.reg k := by
    intro k
    unfold Dev.trained Dev.modPcie
    refine (Dev.reg_setReg_eq ..).trans ?_
    simp only [Dev.reg_setReg_eq]
    rfl
  simp only [htrained]
  exact ⟨rfl, rfl, rfl, rfl⟩

theorem Pcie.afterReset_deasserted (p : Pcie) (kind : PcieResetKind) (h : p.perst = false) : p.afterReset kind =
    { p with load := p.load.off false, obj := p.obj.off false, exp := p.exp.off true, d3 := false, bme := false,
             perst := decide (kind = .perst) } := by
  unfold Pcie.afterReset
  rw [h, Bool.false_or]
  rfl

/-- IRQ_STATUS clears the bits written, and causes that stay pending unmasked send again (R411). -/
theorem Pcie.irqCleared_bit (irq mask : BitVec 32) (v : Nat) (hv : v < 32) : bit (irq &&& ~~~mask) v = (bit irq v && !bit mask v) := by
  simp [bit, hv]

theorem Dev.violate_winRefused (d : Dev) (a b c e : Nat) : (d.violate a b c e).pcie.winRefused = d.pcie.winRefused := by
  obtain ⟨regs, flt, irq, sent, heq, -⟩ := d.violate_notes a b c e
  rw [heq]

/-- A request refused at its receipt keeps what the link keeps, and WIN_REFUSED. -/
theorem Dev.refuseFrom_logs (d : Dev) (source obj code : Nat) :
    Dev.LinkLogs d (d.refuseFrom source obj code) ∧ (d.refuseFrom source obj code).pcie.winRefused = d.pcie.winRefused := by
  let u : Dev := { d with dict := { d.dict with source := source, abort := code } }
  have hlogs : Dev.LinkLogs d (u.violate u.dict.source 0x0120 (obj * 256) code) :=
    Dev.LinkLogs.violates (d := d) (u := u) ⟨rfl, rfl, rfl, rfl, rfl⟩ rfl ..
  exact ⟨⟨⟨hlogs.stays.chans, hlogs.stays.fifo, hlogs.stays.mem, hlogs.stays.tick, hlogs.stays.sec⟩, hlogs.noted⟩,
    u.violate_winRefused ..⟩

/-! ## The object window (R412, R413) -/

theorem slot_offset (slot : Nat) (h : slot < 2 ^ 24) : 8 * slot % 8 = 0 ∧ 8 * slot < windowSize ∧ 8 * slot / 8 = slot := by
  unfold windowSize
  omega

/-- An access that fails at its receipt because the object does not exist fails with that code. -/
theorem Dev.receipt_missing (d : Dev) (pd sealedBy : Bool) (idx sub len v : Nat) (h : d.missing idx sub ≠ 0) :
    d.receipt pd sealedBy idx sub len v = d.missing idx sub := if_pos h

section
variable (d : Dev) (slot len value : Nat) (cyc : Nat)

/-- What a window write makes of the module (R413). -/
def Dev.windowWrite (d : Dev) (offset len value cyc : Nat) : Dev :=
  let slot := offset / 8
  if offset % 8 ≠ 0 || windowSize ≤ offset then d.badWindow true offset
  else if d.missing (slotIdx slot) (slotSub slot) ≠ 0 then
    (d.refuseFrom 5 (slotIdx slot * 256 + slotSub slot) (d.missing (slotIdx slot) (slotSub slot))).bulkDone 5
      (d.missing (slotIdx slot) (slotSub slot))
  else if slotBytes slot ≠ some len then d.badWindow true offset
  else
    let code := d.receipt false false (slotIdx slot) (slotSub slot) len value
    if code ≠ 0 then (d.refuseFrom 5 (slotIdx slot * 256 + slotSub slot) code).bulkDone 5 code
    else d.queueWrite cyc 2 5 false false (.one (slotIdx slot) (slotSub slot) len value)

/-- A window write that passes its checks waits for its commit. -/
theorem Dev.windowWrite_waits (hslot : slot < 2 ^ 24) (hbytes : slotBytes slot = some len)
    (hcode : d.receipt false false (slotIdx slot) (slotSub slot) len value = 0) :
    d.windowWrite (8 * slot) len value cyc = d.queueWrite cyc 2 5 false false (.one (slotIdx slot) (slotSub slot) len value) := by
  obtain ⟨haligned, hsize, hdiv⟩ := slot_offset slot hslot
  have hexists : d.missing (slotIdx slot) (slotSub slot) = 0 := by
    by_contra hmiss
    exact hmiss ((d.receipt_missing false false _ _ len value hmiss).symm.trans hcode)
  unfold Dev.windowWrite
  rw [hdiv]
  dsimp only
  rw [if_neg (by simp [haligned, Nat.not_le.2 hsize]), if_neg (not_not_intro hexists), if_neg (not_not_intro hbytes),
    if_neg (not_not_intro hcode)]

/-- A window write that fails at its receipt is refused with its code. -/
theorem Dev.windowWrite_refused (hslot : slot < 2 ^ 24) (hbytes : slotBytes slot = some len) {code : Nat}
    (hcode : d.receipt false false (slotIdx slot) (slotSub slot) len value = code) (hne : code ≠ 0) :
    d.windowWrite (8 * slot) len value cyc = (d.refuseFrom 5 (slotIdx slot * 256 + slotSub slot) code).bulkDone 5 code := by
  obtain ⟨haligned, hsize, hdiv⟩ := slot_offset slot hslot
  subst hcode
  unfold Dev.windowWrite
  rw [hdiv]
  dsimp only
  rw [if_neg (by simp [haligned, Nat.not_le.2 hsize])]
  by_cases hmiss : d.missing (slotIdx slot) (slotSub slot) = 0
  · rw [if_neg (not_not_intro hmiss), if_neg (not_not_intro hbytes), if_pos hne]
  · rw [if_pos hmiss, d.receipt_missing _ _ _ _ _ _ hmiss]

/-- A refused window write shows in WIN_STATUS (R413). -/
theorem Dev.bulkDone_window (u : Dev) (code : Nat) (hne : code ≠ 0) : u.bulkDone 5 code =
    { u with pcie := { u.pcie with winStatus := code, winRefused := bump 32 u.pcie.winRefused } } := if_pos hne

/-- The slots that a read covers, from one commit. -/
def Dev.readSlots (seen : Dev) (slots : List Nat) : Except (Nat × Nat × Nat) (List Byte) :=
  slots.foldl (fun a k =>
    match a with
    | .error e => .error e
    | .ok l => match seen.readSlot k with | .ok m => .ok (l ++ m) | .error e => .error (k, e)) (.ok [])

/-- What a window read makes of the module (R412). -/
def Dev.windowRead (d seen : Dev) (offset len : Nat) : Dev :=
  if len = 0 || 4096 < len || windowSize < offset + len then d.badWindow false offset
  else
    match seen.readSlots ((List.range ((offset % 8 + len + 7) / 8)).map (offset / 8 + ·)) with
    | .ok l => d.served.modDict fun x => { x with data := (l.drop (offset % 8)).take len, answer := leNat ((l.drop (offset % 8)).take len) }
    | .error (k, ans, code) =>
      if code = 0 then d.badWindow false (8 * k)
      else (d.modDict fun x => { x with abort := code }).violate 5 0x0120 (k * 256) ans

/-- A read of up to eight bytes covers one slot. -/
theorem Dev.windowRead_slot (seen : Dev) (hslot : slot < 2 ^ 24) (hlo : 1 ≤ len) (hhi : len ≤ 8) :
    d.windowRead seen (8 * slot) len =
      match seen.readSlot slot with
      | .ok l => d.served.modDict fun x => { x with data := l.take len, answer := leNat (l.take len) }
      | .error (ans, code) =>
        if code = 0 then d.badWindow false (8 * slot)
        else (d.modDict fun x => { x with abort := code }).violate 5 0x0120 (slot * 256) ans := by
  obtain ⟨haligned, hsize, hdiv⟩ := slot_offset slot hslot
  have hone : (0 + len + 7) / 8 = 1 := by omega
  unfold windowSize at hsize
  have hcond : (len = 0 || 4096 < len || windowSize < 8 * slot + len) = false := by
    unfold windowSize
    simp
    omega
  unfold Dev.windowRead
  rw [hcond, haligned, hdiv, hone]
  cases hread : seen.readSlot slot with
  | ok l => simp [Dev.readSlots, hread]
  | error e => simp [Dev.readSlots, hread]
end

theorem exec_windowWrite {s : State} (h : s.linked) (offset len value : Nat) (cyc : Cycle) :
    exec (.windowWrite offset len value cyc) s = .next (s.inTick (s.dev.windowWrite offset len value cyc.val)) :=
  next_link h (show execWindowWrite offset len value cyc s = _ from rfl) rfl

theorem exec_windowRead {s : State} (h : s.linked) (offset len : Nat) (cyc : Cycle) :
    exec (.windowRead offset len cyc) s = .next (s.inTick (s.dev.windowRead (s.seen cyc) offset len)) :=
  next_linkRead h (show execWindowRead offset len cyc s = _ from rfl) rfl

end Sys2Proof.Machine

namespace Sys2Proof
open Machine

/-- Settles O54: each register write by what it makes of the endpoint, resets by `Dev.resetLink_eq` and `Dev.loadsReset_head`,
Bus Master Enable by `Dev.haltAll_eq`, the window by `Dev.windowWrite_waits`, `Dev.windowWrite_refused` and
`Dev.windowRead_slot`. -/
theorem linkRegistersAndWindow : Obligations.LinkRegistersAndWindow := by
  intro s rate width d3 q value slot len offset code mask cyc data kind hin hup hperst d p seen stays inside logged i j halts
  have hlink : s.linked := ⟨hin, hup, hperst⟩
  have stay : ∀ {u : Dev}, Dev.LinkStays d u → stays (s.inTick u) := fun h => ⟨h.chans, h.fifo, h.mem, h.tick, h.sec⟩
  have same : ∀ {u : Dev}, Dev.LinkStays d u → u.regs = d.regs → inside (s.inTick u) := fun h hregs => ⟨stay h, rfl, hregs⟩
  have log : ∀ {u : Dev}, Dev.LinkLogs d u → logged (s.inTick u) := fun h => ⟨h.noted, stay h.stays⟩
  have here : Dev.LinkStays d d := ⟨rfl, rfl, rfl, rfl, rfl⟩
  have counted : ∀ {k : TlpKind} (reg a b c e : Nat), reg ≠ Obj.VLOG_LOST →
      exec (.tlpUnsupported k) s = .next (s.inTick ((d.inc 32 reg).violate a b c e)) → Gives (.tlpUnsupported k) s fun t =>
        t.dev.reg reg = bump 32 (d.reg reg) ∧ logged t := fun reg a b c e hreg he =>
    ⟨_, he, (Dev.violate_reg _ _ _ _ _ hreg).trans ((Dev.reg_setReg_eq ..).trans (if_pos rfl)),
      log (Dev.LinkLogs.violates (d := d) (u := d.inc 32 reg) ⟨rfl, rfl, rfl, rfl, rfl⟩ rfl a b c e)⟩
  have badWrite : ∀ {op : Instr} (c : Nat), c ≠ 0 → ∀ u : Dev, exec op s = .next (s.inTick (u.bulkDone 5 c)) → Dev.LinkLogs d u →
      u.pcie.winRefused = p.winRefused → u.dict.writes = d.dict.writes → Gives op s fun t => t.dev.pcie.winStatus = c ∧
        t.dev.pcie.winRefused = bump 32 p.winRefused ∧ t.dev.dict.writes = d.dict.writes ∧ logged t := by
    intro op c hne u he hu hrefused hwrites
    rw [u.bulkDone_window c hne] at he
    exact ⟨_, he, rfl, congrArg (bump 32) hrefused, hwrites, hu.noted, hu.stays.chans, hu.stays.fifo, hu.stays.mem, hu.stays.tick,
      hu.stays.sec⟩
  refine ⟨?_, ?_, ?_, ?_, ?_, ?_, ?_, ?_, ?_, ?_, ?_, ?_, ?_, ?_, ?_, ?_, ?_, ?_, ?_, ?_, ?_, ?_⟩
  · exact gives_runAt (show execPerstNDeassert s = _ from rfl) ⟨rfl, rfl, rfl, rfl, rfl, rfl⟩
  · intro hen hoff hboot
    obtain ⟨hrate, hwidth, hrefill, hcount⟩ := d.trained_regs (min rate.toNat (d.reg Obj.PCIE_MAX_SPEED)) width.toNat
    exact ⟨_, exec_pcieLinkTrained rate width hperst hen hoff hboot, rfl, hrate, hwidth, hrefill, hcount, rfl, rfl, rfl, rfl, rfl⟩
  · intro hen
    refine gives_runAt (show execPcieLinkTrained rate width s = _ from rfl) (if_pos ?_)
    simp [show s.dev.reg Obj.PCIE_EN = 0 from hen]
  · intro hoff hclaims hpassed
    obtain ⟨regs, heq, hrate, hrefill⟩ := d.resetLink_eq kind hup
    have hreset := (d.resetLink kind).loadsReset_none (by
      rw [heq]
      simp [Queue.runs, show d.pcie.load.enabled = false from hoff]) (by rw [heq]; exact hclaims) (by rw [heq]; exact hpassed)
    have hexec := exec_pcieReset hlink kind
    rw [hreset] at hexec
    refine ⟨_, hexec, ?_, ?_, ?_, hrate, hrefill, ?_, rfl⟩
    · rw [heq]
      exact Pcie.afterReset_deasserted _ kind hperst
    · rw [heq]
      rfl
    · rw [heq]
      rfl
    · rw [heq]
      exact ⟨rfl, rfl, rfl, rfl, rfl⟩
  · intro hruns hwaits hclaims hpassed
    obtain ⟨regs, heq, -, -⟩ := d.resetLink_eq kind hup
    have hexec := exec_pcieReset hlink kind
    have hreset := (d.resetLink kind).loadsReset_head (by rw [heq]; exact hruns) (by rw [heq]; exact hwaits)
      (by rw [heq]; exact hclaims) (by rw [heq]; exact hpassed)
    obtain ⟨regs', flt, irq, sent, hrefuse, hviol⟩ := (d.resetLink kind).loadRefuse_head 0xA (by rw [heq]; exact hruns)
      (by rw [heq]; exact hwaits)
    rw [hreset, hrefuse, heq] at hexec
    exact ⟨_, hexec, rfl, rfl, rfl, rfl, hviol.trans (by rw [heq]), rfl, rfl, rfl, rfl, rfl⟩
  · obtain ⟨irq, sent, heq⟩ := (d.modPcie fun p => { p with bme := false, d3 := p.d3 || d3 }).haltAll_eq
    exact ⟨_, next_link hlink (show execBusMasterDisable d3 s = _ from rfl) heq, rfl, rfl, rfl, rfl, rfl,
      same ⟨rfl, rfl, rfl, rfl, rfl⟩ rfl⟩
  · have hseen := hlink.seen cyc
    refine ⟨_, next_linkRead hlink (show execTickLoRead cyc s = _ from rfl) rfl, ?_, ?_, rfl, same ⟨rfl, rfl, rfl, rfl, rfl⟩ rfl⟩
    · rw [hseen]
      rfl
    · rw [hseen]
      rfl
  · exact ⟨_, next_link hlink (show execBar0RegisterWrite .irqMask value s = _ from rfl) rfl, rfl, same ⟨rfl, rfl, rfl, rfl, rfl⟩ rfl⟩
  · by_cases hmark : 1 ≤ value ∧ value ≤ 4096
    · refine ⟨_, next_link hlink (show execBar0RegisterWrite .expMark value s = _ from rfl)
        (if_pos (by simpa [within] using hmark)), ?_, same ⟨rfl, rfl, rfl, rfl, rfl⟩ rfl⟩
      rw [if_pos hmark]
      rfl
    · refine ⟨_, next_link hlink (show execBar0RegisterWrite .expMark value s = _ from rfl)
        (if_neg (by simpa [within] using hmark)), ?_, same here rfl⟩
      rw [if_neg hmark]
      rfl
  · intro hoff
    refine ⟨fun hpage hmax => ?_, fun hlo hhi => ?_⟩
    · refine ⟨_, next_link hlink (show execBar0RegisterWrite (.base q) value s = _ from rfl)
        (if_neg (by simp [show (s.dev.pcie.queue q).enabled = false from hoff, hpage])), ?_, same ⟨rfl, rfl, rfl, rfl, rfl⟩ rfl⟩
      rw [Nat.mod_eq_of_lt hmax]
      rfl
    · exact ⟨_, next_link hlink (show execBar0RegisterWrite (.size q) value s = _ from rfl)
        (if_neg (by simp [show (s.dev.pcie.queue q).enabled = false from hoff, within, hlo, hhi])), rfl,
        same ⟨rfl, rfl, rfl, rfl, rfl⟩ rfl⟩
  · intro hon
    exact ⟨⟨_, next_link hlink (show execBar0RegisterWrite (.base q) value s = _ from rfl)
        (if_pos (by simp [show (s.dev.pcie.queue q).enabled = true from hon])), rfl⟩,
      ⟨_, next_link hlink (show execBar0RegisterWrite (.size q) value s = _ from rfl)
        (if_pos (by simp [show (s.dev.pcie.queue q).enabled = true from hon])), rfl⟩⟩
  · refine ⟨_, next_link hlink (show execIrqStatusWrite mask s = _ from rfl) rfl, fun v hv => Pcie.irqCleared_bit _ _ v hv,
      fun hnone => ?_, same ⟨rfl, rfl, rfl, rfl, rfl⟩ rfl⟩
    exact congrArg (p.irqSent + popCount ·) hnone
  · exact counted Obj.PCIE_CORR_ERRS _ _ _ _ (by decide)
      (next_link hlink (show execTlpUnsupported .unsupported s = _ from rfl) rfl)
  · exact counted Obj.PCIE_UNCORR_ERRS _ _ _ _ (by decide)
      (next_link hlink (show execTlpUnsupported .poisoned s = _ from rfl) rfl)
  · exact ⟨_, next_link hlink (show execTlpUnsupported .misaligned s = _ from rfl) rfl, log (.violates here rfl ..)⟩
  · exact ⟨_, next_link hlink (show execTlpUnsupported .tooLong s = _ from rfl) rfl, log (.violates here rfl ..)⟩
  · obtain ⟨t, ht, hstatus, hrefused, -, hlogged⟩ := badWrite (op := .tlpUnsupported .byteEnables) 0x06070010 (by decide)
      (d.violate 5 0x0204 0 0x06070010) (next_link hlink (show execTlpUnsupported .byteEnables s = _ from rfl) rfl)
      (.violates here rfl ..) (d.violate_winRefused ..) (congrArg Dict.writes (d.violate_dict ..) :)
    exact ⟨t, ht, hstatus, hrefused, hlogged⟩
  · intro hslot hcode hbytes
    refine ⟨_, (exec_windowWrite hlink (8 * slot) len value cyc).trans (congrArg (fun u => Host.Outcome.next (s.inTick u))
      (d.windowWrite_waits slot len value cyc.val hslot hbytes hcode)), length_insertWrite .., rfl, rfl,
      same ⟨rfl, rfl, rfl, rfl, rfl⟩ rfl, mem_insertWrite ..⟩
  · intro hslot hcode hne hbytes
    obtain ⟨hdict, -, -⟩ := d.refuseFrom_refuses 5 (slotIdx slot * 256 + slotSub slot) code
    obtain ⟨hlogs, hrefused⟩ := d.refuseFrom_logs 5 (slotIdx slot * 256 + slotSub slot) code
    exact badWrite code hne (d.refuseFrom 5 (slotIdx slot * 256 + slotSub slot) code)
      ((exec_windowWrite hlink (8 * slot) len value cyc).trans (congrArg (fun u => Host.Outcome.next (s.inTick u))
        (d.windowWrite_refused slot len value cyc.val hslot hbytes hcode hne))) hlogs hrefused
      (congrArg Dict.writes hdict :)
  · intro hoffset
    refine badWrite 0x06070010 (by decide) (d.violate 5 0x0204 offset 0x06070010)
      ((exec_windowWrite hlink offset len value cyc).trans (congrArg (fun u => Host.Outcome.next (s.inTick u)) (if_pos ?_)))
      (.violates here rfl ..) (d.violate_winRefused ..) (congrArg Dict.writes (d.violate_dict ..) :)
    simp [hoffset]
  · intro hslot hread hlo hhi
    have hexec := exec_windowRead hlink (8 * slot) len cyc
    rw [hlink.seen, Dev.windowRead_slot _ _ _ _ hslot hlo hhi, show (if cyc.val < 8 then s.prior else s.shown).readSlot slot = _ from hread] at hexec
    exact ⟨_, hexec, rfl, rfl, rfl, rfl, same ⟨rfl, rfl, rfl, rfl, rfl⟩ rfl⟩
  · intro hslot hread hne hlo hhi
    have hexec := exec_windowRead hlink (8 * slot) len cyc
    rw [hlink.seen, Dev.windowRead_slot _ _ _ _ hslot hlo hhi, show (if cyc.val < 8 then s.prior else s.shown).readSlot slot = _ from hread] at hexec
    dsimp only at hexec
    rw [if_neg hne] at hexec
    refine ⟨_, hexec, ?_, ?_, log (Dev.LinkLogs.violates (d := d) (u := d.modDict fun x => { x with abort := code }) ⟨rfl, rfl, rfl, rfl, rfl⟩ rfl ..)⟩
    · exact (congrArg Dict.abort (Dev.violate_dict ..) :)
    · exact (congrArg Dict.data (Dev.violate_dict ..) :)

end Sys2Proof
end

section
namespace Sys2Proof.Machine
open Sys2Proof

/-! ## Queues (R415) -/

/-- Bit 7 of the interrupt is set where a queue halts. -/
theorem bit_putBit_true {w : Nat} (m : BitVec w) (i : Nat) (h : i < w) : bit (putBit m i true) i = true := by
  simp [bit, putBit, h]

@[simp] theorem Pcie.queue_setQueue (p : Pcie) (q : QueueId) (x : Queue) : (p.setQueue q x).queue q = x := by cases q <;> rfl

/-- What a request of a queue keeps: the channels, the memories, the counter and the trust core. -/
structure Dev.QueueStays (d t : Dev) : Prop where
  chans : t.chans = d.chans
  mem   : t.mem = d.mem
  tick  : t.tick = d.tick
  sec   : t.sec = d.sec

/-- A queue halts with a cause; the interrupt shows it. -/
theorem Dev.haltQueue_halts (d : Dev) (q : QueueId) (cause : Nat) : let t := d.haltQueue q cause
    t.pcie.queue q = { d.pcie.queue q with halted := true, cause := cause } ∧ bit t.pcie.irq 7 = true ∧ t.fifo = d.fifo ∧
      t.regs = d.regs ∧ Dev.QueueStays d t := by
  refine ⟨?_, bit_putBit_true _ 7 (by decide), rfl, rfl, rfl, rfl, rfl, rfl⟩
  cases q <;> rfl

/-- A TAIL beyond the ring halts the queue with RING (R415). -/
theorem Dev.ringHalt_halts (d : Dev) (q : QueueId) (tail : Nat) : let t := d.ringHalt q tail
    t.pcie.queue q = { d.pcie.queue q with halted := true, cause := 1 } ∧ bit t.pcie.irq 7 = true ∧ t.fifo = d.fifo ∧
      Dev.QueueStays d t := by
  obtain ⟨regs, flt, irq, sent, heq, -⟩ := d.violate_notes (queueSource q) 0x0212 tail 1
  obtain ⟨hqueue, hirq, hfifo, -, hst⟩ := (d.violate (queueSource q) 0x0212 tail 1).haltQueue_halts q 1
  refine ⟨?_, hirq, hfifo.trans (by rw [heq]), hst.chans.trans (by rw [heq]), hst.mem.trans (by rw [heq]),
    hst.tick.trans (by rw [heq]), hst.sec.trans (by rw [heq])⟩
  refine hqueue.trans ?_
  rw [heq]
  cases q <;> rfl

/-- A TAIL that stays in the ring adds descriptors; the flags given are those of the descriptors added. -/
theorem take_notify (notify : List Bool) (n : Nat) (h : notify.length = n) :
    (notify ++ List.replicate n false).take n = notify := by
  rw [List.take_append_of_le_length (by omega), List.take_of_length_le (by omega)]

/-! ## The EXPORT ring (R420) -/

section
variable (d : Dev) (tail : Nat)

theorem Dev.exportTail_frees (hhalt : d.pcie.exp.halted = false) (hring : tail < d.pcie.exp.ring)
    (hn : (tail + d.pcie.exp.ring - d.pcie.exp.tail) % d.pcie.exp.ring ≤ d.pcie.exp.inRing) : d.exportTail tail =
      (d.releaseEntries ((tail + d.pcie.exp.ring - d.pcie.exp.tail) % d.pcie.exp.ring)).modQueue .exp fun x => { x with tail := tail } := by
  unfold Dev.exportTail
  dsimp only
  rw [if_neg (by simp [hhalt]), if_neg (by simp; omega)]

theorem Dev.exportTail_halts (hhalt : d.pcie.exp.halted = false)
    (hn : d.pcie.exp.inRing < (tail + d.pcie.exp.ring - d.pcie.exp.tail) % d.pcie.exp.ring) : d.exportTail tail = d.ringHalt .exp tail := by
  unfold Dev.exportTail
  dsimp only
  rw [if_neg (by simp [hhalt]), if_pos (by simp; omega)]
end

/-! ## OBJ descriptors (R414, R416) -/

/-- The module is done with the descriptor at the head of the running OBJ queue. -/
structure Dev.TakesObj (d t : Dev) : Prop where
  obj   : t.pcie.obj = d.pcie.obj.take.1
  load  : t.pcie.load = d.pcie.load
  exp   : t.pcie.exp = d.pcie.exp
  irq   : d.pcie.obj.notify.headD false = true → bit t.pcie.irq 1 = true
  stays : Dev.QueueStays d t

/-- Answering the descriptor at the head takes it, and what was done for it stays. -/
theorem Dev.objAnswer_takes {d u : Dev} (hwaits : d.objWaits = true) (hobj : u.pcie.obj = d.pcie.obj)
    (hload : u.pcie.load = d.pcie.load) (hexp : u.pcie.exp = d.pcie.exp) (hst : Dev.QueueStays d u) :
    Dev.TakesObj d u.objAnswer ∧ u.objAnswer.dict = u.dict ∧ u.objAnswer.regs = u.regs := by
  have hcond : (u.pcie.obj.runs && decide (0 < u.pcie.obj.waiting)) = true := by
    rw [hobj]
    exact hwaits
  have htake : u.pcie.obj.take.1 = d.pcie.obj.take.1 := by rw [hobj]
  unfold Dev.objAnswer
  dsimp only
  rw [if_pos hcond]
  split
  · exact ⟨⟨htake, hload, hexp, fun _ => bit_putBit_true _ 1 (by decide), hst.chans, hst.mem, hst.tick, hst.sec⟩, rfl, rfl⟩
  · next hn =>
    refine ⟨⟨htake, hload, hexp, fun h => absurd ?_ hn, hst.chans, hst.mem, hst.tick, hst.sec⟩, rfl, rfl⟩
    rw [hobj]
    exact h

/-- A read for a descriptor marks what it takes, and keeps the endpoint and the trust core. -/
theorem Dev.readMark_link (d shown : Dev) (obj : Nat) : (d.readMark shown obj).pcie = d.pcie ∧ (d.readMark shown obj).sec = d.sec := by
  unfold Dev.readMark
  split
  · split
    · exact ⟨rfl, rfl⟩
    · exact ⟨rfl, rfl⟩
  · split
    · exact ⟨rfl, rfl⟩
    · split
      · exact ⟨rfl, rfl⟩
      · exact ⟨rfl, rfl⟩

section
variable {d : Dev} (hwaits : d.objWaits = true)
include hwaits

theorem Dev.objRead_ok (seen : Dev) (obj : Nat) (data : List Byte) :
    let t := (d.answerRead seen 7 obj (.ok data)).objAnswer
    t.dict.data = data ∧ t.dict.abort = 0 ∧ Dev.TakesObj d t := by
  obtain ⟨hdict, -, hst⟩ := d.answerRead_ok seen 7 obj data
  obtain ⟨hpcie, hsec⟩ := d.served.readMark_link seen obj
  obtain ⟨htakes, hkept, -⟩ := Dev.objAnswer_takes (u := d.answerRead seen 7 obj (.ok data)) hwaits (congrArg Pcie.obj hpcie :)
    (congrArg Pcie.load hpcie :) (congrArg Pcie.exp hpcie :) ⟨hst.chans, hst.mem, hst.tick, hsec⟩
  exact ⟨(congrArg Dict.data (hkept.trans hdict) :), (congrArg Dict.abort (hkept.trans hdict) :), htakes⟩

/-- A descriptor refused at its receipt completes with its abort code. -/
theorem Dev.objRefuse_takes (obj code : Nat) : let t := d.objRefuse obj code
    t.dict.abort = code ∧ t.dict.writes = d.dict.writes ∧ Dev.TakesObj d t := by
  obtain ⟨hdict, -, hst⟩ := d.refuseFrom_refuses 7 obj code
  let u : Dev := { d with dict := { d.dict with source := 7, abort := code } }
  obtain ⟨regs, flt, irq, sent, heq, -⟩ := u.violate_notes u.dict.source 0x0120 (obj * 256) code
  have hfrom : d.refuseFrom 7 obj code = (u.violate u.dict.source 0x0120 (obj * 256) code).modDict
      fun x => { x with source := 0 } := rfl
  rw [heq] at hfrom
  obtain ⟨htakes, hkept, -⟩ := Dev.objAnswer_takes (u := d.refuseFrom 7 obj code) hwaits (by rw [hfrom]; rfl) (by rw [hfrom]; rfl)
    (by rw [hfrom]; rfl) ⟨hst.chans, hst.mem, hst.tick, by rw [hfrom]; rfl⟩
  exact ⟨(congrArg Dict.abort (hkept.trans hdict) :), (congrArg Dict.writes (hkept.trans hdict) :), htakes⟩
end

/-- What the EXPORT takes: entries of the FIFO that are not in the ring, into free slots (R420). -/
theorem length_exported (entries : List FifoEntry) (old most : Nat) :
    ((entries.drop old).take most).length = min (entries.length - old) most := by
  rw [List.length_take, List.length_drop, Nat.min_comm]

/-- What a run of the EXPORT makes of the ring. -/
def Dev.exported (d : Dev) (slots : Nat) : Dev :=
  let q := d.pcie.exp
  let new := (d.fifo.entries.drop q.inRing).take (min slots (q.ring - 1 - q.inRing))
  let u := d.modQueue .exp fun x => { x with head := (x.head + new.length) % x.ring }
  if (decide (q.inRing < u.pcie.expMark) && decide (u.pcie.expMark ≤ q.inRing + new.length)) || new.any FifoEntry.isBlock then
    u.raiseIrq 2 else u

theorem Dev.exported_writes (d : Dev) (slots : Nat) : let t := d.exported slots
    t.pcie.exp = { d.pcie.exp with head := (d.pcie.exp.head + min (d.fifo.entries.length - d.pcie.exp.inRing)
      (min slots (d.pcie.exp.ring - 1 - d.pcie.exp.inRing))) % d.pcie.exp.ring } ∧
      t.fifo = d.fifo ∧ t.regs = d.regs ∧ Dev.QueueStays d t := by
  unfold Dev.exported
  dsimp only
  rw [length_exported]
  split
  · exact ⟨rfl, rfl, rfl, rfl, rfl, rfl, rfl⟩
  · exact ⟨rfl, rfl, rfl, rfl, rfl, rfl, rfl⟩

/-- A queue runs from its enable, whose host has set Bus Master Enable (R415, log 41). -/
theorem exec_queueEnable {s : State} (h : s.linked) (q : QueueId) (hd3 : s.dev.pcie.d3 = false) : exec (.queueEnable q true) s =
    .next (s.inTick ((s.dev.modPcie fun p => { p with bme := true }).modQueue q fun x => { x with enabled := true, running := true })) := by
  have hbme : (s.dev.modPcie fun p => { p with bme := p.bme || !p.d3 }) = s.dev.modPcie fun p => { p with bme := true } := by
    simp [Dev.modPcie, hd3]
  refine next_link h (show execQueueEnable q true s = _ from rfl) ((if_neg (by simp)).trans ?_)
  rw [hbme]
  refine if_neg ?_
  have hkept : ((s.dev.modPcie fun p => { p with bme := true }).modQueue q fun x =>
      { x with enabled := true, running := true }).pcie.d3 = false := by
    cases q <;> exact hd3
  simp [hkept]

/-- A queue reset: HEAD and TAIL are 0, and the queue is disabled (R415). -/
def Dev.queueReset (d : Dev) (q : QueueId) : Dev := d.modQueue q fun x => { x.off true with head := 0, tail := 0 }

theorem exec_queueReset {s : State} (h : s.linked) (q : QueueId) : exec (.queueReset q) s =
    .next (s.inTick ((if q = .load then s.dev.loadsReset true else s.dev).queueReset q)) :=
  next_link h (show execQueueReset q s = _ from rfl) rfl

/-! ## DMA errors (R426) -/

/-- A DMA error is counted and noted. -/
def Dev.dmaNoted (d : Dev) (q : QueueId) (answer : Nat) : Dev :=
  (d.inc 32 Obj.DMA_ERRORS).violate (queueSource q) 0x0210 (d.pcie.queue q).head answer

theorem Dev.dmaNoted_eq (d : Dev) (q : QueueId) (answer : Nat) :
    (∃ regs flt irq sent, d.dmaNoted q answer =
      { d with regs := regs, flt := flt, pcie := { d.pcie with irq := irq, irqSent := sent } }) ∧
    (d.dmaNoted q answer).reg Obj.DMA_ERRORS = bump 32 (d.reg Obj.DMA_ERRORS) := by
  obtain ⟨regs, flt, irq, sent, heq, -⟩ := (d.inc 32 Obj.DMA_ERRORS).violate_notes (queueSource q) 0x0210 (d.pcie.queue q).head answer
  exact ⟨⟨regs, flt, irq, sent, heq⟩, (Dev.violate_reg _ _ _ _ _ (by decide)).trans ((Dev.reg_setReg_eq ..).trans (if_pos rfl))⟩

/-- The claim of a refill whose payload could not be read is taken back (R426). -/
def Dev.forgetClaim (d : Dev) : Dev :=
  let lost := d.load.claims.find? fun c => c.bulk && c.act.isNone
  { d with load := { d.load with claims := match lost with | some c => d.load.claims.erase c | none => d.load.claims } }

theorem Dev.forgetClaim_none (d : Dev) (h : d.load.claims = []) : d.forgetClaim = d := by
  have hload : { d.load with claims := [] } = d.load := by rw [← h]
  unfold Dev.forgetClaim
  simp only [h, List.find?_nil, hload]

section
variable {s : State} (h : s.linked)
include h

theorem exec_dmaReadError_ring {q : QueueId} (hruns : (s.dev.pcie.queue q).runs = true) :
    exec (.dmaReadError q false) s = .next (s.inTick ((s.dev.dmaNoted q 2).haltQueue q 2)) :=
  next_link h (show execDmaReadError q false s = _ from rfl) ((if_neg (by simp [hruns])).trans rfl)

theorem exec_dmaReadError_obj (hruns : s.dev.pcie.obj.runs = true) : exec (.dmaReadError .obj true) s =
    .next (s.inTick ((s.dev.dmaNoted .obj 0x8009).modDict fun x => { x with abort := 0x06060000 }).objAnswer) :=
  next_link h (show execDmaReadError .obj true s = _ from rfl) ((if_neg (by simp [Pcie.queue, hruns])).trans rfl)

/-- A payload of LOAD that cannot be read completes its descriptor; with no claim under way none is lost. -/
theorem exec_dmaReadError_load (hruns : s.dev.pcie.load.runs = true) (hclaims : s.dev.load.claims = []) :
    exec (.dmaReadError .load true) s = .next (s.inTick ((s.dev.dmaNoted .load 0x8009).loadAnswer true 9 0)) := by
  obtain ⟨⟨regs, flt, irq, sent, heq⟩, -⟩ := s.dev.dmaNoted_eq .load 0x8009
  refine next_link h (show execDmaReadError .load true s = _ from rfl) ((if_neg (by simp [Pcie.queue, hruns])).trans ?_)
  refine congrArg (fun u : Dev => u.loadAnswer true 9 0) (Dev.forgetClaim_none (s.dev.dmaNoted .load 0x8009) ?_)
  rw [heq]
  exact hclaims
end

end Sys2Proof.Machine

namespace Sys2Proof
open Machine

/-- Settles O55: enable, reset and TAIL by the queue's record, the EXPORT by `Dev.exportTail_frees` and `Dev.exported_writes`, OBJ
descriptors by `Dev.objAnswer_takes`, DMA errors by `Dev.dmaNoted_eq` and `Dev.loadAnswer_head`. -/
theorem queuesAndExport : Obligations.QueuesAndExport := by
  intro s q tail slots len value code notify idx sub cyc values data hin hup hperst d p x seen stays one halted taken waits n
  have hlink : s.linked := ⟨hin, hup, hperst⟩
  have hseen : s.seen cyc = seen := hlink.seen cyc
  have stay : ∀ {u : Dev}, Dev.QueueStays d u → stays (s.inTick u) := fun h => ⟨h.chans, h.mem, h.tick, h.sec, rfl⟩
  have takes : ∀ {u : Dev}, Dev.TakesObj d u → taken (s.inTick u) := fun h => ⟨h.obj, h.load, h.exp, h.irq, stay h.stays⟩
  refine ⟨?_, ?_, ?_, ?_, ?_, ?_, ?_, ?_, ?_, ?_, ?_, ?_, ?_, ?_, ?_⟩
  · intro hd3
    refine ⟨_, exec_queueEnable hlink q hd3, ?_, rfl, stay ⟨rfl, rfl, rfl, rfl⟩⟩
    cases q <;> rfl
  · exact ⟨_, next_link hlink (show execQueueEnable q false s = _ from rfl) rfl, rfl, rfl, rfl, stay ⟨rfl, rfl, rfl, rfl⟩⟩
  · intro hq
    have hexec := exec_queueReset hlink q
    rw [if_neg hq] at hexec
    exact ⟨_, hexec, rfl, rfl, rfl, stay ⟨rfl, rfl, rfl, rfl⟩⟩
  · intro hruns hwaits hclaims hpassed
    have hexec := exec_queueReset hlink .load
    obtain ⟨regs, flt, irq, sent, heq, -⟩ := d.loadRefuse_head 0xA hruns hwaits
    rw [if_pos rfl, Dev.loadsReset_head _ hruns hwaits hclaims hpassed, heq] at hexec
    exact ⟨_, hexec, rfl, rfl, rfl, rfl, stay ⟨rfl, rfl, rfl, rfl⟩⟩
  · intro hoff hclaims hpassed
    have hexec := exec_queueReset hlink .load
    have hruns : s.dev.pcie.load.runs = false := by
      have hoff' : s.dev.pcie.load.enabled = false := hoff
      simp [Queue.runs, hoff']
    rw [if_pos rfl, Dev.loadsReset_none _ hruns hclaims hpassed] at hexec
    exact ⟨_, hexec, rfl, rfl, rfl, rfl, stay ⟨rfl, rfl, rfl, rfl⟩⟩
  · intro hq hhalt
    refine ⟨fun hring hlen => ?_, fun hring => ?_⟩
    · refine ⟨_, next_link hlink (show execQueueTailWrite q tail notify s = _ from rfl) ((if_neg hq).trans
        ((if_neg (by simp [show (s.dev.pcie.queue q).halted = false from hhalt])).trans (if_neg (Nat.not_le.2 hring)))), ?_, rfl, rfl,
        stay ⟨rfl, rfl, rfl, rfl⟩⟩
      exact congrArg (fun l => p.setQueue q { x with tail := tail, notify := x.notify ++ l }) (take_notify _ _ hlen)
    · obtain ⟨hqueue, hirq, hfifo, hst⟩ := d.ringHalt_halts q tail
      exact ⟨_, next_link hlink (show execQueueTailWrite q tail notify s = _ from rfl) ((if_neg hq).trans
        ((if_neg (by simp [show (s.dev.pcie.queue q).halted = false from hhalt])).trans (if_pos hring))), hqueue, hirq, hfifo, stay hst⟩
  · intro hq hhalt
    exact ⟨_, next_link hlink (show execQueueTailWrite q tail notify s = _ from rfl) ((if_neg hq).trans (if_pos hhalt)), rfl⟩
  · intro hhalt hring hn freed
    have hfreed : freed (s.inTick ((d.releaseEntries n).modQueue .exp fun x => { x with tail := tail })) :=
      ⟨rfl, rfl, rfl, rfl, stay ⟨rfl, rfl, rfl, rfl⟩⟩
    have hexport := d.exportTail_frees tail hhalt hring hn
    exact ⟨⟨_, next_link hlink (show execExportTailWrite tail s = _ from rfl) hexport, hfreed⟩,
      ⟨_, next_link hlink (show execQueueTailWrite .exp tail notify s = _ from rfl) hexport, hfreed⟩⟩
  · intro hhalt hring hn hq
    obtain ⟨hqueue, hirq, hfifo, hst⟩ := d.ringHalt_halts .exp tail
    subst hq
    exact ⟨_, next_link hlink (show execExportTailWrite tail s = _ from rfl) (d.exportTail_halts tail hhalt hn), hqueue, hirq, hfifo,
      stay hst⟩
  · intro hexport hruns
    obtain ⟨hexp, hfifo, hregs, hst⟩ := d.exported_writes slots
    exact ⟨_, next_link hlink (show execExportWrite slots s = _ from rfl) ((if_neg (by
      simp [show s.dev.reg Obj.EXPORT_LINK = 1 from hexport, show s.dev.pcie.exp.runs = true from hruns])).trans rfl), hexp, hfifo,
      hregs, stay hst⟩
  · intro hexport
    exact ⟨_, next_link hlink (show execExportWrite slots s = _ from rfl) (if_pos (by
      simp [show s.dev.reg Obj.EXPORT_LINK ≠ 1 from hexport])), rfl⟩
  · intro hwaits
    have hread : ∀ {op : Instr} {f : Dev → Dev} (obj : Nat) (r : Except Nat (List Byte)), exec op s = linkRead s cyc f →
        f d = (d.answerRead (s.seen cyc) 7 obj r).objAnswer →
        (r = .ok data → Gives op s fun t => t.dev.dict.data = data ∧ t.dev.dict.abort = 0 ∧ taken t) ∧
        (r = .error code → Gives op s fun t => t.dev.dict.abort = code ∧ taken t) := by
      intro op f obj r he hf
      refine ⟨fun hok => ?_, fun herr => ?_⟩
      · obtain ⟨hdata, habort, ht⟩ := Dev.objRead_ok hwaits (s.seen cyc) obj data
        exact ⟨_, next_linkRead hlink he (u := (d.answerRead (s.seen cyc) 7 obj (.ok data)).objAnswer) (hf.trans (by rw [hok])), hdata,
          habort, takes ht⟩
      · obtain ⟨habort, -, ht⟩ := Dev.objRefuse_takes hwaits obj code
        exact ⟨_, next_linkRead hlink he (u := d.objRefuse obj code) (hf.trans (by rw [herr]; rfl)), habort, takes ht⟩
    have hone := hread (op := .objRead idx sub cyc) (idx.toNat * 256 + sub.toNat) ((s.seen cyc).readObj idx.toNat sub.toNat) rfl
      (if_pos hwaits)
    have hwhole := hread (op := .objCaRead idx cyc) (idx.toNat * 256) ((s.seen cyc).readWhole idx.toNat) rfl (if_pos hwaits)
    have hbusy : ¬ (!s.dev.objWaits) = true := by simp [show s.dev.objWaits = true from hwaits]
    have hrefuse : ∀ {op : Instr} {f : Dev → Dev} (obj : Nat), exec op s = linkIn s f → f d = d.objRefuse obj code →
        Gives op s fun t => t.dev.dict.abort = code ∧ t.dev.dict.writes = d.dict.writes ∧ taken t := by
      intro op f obj he hf
      obtain ⟨habort, hwrites, ht⟩ := Dev.objRefuse_takes hwaits obj code
      exact ⟨_, next_link hlink he hf, habort, hwrites, takes ht⟩
    refine ⟨(hseen ▸ hone).1, (hseen ▸ hone).2, (hseen ▸ hwhole).1, (hseen ▸ hwhole).2, fun hlo hhi hcode => ?_,
      fun hlo hhi hcode hne => ?_, fun hcode => ?_, fun hcode hne => ?_, ?_⟩
    · exact ⟨_, next_link hlink (show execObjWrite idx sub len value cyc s = _ from rfl) ((if_neg hbusy).trans
        ((if_neg (by simp [within, hlo, hhi])).trans (if_neg (not_not_intro hcode)))), length_insertWrite .., mem_insertWrite .., rfl, rfl,
        stay ⟨rfl, rfl, rfl, rfl⟩⟩
    · refine hrefuse (idx.toNat * 256 + sub.toNat) (show execObjWrite idx sub len value cyc s = _ from rfl) ((if_neg hbusy).trans
        ((if_neg (by simp [within, hlo, hhi])).trans ?_))
      rw [← hcode] at hne ⊢
      exact if_pos hne
    · exact ⟨_, next_link hlink (show execObjCaWrite idx values cyc s = _ from rfl) ((if_neg hbusy).trans
        (if_neg (not_not_intro hcode))), length_insertWrite .., mem_insertWrite .., rfl, rfl, stay ⟨rfl, rfl, rfl, rfl⟩⟩
    · refine hrefuse (idx.toNat * 256) (show execObjCaWrite idx values cyc s = _ from rfl) ((if_neg hbusy).trans ?_)
      rw [← hcode] at hne ⊢
      exact if_pos hne
    · have hruns : s.dev.pcie.obj.runs = true := (Bool.and_eq_true _ _ ▸ hwaits).1
      obtain ⟨⟨regs, flt, irq, sent, heq⟩, hcount⟩ := d.dmaNoted_eq .obj 0x8009
      obtain ⟨ht, hdict, hregs⟩ := Dev.objAnswer_takes (u := (d.dmaNoted .obj 0x8009).modDict fun x => { x with abort := 0x06060000 })
        hwaits (by rw [heq]; rfl) (by rw [heq]; rfl) (by rw [heq]; rfl) (by rw [heq]; exact ⟨rfl, rfl, rfl, rfl⟩)
      refine ⟨_, exec_dmaReadError_obj hlink hruns, ?_, ?_, takes ht⟩
      · exact (congrArg Dict.abort hdict :)
      · exact (Dev.reg_of_regs hregs _).trans hcount
  · intro hwaits
    have hidle : ¬ s.dev.objWaits = true := by simp [show s.dev.objWaits = false from hwaits]
    refine ⟨⟨_, next_linkRead hlink (show execObjRead idx sub cyc s = _ from rfl) (if_neg hidle), rfl⟩,
      ⟨_, next_linkRead hlink (show execObjCaRead idx cyc s = _ from rfl) (if_neg hidle), rfl⟩,
      ⟨_, next_link hlink (show execObjWrite idx sub len value cyc s = _ from rfl) (if_pos ?_), rfl⟩,
      ⟨_, next_link hlink (show execObjCaWrite idx values cyc s = _ from rfl) (if_pos ?_), rfl⟩⟩
    · simpa using hidle
    · simpa using hidle
  · intro hruns hwaits hclaims
    obtain ⟨⟨regs, flt, irq, sent, heq⟩, hcount⟩ := d.dmaNoted_eq .load 0x8009
    obtain ⟨irq', sent', hanswer⟩ := (d.dmaNoted .load 0x8009).loadAnswer_head 9 (by rw [heq]; exact hruns) (by rw [heq]; exact hwaits)
    have hexec := exec_dmaReadError_load hlink hruns hclaims
    rw [hanswer] at hexec
    refine ⟨_, hexec, ?_, ?_, hcount, ?_⟩
    · rw [heq]
      rfl
    · rw [heq]
      rfl
    · rw [heq]
      exact stay ⟨rfl, rfl, rfl, rfl⟩
  · intro hruns
    obtain ⟨⟨regs, flt, irq, sent, heq⟩, hcount⟩ := d.dmaNoted_eq q 2
    obtain ⟨hqueue, hirq, hfifo, hregs, hst⟩ := (d.dmaNoted q 2).haltQueue_halts q 2
    refine ⟨_, exec_dmaReadError_ring hlink hruns, ⟨hqueue.trans ?_, hirq, hfifo.trans (by rw [heq]), ?_⟩, ?_⟩
    · rw [heq]
      cases q <;> rfl
    · exact ⟨hst.chans.trans (by rw [heq]), hst.mem.trans (by rw [heq]), hst.tick.trans (by rw [heq]), hst.sec.trans (by rw [heq]), rfl⟩
    · exact (Dev.reg_of_regs hregs _).trans hcount

end Sys2Proof
end

section
namespace Sys2Proof.Machine
open Sys2Proof

/-! ## The objects of a verdict (R440, Table 16-13) -/

/-- CONT_RESULT, CONT_DETAIL, CONT_TICK and CONT_REFUSED. -/
def contObjects : List Nat := [Obj.CONT_RESULT, Obj.CONT_DETAIL, Obj.CONT_TICK, Obj.CONT_REFUSED]

/-- The objects of a verdict tell a code, a type and the low word of CONT_DETAIL. -/
structure Dev.Tells (d t : Dev) (code type low : Nat) : Prop where
  result  : t.reg Obj.CONT_RESULT = code
  detail  : t.reg Obj.CONT_DETAIL = code * 2 ^ 24 + type % 256 * 2 ^ 16 + low
  tick    : t.reg Obj.CONT_TICK = d.tick.toNat
  refused : t.reg Obj.CONT_REFUSED = if code = 0 then d.reg Obj.CONT_REFUSED else bump 32 (d.reg Obj.CONT_REFUSED)

theorem Dev.Tells.kept {d t u : Dev} {code type low : Nat} (h : Dev.Tells d t code type low)
    (hregs : ∀ k ∈ contObjects, u.reg k = t.reg k) : Dev.Tells d u code type low where
  result := (hregs _ (by decide)).trans h.result
  detail := (hregs _ (by decide)).trans h.detail
  tick := (hregs _ (by decide)).trans h.tick
  refused := (hregs _ (by decide)).trans h.refused

section
variable (d : Dev) (code type low : Nat)

theorem Dev.judged_eq : ∃ regs, d.judged code type low = { d with regs := regs } := by
  unfold Dev.judged
  dsimp only
  split <;> exact ⟨_, rfl⟩

set_option maxRecDepth 4096 in
theorem Dev.judged_tells : Dev.Tells d (d.judged code type low) code type low := by
  unfold Dev.judged
  dsimp only
  split
  · constructor <;> simp [Dev.reg_setReg_eq, *]
  · constructor <;> simp [Dev.inc, Dev.reg_setReg_eq, *]

theorem Dev.judged_stays : Dev.LinkStays d (d.judged code type low) := by
  obtain ⟨regs, heq⟩ := d.judged_eq code type low
  rw [heq]
  exact ⟨rfl, rfl, rfl, rfl, rfl⟩

/-- A verdict that a rule of its own gives keeps the low word of CONT_DETAIL (R440). -/
theorem Dev.secVerdict_tells : Dev.Tells d (d.secVerdict code type) code type (d.reg Obj.CONT_DETAIL % 2 ^ 16) := by
  refine (d.judged_tells code type (d.reg Obj.CONT_DETAIL % 2 ^ 16)).kept fun k hk => ?_
  unfold Dev.secVerdict
  dsimp only
  split
  · rfl
  · exact Dev.violate_reg _ _ _ _ _ (by revert k; decide)

theorem Dev.secVerdict_stays : Dev.LinkStays d (d.secVerdict code type) := by
  obtain ⟨regs, heq⟩ := d.judged_eq code type (d.reg Obj.CONT_DETAIL % 2 ^ 16)
  unfold Dev.secVerdict
  dsimp only
  rw [heq]
  split
  · exact ⟨rfl, rfl, rfl, rfl, rfl⟩
  · exact ⟨Dev.refuse_chans .., Dev.refuse_fifo .., Dev.refuse_mem .., Dev.refuse_tick .., Dev.refuse_sec ..⟩

theorem Dev.secVerdict_abort (h : code ≠ 0) : (d.secVerdict code type).dict.abort = abSealed := by
  unfold Dev.secVerdict
  dsimp only
  rw [if_neg h, Dev.refuse_dict]

end

/-! ## A verdict acts (R441) -/

/-- A refused container of a load path refuses its load. -/
def Dev.judgeLoad (d : Dev) (v : Verdict) : Dev :=
  let d := if v.type = 3 then ((d.setReg Obj.LOAD_RESULT 2).setReg Obj.LOAD_DETAIL 0x02000000).inc 32 Obj.LOADS_REFUSED else d
  let d := if v.type = 5 then d.setReg Obj.UPDATE_STATE 0 else d
  d.loadRefuse v.bulk v.target

/-- An accepted container raises its counter, and its chapter takes it. -/
def Dev.judgePassed (d : Dev) (v : Verdict) : Dev :=
  let d := d.bumpArb v
  let d := if v.type = 5 then d.setReg Obj.UPDATE_STATE 2 else d
  if v.type = 1 then d else d.modSec fun x => { x with passed := x.passed ++ [v] }

section
variable (d : Dev) (v : Verdict)

theorem Dev.judge_eq : d.judge v = let e := d.judged v.code v.type (256 * v.block + b2n v.bulk)
    if v.code ≠ 0 then (if v.sec then e.refuse Obj.SEC_CONTAINER abSealed else e.judgeLoad v) else e.judgePassed v := rfl

/-- The objects that a refused load shows before its answer. -/
theorem Dev.judgeLoad_base : ∃ regs, d.judgeLoad v = Dev.loadRefuse { d with regs := regs } v.bulk v.target ∧
    ∀ k ∈ contObjects, Dev.reg { d with regs := regs } k = d.reg k := by
  have hne : ∀ k ∈ contObjects, k ≠ Obj.LOAD_RESULT ∧ k ≠ Obj.LOAD_DETAIL ∧ k ≠ Obj.LOADS_REFUSED ∧ k ≠ Obj.UPDATE_STATE := by decide
  have hkept : ∀ (t : Dev), (∃ regs, t = { d with regs := regs }) → (∀ k ∈ contObjects, t.reg k = d.reg k) →
      ∃ regs, t.loadRefuse v.bulk v.target = Dev.loadRefuse { d with regs := regs } v.bulk v.target ∧
        ∀ k ∈ contObjects, Dev.reg { d with regs := regs } k = d.reg k := by
    rintro _ ⟨regs, rfl⟩ hregs
    exact ⟨regs, rfl, hregs⟩
  unfold Dev.judgeLoad
  dsimp only
  refine hkept _ ?_ fun k hk => ?_
  · split <;> split <;> exact ⟨_, rfl⟩
  · obtain ⟨hres, hdet, hcount, hupd⟩ := hne k hk
    split <;> split <;> simp [Dev.inc, Dev.reg_setReg_eq, hres, hdet, hcount, hupd]

/-- A refused load shows the verdict, and keeps the memories, the channels and the trust core. -/
theorem Dev.judgeLoad_leaves : (∀ k ∈ contObjects, (d.judgeLoad v).reg k = d.reg k) ∧ (d.judgeLoad v).chans = d.chans ∧
    (d.judgeLoad v).mem = d.mem ∧ (d.judgeLoad v).sec = d.sec := by
  obtain ⟨regs, heq, hregs⟩ := d.judgeLoad_base v
  have hends := Dev.loadRefuse_ends { d with regs := regs } v.bulk v.target
  rw [heq]
  refine ⟨fun k hk => ?_, hends.chans, hends.mem, ?_⟩
  · have hne : k ≠ Obj.VLOG_LOST ∧ k ≠ Obj.LOAD_STATUS ∧ k ≠ Obj.LOAD_DONE_TICK := by revert k; decide
    exact (Dev.loadRefuse_reg _ v.bulk v.target hne.1 hne.2.1 hne.2.2).trans (hregs k hk)
  · obtain ⟨regs', pcie, load, hans, -⟩ := Dev.loadAnswer_eq { d with regs := regs } v.bulk v.target 0
    refine (Dev.violate_sec ..).trans ?_
    rw [hans]

theorem Dev.bumpArb_eq : ∃ arb, d.bumpArb v = d.modSec (fun x => { x with arb := arb }) ∧ ∀ k : Fin 4, arb[k] =
    if arbOf v.type v.signers.isEmpty = some k then max d.sec.arb[k] (v.arb.getD 0) else d.sec.arb[k] := by
  unfold Dev.bumpArb
  cases hk : arbOf v.type v.signers.isEmpty with
  | none => exact ⟨d.sec.arb, rfl, fun k => rfl⟩
  | some j =>
    cases ha : v.arb with
    | none => exact ⟨d.sec.arb, rfl, fun k => by simp⟩
    | some a =>
      refine ⟨_, rfl, fun k => ?_⟩
      by_cases h : j = k
      · subst h
        simp
      · have hval : j.val ≠ k.val := fun hv => h (Fin.ext hv)
        simp [h, hval]

/-- An accepted container raises the counter of its type, and waits for its chapter unless that has it (R441, R442). -/
theorem Dev.judgePassed_eq : ∃ regs arb, d.judgePassed v = { d with regs := regs, sec := { d.sec with
      arb := arb, passed := if v.type = 1 then d.sec.passed else d.sec.passed ++ [v] } } ∧
    (∀ k ∈ contObjects, (d.judgePassed v).reg k = d.reg k) ∧ ∀ k : Fin 4, arb[k] =
      if arbOf v.type v.signers.isEmpty = some k then max d.sec.arb[k] (v.arb.getD 0) else d.sec.arb[k] := by
  obtain ⟨arb, heq, harb⟩ := d.bumpArb_eq v
  have hne : ∀ k ∈ contObjects, k ≠ Obj.UPDATE_STATE := by decide
  unfold Dev.judgePassed
  dsimp only
  rw [heq]
  by_cases h5 : v.type = 5
  · rw [if_pos h5, if_neg (by omega), if_neg (by omega)]
    exact ⟨_, arb, rfl, fun k hk => (Dev.reg_setReg_eq ..).trans (if_neg (hne k hk)), harb⟩
  · rw [if_neg h5]
    by_cases h1 : v.type = 1
    · rw [if_pos h1, if_pos h1]
      exact ⟨_, arb, rfl, fun k hk => rfl, harb⟩
    · rw [if_neg h1, if_neg h1]
      exact ⟨_, arb, rfl, fun k hk => rfl, harb⟩

/-- What a verdict does at its commit (R440–R442). -/
structure Dev.Judges (d e : Dev) (v : Verdict) : Prop where
  tells   : Dev.Tells d e v.code v.type (256 * v.block + b2n v.bulk)
  chans   : e.chans = d.chans
  mem     : e.mem = d.mem
  life    : e.sec.life = d.sec.life
  refused : v.code ≠ 0 → e.sec = d.sec ∧ (v.sec = true → e.dict.abort = abSealed)
  passed  : v.code = 0 → v.type ≠ 1 → e.sec.passed = d.sec.passed ++ [v]
  raised  : v.code = 0 → ∀ k : Fin 4, e.sec.arb[k] =
    if arbOf v.type v.signers.isEmpty = some k then max d.sec.arb[k] (v.arb.getD 0) else d.sec.arb[k]

theorem Dev.judge_judges : Dev.Judges d (d.judge v) v := by
  have htells := d.judged_tells v.code v.type (256 * v.block + b2n v.bulk)
  obtain ⟨regs, hjudged⟩ := d.judged_eq v.code v.type (256 * v.block + b2n v.bulk)
  rw [Dev.judge_eq]
  dsimp only
  rw [hjudged] at htells ⊢
  have hlost : ∀ k ∈ contObjects, k ≠ Obj.VLOG_LOST := by decide
  by_cases hcode : v.code = 0
  · rw [if_neg (by simp [hcode])]
    obtain ⟨regs', arb, heq, hregs, harb⟩ := Dev.judgePassed_eq { d with regs := regs } v
    refine ⟨htells.kept hregs, ?_, ?_, ?_, fun h => absurd hcode h, fun _ h1 => ?_, fun _ k => ?_⟩
    all_goals rw [heq]
    · exact if_neg h1
    · exact harb k
  · rw [if_pos hcode]
    by_cases hsec : v.sec = true
    · rw [if_pos hsec]
      exact ⟨htells.kept fun k hk => Dev.violate_reg _ _ _ _ _ (hlost k hk), Dev.refuse_chans .., Dev.refuse_mem ..,
        congrArg Sec.life (Dev.refuse_sec ..), fun _ => ⟨Dev.refuse_sec .., fun _ => congrArg Dict.abort (Dev.refuse_dict ..)⟩,
        fun h => absurd h hcode, fun h => absurd h hcode⟩
    · rw [if_neg hsec]
      obtain ⟨hregs, hchans, hmem, hsame⟩ := Dev.judgeLoad_leaves { d with regs := regs } v
      exact ⟨htells.kept hregs, hchans, hmem, congrArg Sec.life hsame, fun _ => ⟨hsame, fun h => absurd h hsec⟩,
        fun h => absurd h hcode, fun h => absurd h hcode⟩

end

/-! ## The checks of R440 -/

/-- Of a check and the rest, a verdict that passes has passed both. -/
theorem Verdict.passes_check {c : Prop} [Decidable c] {v w : Verdict} (hv : v.code ≠ 0) (h : (if c then v else w).code = 0) :
    ¬ c ∧ w.code = 0 := by
  by_cases hc : c
  · rw [if_pos hc] at h
    exact absurd h hv
  · rw [if_neg hc] at h
    exact ⟨hc, h⟩

/-- Of a search over the signature blocks and the rest, a verdict that passes has found none and passed. -/
theorem Verdict.passes_search {o : Option Nat} {v : Nat → Verdict} {w : Verdict} (hv : ∀ i, (v i).code ≠ 0)
    (h : (match o with | some i => v i | none => w).code = 0) : o = none ∧ w.code = 0 := by
  cases o with
  | some i => exact absurd h (hv i)
  | none => exact ⟨rfl, h⟩

/-- A container that passes the checks of R440 has each. -/
structure Dev.BoxPasses (d : Dev) (fuseOk : Bool) (box : List Byte) : Prop where
  ok       : boxOk box = true
  length   : 32 ≤ box.length
  size     : (boxHeadOf box).size = box.length
  fp       : (boxHeadOf box).fp = 0 ∨ (boxHeadOf box).fp = d.reg Obj.DEVICE_FP
  life     : lifecycleBars d.sec.life (boxHeadOf box).type = false
  current  : ∀ b ∈ boxBlocks box, d.revoked b = false
  signed   : ∀ b ∈ boxBlocks box, blockVerifies (if (boxHeadOf box).type = 0x11 then
    slice ((boxPlain box ((d.streamOf box).map (·.key))).getD []) 0 97 else d.sec.ownerPub)
    (boxHead box ++ boxKey box ++ boxBody box) b = true
  arb      : d.rollsBack (boxHeadOf box) = false
  policy   : d.policyBars (boxHeadOf box) = false
  bump     : (boxHeadOf box).bump = true → d.allParked = true ∧ fuseOk = true

theorem Dev.boxVerdict_passes (d : Dev) (bulk sec fuseOk : Bool) (target : Nat) (lines : List Byte → List Nat) (box : List Byte)
    (h : (d.boxVerdict bulk sec false fuseOk target lines box).code = 0) : Dev.BoxPasses d fuseOk box := by
  unfold Dev.boxVerdict at h
  obtain ⟨hlayout, h⟩ := Verdict.passes_check (Nat.succ_ne_zero _) h
  obtain ⟨hfp, h⟩ := Verdict.passes_check (Nat.succ_ne_zero _) h
  obtain ⟨hlife, h⟩ := Verdict.passes_check (Nat.succ_ne_zero _) h
  obtain ⟨-, h⟩ := Verdict.passes_check (Nat.succ_ne_zero _) h
  obtain ⟨-, h⟩ := Verdict.passes_search (fun _ => Nat.succ_ne_zero _) h
  obtain ⟨hrevoked, h⟩ := Verdict.passes_search (fun _ => Nat.succ_ne_zero _) h
  obtain ⟨hsigned, h⟩ := Verdict.passes_search (fun _ => Nat.succ_ne_zero _) h
  obtain ⟨hroll, h⟩ := Verdict.passes_check (Nat.succ_ne_zero _) h
  obtain ⟨-, h⟩ := Verdict.passes_check (Nat.succ_ne_zero _) h
  obtain ⟨-, h⟩ := Verdict.passes_check (Nat.succ_ne_zero _) h
  obtain ⟨hpolicy, h⟩ := Verdict.passes_check (Nat.succ_ne_zero _) h
  obtain ⟨hparked, h⟩ := Verdict.passes_check (Nat.succ_ne_zero _) h
  obtain ⟨hfuse, -⟩ := Verdict.passes_check (Nat.succ_ne_zero _) h
  simp only [Bool.or_eq_true, Bool.not_eq_true', bne_iff_ne, not_or, Bool.not_eq_false, Decidable.not_not] at hlayout
  have hpass : ∀ {p : List Byte → Bool}, (boxBlocks box).findIdx? p = none → ∀ b ∈ boxBlocks box, p b = false := fun hnone b hb => by
    simpa using List.findIdx?_eq_none_iff.1 hnone b hb
  refine ⟨hlayout.1.1, ?_, hlayout.1.2, ?_, by simpa using hlife, hpass hrevoked, fun b hb => by simpa using hpass hsigned b hb,
    by simpa using hroll, by simpa using hpolicy, fun hbump => ?_⟩
  · have hok := hlayout.1.1
    simp only [boxOk, Bool.and_eq_true, decide_eq_true_eq] at hok
    exact hok.1.1.1.1.1.1.1
  · by_contra hne
    simp only [not_or] at hne
    exact hfp (by simp [hne.1, hne.2])
  · exact ⟨by simpa [hbump] using hparked, by simpa [hbump] using hfuse⟩
/-! ## What a lifecycle transition ends (R435) -/

/-- A session that closes leaves the rest of the trust core, the dictionary and, of the objects, all but SESS_CLOSE_CAUSE. -/
theorem Dev.closeSession_eq (d : Dev) (cause : Nat) : ∃ regs link rights keys, d.closeSession cause =
    { d with regs := regs, sec := { d.sec with sess := .closed, sessLink := link, sessRights := rights, sealKeys := keys } } ∧
    ∀ k, k ≠ Obj.SESS_CLOSE_CAUSE → (d.closeSession cause).reg k = d.reg k := by
  unfold Dev.closeSession
  split
  next h =>
    refine ⟨d.regs, d.sec.sessLink, d.sec.sessRights, d.sec.sealKeys, ?_, fun _ _ => rfl⟩
    rw [← h]
  next => exact ⟨_, _, _, _, rfl, fun k hk => (Dev.reg_setReg_eq ..).trans (if_neg hk)⟩

theorem Dev.formBlock_eq (d : Dev) (last : Bool) : ∃ fifo ctr, d.formBlock last = { d with fifo := fifo, freeCtr := ctr } := by
  unfold Dev.formBlock
  dsimp only
  split <;> exact ⟨_, _, rfl⟩

/-- The end of a result session changes the FIFO and what a session draws, and nothing else. -/
theorem Dev.endSession_eq (d : Dev) (roll : Bool) : ∃ fifo ctr draws statement prev, d.endSession roll =
    { d with fifo := fifo, freeCtr := ctr, sec := { d.sec with draws := draws, statement := statement, prevStatement := prev } } := by
  obtain ⟨fifo, ctr, heq⟩ := d.formBlock_eq true
  unfold Dev.endSession Dev.finishSession
  rw [heq]
  split
  · exact ⟨_, _, _, _, _, rfl⟩
  · split
    · exact ⟨_, _, _, _, _, rfl⟩
    · cases roll <;> exact ⟨_, _, _, _, _, rfl⟩

/-- What a lifecycle transition ends: the sealed session, every stream and the result session (R435). -/
structure Dev.Ended (d t : Dev) : Prop where
  sess    : t.sec.sess = .closed
  streams : t.sec.streams = Vector.replicate 16 none
  trust   : t.sec.trust = d.sec.trust
  passed  : t.sec.passed = d.sec.passed
  chans   : t.chans = d.chans
  mem     : t.mem = d.mem
  tick    : t.tick = d.tick
  dict    : t.dict = d.dict
  regs    : ∀ k, k ≠ Obj.SESS_CLOSE_CAUSE → t.reg k = d.reg k

theorem Dev.sessionsEnd_ended (d : Dev) (cause : Nat) (roll : Bool) : Dev.Ended d (((d.closeSession cause).closeStreams).endSession roll) := by
  obtain ⟨regs, link, rights, keys, hclose, hregs⟩ := d.closeSession_eq cause
  obtain ⟨fifo, ctr, draws, statement, prev, hend⟩ := (d.closeSession cause).closeStreams.endSession_eq roll
  rw [hend]
  rw [hclose] at hregs ⊢
  exact ⟨rfl, rfl, rfl, rfl, rfl, rfl, rfl, rfl, hregs⟩

theorem Dev.lifecycleEnds_ended (d : Dev) (roll : Bool) : Dev.Ended d (d.lifecycleEnds roll) := d.sessionsEnd_ended 4 roll
end Sys2Proof.Machine
end

section
namespace Sys2Proof.Machine
open Sys2Proof

/-! ## A security container is taken (R441) -/

/-- The oldest security container of a type that passed R440. -/
def Dev.nextSecurity (d : Dev) (type : Nat) : Option Verdict :=
  (d.firstPassed type false).orElse fun _ => d.firstPassed type true

theorem Dev.takeSecurity_eq (d : Dev) (type : Nat) : d.takeSecurity type = (d.nextSecurity type).map fun v => (v, d.dropPassed v) := by
  unfold Dev.takeSecurity Dev.nextSecurity
  rw [Dev.takePassed_eq, Dev.takePassed_eq]
  cases d.firstPassed type false <;> rfl

/-- A refusal by the container's own rule: its verdict, and nothing else but what waited (R440). -/
structure Dev.Bars (d t : Dev) (v : Verdict) (code type : Nat) : Prop where
  tells : Dev.Tells d t code type (d.reg Obj.CONT_DETAIL % 2 ^ 16)
  abort : t.dict.abort = abSealed
  sec   : t.sec = { d.sec with passed := d.sec.passed.erase v }
  mem   : t.mem = d.mem
  fifo  : t.fifo = d.fifo
  chans : t.chans = d.chans
  tick  : t.tick = d.tick

theorem Dev.Tells.dropped {d t : Dev} {v : Verdict} {code type : Nat}
    (h : Dev.Tells (d.dropPassed v) t code type ((d.dropPassed v).reg Obj.CONT_DETAIL % 2 ^ 16)) :
    Dev.Tells d t code type (d.reg Obj.CONT_DETAIL % 2 ^ 16) := ⟨h.result, h.detail, h.tick, h.refused⟩

theorem Dev.dropPassed_tells (d : Dev) (v : Verdict) (code type : Nat) :
    Dev.Tells d ((d.dropPassed v).secVerdict code type) code type (d.reg Obj.CONT_DETAIL % 2 ^ 16) :=
  ((d.dropPassed v).secVerdict_tells code type).dropped

theorem Dev.dropPassed_bars (d : Dev) (v : Verdict) (code type : Nat) (hcode : code ≠ 0) :
    Dev.Bars d ((d.dropPassed v).secVerdict code type) v code type :=
  have h := (d.dropPassed v).secVerdict_stays code type
  ⟨d.dropPassed_tells v code type, Dev.secVerdict_abort _ _ _ hcode, h.sec, h.mem, h.fifo, h.chans, h.tick⟩

/-- The transition to OWNED (R436). -/
def Dev.owned (d : Dev) (k : Fin 2) (policy : Nat) (pub : List Byte) : Dev :=
  (d.secVerdict 0 0x11).modSec fun x =>
    { x with slots := x.slots.set k 1, policy := policy, ownerPub := pub, ownerHash := bytesN 48 (Config.sha384 pub), life := .owned }

theorem Dev.owned_sec (d : Dev) (k : Fin 2) (policy : Nat) (pub : List Byte) : (d.owned k policy pub).sec =
    { d.sec with slots := d.sec.slots.set k 1, policy := policy, ownerPub := pub, ownerHash := bytesN 48 (Config.sha384 pub),
                 life := .owned } := by
  unfold Dev.owned Dev.modSec
  rw [(d.secVerdict_stays 0 0x11).sec]

theorem Dev.modSec_keeps (d : Dev) (f : Sec → Sec) : (d.modSec f).chans = d.chans ∧ (d.modSec f).tick = d.tick ∧
    (d.modSec f).sec = f d.sec ∧ (d.modSec f).dict = d.dict ∧ ∀ k, (d.modSec f).reg k = d.reg k := ⟨rfl, rfl, rfl, rfl, fun _ => rfl⟩

section
variable {s : State} (hlive : s.live) {v : Verdict}
include hlive

/-! ## OWNERSHIP (R436) -/

theorem exec_ownership_none (fuseOk : Bool) (h : s.dev.nextSecurity 0x11 = none) :
    exec (.ownership fuseOk) s = .next (s.atCommit s.dev) :=
  next_at hlive (show execOwnership fuseOk s = _ from rfl) (by rw [Dev.takeSecurity_eq, h]; rfl)

theorem exec_ownership_unread (fuseOk : Bool) (h : s.dev.nextSecurity 0x11 = some v) (hread : readOwnership v.body = none) :
    exec (.ownership fuseOk) s = .next (s.atCommit ((s.dev.dropPassed v).secVerdict 1 0x11)) :=
  next_at hlive (show execOwnership fuseOk s = _ from rfl) (by
    rw [Dev.takeSecurity_eq, h]
    dsimp only [Option.map_some]
    rw [hread])

variable {pub : List Byte} {policy : Nat} (h : s.dev.nextSecurity 0x11 = some v) (hread : readOwnership v.body = some (pub, policy))
include h hread

theorem exec_ownership_life (fuseOk : Bool) (hlife : s.dev.sec.life ≠ .vendor) :
    exec (.ownership fuseOk) s = .next (s.atCommit ((s.dev.dropPassed v).secVerdict 3 0x11)) :=
  next_at hlive (show execOwnership fuseOk s = _ from rfl) (by
    rw [Dev.takeSecurity_eq, h]
    dsimp only [Option.map_some]
    rw [hread]
    exact if_pos hlife)

variable (hlife : s.dev.sec.life = .vendor)
include hlife

theorem exec_ownership_unparked (fuseOk : Bool) (hpark : s.dev.allParked = false) :
    exec (.ownership fuseOk) s = .next (s.atCommit ((s.dev.dropPassed v).secVerdict 0xC 0x11)) :=
  next_at hlive (show execOwnership fuseOk s = _ from rfl) (by
    rw [Dev.takeSecurity_eq, h]
    dsimp only [Option.map_some]
    rw [hread]
    exact (if_neg (not_not_intro hlife)).trans (if_pos (by simp [show (s.dev.dropPassed v).allParked = false from hpark])))

variable (hpark : s.dev.allParked = true)
include hpark

theorem exec_ownership_full (fuseOk : Bool) (hslot : s.dev.sec.blankSlot = none) :
    exec (.ownership fuseOk) s = .next (s.atCommit ((s.dev.dropPassed v).secVerdict 0xD 0x11)) :=
  next_at hlive (show execOwnership fuseOk s = _ from rfl) (by
    rw [Dev.takeSecurity_eq, h]
    dsimp only [Option.map_some]
    rw [hread]
    refine (if_neg (not_not_intro hlife)).trans ((if_neg (by simp [show (s.dev.dropPassed v).allParked = true from hpark])).trans ?_)
    rw [show (s.dev.dropPassed v).sec.blankSlot = none from hslot])

theorem exec_ownership_owned {k : Fin 2} (hslot : s.dev.sec.blankSlot = some k) : exec (.ownership true) s =
    .next (s.atCommit (((s.dev.dropPassed v).owned k policy pub).lifecycleEnds (!s.dev.sec.drbgFail))) :=
  next_at hlive (show execOwnership true s = _ from rfl) (by
    rw [Dev.takeSecurity_eq, h]
    dsimp only [Option.map_some]
    rw [hread]
    refine (if_neg (not_not_intro hlife)).trans ((if_neg (by simp [show (s.dev.dropPassed v).allParked = true from hpark])).trans ?_)
    rw [show (s.dev.dropPassed v).sec.blankSlot = some k from hslot]
    have hdrbg : ((s.dev.dropPassed v).owned k policy pub).sec.drbgFail = s.dev.sec.drbgFail :=
      (congrArg Sec.drbgFail ((s.dev.dropPassed v).owned_sec k policy pub) :)
    rw [← hdrbg]
    rfl)

theorem exec_ownership_void {k : Fin 2} (hslot : s.dev.sec.blankSlot = some k) : exec (.ownership false) s =
    .next (s.atCommit (((s.dev.dropPassed v).secVerdict 0xD 0x11).modSec fun x => { x with slots := x.slots.set k 2 })) :=
  next_at hlive (show execOwnership false s = _ from rfl) (by
    rw [Dev.takeSecurity_eq, h]
    dsimp only [Option.map_some]
    rw [hread]
    refine (if_neg (not_not_intro hlife)).trans ((if_neg (by simp [show (s.dev.dropPassed v).allParked = true from hpark])).trans ?_)
    rw [show (s.dev.dropPassed v).sec.blankSlot = some k from hslot]
    rfl)
end

/-- A module that goes to OWNED: its owner, its verdict, and what the transition ends (R435, R436). -/
theorem Dev.owned_ends (d : Dev) (k : Fin 2) (policy : Nat) (pub : List Byte) (roll : Bool) :
    let t := (d.owned k policy pub).lifecycleEnds roll
    Dev.Tells d t 0 0x11 (d.reg Obj.CONT_DETAIL % 2 ^ 16) ∧ t.sec.sess = .closed ∧ t.sec.streams = Vector.replicate 16 none ∧
      t.sec.trust = { d.sec.trust with life := .owned, policy := policy, ownerPub := pub, ownerHash := bytesN 48 (Config.sha384 pub),
                                       slots := d.sec.slots.set k 1 } ∧
      t.sec.passed = d.sec.passed ∧ t.chans = d.chans ∧ t.tick = d.tick := by
  have hends := (d.owned k policy pub).lifecycleEnds_ended roll
  have hstays := d.secVerdict_stays 0 0x11
  have htells := d.secVerdict_tells 0 0x11
  have hsec := d.owned_sec k policy pub
  refine ⟨htells.kept fun j hj => hends.regs j (by revert j; decide), hends.sess, hends.streams, hends.trust.trans ?_,
    hends.passed.trans ?_, hends.chans.trans hstays.chans, hends.tick.trans hstays.tick⟩
  · rw [hsec]
    rfl
  · rw [hsec]

/-! ## RETIRE (R437, R459) -/

/-- The stages of a retirement. -/
def Dev.retired (d : Dev) (fuseOk : Bool) : Dev :=
  (((d.secVerdict (if fuseOk then 0 else 0xD) 0x13).lifecycleEnds false).zeroise).modSec fun x =>
    { x with slots := Vector.replicate 2 2, ownerPub := [], ownerHash := [], life := if fuseOk then .retired else x.life }

/-- What zeroisation leaves empty, and what it keeps (R459). -/
structure Dev.Zeroised (d t : Dev) : Prop where
  erased  : t.sec = { d.sec with recErased := true }
  ledger  : t.mem.ledger = []
  dir     : t.mem.dir = []
  progs   : t.mem.progs = []
  sets    : t.mem.sets = []
  scr     : t.mem.scr = []
  entries : t.fifo.entries = []
  regs    : t.regs = d.regs
  tick    : t.tick = d.tick
  power   : t.power = d.power
  abort   : t.dict.abort = d.dict.abort

theorem Dev.zeroise_zeroised (d : Dev) : Dev.Zeroised d d.zeroise := ⟨rfl, rfl, rfl, rfl, rfl, rfl, rfl, rfl, rfl, rfl, rfl⟩

theorem Dev.retired_ends (d : Dev) (fuseOk : Bool) : let t := d.retired fuseOk
    Dev.Tells d t (if fuseOk then 0 else 0xD) 0x13 (d.reg Obj.CONT_DETAIL % 2 ^ 16) ∧
      t.sec.sess = .closed ∧ t.sec.streams = Vector.replicate 16 none ∧
      t.sec.trust = { d.sec.trust with life := if fuseOk then .retired else d.sec.life, slots := Vector.replicate 2 2, ownerPub := [],
                                       ownerHash := [] } ∧
      t.sec.recErased = true ∧ t.mem.ledger = [] ∧ t.mem.dir = [] ∧ t.mem.progs = [] ∧ t.mem.sets = [] ∧ t.mem.scr = [] ∧
      t.fifo.entries = [] := by
  unfold Dev.retired
  generalize hcode : (if fuseOk then 0 else 0xD : Nat) = code
  have htells := d.secVerdict_tells code 0x13
  have hstays := d.secVerdict_stays code 0x13
  have hends := (d.secVerdict code 0x13).lifecycleEnds_ended false
  generalize d.secVerdict code 0x13 = e at *
  generalize e.lifecycleEnds false = u at *
  have hzero := u.zeroise_zeroised
  generalize u.zeroise = z at *
  have hz : (fun x : Sec => { x with slots := Vector.replicate 2 2, ownerPub := [], ownerHash := [], life := if fuseOk then .retired else x.life }) z.sec =
      { u.sec with recErased := true, slots := Vector.replicate 2 2, ownerPub := [], ownerHash := [],
                   life := if fuseOk then .retired else u.sec.life } := by
    rw [hzero.erased]
  have htrust : u.sec.trust = d.sec.trust := hends.trust.trans (by rw [hstays.sec])
  refine ⟨htells.kept fun k hk => (Dev.reg_of_regs hzero.regs k).trans (hends.regs k (by revert k; decide)), ?_, ?_, ?_, ?_,
    hzero.ledger, hzero.dir, hzero.progs, hzero.sets, hzero.scr, hzero.entries⟩
  · exact (congrArg Sec.sess hz).trans hends.sess
  · exact (congrArg Sec.streams hz).trans hends.streams
  · refine (congrArg Sec.trust hz).trans ?_
    rw [← htrust, show d.sec.life = u.sec.life from (congrArg Trust.life htrust).symm]
    rfl
  · exact (congrArg Sec.recErased hz).trans rfl

section
variable {s : State} (hlive : s.live) {v : Verdict} (fuseOk : Bool)
include hlive

theorem exec_retire_none (h : s.dev.nextSecurity 0x13 = none) : exec (.retire fuseOk) s = .next (s.atCommit s.dev) :=
  next_at hlive (show execRetire fuseOk s = _ from rfl) (by rw [Dev.takeSecurity_eq, h]; rfl)

theorem exec_retire (h : s.dev.nextSecurity 0x13 = some v) : exec (.retire fuseOk) s = .next (s.atCommit
    (if (decide (s.dev.sec.life = .blank) || decide (s.dev.sec.life = .retired)) = true then (s.dev.dropPassed v).secVerdict 3 0x13
     else if (!s.dev.allParked) = true then (s.dev.dropPassed v).secVerdict 0xC 0x13 else (s.dev.dropPassed v).retired fuseOk)) :=
  next_at hlive (show execRetire fuseOk s = _ from rfl) (by
    rw [Dev.takeSecurity_eq, h]
    rfl)

/-! ## Streams (R444, R445) -/

theorem exec_streamOpen_none (h : s.dev.nextSecurity 0x10 = none) : exec .streamOpen s = .next (s.atCommit s.dev) :=
  next_at hlive (show execStreamOpen s = _ from rfl) (by rw [Dev.takeSecurity_eq, h]; rfl)

theorem exec_streamOpen_unread (h : s.dev.nextSecurity 0x10 = some v) (hread : readStream (boxHead v.box) v.body = none) :
    exec .streamOpen s = .next (s.atCommit ((s.dev.dropPassed v).secVerdict 1 0x10)) :=
  next_at hlive (show execStreamOpen s = _ from rfl) (by
    rw [Dev.takeSecurity_eq, h]
    dsimp only [Option.map_some]
    rw [hread])

/-- The place of a stream: its own, or else the first free one. -/
def Sec.streamPlace (x : Sec) (id : Nat) : Option Nat :=
  (x.streams.toList.findIdx? fun y => y.any (·.id == id)).orElse fun _ => x.streams.toList.findIdx? (·.isNone)

theorem exec_streamOpen (h : s.dev.nextSecurity 0x10 = some v) {new : Stream} {opened : Bool}
    (hread : readStream (boxHead v.box) v.body = some (new, opened)) : exec .streamOpen s = .next (s.atCommit
      (if (!opened) = true then (s.dev.dropPassed v).secVerdict 9 0x10 else
        match s.dev.sec.streamPlace new.id with
        | none => (s.dev.dropPassed v).secVerdict 0xE 0x10
        | some k => ((s.dev.dropPassed v).secVerdict 0 0x10).modSec fun x =>
            { x with streams := Vector.ofFn fun i => if i.val = k then some new else x.streams[i] })) :=
  next_at hlive (show execStreamOpen s = _ from rfl) (by
    rw [Dev.takeSecurity_eq, h]
    dsimp only [Option.map_some]
    rw [hread]
    cases opened <;> rfl)
end

/-- The places that STREAM_OPEN may take: free ones, and one of the same stream (R444). -/
theorem Sec.streamPlace_some (x : Sec) (id : Nat)
    (h : (List.finRange 16).any (fun i => x.streams[i].isNone || x.streams[i].any (·.id == id)) = true) :
    ∃ i : Fin 16, x.streamPlace id = some i.val ∧ (x.streams[i].isNone || x.streams[i].any (·.id == id)) = true := by
  have hlen : x.streams.toList.length = 16 := by simp
  unfold Sec.streamPlace
  cases hown : x.streams.toList.findIdx? fun y => y.any (·.id == id) with
  | some k =>
    obtain ⟨hk, hid, -⟩ := List.findIdx?_eq_some_iff_getElem.1 hown
    refine ⟨⟨k, by omega⟩, rfl, ?_⟩
    rw [show x.streams[(⟨k, by omega⟩ : Fin 16)].any (·.id == id) = true by simpa using hid, Bool.or_true]
  | none =>
    cases hfree : x.streams.toList.findIdx? (·.isNone) with
    | some k =>
      obtain ⟨hk, hid, -⟩ := List.findIdx?_eq_some_iff_getElem.1 hfree
      refine ⟨⟨k, by omega⟩, rfl, ?_⟩
      rw [show x.streams[(⟨k, by omega⟩ : Fin 16)].isNone = true by simpa using hid, Bool.true_or]
    | none =>
      exfalso
      obtain ⟨i, -, hi⟩ := List.any_eq_true.1 h
      have hmem : x.streams[i] ∈ x.streams.toList := by simp
      have h1 := List.findIdx?_eq_none_iff.1 hown _ hmem
      have h2 := List.findIdx?_eq_none_iff.1 hfree _ hmem
      rw [h1, h2] at hi
      cases hi

theorem Sec.streamPlace_none (x : Sec) (id : Nat)
    (h : (List.finRange 16).any (fun i => x.streams[i].isNone || x.streams[i].any (·.id == id)) = false) :
    x.streamPlace id = none := by
  have hall : ∀ y ∈ x.streams.toList, y.isNone = false ∧ y.any (·.id == id) = false := by
    intro y hy
    obtain ⟨i, hi, rfl⟩ := Vector.mem_iff_getElem.1 (Vector.mem_toList_iff.1 hy)
    have hplace := List.any_eq_false.1 h ⟨i, hi⟩ (List.mem_finRange _)
    exact Bool.or_eq_false_iff.1 ((Bool.not_eq_true _).mp hplace)
  unfold Sec.streamPlace
  rw [List.findIdx?_eq_none_iff.2 fun y hy => (hall y hy).2, List.findIdx?_eq_none_iff.2 fun y hy => (hall y hy).1]
  rfl

end Sys2Proof.Machine
end

section
namespace Sys2Proof.Machine
open Sys2Proof

/-! ## Verification (R440) -/

/-- The verdict of a verification as its commit finds it: a refused one of a load path tells its status (R438). -/
def HostWrite.ofVerdict (d : Dev) (v : Verdict) (box : List Byte) (cyc : Nat) : HostWrite :=
  { act := d.actAt cyc, arrived := d.tick, cyc := cyc, rank := if v.bulk then 2 else 0, source := if v.bulk then 7 else 0, sealedBy := false,
    cmd := false,
    req := .judge (if v.code = 0 then v else { v with target := if box.length < 32 ∨ (boxHeadOf box).size ≠ box.length then 7 else 2 }) }

/-- A verification leaves its verdict to its commit, and the counter of an accepted stream; nothing else changes. -/
theorem Dev.verify_eq (d : Dev) (v : Verdict) (box : List Byte) (cyc : Nat) : ∃ streams, d.verify v box cyc =
    { d with dict := { d.dict with writes := insertWrite (.ofVerdict d v box cyc) d.dict.writes },
             sec := { d.sec with streams := streams } } := by
  have hstream : ∃ streams, (if v.code = 0 then d.countStream box else d) = { d with sec := { d.sec with streams := streams } } := by
    unfold Dev.countStream
    dsimp only
    split
    · split <;> exact ⟨_, rfl⟩
    · exact ⟨_, rfl⟩
  obtain ⟨streams, hstream⟩ := hstream
  refine ⟨streams, ?_⟩
  have hcode : ∀ n, (if v.code = 0 then v else { v with target := n }).code = v.code := by
    intro n
    split <;> rfl
  unfold Dev.verify HostWrite.ofVerdict
  dsimp only
  rw [hcode]
  rw [hstream]
  by_cases hv : v.code = 0
  · simp [hv, Dev.actAt]
  · simp [hv, Dev.actAt]
section
variable {s : State} (hin : s.inside) (fuseOk : Bool) (cyc : Cycle)
include hin

theorem exec_containerVerified_none (h : s.dev.sec.waiting = []) : exec (.containerVerified .sec fuseOk cyc) s = .next s :=
  next_in hin (show execContainerVerified .sec fuseOk cyc s = _ from rfl) (by
    dsimp only
    rw [h])

theorem exec_containerVerified_sec {bulk : Bool} {box : List Byte} {rest : List (Bool × List Byte)}
    (h : s.dev.sec.waiting = (bulk, box) :: rest) : exec (.containerVerified .sec fuseOk cyc) s = .next (s.inTick
      ((s.dev.modSec fun x => { x with waiting := rest }).verify (s.dev.boxVerdict bulk true false fuseOk 0 (fun _ => []) box) box
        cyc.val)) :=
  next_in hin (show execContainerVerified .sec fuseOk cyc s = _ from rfl) (by
    dsimp only
    rw [h])

/-- A load that waits, and whose descriptor holds, is verified (R440). -/
theorem exec_containerVerified_load {y : LoadDesc} (hclaims : s.dev.load.claims = []) (hwaits : s.dev.loadWaits true = true)
    (hdesc : descCode y = 0) (himage : s.dev.imageless y.type.toNat = false) (htype : (boxHeadOf y.box).type = y.type.toNat)
    (hlib : (boxHeadOf y.box).type ≠ 1) : exec (.containerVerified (.queue y) fuseOk cyc) s = .next (s.inTick
      (s.dev.verify (s.dev.boxVerdict true false false fuseOk y.target.toNat (bodyLines (boxHeadOf y.box).type) y.box) y.box cyc.val)) :=
  next_in hin (show execContainerVerified (.queue y) fuseOk cyc s = _ from rfl) (by
    dsimp only
    unfold Dev.verifyLoad
    rw [hclaims, List.find?_nil]
    dsimp only
    have hlib' : y.type.toNat ≠ 1 := htype ▸ hlib
    simp [hwaits, hdesc, himage, htype, hlib'])

/-- A refill in flight is verified: its claim gets its commit, or falls (R261, R418). -/
theorem exec_containerVerified_refill {y : LoadDesc} {c : Claim} (hclaims : s.dev.load.claims = [c]) (hbulk : c.bulk = true)
    (hact : c.act = none) : ∃ chans : Vector Channel 64, exec (.containerVerified (.queue y) fuseOk cyc) s =
      let v := s.dev.boxVerdict true false false fuseOk 0 (fun _ => c.lines) c.box
      .next (s.inTick (Dev.verify { s.dev with chans := chans, load := { s.dev.load with
        claims := if v.code = 0 then [{ c with act := some (s.dev.loadAct true cyc.val), box := [] }] else [] } } v c.box cyc.val)) := by
  dsimp only
  have hnext := fun {u : Dev} (hf : s.dev.verifyLoad true y fuseOk cyc.val = u) =>
    next_in hin (show exec (.containerVerified (.queue y) fuseOk cyc) s = liveIn s (fun d => d.verifyLoad true y fuseOk cyc.val) from rfl) hf
  have hfind : s.dev.load.claims.find? (fun c => c.bulk == true && c.act.isNone) = some c := by simp [hclaims, hbulk, hact]
  have hload : s.dev.verifyLoad true y fuseOk cyc.val = s.dev.verifyRefill c fuseOk cyc.val := by
    unfold Dev.verifyLoad
    rw [hfind]
  unfold Dev.verifyRefill at hload
  rw [hbulk, hclaims] at hload
  dsimp only at hload
  by_cases hcode : (s.dev.boxVerdict true false false fuseOk 0 (fun _ => c.lines) c.box).code = 0
  · rw [if_pos hcode] at hload ⊢
    simp only [List.map_cons, List.map_nil, ↓reduceIte] at hload
    exact ⟨_, hnext hload⟩
  · rw [if_neg hcode] at hload ⊢
    simp only [List.erase_cons_head] at hload
    split at hload
    · exact ⟨_, hnext hload⟩
    · exact ⟨_, hnext hload⟩
end

end Sys2Proof.Machine
end

section
namespace Sys2Proof.Machine
open Sys2Proof

/-! ## Sealed sessions (R447, R448, R425) -/

/-- A command of the trust core keeps the channels, the memories and the counter. -/
structure Dev.SecStays (d t : Dev) : Prop where
  chans : t.chans = d.chans
  mem   : t.mem = d.mem
  tick  : t.tick = d.tick

theorem Dev.accept_stays (d : Dev) : Dev.SecStays d d.accept ∧ d.accept.sec = d.sec ∧ d.accept.dict.abort = 0 := by
  unfold Dev.accept
  split <;> exact ⟨⟨rfl, rfl, rfl⟩, rfl, rfl⟩

theorem Dev.offer_offers (d : Dev) (bulk : Bool) (h : d.offerBarred = false) : let t := d.offer bulk
    t.sec.sess = .offered ∧ t.sec.offerTick = d.tick ∧ t.sec.sessNo = d.sec.sessNo + 1 ∧ t.dict.abort = 0 ∧
      t.sec.trust = d.sec.trust ∧ Dev.SecStays d t := by
  obtain ⟨hstays, hsec, habort⟩ := d.accept_stays
  obtain ⟨regs, link, rights, keys, hclose, -⟩ := d.accept.closeSession_eq 2
  unfold Dev.offer
  rw [if_neg (by simp [h]), hclose, hsec]
  exact ⟨rfl, hstays.tick, rfl, habort, rfl, hstays.chans, hstays.mem, hstays.tick⟩

theorem Dev.offer_barred (d : Dev) (bulk : Bool) (h : d.offerBarred = true) : d.offer bulk = d.refuse Obj.SESS_CMD abState := if_pos h

theorem Dev.closeSession_open (d : Dev) (cause : Nat) (h : d.sec.sess ≠ .closed) : d.closeSession cause =
    (d.modSec fun x => { x with sess := .closed, sessLink := 0xFF, sessRights := 0, sealKeys := [] }).setReg Obj.SESS_CLOSE_CAUSE cause :=
  if_neg h

/-- A sealed container or a host offer that fails counts, and is noted with its tick (R425). -/
structure Dev.SealFails (d t : Dev) : Prop where
  abort : t.dict.abort = abSealed
  count : t.reg Obj.SESS_FAILS = bump 32 (d.reg Obj.SESS_FAILS)
  noted : t.sec.sealFails.head? = some d.tick
  sess  : t.sec.sess = d.sec.sess
  trust : t.sec.trust = d.sec.trust
  stays : Dev.SecStays d t

theorem Dev.sealFail_fails (d : Dev) (obj : Nat) : Dev.SealFails d (d.sealFail obj) := by
  unfold Dev.sealFail
  refine ⟨?_, ?_, ?_, ?_, ?_, ?_, ?_, ?_⟩
  · exact congrArg Dict.abort (Dev.violate_dict ..)
  · exact (Dev.violate_reg _ _ _ _ _ (by decide)).trans ((Dev.reg_setReg_eq ..).trans (if_pos rfl))
  · exact congrArg (fun x : Sec => x.sealFails.head?) (Dev.violate_sec ..)
  · exact (congrArg Sec.sess (Dev.violate_sec ..)).trans rfl
  · exact (congrArg Sec.trust (Dev.violate_sec ..)).trans rfl
  · exact Dev.violate_chans ..
  · exact Dev.violate_mem ..
  · exact Dev.violate_tick ..

/-- A host offer that does not stand, or whose rights fail, drops the offer (R447). -/
theorem Dev.hostOffer_fails (d : Dev) (offer : List Byte) (bulk : Bool) (h : d.offerStands = false ∨ d.offerRights offer = none) :
    ∃ e : Dev, d.hostOffer offer bulk = e.sealFail Obj.SESS_HOST_OFFER ∧ e.sec.sess = (if d.sec.sess = .offered then .closed else d.sec.sess) ∧
      e.sec.trust = d.sec.trust ∧ e.chans = d.chans ∧ e.mem = d.mem ∧ e.tick = d.tick ∧ e.regs = d.regs := by
  have hnone : (if d.offerStands = true then d.offerRights offer else none) = none := by
    rcases h with h | h <;> simp [h]
  unfold Dev.hostOffer
  rw [hnone]
  dsimp only
  split
  · exact ⟨_, rfl, rfl, rfl, rfl, rfl, rfl, rfl⟩
  · exact ⟨_, rfl, rfl, rfl, rfl, rfl, rfl, rfl⟩

/-- A host offer whose signer holds SEAL opens the session (R447). -/
theorem Dev.hostOffer_opens (d : Dev) (offer : List Byte) (bulk : Bool) {r : Nat} (hstands : d.offerStands = true)
    (h : d.offerRights offer = some r) : ∃ keys, d.hostOffer offer bulk = { d.accept with sec := { d.accept.sec with
      sess := .opened, sessLink := b2n bulk, sessRights := r, sealSeq := 0, sealKeys := keys } } := by
  unfold Dev.hostOffer
  rw [if_pos hstands, h]
  exact ⟨_, rfl⟩

/-! ## Attestation (R453) -/

@[simp] theorem length_bytesN (n : Nat) (l : List Byte) : (bytesN n l).length = n := by simp [bytesN]

theorem Dev.attest_attests (d : Dev) (nonce : List Byte) (hlen : nonce.length = 32) (hlife : d.sec.life ≠ .blank) :
    ∃ bytes, d.attest nonce = { d.accept with sec := { d.accept.sec with attest := bytes } } ∧ (bytes.drop 88).take 32 = nonce ∧
      bytes.take 3 = [0x53, 0x41, 1] := by
  unfold Dev.attest
  rw [if_neg (not_not_intro hlen), if_neg hlife]
  refine ⟨_, rfl, ?_, ?_⟩
  · rw [List.append_assoc, List.append_assoc, List.drop_left' (by simp), List.take_left' hlen]
  · simp only [List.append_assoc]
    exact (List.take_append_of_le_length (l₁ := leBytes 2 0x4153 ++ leBytes 1 1) (by decide)).trans rfl

/-! ## Randomness (R433) -/

/-- The module once the entropy test failed. -/
def Dev.entropyFailed (d : Dev) : Dev := ((d.modSec fun x => { x with drbgFail := true }).raiseNow 0x0C01 1 .device 0xFF).settleFaults

theorem exec_drbgFailure {s : State} (hlive : s.live) (h : s.dev.sec.drbgFail = false) :
    exec .drbgFailure s = .next (s.atCommit s.dev.entropyFailed) :=
  next_at hlive (show execDrbgFailure s = _ from rfl) (if_neg (by simp [h]))

theorem Dev.entropyFailed_bars (d : Dev) (hcalm : d.calm = true) : let t := d.entropyFailed
    t.sec.drbgFail = true ∧ t.sec.trust = d.sec.trust ∧ t.sec.sess = d.sec.sess ∧ t.sec.debug = d.sec.debug ∧ t.mem = d.mem ∧
      t.tick = d.tick := by
  intro t
  have hm : Dev.Mild _ t := (((Dev.Minor.of_calm hcalm).same (t := d.modSec fun x => { x with drbgFail := true })
    ⟨rfl, rfl, rfl, rfl⟩).raiseAt d.tick 0x0C01 1 .device 0xFF 0 (by decide)).settles
  have hsec : t.sec = { d.sec with drbgFail := true, trace := t.sec.trace } := (congrArg Dev.sec hm.rest).trans rfl
  have hmem : t.mem = d.mem := hm.mem
  have htick : t.tick = d.tick := hm.tick
  clear_value t
  rw [hsec]
  exact ⟨rfl, rfl, rfl, rfl, hmem, htick⟩
end Sys2Proof.Machine
end

section
namespace Sys2Proof.Machine
open Sys2Proof

theorem Sec.trust_streams (x : Sec) (streams : Vector (Option Machine.Stream) 16) : Sec.trust { x with streams := streams } = x.trust := rfl

/-- STREAM_CMD closes the stream it names, or all (R445). -/
theorem Dev.streamCmd_closes (d : Dev) (id : BitVec 32) (j : Fin 16) : (d.streamCmd id.toNat).sec.streams[j] =
    if id = 0xFFFFFFFF ∨ d.sec.streams[j].any (fun y => y.id == id.toNat) = true then none else d.sec.streams[j] := by
  have hall : id.toNat = 0xFFFFFFFF ↔ id = 0xFFFFFFFF := ⟨fun h => BitVec.eq_of_toNat_eq h, fun h => by rw [h]; rfl⟩
  have hsec : (d.streamCmd id.toNat).sec.streams = d.sec.streams.map fun s => s.bind fun y =>
      if id.toNat = 0xFFFFFFFF ∨ y.id = id.toNat then none else some y := by
    unfold Dev.streamCmd Dev.modSec
    rw [d.accept_stays.2.1]
  rw [hsec, Fin.getElem_fin, Vector.getElem_map, Fin.getElem_fin]
  cases d.sec.streams[j.val] with
  | none => simp
  | some y => simp [hall]

/-- An offer that is none, or too old, or of a wrong length, does not stand or gives no rights (R447). -/
theorem Dev.offer_bad (d : Dev) {offer : List Byte}
    (h : d.sec.sess ≠ .offered ∨ 10000000 < ticksFrom d.sec.offerTick d.tick ∨ offer.length ≠ 404) :
    d.offerStands = false ∨ d.offerRights offer = none := by
  rcases h with h | h | h
  · exact .inl (by simp [Dev.offerStands, h])
  · exact .inl (by simp [Dev.offerStands, h])
  · refine .inr ?_
    unfold Dev.offerRights
    exact if_pos (by simp [h])

/-- The session that 64 failures end (R425). -/
def Dev.failureClosed (d : Dev) : Dev :=
  ((d.modSec fun x => { x with sess := .closed, sessLink := 0xFF, sessRights := 0, sealKeys := [] }).setReg Obj.SESS_CLOSE_CAUSE 3).modSec
    fun x => { x with sealFails := [] }

theorem Dev.failureLimit_eq (d : Dev) (hopen : d.sec.sess ≠ .closed) :
    (if (d.sec.sess != .closed) = true then ((d.closeSession 3).modSec fun x => { x with sealFails := [] }).violate
        (if ((d.closeSession 3).modSec fun x => { x with sealFails := [] }).sec.sessLink = 1 then 7 else 0) 0x0141 (Obj.SEALED_IN * 256) abState
      else (d.closeSession 3).modSec fun x => { x with sealFails := [] }) =
    d.failureClosed.violate 0 0x0141 (Obj.SEALED_IN * 256) abState := by
  rw [if_pos (by simpa using hopen), d.closeSession_open 3 hopen]
  rfl

theorem Dev.failureLimit_closes (d : Dev) : let t := d.failureClosed.violate 0 0x0141 (Obj.SEALED_IN * 256) abState
    t.sec = { d.sec with sess := .closed, sessLink := 0xFF, sessRights := 0, sealKeys := [], sealFails := [] } ∧
      t.reg Obj.SESS_CLOSE_CAUSE = 3 ∧ Dev.SecStays d t :=
  ⟨Dev.violate_sec .., (Dev.violate_reg _ _ _ _ _ (by decide)).trans ((Dev.reg_setReg_eq ..).trans (if_pos rfl)),
    Dev.violate_chans .., Dev.violate_mem .., Dev.violate_tick ..⟩

end Sys2Proof.Machine

namespace Sys2Proof
open Machine

/-- Settles O56: verification by `Dev.verify_eq` and `Dev.boxVerdict_passes`, verdicts by `Dev.judge_judges`, lifecycle transitions by
`Dev.owned_ends` and `Dev.retired_ends`, streams by their place, sessions, attestation and entropy each by its lemma. -/
theorem containersOwnershipAndSessions : Obligations.ContainersOwnershipAndSessions := by
  intro s box offer nonce pub rest v y c policy k new opened fuseOk bulk id cyc at' hlive hcalm d x result next stays inTick barred denied
    closed fails place h bad owner later judged onLoad refill failed e
  have told : ∀ {t : Dev} {code type : Nat}, type < 256 → Dev.Tells d t code type (d.reg Obj.CONT_DETAIL % 2 ^ 16) →
      result (s.atCommit t) code type := fun {t code type} hty ht =>
    ⟨ht.result, ht.tick, ht.detail.trans (by rw [Nat.mod_eq_of_lt hty]), ht.refused⟩
  have bars : ∀ {t : Dev} {code type : Nat}, type < 256 → Dev.Bars d t v code type → barred (s.atCommit t) code type :=
    fun hty ht => ⟨told hty ht.tells, ht.abort, ht.sec, ht.mem, ht.fifo, ht.chans, ht.tick, rfl⟩
  have bar : ∀ {op : Instr} {code type : Nat}, type < 256 → code ≠ 0 →
      exec op s = .next (s.atCommit ((s.dev.dropPassed v).secVerdict code type)) → Gives op s (barred · code type) :=
    fun hty hcode he => ⟨_, he, bars hty (d.dropPassed_bars v _ _ hcode)⟩
  have stay : ∀ {t : Dev}, Dev.SecStays d t → stays (s.atCommit t) := fun ht => ⟨ht.chans, ht.tick, rfl⟩
  have deny : ∀ {op : Instr} {obj code : Nat}, exec op s = .next (s.atCommit (s.dev.refuse obj code)) → denied op code :=
    fun he => ⟨_, he, congrArg Dict.abort (Dev.refuse_dict ..), Dev.refuse_sec .., Dev.refuse_fifo .., Dev.refuse_chans ..,
      Dev.refuse_tick .., rfl⟩
  obtain ⟨hacc, haccsec, haccabort⟩ := d.accept_stays
  refine ⟨?_, ?_, ?_, ?_, ?_, ?_, ?_, ?_, ?_, ?_, ?_, ?_, ?_, ?_, ?_, ?_, ?_, ?_, ?_, ?_, ?_, ?_, ?_, ?_, ?_, ?_, ?_⟩
  · intro hin hwait
    obtain ⟨streams, heq⟩ := (s.dev.modSec fun x => { x with waiting := rest }).verify_eq
      (s.dev.boxVerdict bulk true false fuseOk 0 (fun _ => []) box) box cyc.val
    refine ⟨_, exec_containerVerified_sec hin fuseOk cyc hwait, ?_⟩
    rw [heq]
    exact ⟨rfl, rfl, rfl, rfl, rfl, rfl, rfl, rfl, rfl⟩
  · intro hin hwait
    exact ⟨_, exec_containerVerified_none hin fuseOk cyc hwait, rfl⟩
  · intro hin hclaims hwaits hdesc himage hbox htype hlib
    subst hbox
    obtain ⟨streams, heq⟩ := s.dev.verify_eq (s.dev.boxVerdict true false false fuseOk y.target.toNat (bodyLines (boxHeadOf y.box).type)
      y.box) y.box cyc.val
    refine ⟨_, exec_containerVerified_load hin fuseOk cyc hclaims hwaits hdesc himage htype hlib, ?_⟩
    rw [heq]
    exact ⟨rfl, rfl, rfl, rfl, rfl, rfl, rfl, rfl, rfl⟩
  · intro hin hclaims hbulk hact hbox
    subst hbox
    obtain ⟨chans, hexec⟩ := exec_containerVerified_refill hin fuseOk cyc (y := y) hclaims hbulk hact
    obtain ⟨streams, heq⟩ := Dev.verify_eq { s.dev with chans := chans, load := { s.dev.load with
      claims := if (s.dev.boxVerdict true false false fuseOk 0 (fun _ => c.lines) c.box).code = 0 then
        [{ c with act := some (s.dev.loadAct true cyc.val), box := [] }] else [] } }
      (s.dev.boxVerdict true false false fuseOk 0 (fun _ => c.lines) c.box) c.box cyc.val
    refine ⟨_, hexec, ?_⟩
    dsimp only
    rw [heq]
    exact ⟨rfl, rfl, rfl⟩
  · intro hcode
    have hp := d.boxVerdict_passes bulk true fuseOk 0 _ box hcode
    exact ⟨hp.ok, not_or.2 ⟨Nat.not_lt.2 hp.length, not_not_intro hp.size⟩, hp.fp, hp.life, List.all_eq_true.2 fun b hb => by
      rw [hp.current b hb]
      simpa using hp.signed b hb, hp.arb, hp.policy, hp.bump⟩
  · have hj := d.judge_judges v
    exact ⟨hj.tells.result, hj.tells.tick, hj.chans, hj.mem, hj.life, hj.tells.detail, hj.refused,
      fun hcode htype => ⟨hj.passed hcode htype, hj.raised hcode at'⟩⟩
  · intro hnext hread
    refine ⟨fun hlife hpark hslot => ?_, fun hlife hpark hslot => ?_, fun hlife hpark => ?_, fun hlife hpark hslot => ?_, fun hlife => ?_⟩
    · obtain ⟨htells, hsess, hstreams, htrust, hpassed, hchans, htick⟩ :=
        (d.dropPassed v).owned_ends k policy pub (!s.dev.sec.drbgFail)
      have ht : Dev.Tells d _ 0 0x11 _ := ⟨htells.1, htells.2, htells.3, htells.4⟩
      exact ⟨_, exec_ownership_owned hlive hnext hread hlife hpark hslot, told (by decide) ht,
        (congrArg Trust.life htrust :), (congrArg Trust.policy htrust :), (congrArg Trust.ownerPub htrust :),
        (congrArg Trust.ownerHash htrust :), (congrArg Trust.slots htrust :), (congrArg Trust.arb htrust :),
        (congrArg Trust.d3Count htrust :), hpassed, ⟨hsess, hstreams⟩, hchans, htick, rfl⟩
    · have hb := d.dropPassed_bars v 0xD 0x11 (by decide)
      have ht := hb.tells
      obtain ⟨hchans, htick, hsec, -, hregs⟩ := ((d.dropPassed v).secVerdict 0xD 0x11).modSec_keeps fun x => { x with slots := x.slots.set k 2 }
      exact ⟨_, exec_ownership_void hlive hnext hread hlife hpark hslot, told (by decide) (ht.kept fun k _ => hregs k),
        hsec.trans (by rw [hb.sec]), hchans.trans hb.chans, htick.trans hb.tick, rfl⟩
    · exact bar (by decide) (by decide) (exec_ownership_unparked hlive hnext hread hlife fuseOk hpark)
    · exact bar (by decide) (by decide) (exec_ownership_full hlive hnext hread hlife hpark fuseOk hslot)
    · exact bar (by decide) (by decide) (exec_ownership_life hlive hnext hread fuseOk hlife)
  · intro hnext hread
    exact bar (by decide) (by decide) (exec_ownership_unread hlive fuseOk hnext hread)
  · intro hnext
    exact ⟨_, exec_ownership_none hlive fuseOk hnext, rfl⟩
  · intro hnext hlife
    have hserves : ¬ (decide (s.dev.sec.life = .blank) || decide (s.dev.sec.life = .retired)) = true := by
      rcases hlife with hl | hl <;> rw [show s.dev.sec.life = _ from hl] <;> decide
    have hexec := exec_retire hlive fuseOk hnext
    rw [if_neg hserves] at hexec
    refine ⟨fun hpark => ?_, fun hpark => ?_⟩
    · rw [if_neg (by simp [show s.dev.allParked = true from hpark])] at hexec
      obtain ⟨htells, hsess, hstreams, htrust, herased, hledger, hdir, hprogs, hsets, hscr, hentries⟩ := (d.dropPassed v).retired_ends fuseOk
      exact ⟨_, hexec, told (by decide) ⟨htells.1, htells.2, htells.3, htells.4⟩, (congrArg Trust.life htrust :),
        (congrArg Trust.slots htrust :), (congrArg Trust.ownerPub htrust :), (congrArg Trust.ownerHash htrust :),
        (congrArg Trust.arb htrust :), (congrArg Trust.d3Count htrust :), ⟨hsess, hstreams⟩, herased, hledger, hdir, hprogs, hsets, hscr,
        hentries⟩
    · rw [if_pos (by simp [show s.dev.allParked = false from hpark])] at hexec
      exact bar (by decide) (by decide) hexec
  · intro hnext hlife
    have hexec := exec_retire hlive fuseOk hnext
    rw [if_pos (by rcases hlife with hl | hl <;> rw [show s.dev.sec.life = _ from hl] <;> decide)] at hexec
    exact bar (by decide) (by decide) hexec
  · intro hnext
    exact ⟨_, exec_retire_none hlive fuseOk hnext, rfl⟩
  · intro hnext hread
    have hexec := exec_streamOpen hlive hnext hread
    refine ⟨_, hexec, fun hopen hplace => ?_, fun hopen hplace => ?_, fun hopen => ?_⟩
    · obtain ⟨i, hi, hiplace⟩ := x.streamPlace_some new.id hplace
      have hst := (d.dropPassed v).secVerdict_stays 0 0x10
      have ht := d.dropPassed_tells v 0 0x10
      rw [if_neg (by simp [hopen]), show s.dev.sec.streamPlace new.id = some i.val from hi]
      obtain ⟨hchans, htick, hsec, -, hregs⟩ := ((d.dropPassed v).secVerdict 0 0x10).modSec_keeps fun x =>
        { x with streams := Vector.ofFn fun i' => if i'.val = i.val then some new else x.streams[i'] }
      refine ⟨told (by decide) (ht.kept fun k _ => hregs k), ⟨hchans.trans hst.chans, htick.trans hst.tick, rfl⟩, ?_, i, hiplace, fun j => ?_⟩
      · exact (congrArg Sec.trust hsec).trans ((Sec.trust_streams ..).trans (congrArg Sec.trust hst.sec :))
      · refine (congrArg (fun x : Sec => x.streams[j]) hsec).trans ?_
        rw [hst.sec]
        simp only [Fin.getElem_fin, Vector.getElem_ofFn, Fin.ext_iff]
        rfl
    · rw [if_neg (by simp [hopen]), show s.dev.sec.streamPlace new.id = none from x.streamPlace_none new.id hplace]
      exact bars (by decide) (d.dropPassed_bars v _ _ (by decide))
    · rw [if_pos (by simp [hopen])]
      exact bars (by decide) (d.dropPassed_bars v _ _ (by decide))
  · intro hnext hread
    exact bar (by decide) (by decide) (exec_streamOpen_unread hlive hnext hread)
  · intro hnext
    exact ⟨_, exec_streamOpen_none hlive hnext, rfl⟩
  · refine gives_at hlive (show exec (.streamCmd id) s = _ from rfl) ⟨?_, ?_, ?_, fun j => ?_⟩
    · exact stay ⟨hacc.chans, hacc.mem, hacc.tick⟩
    · exact haccabort
    · exact (congrArg Sec.trust haccsec :)
    · exact d.streamCmd_closes id j
  · intro hbar
    obtain ⟨hsess, htick, hno, habort, htrust, hst⟩ := d.offer_offers bulk hbar
    exact gives_at hlive (show exec (.sessCmdOffer bulk) s = _ from rfl) ⟨hsess, htick, hno, habort, htrust, hst.mem, stay hst⟩
  · intro hbar
    exact deny (next_at hlive (show exec (.sessCmdOffer bulk) s = _ from rfl) (d.offer_barred bulk hbar))
  · intro hopen
    have hexec := next_at hlive (show exec .sessCmdClose s = _ from rfl) (d.accept.closeSession_open 1 (by rw [haccsec]; exact hopen))
    obtain ⟨hchans, htick, hsec, hdict, -⟩ := d.accept.modSec_keeps fun x =>
      { x with sess := .closed, sessLink := 0xFF, sessRights := 0, sealKeys := [] }
    exact ⟨_, hexec, hsec.trans (by rw [haccsec]), (Dev.reg_setReg_eq ..).trans (if_pos rfl), (congrArg Dict.abort hdict).trans haccabort,
      hchans.trans hacc.chans, htick.trans hacc.tick, rfl⟩
  · have fail : d.offerStands = false ∨ d.offerRights offer = none → failed (s.atCommit (d.hostOffer offer bulk)) := fun hbad => by
      obtain ⟨e', heq, hsess, htrust, hchans, hmem, htick, hregs⟩ := d.hostOffer_fails offer bulk hbad
      have hf := e'.sealFail_fails Obj.SESS_HOST_OFFER
      rw [heq]
      exact ⟨hf.sess.trans hsess, hf.abort, hf.count.trans (congrArg (bump 32) (Dev.reg_of_regs hregs _)), hf.noted.trans (by rw [htick]),
        hf.trust.trans htrust, hf.stays.chans.trans hchans, hf.stays.tick.trans htick, rfl⟩
    refine ⟨fun hoffered hage => ?_, fun hbad => ?_⟩
    · have hstands : d.offerStands = true := Bool.and_eq_true_iff.2 ⟨beq_iff_eq.2 hoffered, decide_eq_true hage⟩
      refine gives_at hlive (show exec (.sessHostOffer offer bulk) s = _ from rfl) ⟨fun r hr => ?_, fun hr => fail (.inr hr)⟩
      obtain ⟨keys, heq⟩ := d.hostOffer_opens offer bulk hstands hr
      rw [heq]
      exact ⟨rfl, rfl, rfl, rfl, (congrArg Sec.trust haccsec :), haccabort, hacc.chans, hacc.tick, rfl⟩
    · exact gives_at hlive (show exec (.sessHostOffer offer bulk) s = _ from rfl) (fail (d.offer_bad hbad))
  · intro hoffered
    refine ⟨fun hage => ?_, fun hage => ?_⟩
    · exact ⟨_, next_at hlive (show exec .sessOfferTimeout s = _ from rfl) (if_pos ⟨hoffered, hage⟩), rfl, rfl, rfl, rfl⟩
    · exact ⟨_, next_at hlive (show exec .sessOfferTimeout s = _ from rfl) (if_neg fun hc => absurd hc.2 (Nat.not_le.2 hage)), rfl⟩
  · intro hlimit hopen
    obtain ⟨hsec, hcause, hst⟩ := d.failureLimit_closes
    exact ⟨_, next_at hlive (show exec .sealedFailureLimit s = _ from rfl) ((if_pos hlimit).trans (d.failureLimit_eq hopen)), hsec, hcause,
      stay hst⟩
  · intro hlimit
    exact ⟨_, next_at hlive (show exec .sealedFailureLimit s = _ from rfl) (if_neg (Nat.not_le.2 hlimit)), rfl⟩
  · intro hlen hlife
    obtain ⟨bytes, heq, hnonce, hhead⟩ := d.attest_attests nonce hlen hlife
    refine ⟨_, next_at hlive (show exec (.attestNonce nonce) s = _ from rfl) heq, hnonce, hhead, haccabort, (congrArg Sec.trust haccsec :),
      hacc.mem, hacc.chans, hacc.tick, rfl⟩
  · intro hlen
    exact deny (next_at hlive (show exec (.attestNonce nonce) s = _ from rfl) (if_pos hlen))
  · intro hlen hlife
    exact deny (next_at hlive (show exec (.attestNonce nonce) s = _ from rfl) ((if_neg (not_not_intro hlen)).trans (if_pos hlife)))
  · intro hfail
    obtain ⟨hdrbg, htrust, hsess, hdebug, hmem, htick⟩ := d.entropyFailed_bars hcalm
    exact ⟨_, exec_drbgFailure hlive hfail, hdrbg, htrust, hsess, hdebug, hmem, htick⟩

end Sys2Proof
end

section
namespace Sys2Proof.Machine
open Sys2Proof

/-! ## Channels one by one -/

theorem Dev.mapCh_ch (d : Dev) (f : ChanId → Channel → Channel) (n : ChanId) : (d.mapCh f).ch n = f n (d.ch n) := by
  simp [Dev.mapCh, Dev.ch]

/-- Named channels that change alone leave all else of the module. -/
theorem Dev.inMask_modCh (d : Dev) (mask : Word64) (f : Channel → Channel) :
    (∃ chans, (d.inMask mask fun d n => d.modCh n f) = { d with chans := chans }) ∧
      ∀ n : ChanId, (d.inMask mask fun d n => d.modCh n f).ch n = if bit mask n.val = true then f (d.ch n) else d.ch n := by
  have hfold : ∀ (l : List ChanId) (t : Dev), (∃ chans, t = { d with chans := chans }) →
      ∃ chans, l.foldl (fun d n => if bit mask n.val = true then d.modCh n f else d) t = { d with chans := chans } := by
    intro l
    induction l with
    | nil => exact fun t h => h
    | cons m l ih =>
      rintro _ ⟨chans, rfl⟩
      refine ih _ ?_
      dsimp only
      split <;> exact ⟨_, rfl⟩
  refine ⟨hfold _ d ⟨_, rfl⟩, fun n => ?_⟩
  unfold Dev.inMask
  refine Dev.eachCh_turn (P := fun t => t.ch n = d.ch n) (Q := fun t => t.ch n = if bit mask n.val = true then f (d.ch n) else d.ch n)
    n rfl (fun t m hm ht => ?_) (fun t ht => ?_) (fun t m hm ht => ?_)
  · split
    · rw [Dev.ch_modCh, if_neg hm.symm, ht]
    · exact ht
  · split
    · rw [Dev.ch_modCh, if_pos rfl, ht]
    · exact ht
  · refine Eq.trans ?_ ht
    by_cases hb : bit mask m.val = true
    · rw [if_pos hb, Dev.ch_modCh, if_neg hm.symm]
    · rw [if_neg hb]

/-! ## Debug levels (R454) -/

/-- What leaving a debug level keeps and does to the channels (R457). -/
structure Dev.Leaves (d t : Dev) (level : Nat) : Prop where
  debug  : t.sec.debug = level
  pend   : t.sec.dbgPend = d.sec.dbgPend
  trust  : t.sec.trust = d.sec.trust
  dict   : t.dict = d.dict
  mem    : t.mem = d.mem
  tick   : t.tick = d.tick
  force  : ∀ m, (t.ch m).force = (d.ch m).force
  bk     : ∀ m, (t.ch m).bk = (d.ch m).bk
  resume : d.sec.debug = 2 → ∀ m, (t.ch m).eng.resume = (d.ch m).eng.halted
  pending : d.sec.debug = 2 → ∀ m, (t.ch m).eng.haltPend = false

theorem Dev.debugRoll_eq (d : Dev) : ∃ fifo ctr draws statement prev, d.debugRoll =
    { d with fifo := fifo, freeCtr := ctr, sec := { d.sec with draws := draws, statement := statement, prevStatement := prev } } := by
  unfold Dev.debugRoll
  split
  · exact ⟨_, _, _, _, _, rfl⟩
  · exact d.endSession_eq true

/-- The engines of the channels that D2 halted go on at the next commit, and halts that wait are parks (R457). -/
def Dev.unhalted (d : Dev) : Dev := d.mapCh fun _ c => c.modEng fun e => { e with resume := e.halted, haltPend := false }

theorem Dev.unhalted_ch (d : Dev) (m : ChanId) : d.unhalted.ch m =
    (d.ch m).modEng fun e => { e with resume := e.halted, haltPend := false } := d.mapCh_ch _ m

theorem Dev.Leaves.rolls {d u : Dev} {level : Nat} (h : Dev.Leaves d u level) : Dev.Leaves d u.debugRoll level := by
  obtain ⟨fifo, ctr, draws, statement, prev, heq⟩ := u.debugRoll_eq
  rw [heq]
  exact ⟨h.debug, h.pend, h.trust, h.dict, h.mem, h.tick, h.force, h.bk, h.resume, h.pending⟩

theorem Dev.unhalted_leaves (d : Dev) (level : Nat) : Dev.Leaves d (d.modSec fun x => { x with debug := level }).unhalted level := by
  have hch : ∀ m, (d.modSec fun x => { x with debug := level }).unhalted.ch m =
    (d.ch m).modEng fun e => { e with resume := e.halted, haltPend := false } := Dev.unhalted_ch _
  refine ⟨rfl, rfl, rfl, rfl, rfl, rfl, fun m => ?_, fun m => ?_, fun _ m => ?_, fun _ m => ?_⟩ <;> rw [hch m] <;> rfl

theorem Dev.leaveD2_leaves (d : Dev) (level : Nat) : Dev.Leaves d (d.leaveD2 level) level := by
  unfold Dev.leaveD2
  dsimp only
  split
  next h => exact (d.unhalted_leaves level).rolls
  next h => exact ⟨rfl, rfl, rfl, rfl, rfl, rfl, fun _ => rfl, fun _ => rfl, fun h2 => absurd h2 h, fun h2 => absurd h2 h⟩

end Sys2Proof.Machine
end

section
namespace Sys2Proof.Machine
open Sys2Proof

/-! ## Debug tokens (R455) -/

/-- An accepted token acts: D2 at once, and D3 by its pair. -/
def Dev.tokenActs (d : Dev) (tok : DebugToken) : Dev :=
  if tok.level = 2 then
    if d.sec.debug = 2 then d.modSec fun x => { x with debug := 2, dbgPend := 0 }
    else (d.modSec fun x => { x with debug := 2, dbgPend := 0 }).debugRoll
  else if (decide (d.sec.life ≠ .owned) || decide (d.sec.dbgPend = if tok.vendor then 0x13 else 0x23)) = true then d.enterD3
  else d.modSec fun x => { x with dbgPend := if tok.vendor then 0x23 else 0x13 }

section
variable {s : State} (hlive : s.live) {v : Verdict}
include hlive

theorem exec_debugToken_none (h : s.dev.nextSecurity 0x12 = none) : exec .debugToken s = .next (s.atCommit s.dev) :=
  next_at hlive (show execDebugToken s = _ from rfl) (by rw [Dev.takeSecurity_eq, h]; rfl)

theorem exec_debugToken_unread (h : s.dev.nextSecurity 0x12 = some v) (hread : s.dev.readToken v = none) :
    exec .debugToken s = .next (s.atCommit ((s.dev.dropPassed v).secVerdict 1 0x12)) :=
  next_at hlive (show execDebugToken s = _ from rfl) (by
    rw [Dev.takeSecurity_eq, h]
    dsimp only [Option.map_some]
    rw [show (s.dev.dropPassed v).readToken v = none from hread])

variable {tok : DebugToken} (h : s.dev.nextSecurity 0x12 = some v) (hread : s.dev.readToken v = some tok)
include h hread

theorem exec_debugToken_refused (hcode : s.dev.tokenCode tok ≠ 0) :
    exec .debugToken s = .next (s.atCommit ((s.dev.dropPassed v).secVerdict (s.dev.tokenCode tok) 0x12)) :=
  next_at hlive (show execDebugToken s = _ from rfl) (by
    rw [Dev.takeSecurity_eq, h]
    dsimp only [Option.map_some]
    rw [show (s.dev.dropPassed v).readToken v = some tok from hread]
    exact if_pos hcode)

theorem exec_debugToken_accepted (hcode : s.dev.tokenCode tok = 0) :
    exec .debugToken s = .next (s.atCommit (((s.dev.dropPassed v).secVerdict 0 0x12).tokenActs tok)) :=
  next_at hlive (show execDebugToken s = _ from rfl) (by
    rw [Dev.takeSecurity_eq, h]
    dsimp only [Option.map_some]
    rw [show (s.dev.dropPassed v).readToken v = some tok from hread]
    dsimp only
    rw [show (s.dev.dropPassed v).tokenCode tok = 0 from hcode]
    exact if_neg (not_not_intro rfl))
end

/-- A token of level 2 grants D2 (R455). -/
structure Dev.GrantsD2 (d t : Dev) : Prop where
  debug : t.sec.debug = 2
  pend  : t.sec.dbgPend = 0
  trust : t.sec.trust = d.sec.trust
  chans : t.chans = d.chans
  regs  : t.regs = d.regs
  mem   : t.mem = d.mem
  tick  : t.tick = d.tick

theorem Dev.tokenActs_d2 (d : Dev) (tok : DebugToken) (h : tok.level = 2) : Dev.GrantsD2 d (d.tokenActs tok) := by
  unfold Dev.tokenActs
  rw [if_pos h]
  split
  · exact ⟨rfl, rfl, rfl, rfl, rfl, rfl, rfl⟩
  · obtain ⟨fifo, ctr, draws, statement, prev, heq⟩ := (d.modSec fun x => { x with debug := 2, dbgPend := 0 }).debugRoll_eq
    rw [heq]
    exact ⟨rfl, rfl, rfl, rfl, rfl, rfl, rfl⟩

/-- The first token of a pair is held, in OWNED (R455). -/
theorem Dev.tokenActs_held (d : Dev) (tok : DebugToken) (hlevel : tok.level = 3) (hlife : d.sec.life = .owned) (hpend : d.sec.dbgPend = 3) :
    d.tokenActs tok = d.modSec fun x => { x with dbgPend := if tok.vendor then 0x23 else 0x13 } := by
  unfold Dev.tokenActs
  rw [if_neg (by simp [hlevel]), if_neg]
  cases tok.vendor <;> simp [hlife, hpend]

theorem Dev.tokenActs_d3 (d : Dev) (tok : DebugToken) (hlevel : tok.level = 3)
    (h : d.sec.life ≠ .owned ∨ d.sec.dbgPend = if tok.vendor then 0x13 else 0x23) : d.tokenActs tok = d.enterD3 := by
  unfold Dev.tokenActs
  rw [if_neg (by simp [hlevel]), if_pos (by simpa using h)]

/-- D3 erases the memories and the FIFO, and counts (R459). -/
theorem Dev.enterD3_erases (d : Dev) : let t := d.enterD3
    t.sec.debug = 3 ∧ t.sec.dbgPend = 0 ∧ t.sec.d3Count = d.sec.d3Count + 1 ∧ t.sec.life = d.sec.life ∧ t.sec.recErased = true ∧
      t.sec.slots = d.sec.slots ∧ t.sec.arb = d.sec.arb ∧ t.sec.sess = .closed ∧ t.mem.ledger = [] ∧ t.mem.dir = [] ∧ t.mem.progs = [] ∧
      t.mem.sets = [] ∧ t.mem.scr = [] ∧ t.fifo.entries = [] := by
  have hends := d.sessionsEnd_ended 5 false
  unfold Dev.enterD3
  generalize ((d.closeSession 5).closeStreams).endSession false = u at hends
  have hzero := u.zeroise_zeroised
  dsimp only
  generalize u.zeroise = z at hzero
  have hsec : ((z.unhalted).modSec fun x => { x with d3Count := x.d3Count + 1, debug := 3, dbgPend := 0 }).sec =
      { u.sec with recErased := true, d3Count := u.sec.d3Count + 1, debug := 3, dbgPend := 0 } :=
    congrArg (fun x : Sec => { x with d3Count := x.d3Count + 1, debug := 3, dbgPend := 0 }) hzero.erased
  have htrust := hends.trust
  refine ⟨(congrArg Sec.debug hsec :), (congrArg Sec.dbgPend hsec :), (congrArg Sec.d3Count hsec).trans ?_, (congrArg Sec.life hsec).trans ?_,
    (congrArg Sec.recErased hsec :), (congrArg Sec.slots hsec).trans ?_, (congrArg Sec.arb hsec).trans ?_,
    (congrArg Sec.sess hsec).trans hends.sess, hzero.ledger, hzero.dir, hzero.progs, hzero.sets, hzero.scr, hzero.entries⟩
  · exact congrArg (fun x : Trust => x.d3Count + 1) htrust
  · exact congrArg Trust.life htrust
  · exact congrArg Trust.slots htrust
  · exact congrArg Trust.arb htrust

/-- A vendor's token for D2 with the nonce drawn last is accepted in VENDOR (R454, R455). -/
theorem Dev.tokenCode_d2 (d : Dev) (tok : DebugToken) (hlevel : tok.level = 2) (hnonce : tok.nonceOk = true) (hvendor : tok.vendor = true)
    (hlife : d.sec.life = .vendor) (hpend : d.sec.dbgPend = 2) (hage : ticksFrom d.sec.dbgTick d.tick ≤ 60000000)
    (hallow : d.d2Allowed = true) : d.tokenCode tok = 0 := by
  simp [Dev.tokenCode, hlevel, hnonce, hvendor, hlife, hpend, hage, hallow]

theorem Dev.tokenCode_nonce (d : Dev) (tok : DebugToken) (hlevel : tok.level = 2) (hlife : d.sec.life = .vendor) (hvendor : tok.vendor = true)
    (hnonce : tok.nonceOk = false) : d.tokenCode tok = 0xC := by
  simp [Dev.tokenCode, hlevel, hnonce, hvendor, hlife]

end Sys2Proof.Machine
end

section
namespace Sys2Proof.Machine
open Sys2Proof

/-! ## Halts (R457): a park leaves what waits for a halt -/

/-- The halts that wait stay. -/
def Dev.SameHalts (d t : Dev) : Prop := ∀ m, (t.ch m).eng.haltPend = (d.ch m).eng.haltPend

namespace Dev.SameHalts

theorem refl (d : Dev) : Dev.SameHalts d d := fun _ => rfl

theorem trans {d t u : Dev} (h : Dev.SameHalts d t) (h' : Dev.SameHalts t u) : Dev.SameHalts d u := fun m => (h' m).trans (h m)

theorem ite {p : Prop} [Decidable p] {d t u : Dev} (ht : Dev.SameHalts d t) (hu : Dev.SameHalts d u) :
    Dev.SameHalts d (if p then t else u) := by
  split
  · exact ht
  · exact hu

theorem foldl {α : Type} {f : Dev → α → Dev} (h : ∀ d x, Dev.SameHalts d (f d x)) (l : List α) (d : Dev) :
    Dev.SameHalts d (l.foldl f d) := by
  induction l generalizing d with
  | nil => exact refl d
  | cons x l ih => exact (h d x).trans (ih _)

theorem modCh (d : Dev) (n : ChanId) (f : Channel → Channel) (hf : ∀ c, (f c).eng.haltPend = c.eng.haltPend := by intro c; rfl) :
    Dev.SameHalts d (d.modCh n f) := fun m => by
  rw [Dev.ch_modCh]
  split
  next h => rw [h, hf]
  next => rfl

theorem of_chans {d t : Dev} (h : t.chans = d.chans) : Dev.SameHalts d t := fun m => by rw [Dev.ch_of_chans h]

theorem of_cores {d t : Dev} (h : t.cores = d.cores) : Dev.SameHalts d t := fun m =>
  (congrArg (fun c : Channel => c.eng.haltPend) (Dev.still_of_cores h m) :)

section
variable (d : Dev) (n : ChanId)

theorem undoMonitor (old : Monitor) (m : Idx4) : Dev.SameHalts d (d.undoMonitor n old m) := by
  have hold : Dev.SameHalts d (d.modCh n fun c => (c.modWm m fun _ => old).wmRecode m) := modCh d n _
  unfold Dev.undoMonitor
  exact ite (refl d) (ite (hold.trans (modCh _ n _)) (ite hold (hold.trans (of_chans rfl))))

theorem undoApply : Dev.SameHalts d (d.undoApply n) := by
  unfold Dev.undoApply Dev.takeBack
  split
  · refine .trans (t := { d with fab := { d.fab with steps := d.fab.steps.filter fun q => q.1 / 16 != n.val } }) (of_chans rfl) ?_
    exact (modCh _ n _).trans (foldl (fun d m => undoMonitor d n _ m) _ _)
  · exact refl d

theorem stopBarker : Dev.SameHalts d (d.stopBarker n) := modCh d n _ fun c => by dsimp only; split <;> rfl

theorem tallyDay (u : Idx16) (day : TallyDay) (ev : TallyEv) : Dev.SameHalts d (d.tallyDay n u day ev) := by
  have hignored : ∀ (d : Dev) (p : Prop) [Decidable p] v (l : List Nat), Dev.SameHalts d (if p then d.setCreg n Obj.TALLY_IGNORED v
      else l.foldl (fun d _ => d.cinc n 32 Obj.TALLY_IGNORED) d) := fun d p _ v l =>
    ite (modCh d n _) (foldl (fun d _ => modCh d n _) l d)
  have hunit : ∀ (d : Dev) (p q : Prop) [Decidable p] [Decidable q], Dev.SameHalts d (if p then d.tallyOpen n u
      else if q then d.modCh n fun c => c.modTally u fun _ => Tally.reset else d) := fun d p q _ _ =>
    ite (by unfold Dev.tallyOpen; exact modCh d n _) (ite (modCh d n _) (refl d))
  have hfire : ∀ (d : Dev) (p : Prop) [Decidable p] code inh, Dev.SameHalts d (if p then d.fireCommit code inh else d) :=
    fun d p _ code inh => ite (of_cores (d.fireCommit_cores code inh)) (refl d)
  unfold Dev.tallyDay
  dsimp only
  exact (((modCh d n _).trans (hignored _ _ _ _)).trans (hunit _ _ _)).trans (hfire _ _ _ _)

theorem tallyCloseAll (cause : CloseCause) : Dev.SameHalts d (d.tallyCloseAll n cause) := by
  unfold Dev.tallyCloseAll
  exact foldl (fun d u => ite (refl d) (tallyDay d n u _ _)) _ d

theorem startParkRamp : Dev.SameHalts d (d.startParkRamp n) := by
  unfold Dev.startParkRamp Dev.gustStop
  exact ((foldl (fun d m => modCh d m _) _ d).trans (modCh _ n _)).trans (modCh _ n _)

/-- Entry to PARKING, where no system calibration runs. -/
theorem enterParking (h : d.sysActive = false) : Dev.SameHalts d (d.enterParking n) := by
  have hstep := ((undoApply d n).trans (stopBarker _ n)).trans (tallyCloseAll _ n .park)
  have hidle : (((d.undoApply n).stopBarker n).tallyCloseAll n .park).sysActive = false := by
    have hcal := (((Dev.Steady.undoApply d n).trans (Dev.Steady.stopBarker _ n)).trans (Dev.Steady.tallyCloseAll _ n .park)).cal
    unfold Dev.sysActive at h ⊢
    rw [hcal]
    exact h
  rw [d.enterParking_eq]
  unfold Dev.sysAbortOn
  rw [hidle]
  exact hstep.trans (startParkRamp _ n)

end
end Dev.SameHalts

/-- A park request of one channel that is not ARMING, in a calm module with no gang and no system calibration (R93, R95). -/
structure Dev.ParksOne (n : ChanId) (d t : Dev) : Prop where
  halts  : Dev.SameHalts d t
  armed  : (d.ch n).force.st = .armed → (t.ch n).force.st = .parking
  parked : (d.ch n).force.st = .parked → (t.ch n).force = (d.ch n).force
  others : ∀ m, m ≠ n → (t.ch m).force = (d.ch m).force
  tick   : t.tick = d.tick
  calm   : t.calm = true

section
variable (d : Dev) (n : ChanId) (hcalm : d.calm = true) (hsys : d.sysActive = false)
include hcalm hsys

theorem Dev.ParksOne.enterParking (h : (d.ch n).force.st ≠ .parked) : Dev.ParksOne n d (d.enterParking n) := by
  obtain ⟨hst, -, -, -, hothers⟩ := d.enterParking_spec n
  exact ⟨.enterParking d n hsys, fun _ => hst, fun hp => absurd hp h, hothers, Dev.tick_of_frame (d.enterParking_frame n),
    d.enterParking_calm n hsys hcalm⟩

theorem Dev.parkOne_parks (h : (d.ch n).force.st ≠ .arming) : Dev.ParksOne n d (d.parkOne n) := by
  have hstays : (d.ch n).force.st ≠ .armed → Dev.ParksOne n d d := fun ha =>
    ⟨.refl d, fun h => absurd h ha, fun _ => rfl, fun _ _ => rfl, rfl, hcalm⟩
  unfold Dev.parkOne
  dsimp only
  cases hst : (d.ch n).force.st with
  | armed => exact .enterParking d n hcalm hsys (by simp [hst])
  | safe =>
    dsimp only
    split
    · exact .enterParking d n hcalm hsys (by simp [hst])
    · exact hstays (by simp [hst])
  | arming => exact absurd hst h
  | parked => exact hstays (by simp [hst])
  | parking => exact hstays (by simp [hst])
end

end Sys2Proof.Machine
end

section
namespace Sys2Proof.Machine
open Sys2Proof

/-! ## DBG_HALT_REQ (R457) -/

theorem Dev.gangMask_alone (d : Dev) (n : ChanId) (h : ∀ m, d.role m = 0) :
    d.gangMask (BitVec.twoPow 64 n.val) = BitVec.twoPow 64 n.val := by
  refine BitVec.eq_of_getLsbD_eq fun i hi => ?_
  have hbit := bit_maskOf (fun m => (d.gangOf m).any fun k => bit (BitVec.twoPow 64 n.val) k.val) ⟨i, hi⟩
  unfold Dev.gangMask
  refine Eq.trans hbit ?_
  unfold Dev.gangOf
  rw [d.leaderOf_alone _ (h _), d.members_alone _ (h _)]
  simp [bit, eq_comm]

/-- A channel that parks for a halt, where it is not halted yet. -/
def Channel.haltAsked (c : Channel) : Channel := c.modEng fun e => { e with haltPend := !e.halted }

/-- The channel of a halt request, before it parks. -/
def Dev.haltNamed (d : Dev) (n : ChanId) : Dev :=
  { d.accept.inMask (BitVec.twoPow 64 n.val) fun d n => d.modCh n Channel.haltAsked with
    parkNow := (d.accept.inMask (BitVec.twoPow 64 n.val) fun d n => d.modCh n Channel.haltAsked).parkNow ||| BitVec.twoPow 64 n.val }

theorem Dev.haltNamed_ch (d : Dev) (n m : ChanId) : (d.haltNamed n).ch m = if m = n then (d.ch n).haltAsked else d.ch m := by
  have hch := (d.accept.inMask_modCh (BitVec.twoPow 64 n.val) Channel.haltAsked).2 m
  refine hch.trans ?_
  rw [Dev.ch_of_chans d.accept_chans, show bit (BitVec.twoPow 64 n.val) m.val = decide (m = n) by simp [bit, Fin.ext_iff, eq_comm]]
  by_cases hm : m = n <;> simp [hm]

/-- The rest of the module when a channel is asked to halt. -/
theorem Dev.haltNamed_rest (d : Dev) (n : ChanId) : (d.haltNamed n).flt = d.flt ∧ (d.haltNamed n).cal = d.cal ∧
    (d.haltNamed n).tick = d.tick ∧ (d.haltNamed n).armBack = d.armBack := by
  obtain ⟨⟨chans, heq⟩, -⟩ := d.accept.inMask_modCh (BitVec.twoPow 64 n.val) Channel.haltAsked
  unfold Dev.haltNamed
  rw [heq]
  exact ⟨d.accept_flt, d.accept_cal, d.accept_tick, d.accept_armBack⟩

theorem Dev.haltReq_alone (d : Dev) (n : ChanId) (hdebug : d.sec.debug = 2) (hrole : ∀ m, d.role m = 0) (hback : d.armBack = none) :
    d.haltReq (BitVec.twoPow 64 n.val) = ((d.haltNamed n).parkOne n).settleFaults := by
  have hnamed : ∀ m, (d.haltNamed n).role m = 0 := fun m => by
    refine Eq.trans ?_ (hrole m)
    unfold Dev.role Dev.creg
    rw [d.haltNamed_ch n m]
    by_cases hm : m = n
    · rw [if_pos hm, hm]
      rfl
    · rw [if_neg hm]
  have hwait : ∀ a, (d.haltNamed n).armBack = some a → a.tick ≠ (d.haltNamed n).tick := fun a ha => by
    rw [(d.haltNamed_rest n).2.2.2, hback] at ha
    cases ha
  unfold Dev.haltReq
  rw [if_neg (not_not_intro hdebug)]
  dsimp only
  rw [d.gangMask_alone n hrole]
  refine ((d.accept.inMask (BitVec.twoPow 64 n.val) fun d n => d.modCh n Channel.haltAsked).parkRequest_alone _ hwait).trans ?_
  exact congrArg Dev.settleFaults ((d.haltNamed n).parkMask_alone n hnamed)

/-- A halt request parks the channel it names, and it alone waits for its halt (R457). -/
theorem Dev.haltReq_parks (d : Dev) (n : ChanId) (hcalm : d.calm = true) (hdebug : d.sec.debug = 2) (hrole : ∀ m, d.role m = 0)
    (harm : (d.ch n).force.st ≠ .arming) (hsys : d.sysActive = false) (hback : d.armBack = none) :
    let t := d.haltReq (BitVec.twoPow 64 n.val)
    (t.ch n).eng.haltPend = !(d.ch n).eng.halted ∧ ((d.ch n).force.st = .armed → (t.ch n).force.st = .parking) ∧
      ((d.ch n).force.st = .parked → (t.ch n).force = (d.ch n).force) ∧
      (∀ m, m ≠ n → (t.ch m).force = (d.ch m).force ∧ (t.ch m).eng.haltPend = (d.ch m).eng.haltPend) ∧ t.tick = d.tick := by
  rw [d.haltReq_alone n hdebug hrole hback]
  obtain ⟨hflt, hcal, htick, -⟩ := d.haltNamed_rest n
  have hch := d.haltNamed_ch n
  have hforce : ∀ m, ((d.haltNamed n).ch m).force = (d.ch m).force := fun m => by
    rw [hch m]
    by_cases hm : m = n
    · rw [if_pos hm, hm]
      rfl
    · rw [if_neg hm]
  have hp := (d.haltNamed n).parkOne_parks n (Dev.calm_of_flt hflt htick hcalm) (by
    unfold Dev.sysActive at hsys ⊢
    rw [hcal]
    exact hsys) (by rw [hforce n]; exact harm)
  generalize (d.haltNamed n).parkOne n = u at hp
  have hu := u.settleFaults_ch hp.calm
  refine ⟨?_, fun ha => ?_, fun ha => ?_, fun m hm => ⟨?_, ?_⟩, u.settleFaults_tick.trans (hp.tick.trans htick)⟩
  · rw [hu n, hp.halts n, hch n, if_pos rfl]
    rfl
  · rw [hu n]
    exact hp.armed ((congrArg Force.st (hforce n)).trans ha)
  · rw [hu n, hp.parked ((congrArg Force.st (hforce n)).trans ha), hforce n]
  · rw [hu m, hp.others m hm, hforce m]
  · rw [hu m, hp.halts m, hch m, if_neg hm]

end Sys2Proof.Machine
end

section
namespace Sys2Proof.Machine
open Sys2Proof

/-! ## Debug requests (R454, R455) -/

/-- The module with the nonce of an earlier request dropped. -/
def Dev.noncePast (d : Dev) : Dev := d.modSec fun x => { x with dbgPend := 0 }

/-- A debug request that is not granted drops the nonce, and nothing else. -/
structure Dev.DebugDenied (d t : Dev) : Prop where
  abort : t.dict.abort = abState
  sec   : t.sec = { d.sec with dbgPend := 0 }
  chans : t.chans = d.chans
  mem   : t.mem = d.mem
  tick  : t.tick = d.tick

theorem Dev.noncePast_refuses (d : Dev) : Dev.DebugDenied d (d.noncePast.refuse Obj.DEBUG_REQ abState) :=
  ⟨congrArg Dict.abort (Dev.refuse_dict ..), Dev.refuse_sec .., Dev.refuse_chans .., Dev.refuse_mem .., Dev.refuse_tick ..⟩

/-- A debug request that is granted at once: the level, and what leaving the one before does (R454, R457). -/
structure Dev.DebugGranted (d t : Dev) (level : Nat) : Prop where
  debug : t.sec.debug = level
  pend  : t.sec.dbgPend = 0
  abort : t.dict.abort = 0
  chans : ∀ m, (t.ch m).force = (d.ch m).force ∧ (t.ch m).bk = (d.ch m).bk ∧
    (d.sec.debug = 2 → (t.ch m).eng.resume = (d.ch m).eng.halted ∧ (t.ch m).eng.haltPend = false)
  trust : t.sec.trust = d.sec.trust
  mem   : t.mem = d.mem
  tick  : t.tick = d.tick

theorem Dev.noncePast_grants (d : Dev) (level : Nat) : Dev.DebugGranted d (d.noncePast.accept.leaveD2 level) level := by
  have h := d.noncePast.accept.leaveD2_leaves level
  obtain ⟨hst, hsec, habort⟩ := d.noncePast.accept_stays
  have hch : ∀ m, d.noncePast.accept.ch m = d.ch m := Dev.ch_of_chans hst.chans
  refine ⟨h.debug, h.pend.trans (by rw [hsec]; rfl), (congrArg Dict.abort h.dict).trans habort, fun m => ⟨?_, ?_, fun h2 => ⟨?_, ?_⟩⟩,
    h.trust.trans (by rw [hsec]; rfl), h.mem.trans hst.mem, h.tick.trans hst.tick⟩
  · rw [h.force m, hch m]
  · rw [h.bk m, hch m]
  · rw [h.resume (by rw [hsec]; exact h2) m, hch m]
  · exact h.pending (by rw [hsec]; exact h2) m

/-- A request for D2 or D3 draws a nonce (R455). -/
structure Dev.DrawsNonce (d t : Dev) (level : Nat) : Prop where
  pend  : t.sec.dbgPend = level
  drawnAt : t.sec.dbgTick = d.tick
  draws : t.sec.draws = d.sec.draws + 1
  debug : t.sec.debug = d.sec.debug
  abort : t.dict.abort = 0
  trust : t.sec.trust = d.sec.trust
  chans : t.chans = d.chans
  mem   : t.mem = d.mem
  tick  : t.tick = d.tick

theorem Dev.noncePast_draws (d : Dev) (level : Nat) : Dev.DrawsNonce d (d.noncePast.drawNonce level) level := by
  obtain ⟨hst, hsec, habort⟩ := d.noncePast.accept_stays
  obtain ⟨hchans, htick, hsec', hdict, -⟩ := d.noncePast.accept.modSec_keeps fun x =>
    { x with dbgNonce := bytesN 32 (Config.random x.draws 32), draws := x.draws + 1, dbgPend := level, dbgTick := d.noncePast.tick }
  rw [hsec] at hsec'
  refine ⟨?_, ?_, ?_, ?_, (congrArg Dict.abort hdict).trans habort, ?_, hchans.trans hst.chans, hst.mem, htick.trans hst.tick⟩
  · exact (congrArg Sec.dbgPend hsec' :)
  · exact (congrArg Sec.dbgTick hsec' :)
  · exact (congrArg Sec.draws hsec' :)
  · exact (congrArg Sec.debug hsec' :)
  · exact (congrArg Sec.trust hsec' :)

section
variable (d : Dev)

theorem Dev.debugReq_blank (level : Nat) (h : d.sec.life = .blank) : d.debugReq level = d.noncePast.refuse Obj.DEBUG_REQ abState := if_pos h

variable (h : d.sec.life ≠ .blank)
include h

theorem Dev.debugReq_d0 : d.debugReq 0 = if d.sec.debug = 1 ∨ d.sec.debug = 2 then d.noncePast.accept.leaveD2 0 else
    d.noncePast.refuse Obj.DEBUG_REQ abState := if_neg h

theorem Dev.debugReq_d1 : d.debugReq 1 = if (d.sec.debug = 0 ∨ d.sec.debug = 2) ∧ natBit d.policy 2 = true then
    d.noncePast.accept.leaveD2 1 else d.noncePast.refuse Obj.DEBUG_REQ abState := if_neg h

theorem Dev.debugReq_d2 : d.debugReq 2 = if (d.d2Allowed && !d.sec.drbgFail) = true then d.noncePast.drawNonce 2 else
    d.noncePast.refuse Obj.DEBUG_REQ abState := if_neg h

theorem Dev.debugReq_d3 : d.debugReq 3 = if (d.d3Allowed && !d.sec.drbgFail) = true then d.noncePast.drawNonce 3 else
    d.noncePast.refuse Obj.DEBUG_REQ abState := if_neg h
end

/-! ## Resume and step (R457, R458) -/

/-- A write of a mask of channels, where D2 is granted: each named channel alone. -/
structure Dev.MaskActs (d t : Dev) (mask : Word64) (f : Channel → Channel) : Prop where
  abort : t.dict.abort = 0
  sec   : t.sec = d.sec
  mem   : t.mem = d.mem
  tick  : t.tick = d.tick
  chans : ∀ m : ChanId, t.ch m = if bit mask m.val = true then f (d.ch m) else d.ch m

theorem Dev.acceptMask_acts (d : Dev) (mask : Word64) (f : Channel → Channel) :
    Dev.MaskActs d (d.accept.inMask mask fun d n => d.modCh n f) mask f := by
  obtain ⟨⟨chans, heq⟩, hch⟩ := d.accept.inMask_modCh mask f
  obtain ⟨hst, hsec, habort⟩ := d.accept_stays
  refine ⟨?_, ?_, ?_, ?_, fun m => (hch m).trans (by rw [Dev.ch_of_chans hst.chans])⟩
  · rw [heq]
    exact habort
  · rw [heq]
    exact hsec
  · rw [heq]
    exact hst.mem
  · rw [heq]
    exact hst.tick

theorem Dev.resumeReq_d2 (d : Dev) (mask : Word64) (h : d.sec.debug = 2) : d.resumeReq mask =
    d.accept.inMask mask fun d n => d.modCh n fun c => c.modEng fun e => { e with resume := e.halted } := if_neg (not_not_intro h)

theorem Dev.stepReq_d2 (d : Dev) (mask : Word64) (h : d.sec.debug = 2)
    (hall : ∀ m : ChanId, bit mask m.val = true → (d.ch m).eng.halted = true) : d.stepReq mask =
    d.accept.inMask mask fun d n => d.modCh n fun c => c.modEng fun e => { e with step := e.halted } := by
  refine if_neg fun hbad => ?_
  rcases (Bool.or_eq_true _ _).mp hbad with hlevel | hsome
  · exact of_decide_eq_true hlevel h
  · obtain ⟨m, -, hm⟩ := List.any_eq_true.1 hsome
    have hb := Bool.and_eq_true_iff.1 hm
    rw [hall m hb.1] at hb
    exact absurd hb.2 (by decide)

theorem Dev.stepReq_refused (d : Dev) (mask : Word64) (n : ChanId) (hbit : bit mask n.val = true) (h : (d.ch n).eng.halted = false) :
    d.stepReq mask = d.refuse Obj.DBG_STEP abState := by
  refine if_pos ?_
  rw [Bool.or_eq_true]
  exact .inr (List.any_eq_true.2 ⟨n, List.mem_finRange _, by rw [hbit, h]; rfl⟩)

/-! ## The TAP (R460) -/

theorem idcode_fields : natBits idcode 27 12 = 0x6420 ∧ natBit idcode 0 = true ∧ idcode < 2 ^ 32 := by
  have hcode : Config.jedecCode % 2 ^ 11 < 2 ^ 11 := Nat.mod_lt _ (by decide)
  unfold natBits natBit idcode
  refine ⟨by omega, ?_, by omega⟩
  rw [beq_iff_eq]
  omega

end Sys2Proof.Machine
end

section
namespace Sys2Proof.Machine
open Sys2Proof

theorem exec_tapSamplePreload (s : State) : exec .tapSamplePreload s = .next (s.atCommit
    (if s.dev.bscanOffered = true then s.dev.observed.2.tapSelect 2 s.dev.observed.1 else s.dev.tapBypass)) := rfl

theorem exec_tapExtest (s : State) : exec .tapExtest s = .next (s.atCommit
    (if s.dev.bscanOffered = true then s.dev.observed.2.modSec fun x => { x with tapIr := 3, tapOut := s.dev.observed.1, bscan := 2 }
     else s.dev.tapBypass)) := rfl

end Sys2Proof.Machine

namespace Sys2Proof
open Machine

/-- Settles O57: requests by `Dev.noncePast_grants` and `Dev.noncePast_draws`, tokens by `Dev.tokenActs_d2` and `Dev.enterD3_erases`,
halts by `Dev.haltReq_parks`, and the access port by what each instruction selects. -/
theorem debugLevelsHaltsAndTap : Obligations.DebugLevelsHaltsAndTap := by
  intro s v' tok n mask k r v w hlive hcalm d x stays refused level draws next arrived left code erased no tap out halted
  have refuses : ∀ {op : Instr}, exec op s = .next (s.atCommit (s.dev.noncePast.refuse Obj.DEBUG_REQ abState)) → refused op := fun he =>
    have h := d.noncePast_refuses
    ⟨_, he, h.abort, h.sec, h.chans, h.mem, h.tick, (congrArg Sec.trust h.sec :), rfl⟩
  have grants : ∀ {op : Instr} {l : Nat}, exec op s = .next (s.atCommit (s.dev.noncePast.accept.leaveD2 l)) → level op l := fun he =>
    have h := d.noncePast_grants _
    ⟨_, he, h.debug, h.pend, h.abort, h.chans, h.mem, h.tick, h.trust, rfl⟩
  have drawn : ∀ {op : Instr} {l : Nat}, exec op s = .next (s.atCommit (s.dev.noncePast.drawNonce l)) → draws op l := fun he =>
    have h := d.noncePast_draws _
    ⟨_, he, h.pend, h.drawnAt, h.draws, h.debug, h.abort, h.chans, h.mem, h.tick, h.trust, rfl⟩
  have request : ∀ {op : Instr} {l : Nat} {u : Dev}, exec op s = liveAt s (fun d => d.debugReq l) → s.dev.debugReq l = u →
      exec op s = .next (s.atCommit u) := fun he hu => next_at hlive he hu
  have bars : ∀ {op : Instr} {c : Nat}, c ≠ 0 → exec op s = .next (s.atCommit ((s.dev.dropPassed v').secVerdict c 0x12)) →
      Gives op s fun t => t.dev.dict.abort = 0x08000021 ∧ t.dev.reg Obj.CONT_RESULT = c ∧ t.dev.sec = { x with passed := left } ∧
        t.dev.chans = d.chans ∧ stays t := fun hc he =>
    have h := d.dropPassed_bars v' _ 0x12 hc
    ⟨_, he, h.abort, h.tells.result, h.sec, h.chans, h.mem, h.tick, (congrArg Sec.trust h.sec :), rfl⟩
  have denied : ∀ {op : Instr} {obj : Nat}, exec op s = .next (s.atCommit (s.dev.refuse obj abState)) → no op := fun he =>
    ⟨_, he, congrArg Dict.abort (Dev.refuse_dict ..), Dev.refuse_sec .., Dev.refuse_chans .., Dev.refuse_mem .., Dev.refuse_tick ..,
      congrArg Sec.trust (Dev.refuse_sec ..), rfl⟩
  have outs : ∀ {op : Instr} {ir : Nat} {l : List Byte}, exec op s = .next (s.atCommit (s.dev.tapSelect ir (.bytes l))) → out op ir l :=
    fun he => ⟨_, he, rfl, rfl, rfl, rfl, rfl, rfl, rfl⟩
  have acts : ∀ {op : Instr} {f g : Channel → Channel}, exec op s = .next (s.atCommit (s.dev.accept.inMask mask fun d n => d.modCh n f)) →
      (∀ m : ChanId, bit mask m.val = true → f (d.ch m) = g (d.ch m)) → Gives op s fun t => t.dev.dict.abort = 0 ∧ t.dev.sec = x ∧ stays t ∧
        ∀ m, t.dev.ch m = if bit mask m.val then g (d.ch m) else d.ch m := fun {op f g} he hfg =>
    have h := d.acceptMask_acts mask f
    ⟨_, he, h.abort, h.sec, ⟨h.mem, h.tick, (congrArg Sec.trust h.sec :), rfl⟩, fun m => (h.chans m).trans (by
      split
      next hb => exact hfg m hb
      next => rfl)⟩
  refine ⟨?_, ?_, ?_, ?_, ?_, ?_, ?_, ?_, ?_, ?_, ?_, ?_, ?_, ?_, ?_, ?_, ?_, ?_, ?_, ?_, ?_, ?_⟩
  · intro hlife
    have h0 : exec .debugReqD0 s = _ := request rfl (d.debugReq_d0 hlife)
    have h1 : exec .debugReqD1 s = _ := request rfl (d.debugReq_d1 hlife)
    have h2 : exec .debugReqD2 s = _ := request rfl (d.debugReq_d2 hlife)
    have h3 : exec .debugReqD3 s = _ := request rfl (d.debugReq_d3 hlife)
    refine ⟨fun h => ?_, fun h => ?_, fun h hpol => ?_, fun hpol => ?_, fun h hd => ?_, fun h => ?_, fun h hd => ?_, fun h => ?_⟩
    · exact grants (h0.trans (by rw [if_pos h]))
    · have hd : ¬ (d.sec.debug = 1 ∨ d.sec.debug = 2) := by
        have h' : d.sec.debug = 0 ∨ d.sec.debug = 3 := h
        omega
      exact refuses (h0.trans (by rw [if_neg hd]))
    · exact grants (h1.trans (by rw [if_pos ⟨h, hpol⟩]))
    · exact refuses (h1.trans (by rw [if_neg fun hc => absurd hc.2 (by simp [hpol])]))
    · exact drawn (h2.trans (by rw [if_pos (Bool.and_eq_true_iff.2 ⟨h, by rw [show d.sec.drbgFail = false from hd]; rfl⟩)]))
    · exact refuses (h2.trans (by rw [if_neg (by simp [h])]))
    · exact drawn (h3.trans (by rw [if_pos (Bool.and_eq_true_iff.2 ⟨h, by rw [show d.sec.drbgFail = false from hd]; rfl⟩)]))
    · exact refuses (h3.trans (by rw [if_neg (by simp [h])]))
  · intro hlife
    exact ⟨refuses (request rfl (d.debugReq_blank 0 hlife)), refuses (request rfl (d.debugReq_blank 1 hlife)),
      refuses (request rfl (d.debugReq_blank 2 hlife)), refuses (request rfl (d.debugReq_blank 3 hlife))⟩
  · intro hpend hage
    exact ⟨_, next_at hlive (show execDebugNonceExpiry s = _ from rfl) (if_pos ⟨hpend, hage⟩), rfl, rfl, rfl, rfl, rfl, rfl⟩
  · intro hage
    exact ⟨_, next_at hlive (show execDebugNonceExpiry s = _ from rfl) (if_neg fun hc => absurd hc.2 (Nat.not_le.2 hage)), rfl⟩
  · exact d.tokenCode_d2 tok
  · exact d.tokenCode_nonce tok
  · rintro ⟨hnext, hread⟩ hcode
    exact bars hcode (exec_debugToken_refused hlive hnext hread hcode)
  · intro hnext hlen
    have hread : s.dev.readToken v' = none := if_neg (by simp [hlen])
    exact bars (by decide) (exec_debugToken_unread hlive hnext hread)
  · intro hnext
    exact ⟨_, exec_debugToken_none hlive hnext, rfl⟩
  · rintro ⟨hnext, hread⟩ hcode hlevel
    have hst := (d.dropPassed v').secVerdict_stays 0 0x12
    have htells := d.dropPassed_tells v' 0 0x12
    have hexec := exec_debugToken_accepted hlive hnext hread hcode
    have hg := ((d.dropPassed v').secVerdict 0 0x12).tokenActs_d2 tok hlevel
    exact ⟨_, hexec, hg.debug, hg.pend, (Dev.reg_of_regs hg.regs _).trans htells.result, hg.chans.trans hst.chans, hg.mem.trans hst.mem,
      hg.tick.trans hst.tick, hg.trust.trans (congrArg Sec.trust hst.sec :), rfl⟩
  · rintro ⟨hnext, hread⟩ hcode hlevel
    have hst := (d.dropPassed v').secVerdict_stays 0 0x12
    have hexec := exec_debugToken_accepted hlive hnext hread hcode
    have erases : ((d.dropPassed v').secVerdict 0 0x12).tokenActs tok = ((d.dropPassed v').secVerdict 0 0x12).enterD3 →
        Gives .debugToken s erased := by
      intro heq
      obtain ⟨hdebug, hpend, hcount, hlife, herased, hslots, harb, hsess, hledger, hdir, hprogs, hsets, hscr, hentries⟩ :=
        ((d.dropPassed v').secVerdict 0 0x12).enterD3_erases
      rw [hst.sec] at hcount hlife hslots harb
      rw [show ((s.dev.dropPassed v').secVerdict 0 0x12).tokenActs tok = _ from heq] at hexec
      exact ⟨_, hexec, hdebug, hpend, hcount, hlife, herased, hslots, harb, hsess, hledger, hdir, hprogs, hsets, hscr,
        hentries⟩
    refine ⟨fun hlife => ?_, fun hlife hpend => ?_, fun hlife hpend => ?_⟩
    · exact erases (Dev.tokenActs_d3 _ tok hlevel (.inl (by rw [hst.sec]; exact hlife)))
    · have heq := ((d.dropPassed v').secVerdict 0 0x12).tokenActs_held tok hlevel (by rw [hst.sec]; exact hlife) (by rw [hst.sec]; exact hpend)
      obtain ⟨hchans, htick, hsec, -, -⟩ := ((d.dropPassed v').secVerdict 0 0x12).modSec_keeps fun x =>
        { x with dbgPend := if tok.vendor then 0x23 else 0x13 }
      rw [hst.sec] at hsec
      rw [show ((s.dev.dropPassed v').secVerdict 0 0x12).tokenActs tok = _ from heq] at hexec
      exact ⟨_, hexec, hsec, hchans.trans hst.chans, hst.mem, htick.trans hst.tick, (congrArg Sec.trust hsec :), rfl⟩
    · exact erases (Dev.tokenActs_d3 _ tok hlevel (.inr (by rw [hst.sec]; exact hpend)))
  · intro hdebug hrole harm hsys hback
    exact ⟨_, next_at hlive (show execDbgHaltReq _ s = _ from rfl) rfl, d.haltReq_parks n hcalm hdebug hrole (harm n) hsys hback⟩
  · intro hdebug
    refine ⟨?_, fun hall => ?_, fun hbit hrun => ?_⟩
    · exact acts (g := fun c => c.modEng fun e => { e with resume := e.halted }) (next_at hlive (show exec (.dbgResume mask) s = liveAt s (·.resumeReq mask) from rfl) (d.resumeReq_d2 mask hdebug)) fun _ _ => rfl
    · refine acts (g := fun c => c.modEng fun e => { e with step := true }) (next_at hlive (show exec (.dbgStep mask) s = liveAt s (·.stepReq mask) from rfl) (d.stepReq_d2 mask hdebug hall)) fun m hm => ?_
      exact congrArg (fun b => (d.ch m).modEng fun e => { e with step := b }) (hall m hm)
    · exact denied (next_at hlive (show exec (.dbgStep mask) s = liveAt s (·.stepReq mask) from rfl) (d.stepReq_refused mask n hbit hrun))
  · intro hdebug
    exact ⟨denied (next_at hlive (show exec (.dbgHaltReq mask) s = liveAt s (·.haltReq mask) from rfl) (if_pos hdebug)),
      denied (next_at hlive (show exec (.dbgResume mask) s = liveAt s (·.resumeReq mask) from rfl) (if_pos hdebug)),
      denied (next_at hlive (show exec (.dbgStep mask) s = liveAt s (·.stepReq mask) from rfl) (if_pos (by simp [show s.dev.sec.debug ≠ 2 from hdebug])))⟩
  · exact outs rfl
  · exact outs rfl
  · exact outs rfl
  · exact idcode_fields
  · intro hoffer
    have hsample := exec_tapSamplePreload s
    have hextest := exec_tapExtest s
    rw [if_pos hoffer] at hsample hextest
    exact ⟨⟨_, hsample, rfl, rfl, rfl, rfl, rfl, rfl, rfl, rfl, rfl⟩, ⟨_, hextest, rfl, rfl, rfl, rfl, rfl, rfl, rfl, rfl, rfl⟩⟩
  · intro hoffer
    have hsample := exec_tapSamplePreload s
    have hextest := exec_tapExtest s
    have hbar : ¬ s.dev.bscanOffered = true := by simp [show s.dev.bscanOffered = false from hoffer]
    rw [if_neg hbar] at hsample hextest
    exact ⟨outs hsample, outs hextest⟩
  · intro hdebug hhalt
    have hopen : (s.dev.sec.debug == 2 && (s.dev.ch n).eng.halted) = true := Bool.and_eq_true_iff.2 ⟨beq_iff_eq.2 hdebug, hhalt⟩
    have opens : ∀ {acc : TapAccess} {u : Dev}, s.dev.tapPrivate acc = some u →
        exec (.tapPrivateInstruction acc) s = .next (s.atCommit u) := fun {acc u} h =>
      next_at hlive (show execTapPrivateInstruction acc s = _ from rfl) (by rw [h]; rfl)
    refine ⟨outs (opens (if_pos hopen)), outs (opens (if_pos hopen)), _, opens (if_pos hopen), ?_, fun m hm => ?_, ?_,
      rfl, rfl, rfl, rfl⟩
    · exact (congrArg Engine.regs (s.dev.engine_modEngine n k fun e => { e with regs := e.regs.set r v }) :)
    · exact s.dev.modCh_other n m hm fun c => c.modEngine k fun e => { e with regs := e.regs.set r v }
    · exact (congrArg Channel.force ((s.dev.ch_modCh n n fun c => c.modEngine k fun e => { e with regs := e.regs.set r v }).trans
        (if_pos rfl)) :)
  · intro hdebug
    have hshut : ¬ (s.dev.sec.debug == 2 && (s.dev.ch n).eng.halted) = true := by simp [show s.dev.sec.debug ≠ 2 from hdebug]
    have bypass : ∀ {acc : TapAccess}, s.dev.tapPrivate acc = none →
        exec (.tapPrivateInstruction acc) s = .next (s.atCommit s.dev.tapBypass) := fun {acc} h =>
      next_at hlive (show execTapPrivateInstruction acc s = _ from rfl) (by rw [h]; rfl)
    exact ⟨outs (bypass (if_neg hshut)), outs (bypass (if_neg hshut))⟩

end Sys2Proof
end

section
namespace Sys2Proof.Machine
open Sys2Proof

/-! R482, R495: what the handling of faults leaves of a self-test. -/

/-- No self-test begins or ends, no F3 latch is cleared, and the objects of the start-up chapter (0x2700 to 0x27FF) stay. -/
structure Dev.KeepsTests (d t : Dev) : Prop where
  under : ∀ k, (t.st k).underTest = (d.st k).underTest
  pass  : ∀ k, (t.st k).selfPass = (d.st k).selfPass
  f3    : ∀ k, (d.st k).f3 ≠ [] → (t.st k).f3 ≠ []
  regs  : ∀ k, 0x270000 ≤ k → k < 0x280000 → t.reg k = d.reg k

namespace Dev.KeepsTests

theorem refl (d : Dev) : Dev.KeepsTests d d := ⟨fun _ => rfl, fun _ => rfl, fun _ h => h, fun _ _ _ => rfl⟩

theorem trans {d t u : Dev} (h : Dev.KeepsTests d t) (h' : Dev.KeepsTests t u) : Dev.KeepsTests d u :=
  ⟨fun k => (h'.under k).trans (h.under k), fun k => (h'.pass k).trans (h.pass k), fun k hk => h'.f3 k (h.f3 k hk),
    fun k hlo hhi => (h'.regs k hlo hhi).trans (h.regs k hlo hhi)⟩

theorem ite {p : Prop} [Decidable p] {d t u : Dev} (ht : Dev.KeepsTests d t) (hu : Dev.KeepsTests d u) :
    Dev.KeepsTests d (if p then t else u) := by
  split
  · exact ht
  · exact hu

theorem foldl {α : Type} {f : Dev → α → Dev} (h : ∀ d x, Dev.KeepsTests d (f d x)) (l : List α) (d : Dev) :
    Dev.KeepsTests d (l.foldl f d) :=
  List.foldlRecOn l f (.refl d) fun _ hd x _ => hd.trans (h _ x)

theorem of_eq {d t : Dev} (hstalls : t.stalls = d.stalls) (hregs : t.regs = d.regs) : Dev.KeepsTests d t := by
  have hst : ∀ k, t.st k = d.st k := fun k => by unfold Dev.st; rw [hstalls]
  exact ⟨fun k => by rw [hst k], fun k => by rw [hst k], fun k h => by rw [hst k]; exact h, fun k _ _ => Dev.reg_of_regs hregs k⟩

theorem of_mild {d t : Dev} (h : Dev.Mild d t) : Dev.KeepsTests d t where
  under k := (congrArg Stall.underTest (h.stalls k) :)
  pass k := (congrArg Stall.selfPass (h.stalls k) :)
  f3 k hk := by
    have hstall : (t.st k).f3 = (d.st k).f3 := (congrArg Stall.f3 (h.stalls k) :)
    rw [hstall]
    exact hk
  regs k hlo _ := h.regs k (by omega) (.inr (by omega))

section
variable (d : Dev) (n : ChanId)

theorem modCh (f : Channel → Channel) : Dev.KeepsTests d (d.modCh n f) := of_eq rfl rfl

theorem modSt (k : StallId) (f : Stall → Stall) (hunder : ∀ x, (f x).underTest = x.underTest := by intro x; rfl)
    (hpass : ∀ x, (f x).selfPass = x.selfPass := by intro x; rfl) (hf3 : ∀ x, x.f3 ≠ [] → (f x).f3 ≠ [] := by intro x h; exact h) :
    Dev.KeepsTests d (d.modSt k f) := by
  refine ⟨fun j => ?_, fun j => ?_, fun j h => ?_, fun _ _ _ => rfl⟩ <;> rw [Dev.st_modSt] <;> split
  next hj => rw [hunder, hj]
  next => rfl
  next hj => rw [hpass, hj]
  next => rfl
  next hj => exact hf3 _ (hj ▸ h)
  next => exact h

theorem setReg (k v : Nat) (hk : k < 0x270000 ∨ 0x280000 ≤ k := by decide) : Dev.KeepsTests d (d.setReg k v) :=
  ⟨fun _ => rfl, fun _ => rfl, fun _ h => h, fun j hlo hhi => (Dev.reg_setReg_eq ..).trans (if_neg (by omega))⟩

theorem inc (w k : Nat) (hk : k < 0x270000 ∨ 0x280000 ≤ k := by decide) : Dev.KeepsTests d (d.inc w k) := setReg d k _ hk

theorem incBy (w k m : Nat) (hk : k < 0x270000 ∨ 0x280000 ≤ k) : Dev.KeepsTests d (d.incBy w k m) := ite (refl d) (setReg d k _ hk)

theorem withFlt (f : FaultMgr) : Dev.KeepsTests d { d with flt := f } := of_eq rfl rfl

theorem raiseCh (code cls detail : Nat) : Dev.KeepsTests d (d.raiseCh code cls n detail) := of_eq rfl rfl

theorem fireCommit (code : Nat) (inherited : List Nat) : Dev.KeepsTests d (d.fireCommit code inherited) :=
  of_mild (.fireCommit d code inherited)

/-! ### Windows, tallies and the barker -/

theorem setClamps (hi lo : Nat) : Dev.KeepsTests d (d.setClamps n hi lo) := by
  unfold Dev.setClamps
  exact modCh d n _

theorem clampsFor (hi lo : Nat) : Dev.KeepsTests d (d.clampsFor n hi lo) := by
  unfold Dev.clampsFor Dev.setClamps
  split
  · exact modCh d n _
  · exact refl d

theorem closeWindow : Dev.KeepsTests d (d.closeWindow n) := by
  unfold Dev.closeWindow Dev.entryClamps Dev.endWindow
  have hresume : ∀ d : Dev, Dev.KeepsTests d (d.wmResume n) := foldl (fun d _ => ite (refl d) (ite (modCh d n _) (modCh d n _))) _
  exact ((modCh d n _).trans (modCh _ n _)).trans ((clampsFor _ n _ _).trans ((hresume _).trans (fireCommit _ _ _)))

theorem gustStop (x : Tick × Nat) : Dev.KeepsTests d (d.gustStop n x) := by
  unfold Dev.gustStop
  exact (foldl (fun d m => modCh d m _) _ d).trans (modCh _ n _)

theorem restartSeq : Dev.KeepsTests d (d.restartSeq n) := by
  obtain ⟨mv, mi, h⟩ := d.onlyConvs_restartSeq n
  rw [h]
  exact modCh d n _

theorem wmUnqueue (m : Idx4) : Dev.KeepsTests d (d.wmUnqueue n m) := modSt d _ _

theorem openWindow (w : Nat) (fi : Bool) (target : Int) (host : Bool) : Dev.KeepsTests d (d.openWindow n w fi target host) := by
  have hclose : Dev.KeepsTests d (if (d.ch n).rc.active && reached d.tick (d.ch n).rc.closes then d.closeWindow n else d) :=
    ite (closeWindow d n) (refl d)
  unfold Dev.openWindow
  dsimp only
  generalize (if (d.ch n).rc.active && reached d.tick (d.ch n).rc.closes then d.closeWindow n else d) = u at hclose ⊢
  have hsusp : ∀ (q : Idx4 → Bool) (d : Dev), Dev.KeepsTests d ((List.finRange 4).foldl
      (fun d m => if q m then (d.wmUnqueue n m).modCh n (·.wmSuspend m) else d) d) :=
    fun q => foldl (fun d m => ite ((wmUnqueue d n m).trans (modCh _ n _)) (refl d)) _
  have hcount : ∀ (b : Prop) [Decidable b] (d : Dev) (v : Nat),
      Dev.KeepsTests d ((if b then d.setCreg n Obj.RC_LAST_TICK v else d).cinc n 32 Obj.RC_COUNT) := fun b _ d v =>
    (ite (modCh d n _) (refl d)).trans (modCh _ n _)
  exact hclose.trans ((modCh u n _).trans ((gustStop _ n _).trans ((restartSeq _ n).trans ((hcount _ _ _).trans
    ((hsusp _ _).trans (clampsFor _ n _ _))))))

theorem enterEntry (e : Nat) (fi : Bool) (target : Int) (host : Bool) : Dev.KeepsTests d (d.enterEntry n e fi target host) :=
  (modCh d n _).trans (ite (openWindow _ n _ _ _ _) (ite ((modCh _ n _).trans (clampsFor _ n _ _)) (clampsFor _ n _ _)))

theorem startValue : Dev.KeepsTests d (d.startValue n) := ite ((modCh d n _).trans (enterEntry _ n _ _ _ _)) (refl d)

theorem tallyDay (u : Idx16) (day : TallyDay) (ev : TallyEv) : Dev.KeepsTests d (d.tallyDay n u day ev) := by
  unfold Dev.tallyDay
  dsimp only
  have hcount : ∀ (k : Nat) (d : Dev), Dev.KeepsTests d ((List.range k).foldl (fun d _ => d.cinc n 32 Obj.TALLY_IGNORED) d) :=
    fun k => foldl (fun d _ => modCh d n _) _
  have hopen : ∀ d : Dev, Dev.KeepsTests d (d.tallyOpen n u) := fun d => by unfold Dev.tallyOpen; exact modCh d n _
  refine .trans ?_ (ite (fireCommit _ _ _) (refl _))
  refine .trans ?_ (ite (hopen _) (ite (modCh _ n _) (refl _)))
  exact (modCh d n _).trans (ite (modCh _ n _) (hcount _ _))

theorem tallyCloseAll (cause : CloseCause) : Dev.KeepsTests d (d.tallyCloseAll n cause) := by
  unfold Dev.tallyCloseAll
  exact foldl (fun d u => ite (refl d) (tallyDay d n u _ _)) _ d

theorem stopBarker : Dev.KeepsTests d (d.stopBarker n) := modCh d n _

theorem sysAbortOn (code : Nat) : Dev.KeepsTests d (d.sysAbortOn n code) := by
  unfold Dev.sysAbortOn Dev.sysAbort
  refine ite ?_ (refl d)
  dsimp only
  have hended : Dev.KeepsTests d ({ d with cal := { d.cal with sys := .aborted, zero := none } }.setReg Obj.SYSCAL_ABORT code) :=
    (of_eq rfl rfl : Dev.KeepsTests d { d with cal := { d.cal with sys := .aborted, zero := none } }).trans (setReg _ _ _)
  split
  next m _ => exact hended.trans ((raiseCh _ m 0x0A04 1 code).trans (startValue _ m))
  next => exact hended

/-! ### What a commit takes back -/

theorem takeBack (a : Applied) : Dev.KeepsTests d (d.takeBack n a) := by
  have hmon : ∀ (d : Dev) (m : Idx4), Dev.KeepsTests d (d.undoMonitor n a.wm[m] m) := fun d m => by
    have hold : Dev.KeepsTests d (d.modCh n fun c => (c.modWm m fun _ => a.wm[m]).wmRecode m) := modCh d n _
    unfold Dev.undoMonitor
    exact ite (refl d) (ite (hold.trans (modCh _ n _)) (ite hold (hold.trans (modSt _ _ _))))
  unfold Dev.takeBack
  refine .trans (t := { d with fab := { d.fab with steps := d.fab.steps.filter fun q => q.1 / 16 != n.val } }) (of_eq rfl rfl) ?_
  exact (modCh _ n _).trans (foldl hmon _ _)

theorem undoStores : Dev.KeepsTests d (d.undoStores n) := by
  unfold Dev.undoStores
  refine .trans (t := { d with mem := { d.mem with ended := d.mem.ended.filter fun x => x.te / 8 != n.val } }) (of_eq rfl rfl) ?_
  refine foldl (fun d x => ?_) _ _
  unfold Dev.rewind
  exact ite (of_eq rfl rfl) (of_eq rfl rfl)

theorem undoWindow : Dev.KeepsTests d (d.undoWindow n) := by
  unfold Dev.undoWindow
  split
  · exact (((undoStores d n).trans (modCh _ n _)).trans (takeBack _ n _)).trans (modCh _ n _)
  · exact refl d

/-! ### The handling of one fault -/

theorem startPolicy (rank : Nat) : Dev.KeepsTests d (d.startPolicy n rank) := by
  unfold Dev.startPolicy
  dsimp only
  split
  · exact (modCh d n _).trans (setClamps _ n _ _)
  · exact (modCh d n _).trans (modCh _ n _)
  · exact (modCh d n _).trans (modCh _ n _)

theorem safeEntry (rank : Nat) : Dev.KeepsTests d (d.safeEntry n rank) := by
  unfold Dev.safeEntry
  dsimp only
  have hstop := (((undoWindow d n).trans (stopBarker _ n)).trans (tallyCloseAll _ n .safe)).trans (sysAbortOn _ n 1)
  generalize (((d.undoWindow n).stopBarker n).tallyCloseAll n .safe).sysAbortOn n 1 = u at hstop ⊢
  refine hstop.trans (.trans ?_ (startPolicy _ n _))
  exact ((gustStop u n _).trans (modCh _ n _)).trans (withFlt _ _)

theorem parkArming : Dev.KeepsTests d (d.parkArming n) := by
  unfold Dev.parkArming
  dsimp only
  have hstop := (stopBarker d n).trans (tallyCloseAll _ n .park)
  generalize (d.stopBarker n).tallyCloseAll n .park = u at hstop ⊢
  exact hstop.trans (modCh u n _)

theorem abortArm (mask : Word64) (result : Nat) : Dev.KeepsTests d (d.abortArm mask result) :=
  (setReg d _ _).trans (foldl (fun d n => ite (ite (parkArming d n) (refl d)) (refl d)) _ _)

theorem faultOn (rank : Nat) : Dev.KeepsTests d (d.faultOn n rank).1 := by
  unfold Dev.faultOn
  dsimp only
  split
  · dsimp only
    exact safeEntry d n rank
  · split
    · dsimp only
      exact (modCh d n _).trans (startPolicy _ n rank)
    · dsimp only
      exact modCh d n _
  · dsimp only
    have hstop := ((modCh d n (·.modForce fun f => { f with latch := true })).trans (stopBarker _ n)).trans (tallyCloseAll _ n .safe)
    generalize ((d.modCh n (·.modForce fun f => { f with latch := true })).stopBarker n).tallyCloseAll n .safe = u at hstop ⊢
    exact .trans (hstop.trans (modCh u n _)) (abortArm (u.modCh n _) (d.ch n).force.armMask 0x0C)
  · dsimp only
    exact modCh d n _
  · dsimp only
    exact modCh d n _

theorem logFault (f : FaultRec) (act : Act) (nested switched : Bool) : Dev.KeepsTests d (d.logFault f act nested switched) :=
  of_mild (.logFault d f act nested switched)

theorem setLatch (f : FaultRec) : Dev.KeepsTests d (d.setLatch f) := by
  unfold Dev.setLatch
  split
  · exact foldl (fun d s => ite (modSt d s _ (hf3 := fun x _ => List.append_ne_nil_of_right_ne_nil _ (List.cons_ne_nil _ _))) (refl d)) _ d
  · exact of_eq rfl rfl
  · exact refl d

theorem scopeFaults (rank : Nat) (l : List ChanId) (a : Act) (b : Bool) : Dev.KeepsTests d (l.foldl (fun (a : Dev × Act × Bool) n =>
    ((a.1.faultOn n rank).1, if a.2.1.rank < (a.1.faultOn n rank).2.1.rank then (a.1.faultOn n rank).2.1 else a.2.1,
      a.2.2 || (a.1.faultOn n rank).2.2)) (d, a, b)).1 :=
  List.foldlRecOn (motive := fun a : Dev × Act × Bool => Dev.KeepsTests d a.1) l _ (.refl d) fun _ hd m _ => hd.trans (faultOn _ m rank)

theorem handleOne (f : FaultRec) : Dev.KeepsTests d (d.handleOne f) := by
  unfold Dev.handleOne
  refine ite (logFault d f _ _ _) ?_
  exact ((scopeFaults d _ _ _ _).trans (setLatch _ f)).trans (logFault _ f _ _ _)

theorem beginF5 (f : FaultRec) : Dev.KeepsTests d (d.beginF5 f) := by
  unfold Dev.beginF5
  exact .trans (t := { d with flt := { d.flt with f5log := d.flt.f5log ++ [f] } }) (of_eq rfl rfl)
    (foldl (fun d s => ite (modSt d s _) (refl d)) _ _)

/-! ### The manager -/

theorem handle (cls : Nat) (fs : List FaultRec) : Dev.KeepsTests d (d.handle cls fs) := by
  unfold Dev.handle
  dsimp only
  exact ite ((withFlt d _).trans (foldl beginF5 fs _)) ((withFlt d _).trans (foldl handleOne fs _))

theorem escalate (cause : Nat) : Dev.KeepsTests d (d.escalate cause) := by
  unfold Dev.escalate
  exact ite (refl d) (ite ((inc d _ _).trans (handle _ _ _)) ((inc d _ _).trans (withFlt _ _)))

theorem enqueue (f : FaultRec) : Dev.KeepsTests d (d.enqueue f) := by
  unfold Dev.enqueue
  exact ite (withFlt d _) (ite ((withFlt d _).trans (inc _ _ _)) (escalate d _))

theorem presentClass (c : Nat) (hc : c < 6) (fs : List FaultRec) : Dev.KeepsTests d (d.presentClass c fs) := by
  have hcount : Dev.KeepsTests d (if fs.isEmpty then d else d.incBy 32 (Obj.FAULT_CNT_F0 c) fs.length) :=
    ite (refl d) (incBy d 32 _ _ (.inl (by unfold Obj.FAULT_CNT_F0; omega)))
  unfold Dev.presentClass
  dsimp only
  generalize (if fs.isEmpty then d else d.incBy 32 (Obj.FAULT_CNT_F0 c) fs.length) = u at hcount ⊢
  exact hcount.trans (ite (foldl enqueue fs u) (ite (refl u) ((withFlt u _).trans (handle _ c _))))

end
end Dev.KeepsTests
end Sys2Proof.Machine
end

section
namespace Sys2Proof.Machine
open Sys2Proof

/-! R482, R490, R495: the F3 fault of a self-test that fails is presented at its commit. -/

namespace Dev.KeepsTests
variable (d : Dev)

theorem presentDue : Dev.KeepsTests d d.presentDue := by
  unfold Dev.presentDue
  dsimp only
  refine (withFlt d _).trans (List.foldlRecOn (motive := fun t => Dev.KeepsTests _ t) [5, 4, 3, 2, 1, 0] _ (.refl _) fun t ht c hc => ?_)
  refine ht.trans (presentClass t c ?_ _)
  simp only [List.mem_cons, List.not_mem_nil, or_false] at hc
  omega

theorem settleFaults : Dev.KeepsTests d d.settleFaults := by
  have hpresent : Dev.KeepsTests d d.present := (presentDue d).trans (presentDue _)
  unfold Dev.settleFaults
  generalize d.present = t at hpresent ⊢
  exact (hpresent.trans (of_mild (.withFltN t _))).trans (of_mild (.mkoLands _))

end Dev.KeepsTests

/-- A change of some stalls alone, as one of every stall. -/
theorem Dev.eachSt_ite (d : Dev) (p : StallId → Prop) [DecidablePred p] (f : StallId → Stall → Stall) :
    (d.eachSt fun d s => if p s then d.modSt s (f s) else d) = d.eachSt fun d s => d.modSt s fun x => if p s then f s x else x := by
  unfold Dev.eachSt
  congr
  funext d s
  split
  next => rfl
  next =>
    unfold Dev.modSt Dev.setSt Dev.st
    simp only [Fin.getElem_fin, Vector.set_getElem_self]

section
variable (d : Dev) (f : FaultRec) (k : StallId)

/-- The latch of an F3 fault is set on its stall (Table 18-1). -/
theorem Dev.setLatch_f3 (hcls : f.cls = 3) (hunit : f.unit = k.val) : ((d.setLatch f).st k).f3 ≠ [] := by
  unfold Dev.setLatch
  simp only [hcls, hunit]
  rw [Dev.eachSt_ite d (fun s => s.val = k.val), Dev.eachSt_st, if_pos rfl]
  exact List.append_ne_nil_of_right_ne_nil _ (List.cons_ne_nil _ _)

theorem Dev.handleOne_f3 (hcls : f.cls = 3) (hunit : f.unit = k.val) : ((d.handleOne f).st k).f3 ≠ [] := by
  rw [Dev.handleOne, if_neg (by omega)]
  exact (Dev.KeepsTests.logFault _ f _ _ _).f3 k (Dev.setLatch_f3 _ f k hcls hunit)

/-- A free manager handles an F3 fault at the commit that presents it (R495). -/
theorem Dev.presentClass_f3 (hcls : f.cls = 3) (hunit : f.unit = k.val) (hq : d.flt.queue = []) (hactive : d.flt.active = []) :
    ((d.presentClass 3 [f]).st k).f3 ≠ [] := by
  have hflt := d.incBy_flt 32 (Obj.FAULT_CNT_F0 3) [f].length
  unfold Dev.presentClass
  rw [show [f].isEmpty = false from rfl]
  generalize d.incBy 32 (Obj.FAULT_CNT_F0 3) [f].length = v at hflt
  have hfree : v.managerFree 3 = true := by unfold Dev.managerFree; rw [hflt, hactive]; rfl
  have hnone : v.queuedFor 3 = [] := by unfold Dev.queuedFor; rw [hflt, hq]; rfl
  simp only [Bool.false_eq_true, if_false, hfree, hnone, Bool.not_true]
  exact Dev.handleOne_f3 _ f k hcls hunit

/-- The one F3 fault that is due has its latch when the commit has presented its faults. -/
theorem Dev.presentDue_f3 (hcalm : d.calm = true) (hactive : d.flt.active = []) (hcls : f.cls = 3) (hunit : f.unit = k.val) :
    ((d.withDue f).presentDue.st k).f3 ≠ [] := by
  obtain ⟨hdue, hq, he⟩ := d.calm_iff.1 hcalm
  have hself : reached d.tick d.tick = true := by simp [reached]
  have hnow : ((d.withDue f).flt.due.filter fun x => reached (d.withDue f).tick x.1) = [(d.tick, f)] := by
    unfold Dev.withDue
    rw [List.filter_append, List.filter_eq_nil_iff.2 fun x hx => by simp [hdue x hx]]
    simp [hself]
  have hlater : ((d.withDue f).flt.due.filter fun x => !reached (d.withDue f).tick x.1) = d.flt.due := by
    unfold Dev.withDue
    rw [List.filter_append, List.filter_eq_self.2 fun x hx => by simp [hdue x hx]]
    simp [hself]
  unfold Dev.presentDue
  rw [hnow, hlater]
  have hback : ({ d.withDue f with flt := { (d.withDue f).flt with due := d.flt.due } } : Dev) = d := rfl
  rw [hback]
  have hlow : ∀ t : Dev, Dev.KeepsTests t (((t.presentClass 2 []).presentClass 1 []).presentClass 0 []) := fun t =>
    ((Dev.KeepsTests.presentClass t 2 (by decide) []).trans (.presentClass _ 1 (by decide) [])).trans (.presentClass _ 0 (by decide) [])
  simp only [List.foldl_cons, List.foldl_nil, List.map_cons, List.map_nil, List.filter_cons, List.filter_nil, hcls, Nat.reduceBEq,
    Bool.false_eq_true, if_false, if_true, d.presentClass_nil _ hq he]
  exact (hlow _).f3 k (d.presentClass_f3 f k hcls hunit hq hactive)

theorem Dev.settleFaults_f3 (hcalm : d.calm = true) (hactive : d.flt.active = []) (hcls : f.cls = 3) (hunit : f.unit = k.val) :
    ((d.withDue f).settleFaults.st k).f3 ≠ [] := by
  have hpresent : ((d.withDue f).present.st k).f3 ≠ [] :=
    (Dev.KeepsTests.presentDue _).f3 k (d.presentDue_f3 f k hcalm hactive hcls hunit)
  unfold Dev.settleFaults
  generalize (d.withDue f).present = t at hpresent ⊢
  exact hpresent

/-! ## The end of a self-test -/

/-- The result of a self-test is shown (R482). -/
def Dev.testShown (bad : Bool) (v : Nat) : Dev :=
  let d := d.modSt k fun x => { x with underTest := false, selfPass := !bad }
  let d := (d.setReg (Obj.SELFTEST_RESULT k.val) v).setReg Obj.SELFTEST_TICK d.tick.toNat
  let w := d.reg Obj.SELFTEST_FAIL
  d.setReg Obj.SELFTEST_FAIL (if bad then w ||| 2 ^ k.val else w - (if natBit w k.val then 2 ^ k.val else 0))

variable (bad : Bool) (v : Nat)

theorem Dev.testShown_st : ((d.testShown k bad v).st k).underTest = false ∧ ((d.testShown k bad v).st k).selfPass = !bad := by
  have hst : (d.modSt k fun x => { x with underTest := false, selfPass := !bad }).st k =
      { d.st k with underTest := false, selfPass := !bad } := (d.st_modSt k k _).trans (if_pos rfl)
  exact ⟨(congrArg Stall.underTest hst :), (congrArg Stall.selfPass hst :)⟩

theorem Dev.testShown_regs : (d.testShown k bad v).reg (Obj.SELFTEST_RESULT k.val) = v ∧
    (d.testShown k bad v).reg Obj.SELFTEST_TICK = d.tick.toNat ∧
    (bad = true → natBit ((d.testShown k bad v).reg Obj.SELFTEST_FAIL) k.val = true) := by
  have hk := k.isLt
  unfold Dev.testShown
  dsimp only
  refine ⟨?_, ?_, ?_⟩
  · rw [Dev.reg_setReg_eq, if_neg (by unfold Obj.SELFTEST_RESULT Obj.SELFTEST_FAIL; omega), Dev.reg_setReg_eq,
      if_neg (by unfold Obj.SELFTEST_RESULT Obj.SELFTEST_TICK; omega), Dev.reg_setReg_eq, if_pos rfl]
  · rw [Dev.reg_setReg_eq, if_neg (by decide), Dev.reg_setReg_eq, if_pos rfl]
    rfl
  · intro hbad
    rw [Dev.reg_setReg_eq, if_pos rfl, if_pos hbad]
    generalize Dev.reg _ Obj.SELFTEST_FAIL = w
    have hbit : (w ||| 2 ^ k.val).testBit k.val = true := by simp
    rw [Nat.testBit_eq_decide_div_mod_eq] at hbit
    simpa [natBit] using hbit

end
end Sys2Proof.Machine
end

section
namespace Sys2Proof.Machine
open Sys2Proof

/-! ## QUIET (R465) -/

/-- The power state of a commit follows what stands at it (Table 17-1). -/
theorem Dev.powerCommit_eq (d : Dev) : d.powerCommit = { d with power := { d.power with state := d.powerNow } } := rfl

/-- QUIET is requested, and the analog circuits are off. -/
structure Dev.GoesQuiet (d t : Dev) : Prop where
  request : t.reg Obj.QUIET_REQ = 1
  analog  : t.reg Obj.ANALOG_STATE = 0
  up      : t.power.analogUp = false
  state   : t.power.state = .quiet
  abort   : t.dict.abort = 0
  force   : ∀ n, (t.ch n).force = (d.ch n).force
  tick    : t.tick = d.tick
  flt     : t.flt = d.flt
  mem     : t.mem = d.mem
  trust   : t.sec.trust = d.sec.trust

/-- Every monitor off. -/
def Dev.allMonitorsOff (d : Dev) : Dev :=
  d.eachCh fun d n => (List.finRange 4).foldl (fun d m => (d.wmUnqueue n m).modCh n (·.wmOff m)) d

theorem Dev.Local.allMonitorsOff (d : Dev) : Dev.Local d d.allMonitorsOff := by
  unfold Dev.allMonitorsOff Dev.eachCh
  exact .foldl (fun d n => .foldl (fun d m => (Dev.Local.modSt d _ _).trans (.modCh _ n _)) _ d) _ d

theorem Dev.analogOff_eq (d : Dev) :
    d.analogOff = (d.allMonitorsOff.setReg Obj.ANALOG_STATE 0).modPower fun p => { p with analogUp := false } := by
  rw [Dev.analogOff, Dev.allMonitorsOff]

theorem Dev.allMonitorsOff_forces (d : Dev) : d.allMonitorsOff.forces = d.forces := by
  unfold Dev.allMonitorsOff
  refine Dev.eachCh_forces d _ fun d n => ?_
  apply foldl_forces
  simp

theorem Dev.GoesQuiet.of_off {d u : Dev} (hlocal : Dev.Local d u) (hforces : u.forces = d.forces) (hreq : d.reg Obj.QUIET_REQ = 1)
    (habort : d.dict.abort = 0) :
    Dev.GoesQuiet d ((u.setReg Obj.ANALOG_STATE 0).modPower fun p => { p with analogUp := false }).powerCommit := by
  have hoff : (u.setReg Obj.ANALOG_STATE 0).reg Obj.QUIET_REQ = 1 :=
    ((Dev.reg_setReg_eq ..).trans (if_neg (by decide))).trans ((Dev.reg_of_regs hlocal.regs _).trans hreq)
  have hstate : ((u.setReg Obj.ANALOG_STATE 0).modPower fun p => { p with analogUp := false }).powerNow = .quiet :=
    if_pos (Bool.or_eq_true_iff.2 (.inl (decide_eq_true hoff)))
  rw [Dev.powerCommit_eq, hstate]
  unfold Dev.Local at hlocal
  exact ⟨hoff, (Dev.reg_setReg_eq u ..).trans (if_pos rfl), rfl, rfl, (congrArg (fun x : Dev => x.dict.abort) hlocal).trans habort,
    fun n => Dev.force_of_forces hforces n, (congrArg Dev.tick hlocal :), (congrArg Dev.flt hlocal :), (congrArg Dev.mem hlocal :),
    (congrArg (fun x : Dev => x.sec.trust) hlocal :)⟩

theorem Dev.analogOff_goes (d : Dev) (hreq : d.reg Obj.QUIET_REQ = 1) (habort : d.dict.abort = 0) :
    Dev.GoesQuiet d d.analogOff.powerCommit := by
  rw [d.analogOff_eq]
  exact .of_off (.allMonitorsOff d) d.allMonitorsOff_forces hreq habort

theorem Dev.quietEntered_goes (d : Dev) : Dev.GoesQuiet d ((d.accept.setReg Obj.QUIET_REQ 1).analogOff).powerCommit := by
  have h := (d.accept.setReg Obj.QUIET_REQ 1).analogOff_goes ((Dev.reg_setReg_eq ..).trans (if_pos rfl)) d.accept_abort
  exact ⟨h.request, h.analog, h.up, h.state, h.abort, fun n => (h.force n).trans (congrArg Channel.force (d.accept_ch n)),
    h.tick.trans d.accept_tick, h.flt.trans d.accept_flt, h.mem.trans d.accept_mem, h.trust.trans (congrArg Sec.trust d.accept_sec)⟩

theorem Dev.GoesQuiet.settles {d t : Dev} (h : Dev.GoesQuiet d t) (hcalm : d.calm = true) : Dev.GoesQuiet d t.settleFaults := by
  have hc : t.calm = true := Dev.calm_of_flt h.flt h.tick hcalm
  refine ⟨?_, ?_, ?_, ?_, ?_, fun n => ?_, ?_, ?_, ?_, ?_⟩
  · exact (t.settleFaults_reg hc _).trans h.request
  · exact (t.settleFaults_reg hc _).trans h.analog
  · exact (congrArg (fun x : Dev => x.power.analogUp) (t.settleFaults_calm hc)).trans h.up
  · exact (t.settleFaults_powerState hc).trans h.state
  · exact (congrArg Dict.abort (t.settleFaults_dict hc)).trans h.abort
  · exact (congrArg Channel.force (t.settleFaults_ch hc n)).trans (h.force n)
  · exact t.settleFaults_tick.trans h.tick
  · exact (t.settleFaults_flt hc).trans h.flt
  · exact (t.settleFaults_mem hc).trans h.mem
  · exact (congrArg Sec.trust (t.settleFaults_sec hc)).trans h.trust

theorem Dev.writeQuiet_accepted (d : Dev) (hparked : d.allParked = true) (htest : d.stalls.toList.any (·.underTest) = false)
    (hsys : d.sysActive = false) : d.writeQuiet 1 = ((d.accept.setReg Obj.QUIET_REQ 1).analogOff).powerCommit := by
  rw [Dev.writeQuiet, if_pos rfl, if_neg (by simp [hparked, htest, hsys])]

theorem Dev.writeQuiet_refused (d : Dev)
    (h : d.allParked = false ∨ d.stalls.toList.any (·.underTest) = true ∨ d.sysActive = true) :
    d.writeQuiet 1 = d.refuse Obj.QUIET_REQ abState := by
  rw [Dev.writeQuiet, if_pos rfl, if_pos (by rcases h with h | h | h <;> simp only [h, Bool.not_false, Bool.true_or, Bool.or_true])]

theorem Dev.refuse_reg (d : Dev) (o a : Nat) {k : Nat} (hk : k ≠ Obj.VLOG_LOST) : (d.refuse o a).reg k = d.reg k :=
  (Dev.violate_reg _ _ _ _ _ hk).trans rfl

theorem Dev.writeQuiet_over (d : Dev) (h : d.power.state = .quiet) : d.writeQuiet 0 = d.accept.setReg Obj.QUIET_REQ 0 := by
  rw [Dev.writeQuiet, if_neg (by decide)]
  exact if_pos ((congrArg Power.state d.accept_power).trans h)

theorem Dev.writeQuiet_idle (d : Dev) (h : d.power.state ≠ .quiet) : d.writeQuiet 0 = d.accept := by
  rw [Dev.writeQuiet, if_neg (by decide)]
  exact if_neg (fun e => h ((congrArg Power.state d.accept_power).symm.trans e))

/-- With every channel PARKED the module is PARKED once its analog side is up (Table 17-1). -/
theorem Dev.powerNow_parked (d : Dev) (hreq : d.reg Obj.QUIET_REQ ≠ 1) (hup : d.power.analogUp = true) (hparked : d.allParked = true) :
    d.powerNow = .parked := by
  have hall : ∀ c ∈ d.chans.toList, c.force.st = .parked := fun c hc => eq_of_beq (List.all_eq_true.1 hparked c hc)
  have hch : ∀ n : ChanId, (d.ch n).isSafe = false := fun n => by
    unfold Channel.isSafe
    rw [hall (d.ch n) (by unfold Dev.ch; exact Vector.mem_toList_iff.2 (Vector.getElem_mem _))]
    rfl
  have hsafe : d.safeMask = 0 := by
    unfold Dev.safeMask
    rw [show (fun n => (d.ch n).isSafe) = fun _ => false from funext hch]
    decide
  have hnone : (d.chans.toList.any fun c => c.force.st == .arming || c.force.st == .armed || c.force.st == .parking) = false := by
    rw [List.any_eq_false]
    intro c hc
    rw [hall c hc]
    decide
  unfold Dev.powerNow
  rw [if_neg (by simp [hreq, hup]), if_neg (by simp [hsafe]), if_neg (by simp [hnone])]

/-- The analog side is up again (R465). -/
def Dev.analogBack (d : Dev) : Dev := ((d.setReg Obj.ANALOG_STATE 0xFF).modPower fun p => { p with analogUp := true }).powerCommit

theorem Dev.analogBack_power (d : Dev) (hreq : d.reg Obj.QUIET_REQ = 0) (hparked : d.allParked = true) :
    d.analogBack.power = { d.power with analogUp := true, state := .parked } := by
  have hnow : ((d.setReg Obj.ANALOG_STATE 0xFF).modPower fun p => { p with analogUp := true }).powerNow = .parked := by
    refine Dev.powerNow_parked _ ?_ rfl hparked
    have h : (d.setReg Obj.ANALOG_STATE 0xFF).reg Obj.QUIET_REQ = 0 := ((Dev.reg_setReg_eq ..).trans (if_neg (by decide))).trans hreq
    exact fun e => absurd (h.symm.trans e) (by decide)
  unfold Dev.analogBack
  rw [Dev.powerCommit_eq, hnow]
  rfl

/-! ## Reboot (R480) -/

theorem Dev.reboot_refused (d : Dev) (h : d.sec.debug = 3 ∨ (d.power.state ≠ .parked ∧ d.power.state ≠ .quiet) ∨ d.loadBusy = true ∨
      d.load.claims ≠ [] ∨ 0 < d.pcie.load.waiting ∨ d.dict.retains ≠ [] ∨ d.sysActive = true) :
    d.reboot 0x746F6F62 = d.refuse Obj.REBOOT_CMD abState := by
  rw [Dev.reboot, if_neg (by decide), if_pos]
  simp only [Bool.or_eq_true, decide_eq_true_eq, Bool.not_eq_true', Bool.or_eq_false_iff, beq_eq_false_iff_ne, List.isEmpty_eq_false_iff]
  rcases h with h | h | h | h | h | h | h <;> simp [h]

/-- The module that a reboot restarts. -/
structure Dev.Reboots (d t : Dev) : Prop where
  state    : t.power.state = .boot
  phase    : t.power.phase = 1
  released : t.power.released = false
  marker   : t.power.marker = 3
  strap    : t.power.strap = d.power.strap
  up       : t.power.analogUp = (d.power.state != .quiet && d.power.analogUp)
  cause    : t.reg Obj.BOOT_CAUSE = 1
  link     : t.reg Obj.EC_LINK = d.reg Obj.EC_LINK
  bus      : t.reg Obj.BUS_STATE = d.reg Obj.BUS_STATE
  esm      : t.ec.esm = .init
  locks    : t.fab.locks = d.fab.locks
  trust    : t.sec.trust = d.sec.trust
  sess     : t.sec.sess = .closed
  debug    : t.sec.debug = 0
  entries  : t.fifo.entries = []
  records  : t.dict.records = d.dict.records

theorem Dev.reboot_reboots (d : Dev) (hstate : d.power.state = .parked ∨ d.power.state = .quiet) (hdebug : d.sec.debug ≠ 3)
    (hbusy : d.loadBusy = false) (hclaims : d.load.claims = []) (hwaits : d.pcie.load.waiting = 0) (hretains : d.dict.retains = [])
    (hsys : d.sysActive = false) : Dev.Reboots d (d.reboot 0x746F6F62) := by
  rw [Dev.reboot, if_neg (by decide), if_neg (by rcases hstate with h | h <;> simp [h, hdebug, hbusy, hclaims, hwaits, hretains, hsys])]
  refine ⟨rfl, rfl, rfl, rfl, rfl, rfl, ?_, ?_, ?_, rfl, rfl, rfl, rfl, rfl, rfl, rfl⟩
  · exact (Dev.reg_setReg_eq _ Obj.ANALOG_STATE Obj.BOOT_CAUSE _).trans ((if_neg (by decide)).trans ((Dev.reg_setReg_eq ..).trans (if_pos rfl)))
  · refine (Dev.reg_setReg_eq _ Obj.ANALOG_STATE Obj.EC_LINK _).trans ((if_neg (by decide)).trans ((Dev.reg_setReg_eq ..).trans ((if_neg (by decide)).trans ?_)))
    generalize d.cold = c
    simp only [List.foldl_cons, List.foldl_nil, Dev.reg_setReg_eq]
    rfl
  · refine (Dev.reg_setReg_eq _ Obj.ANALOG_STATE Obj.BUS_STATE _).trans ((if_neg (by decide)).trans ((Dev.reg_setReg_eq ..).trans ((if_neg (by decide)).trans ?_)))
    generalize d.cold = c
    simp only [List.foldl_cons, List.foldl_nil, Dev.reg_setReg_eq]
    rfl
end Sys2Proof.Machine
end

section
namespace Sys2Proof.Machine
open Sys2Proof

/-! ## Image updates (R478) -/

/-- The version object of a slot. -/
def slotVer (slot : Fin 2) : Nat := if slot.val = 0 then Obj.SLOT_A_VER else Obj.SLOT_B_VER

theorem slotVer_cases (slot : Fin 2) : slotVer slot = Obj.SLOT_A_VER ∨ slotVer slot = Obj.SLOT_B_VER := by
  unfold slotVer
  split
  · exact .inl rfl
  · exact .inr rfl

theorem slotVer_ne (slot : Fin 2) {k : Nat} (ha : k ≠ Obj.SLOT_A_VER) (hb : k ≠ Obj.SLOT_B_VER) : slotVer slot ≠ k := by
  rcases slotVer_cases slot with h | h <;> rw [h]
  · exact ha.symm
  · exact hb.symm

/-- What the end of an image update keeps: the channels, the memories, the trust core and the counter. -/
structure Dev.ImageStays (d t : Dev) : Prop where
  chans : t.chans = d.chans
  mem   : t.mem = d.mem
  sec   : t.sec = d.sec
  tick  : t.tick = d.tick

theorem Dev.ImageStays.trans {d t u : Dev} (h : Dev.ImageStays d t) (h' : Dev.ImageStays t u) : Dev.ImageStays d u :=
  ⟨h'.chans.trans h.chans, h'.mem.trans h.mem, h'.sec.trans h.sec, h'.tick.trans h.tick⟩

section
variable (d : Dev) (slot : Fin 2)

/-- The note of a slot writes objects alone. -/
theorem Dev.noteSlot_eq (r : Except Nat Nat) : ∃ regs, d.noteSlot slot r = { d with regs := regs } := by
  cases r <;> exact ⟨_, rfl⟩

theorem Dev.noteSlot_stays (r : Except Nat Nat) : Dev.ImageStays d (d.noteSlot slot r) ∧
    (d.noteSlot slot r).power = d.power ∧ (d.noteSlot slot r).flt = d.flt ∧ (d.noteSlot slot r).dict = d.dict := by
  obtain ⟨regs, heq⟩ := d.noteSlot_eq slot r
  rw [heq]
  exact ⟨⟨rfl, rfl, rfl, rfl⟩, rfl, rfl, rfl⟩

theorem Dev.noteSlot_refused (c : Nat) : (d.noteSlot slot (.error c)).reg (slotVer slot) = 0 ∧
    (d.noteSlot slot (.error c)).reg Obj.IMAGE_FAIL = c * 256 + slot.val :=
  ⟨(Dev.reg_setReg_eq ..).trans ((if_neg (slotVer_ne slot (by decide) (by decide))).trans ((Dev.reg_setReg_eq ..).trans (if_pos rfl))),
    (Dev.reg_setReg_eq ..).trans (if_pos rfl)⟩

theorem Dev.noteSlot_reg (r : Except Nat Nat) {k : Nat} (ha : k ≠ Obj.SLOT_A_VER) (hb : k ≠ Obj.SLOT_B_VER) (hf : k ≠ Obj.IMAGE_FAIL) :
    (d.noteSlot slot r).reg k = d.reg k := by
  have hver : ∀ v, (d.setReg (slotVer slot) v).reg k = d.reg k := fun v =>
    (Dev.reg_setReg_eq ..).trans (if_neg (slotVer_ne slot ha hb).symm)
  cases r with
  | ok v => exact hver v
  | error c => exact ((Dev.reg_setReg_eq ..).trans (if_neg hf)).trans (hver 0)

/-- A directory that names the slot whose image passes (R478). -/
theorem Dev.noteSlot_activates (f : Flash) (n lenA lenB : Nat) : let t := (d.noteSlot slot (.ok n)).activate f slot lenA lenB
    t.power = { d.power with flash := some (flashActivate f slot lenA lenB), dirActive := slot.val } ∧
      t.reg Obj.NEXT_SLOT = slot.val ∧ t.reg (slotVer slot) = n :=
  ⟨rfl, (Dev.reg_setReg_eq (d.setReg (slotVer slot) n) Obj.NEXT_SLOT Obj.NEXT_SLOT slot.val).trans (if_pos rfl),
    (Dev.reg_setReg_eq (d.setReg (slotVer slot) n) Obj.NEXT_SLOT (slotVer slot) slot.val).trans
      ((if_neg (slotVer_ne slot (by decide) (by decide))).trans ((Dev.reg_setReg_eq ..).trans (if_pos rfl)))⟩
end

section
variable (d : Dev) (bulk : Bool) (code : Nat)

theorem Dev.loadAnswer_imageStays (done : Nat) : Dev.ImageStays d (d.loadAnswer bulk code done) ∧
    (d.loadAnswer bulk code done).power = d.power ∧ (d.loadAnswer bulk code done).flt = d.flt := by
  obtain ⟨regs, pcie, load, heq, -⟩ := d.loadAnswer_eq bulk code done
  rw [heq]
  exact ⟨⟨rfl, rfl, rfl, rfl⟩, rfl, rfl⟩

theorem Dev.loadRefuse_imageStays : Dev.ImageStays d (d.loadRefuse bulk code) ∧ (d.loadRefuse bulk code).power = d.power ∧
    (d.loadRefuse bulk code).flt.violSeq = d.flt.violSeq + 1 := by
  obtain ⟨h, hpower, hflt⟩ := d.loadAnswer_imageStays bulk code 0
  unfold Dev.loadRefuse Dev.loadViolates
  exact ⟨⟨(Dev.violate_chans ..).trans h.chans, (Dev.violate_mem ..).trans h.mem, (Dev.violate_sec ..).trans h.sec,
    (Dev.violate_tick ..).trans h.tick⟩, (Dev.violate_power ..).trans hpower, (Dev.violate_violSeq ..).trans (by rw [hflt])⟩

theorem Dev.refuse_imageStays (o a : Nat) : Dev.ImageStays d (d.refuse o a) :=
  ⟨Dev.refuse_chans .., Dev.refuse_mem .., Dev.refuse_sec .., Dev.refuse_tick ..⟩
end

/-- An image that was received goes into the slot that the directory does not name, or is refused. -/
def Dev.imageUpdated (d : Dev) (v : Verdict) (bulk readBack : Bool) : Dev :=
  match d.imageOf v.box with
  | .error c => (d.noteSlot d.otherSlot (.error c)).loadRefuse bulk 8
  | .ok b =>
    if !d.sectionsOk b || !readBack then d.loadRefuse bulk 8
    else
      let f := d.flashNow
      let len := fun (k : Fin 2) => if k = d.otherSlot then v.box.length else (flashBox f k).length
      let f := if d.otherSlot.val = 0 then { f with slotA := v.box } else { f with slotB := v.box }
      ((d.noteSlot d.otherSlot (.ok b.version)).activate f d.otherSlot (len 0) (len 1)).loadAnswer bulk 0 d.tick.toNat

/-- The module once the update of a container is over. -/
def Dev.updateOver (d : Dev) (v : Verdict) : Dev := (d.dropPassed v).setReg Obj.UPDATE_STATE 0

theorem exec_imageUpdate {s : State} {v : Verdict} {bulk : Bool} (hlive : s.live) (h : s.dev.firstPassed 5 bulk = some v) (readBack : Bool) :
    exec (.imageUpdate bulk readBack) s = .next (s.atCommit ((s.dev.updateOver v).imageUpdated v bulk readBack)) :=
  next_at hlive (show execImageUpdate bulk readBack s = _ from rfl) (by rw [Dev.takePassed_eq, h]; rfl)

section
variable (d : Dev) (v : Verdict) (bulk readBack : Bool) {b : ImageBody} {c : Nat}

theorem Dev.imageUpdated_error (h : d.imageOf v.box = .error c) :
    d.imageUpdated v bulk readBack = (d.noteSlot d.otherSlot (.error c)).loadRefuse bulk 8 := by
  unfold Dev.imageUpdated
  rw [h]

theorem Dev.imageUpdated_bad (h : d.imageOf v.box = .ok b) (hbad : d.sectionsOk b = false ∨ readBack = false) :
    d.imageUpdated v bulk readBack = d.loadRefuse bulk 8 := by
  unfold Dev.imageUpdated
  rw [h]
  exact if_pos (by rcases hbad with hb | hb <;> simp [hb])

/-- The flash with a container in a slot. -/
def flashPut (f : Flash) (slot : Fin 2) (box : List Byte) : Flash :=
  if slot.val = 0 then { f with slotA := box } else { f with slotB := box }

theorem Dev.imageUpdated_ok (h : d.imageOf v.box = .ok b) (hok : d.sectionsOk b = true) : d.imageUpdated v bulk true =
    ((d.noteSlot d.otherSlot (.ok b.version)).activate (flashPut d.flashNow d.otherSlot v.box) d.otherSlot
      (if d.otherSlot.val = 0 then v.box.length else (flashBox d.flashNow 0).length)
      (if d.otherSlot.val = 0 then (flashBox d.flashNow 1).length else v.box.length)).loadAnswer bulk 0 d.tick.toNat := by
  have h0 : ((0 : Fin 2) = d.otherSlot) = (d.otherSlot.val = 0) := by simp [Fin.ext_iff, eq_comm]
  have h1 : (if (1 : Fin 2) = d.otherSlot then v.box.length else (flashBox d.flashNow 1).length) =
      if d.otherSlot.val = 0 then (flashBox d.flashNow 1).length else v.box.length := by
    rcases (by omega : d.otherSlot = 0 ∨ d.otherSlot = 1) with hs | hs <;> rw [hs] <;> rfl
  unfold Dev.imageUpdated
  rw [h]
  dsimp only
  rw [if_neg (by simp [hok]), h1]
  simp only [h0]
  rfl

theorem Dev.imageUpdated_stays : Dev.ImageStays d (d.imageUpdated v bulk readBack) ∧
    (d.imageUpdated v bulk readBack).reg Obj.UPDATE_STATE = d.reg Obj.UPDATE_STATE := by
  have hrefuse : ∀ t : Dev, Dev.ImageStays d t → t.reg Obj.UPDATE_STATE = d.reg Obj.UPDATE_STATE →
      Dev.ImageStays d (t.loadRefuse bulk 8) ∧ (t.loadRefuse bulk 8).reg Obj.UPDATE_STATE = d.reg Obj.UPDATE_STATE := fun t ht hreg =>
    ⟨ht.trans (t.loadRefuse_imageStays bulk 8).1, (t.loadRefuse_reg bulk 8 (by decide) (by decide) (by decide)).trans hreg⟩
  have hnote : ∀ r, Dev.ImageStays d (d.noteSlot d.otherSlot r) ∧
      (d.noteSlot d.otherSlot r).reg Obj.UPDATE_STATE = d.reg Obj.UPDATE_STATE := fun r =>
    ⟨(d.noteSlot_stays _ r).1, d.noteSlot_reg _ r (by decide) (by decide) (by decide)⟩
  cases h : d.imageOf v.box with
  | error c =>
    rw [d.imageUpdated_error v bulk readBack h]
    exact hrefuse _ (hnote _).1 (hnote _).2
  | ok b =>
    by_cases hgood : d.sectionsOk b = true ∧ readBack = true
    · obtain ⟨hok, rfl⟩ := hgood
      rw [d.imageUpdated_ok v bulk h hok]
      obtain ⟨hstays, hreg⟩ := hnote (.ok b.version)
      generalize d.noteSlot d.otherSlot (.ok b.version) = t at hstays hreg ⊢
      generalize (if d.otherSlot.val = 0 then v.box.length else (flashBox d.flashNow 0).length) = lenA
      generalize (if d.otherSlot.val = 0 then (flashBox d.flashNow 1).length else v.box.length) = lenB
      have hact : Dev.ImageStays d (t.activate (flashPut d.flashNow d.otherSlot v.box) d.otherSlot lenA lenB) := hstays.trans ⟨rfl, rfl, rfl, rfl⟩
      refine ⟨hact.trans (Dev.loadAnswer_imageStays _ bulk 0 _).1, (Dev.loadAnswer_reg _ bulk 0 _ (by decide) (by decide)).trans ?_⟩
      exact ((Dev.reg_setReg_eq t Obj.NEXT_SLOT Obj.UPDATE_STATE d.otherSlot.val).trans (if_neg (by decide))).trans hreg
    · rw [d.imageUpdated_bad v bulk readBack h (by
        rcases Bool.eq_false_or_eq_true (d.sectionsOk b) with hb | hb
        · exact .inr (Bool.eq_false_iff.2 fun hr => hgood ⟨hb, hr⟩)
        · exact .inl hb)]
      exact hrefuse d ⟨rfl, rfl, rfl, rfl⟩ rfl
end

/-! ## IMAGE_CMD (R478) -/

section
variable (d : Dev) {b : ImageBody} {c : Nat}

theorem Dev.imageCmd_error (h : d.imageOf (flashBox d.flashNow d.otherSlot) = .error c) :
    d.imageCmd 1 = (d.noteSlot d.otherSlot (.error c)).refuse Obj.IMAGE_CMD abState := by
  unfold Dev.imageCmd
  dsimp only
  rw [if_neg (by decide), h]

theorem Dev.imageCmd_bad (h : d.imageOf (flashBox d.flashNow d.otherSlot) = .ok b) (hbad : d.sectionsOk b = false) :
    d.imageCmd 1 = d.refuse Obj.IMAGE_CMD abState := by
  unfold Dev.imageCmd
  dsimp only
  rw [if_neg (by decide), h]
  exact if_pos (by simp [hbad])

theorem Dev.imageCmd_ok (h : d.imageOf (flashBox d.flashNow d.otherSlot) = .ok b) (hok : d.sectionsOk b = true) :
    d.imageCmd 1 = (d.accept.noteSlot d.otherSlot (.ok b.version)).activate d.flashNow d.otherSlot
      (flashBox d.flashNow 0).length (flashBox d.flashNow 1).length := by
  unfold Dev.imageCmd
  dsimp only
  rw [if_neg (by decide), h]
  exact if_neg (by simp [hok])

theorem Dev.accept_imageStays : Dev.ImageStays d d.accept := ⟨d.accept_chans, d.accept_mem, d.accept_sec, d.accept_tick⟩

theorem Dev.imageCmd_stays : Dev.ImageStays d (d.imageCmd 1) := by
  cases h : d.imageOf (flashBox d.flashNow d.otherSlot) with
  | error c =>
    rw [d.imageCmd_error h]
    exact (d.noteSlot_stays _ _).1.trans (Dev.refuse_imageStays ..)
  | ok b =>
    cases hok : d.sectionsOk b with
    | false =>
      rw [d.imageCmd_bad h hok]
      exact Dev.refuse_imageStays ..
    | true =>
      rw [d.imageCmd_ok h hok]
      have hstays := d.accept_imageStays.trans (d.accept.noteSlot_stays d.otherSlot (.ok b.version)).1
      generalize d.accept.noteSlot d.otherSlot (.ok b.version) = t at hstays ⊢
      exact hstays.trans ⟨rfl, rfl, rfl, rfl⟩
end
end Sys2Proof.Machine
end

section
namespace Sys2Proof.Machine
open Sys2Proof

/-! ## Self-tests as commands (R482) -/

section
variable {s : State} {k : StallId} {result : BitVec 32} (hlive : s.live) (h : (s.dev.st k).underTest = true)
include hlive h

theorem exec_selftestDone_pass (hz : natBits result.toNat 25 16 = 0) : exec (.selftestDone k result) s =
    .next (s.atCommit (s.dev.testShown k false result.toNat).readyFlags.settleFaults) := by
  have hbad : (natBits result.toNat 25 16 != 0) = false := by simp [hz]
  refine next_at hlive (show execSelftestDone k result s = _ from rfl) ?_
  rw [if_neg (by simp [h]), hbad]
  rfl

theorem exec_selftestDone_fail (hz : natBits result.toNat 25 16 ≠ 0) : exec (.selftestDone k result) s =
    .next (s.atCommit ((s.dev.testShown k true result.toNat).readyFlags.withDue
      ⟨0x0B06, 3, .stall, k.val, result.toNat, s.dev.tick, 0⟩).settleFaults) := by
  have hbad : (natBits result.toNat 25 16 != 0) = true := by simp [hz]
  refine next_at hlive (show execSelftestDone k result s = _ from rfl) ?_
  rw [if_neg (by simp [h]), hbad]
  rfl
end

section
variable (d : Dev) (k : StallId) (bad : Bool) (v mask : Nat)

/-- The shown result and READY_FLAGS. -/
theorem Dev.testReady_eq : ∃ w, (d.testShown k bad v).readyFlags = (d.testShown k bad v).setReg Obj.READY_FLAGS w := ⟨_, rfl⟩

/-- The result of a self-test as the commit shows it. -/
structure Dev.ShowsTest (d : Dev) (k : StallId) (bad : Bool) (v : Nat) (t : Dev) : Prop where
  ended  : (t.st k).underTest = false
  pass   : (t.st k).selfPass = !bad
  result : t.reg (Obj.SELFTEST_RESULT k.val) = v
  tick   : t.reg Obj.SELFTEST_TICK = d.tick.toNat
  failed : bad = true → natBit (t.reg Obj.SELFTEST_FAIL) k.val = true

theorem Dev.testReady_shows : Dev.ShowsTest d k bad v (d.testShown k bad v).readyFlags := by
  obtain ⟨w, heq⟩ := d.testReady_eq k bad v
  obtain ⟨hover, hpass⟩ := d.testShown_st k bad v
  obtain ⟨hresult, htick, hfailed⟩ := d.testShown_regs k bad v
  have hreg : ∀ j, j ≠ Obj.READY_FLAGS → (d.testShown k bad v).readyFlags.reg j = (d.testShown k bad v).reg j := fun j hj => by
    rw [heq, Dev.reg_setReg_eq, if_neg hj]
  refine ⟨hover, hpass, ?_, ?_, fun hb => ?_⟩
  · rw [hreg _ (by unfold Obj.SELFTEST_RESULT Obj.READY_FLAGS; omega), hresult]
  · rw [hreg _ (by decide), htick]
  · rw [hreg _ (by decide)]
    exact hfailed hb

/-- What the handling of faults leaves of a shown result. -/
theorem Dev.ShowsTest.kept {d t u : Dev} {k : StallId} {bad : Bool} {v : Nat} (h : Dev.ShowsTest d k bad v t) (hk : Dev.KeepsTests t u) :
    Dev.ShowsTest d k bad v u := by
  have hlt := k.isLt
  refine ⟨(hk.under k).trans h.ended, (hk.pass k).trans h.pass, ?_, ?_, fun hb => ?_⟩
  · rw [hk.regs _ (by unfold Obj.SELFTEST_RESULT; omega) (by unfold Obj.SELFTEST_RESULT; omega), h.result]
  · rw [hk.regs _ (by decide) (by decide), h.tick]
  · rw [hk.regs _ (by decide) (by decide)]
    exact h.failed hb

theorem Dev.testReady_calm (hcalm : d.calm = true) : (d.testShown k bad v).readyFlags.calm = true := hcalm

/-! ### SELFTEST_CMD -/

theorem Dev.selfTest_begins (hstate : d.power.state ≠ .quiet) (htest : d.stalls.toList.any (·.underTest) = false)
    (hparked : (List.finRange 8).all (fun x => !natBit mask x.val || d.stallParked x) = true) : d.selfTest mask = d.accept.beginTest mask := by
  have hnone : ((List.finRange 8).any fun x => natBit mask x.val && !d.stallParked x) = false := by
    rw [List.any_eq_false]
    intro x hx
    have := List.all_eq_true.1 hparked x hx
    revert this
    cases natBit mask x.val <;> cases d.stallParked x <;> decide
  exact if_neg (by simp [hstate, htest, hnone])

theorem Dev.selfTest_refused (h : d.power.state = .quiet ∨ d.stalls.toList.any (·.underTest) = true) :
    d.selfTest mask = d.refuse Obj.SELFTEST_CMD abState :=
  if_pos (by rcases h with h | h <;> simp only [h, beq_self_eq_true, Bool.true_or, Bool.or_true])

/-- The stalls of the mask are under test. -/
def Dev.underTests (d : Dev) (mask : Nat) : Dev :=
  d.eachSt fun d s => d.modSt s fun x => if natBit mask s.val then { x with underTest := true } else x

theorem Dev.beginTest_eq : d.beginTest mask = (d.underTests mask).modPower fun p => { p with selfTick := d.tick } := by
  unfold Dev.beginTest Dev.underTests
  rw [Dev.eachSt_ite d (fun s => natBit mask s.val = true) fun _ x => { x with underTest := true }]

theorem Dev.underTests_st (x : StallId) (h : d.stalls.toList.any (·.underTest) = false) :
    ((d.underTests mask).st x).underTest = natBit mask x.val := by
  have hx : (d.st x).underTest = false := by
    have hmem : d.st x ∈ d.stalls.toList := Vector.mem_toList_iff.2 (Vector.getElem_mem _)
    simpa using List.any_eq_false.1 h _ hmem
  unfold Dev.underTests
  rw [Dev.eachSt_st]
  split
  next hb => exact hb.symm
  next hb => rw [hx, Bool.eq_false_iff.2 hb]
end
end Sys2Proof.Machine
end

section
namespace Sys2Proof.Machine
open Sys2Proof

theorem Dev.refuse_calm (d : Dev) (o a : Nat) (h : d.calm = true) : (d.refuse o a).calm = true := by
  obtain ⟨hdue, hqueue, hescal⟩ := d.calm_iff.1 h
  refine (Dev.calm_iff _).2 ⟨?_, ?_, ?_⟩
  · rw [Dev.refuse_due, Dev.refuse_tick]
    exact hdue
  · exact (congrArg FaultMgr.queue (d.refuse_faults o a) :).trans hqueue
  · exact (congrArg FaultMgr.escal (d.refuse_faults o a) :).trans hescal

/-- The stalls of a mask begin their self-test (R482). -/
structure Dev.BeginsTest (d : Dev) (mask : Nat) (t : Dev) : Prop where
  under : ∀ x, (t.st x).underTest = natBit mask x.val
  tick  : t.power.selfTick = d.tick
  abort : t.dict.abort = 0
  chans : t.chans = d.chans
  regs  : ∀ a, a ≠ Obj.LAST_WRITE_TICK → t.reg a = d.reg a
  mem   : t.mem = d.mem
  trust : t.sec.trust = d.sec.trust

theorem Dev.testBegun_begins (d : Dev) (mask : Nat) (h : d.stalls.toList.any (·.underTest) = false) :
    Dev.BeginsTest d mask (d.accept.beginTest mask) := by
  have hst := fun x => d.accept.underTests_st mask x (by rw [d.accept_stalls]; exact h)
  have hlocal : Dev.Local d.accept (d.accept.underTests mask) := .eachSt d.accept _
  have hchans : (d.accept.underTests mask).chans = d.accept.chans := Dev.eachSt_chans d.accept _
  rw [Dev.beginTest_eq]
  generalize d.accept.underTests mask = u at hst hlocal hchans ⊢
  exact ⟨hst, d.accept_tick, (congrArg (fun x : Dev => x.dict.abort) hlocal :).trans d.accept_abort, hchans.trans d.accept_chans,
    fun a ha => (Dev.reg_of_regs hlocal.regs a).trans (d.accept_reg a ha), (congrArg Dev.mem hlocal :).trans d.accept_mem,
    (congrArg (fun x : Dev => x.sec.trust) hlocal :).trans (congrArg Sec.trust d.accept_sec)⟩

/-- A refused QUIET_REQ keeps the module as it is (R465). -/
theorem Dev.quietRefused_stays (d : Dev) (hcalm : d.calm = true) : let t := (d.refuse Obj.QUIET_REQ abState).settleFaults
    t.dict.abort = 0x08000022 ∧ t.reg Obj.QUIET_REQ = d.reg Obj.QUIET_REQ ∧ t.power.analogUp = d.power.analogUp ∧ t.chans = d.chans ∧
      t.mem = d.mem ∧ t.sec.trust = d.sec.trust := by
  have hc := d.refuse_calm Obj.QUIET_REQ abState hcalm
  refine ⟨?_, ?_, ?_, ?_, ?_, ?_⟩
  · rw [Dev.settleFaults_dict _ hc, Dev.refuse_dict]
    rfl
  · rw [Dev.settleFaults_reg _ hc, d.refuse_reg _ _ (by decide)]
  · have hpower : (d.refuse Obj.QUIET_REQ abState).settleFaults.power.analogUp = (d.refuse Obj.QUIET_REQ abState).power.analogUp :=
      (congrArg (fun x : Dev => x.power.analogUp) (Dev.settleFaults_calm _ hc) :)
    rw [hpower, Dev.refuse_power]
  · rw [Dev.settleFaults_chans _ hc, Dev.refuse_chans]
  · rw [Dev.settleFaults_mem _ hc, Dev.refuse_mem]
  · rw [Dev.settleFaults_sec _ hc, Dev.refuse_sec]

/-- The F3 fault of a self-test that fails is latched at the commit that shows its result. -/
theorem Dev.testFailed_latches (d : Dev) (k : StallId) (v : Nat) (f : FaultRec) (hcalm : d.calm = true) (hactive : d.flt.active = [])
    (hcls : f.cls = 3) (hunit : f.unit = k.val) : let t := ((d.testShown k true v).readyFlags.withDue f).settleFaults
    Dev.ShowsTest d k true v t ∧ (t.st k).f3 ≠ [] ∧ t.tick = d.tick := by
  have hshows := d.testReady_shows k true v
  have hc := d.testReady_calm k true v hcalm
  have htick : (d.testShown k true v).readyFlags.tick = d.tick := rfl
  have hact : (d.testShown k true v).readyFlags.flt.active = [] := hactive
  generalize (d.testShown k true v).readyFlags = u at hshows hc htick hact ⊢
  have hdue : Dev.KeepsTests u (u.withDue f) := .withFlt u _
  exact ⟨hshows.kept (hdue.trans (.settleFaults _)), u.settleFaults_f3 f k hc hact hcls hunit, (Dev.settleFaults_tick _).trans htick⟩

/-! ## What an image update shows -/

section
variable (d : Dev) (v : Verdict) (bulk readBack : Bool) {b : ImageBody} {c : Nat}

theorem Dev.imageUpdated_moves (h : d.imageOf v.box = .ok b) (hok : d.sectionsOk b = true) : let t := d.imageUpdated v bulk true
    t.power = { d.power with flash := some (flashActivate (flashPut d.flashNow d.otherSlot v.box) d.otherSlot
        (if d.otherSlot.val = 0 then v.box.length else (flashBox d.flashNow 0).length)
        (if d.otherSlot.val = 0 then (flashBox d.flashNow 1).length else v.box.length)), dirActive := d.otherSlot.val } ∧
      t.reg Obj.NEXT_SLOT = d.otherSlot.val ∧ t.reg (slotVer d.otherSlot) = b.version ∧ t.flt.violSeq = d.flt.violSeq := by
  intro t
  have heq : t = _ := d.imageUpdated_ok v bulk h hok
  generalize (if d.otherSlot.val = 0 then v.box.length else (flashBox d.flashNow 0).length) = lenA at heq ⊢
  generalize (if d.otherSlot.val = 0 then (flashBox d.flashNow 1).length else v.box.length) = lenB at heq ⊢
  have hact := d.noteSlot_activates d.otherSlot (flashPut d.flashNow d.otherSlot v.box) b.version lenA lenB
  have hflt : ((d.noteSlot d.otherSlot (.ok b.version)).activate (flashPut d.flashNow d.otherSlot v.box) d.otherSlot lenA lenB).flt = d.flt := rfl
  clear_value t
  rw [heq]
  generalize (d.noteSlot d.otherSlot (.ok b.version)).activate (flashPut d.flashNow d.otherSlot v.box) d.otherSlot lenA lenB = u at hact hflt ⊢
  obtain ⟨hpower, hnext, hver⟩ := hact
  obtain ⟨-, hpower', hflt'⟩ := u.loadAnswer_imageStays bulk 0 d.tick.toNat
  refine ⟨hpower'.trans hpower, (u.loadAnswer_reg bulk 0 _ (by decide) (by decide)).trans hnext,
    (u.loadAnswer_reg bulk 0 _ (slotVer_ne _ (by decide) (by decide)) (slotVer_ne _ (by decide) (by decide))).trans hver, ?_⟩
  rw [hflt', hflt]

theorem Dev.imageUpdated_refuses (h : d.imageOf v.box = .ok b) (hbad : d.sectionsOk b = false ∨ readBack = false) :
    (d.imageUpdated v bulk readBack).power = d.power ∧ (d.imageUpdated v bulk readBack).flt.violSeq = d.flt.violSeq + 1 := by
  rw [d.imageUpdated_bad v bulk readBack h hbad]
  exact (d.loadRefuse_imageStays bulk 8).2

theorem Dev.imageUpdated_notes (h : d.imageOf v.box = .error c) : let t := d.imageUpdated v bulk readBack
    (t.power = d.power ∧ t.reg (slotVer d.otherSlot) = 0 ∧ t.reg Obj.IMAGE_FAIL = c * 256 + d.otherSlot.val) ∧
      t.flt.violSeq = d.flt.violSeq + 1 := by
  intro t
  have heq : t = _ := d.imageUpdated_error v bulk readBack h
  obtain ⟨hver, hfail⟩ := d.noteSlot_refused d.otherSlot c
  obtain ⟨-, hpower, hflt, -⟩ := d.noteSlot_stays d.otherSlot (.error c)
  clear_value t
  rw [heq]
  generalize d.noteSlot d.otherSlot (.error c) = u at hver hfail hpower hflt ⊢
  obtain ⟨-, hpower', hviol⟩ := u.loadRefuse_imageStays bulk 8
  refine ⟨⟨hpower'.trans hpower, ?_, ?_⟩, hviol.trans (by rw [hflt])⟩
  · exact (u.loadRefuse_reg bulk 8 (slotVer_ne _ (by decide) (by decide)) (slotVer_ne _ (by decide) (by decide))
      (slotVer_ne _ (by decide) (by decide))).trans hver
  · exact (u.loadRefuse_reg bulk 8 (by decide) (by decide) (by decide)).trans hfail

theorem Dev.imageCmd_moves (h : d.imageOf (flashBox d.flashNow d.otherSlot) = .ok b) (hok : d.sectionsOk b = true) : let t := d.imageCmd 1
    (t.reg Obj.NEXT_SLOT = d.otherSlot.val ∧ t.reg (slotVer d.otherSlot) = b.version ∧
      t.power = { d.power with flash := some (flashActivate d.flashNow d.otherSlot (flashBox d.flashNow 0).length
        (flashBox d.flashNow 1).length), dirActive := d.otherSlot.val }) ∧ t.dict.abort = 0 := by
  intro t
  have heq : t = _ := d.imageCmd_ok h hok
  obtain ⟨hpower, hnext, hver⟩ := d.accept.noteSlot_activates d.otherSlot d.flashNow b.version (flashBox d.flashNow 0).length
    (flashBox d.flashNow 1).length
  have habort := d.accept_abort
  have hpower' := d.accept_power
  clear_value t
  rw [heq]
  generalize d.accept = u at hpower hnext hver habort hpower' ⊢
  exact ⟨⟨hnext, hver, hpower.trans (by rw [hpower'])⟩, habort⟩

theorem Dev.imageCmd_refuses (h : d.imageOf (flashBox d.flashNow d.otherSlot) = .ok b) (hbad : d.sectionsOk b = false) :
    (d.imageCmd 1).power = d.power ∧ (d.imageCmd 1).dict.abort = 0x08000022 := by
  rw [d.imageCmd_bad h hbad]
  exact ⟨Dev.refuse_power .., congrArg Dict.abort (Dev.refuse_dict ..)⟩

theorem Dev.imageCmd_notes (h : d.imageOf (flashBox d.flashNow d.otherSlot) = .error c) : let t := d.imageCmd 1
    (t.power = d.power ∧ t.reg (slotVer d.otherSlot) = 0 ∧ t.reg Obj.IMAGE_FAIL = c * 256 + d.otherSlot.val) ∧
      t.dict.abort = 0x08000022 := by
  intro t
  have heq : t = _ := d.imageCmd_error h
  obtain ⟨hver, hfail⟩ := d.noteSlot_refused d.otherSlot c
  obtain ⟨-, hpower, -, -⟩ := d.noteSlot_stays d.otherSlot (.error c)
  clear_value t
  rw [heq]
  generalize d.noteSlot d.otherSlot (.error c) = u at hver hfail hpower ⊢
  exact ⟨⟨(Dev.refuse_power ..).trans hpower, (u.refuse_reg _ _ (slotVer_ne _ (by decide) (by decide))).trans hver,
    (u.refuse_reg _ _ (by decide)).trans hfail⟩, congrArg Dict.abort (Dev.refuse_dict ..)⟩
end

end Sys2Proof.Machine

namespace Sys2Proof
open Machine

/-- Settles O59: QUIET by `Dev.quietEntered_goes` and `Dev.powerNow_parked`, the reboot by `Dev.reboot_reboots`, self-tests by
`Dev.testReady_shows` and, where one fails, `Dev.settleFaults_f3`, images by the cases of `Dev.imageUpdated` and `Dev.imageCmd`. -/
theorem quietRebootSelfTestAndImages : Obligations.QuietRebootSelfTestAndImages := by
  intro s v mask st result bulk readBack x b c cmd hlive hcalm d p keeps refused testing other f ver got e moved notes
  have refuses : ∀ {op : Instr} {o a : Nat}, exec op s = .next (s.atCommit (s.dev.refuse o a)) → refused op a := fun he =>
    ⟨_, he, congrArg Dict.abort (Dev.refuse_dict ..), Dev.refuse_power .., Dev.refuse_stalls .., Dev.refuse_tick .., Dev.refuse_mem ..,
      congrArg Sec.trust (Dev.refuse_sec ..), rfl⟩
  have reboots : ∀ {v : BitVec 32} {u : Dev}, s.dev.reboot v.toNat = u → exec (.rebootCmd v) s = .next (s.atCommit u) := fun {v u} hu =>
    next_at hlive (show execRebootCmd v s = _ from rfl) hu
  have hquiet : exec .quietEnter s = liveAt s fun d => (d.writeQuiet 1).settleFaults := rfl
  refine ⟨?_, ?_, ?_, ?_, ?_, ?_, ?_, ?_, ?_, ?_, ?_, ?_, ?_, ?_, ?_, ?_, ?_, ?_, ?_⟩
  · intro hparked htest hsys
    have hg := (s.dev.quietEntered_goes).settles hcalm
    refine ⟨_, next_at hlive hquiet (congrArg Dev.settleFaults (s.dev.writeQuiet_accepted hparked htest hsys)), ?_⟩
    exact ⟨hg.request, hg.analog, hg.up, hg.state, hg.abort, hg.force, hg.tick, hg.mem, hg.trust, rfl⟩
  · intro h
    obtain ⟨habort, hreq, hup, hchans, hmem, htrust⟩ := s.dev.quietRefused_stays hcalm
    exact ⟨_, next_at hlive hquiet (congrArg Dev.settleFaults (s.dev.writeQuiet_refused h)), habort, hreq, hup, hchans, hmem, htrust, rfl⟩
  · intro hq
    refine ⟨_, next_at hlive (show execQuietExit s = _ from rfl) (s.dev.writeQuiet_over hq), ?_, s.dev.accept_abort, s.dev.accept_power,
      s.dev.accept_chans, s.dev.accept_mem, congrArg Sec.trust s.dev.accept_sec, rfl⟩
    exact (Dev.reg_setReg_eq s.dev.accept ..).trans (if_pos rfl)
  · intro hq
    exact ⟨_, next_at hlive (show execQuietExit s = _ from rfl) (s.dev.writeQuiet_idle hq), rfl⟩
  · intro hq hreq hparked
    refine ⟨_, next_at hlive (u := s.dev.analogBack) (show execAnalogPowerUpDone s = _ from rfl) (if_pos ?_), ?_,
      s.dev.analogBack_power hreq hparked, rfl, rfl, rfl, rfl⟩
    · have hq' : s.dev.power.state = .quiet := hq
      have hreq' : s.dev.reg Obj.QUIET_REQ = 0 := hreq
      simp [hq', hreq']
    · exact (Dev.reg_setReg_eq s.dev ..).trans (if_pos rfl)
  · intro hq
    exact ⟨_, next_at hlive (u := s.dev) (show execAnalogPowerUpDone s = _ from rfl) (if_neg (by
      have hq' : s.dev.power.state ≠ .quiet := hq
      simp [hq'])), rfl⟩
  · intro hv
    refine refuses (reboots (if_pos fun hn => hv (BitVec.eq_of_toNat_eq hn)))
  · intro h h'
    exact refuses (reboots (s.dev.reboot_refused (.inr (.inl ⟨h, h'⟩))))
  · intro h
    exact refuses (reboots (s.dev.reboot_refused (h.imp_right .inr)))
  · intro hstate hdebug hbusy hclaims hwaits hretains hsys
    have h := s.dev.reboot_reboots hstate hdebug hbusy hclaims hwaits hretains hsys
    exact ⟨_, reboots rfl, h.state, h.phase, h.released, h.marker, h.strap, h.cause, h.link, h.bus, h.esm, h.locks, h.trust, h.sess, h.debug,
      h.entries, h.records, h.up⟩
  · intro hq htest hparked
    have hb := s.dev.testBegun_begins mask.toNat htest
    exact ⟨_, next_at hlive (show execSelftestCmd mask s = _ from rfl) (s.dev.selfTest_begins mask.toNat hq htest hparked), hb.under, hb.tick,
      hb.abort, hb.chans, hb.regs, hb.mem, hb.trust, rfl⟩
  · intro h
    exact refuses (next_at hlive (show execSelftestCmd mask s = _ from rfl) (s.dev.selfTest_refused mask.toNat h))
  · intro h hz
    have hc := s.dev.testReady_calm st false result.toNat hcalm
    have hshows := (s.dev.testReady_shows st false result.toNat).kept (.settleFaults _)
    exact ⟨_, exec_selftestDone_pass hlive h hz, hshows.ended, hshows.pass, hshows.result, hshows.tick, Dev.settleFaults_chans _ hc,
      Dev.settleFaults_mem _ hc⟩
  · intro h hz hactive _ _
    obtain ⟨hshows, hf3, htick⟩ := s.dev.testFailed_latches st result.toNat ⟨0x0B06, 3, .stall, st.val, result.toNat, s.dev.tick, 0⟩ hcalm
      hactive rfl rfl
    exact ⟨_, exec_selftestDone_fail hlive h hz, hshows.ended, hshows.pass, hshows.result, hshows.failed rfl, hf3, htick⟩
  · intro h
    exact ⟨_, next_at hlive (u := s.dev) (show execSelftestDone st result s = _ from rfl) (if_pos (by
      have h' : (s.dev.st st).underTest = false := h
      simp [h'])), rfl⟩
  · intro h
    obtain ⟨hstays, hstate⟩ := (s.dev.updateOver x).imageUpdated_stays x bulk readBack
    refine ⟨_, exec_imageUpdate hlive h readBack, hstate.trans ((Dev.reg_setReg_eq (s.dev.dropPassed x) ..).trans (if_pos rfl)),
      (congrArg Sec.passed hstays.sec :), hstays.chans, hstays.tick, ⟨hstays.mem, (congrArg Sec.trust hstays.sec :), rfl⟩,
      fun hb => ⟨fun hok hread => ?_, fun hbad => ?_⟩, fun hc => ?_⟩
    · subst hread
      exact (s.dev.updateOver x).imageUpdated_moves x bulk hb hok
    · exact (s.dev.updateOver x).imageUpdated_refuses x bulk readBack hb hbad
    · exact (s.dev.updateOver x).imageUpdated_notes x bulk readBack hc
  · intro h
    exact ⟨_, next_at hlive (u := s.dev) (show execImageUpdate bulk readBack s = _ from rfl) (by
      rw [Dev.takePassed_eq, show s.dev.firstPassed 5 bulk = none from h]
      rfl), rfl⟩
  · have hstays := s.dev.imageCmd_stays
    refine ⟨_, next_at hlive (show execImageCmd 1 s = _ from rfl) rfl, hstays.chans, hstays.tick, ⟨hstays.mem, (congrArg Sec.trust hstays.sec :), rfl⟩,
      fun hb => ⟨fun hok => ?_, fun hbad => ?_⟩, fun hc => ?_⟩
    · exact s.dev.imageCmd_moves hb hok
    · exact s.dev.imageCmd_refuses hb hbad
    · exact s.dev.imageCmd_notes hc
  · intro hcmd
    exact refuses (next_at hlive (show execImageCmd cmd s = _ from rfl) (if_pos fun hn => hcmd (BitVec.eq_of_toNat_eq hn)))
end Sys2Proof
end
